-- ==== Sys2Proof/Word.lean ====
section
/-!
DEFINITION. Sys2Proof/Word.lean: the machine's words.

Registers are 32-bit words (R359, R366); data memories of the engines are bytes. Instants, durations, counts, indices and
bounds are natural numbers and integers: the spec computes them exactly and narrows them where a field takes them.
-/

namespace Sys2Proof

/-- One 32-bit register word. -/
abbrev Word := BitVec 32

/-- One byte. -/
abbrev Byte := BitVec 8

end Sys2Proof
end

