-- ==== Sys2Proof/Types.lean ====
section
/-!
DEFINITION. Sys2Proof/Types.lean: the data that commands carry in and that the state's queues hold: records, descriptors,
scheduler entries, frames, key blobs and images, in the spec's own terms.
-/

namespace Sys2Proof

/-- The orderable parts (R2). -/
inductive Part where
  | a960ib
  | a960eb
  | a932ib
  deriving DecidableEq, Repr

/-- SPR-A932: four ports, fourteen engines, no media ports (R2, R4). -/
def Part.small : Part → Bool
  | .a960ib => false
  | .a960eb => false
  | .a932ib => true

/-- An event record before it is written to a ring (R376): everything but PHASE and SEQ. -/
structure EvRec where
  typ : Nat
  tenant : Nat
  short : Nat
  frac : Nat
  prov : Bool
  coalesced : Bool
  summary : Bool
  count : Nat
  payload : Nat
  deriving DecidableEq, Repr

/-- A trace record (R450). -/
structure TrcRec where
  ttype : Nat
  prov : Bool
  standby : Bool
  src : Nat
  devid : Nat
  tseq : Nat
  short : Nat
  frac : Nat
  payload : Nat
  deriving DecidableEq, Repr

/-- A command descriptor as fetched from host memory (R371): args is the argument area, little-endian. -/
structure Desc where
  opcode : Nat
  flags : Nat
  rsv3 : Nat
  tag : Nat
  rsv8 : Nat
  args : Nat
  deriving DecidableEq, Repr

/-- A scheduler entry (R228). -/
structure SchEnt where
  epoch : Nat
  frac : Nat
  policy : Nat
  abs : Bool
  align : Bool
  locked : Bool
  action : Nat
  owner : Nat
  period : Nat
  arg : Nat
  deriving DecidableEq, Repr

/-- A leap-second table entry (R54). -/
structure LeapEnt where
  mjd : Nat
  neg : Bool
  offset : Int
  deriving DecidableEq, Repr

/-- What a channel's NCOs hold at a latch instant: code phase, carrier phase, Doppler, code periods since lock (R118). -/
structure GnsCap where
  ch : Nat
  codePh : Nat
  carrPh : Int
  doppler : Int
  codeCnt : Nat
  deriving DecidableEq, Repr

/-- A satellite of an epoch as the solution's program sees it (R121, R137): system (0 GPS, 1 Galileo, 2 BeiDou, 3 GLONASS), SVID,
and the L1 ionospheric delay from its two bands in mm, where it has both. -/
structure GnsSat where
  sys : Nat
  svid : Nat
  iono : Int
  deriving DecidableEq, Repr

/-- What the timing solution's program computes at an epoch (R121, R137): its satellites; each system's time with its inter-system
offset applied, ps; the normalised residuals of each fit in turn, (system, SVID, 2^-8); the fit's time at T in the scale of one
system, 2^-16 ns since 1970, and that system; the band of a single-frequency solution, its residual in ps, the position estimate
with its formal uncertainty, the systems' offsets and the formal uncertainties of estimated ones. -/
structure GnsFix where
  sats : List GnsSat
  sysTime : List (Nat × Int)
  fits : List (List (Nat × Nat × Nat))
  scale : Nat
  time : Int
  band : Nat
  resid : Nat
  pos : Int × Int × Int
  posUnc : Nat
  isb : Int × Int × Int
  isbUnc : Nat × Nat × Nat
  deriving DecidableEq, Repr

/-! ## Messages of Hallmark (R198, R279, R283 to R292) -/

/-- The bound field (R198): TYPE, LENGTH, VERSION, FLAGS, SRC_TAG, BOUND, SCALE, DEVID; its last two bytes are 0. -/
structure BoundFld where
  typ : Nat
  len : Nat
  version : Nat
  flags : Nat
  tag : Nat
  bound : Nat
  scale : Nat
  devid : Nat
  deriving DecidableEq, Repr

/-- An NTP or NTS response (R283, R285), mode 4. For NTS: the echoed Unique Identifier (length, value), the sealed cookies, and the
authenticator (nonce, what the AEAD gives); timestamps are 64-bit NTP timestamps. -/
structure NtpResp where
  li : Nat
  vn : Nat
  stratum : Nat
  poll : Nat
  precision : Int
  rootDelay : Nat
  rootDisp : Nat
  refid : Nat
  refTs : Nat
  origin : Nat
  recv : Nat
  xmit : Nat
  uid : Option (Nat × Nat)
  bound : Option BoundFld
  cookies : List Nat
  auth : Option (Nat × Nat)
  deriving DecidableEq, Repr

/-- The dataset values of an Announce (R289); grandmasterIdentity is the message's clockIdentity, ptpTimescale is TRUE. -/
structure AnnBody where
  prio1 : Nat
  prio2 : Nat
  cls : Nat
  acc : Nat
  variance : Nat
  source : Nat
  utcOff : Int
  utcValid : Bool
  leap61 : Bool
  leap59 : Bool
  timeTr : Bool
  freqTr : Bool
  steps : Nat
  deriving DecidableEq, Repr

/-- A unicast TLV (R292): kind 0 request, 1 cancel, 2 grant, 3 acknowledge cancel; message type 0xB Announce, 0 Sync,
9 Delay_Resp; logInterMessagePeriod; duration in s. -/
structure UniTlv where
  kind : Nat
  msg : Nat
  period : Int
  dur : Nat
  deriving DecidableEq, Repr

/-- The AUTHENTICATION TLV of a message (R291), tlvType 0x8009: lengthField, SPP, secParamIndicator, keyID, ICV. -/
structure AuthTlv where
  len : Nat
  spp : Nat
  ind : Nat
  keyId : Nat
  icv : Nat
  deriving DecidableEq, Repr

/-- A PTP message that Hallmark sends (R274, R289 to R292): message type, master identity, sequenceId, correctionField in
2^-16 ns, timestamp seconds and ns, the client's port identity for an answer. -/
structure PtpMsg where
  typ : Nat
  domain : Nat
  clockId : Nat
  portNo : Nat
  seq : Nat
  corr : Int
  sec : Nat
  ns : Nat
  client : Option Nat
  ann : Option AnnBody
  tlvs : List UniTlv
  /-- The L1_SYNC TLV with TCR, RCR and CR FALSE (R275). -/
  l1sync : Bool
  bound : Option BoundFld
  auth : Option AuthTlv
  deriving DecidableEq, Repr

/-- What a frame carries: frame bytes, byte 0 lowest; or a message of Hallmark, an NTS NAK by itself; or a loop frame (R269): DEVID, run, sequence. -/
inductive Body where
  | raw (bytes : Nat)
  | ntp (r : NtpResp)
  | nak (r : NtpResp)
  | ptp (m : PtpMsg)
  | loop (devid run seq : Nat)
  deriving DecidableEq, Repr

/-- The NTS fields of a request (R284): lengths of its Unique Identifier bodies and the value of the first, number of
cookies, length of the cookie, lengths of its placeholders, whether the Authenticator stands last and once, bytes of
extension fields; then what the cryptography finds: the cookie's KEY_ID, whether its tag verifies under that key, the TENANT
and AEAD inside, C2S and S2C, and whether the Authenticator verifies under C2S. -/
structure NtsReq where
  uids : List Nat
  uid : Nat
  cookies : Nat
  cookieLen : Nat
  placeholders : List Nat
  authLast : Bool
  extLen : Nat
  keyId : Nat
  tagOk : Bool
  tenant : Nat
  aead : Nat
  c2s : Nat
  s2c : Nat
  authOk : Bool
  deriving DecidableEq, Repr

/-- The AUTHENTICATION TLV of a received message: SPP, secParamIndicator, keyID, and whether its ICV is that of the key. -/
structure PtpAuth where
  spp : Nat
  ind : Nat
  keyId : Nat
  icvOk : Bool
  deriving DecidableEq, Repr

/-- What a request says. -/
inductive ReqBody where
  | ntp (mode version poll xmit : Nat) (nts : Option NtsReq)
  | ptp (version typ domain seq : Nat) (corr : Int) (client : Nat) (tlvs : List UniTlv) (auth : Option PtpAuth)
  deriving DecidableEq, Repr

/-- A DRAM read in error (R394): its class 1 CE_DATA, 2 CHECK_ONLY or 3 UE, channel A or B, byte address, syndrome. -/
structure DramErr where
  cls : Nat
  chB : Bool
  addr : Nat
  syn : Nat
  deriving DecidableEq, Repr

/-- A classified request as Hallmark reads it: transport 0 IPv4, 1 IPv6, 2 IEEE 802.3; VLAN (0 untagged); destination and
source addresses in the form of R276; whether the client entry misses the on-die cache, and what its DRAM read has in error. -/
structure ReqMsg where
  kind : Nat
  vlan : Nat
  dst : Nat
  src : Nat
  miss : Bool
  ue : Option DramErr
  body : ReqBody
  deriving DecidableEq, Repr

/-- A tenant address entry as read from DRAM (R276). -/
structure TatEnt where
  addr : Nat
  vlan : Nat
  any : Bool
  kind : Nat
  valid : Bool
  tenant : Nat
  ports : Nat
  deriving DecidableEq, Repr

/-! ## Key vault (R308, R312) -/

/-- A key blob as the vault finds it (R308): its fields, whether a reserved field is set, and what opening it gives: whether
TAG verifies under KEK_t, the DEV_ID inside and the key. -/
structure KeyBlob where
  magic : Nat
  version : Nat
  rsv : Nat
  epoch : Nat
  tenant : Nat
  cls : Nat
  usage : Nat
  keyId : Nat
  notBefore : Nat
  notAfter : Nat
  tagOk : Bool
  devId : Nat
  key : Nat
  deriving DecidableEq, Repr

/-- A policy: blob bytes 56 to 103 (R312). -/
structure Policy where
  tenant : Nat
  cls : Nat
  usage : Nat
  keyId : Nat
  notBefore : Nat
  notAfter : Nat
  rsv : Nat
  deriving DecidableEq, Repr

/-- The payload of an update message by TYPE, with what its ciphertext opens to (none where its tag fails). -/
inductive UpdPay where
  | keyImport (p : Policy) (key : Option Nat) (keyLen : Nat)
  | keyGenerate (p : Policy)
  | tenantEpoch (tenant rsv epoch : Nat)
  | setUpdateKey (key : Option Nat)
  | setAttest (key : Option Nat)
  | setImageKey (point : Nat)
  | tamperCfg (w0 w1 : Nat)
  | deprovision
  /-- Whether the ephemeral point lies on the curve, and UPDATE_KEY and ATTEST where the tag verifies; IMAGE_KEY. -/
  | provision (onCurve : Bool) (secrets : Option (Nat × Nat)) (imageKey : Nat)
  /-- Any other TYPE. -/
  | other (typ : Nat)
  deriving DecidableEq, Repr

/-- An update message as the vault finds it (R312): header fields, LENGTH among them, the digest of the whole, whether the MAC
verifies under the update MAC key. -/
structure UpdMsg where
  magic : Nat
  version : Nat
  len : Nat
  rsv : Nat
  devId : Nat
  counter : Nat
  digest : Nat
  macOk : Bool
  pay : UpdPay
  deriving DecidableEq, Repr

/-! ## The structure image (R321 to R324) -/

/-- A program of a PROG section: engine, instruction words, data-memory bytes, ENTRY, IMEM_LEN, BUDGET, reserved bits. -/
structure ProgIn where
  engine : Nat
  words : List Nat
  data : List Nat
  entry : Nat
  imemLen : Nat
  budget : Nat
  rsv : Nat
  deriving DecidableEq, Repr

/-- A row of a TENANTS section: tenant, function, port mask, client-entry, key-slot and scheduler-entry quotas. -/
structure TenRow where
  tenant : Nat
  fn : Nat
  ports : Nat
  clients : Nat
  slots : Nat
  scheds : Nat
  deriving DecidableEq, Repr

/-- A row of a PORT_PROFILE section: port, LC_PER, hash buckets set, TX_LAT and RX_LAT, and the TSK_TEB_PORT default. -/
structure PortRow where
  port : Nat
  lcPer : Nat
  buckets : List Nat
  txLat : Int
  rxLat : Int
  teb : Nat
  deriving DecidableEq, Repr

/-- What a sample input's receiver measured over a millisecond (R106): its rate in kHz, and raw samples (R105). -/
structure GsiMs where
  khz : Nat
  raw : List (Nat × Nat)
  deriving DecidableEq, Repr

/-- What a dwell of the serial search found (R114): the largest peak-to-mean ratio in 0.5 dB units, and the FCN of an L1OF satellite. -/
structure Dwell where
  ratio : Nat
  fcn : Int
  deriving DecidableEq, Repr

/-- A window of the aided engine (R112): the passes it needs, how long ago it began in ns, and whether the ephemeris or almanac it
draws on is valid. -/
structure AidWin where
  passes : Nat
  dur : Nat
  eph : Bool
  deriving DecidableEq, Repr

/-- An AES3 block of 192 two-channel frames with 24-bit audio slots (R222, R224, R227): the 24 bytes of channel status, byte 0 lowest,
whose bit 0 tells professional from consumer; user data; the audio if the port makes it, none where it passes on what it receives;
the V bit. Subframe 1 of frame 0 has the Z preamble, subframe 1 of the others X, subframe 2 Y. -/
structure AesBlk where
  status : Nat
  user : Nat
  audio : Option Nat
  v : Bool
  deriving DecidableEq, Repr

/-- The payload of a section by TYPE. -/
inductive SectPay where
  | empty
  /-- TIC channel to source (63 none), sources each Burnisher may use as bit masks, (APORT, clock). -/
  | xbar (src burn aport : List (Nat × Nat))
  /-- Declared OSCIN frequency in Hz, bypass clock choice and BYPCLK's nominal frequency in kHz, permitted SRC masks of each Burnisher. -/
  | synPlan (oscin byp bypKhz : Nat) (burn : List (Nat × Nat))
  /-- (Output 0 to 23 or media port 24 to 27, permitted Burnishers as a mask), and the pair-shared outputs as a mask. -/
  | outMap (burn : List (Nat × Nat)) (paired : Nat)
  | prog (p : ProgIn)
  | vaultProg (sigOk : Bool)
  | tenants (rows : List TenRow)
  /-- Capacity in entries, and the quota of each tenant. -/
  | clientLayout (capacity : Nat) (quota : List (Nat × Nat))
  | portProfile (rows : List PortRow)
  /-- Classes (A, B, C), class of clocks 1 to 7, FROZEN and MODELLED class of clock 0. -/
  | holdover (classes : List (Nat × Nat × Nat)) (clk : List Nat) (frozen modelled : Nat)
  | schedLocked (ents : List (Nat × SchEnt))
  /-- (block prefix index, offset, value). -/
  | regDefaults (l : List (Nat × Nat × Nat))
  /-- (window of the block, group), as a whole block moves (R364). -/
  | updGroups (l : List (Nat × Nat))
  /-- A payload that does not follow its TYPE's layout, or a reserved TYPE. -/
  | malformed
  deriving DecidableEq, Repr

/-- A section (R322). -/
structure Section where
  typ : Nat
  region : Nat
  rsv : Nat
  gen : Nat
  crcOk : Bool
  pay : SectPay
  deriving DecidableEq, Repr

/-- An image as the loader finds it (R321 to R323): header fields, whether a reserved header field is set, header CRC,
whether the sections end where they must, the sections, the digest D, and whether the signature verifies under IMAGE_KEY
and under the factory image key. -/
structure Image where
  magic : Nat
  format : Nat
  family : Nat
  reqFeat : Nat
  generation : Nat
  totalLen : Nat
  partial_ : Bool
  rsv : Nat
  hdrCrcOk : Bool
  layoutOk : Bool
  sections : List Section
  digest : Nat
  sigOwner : Bool
  sigFactory : Bool
  deriving DecidableEq, Repr

/-! ## Ghefotha and Seam (R401, R414, R415, R436) -/

/-- A Ghefotha cell as received or sent (R401): payload bytes 8 to 59 with byte 8 lowest. -/
structure GCell where
  typ : Nat
  retry : Bool
  nak : Bool
  ackValid : Bool
  rsv : Nat
  seq : Nat
  ack : Nat
  src : Nat
  proto : Nat
  payload : Nat
  deriving DecidableEq, Repr

/-- A contention message of the Seam bus (R415): source, destination, BCAST, LEN, KIND, payload with byte 0 lowest. -/
structure SeamMsg where
  src : Nat
  dst : Nat
  bcast : Bool
  len : Nat
  kind : Nat
  payload : Nat
  deriving DecidableEq, Repr

end Sys2Proof
end

