-- ==== Sys2Proof/Syntax.lean ====
section
/-!
DEFINITION. Sys2Proof/Syntax.lean: the commands the block takes, one constructor for each row of spec/opcode_table.json, in
the table's order. The table gives its rows no operand bits; a command's operands here are what the event brings in from
outside the part, and which of several like units it happens at.
-/

namespace Sys2Proof

/-- A command: one step of spec/95_what_each_step_holds.md, whole and indivisible. -/
inductive Instr where
  /-- PORST_ASSERT (R461). Assertion of PORST_L resets every domain except PD_VBAT contents and fuses, and drives CLAIM_OUT to 0. -/
  | porstAssert
  /-- PORST_RISE (R461). The rising edge of PORST_L samples the straps, starts the OBS counters at 0 and begins the boot sequence. -/
  | porstRise (straps : Nat)
  /-- WARM_RESET (R462). WARMRST_L resets all blocks except the SPLL, time core, TEB, PD_VBAT, OBS counters and straps, and reruns boot from the image load with the kernel in FROZEN holdover. -/
  | warmReset
  /-- CLAIM_RESET_RELEASE (R426). 100 ns after a reset asserts, the pad ring releases CLAIM_OUT from 0 to high impedance. -/
  | claimResetRelease
  /-- PERST_RESET (R463). PERST_L or a PCIe hot reset resets PD_PCIE and the host interface only, and the data plane keeps serving. -/
  | perstReset
  /-- BROWNOUT (R459). A core supply dip or a sequence-domain power-good failure raises an internal power-on reset without resampling the straps. -/
  | brownout (pgFail : Bool)
  /-- PD_PG_FAIL (R457). A failed power good forces a software-switched domain off, latches SYS_PD_FAULT, writes PD_FAULT and asserts ALERT_L. -/
  | pdPgFail (d : Nat)
  /-- PD_POWER_GOOD (R456). A domain that was switched on reaches power good, and its logic leaves reset. -/
  | pdPowerGood (d : Nat)
  /-- PD_OFF_DONE (R456). A domain that was switched off completes isolation, after its drain in the case of PD_HMKB. -/
  | pdOffDone (d : Nat)
  /-- SPLL_LOCK (R202). The SPLL declares lock, and the time core starts at Epoch word 0 with PROVISIONAL set. -/
  | spllLock (us : Nat)
  /-- SPLL_LOSS_OF_LOCK (R203). The SPLL loses lock, sets SPLL_LOL and makes the published TEB unbounded from the next boundary. -/
  | spllLossOfLock
  /-- BOOT_IMAGE_LOADED (R466). The boot image read and its checks complete, the image goes live or the next copy or NO_IMAGE follows. -/
  | bootImageLoaded (readOk : Bool) (img : Image) (vaultOk : Bool)
  /-- DRAM_TRAINED (R466). DRAM training completes and the client region is cleared, or DRAM_FAIL is set. -/
  | dramTrained (okA okB : Bool)
  /-- BOOT_READY (R466). Clearing of the client region ends, and the boot reaches READY. -/
  | bootReady
  /-- EXTEST_LOAD (R469). Loading EXTEST puts the pins under scan, fires tamper source 8 and holds internal reset. -/
  | extestLoad (vbatSec : Nat) (temp : Int)
  /-- TAP_INSTRUCTION (R469). Loading SAMPLE/PRELOAD, IDCODE or BYPASS selects the scan register with no effect on the device. -/
  | tapInstruction (code : Nat)
  /-- TAMPER_FIRE (R316). An enabled tamper source fires, and the vault zeroizes, clears the key cache and becomes UNPROVISIONED. -/
  | tamperFire (sources : Nat) (temp : Int) (vbatSec : Nat) (mainOff : Bool)
  /-- TAMPER_LOG_COMMIT (R319). The tamper log entry commits, and a KVT_TAMPER record is written if main power is present. -/
  | tamperLogCommit (mainPower : Bool)
  /-- VBAT_RECORD_COMMIT (R313). An update message's VBAT record write commits, and then any blob goes to the host and the command completes. -/
  | vbatRecordCommit (hostOk : Bool) (vbatSec : Nat) (temp : Int)
  /-- KEY_EXPIRY (R311). At the first tick boundary past a cached key's NOT_AFTER, the vault evicts it and writes KVT_KEY_EXPIRED records. -/
  | keyExpiry (slot : Nat)
  /-- KVT_LOAD (R309). The vault checks a key blob and loads it into a key-cache slot. -/
  | kvtLoad (fn : Nat) (dmaOk : Bool) (b : KeyBlob)
  /-- KVT_EVICT (R310). The vault empties a key-cache slot. -/
  | kvtEvict (fn : Nat)
  /-- KVT_ATTEST (R315). The vault writes a MACed attestation response over a challenge, the device identity, digest and time. -/
  | kvtAttest (fn : Nat) (dmaOk : Bool) (challenge : Nat)
  /-- KEY_IMPORT (R312). An update message imports an encrypted working key and produces its blob. -/
  | keyImport (dmaOk : Bool) (m : UpdMsg)
  /-- KEY_GENERATE (R312). An update message draws a new cookie key and produces its blob. -/
  | keyGenerate (dmaOk : Bool) (m : UpdMsg)
  /-- TENANT_EPOCH (R312). An update message raises KEY_EPOCH(t) and evicts every slot of tenant t. -/
  | tenantEpoch (dmaOk : Bool) (m : UpdMsg)
  /-- SET_UPDATE_KEY (R312). An update message replaces UPDATE_KEY. -/
  | setUpdateKey (dmaOk : Bool) (m : UpdMsg)
  /-- SET_ATTEST (R312). An update message replaces the attestation secret. -/
  | setAttest (dmaOk : Bool) (m : UpdMsg)
  /-- SET_IMAGE_KEY (R312). An update message replaces IMAGE_KEY for the next image load. -/
  | setImageKey (dmaOk : Bool) (m : UpdMsg)
  /-- TAMPER_CFG (R312). An update message replaces the tamper configuration. -/
  | tamperCfg (dmaOk : Bool) (m : UpdMsg)
  /-- DEPROVISION (R312). An update message zeroizes the vault with tamper source OWNER. -/
  | deprovision (dmaOk : Bool) (m : UpdMsg)
  /-- PROVISION (R314). A PROVISION message opened with the fused key provisions the vault with a new ROOT and the owner's keys. -/
  | provision (dmaOk : Bool) (m : UpdMsg)
  /-- TLOG_ACK (R320). A KVT_TLOG_ACK write clears NEW on the named tamper log entries. -/
  | tlogAck (mask : Nat)
  /-- NOP (R372). A NOP command completes with OK. -/
  | nop (fn : Nat)
  /-- ETH_SEND (R265). The provider sends a host frame on a port, with an optional transmit-timestamp entry. -/
  | ethSend (dmaOk : Bool) (bytes : Nat)
  /-- HMK_MINT (R288). Hallmark seals NTS cookies for the host's NTS-KE server. -/
  | hmkMint (fn : Nat) (inOk : Bool) (c2s s2c took : Nat)
  /-- CLIENT_READ (R302). HMK_CLIENT READ writes one client entry to host memory. -/
  | clientRead (fn : Nat) (outOk : Bool)
  /-- CLIENT_BLOCK (R302). HMK_CLIENT BLOCK sets BLOCKED on a client entry, creating it if needed. -/
  | clientBlock (fn : Nat)
  /-- CLIENT_UNBLOCK (R302). HMK_CLIENT UNBLOCK clears BLOCKED on a client entry. -/
  | clientUnblock (fn : Nat)
  /-- CLIENT_DELETE (R302). HMK_CLIENT DELETE removes a client entry. -/
  | clientDelete (fn : Nat)
  /-- CMD_DOORBELL (R371). A CMD_TAIL write makes descriptors available on a command ring. -/
  | cmdDoorbell (fn tail : Nat)
  /-- CMD_FETCH (R374). The Acash fetches a descriptor, meters it, checks for a duplicate tag and starts it. -/
  | cmdFetch (fn : Nat) (d : Desc)
  /-- CMD_COMPLETION_WRITE (R373). A finished command's completion is written in submission order. -/
  | cmdCompletionWrite (fn : Nat)
  /-- EV_TAIL_WRITE (R376). Software writes EV_TAIL to consume event records. -/
  | evTailWrite (fn tail : Nat)
  /-- RING_CONFIG_WRITE (R371). A write of a HIF_RING configuration word enables or changes a command or event ring. -/
  | ringConfigWrite (fn word v : Nat)
  /-- EVENT_WRITE (R378). The writer takes a record from the staging FIFO and writes it to the ring, or discards it when the ring is full. -/
  | eventWrite (fn : Nat)
  /-- RING_OVERFLOW_RECORD (R378). When the ring has room and is enabled, one OVERFLOW record covering the discard run is written. -/
  | ringOverflowRecord (fn : Nat)
  /-- FIFO_OVERFLOW_RECORD (R377). When the staging FIFO has room again, an OVERFLOW record with cause FIFO_FULL enters first. -/
  | fifoOverflowRecord (fn : Nat)
  /-- EVENT_SUMMARY (R377). When the FIFO falls to 256, pending coalesced counts enter as summary records. -/
  | eventSummary (fn : Nat)
  /-- MSIX_EVENT_HOLDOFF_END (R382). The EV_MOD hold-off ends, and vector 0 is signalled if records are unconsumed. -/
  | msixEventHoldoffEnd (fn : Nat)
  /-- MSIX_TIC_STREAM_TIMEOUT (R382). 1 ms after an unsignalled streamed record, the channel's vector is signalled. -/
  | msixTicStreamTimeout (ch : Nat)
  /-- FEATURES_OK (R368). The Acash checks the accepted feature set and puts it in force or refuses it. -/
  | featuresOk
  /-- TEN_CTL_WRITE (R358). A change of TEN_CTL(t).EN enables or disables a tenant function, with the flushes and deletions that follow. -/
  | tenCtlWrite (t : Nat) (en : Bool)
  /-- BUS_MASTER_CLEAR (R495). Clearing Bus Master Enable discards unstarted descriptors and consumes their ring positions. -/
  | busMasterClear (fn : Nat)
  /-- BUS_MASTER_SET (R495). Setting Bus Master Enable resumes the ring at the first descriptor made available after the clear. -/
  | busMasterSet (fn : Nat)
  /-- FLR (R358). A Function Level Reset discards unstarted commands and resets the function's rings, snapshot and errors. -/
  | flr (fn : Nat)
  /-- VF_ENABLE_CLEAR (R358). A configuration write clearing VF Enable resets every VF as an FLR would and deletes tenant scheduler entries. -/
  | vfEnableClear
  /-- TENANT_RELEASE (R381). A TEN_QUENCH_RELEASE bit releases a quenched function at the next UPD0 strobe. -/
  | tenantRelease (n : Nat)
  /-- REG_WRITE (R361). A write to a register with no row of its own, through any alias and under its access code. -/
  | regWrite (fn off n v : Nat) (contig : Bool)
  /-- POSTED_WRITE_ACCEPT (R365). The slow domain accepts a posted write, and BUSY clears. -/
  | postedWriteAccept (win : Nat)
  /-- RC_READ (R17). A read of an RC register returns the value and clears it in the same access. -/
  | rcRead (fn off n : Nat)
  /-- SNAPSHOT_LATCH (R65). A read of TSK_SNAP_NS latches time, TEB, tag, tenant time and calendar into the function's snapshot. -/
  | snapshotLatch (fn n : Nat)
  /-- TIC_QWIN_READ (R92). A read of TIC_QWIN pops records from a channel queue. -/
  | ticQwinRead (ch off n : Nat)
  /-- TXTS_POP (R267). A 64-bit read of ETH_TXTS_POP removes the head transmit-timestamp entry and latches its fields. -/
  | txtsPop (p : Nat)
  /-- ENG_DM_READ (R362). A read of ENG_DM_DATA returns a data-memory word and advances the word address. -/
  | engDmRead (e : Nat)
  /-- TRACE_WIN_READ (R452). A read of OBS_TRC_WIN pops trace records from the DRAM ring at RDPTR. -/
  | traceWinRead (off n : Nat) (ues : List (Nat × DramErr))
  /-- COUNTER_READ (R445). A 64-bit read of a device or tenant counter latches it and sets the function's OBS_LAST_T. -/
  | counterRead (fn off : Nat)
  /-- UPD_STROBE (R27). A SYS_UPD_STROBE write makes every shadowed register of the named groups live in one cycle. -/
  | updStrobe (mask : Nat) (ues : List (Nat × DramErr))
  /-- OUTPUT_STOP (R214). An output stopped by a strobe halts at its next inactive edge and holds its inactive level. -/
  | outputStop (o : Nat)
  /-- STEP_ARM (R169). A strobe carrying ARM makes a step arm live or refuses it. -/
  | stepArm
  /-- STEP_DISARM (R169). A strobe carrying DISARM ends a live arm. -/
  | stepDisarm
  /-- ANNEAL_COMMAND (R167). A strobe carrying TSK_ANNEAL_CMD.GO starts an Anneal of AMOUNT or refuses it. -/
  | annealCommand
  /-- BURN_RELOCK (R208). A strobe carrying RELOCK sends a Burnisher into a new lock attempt. -/
  | burnRelock (b : Nat)
  /-- AES_REALIGN (R225). A strobe carrying REALIGN restarts a LEADER media port's transmitter. -/
  | aesRealign (m : Nat)
  /-- TAT_SWAP (R277). A strobe carrying SWAP makes the loaded tenant address bank live. -/
  | tatSwap
  /-- REF_CLEAR (R144). A strobe carrying CLEAR moves a reference to CANDIDATE with an empty log. -/
  | refClear
  /-- ENGINE_RELEASE (R352). A strobe carrying ENG_CTL.RELEASE restarts a quenched engine at ENTRY. -/
  | engineRelease (e : Nat) (ue : Option DramErr)
  /-- LINK_RELEASE (R393). A strobe carrying GFL_REL releases a quarantined link. -/
  | linkRelease (l : Nat)
  /-- SYNC_ARM (R217). A strobe carrying SYN_SYNC_CTL.ARM arms SYNCIN alignment. -/
  | syncArm
  /-- SYNC_DISARM (R217). A strobe carrying SYN_SYNC_CTL.DISARM ends a live SYNCIN arm. -/
  | syncDisarm
  /-- DATE_GO (R62). SYS_DATE_CTL.GO checks the date fields and sets PENDING or reports the failure. -/
  | dateGo (mark : Bool) (ch : Nat)
  /-- DATE_LOAD (R64). At the tick boundary after the mark, the accepted date is loaded if it lies after the provisional reading. -/
  | dateLoad
  /-- MARK_TIMEOUT (R63). No marking edge within 2 s ends the date set with MARK_TIMEOUT. -/
  | markTimeout
  /-- LEAP_COMMIT (R54). TSK_LEAP_CTL.COMMIT checks the staged leap table and queues it for the next strobe. -/
  | leapCommit
  /-- LEAP_EXPIRED (R56). The end of the UTC day in TSK_LEAP_EXPIRY sets LEAP_EXPIRED and raises UTC tenant terms to 1 s. -/
  | leapExpired
  /-- SCH_WRITE (R235). A scheduler WRITE operation checks and writes or replaces an entry. -/
  | schWrite (fn : Nat)
  /-- SCH_DELETE (R235). A scheduler DELETE operation checks and frees an entry. -/
  | schDelete (fn : Nat)
  /-- SCH_READ (R235). A scheduler READ operation copies an entry into SCH_STG. -/
  | schRead (fn : Nat)
  /-- SEARCH_START (R113). GNS_SRCH_CTL.START starts or restarts the serial search with cause TEST. -/
  | searchStart
  /-- SEARCH_ABORT (R113). GNS_SRCH_CTL.ABORT stops the serial search, and handed detections stay. -/
  | searchAbort
  /-- GFE_TRANSFER (R107). A posted GNS_GFE_CMD write with GO starts a front-end SPI transfer. -/
  | gfeTransfer (v : Nat)
  /-- GFE_TRANSFER_DONE (R107). The front-end SPI transfer completes, and BUSY clears with any received bits in GNS_GFE_DATA. -/
  | gfeTransferDone (rx : Nat)
  /-- LOOP_GO (R269). ETH_LOOP_CTL.GO starts a loop-calibration run or refuses it. -/
  | loopGo
  /-- LOOP_ABORT (R270). ETH_LOOP_CTL.ABORT aborts a running loop calibration. -/
  | loopAbort
  /-- LOOP_FRAME_LAUNCH (R269). Each microsecond during a run, both ports launch a loop frame. -/
  | loopFrameLaunch
  /-- LOOP_RUN_END (R269). All loop frames have arrived, results are reported and the ports return to UP. -/
  | loopRunEnd
  /-- LOOP_TIMEOUT (R270). Too few loop frames arrive within the limit, and the run aborts with TIMEOUT. -/
  | loopTimeout
  /-- TAT_LOAD (R277). HMK_TAT_LOAD.GO starts copying a tenant address table into the idle bank. -/
  | tatLoad (base count : Nat)
  /-- TAT_LOAD_DONE (R277). The tenant address table copy completes as LOADED or FAILED. -/
  | tatLoadDone (ents : List TatEnt) (ue : Option (Nat × DramErr))
  /-- IMAGE_PUSH (R328). STR_PUSH.GO starts loading an image from host memory. -/
  | imagePush (base len : Nat)
  /-- IMAGE_CHECK_DONE (R326). A pushed image finishes its checks, and it goes live, PENDING or STAGED, or is refused. -/
  | imageCheckDone (readOk : Bool) (img : Image) (vaultOk : Bool)
  /-- SEAM_SEND (R415). SEAM_TX_CTL.SEND queues SEAM_TX_DATA as one HOST contention message. -/
  | seamSend (dst : Nat) (bcast : Bool) (len : Nat)
  /-- SEAM_RX_ACK (R420). A SEAM_RX_ACK write frees the named receive buffers. -/
  | seamRxAck (mask : Nat)
  /-- OBS_SMP_CFG_WRITE (R448). A write of a sampling slot's CNT, N or EN sets or restarts its count. -/
  | obsSmpCfgWrite (j w v : Nat)
  /-- OBS_TRC_CFG_WRITE (R452). A trace configuration write enables or changes the DRAM ring and pins. -/
  | obsTrcCfgWrite (w v : Nat)
  /-- SCH_CONGESTED_LATE (R232). An occurrence not dispatched by its due cycle is handled under its late policy with cause CONGESTED. -/
  | schCongestedLate (id : Nat)
  /-- LATE_FIRE_DISPATCH (R241). A FIRE_LATE occurrence crossed by a jump is dispatched after the jump and acts late. -/
  | lateFireDispatch (caps : List GnsCap) (ue : Option DramErr) (ues : List (Nat × DramErr)) (conflict : Bool)
  /-- TICK (R36). The tick boundary: Assay evaluates, the kernel updates state, servo and bound, and the next tick begins. -/
  | tick (upsets : List (Nat × Int))
  /-- ENTRY_TIMER_END (R139). A CANDIDATE's entry time passes with no anomaly, and it moves to PROBATION. -/
  | entryTimerEnd (r : Nat)
  /-- PROBATION_END (R139). WIN seconds in PROBATION pass with no class at its limit, and the reference becomes QUALIFIED. -/
  | probationEnd (r : Nat)
  /-- HOLDOFF_END (R139). A DISQUALIFIED reference's hold-off passes with no anomaly, and it moves to PROBATION. -/
  | holdoffEnd (r : Nat)
  /-- SOURCE_FAULT_CLEAR (R146). A windowed source's FAULT clears after HOLDOFF without an anomaly. -/
  | sourceFaultClear (r : Nat)
  /-- LOSS_REPEAT (R145). An absent reference raises a further LOSS at each repetition period. -/
  | lossRepeat (r : Nat)
  /-- HELD_MEASUREMENT_TIMEOUT (R133). A held outlier with no successor within 2 s becomes one OUTLIER anomaly. -/
  | heldMeasurementTimeout (r : Nat)
  /-- ASY_MEASUREMENT (R136). Assay judges one measurement through the status gate, ToD, spoof, outlier and frequency checks. -/
  | asyMeasurement
  /-- ANNEAL_END (R166). The Anneal's remainder is applied, and it ends with a TSK_CORR record. -/
  | annealEnd
  /-- ARM_EXPIRY (R169). A live arm past its DEADLINE ends as EXPIRED with a TSK_CORR record. -/
  | armExpiry
  /-- HOLD_MODEL_UPDATE (R170). Engine 3 recomputes the MODELLED holdover frequency once per second. -/
  | holdModelUpdate
  /-- EFC_TRANSFER (R172). At each EFC PERIOD, engine 3 writes a new DAC code over EFC_SPI. -/
  | efcTransfer
  /-- TEMP_READ (R171). Engine 3 reads the temperature sensor for the holdover model. -/
  | tempRead (t : Option Int)
  /-- TC_LEARN_WRITE (R171). Engine 3 writes learned temperature coefficients, at most hourly. -/
  | tcLearnWrite (tc1 tc2 t0 : Int) (span hours : Nat)
  /-- MODEL_OK_SET (R170). MODEL_MIN hours unbroken in LOCKED set MODEL_OK. -/
  | modelOkSet
  /-- REF_EDGE (R86). A prescaled edge of a routed source is stamped by its TIC channel. -/
  | refEdge (src : Nat) (falling : Bool) (code : Nat)
  /-- TIC_RECORD_QUEUE (R89). The shared writer moves a record from a staging buffer into its queue or drops it on overflow. -/
  | ticRecordQueue (ch : Nat)
  /-- TIC_OVERFLOW_RECORD (R91). When 16 queue entries are free, one OVERFLOW record is written. -/
  | ticOverflowRecord (ch : Nat)
  /-- TIC_STREAM_WRITE (R93). A STREAM-mode channel writes a record into its host ring and advances HEAD. -/
  | ticStreamWrite (ch : Nat)
  /-- LOS_EXPIRY (R73). A REFIN loss timer expires, sets LOS and reports one LOSS anomaly. -/
  | losExpiry (n : Nat)
  /-- SYNCE_LOCK_CHANGE (R74). A port's PCS lock changes, and its SyncE source appears or is gated off. -/
  | synceLockChange (p : Nat) (lock : Bool)
  /-- UART_CHAR (R78). A UART receives a character, counting framing, parity or overrun errors. -/
  | uartChar (u c : Nat) (framing parity : Bool)
  /-- CHARS_DELIVER (R346). REF closes a CHARS cell and delivers it to engine 10. -/
  | charsDeliver (u : Nat)
  /-- APORT_STALE (R79). No valid status message for TMO seconds sets STALE and raises STATUS_ALARM. -/
  | aportStale (a : Nat)
  /-- APORT_ST_CELL (R79). REF applies an APORT_ST cell as a valid status message. -/
  | aportStCell
  /-- TOD_MSG_CELL (R81). REF checks a TOD_MSG record and pairs it with its PPS edge. -/
  | todMsgCell
  /-- CHECK_CELL (R347). REF counts a CHECK cell in REF_UART_STAT.CHECK. -/
  | checkCell
  /-- TOD_LOSS_TIMEOUT (R81). A ToD slot with no paired record for 2.5 s raises one LOSS. -/
  | todLossTimeout (k : Nat)
  /-- IRIG_FRAME (R85). The IRIG-B decoder completes a frame and forms a ToD record or counts CHECK. -/
  | irigFrame (n : Nat) (ok : Bool) (sec min hour doy : Nat) (year : Option Nat) (edge : Option Int)
  /-- TOD_OUT_REQ (R347). At an edge of its Class G output, REF issues TOD_OUT_REQ to engine 10. -/
  | todOutReq (k clk : Nat)
  /-- TOD_OUT_CELL (R347). REF takes a TOD_OUT message for sending, or drops it as TOD_LATE. -/
  | todOutCell
  /-- TODOUT_SEND (R347). At its send instant, REF sends a ToD message on TODOUT. -/
  | todoutSend (k : Nat)
  /-- PATH_WINDOW_END (R95). A path calibration window closes and its result is accepted, rejected or retried. -/
  | pathWindowEnd (ch : Nat) (sum : Int) (span : Bool)
  /-- PATH_RETRY (R95). A path calibration retry opens after activity was seen. -/
  | pathRetry (ch : Nat)
  /-- CDC_WINDOW_END (R96). A code-density window closes, and the width table is updated or the result rejected. -/
  | cdcWindowEnd (ch : Nat) (hist : List Nat)
  /-- CAL_AGE_EXPIRY (R98). A calibration's age exceeds its limit, making the channel stale. -/
  | calAgeExpiry (ch : Nat)
  /-- CAL_TEMP_DRIFT (R98). The TIC-bank temperature moves past its limit, making the channel stale. -/
  | calTempDrift (ch : Nat) (temp : Int)
  /-- GATE_LONG_CLOSE (R100). A gate still open after 10,000 s closes with LONG set. -/
  | gateLongClose (ch : Nat)
  /-- GSI_CLOCK_FAULT (R106). A sample clock off rate or absent sends every channel of its input to LOST. -/
  | gsiClockFault (k : Nat) (rate : Bool) (ms : GsiMs)
  /-- GSI_CLOCK_RECOVER (R106). After 10 ms clear, a sample input returns to use. -/
  | gsiClockRecover (k : Nat) (ms : GsiMs)
  /-- ANT_SAMPLE (R108). An antenna sensor sample is classified and may confirm a removal or attach. -/
  | antSample (a current : Nat)
  /-- GNS_INTEGRATION (R111). At a channel's integration boundary, tracking updates and state changes take effect. -/
  | gnsIntegration (c : Nat) (code carr bit half slip : Bool) (cn0 : Nat)
  /-- PULL_LOCK_HELD (R111). Code and carrier lock held for 100 ms move a channel from PULL to TRACK. -/
  | pullLockHeld (c : Nat)
  /-- PULL_TIMEOUT (R111). No lock within PULL_MS returns a channel to ACQ. -/
  | pullTimeout (c : Nat)
  /-- CN0_LOSS_TIMEOUT (R111). C/N0 below CN0_LOSS for 200 ms moves a channel from TRACK to LOST. -/
  | cn0LossTimeout (c : Nat)
  /-- COAST_TIMEOUT (R111). COAST_S elapsed in LOST returns a channel to ACQ. -/
  | coastTimeout (c : Nat)
  /-- SEARCH_DWELL (R114). A serial-search dwell ends, checking detections and handing them to channels. -/
  | searchDwell (d : Dwell)
  /-- AIDED_DWELL (R112). An aided-engine dwell over 8,192 cells ends and hands detections to channels. -/
  | aidedDwell (g : Nat) (win : AidWin) (second : Bool) (dets : List (Nat × Nat × Int))
  /-- SEARCH_SETTLE_END (R115). SETTLE after an attach ends, and the search restarts. -/
  | searchSettleEnd
  /-- ALL_LOST_TIMEOUT (R113). All channels out of TRACK for ALL_LOST_S start the serial search. -/
  | allLostTimeout
  /-- SOLUTION_COMPUTE (R121). The solution program computes OFFSET and CLAIM from the latched records and hands them to Assay. -/
  | solutionCompute (f : GnsFix)
  /-- INGOT_COPY (R436). The active unit sends the Ingot for the tick just ended. -/
  | ingotCopy (id : Nat) (ue : Option DramErr)
  /-- SEAM_FRAME (R413). A Seam frame begins, with station reports in slots and a contention window. -/
  | seamFrame (id : Nat) (conflict : Bool)
  /-- LAUNCH_CYCLE (R251). A port's launch cycle begins, with a new reservation share. -/
  | launchCycle (id : Nat)
  /-- GOUT_EDGE (R220). A Class G output makes its scheduled active, inactive or pulse edge. -/
  | goutEdge (id : Nat)
  /-- TIC_GATE_START (R100). A scheduled gate start opens a regression gate, closing any open one. -/
  | ticGateStart (id : Nat)
  /-- TIC_GATE_STOP (R100). A scheduled gate stop closes the open gate. -/
  | ticGateStop (id : Nat)
  /-- CAL_WINDOW_PATH (R95). A path calibration window opens and injects pulses. -/
  | calWindowPath (id : Nat)
  /-- CAL_WINDOW_CDC (R96). A code-density window opens on the ring oscillator. -/
  | calWindowCdc (id : Nat)
  /-- STROBE (R231). A scheduled STROBE switches the named update groups. -/
  | strobe (id also : Nat) (ues : List (Nat × DramErr))
  /-- GEN_SWITCH (R330). A GEN_SWITCH occurrence makes a staged region's generation live or reports why not. -/
  | genSwitch (id : Nat) (ue : Option DramErr)
  /-- KEY_ROTATE (R287). A KEY_ROTATE occurrence rotates a tenant's key class and writes HMK_ROTATE records. -/
  | keyRotate (id : Nat)
  /-- SWAP_DRILL (R440). A SWAP_DRILL occurrence starts a swap drill on the active unit. -/
  | swapDrill (id : Nat)
  /-- GNSS_EPOCH (R117). All tracking channels latch their measurements at the epoch. -/
  | gnssEpoch (id : Nat) (caps : List GnsCap)
  /-- PLANISH_WAKE (R340). A PLANISH_WAKE occurrence queues a wake with its code for an engine. -/
  | planishWake (id : Nat)
  /-- GFL_TIME (R405). At a multiple of TT_PER ms, the link launches a TIME cell. -/
  | gflTime (id : Nat)
  /-- GNSS_BURST (R125). Dormant tracking's burst starts or ends on the millisecond grid. -/
  | gnssBurst (id : Nat)
  /-- BURN_SEARCH_DONE (R207). A Burnisher lock attempt finds a band, or fails with PLAN_ERR or REF_ABSENT. -/
  | burnSearchDone (b : Nat) (pfd : Option Nat) (band : Nat)
  /-- BURN_LOCK_DECLARED (R208). Phase error within LOCK_THR for 64 cycles declares a Burnisher LOCKED. -/
  | burnLockDeclared (b : Nat) (err : Int)
  /-- BURN_ACQ_TIMEOUT (R208). No lock within 100 ms sends the Burnisher to BYPASS. -/
  | burnAcqTimeout (b : Nat)
  /-- BURN_REF_LOST (R208). No reference edge for 4 PFD periods sends the Burnisher to BYPASS. -/
  | burnRefLost (b : Nat)
  /-- BURN_LOCK_LOST (R208). Phase error beyond UNLOCK_THR for 16 cycles sends the Burnisher to BYPASS. -/
  | burnLockLost (b : Nat) (err : Int)
  /-- BURN_SOURCE_RETURN (R209). The source is present again at least 1 s after BYPASS, and a new search starts. -/
  | burnSourceReturn (b : Nat)
  /-- BYPASS_CLOCK_LOST (R210). Loss of the bypass clock holds outputs inactive and sets BYP_LOS. -/
  | bypassClockLost
  /-- OUTPUT_RETURN (R211). After 10 ms locked, a BYPASS output restarts on the whole second. -/
  | outputReturn (o : Nat)
  /-- SYNCIN_EDGE (R217). A qualified SYNCIN edge resets the masked outputs' dividers if armed, or counts IGNORED. -/
  | syncinEdge
  /-- PULSE_END (R220). WIDTH ns after its active edge, a pulse ends with its inactive edge. -/
  | pulseEnd (g : Nat)
  /-- TIMECODE_ELEMENT (R220). A TIMECODE output sends an IRIG-B element on a 10 ms boundary. -/
  | timecodeElement (g : Nat)
  /-- AES_RX_Z_PREAMBLE (R226). A received Z preamble is stamped, and non-audio status is tracked. -/
  | aesRxZPreamble (m status : Nat) (ppb : Int)
  /-- AES_TX_BLOCK (R224). A media port transmits a block, stamping its Z preamble and slipping if the buffer would run out. -/
  | aesTxBlock (m fill : Nat)
  /-- AES_RESUME (R225). After one block of hold, a restarted transmitter resumes at the next alignment instant. -/
  | aesResume (m : Nat)
  /-- PCS_LOCK_CHANGE (R247). A port's PCS block lock and alignment is gained or lost. -/
  | pcsLockChange (p : Nat) (lock : Bool)
  /-- PORT_UP_TIMER (R247). PCS lock held for 1 ms with GRID_OK moves a port from DOWN to UP. -/
  | portUpTimer (p : Nat)
  /-- PORT_FAULT (R247). A received fault sequence or loss of lock moves a port to FAULT. -/
  | portFault (p cause : Nat)
  /-- PORT_FAULT_CLEAR (R247). 1 ms without fault returns a port to UP. -/
  | portFaultClear (p : Nat)
  /-- GRID_LOCK_CHANGE (R250). A port's start-grid tracking locks or unlocks, setting or clearing GRID_OK. -/
  | gridLockChange (p : Nat) (lock : Bool) (phase : Nat)
  /-- PREEMPT_VERIFY (R254). The IEEE 802.3br verify exchange succeeds and sets PREEMPT_OK. -/
  | preemptVerify (p : Nat)
  /-- FRAME_RECEIVE (R260). A received frame passes the length, FCS, destination, buffer and classification stages. -/
  | frameReceive (p tpcs len : Nat) (fcsOk err : Bool) (bytes : Nat)
  /-- PAUSE_END (R258). The pause time runs out, and transmission resumes. -/
  | pauseEnd (p k : Nat)
  /-- PAUSE_WATCHDOG (R259). A pause lasting ETH_PAUSE_WD is broken by the watchdog. -/
  | pauseWatchdog (p k : Nat)
  /-- LAUNCH_REQUEST (R250). A port grants or refuses a launch instant for a requested reservation. -/
  | launchRequest (p : Nat) (excl : List Nat) (lat : Nat)
  /-- LAUNCH_START (R256). A reserved frame launches at L and is checked, aborted or missed. -/
  | launchStart (p : Nat) (dev : Int)
  /-- LAUNCH_EMPTY (R255). A reservation whose frame is absent 64 ns before its interval is released. -/
  | launchEmpty (p : Nat)
  /-- BE_FRAME_START (R253). A best-effort frame starts, is held, or is cut into a pre-emption fragment. -/
  | beFrameStart (p tpcs : Nat)
  /-- TXTS_OVERFLOW_ENTRY (R266). When 8 entries are free, one OVERFLOW transmit-timestamp entry is written. -/
  | txtsOverflowEntry (p : Nat)
  /-- HMK_REQUEST (R281). Hallmark resolves a request's tenant and client entry, charges the bucket and serves, limits or drops it. -/
  | hmkRequest (p : Nat) (m : ReqMsg)
  /-- STALE_REQ (R294). A request whose sealing has not begun 8 µs after receipt is dropped. -/
  | staleReq (p : Nat)
  /-- ANNOUNCE_SYNC_SEND (R289). Hallmark sends a scheduled Announce or Sync, multicast or per live grant. -/
  | announceSyncSend (t p msg : Nat) (client : Option (Nat × Nat))
  /-- CLIENT_RECLAIM (R280). Engine 1 reclaims a client entry idle for IDLE_S seconds. -/
  | clientReclaim (t p kind addr : Nat)
  /-- PATROL_SCRUB_READ (R395). The patrol scrubber reads the next DRAM word and judges it. -/
  | patrolScrubRead (chB : Bool) (cls region syn : Nat) (last : Bool) (entry : Option (Nat × Nat × Nat))
  /-- SCRUB_WRITE (R394). A queued scrub writes back a corrected word and check bits. -/
  | scrubWrite (c : Nat)
  /-- REGION_EFFECT (R324). A switched region's new generation takes effect at the instant its region table gives. -/
  | regionEffect (r : Nat)
  /-- REGION_DRAIN_END (R331). The last old-tagged work leaves the region, DRAINING clears and the old bank becomes idle. -/
  | regionDrainEnd (r : Nat)
  /-- ADD (R342). ADD sums two registers. -/
  | plAdd (e : Nat)
  /-- SUB (R342). SUB subtracts two registers. -/
  | plSub (e : Nat)
  /-- AND (R342). AND takes the bitwise AND of two registers. -/
  | plAnd (e : Nat)
  /-- OR (R342). OR takes the bitwise OR of two registers. -/
  | plOr (e : Nat)
  /-- XOR (R342). XOR takes the bitwise XOR of two registers. -/
  | plXor (e : Nat)
  /-- SHL (R342). SHL shifts a register left by a register amount. -/
  | plShl (e : Nat)
  /-- SHR (R342). SHR shifts a register right logically by a register amount. -/
  | plShr (e : Nat)
  /-- SRA (R342). SRA shifts a register right arithmetically by a register amount. -/
  | plSra (e : Nat)
  /-- MUL (R342). MUL gives the low 32 bits of a product. -/
  | plMul (e : Nat)
  /-- SLT (R342). SLT sets rd to 1 on a signed less-than. -/
  | plSlt (e : Nat)
  /-- SLTU (R342). SLTU sets rd to 1 on an unsigned less-than. -/
  | plSltu (e : Nat)
  /-- ADD64 (R342). ADD64 adds two register pairs modulo 2^64. -/
  | plAdd64 (e : Nat)
  /-- SUB64 (R342). SUB64 subtracts two register pairs modulo 2^64. -/
  | plSub64 (e : Nat)
  /-- CMPT (R342). CMPT compares two 64-bit times by signed difference. -/
  | plCmpt (e : Nat)
  /-- ADDI (R342). ADDI adds a sign-extended immediate. -/
  | plAddi (e : Nat)
  /-- ANDI (R342). ANDI ANDs a zero-extended immediate. -/
  | plAndi (e : Nat)
  /-- ORI (R342). ORI ORs a zero-extended immediate. -/
  | plOri (e : Nat)
  /-- SHLI (R342). SHLI shifts left by an immediate. -/
  | plShli (e : Nat)
  /-- SHRI (R342). SHRI shifts right logically by an immediate. -/
  | plShri (e : Nat)
  /-- LUI (R342). LUI loads an immediate shifted left by 14. -/
  | plLui (e : Nat)
  /-- LDW (R342). LDW loads a word from data memory. -/
  | plLdw (e : Nat) (ue : Bool)
  /-- LDB (R342). LDB loads a zero-extended byte from data memory. -/
  | plLdb (e : Nat) (ue : Bool)
  /-- STW (R342). STW stores a word to data memory. -/
  | plStw (e : Nat)
  /-- STB (R342). STB stores a byte to data memory. -/
  | plStb (e : Nat)
  /-- BEQ (R342). BEQ branches if two registers are equal. -/
  | plBeq (e : Nat)
  /-- BNE (R342). BNE branches if two registers differ. -/
  | plBne (e : Nat)
  /-- BLT (R342). BLT branches on a signed less-than. -/
  | plBlt (e : Nat)
  /-- BGE (R342). BGE branches on a signed greater-or-equal. -/
  | plBge (e : Nat)
  /-- BLTU (R342). BLTU branches on an unsigned less-than. -/
  | plBltu (e : Nat)
  /-- BGEU (R342). BGEU branches on an unsigned greater-or-equal. -/
  | plBgeu (e : Nat)
  /-- JMP (R342). JMP jumps to a target word. -/
  | plJmp (e : Nat)
  /-- JAL (R342). JAL jumps and links the return address in G15. -/
  | plJal (e : Nat)
  /-- JR (R342). JR jumps to a register address. -/
  | plJr (e : Nat)
  /-- FAULT (R342). FAULT quenches the engine with cause SOFT and a code. -/
  | plFault (e : Nat)
  /-- BLD (R345). BLD reads a permitted block register. -/
  | plBld (e : Nat)
  /-- BST (R345). BST writes a permitted block register live and shadow without a strobe. -/
  | plBst (e : Nat)
  /-- RDS (R348). RDS reads a special register. -/
  | plRds (e : Nat)
  /-- PKTLW (R344). PKTLW reads 4 header bytes of the held frame. -/
  | plPktlw (e : Nat)
  /-- PKTLH (R344). PKTLH reads 2 header bytes of the held frame. -/
  | plPktlh (e : Nat)
  /-- PKTLB (R344). PKTLB reads 1 header byte of the held frame. -/
  | plPktlb (e : Nat)
  /-- PKTINF (R342). PKTINF returns the held frame's length and arrival port. -/
  | plPktinf (e : Nat)
  /-- PKTTS (R342). PKTTS returns the held frame's receive timestamp. -/
  | plPktts (e : Nat)
  /-- CLASS (R344). CLASS classifies and releases the held frame. -/
  | plClass (e : Nat)
  /-- CELLLW (R346). CELLLW reads a word of the input cell. -/
  | plCelllw (e : Nat)
  /-- CELLSW (R346). CELLSW writes a word of the output cell. -/
  | plCellsw (e : Nat)
  /-- CELLPUT (R346). CELLPUT posts the output cell to the owning block, stalling while the queue is full. -/
  | plCellput (e : Nat)
  /-- RDT (R342). RDT reads the replica's short time or FRAC. -/
  | plRdt (e : Nat)
  /-- WAITT (R349). WAITT begins waiting for an epoch, or a wake, or returns TOO_FAR at once. -/
  | plWaitt (e : Nat)
  /-- WAITE (R349). WAITE begins waiting for a pending wake. -/
  | plWaite (e : Nat)
  /-- WAIT_RETURN (R349). A waiting engine resumes when its epoch falls due or a wake is pending, with the cause in rd. -/
  | waitReturn (e : Nat)
  /-- TX_LAUNCH_CELL (R347). The port grants a port engine's TX_LAUNCH and answers with TX_GRANT. -/
  | txLaunchCell (e : Nat) (excl : List Nat)
  /-- UPSTREAM_CELL (R347). Assay takes an UPSTREAM cell as a measurement of reference 29 or 30. -/
  | upstreamCell (e : Nat)
  /-- LINK_LANE_LOCK (R400). A training link locks and deskews its lanes and begins the HELLO exchange. -/
  | linkLaneLock (l : Nat)
  /-- LANE_LOSS (R400). Lane lock lost for 1 µs sends the link to TRAIN, losing pending shard requests and resyncs. -/
  | laneLoss (l : Nat)
  /-- CELL_RECEIVE (R403). A link receives a cell, checks CRC and sequence, and delivers it in order or answers NAK. -/
  | cellReceive (l : Nat) (c : GCell) (crcOk : Bool) (at_ : Nat)
  /-- NAK_RECEIVE (R403). A received NAK makes the transmitter resend from the expected SEQ with RETRY. -/
  | nakReceive (l e : Nat)
  /-- HELLO_RECEIVE (R401). A HELLO cell updates the peer's state, digest and feature intersection. -/
  | helloReceive (l : Nat)
  /-- TIME_CELL_RECEIVE (R405). A TIME cell completes a two-way exchange and delivers OFFSET to Assay. -/
  | timeCellReceive (l : Nat)
  /-- SHARD_REQ_RECEIVE (R410). An owner applies a SHARD_REQ to its entry and answers SHARD_RESP. -/
  | shardReqReceive (l : Nat) (miss : Bool) (ue : Option DramErr)
  /-- SHARD_RESP_RECEIVE (R410). A SHARD_RESP lets the receiving device seal and launch or drop the answer. -/
  | shardRespReceive (l : Nat)
  /-- INGOT_RECEIVE (R437). The standby accepts or discards an Ingot and answers with an ACK. -/
  | ingotReceive (l : Nat)
  /-- INGOT_ACK_RECEIVE (R437). The active takes the standby's ACK and starts a resync when asked. -/
  | ingotAckReceive (l : Nat)
  /-- RESYNC_COMPLETE (R438). A table or full resync stream completes. -/
  | resyncComplete
  /-- SEAM_REPORT_RECEIVE (R416). A station report is received and judged for alignment and membership. -/
  | seamReportReceive (v : Nat) (crcOk : Bool) (at_ : Nat)
  /-- SEAM_MSG_RECEIVE (R420). A received HOST message goes to a free SEAM_RX buffer. -/
  | seamMsgReceive (m : SeamMsg) (crcOk : Bool) (at_ : Nat)
  /-- SEAM_CONTENTION_SEND (R415). After 1 µs idle, a station sends a contention message with readback. -/
  | seamContentionSend (report clash : Bool)
  /-- SEAM_BACKOFF_END (R415). A collision back-off ends and the message is tried again. -/
  | seamBackoffEnd (report : Bool)
  /-- MEMBER_SILENT (R417). A member silent for 8 frames triggers a roll-call restart. -/
  | memberSilent (d : Nat)
  /-- ROLLCALL_COMPLETE (R417). 64 unchanged frames complete roll call and set MEMBERS. -/
  | rollcallComplete
  /-- CONT_ONLY_ENTER (R416). 8 consecutive misaligned frames put every station in contention-only mode. -/
  | contOnlyEnter
  /-- SLOTTED_RETURN (R416). 64 aligned frames return a station to slotted mode. -/
  | slottedReturn
  /-- CLAIM_IN_CHANGE (R424). A CLAIM_IN change held for 0.5 ns is compared with the own claim to drive or release. -/
  | claimInChange (v : Nat)
  /-- CLAIM_RISE_ARRIVES (R425). 8 ns after its own claim rises, the rise reaches the unit's comparator. -/
  | claimRiseArrives
  /-- CLAIM_TIE (R427). Claims equal for 256 ns raise PAIR_TIE and set BIAS. -/
  | claimTie
  /-- OUT_MON_MISMATCH (R430). A pair-shared pad's level differing from its drive for 16 ns raises the OUT_MON trigger. -/
  | outMonMismatch (o : Nat)
  /-- DRILL_HOLD_END (R440). After DRILL_HOLD ticks, the drill compares digests and lifts the drill ceiling. -/
  | drillHoldEnd
  /-- TRACE_DRAM_WRITE (R452). The writer copies a staged trace record into the DRAM ring. -/
  | traceDramWrite
  /-- TRACE_PIN_SEND (R453). A trace record is framed and sent on the trace pins. -/
  | tracePinSend
  /-- TRACE_GAP_ENTER (R451). When 16 places are free, a GAP record enters in place of lost records. -/
  | traceGapEnter (pins : Bool)
  /-- TRACE_LOSS_REPORT (R451). While losses continue, one OBS_TRACE_LOSS record is written per millisecond. -/
  | traceLossReport
  /-- MSIX_SAMPLE_HOLDOFF_END (R449). The SMP_MOD hold-off ends, and vector 2 is signalled for a sample raised during it. -/
  | msixSampleHoldoffEnd
  /-- REG_READ (R360). A register read with no side effect of its own that is flagged (unaligned, narrow, too wide, reserved, alias) or, from a tenant, falls on a reserved offset and quenches the function. -/
  | regRead (fn off n : Nat) (contig : Bool)
  /-- SPLL_RELOCK (R203). After a loss of lock, the SPLL locks again, clearing the SPLL_LOL trigger, and the computed TEB returns at the first boundary at least 1 s later. -/
  | spllRelock
  /-- TOD_PAIR_WINDOW_EXPIRY (R81). A REFERS = 1 message whose next edge has not arrived within 900 ms is recorded with PAIR = 1 and raises one TOD_MISMATCH. -/
  | todPairWindowExpiry (k : Nat)
  /-- AES_RX_LOCK_CHANGE (R226). A media port receiver gains or loses lock to a valid rate, changing RXLOCK and RX_RATE. -/
  | aesRxLockChange (m : Nat) (rate : Option Nat)
  /-- GRANT_EXPIRY (R292). A unicast grant reaches its EXPIRY, stops being live and its rate leaves the tenant's and device's granted load. -/
  | grantExpiry (t p kind addr k : Nat)
  /-- BYPASS_CLOCK_RETURN (R210). The bypass clock, lost while outputs held their inactive level with BYP_LOS set, is present again. -/
  | bypassClockReturn
  deriving DecidableEq, Repr

end Sys2Proof
end

