-- ==== Sys2Proof/WellFormed.lean ====
section
/-!
DEFINITION. Sys2Proof/WellFormed.lean: which commands name a unit, register or value that some part of the family has: function
numbers (R2, R355), ports, links, channels, references, engines, regions, scheduler entries, and words of the width they are
written with. What a smaller part lacks is not ill-formed: it is absent there (R5).
-/

namespace Sys2Proof

/-- A DRAM read in error has one of the three classes, and its channel's byte address (R394). -/
def DramErr.wf (u : DramErr) : Bool := 1 ≤ u.cls && u.cls ≤ 3 && u.syn < 2 ^ 16

/-- Every index of the command lies within the family's range, and every value within its width. -/
def Instr.wellFormed : Instr → Bool
  | .porstAssert => true
  | .porstRise straps => straps < 128
  | .warmReset => true
  | .claimResetRelease => true
  | .perstReset => true
  | .brownout _ => true
  | .pdPgFail d => d < 30
  | .pdPowerGood d => d < 30
  | .pdOffDone d => d < 30
  | .spllLock us => us < 2 ^ 32
  | .spllLossOfLock => true
  | .bootImageLoaded _ _ _ => true
  | .dramTrained _ _ => true
  | .bootReady => true
  | .extestLoad vbatSec _ => vbatSec < 2 ^ 32
  | .tapInstruction code => code < 16
  | .tamperFire sources _ vbatSec _ => sources < 512 && vbatSec < 2 ^ 32
  | .tamperLogCommit _ => true
  | .vbatRecordCommit _ vbatSec _ => vbatSec < 2 ^ 32
  | .keyExpiry slot => slot < 4096
  | .kvtLoad fn _ _ => fn < 1024
  | .kvtEvict fn => fn < 1024
  | .kvtAttest fn _ _ => fn < 1024
  | .keyImport _ _ => true
  | .keyGenerate _ _ => true
  | .tenantEpoch _ _ => true
  | .setUpdateKey _ _ => true
  | .setAttest _ _ => true
  | .setImageKey _ _ => true
  | .tamperCfg _ _ => true
  | .deprovision _ _ => true
  | .provision _ _ => true
  | .tlogAck mask => mask < 2 ^ 16
  | .nop fn => fn < 1024
  | .ethSend _ _ => true
  | .hmkMint fn _ c2s s2c _ => fn < 1024 && c2s < 2 ^ 256 && s2c < 2 ^ 256
  | .clientRead fn _ => fn < 1024
  | .clientBlock fn => fn < 1024
  | .clientUnblock fn => fn < 1024
  | .clientDelete fn => fn < 1024
  | .cmdDoorbell fn tail => fn < 1024 && tail < 2 ^ 32
  | .cmdFetch fn _ => fn < 1024
  | .cmdCompletionWrite fn => fn < 1024
  | .evTailWrite fn tail => fn < 1024 && tail < 2 ^ 32
  | .ringConfigWrite fn word v => fn < 1024 && word < 16 && v < 2 ^ 32
  | .eventWrite fn => fn < 1024
  | .ringOverflowRecord fn => fn < 1024
  | .fifoOverflowRecord fn => fn < 1024
  | .eventSummary fn => fn < 1024
  | .msixEventHoldoffEnd fn => fn < 1024
  | .msixTicStreamTimeout ch => ch < 16
  | .featuresOk => true
  | .tenCtlWrite t _ => t < 1024
  | .busMasterClear fn => fn < 1024
  | .busMasterSet fn => fn < 1024
  | .flr fn => fn < 1024
  | .vfEnableClear => true
  | .tenantRelease n => n < 1024
  | .regWrite fn off n v _ => fn < 1024 && off < 2 ^ 25 && n ≤ 4096 && v < 2 ^ (8 * n)
  | .postedWriteAccept win => win < 15
  | .rcRead fn off n => fn < 1024 && off < 2 ^ 25 && n ≤ 4096
  | .snapshotLatch fn n => fn < 1024 && n < 9
  | .ticQwinRead ch off _ => ch < 16 && off < 4096
  | .txtsPop p => p < 8
  | .engDmRead e => e < 18
  | .traceWinRead off _ ues => off < 4096 && ues.all (fun p => p.2.wf)
  | .counterRead fn off => fn < 1024 && off < 2 ^ 25
  | .updStrobe mask ues => mask < 256 && ues.all (fun p => p.2.wf)
  | .outputStop o => o < 24
  | .stepArm => true
  | .stepDisarm => true
  | .annealCommand => true
  | .burnRelock b => b < 4
  | .aesRealign m => m < 4
  | .tatSwap => true
  | .refClear => true
  | .engineRelease e ue => e < 18 && ue.all DramErr.wf
  | .linkRelease l => l < 4
  | .syncArm => true
  | .syncDisarm => true
  | .dateGo _ ch => ch < 16
  | .dateLoad => true
  | .markTimeout => true
  | .leapCommit => true
  | .leapExpired => true
  | .schWrite fn => fn < 1024
  | .schDelete fn => fn < 1024
  | .schRead fn => fn < 1024
  | .searchStart => true
  | .searchAbort => true
  | .gfeTransfer v => v < 2 ^ 32
  | .gfeTransferDone _ => true
  | .loopGo => true
  | .loopAbort => true
  | .loopFrameLaunch => true
  | .loopRunEnd => true
  | .loopTimeout => true
  | .tatLoad base count => base < 2 ^ 64 && count < 2 ^ 13
  | .tatLoadDone _ ue => ue.all (fun p => p.2.wf)
  | .imagePush base len => base < 2 ^ 64 && len < 2 ^ 24
  | .imageCheckDone _ _ _ => true
  | .seamSend dst _ len => dst < 8 && len < 256
  | .seamRxAck mask => mask < 2 ^ 16
  | .obsSmpCfgWrite j w v => j < 8 && w < 2 && v < 2 ^ 32
  | .obsTrcCfgWrite w v => w < 4 && v < 2 ^ 32
  | .schCongestedLate id => id < 4096
  | .lateFireDispatch _ ue ues _ => ue.all DramErr.wf && ues.all (fun p => p.2.wf)
  | .tick upsets => upsets.all (fun p => p.1 < 2 ^ 16)
  | .entryTimerEnd r => r < 36
  | .probationEnd r => r < 36
  | .holdoffEnd r => r < 36
  | .sourceFaultClear r => r < 9
  | .lossRepeat r => r < 36
  | .heldMeasurementTimeout r => r < 36
  | .asyMeasurement => true
  | .annealEnd => true
  | .armExpiry => true
  | .holdModelUpdate => true
  | .efcTransfer => true
  | .tempRead _ => true
  | .tcLearnWrite _ _ _ _ _ => true
  | .modelOkSet => true
  | .refEdge src _ code => src < 24 && code < 4096
  | .ticRecordQueue ch => ch < 16
  | .ticOverflowRecord ch => ch < 16
  | .ticStreamWrite ch => ch < 16
  | .losExpiry n => n < 24
  | .synceLockChange p _ => p < 8
  | .uartChar u c _ _ => u < 8 && c < 256
  | .charsDeliver u => u < 8
  | .aportStale a => a < 4
  | .aportStCell => true
  | .todMsgCell => true
  | .checkCell => true
  | .todLossTimeout k => k < 4
  | .irigFrame n _ _ _ _ _ _ _ => n < 16
  | .todOutReq k _ => k < 4
  | .todOutCell => true
  | .todoutSend k => k < 4
  | .pathWindowEnd ch _ _ => ch < 16
  | .pathRetry ch => ch < 16
  | .cdcWindowEnd ch _ => ch < 16
  | .calAgeExpiry ch => ch < 16
  | .calTempDrift ch _ => ch < 16
  | .gateLongClose ch => ch < 16
  | .gsiClockFault k _ _ => k < 4
  | .gsiClockRecover k _ => k < 4
  | .antSample a current => a < 2 && current < 2 ^ 16
  | .gnsIntegration c _ _ _ _ _ cn0 => c < 256 && cn0 < 2 ^ 16
  | .pullLockHeld c => c < 256
  | .pullTimeout c => c < 256
  | .cn0LossTimeout c => c < 256
  | .coastTimeout c => c < 256
  | .searchDwell _ => true
  | .aidedDwell g _ _ _ => g < 4
  | .searchSettleEnd => true
  | .allLostTimeout => true
  | .solutionCompute _ => true
  | .ingotCopy id ue => id < 4096 && ue.all DramErr.wf
  | .seamFrame id _ => id < 4096
  | .launchCycle id => id < 4096
  | .goutEdge id => id < 4096
  | .ticGateStart id => id < 4096
  | .ticGateStop id => id < 4096
  | .calWindowPath id => id < 4096
  | .calWindowCdc id => id < 4096
  | .strobe id also ues => id < 4096 && also < 256 && ues.all (fun p => p.2.wf)
  | .genSwitch id ue => id < 4096 && ue.all DramErr.wf
  | .keyRotate id => id < 4096
  | .swapDrill id => id < 4096
  | .gnssEpoch id _ => id < 4096
  | .planishWake id => id < 4096
  | .gflTime id => id < 4096
  | .gnssBurst id => id < 4096
  | .burnSearchDone b _ band => b < 4 && band < 256
  | .burnLockDeclared b _ => b < 4
  | .burnAcqTimeout b => b < 4
  | .burnRefLost b => b < 4
  | .burnLockLost b _ => b < 4
  | .burnSourceReturn b => b < 4
  | .bypassClockLost => true
  | .outputReturn o => o < 24
  | .syncinEdge => true
  | .pulseEnd g => g < 8
  | .timecodeElement g => g < 8
  | .aesRxZPreamble m status _ => m < 4 && status < 2 ^ 192
  | .aesTxBlock m _ => m < 4
  | .aesResume m => m < 4
  | .pcsLockChange p _ => p < 8
  | .portUpTimer p => p < 8
  | .portFault p cause => p < 8 && cause < 8
  | .portFaultClear p => p < 8
  | .gridLockChange p _ _ => p < 8
  | .preemptVerify p => p < 8
  | .frameReceive p _ len _ _ _ => p < 8 && len < 2 ^ 16
  | .pauseEnd p k => p < 8 && k < 9
  | .pauseWatchdog p k => p < 8 && k < 9
  | .launchRequest p _ _ => p < 8
  | .launchStart p _ => p < 8
  | .launchEmpty p => p < 8
  | .beFrameStart p _ => p < 8
  | .txtsOverflowEntry p => p < 8
  | .hmkRequest p _ => p < 8
  | .staleReq p => p < 8
  | .announceSyncSend t p msg _ => t < 1024 && p < 8 && msg < 2
  | .clientReclaim t p kind addr => t < 1024 && p < 8 && kind < 3 && addr < 2 ^ 128
  | .patrolScrubRead _ cls region syn _ _ => cls < 4 && region < 5 && syn < 2 ^ 16
  | .scrubWrite c => c < 2
  | .regionEffect r => r < 24
  | .regionDrainEnd r => r < 24
  | .plAdd e => e < 18
  | .plSub e => e < 18
  | .plAnd e => e < 18
  | .plOr e => e < 18
  | .plXor e => e < 18
  | .plShl e => e < 18
  | .plShr e => e < 18
  | .plSra e => e < 18
  | .plMul e => e < 18
  | .plSlt e => e < 18
  | .plSltu e => e < 18
  | .plAdd64 e => e < 18
  | .plSub64 e => e < 18
  | .plCmpt e => e < 18
  | .plAddi e => e < 18
  | .plAndi e => e < 18
  | .plOri e => e < 18
  | .plShli e => e < 18
  | .plShri e => e < 18
  | .plLui e => e < 18
  | .plLdw e _ => e < 18
  | .plLdb e _ => e < 18
  | .plStw e => e < 18
  | .plStb e => e < 18
  | .plBeq e => e < 18
  | .plBne e => e < 18
  | .plBlt e => e < 18
  | .plBge e => e < 18
  | .plBltu e => e < 18
  | .plBgeu e => e < 18
  | .plJmp e => e < 18
  | .plJal e => e < 18
  | .plJr e => e < 18
  | .plFault e => e < 18
  | .plBld e => e < 18
  | .plBst e => e < 18
  | .plRds e => e < 18
  | .plPktlw e => e < 18
  | .plPktlh e => e < 18
  | .plPktlb e => e < 18
  | .plPktinf e => e < 18
  | .plPktts e => e < 18
  | .plClass e => e < 18
  | .plCelllw e => e < 18
  | .plCellsw e => e < 18
  | .plCellput e => e < 18
  | .plRdt e => e < 18
  | .plWaitt e => e < 18
  | .plWaite e => e < 18
  | .waitReturn e => e < 18
  | .txLaunchCell e _ => e < 18
  | .upstreamCell e => e < 18
  | .linkLaneLock l => l < 4
  | .laneLoss l => l < 4
  | .cellReceive l _ _ _ => l < 4
  | .nakReceive l e => l < 4 && e < 2 ^ 16
  | .helloReceive l => l < 4
  | .timeCellReceive l => l < 4
  | .shardReqReceive l _ ue => l < 4 && ue.all DramErr.wf
  | .shardRespReceive l => l < 4
  | .ingotReceive l => l < 4
  | .ingotAckReceive l => l < 4
  | .resyncComplete => true
  | .seamReportReceive v _ _ => v < 2 ^ 512
  | .seamMsgReceive _ _ _ => true
  | .seamContentionSend _ _ => true
  | .seamBackoffEnd _ => true
  | .memberSilent d => d < 8
  | .rollcallComplete => true
  | .contOnlyEnter => true
  | .slottedReturn => true
  | .claimInChange v => v < 16
  | .claimRiseArrives => true
  | .claimTie => true
  | .outMonMismatch o => o < 24
  | .drillHoldEnd => true
  | .traceDramWrite => true
  | .tracePinSend => true
  | .traceGapEnter _ => true
  | .traceLossReport => true
  | .msixSampleHoldoffEnd => true
  | .regRead fn off n _ => fn < 1024 && off < 2 ^ 25 && n ≤ 4096
  | .spllRelock => true
  | .todPairWindowExpiry k => k < 4
  | .aesRxLockChange m _ => m < 4
  | .grantExpiry t p kind addr k => t < 1024 && p < 8 && kind < 3 && addr < 2 ^ 128 && k < 3
  | .bypassClockReturn => true

end Sys2Proof
end

