-- ==== Sys2Proof/Decode.lean ====
section
/-!
DEFINITION. Sys2Proof/Decode.lean: the command that a word spells by the bits of spec/opcode_table.json.

The table gives no row any bits: a command reaches the block as an access, an edge, a frame, a cell or an instant, and not as
a word. No word spells one.
-/

namespace Sys2Proof

/-- The command that an nbits-wide word spells: none, as no row of the table has bits. -/
def decodeTableWord (_nbits _w : Nat) : Option Instr := none

end Sys2Proof
end

