-- ==== Sys2Proof/Config.lean ====
section
/-!
DEFINITION. Sys2Proof/Config.lean: the free values: results the spec leaves open and still uses. Each is a constant with no
body, applied to a draw number (so that each use is a fresh value) and to what it is about. No proof can see its value.
-/

namespace Sys2Proof

/-- A number where the spec states no value at all. -/
opaque Config.freeNat : Nat → Nat

/-- The estimate kernel engine 0's program keeps of a clock (R156): x̂ in 2^-16 ns. -/
opaque Config.estPhase : Nat → Nat → Int
/-- The estimated frequency y, 2^-56 (R156). -/
opaque Config.estFreq : Nat → Nat → Int
/-- The estimated drift d, 2^-64 per s (R156). -/
opaque Config.estDrift : Nat → Nat → Int
/-- The predicted error σ at τ, ps (R156). -/
opaque Config.estSigma : Nat → Nat → Nat
/-- The prediction bound B_pred of a prediction from trusted clocks, ps (R132, R161). -/
opaque Config.predBound : Nat → Nat → Nat
/-- A free-run prediction where no offset has been accepted yet, 2^-16 ns (R161). -/
opaque Config.firstPrediction : Nat → Nat → Int
/-- The kernel's predicted frequency of a reference, 2^-56, and its bound U_y (R134). -/
opaque Config.predFreq : Nat → Nat → Int
opaque Config.predFreqBound : Nat → Nat → Nat

/-- Pad skew of an output, ps (R214): a property of the part. -/
opaque Config.padSkew : Nat → Int

/-- Whether the image with a given digest (or the trace ring at a given base) places data on DRAM channel A or B (R454). -/
opaque Config.dramPlaced : Nat → Nat → Bool

/-- What the vault's random source draws (R303, R306, R312): a fresh number a draw. -/
opaque Config.random : Nat → Nat
/-- What AEAD_AES_SIV_CMAC_256 seals under keys derived as R304 says: ciphertext first, then the synthetic IV. -/
opaque Config.siv : List Nat → Nat
/-- HMAC-SHA-256 of a key and a message (R286, R291, R315). -/
opaque Config.hmac : List Nat → Nat
/-- AES-CMAC-128 of a key and a message (R286, R291). -/
opaque Config.cmac : List Nat → Nat
/-- SHA-256 (R333). -/
opaque Config.hash : List Nat → Nat

/-- The state section of an Ingot: its length in bytes, its contents, and the scheduler entries that a section holds as
(entry, 256 bits), zero for a freed one. Its layout is internal (R436). -/
opaque Config.ingotLen : Nat → Nat
opaque Config.ingotState : Nat → Nat
opaque Config.ingotEnts : Nat → Nat → List (Nat × Nat)

end Sys2Proof
end

