-- ==== Sys2Proof/Machine/Mem.lean ====
section
/-!
DEFINITION. Sys2Proof/Machine/Mem.lean: byte memories as plain data: the data memories of the engines.

A memory is a list of (address, byte) pairs in one canonical form: addresses strictly rising, and no pair whose byte is 0,
which is what an unlisted address reads as (R337: data memory starts with the data image followed by zeros).
-/

namespace Sys2Proof.Machine

/-- A byte memory. -/
abbrev Mem := List Host.Cell

namespace Mem

/-- The byte at an address. -/
def byte (m : Mem) (a : Nat) : Byte :=
  match m with
  | [] => 0
  | c :: t => if c.1 = a then c.2 else byte t a

/-- The memory without an address. -/
def del (m : Mem) (a : Nat) : Mem := m.filter (fun c => c.1 ≠ a)

/-- A cell put in front of the larger addresses. -/
def ins (a : Nat) (b : Byte) : Mem → Mem
  | [] => [(a, b)]
  | c :: t => if a < c.1 then (a, b) :: c :: t else c :: ins a b t

/-- The memory with a byte written, in canonical form. -/
def put (m : Mem) (a : Nat) (b : Byte) : Mem := if b = 0 then del m a else ins a b (del m a)

/-- n bytes from an address on, little-endian. -/
def read (m : Mem) (a : Nat) : Nat → Nat
  | 0 => 0
  | n + 1 => (byte m a).toNat + 256 * read m (a + 1) n

/-- n bytes from an address on written from a little-endian number. -/
def write (m : Mem) (a : Nat) : Nat → Nat → Mem
  | 0, _ => m
  | n + 1, v => write (put m a (BitVec.ofNat 8 v)) (a + 1) n (v / 256)

/-- Addresses strictly rising from a floor, and no zero byte. -/
def wfFrom (lo : Nat) : Mem → Bool
  | [] => true
  | c :: t => decide (lo ≤ c.1) && decide (c.2 ≠ 0) && wfFrom (c.1 + 1) t

/-- The canonical form. -/
def wf (m : Mem) : Bool := wfFrom 0 m

end Mem

end Sys2Proof.Machine
end

