-- ==== Sys2Proof/Machine/Arith.lean ====
section
/-!
DEFINITION. Sys2Proof/Machine/Arith.lean: the exact arithmetic the spec's rules use: rounding, wrapping, signed readings of
fields, bounds that saturate at unbounded, the bound float, and small association lists.
-/

namespace Sys2Proof.Machine

/-- Division rounded up, as every bound conversion is (R180). -/
def ceilDiv (a b : Nat) : Nat := (a + (b - 1)) / b

/-- v read as a two's-complement number of w bits. -/
def toSigned (w v : Nat) : Int :=
  if v % 2 ^ w < 2 ^ (w - 1) then (v % 2 ^ w : Nat) else (v % 2 ^ w : Nat) - (2 ^ w : Nat)

/-- The w-bit two's-complement encoding of an integer. -/
def ofSigned (w : Nat) (v : Int) : Nat := (v % (2 ^ w : Nat)).toNat

/-- Signed difference b − a of two short times (R44). -/
def sdiff (a b : Nat) : Int := toSigned 64 ((b + (2 ^ 64 - a % 2 ^ 64)) % 2 ^ 64)

/-- v held within lo to hi. -/
def clampI (lo hi v : Int) : Int := if v < lo then lo else if hi < v then hi else v

/-- v saturated at the largest w-bit number. -/
def satN (w v : Nat) : Nat := if v < 2 ^ w then v else 2 ^ w - 1

/-- v saturated to a signed w-bit number. -/
def satI (w : Nat) (v : Int) : Int := clampI (-(2 ^ (w - 1) : Nat)) ((2 ^ (w - 1) : Nat) - 1) v

/-- Bit i of a number. -/
def bitOf (v i : Nat) : Bool := v / 2 ^ i % 2 = 1

/-- Bits [lo + w − 1 : lo] of a number. -/
def bitsOf (v lo w : Nat) : Nat := v / 2 ^ lo % 2 ^ w

/-- A rational rounded to the nearest integer, halves upward. -/
def roundRat (q : Rat) : Int := (q + 1 / 2).floor

/-- Integer square root, rounded down: one bit a round, from 2^(n−1) down. -/
def isqrtAux : Nat → Nat → Nat → Nat
  | 0, _, r => r
  | n + 1, v, r => if (r + 2 ^ n) * (r + 2 ^ n) ≤ v then isqrtAux n v (r + 2 ^ n) else isqrtAux n v r

/-- Integer square root of v < 2^192, rounded up. -/
def ceilSqrt (v : Nat) : Nat :=
  let r := isqrtAux 96 v 0
  if r * r = v then r else r + 1

/-! ## Bounds in picoseconds (R177, R179, R194, R195) -/

/-- The unbounded bound: all ones of 48 bits (R177). -/
def unb : Nat := 2 ^ 48 - 1

/-- A bound of 2^48 − 1 ps or more reads as unbounded (R179). -/
def bNorm (a : Nat) : Nat := if unb ≤ a then unb else a

/-- Sum of bounds: unbounded if a term is, or if the sum reaches 2^48 − 1 ps (R179). -/
def bAdd (a b : Nat) : Nat := if unb ≤ a then unb else bNorm (a + b)

/-- Smallest exponent e, from e upward, with ceil(v / 2^e) below 2^26 (R194). -/
def floatExp : Nat → Nat → Nat → Nat
  | 0, _, e => e
  | n + 1, v, e => if ceilDiv v (2 ^ e) < 2 ^ 26 then e else floatExp n v (e + 1)

/-- The bound float of a 48-bit bound (R194). -/
def toFloat (v : Nat) : Nat :=
  if unb ≤ v then 0xFFFFFFFF else (floatExp 48 v 0) * 2 ^ 26 + ceilDiv v (2 ^ floatExp 48 v 0)

/-- The bound a float denotes; all ones and values of 2^48 − 1 ps or more are unbounded (R195). -/
def ofFloat (f : Nat) : Nat :=
  if f % 2 ^ 32 = 0xFFFFFFFF then unb else bNorm (f % 2 ^ 26 * 2 ^ (f / 2 ^ 26 % 64))

/-- 2^-16 ns to ps, rounded up (R180). -/
def q16ToPs (v : Nat) : Nat := ceilDiv (v * 1000) 65536

/-- Signed 2^-16 ns to signed ps, the magnitude rounded up. -/
def q16ToPsI (v : Int) : Int := if v < 0 then -(q16ToPs v.natAbs : Int) else (q16ToPs v.natAbs : Int)

/-- ps to 2^-16 ns, rounded to nearest. -/
def psToQ16 (v : Int) : Int := roundRat ((v : Rat) * 65536 / 1000)

/-! ## Lists of keyed entries, at most one entry a key -/

/-- The entry of a key. -/
def alGet {α : Type} (l : List (Nat × α)) (k : Nat) : Option α :=
  match l with
  | [] => none
  | (j, a) :: t => if j = k then some a else alGet t k

/-- The list without a key. -/
def alDel {α : Type} (l : List (Nat × α)) (k : Nat) : List (Nat × α) := l.filter (fun p => p.1 ≠ k)

/-- An entry put in key order in front of the larger keys. -/
def alIns {α : Type} (k : Nat) (a : α) : List (Nat × α) → List (Nat × α)
  | [] => [(k, a)]
  | (j, b) :: t => if k < j then (k, a) :: (j, b) :: t else (j, b) :: alIns k a t

/-- The list with a key set to an entry, in ascending key order. -/
def alSet {α : Type} (l : List (Nat × α)) (k : Nat) (a : α) : List (Nat × α) := alIns k a (alDel l k)

/-- The number with given bytes at given offsets: the sum of v placed at bit 8 (off − base). -/
def pack (base : Nat) : List (Nat × Nat × Nat) → Nat
  | [] => 0
  | (off, n, v) :: t => v % 2 ^ (8 * n) * 2 ^ (8 * (off - base)) + pack base t

/-- Event and trace payloads: bytes 20 to 31, little-endian, from (offset, byte count, value) triples (R376). -/
def pay (l : List (Nat × Nat × Nat)) : Nat := pack 20 l

/-- The lowest set bit of a number below 2^n, if any. -/
def lowestBit : Nat → Nat → Nat → Option Nat
  | 0, _, _ => none
  | n + 1, v, i => if bitOf v i then some i else lowestBit n v (i + 1)

end Sys2Proof.Machine
end

