-- ==== Sys2Proof/Machine/Regs.lean ====
section
/-!
DEFINITION. Sys2Proof/Machine/Regs.lean: every register of the spec's register descriptions, as one table.

A register is known by its name (RegId). Its descriptor gives the byte address of its first instance in the provider's
BAR0 at the Normal alias (R359), how its instances are spaced, and for every 32-bit word the reset value and which bits
carry which access code (R15 to R18). The table and the field constants below follow the register header lines and field
tables of spec/02 to spec/20, one line per register.
-/

namespace Sys2Proof.Machine

/-- The registers, by their names in the spec. -/
inductive RegId where
  | TSK_LEAP_CTL | TSK_LEAP_STAT | TSK_LEAP_EXPIRY | TSK_LEAP_ENT_LO | TSK_LEAP_ENT_HI | TSK_XFORM
  | TSK_XFORM_STAT | SYS_DATE_LO | SYS_DATE_HI | SYS_DATE_NS | SYS_DATE_TEB | SYS_DATE_CTL
  | SYS_DATE_STAT | TSK_SNAP_NS | TSK_SNAP_SEC_LO | TSK_SNAP_SEC_HI | TSK_SNAP_TEB_LO | TSK_SNAP_TEB_HI
  | TSK_SNAP_TS_NS | TSK_SNAP_TS_SEC_LO | TSK_SNAP_TS_SEC_HI | TSK_SNAP_CAL_DATE | TSK_SNAP_CAL_TIME | TSK_SNAP_CTL
  | REF_IN_CFG | REF_IN_PRE | REF_XBAR | REF_SRC_STAT | REF_APORT_CFG | REF_TOD_CFG
  | REF_TODOUT_CFG | REF_UART_STAT | REF_APORT_ST | REF_TOD_ST | TIC_STAT | TIC_CAL_CFG
  | TIC_CAL_CFG2 | TIC_CH_CFG | TIC_CH_STAT | TIC_PATH | TIC_PNOM | TIC_FRES
  | TIC_STRM | TIC_TRIM | TIC_CW | TIC_QWIN | GNS_STAT | GNS_GSI_CFG
  | GNS_GSI_IF | GNS_GSI_STAT | GNS_GFE_CMD | GNS_GFE_DATA | GNS_ANT_CFG | GNS_ANT_STAT
  | GNS_TRK_CFG | GNS_EPOCH_ST | GNS_SRCH_CFG | GNS_SRCH_CTL | GNS_SRCH_STAT | GNS_AID_CFG
  | GNS_POS_CFG | GNS_POS | GNS_POS_UNC | GNS_ISB | GNS_ANT_DLY | GNS_DORM_CFG
  | GNS_SOL | GNS_CH_CFG | GNS_CH_STAT | GNS_MEAS | ASY_STAT | ASY_DISC_CFG
  | ASY_LIMIT | ASY_PROB_CFG | ASY_CHK_CFG | ASY_TUNE_STEP | ASY_REF_CTL | ASY_GNSS_ST
  | ASY_REF_CFG | ASY_SRC_CFG | ASY_SRC_ST | ASY_REF_ST | ASY_CLK_ST | TSK_STAT
  | TSK_MODE_CFG | TSK_LOOP_CFG | TSK_ENS_CFG | TSK_FREQ_ADJ | TSK_FREQ_MAN | TSK_STEP_LIMIT
  | TSK_CAPTURE | TSK_STEP_ARM | TSK_STEP_STAT | TSK_SLEW_MAX | TSK_ANNEAL_CMD | TSK_ANNEAL_ST
  | TSK_JUMP_ST | TSK_JUMP_LAST | TSK_HOLD_CFG | TSK_HOLD_TC | TSK_HOLD_ST | TSK_EFC_CFG
  | TSK_EFC_LIM | TSK_EFC_GAIN | TSK_EFC_ST | TSK_CLK_ST | TSK_TEB | TSK_TEB_FLOAT
  | TSK_TEB_TERM | TSK_TEB_ST | TSK_TEB_HOLD | TSK_TEB_CFG | TSK_TEB_CFG2 | TSK_TEB_WIRE
  | TSK_TEB_ALARM | TSK_TEB_PORT | TSK_HGC | TSK_CLK_CLASS | TSK_TEB_CLK | TSK_TAG
  | SYN_STAT | SYN_SPLL_ST | SYN_BYP_ST | SYN_SYNC_CTL | SYN_SYNC_ST | SYN_BURN_CFG
  | SYN_BURN_ANA | SYN_BURN_ST | OUT_F_CFG | OUT_G_CFG | OUT_G_DLY | OUT_TERM
  | OUT_ST | OUT_AES_CFG | OUT_AES_ST | OUT_AES_RXS | OUT_AES_TXS | SCH_STAT
  | SCH_STG | SCH_CMD | SCH_CMD_ST | SCH_LATE_ST | SCH_NEXT | SCH_TEN_ST
  | ETH_CFG | ETH_ST | ETH_SLOT_CFG | ETH_PAUSE_WD | ETH_TS_LAT | ETH_GRID_ST
  | ETH_TXTS_POP | ETH_TXTS_INFO | ETH_TXTS_ST | ETH_UC | ETH_HASH | ETH_STATS
  | ETH_LOOP_CFG | ETH_LOOP_FIB | ETH_LOOP_CTL | ETH_LOOP_ST | HMK_STAT | HMK_PORT_CFG
  | HMK_CLKID | HMK_TAT_LOAD | HMK_TAT_ST | HMK_TAT_CTL | HMK_CT_ST | HMK_STATS
  | HMK_TEN_CFG | HMK_KEY_NEXT | HMK_KEY_ST | HMK_TEN_ST | KVT_STAT | KVT_ID
  | KVT_PROV_NONCE | KVT_UPD_CTR | KVT_TAMPER_CFG | KVT_TLOG_ST | KVT_TLOG_ACK | KVT_PUB
  | KVT_TLOG | KVT_STATS | KVT_TEN_ST | KVT_SLOT | STR_STAT | STR_LOAD_ST
  | STR_GEN_LIVE | STR_PUSH | STR_DIGEST | STR_REGION | ENG_ST | ENG_PC
  | ENG_CYC | ENG_CYC_MAX | ENG_LOST | ENG_G | ENG_DM_ADDR | ENG_DM_DATA
  | ENG_CTL | SYS_UPD_STROBE | SYS_UPD_ST | SYS_ACC_ERR | SYS_POST_LOST | SYS_CAP
  | HIF_FEAT_OFFER | HIF_FEAT_ACCEPT | HIF_FEAT_CTL | HIF_FEAT_ST | HIF_VIEW | HIF_RING
  | TEN_CTL | TEN_ST | TEN_CMD_RATE | TEN_QUENCH_RELEASE | HMK_DRAM_CFG | HMK_DRAM_ST
  | HMK_DRAM_LAST | GFL_STAT | GFL_AGREE | GFL_SHARD_MAP | GFL_REL | GFL_SHARD_ST
  | GFL_CFG | GFL_ST | GFL_TT | SEAM_STAT | SEAM_CFG | SEAM_MEMBERS
  | SEAM_TX_CTL | SEAM_TX_ST | SEAM_TX_DATA | SEAM_RX_ACK | SEAM_RX | SEAM_PEER
  | SEAM_PEER_OFS | PAIR_STAT | PAIR_CFG | PAIR_BOUND_LIMIT | PAIR_TRIG | PAIR_INGOT_ST
  | PAIR_RESYNC_ST | PAIR_DRILL_ST | OBS_STAT | OBS_LAST_T | OBS_SMP_MOD | OBS_SMP_CFG
  | OBS_SMP_ST | OBS_TRC_CFG | OBS_TRC_BASE | OBS_TRC_ST | OBS_TRC_RDPTR | OBS_CNT
  | OBS_TRC_WIN | OBS_TEN_CNT | SYS_PD_CTL | SYS_PD_ST | SYS_PD_FAULT | SYS_PD_REF
  | SYS_RST_ST | SYS_STRAP | SYS_BOOT_ST
  deriving DecidableEq, Repr

/-- One 32-bit word of a register: its reset value and the bits of each access code (R17). Bits in no mask are
read only or reserved. -/
structure WordDesc where
  rst : Nat
  rw : Nat
  rws : Nat
  rwp : Nat
  rwv : Nat
  w1 : Nat
  rc : Nat
  deriving DecidableEq, Repr

namespace WordDesc
def ro (r : Nat) : WordDesc := ⟨r, 0, 0, 0, 0, 0, 0⟩
def rwOnly (r m : Nat) : WordDesc := ⟨r, m, 0, 0, 0, 0, 0⟩
def rwsOnly (r m : Nat) : WordDesc := ⟨r, 0, m, 0, 0, 0, 0⟩
def rwpOnly (r m : Nat) : WordDesc := ⟨r, 0, 0, m, 0, 0, 0⟩
def rwvOnly (r m : Nat) : WordDesc := ⟨r, 0, 0, 0, m, 0, 0⟩
def w1Only (r m : Nat) : WordDesc := ⟨r, 0, 0, 0, 0, m, 0⟩
def rcOnly (r m : Nat) : WordDesc := ⟨r, 0, 0, 0, 0, 0, m⟩
def mix (r a b c d : Nat) : WordDesc := ⟨r, a, b, c, 0, d, 0⟩
end WordDesc

/-- One register: name, address of its first instance, first index, and up to two index ranges (count and byte stride);
`wide` when the register is one 64-bit register (R366). -/
structure RegDesc where
  id : RegId
  base : Nat
  i0 : Nat
  n1 : Nat
  s1 : Nat
  n2 : Nat
  s2 : Nat
  wide : Bool
  words : List WordDesc
  deriving DecidableEq, Repr

/-- A field: the byte address of the word that holds its bit 0, the place of bit 0 in that word, and its width. -/
structure Fld where
  a : Nat
  lo : Nat
  w : Nat
  deriving DecidableEq, Repr

/-- Window 0 of the provider BAR0 (R359). -/
def regs0 : List RegDesc := [
  ⟨.REF_IN_CFG, 0x0, 0, 16, 0x4, 1, 0x0, false, [.rwsOnly 0x1F10 0x1F7F]⟩,
  ⟨.REF_IN_PRE, 0x40, 0, 24, 0x4, 1, 0x0, false, [.rwsOnly 0x1 0x3FFFFFF]⟩,
  ⟨.REF_XBAR, 0xC0, 0, 16, 0x4, 1, 0x0, false, [.ro 0x1F]⟩,
  ⟨.REF_SRC_STAT, 0x100, 0, 24, 0x4, 1, 0x0, false, [.ro 0x2]⟩,
  ⟨.REF_APORT_CFG, 0x200, 0, 4, 0x4, 1, 0x0, false, [.rwsOnly 0x140043E 0x1FFFFFFF]⟩,
  ⟨.REF_TOD_CFG, 0x210, 0, 4, 0x4, 1, 0x0, false, [.rwsOnly 0x43E 0x1FFFFFFF]⟩,
  ⟨.REF_TODOUT_CFG, 0x230, 0, 4, 0x4, 1, 0x0, false, [.rwsOnly 0x43E 0xFFFFFFF]⟩,
  ⟨.REF_UART_STAT, 0x250, 0, 8, 0x4, 1, 0x0, false, [.rcOnly 0x0 0xFFFFFFFF]⟩,
  ⟨.REF_APORT_ST, 0x300, 0, 4, 0x10, 1, 0x0, false, List.replicate 4 (.ro 0x0)⟩,
  ⟨.REF_TOD_ST, 0x340, 0, 4, 0x20, 1, 0x0, false, List.replicate 8 (.ro 0x0)⟩]

/-- Window 1 of the provider BAR0 (R359). -/
def regs1 : List RegDesc := [
  ⟨.TIC_STAT, 0x100000, 0, 1, 0x0, 1, 0x0, false, [.ro 0x0]⟩,
  ⟨.TIC_CAL_CFG, 0x100010, 0, 1, 0x0, 1, 0x0, false, [.rwsOnly 0x1460224 0x3FFFFFF]⟩,
  ⟨.TIC_CAL_CFG2, 0x100014, 0, 1, 0x0, 1, 0x0, false, [.rwsOnly 0x7D0A07 0x1FFFFFFF]⟩,
  ⟨.TIC_CH_CFG, 0x100100, 0, 16, 0x4, 1, 0x0, false, [.rwsOnly 0x0 0xF]⟩,
  ⟨.TIC_CH_STAT, 0x100140, 0, 16, 0x4, 1, 0x0, false, [.ro 0x30000]⟩,
  ⟨.TIC_PATH, 0x100180, 0, 16, 0x4, 1, 0x0, false, [.rwsOnly 0x0 0xFFFFFFFF]⟩,
  ⟨.TIC_PNOM, 0x100200, 0, 16, 0x8, 1, 0x0, true, [.rwsOnly 0x0 0xFFFFFFFF, .rwsOnly 0x0 0xFFFFFFFF]⟩,
  ⟨.TIC_FRES, 0x100300, 0, 16, 0x20, 1, 0x0, false, List.replicate 8 (.ro 0x0)⟩,
  ⟨.TIC_STRM, 0x100600, 0, 16, 0x20, 1, 0x0, false, [.rwsOnly 0x0 0xFFFFFFFF, .rwsOnly 0x0 0xFFFFFFFF, .rwsOnly 0x0 0x1F, .ro 0x0, .ro 0x0, .rwOnly 0x0 0xFFFFFFFF, .ro 0x0, .ro 0x0]⟩,
  ⟨.TIC_TRIM, 0x100A00, 0, 16, 0x4, 1, 0x0, false, [.rwpOnly 0x0 0xFFFFFFF]⟩,
  ⟨.TIC_CW, 0x110000, 0, 16, 0x2000, 2048, 0x4, false, [.ro 0x10001000]⟩,
  ⟨.TIC_QWIN, 0x130000, 0, 16, 0x1000, 1, 0x0, false, []⟩]

/-- Window 2 of the provider BAR0 (R359). -/
def regs2 : List RegDesc := [
  ⟨.GNS_STAT, 0x200000, 0, 1, 0x0, 1, 0x0, false, [.ro 0x0]⟩,
  ⟨.GNS_GSI_CFG, 0x200010, 0, 4, 0x4, 1, 0x0, false, [.rwsOnly 0x0 0xFFFFFF]⟩,
  ⟨.GNS_GSI_IF, 0x200020, 0, 4, 0x4, 1, 0x0, false, [.rwsOnly 0x0 0xFFFFFFFF]⟩,
  ⟨.GNS_GSI_STAT, 0x200030, 0, 4, 0x4, 1, 0x0, false, [.ro 0x0]⟩,
  ⟨.GNS_GFE_CMD, 0x200040, 0, 1, 0x0, 1, 0x0, false, [.mix 0x90180 0x0 0x0 0xFF03FE 0x1]⟩,
  ⟨.GNS_GFE_DATA, 0x200044, 0, 1, 0x0, 1, 0x0, false, [.rwpOnly 0x0 0xFFFFFFFF]⟩,
  ⟨.GNS_ANT_CFG, 0x200050, 0, 2, 0x4, 1, 0x0, false, [.rwsOnly 0x64C808 0xFFFFFF]⟩,
  ⟨.GNS_ANT_STAT, 0x200058, 0, 2, 0x4, 1, 0x0, false, [.ro 0x0]⟩,
  ⟨.GNS_TRK_CFG, 0x200060, 0, 1, 0x0, 1, 0x0, false, [.rwsOnly 0x289F419 0x3FFFFFFF]⟩,
  ⟨.GNS_EPOCH_ST, 0x200100, 0, 1, 0x0, 1, 0x0, false, List.replicate 4 (.ro 0x0)⟩,
  ⟨.GNS_SRCH_CFG, 0x200200, 0, 1, 0x0, 1, 0x0, false, [.rwsOnly 0x620A3C01 0xFFFFFFFF]⟩,
  ⟨.GNS_SRCH_CTL, 0x200204, 0, 1, 0x0, 1, 0x0, false, [.w1Only 0x0 0x3]⟩,
  ⟨.GNS_SRCH_STAT, 0x200208, 0, 1, 0x0, 1, 0x0, false, [.ro 0x0]⟩,
  ⟨.GNS_AID_CFG, 0x200220, 0, 1, 0x0, 1, 0x0, false, [.rwsOnly 0x80064 0xFFFFF]⟩,
  ⟨.GNS_POS_CFG, 0x200300, 0, 1, 0x0, 1, 0x0, false, [.rwsOnly 0x283840 0xFFFFFFFF]⟩,
  ⟨.GNS_POS, 0x200310, 0, 3, 0x8, 1, 0x0, true, [.rwsOnly 0x0 0xFFFFFFFF, .rwsOnly 0x0 0xFFFFFFFF]⟩,
  ⟨.GNS_POS_UNC, 0x200328, 0, 1, 0x0, 1, 0x0, false, [.rwsOnly 0xFFFFFFFF 0xFFFFFFFF]⟩,
  ⟨.GNS_ISB, 0x200340, 0, 3, 0x10, 1, 0x0, false, [.rwsOnly 0x0 0x3, .rwsOnly 0x2710 0xFFFFFFFF, .ro 0x0, .ro 0x0]⟩,
  ⟨.GNS_ANT_DLY, 0x200380, 0, 3, 0x8, 1, 0x0, false, [.rwsOnly 0x0 0xFFFFFFFF, .rwsOnly 0xFFFFFFFF 0xFFFFFFFF]⟩,
  ⟨.GNS_DORM_CFG, 0x200400, 0, 1, 0x0, 1, 0x0, false, [.rwsOnly 0x14A2 0x3FFF]⟩,
  ⟨.GNS_SOL, 0x200500, 0, 1, 0x0, 1, 0x0, false, List.replicate 8 (.ro 0x0)⟩,
  ⟨.GNS_CH_CFG, 0x201000, 0, 256, 0x8, 1, 0x0, false, [.rwsOnly 0x80000 0x1FFFFFF, .rwsOnly 0x16432 0x1FFFFF]⟩,
  ⟨.GNS_CH_STAT, 0x201800, 0, 256, 0x4, 1, 0x0, false, [.ro 0x0]⟩,
  ⟨.GNS_MEAS, 0x220000, 0, 2, 0x2000, 256, 0x20, false, List.replicate 8 (.ro 0x0)⟩]

/-- Window 3 of the provider BAR0 (R359). -/
def regs3 : List RegDesc := [
  ⟨.ASY_STAT, 0x300000, 0, 1, 0x0, 1, 0x0, false, [.ro 0xFF00]⟩,
  ⟨.ASY_DISC_CFG, 0x300010, 0, 1, 0x0, 1, 0x0, false, [.rwsOnly 0x200040 0xFFFFFFF]⟩,
  ⟨.ASY_LIMIT, 0x300014, 0, 1, 0x0, 1, 0x0, false, [.rwsOnly 0x44444444 0xFFFFFFFF]⟩,
  ⟨.ASY_PROB_CFG, 0x300018, 0, 1, 0x0, 1, 0x0, false, [.rwsOnly 0x10340 0xFF7FF]⟩,
  ⟨.ASY_CHK_CFG, 0x300020, 0, 1, 0x0, 1, 0x0, false, [.rwsOnly 0x24245 0xFFFFF]⟩,
  ⟨.ASY_TUNE_STEP, 0x300024, 0, 1, 0x0, 1, 0x0, false, [.rwsOnly 0x100 0xFFFFFFFF]⟩,
  ⟨.ASY_REF_CTL, 0x300040, 0, 1, 0x0, 1, 0x0, false, [.rwsOnly 0x0 0x7F]⟩,
  ⟨.ASY_GNSS_ST, 0x300050, 0, 1, 0x0, 1, 0x0, false, [.ro 0x0]⟩,
  ⟨.ASY_REF_CFG, 0x300100, 0, 64, 0x8, 1, 0x0, false, [.rwsOnly 0x0 0xFFF, .rwsOnly 0x640064 0xFFFFFFFF]⟩,
  ⟨.ASY_SRC_CFG, 0x300300, 0, 16, 0x4, 1, 0x0, false, [.rwsOnly 0x0 0xFFFFFFFF]⟩,
  ⟨.ASY_SRC_ST, 0x300340, 0, 16, 0x4, 1, 0x0, false, [.ro 0x0]⟩,
  ⟨.ASY_REF_ST, 0x300400, 0, 64, 0x10, 1, 0x0, false, [.ro 0xFF00] ++ List.replicate 3 (.ro 0x0)⟩,
  ⟨.ASY_CLK_ST, 0x300800, 0, 8, 0x8, 1, 0x0, false, [.ro 0x7F8, .ro 0xFFF]⟩,
  ⟨.ENG_ST, 0x338000, 12, 2, 0x1000, 1, 0x0, false, [.ro 0x0]⟩,
  ⟨.ENG_PC, 0x338004, 12, 2, 0x1000, 1, 0x0, false, [.ro 0x0]⟩,
  ⟨.ENG_CYC, 0x338008, 12, 2, 0x1000, 1, 0x0, false, [.ro 0x0]⟩,
  ⟨.ENG_CYC_MAX, 0x33800C, 12, 2, 0x1000, 1, 0x0, false, [.rcOnly 0x0 0xFFFFF]⟩,
  ⟨.ENG_LOST, 0x338010, 12, 2, 0x1000, 1, 0x0, false, [.ro 0x0]⟩,
  ⟨.ENG_G, 0x338040, 12, 2, 0x1000, 16, 0x4, false, [.ro 0x0]⟩,
  ⟨.ENG_DM_ADDR, 0x338080, 12, 2, 0x1000, 1, 0x0, false, [.rwOnly 0x0 0x3FFC]⟩,
  ⟨.ENG_DM_DATA, 0x338084, 12, 2, 0x1000, 1, 0x0, false, [.ro 0x0]⟩,
  ⟨.ENG_CTL, 0x3380F0, 12, 2, 0x1000, 1, 0x0, false, [.rwsOnly 0x0 0x1]⟩]

/-- Window 4 of the provider BAR0 (R359). -/
def regs4 : List RegDesc := [
  ⟨.TSK_STAT, 0x400000, 0, 1, 0x0, 1, 0x0, false, [.ro 0x20]⟩,
  ⟨.TSK_MODE_CFG, 0x400010, 0, 1, 0x0, 1, 0x0, false, [.rwsOnly 0x0 0x3]⟩,
  ⟨.TSK_LOOP_CFG, 0x400014, 0, 1, 0x0, 1, 0x0, false, [.rwsOnly 0x2D0003E8 0xFFFFFFFF]⟩,
  ⟨.TSK_ENS_CFG, 0x400018, 0, 1, 0x0, 1, 0x0, false, [.rwsOnly 0x15180080 0xFFFFF1FF]⟩,
  ⟨.TSK_FREQ_ADJ, 0x400020, 0, 1, 0x0, 1, 0x0, true, [.ro 0x0, .ro 0x0]⟩,
  ⟨.TSK_FREQ_MAN, 0x400028, 0, 1, 0x0, 1, 0x0, true, [.rwsOnly 0x0 0xFFFFFFFF, .rwsOnly 0x0 0xFFFFFFFF]⟩,
  ⟨.TSK_STEP_LIMIT, 0x400100, 0, 1, 0x0, 1, 0x0, false, [.rwsOnly 0x3E8 0x7FFFFFFF]⟩,
  ⟨.TSK_CAPTURE, 0x400104, 0, 1, 0x0, 1, 0x0, false, [.rwsOnly 0x64 0x7FFFFFFF]⟩,
  ⟨.TSK_STEP_ARM, 0x400110, 0, 1, 0x0, 1, 0x0, false, [.rwsOnly 0x0 0xFFFFFFFF, .rwsOnly 0x0 0x7FFF, .rwsOnly 0x0 0x7FFFFFFF, .rwsOnly 0x0 0x3, .rwsOnly 0x0 0xFFFFFFFF, .rwsOnly 0x0 0xFFFFFFFF]⟩,
  ⟨.TSK_STEP_STAT, 0x400128, 0, 1, 0x0, 1, 0x0, false, List.replicate 5 (.ro 0x0)⟩,
  ⟨.TSK_SLEW_MAX, 0x400140, 0, 1, 0x0, 1, 0x0, false, [.rwsOnly 0x64 0xFFFF]⟩,
  ⟨.TSK_ANNEAL_CMD, 0x400148, 0, 1, 0x0, 1, 0x0, false, [.rwsOnly 0x0 0xFFFFFFFF, .rwsOnly 0x0 0xFFFFFFFF, .rwsOnly 0x0 0x1]⟩,
  ⟨.TSK_ANNEAL_ST, 0x400158, 0, 1, 0x0, 1, 0x0, false, List.replicate 4 (.ro 0x0)⟩,
  ⟨.TSK_JUMP_ST, 0x400170, 0, 1, 0x0, 1, 0x0, false, [.rcOnly 0x0 0xFFFFFFFF]⟩,
  ⟨.TSK_JUMP_LAST, 0x400178, 0, 1, 0x0, 1, 0x0, true, [.ro 0x0, .ro 0x0]⟩,
  ⟨.TSK_HOLD_CFG, 0x400180, 0, 1, 0x0, 1, 0x0, false, [.rwsOnly 0x86102 0xFFFFF]⟩,
  ⟨.TSK_HOLD_TC, 0x400184, 0, 1, 0x0, 1, 0x0, false, [.rwsOnly 0x0 0xFFFFFFFF, .rwsOnly 0x0 0xFFFFFFFF, .rwsOnly 0x0 0xFFFF]⟩,
  ⟨.TSK_HOLD_ST, 0x400190, 0, 1, 0x0, 1, 0x0, false, List.replicate 6 (.ro 0x0)⟩,
  ⟨.TSK_EFC_CFG, 0x4001C0, 0, 1, 0x0, 1, 0x0, false, [.rwsOnly 0xA090050 0xFFFFFF7F]⟩,
  ⟨.TSK_EFC_LIM, 0x4001C4, 0, 1, 0x0, 1, 0x0, false, [.rwsOnly 0x0 0xFFFFFF, .rwsOnly 0xFFFFF 0xFFFFFF, .rwsOnly 0x80000 0xFFFFFF]⟩,
  ⟨.TSK_EFC_GAIN, 0x4001D0, 0, 1, 0x0, 1, 0x0, false, [.rwsOnly 0x0 0xFFFFFFFF]⟩,
  ⟨.TSK_EFC_ST, 0x4001D4, 0, 1, 0x0, 1, 0x0, false, [.ro 0x0]⟩,
  ⟨.TSK_CLK_ST, 0x400200, 0, 8, 0x20, 1, 0x0, false, List.replicate 8 (.ro 0x0)⟩,
  ⟨.TSK_SNAP_NS, 0x400400, 0, 1, 0x0, 1, 0x0, false, [.ro 0x0]⟩,
  ⟨.TSK_SNAP_SEC_LO, 0x400404, 0, 1, 0x0, 1, 0x0, false, [.ro 0x0]⟩,
  ⟨.TSK_SNAP_SEC_HI, 0x400408, 0, 1, 0x0, 1, 0x0, false, [.ro 0x0]⟩,
  ⟨.TSK_SNAP_TEB_LO, 0x40040C, 0, 1, 0x0, 1, 0x0, false, [.ro 0x0]⟩,
  ⟨.TSK_SNAP_TEB_HI, 0x400410, 0, 1, 0x0, 1, 0x0, false, [.ro 0x0]⟩,
  ⟨.TSK_SNAP_TS_NS, 0x400414, 0, 1, 0x0, 1, 0x0, false, [.ro 0x0]⟩,
  ⟨.TSK_SNAP_TS_SEC_LO, 0x400418, 0, 1, 0x0, 1, 0x0, false, [.ro 0x0]⟩,
  ⟨.TSK_SNAP_TS_SEC_HI, 0x40041C, 0, 1, 0x0, 1, 0x0, false, [.ro 0x0]⟩,
  ⟨.TSK_SNAP_CAL_DATE, 0x400420, 0, 1, 0x0, 1, 0x0, false, [.ro 0x0]⟩,
  ⟨.TSK_SNAP_CAL_TIME, 0x400424, 0, 1, 0x0, 1, 0x0, false, [.ro 0x0]⟩,
  ⟨.TSK_SNAP_CTL, 0x400428, 0, 1, 0x0, 1, 0x0, false, [.rwOnly 0x0 0x3]⟩,
  ⟨.TSK_XFORM_STAT, 0x400430, 0, 1, 0x0, 1, 0x0, false, [.rcOnly 0x0 0x3FFF]⟩,
  ⟨.TSK_LEAP_CTL, 0x400800, 0, 1, 0x0, 1, 0x0, false, [.w1Only 0x0 0x1]⟩,
  ⟨.TSK_LEAP_STAT, 0x400804, 0, 1, 0x0, 1, 0x0, false, [.ro 0x0]⟩,
  ⟨.TSK_LEAP_EXPIRY, 0x400808, 0, 1, 0x0, 1, 0x0, false, [.rwOnly 0x0 0x3FFFFF]⟩,
  ⟨.TSK_LEAP_ENT_LO, 0x400900, 0, 64, 0x8, 1, 0x0, false, [.rwOnly 0x0 0x7FFFFF]⟩,
  ⟨.TSK_LEAP_ENT_HI, 0x400904, 0, 64, 0x8, 1, 0x0, false, [.rwOnly 0x0 0xFFFF]⟩,
  ⟨.TSK_TEB, 0x400C00, 0, 1, 0x0, 1, 0x0, false, [.ro 0xFFFFFFFF, .ro 0xFFFF]⟩,
  ⟨.TSK_TEB_FLOAT, 0x400C08, 0, 1, 0x0, 1, 0x0, false, [.ro 0xFFFFFFFF]⟩,
  ⟨.TSK_TEB_TERM, 0x400C10, 0, 4, 0x8, 1, 0x0, true, [.ro 0x0, .ro 0x0]⟩,
  ⟨.TSK_TEB_ST, 0x400C30, 0, 1, 0x0, 1, 0x0, false, [.ro 0x8]⟩,
  ⟨.TSK_TEB_HOLD, 0x400C38, 0, 1, 0x0, 1, 0x0, true, [.ro 0x0, .ro 0x0]⟩,
  ⟨.TSK_TEB_CFG, 0x400C40, 0, 1, 0x0, 1, 0x0, false, [.rwsOnly 0x3201400A 0xFFFFFFFF]⟩,
  ⟨.TSK_TEB_CFG2, 0x400C44, 0, 1, 0x0, 1, 0x0, false, [.rwsOnly 0x33A98 0xFFFFF]⟩,
  ⟨.TSK_TEB_WIRE, 0x400C48, 0, 1, 0x0, 1, 0x0, false, [.rwsOnly 0x2004F5A1 0xFFFFFFFF]⟩,
  ⟨.TSK_TEB_ALARM, 0x400C4C, 0, 1, 0x0, 1, 0x0, false, [.rwsOnly 0xFFFFFFFF 0xFFFFFFFF]⟩,
  ⟨.TSK_TEB_PORT, 0x400C60, 0, 8, 0x4, 1, 0x0, false, [.rwsOnly 0xFFFFFFFF 0xFFFFFFFF]⟩,
  ⟨.TSK_HGC, 0x400C80, 0, 8, 0x10, 1, 0x0, false, List.replicate 4 (.ro 0x0)⟩,
  ⟨.TSK_CLK_CLASS, 0x400D00, 0, 1, 0x0, 1, 0x0, false, [.ro 0x0, .ro 0x0]⟩,
  ⟨.TSK_TEB_CLK, 0x400D10, 0, 8, 0x8, 1, 0x0, true, [.ro 0xFFFFFFFF, .ro 0xFFFFFFFF]⟩,
  ⟨.TSK_XFORM, 0x410000, 0, 1024, 0x10, 1, 0x0, false, [.rwsOnly 0x0 0x7, .rwsOnly 0x15180 0xFFFFF, .rwsOnly 0x0 0xFFFFFFFF, .rwsOnly 0x0 0xFFFFFFFF]⟩,
  ⟨.TSK_TAG, 0x420000, 0, 256, 0x40, 1, 0x0, false, [.rwsOnly 0x0 0x7FFFFF] ++ List.replicate 15 (.rwsOnly 0x0 0xFFFFFFFF)⟩,
  ⟨.ENG_ST, 0x438000, 8, 4, 0x1000, 1, 0x0, false, [.ro 0x0]⟩,
  ⟨.ENG_PC, 0x438004, 8, 4, 0x1000, 1, 0x0, false, [.ro 0x0]⟩,
  ⟨.ENG_CYC, 0x438008, 8, 4, 0x1000, 1, 0x0, false, [.ro 0x0]⟩,
  ⟨.ENG_CYC_MAX, 0x43800C, 8, 4, 0x1000, 1, 0x0, false, [.rcOnly 0x0 0xFFFFF]⟩,
  ⟨.ENG_LOST, 0x438010, 8, 4, 0x1000, 1, 0x0, false, [.ro 0x0]⟩,
  ⟨.ENG_G, 0x438040, 8, 4, 0x1000, 16, 0x4, false, [.ro 0x0]⟩,
  ⟨.ENG_DM_ADDR, 0x438080, 8, 4, 0x1000, 1, 0x0, false, [.rwOnly 0x0 0x3FFC]⟩,
  ⟨.ENG_DM_DATA, 0x438084, 8, 4, 0x1000, 1, 0x0, false, [.ro 0x0]⟩,
  ⟨.ENG_CTL, 0x4380F0, 8, 4, 0x1000, 1, 0x0, false, [.rwsOnly 0x0 0x1]⟩]

/-- Window 5 of the provider BAR0 (R359). -/
def regs5 : List RegDesc := [
  ⟨.SYN_STAT, 0x500000, 0, 1, 0x0, 1, 0x0, false, [.ro 0x0]⟩,
  ⟨.SYN_SPLL_ST, 0x500004, 0, 1, 0x0, 1, 0x0, false, [.ro 0x0]⟩,
  ⟨.SYN_BYP_ST, 0x500008, 0, 1, 0x0, 1, 0x0, false, [.ro 0x0]⟩,
  ⟨.SYN_SYNC_CTL, 0x500010, 0, 1, 0x0, 1, 0x0, false, [.rwsOnly 0x0 0x3FFFFFF]⟩,
  ⟨.SYN_SYNC_ST, 0x500014, 0, 1, 0x0, 1, 0x0, false, List.replicate 3 (.ro 0x0)⟩,
  ⟨.SYN_BURN_CFG, 0x500100, 0, 4, 0x20, 1, 0x0, false, [.rwsOnly 0xF30 0x3FFF, .rwsOnly 0x1 0xFFFFFF, .rwsOnly 0x3E8 0x1FFFFF, .rwsOnly 0x0 0xFFFFFFFF, .rwsOnly 0x0 0xFFFFFFFF, .rwsOnly 0x64 0xFFFFFFFF]⟩,
  ⟨.SYN_BURN_ANA, 0x500200, 0, 4, 0x4, 1, 0x0, false, [.rwpOnly 0x80220 0x3FFFFF]⟩,
  ⟨.SYN_BURN_ST, 0x500240, 0, 4, 0x8, 1, 0x0, false, [.ro 0x0, .ro 0x0]⟩,
  ⟨.OUT_F_CFG, 0x501000, 0, 16, 0x10, 1, 0x0, false, [.rwsOnly 0x0 0x3F, .rwsOnly 0x0 0xFFFFFF, .rwsOnly 0x7D 0xFFFFFFFF, .rwsOnly 0x0 0x3]⟩,
  ⟨.OUT_G_CFG, 0x501200, 0, 8, 0x10, 1, 0x0, false, [.rwsOnly 0x0 0x7FFFFF, .rwsOnly 0x5F5E100 0x3FFFFFFF, .rwsOnly 0x7D 0xFFFFFFFF, .rwsOnly 0x0 0x3]⟩,
  ⟨.OUT_G_DLY, 0x501300, 0, 8, 0x4, 1, 0x0, false, [.rwsOnly 0x0 0xFFFF]⟩,
  ⟨.OUT_TERM, 0x501400, 0, 24, 0x4, 1, 0x0, false, [.rwsOnly 0xFFFFFFFF 0xFFFFFFFF]⟩,
  ⟨.OUT_ST, 0x501480, 0, 24, 0x8, 1, 0x0, false, [.ro 0x0, .ro 0xFFFFFFFF]⟩,
  ⟨.OUT_AES_CFG, 0x502000, 0, 4, 0x40, 1, 0x0, false, [.rwsOnly 0x48 0x3FFFF]⟩,
  ⟨.OUT_AES_ST, 0x502010, 0, 4, 0x40, 1, 0x0, false, [.ro 0x0, .ro 0x0]⟩,
  ⟨.OUT_AES_RXS, 0x502020, 0, 4, 0x40, 1, 0x0, false, List.replicate 4 (.ro 0x0)⟩,
  ⟨.OUT_AES_TXS, 0x502030, 0, 4, 0x40, 1, 0x0, false, List.replicate 4 (.ro 0x0)⟩]

/-- Window 6 of the provider BAR0 (R359). -/
def regs6 : List RegDesc := [
  ⟨.SCH_STAT, 0x600000, 0, 1, 0x0, 1, 0x0, false, [.ro 0x0]⟩,
  ⟨.SCH_STG, 0x600100, 0, 1, 0x0, 1, 0x0, false, List.replicate 8 (.rwOnly 0x0 0xFFFFFFFF)⟩,
  ⟨.SCH_CMD, 0x600120, 0, 1, 0x0, 1, 0x0, false, [.mix 0x0 0x3FFF 0x0 0x0 0x4000]⟩,
  ⟨.SCH_CMD_ST, 0x600124, 0, 1, 0x0, 1, 0x0, false, [.ro 0x0]⟩,
  ⟨.SCH_LATE_ST, 0x600130, 0, 1, 0x0, 1, 0x0, false, List.replicate 4 (.ro 0x0)⟩,
  ⟨.SCH_NEXT, 0x600140, 0, 1, 0x0, 1, 0x0, false, List.replicate 3 (.ro 0x0)⟩,
  ⟨.SCH_TEN_ST, 0x601000, 0, 1024, 0x4, 1, 0x0, false, [.ro 0x0]⟩,
  ⟨.ENG_ST, 0x638000, 14, 1, 0x1000, 1, 0x0, false, [.ro 0x0]⟩,
  ⟨.ENG_PC, 0x638004, 14, 1, 0x1000, 1, 0x0, false, [.ro 0x0]⟩,
  ⟨.ENG_CYC, 0x638008, 14, 1, 0x1000, 1, 0x0, false, [.ro 0x0]⟩,
  ⟨.ENG_CYC_MAX, 0x63800C, 14, 1, 0x1000, 1, 0x0, false, [.rcOnly 0x0 0xFFFFF]⟩,
  ⟨.ENG_LOST, 0x638010, 14, 1, 0x1000, 1, 0x0, false, [.ro 0x0]⟩,
  ⟨.ENG_G, 0x638040, 14, 1, 0x1000, 16, 0x4, false, [.ro 0x0]⟩,
  ⟨.ENG_DM_ADDR, 0x638080, 14, 1, 0x1000, 1, 0x0, false, [.rwOnly 0x0 0x3FFC]⟩,
  ⟨.ENG_DM_DATA, 0x638084, 14, 1, 0x1000, 1, 0x0, false, [.ro 0x0]⟩,
  ⟨.ENG_CTL, 0x6380F0, 14, 1, 0x1000, 1, 0x0, false, [.rwsOnly 0x0 0x1]⟩]

/-- Window 7 of the provider BAR0 (R359). -/
def regs7 : List RegDesc := [
  ⟨.ETH_CFG, 0x700000, 0, 8, 0x4000, 1, 0x0, false, [.rwsOnly 0xBE5EA8 0x7FFFFFF]⟩,
  ⟨.ETH_ST, 0x700004, 0, 8, 0x4000, 1, 0x0, false, [.ro 0x0]⟩,
  ⟨.ETH_SLOT_CFG, 0x700010, 0, 8, 0x4000, 1, 0x0, false, [.rwsOnly 0x27108E6 0xFFF]⟩,
  ⟨.ETH_PAUSE_WD, 0x700014, 0, 8, 0x4000, 1, 0x0, false, [.rwsOnly 0x7D0 0xFFFF]⟩,
  ⟨.ETH_TS_LAT, 0x700018, 0, 8, 0x4000, 1, 0x0, false, [.rwsOnly 0x0 0xFFFFFFFF, .rwsOnly 0x0 0xFFFFFFFF]⟩,
  ⟨.ETH_GRID_ST, 0x700020, 0, 8, 0x4000, 1, 0x0, false, [.ro 0x0]⟩,
  ⟨.ETH_TXTS_POP, 0x700040, 0, 8, 0x4000, 1, 0x0, true, [.ro 0x0, .ro 0x0]⟩,
  ⟨.ETH_TXTS_INFO, 0x700048, 0, 8, 0x4000, 1, 0x0, false, [.ro 0x0, .ro 0x0]⟩,
  ⟨.ETH_TXTS_ST, 0x700050, 0, 8, 0x4000, 1, 0x0, false, [.ro 0x0]⟩,
  ⟨.ETH_UC, 0x700100, 0, 8, 0x4000, 64, 0x8, false, [.rwsOnly 0x0 0xFFFFFFFF, .rwsOnly 0x0 0x1FFFF]⟩,
  ⟨.ETH_HASH, 0x700400, 0, 8, 0x4000, 128, 0x4, false, [.rwsOnly 0x0 0xFFFFFFFF]⟩,
  ⟨.ETH_STATS, 0x701000, 0, 8, 0x4000, 32, 0x8, true, [.rcOnly 0x0 0xFFFFFFFF, .rcOnly 0x0 0xFFFFFFFF]⟩,
  ⟨.ETH_LOOP_CFG, 0x720000, 0, 1, 0x0, 1, 0x0, false, [.rwsOnly 0x4000008 0xFFFF003F]⟩,
  ⟨.ETH_LOOP_FIB, 0x720004, 0, 1, 0x0, 1, 0x0, false, [.rwsOnly 0x0 0xFFFFFFFF, .rwsOnly 0x0 0xFFFFFFFF]⟩,
  ⟨.ETH_LOOP_CTL, 0x72000C, 0, 1, 0x0, 1, 0x0, false, [.w1Only 0x0 0x3]⟩,
  ⟨.ETH_LOOP_ST, 0x720010, 0, 1, 0x0, 1, 0x0, false, List.replicate 8 (.ro 0x0)⟩,
  ⟨.ENG_ST, 0x738000, 0, 8, 0x1000, 1, 0x0, false, [.ro 0x0]⟩,
  ⟨.ENG_PC, 0x738004, 0, 8, 0x1000, 1, 0x0, false, [.ro 0x0]⟩,
  ⟨.ENG_CYC, 0x738008, 0, 8, 0x1000, 1, 0x0, false, [.ro 0x0]⟩,
  ⟨.ENG_CYC_MAX, 0x73800C, 0, 8, 0x1000, 1, 0x0, false, [.rcOnly 0x0 0xFFFFF]⟩,
  ⟨.ENG_LOST, 0x738010, 0, 8, 0x1000, 1, 0x0, false, [.ro 0x0]⟩,
  ⟨.ENG_G, 0x738040, 0, 8, 0x1000, 16, 0x4, false, [.ro 0x0]⟩,
  ⟨.ENG_DM_ADDR, 0x738080, 0, 8, 0x1000, 1, 0x0, false, [.rwOnly 0x0 0x3FFC]⟩,
  ⟨.ENG_DM_DATA, 0x738084, 0, 8, 0x1000, 1, 0x0, false, [.ro 0x0]⟩,
  ⟨.ENG_CTL, 0x7380F0, 0, 8, 0x1000, 1, 0x0, false, [.rwsOnly 0x0 0x1]⟩]

/-- Window 8 of the provider BAR0 (R359). -/
def regs8 : List RegDesc := [
  ⟨.HMK_STAT, 0x800000, 0, 1, 0x0, 1, 0x0, false, [.ro 0x0]⟩,
  ⟨.HMK_PORT_CFG, 0x800010, 0, 8, 0x4, 1, 0x0, false, [.rwsOnly 0x44C 0x1FFF]⟩,
  ⟨.HMK_CLKID, 0x800040, 0, 1, 0x0, 1, 0x0, true, [.rwsOnly 0x0 0xFFFFFC00, .rwsOnly 0x0 0xFFFFFFFF]⟩,
  ⟨.HMK_TAT_LOAD, 0x800100, 0, 1, 0x0, 1, 0x0, false, [.rwOnly 0x0 0xFFFFFFFF, .rwOnly 0x0 0xFFFFFFFF, .mix 0x0 0x3FFE 0x0 0x0 0x1]⟩,
  ⟨.HMK_TAT_ST, 0x80010C, 0, 1, 0x0, 1, 0x0, false, [.ro 0x0]⟩,
  ⟨.HMK_TAT_CTL, 0x800110, 0, 1, 0x0, 1, 0x0, false, [.rwsOnly 0x0 0x1]⟩,
  ⟨.HMK_CT_ST, 0x800200, 0, 1, 0x0, 1, 0x0, false, List.replicate 4 (.ro 0x0)⟩,
  ⟨.HMK_DRAM_CFG, 0x800400, 0, 1, 0x0, 1, 0x0, false, [.rwsOnly 0x218 0xFFFF]⟩,
  ⟨.HMK_DRAM_ST, 0x800410, 0, 2, 0x10, 1, 0x0, false, List.replicate 4 (.ro 0x0)⟩,
  ⟨.HMK_DRAM_LAST, 0x800430, 0, 2, 0x10, 1, 0x0, false, List.replicate 4 (.ro 0x0)⟩,
  ⟨.HMK_STATS, 0x801000, 0, 32, 0x8, 1, 0x0, true, [.rcOnly 0x0 0xFFFFFFFF, .rcOnly 0x0 0xFFFFFFFF]⟩,
  ⟨.HMK_TEN_CFG, 0x810000, 0, 1024, 0x20, 1, 0x0, false, [.rwsOnly 0x0 0x7FFFFFF, .rwsOnly 0x80 0xFFFFFFFF, .rwsOnly 0x8080020 0xFFFFFFFF, .rwsOnly 0x0 0xFFFFFFFF, .rwsOnly 0x3652CA4 0x3FFFFFF, .rwsOnly 0x0 0xFFFFFF, .rwsOnly 0x3E8 0xFFFFFF, .rwsOnly 0x3E84E5D 0xFFFFFFFF]⟩,
  ⟨.HMK_KEY_NEXT, 0x818000, 0, 1024, 0x10, 3, 0x4, false, [.rwsOnly 0x0 0x1FFF]⟩,
  ⟨.HMK_KEY_ST, 0x820000, 0, 1024, 0x40, 3, 0x10, false, List.replicate 4 (.ro 0x0)⟩,
  ⟨.HMK_TEN_ST, 0x830000, 0, 1024, 0x8, 1, 0x0, false, [.ro 0x0, .ro 0x0]⟩,
  ⟨.ENG_ST, 0x838000, 15, 2, 0x1000, 1, 0x0, false, [.ro 0x0]⟩,
  ⟨.ENG_PC, 0x838004, 15, 2, 0x1000, 1, 0x0, false, [.ro 0x0]⟩,
  ⟨.ENG_CYC, 0x838008, 15, 2, 0x1000, 1, 0x0, false, [.ro 0x0]⟩,
  ⟨.ENG_CYC_MAX, 0x83800C, 15, 2, 0x1000, 1, 0x0, false, [.rcOnly 0x0 0xFFFFF]⟩,
  ⟨.ENG_LOST, 0x838010, 15, 2, 0x1000, 1, 0x0, false, [.ro 0x0]⟩,
  ⟨.ENG_G, 0x838040, 15, 2, 0x1000, 16, 0x4, false, [.ro 0x0]⟩,
  ⟨.ENG_DM_ADDR, 0x838080, 15, 2, 0x1000, 1, 0x0, false, [.rwOnly 0x0 0x3FFC]⟩,
  ⟨.ENG_DM_DATA, 0x838084, 15, 2, 0x1000, 1, 0x0, false, [.ro 0x0]⟩,
  ⟨.ENG_CTL, 0x8380F0, 15, 2, 0x1000, 1, 0x0, false, [.rwsOnly 0x0 0x1]⟩]

/-- Window 9 of the provider BAR0 (R359). -/
def regs9 : List RegDesc := [
  ⟨.KVT_STAT, 0x900000, 0, 1, 0x0, 1, 0x0, false, [.ro 0x0]⟩,
  ⟨.KVT_ID, 0x900008, 0, 1, 0x0, 1, 0x0, true, [.ro 0x0, .ro 0x0]⟩,
  ⟨.KVT_PROV_NONCE, 0x900010, 0, 1, 0x0, 1, 0x0, false, List.replicate 4 (.ro 0x0)⟩,
  ⟨.KVT_UPD_CTR, 0x900020, 0, 1, 0x0, 1, 0x0, true, [.rwvOnly 0x0 0xFFFFFFFF, .rwvOnly 0x0 0xFFFFFFFF]⟩,
  ⟨.KVT_TAMPER_CFG, 0x900028, 0, 1, 0x0, 1, 0x0, false, [.rwvOnly 0x7D00C9 0xFF00FF, .rwvOnly 0x0 0xF]⟩,
  ⟨.KVT_TLOG_ST, 0x900030, 0, 1, 0x0, 1, 0x0, false, [.rwvOnly 0x0 0xFFFFFFF]⟩,
  ⟨.KVT_TLOG_ACK, 0x900034, 0, 1, 0x0, 1, 0x0, false, [.rwpOnly 0x0 0xFFFF]⟩,
  ⟨.KVT_PUB, 0x900040, 0, 1, 0x0, 1, 0x0, false, List.replicate 16 (.ro 0x0)⟩,
  ⟨.KVT_TLOG, 0x900100, 0, 16, 0x10, 1, 0x0, false, List.replicate 4 (.rwvOnly 0x0 0xFFFFFFFF)⟩,
  ⟨.KVT_STATS, 0x900200, 0, 8, 0x8, 1, 0x0, true, [.rcOnly 0x0 0xFFFFFFFF, .rcOnly 0x0 0xFFFFFFFF]⟩,
  ⟨.KVT_TEN_ST, 0x910000, 0, 1024, 0x4, 1, 0x0, false, [.ro 0x0]⟩,
  ⟨.KVT_SLOT, 0x920000, 0, 4096, 0x8, 1, 0x0, false, [.ro 0x0, .ro 0x0]⟩,
  ⟨.ENG_ST, 0x938000, 17, 1, 0x1000, 1, 0x0, false, [.ro 0x0]⟩,
  ⟨.ENG_PC, 0x938004, 17, 1, 0x1000, 1, 0x0, false, [.ro 0x0]⟩,
  ⟨.ENG_CYC, 0x938008, 17, 1, 0x1000, 1, 0x0, false, [.ro 0x0]⟩,
  ⟨.ENG_CYC_MAX, 0x93800C, 17, 1, 0x1000, 1, 0x0, false, [.rcOnly 0x0 0xFFFFF]⟩,
  ⟨.ENG_LOST, 0x938010, 17, 1, 0x1000, 1, 0x0, false, [.ro 0x0]⟩,
  ⟨.ENG_G, 0x938040, 17, 1, 0x1000, 16, 0x4, false, [.ro 0x0]⟩,
  ⟨.ENG_DM_ADDR, 0x938080, 17, 1, 0x1000, 1, 0x0, false, [.rwOnly 0x0 0x3FFC]⟩,
  ⟨.ENG_DM_DATA, 0x938084, 17, 1, 0x1000, 1, 0x0, false, [.ro 0x0]⟩,
  ⟨.ENG_CTL, 0x9380F0, 17, 1, 0x1000, 1, 0x0, false, [.rwsOnly 0x0 0x1]⟩]

/-- Window 10 of the provider BAR0 (R359). -/
def regs10 : List RegDesc := [
  ⟨.STR_STAT, 0xA00000, 0, 1, 0x0, 1, 0x0, false, [.ro 0x0]⟩,
  ⟨.STR_LOAD_ST, 0xA00010, 0, 3, 0x4, 1, 0x0, false, [.ro 0x0]⟩,
  ⟨.STR_GEN_LIVE, 0xA00020, 0, 1, 0x0, 1, 0x0, false, [.ro 0x0]⟩,
  ⟨.STR_PUSH, 0xA00030, 0, 1, 0x0, 1, 0x0, false, [.rwOnly 0x0 0xFFFFFFFF, .rwOnly 0x0 0xFFFFFFFF, .rwOnly 0x0 0xFFFFFF, .w1Only 0x0 0x1]⟩,
  ⟨.STR_DIGEST, 0xA00040, 0, 1, 0x0, 1, 0x0, false, List.replicate 8 (.ro 0x0)⟩,
  ⟨.STR_REGION, 0xA00100, 0, 24, 0x10, 1, 0x0, false, List.replicate 4 (.ro 0x0)⟩]

/-- Window 11 of the provider BAR0 (R359). -/
def regs11 : List RegDesc := [
  ⟨.HIF_FEAT_OFFER, 0xB00000, 0, 1, 0x0, 1, 0x0, false, List.replicate 4 (.ro 0x0)⟩,
  ⟨.HIF_FEAT_ACCEPT, 0xB00010, 0, 1, 0x0, 1, 0x0, false, List.replicate 4 (.rwOnly 0x0 0xFFFFFFFF)⟩,
  ⟨.HIF_FEAT_CTL, 0xB00020, 0, 1, 0x0, 1, 0x0, false, [.w1Only 0x0 0x1]⟩,
  ⟨.HIF_FEAT_ST, 0xB00024, 0, 1, 0x0, 1, 0x0, false, [.ro 0x0]⟩,
  ⟨.HIF_VIEW, 0xB00030, 0, 1, 0x0, 1, 0x0, false, [.rwOnly 0x0 0x1]⟩,
  ⟨.HIF_RING, 0xB01000, 0, 1, 0x0, 1, 0x0, false, [.rwOnly 0x0 0xFFFFFFFF, .rwOnly 0x0 0xFFFFFFFF, .rwOnly 0x0 0x10F, .rwOnly 0x0 0xFFFF, .ro 0x0, .rwOnly 0x0 0xFFFFFFFF, .rwOnly 0x0 0xFFFFFFFF, .ro 0x0, .rwOnly 0x0 0xFFFFFFFF, .rwOnly 0x0 0xFFFFFFFF, .rwOnly 0x0 0xFFFF011F, .rwOnly 0x0 0x1FFFF] ++ List.replicate 4 (.ro 0x0)⟩,
  ⟨.TEN_CTL, 0xB10000, 0, 1024, 0x4, 1, 0x0, false, [.rwOnly 0x0 0x1]⟩,
  ⟨.TEN_ST, 0xB11000, 0, 1024, 0x4, 1, 0x0, false, [.ro 0x0]⟩,
  ⟨.TEN_CMD_RATE, 0xB12000, 0, 1024, 0x4, 1, 0x0, false, [.rwOnly 0x100400 0xFFFFFF]⟩,
  ⟨.TEN_QUENCH_RELEASE, 0xB13000, 0, 32, 0x4, 1, 0x0, false, [.rwsOnly 0x0 0xFFFFFFFF]⟩]

/-- Window 12 of the provider BAR0 (R359). -/
def regs12 : List RegDesc := [
  ⟨.GFL_STAT, 0xC00000, 0, 1, 0x0, 1, 0x0, false, [.ro 0x0]⟩,
  ⟨.GFL_AGREE, 0xC00010, 0, 1, 0x0, 1, 0x0, false, [.rwsOnly 0x1388 0xFFFFFF]⟩,
  ⟨.GFL_SHARD_MAP, 0xC00020, 0, 8, 0x4, 1, 0x0, false, [.rwsOnly 0x0 0xFFFFFFFF]⟩,
  ⟨.GFL_REL, 0xC00040, 0, 1, 0x0, 1, 0x0, false, [.rwsOnly 0x0 0xF]⟩,
  ⟨.GFL_SHARD_ST, 0xC00080, 0, 1, 0x0, 1, 0x0, false, List.replicate 4 (.ro 0x0)⟩,
  ⟨.GFL_CFG, 0xC00100, 0, 4, 0x20, 1, 0x0, false, [.rwsOnly 0x4 0x3FF, .rwsOnly 0x0 0xFFFFFFFF, .rwsOnly 0xFFFFFFFF 0xFFFFFFFF, .ro 0x0]⟩,
  ⟨.GFL_ST, 0xC00200, 0, 4, 0x20, 1, 0x0, false, List.replicate 8 (.ro 0x0)⟩,
  ⟨.GFL_TT, 0xC00300, 0, 4, 0x20, 1, 0x0, false, List.replicate 8 (.ro 0x0)⟩,
  ⟨.SEAM_STAT, 0xC10000, 0, 1, 0x0, 1, 0x0, false, [.ro 0x0]⟩,
  ⟨.SEAM_CFG, 0xC10004, 0, 1, 0x0, 1, 0x0, false, [.rwpOnly 0x1F4 0x3FF]⟩,
  ⟨.SEAM_MEMBERS, 0xC10008, 0, 1, 0x0, 1, 0x0, false, [.ro 0x0]⟩,
  ⟨.SEAM_TX_CTL, 0xC10010, 0, 1, 0x0, 1, 0x0, false, [.mix 0x0 0x0 0x0 0x1FFE 0x1]⟩,
  ⟨.SEAM_TX_ST, 0xC10014, 0, 1, 0x0, 1, 0x0, false, [.ro 0x0]⟩,
  ⟨.SEAM_TX_DATA, 0xC10100, 0, 32, 0x4, 1, 0x0, false, [.rwpOnly 0x0 0xFFFFFFFF]⟩,
  ⟨.SEAM_RX_ACK, 0xC10180, 0, 1, 0x0, 1, 0x0, false, [.rwpOnly 0x0 0xFFFF]⟩,
  ⟨.SEAM_RX, 0xC10200, 0, 16, 0x90, 1, 0x0, false, List.replicate 36 (.ro 0x0)⟩,
  ⟨.SEAM_PEER, 0xC11000, 0, 8, 0x40, 1, 0x0, false, List.replicate 16 (.ro 0x0)⟩,
  ⟨.SEAM_PEER_OFS, 0xC11400, 0, 8, 0x20, 8, 0x4, false, [.ro 0x80000000]⟩,
  ⟨.PAIR_STAT, 0xC20000, 0, 1, 0x0, 1, 0x0, false, [.ro 0x4]⟩,
  ⟨.PAIR_CFG, 0xC20010, 0, 1, 0x0, 1, 0x0, false, [.rwsOnly 0x3E88 0xFFFFF]⟩,
  ⟨.PAIR_BOUND_LIMIT, 0xC20014, 0, 1, 0x0, 1, 0x0, false, [.rwsOnly 0xF4240 0xFFFFFFFF]⟩,
  ⟨.PAIR_TRIG, 0xC20020, 0, 1, 0x0, 1, 0x0, false, [.ro 0x0]⟩,
  ⟨.PAIR_INGOT_ST, 0xC20030, 0, 1, 0x0, 1, 0x0, false, [.ro 0x10000] ++ List.replicate 3 (.ro 0x0)⟩,
  ⟨.PAIR_RESYNC_ST, 0xC20040, 0, 1, 0x0, 1, 0x0, false, [.ro 0x0, .ro 0x0]⟩,
  ⟨.PAIR_DRILL_ST, 0xC20050, 0, 1, 0x0, 1, 0x0, false, List.replicate 4 (.ro 0x0)⟩]

/-- Window 13 of the provider BAR0 (R359). -/
def regs13 : List RegDesc := [
  ⟨.OBS_STAT, 0xD00000, 0, 1, 0x0, 1, 0x0, false, [.ro 0x0]⟩,
  ⟨.OBS_LAST_T, 0xD00008, 0, 1, 0x0, 1, 0x0, true, [.ro 0x0, .ro 0x0]⟩,
  ⟨.OBS_SMP_MOD, 0xD00020, 0, 1, 0x0, 1, 0x0, false, [.rwOnly 0x0 0xFFFF]⟩,
  ⟨.OBS_SMP_CFG, 0xD00100, 0, 8, 0x10, 1, 0x0, false, [.rwOnly 0x0 0xFFF, .rwOnly 0x0 0xFFFFFFFF, .ro 0x0, .ro 0x0]⟩,
  ⟨.OBS_SMP_ST, 0xD00180, 0, 8, 0x8, 1, 0x0, false, [.ro 0x0, .ro 0x0]⟩,
  ⟨.OBS_TRC_CFG, 0xD00200, 0, 1, 0x0, 1, 0x0, false, [.rwOnly 0x0 0x7F, .rwOnly 0x3FFE 0xFFFFFFFF]⟩,
  ⟨.OBS_TRC_BASE, 0xD00208, 0, 1, 0x0, 1, 0x0, true, [.rwOnly 0x0 0xFFFFFFFF, .rwOnly 0x0 0xFFFFFFFF]⟩,
  ⟨.OBS_TRC_ST, 0xD00210, 0, 1, 0x0, 1, 0x0, false, List.replicate 4 (.ro 0x0)⟩,
  ⟨.OBS_TRC_RDPTR, 0xD00220, 0, 1, 0x0, 1, 0x0, false, [.rwOnly 0x0 0xFFFFFFFF]⟩,
  ⟨.OBS_CNT, 0xD04000, 0, 2048, 0x8, 1, 0x0, true, [.ro 0x0, .ro 0x0]⟩,
  ⟨.OBS_TRC_WIN, 0xD10000, 0, 1, 0x0, 1, 0x0, false, []⟩,
  ⟨.OBS_TEN_CNT, 0xD20000, 0, 1024, 0x80, 16, 0x8, true, [.ro 0x0, .ro 0x0]⟩]

/-- Window 14 of the provider BAR0 (R359). -/
def regs14 : List RegDesc := [
  ⟨.SYS_UPD_STROBE, 0xE00000, 0, 1, 0x0, 1, 0x0, false, [.w1Only 0x0 0xFF]⟩,
  ⟨.SYS_UPD_ST, 0xE00010, 0, 8, 0x4, 1, 0x0, false, [.ro 0x0]⟩,
  ⟨.SYS_ACC_ERR, 0xE00040, 0, 1, 0x0, 1, 0x0, true, [.rcOnly 0x0 0xFFFFFFFF, .rcOnly 0x0 0x1FFFFFF]⟩,
  ⟨.SYS_POST_LOST, 0xE00048, 0, 1, 0x0, 1, 0x0, false, [.rcOnly 0x0 0xFFFFFFFF]⟩,
  ⟨.SYS_CAP, 0xE00100, 0, 1, 0x0, 1, 0x0, false, List.replicate 3 (.ro 0x0)⟩,
  ⟨.SYS_DATE_LO, 0xE00200, 0, 1, 0x0, 1, 0x0, false, [.rwOnly 0x0 0xFFFFFFF]⟩,
  ⟨.SYS_DATE_HI, 0xE00204, 0, 1, 0x0, 1, 0x0, false, [.rwOnly 0x0 0x3FFF]⟩,
  ⟨.SYS_DATE_NS, 0xE00208, 0, 1, 0x0, 1, 0x0, false, [.rwOnly 0x0 0x3FFFFFFF]⟩,
  ⟨.SYS_DATE_TEB, 0xE0020C, 0, 1, 0x0, 1, 0x0, false, [.rwOnly 0xFFFFFFFF 0xFFFFFFFF]⟩,
  ⟨.SYS_DATE_CTL, 0xE00210, 0, 1, 0x0, 1, 0x0, false, [.mix 0x0 0x3E 0x0 0x0 0x1]⟩,
  ⟨.SYS_DATE_STAT, 0xE00214, 0, 1, 0x0, 1, 0x0, false, [.ro 0x0]⟩,
  ⟨.SYS_PD_CTL, 0xE00300, 0, 1, 0x0, 1, 0x0, false, [.rwsOnly 0x3400000F 0x3FFFFFFF]⟩,
  ⟨.SYS_PD_ST, 0xE00304, 0, 1, 0x0, 1, 0x0, false, [.ro 0x3400000F]⟩,
  ⟨.SYS_PD_FAULT, 0xE00308, 0, 1, 0x0, 1, 0x0, false, [.rcOnly 0x0 0x3FFFFFFF]⟩,
  ⟨.SYS_PD_REF, 0xE0030C, 0, 1, 0x0, 1, 0x0, false, [.ro 0x0]⟩,
  ⟨.SYS_RST_ST, 0xE00310, 0, 1, 0x0, 1, 0x0, false, [.ro 0x0]⟩,
  ⟨.SYS_STRAP, 0xE00314, 0, 1, 0x0, 1, 0x0, false, [.ro 0x0]⟩,
  ⟨.SYS_BOOT_ST, 0xE00320, 0, 1, 0x0, 1, 0x0, false, List.replicate 4 (.ro 0x0)⟩]

/-- The register table of a provider BAR0 window. -/
def regsOf : Nat → List RegDesc
  | 0 => regs0
  | 1 => regs1
  | 2 => regs2
  | 3 => regs3
  | 4 => regs4
  | 5 => regs5
  | 6 => regs6
  | 7 => regs7
  | 8 => regs8
  | 9 => regs9
  | 10 => regs10
  | 11 => regs11
  | 12 => regs12
  | 13 => regs13
  | 14 => regs14
  | _ => []

/-- The address of engine e's register set (R334): offset 0x0003_8000 + 0x1000 n of its block's window. -/
def engBase (e : Nat) : Nat :=
  if e < 8 then 0x738000 + 0x1000 * e
  else if e < 12 then 0x438000 + 0x1000 * (e - 8)
  else if e < 14 then 0x338000 + 0x1000 * (e - 12)
  else if e = 14 then 0x638000
  else if e < 17 then 0x838000 + 0x1000 * (e - 15)
  else 0x938000

/-! ## Field constants: one per field of the register tables. An indexed register's fields take its index. -/
namespace F

abbrev TSK_LEAP_CTL_COMMIT : Fld := ⟨0x400800, 0, 1⟩
abbrev TSK_LEAP_STAT_CODE : Fld := ⟨0x400804, 0, 3⟩
abbrev TSK_LEAP_STAT_BAD_INDEX : Fld := ⟨0x400804, 3, 6⟩
abbrev TSK_LEAP_STAT_PENDING : Fld := ⟨0x400804, 9, 1⟩
abbrev TSK_LEAP_STAT_EXPIRED : Fld := ⟨0x400804, 10, 1⟩
abbrev TSK_LEAP_STAT_COUNT : Fld := ⟨0x400804, 11, 7⟩
abbrev TSK_LEAP_STAT_IN_LIVE : Fld := ⟨0x400804, 18, 1⟩
abbrev TSK_LEAP_EXPIRY_EXP_MJD : Fld := ⟨0x400808, 0, 22⟩
abbrev TSK_LEAP_ENT_LO_DAY_MJD (i : Nat) : Fld := ⟨0x400900 + 0x8 * i, 0, 22⟩
abbrev TSK_LEAP_ENT_LO_NEG (i : Nat) : Fld := ⟨0x400900 + 0x8 * i, 22, 1⟩
abbrev TSK_LEAP_ENT_HI_OFFSET (i : Nat) : Fld := ⟨0x400904 + 0x8 * i, 0, 16⟩
abbrev TSK_XFORM_SCALE (i : Nat) : Fld := ⟨0x410000 + 0x10 * i, 0, 3⟩
abbrev TSK_XFORM_SMEAR_W (i : Nat) : Fld := ⟨0x410004 + 0x10 * i, 0, 20⟩
abbrev TSK_XFORM_OFFSET (i : Nat) : Fld := ⟨0x410008 + 0x10 * i, 0, 64⟩
abbrev TSK_XFORM_STAT_TENANT : Fld := ⟨0x400430, 0, 10⟩
abbrev TSK_XFORM_STAT_CAUSE : Fld := ⟨0x400430, 10, 3⟩
abbrev TSK_XFORM_STAT_VALID : Fld := ⟨0x400430, 13, 1⟩
abbrev SYS_DATE_LO_SEC : Fld := ⟨0xE00200, 0, 6⟩
abbrev SYS_DATE_LO_MIN : Fld := ⟨0xE00200, 6, 6⟩
abbrev SYS_DATE_LO_HOUR : Fld := ⟨0xE00200, 12, 5⟩
abbrev SYS_DATE_LO_DAY : Fld := ⟨0xE00200, 17, 5⟩
abbrev SYS_DATE_LO_MONTH : Fld := ⟨0xE00200, 22, 4⟩
abbrev SYS_DATE_LO_SCALE : Fld := ⟨0xE00200, 26, 2⟩
abbrev SYS_DATE_HI_YEAR : Fld := ⟨0xE00204, 0, 14⟩
abbrev SYS_DATE_NS_NS : Fld := ⟨0xE00208, 0, 30⟩
abbrev SYS_DATE_TEB_TEB : Fld := ⟨0xE0020C, 0, 32⟩
abbrev SYS_DATE_CTL_GO : Fld := ⟨0xE00210, 0, 1⟩
abbrev SYS_DATE_CTL_MARK : Fld := ⟨0xE00210, 1, 1⟩
abbrev SYS_DATE_CTL_MARK_CH : Fld := ⟨0xE00210, 2, 4⟩
abbrev SYS_DATE_STAT_CODE : Fld := ⟨0xE00214, 0, 4⟩
abbrev SYS_DATE_STAT_PENDING : Fld := ⟨0xE00214, 4, 1⟩
abbrev SYS_DATE_STAT_EXPIRED : Fld := ⟨0xE00214, 5, 1⟩
abbrev TSK_SNAP_NS_NS : Fld := ⟨0x400400, 0, 30⟩
abbrev TSK_SNAP_SEC_LO_SEC_LO : Fld := ⟨0x400404, 0, 32⟩
abbrev TSK_SNAP_SEC_HI_SEC_HI : Fld := ⟨0x400408, 0, 16⟩
abbrev TSK_SNAP_SEC_HI_FRAC : Fld := ⟨0x400408, 16, 16⟩
abbrev TSK_SNAP_TEB_LO_TEB_LO : Fld := ⟨0x40040C, 0, 32⟩
abbrev TSK_SNAP_TEB_HI_TEB_HI : Fld := ⟨0x400410, 0, 16⟩
abbrev TSK_SNAP_TEB_HI_SRC_TAG : Fld := ⟨0x400410, 16, 16⟩
abbrev TSK_SNAP_TS_NS_NS : Fld := ⟨0x400414, 0, 30⟩
abbrev TSK_SNAP_TS_SEC_LO_SEC_LO : Fld := ⟨0x400418, 0, 32⟩
abbrev TSK_SNAP_TS_SEC_HI_SEC_HI : Fld := ⟨0x40041C, 0, 16⟩
abbrev TSK_SNAP_TS_SEC_HI_SCALE : Fld := ⟨0x40041C, 16, 3⟩
abbrev TSK_SNAP_TS_SEC_HI_SMEARING : Fld := ⟨0x40041C, 19, 1⟩
abbrev TSK_SNAP_TS_SEC_HI_LEAP60 : Fld := ⟨0x40041C, 20, 1⟩
abbrev TSK_SNAP_CAL_DATE_YEAR : Fld := ⟨0x400420, 0, 14⟩
abbrev TSK_SNAP_CAL_DATE_MONTH : Fld := ⟨0x400420, 14, 4⟩
abbrev TSK_SNAP_CAL_DATE_DAY : Fld := ⟨0x400420, 18, 5⟩
abbrev TSK_SNAP_CAL_DATE_WEEKDAY : Fld := ⟨0x400420, 23, 3⟩
abbrev TSK_SNAP_CAL_TIME_SEC : Fld := ⟨0x400424, 0, 6⟩
abbrev TSK_SNAP_CAL_TIME_MIN : Fld := ⟨0x400424, 6, 6⟩
abbrev TSK_SNAP_CAL_TIME_HOUR : Fld := ⟨0x400424, 12, 5⟩
abbrev TSK_SNAP_CAL_TIME_CAL_SCALE : Fld := ⟨0x400424, 17, 2⟩
abbrev TSK_SNAP_CAL_TIME_CAL_RANGE : Fld := ⟨0x400424, 19, 1⟩
abbrev TSK_SNAP_CAL_TIME_PROVISIONAL : Fld := ⟨0x400424, 20, 1⟩
abbrev TSK_SNAP_CAL_TIME_LEAP_EXPIRED : Fld := ⟨0x400424, 21, 1⟩
abbrev TSK_SNAP_CTL_CAL_SCALE : Fld := ⟨0x400428, 0, 2⟩
abbrev REF_IN_CFG_EN (i : Nat) : Fld := ⟨0x0 + 0x4 * i, 0, 1⟩
abbrev REF_IN_CFG_MODE (i : Nat) : Fld := ⟨0x0 + 0x4 * i, 1, 3⟩
abbrev REF_IN_CFG_TERM (i : Nat) : Fld := ⟨0x0 + 0x4 * i, 4, 1⟩
abbrev REF_IN_CFG_KIND (i : Nat) : Fld := ⟨0x0 + 0x4 * i, 5, 2⟩
abbrev REF_IN_CFG_LOS_EXP (i : Nat) : Fld := ⟨0x0 + 0x4 * i, 8, 5⟩
abbrev REF_IN_PRE_DIV (i : Nat) : Fld := ⟨0x40 + 0x4 * i, 0, 24⟩
abbrev REF_IN_PRE_EDGE (i : Nat) : Fld := ⟨0x40 + 0x4 * i, 24, 2⟩
abbrev REF_XBAR_SRC (i : Nat) : Fld := ⟨0xC0 + 0x4 * i, 0, 5⟩
abbrev REF_SRC_STAT_PRESENT (i : Nat) : Fld := ⟨0x100 + 0x4 * i, 0, 1⟩
abbrev REF_SRC_STAT_LOS (i : Nat) : Fld := ⟨0x100 + 0x4 * i, 1, 1⟩
abbrev REF_SRC_STAT_MODE_REFUSED (i : Nat) : Fld := ⟨0x100 + 0x4 * i, 2, 1⟩
abbrev REF_SRC_STAT_ROUTED (i : Nat) : Fld := ⟨0x100 + 0x4 * i, 3, 1⟩
abbrev REF_SRC_STAT_EDGES (i : Nat) : Fld := ⟨0x100 + 0x4 * i, 16, 16⟩
abbrev REF_APORT_CFG_EN (i : Nat) : Fld := ⟨0x200 + 0x4 * i, 0, 1⟩
abbrev REF_APORT_CFG_DIV (i : Nat) : Fld := ⟨0x200 + 0x4 * i, 1, 16⟩
abbrev REF_APORT_CFG_PARITY (i : Nat) : Fld := ⟨0x200 + 0x4 * i, 17, 2⟩
abbrev REF_APORT_CFG_STOP2 (i : Nat) : Fld := ⟨0x200 + 0x4 * i, 19, 1⟩
abbrev REF_APORT_CFG_DATA7 (i : Nat) : Fld := ⟨0x200 + 0x4 * i, 20, 1⟩
abbrev REF_APORT_CFG_TMO (i : Nat) : Fld := ⟨0x200 + 0x4 * i, 21, 8⟩
abbrev REF_TOD_CFG_UART (i : Nat) : Fld := ⟨0x210 + 0x4 * i, 0, 21⟩
abbrev REF_TOD_CFG_SRC (i : Nat) : Fld := ⟨0x210 + 0x4 * i, 21, 1⟩
abbrev REF_TOD_CFG_PPS_IN (i : Nat) : Fld := ⟨0x210 + 0x4 * i, 22, 4⟩
abbrev REF_TOD_CFG_REFERS (i : Nat) : Fld := ⟨0x210 + 0x4 * i, 26, 1⟩
abbrev REF_TOD_CFG_IRIG_SCALE (i : Nat) : Fld := ⟨0x210 + 0x4 * i, 27, 2⟩
abbrev REF_TODOUT_CFG_UART (i : Nat) : Fld := ⟨0x230 + 0x4 * i, 0, 21⟩
abbrev REF_TODOUT_CFG_ASCII (i : Nat) : Fld := ⟨0x230 + 0x4 * i, 21, 1⟩
abbrev REF_TODOUT_CFG_SCALE (i : Nat) : Fld := ⟨0x230 + 0x4 * i, 22, 2⟩
abbrev REF_TODOUT_CFG_REFERS (i : Nat) : Fld := ⟨0x230 + 0x4 * i, 24, 1⟩
abbrev REF_TODOUT_CFG_GOUT (i : Nat) : Fld := ⟨0x230 + 0x4 * i, 25, 3⟩
abbrev REF_UART_STAT_FRAMING (i : Nat) : Fld := ⟨0x250 + 0x4 * i, 0, 8⟩
abbrev REF_UART_STAT_PARITY (i : Nat) : Fld := ⟨0x250 + 0x4 * i, 8, 8⟩
abbrev REF_UART_STAT_OVERRUN (i : Nat) : Fld := ⟨0x250 + 0x4 * i, 16, 8⟩
abbrev REF_UART_STAT_CHECK (i : Nat) : Fld := ⟨0x250 + 0x4 * i, 24, 8⟩
abbrev REF_APORT_ST_LOCK (i : Nat) : Fld := ⟨0x300 + 0x10 * i, 0, 1⟩
abbrev REF_APORT_ST_ALARM (i : Nat) : Fld := ⟨0x300 + 0x10 * i, 1, 1⟩
abbrev REF_APORT_ST_VALID (i : Nat) : Fld := ⟨0x300 + 0x10 * i, 2, 1⟩
abbrev REF_APORT_ST_STALE (i : Nat) : Fld := ⟨0x300 + 0x10 * i, 3, 1⟩
abbrev REF_APORT_ST_TEMP (i : Nat) : Fld := ⟨0x300 + 0x10 * i, 16, 16⟩
abbrev REF_APORT_ST_TUNE (i : Nat) : Fld := ⟨0x304 + 0x10 * i, 0, 32⟩
abbrev REF_APORT_ST_MSG_TIME (i : Nat) : Fld := ⟨0x308 + 0x10 * i, 0, 64⟩
abbrev REF_TOD_ST_RECORD (i : Nat) : Fld := ⟨0x340 + 0x20 * i, 0, 256⟩
abbrev TIC_STAT_BUSY : Fld := ⟨0x100000, 0, 1⟩
abbrev TIC_CAL_CFG_HEXP : Fld := ⟨0x100010, 0, 3⟩
abbrev TIC_CAL_CFG_MAXR : Fld := ⟨0x100010, 3, 3⟩
abbrev TIC_CAL_CFG_ZMAX : Fld := ⟨0x100010, 6, 8⟩
abbrev TIC_CAL_CFG_CDC_MAXAGE : Fld := ⟨0x100010, 14, 8⟩
abbrev TIC_CAL_CFG_CDC_DT : Fld := ⟨0x100010, 22, 4⟩
abbrev TIC_CAL_CFG2_PATH_MAXAGE : Fld := ⟨0x100014, 0, 8⟩
abbrev TIC_CAL_CFG2_PATH_DT : Fld := ⟨0x100014, 8, 5⟩
abbrev TIC_CAL_CFG2_PATH_RETRY : Fld := ⟨0x100014, 13, 16⟩
abbrev TIC_CH_CFG_EN (i : Nat) : Fld := ⟨0x100100 + 0x4 * i, 0, 1⟩
abbrev TIC_CH_CFG_QMODE (i : Nat) : Fld := ⟨0x100100 + 0x4 * i, 1, 2⟩
abbrev TIC_CH_CFG_FREQ_EN (i : Nat) : Fld := ⟨0x100100 + 0x4 * i, 3, 1⟩
abbrev TIC_CH_STAT_FILL (i : Nat) : Fld := ⟨0x100140 + 0x4 * i, 0, 15⟩
abbrev TIC_CH_STAT_OVF (i : Nat) : Fld := ⟨0x100140 + 0x4 * i, 15, 1⟩
abbrev TIC_CH_STAT_CSTALE (i : Nat) : Fld := ⟨0x100140 + 0x4 * i, 16, 1⟩
abbrev TIC_CH_STAT_PSTALE (i : Nat) : Fld := ⟨0x100140 + 0x4 * i, 17, 1⟩
abbrev TIC_CH_STAT_CAL_BLOCKED (i : Nat) : Fld := ⟨0x100140 + 0x4 * i, 18, 1⟩
abbrev TIC_CH_STAT_CDC_REJECT (i : Nat) : Fld := ⟨0x100140 + 0x4 * i, 19, 1⟩
abbrev TIC_CH_STAT_CAL_ACTIVE (i : Nat) : Fld := ⟨0x100140 + 0x4 * i, 20, 1⟩
abbrev TIC_CH_STAT_CALGEN (i : Nat) : Fld := ⟨0x100140 + 0x4 * i, 21, 4⟩
abbrev TIC_CH_STAT_CAL_SKIP (i : Nat) : Fld := ⟨0x100140 + 0x4 * i, 25, 1⟩
abbrev TIC_CH_STAT_PATH_REJECT (i : Nat) : Fld := ⟨0x100140 + 0x4 * i, 26, 1⟩
abbrev TIC_PATH_PATH (i : Nat) : Fld := ⟨0x100180 + 0x4 * i, 0, 32⟩
abbrev TIC_PNOM_PNOM (i : Nat) : Fld := ⟨0x100200 + 0x8 * i, 0, 64⟩
abbrev TIC_FRES_YFREQ (i : Nat) : Fld := ⟨0x100300 + 0x20 * i, 0, 64⟩
abbrev TIC_FRES_NPTS (i : Nat) : Fld := ⟨0x100308 + 0x20 * i, 0, 64⟩
abbrev TIC_FRES_GEND (i : Nat) : Fld := ⟨0x100310 + 0x20 * i, 0, 64⟩
abbrev TIC_FRES_RESID (i : Nat) : Fld := ⟨0x100318 + 0x20 * i, 0, 32⟩
abbrev TIC_FRES_VALID (i : Nat) : Fld := ⟨0x10031C + 0x20 * i, 0, 1⟩
abbrev TIC_FRES_STEP (i : Nat) : Fld := ⟨0x10031C + 0x20 * i, 1, 1⟩
abbrev TIC_FRES_SLEW (i : Nat) : Fld := ⟨0x10031C + 0x20 * i, 2, 1⟩
abbrev TIC_FRES_CALGAP (i : Nat) : Fld := ⟨0x10031C + 0x20 * i, 3, 1⟩
abbrev TIC_FRES_PROV (i : Nat) : Fld := ⟨0x10031C + 0x20 * i, 4, 1⟩
abbrev TIC_FRES_LONG (i : Nat) : Fld := ⟨0x10031C + 0x20 * i, 5, 1⟩
abbrev TIC_FRES_SAT (i : Nat) : Fld := ⟨0x10031C + 0x20 * i, 6, 1⟩
abbrev TIC_FRES_SEQ (i : Nat) : Fld := ⟨0x10031C + 0x20 * i, 24, 8⟩
abbrev TIC_STRM_BASE (i : Nat) : Fld := ⟨0x100600 + 0x20 * i, 0, 64⟩
abbrev TIC_STRM_LOG2 (i : Nat) : Fld := ⟨0x100608 + 0x20 * i, 0, 5⟩
abbrev TIC_STRM_HEAD (i : Nat) : Fld := ⟨0x100610 + 0x20 * i, 0, 32⟩
abbrev TIC_STRM_TAIL (i : Nat) : Fld := ⟨0x100614 + 0x20 * i, 0, 32⟩
abbrev TIC_TRIM_ICHG (i : Nat) : Fld := ⟨0x100A00 + 0x4 * i, 0, 12⟩
abbrev TIC_TRIM_INJ_DLY (i : Nat) : Fld := ⟨0x100A00 + 0x4 * i, 12, 12⟩
abbrev TIC_TRIM_RING (i : Nat) : Fld := ⟨0x100A00 + 0x4 * i, 24, 4⟩
abbrev TIC_CW_W (i j : Nat) : Fld := ⟨0x110000 + 0x2000 * i + 4 * (j / 2), 16 * (j % 2), 16⟩
abbrev GNS_STAT_BUSY : Fld := ⟨0x200000, 0, 1⟩
abbrev GNS_STAT_SRCH_RUN : Fld := ⟨0x200000, 1, 1⟩
abbrev GNS_STAT_DORMANT : Fld := ⟨0x200000, 2, 1⟩
abbrev GNS_STAT_SOL_VALID : Fld := ⟨0x200000, 3, 1⟩
abbrev GNS_STAT_POS_REFUSED : Fld := ⟨0x200000, 4, 1⟩
abbrev GNS_GSI_CFG_EN (i : Nat) : Fld := ⟨0x200010 + 0x4 * i, 0, 1⟩
abbrev GNS_GSI_CFG_FMT (i : Nat) : Fld := ⟨0x200010 + 0x4 * i, 1, 1⟩
abbrev GNS_GSI_CFG_SWAP_IQ (i : Nat) : Fld := ⟨0x200010 + 0x4 * i, 2, 1⟩
abbrev GNS_GSI_CFG_INV_Q (i : Nat) : Fld := ⟨0x200010 + 0x4 * i, 3, 1⟩
abbrev GNS_GSI_CFG_RATE_KHZ (i : Nat) : Fld := ⟨0x200010 + 0x4 * i, 4, 17⟩
abbrev GNS_GSI_CFG_BAND (i : Nat) : Fld := ⟨0x200010 + 0x4 * i, 21, 2⟩
abbrev GNS_GSI_CFG_ANT (i : Nat) : Fld := ⟨0x200010 + 0x4 * i, 23, 1⟩
abbrev GNS_GSI_IF_IF_HZ (i : Nat) : Fld := ⟨0x200020 + 0x4 * i, 0, 32⟩
abbrev GNS_GSI_STAT_CLK_OK (i : Nat) : Fld := ⟨0x200030 + 0x4 * i, 0, 1⟩
abbrev GNS_GSI_STAT_RATE_ERR (i : Nat) : Fld := ⟨0x200030 + 0x4 * i, 1, 1⟩
abbrev GNS_GSI_STAT_SAT (i : Nat) : Fld := ⟨0x200030 + 0x4 * i, 2, 8⟩
abbrev GNS_GSI_STAT_MEAS_KHZ (i : Nat) : Fld := ⟨0x200030 + 0x4 * i, 10, 17⟩
abbrev GNS_GFE_CMD_GO : Fld := ⟨0x200040, 0, 1⟩
abbrev GNS_GFE_CMD_CS : Fld := ⟨0x200040, 1, 2⟩
abbrev GNS_GFE_CMD_RD : Fld := ⟨0x200040, 3, 1⟩
abbrev GNS_GFE_CMD_NBITS : Fld := ⟨0x200040, 4, 6⟩
abbrev GNS_GFE_CMD_SCLK_DIV : Fld := ⟨0x200040, 16, 8⟩
abbrev GNS_GFE_DATA_DATA : Fld := ⟨0x200044, 0, 32⟩
abbrev GNS_ANT_CFG_EN (i : Nat) : Fld := ⟨0x200050 + 0x4 * i, 0, 1⟩
abbrev GNS_ANT_CFG_I_OPEN (i : Nat) : Fld := ⟨0x200050 + 0x4 * i, 1, 7⟩
abbrev GNS_ANT_CFG_I_SHORT (i : Nat) : Fld := ⟨0x200050 + 0x4 * i, 8, 8⟩
abbrev GNS_ANT_CFG_SETTLE (i : Nat) : Fld := ⟨0x200050 + 0x4 * i, 16, 8⟩
abbrev GNS_ANT_STAT_STATE (i : Nat) : Fld := ⟨0x200058 + 0x4 * i, 0, 2⟩
abbrev GNS_ANT_STAT_DLY_UNCONF (i : Nat) : Fld := ⟨0x200058 + 0x4 * i, 2, 1⟩
abbrev GNS_ANT_STAT_CURRENT (i : Nat) : Fld := ⟨0x200058 + 0x4 * i, 3, 13⟩
abbrev GNS_ANT_STAT_CHANGES (i : Nat) : Fld := ⟨0x200058 + 0x4 * i, 16, 8⟩
abbrev GNS_TRK_CFG_CN0_LOSS : Fld := ⟨0x200060, 0, 8⟩
abbrev GNS_TRK_CFG_PULL_MS : Fld := ⟨0x200060, 8, 10⟩
abbrev GNS_TRK_CFG_COAST_S : Fld := ⟨0x200060, 18, 4⟩
abbrev GNS_TRK_CFG_ALL_LOST_S : Fld := ⟨0x200060, 22, 8⟩
abbrev GNS_EPOCH_ST_T : Fld := ⟨0x200100, 0, 64⟩
abbrev GNS_EPOCH_ST_SEQ : Fld := ⟨0x200108, 0, 32⟩
abbrev GNS_EPOCH_ST_BANK : Fld := ⟨0x20010C, 0, 1⟩
abbrev GNS_EPOCH_ST_NVALID : Fld := ⟨0x20010C, 1, 9⟩
abbrev GNS_EPOCH_ST_SKIPPED : Fld := ⟨0x20010C, 10, 8⟩
abbrev GNS_EPOCH_ST_PROV : Fld := ⟨0x20010C, 18, 1⟩
abbrev GNS_SRCH_CFG_SIGS : Fld := ⟨0x200200, 0, 8⟩
abbrev GNS_SRCH_CFG_DOPP : Fld := ⟨0x200200, 8, 8⟩
abbrev GNS_SRCH_CFG_BIN : Fld := ⟨0x200200, 16, 6⟩
abbrev GNS_SRCH_CFG_NONCOH : Fld := ⟨0x200200, 22, 4⟩
abbrev GNS_SRCH_CFG_THR : Fld := ⟨0x200200, 26, 6⟩
abbrev GNS_SRCH_CTL_START : Fld := ⟨0x200204, 0, 1⟩
abbrev GNS_SRCH_CTL_ABORT : Fld := ⟨0x200204, 1, 1⟩
abbrev GNS_SRCH_STAT_STATE : Fld := ⟨0x200208, 0, 2⟩
abbrev GNS_SRCH_STAT_CAUSE : Fld := ⟨0x200208, 2, 2⟩
abbrev GNS_SRCH_STAT_DET : Fld := ⟨0x200208, 4, 8⟩
abbrev GNS_SRCH_STAT_ABORTS : Fld := ⟨0x200208, 12, 8⟩
abbrev GNS_SRCH_STAT_DROP : Fld := ⟨0x200208, 20, 8⟩
abbrev GNS_AID_CFG_AID_TEB_MAX : Fld := ⟨0x200220, 0, 16⟩
abbrev GNS_AID_CFG_AID_PASSES : Fld := ⟨0x200220, 16, 4⟩
abbrev GNS_POS_CFG_MODE : Fld := ⟨0x200300, 0, 2⟩
abbrev GNS_POS_CFG_SURVEY_MIN : Fld := ⟨0x200300, 2, 16⟩
abbrev GNS_POS_CFG_SURVEY_UNC : Fld := ⟨0x200300, 18, 10⟩
abbrev GNS_POS_CFG_SOL_MIN : Fld := ⟨0x200300, 28, 4⟩
abbrev GNS_POS_COORD (i : Nat) : Fld := ⟨0x200310 + 0x8 * i, 0, 64⟩
abbrev GNS_POS_UNC_UNC : Fld := ⟨0x200328, 0, 32⟩
abbrev GNS_ISB_MODE (i : Nat) : Fld := ⟨0x200340 + 0x10 * i, 0, 2⟩
abbrev GNS_ISB_UNC (i : Nat) : Fld := ⟨0x200344 + 0x10 * i, 0, 32⟩
abbrev GNS_ISB_VALUE (i : Nat) : Fld := ⟨0x200348 + 0x10 * i, 0, 32⟩
abbrev GNS_ANT_DLY_DLY (i : Nat) : Fld := ⟨0x200380 + 0x8 * i, 0, 32⟩
abbrev GNS_ANT_DLY_UNC (i : Nat) : Fld := ⟨0x200384 + 0x8 * i, 0, 32⟩
abbrev GNS_DORM_CFG_EN : Fld := ⟨0x200400, 0, 1⟩
abbrev GNS_DORM_CFG_STBY : Fld := ⟨0x200400, 1, 1⟩
abbrev GNS_DORM_CFG_BURST_MS : Fld := ⟨0x200400, 2, 6⟩
abbrev GNS_DORM_CFG_LEAD_MS : Fld := ⟨0x200400, 8, 6⟩
abbrev GNS_SOL_OFFSET : Fld := ⟨0x200500, 0, 64⟩
abbrev GNS_SOL_T : Fld := ⟨0x200508, 0, 64⟩
abbrev GNS_SOL_CLAIM : Fld := ⟨0x200510, 0, 32⟩
abbrev GNS_SOL_NSV : Fld := ⟨0x200514, 0, 8⟩
abbrev GNS_SOL_VALID : Fld := ⟨0x200514, 8, 1⟩
abbrev GNS_SOL_SURVEYING : Fld := ⟨0x200514, 9, 1⟩
abbrev GNS_SOL_DUAL : Fld := ⟨0x200514, 10, 1⟩
abbrev GNS_SOL_RESID : Fld := ⟨0x200518, 0, 32⟩
abbrev GNS_SOL_SEQ : Fld := ⟨0x20051C, 0, 32⟩
abbrev GNS_CH_CFG_EN (i : Nat) : Fld := ⟨0x201000 + 0x8 * i, 0, 1⟩
abbrev GNS_CH_CFG_AUTO (i : Nat) : Fld := ⟨0x201000 + 0x8 * i, 1, 1⟩
abbrev GNS_CH_CFG_SIG (i : Nat) : Fld := ⟨0x201000 + 0x8 * i, 2, 4⟩
abbrev GNS_CH_CFG_SVID (i : Nat) : Fld := ⟨0x201000 + 0x8 * i, 6, 6⟩
abbrev GNS_CH_CFG_GSI (i : Nat) : Fld := ⟨0x201000 + 0x8 * i, 12, 2⟩
abbrev GNS_CH_CFG_SPACING (i : Nat) : Fld := ⟨0x201000 + 0x8 * i, 14, 7⟩
abbrev GNS_CH_CFG_FCN (i : Nat) : Fld := ⟨0x201000 + 0x8 * i, 21, 4⟩
abbrev GNS_CH_CFG_DLL_BW (i : Nat) : Fld := ⟨0x201004 + 0x8 * i, 0, 8⟩
abbrev GNS_CH_CFG_PLL_BW (i : Nat) : Fld := ⟨0x201004 + 0x8 * i, 8, 8⟩
abbrev GNS_CH_CFG_TCOH (i : Nat) : Fld := ⟨0x201004 + 0x8 * i, 16, 5⟩
abbrev GNS_CH_STAT_STATE (i : Nat) : Fld := ⟨0x201800 + 0x4 * i, 0, 3⟩
abbrev GNS_CH_STAT_CFG_ERR (i : Nat) : Fld := ⟨0x201800 + 0x4 * i, 3, 1⟩
abbrev GNS_CH_STAT_DUP (i : Nat) : Fld := ⟨0x201800 + 0x4 * i, 4, 1⟩
abbrev GNS_CH_STAT_SIG (i : Nat) : Fld := ⟨0x201800 + 0x4 * i, 5, 4⟩
abbrev GNS_CH_STAT_SVID (i : Nat) : Fld := ⟨0x201800 + 0x4 * i, 9, 6⟩
abbrev GNS_CH_STAT_CN0 (i : Nat) : Fld := ⟨0x201800 + 0x4 * i, 15, 10⟩
abbrev GNS_CH_STAT_BITSYNC (i : Nat) : Fld := ⟨0x201800 + 0x4 * i, 25, 1⟩
abbrev GNS_MEAS_RECORD (i j : Nat) : Fld := ⟨0x220000 + 0x2000 * i + 0x20 * j, 0, 256⟩
abbrev ASY_STAT_CFG_REFUSED : Fld := ⟨0x300000, 0, 1⟩
abbrev ASY_STAT_ENG0_RUN : Fld := ⟨0x300000, 1, 1⟩
abbrev ASY_STAT_ENG1_RUN : Fld := ⟨0x300000, 2, 1⟩
abbrev ASY_STAT_SPOOF_FAULT : Fld := ⟨0x300000, 3, 1⟩
abbrev ASY_STAT_TOP : Fld := ⟨0x300000, 8, 8⟩
abbrev ASY_DISC_CFG_WIN : Fld := ⟨0x300010, 0, 12⟩
abbrev ASY_DISC_CFG_HOLDOFF : Fld := ⟨0x300010, 12, 16⟩
abbrev ASY_LIMIT_LIMIT (c : Nat) : Fld := ⟨0x300014, 0 + 4 * c, 4⟩
abbrev ASY_PROB_CFG_PROB_WT : Fld := ⟨0x300018, 0, 8⟩
abbrev ASY_PROB_CFG_BACKOFF_MAX : Fld := ⟨0x300018, 8, 3⟩
abbrev ASY_PROB_CFG_ENTRY : Fld := ⟨0x300018, 12, 8⟩
abbrev ASY_CHK_CFG_OUT_K : Fld := ⟨0x300020, 0, 4⟩
abbrev ASY_CHK_CFG_SPOOF_K : Fld := ⟨0x300020, 4, 4⟩
abbrev ASY_CHK_CFG_PJ_AGREE : Fld := ⟨0x300020, 8, 4⟩
abbrev ASY_CHK_CFG_RANK_HYST : Fld := ⟨0x300020, 12, 4⟩
abbrev ASY_CHK_CFG_RAIM_MAXEXCL : Fld := ⟨0x300020, 16, 4⟩
abbrev ASY_TUNE_STEP_TUNE_STEP : Fld := ⟨0x300024, 0, 32⟩
abbrev ASY_REF_CTL_REF : Fld := ⟨0x300040, 0, 6⟩
abbrev ASY_REF_CTL_CLEAR : Fld := ⟨0x300040, 6, 1⟩
abbrev ASY_GNSS_ST_SAT_EXCL : Fld := ⟨0x300050, 0, 8⟩
abbrev ASY_GNSS_ST_SYS_EXCL : Fld := ⟨0x300050, 8, 4⟩
abbrev ASY_GNSS_ST_XFREQ_EXCL : Fld := ⟨0x300050, 12, 8⟩
abbrev ASY_GNSS_ST_SPOOF_ARMED : Fld := ⟨0x300050, 20, 1⟩
abbrev ASY_GNSS_ST_USED : Fld := ⟨0x300050, 21, 1⟩
abbrev ASY_REF_CFG_EN (i : Nat) : Fld := ⟨0x300100 + 0x8 * i, 0, 1⟩
abbrev ASY_REF_CFG_CLOCK (i : Nat) : Fld := ⟨0x300100 + 0x8 * i, 1, 3⟩
abbrev ASY_REF_CFG_MEMBER (i : Nat) : Fld := ⟨0x300100 + 0x8 * i, 4, 1⟩
abbrev ASY_REF_CFG_ROLE (i : Nat) : Fld := ⟨0x300100 + 0x8 * i, 5, 2⟩
abbrev ASY_REF_CFG_PRIO (i : Nat) : Fld := ⟨0x300100 + 0x8 * i, 7, 4⟩
abbrev ASY_REF_CFG_SPOOF_CHK (i : Nat) : Fld := ⟨0x300100 + 0x8 * i, 11, 1⟩
abbrev ASY_REF_CFG_NOISE (i : Nat) : Fld := ⟨0x300104 + 0x8 * i, 0, 16⟩
abbrev ASY_REF_CFG_FX_LIM (i : Nat) : Fld := ⟨0x300104 + 0x8 * i, 16, 16⟩
abbrev ASY_SRC_CFG_WIN (i : Nat) : Fld := ⟨0x300300 + 0x4 * i, 0, 12⟩
abbrev ASY_SRC_CFG_LIMIT (i : Nat) : Fld := ⟨0x300300 + 0x4 * i, 12, 4⟩
abbrev ASY_SRC_CFG_HOLDOFF (i : Nat) : Fld := ⟨0x300300 + 0x4 * i, 16, 16⟩
abbrev ASY_SRC_ST_FAULT (i : Nat) : Fld := ⟨0x300340 + 0x4 * i, 0, 1⟩
abbrev ASY_SRC_ST_COUNT (i : Nat) : Fld := ⟨0x300340 + 0x4 * i, 1, 4⟩
abbrev ASY_SRC_ST_TIMER (i : Nat) : Fld := ⟨0x300340 + 0x4 * i, 5, 27⟩
abbrev ASY_REF_ST_STATE (i : Nat) : Fld := ⟨0x300400 + 0x10 * i, 0, 3⟩
abbrev ASY_REF_ST_CAUSE (i : Nat) : Fld := ⟨0x300400 + 0x10 * i, 3, 3⟩
abbrev ASY_REF_ST_RANK (i : Nat) : Fld := ⟨0x300400 + 0x10 * i, 8, 8⟩
abbrev ASY_REF_ST_WEIGHT (i : Nat) : Fld := ⟨0x300400 + 0x10 * i, 16, 9⟩
abbrev ASY_REF_ST_BACKOFF (i : Nat) : Fld := ⟨0x300400 + 0x10 * i, 25, 3⟩
abbrev ASY_REF_ST_COUNT (i c : Nat) : Fld := ⟨0x300404 + 0x10 * i, 0 + 4 * c, 4⟩
abbrev ASY_REF_ST_TIMER (i : Nat) : Fld := ⟨0x300408 + 0x10 * i, 0, 30⟩
abbrev ASY_REF_ST_RESID (i : Nat) : Fld := ⟨0x30040C + 0x10 * i, 0, 32⟩
abbrev ASY_CLK_ST_PH_OK (i : Nat) : Fld := ⟨0x300800 + 0x8 * i, 0, 1⟩
abbrev ASY_CLK_ST_FR_OK (i : Nat) : Fld := ⟨0x300800 + 0x8 * i, 1, 1⟩
abbrev ASY_CLK_ST_ANCHOR (i : Nat) : Fld := ⟨0x300800 + 0x8 * i, 2, 1⟩
abbrev ASY_CLK_ST_RANK (i : Nat) : Fld := ⟨0x300800 + 0x8 * i, 3, 8⟩
abbrev ASY_CLK_ST_WEIGHT (i : Nat) : Fld := ⟨0x300800 + 0x8 * i, 11, 9⟩
abbrev ASY_CLK_ST_PH_REF (i : Nat) : Fld := ⟨0x300804 + 0x8 * i, 0, 6⟩
abbrev ASY_CLK_ST_FR_REF (i : Nat) : Fld := ⟨0x300804 + 0x8 * i, 6, 6⟩
abbrev TSK_STAT_STATE : Fld := ⟨0x400000, 0, 3⟩
abbrev TSK_STAT_HOLD_ACT : Fld := ⟨0x400000, 3, 2⟩
abbrev TSK_STAT_PROVISIONAL : Fld := ⟨0x400000, 5, 1⟩
abbrev TSK_STAT_ANNEAL : Fld := ⟨0x400000, 6, 1⟩
abbrev TSK_STAT_ARMED : Fld := ⟨0x400000, 7, 1⟩
abbrev TSK_STAT_FREQ_RAIL : Fld := ⟨0x400000, 8, 1⟩
abbrev TSK_STAT_EFC_RAIL : Fld := ⟨0x400000, 9, 1⟩
abbrev TSK_STAT_KFAULT : Fld := ⟨0x400000, 10, 1⟩
abbrev TSK_STAT_CFG_REFUSED : Fld := ⟨0x400000, 11, 1⟩
abbrev TSK_STAT_ENG_RUN : Fld := ⟨0x400000, 12, 4⟩
abbrev TSK_STAT_MODEL_OK : Fld := ⟨0x400000, 16, 1⟩
abbrev TSK_STAT_HELD_REFUSED : Fld := ⟨0x400000, 17, 1⟩
abbrev TSK_MODE_CFG_MODE : Fld := ⟨0x400010, 0, 2⟩
abbrev TSK_LOOP_CFG_BW_UHZ : Fld := ⟨0x400014, 0, 24⟩
abbrev TSK_LOOP_CFG_DAMP : Fld := ⟨0x400014, 24, 8⟩
abbrev TSK_ENS_CFG_W_CAP : Fld := ⟨0x400018, 0, 9⟩
abbrev TSK_ENS_CFG_EST_TAU : Fld := ⟨0x400018, 12, 20⟩
abbrev TSK_FREQ_ADJ_FREQ_ADJ : Fld := ⟨0x400020, 0, 64⟩
abbrev TSK_FREQ_MAN_FREQ_MAN : Fld := ⟨0x400028, 0, 64⟩
abbrev TSK_STEP_LIMIT_LIMIT : Fld := ⟨0x400100, 0, 31⟩
abbrev TSK_CAPTURE_CAPTURE : Fld := ⟨0x400104, 0, 31⟩
abbrev TSK_STEP_ARM_MAG : Fld := ⟨0x400110, 0, 47⟩
abbrev TSK_STEP_ARM_TOL : Fld := ⟨0x400118, 0, 31⟩
abbrev TSK_STEP_ARM_ARM : Fld := ⟨0x40011C, 0, 1⟩
abbrev TSK_STEP_ARM_DISARM : Fld := ⟨0x40011C, 1, 1⟩
abbrev TSK_STEP_ARM_DEADLINE : Fld := ⟨0x400120, 0, 64⟩
abbrev TSK_STEP_STAT_STATE : Fld := ⟨0x400128, 0, 3⟩
abbrev TSK_STEP_STAT_MISMATCH : Fld := ⟨0x400128, 3, 8⟩
abbrev TSK_STEP_STAT_LAST_STEP : Fld := ⟨0x40012C, 0, 64⟩
abbrev TSK_STEP_STAT_LAST_AT : Fld := ⟨0x400134, 0, 64⟩
abbrev TSK_SLEW_MAX_RATE : Fld := ⟨0x400140, 0, 16⟩
abbrev TSK_ANNEAL_CMD_AMOUNT : Fld := ⟨0x400148, 0, 64⟩
abbrev TSK_ANNEAL_CMD_GO : Fld := ⟨0x400150, 0, 1⟩
abbrev TSK_ANNEAL_ST_REMAIN : Fld := ⟨0x400158, 0, 64⟩
abbrev TSK_ANNEAL_ST_ACTIVE : Fld := ⟨0x400160, 0, 1⟩
abbrev TSK_ANNEAL_ST_SRC : Fld := ⟨0x400160, 1, 2⟩
abbrev TSK_ANNEAL_ST_CMD_REFUSED : Fld := ⟨0x400160, 3, 1⟩
abbrev TSK_ANNEAL_ST_CANCELLED : Fld := ⟨0x400160, 4, 1⟩
abbrev TSK_ANNEAL_ST_ETA_MS : Fld := ⟨0x400164, 0, 32⟩
abbrev TSK_JUMP_ST_COUNT : Fld := ⟨0x400170, 0, 32⟩
abbrev TSK_JUMP_LAST_C : Fld := ⟨0x400178, 0, 64⟩
abbrev TSK_HOLD_CFG_HOLD_MODE : Fld := ⟨0x400180, 0, 2⟩
abbrev TSK_HOLD_CFG_HOLD_AVG : Fld := ⟨0x400180, 2, 8⟩
abbrev TSK_HOLD_CFG_MODEL_MIN : Fld := ⟨0x400180, 10, 8⟩
abbrev TSK_HOLD_CFG_TC_SRC : Fld := ⟨0x400180, 18, 1⟩
abbrev TSK_HOLD_CFG_TC_LEARN : Fld := ⟨0x400180, 19, 1⟩
abbrev TSK_HOLD_TC_TC1 : Fld := ⟨0x400184, 0, 32⟩
abbrev TSK_HOLD_TC_TC2 : Fld := ⟨0x400188, 0, 32⟩
abbrev TSK_HOLD_TC_T0 : Fld := ⟨0x40018C, 0, 16⟩
abbrev TSK_HOLD_ST_ENTRY : Fld := ⟨0x400190, 0, 64⟩
abbrev TSK_HOLD_ST_DURATION : Fld := ⟨0x400198, 0, 32⟩
abbrev TSK_HOLD_ST_F0 : Fld := ⟨0x40019C, 0, 64⟩
abbrev TSK_HOLD_ST_TEMP : Fld := ⟨0x4001A4, 0, 16⟩
abbrev TSK_HOLD_ST_TEMP_OK : Fld := ⟨0x4001A4, 16, 1⟩
abbrev TSK_EFC_CFG_MODE : Fld := ⟨0x4001C0, 0, 2⟩
abbrev TSK_EFC_CFG_NBITS : Fld := ⟨0x4001C0, 2, 5⟩
abbrev TSK_EFC_CFG_PREFIX : Fld := ⟨0x4001C0, 8, 8⟩
abbrev TSK_EFC_CFG_SCLK_DIV : Fld := ⟨0x4001C0, 16, 8⟩
abbrev TSK_EFC_CFG_PERIOD : Fld := ⟨0x4001C0, 24, 8⟩
abbrev TSK_EFC_LIM_CODE_MIN : Fld := ⟨0x4001C4, 0, 24⟩
abbrev TSK_EFC_LIM_CODE_MAX : Fld := ⟨0x4001C8, 0, 24⟩
abbrev TSK_EFC_LIM_CODE_INIT : Fld := ⟨0x4001CC, 0, 24⟩
abbrev TSK_EFC_GAIN_GAIN : Fld := ⟨0x4001D0, 0, 32⟩
abbrev TSK_EFC_ST_CODE : Fld := ⟨0x4001D4, 0, 24⟩
abbrev TSK_EFC_ST_RAIL : Fld := ⟨0x4001D4, 24, 1⟩
abbrev TSK_EFC_ST_SENSOR_ERR : Fld := ⟨0x4001D4, 25, 1⟩
abbrev TSK_CLK_ST_XHAT (i : Nat) : Fld := ⟨0x400200 + 0x20 * i, 0, 64⟩
abbrev TSK_CLK_ST_FREQ (i : Nat) : Fld := ⟨0x400208 + 0x20 * i, 0, 64⟩
abbrev TSK_CLK_ST_DRIFT (i : Nat) : Fld := ⟨0x400210 + 0x20 * i, 0, 32⟩
abbrev TSK_CLK_ST_WEIGHT (i : Nat) : Fld := ⟨0x400214 + 0x20 * i, 0, 17⟩
abbrev TSK_CLK_ST_IN_PHASE (i : Nat) : Fld := ⟨0x400214 + 0x20 * i, 17, 1⟩
abbrev TSK_CLK_ST_DATED (i : Nat) : Fld := ⟨0x400214 + 0x20 * i, 18, 1⟩
abbrev TSK_CLK_ST_ANCHORED (i : Nat) : Fld := ⟨0x400214 + 0x20 * i, 19, 1⟩
abbrev TSK_CLK_ST_SIGMA (i : Nat) : Fld := ⟨0x400218 + 0x20 * i, 0, 32⟩
abbrev TSK_CLK_ST_TICKS (i : Nat) : Fld := ⟨0x40021C + 0x20 * i, 0, 32⟩
abbrev TSK_TEB_TEB_LO : Fld := ⟨0x400C00, 0, 32⟩
abbrev TSK_TEB_TEB_HI : Fld := ⟨0x400C04, 0, 16⟩
abbrev TSK_TEB_SRC_TAG : Fld := ⟨0x400C04, 16, 16⟩
abbrev TSK_TEB_FLOAT_BOUND : Fld := ⟨0x400C08, 0, 32⟩
abbrev TSK_TEB_TERM_VALUE (i : Nat) : Fld := ⟨0x400C10 + 0x8 * i, 0, 48⟩
abbrev TSK_TEB_ST_FLOOR : Fld := ⟨0x400C30, 0, 1⟩
abbrev TSK_TEB_ST_STEP_HOLD : Fld := ⟨0x400C30, 1, 1⟩
abbrev TSK_TEB_ST_ALARM : Fld := ⟨0x400C30, 2, 1⟩
abbrev TSK_TEB_ST_UNBOUNDED : Fld := ⟨0x400C30, 3, 1⟩
abbrev TSK_TEB_HOLD_B_HOLD : Fld := ⟨0x400C38, 0, 48⟩
abbrev TSK_TEB_CFG_SERVO_MARGIN : Fld := ⟨0x400C40, 0, 12⟩
abbrev TSK_TEB_CFG_CDC_STALE_ADD : Fld := ⟨0x400C40, 12, 10⟩
abbrev TSK_TEB_CFG_PATH_STALE_ADD : Fld := ⟨0x400C40, 22, 10⟩
abbrev TSK_TEB_CFG2_IONO_SF : Fld := ⟨0x400C44, 0, 16⟩
abbrev TSK_TEB_CFG2_RES_K : Fld := ⟨0x400C44, 16, 4⟩
abbrev TSK_TEB_WIRE_NTP_FT : Fld := ⟨0x400C48, 0, 16⟩
abbrev TSK_TEB_WIRE_PTP_TLV : Fld := ⟨0x400C48, 16, 16⟩
abbrev TSK_TEB_ALARM_THRESH : Fld := ⟨0x400C4C, 0, 32⟩
abbrev TSK_TEB_PORT_TERM (i : Nat) : Fld := ⟨0x400C60 + 0x4 * i, 0, 32⟩
abbrev TSK_HGC_A (i : Nat) : Fld := ⟨0x400C80 + 0x10 * i, 0, 32⟩
abbrev TSK_HGC_B (i : Nat) : Fld := ⟨0x400C84 + 0x10 * i, 0, 32⟩
abbrev TSK_HGC_C (i : Nat) : Fld := ⟨0x400C88 + 0x10 * i, 0, 32⟩
abbrev TSK_CLK_CLASS_C0_FROZEN : Fld := ⟨0x400D00, 0, 3⟩
abbrev TSK_CLK_CLASS_CLASS (c : Nat) : Fld := ⟨0x400D00, 0 + 4 * c, 3⟩
abbrev TSK_CLK_CLASS_C0_MODELLED : Fld := ⟨0x400D04, 0, 3⟩
abbrev TSK_TEB_CLK_B_C (i : Nat) : Fld := ⟨0x400D10 + 0x8 * i, 0, 48⟩
abbrev TSK_TAG_TAG (i : Nat) : Fld := ⟨0x420000 + 0x40 * i, 0, 16⟩
abbrev TSK_TAG_REF (i : Nat) : Fld := ⟨0x420000 + 0x40 * i, 16, 6⟩
abbrev TSK_TAG_VALID (i : Nat) : Fld := ⟨0x420000 + 0x40 * i, 22, 1⟩
abbrev TSK_TAG_TEXT (i : Nat) : Fld := ⟨0x420004 + 0x40 * i, 0, 480⟩
abbrev SYN_STAT_BUSY : Fld := ⟨0x500000, 0, 1⟩
abbrev SYN_STAT_CFG_REFUSED : Fld := ⟨0x500000, 1, 1⟩
abbrev SYN_SPLL_ST_LOCKED : Fld := ⟨0x500004, 0, 1⟩
abbrev SYN_SPLL_ST_SPLL_LOL : Fld := ⟨0x500004, 1, 1⟩
abbrev SYN_SPLL_ST_LOL_COUNT : Fld := ⟨0x500004, 2, 8⟩
abbrev SYN_SPLL_ST_OSC_KHZ : Fld := ⟨0x500004, 10, 17⟩
abbrev SYN_BYP_ST_SRC : Fld := ⟨0x500008, 0, 1⟩
abbrev SYN_BYP_ST_BYP_LOS : Fld := ⟨0x500008, 1, 1⟩
abbrev SYN_BYP_ST_BYP_KHZ : Fld := ⟨0x500008, 2, 17⟩
abbrev SYN_SYNC_CTL_ARM : Fld := ⟨0x500010, 0, 1⟩
abbrev SYN_SYNC_CTL_DISARM : Fld := ⟨0x500010, 1, 1⟩
abbrev SYN_SYNC_CTL_MASK : Fld := ⟨0x500010, 2, 24⟩
abbrev SYN_SYNC_ST_ARMED : Fld := ⟨0x500014, 0, 1⟩
abbrev SYN_SYNC_ST_FIRED : Fld := ⟨0x500014, 1, 8⟩
abbrev SYN_SYNC_ST_IGNORED : Fld := ⟨0x500014, 9, 8⟩
abbrev SYN_SYNC_ST_LAST : Fld := ⟨0x500018, 0, 64⟩
abbrev SYN_BURN_CFG_EN (i : Nat) : Fld := ⟨0x500100 + 0x20 * i, 0, 1⟩
abbrev SYN_BURN_CFG_SRC (i : Nat) : Fld := ⟨0x500100 + 0x20 * i, 1, 5⟩
abbrev SYN_BURN_CFG_P (i : Nat) : Fld := ⟨0x500100 + 0x20 * i, 6, 3⟩
abbrev SYN_BURN_CFG_BW (i : Nat) : Fld := ⟨0x500100 + 0x20 * i, 9, 4⟩
abbrev SYN_BURN_CFG_RELOCK (i : Nat) : Fld := ⟨0x500100 + 0x20 * i, 13, 1⟩
abbrev SYN_BURN_CFG_R (i : Nat) : Fld := ⟨0x500104 + 0x20 * i, 0, 24⟩
abbrev SYN_BURN_CFG_N (i : Nat) : Fld := ⟨0x500108 + 0x20 * i, 0, 21⟩
abbrev SYN_BURN_CFG_F (i : Nat) : Fld := ⟨0x50010C + 0x20 * i, 0, 32⟩
abbrev SYN_BURN_CFG_NCO_PER (i : Nat) : Fld := ⟨0x500110 + 0x20 * i, 0, 64⟩
abbrev SYN_BURN_ANA_CP_I (i : Nat) : Fld := ⟨0x500200 + 0x4 * i, 0, 6⟩
abbrev SYN_BURN_ANA_LOCK_THR (i : Nat) : Fld := ⟨0x500200 + 0x4 * i, 6, 8⟩
abbrev SYN_BURN_ANA_UNLOCK_THR (i : Nat) : Fld := ⟨0x500200 + 0x4 * i, 14, 8⟩
abbrev SYN_BURN_ST_STATE (i : Nat) : Fld := ⟨0x500240 + 0x8 * i, 0, 3⟩
abbrev SYN_BURN_ST_BAND (i : Nat) : Fld := ⟨0x500240 + 0x8 * i, 3, 8⟩
abbrev SYN_BURN_ST_MISALIGNED (i : Nat) : Fld := ⟨0x500240 + 0x8 * i, 11, 1⟩
abbrev SYN_BURN_ST_FAIL (i : Nat) : Fld := ⟨0x500240 + 0x8 * i, 12, 2⟩
abbrev SYN_BURN_ST_LOSSES (i : Nat) : Fld := ⟨0x500240 + 0x8 * i, 14, 8⟩
abbrev SYN_BURN_ST_PH_ERR (i : Nat) : Fld := ⟨0x500244 + 0x8 * i, 0, 16⟩
abbrev SYN_BURN_ST_PFD_KHZ (i : Nat) : Fld := ⟨0x500244 + 0x8 * i, 16, 16⟩
abbrev OUT_F_CFG_RUN (i : Nat) : Fld := ⟨0x501000 + 0x10 * i, 0, 1⟩
abbrev OUT_F_CFG_BURN (i : Nat) : Fld := ⟨0x501000 + 0x10 * i, 1, 2⟩
abbrev OUT_F_CFG_FORMAT (i : Nat) : Fld := ⟨0x501000 + 0x10 * i, 3, 3⟩
abbrev OUT_F_CFG_BYP_DIV (i : Nat) : Fld := ⟨0x501004 + 0x10 * i, 0, 24⟩
abbrev OUT_F_CFG_DIV (i : Nat) : Fld := ⟨0x501008 + 0x10 * i, 0, 34⟩
abbrev OUT_G_CFG_RUN (i : Nat) : Fld := ⟨0x501200 + 0x10 * i, 0, 1⟩
abbrev OUT_G_CFG_MODE (i : Nat) : Fld := ⟨0x501200 + 0x10 * i, 1, 2⟩
abbrev OUT_G_CFG_FORMAT (i : Nat) : Fld := ⟨0x501200 + 0x10 * i, 3, 2⟩
abbrev OUT_G_CFG_BURN (i : Nat) : Fld := ⟨0x501200 + 0x10 * i, 5, 2⟩
abbrev OUT_G_CFG_POL (i : Nat) : Fld := ⟨0x501200 + 0x10 * i, 7, 1⟩
abbrev OUT_G_CFG_OWNER (i : Nat) : Fld := ⟨0x501200 + 0x10 * i, 8, 10⟩
abbrev OUT_G_CFG_IRIG (i : Nat) : Fld := ⟨0x501200 + 0x10 * i, 18, 3⟩
abbrev OUT_G_CFG_SCALE (i : Nat) : Fld := ⟨0x501200 + 0x10 * i, 21, 2⟩
abbrev OUT_G_CFG_WIDTH (i : Nat) : Fld := ⟨0x501204 + 0x10 * i, 0, 30⟩
abbrev OUT_G_CFG_DIV (i : Nat) : Fld := ⟨0x501208 + 0x10 * i, 0, 34⟩
abbrev OUT_G_DLY_DLY (i : Nat) : Fld := ⟨0x501300 + 0x4 * i, 0, 16⟩
abbrev OUT_TERM_TERM (i : Nat) : Fld := ⟨0x501400 + 0x4 * i, 0, 32⟩
abbrev OUT_ST_STATE (i : Nat) : Fld := ⟨0x501480 + 0x8 * i, 0, 3⟩
abbrev OUT_ST_CFG_REFUSED (i : Nat) : Fld := ⟨0x501480 + 0x8 * i, 3, 1⟩
abbrev OUT_ST_ALIGNED (i : Nat) : Fld := ⟨0x501480 + 0x8 * i, 4, 1⟩
abbrev OUT_ST_OVERLAP (i : Nat) : Fld := ⟨0x501480 + 0x8 * i, 5, 8⟩
abbrev OUT_ST_TEB (i : Nat) : Fld := ⟨0x501484 + 0x8 * i, 0, 32⟩
abbrev OUT_AES_CFG_MODE (i : Nat) : Fld := ⟨0x502000 + 0x40 * i, 0, 2⟩
abbrev OUT_AES_CFG_RATE (i : Nat) : Fld := ⟨0x502000 + 0x40 * i, 2, 3⟩
abbrev OUT_AES_CFG_GRADE (i : Nat) : Fld := ⟨0x502000 + 0x40 * i, 5, 2⟩
abbrev OUT_AES_CFG_REALIGN (i : Nat) : Fld := ⟨0x502000 + 0x40 * i, 7, 1⟩
abbrev OUT_AES_CFG_TOD_TEN (i : Nat) : Fld := ⟨0x502000 + 0x40 * i, 8, 10⟩
abbrev OUT_AES_ST_RXLOCK (i : Nat) : Fld := ⟨0x502010 + 0x40 * i, 0, 1⟩
abbrev OUT_AES_ST_NONAUDIO (i : Nat) : Fld := ⟨0x502010 + 0x40 * i, 1, 1⟩
abbrev OUT_AES_ST_MISALIGNED (i : Nat) : Fld := ⟨0x502010 + 0x40 * i, 2, 1⟩
abbrev OUT_AES_ST_FILL (i : Nat) : Fld := ⟨0x502010 + 0x40 * i, 3, 8⟩
abbrev OUT_AES_ST_SLIP (i : Nat) : Fld := ⟨0x502010 + 0x40 * i, 11, 8⟩
abbrev OUT_AES_ST_RX_RATE (i : Nat) : Fld := ⟨0x502010 + 0x40 * i, 19, 3⟩
abbrev OUT_AES_ST_RX_PPB (i : Nat) : Fld := ⟨0x502014 + 0x40 * i, 0, 32⟩
abbrev OUT_AES_RXS_SHORT (i : Nat) : Fld := ⟨0x502020 + 0x40 * i, 0, 64⟩
abbrev OUT_AES_RXS_FRAC (i : Nat) : Fld := ⟨0x502028 + 0x40 * i, 0, 16⟩
abbrev OUT_AES_RXS_BLOCKS (i : Nat) : Fld := ⟨0x50202C + 0x40 * i, 0, 32⟩
abbrev OUT_AES_TXS_SHORT (i : Nat) : Fld := ⟨0x502030 + 0x40 * i, 0, 64⟩
abbrev OUT_AES_TXS_FRAC (i : Nat) : Fld := ⟨0x502038 + 0x40 * i, 0, 16⟩
abbrev OUT_AES_TXS_BLOCKS (i : Nat) : Fld := ⟨0x50203C + 0x40 * i, 0, 32⟩
abbrev SCH_STAT_ENG_RUN : Fld := ⟨0x600000, 0, 1⟩
abbrev SCH_STAT_USED : Fld := ⟨0x600000, 1, 13⟩
abbrev SCH_STAT_PROV_WAIT : Fld := ⟨0x600000, 14, 13⟩
abbrev SCH_STG_ENTRY : Fld := ⟨0x600100, 0, 256⟩
abbrev SCH_CMD_ID : Fld := ⟨0x600120, 0, 12⟩
abbrev SCH_CMD_OP : Fld := ⟨0x600120, 12, 2⟩
abbrev SCH_CMD_GO : Fld := ⟨0x600120, 14, 1⟩
abbrev SCH_CMD_ST_CODE : Fld := ⟨0x600124, 0, 4⟩
abbrev SCH_CMD_ST_BUSY : Fld := ⟨0x600124, 4, 1⟩
abbrev SCH_CMD_ST_DISPATCHED : Fld := ⟨0x600124, 5, 1⟩
abbrev SCH_CMD_ST_REPLACED : Fld := ⟨0x600124, 6, 1⟩
abbrev SCH_LATE_ST_FIRED_LATE : Fld := ⟨0x600130, 0, 32⟩
abbrev SCH_LATE_ST_SKIPPED : Fld := ⟨0x600134, 0, 32⟩
abbrev SCH_LATE_ST_DROPPED : Fld := ⟨0x600138, 0, 32⟩
abbrev SCH_LATE_ST_REPHASED : Fld := ⟨0x60013C, 0, 32⟩
abbrev SCH_NEXT_EPOCH : Fld := ⟨0x600140, 0, 64⟩
abbrev SCH_NEXT_ID : Fld := ⟨0x600148, 0, 12⟩
abbrev SCH_NEXT_NONE : Fld := ⟨0x600148, 12, 1⟩
abbrev SCH_TEN_ST_QUOTA (i : Nat) : Fld := ⟨0x601000 + 0x4 * i, 0, 13⟩
abbrev SCH_TEN_ST_USED (i : Nat) : Fld := ⟨0x601000 + 0x4 * i, 16, 13⟩
abbrev ETH_CFG_EN (i : Nat) : Fld := ⟨0x700000 + 0x4000 * i, 0, 1⟩
abbrev ETH_CFG_RATE (i : Nat) : Fld := ⟨0x700000 + 0x4000 * i, 1, 3⟩
abbrev ETH_CFG_FEC (i : Nat) : Fld := ⟨0x700000 + 0x4000 * i, 4, 2⟩
abbrev ETH_CFG_PREEMPT (i : Nat) : Fld := ⟨0x700000 + 0x4000 * i, 6, 1⟩
abbrev ETH_CFG_PAUSE_EN (i : Nat) : Fld := ⟨0x700000 + 0x4000 * i, 7, 1⟩
abbrev ETH_CFG_PFC_EN (i : Nat) : Fld := ⟨0x700000 + 0x4000 * i, 8, 1⟩
abbrev ETH_CFG_LAUNCH_PRIO (i : Nat) : Fld := ⟨0x700000 + 0x4000 * i, 9, 3⟩
abbrev ETH_CFG_BCAST (i : Nat) : Fld := ⟨0x700000 + 0x4000 * i, 12, 1⟩
abbrev ETH_CFG_MAX_LEN (i : Nat) : Fld := ⟨0x700000 + 0x4000 * i, 13, 14⟩
abbrev ETH_ST_STATE (i : Nat) : Fld := ⟨0x700004 + 0x4000 * i, 0, 3⟩
abbrev ETH_ST_PCS_LOCK (i : Nat) : Fld := ⟨0x700004 + 0x4000 * i, 3, 1⟩
abbrev ETH_ST_LOCAL_FAULT (i : Nat) : Fld := ⟨0x700004 + 0x4000 * i, 4, 1⟩
abbrev ETH_ST_REMOTE_FAULT (i : Nat) : Fld := ⟨0x700004 + 0x4000 * i, 5, 1⟩
abbrev ETH_ST_GRID_OK (i : Nat) : Fld := ⟨0x700004 + 0x4000 * i, 6, 1⟩
abbrev ETH_ST_PAUSED (i : Nat) : Fld := ⟨0x700004 + 0x4000 * i, 7, 1⟩
abbrev ETH_ST_PREEMPT_OK (i : Nat) : Fld := ⟨0x700004 + 0x4000 * i, 8, 1⟩
abbrev ETH_ST_CFG_REFUSED (i : Nat) : Fld := ⟨0x700004 + 0x4000 * i, 9, 1⟩
abbrev ETH_ST_ENG_RUN (i : Nat) : Fld := ⟨0x700004 + 0x4000 * i, 10, 1⟩
abbrev ETH_SLOT_CFG_SHARE (i : Nat) : Fld := ⟨0x700010 + 0x4000 * i, 0, 8⟩
abbrev ETH_SLOT_CFG_GUARD (i : Nat) : Fld := ⟨0x700010 + 0x4000 * i, 8, 4⟩
abbrev ETH_SLOT_CFG_LC_PER (i : Nat) : Fld := ⟨0x700010 + 0x4000 * i, 12, 20⟩
abbrev ETH_PAUSE_WD_WD (i : Nat) : Fld := ⟨0x700014 + 0x4000 * i, 0, 16⟩
abbrev ETH_TS_LAT_TX_LAT (i : Nat) : Fld := ⟨0x700018 + 0x4000 * i, 0, 32⟩
abbrev ETH_TS_LAT_RX_LAT (i : Nat) : Fld := ⟨0x70001C + 0x4000 * i, 0, 32⟩
abbrev ETH_GRID_ST_GRID_PS (i : Nat) : Fld := ⟨0x700020 + 0x4000 * i, 0, 16⟩
abbrev ETH_GRID_ST_DEV_MAX (i : Nat) : Fld := ⟨0x700020 + 0x4000 * i, 16, 16⟩
abbrev ETH_TXTS_POP_SHORT (i : Nat) : Fld := ⟨0x700040 + 0x4000 * i, 0, 64⟩
abbrev ETH_TXTS_INFO_ID (i : Nat) : Fld := ⟨0x700048 + 0x4000 * i, 0, 16⟩
abbrev ETH_TXTS_INFO_KIND (i : Nat) : Fld := ⟨0x700048 + 0x4000 * i, 16, 2⟩
abbrev ETH_TXTS_INFO_PROV (i : Nat) : Fld := ⟨0x700048 + 0x4000 * i, 18, 1⟩
abbrev ETH_TXTS_INFO_FRAC (i : Nat) : Fld := ⟨0x70004C + 0x4000 * i, 0, 16⟩
abbrev ETH_TXTS_INFO_DCOUNT (i : Nat) : Fld := ⟨0x70004C + 0x4000 * i, 16, 16⟩
abbrev ETH_TXTS_ST_FILL (i : Nat) : Fld := ⟨0x700050 + 0x4000 * i, 0, 7⟩
abbrev ETH_TXTS_ST_OVF (i : Nat) : Fld := ⟨0x700050 + 0x4000 * i, 7, 1⟩
abbrev ETH_UC_MAC_LO (i j : Nat) : Fld := ⟨0x700100 + 0x4000 * i + 0x8 * j, 0, 32⟩
abbrev ETH_UC_MAC_HI (i j : Nat) : Fld := ⟨0x700104 + 0x4000 * i + 0x8 * j, 0, 16⟩
abbrev ETH_UC_VALID (i j : Nat) : Fld := ⟨0x700104 + 0x4000 * i + 0x8 * j, 16, 1⟩
abbrev ETH_HASH_BUCKETS (i j : Nat) : Fld := ⟨0x700400 + 0x4000 * i + 0x4 * j, 0, 32⟩
abbrev ETH_STATS_COUNT (i j : Nat) : Fld := ⟨0x701000 + 0x4000 * i + 0x8 * j, 0, 64⟩
abbrev ETH_LOOP_CFG_PORT_A : Fld := ⟨0x720000, 0, 3⟩
abbrev ETH_LOOP_CFG_PORT_B : Fld := ⟨0x720000, 3, 3⟩
abbrev ETH_LOOP_CFG_N : Fld := ⟨0x720000, 16, 16⟩
abbrev ETH_LOOP_FIB_FIB_AB : Fld := ⟨0x720004, 0, 32⟩
abbrev ETH_LOOP_FIB_FIB_BA : Fld := ⟨0x720008, 0, 32⟩
abbrev ETH_LOOP_CTL_GO : Fld := ⟨0x72000C, 0, 1⟩
abbrev ETH_LOOP_CTL_ABORT : Fld := ⟨0x72000C, 1, 1⟩
abbrev ETH_LOOP_ST_STATE : Fld := ⟨0x720010, 0, 3⟩
abbrev ETH_LOOP_ST_CAUSE : Fld := ⟨0x720010, 3, 3⟩
abbrev ETH_LOOP_ST_NOK : Fld := ⟨0x720010, 6, 16⟩
abbrev ETH_LOOP_ST_R_AB : Fld := ⟨0x720014, 0, 32⟩
abbrev ETH_LOOP_ST_R_BA : Fld := ⟨0x720018, 0, 32⟩
abbrev ETH_LOOP_ST_RMS_AB : Fld := ⟨0x72001C, 0, 32⟩
abbrev ETH_LOOP_ST_RMS_BA : Fld := ⟨0x720020, 0, 32⟩
abbrev ETH_LOOP_ST_T_DONE : Fld := ⟨0x720024, 0, 64⟩
abbrev HMK_STAT_ENG0_RUN : Fld := ⟨0x800000, 0, 1⟩
abbrev HMK_STAT_ENG1_RUN : Fld := ⟨0x800000, 1, 1⟩
abbrev HMK_STAT_CFG_REFUSED : Fld := ⟨0x800000, 2, 1⟩
abbrev HMK_STAT_STANDBY : Fld := ⟨0x800000, 3, 1⟩
abbrev HMK_STAT_LANES_B : Fld := ⟨0x800000, 4, 1⟩
abbrev HMK_PORT_CFG_MARGIN (i : Nat) : Fld := ⟨0x800010 + 0x4 * i, 0, 12⟩
abbrev HMK_PORT_CFG_EN (i : Nat) : Fld := ⟨0x800010 + 0x4 * i, 12, 1⟩
abbrev HMK_CLKID_BASE : Fld := ⟨0x800040, 10, 54⟩
abbrev HMK_TAT_LOAD_BASE : Fld := ⟨0x800100, 0, 64⟩
abbrev HMK_TAT_LOAD_GO : Fld := ⟨0x800108, 0, 1⟩
abbrev HMK_TAT_LOAD_COUNT : Fld := ⟨0x800108, 1, 13⟩
abbrev HMK_TAT_ST_STATE : Fld := ⟨0x80010C, 0, 2⟩
abbrev HMK_TAT_ST_LIVE_BANK : Fld := ⟨0x80010C, 2, 1⟩
abbrev HMK_TAT_ST_BAD_INDEX : Fld := ⟨0x80010C, 3, 12⟩
abbrev HMK_TAT_ST_CAUSE : Fld := ⟨0x80010C, 15, 3⟩
abbrev HMK_TAT_CTL_SWAP : Fld := ⟨0x800110, 0, 1⟩
abbrev HMK_CT_ST_USED : Fld := ⟨0x800200, 0, 23⟩
abbrev HMK_CT_ST_CAPACITY : Fld := ⟨0x800204, 0, 23⟩
abbrev HMK_CT_ST_GRANT_LOAD : Fld := ⟨0x800208, 0, 25⟩
abbrev HMK_CT_ST_JOURNAL : Fld := ⟨0x80020C, 0, 17⟩
abbrev HMK_STATS_COUNT (i : Nat) : Fld := ⟨0x801000 + 0x8 * i, 0, 64⟩
abbrev HMK_TEN_CFG_NTP_EN (i : Nat) : Fld := ⟨0x810000 + 0x20 * i, 0, 1⟩
abbrev HMK_TEN_CFG_NTS_EN (i : Nat) : Fld := ⟨0x810000 + 0x20 * i, 1, 1⟩
abbrev HMK_TEN_CFG_NTS_ONLY (i : Nat) : Fld := ⟨0x810000 + 0x20 * i, 2, 1⟩
abbrev HMK_TEN_CFG_PTP_PROF (i : Nat) : Fld := ⟨0x810000 + 0x20 * i, 3, 3⟩
abbrev HMK_TEN_CFG_AUTH (i : Nat) : Fld := ⟨0x810000 + 0x20 * i, 6, 2⟩
abbrev HMK_TEN_CFG_AUTH_REQ (i : Nat) : Fld := ⟨0x810000 + 0x20 * i, 8, 1⟩
abbrev HMK_TEN_CFG_SERVE_PROV (i : Nat) : Fld := ⟨0x810000 + 0x20 * i, 9, 1⟩
abbrev HMK_TEN_CFG_CLASS_SET (i : Nat) : Fld := ⟨0x810000 + 0x20 * i, 10, 1⟩
abbrev HMK_TEN_CFG_DOMAIN (i : Nat) : Fld := ⟨0x810000 + 0x20 * i, 11, 8⟩
abbrev HMK_TEN_CFG_PRIO1 (i : Nat) : Fld := ⟨0x810000 + 0x20 * i, 19, 8⟩
abbrev HMK_TEN_CFG_PRIO2 (i : Nat) : Fld := ⟨0x810004 + 0x20 * i, 0, 8⟩
abbrev HMK_TEN_CFG_SPP (i : Nat) : Fld := ⟨0x810004 + 0x20 * i, 8, 8⟩
abbrev HMK_TEN_CFG_PORTS (i : Nat) : Fld := ⟨0x810004 + 0x20 * i, 16, 8⟩
abbrev HMK_TEN_CFG_LOG_SYNC (i : Nat) : Fld := ⟨0x810004 + 0x20 * i, 24, 4⟩
abbrev HMK_TEN_CFG_LOG_ANN (i : Nat) : Fld := ⟨0x810004 + 0x20 * i, 28, 4⟩
abbrev HMK_TEN_CFG_RATE (i : Nat) : Fld := ⟨0x810008 + 0x20 * i, 0, 16⟩
abbrev HMK_TEN_CFG_BURST (i : Nat) : Fld := ⟨0x810008 + 0x20 * i, 16, 8⟩
abbrev HMK_TEN_CFG_KOD_GAP (i : Nat) : Fld := ⟨0x810008 + 0x20 * i, 24, 8⟩
abbrev HMK_TEN_CFG_REFID (i : Nat) : Fld := ⟨0x81000C + 0x20 * i, 0, 32⟩
abbrev HMK_TEN_CFG_MINPOLL (i : Nat) : Fld := ⟨0x810010 + 0x20 * i, 0, 4⟩
abbrev HMK_TEN_CFG_MAXPOLL (i : Nat) : Fld := ⟨0x810010 + 0x20 * i, 4, 4⟩
abbrev HMK_TEN_CFG_GRANT_MAX_S (i : Nat) : Fld := ⟨0x810010 + 0x20 * i, 8, 10⟩
abbrev HMK_TEN_CFG_LOG_UC_MIN (i : Nat) : Fld := ⟨0x810010 + 0x20 * i, 18, 4⟩
abbrev HMK_TEN_CFG_LOG_ANN_MIN (i : Nat) : Fld := ⟨0x810010 + 0x20 * i, 22, 4⟩
abbrev HMK_TEN_CFG_GRANT_RATE (i : Nat) : Fld := ⟨0x810014 + 0x20 * i, 0, 24⟩
abbrev HMK_TEN_CFG_OVF_RATE (i : Nat) : Fld := ⟨0x810018 + 0x20 * i, 0, 24⟩
abbrev HMK_TEN_CFG_VARIANCE (i : Nat) : Fld := ⟨0x81001C + 0x20 * i, 0, 16⟩
abbrev HMK_TEN_CFG_CLASS_LIM (i : Nat) : Fld := ⟨0x81001C + 0x20 * i, 16, 16⟩
abbrev HMK_KEY_NEXT_SLOT (i j : Nat) : Fld := ⟨0x818000 + 0x10 * i + 0x4 * j, 0, 12⟩
abbrev HMK_KEY_NEXT_VALID (i j : Nat) : Fld := ⟨0x818000 + 0x10 * i + 0x4 * j, 12, 1⟩
abbrev HMK_KEY_ST_CUR_ID (i j : Nat) : Fld := ⟨0x820000 + 0x40 * i + 0x10 * j, 0, 32⟩
abbrev HMK_KEY_ST_PREV_ID (i j : Nat) : Fld := ⟨0x820004 + 0x40 * i + 0x10 * j, 0, 32⟩
abbrev HMK_KEY_ST_CUR_SLOT (i j : Nat) : Fld := ⟨0x820008 + 0x40 * i + 0x10 * j, 0, 12⟩
abbrev HMK_KEY_ST_CUR_VALID (i j : Nat) : Fld := ⟨0x820008 + 0x40 * i + 0x10 * j, 12, 1⟩
abbrev HMK_KEY_ST_PREV_VALID (i j : Nat) : Fld := ⟨0x820008 + 0x40 * i + 0x10 * j, 13, 1⟩
abbrev HMK_KEY_ST_NEXT_VALID (i j : Nat) : Fld := ⟨0x820008 + 0x40 * i + 0x10 * j, 14, 1⟩
abbrev HMK_KEY_ST_KEY_REFUSED (i j : Nat) : Fld := ⟨0x820008 + 0x40 * i + 0x10 * j, 15, 1⟩
abbrev HMK_KEY_ST_ROTATIONS (i j : Nat) : Fld := ⟨0x820008 + 0x40 * i + 0x10 * j, 16, 16⟩
abbrev HMK_TEN_ST_USED (i : Nat) : Fld := ⟨0x830000 + 0x8 * i, 0, 23⟩
abbrev HMK_TEN_ST_QUOTA (i : Nat) : Fld := ⟨0x830004 + 0x8 * i, 0, 23⟩
abbrev HMK_TEN_ST_CFG_REFUSED (i : Nat) : Fld := ⟨0x830004 + 0x8 * i, 23, 1⟩
abbrev KVT_STAT_BUSY : Fld := ⟨0x900000, 0, 1⟩
abbrev KVT_STAT_PROVISIONED : Fld := ⟨0x900000, 1, 1⟩
abbrev KVT_STAT_ENG_RUN : Fld := ⟨0x900000, 2, 1⟩
abbrev KVT_STAT_VBAT_LOST : Fld := ⟨0x900000, 3, 1⟩
abbrev KVT_STAT_LOG_NEW : Fld := ⟨0x900000, 4, 1⟩
abbrev KVT_ID_DEV_ID : Fld := ⟨0x900008, 0, 64⟩
abbrev KVT_PROV_NONCE_NONCE : Fld := ⟨0x900010, 0, 128⟩
abbrev KVT_UPD_CTR_UPD_CTR : Fld := ⟨0x900020, 0, 64⟩
abbrev KVT_TAMPER_CFG_T_LOW : Fld := ⟨0x900028, 0, 8⟩
abbrev KVT_TAMPER_CFG_T_HIGH : Fld := ⟨0x900028, 16, 8⟩
abbrev KVT_TAMPER_CFG_PIN_EN : Fld := ⟨0x90002C, 0, 4⟩
abbrev KVT_TLOG_ST_HEAD : Fld := ⟨0x900030, 0, 4⟩
abbrev KVT_TLOG_ST_TOTAL : Fld := ⟨0x900030, 4, 16⟩
abbrev KVT_TLOG_ST_OVERWRITTEN : Fld := ⟨0x900030, 20, 8⟩
abbrev KVT_TLOG_ACK_MASK : Fld := ⟨0x900034, 0, 16⟩
abbrev KVT_PUB_POINT : Fld := ⟨0x900040, 0, 512⟩
abbrev KVT_TLOG_ENTRY (i : Nat) : Fld := ⟨0x900100 + 0x10 * i, 0, 128⟩
abbrev KVT_STATS_COUNT (i : Nat) : Fld := ⟨0x900200 + 0x8 * i, 0, 64⟩
abbrev KVT_TEN_ST_QUOTA (i : Nat) : Fld := ⟨0x910000 + 0x4 * i, 0, 13⟩
abbrev KVT_TEN_ST_USED (i : Nat) : Fld := ⟨0x910000 + 0x4 * i, 16, 13⟩
abbrev KVT_SLOT_TENANT (i : Nat) : Fld := ⟨0x920000 + 0x8 * i, 0, 10⟩
abbrev KVT_SLOT_CLASS (i : Nat) : Fld := ⟨0x920000 + 0x8 * i, 10, 2⟩
abbrev KVT_SLOT_USAGE (i : Nat) : Fld := ⟨0x920000 + 0x8 * i, 12, 2⟩
abbrev KVT_SLOT_VALID (i : Nat) : Fld := ⟨0x920000 + 0x8 * i, 14, 1⟩
abbrev KVT_SLOT_KEY_ID (i : Nat) : Fld := ⟨0x920004 + 0x8 * i, 0, 32⟩
abbrev STR_STAT_STATE : Fld := ⟨0xA00000, 0, 2⟩
abbrev STR_STAT_SRC : Fld := ⟨0xA00000, 2, 2⟩
abbrev STR_STAT_FALLBACK : Fld := ⟨0xA00000, 4, 1⟩
abbrev STR_STAT_PENDING : Fld := ⟨0xA00000, 5, 1⟩
abbrev STR_STAT_BUSY : Fld := ⟨0xA00000, 6, 1⟩
abbrev STR_LOAD_ST_CODE (i : Nat) : Fld := ⟨0xA00010 + 0x4 * i, 0, 4⟩
abbrev STR_LOAD_ST_SECT (i : Nat) : Fld := ⟨0xA00010 + 0x4 * i, 16, 16⟩
abbrev STR_GEN_LIVE_GENERATION : Fld := ⟨0xA00020, 0, 32⟩
abbrev STR_PUSH_BASE : Fld := ⟨0xA00030, 0, 64⟩
abbrev STR_PUSH_LENGTH : Fld := ⟨0xA00038, 0, 24⟩
abbrev STR_PUSH_GO : Fld := ⟨0xA0003C, 0, 1⟩
abbrev STR_DIGEST_DIGEST : Fld := ⟨0xA00040, 0, 256⟩
abbrev STR_REGION_GEN (i : Nat) : Fld := ⟨0xA00100 + 0x10 * i, 0, 32⟩
abbrev STR_REGION_STAGED_GEN (i : Nat) : Fld := ⟨0xA00104 + 0x10 * i, 0, 32⟩
abbrev STR_REGION_STATE (i : Nat) : Fld := ⟨0xA00108 + 0x10 * i, 0, 2⟩
abbrev STR_REGION_TAG (i : Nat) : Fld := ⟨0xA00108 + 0x10 * i, 2, 1⟩
abbrev STR_REGION_LAST (i : Nat) : Fld := ⟨0xA00108 + 0x10 * i, 3, 3⟩
abbrev STR_REGION_SWITCHES (i : Nat) : Fld := ⟨0xA0010C + 0x10 * i, 0, 32⟩
abbrev ENG_ST_STATE (e : Nat) : Fld := ⟨engBase e + 0x0, 0, 2⟩
abbrev ENG_ST_CAUSE (e : Nat) : Fld := ⟨engBase e + 0x0, 2, 3⟩
abbrev ENG_ST_BANK (e : Nat) : Fld := ⟨engBase e + 0x0, 5, 1⟩
abbrev ENG_ST_SOFT_CODE (e : Nat) : Fld := ⟨engBase e + 0x0, 16, 16⟩
abbrev ENG_PC_PC (e : Nat) : Fld := ⟨engBase e + 0x4, 0, 11⟩
abbrev ENG_CYC_LAST (e : Nat) : Fld := ⟨engBase e + 0x8, 0, 20⟩
abbrev ENG_CYC_FRAME_MAX (e : Nat) : Fld := ⟨engBase e + 0x8, 20, 8⟩
abbrev ENG_CYC_MAX_MAX (e : Nat) : Fld := ⟨engBase e + 0xC, 0, 20⟩
abbrev ENG_LOST_TICKS_MISSED (e : Nat) : Fld := ⟨engBase e + 0x10, 0, 8⟩
abbrev ENG_LOST_WAKES_LOST (e : Nat) : Fld := ⟨engBase e + 0x10, 8, 8⟩
abbrev ENG_LOST_CELLS_LOST (e : Nat) : Fld := ⟨engBase e + 0x10, 16, 8⟩
abbrev ENG_LOST_TOD_LATE (e : Nat) : Fld := ⟨engBase e + 0x10, 24, 8⟩
abbrev ENG_G_VALUE (e i : Nat) : Fld := ⟨engBase e + 0x40 + 0x4 * i, 0, 32⟩
abbrev ENG_DM_ADDR_WORD (e : Nat) : Fld := ⟨engBase e + 0x80, 2, 12⟩
abbrev ENG_DM_DATA_DATA (e : Nat) : Fld := ⟨engBase e + 0x84, 0, 32⟩
abbrev ENG_CTL_RELEASE (e : Nat) : Fld := ⟨engBase e + 0xF0, 0, 1⟩
abbrev SYS_UPD_STROBE_UPD : Fld := ⟨0xE00000, 0, 8⟩
abbrev SYS_UPD_ST_COUNT (i : Nat) : Fld := ⟨0xE00010 + 0x4 * i, 0, 16⟩
abbrev SYS_UPD_ST_BY_REG (i : Nat) : Fld := ⟨0xE00010 + 0x4 * i, 16, 1⟩
abbrev SYS_UPD_ST_BY_SCHED (i : Nat) : Fld := ⟨0xE00010 + 0x4 * i, 17, 1⟩
abbrev SYS_ACC_ERR_KIND : Fld := ⟨0xE00040, 0, 4⟩
abbrev SYS_ACC_ERR_WRITE : Fld := ⟨0xE00040, 4, 1⟩
abbrev SYS_ACC_ERR_FUNC : Fld := ⟨0xE00040, 5, 10⟩
abbrev SYS_ACC_ERR_VALID : Fld := ⟨0xE00040, 15, 1⟩
abbrev SYS_ACC_ERR_COUNT : Fld := ⟨0xE00040, 16, 16⟩
abbrev SYS_ACC_ERR_ADDR : Fld := ⟨0xE00044, 0, 25⟩
abbrev SYS_POST_LOST_COUNT : Fld := ⟨0xE00048, 0, 32⟩
abbrev SYS_CAP_PART : Fld := ⟨0xE00100, 0, 16⟩
abbrev SYS_CAP_PORTS : Fld := ⟨0xE00100, 16, 4⟩
abbrev SYS_CAP_MEDIA : Fld := ⟨0xE00100, 20, 3⟩
abbrev SYS_CAP_ENGINES : Fld := ⟨0xE00100, 23, 5⟩
abbrev SYS_CAP_TENANTS : Fld := ⟨0xE00104, 0, 11⟩
abbrev SYS_CAP_CLIENTS : Fld := ⟨0xE00108, 0, 23⟩
abbrev HIF_FEAT_OFFER_OFFER : Fld := ⟨0xB00000, 0, 128⟩
abbrev HIF_FEAT_ACCEPT_ACCEPT : Fld := ⟨0xB00010, 0, 128⟩
abbrev HIF_FEAT_CTL_FEATURES_OK : Fld := ⟨0xB00020, 0, 1⟩
abbrev HIF_FEAT_ST_STATE : Fld := ⟨0xB00024, 0, 2⟩
abbrev HIF_FEAT_ST_REASON : Fld := ⟨0xB00024, 2, 3⟩
abbrev HIF_FEAT_ST_BIT : Fld := ⟨0xB00024, 5, 7⟩
abbrev HIF_VIEW_LIVE : Fld := ⟨0xB00030, 0, 1⟩
abbrev HIF_RING_CMD_BASE : Fld := ⟨0xB01000, 0, 64⟩
abbrev HIF_RING_CMD_LOG2 : Fld := ⟨0xB01008, 0, 4⟩
abbrev HIF_RING_CMD_EN : Fld := ⟨0xB01008, 8, 1⟩
abbrev HIF_RING_CMD_TAIL : Fld := ⟨0xB0100C, 0, 16⟩
abbrev HIF_RING_CMD_HEAD : Fld := ⟨0xB01010, 0, 16⟩
abbrev HIF_RING_CPL_COUNT : Fld := ⟨0xB01010, 16, 16⟩
abbrev HIF_RING_CPL_BASE : Fld := ⟨0xB01014, 0, 64⟩
abbrev HIF_RING_EV_BASE : Fld := ⟨0xB01020, 0, 64⟩
abbrev HIF_RING_EV_LOG2 : Fld := ⟨0xB01028, 0, 5⟩
abbrev HIF_RING_EV_EN : Fld := ⟨0xB01028, 8, 1⟩
abbrev HIF_RING_EV_MOD : Fld := ⟨0xB01028, 16, 16⟩
abbrev HIF_RING_EV_TAIL : Fld := ⟨0xB0102C, 0, 17⟩
abbrev HIF_RING_EV_HEAD : Fld := ⟨0xB01030, 0, 17⟩
abbrev HIF_RING_EV_SEQ : Fld := ⟨0xB01034, 0, 32⟩
abbrev HIF_RING_FIFO_FILL : Fld := ⟨0xB01038, 0, 10⟩
abbrev HIF_RING_LOSING : Fld := ⟨0xB01038, 10, 1⟩
abbrev TEN_CTL_EN (i : Nat) : Fld := ⟨0xB10000 + 0x4 * i, 0, 1⟩
abbrev TEN_ST_ENABLED (i : Nat) : Fld := ⟨0xB11000 + 0x4 * i, 0, 1⟩
abbrev TEN_ST_QUENCHED (i : Nat) : Fld := ⟨0xB11000 + 0x4 * i, 1, 1⟩
abbrev TEN_ST_ABSENT (i : Nat) : Fld := ⟨0xB11000 + 0x4 * i, 2, 1⟩
abbrev TEN_ST_FUNC (i : Nat) : Fld := ⟨0xB11000 + 0x4 * i, 3, 10⟩
abbrev TEN_CMD_RATE_RATE (i : Nat) : Fld := ⟨0xB12000 + 0x4 * i, 0, 16⟩
abbrev TEN_CMD_RATE_BURST (i : Nat) : Fld := ⟨0xB12000 + 0x4 * i, 16, 8⟩
abbrev TEN_QUENCH_RELEASE_RELEASE (i : Nat) : Fld := ⟨0xB13000 + 0x4 * i, 0, 32⟩
abbrev HMK_DRAM_CFG_SCRUB_H : Fld := ⟨0x800400, 0, 8⟩
abbrev HMK_DRAM_CFG_FAST_H : Fld := ⟨0x800400, 8, 8⟩
abbrev HMK_DRAM_ST_UP (i : Nat) : Fld := ⟨0x800410 + 0x10 * i, 0, 1⟩
abbrev HMK_DRAM_ST_DEGRADED (i : Nat) : Fld := ⟨0x800410 + 0x10 * i, 1, 1⟩
abbrev HMK_DRAM_ST_SCRUBBING (i : Nat) : Fld := ⟨0x800410 + 0x10 * i, 2, 1⟩
abbrev HMK_DRAM_ST_CE_DATA (i : Nat) : Fld := ⟨0x800414 + 0x10 * i, 0, 32⟩
abbrev HMK_DRAM_ST_CHECK_ONLY (i : Nat) : Fld := ⟨0x800418 + 0x10 * i, 0, 32⟩
abbrev HMK_DRAM_ST_UE (i : Nat) : Fld := ⟨0x80041C + 0x10 * i, 0, 32⟩
abbrev HMK_DRAM_LAST_ADDR (i : Nat) : Fld := ⟨0x800430 + 0x10 * i, 0, 64⟩
abbrev HMK_DRAM_LAST_REGION (i : Nat) : Fld := ⟨0x800438 + 0x10 * i, 0, 4⟩
abbrev HMK_DRAM_LAST_SYNDROME (i : Nat) : Fld := ⟨0x800438 + 0x10 * i, 4, 8⟩
abbrev GFL_STAT_UP : Fld := ⟨0xC00000, 0, 4⟩
abbrev GFL_STAT_ISO : Fld := ⟨0xC00000, 4, 4⟩
abbrev GFL_STAT_QUAR : Fld := ⟨0xC00000, 8, 4⟩
abbrev GFL_STAT_CFG_REFUSED : Fld := ⟨0xC00000, 12, 1⟩
abbrev GFL_AGREE_LIMIT : Fld := ⟨0xC00010, 0, 24⟩
abbrev GFL_SHARD_MAP_DEVID (i c : Nat) : Fld := ⟨0xC00020 + 0x4 * i, 0 + 4 * c, 3⟩
abbrev GFL_SHARD_MAP_VALID (i c : Nat) : Fld := ⟨0xC00020 + 0x4 * i, 3 + 4 * c, 1⟩
abbrev GFL_REL_RELEASE : Fld := ⟨0xC00040, 0, 4⟩
abbrev GFL_SHARD_ST_REMOTE_OUT : Fld := ⟨0xC00080, 0, 32⟩
abbrev GFL_SHARD_ST_REMOTE_IN : Fld := ⟨0xC00084, 0, 32⟩
abbrev GFL_SHARD_ST_LOCAL_FALLBACK : Fld := ⟨0xC00088, 0, 32⟩
abbrev GFL_SHARD_ST_SHARD_LOST : Fld := ⟨0xC0008C, 0, 32⟩
abbrev GFL_CFG_EN (i : Nat) : Fld := ⟨0xC00100 + 0x20 * i, 0, 1⟩
abbrev GFL_CFG_PAIR_LINK (i : Nat) : Fld := ⟨0xC00100 + 0x20 * i, 1, 1⟩
abbrev GFL_CFG_TT_PER (i : Nat) : Fld := ⟨0xC00100 + 0x20 * i, 2, 8⟩
abbrev GFL_CFG_ASYM (i : Nat) : Fld := ⟨0xC00104 + 0x20 * i, 0, 32⟩
abbrev GFL_CFG_TT_BOUND (i : Nat) : Fld := ⟨0xC00108 + 0x20 * i, 0, 32⟩
abbrev GFL_ST_STATE (i : Nat) : Fld := ⟨0xC00200 + 0x20 * i, 0, 3⟩
abbrev GFL_ST_PEER (i : Nat) : Fld := ⟨0xC00200 + 0x20 * i, 3, 3⟩
abbrev GFL_ST_ISO (i : Nat) : Fld := ⟨0xC00200 + 0x20 * i, 6, 1⟩
abbrev GFL_ST_TRAINS (i : Nat) : Fld := ⟨0xC00200 + 0x20 * i, 8, 8⟩
abbrev GFL_ST_RETRIES (i : Nat) : Fld := ⟨0xC00204 + 0x20 * i, 0, 32⟩
abbrev GFL_ST_DUPS (i : Nat) : Fld := ⟨0xC00208 + 0x20 * i, 0, 32⟩
abbrev GFL_ST_QUAR_DROP (i : Nat) : Fld := ⟨0xC0020C + 0x20 * i, 0, 32⟩
abbrev GFL_ST_FEAT_IN (i : Nat) : Fld := ⟨0xC00210 + 0x20 * i, 0, 128⟩
abbrev GFL_TT_OFFSET (i : Nat) : Fld := ⟨0xC00300 + 0x20 * i, 0, 64⟩
abbrev GFL_TT_RTT (i : Nat) : Fld := ⟨0xC00308 + 0x20 * i, 0, 64⟩
abbrev GFL_TT_T (i : Nat) : Fld := ⟨0xC00310 + 0x20 * i, 0, 64⟩
abbrev GFL_TT_PEER_TEB (i : Nat) : Fld := ⟨0xC00318 + 0x20 * i, 0, 32⟩
abbrev GFL_TT_SEQ (i : Nat) : Fld := ⟨0xC0031C + 0x20 * i, 0, 16⟩
abbrev GFL_TT_VALID (i : Nat) : Fld := ⟨0xC0031C + 0x20 * i, 16, 1⟩
abbrev SEAM_STAT_BUSY : Fld := ⟨0xC10000, 0, 1⟩
abbrev SEAM_STAT_EN : Fld := ⟨0xC10000, 1, 1⟩
abbrev SEAM_STAT_CONT_ONLY : Fld := ⟨0xC10000, 2, 1⟩
abbrev SEAM_STAT_ROLLCALL : Fld := ⟨0xC10000, 3, 1⟩
abbrev SEAM_STAT_MINORITY : Fld := ⟨0xC10000, 4, 1⟩
abbrev SEAM_STAT_DEVID_CONFLICT : Fld := ⟨0xC10000, 5, 1⟩
abbrev SEAM_STAT_GEN : Fld := ⟨0xC10000, 16, 16⟩
abbrev SEAM_CFG_ALIGN_LIM : Fld := ⟨0xC10004, 0, 10⟩
abbrev SEAM_MEMBERS_MEMBERS : Fld := ⟨0xC10008, 0, 8⟩
abbrev SEAM_MEMBERS_HEARD : Fld := ⟨0xC10008, 8, 8⟩
abbrev SEAM_MEMBERS_AGREE : Fld := ⟨0xC10008, 16, 8⟩
abbrev SEAM_MEMBERS_AGAINST : Fld := ⟨0xC10008, 24, 8⟩
abbrev SEAM_TX_CTL_SEND : Fld := ⟨0xC10010, 0, 1⟩
abbrev SEAM_TX_CTL_DST : Fld := ⟨0xC10010, 1, 3⟩
abbrev SEAM_TX_CTL_BCAST : Fld := ⟨0xC10010, 4, 1⟩
abbrev SEAM_TX_CTL_LEN : Fld := ⟨0xC10010, 5, 8⟩
abbrev SEAM_TX_ST_RESULT : Fld := ⟨0xC10014, 0, 2⟩
abbrev SEAM_TX_ST_PENDING : Fld := ⟨0xC10014, 2, 1⟩
abbrev SEAM_TX_ST_ATTEMPTS : Fld := ⟨0xC10014, 3, 5⟩
abbrev SEAM_TX_ST_DROPS : Fld := ⟨0xC10014, 8, 16⟩
abbrev SEAM_TX_ST_RX_LOST : Fld := ⟨0xC10014, 24, 8⟩
abbrev SEAM_TX_DATA_DATA (i : Nat) : Fld := ⟨0xC10100 + 0x4 * i, 0, 32⟩
abbrev SEAM_RX_ACK_MASK : Fld := ⟨0xC10180, 0, 16⟩
abbrev SEAM_RX_FULL (i : Nat) : Fld := ⟨0xC10200 + 0x90 * i, 0, 1⟩
abbrev SEAM_RX_SRC (i : Nat) : Fld := ⟨0xC10200 + 0x90 * i, 1, 3⟩
abbrev SEAM_RX_BCAST (i : Nat) : Fld := ⟨0xC10200 + 0x90 * i, 4, 1⟩
abbrev SEAM_RX_LEN (i : Nat) : Fld := ⟨0xC10200 + 0x90 * i, 5, 8⟩
abbrev SEAM_RX_SHORT (i : Nat) : Fld := ⟨0xC10204 + 0x90 * i, 0, 64⟩
abbrev SEAM_RX_DATA (i : Nat) : Fld := ⟨0xC1020C + 0x90 * i, 0, 1024⟩
abbrev SEAM_PEER_STATE (i : Nat) : Fld := ⟨0xC11000 + 0x40 * i, 0, 3⟩
abbrev SEAM_PEER_FLAGS (i : Nat) : Fld := ⟨0xC11000 + 0x40 * i, 3, 5⟩
abbrev SEAM_PEER_AGE (i : Nat) : Fld := ⟨0xC11000 + 0x40 * i, 8, 8⟩
abbrev SEAM_PEER_GEN (i : Nat) : Fld := ⟨0xC11000 + 0x40 * i, 16, 16⟩
abbrev SEAM_PEER_DIGEST (i : Nat) : Fld := ⟨0xC11004 + 0x40 * i, 0, 256⟩
abbrev SEAM_PEER_FEATURES (i : Nat) : Fld := ⟨0xC11024 + 0x40 * i, 0, 128⟩
abbrev SEAM_PEER_AGREE (i : Nat) : Fld := ⟨0xC11034 + 0x40 * i, 0, 8⟩
abbrev SEAM_PEER_LINKED (i : Nat) : Fld := ⟨0xC11034 + 0x40 * i, 8, 8⟩
abbrev SEAM_PEER_OFS_OFFSET (i j : Nat) : Fld := ⟨0xC11400 + 0x20 * i + 0x4 * j, 0, 32⟩
abbrev PAIR_STAT_ROLE : Fld := ⟨0xC20000, 0, 3⟩
abbrev PAIR_STAT_DRIVING : Fld := ⟨0xC20000, 3, 1⟩
abbrev PAIR_STAT_TIE : Fld := ⟨0xC20000, 4, 1⟩
abbrev PAIR_STAT_BIAS : Fld := ⟨0xC20000, 5, 1⟩
abbrev PAIR_STAT_CLAIM_MISMATCH : Fld := ⟨0xC20000, 6, 1⟩
abbrev PAIR_STAT_CFG_REFUSED : Fld := ⟨0xC20000, 7, 1⟩
abbrev PAIR_STAT_CEILING : Fld := ⟨0xC20000, 8, 4⟩
abbrev PAIR_STAT_CLAIM : Fld := ⟨0xC20000, 12, 4⟩
abbrev PAIR_STAT_PEER_CLAIM : Fld := ⟨0xC20000, 16, 4⟩
abbrev PAIR_STAT_POS : Fld := ⟨0xC20000, 20, 1⟩
abbrev PAIR_STAT_POS_CONFLICT : Fld := ⟨0xC20000, 21, 1⟩
abbrev PAIR_CFG_PAIR_CLAIM : Fld := ⟨0xC20010, 0, 4⟩
abbrev PAIR_CFG_DRILL_HOLD : Fld := ⟨0xC20010, 4, 16⟩
abbrev PAIR_BOUND_LIMIT_LIMIT : Fld := ⟨0xC20014, 0, 32⟩
abbrev PAIR_TRIG_TRIG : Fld := ⟨0xC20020, 0, 6⟩
abbrev PAIR_TRIG_DRILL : Fld := ⟨0xC20020, 6, 1⟩
abbrev PAIR_TRIG_FAULT : Fld := ⟨0xC20020, 7, 1⟩
abbrev PAIR_TRIG_OUT_IDX : Fld := ⟨0xC20020, 16, 5⟩
abbrev PAIR_INGOT_ST_AGE : Fld := ⟨0xC20030, 0, 16⟩
abbrev PAIR_INGOT_ST_STALE : Fld := ⟨0xC20030, 16, 1⟩
abbrev PAIR_INGOT_ST_DIVERGED : Fld := ⟨0xC20030, 17, 1⟩
abbrev PAIR_INGOT_ST_RESYNC : Fld := ⟨0xC20030, 18, 1⟩
abbrev PAIR_INGOT_ST_ACCEPTED : Fld := ⟨0xC20034, 0, 32⟩
abbrev PAIR_INGOT_ST_DISCARDED : Fld := ⟨0xC20038, 0, 32⟩
abbrev PAIR_INGOT_ST_JOURNAL : Fld := ⟨0xC2003C, 0, 17⟩
abbrev PAIR_RESYNC_ST_PROGRESS : Fld := ⟨0xC20040, 0, 10⟩
abbrev PAIR_RESYNC_ST_KIND : Fld := ⟨0xC20040, 10, 1⟩
abbrev PAIR_RESYNC_ST_COUNT : Fld := ⟨0xC20044, 0, 32⟩
abbrev PAIR_DRILL_ST_RESULT : Fld := ⟨0xC20050, 0, 3⟩
abbrev PAIR_DRILL_ST_RUNNING : Fld := ⟨0xC20050, 3, 1⟩
abbrev PAIR_DRILL_ST_LAST : Fld := ⟨0xC20054, 0, 64⟩
abbrev PAIR_DRILL_ST_COUNT : Fld := ⟨0xC2005C, 0, 32⟩
abbrev OBS_STAT_DRAM_ACTIVE : Fld := ⟨0xD00000, 0, 1⟩
abbrev OBS_STAT_PIN_ACTIVE : Fld := ⟨0xD00000, 1, 1⟩
abbrev OBS_STAT_LOSING : Fld := ⟨0xD00000, 2, 1⟩
abbrev OBS_LAST_T_SHORT : Fld := ⟨0xD00008, 0, 64⟩
abbrev OBS_SMP_MOD_SMP_MOD : Fld := ⟨0xD00020, 0, 16⟩
abbrev OBS_SMP_CFG_CNT (i : Nat) : Fld := ⟨0xD00100 + 0x10 * i, 0, 11⟩
abbrev OBS_SMP_CFG_EN (i : Nat) : Fld := ⟨0xD00100 + 0x10 * i, 11, 1⟩
abbrev OBS_SMP_CFG_N (i : Nat) : Fld := ⟨0xD00104 + 0x10 * i, 0, 32⟩
abbrev OBS_SMP_ST_SAMPLES (i : Nat) : Fld := ⟨0xD00180 + 0x8 * i, 0, 32⟩
abbrev OBS_SMP_ST_LOST (i : Nat) : Fld := ⟨0xD00184 + 0x8 * i, 0, 32⟩
abbrev OBS_TRC_CFG_DRAM_EN : Fld := ⟨0xD00200, 0, 1⟩
abbrev OBS_TRC_CFG_PIN_EN : Fld := ⟨0xD00200, 1, 1⟩
abbrev OBS_TRC_CFG_LOG2 : Fld := ⟨0xD00200, 2, 5⟩
abbrev OBS_TRC_CFG_TYPES : Fld := ⟨0xD00204, 0, 32⟩
abbrev OBS_TRC_BASE_BASE : Fld := ⟨0xD00208, 0, 64⟩
abbrev OBS_TRC_ST_HEAD : Fld := ⟨0xD00210, 0, 32⟩
abbrev OBS_TRC_ST_TSEQ : Fld := ⟨0xD00214, 0, 32⟩
abbrev OBS_TRC_ST_STAGE_LOST : Fld := ⟨0xD00218, 0, 32⟩
abbrev OBS_TRC_ST_PIN_LOST : Fld := ⟨0xD0021C, 0, 32⟩
abbrev OBS_TRC_RDPTR_RDPTR : Fld := ⟨0xD00220, 0, 32⟩
abbrev OBS_CNT_COUNT (i : Nat) : Fld := ⟨0xD04000 + 0x8 * i, 0, 64⟩
abbrev OBS_TEN_CNT_COUNT (i j : Nat) : Fld := ⟨0xD20000 + 0x80 * i + 0x8 * j, 0, 64⟩
abbrev SYS_PD_CTL_ON : Fld := ⟨0xE00300, 0, 30⟩
abbrev SYS_PD_ST_PG : Fld := ⟨0xE00304, 0, 30⟩
abbrev SYS_PD_FAULT_FAULT : Fld := ⟨0xE00308, 0, 30⟩
abbrev SYS_PD_REF_REFUSED : Fld := ⟨0xE0030C, 0, 30⟩
abbrev SYS_RST_ST_CAUSE : Fld := ⟨0xE00310, 0, 3⟩
abbrev SYS_RST_ST_WARM_COUNT : Fld := ⟨0xE00310, 8, 8⟩
abbrev SYS_STRAP_BOOT_SRC : Fld := ⟨0xE00314, 0, 2⟩
abbrev SYS_STRAP_DEVID : Fld := ⟨0xE00314, 2, 3⟩
abbrev SYS_STRAP_PAIR_POS : Fld := ⟨0xE00314, 5, 1⟩
abbrev SYS_STRAP_SEAM_EN : Fld := ⟨0xE00314, 6, 1⟩
abbrev SYS_BOOT_ST_STATE : Fld := ⟨0xE00320, 0, 3⟩
abbrev SYS_BOOT_ST_DRAM_FAIL : Fld := ⟨0xE00320, 3, 1⟩
abbrev SYS_BOOT_ST_ALERT : Fld := ⟨0xE00320, 4, 1⟩
abbrev SYS_BOOT_ST_T_SPLL : Fld := ⟨0xE00324, 0, 32⟩
abbrev SYS_BOOT_ST_T_IMAGE : Fld := ⟨0xE00328, 0, 32⟩
abbrev SYS_BOOT_ST_T_DRAM : Fld := ⟨0xE0032C, 0, 32⟩

end F

end Sys2Proof.Machine
end

