-- ==== Sys2Proof/Machine/Store.lean ====
section
/-!
DEFINITION. Sys2Proof/Machine/Store.lean: the register file as plain data.

A store is a list of (key, word) pairs in one canonical form: keys strictly rising, and no pair equal to what an unlisted
key reads as, which is the register's reset word. A key is a byte address of the provider's BAR0 (R359) plus 2^25 times the
PCIe function for the registers each function has to itself (R65, R234, R371, R445).
-/

namespace Sys2Proof.Machine

/-- The register file: words that differ from their reset value, by key. -/
abbrev Store := List (Nat × Word)

/-- The copy of a provider register that belongs to PCIe function fn. -/
def fnBase (fn : Nat) : Nat := fn * 2 ^ 25

/-- A field of the copy that belongs to function fn. -/
def Fld.on (f : Fld) (fn : Nat) : Fld := { f with a := f.a + fnBase fn }

/-- Place of an address in a register: indices of both ranges and the word. -/
def RegDesc.locate (d : RegDesc) (a : Nat) : Option (Nat × Nat × Nat) :=
  let x := a - d.base
  let i := if d.s1 = 0 then 0 else x / d.s1
  -- with two ranges the inner stride may exceed the outer one's words only inside the outer stride
  let y := if d.s1 = 0 then x else x % d.s1
  let j := if d.s2 = 0 then 0 else y / d.s2
  let z := if d.s2 = 0 then y else y % d.s2
  if a < d.base then none
  else if i < d.n1 ∧ j < d.n2 ∧ z < 4 * d.words.length then some (i + d.i0, j, z / 4) else none

/-- The register of a table that holds an address, with its place. -/
def findIn (a : Nat) : List RegDesc → Option (RegDesc × Nat × Nat × Nat)
  | [] => none
  | d :: t =>
    match d.locate a with
    | some (i, j, w) => some (d, i, j, w)
    | none => findIn a t

/-- The register that holds a provider BAR0 Normal address (R359), with its indices and word. -/
def findReg (a : Nat) : Option (RegDesc × Nat × Nat × Nat) := findIn a (regsOf (a / 0x100000))

/-- The reset values of ASY_SRC_CFG(s) (the table after its field table, spec/05). -/
def asySrcReset : Nat → Nat
  | 0 => 0x02002040
  | 1 => 0x0E108258
  | 2 => 0x0E108258
  | 3 => 0x0040F001
  | 4 => 0x0040F001
  | 5 => 0x0040F001
  | 6 => 0x0040F001
  | 7 => 0x0040F008
  | 8 => 0x02004040
  | _ => 0

/-- The reset word of a register word. -/
def RegDesc.rstWord (d : RegDesc) (i w : Nat) : Nat :=
  if d.id = .ASY_SRC_CFG then asySrcReset i else match d.words[w]? with | some x => x.rst | none => 0

/-- What an unlisted key reads as: the reset value of its register word (R16), 0 where no register lies. -/
def resetWord (k : Nat) : Word :=
  match findReg (k % 2 ^ 25) with
  | some (d, i, _, w) => BitVec.ofNat 32 (d.rstWord i w)
  | none => 0

/-- A word written through an alias in the bits of a mask (R361): 0 Normal, 1 SET, 2 CLR, 3 TOG. -/
def aliasVal (al old v m : Nat) : Nat :=
  match al with
  | 0 => (old - (old &&& m)) ||| (v &&& m)
  | 1 => old ||| (v &&& m)
  | 2 => old - (old &&& (v &&& m))
  | _ => old ^^^ (v &&& m)

namespace Store

/-- The word at a key. -/
def word (st : Store) (k : Nat) : Word := (alGet st k).getD (resetWord k)

/-- The store with a word written, in canonical form. -/
def put (st : Store) (k : Nat) (v : Word) : Store :=
  if v = resetWord k then alDel st k else alSet st k v

/-- Keys strictly rising from a floor, and no word equal to its reset value. -/
def wfFrom (lo : Nat) : Store → Bool
  | [] => true
  | (k, v) :: t => decide (lo ≤ k) && decide (v ≠ resetWord k) && wfFrom (k + 1) t

/-- The canonical form. -/
def wf (st : Store) : Bool := wfFrom 0 st

/-- n words from key a on, as one little-endian number (R13). -/
def join (st : Store) (a : Nat) : Nat → Nat
  | 0 => 0
  | n + 1 => (word st a).toNat + 2 ^ 32 * join st (a + 4) n

/-- n words from key a on written from a little-endian number. -/
def putWords (st : Store) (a : Nat) : Nat → Nat → Store
  | 0, _ => st
  | n + 1, v => putWords (put st a (BitVec.ofNat 32 v)) (a + 4) n (v / 2 ^ 32)

/-- How many words a field touches. -/
def span (f : Fld) : Nat := (f.lo + f.w + 31) / 32

/-- The value of a field. -/
def get (st : Store) (f : Fld) : Nat := bitsOf (join st f.a (span f)) f.lo f.w

/-- The store with a field set to v modulo its width. -/
def set (st : Store) (f : Fld) (v : Nat) : Store :=
  let old := join st f.a (span f)
  putWords st f.a (span f) (old - bitsOf old f.lo f.w * 2 ^ f.lo + v % 2 ^ f.w * 2 ^ f.lo)

end Store

end Sys2Proof.Machine
end

