-- ==== Sys2Proof/Machine/State.lean ====
section
/-!
DEFINITION. Sys2Proof/Machine/State.lean: the state of the block, as plain data.

Every register of the spec's register tables is a word of `regs` (live values) and, while a shadowed register waits for its
strobe, of `pend` (shadow values, R363). What the spec gives the machine besides its registers stands in one structure a
block. `pending` is the queue of commands that wait, first in, first out.
-/

namespace Sys2Proof.Machine

/-- Why a step stops with a fault. The model raises none: every event of the spec has an effect or leaves the state as it
is. The constructor stands for a command whose effect the spec leaves undefined; raising it would be safe. -/
inductive Fault where
  | undefinedBySpec
  deriving DecidableEq, Repr

/-- Why a step is refused. `notModelled`: the command has no meaning yet; exec's arms alone raise it, and it is safe. -/
inductive Refusal where
  | notModelled (mnemonic : String)
  deriving DecidableEq, Repr

/-- What leaves the part, in the order it leaves. -/
inductive Out where
  /-- An event record at a host address (R376). -/
  | evRec (fn addr seq : Nat) (phase : Bool) (r : EvRec)
  /-- A completion at a host address (R371, R372). -/
  | completion (fn addr tag status : Nat) (phase dup : Bool) (seq result : Nat)
  /-- An MSI-X signal (R382). -/
  | msix (fn vec : Nat)
  /-- Data written to host memory: address, byte count, contents. -/
  | hostWrite (fn addr n v : Nat)
  /-- A value returned to the reader of a register (R360, R366): function, address, width in bits, value. -/
  | readData (fn addr width v : Nat)
  /-- A frame on an SPI master of the part: 0 EFC, 1 + i front-end chip select i; bits sent, value. -/
  | spi (port nbits v : Nat)
  /-- A scheduled edge on an output pin: output 0 to 23, the level of its P leg after it, instant in core ns and ps (R221). -/
  | edge (out : Nat) (level : Bool) (ns ps : Nat)
  /-- The first active edge of an output that starts, core ns (R214). -/
  | start (out : Nat) (at_ : Rat)
  /-- An output holds the levels of its P and N legs, none for high impedance (R214, R219). -/
  | stop (out : Nat) (p n : Option Bool)
  /-- An output runs on the bypass clock, divided (R210). -/
  | bypass (out div : Nat)
  /-- LOCKAb (R212): high impedance, high, or pulsed with a duty. -/
  | locka (b : Nat) (v : Option (Option Rat))
  /-- A time-code element on a GOUT output (R220): 0 zero, 1 one, 2 marker. -/
  | timecode (out elem : Nat)
  /-- A frame that starts on a port: port, kind (0 launched, 1 host, 2 best effort of Hallmark, 3 fragment, 4 loop), bytes
  with FCS, the instant of its first bit after the SFD in core ps, deliberately bad FCS, contents. -/
  | frame (port kind len at_ : Nat) (badFcs : Bool) (body : Body)
  /-- A received frame given to the provider's receive path with its receive timestamp (R263). -/
  | hostFrame (port len bytes short frac : Nat)
  /-- A serial message on TODOUT (R347). -/
  | todOut (i n v : Nat)
  /-- A cell sent on a Ghefotha link (R401): link, cell. -/
  | cell (link : Nat) (c : GCell)
  /-- A station report on the Seam bus (R414): its 64 bytes, byte 0 lowest. -/
  | seamReport (bytes : Nat)
  /-- A contention message on the Seam bus (R415). -/
  | seamMsg (m : SeamMsg)
  /-- The claim on CLAIM_OUT, none for high impedance (R424, R426). -/
  | claim (v : Option Nat)
  /-- The pair-shared pads begin to drive their internal levels, or are released to their keepers (R424, R431, R432). -/
  | pads (drive : Bool)
  /-- PAIR_OK_L pulled low or released (R422). -/
  | pairOk (low : Bool)
  /-- A block of 192 frames sent by a media port, with the instant of its Z preamble (R222, R224), and its line held low (R225). -/
  | aes (m : Nat) (short frac : Nat) (b : AesBlk)
  | aesLow (m : Nat)
  /-- A trace record on the trace pins (R453). -/
  | tracePin (frame : Nat)
  /-- ALERT_L asserted (R457). -/
  | alert
  deriving DecidableEq, Repr

/-! ## Time core (R151 to R153) -/

/-- The time core. Instants are exact counts of 2^-56 ns since TAI 1970-01-01 00:00:00 (R40, R151). -/
structure TimeSt where
  /-- The core has run since SPLL lock (R47, R202). -/
  running : Bool
  /-- The core's reading. -/
  core : Nat
  /-- The next tick boundary, in whole ns since the epoch (R36, R50). -/
  tickAt : Nat
  /-- Ticks counted (R138). -/
  tickNo : Nat
  /-- CCLK cycles counted since the core started, and the cycle of the last tick boundary. -/
  cyc : Nat
  tickCyc : Nat
  /-- Reading of the last tick boundary, whole ns, before any move at it. -/
  tickNs : Nat
  /-- The reading of the cycle before the present one, 2^-56 ns (R230); −1 before the first. -/
  prev : Int
  /-- Anneal rate S a cycle, 2^-56 ns (R166); 0 before its first tick. -/
  annS : Int
  /-- The rate the Anneal takes at the next boundary, while it waits for it. -/
  annNext : Int
  /-- The tick that must have passed before a waiting Anneal starts (R166). -/
  annFrom : Nat
  /-- Anneal remainder R, 2^-56 ns. -/
  annR : Int
  /-- Anneal amount as accepted, 2^-16 ns. -/
  annAmt : Int
  /-- Deciding clock of the Anneal, 255 for a command (R176). -/
  annClock : Nat
  /-- The time replicas whose reading differs from the core's (R22, R23): block and difference in 2^-56 ns. Every replica that is
  not listed reads what the core reads; all advance by the addend. -/
  reps : List (Nat × Int)
  deriving DecidableEq, Repr

/-! ## Host interface (R355 to R382) -/

/-- A command in flight on a ring (R371): its position, descriptor, and its completion once it has finished. -/
structure Cmd where
  n : Nat
  d : Desc
  /-- Started for execution; otherwise it waits or only its TAG counts. -/
  started : Bool
  /-- Its block has it under way. -/
  taken : Bool
  /-- Status and RESULT once finished. -/
  done : Option (Nat × Nat)
  /-- Position of the original, for a duplicate (R375). -/
  dupOf : Option Nat
  deriving DecidableEq, Repr

/-- An entry of the tag window of R375: position, TAG, and the completion once known. -/
structure TagEnt where
  n : Nat
  tag : Nat
  done : Option (Nat × Nat)
  deriving DecidableEq, Repr

/-- A pending coalesced count (R377): type, events, instant of the first. -/
structure Coal where
  typ : Nat
  count : Nat
  short : Nat
  frac : Nat
  deriving DecidableEq, Repr

/-- A run of discarded events (R377, R378): events lost, whether one met a disabled ring, instant of the first. -/
structure LossRun where
  lost : Nat
  disabled : Bool
  short : Nat
  frac : Nat
  deriving DecidableEq, Repr

/-- What a PCIe function has besides its registers. -/
structure FnSt where
  /-- Bus Master Enable (R358). -/
  bme : Bool
  /-- Function quenched (R388). -/
  quenched : Bool
  /-- Staging FIFO, oldest first (R377). -/
  fifo : List EvRec
  /-- Pending coalesced counts, ascending TYPE. -/
  coal : List Coal
  /-- Events lost for want of FIFO room (without EVENT_COALESCE). -/
  fifoLoss : Option LossRun
  /-- Discard run at the ring (R378). -/
  ringLoss : Option LossRun
  /-- End of the vector 0 hold-off, core ns, and whether a record was written during it (R382). -/
  holdEnd : Nat
  holdRec : Bool
  /-- Commands fetched and not completed, in submission order. -/
  cmds : List Cmd
  /-- Started commands whose completion is not written (R358), under positions of their own, and how often there were
  such. -/
  orphans : List Cmd
  orphGen : Nat
  /-- Descriptors fetched, unwrapped. -/
  fetched : Nat
  /-- Completion positions passed, unwrapped. -/
  cpl : Nat
  /-- CMD_TAIL, unwrapped. -/
  avail : Nat
  /-- CMD_TAIL at a quench (R388): descriptors below it complete with QUENCHED. -/
  qTail : Nat
  /-- Descriptors below it were made available while TEN_CTL.EN was 0 and flush (R358). -/
  flushTo : Nat
  /-- Command bucket, 10^-6 tokens, and when it was last filled, core ns (R374). -/
  bucket : Nat
  bucketAt : Nat
  /-- Tag window, newest first (R375). -/
  tags : List TagEnt
  /-- Ring positions for the phase of completions and events. -/
  evPos : Nat
  /-- The function has read TSK_SNAP_NS since its snapshot was reset (R65). -/
  snapped : Bool
  deriving DecidableEq, Repr

/-- A function as it is after reset. -/
def FnSt.reset : FnSt :=
  { bme := false, quenched := false, fifo := [], coal := [], fifoLoss := none, ringLoss := none, holdEnd := 0,
    holdRec := false, cmds := [], orphans := [], orphGen := 0, fetched := 0, cpl := 0, avail := 0, qTail := 0, flushTo := 0, bucket := 255000000, bucketAt := 0,
    tags := [], evPos := 0, snapped := false }

/-- A posted write to a slow domain that BUSY covers (R365): window, key, word as the slow domain will hold it, and whether
the written value carried a trigger bit. -/
structure Posted where
  win : Nat
  key : Nat
  al : Nat
  v : Nat
  deriving DecidableEq, Repr

/-- Host interface and tenant partition. -/
structure HifSt where
  fns : List (Nat × FnSt)
  /-- Tenants whose VF is not the tenant's own number (R357): (tenant, VF). -/
  vfOf : List (Nat × Nat)
  /-- SR-IOV VF Enable. -/
  vfEnable : Bool
  /-- Feature set in force, and whether a set has been ACCEPTED since WARMRST_L or PORST_L (R370). -/
  feats : Nat
  accepted : Bool
  /-- PERST_L seen since the last WARMRST_L or PORST_L. -/
  perst : Bool
  /-- Features the live image requires (R368). -/
  imgReq : Nat
  /-- Shadow words as they were before the writes of cycle `freshAt` (R26). -/
  fresh : List (Nat × Option Word)
  freshAt : Nat
  /-- Cycle and groups of the last scheduled strobe, until a write of a shadow register (R26). -/
  struck : Nat × Nat
  /-- Update group of each window's block (R364). -/
  grp : List (Nat × Nat)
  /-- Posted writes that BUSY covers, one a slow domain. -/
  posted : List Posted
  /-- Records of the boot that go first at the provider's first ring enable (R397, R320, R468). -/
  bootRecs : List EvRec
  /-- The provider's event ring has not been enabled since the last reset (R468). -/
  bootDue : Bool
  /-- Upstream links that the image gives to port engines: (engine, link) (R347). -/
  upLink : List (Nat × Nat)
  deriving DecidableEq, Repr

/-! ## Observation (R442 to R453) -/

/-- A sampling slot (R448): its count, when it last raised a sample, its statistics. -/
structure Slot where
  cnt : Nat
  last : Option Nat
  samples : Nat
  lost : Nat
  deriving DecidableEq, Repr

/-- Observation plane. -/
structure ObsSt where
  /-- Device counters by index (R443). -/
  cnt : List (Nat × Nat)
  /-- Tenant counters by 16 t + k (R447). -/
  ten : List (Nat × Nat)
  slots : List (Nat × Slot)
  /-- End of the vector 2 hold-off, core ns, and a sample raised during it (R449). -/
  smpEnd : Nat
  smpPend : Bool
  /-- Trace staging FIFO, oldest first, and records lost since it filled, with the TSEQ of the first (R451). -/
  stage : List TrcRec
  stageLoss : Option (Nat × Nat)
  tseq : Nat
  stageLost : Nat
  /-- Losses not yet reported by OBS_TRACE_LOSS and when the last report was written, core ns. -/
  unreported : Nat
  reportAt : Option Nat
  /-- Records written to the DRAM ring, newest first, with their number; HEAD counts them (R452). -/
  ring : List (Nat × TrcRec)
  head : Nat
  /-- Pin FIFO, oldest first, and its losses (R453). -/
  pin : List TrcRec
  pinLoss : Option (Nat × Nat)
  pinLost : Nat
  deriving DecidableEq, Repr

/-! ## Timescale kernel, Almanac and bounds (R47 to R68, R151 to R200) -/

/-- An accepted date that waits for its mark and load (R62 to R64). -/
structure DatePend where
  /-- SCALE, seconds since 1970 in that scale with second 60 counted as 59, whether it is second 60, and NS (R62). -/
  scale : Nat
  u : Int
  s60 : Bool
  ns : Nat
  mark : Bool
  ch : Nat
  /-- The marking edge, 2^-56 ns of provisional time. -/
  edge : Option Nat
  /-- When GO was accepted: core ns and cycle. -/
  goAt : Nat
  goCyc : Nat
  deriving DecidableEq, Repr

/-- A clock state frozen at the entry of anchored holdover (R170): x̂ in ns, y and d. -/
structure Frozen where
  xhat : Rat
  y : Int
  d : Int
  tick : Nat
  deriving DecidableEq, Repr

/-- Kernel state that no register shows. -/
structure TskSt where
  /-- Servo integrator I, ns/s, last xs and x, ns (R159). -/
  integ : Rat
  xsLast : Rat
  x : Rat
  /-- Tick of the last proposal (R163). -/
  lastProp : Option Nat
  /-- Holdover growth of the last HOLDOVER tick until the first proposal after it, ps (R163). -/
  h : Nat
  /-- Ticks unbroken in LOCKED (R170) and FREQ_ADJ of the last LOCKED ticks, newest first. -/
  lockedRun : Nat
  fHist : List Int
  /-- First accepted offset of each clock since PROV_LOCK was entered, 2^-16 ns (R159). -/
  base : List (Nat × Int)
  /-- Clocks frozen at HOLDOVER entry. -/
  frozen : List (Nat × Frozen)
  /-- Drift of clock 0 at HOLDOVER entry, entry tick, DAC code at entry (R170, R172). -/
  d0 : Int
  holdTick : Nat
  holdCode : Nat
  /-- MODELLED frequency engine 3 computed last, 2^-56 (R170). -/
  modelF : Int
  /-- Growth held at the last change of HOLD_ACT or anchor, tick of that change, and what was in force:
  16 × HOLD_ACT + anchor (R186). -/
  gHeld : Nat
  gTick : Nat
  gKey : Nat
  /-- Core TEB computed at the last boundary before STEP_HOLD, and ticks STEP_HOLD still lasts (R188). -/
  tebBefore : Nat
  stepHold : Nat
  /-- Core TEB computed at the last boundary, before R188, R190 and R203. -/
  tebCalc : Nat
  /-- Pair floor F and the instant of the takeover, core ns (R190). -/
  floor : Option Nat
  floorAt : Nat
  /-- Number of the last boundary, and the core's reading at it, after any move, in whole ns. -/
  bnd : Nat
  bndNs : Nat
  /-- TEB and tick at MANUAL entry (R178). -/
  manTeb : Nat
  manTick : Nat
  /-- Deciding reference of the source tag, 62 for a date load, 63 none; whether it is held (R197). -/
  tagRef : Nat
  /-- The source tag held in FROZEN and MODELLED holdover and in MANUAL (R197). -/
  tagHeld : Nat
  /-- The boundary of its last accepted measurement before the holdover, core ns (R283). -/
  tagAt : Option Nat
  /-- Exponent of the published bound float at the last boundary (R200). -/
  lastExp : Nat
  lastTag : Nat
  /-- The tick that the last armed step began (R134). -/
  stepTick : Option Nat
  /-- The core was moved forward at the last boundary (R50, R64, R165). -/
  jumped : Bool
  /-- The live arm: MAG and TOL in ns, DEADLINE in short time (R169). -/
  arm : Option (Nat × Nat × Nat)
  /-- The integrator is loaded at the next servo run (R155). -/
  load : Bool
  /-- Kernel engines 0 and 3 quenched at the last boundary (R173). -/
  seen0 : Bool
  seen3 : Bool
  /-- Mean of R170 at the end of the last LOCKED run, or PROV_LOCK run where there was none. -/
  fMean : Option Int
  /-- Tick of engine 3's last model run, and the temperature terms last computed, 2^-56 (R170, R171). -/
  modelTick : Nat
  tTerm : Rat
  /-- Qualified dated reference at the end of provisional time, if a ToD reference (R154, R185). -/
  todRef : Option Nat
  /-- References whose R50 PHASE_JUMP has been raised since their A was last ahead. -/
  behind : List Nat
  /-- Live leap table and expiry, and the accepted table that waits for the strobe (R54). -/
  leap : List LeapEnt
  leapExp : Nat
  leapPend : Option (List LeapEnt × Nat)
  leapExpired : Bool
  date : Option DatePend
  /-- A date load happened: HOLDOVER's TEB_ENTRY and tag come from it (R185, R197). -/
  dateLoaded : Bool
  /-- SPLL_LOL holds the TEB unbounded until this core ns, once relocked (R203). -/
  lolUntil : Option Nat
  lol : Bool
  /-- A boundary has come since the loss of lock: the TEB is held unbounded (R203). -/
  lolOn : Bool
  /-- The floor that a STANDBY unit publishes as its core TEB (R434). -/
  stby : Option Nat
  /-- The dated measurements that entered each clock's x̂_c, newest first: tick, instant in core ns, bound (R181). -/
  datedIn : List (Nat × List (Nat × Nat × Nat))
  /-- Mean FREQ_ADJ accumulator of the EFC period: sum and ticks (R172). -/
  efcSum : Int
  efcTicks : Nat
  /-- Tick of the last learned coefficient write (R171). -/
  learnTick : Option Nat
  deriving DecidableEq, Repr

/-! ## Assay (R127 to R150, R494) -/

/-- What a claim is made of (R182, R183): a fixed part, the additions for stale calibration, the ionosphere term of a
single-frequency solution, RESID of a solution, and whether the sum is carried as a bound float. -/
structure ClaimParts where
  base : Nat
  cdc : Bool
  path : Bool
  iono : Bool
  resid : Nat
  flt : Bool
  deriving DecidableEq, Repr

/-- A measurement that waits for its judgement (R136, R494). -/
structure Meas where
  ref : Nat
  /-- Core minus reference, 2^-16 ns (R494); none when the stamp gives no offset. -/
  off : Option Int
  /-- A gate result: y, signed 2^-56, VALID and not STEP, gate length in ns (R101, R134). -/
  gate : Option (Int × Bool × Nat)
  /-- Core minus TAI in full, 2^-16 ns, for a reference that carries absolute time (R48). -/
  abs : Option Int
  /-- The reference's own claim, ps (R132, R182). -/
  claim : Nat
  /-- Tick it was taken in, and its instant, core ns. -/
  tick : Nat
  at_ : Nat
  /-- A ToD record: second named, second of the edge, UTC_OFF in force (R136). -/
  tod : Option (Nat × Nat × Int)
  cstale : Bool
  pstale : Bool
  /-- The stamp itself, 2^-16 ns, for a source whose offsets count from its last accepted stamp (R494). -/
  stamp : Option Int
  /-- What the claim is made of, where TSK_TEB_CFG or TSK_TEB_CFG2 enters it (R182, R183). -/
  parts : Option ClaimParts
  deriving DecidableEq, Repr

/-- What Assay keeps of a reference besides ASY_REF_ST. -/
structure RefSt where
  /-- Anomalies: (class, tick), newest first; the last 15 of each class (R138). -/
  log : List (Nat × Nat)
  /-- Last 64 accepted residuals, ps, newest first (R133). -/
  resid : List Int
  /-- Last accepted offset, 2^-16 ns, its instant in core ns and its tick. -/
  last : Option (Int × Nat × Nat)
  /-- The boundary that took it, core ns (R283). -/
  accAt : Option Nat
  /-- Last accepted stamp of a FREQ, SyncE or IRIGB source, 2^-16 ns (R494). -/
  lastStamp : Option Int
  /-- Core minus TAI in full at the last accepted measurement, 2^-16 ns, if the reference is dated. -/
  absOff : Option Int
  /-- A measurement held unclassified: residual in ps, tick, instant, offset, combined bound (R133). -/
  held : Option (Int × Nat × Nat × Int × Nat)
  /-- Accepted measurement since the entry timer started (R139). -/
  accepted : Bool
  /-- Disabled while DISQUALIFIED, with this hold-off left (R139). -/
  wasDisq : Option Nat
  /-- Absent since this tick's first LOSS, and the tick of the next repetition (R145). -/
  absent : Bool
  nextLoss : Nat
  /-- REF raised the first LOSS of the present absence (R73, R145). -/
  lossByRef : Bool
  /-- Core ns of the EN strobe and of the last used solution or exchange (R145). -/
  enAt : Nat
  usedAt : Nat
  /-- Prediction re-based after the kernel left LOCKED (R162): the base offset and its instant. -/
  rebased : Bool
  /-- Reference bound of R149 and B_claim at the latest accepted measurement, ps. -/
  bound : Nat
  claim : Nat
  /-- What the claim is made of, where the bound configuration enters it (R182, R183, R191). -/
  parts : Option ClaimParts
  /-- Reference bound at the measurement that qualified the reference (R185). -/
  qBound : Nat
  /-- Residual and combined bound of the measurement behind the latest anomaly of a class (R150). -/
  dec : List (Nat × Int × Nat)
  /-- The latest accepted measurement used R182. -/
  staleCal : Bool
  /-- Phase integrated from accepted gate results, ns (R158). -/
  gphase : Rat
  /-- The entry, probation or hold-off timer, ticks left; ASY_REF_ST.TIMER shows it saturated (R139). -/
  timer : Nat
  /-- The timer was started at the boundary about to come, and does not count down at it. -/
  fresh : Bool
  /-- The record of a timer's end, which waits for its place in the order of the boundary (R150): old and new state. -/
  due : Option (Nat × Nat)
  deriving DecidableEq, Repr

/-- A reference as it is after reset. -/
def RefSt.reset : RefSt :=
  { log := [], resid := [], last := none, accAt := none, lastStamp := none, absOff := none, held := none, accepted := false, wasDisq := none, absent := false, nextLoss := 0,
    lossByRef := false, enAt := 0, usedAt := 0, rebased := true, bound := 2 ^ 48 - 1, claim := 0, parts := none,
    qBound := 2 ^ 48 - 1, dec := [], staleCal := false, gphase := 0, timer := 0, fresh := false, due := none }

/-- Assay. -/
structure AsySt where
  refs : List (Nat × RefSt)
  /-- Anomaly ticks of each windowed source, newest first (R146). -/
  srcs : List (Nat × List Nat)
  /-- Windowed sources whose FAULT clears at this boundary and whose record waits for its place (R150). -/
  srcDue : List Nat
  /-- Measurements not yet judged, oldest first. -/
  inbox : List Meas
  deriving DecidableEq, Repr

/-! ## Epoch scheduler (R228 to R243) -/

/-- A crossed occurrence that waits to act late (R241), or one detached from its entry (R236). -/
structure Late where
  id : Nat
  ent : SchEnt
  missed : Nat
  cause : Nat
  /-- A recalled occurrence whose entry has been replaced or deleted (R236). -/
  det : Bool
  deriving DecidableEq, Repr

/-- The scheduler. -/
structure SchSt where
  ents : List (Nat × SchEnt)
  /-- Occurrences dispatched before their entry was replaced or deleted (R236). -/
  detached : List (Nat × SchEnt)
  /-- FIRE_LATE occurrences in dispatch order (R241). -/
  late : List Late
  /-- Cycle from which the next late occurrence may be dispatched (R241). -/
  lateAt : Nat
  /-- Occurrences dispatched while their output still had their owner, as (entry, EPOCH) (R238). -/
  owned : List (Nat × Nat)
  /-- Cycle in which the last occurrence that acted was dispatched (R232). -/
  lastDisp : Option Nat
  /-- Groups that SYS_UPD_STROBE named in a cycle whose due occurrences have not all acted (R231). -/
  updWait : Nat
  deriving DecidableEq, Repr

/-! ## Planish engines (R334 to R354) -/

/-- A mailbox cell (R346): type, length in bytes, bytes with byte 0 lowest. -/
structure Cell where
  typ : Nat
  len : Nat
  bytes : Nat
  deriving DecidableEq, Repr

/-- A program as the structure image gives it (R337, R339): instruction words, data image, ENTRY, IMEM_LEN in bytes, and
budgets. -/
structure Prog where
  words : List Nat
  data : Mem
  entry : Nat
  imemLen : Nat
  tickBudget : Nat
  frameBudget : Nat
  deriving DecidableEq, Repr

/-- A received frame (R260): arrival port, length with FCS, bytes from the destination address with byte 0 lowest, receive
timestamp. -/
structure RxFrame where
  port : Nat
  len : Nat
  bytes : Nat
  short : Nat
  frac : Nat
  deriving DecidableEq, Repr

/-- What a waiting engine waits for (R349): the register of the result, the epoch of WAITT, whether a wake ends it. -/
structure Wait where
  rd : Nat
  epoch : Option Nat
  wake : Bool
  deriving DecidableEq, Repr

/-- A Planish engine besides its register set: G0 to G15, PC, STATE and the counts stand in `regs` (R334, R336). -/
structure EngSt where
  /-- Live program, and the one loaded into the idle bank. -/
  live : Option Prog
  idle : Option Prog
  /-- Data memory of the live bank, 16,384 bytes. -/
  dm : Mem
  /-- Cycles counted in the current tick, and since WAITE returned the held frame (R339). -/
  cyc : Nat
  frameCyc : Nat
  /-- Pending wakes (R340): TICK, WAKE codes, input cells, frames in the ingress buffer. -/
  tick : Bool
  wakes : List Nat
  cells : List Cell
  frames : List RxFrame
  inCell : Cell
  outCell : Nat
  /-- Cells posted and not yet taken by the owning block. -/
  outQ : List Cell
  held : Option RxFrame
  wait : Option Wait
  /-- A WAITT crossed by a forward jump (R349). -/
  crossed : Bool
  oob : Bool
  late : Bool
  /-- High word latched by a BLD of a low word: its address and value (R345). -/
  bldHi : Option (Nat × Nat)
  /-- The idle bank waits for the engine's next WAITE (R353). -/
  swap : Bool
  deriving DecidableEq, Repr

/-- An engine with no program. -/
def EngSt.reset : EngSt :=
  { live := none, idle := none, dm := [], cyc := 0, frameCyc := 0, tick := false, wakes := [], cells := [], frames := []
    inCell := ⟨0, 0, 0⟩, outCell := 0, outQ := [], held := none, wait := none, crossed := false, oob := false, late := false
    bldHi := none, swap := false }

/-! ## Reference inputs (R69 to R85) -/

/-- A REF source (R73, R75): prescaler count, instant of its last edge after the prescaler or of its enable in core ns,
whether its loss timer runs, and since when LOS has read 0, core ns. -/
structure SrcSt where
  sel : Nat
  last : Nat
  armed : Bool
  okAt : Nat
  deriving DecidableEq, Repr

/-- The IRIG-B decoder of a REFIN (R85): core ns of the last leading edge and its stamp, whether the last pulse was a marker, the
on-time edge of the frame in progress (core ns, stamp) and its elements so far, and a frame read whole, or up to its error. An
element is 0, 1, 2 for a marker, 3 for an error. -/
structure IrigSt where
  rise : Option Nat
  lead : Option Int
  mark : Bool
  onTime : Option (Nat × Option Int)
  elems : List Nat
  done : Option (List Nat × Nat × Option Int)
  deriving DecidableEq, Repr

/-- Characters that a UART has received and not yet delivered (R78, R346), oldest first: character, BAD mark, end of its
last stop bit in core ns. -/
structure UartSt where
  chars : List (Nat × Bool × Nat)
  deriving DecidableEq, Repr

/-- A ToD input slot (R80 to R84): messages that name the next edge and wait for it (record bytes 0 to 17, end of the last
character in core ns), the enable or last paired record or last LOSS in core ns, and what Celmir's parser has read of a message that
is not yet whole: character, BAD mark, short time of the start of its CHARS cell. -/
structure TodSt where
  msgs : List (Nat × Nat)
  last : Nat
  text : List (Nat × Bool × Nat)
  deriving DecidableEq, Repr

/-- A ToD output slot (R347): the message to send with its length, and when it is sent; the edge last requested. -/
structure TodOutSt where
  msg : Option (Nat × Nat × Nat)
  req : Option Nat
  deriving DecidableEq, Repr

/-- An APORT (R79): when the timeout period began, core ns; TUNE of the last valid message. -/
structure AportSt where
  since : Nat
  tune : Option Int
  deriving DecidableEq, Repr

/-- Reference inputs, besides their registers. -/
structure RefinSt where
  /-- APORT-to-clock associations of the image: (APORT, clock) (R79). -/
  aportClk : List (Nat × Nat)
  srcs : List (Nat × SrcSt)
  irigs : List (Nat × IrigSt)
  uarts : List (Nat × UartSt)
  tods : List (Nat × TodSt)
  todOuts : List (Nat × TodOutSt)
  aports : List (Nat × AportSt)
  deriving DecidableEq, Repr

/-! ## Interval counter (R86 to R101) -/

/-- A TIC record (R90) without its channel. -/
structure TicRec where
  short : Nat
  frac : Nat
  pol : Bool
  kind : Nat
  prov : Bool
  cstale : Bool
  pstale : Bool
  calgen : Nat
  seq : Nat
  aux : Nat
  dcount : Nat
  deriving DecidableEq, Repr

/-- An open calibration window (R95, R96): kind 0 path 1 code density, when it opened in core ns, whether the pin showed an
edge, the retry it is (0 for the scheduled window). -/
structure CalWin where
  cdc : Bool
  since : Nat
  active : Bool
  retry : Nat
  deriving DecidableEq, Repr

/-- An open gate (R99 to R101): its start in 2^-16 ns, whether it fits, its sums over the points (k, t) with t in 2^-16 ns,
the edges counted, and what its flags need. -/
structure Gate where
  start : Int
  fit : Bool
  k : Nat
  n : Nat
  sk : Nat
  skk : Nat
  st : Int
  skt : Int
  stt : Int
  step : Bool
  slew : Bool
  gap : Bool
  prov : Bool
  cstale : Bool
  pstale : Bool
  deriving DecidableEq, Repr

/-- A TIC channel besides its registers. -/
structure TicSt where
  /-- Live code-width table W[0] to W[4,095]; none while it is flat (R86). -/
  width : Option (List Nat)
  /-- Staging buffer and queue, oldest first (R89, R91). -/
  stage : List TicRec
  queue : List TicRec
  seq : Nat
  /-- Last accepted edge at the converter, 2^-16 ns, and edges since the last STAMP or NO_STAMP record (R87, R90). -/
  lastEdge : Option Int
  dcount : Nat
  /-- Short time of the first record dropped and the number dropped; staged records that came before the first one (R91). -/
  drops : Option (Nat × Nat)
  older : Nat
  /-- The last stamp and the one before it, 2^-16 ns. -/
  stamp : Option Int
  prevStamp : Option Int
  win : Option CalWin
  /-- Edges that the open window covers: T(k) of the first in 2^-16 ns, number, polarity (R88). -/
  nostamp : Option (Int × Nat × Bool)
  /-- Path window series: its epoch in core ns and the next retry (R95). -/
  series : Option (Nat × Nat)
  gate : Option Gate
  /-- The latest cycle with an edge, its edges (stamp if any, whether a NO_STAMP), and the gate as it stood before them (R100). -/
  cycAt : Nat
  cycEdges : List (Option Int × Bool)
  gatePre : Option Gate
  /-- Instant and TIC-bank temperature of the last accepted code-density and path calibration (R98): core ns, 1/16 °C. -/
  cdcAt : Option (Nat × Int)
  pathAt : Option (Nat × Int)
  /-- STREAM: HEAD at the last vector, and the instant of the first record not yet signalled (R382). -/
  sigHead : Nat
  sigAt : Option Nat
  deriving DecidableEq, Repr

/-- A channel as it is after reset. -/
def TicSt.reset : TicSt :=
  { width := none, stage := [], queue := [], seq := 0, lastEdge := none, dcount := 0, drops := none, older := 0, stamp := none
    prevStamp := none, win := none, nostamp := none, series := none, gate := none, cycAt := 0, cycEdges := [], gatePre := none, cdcAt := none, pathAt := none, sigHead := 0, sigAt := none }

/-- An accepted edge whose charging stops after the coming tick boundary (R86): channel, source, polarity, code, CCLK cycle,
DCOUNT of its record. -/
structure CrossEdge where
  ch : Nat
  src : Nat
  falling : Bool
  code : Nat
  cyc : Nat
  dcount : Nat
  deriving DecidableEq, Repr

/-- The interval counter: channels by number, the channel whose turn it is at the shared writer (R89), edges in progress over a
boundary, and the TIC-bank temperature, 1/16 °C. -/
structure TicBank where
  ch : List (Nat × TicSt)
  turn : Nat
  cross : List CrossEdge
  temp : Int
  deriving DecidableEq, Repr
/-! ## GNSS baseband (R102 to R126) -/

/-- A tracking channel besides its registers: FCN; the state it takes at its next integration boundary; lock flags and what
its last integration gave; when its state began, both locks have been held since, C/N0 has been low since, its integration began,
and a detection was last handed to it, core ns. -/
structure GnsCh where
  fcn : Nat
  next : Option Nat
  codeLock : Bool
  carrLock : Bool
  halfCyc : Bool
  slip : Bool
  cn0 : Nat
  since : Nat
  lockSince : Option Nat
  lowSince : Option Nat
  intAt : Nat
  handed : Option Nat
  deriving DecidableEq, Repr

/-- An antenna sensor: the state its latest samples show and how many in a row, when the first of them came, and whether a
removal has not yet been followed by an attach (R108, R115, R116). -/
structure AntSt where
  cand : Nat
  run : Nat
  first : Nat
  removed : Bool
  /-- When the last differing samples ended, and the end of SETTLE after the last attach, core ns (R115). -/
  quietAt : Nat
  settleEnd : Nat
  deriving DecidableEq, Repr

/-- The serial search's place: signal, satellite, Doppler bin, code segment; whether the next dwell checks a cell; when the
present dwell began, core ns (R114). -/
structure SrchPos where
  sig : Nat
  svid : Nat
  bin : Nat
  seg : Nat
  check : Bool
  since : Nat
  deriving DecidableEq, Repr

/-- GNSS baseband besides its registers. -/
structure GnsSt where
  chs : List (Nat × GnsCh)
  ants : List (Nat × AntSt)
  pos : Option SrchPos
  /-- End of SETTLE after an attach, core ns (R115). -/
  settle : Option Nat
  /-- Enabled channels have all been out of TRACK since this core ns (R113). -/
  lostSince : Option Nat
  /-- Core ns and cycle of the last latch (R118, R120). -/
  latch : Option (Nat × Nat)
  /-- A latched epoch has not yet met the solution program (R121). -/
  solDue : Bool
  /-- Core ns when the survey began (R122). -/
  survey : Option Nat
  /-- Dormant tracking suspended by a search; a burst is on (R125, R126). -/
  suspended : Bool
  burst : Bool
  /-- When each sample input was enabled or last seen at fault, core ns (R106). -/
  gsiBad : List (Nat × Nat)
  deriving DecidableEq, Repr

/-! ## Synthesis and outputs (R201 to R227) -/

/-- A Burnisher besides its registers: when its state began, core ns; f_pfd of its last lock attempt, Hz; the whole second O that its
NCO's grid counts from, core ns, and how far jumps have moved the core past that grid, 2^-16 ns (R205). -/
structure BurnSt where
  since : Nat
  pfd : Rat
  origin : Nat
  shift : Int
  deriving DecidableEq, Repr

/-- An output besides its registers: a stop that waits for the next inactive edge, the active level or an open gate, the
end of the present pulse (whole ns, ps), the index of the last time-code element sent, the last active edge in core ns, the
first edge of its clock in core ns, and the cycle in which it started. -/
structure PinSt where
  stopping : Bool
  active : Bool
  pulseEnd : Option (Nat × Nat)
  tc : Option Int
  lastEdge : Option Nat
  phase : Option Rat
  startCyc : Option Nat
  deriving DecidableEq, Repr

/-- A media port besides its registers: transmitter 0 idle, 1 sending, 2 finishing its block before a restart, 3 holding the
line low; whether it sends as LEADER, and at which RATE; the alignment instant its blocks count from, 2^-16 ns, and blocks since; end
of the hold, core ns; received blocks that showed bit 1 clear in a row; whether the next block's audio is zeroed; the received channel
status, 24 bytes. -/
structure AesSt where
  tx : Nat
  lead : Bool
  rate : Nat
  base : Nat
  k : Nat
  holdEnd : Nat
  clear : Nat
  mute : Bool
  status : Nat
  deriving DecidableEq, Repr

/-- Clock synthesis besides its registers, with what the image fixes: sources each Burnisher may select and Burnishers each
output may select (bit masks), and the pair-shared outputs (bit mask). -/
structure SynSt where
  burns : List (Nat × BurnSt)
  pins : List (Nat × PinSt)
  aes : List (Nat × AesSt)
  burnSrc : List (Nat × Nat)
  outBurn : List (Nat × Nat)
  paired : Nat
  /-- Cycle and MASK of the last SYNCIN alignment (R216), and since when the bypass clock has been there, core ns (R209). -/
  sync : Option (Nat × Nat)
  bypAt : Nat
  deriving DecidableEq, Repr

/-! ## Network ports (R244 to R272) -/

/-- A granted reservation (R252): launch instant and interval in core ps, bytes with FCS, who asked (0 Hallmark, 1 port
engine, 2 loop calibration), its tenant, when its frame is at the port in core ns, the frame. -/
structure Resv where
  l : Nat
  lo : Nat
  hi : Nat
  len : Nat
  src : Nat
  tenant : Nat
  ready : Nat
  body : Body
  deriving DecidableEq, Repr

/-- A best-effort frame in its port's queue (R253): the command it comes from if the host sent it, the identifier of the
timestamp it asks for, its priority, bytes with FCS, bytes not yet sent, whether it has counted BE_HELD, its transmit
timestamp once its first fragment has left (2^-16 ns), contents. -/
structure BeEnt where
  cmd : Option Nat
  ts : Option Nat
  prio : Nat
  len : Nat
  left : Nat
  held : Bool
  stamp : Option Nat
  body : Body
  deriving DecidableEq, Repr

/-- A transmit-timestamp entry (R265, R266). -/
structure TxTs where
  id : Nat
  kind : Nat
  prov : Bool
  short : Nat
  frac : Nat
  dcount : Nat
  deriving DecidableEq, Repr

/-- A pause in force (R258): core ps when it takes effect and ends, and core ns when its unbroken run began. -/
structure Pause where
  from_ : Nat
  until_ : Nat
  since : Nat
  deriving DecidableEq, Repr

/-- A port besides its registers. -/
structure PortSt where
  /-- PCS lock held since, last fault seen, core ns. -/
  lockSince : Nat
  faultAt : Nat
  /-- Phase of the start grid, core ps. -/
  phase : Nat
  /-- Start of the present launch cycle, core ns, and the SHARE and GUARD that govern it (R251). -/
  cycStart : Nat
  cycShare : Nat
  cycGuard : Nat
  resvs : List Resv
  /-- Intervals of the reservations that have launched in the present cycle or later. -/
  used : List (Nat × Nat)
  be : List BeEnt
  /-- The wire is busy until here, core ps, gap included; whether with a launched frame. -/
  busy : Nat
  busyLaunch : Bool
  txts : List TxTs
  /-- Entries dropped since the queue filled: short time of the first, and their number (R266). -/
  txtsDrop : Option (Nat × Nat)
  /-- Pauses by priority; key 8 stops everything. -/
  pauses : List (Nat × Pause)
  /-- Launch deviations: core ns, ps (R256). -/
  devs : List (Nat × Nat)
  deriving DecidableEq, Repr

/-- A port as it is after reset: the cycle it is in began at 0 under the reset values of SHARE and GUARD. -/
def PortSt.reset : PortSt :=
  { lockSince := 0, faultAt := 0, phase := 0, cycStart := 0, cycShare := 230, cycGuard := 8, resvs := [], used := [], be := [], busy := 0
    busyLaunch := false, txts := [], txtsDrop := none, pauses := [], devs := [] }

/-- A loop-calibration run (R269): ports, number, frames each way, GO in core ns, frames launched, and the delays measured
from A and from B, ps. -/
structure LoopRun where
  a : Nat
  b : Nat
  run : Nat
  n : Nat
  goAt : Nat
  sent : Nat
  ab : List Int
  ba : List Int
  /-- Launch instants by (port, sequence), core ps. -/
  launched : List (Nat × Nat)
  deriving DecidableEq, Repr

/-- Ethernet besides its registers; `runs` numbers the loop runs. -/
structure EthSt where
  ports : List (Nat × PortSt)
  loop : Option LoopRun
  runs : Nat
  deriving DecidableEq, Repr

/-! ## Hallmark (R273 to R302) -/

/-- A grant (R279): logInterMessagePeriod, EXPIRY, GSEQ, GDUR. -/
structure Grant where
  period : Int
  expiry : Nat
  gseq : Nat
  gdur : Nat
  deriving DecidableEq, Repr

/-- A client entry (R279). -/
structure Client where
  tenant : Nat
  port : Nat
  kind : Nat
  addr : Nat
  blocked : Bool
  vlan : Nat
  lastSeen : Nat
  tokens : Nat
  kodAt : Nat
  reqs : Nat
  grants : List (Nat × Grant)
  deriving DecidableEq, Repr

/-- The configuration that a request entered under, kept once a later one goes live (R273): live words, and the live tenant
address bank. -/
structure HCfg where
  regs : Store
  tat : List TatEnt
  deriving DecidableEq, Repr

/-- A request in a port's ingress queue (R294): arrival port, bytes, receive timestamp, class, and its configuration if it
is no longer the live one. -/
structure HReq where
  f : RxFrame
  cls : Nat
  cfg : Option HCfg
  deriving DecidableEq, Repr

/-- What an answer in hand is: an NTP or NTS response (VN, poll, origin, receive timestamp in 2^-16 ns, whether a
kiss-o'-death, the NTS part), a Delay_Resp (domain, sequenceId, correctionField, receive timestamp, client), a scheduled
Sync or Announce (sequenceId, client entry it goes to). -/
inductive JobWhat where
  | ntp (vn poll xmit recv : Nat) (kod : Bool) (nts : Option NtsReq)
  | delayResp (seq : Nat) (corr : Int) (recv client : Nat)
  | sync (seq : Nat) (client : Option Nat)
  | announce (seq : Nat) (client : Option Nat)
  deriving DecidableEq, Repr

/-- An answer whose client entry is in hand and whose sealing has not begun (R293): tenant, port, transport kind, VLAN,
request's receive instant in core ns, nominal instant of a scheduled message in core ns, configuration if no longer live. -/
structure HJob where
  tenant : Nat
  port : Nat
  kind : Nat
  vlan : Nat
  rx : Nat
  nominal : Option Nat
  cfg : Option HCfg
  what : JobWhat
  deriving DecidableEq, Repr

/-- A flow of Announce or Sync: tenant, port, message (0 Announce, 1 Sync), client (kind, address) or multicast; nominal
instant sent last in core ns; sequenceId of the next. -/
structure Flow where
  tenant : Nat
  port : Nat
  msg : Nat
  client : Option (Nat × Nat)
  last : Nat
  seq : Nat
  deriving DecidableEq, Repr

/-- A request sent to a shard's owner and not yet answered (R410): link, TAG, owner's answer decides between these. -/
structure ShardPend where
  link : Nat
  tag : Nat
  req : HReq
  msg : ReqMsg
  tenant : Nat
  /-- Index of the unicast TLV it stands for, for REQ 2 and 3. -/
  tlv : Nat
  deriving DecidableEq, Repr

/-- Hallmark besides its registers. -/
structure HmkSt where
  queues : List (Nat × List HReq)
  jobs : List (Nat × List HJob)
  table : List Client
  /-- Overflow bucket of each tenant: 10^-9 requests, and core ns when last filled. -/
  ovf : List (Nat × (Nat × Nat))
  /-- Banks 0 and 1 of the tenant address table. -/
  bank0 : List TatEnt
  bank1 : List TatEnt
  /-- Slot of the previous key, by 4 × tenant + class. -/
  prevSlot : List (Nat × Nat)
  shards : List ShardPend
  nextTag : Nat
  /-- The last request charged for the device at a link's far end: its key and receive timestamp, and the outcome (R38). -/
  charged : List (Nat × ((Nat × Nat) × Nat))
  flows : List Flow
  /-- Entries changed by insertion, deletion, grant, cancellation or BLOCKED, in order of change, and the others written
  back in the tick (R298): (tenant, port and kind, address). -/
  firstKind : List (Nat × Nat × Nat)
  otherKind : List (Nat × Nat × Nat)
  /-- Entries of the last tick's journal, for the Ingot. -/
  journal : List (Nat × Nat × Nat)
  /-- ENTRY_LOST of the tick. -/
  lost : Nat
  deriving DecidableEq, Repr

/-! ## Key vault (R303 to R320) -/

/-- What a key-cache slot holds besides KVT_SLOT. -/
structure SlotKey where
  key : Nat
  notBefore : Nat
  notAfter : Nat
  deriving DecidableEq, Repr

/-- A record write of an update message under way (R313): the command's position, the message, OUT_ADDR. -/
structure PendUpd where
  cmd : Nat
  msg : UpdMsg
  out : Nat
  deriving DecidableEq, Repr

/-- A tamper episode whose log entry has not committed (R319): sources, short time, seconds counter, temperature, main power
off, provisional. -/
structure Episode where
  sources : Nat
  short : Nat
  sec : Nat
  temp : Int
  mainOff : Bool
  prov : Bool
  deriving DecidableEq, Repr

/-- The vault besides its registers. -/
structure KvtSt where
  root : Nat
  attest : Nat
  updKey : Nat
  imgKey : Nat
  lastDigest : Nat
  epochs : List (Nat × Nat)
  /-- The VBAT check pattern is present (R307). -/
  pattern : Bool
  slots : List (Nat × SlotKey)
  upd : Option PendUpd
  episode : Option Episode
  /-- The VBAT domain's seconds counter, as last read (R22, R319). -/
  vbatSec : Nat
  deriving DecidableEq, Repr

/-! ## Ghefotha links (R398 to R411) -/

/-- What a link keeps of the last HELLO (R401): PAIR_LINK, STATE, PROVISIONAL, PAIR_POS, digest, features. -/
structure Hello where
  devid : Nat
  pairLink : Bool
  state : Nat
  prov : Bool
  pos : Nat
  digest : Nat
  feats : Nat
  deriving DecidableEq, Repr

/-- A link besides its registers. -/
structure LinkSt where
  lanes : Bool
  /-- Next SEQ to send and next SEQ expected. -/
  txSeq : Nat
  rxSeq : Nat
  /-- Cells sent and not acknowledged, oldest first, and cells that wait for room (R403). -/
  unacked : List GCell
  waiting : List GCell
  /-- Cells delivered in order and not yet taken by their blocks, with their receive time in core 2^-16 ns. -/
  inq : List (GCell × Nat)
  hello : Option Hello
  /-- Consecutive tick comparisons that differed, and whether a HELLO has come since the last (R407). -/
  differs : Nat
  fresh : Bool
  /-- The last TIME cell received without RETRY: its T_SEND and own receive time, 2^-16 ns (R405). -/
  lastTime : Option (Nat × Nat)
  deriving DecidableEq, Repr

/-- A link as it is after reset. -/
def LinkSt.reset : LinkSt :=
  { lanes := false, txSeq := 0, rxSeq := 0, unacked := [], waiting := [], inq := [], hello := none, differs := 0, fresh := false
    lastTime := none }

/-- The links. -/
structure GflSt where
  links : List (Nat × LinkSt)
  deriving DecidableEq, Repr

/-! ## The structure image (R321 to R333) -/

/-- What a partial image stages for a region (R329): the sections, its digest, and the number of the image. -/
structure Staged where
  gen : Nat
  secs : List Section
  digest : Nat
  img : Nat
  deriving DecidableEq, Repr

/-- The loader besides its registers. -/
structure StrSt where
  /-- A full image held as PENDING (R328). -/
  pendImg : Option Image
  staged : List (Nat × Staged)
  /-- Regions switched whose content is not yet live. -/
  switching : List (Nat × Staged)
  /-- Partial images staged so far, and those at which the live digest has advanced (R333). -/
  stages : Nat
  advanced : List Nat
  tenants : List TenRow
  /-- Register defaults by region (R325). -/
  defaults : List (Nat × List (Nat × Nat × Nat))
  ports : List PortRow
  /-- REF sources and SRC codes that each Burnisher may select, as XBAR and SYN_PLAN give them. -/
  xbarBurn : List (Nat × Nat)
  synBurn : List (Nat × Nat)
  /-- Client-table capacity of the image, and declared OSCIN frequency, Hz. -/
  capacity : Option Nat
  oscin : Nat
  /-- QSPI copies refused in this boot, in order. -/
  tried : List Nat
  deriving DecidableEq, Repr


/-! ## DRAM, the pair and the Seam bus (R394 to R441) -/

/-- The DRAM controller besides its registers: the next address of each channel's patrol, and the scrub writes queued, as
(channel, address). -/
structure DramSt where
  next : List (Nat × Nat)
  scrubs : List (Nat × Nat)
  deriving DecidableEq, Repr

/-- The redundant pair besides its registers. -/
structure PairSt where
  /-- The base claim, the claim at the comparator, and rises on their way to it: (arrival in core ns, claim) (R424, R425). -/
  base : Nat
  cmp : Nat
  rises : List (Nat × Nat)
  /-- Claims equal since this core ns (R427). -/
  tieSince : Option Nat
  /-- OUT_MON found, and an uncorrectable error in region KERNEL in this tick (R430). -/
  outMon : Bool
  ueTick : Bool
  /-- Ingots of this tick: 0 none, 1 accepted, 2 discarded, 3 none due (R437); consecutive discards. -/
  got : Nat
  misses : Nat
  /-- The last header's claim differed from CLAIM_IN (R437). -/
  claimDiff : Bool
  /-- Core TEB of the last accepted Ingot, and the core TEB at this unit's last boundary. -/
  ingotTeb : Option Nat
  bTeb : Nat
  /-- Ticks since the last accepted Ingot, as AGE counts them, without its saturation (R190). -/
  age : Nat
  /-- (SEQ, digest) of the last state section sent, and of the last acknowledgement. -/
  sent : Option (Nat × Nat)
  acked : Option (Nat × Nat)
  /-- The peer's latest acknowledgement shows a current Ingot; PAIR_OK_L is low (R422). -/
  ackOk : Bool
  okLow : Bool
  /-- A resync stream runs: whether this unit sends it, and whether it is a full one (R438). -/
  resync : Option (Bool × Bool)
  /-- A full resync has completed since the status became STALE. -/
  fullDone : Bool
  /-- A drill on this unit: phase 1 before the comparison, 2 before the ceiling, 3 holding, 4 hold over; tick the hold
  began (R440). -/
  drill : Option (Nat × Nat)
  /-- Tick of a SWAP_DRILL occurrence on a unit that is not ACTIVE; tick it took over in that drill. -/
  watch : Option Nat
  tookAt : Option Nat
  /-- Result that the next Ingot's header carries. -/
  drillRes : Nat
  /-- A load of the peer's time is due at the next boundary (R434). -/
  loadDue : Bool
  /-- Length and bytes of the state section last applied (R436). -/
  applied : Option (Nat × Nat)
  deriving DecidableEq, Repr

/-- The pair as it is after reset. -/
def PairSt.reset : PairSt :=
  { base := 0, cmp := 0, rises := [], tieSince := none, outMon := false, ueTick := false, got := 3, misses := 0
    claimDiff := false, ingotTeb := none, bTeb := 2 ^ 48 - 1, age := 0, sent := none, acked := none, ackOk := false, okLow := false
    resync := none, fullDone := false, drill := none, watch := none, tookAt := none, drillRes := 0, loadDue := false
    applied := none }

/-- A contention message that waits (R415): collisions so far, and the end of its back-off in core ns. -/
structure SeamTx where
  msg : SeamMsg
  tries : Nat
  wait : Option Nat
  deriving DecidableEq, Repr

/-- The Seam station besides its registers (R412 to R420). -/
structure SeamSt where
  /-- Start of the present frame, core ns; whether it is judged for alignment. -/
  frameAt : Option Nat
  judged : Bool
  /-- Stations heard in this frame, those misaligned, and a report with another GEN, in this frame. -/
  heard : Nat
  bad : Nat
  genBad : Bool
  /-- Consecutive misaligned frames, and consecutive aligned ones. -/
  misRun : Nat
  okRun : Nat
  /-- Unchanged frames of the roll call, its heard set, the largest GEN heard. -/
  rcFrames : Nat
  rcSet : Nat
  maxGen : Nat
  /-- Cause of the roll call that runs (R420). -/
  rcCause : Nat
  /-- A restart at the next frame boundary, with its cause. -/
  restart : Option Nat
  /-- Members whose silence has already restarted the roll call. -/
  gone : Nat
  host : Option SeamTx
  report : Option SeamTx
  deriving DecidableEq, Repr

/-- The station as it is after reset. -/
def SeamSt.reset : SeamSt :=
  { frameAt := none, judged := false, heard := 0, bad := 0, genBad := false, misRun := 0, okRun := 0, rcFrames := 0
    rcSet := 0, maxGen := 0, rcCause := 0, restart := none, gone := 0, host := none, report := none }

/-! ## Power, reset and boot (R454 to R469) -/

/-- Power and reset besides their registers. -/
structure PowSt where
  /-- In PORST_L or the internal reset of EXTEST: no block runs (R461, R469). -/
  held : Bool
  /-- EXTEST has been entered since the last PORST_L. -/
  extest : Bool
  /-- The TAP's present instruction (R469). -/
  tap : Nat
  /-- Domains switched on that wait for power good, and off that wait for isolation or drain (R456). -/
  up : List Nat
  down : List Nat
  /-- End of the 100 ns for which a reset drives CLAIM_OUT to 0, on a count that runs in reset: set while it lasts (R426). -/
  claimLow : Bool
  /-- The SPLL has locked since PORST_L. -/
  locked : Bool
  deriving DecidableEq, Repr

/-- Power and reset as PORST_L's rise leaves them. -/
def PowSt.reset : PowSt :=
  { held := false, extest := false, tap := 2, up := [], down := [], claimLow := false, locked := false }


/-- The state of the block. -/
structure State where
  part : Part
  /-- Live words of the registers. -/
  regs : Store
  /-- Shadow words of the shadowed registers that have been written since their last strobe (R363). -/
  pend : Store
  time : TimeSt
  hif : HifSt
  obs : ObsSt
  tsk : TskSt
  asy : AsySt
  sch : SchSt
  eng : List (Nat × EngSt)
  refin : RefinSt
  tic : TicBank
  gns : GnsSt
  syn : SynSt
  eth : EthSt
  hmk : HmkSt
  kvt : KvtSt
  gfl : GflSt
  str : StrSt
  dram : DramSt
  pair : PairSt
  seam : SeamSt
  pow : PowSt
  /-- Draws of free values so far: the model's own counter. -/
  draws : Nat
  /-- What has left the part, newest first. -/
  out : List Out
  /-- Commands that wait, first in, first out. -/
  pending : List Instr
  deriving DecidableEq, Repr

/-! ## Reset (R461) -/

/-- Sub-states as a power-on reset leaves them. -/
def TimeSt.reset : TimeSt :=
  { running := false, core := 0, tickAt := 1000000, tickNo := 0, cyc := 0, tickCyc := 0, tickNs := 0, prev := -1, annS := 0, annNext := 0
    annFrom := 0, annR := 0, annAmt := 0, annClock := 255, reps := [] }
def HifSt.reset : HifSt :=
  { fns := [], vfOf := [], vfEnable := false, feats := 1, accepted := false, perst := false, imgReq := 0, fresh := [], freshAt := 0, struck := (0, 0), grp := [], posted := []
    bootRecs := [], bootDue := true, upLink := [] }
def ObsSt.reset : ObsSt :=
  { cnt := [], ten := [], slots := [], smpEnd := 0, smpPend := false, stage := [], stageLoss := none, tseq := 0, stageLost := 0
    unreported := 0, reportAt := none, ring := [], head := 0, pin := [], pinLoss := none, pinLost := 0 }
def TskSt.reset : TskSt :=
  { integ := 0, xsLast := 0, x := 0, lastProp := none, h := 0, lockedRun := 0, fHist := [], base := [], frozen := [], d0 := 0
    holdTick := 0, holdCode := 0, modelF := 0, gHeld := 0, gTick := 0, gKey := 0, tebBefore := 2 ^ 48 - 1, stepHold := 0
    tebCalc := 2 ^ 48 - 1, floor := none, floorAt := 0, bnd := 0, bndNs := 0, manTeb := 2 ^ 48 - 1, manTick := 0, tagRef := 63, tagHeld := 0xFFFF, tagAt := none, lastExp := 63
    lastTag := 0, stepTick := none, jumped := false, arm := none, load := false, seen0 := false, seen3 := false, fMean := none
    modelTick := 0, tTerm := 0, todRef := none, behind := [], leap := [], leapExp := 0, leapPend := none, leapExpired := false
    date := none, dateLoaded := false, lolUntil := none, lol := false, lolOn := false, stby := none, datedIn := [], efcSum := 0, efcTicks := 0
    learnTick := none }
def GnsSt.reset : GnsSt :=
  { chs := [], ants := [], pos := none, settle := none, lostSince := none, latch := none, solDue := false, survey := none
    suspended := false, burst := false, gsiBad := [] }
def SynSt.reset : SynSt := { burns := [], pins := [], aes := [], burnSrc := [], outBurn := [], paired := 0, sync := none, bypAt := 0 }
def RefinSt.reset : RefinSt := { aportClk := [], srcs := [], irigs := [], uarts := [], tods := [], todOuts := [], aports := [] }
def HmkSt.reset : HmkSt :=
  { queues := [], jobs := [], table := [], ovf := [], bank0 := [], bank1 := [], prevSlot := [], shards := [], nextTag := 0, charged := []
    flows := [], firstKind := [], otherKind := [], journal := [], lost := 0 }
def KvtSt.reset : KvtSt :=
  { root := 0, attest := 0, updKey := 0, imgKey := 0, lastDigest := 0, epochs := [], pattern := false, slots := [], upd := none
    episode := none, vbatSec := 0 }
def StrSt.reset : StrSt :=
  { pendImg := none, staged := [], switching := [], stages := 0, advanced := [], tenants := [], defaults := [], ports := []
    xbarBurn := [], synBurn := [], capacity := none, oscin := 0, tried := [] }

/-- The block right after PORST_L has risen (R461, R466): boot phase SPLL_WAIT, straps 0, VBAT never powered before, no image,
the time core at rest. DESIGN CHOICE: the part is SPR-A960-IB and the straps read 0; the spec fixes neither. -/
def State.reset : State :=
  { part := .a960ib, regs := [], pend := [], time := .reset, hif := .reset, obs := .reset, tsk := .reset
    asy := { refs := [], srcs := [], srcDue := [], inbox := [] }, sch := { ents := [], detached := [], late := [], lateAt := 0, owned := [], lastDisp := none, updWait := 0 }, eng := []
    refin := .reset, tic := { ch := [], turn := 0, cross := [], temp := 0 }, gns := .reset, syn := .reset
    eth := { ports := [], loop := none, runs := 0 }, hmk := .reset, kvt := .reset, gfl := { links := [] }, str := .reset
    dram := { next := [], scrubs := [] }, pair := .reset, seam := .reset, pow := .reset, draws := 0, out := [], pending := [] }

end Sys2Proof.Machine
end

