-- ==== Sys2Proof/Machine/Ops.lean ====
section
/-!
DEFINITION. Sys2Proof/Machine/Ops.lean: the named operations every meaning is built from: fields of registers, the reading
of time, counters and samples (R443, R448), event records (R376, R377), trace records (R451), and the quench of a master
(R384 to R386). Counters, events and trace leave every register word as it is.
-/

namespace Sys2Proof.Machine

namespace State

/-! ## Register fields -/

/-- Live value of a field. -/
def get (s : State) (f : Fld) : Nat := s.regs.get f

/-- The state with a live field set. -/
def set (s : State) (f : Fld) (v : Nat) : State := { s with regs := s.regs.set f v }

/-- Live value of a field as a signed number. -/
def getI (s : State) (f : Fld) : Int := toSigned f.w (s.get f)

/-- The state with a live field set to a signed number. -/
def setI (s : State) (f : Fld) (v : Int) : State := s.set f (ofSigned f.w v)

/-- A one-bit field as a Bool. -/
def on (s : State) (f : Fld) : Bool := s.get f = 1

/-- A one-bit field set from a Bool. -/
def setB (s : State) (f : Fld) (b : Bool) : State := s.set f (if b then 1 else 0)

/-- A field that counts modulo its width. -/
def add (s : State) (f : Fld) (n : Nat) : State := s.set f (s.get f + n)

/-- A field that counts and saturates. -/
def addSat (s : State) (f : Fld) (n : Nat) : State := s.set f (satN f.w (s.get f + n))

/-- The shadow word at a key: the pending one, or the live one (R363). -/
def shadowWord (s : State) (k : Nat) : Word := (alGet s.pend k).getD (s.regs.word k)

/-- n shadow words from key a on. -/
def shadowJoin (s : State) (a : Nat) : Nat → Nat
  | 0 => 0
  | n + 1 => (s.shadowWord a).toNat + 2 ^ 32 * s.shadowJoin (a + 4) n

/-- Shadow value of a field: what a strobe would make live. -/
def view (s : State) (f : Fld) : Nat := bitsOf (s.shadowJoin f.a (Store.span f)) f.lo f.w

/-- Shadow value of a field as a signed number. -/
def viewI (s : State) (f : Fld) : Int := toSigned f.w (s.view f)

/-- A live and a shadow field set at once, as a self-clearing action field is (R363). -/
def setBoth (s : State) (f : Fld) (v : Nat) : State :=
  let s := s.set f v
  match alGet s.pend f.a with
  | some w =>
    let old := w.toNat
    { s with pend := alSet s.pend f.a (BitVec.ofNat 32 (old - bitsOf old f.lo f.w * 2 ^ f.lo + v % 2 ^ f.w * 2 ^ f.lo)) }
  | none => s

/-! ## Time (R40, R43, R47) -/

/-- The core's reading in whole ns since the epoch. -/
def ns (s : State) : Nat := s.time.core / 2 ^ 56

/-- Short time (R43). -/
def short (s : State) : Nat := s.ns % 2 ^ 64

/-- FRAC of the reading, 2^-16 ns, truncated (R40). -/
def frac (s : State) : Nat := s.time.core / 2 ^ 40 % 2 ^ 16

/-- The reading in 2^-16 ns. -/
def q16 (s : State) : Nat := s.time.core / 2 ^ 40

/-- PROVISIONAL (R47). -/
def prov (s : State) : Bool := s.on F.TSK_STAT_PROVISIONAL

/-! ## What leaves the part -/

/-- Something leaves the part. -/
def emitOut (s : State) (o : Out) : State := { s with out := o :: s.out }

/-- An MSI-X signal (R382). -/
def msix (s : State) (fn vec : Nat) : State := s.emitOut (.msix fn vec)

/-- A fresh free value's number: the counter before, and the state with the counter advanced. -/
def draw (s : State) : State := { s with draws := s.draws + 1 }

/-! ## Power domains (R454, R456) -/

/-- Nothing reaches the part from outside while it is held in reset (R461, R469). -/
def awake (s : State) (f : State → State) : State := if s.pow.held then s else f s

/-- A power domain is on and has reached power good. -/
def pdUp (s : State) (d : Nat) : Bool := bitOf (s.get F.SYS_PD_ST_PG) d

/-! ## Features and functions -/

/-- A feature of the set in force (R368). -/
def feat (s : State) (b : Nat) : Bool := bitOf s.hif.feats b

/-- A function's own state. -/
def fn (s : State) (n : Nat) : FnSt := (alGet s.hif.fns n).getD FnSt.reset

/-- The state with a function's own state replaced. -/
def setFn (s : State) (n : Nat) (f : FnSt) : State := { s with hif := { s.hif with fns := alSet s.hif.fns n f } }

/-- The VF that serves tenant t (R357): the image's choice, else VF t. -/
def fnOf (s : State) (t : Nat) : Nat := (alGet s.hif.vfOf t).getD t

/-- The tenant with a given VF in a list of image choices. -/
def tenantIn (n : Nat) : List (Nat × Nat) → Option Nat
  | [] => none
  | (t, v) :: r => if v = n then some t else tenantIn n r

/-- The tenant that VF n serves (R357): the one the image names it for, else tenant n where the image leaves n to itself. -/
def tenantOf (s : State) (n : Nat) : Option Nat :=
  match tenantIn n s.hif.vfOf with
  | some t => some t
  | none => if (alGet s.hif.vfOf n).isSome then none else some n

/-- Tenants in force, provider included: the accepted capacity (R7), or what the part has without a set accepted. -/
def tenants (s : State) : Nat :=
  if s.part.small then 256 else if s.feat 1 then 1024 else 64

/-- A tenant within the count in force. -/
def tenantPresent (s : State) (t : Nat) : Bool := decide (t < s.tenants)

/-- The function is enabled (R358). -/
def fnEnabled (s : State) (n : Nat) : Bool :=
  if n = 0 then (s.fn 0).bme
  else match s.tenantOf n with
    | some t => (s.fn n).bme && s.on (F.TEN_CTL_EN t)
    | none => false

/-! ## Trace (R450, R451) -/

/-- A trace record enters staging, or is lost when staging is full or a gap has not yet entered (R451). Answers whether it
was lost. -/
def pushTrace (s : State) (ttype src short frac payload : Nat) : State × Bool :=
  let o := s.obs
  let r : TrcRec :=
    { ttype := ttype, prov := s.prov, standby := s.get F.PAIR_STAT_ROLE ≠ 0, src := src
      devid := s.get F.SYS_STRAP_DEVID, tseq := o.tseq, short := short, frac := frac, payload := payload }
  let o := { o with tseq := (o.tseq + 1) % 2 ^ 32 }
  let lose (x : Nat × Nat) : ObsSt :=
    { o with stageLoss := some x, stageLost := (o.stageLost + 1) % 2 ^ 32, unreported := o.unreported + 1 }
  match o.stageLoss with
  | some (t, n) => ({ s with obs := lose (t, n + 1) }, true)
  | none =>
    if o.stage.length < 1024 then ({ s with obs := { o with stage := o.stage ++ [r] } }, false)
    else ({ s with obs := lose (r.tseq, 1) }, true)

/-! ## Event records (R376, R377) -/

/-- A pending count of a type, and the list without it. -/
def takeCoal (typ : Nat) : List Coal → Option Coal × List Coal
  | [] => (none, [])
  | c :: t => if c.typ = typ then (some c, t) else let r := takeCoal typ t; (r.1, c :: r.2)

/-- One more coalesced event of a type, ascending TYPE (R377). -/
def addCoal (r : EvRec) : List Coal → List Coal
  | [] => [⟨r.typ, 1, r.short, r.frac⟩]
  | c :: t =>
    if c.typ = r.typ then { c with count := c.count + 1 } :: t
    else if r.typ < c.typ then ⟨r.typ, 1, r.short, r.frac⟩ :: c :: t
    else c :: addCoal r t

/-- An OVERFLOW record (R376): events lost and cause 0 RING_FULL, 1 FIFO_FULL, 2 DISABLED, dated to the first event lost. -/
def overflowRec (s : State) (t : Nat) (l : LossRun) (cause : Nat) : EvRec :=
  { typ := 1, tenant := t, short := l.short, frac := l.frac, prov := s.prov, coalesced := false, summary := false, count := 0,
    payload := pay [(20, 4, satN 32 l.lost), (24, 1, cause)] }

/-- An event record as an event forms it. -/
def evRec (s : State) (typ tenant short frac payload : Nat) : EvRec :=
  { typ := typ, tenant := tenant, short := short, frac := frac, prov := s.prov, coalesced := false, summary := false
    count := 0, payload := payload }

/-- The tenant a function's records name: its own, 0 for the provider. -/
def recTenant (s : State) (n : Nat) : Nat := (s.tenantOf n).getD 0

/-- An event record enters a function's staging FIFO, is coalesced, or is lost (R377). Answers whether it was coalesced. -/
def pushEv (s : State) (n : Nat) (r : EvRec) : State × Bool :=
  let f := s.fn n
  -- room for the OVERFLOW record that must come first
  let f := match f.fifoLoss with
    | some l => if f.fifo.length < 512 then
        { f with fifo := f.fifo ++ [s.overflowRec (s.recTenant n) l 1], fifoLoss := none } else f
    | none => f
  if f.fifo.length < 512 then
    let (c, rest) := takeCoal r.typ f.coal
    let r := match c with
      | some c => { r with count := satN 16 c.count, coalesced := true }
      | none => r
    (s.setFn n { f with fifo := f.fifo ++ [r], coal := rest }, false)
  else if s.feat 14 then
    (s.setFn n { f with coal := addCoal r f.coal }, true)
  else
    let l := match f.fifoLoss with
      | some l => { l with lost := l.lost + 1 }
      | none => ⟨1, false, r.short, r.frac⟩
    (s.setFn n { f with fifoLoss := some l }, false)

/-! ## Counters and sampling (R443, R444, R448, R449) -/

/-- A device counter's value. -/
def counter (s : State) (i : Nat) : Nat := (alGet s.obs.cnt i).getD 0

/-- A tenant counter's value. -/
def tenCounter (s : State) (t k : Nat) : Nat := (alGet s.obs.ten (16 * t + k)).getD 0

/-- A tenant counter counts n events, modulo 2^64 (R447). -/
def tcount (s : State) (t k n : Nat) : State :=
  { s with obs := { s.obs with ten := alSet s.obs.ten (16 * t + k) ((s.tenCounter t k + n) % 2 ^ 64) } }

/-- A device counter counts n events, without looking at the sampling slots. -/
def bump (s : State) (i n : Nat) : State :=
  { s with obs := { s.obs with cnt := alSet s.obs.cnt i ((s.counter i + n) % 2 ^ 64) } }

/-- A sampling slot's own state. -/
def slot (s : State) (k : Nat) : Slot := (alGet s.obs.slots k).getD ⟨0, none, 0, 0⟩

/-- The state with a sampling slot replaced. -/
def setSlot (s : State) (k : Nat) (x : Slot) : State := { s with obs := { s.obs with slots := alSet s.obs.slots k x } }

/-- The PC that a sample of counter i carries: that of the engine the counter belongs to, else 0 (R354, R449). -/
def samplePc (s : State) (i : Nat) : Nat :=
  if 0x540 ≤ i ∧ i ≤ 0x587 then s.get (F.ENG_PC_PC ((i - 0x540) / 4)) else 0

/-- Vector 2 at a sample: at most once a SMP_MOD µs (R449). -/
def signalSample (s : State) : State :=
  let m := s.get F.OBS_SMP_MOD_SMP_MOD
  if s.ns < s.obs.smpEnd then { s with obs := { s.obs with smpPend := true } }
  else { s with obs := { s.obs with smpEnd := s.ns + 1000 * m, smpPend := false } }.msix 0 2

/-- One sampling slot watches n events of counter i (R448): it raises a sample when its count crosses a multiple of N, at
most once per 64 ns. `more` counts the events that the sample itself makes. -/
def slotStep (more : State → Nat → State) (i n : Nat) (s : State) (j : Nat) : State :=
  let x := s.slot j
  let per := s.get (F.OBS_SMP_CFG_N j)
  if s.on (F.OBS_SMP_CFG_EN j) && s.get (F.OBS_SMP_CFG_CNT j) = i && per ≠ 0 then
    let crossed := (x.cnt + n) / per - x.cnt / per
    let x' := { x with cnt := x.cnt + n }
    let recent := match x.last with
      | some t => decide (s.ns < t + 64)
      | none => false
    if crossed = 0 then s.setSlot j x'
    else if recent then more (s.setSlot j { x' with lost := (x.lost + 1) % 2 ^ 32 }) 0x606
    else
      let p := pay [(20, 2, i), (22, 1, j), (23, 1, satN 8 crossed), (24, 2, s.samplePc i), (28, 4, s.counter i)]
      let s := s.setSlot j { x' with last := some s.ns, samples := (x.samples + 1) % 2 ^ 32 }
      let (s, co) := s.pushEv 0 (s.evRec 0x38 0 s.short s.frac p)
      let (s, lost) := s.pushTrace 12 0 s.short s.frac p
      let s := more (more s.signalSample 0x605) 0x600
      let s := if lost then more s 0x603 else s
      if co then more s 0x019 else s
  else s

/-- A device counter counts n events, and the sampling slots that watch it raise their samples. A sample's own events may
raise a further sample: the 64 ns limit of R448 ends that chain after one sample a slot, which the fuel allows for. -/
def countF : Nat → State → Nat → Nat → State
  | 0, s, i, n => s.bump i n
  | fuel + 1, s, i, n => (List.range 8).foldl (slotStep (fun s k => countF fuel s k 1) i n) (s.bump i n)

/-- A device counter counts n events (R443, R448). -/
def countN (s : State) (i n : Nat) : State := countF 9 s i n

/-- A device counter counts one event. -/
def count (s : State) (i : Nat) : State := s.countN i 1

/-- A trace record is generated (R450, R451). -/
def traceAt (s : State) (ttype src short frac payload : Nat) : State :=
  let (s, lost) := s.pushTrace ttype src short frac payload
  let s := s.count 0x600
  if lost then s.count 0x603 else s

/-- A trace record of the present cycle. -/
def trace (s : State) (ttype src payload : Nat) : State := s.traceAt ttype src s.short s.frac payload

/-- An event record of function n, dated as given (R376, R377). -/
def eventAt (s : State) (n typ tenant short frac payload : Nat) : State :=
  let (s, co) := s.pushEv n (s.evRec typ tenant short frac payload)
  if co then s.count 0x019 else s

/-- An event record of function n, of the present cycle. -/
def event (s : State) (n typ tenant payload : Nat) : State := s.eventAt n typ tenant s.short s.frac payload

/-- A master's place in the order of R29: kind (0 function, 1 engine, 2 peer), then number, as a QUENCH payload holds them. -/
def masterRank (payload : Nat) : Nat := payload % 256 * 65536 + bitsOf payload 8 16

/-- An item put before the first of a list that `later` picks, or at its end. -/
def putBefore {α : Type} (later : α → Bool) (x : α) : List α → List α
  | [] => [x]
  | h :: t => if later h then x :: h :: t else h :: putBefore later x t

/-- Where the records of one cycle have an order: the family they are ordered in, and their place. QUENCH by master, then
QUENCH_RELEASE by master, GFL_LINK by link, and the Seam's by type (R29, R387, R420); the pair's by type (R441). -/
def cyclePlace (r : EvRec) : Option (Nat × Nat) :=
  if r.typ = 2 then some (0, masterRank r.payload)
  else if r.typ = 0x20 then some (0, 2 ^ 31 + masterRank r.payload)
  else if r.typ = 0x28 then some (0, 2 ^ 32 + r.payload % 256)
  else if 0x29 ≤ r.typ && r.typ ≤ 0x2D then some (0, 2 ^ 32 + 256 * r.typ)
  else if 0x30 ≤ r.typ && r.typ ≤ 0x37 then some (1, r.typ)
  else none

/-- The record that came last among the provider's staged records takes its place among those of its cycle (R29, R387, R420, R441). -/
def orderLast (s : State) : State :=
  let f := s.fn 0
  match f.fifo.getLast? with
  | some r =>
    let later (x : EvRec) : Bool := x.short = r.short && x.frac = r.frac && match cyclePlace r, cyclePlace x with
      | some (k, i), some (k', j) => k = k' && decide (i < j)
      | _, _ => false
    if s.time.running && (cyclePlace r).isSome then s.setFn 0 { f with fifo := putBefore later r f.fifo.dropLast } else s
  | none => s

/-- An event record on the provider's ring. -/
def pevent (s : State) (typ tenant payload : Nat) : State := (s.event 0 typ tenant payload).orderLast

/-! ## Access errors (R367) -/

/-- A flagged access: SYS_ACC_ERR, and for a VF the TEN_ACC_ERR copy of its window, latch the first error since their last
read and count all. -/
def latchErr (s : State) (fnCopy fn kind off : Nat) (write : Bool) : State :=
  let v := F.SYS_ACC_ERR_VALID.on fnCopy
  let s := if s.on v then s else
    ((((s.set (F.SYS_ACC_ERR_KIND.on fnCopy) kind).setB (F.SYS_ACC_ERR_WRITE.on fnCopy) write).set
      (F.SYS_ACC_ERR_FUNC.on fnCopy) fn).set (F.SYS_ACC_ERR_ADDR.on fnCopy) off).set v 1
  s.addSat (F.SYS_ACC_ERR_COUNT.on fnCopy) 1

/-- An access of function fn at offset off of its BAR0 is flagged with a kind (R367). TEN_ACC_ERR is held as the function's
own copy of SYS_ACC_ERR, whose layout it has (R379). -/
def flagErr (s : State) (fn kind off : Nat) (write : Bool) : State :=
  let s := s.latchErr 0 fn kind off write
  let s := if fn = 0 then s else s.latchErr fn fn kind off write
  let s := s.count (0x008 + kind)
  s.trace 11 fn (pay [(20, 1, kind), (21, 1, if write then 1 else 0), (22, 2, fn), (24, 4, off)])

/-! ## Quench (R384 to R388) -/

/-- Where the trace records of one cycle have an order (R451): quenches by master, then releases by master (R29, R387). -/
def tracePlace (r : TrcRec) : Option Nat :=
  if r.ttype = 6 then some (masterRank r.payload)
  else if r.ttype = 7 then some (2 ^ 31 + masterRank r.payload)
  else none

/-- The trace record that came last in staging takes its place among those of its cycle (R29, R387). TSEQ count by place. -/
def orderTrace (s : State) : State :=
  let l := s.obs.stage
  match l.getLast? with
  | some r =>
    let later (x : TrcRec) : Bool := x.short = r.short && x.frac = r.frac && match tracePlace r, tracePlace x with
      | some i, some j => decide (i < j)
      | _, _ => false
    if s.time.running && (tracePlace r).isSome then
      let l' := ((l.map (fun x => x.tseq)).zip (putBefore later r l.dropLast)).map (fun x => { x.2 with tseq := x.1 })
      { s with obs := { s.obs with stage := l' } }
    else s
  | none => s

/-- The QUENCH records of a master (R386): kind 0 function, 1 engine, 2 peer. -/
def quenchRecords (s : State) (kind master causes detail : Nat) : State :=
  let p := pay [(20, 1, kind), (21, 2, master), (24, 4, causes), (28, 4, detail)]
  let t := if kind = 0 then s.recTenant master else 0
  let s := s.pevent 2 t p
  let s := if kind = 0 then s.event master 2 t p else s
  (s.trace 6 master p).orderTrace

/-- A QUENCH payload with further causes. -/
def withCauses (causes p : Nat) : Nat := p - bitsOf p 32 32 * 2 ^ 32 + (bitsOf p 32 32 ||| causes) * 2 ^ 32

/-- A quenched function commits a further violation: in the cycle of its quench the QUENCH records that have not yet left list that
cause too (R29); later nothing happens. -/
def addCauses (s : State) (n causes : Nat) : State :=
  if s.time.running then
    let mine (short frac p : Nat) : Bool := short = s.short && frac = s.frac && masterRank p = n
    let ev (l : List EvRec) : List EvRec :=
      l.map (fun r => if r.typ = 2 && mine r.short r.frac r.payload then { r with payload := withCauses causes r.payload } else r)
    let s := s.setFn 0 { s.fn 0 with fifo := ev (s.fn 0).fifo }
    let s := s.setFn n { s.fn n with fifo := ev (s.fn n).fifo }
    { s with obs := { s.obs with stage := s.obs.stage.map (fun r =>
      if r.ttype = 6 && mine r.short r.frac r.payload then { r with payload := withCauses causes r.payload } else r) } }
  else s

/-- A tenant function is quenched (R386, R388): it reads no further descriptor for execution, and every descriptor made
available before the violation is to complete with QUENCHED unless it had started. A function already quenched stays so. -/
def quenchFn (s : State) (n causes detail : Nat) : State :=
  let f := s.fn n
  if n = 0 then s
  else if f.quenched then s.addCauses n causes
  else
    let s := s.setFn n { f with quenched := true, qTail := f.avail }
    let t := s.recTenant n
    let s := s.set (F.TEN_ST_QUENCHED t) 1
    let s := s.tcount t 11 1
    s.quenchRecords 0 n causes detail

/-- The QUENCH_RELEASE records of a master (R387). -/
def releaseRecords (s : State) (kind master : Nat) : State :=
  let p := pay [(20, 1, kind), (21, 2, master)]
  let t := if kind = 0 then s.recTenant master else 0
  let s := s.pevent 0x20 t p
  let s := if kind = 0 then s.event master 0x20 t p else s
  (s.trace 7 master p).orderTrace

end State

end Sys2Proof.Machine
end

