-- ==== Sys2Proof/Machine/Time.lean ====
section
/-!
DEFINITION. Sys2Proof/Machine/Time.lean: how the time core advances (R151, R166), how a command is carried to the instant
it is due at, and the Almanac: leap seconds, calendar and tenant scales (R52, R53, R57 to R61, R68, R490, R491).
-/

namespace Sys2Proof.Machine

namespace State

/-! ## The time core -/

/-- What a cycle adds without an Anneal: (1 + FREQ_ADJ × 2^-56) ns in units of 2^-56 ns (R151). -/
def baseStep (s : State) : Int := 2 ^ 56 + s.getI F.TSK_FREQ_ADJ_FREQ_ADJ

/-- What k cycles of the Anneal apply: k × S, but no more than the remainder (R166). -/
def annealed (s : State) (k : Nat) : Int :=
  let m := min (k * s.time.annS.natAbs) s.time.annR.natAbs
  if s.time.annR < 0 then -(m : Int) else (m : Int)

/-- What the next cycle adds (R151, R166). -/
def addend (s : State) : Int := s.baseStep + (if s.time.annS = 0 then 0 else s.annealed 1)

/-- The core's reading k cycles later, when nothing but time happens. -/
def coreIn (s : State) (k : Nat) : Int :=
  s.time.core + k * s.baseStep + (if s.time.annS = 0 then 0 else s.annealed k)

/-- The state k CCLK cycles later, when nothing but time happens. Every replica advances with the core (R22). -/
def advance (s : State) (k : Nat) : State :=
  if s.time.running && k ≠ 0 then
    { s with time := { s.time with
        prev := s.coreIn (k - 1)
        core := (s.coreIn k).toNat
        annR := s.time.annR - (if s.time.annS = 0 then 0 else s.annealed k)
        cyc := s.time.cyc + k } }
  else s

/-- Division rounded up, for a positive divisor. -/
def ceilI (a b : Int) : Nat := (-((-a) / b)).toNat

/-- Cycles until the first one whose reading is at least `target` (2^-56 ns). -/
def cyclesTo (s : State) (target : Nat) : Nat :=
  let gap : Int := (target : Int) - s.time.core
  if gap ≤ 0 then 0
  else if s.time.annS = 0 then ceilI gap s.baseStep
  else
    let k1 := ceilI gap (s.baseStep + s.time.annS)
    if k1 * s.time.annS.natAbs ≤ s.time.annR.natAbs then k1
    else max (ceilI (gap - s.time.annR) s.baseStep) (s.time.annR.natAbs / s.time.annS.natAbs + 1)

/-- The first cycle whose reading is at least `target` ns, or the present one if it is (R230). -/
def runTo (s : State) (target : Nat) : State := s.advance (s.cyclesTo (target * 2 ^ 56))

/-- The instant, in whole ns since the epoch, that a short time names by its signed difference from now (R46). -/
def unshort (s : State) (e : Nat) : Int := s.ns + sdiff s.short e

/-- This cycle is the first one of the tick that the last boundary began. -/
def atBoundary (s : State) : Bool := s.time.running && decide (s.time.cyc = s.time.tickCyc)

/-- The present cycle is the first one with a reading of at least `due` ns, or comes before it: the reading of the cycle before
was lower. In the cycle of a jump, what was due without it still acts as usual (R230, R240). -/
def notOverdue (s : State) (due : Int) : Bool := decide (s.time.prev < due * 2 ^ 56)

/-- The replica of a block reads other than the core by d, 2^-56 ns, from now on (R23). -/
def upset (s : State) (r : Nat) (d : Int) : State :=
  { s with time := { s.time with reps := alSet s.time.reps r ((alGet s.time.reps r).getD 0 + d) } }

/-- The first whole ms at least 500,000 ns after a reading (R50, R165). -/
def tickAfter (ns : Nat) : Nat := ceilDiv (ns + 500000) 1000000 * 1000000

/-! ## Leap seconds (R52 to R54, R59) -/

/-- TAI second at which UTC first reads 00:00:00 after a leap entry (R59). -/
def leapE (e : LeapEnt) : Int := ((e.mjd : Int) + 1 - 40587) * 86400 + e.offset

/-- TAI − UTC at a TAI second (R52). -/
def taiUtc (tab : List LeapEnt) (sec : Int) : Int :=
  tab.foldl (fun o e => if leapE e ≤ sec then e.offset else o) 10

/-- TAI − UTC before an entry of a table takes effect. -/
def offBefore (tab : List LeapEnt) (e : LeapEnt) : Int := taiUtc tab (leapE e - 1)

/-- UTC seconds since 1970 to TAI seconds. The offset in force is that before the first entry whose UTC instant lies
later. -/
def utcToTai (tab : List LeapEnt) (u : Int) : Int :=
  u + tab.foldl (fun o e => if ((e.mjd : Int) + 1 - 40587) * 86400 ≤ u then e.offset else o) 10

/-- The day given by its MJD ends with a leap second, positive or negative (R62). -/
def leapAtEnd (tab : List LeapEnt) (mjd : Nat) (neg : Bool) : Bool := tab.any (fun e => e.mjd = mjd && e.neg == neg)

/-! ## Calendar (R61) -/

/-- Days since 1970-01-01 of a Gregorian date. -/
def daysOf (y m d : Nat) : Int :=
  let y' : Int := if m ≤ 2 then (y : Int) - 1 else y
  let era := y' / 400
  let yoe := y' - era * 400
  let mp : Int := ((m : Int) + 9) % 12
  let doy := (153 * mp + 2) / 5 + d - 1
  let doe := yoe * 365 + yoe / 4 - yoe / 100 + doy
  era * 146097 + doe - 719468

/-- Year, month and day of a count of days since 1970-01-01. -/
def civilOf (days : Int) : Int × Nat × Nat :=
  let z := days + 719468
  let era := z / 146097
  let doe := z - era * 146097
  let yoe := (doe - doe / 1460 + doe / 36524 - doe / 146096) / 365
  let doy := doe - (365 * yoe + yoe / 4 - yoe / 100)
  let mp := (5 * doy + 2) / 153
  let d := doy - (153 * mp + 2) / 5 + 1
  let m := if mp < 10 then mp + 3 else mp - 9
  (yoe + era * 400 + (if m ≤ 2 then 1 else 0), m.toNat, d.toNat)

/-- A leap year (R61, R62). -/
def isLeap (y : Nat) : Bool := y % 400 = 0 || (y % 4 = 0 && y % 100 ≠ 0)

/-- Days of a month (R62). -/
def mdays (y m : Nat) : Nat :=
  if m = 2 then (if isLeap y then 29 else 28)
  else if m = 4 ∨ m = 6 ∨ m = 9 ∨ m = 11 then 30 else 31

/-! ## Tenant scales (R57 to R60, R68, R490, R491) -/

/-- A reading in one scale: 2^-16 ns since 1970-01-01 00:00:00 of the scale, leap seconds not counted. -/
structure ScaleTime where
  q : Int
  smearing : Bool
  leap60 : Bool
  deriving DecidableEq, Repr

/-- One second in 2^-16 ns. -/
def secQ : Int := 65536000000000

/-- UTC at a TAI reading: inside a positive leap second the count holds at the last 2^-16 ns of second 59 (R68). -/
def utcScale (tab : List LeapEnt) (t : Int) : ScaleTime :=
  let sec := t / secQ
  match tab.find? (fun e => !e.neg && decide (leapE e - 1 ≤ sec) && decide (sec < leapE e)) with
  | some e => ⟨(leapE e - e.offset) * secQ - 1, false, true⟩
  | none => ⟨t - taiUtc tab sec * secQ, false, false⟩

/-- Smeared UTC at a TAI reading (R59, R60): the smear term is exact and rounded down to 2^-16 ns. -/
def smearScale (tab : List LeapEnt) (w : Nat) (t : Int) : ScaleTime :=
  let half : Int := (w / 2 : Nat)
  match tab.find? (fun e => decide ((leapE e - half) * secQ ≤ t) && decide (t ≤ (leapE e + half) * secQ)) with
  | some e =>
    let dOld := offBefore tab e
    let start := (leapE e - half) * secQ
    ⟨t - dOld * secQ - ((e.offset - dOld) * (t - start)) / (w : Int), true, false⟩
  | none => utcScale tab t

/-- Tenant time of a TAI reading under a scale, smear window and offset (R57). -/
def scaleTime (tab : List LeapEnt) (scale w : Nat) (offset : Int) (t : Int) : ScaleTime :=
  match scale with
  | 0 => utcScale tab t
  | 2 => ⟨t - 19 * secQ, false, false⟩
  | 3 => smearScale tab w t
  | 4 => ⟨t + offset * 65536, false, false⟩
  | _ => ⟨t, false, false⟩

/-- The live transform of a tenant. -/
def tenScale (s : State) (t : Nat) : Nat := s.get (F.TSK_XFORM_SCALE t)

/-- Tenant time at a TAI reading in 2^-16 ns; the provisional reading itself in provisional time (R490). -/
def tenantTime (s : State) (t : Nat) (q : Int) : ScaleTime :=
  if s.prov then ⟨q, false, false⟩
  else scaleTime s.tsk.leap (s.tenScale t) (s.get (F.TSK_XFORM_SMEAR_W t)) (s.getI (F.TSK_XFORM_OFFSET t)) q

/-- The tenant transform term of the bound, ps (R56, R60). -/
def tenantTerm (s : State) (t : Nat) : Nat :=
  let sc := s.tenScale t
  if s.tsk.leapExpired && (sc = 0 || sc = 3) then 1000000000000
  else if sc = 3 then 1 else 0

end State

end Sys2Proof.Machine
end

