-- ==== Sys2Proof/Machine/Sched.lean ====
section
/-!
DEFINITION. Sys2Proof/Machine/Sched.lean: the epoch scheduler: entries, the order in which occurrences act (R228 to R233),
writing, deleting and reading entries (R234 to R237), and forward jumps (R240 to R243).
-/

namespace Sys2Proof.Machine

/-- The engine's program is quenched (R350). -/
def State.engQuenched (s : State) (e : Nat) : Bool := s.get (F.ENG_ST_STATE e) = 3

/-- The engine runs: it has a program and is not quenched. -/
def State.engRuns (s : State) (e : Nat) : Bool := s.get (F.ENG_ST_STATE e) = 1 || s.get (F.ENG_ST_STATE e) = 2

namespace State

/-! ## Occurrences -/

/-- The instant an entry's occurrence is due, in whole ns since the epoch. -/
def dueOf (s : State) (e : SchEnt) : Int := s.unshort e.epoch

/-- An entry that is compared: ABS = 1 entries wait while PROVISIONAL is set (R239). The TICK entry acts through TICK, which every
other occurrence of its cycle may precede or follow (R24, R36). -/
def eligible (s : State) (e : SchEnt) : Bool := e.action ≠ 1 && !(e.abs && s.prov)

/-- An occurrence that may act next: whether its entry is detached (R236), its number and its entry. -/
structure Occ where
  detached : Bool
  id : Nat
  ent : SchEnt
  deriving DecidableEq, Repr

/-- The TICK entry, the calendar's entry for the kernel tick (R24). -/
def tickEnt (s : State) : Option (Nat × SchEnt) := s.sch.ents.find? (fun p => p.2.action = 1 && s.time.running)

/-- Two instants fall due in one cycle. -/
def sameCycle (s : State) (a b : Int) : Bool :=
  a = b || (decide ((s.ns : Int) < a) && decide ((s.ns : Int) < b) &&
    s.cyclesTo (a.toNat * 2 ^ 56) = s.cyclesTo (b.toNat * 2 ^ 56))

/-- Rank of an action among those of one cycle: a GNSS burst's gating follows the latch of a GNSS epoch (R120), and a strobe
follows every other action (R231). -/
def actRank (action : Nat) : Nat := if action = 8 then 2 else if action = 15 then 1 else 0

/-- Order of acting: (EPOCH, FRAC), then entry number, the actions of a later rank after the others of their cycle (R120,
R231). -/
def occBefore (s : State) (a b : Occ) : Bool :=
  let da := s.dueOf a.ent
  let db := s.dueOf b.ent
  if s.sameCycle da db && actRank a.ent.action ≠ actRank b.ent.action then actRank a.ent.action < actRank b.ent.action else
  da < db || (da = db && (a.ent.frac < b.ent.frac || (a.ent.frac = b.ent.frac && (a.id < b.id || (a.id = b.id && a.detached)))))

/-- The first of some occurrences in acting order. -/
def firstOcc (s : State) : List Occ → Option Occ
  | [] => none
  | o :: t => match firstOcc s t with
    | none => some o
    | some p => if s.occBefore p o then some p else some o

/-- Every occurrence that may act. -/
def occs (s : State) : List Occ :=
  (s.sch.detached.map (fun p => ⟨true, p.1, p.2⟩)) ++
    ((s.sch.ents.filter (fun p => s.eligible p.2)).map (fun p => ⟨false, p.1, p.2⟩))

/-- The occurrence that acts next. -/
def nextOcc (s : State) : Option Occ := s.firstOcc s.occs

/-- An entry is put. -/
def putEnt (s : State) (id : Nat) (e : SchEnt) : State := { s with sch := { s.sch with ents := alSet s.sch.ents id e } }

/-- An entry is freed. -/
def freeEnt (s : State) (id : Nat) : State := { s with sch := { s.sch with ents := alDel s.sch.ents id } }

/-- After an occurrence acts: EPOCH advances by PERIOD, or the one-shot entry is freed (R230). -/
def advanceEnt (s : State) (o : Occ) : State :=
  if o.detached then { s with sch := { s.sch with detached := s.sch.detached.filter (fun p => p ≠ (o.id, o.ent)) } }
  else if o.ent.period = 0 then s.freeEnt o.id
  else s.putEnt o.id { o.ent with epoch := (o.ent.epoch + o.ent.period) % 2 ^ 64 }

/-! ## Late handling (R241 to R243) -/

/-- An SCH_LATE record of a handled entry, and its counts (R241, R243). -/
def lateRecord (s : State) (l : Late) : State :=
  let e := l.ent
  let s := match e.policy with
    | 0 => (s.add F.SCH_LATE_ST_FIRED_LATE 1).count 0x381
    | 1 => (s.add F.SCH_LATE_ST_SKIPPED l.missed).countN 0x382 l.missed
    | _ => (s.add F.SCH_LATE_ST_DROPPED 1).count 0x383
  let s := if l.cause = 1 then s.count 0x385 else s
  let s := s.tcount e.owner 15 1
  s.eventAt (s.fnOf e.owner) 0x0B e.owner e.epoch e.frac
    (pay [(20, 2, l.id + 4096 * e.policy + 16384 * l.cause), (22, 1, e.action), (24, 4, satN 32 l.missed)])

/-- The entries at the head of the late queue that do not act are recorded, up to the next FIRE_LATE one (R243). -/
def flushLateN : Nat → State → State
  | 0, s => s
  | n + 1, s =>
    match s.sch.late with
    | [] => s
    | l :: t =>
      if l.ent.policy = 0 then s
      else flushLateN n ({ s with sch := { s.sch with late := t } }.lateRecord l)

/-- The records of every leading entry that does not act. -/
def flushLate (s : State) : State := flushLateN s.sch.late.length s

/-- An entry's present occurrence has been dispatched: it is due within 1,024 ns (R230). -/
def dispatched (s : State) (e : SchEnt) : Bool := s.eligible e && decide (s.dueOf e - s.ns ≤ 1024)

/-! ## Edges whose output has another owner (R238) -/

/-- The GOUT_EDGE entry's nonzero owner does not own its output. -/
def foreignEdge (s : State) (e : SchEnt) : Bool :=
  e.action = 5 && e.owner ≠ 0 && s.get (F.OUT_G_CFG_OWNER (bitsOf e.arg 0 3)) ≠ e.owner

/-- The occurrence is dropped: its output had another owner at its dispatch. -/
def disowned (s : State) (o : Occ) : Bool :=
  !o.detached && s.foreignEdge o.ent && !s.sch.owned.contains (o.id, o.ent.epoch)

/-- What is kept of dispatched occurrences of an entry is forgotten. -/
def clearOwned (s : State) (id : Nat) : State :=
  { s with sch := { s.sch with owned := s.sch.owned.filter (fun p => p.1 ≠ id) } }

/-- The entry is dropped under cause NOT_OWNER, as if its policy were DROP_ENTRY. -/
def dropDisowned (s : State) (id : Nat) (e : SchEnt) (missed : Nat) : State :=
  let s := (s.freeEnt id).clearOwned id
  ({ s with sch := { s.sch with late := s.sch.late ++ [⟨id, { e with policy := 2 }, missed, 2, false⟩] } } : State).flushLate

/-! ## The dispatch (R230, R232) -/

/-- Cycles that the reading of the present cycle lies past the instant 1,024 ns before `due`. -/
def lookAhead (s : State) (due : Int) : Nat := (((s.time.core : Int) - (due - 1024) * 2 ^ 56) / s.addend).toNat

/-- The cycle in which an occurrence of the present cycle was dispatched: 1,024 ns before it is due, and at least one cycle after
the one dispatched before it. -/
def dispatchCycle (s : State) (due : Int) : Nat :=
  let first := s.time.cyc - s.lookAhead due
  match s.sch.lastDisp with
  | some c => max first (c + 1)
  | none => first

/-- The occurrence due in the present cycle could not be dispatched by it. -/
def congested (s : State) (due : Int) : Bool := decide (s.time.cyc < s.dispatchCycle due)

/-- The occurrence has taken its turn of the dispatch. -/
def takeDispatch (s : State) (due : Int) : State := { s with sch := { s.sch with lastDisp := some (s.dispatchCycle due) } }

/-- An occurrence acts in its due cycle: its turn of the dispatch, its entry's advance, and its counts. -/
def acted (s : State) (o : Occ) : State :=
  ((((s.takeDispatch (s.dueOf o.ent)).advanceEnt o).clearOwned o.id).count 0x380).tcount o.ent.owner 14 1

/-- Output g has a new owner: an occurrence already dispatched is judged by the old one (R238). -/
def ownerChange (s : State) (g old : Nat) : State :=
  let l := s.sch.ents.filter (fun p => p.2.action = 5 && p.2.owner ≠ 0 && bitsOf p.2.arg 0 3 = g && s.dispatched p.2 &&
    !s.sch.owned.contains (p.1, p.2.epoch))
  l.foldl (fun (s : State) p =>
    if p.2.owner = old then { s with sch := { s.sch with owned := (p.1, p.2.epoch) :: s.sch.owned } }
    else s.dropDisowned p.1 p.2 1) s

/-- The scheduled occurrence of entry id with an action acts (R230, R231): it must be the next one in order, lie before the
next tick boundary, and have been dispatched by its due cycle, which the present cycle must not have passed (else R232 applies).
Core time is carried to its due cycle, the entry advances, and the action takes its effect; a GOUT_EDGE that lost its output
is dropped at its dispatch, 1,024 ns before (R238). `ok` picks the form of the action by its entry. Where it is not so, nothing
happens. -/
def occurrence (s : State) (id action : Nat) (ok : SchEnt → Bool) (act : State → SchEnt → State) : State :=
  match s.nextOcc with
  | some o =>
    let due := s.dueOf o.ent
    if s.time.running && o.id = id && o.ent.action = action && ok o.ent && decide (due < s.time.tickAt) && s.notOverdue due then
      if s.disowned o then (s.runTo (due - 1024).toNat).dropDisowned o.id o.ent 1
      else if (s.runTo due.toNat).congested due then s
      else act ((s.runTo due.toNat).acted o) o.ent
    else s
  | none => s

/-! ## Forward jumps (R240) -/

/-- Order of late handling: first missed (EPOCH, FRAC), then entry number (R241), against a reading of `t0` ns. -/
def lateBefore (t0 : Nat) (a b : Late) : Bool :=
  let da := sdiff (t0 % 2 ^ 64) a.ent.epoch
  let db := sdiff (t0 % 2 ^ 64) b.ent.epoch
  da < db || (da = db && (a.ent.frac < b.ent.frac || (a.ent.frac = b.ent.frac && a.id ≤ b.id)))

/-- A late entry put in its place. -/
def insLate (t0 : Nat) (l : Late) : List Late → List Late
  | [] => [l]
  | h :: t => if lateBefore t0 l h then l :: h :: t else h :: insLate t0 l t

/-- The policy under which a crossed entry is handled: FIRE_LATE becomes SKIP while the scheduler engine is quenched
(R242). -/
def latePolicy (s : State) (p : Nat) : Nat := if p = 0 && s.engQuenched 14 then 1 else p

/-- One entry crossed by a jump from t0 to t1 (whole ns): what is left of it, how many ALIGN occurrences were re-phased, and
its late handling (R240, R241). `was` says whether it was eligible before the jump. -/
def crossEnt (s : State) (t0 t1 : Nat) (was : Bool) (id : Nat) (e : SchEnt) : Option SchEnt × Nat × Option Late :=
  -- an entry eligible before the jump is placed against T0, one that the jump makes eligible against T1
  let due : Int := if was then t0 + sdiff (t0 % 2 ^ 64) e.epoch else t1 + sdiff (t1 % 2 ^ 64) e.epoch
  let missed : Nat := if due ≤ t1 then (if e.period = 0 then 1 else (((t1 : Int) - due) / e.period).toNat + 1) else 0
  if e.align && e.period ≠ 0 then
    let next := ceilDiv (ceilDiv (2 * s.time.core) (2 ^ 56) + e.period) (2 * e.period) * e.period
    (some { e with epoch := next % 2 ^ 64, frac := 0 }, missed, none)
  else if missed = 0 then (some e, 0, none)
  else
    let p := s.latePolicy e.policy
    let l : Late := ⟨id, { e with policy := p }, missed, 0, false⟩
    let left := if p = 2 || e.period = 0 then none
      else some { e with epoch := ((e.epoch + missed * e.period) % 2 ^ 64) }
    (left, 0, some l)

/-- The entries after a jump from t0 to t1, with the number re-phased and the late ones in order. -/
def crossAll (s : State) (wasProv : Bool) (t0 t1 : Nat) : List (Nat × SchEnt) → List (Nat × SchEnt) × Nat × List Late
  | [] => ([], 0, [])
  | (id, e) :: t =>
    let (es, n, ls) := crossAll s wasProv t0 t1 t
    if e.abs && s.prov then ((id, e) :: es, n, ls)
    else
      let (left, k, l) := s.crossEnt t0 t1 (!(e.abs && wasProv)) id e
      ((match left with | some e' => (id, e') :: es | none => es), n + k,
        match l with | some l => insLate t0 l ls | none => ls)

/-- An entry's occurrence that is due at T0 but has not acted is set apart, and its entry advances (R240); the TICK's is the boundary
in hand. -/
def keepOne (s : State) (wasProv : Bool) (t0 id : Nat) (e : SchEnt) : State :=
  if (e.abs && wasProv) || decide (0 < sdiff (t0 % 2 ^ 64) e.epoch) then s
  else if e.action = 1 then s.advanceEnt ⟨false, id, e⟩
  else
    let s := { s with sch := { s.sch with detached := s.sch.detached ++ [(id, { e with period := 0 })] } }
    if e.period = 0 then s.freeEnt id else s.putEnt id { e with epoch := (e.epoch + e.period) % 2 ^ 64 }

/-- What is due at T0 acts as usual. -/
def keepDue (s : State) (wasProv : Bool) (t0 : Nat) : State :=
  s.sch.ents.foldl (fun s p => s.keepOne wasProv t0 p.1 p.2) s

/-- The next boundary is the TICK entry's next instant (R24). -/
def placeTick (s : State) : State :=
  match s.tickEnt with
  | some (_, e) => { s with time := { s.time with tickAt := (s.dueOf e).toNat } }
  | none => s

/-- The forward jump of R240, after the core has been moved: `t0` is the reading the jump cycle would have had, in whole
ns, and `wasProv` whether PROVISIONAL was set before it. The TICK entry is re-phased like every ALIGN entry, and places the next
boundary. -/
def forwardJump (s : State) (wasProv : Bool) (t0 : Nat) : State :=
  let t1 := s.ns
  let s := s.keepDue wasProv t0
  let (es, n, ls) := s.crossAll wasProv t0 t1 s.sch.ents
  -- dispatched occurrences of replaced or deleted entries are recalled (R236)
  let (gone, kept) := s.sch.detached.partition (fun p =>
    let due := (t0 : Int) + sdiff (t0 % 2 ^ 64) p.2.epoch
    decide ((t0 : Int) < due) && decide (due ≤ t1))
  let ls := gone.foldl (fun ls p => insLate t0 ⟨p.1, { p.2 with policy := s.latePolicy p.2.policy }, 1, 0, true⟩ ls) ls
  let s := { s with sch := { s.sch with ents := es, detached := kept, late := s.sch.late ++ ls, lateAt := max s.sch.lateAt (s.time.cyc + 1) } }
  let s := if n = 0 then s else (s.add F.SCH_LATE_ST_REPHASED n).countN 0x384 n
  s.flushLate.placeTick

/-! ## Operations (R234 to R237) -/

/-- The entry that SCH_STG holds (R228). -/
def stgEnt (v : Nat) : SchEnt :=
  { epoch := bitsOf v 0 64, frac := bitsOf v 64 16, policy := bitsOf v 80 2, abs := bitOf v 82, align := bitOf v 83
    locked := bitOf v 84, action := bitsOf v 88 8, owner := bitsOf v 96 10, period := bitsOf v 128 64, arg := bitsOf v 192 32 }

/-- An entry in the layout of SCH_STG (R228). -/
def entStg (e : SchEnt) : Nat :=
  pack 0 [(0, 8, e.epoch), (8, 2, e.frac),
    (10, 1, e.policy + (if e.abs then 4 else 0) + (if e.align then 8 else 0) + (if e.locked then 16 else 0)),
    (11, 1, e.action), (12, 2, e.owner), (16, 8, e.period), (24, 4, e.arg)]

/-- ACTION and ARG as the action table allows them on the part (R229). -/
def argOk (p : Part) (action arg : Nat) : Bool :=
  match action with
  | 1 => arg = 0
  | 2 => arg = 0
  | 3 => arg = 0
  | 4 => arg < 8 && !(p.small && 4 ≤ arg)
  | 5 => arg < 64 && bitsOf arg 3 1 = 0 && bitsOf arg 4 2 ≠ 3
  | 6 => arg < 32
  | 7 => arg < 32
  | 8 => arg < 256 && arg ≠ 0
  | 9 => arg < 24 && !(p.small && ((4 ≤ arg && arg ≤ 7) || arg = 17))
  | 10 => arg < 65536
  | 11 => arg = 0
  | 12 => arg = 0
  | 13 => bitsOf arg 5 3 = 0 && bitsOf arg 0 5 ≤ 17 && !(p.small && 4 ≤ bitsOf arg 0 5 && bitsOf arg 0 5 ≤ 7)
  | 14 => arg < 4
  | 15 => arg = 0
  | _ => false

/-- The actions that only the image may own (R229). -/
def imageOnly (action : Nat) : Bool := action = 1 || action = 2 || action = 3 || action = 4 || action = 14 || action = 15

/-- The owner is permitted for the action (R229); that of a GOUT_EDGE is judged by check 8. -/
def ownerOk (action arg owner : Nat) : Bool :=
  action = 5 || owner = 0 || (action = 10 && bitsOf arg 0 10 = owner)

/-- Non-LOCKED entries a tenant owns (R237). -/
def ownedBy (s : State) (t : Nat) : Nat := (s.sch.ents.filter (fun p => p.2.owner = t && !p.2.locked)).length

/-- The checks of R235 in their order: the code of the first that fails, or 1 for OK. `tn` is the calling function's tenant
(0 for the provider), op 0 WRITE, 1 DELETE, 2 READ. -/
def schCheck (s : State) (tn op id : Nat) (e : SchEnt) : Nat :=
  let cur := alGet s.sch.ents id
  let locked := match cur with | some c => c.locked | none => false
  let foreign := match cur with | some c => tn ≠ 0 && c.owner ≠ tn | none => false
  let changesOwner : Bool := match cur with | some c => decide (c.owner ≠ e.owner) | none => true
  let d := sdiff s.short e.epoch
  if op = 3 then 2
  else if s.engQuenched 14 || (op ≠ 2 && s.get F.PAIR_STAT_ROLE = 1) then 3
  else if op ≠ 2 && locked then 4
  else if foreign then 5
  else if op ≠ 0 && cur.isNone then 6
  else if op ≠ 0 then 1
  else if !argOk s.part e.action e.arg || e.policy = 3 || e.align || e.locked then 7
  else if imageOnly e.action || !ownerOk e.action e.arg e.owner || (tn ≠ 0 && e.owner ≠ tn) then 8
  else if e.action = 5 && e.owner ≠ 0 && s.get (F.OUT_G_CFG_OWNER (bitsOf e.arg 0 3)) ≠ e.owner then 5
  else if (1 ≤ e.period && e.period < 2000) || 2 ^ 62 ≤ e.period then 9
  else if e.action = 12 && (e.epoch % 1000000 ≠ 0 || e.period % 1000000 ≠ 0 || e.frac ≠ 0) then 10
  else if 2 ^ 62 ≤ d.natAbs then 11
  else if (d < 2000 || (d = 2000 && s.time.core % 2 ^ 56 ≠ 0)) && !(e.abs && s.prov) then 12
  else if changesOwner && s.get (F.SCH_TEN_ST_QUOTA e.owner) ≤ s.ownedBy e.owner then 13
  else 1

/-- An entry in use is about to be replaced or deleted: a dispatched occurrence of it still acts (R236), unless it was dropped at
its dispatch (R238). -/
def detach (s : State) (fn id : Nat) : State :=
  match alGet s.sch.ents id with
  | some c =>
    if s.dispatched c && s.disowned ⟨false, id, c⟩ then s.dropDisowned id c 1
    else if s.dispatched c then
      { s with sch := { s.sch with detached := s.sch.detached ++ [(id, { c with period := 0 })] } }.set
        (F.SCH_CMD_ST_DISPATCHED.on fn) 1
    else s
  | none => s

/-- Completion of a scheduler operation of function fn (R234, R235): the checks and the effect take place in this cycle.
Nothing happens unless the operation is the one in progress. -/
def schComplete (s : State) (fn op : Nat) : State :=
  let o := s.get (F.SCH_CMD_OP.on fn)
  if s.on (F.SCH_CMD_ST_BUSY.on fn) && (o = op || o = 3) then
    let id := s.get (F.SCH_CMD_ID.on fn)
    let e := stgEnt (s.get (F.SCH_STG_ENTRY.on fn))
    let code := s.schCheck (s.recTenant fn) o id e
    let s := ((s.set (F.SCH_CMD_ST_DISPATCHED.on fn) 0).set (F.SCH_CMD_ST_REPLACED.on fn) 0)
    let s := (s.set (F.SCH_CMD_ST_CODE.on fn) code).set (F.SCH_CMD_ST_BUSY.on fn) 0
    if code ≠ 1 then s.count 0x387
    else
      let s := s.count 0x386
      match o with
      | 0 =>
        let s := s.detach fn id
        let s := if (alGet s.sch.ents id).isSome then s.set (F.SCH_CMD_ST_REPLACED.on fn) 1 else s
        s.putEnt id e
      | 1 => (s.detach fn id).freeEnt id
      | _ => match alGet s.sch.ents id with
        | some c => s.set (F.SCH_STG_ENTRY.on fn) (entStg c)
        | none => s
  else s

/-- Every entry that tenant t owns is deleted, without records; dispatched occurrences still act (R238). -/
def deleteOwned (s : State) (t : Nat) : State :=
  if t = 0 then s else
  let (mine, rest) := s.sch.ents.partition (fun p => p.2.owner = t)
  let went := mine.filter (fun p => s.dispatched p.2)
  let gone := went.filter (fun p => s.disowned ⟨false, p.1, p.2⟩)
  let disp := (went.filter (fun p => !s.disowned ⟨false, p.1, p.2⟩)).map (fun p => (p.1, { p.2 with period := 0 }))
  let s := gone.foldl (fun (s : State) p => s.dropDisowned p.1 p.2 1) s
  { s with sch := { s.sch with ents := rest, detached := s.sch.detached ++ disp } }

end State

/-- SCH_WRITE (R235): completion of a WRITE operation of function fn. -/
def execSchWrite (fn : Nat) (s : State) : Host.Outcome State Fault Refusal := .next (s.schComplete fn 0)

/-- SCH_DELETE (R235): completion of a DELETE operation of function fn. -/
def execSchDelete (fn : Nat) (s : State) : Host.Outcome State Fault Refusal := .next (s.schComplete fn 1)

/-- SCH_READ (R235): completion of a READ operation of function fn. -/
def execSchRead (fn : Nat) (s : State) : Host.Outcome State Fault Refusal := .next (s.schComplete fn 2)

end Sys2Proof.Machine
end

