-- ==== Sys2Proof/Machine/Bounds.lean ====
section
/-!
DEFINITION. Sys2Proof/Machine/Bounds.lean: the core time error bound: its terms, holdover growth, floor and publication, and
the source tag (R177 to R200).
-/

namespace Sys2Proof.Machine

/-- A rational number of ps rounded up, as a bound (R179, R180). -/
def ratPs (q : Rat) : Nat := bNorm q.ceil.toNat

namespace State

/-- A reference's own state. -/
def ref (s : State) (r : Nat) : RefSt := (alGet s.asy.refs r).getD RefSt.reset

/-- The state with a reference's own state replaced. -/
def setRef (s : State) (r : Nat) (x : RefSt) : State := { s with asy := { s.asy with refs := alSet s.asy.refs r x } }

/-- Growth of holdover class k over t seconds, exact and rounded up to 1 ps (R184). -/
def growth (s : State) (k : Nat) (t : Rat) : Nat :=
  ratPs ((s.get (F.TSK_HGC_A k) : Rat) + (s.get (F.TSK_HGC_B k) : Rat) * t / 65536 +
    (s.get (F.TSK_HGC_C k) : Rat) * t * t / 2 / 4294967296)

/-- The holdover class of clock c; clock 0's is that of FROZEN (R184, R187). -/
def classOf (s : State) (c : Nat) : Nat :=
  if c = 0 then s.get F.TSK_CLK_CLASS_C0_FROZEN else s.get (F.TSK_CLK_CLASS_CLASS c)

/-- The clock marked ANCHOR, if any (R148). -/
def anchor (s : State) : Option Nat := [1, 2, 3, 4].find? (fun c => s.on (F.ASY_CLK_ST_ANCHOR c))

/-- The class that a HOLD_ACT selects (R185). -/
def holdClass (s : State) (act : Nat) : Nat :=
  if act = 2 then s.get F.TSK_CLK_CLASS_C0_MODELLED
  else if act = 3 then s.classOf (s.anchor.getD 0)
  else s.get F.TSK_CLK_CLASS_C0_FROZEN

/-- Ticks as seconds. -/
def ticksSec (n : Nat) : Rat := (n : Rat) / 1000

/-- Seconds from a boundary `n` to the last one, and two ticks more: to the end of the tick after the one that it began (R177,
R185). -/
def sinceBnd (s : State) (n : Nat) : Rat := ticksSec (s.tsk.bnd - n + 2)

/-- XB_c: the bound on the TAI phase that free clock c carries, to the end of the tick after the one that begins (R181).
The list holds tick, instant and bound of the dated measurements that entered x̂_c, newest first. -/
def xbOf (s : State) (c : Nat) : Nat :=
  match (alGet s.tsk.datedIn c).getD [] with
  | [] => unb
  | (_, at_, b) :: rest =>
    let lim := s.get F.TSK_ENS_CFG_EST_TAU * 1000
    let worst := rest.foldl (fun m p => if s.tsk.bnd ≤ p.1 + lim then max m p.2.2 else m) b
    bAdd worst (s.growth (s.classOf c) (((s.tsk.bndNs - at_ : Nat) : Rat) / 1000000000 + ticksSec 2))

/-- B_c of a clock: the reference bound of its PH_REF, of FR_REF where an anchor has none, plus XB_c (R181). -/
def clockBound (s : State) (c : Nat) : Nat :=
  if c = 0 then unb else
  let p := s.get (F.ASY_CLK_ST_PH_REF c)
  let r := if p = 63 then s.get (F.ASY_CLK_ST_FR_REF c) else p
  let own := if r = 63 then unb else bNorm (s.ref r).bound
  if 5 ≤ c then own else bAdd own (s.xbOf c)

/-- Phase-set members (R157). -/
def phaseSet (s : State) : List Nat := [1, 2, 3, 4, 5, 6, 7].filter (fun c => s.on (F.TSK_CLK_ST_IN_PHASE c))

/-- B_REF: the weighted sum over the phase set, rounded up; unbounded with no phase set (R178). -/
def bRef (s : State) : Nat :=
  let ps := s.phaseSet
  if ps = [] then unb
  else if ps.any (fun c => s.clockBound c ≥ unb) then unb
  else bNorm (ceilDiv (ps.foldl (fun a c => a + s.get (F.TSK_CLK_ST_WEIGHT c) * s.clockBound c) 0) 65536)

/-- B_SERVO: ceil(|x|) plus the margin; the margin alone in MANUAL (R178). -/
def bServo (s : State) (manual : Bool) : Nat :=
  (if manual then 0 else ((|s.tsk.x| * 1000).ceil).toNat) + s.get F.TSK_TEB_CFG_SERVO_MARGIN

/-- B_HOLD at this boundary (R185, R186). -/
def bHold (s : State) : Nat :=
  let act := s.get F.TSK_STAT_HOLD_ACT
  let k := s.holdClass act
  bAdd s.tsk.gHeld (s.growth k (s.sinceBnd s.tsk.gTick))

/-- The four terms and the core TEB computed for the tick that begins (R178, R185): B_REF, B_SERVO, TEB_ENTRY, B_Q, sum. -/
def tebTerms (s : State) : Nat × Nat × Nat × Nat × Nat :=
  let st := s.get F.TSK_STAT_STATE
  if s.prov then (0, 0, 0, 0, unb)
  else match st with
    | 2 => let r := s.bRef; let v := s.bServo false; (r, v, 0, 1, bAdd (bAdd r v) 1)
    | 4 => let r := s.bRef; let v := s.bServo false; (r, v, 0, 1, bAdd (bAdd r v) 1)
    | 3 =>
      let e := s.get (F.TSK_TEB_TERM_VALUE 2)
      let v := if s.get F.TSK_STAT_HOLD_ACT = 3 then s.bServo false else 0
      (0, v, e, 1, bAdd (bAdd (bAdd e (s.get F.TSK_TEB_HOLD_B_HOLD)) v) 1)
    | 5 =>
      let v := s.bServo true
      let g := s.growth (s.get F.TSK_CLK_CLASS_C0_FROZEN) (s.sinceBnd s.tsk.manTick)
      (0, v, 0, 0, bAdd (bAdd s.tsk.manTeb g) v)
    | _ => (0, 0, 0, 0, unb)

/-- The tag registered for a reference number; 0xFFFF without an entry (R197). -/
def tagOf (s : State) (r : Nat) : Nat :=
  match (List.range 256).find? (fun i => s.on (F.TSK_TAG_VALID i) && s.get (F.TSK_TAG_REF i) = r) with
  | some i => s.get (F.TSK_TAG_TAG i)
  | none => 0xFFFF

/-- The highest-ranked dated clock of the phase set (R164, R197). -/
def topDated (s : State) : Option Nat :=
  ([5, 6, 7].filter (fun c => s.on (F.TSK_CLK_ST_IN_PHASE c))).foldl
    (fun b c => match b with
      | none => some c
      | some d => if s.get (F.ASY_CLK_ST_RANK c) < s.get (F.ASY_CLK_ST_RANK d) then some c else some d) none

/-- The deciding reference of the source tag (R197); 63 where none is named. -/
def decidingRef (s : State) : Nat :=
  let st := s.get F.TSK_STAT_STATE
  let ofAnchor := match s.anchor with
    | some c => let p := s.get (F.ASY_CLK_ST_PH_REF c); if p = 63 then s.get (F.ASY_CLK_ST_FR_REF c) else p
    | none => 63
  if st = 2 then (match s.topDated with | some c => s.get (F.ASY_CLK_ST_PH_REF c) | none => 63)
  else if st = 4 || (st = 3 && s.get F.TSK_STAT_HOLD_ACT = 3) then ofAnchor
  else s.tsk.tagRef

/-- The core TEB a block reads (R177). -/
def coreTeb (s : State) : Nat := s.get F.TSK_TEB_TEB_LO + 2 ^ 32 * s.get F.TSK_TEB_TEB_HI

/-- A core TEB and tag are published (R177, R188, R190, R203), with the status bits. DEDUCED: a unit that
is still PROVISIONAL publishes unbounded, whatever floor a takeover or the STANDBY role gives it: R47 leaves it no bounded value,
and R190 and R434 do not except it. -/
def publish (s : State) (computed tag : Nat) : State :=
  let v := if s.tsk.stepHold = 0 then computed else max computed s.tsk.tebBefore
  let v := match s.tsk.floor with
    | some f => max v f
    | none => v
  -- a standby publishes its floor (R434)
  let v := s.tsk.stby.getD v
  let v := if s.prov || s.tsk.lolOn then unb else bNorm v
  let s := (s.set F.TSK_TEB_TEB_LO v).set F.TSK_TEB_TEB_HI (v / 2 ^ 32)
  let s := (s.set F.TSK_TEB_SRC_TAG tag).set F.TSK_TEB_FLOAT_BOUND (toFloat v)
  let s := (s.setB F.TSK_TEB_ST_FLOOR s.tsk.floor.isSome).setB F.TSK_TEB_ST_STEP_HOLD (s.tsk.stepHold ≠ 0)
  s.setB F.TSK_TEB_ST_UNBOUNDED (v = unb)

/-- The tag in force (R197): 0 in provisional time; that of the deciding reference while one is steered to; else the one held. -/
def sourceTag (s : State) : Nat :=
  let st := s.get F.TSK_STAT_STATE
  if s.prov then 0
  else if st = 2 || st = 4 || (st = 3 && s.get F.TSK_STAT_HOLD_ACT = 3) then s.tagOf s.decidingRef
  else s.tsk.tagHeld

/-- Holdover that follows keeps this reference, its tag and the instant of its last measurement (R197, R283). -/
def holdTag (s : State) (r : Nat) : State := { s with tsk := { s.tsk with tagRef := r, tagHeld := s.tagOf r, tagAt := (s.ref r).accAt } }

/-- The bound is recomputed and published (R177, R191): terms, B_c registers, TEB and tag. -/
def recomputeTeb (s : State) : State :=
  let s := [1, 2, 3, 4, 5, 6, 7].foldl (fun s c => s.set (F.TSK_TEB_CLK_B_C c) (s.clockBound c)) s
  let (r, v, e, q, sum) := s.tebTerms
  let s := (s.set (F.TSK_TEB_TERM_VALUE 0) r).set (F.TSK_TEB_TERM_VALUE 1) v
  let s := (s.set (F.TSK_TEB_TERM_VALUE 2) e).set (F.TSK_TEB_TERM_VALUE 3) q
  let s := { s with tsk := { s.tsk with tebCalc := sum } }
  s.publish sum s.sourceTag

/-- A bound-change trace record (R200): cause 0 alarm, 1 tag, 2 exponent. -/
def boundTraceRec (s : State) (cause : Nat) : State :=
  s.trace 5 0 (pay [(20, 1, cause), (24, 6, s.coreTeb), (30, 2, s.get F.TSK_TEB_SRC_TAG)])

/-- The trace of a change of the published tag, and of the published float's exponent (R200). -/
def boundTrace (s : State) : State :=
  let e := s.get F.TSK_TEB_FLOAT_BOUND / 2 ^ 26
  let tag := s.get F.TSK_TEB_SRC_TAG
  let s := if tag ≠ s.tsk.lastTag then s.boundTraceRec 1 else s
  let s := if e ≠ s.tsk.lastExp then s.boundTraceRec 2 else s
  { s with tsk := { s.tsk with lastExp := e, lastTag := tag } }

/-- Alarm at a boundary (R200), before the trace of the bound's changes. -/
def boundAlarm (s : State) : State :=
  let above := decide (s.get F.TSK_TEB_ALARM_THRESH < s.get F.TSK_TEB_FLOAT_BOUND)
  (if above ≠ s.on F.TSK_TEB_ST_ALARM then
    let s := (s.setB F.TSK_TEB_ST_ALARM above).count 0x30A
    let s := s.pevent 0x0A 0 (pay [(20, 1, if above then 1 else 0), (24, 6, s.coreTeb)])
    s.boundTraceRec 0
  else s).boundTrace

/-! ## The served bound (R192, R199) -/

/-- Port term of a port (R193). -/
def portTerm (s : State) (p : Nat) : Nat :=
  let t := s.get (F.TSK_TEB_PORT_TERM p)
  if t = 0xFFFFFFFF then unb else t

/-- The bound of a timestamp in an answer on port p to tenant t: `sealed_` for one sealed before launch, `ntp` for the NTP
format (R192). -/
def servedBound (s : State) (p t : Nat) (sealed_ ntp : Bool) : Nat :=
  bAdd (bAdd (bAdd (bAdd s.coreTeb (s.portTerm p)) (if sealed_ then 1000 else 0)) (if ntp then 233 else 1)) (s.tenantTerm t)

end State

end Sys2Proof.Machine
end

