-- ==== Sys2Proof/Machine/Assay.lean ====
section
/-!
DEFINITION. Sys2Proof/Machine/Assay.lean: consistency checks, anomaly counting, reference states, ranking and weights
(R127 to R150, R494), with the kernel's predictions (R161, R162).
-/

namespace Sys2Proof.Machine

namespace State

/-! ## References -/

/-- The reference numbers of R128. -/
def refNums : List Nat := (List.range 31) ++ [32, 33, 34, 35]

/-- State of a reference (R139): 0 DISABLED, 1 CANDIDATE, 2 PROBATION, 3 QUALIFIED, 4 DISQUALIFIED. -/
def refState (s : State) (r : Nat) : Nat := s.get (F.ASY_REF_ST_STATE r)

/-- PROBATION or QUALIFIED (R140). -/
def qualified (s : State) (r : Nat) : Bool := s.refState r = 2 || s.refState r = 3

/-- The clock a reference is a member of (R129). -/
def memberOf (s : State) (r : Nat) : Option Nat :=
  if s.on (F.ASY_REF_CFG_MEMBER r) && r < 31 then some (s.get (F.ASY_REF_CFG_CLOCK r)) else none

/-- The reference's measurements give phase (R494): PPS and PP2S inputs, ToD, and references 28 to 35. -/
def givesPhase (s : State) (r : Nat) : Bool :=
  if r < 16 then s.get (F.REF_IN_CFG_KIND r) = 1 || s.get (F.REF_IN_CFG_KIND r) = 2
  else !decide (r < 24)

/-- An enabled APORT of the clock gates its members' measurements (R130). -/
def aportGates (s : State) (c : Nat) : Bool :=
  s.refin.aportClk.any (fun p => p.2 = c && s.on (F.REF_APORT_CFG_EN p.1) &&
    (s.on (F.REF_APORT_ST_STALE p.1) ||
      (s.on (F.REF_APORT_ST_VALID p.1) && (!s.on (F.REF_APORT_ST_LOCK p.1) || s.on (F.REF_APORT_ST_ALARM p.1)))))

/-- The status gate on a reference (R130). -/
def statusGated (s : State) (r : Nat) : Bool := match s.memberOf r with | some c => s.aportGates c | none => false

/-! ## Windowed counting (R138 to R141, R146) -/

/-- Anomalies of a class logged in the window of WIN × 1,000 ticks up to tick n (R138). -/
def inWindow (s : State) (r c n : Nat) : Nat :=
  ((s.ref r).log.filter (fun p => p.1 = c && decide (n < p.2 + s.get F.ASY_DISC_CFG_WIN * 1000))).length

/-- The class has reached its limit (R138). -/
def atLimit (s : State) (r c n : Nat) : Bool := decide (s.get (F.ASY_LIMIT_LIMIT c) ≤ s.inWindow r c n)

/-- The lowest class at its limit (R141). -/
def lasting (s : State) (r n : Nat) : Option Nat := (List.range 8).find? (fun c => s.atLimit r c n)

/-- Entry time in ticks (R139). -/
def entryTicks (s : State) : Nat := s.get F.ASY_PROB_CFG_ENTRY * 1000

/-- Hold-off of a reference in ticks: HOLDOFF × 2^BACKOFF seconds (R139, R142). -/
def holdoffTicks (s : State) (r : Nat) : Nat :=
  s.get F.ASY_DISC_CFG_HOLDOFF * 1000 * 2 ^ s.get (F.ASY_REF_ST_BACKOFF r)

/-- The last 15 entries of a class in a log, newest first, with every other class untouched (R138). -/
def trimLog (c : Nat) : Nat → List (Nat × Nat) → List (Nat × Nat)
  | _, [] => []
  | k, p :: t =>
    if p.1 = c then (match k with
      | 0 => trimLog c 0 t
      | k' + 1 => p :: trimLog c k' t)
    else p :: trimLog c k t

/-- The entry, probation or hold-off timer of a reference is set (R139). ASY_REF_ST.TIMER shows it in 30 bits, saturated; the
period runs as R139 states it. -/
def setTimer (s : State) (r n : Nat) : State :=
  (s.setRef r { s.ref r with timer := n }).set (F.ASY_REF_ST_TIMER r) (satN 30 n)

/-- One anomaly of a class against a reference, dated to a tick (R138, R140, R141), with residual and combined bound of the
measurement that gave it, if one did: logged and counted; it restarts the entry timer of a CANDIDATE and the hold-off of a
DISQUALIFIED reference. A DISABLED reference takes none. -/
def anomalyBy (s : State) (r c tick : Nat) (m : Option (Int × Nat)) : State :=
  if s.refState r = 0 then s else
  let x := s.ref r
  let s := s.setRef r { x with log := trimLog c 15 ((c, tick) :: x.log),
                               dec := (match m with | some v => alSet x.dec c v | none => alDel x.dec c) }
  let s := s.count (0x1C0 + 8 * r + c)
  let s := s.set (F.ASY_REF_ST_COUNT r c) (min 15 (s.inWindow r c s.time.tickNo))
  match s.refState r with
  | 1 => (s.setTimer r s.entryTicks).setRef r { (s.setTimer r s.entryTicks).ref r with accepted := false }
  | 4 => s.setTimer r (s.holdoffTicks r)
  | _ => s

/-- One anomaly that no measurement gives. -/
def anomalyAt (s : State) (r c tick : Nat) : State := s.anomalyBy r c tick none

/-- One anomaly of the present tick. -/
def anomaly (s : State) (r c : Nat) : State := s.anomalyAt r c s.time.tickNo

/-- The anomaly is raised against every member reference of a clock. -/
def anomalyMembers (s : State) (k c : Nat) : State :=
  (refNums.filter (fun r => s.memberOf r = some k)).foldl (fun s r => s.anomaly r c) s

/-- One anomaly of a windowed source (R146). -/
def srcAnomaly (s : State) (i : Nat) : State :=
  if 8 < i then s else
  let l := (s.time.tickNo :: (alGet s.asy.srcs i).getD []).take 15
  let s := { s with asy := { s.asy with srcs := alSet s.asy.srcs i l } }
  let s := s.count (0x2E0 + i)
  let win := s.get (F.ASY_SRC_CFG_WIN i) * 1000
  let s := s.set (F.ASY_SRC_ST_COUNT i) (min 15 (l.filter (fun t => decide (s.time.tickNo < t + win))).length)
  if s.on (F.ASY_SRC_ST_FAULT i) then s.set (F.ASY_SRC_ST_TIMER i) (satN 27 (s.get (F.ASY_SRC_CFG_HOLDOFF i) * 1000)) else s

/-! ## Records (R150) -/

/-- An ASY_STATE record of a reference, with its verdict trace record (R150): RESID and BOUND are those of the measurement behind
the deciding anomaly, if one gave it. -/
def refRecord (s : State) (r old new cause : Nat) : State :=
  let cnt := if cause < 8 then s.inWindow r cause s.time.tickNo else 0
  let m := if cause < 8 then alGet (s.ref r).dec cause else none
  let p := pay [(20, 1, r), (21, 1, old + 16 * new), (22, 1, cause), (23, 1, satN 8 cnt),
    (24, 4, match m with | some (e, _) => ofSigned 32 (satI 32 e) | none => 0),
    (28, 4, match m with | some (_, b) => toFloat b | none => 0xFFFFFFFF)]
  ((s.count 0x2F0).pevent 6 0 p).trace 1 0 p

/-- An ASY_STATE record of a windowed source (R150). -/
def srcRecord (s : State) (i old new cause : Nat) : State :=
  let p := pay [(20, 1, i + 64), (21, 1, old + 16 * new), (22, 1, cause), (23, 1, s.get (F.ASY_SRC_ST_COUNT i)),
    (28, 4, 0xFFFFFFFF)]
  ((s.count 0x2F0).pevent 6 0 p).trace 1 0 p

/-- A reference changes state, with its timer (R139). -/
def refShift (s : State) (r new timer : Nat) : State :=
  let s := (s.set (F.ASY_REF_ST_STATE r) new).setTimer r timer
  if new = 1 then s.setRef r { s.ref r with accepted := false } else s

/-- A reference changes state, with its timer and record (R139, R150). -/
def refMove (s : State) (r new timer cause : Nat) : State := (s.refShift r new timer).refRecord r (s.refState r) new cause

/-! ## Absence (R145) -/

/-- The reference is absent at a boundary of reading `ns` (R145). -/
def absentAt (s : State) (r ns : Nat) : Bool :=
  let x := s.ref r
  if r < 24 then s.on (F.REF_SRC_STAT_LOS r)
  else if r < 28 then s.engQuenched 13
  else if r = 28 then s.engQuenched 12 || decide (max x.enAt x.usedAt + 1000000000 ≤ ns)
  else if r < 31 then s.engQuenched 13 || decide (max x.enAt x.usedAt + 4000000000 ≤ ns)
  else false

/-- Ticks between further LOSS anomalies: floor(WIN × 1,000 / LIMIT_LOSS) (R145). -/
def lossPeriod (s : State) : Nat := s.get F.ASY_DISC_CFG_WIN * 1000 / s.get (F.ASY_LIMIT_LIMIT 2)

/-- A LOSS of a reference falls at the boundary of reading `ns` that ends the present tick: the first of its absence, unless REF
raised it, or a repetition (R145). -/
def lossDue (s : State) (r ns : Nat) : Bool :=
  let x := s.ref r
  s.absentAt r ns && (if x.absent then decide (x.nextLoss ≤ s.time.tickNo) else !(r < 24 && x.lossByRef))

/-- The first LOSS of a reference that has become absent, at the boundary that ends tick n (R145). -/
def absentLoss (s : State) (r : Nat) : State :=
  if s.refState r = 0 then s else
  let x := s.ref r
  if s.absentAt r s.ns then
    if x.absent then s
    else
      let s := s.setRef r { x with absent := true, nextLoss := s.time.tickNo + s.lossPeriod }
      if r < 24 && x.lossByRef then s else s.anomaly r 2
  else if x.absent || x.lossByRef then s.setRef r { x with absent := false, lossByRef := false } else s

/-! ## Evaluation (R138 to R143) -/

/-- The evaluation of one reference at the boundary that ends the present tick: lasting faults, and the timers. Timers that
run out are the business of ENTRY_TIMER_END, PROBATION_END and HOLDOFF_END. -/
def evalRef (s : State) (r : Nat) : State :=
  -- the record of a timer's end takes its place in the order of the boundary (R150)
  let s := match (s.ref r).due with
    | some (old, new) => (s.setRef r { s.ref r with due := none }).refRecord r old new 9
    | none => s
  let st := s.refState r
  if st = 0 then s else
  let n := s.time.tickNo
  let x := s.ref r
  let hit := x.log.any (fun p => p.2 = n)
  let s := (List.range 8).foldl (fun s c => s.set (F.ASY_REF_ST_COUNT r c) (min 15 (s.inWindow r c n))) s
  match (if st = 4 || x.fresh then none else s.lasting r n) with
  | some c =>
    let b := s.get (F.ASY_REF_ST_BACKOFF r)
    let s := if st = 2 then s.set (F.ASY_REF_ST_BACKOFF r) (min (b + 1) (s.get F.ASY_PROB_CFG_BACKOFF_MAX)) else s
    (s.set (F.ASY_REF_ST_CAUSE r) c).refMove r 4 (s.holdoffTicks r) c
  | none =>
    -- a timer restarted by an anomaly of this tick, or started at this boundary, counts from the boundary
    let s := if x.fresh then s.setRef r { x with fresh := false } else s
    if (hit && (st = 1 || st = 4)) || x.fresh then s
    else s.setTimer r (x.timer - 1)

/-- The evaluation of one windowed source (R146). -/
def evalSrc (s : State) (i : Nat) : State :=
  let s := if s.asy.srcDue.contains i then
      ({ s with asy := { s.asy with srcDue := s.asy.srcDue.filter (fun k => k ≠ i) } } : State).srcRecord i 1 0 9 else s
  let n := s.time.tickNo
  let l := (alGet s.asy.srcs i).getD []
  let win := s.get (F.ASY_SRC_CFG_WIN i) * 1000
  let cnt := (l.filter (fun t => decide (n < t + win))).length
  let s := s.set (F.ASY_SRC_ST_COUNT i) (min 15 cnt)
  if s.on (F.ASY_SRC_ST_FAULT i) then
    if l.any (fun t => t = n) then s else s.set (F.ASY_SRC_ST_TIMER i) (s.get (F.ASY_SRC_ST_TIMER i) - 1)
  else if decide (s.get (F.ASY_SRC_CFG_LIMIT i) ≤ cnt) && cnt ≠ 0 then
    let s := (s.set (F.ASY_SRC_ST_FAULT i) 1).set (F.ASY_SRC_ST_TIMER i) (satN 27 (s.get (F.ASY_SRC_CFG_HOLDOFF i) * 1000))
    -- a DRAM channel is DEGRADED while its source is in FAULT (R395)
    let s := if i = 1 || i = 2 then s.set (F.HMK_DRAM_ST_DEGRADED (i - 1)) 1 else s
    s.srcRecord i 0 1 11
  else s

/-! ## Ranking and weights (R147, R148) -/

/-- Ranking keys: whether only PROBATION, PRIO, bound, number; lower is better (R148). -/
abbrev Key := Nat × Nat × Nat × Nat

/-- Key order. -/
def keyLt (a b : Key) : Bool :=
  a.1 < b.1 || (a.1 = b.1 && (a.2.1 < b.2.1 || (a.2.1 = b.2.1 &&
    (a.2.2.1 < b.2.2.1 || (a.2.2.1 = b.2.2.1 && a.2.2.2 < b.2.2.2)))))

/-- A key put in its place. -/
def insKey (k : Key) : List Key → List Key
  | [] => [k]
  | h :: t => if keyLt k h then k :: h :: t else h :: insKey k t

/-- Keys in order. -/
def sortKeys (l : List Key) : List Key := l.foldl (fun a k => insKey k a) []

/-- The key of a member. -/
def refKey (s : State) (r : Nat) : Key :=
  (if s.refState r = 3 then 0 else 1, s.get (F.ASY_REF_CFG_PRIO r), (s.ref r).bound, r)

/-- The ranked members of a clock, best first (R148). -/
def ranked (s : State) (c : Nat) : List Nat :=
  (sortKeys ((refNums.filter (fun r => s.memberOf r = some c && s.qualified r)).map s.refKey)).map (fun k => k.2.2.2)

/-- Weight of a reference (R147). -/
def refWeight (s : State) (r : Nat) : Nat :=
  if s.refState r = 3 then 256 else if s.refState r = 2 then s.get F.ASY_PROB_CFG_PROB_WT else 0

/-- Ranks 0, 1, ... of a list. -/
def setRanks (f : Nat → Fld) : State → List Nat → Nat → State
  | s, [], _ => s
  | s, r :: t, n => setRanks f (s.set (f r) n) t (n + 1)

/-- What Assay sets for one clock (R147). -/
def evalClock (s : State) (c : Nat) : State :=
  let l := s.ranked c
  let ph := (l.find? (fun r => s.get (F.ASY_REF_CFG_ROLE r) = 0 && s.givesPhase r)).getD 63
  let fr := (l.find? (fun r => s.get (F.ASY_REF_CFG_ROLE r) = 1)).getD ph
  let s := setRanks F.ASY_REF_ST_RANK s l 0
  let s := (s.set (F.ASY_CLK_ST_PH_REF c) ph).set (F.ASY_CLK_ST_FR_REF c) fr
  let s := (s.setB (F.ASY_CLK_ST_PH_OK c) (ph ≠ 63)).setB (F.ASY_CLK_ST_FR_OK c) (fr ≠ 63)
  s.set (F.ASY_CLK_ST_WEIGHT c) (if fr = 63 then 0 else s.refWeight fr)

/-- The key of a clock: that of its phase reference, or of its frequency reference (R148); none when unranked. -/
def clockKey (s : State) (c : Nat) : Option Key :=
  let p := s.get (F.ASY_CLK_ST_PH_REF c)
  let r := if p = 63 then s.get (F.ASY_CLK_ST_FR_REF c) else p
  if r = 63 then none
  else
    let q := if (s.ranked c).any (fun r => s.refState r = 3) then 0 else 1
    some (q, s.get (F.ASY_REF_CFG_PRIO r), (s.ref r).bound, c)

/-- The clocks in order. The clock ranked first before keeps its place against a challenger that leads only by a bound not
below (1 − RANK_HYST / 16) times its own (R148). -/
def clockOrder (s : State) : List Nat :=
  let ks := sortKeys ([1, 2, 3, 4, 5, 6, 7].filterMap s.clockKey)
  let order := ks.map (fun k => k.2.2.2)
  let top := s.get F.ASY_STAT_TOP
  match ks, s.clockKey top with
  | k :: _, some t =>
    if k.2.2.2 ≠ top && top ≠ 255 && k.1 = t.1 && k.2.1 = t.2.1 &&
        !decide (k.2.2.1 * 16 < (16 - s.get F.ASY_CHK_CFG_RANK_HYST) * t.2.2.1) then
      top :: order.filter (fun c => c ≠ top)
    else order
  | _, _ => order

/-- Ranks, weights, PH_REF, FR_REF, ANCHOR and the first-ranked clock after an evaluation (R147, R148), with the ASY_TOP
record of a change (R150). -/
def assayRank (s : State) : State :=
  let s := refNums.foldl (fun s r => (s.set (F.ASY_REF_ST_RANK r) 255).set (F.ASY_REF_ST_WEIGHT r) (s.refWeight r)) s
  let s := [1, 2, 3, 4, 5, 6, 7].foldl (fun s c => s.evalClock c) s
  let order := s.clockOrder
  let s := [1, 2, 3, 4, 5, 6, 7].foldl (fun s c => (s.set (F.ASY_CLK_ST_RANK c) 255).set (F.ASY_CLK_ST_ANCHOR c) 0) s
  let s := setRanks F.ASY_CLK_ST_RANK s order 0
  let s := match order.find? (fun c => c < 5 && s.on (F.ASY_CLK_ST_FR_OK c)) with
    | some c => s.set (F.ASY_CLK_ST_ANCHOR c) 1
    | none => s
  let s := s.setB F.ASY_STAT_SPOOF_FAULT (refNums.any (fun r => s.refState r = 4 && s.get (F.ASY_REF_ST_CAUSE r) = 5))
  let top := order.headD 255
  let prev := s.get F.ASY_STAT_TOP
  if top = prev then s
  else
    let s := s.set F.ASY_STAT_TOP top
    let p := pay [(20, 1, top), (21, 1, prev)]
    ((s.count 0x2F1).pevent 7 0 p).trace 2 0 p

/-- Assay's whole work at the boundary that ends the present tick (R138 to R148). -/
def assayEvaluate (s : State) : State :=
  let s := refNums.foldl (fun s r => s.absentLoss r) s
  let s := refNums.foldl (fun s r => s.evalRef r) s
  let s := (List.range 9).foldl (fun s i => s.evalSrc i) s
  s.assayRank

/-! ## Predictions (R132, R161, R162) -/

/-- Clocks trusted other than the one r belongs to: those of the phase set. -/
def trustedFor (s : State) (r : Nat) : List Nat := s.phaseSet.filter (fun c => s.memberOf r ≠ some c)

/-- x̂ in ns, y in 2^-56 and d in 2^-64 per s of a clock: in HOLDOVER those frozen at entry, advanced by the clock's own y and d
(R170), else the live ones of TSK_CLK_ST (R156). -/
def clockState (s : State) (c : Nat) : Rat × Rat × Rat :=
  match (if s.get F.TSK_STAT_STATE = 3 then alGet s.tsk.frozen c else none) with
  | some f =>
    let dt := ticksSec (s.tsk.bnd - f.tick)
    (f.xhat + (f.y : Rat) * dt * 1000000000 / 2 ^ 56 + (f.d : Rat) * dt * dt / 2 * 1000000000 / 2 ^ 64,
      (f.y : Rat) + (f.d : Rat) * dt / 256, (f.d : Rat))
  | none => ((s.getI (F.TSK_CLK_ST_XHAT c) : Rat) / 65536, (s.getI (F.TSK_CLK_ST_FREQ c) : Rat),
      (s.getI (F.TSK_CLK_ST_DRIFT c) : Rat))

/-- x̂ of a clock, ns. -/
def xhatNs (s : State) (c : Nat) : Rat := (s.clockState c).1

/-- The measured offset of a phase-set clock at an instant, ns: the latest accepted offset of its PH_REF, advanced by the
clock's y and d (R158, R170). -/
def clockOffset (s : State) (c at_ : Nat) : Rat :=
  match (s.ref (s.get (F.ASY_CLK_ST_PH_REF c))).last with
  | some (o, t, _) =>
    let dt : Rat := ((at_ : Rat) - (t : Rat)) / 1000000000
    let (_, y, d) := s.clockState c
    (o : Rat) / 65536 - y * dt * 1000000000 / 2 ^ 56 - d * dt * dt / 2 * 1000000000 / 2 ^ 64
  | none => 0

/-- The weighted estimate of core minus ensemble over some clocks, ns. -/
def ensembleOf (s : State) (l : List Nat) (at_ : Nat) : Rat :=
  let w : Rat := l.foldl (fun a c => a + (s.get (F.TSK_CLK_ST_WEIGHT c) : Rat)) 0
  if w = 0 then 0
  else l.foldl (fun a c => a + (s.get (F.TSK_CLK_ST_WEIGHT c) : Rat) *
    (s.clockOffset c at_ + s.xhatNs c)) 0 / w

/-- A prediction: P in 2^-16 ns, B_pred in ps, whether it draws on a clock 1 to 4, whether it is the free run. -/
structure Pred where
  p : Rat
  b : Nat
  atomic : Bool
  free : Bool

/-- The kernel's prediction of an offset of reference r at an instant (R161). The prediction bound from trusted clocks is a
free value of the kernel's program; the state answered has its draw counter advanced. Stored offsets follow every move of the
core (`shiftRefs`), so a prediction made in the tick of an armed step contains the step (R134). -/
def predict (s : State) (r at_ : Nat) : Pred × State :=
  let l := s.trustedFor r
  if l ≠ [] && !s.engQuenched 8 then
    let own : Rat := match s.memberOf r with
      | some c => s.xhatNs c
      | none => 0
    (⟨(s.ensembleOf l at_ - own) * 65536, bNorm (Config.predBound s.draws r), l.any (fun c => c < 5), false⟩, s.draw)
  else
    let k := s.classOf ((s.memberOf r).getD 0)
    match (s.ref r).last with
    | some (o, t, _) =>
      let dt : Rat := ((at_ : Rat) - (t : Rat)) / 1000000000
      let adv : Rat := (s.getI (F.TSK_CLK_ST_FREQ 0) : Rat) * dt * 1000000000 / 2 ^ 56 +
        (s.getI (F.TSK_CLK_ST_DRIFT 0) : Rat) * dt * dt / 2 * 1000000000 / 2 ^ 64
      (⟨(o : Rat) + adv * 65536, if s.prov then unb else s.growth k dt, false, true⟩, s)
    | none => (⟨(Config.firstPrediction s.draws r : Rat), unb, false, true⟩, s.draw)

/-! ## Judging a measurement (R133 to R136) -/

/-- Sum of squares. -/
def sumSq (l : List Int) : Nat := l.foldl (fun a e => a + e.natAbs * e.natAbs) 0

/-- |e| ≤ k × σ, with σ the RMS of the last 64 accepted residuals, no lower than NOISE (R133). -/
def withinSigma (s : State) (r k : Nat) (e : Int) : Bool :=
  let l := (s.ref r).resid
  let noise := s.get (F.ASY_REF_CFG_NOISE r)
  let n := if l.length = 0 then 1 else l.length
  decide (e.natAbs * e.natAbs * n ≤ k * k * max (noise * noise * n) (sumSq l))

/-- OUT_K × σ rounded up to 1 ps (R149). -/
def outSigma (s : State) (r : Nat) : Nat :=
  let l := (s.ref r).resid
  let k := s.get F.ASY_CHK_CFG_OUT_K
  let noise := s.get (F.ASY_REF_CFG_NOISE r)
  let n := if l.length = 0 then 1 else l.length
  max (k * noise) (ceilSqrt (ceilDiv (k * k * sumSq l) n))

/-- What a claim comes to under the bound configuration in force (R182, R183). -/
def claimOf (s : State) (p : ClaimParts) : Nat :=
  let v := p.base + (if p.cdc then s.get F.TSK_TEB_CFG_CDC_STALE_ADD else 0) + (if p.path then s.get F.TSK_TEB_CFG_PATH_STALE_ADD else 0) +
    (if p.iono then s.get F.TSK_TEB_CFG2_IONO_SF else 0) + p.resid * s.get F.TSK_TEB_CFG2_RES_K
  if p.flt then ofFloat (toFloat (bNorm v)) else bNorm v

/-- The claims and reference bounds that a change of the bound configuration enters are formed anew (R191). -/
def renewClaims (s : State) : State :=
  { s with asy := { s.asy with refs := s.asy.refs.map (fun q => match q.2.parts with
    | some p => (q.1, { q.2 with claim := s.claimOf p, bound := bNorm (max (s.claimOf p) (s.outSigma q.1)) })
    | none => q) } }

/-- The spoof test of reference 28 runs (R135): its prediction draws on one of clocks 1 to 4. -/
def spoofArmed (s : State) : Bool :=
  s.on (F.ASY_REF_CFG_SPOOF_CHK 28) && !s.engQuenched 8 && (s.trustedFor 28).any (fun c => c < 5)

/-- A measurement is accepted: residual log, offset, bounds (R133, R149, R182), and what the kernel takes from it. -/
def accept (s : State) (m : Meas) (off e : Int) : State :=
  let x := s.ref m.ref
  let s := s.setRef m.ref { x with
    resid := (e :: x.resid).take 64
    last := some (off, m.at_, m.tick)
    accAt := some s.time.tickAt
    lastStamp := m.stamp.orElse (fun _ => x.lastStamp)
    absOff := m.abs
    accepted := true
    claim := m.claim
    parts := m.parts
    staleCal := m.cstale || m.pstale }
  let bd := bNorm (max m.claim (s.outSigma m.ref))
  let s := s.setRef m.ref { s.ref m.ref with bound := bd }
  -- the first offset of a clock's phase reference since PROV_LOCK was entered (R159)
  let s := match s.memberOf m.ref with
    | some c =>
      if s.get F.TSK_STAT_STATE = 1 && s.get (F.ASY_CLK_ST_PH_REF c) = m.ref && (alGet s.tsk.base c).isNone then
        { s with tsk := { s.tsk with base := alSet s.tsk.base c off } }
      else s
    | none => s
  -- a dated measurement enters the estimates of the free clocks (R156, R181)
  match s.memberOf m.ref with
  | some c =>
    if 5 ≤ c && s.get (F.ASY_CLK_ST_PH_REF c) = m.ref && !s.engQuenched 8 then
      let free := [1, 2, 3, 4].filter (fun k => s.on (F.ASY_CLK_ST_FR_OK k))
      free.foldl (fun s k =>
        let l := ((alGet s.tsk.datedIn k).getD []).filter (fun p => bd < p.2.2)
        { s with tsk := { s.tsk with datedIn := alSet s.tsk.datedIn k ((m.tick, m.at_, bd) :: l) } }) s
    else s
  | none => s

/-- The measurement fails its ToD check (R136). -/
def todFails (s : State) (m : Meas) : Bool :=
  match m.tod with
  | some (named, sec, off) => !s.prov && (named ≠ sec || off ≠ taiUtc s.tsk.leap sec)
  | none => false

/-- Outlier and phase-jump judgement of a residual (R133). -/
def judgeOutlier (s : State) (m : Meas) (off e : Int) (b : Nat) : State :=
  let r := m.ref
  let k := s.get F.ASY_CHK_CFG_OUT_K
  let x := s.ref r
  let inside := decide (unb ≤ b) || s.withinSigma r k e
  match x.held with
  | none =>
    if inside then s.accept m off e
    else s.setRef r { x with held := some (e, m.tick, m.at_, off, b) }
  | some (eh, th, _, _, bh) =>
    let s := s.setRef r { x with held := none }
    if inside then (s.anomalyBy r 3 th (some (eh, bh))).accept m off e
    else if s.withinSigma r (s.get F.ASY_CHK_CFG_PJ_AGREE) (e - eh) then s.anomalyBy r 0 m.tick (some (e, b))
    else
      let s := s.anomalyBy r 3 th (some (eh, bh))
      s.setRef r { s.ref r with held := some (e, m.tick, m.at_, off, b) }

/-- The offset checks in order: spoof, then outlier and phase jump (R135, R136), with the re-base of R162. `pr` is the
measurement's prediction and `b` its combined bound. -/
def judgeOffset (s : State) (m : Meas) (off : Int) (pr : Pred) (b : Nat) : State :=
  let r := m.ref
  let e0 := q16ToPsI (roundRat ((off : Rat) - pr.p))
  -- the first measurement after the kernel left LOCKED re-bases a free-run prediction that it bears out (R162)
  let rebase := pr.free && !(s.ref r).rebased && (decide (unb ≤ b) || decide (e0.natAbs ≤ b)) && !s.prov
  let s := s.setRef r { s.ref r with rebased := true }
  let e := if rebase then 0 else e0
  let s := s.setI (F.ASY_REF_ST_RESID r) (satI 32 e)
  if s.on (F.ASY_REF_CFG_SPOOF_CHK r) && pr.atomic && !decide (unb ≤ b) &&
      decide (s.get F.ASY_CHK_CFG_SPOOF_K * b < e.natAbs) then s.anomalyBy r 5 m.tick (some (e, b))
  else s.judgeOutlier m off e b

/-- The frequency check of a gate result (R134): y against the kernel's predicted frequency, both free values of its
program; FX_LIM counts units of 10^-13. It cannot fail while the combined bound is unbounded (R132). Its record's residual is the
last one formed for the reference. -/
def judgeGate (s : State) (m : Meas) (y : Int) (len b : Nat) : State :=
  let r := m.ref
  let yp := Config.predFreq s.draws r
  let u := Config.predFreqBound s.draws r
  let s := s.draw
  if b < unb && decide ((s.get (F.ASY_REF_CFG_FX_LIM r) : Int) * 2 ^ 56 < (((y - yp).natAbs : Int) - u) * 10 ^ 13) then
    s.anomalyBy r 1 m.tick (some (s.getI (F.ASY_REF_ST_RESID r), b))
  else
    let x := s.ref r
    let s := s.setRef r { x with accepted := true, gphase := x.gphase - (y : Rat) * (len : Rat) / 2 ^ 56,
                                 claim := m.claim, parts := m.parts, staleCal := m.cstale || m.pstale }
    s.setRef r { s.ref r with bound := bNorm (max m.claim (s.outSigma r)) }

/-- A Ghefotha peer's offset lies beyond GFL_AGREE.LIMIT (R406). -/
def peerDisagrees (s : State) (m : Meas) : Bool :=
  match m.off with
  | some o => 32 ≤ m.ref && decide (s.get F.GFL_AGREE_LIMIT * 65536 < o.natAbs * 1000)
  | none => false

/-- The Assay engine that judges a reference is quenched, and runs no checks (R145). -/
def unjudged (s : State) (r : Nat) : Bool :=
  if r = 28 then s.engQuenched 12 else if (24 ≤ r && r < 28) || r = 29 || r = 30 then s.engQuenched 13 else false

/-- One measurement is judged, the checks in the order of R136. While the combined bound is unbounded none of them can fail
(R132). -/
def judge (s : State) (m : Meas) : State :=
  let r := m.ref
  if s.refState r = 0 || s.unjudged r then s
  else if s.peerDisagrees m then s.anomalyAt r 0 m.tick
  else if s.statusGated r then s
  else
    let (pr, s) := s.predict r m.at_
    let b := bAdd m.claim pr.b
    if b < unb && s.todFails m then s.anomalyBy r 4 m.tick (some (s.getI (F.ASY_REF_ST_RESID r), b))
    else
      let skipStamp := r < 24 && s.tsk.stepTick = some m.tick
      let s := match m.off with
        | some o => if skipStamp then s else s.judgeOffset m o pr b
        | none => s
      match m.gate with
      | some (y, valid, len) => if valid then s.judgeGate m y len b else s
      | none => s

/-- A measurement waits for its judgement. -/
def deliver (s : State) (m : Meas) : State := { s with asy := { s.asy with inbox := s.asy.inbox ++ [m] } }

/-- Measurements of the tick that ends and still wait are judged (R36, R136); those of the boundary's own cycle wait for the next
boundary. -/
def drainInbox (s : State) : State :=
  let (now, later) := s.asy.inbox.partition (fun m => decide (m.tick ≤ s.time.tickNo))
  now.foldl (fun s m => s.judge m) { s with asy := { s.asy with inbox := later } }

/-- No anomaly of any class fell in the present tick. -/
def quietTick (s : State) (r : Nat) : Bool := (s.ref r).log.all (fun p => p.2 ≠ s.time.tickNo)

/-- A reference's timer runs out at the coming boundary with nothing against it (R139, R143): no anomaly of the tick, no LOSS that
falls at the boundary, and no lasting fault. -/
def timerRuns (s : State) (r st : Nat) : Bool :=
  s.time.running && s.refState r = st && (s.ref r).timer ≤ 1 && !(s.ref r).fresh && s.quietTick r && !s.lossDue r s.time.tickAt &&
    (st = 4 || (s.lasting r s.time.tickNo).isNone)

/-- A timer transition at the coming boundary (R139, R143): what waits for its judgement is judged first, core time is carried to the
boundary, and the record takes its place there (R150). -/
def timerEnd (s : State) (r st new timer : Nat) (ok : State → Bool) (f : State → State) : State :=
  if s.time.running && s.refState r = st && (s.ref r).timer ≤ 1 then
    let s := s.drainInbox
    if s.timerRuns r st && ok s then
      let s := f (s.runTo s.time.tickAt)
      let s := s.setRef r { s.ref r with fresh := true, due := some (st, new) }
      s.refShift r new timer
    else s
  else s

/-- A windowed source's FAULT clears after HOLDOFF without an anomaly (R146). -/
def sourceFaultClear (s : State) (i : Nat) : State :=
  if s.time.running && i < 9 && s.on (F.ASY_SRC_ST_FAULT i) && s.get (F.ASY_SRC_ST_TIMER i) ≤ 1 &&
      ((alGet s.asy.srcs i).getD []).all (fun t => t ≠ s.time.tickNo) then
    let s := s.runTo s.time.tickAt
    let s := (s.set (F.ASY_SRC_ST_FAULT i) 0).set (F.ASY_SRC_ST_TIMER i) 0
    let s := ({ s with asy := { s.asy with srcDue := i :: s.asy.srcDue } } : State)
    -- a DRAM channel leaves DEGRADED with its source's FAULT (R395); a lasting kernel fault ends with source 0's (R174)
    if i = 1 || i = 2 then s.set (F.HMK_DRAM_ST_DEGRADED (i - 1)) 0
    else if i = 0 then s.setB F.TSK_STAT_KFAULT (s.engQuenched 8)
    else s
  else s

end State

/-- ASY_MEASUREMENT (R136): the oldest waiting measurement is judged; one of the boundary's own cycle belongs to the tick that the
boundary begins (R36). -/
def execAsyMeasurement (s : State) : Host.Outcome State Fault Refusal :=
  .next (match s.asy.inbox with
    | [] => s
    | m :: t => if m.tick ≤ s.time.tickNo then { s with asy := { s.asy with inbox := t } }.judge m else s)

/-- ENTRY_TIMER_END (R139): a CANDIDATE with an accepted measurement in its entry time, its source present, moves to
PROBATION. -/
def execEntryTimerEnd (r : Nat) (s : State) : Host.Outcome State Fault Refusal :=
  .next (s.timerEnd r 1 2 (s.get F.ASY_DISC_CFG_WIN * 1000)
    (fun s => (s.ref r).accepted && !s.absentAt r s.time.tickAt) (fun s => s.setRef r { s.ref r with qBound := (s.ref r).bound }))

/-- PROBATION_END (R139, R142): WIN seconds in PROBATION with no class at its limit; BACKOFF returns to 0. -/
def execProbationEnd (r : Nat) (s : State) : Host.Outcome State Fault Refusal :=
  .next (s.timerEnd r 2 3 0 (fun _ => true) (fun s => s.set (F.ASY_REF_ST_BACKOFF r) 0))

/-- HOLDOFF_END (R139): the hold-off passes with no anomaly. -/
def execHoldoffEnd (r : Nat) (s : State) : Host.Outcome State Fault Refusal :=
  .next (s.timerEnd r 4 2 (s.get F.ASY_DISC_CFG_WIN * 1000) (fun _ => true)
    (fun s => s.setRef r { s.ref r with qBound := (s.ref r).bound }))

/-- LOSS_REPEAT (R145): a further LOSS of a reference that stays absent, at the boundary of its repetition period. -/
def execLossRepeat (r : Nat) (s : State) : Host.Outcome State Fault Refusal :=
  .next (
    let x := s.ref r
    if s.time.running && s.refState r ≠ 0 && x.absent && decide (x.nextLoss ≤ s.time.tickNo) &&
        s.absentAt r s.time.tickAt then
      let s := s.runTo s.time.tickAt
      (s.setRef r { x with nextLoss := s.time.tickNo + s.lossPeriod }).anomaly r 2
    else s)

/-- HELD_MEASUREMENT_TIMEOUT (R133): a held measurement with no successor within 2 s is one OUTLIER of its own tick. -/
def execHeldMeasurementTimeout (r : Nat) (s : State) : Host.Outcome State Fault Refusal :=
  .next (match (s.ref r).held with
    | some (e, tick, at_, _, b) =>
      if s.time.running then
        let s := s.runTo (at_ + 2000000000)
        (s.setRef r { s.ref r with held := none }).anomalyBy r 3 tick (some (e, b))
      else s
    | none => s)

end Sys2Proof.Machine
end

