-- ==== Sys2Proof/Machine/Engine.lean ====
section
/-!
DEFINITION. Sys2Proof/Machine/Engine.lean: what blocks do to a Planish engine: wakes, cells, frames, and its quench
(R340, R346, R350, R351).
-/

namespace Sys2Proof.Machine

namespace State

/-- An engine's own state. -/
def engine (s : State) (e : Nat) : EngSt := (alGet s.eng e).getD EngSt.reset

/-- The state with an engine's own state replaced. -/
def setEngine (s : State) (e : Nat) (x : EngSt) : State := { s with eng := alSet s.eng e x }

/-- An engine is present on the part (R334). -/
def engPresent (s : State) (e : Nat) : Bool := e < 18 && !(s.part.small && 4 ≤ e && e < 8)

/-- The engine takes wakes, cells and frames: it has a program and is not quenched (R351). -/
def engTakes (s : State) (e : Nat) : Bool := s.engPresent e && s.engRuns e

/-- A tick wake (R340): a second one before the first is taken coalesces with it. Engines 0 to 7 and 17 have none. -/
def tickWake (s : State) (e : Nat) : State :=
  if s.engTakes e && 8 ≤ e && e ≤ 16 then
    let x := s.engine e
    if x.tick then s.add (F.ENG_LOST_TICKS_MISSED e) 1 else s.setEngine e { x with tick := true }
  else s

/-- A WAKE with a code (R340): up to 16; a further one, and any for engine 17, is dropped and counted. -/
def wakeEngine (s : State) (e code : Nat) : State :=
  if !s.engPresent e then s
  else
    let x := s.engine e
    if e = 17 || 16 ≤ x.wakes.length then s.add (F.ENG_LOST_WAKES_LOST e) 1
    else if s.engQuenched e then s
    else s.setEngine e { x with wakes := x.wakes ++ [code] }

/-- A cell is delivered to an engine (R340, R351): up to 16 wait; a quenched engine's cells are dropped and counted. -/
def cellTo (s : State) (e : Nat) (c : Cell) : State :=
  if !s.engPresent e then s
  else
    let x := s.engine e
    if s.engQuenched e || 16 ≤ x.cells.length then s.add (F.ENG_LOST_CELLS_LOST e) 1
    else s.setEngine e { x with cells := x.cells ++ [c] }

/-- The oldest cell of a type that an engine posted, taken by its block: it must stand first in the queue. -/
def takeCell (s : State) (e typ : Nat) : Option (Cell × State) :=
  let x := s.engine e
  match x.outQ with
  | c :: t => if c.typ = typ then some (c, s.setEngine e { x with outQ := t }) else none
  | [] => none

/-- Byte field of a cell or frame: n bytes from byte i on, little-endian. -/
def cellBytes (v i n : Nat) : Nat := bitsOf v (8 * i) (8 * n)

/-- n bytes from byte i on, most significant first. -/
def wireBytes (v i : Nat) : Nat → Nat
  | 0 => 0
  | n + 1 => cellBytes v i 1 * 256 ^ n + wireBytes v (i + 1) n

/-- A number's n bytes reversed: a field sent most significant byte first, as little-endian bytes. -/
def bswap (n v : Nat) : Nat := wireBytes v 0 n

/-- The lowest cause of a mask of causes 1 to 7. -/
def lowCause (mask : Nat) : Nat := (lowestBit 8 mask 0).getD 0

/-- A port statistic and the counter of the same event count n (R268, R444). -/
def ethStat (s : State) (p k n : Nat) : State := (s.add (F.ETH_STATS_COUNT p k) n).countN (0x3C0 + 32 * p + k) n

/-- An engine is quenched before the instruction at its PC (R350, R351, R386). `mask` holds every cause met, bit k for
cause k. Its pending wakes and cells are discarded, and the frames that wait for it are dropped as
RX_QUENCH (R264). -/
def quenchEngine (s : State) (e mask soft : Nat) : State :=
  let x := s.engine e
  let s := (s.set (F.ENG_ST_STATE e) 3).set (F.ENG_ST_CAUSE e) (lowCause mask)
  let s := if bitOf mask 6 then s.set (F.ENG_ST_SOFT_CODE e) soft else s
  let s := s.setEngine e { x with tick := false, wakes := [], cells := [], frames := [], wait := none }
  let s := if x.frames = [] || 8 ≤ e then s else s.ethStat e 10 x.frames.length
  let s := s.count (0x543 + 4 * e)
  -- a lasting kernel fault (R174)
  let s := if e = 8 then s.set F.TSK_STAT_KFAULT 1 else s
  s.quenchRecords 1 e mask (if e = 17 then 0 else s.get (F.ENG_PC_PC e))

end State

end Sys2Proof.Machine
end

