-- ==== Sys2Proof/Machine/Dram.lean ====
section
/-!
DEFINITION. Sys2Proof/Machine/Dram.lean: what a DRAM read does when its word is in error (R394 to R396).
-/

namespace Sys2Proof.Machine

namespace State

/-- An uncorrectable read of a region (R394, R396): 0 CLIENT, 1 SPARE, 2 TRACE, 3 KERNEL, 4 OTHER. It is counted, and its
DRAM_UE record goes to the provider's ring. -/
def dramUe (s : State) (region : Nat) (u : DramErr) : State :=
  let ch := if u.chB then 1 else 0
  let s := s.add (F.HMK_DRAM_ST_UE ch) 1
  let s := ((s.set (F.HMK_DRAM_LAST_ADDR ch) u.addr).set (F.HMK_DRAM_LAST_REGION ch) region).set
    (F.HMK_DRAM_LAST_SYNDROME ch) u.syn
  (s.count (0x4E0 + 4 * ch + 2)).pevent 0x22 0 (pay [(20, 1, ch), (21, 1, region), (24, 8, u.addr)])

/-- A scrub write of an address is queued (R394). -/
def queueScrub (s : State) (c a : Nat) : State :=
  { s with dram := { s.dram with scrubs := s.dram.scrubs ++ [(c, a)] } }

/-- A corrected data bit: one anomaly of windowed source 1 or 2, and a scrub write (R394). -/
def dramCe (s : State) (c a : Nat) : State :=
  (((s.add (F.HMK_DRAM_ST_CE_DATA c) 1).count (0x4E0 + 4 * c)).srcAnomaly (1 + c)).queueScrub c a

/-- A check-bit error: no anomaly, a scrub write (R394). -/
def dramCheck (s : State) (c a : Nat) : State :=
  ((s.add (F.HMK_DRAM_ST_CHECK_ONLY c) 1).count (0x4E0 + 4 * c + 1)).queueScrub c a

/-- A DRAM read in error (R394), whatever it serves: a corrected word is counted and used as read, and what remains is the
uncorrectable one. -/
def dramRead (s : State) (e : Option DramErr) : State × Option DramErr :=
  match e with
  | some u =>
    let c := if u.chB then 1 else 0
    if u.cls = 1 then (s.dramCe c u.addr, none)
    else if u.cls = 2 then (s.dramCheck c u.addr, none)
    else (s, some u)
  | none => (s, none)

end State

/-- SCRUB_WRITE (R394): the oldest queued scrub of a channel writes the corrected word and check bits back. -/
def execScrubWrite (c : Nat) (s : State) : Host.Outcome State Fault Refusal :=
  .next (match s.dram.scrubs.find? (fun x => x.1 = c) with
    | some x => { s with dram := { s.dram with scrubs := s.dram.scrubs.erase x } }
    | none => s)

end Sys2Proof.Machine
end

