-- ==== Sys2Proof/Machine/Cmd.lean ====
section
/-!
DEFINITION. Sys2Proof/Machine/Cmd.lean: the commands of the rings as the blocks take and finish them (R371 to R375), and the
completion statuses.
-/

namespace Sys2Proof.Machine

/-! ## Completion statuses (R372) -/

abbrev cOk : Nat := 0
abbrev cBadOpcode : Nat := 1
abbrev cBadArgs : Nat := 2
abbrev cNotPermitted : Nat := 3
abbrev cQuenched : Nat := 4
abbrev cDmaErr : Nat := 5
abbrev cFlushed : Nat := 6
abbrev cLinkDown : Nat := 7
abbrev cTampered : Nat := 8
abbrev cUnavailable : Nat := 9
abbrev cUnprovisioned : Nat := 10
abbrev cBadSlot : Nat := 11
abbrev cOccupied : Nat := 12
abbrev cBadFormat : Nat := 13
abbrev cStaleEpoch : Nat := 14
abbrev cBadTag : Nat := 15
abbrev cProvisional : Nat := 16
abbrev cExpired : Nat := 17
abbrev cNotYet : Nat := 18
abbrev cQuota : Nat := 19
abbrev cEmpty : Nat := 20
abbrev cInUse : Nat := 21
abbrev cWrongDevice : Nat := 22
abbrev cAlreadyApplied : Nat := 23
abbrev cBadMac : Nat := 24
abbrev cReplay : Nat := 25
abbrev cCounterSpent : Nat := 26
abbrev cBadType : Nat := 27
abbrev cBadPolicy : Nat := 28
abbrev cAlreadyProvisioned : Nat := 29
abbrev cNtsOff : Nat := 30
abbrev cNoKey : Nat := 31
abbrev cBadCount : Nat := 32
abbrev cBadOp : Nat := 33
abbrev cNotFound : Nat := 34
abbrev cTableFull : Nat := 35
abbrev cRemoteOwner : Nat := 36

/-- n bytes of a command's argument area from byte i on. -/
def Cmd.arg (c : Cmd) (i n : Nat) : Nat := bitsOf c.d.args (8 * i) (8 * n)

/-- The command waits for its block: started, not a duplicate, not under way, not finished. -/
def Cmd.waits (c : Cmd) : Bool := c.started && !c.taken && c.done.isNone && c.dupOf.isNone

namespace State

/-- The oldest command of function fn with an opcode that waits for its block (R373): those whose completion is not written
were started first. -/
def cmdOf (s : State) (fn opcode : Nat) : Option Cmd :=
  ((s.fn fn).orphans ++ (s.fn fn).cmds).find? (fun c => c.waits && c.d.opcode = opcode)

/-- A block takes a command of function fn. -/
def takeCmd (s : State) (fn n : Nat) : State :=
  let f := s.fn fn
  let t (c : Cmd) : Cmd := if c.n = n then { c with taken := true } else c
  s.setFn fn { f with cmds := f.cmds.map t, orphans := f.orphans.map t }

/-- A command of function fn finishes with a status and a RESULT: its completion waits for its turn (R373), and a duplicate
refers to it (R375). One whose completion is not written is forgotten (R358). -/
def finish (s : State) (fn n status result : Nat) : State :=
  let f := s.fn fn
  s.setFn fn { f with
    cmds := f.cmds.map (fun c => if c.n = n ∨ c.dupOf = some n then { c with done := some (status, result) } else c)
    tags := f.tags.map (fun t => if t.n = n then { t with done := some (status, result) } else t)
    orphans := f.orphans.filter (fun c => c.n ≠ n) }

/-- The tenant that a function's commands act for: its own, 0 for the provider. -/
def cmdTenant (s : State) (fn : Nat) : Nat := if fn = 0 then 0 else s.recTenant fn

/-- n bytes written to host memory at an address. -/
def hostWrite (s : State) (fn addr n v : Nat) : State := s.emitOut (.hostWrite fn addr n v)

end State

end Sys2Proof.Machine
end

