-- ==== Sys2Proof/Machine/Kernel.lean ====
section
/-!
DEFINITION. Sys2Proof/Machine/Kernel.lean: the timescale kernel: state table, phase set, servo, proposals, steps, Anneals,
holdover and its oscillator (R151 to R176), and the end of provisional time (R48 to R51).
-/

namespace Sys2Proof.Machine

namespace State

/-! ## Moves of the core (R50, R64, R153, R165, R240) -/

/-- The span modulo which a reference's offsets are formed, 2^-16 ns; 0 for none (R494). -/
def refSpan (s : State) (r : Nat) : Int :=
  if r < 16 then (match s.get (F.REF_IN_CFG_KIND r) with | 1 => secQ | 2 => 2 * secQ | _ => 0)
  else if 24 ≤ r ∧ r < 28 then secQ else 0

/-- An offset brought into the range of R494. -/
def wrapOff (span o : Int) : Int := if span = 0 then o else (o + span / 2) % span - span / 2

/-- Stored offsets of the references follow a move of the core by d (2^-16 ns). A FREQ, SyncE or IRIGB source counts its
offsets from its own last stamp (R494), which a move leaves. -/
def shiftRefs (s : State) (d : Int) : State :=
  let move (r : Nat) (o : Int) : Int :=
    if r < 24 && s.refSpan r = 0 then o else wrapOff (s.refSpan r) (o + d)
  let refs := s.asy.refs.map (fun p =>
    (p.1, { p.2 with last := p.2.last.map (fun l => (move p.1 l.1, l.2.1 + (d / 65536).toNat, l.2.2))
                     accAt := p.2.accAt.map (fun t => t + (d / 65536).toNat)
                     absOff := p.2.absOff.map (fun o => o + d) }))
  let n := (d / 65536).toNat
  { s with asy := { s.asy with refs := refs }
           tsk := { s.tsk with base := s.tsk.base.map (fun p => (p.1, p.2 + d)), floorAt := s.tsk.floorAt + n, tagAt := s.tsk.tagAt.map (fun t => t + n),
                               datedIn := s.tsk.datedIn.map (fun p => (p.1, p.2.map (fun q => (q.1, q.2.1 + n, q.2.2)))) } }

/-- Every open gate is marked. -/
def markGates (s : State) (f : Gate → Gate) : State :=
  { s with tic := { s.tic with ch := s.tic.ch.map (fun p => (p.1, { p.2 with gate := p.2.gate.map f })) } }

/-- The core moves forward to reading `a` (2^-56 ns) in this cycle: the tick that this boundary begins ends at the first
whole millisecond at least 500,000 ns later (R50, R165), STEP_HOLD starts (R188), stored offsets follow, gates carry STEP
(R101). -/
def moveCore (s : State) (a : Nat) : State :=
  let d : Int := ((a / 2 ^ 40 : Nat) : Int) - s.q16
  let before := if s.tsk.stepHold = 0 then s.tsk.tebCalc else max s.tsk.tebBefore s.tsk.tebCalc
  let s := { s with time := { s.time with core := a, tickAt := tickAfter (ceilDiv a (2 ^ 56)) }
                    tsk := { s.tsk with stepHold := 2, tebBefore := before, jumped := true } }
  (s.shiftRefs d).markGates (fun g => { g with step := true })

/-- Instant b is later than instant a, both in 2^-56 ns, by signed difference of short time (R44, R50, R64). -/
def laterThan (a b : Nat) : Bool :=
  let d := sdiff (a / 2 ^ 56 % 2 ^ 64) (b / 2 ^ 56 % 2 ^ 64)
  decide (0 < d) || (d = 0 && decide (a % 2 ^ 56 < b % 2 ^ 56))

/-! ## Records (R51, R176) -/

/-- A TSK_CORR record with its trace record (R176). -/
def corrRecord (s : State) (kind clock src : Nat) (amount : Int) : State :=
  let p := pay [(20, 1, kind), (21, 1, clock), (22, 1, src), (24, 8, ofSigned 64 (satI 64 amount))]
  (s.pevent 9 0 p).trace 4 0 p

/-- A TSK_KSTATE record with its trace record (R176). -/
def kstateRecord (s : State) (old new act cause : Nat) : State :=
  let p := pay [(20, 1, old), (21, 1, new), (22, 1, act), (23, 1, cause),
    (24, 8, ofSigned 64 (satI 64 (roundRat (s.tsk.x * 65536))))]
  (s.pevent 8 0 p).trace 3 0 p

/-- The PROVISIONAL_END record: the core reads A already; P is the provisional reading (R51). -/
def provEndRecord (s : State) (p source : Nat) : State :=
  s.pevent 3 0 (pay [(20, 8, p / 2 ^ 56), (28, 2, p / 2 ^ 40), (30, 1, source)])

/-! ## Anneals (R166 to R168) -/

/-- An Anneal is accepted (R166): its rate is fixed, its whole amount enters R, and it starts with the tick that follows the one in
which it is accepted; a boundary accepts it in the tick that it begins (the example after R169: accepted at 21,616.300 s, started
at 21,616.301 s). -/
def acceptAnneal (s : State) (amount : Int) (clock src : Nat) : State :=
  let rate : Int := (s.get F.TSK_SLEW_MAX_RATE * 2 ^ 56 / 1000000000 : Nat)
  let s := { s with time := { s.time with
    annS := 0, annNext := if amount < 0 then -rate else rate, annFrom := s.tsk.bnd, annR := amount * 2 ^ 40, annAmt := amount, annClock := clock } }
  let s := (s.set F.TSK_STAT_ANNEAL 1).set F.TSK_ANNEAL_ST_ACTIVE 1
  let s := (s.set F.TSK_ANNEAL_ST_SRC src).set F.TSK_ANNEAL_ST_CANCELLED 0
  (s.count 0x305).corrRecord 2 clock (src - 1) amount

/-- The Anneal is no longer active. -/
def clearAnneal (s : State) : State :=
  let s := { s with time := { s.time with annS := 0, annNext := 0, annR := 0 } }
  ((s.set F.TSK_STAT_ANNEAL 0).set F.TSK_ANNEAL_ST_ACTIVE 0).set F.TSK_ANNEAL_ST_SRC 0

/-- R in 2^-16 ns, truncated toward zero (R176). -/
def remain16 (s : State) : Int := Int.tdiv s.time.annR (2 ^ 40)

/-- A move out of provisional time cancels an active Anneal (R168). Answers what the TSK_CORR record carries. -/
def cancelAnneal (s : State) : State × Option (Nat × Nat × Int) :=
  if s.on F.TSK_ANNEAL_ST_ACTIVE then
    let rec_ := (s.time.annClock, s.get F.TSK_ANNEAL_ST_SRC - 1, s.remain16)
    (((s.clearAnneal).set F.TSK_ANNEAL_ST_CANCELLED 1).count 0x306, some rec_)
  else (s, none)

/-! ## The end of provisional time (R48 to R51) -/

/-- The move from provisional reading P to absolute reading A (R50), with its PROVISIONAL_END record. Answers what an
ANNEAL_CANCELLED record carries. -/
def leaveProv (s : State) (a source : Nat) : State × Option (Nat × Nat × Int) :=
  let p := s.time.core
  let (s, c) := s.cancelAnneal
  let s := (s.moveCore a).set F.TSK_STAT_PROVISIONAL 0
  let s := s.forwardJump true (p / 2 ^ 56)
  (s.provEndRecord p source, c)

/-- Qualified references that carry absolute time (R48), those of the dated clocks first, in rank order. -/
def datedRefs (s : State) : List Nat :=
  let cs := sortKeys ([5, 6, 7].filterMap (fun c =>
    if s.on (F.ASY_CLK_ST_PH_OK c) then some (s.get (F.ASY_CLK_ST_RANK c), 0, 0, s.get (F.ASY_CLK_ST_PH_REF c)) else none))
  let first := (cs.map (fun k => k.2.2.2)).filter (fun r => 24 ≤ r && r ≤ 30)
  let rest := [24, 25, 26, 27, 28, 29, 30].filter (fun r => s.qualified r && !first.contains r)
  (first ++ rest).filter (fun r => (s.ref r).absOff.isSome)

/-- The absolute reading A that a dated reference gives the core now, 2^-56 ns since the epoch (R50). -/
def absReading (s : State) (r : Nat) : Option Int :=
  match (s.ref r).absOff with
  | some o => some ((s.time.core : Int) - o * 2 ^ 40)
  | none => none

/-- The first qualified dated reference whose A lies after P ends provisional time; each one whose A does not raises one
PHASE_JUMP until its A has been ahead again (R50). Answers the reference that ended it. -/
def tryLeave : List Nat → State → State × Option Nat × Option (Nat × Nat × Int)
  | [], s => (s, none, none)
  | r :: t, s =>
    match s.absReading r with
    | some a =>
      if 0 ≤ a && laterThan s.time.core a.toNat then
        let (s, c) := s.leaveProv a.toNat r
        (s, some r, c)
      else if s.tsk.behind.contains r then tryLeave t s
      else tryLeave t ({ s with tsk := { s.tsk with behind := r :: s.tsk.behind } }.anomaly r 0)
    | none => tryLeave t s

/-! ## State table (R154, R170, R173) -/

/-- The state that the conditions give (R154). DEDUCED: while engine 0 is quenched it is HOLDOVER in provisional time and under
MODE = MANUAL too, since R173 excepts neither; with the quench gone, MODE and the clocks decide again. -/
def kernelNext (s : State) : Nat :=
  if s.engQuenched 8 then 3
  else if s.get F.TSK_MODE_CFG_MODE = 2 then 5
  else if s.prov then
    if [1, 2, 3, 4, 5, 6, 7].any (fun c => s.on (F.ASY_CLK_ST_FR_OK c) || s.on (F.ASY_CLK_ST_PH_OK c)) then 1 else 0
  else if s.get F.TSK_MODE_CFG_MODE = 1 then 4
  else if [5, 6, 7].any (fun c => s.on (F.ASY_CLK_ST_PH_OK c)) then 2 else 3

/-- HOLD_ACT by the first case that applies (R170, R173); 0 outside HOLDOVER. -/
def holdAct (s : State) (st : Nat) : Nat :=
  if st ≠ 3 then 0
  else if s.engQuenched 8 then 1
  else
    let m := s.get F.TSK_HOLD_CFG_HOLD_MODE
    if m = 2 && s.anchor.isSome then 3
    else if (m = 1 || m = 2) && s.on F.TSK_STAT_MODEL_OK && !s.engQuenched 11 then 2
    else 1

/-- Mean of FREQ_ADJ over the last HOLD_AVG seconds (R170). -/
def meanFreq (s : State) : Int :=
  let l := s.tsk.fHist.take (max 1 (s.get F.TSK_HOLD_CFG_HOLD_AVG * 1000))
  if l = [] then s.getI F.TSK_FREQ_ADJ_FREQ_ADJ
  else roundRat ((l.foldl (fun a b => a + b) 0 : Int) / (l.length : Rat))

/-- The temperature terms of R170, 2^-56: held at their last values while TEMP_OK is 0 (R171). -/
def tempTerm (s : State) : Rat :=
  if s.on F.TSK_HOLD_ST_TEMP_OK then
    let dt : Rat := ((s.getI F.TSK_HOLD_ST_TEMP : Rat) - (s.getI F.TSK_HOLD_TC_T0 : Rat)) / 16
    (s.getI F.TSK_HOLD_TC_TC1 : Rat) * dt + (s.getI F.TSK_HOLD_TC_TC2 : Rat) * dt * dt / 256
  else s.tsk.tTerm

/-- The model term of R170 at a tick, 2^-56. -/
def modelTerm (s : State) : Rat :=
  (s.tsk.d0 : Rat) * ticksSec (s.tsk.bnd - s.tsk.holdTick) / 256 + s.tempTerm

/-- The temperature is no longer known: its terms are held at the values they last had (R171, R173). -/
def tempLost (s : State) : State :=
  ({ s with tsk := { s.tsk with tTerm := s.tempTerm } } : State).set F.TSK_HOLD_ST_TEMP_OK 0

/-- FREQ_ADJ's largest magnitude (R152). -/
def freqMax : Int := 7205759403792

/-- Engine 3 recomputes the MODELLED frequency (R170). -/
def runModel (s : State) : State :=
  let f := clampI (-freqMax) freqMax (s.getI F.TSK_HOLD_ST_F0 - roundRat s.modelTerm)
  { s with tsk := { s.tsk with tTerm := s.tempTerm, modelF := f, modelTick := s.tsk.bnd } }

/-- The frozen estimates of the free clocks at HOLDOVER entry (R170). -/
def freezeClocks (s : State) : List (Nat × Frozen) :=
  [1, 2, 3, 4].map (fun c => (c, ⟨(s.getI (F.TSK_CLK_ST_XHAT c) : Rat) / 65536, s.getI (F.TSK_CLK_ST_FREQ c),
    s.getI (F.TSK_CLK_ST_DRIFT c), s.tsk.bnd⟩))

/-- Entry of HOLDOVER (R170, R172, R185). `f0` is the held frequency. -/
def enterHold (s : State) (f0 : Int) (tebEntry : Nat) : State :=
  let s := ((s.set F.TSK_HOLD_ST_ENTRY s.short).set F.TSK_HOLD_ST_DURATION 0).setI F.TSK_HOLD_ST_F0 f0
  let s := s.set (F.TSK_TEB_TERM_VALUE 2) tebEntry
  let s := { s with tsk := { s.tsk with
    d0 := s.getI (F.TSK_CLK_ST_DRIFT 0), holdTick := s.tsk.bnd, holdCode := s.get F.TSK_EFC_ST_CODE
    frozen := s.freezeClocks, gHeld := 0, gTick := s.tsk.bnd } }
  s.runModel

/-- The state runs the servo (R159). -/
def servoState (st act : Nat) : Bool := st = 1 || st = 2 || st = 4 || (st = 3 && act = 3)

/-- HOLD_ACT and anchor in force, one number. -/
def holdKey (s : State) (act : Nat) : Nat := 16 * act + (if act = 3 then s.anchor.getD 0 else 0)

/-- Every reference's prediction may be re-based once (R162), or none. -/
def setRebased (s : State) (b : Bool) : State :=
  { s with asy := { s.asy with refs := s.asy.refs.map (fun p => (p.1, { p.2 with rebased := b })) } }

/-- A code written to the DAC (R172): one frame on EFC_CS_L0, PREFIX then CODE. -/
def writeCode (s : State) (code : Nat) : State :=
  let n := s.get F.TSK_EFC_CFG_NBITS
  ((s.set F.TSK_EFC_ST_CODE code).emitOut (.spi 0 (8 + n) (s.get F.TSK_EFC_CFG_PREFIX * 2 ^ n + code % 2 ^ n))).count 0x308

/-- The code of MODE = HOLD outside holdover: CODE_INIT, while engine 3 can write it (R172, R173). -/
def holdInit (s : State) : State :=
  if s.get F.TSK_EFC_CFG_MODE = 2 && s.get F.TSK_STAT_STATE ≠ 3 && !s.engQuenched 11 &&
      s.get F.TSK_EFC_ST_CODE ≠ s.get F.TSK_EFC_LIM_CODE_INIT then s.writeCode (s.get F.TSK_EFC_LIM_CODE_INIT) else s

/-- The states in which TRACK moves the frequency into the DAC (R172). -/
def tracks (st : Nat) : Bool := st = 1 || st = 2 || st = 4

/-- The sum of R172's mean begins anew. -/
def efcRestart (s : State) : State := { s with tsk := { s.tsk with efcSum := 0, efcTicks := 0 } }

/-- The kernel moves to a state and HOLD_ACT: what each entry and exit does (R154, R155, R162, R170, R172, R178, R185, R186).
`moved` says that provisional time ended in this cycle, from when the bound of a HOLDOVER that began before it counts anew. -/
def enterState (s : State) (new act tebEntry : Nat) (moved : Bool) : State :=
  let old := s.get F.TSK_STAT_STATE
  let oact := s.get F.TSK_STAT_HOLD_ACT
  let s := if old = 2 && new ≠ 2 then
      { s with tsk := { s.tsk with lockedRun := 0, fMean := some s.meanFreq } }.setRebased false
    else if old = 1 && new ≠ 1 && s.tsk.fMean.isNone then { s with tsk := { s.tsk with fMean := some s.meanFreq } }
    else s
  let s := if new = 2 then s.setRebased true else s
  let s := if tracks old ≠ tracks new then s.efcRestart else s
  let live := s.getI F.TSK_FREQ_ADJ_FREQ_ADJ
  let s := if old = 1 && new = 0 then s.setI F.TSK_FREQ_ADJ_FREQ_ADJ s.meanFreq else s
  let s := if old = 3 && new ≠ 3 then
      { s with tsk := { s.tsk with h := s.get F.TSK_TEB_HOLD_B_HOLD } }.set F.TSK_HOLD_ST_DURATION 0 else s
  let s := if new = 3 && (old ≠ 3 || moved) then s.enterHold (s.tsk.fMean.getD live) tebEntry else s
  let s := if new = 1 && old ≠ 1 then
      { s with tsk := { s.tsk with base := [] }
               asy := { s.asy with refs := s.asy.refs.map (fun p => (p.1, { p.2 with gphase := 0 })) } } else s
  let s := if new = 5 && (old ≠ 5 || moved) then
      { s with tsk := { s.tsk with manTeb := if moved then tebEntry else s.coreTeb, manTick := s.tsk.bnd } }.set F.TSK_STAT_MODEL_OK 0
    else s
  let s := if servoState new act && (new ≠ old || !servoState old oact) then
      { s with tsk := { s.tsk with load := true } } else s
  -- the growth held so far is kept at a change of HOLD_ACT or of the anchor (R186)
  let key := s.holdKey act
  let s := if new = 3 then
      (if old = 3 && key ≠ s.tsk.gKey then
        { s with tsk := { s.tsk with gHeld := s.get F.TSK_TEB_HOLD_B_HOLD, gTick := s.tsk.bnd, gKey := key } }
      else { s with tsk := { s.tsk with gKey := key } })
    else s
  let s := (s.set F.TSK_STAT_STATE new).set F.TSK_STAT_HOLD_ACT act
  -- outside holdover, MODE = HOLD keeps the code at CODE_INIT (R172)
  if old = 3 && new ≠ 3 then s.holdInit else s

/-- Cause of a change at a boundary (R176): provisional end, quench or release of engine 0 or 3, else Assay states. -/
def changeCause (s : State) (moved : Bool) : Nat :=
  let q0 := s.engQuenched 8
  let q3 := s.engQuenched 11
  if moved then 4
  else if (q0 && !s.tsk.seen0) || (q3 && !s.tsk.seen3) then 2
  else if (!q0 && s.tsk.seen0) || (!q3 && s.tsk.seen3) then 3
  else 0

/-- The state table at a boundary (R154, R170). Answers what the TSK_KSTATE record of a change carries. -/
def evalState (s : State) (moved : Bool) (tebEntry : Nat) : State × Option (Nat × Nat × Nat × Nat) :=
  let old := s.get F.TSK_STAT_STATE
  let oact := s.get F.TSK_STAT_HOLD_ACT
  let cause := s.changeCause moved
  let s := { s with tsk := { s.tsk with seen0 := s.engQuenched 8, seen3 := s.engQuenched 11 } }
  let s := s.setB F.TSK_STAT_KFAULT (s.engQuenched 8 || s.on (F.ASY_SRC_ST_FAULT 0))
  let s := if s.engQuenched 11 && s.on F.TSK_HOLD_ST_TEMP_OK then s.tempLost else s
  let new := s.kernelNext
  let act := s.holdAct new
  let s := s.enterState new act tebEntry moved
  (s, if new = old && act = oact then none else some (old, new, act, cause))

/-! ## Phase set, weights and x (R157 to R159) -/

/-- Members of the phase set with their raw weights. -/
def phaseMembers (s : State) : List (Nat × Rat) :=
  let st := s.get F.TSK_STAT_STATE
  if st = 4 || (st = 3 && s.get F.TSK_STAT_HOLD_ACT = 3) then
    match s.anchor with | some c => [(c, 1)] | none => []
  else if st = 2 || st = 1 then
    ([1, 2, 3, 4, 5, 6, 7].filter (fun c => s.on (F.ASY_CLK_ST_PH_OK c) || (st = 1 && s.on (F.ASY_CLK_ST_FR_OK c)))).map
      (fun c =>
        let sg : Rat := (max 1 (s.get (F.TSK_CLK_ST_SIGMA c)) : Nat)
        (c, (s.get (F.ASY_CLK_ST_WEIGHT c) : Rat) / 256 / (sg * sg)))
  else []

/-- Sum of weights. -/
def wSum (l : List (Nat × Rat)) : Rat := l.foldl (fun a p => a + p.2) 0

/-- Weights normalised to sum 1; equal ones where all are 0. -/
def normalise (l : List (Nat × Rat)) : List (Nat × Rat) :=
  if wSum l = 0 then l.map (fun p => (p.1, 1 / (l.length : Rat))) else l.map (fun p => (p.1, p.2 / wSum l))

/-- One round of the cap: members above it are held at it, the excess is shared among the others in proportion (R157). -/
def capRound (cap : Rat) (l : List (Nat × Rat)) : List (Nat × Rat) :=
  let top := l.filter (fun p => cap ≤ p.2)
  let rest := l.filter (fun p => p.2 < cap)
  if top.all (fun p => p.2 = cap) || wSum rest = 0 then l
  else
    let share := (1 - cap * (top.length : Rat)) / wSum rest
    l.map (fun p => if cap ≤ p.2 then (p.1, cap) else (p.1, p.2 * share))

/-- Rounds of the cap. -/
def capRounds (cap : Rat) : Nat → List (Nat × Rat) → List (Nat × Rat)
  | 0, l => l
  | n + 1, l => capRounds cap n (capRound cap l)

/-- Weights held to 1/65,536, the rounding remainder on the largest (R157): 65,536 for a single member. -/
def heldWeights (cap : Nat) (l : List (Nat × Rat)) : List (Nat × Nat) :=
  let n := normalise l
  let c := if l.length ≤ 1 ∨ l.length * cap < 256 then n else capRounds ((cap : Rat) / 256) 8 n
  let w := c.map (fun p => (p.1, (p.2 * 65536).floor.toNat))
  let sum := w.foldl (fun a p => a + p.2) 0
  let best := w.foldl (fun (b : Nat × Nat) p => if b.2 < p.2 || b.1 = 0 then p else b) (0, 0)
  w.map (fun p => if p.1 = best.1 then (p.1, p.2 + 65536 - sum) else p)

/-- The measured offset of a clock, ns (R158), in PROV_LOCK relative to its first since entry (R159); none where the clock
gives no phase. -/
def offsetNs (s : State) (c : Nat) : Option Rat :=
  let st := s.get F.TSK_STAT_STATE
  let p := s.get (F.ASY_CLK_ST_PH_REF c)
  if p ≠ 63 then
    if (s.ref p).last.isNone then none
    else if st = 1 then
      (alGet s.tsk.base c).map (fun b => s.clockOffset c s.ns - (b : Rat) / 65536)
    else some (s.clockOffset c s.ns)
  else if st = 1 then some (s.ref (s.get (F.ASY_CLK_ST_FR_REF c))).gphase
  else none

/-- The pair link: the link with PAIR_LINK set. -/
def pairLink (s : State) : Option Nat := [0, 1, 2, 3].find? (fun l => s.on (F.GFL_CFG_PAIR_LINK l))

/-- OFFSET of the pair link, own core minus peer core, ns (R405, R434). -/
def pairOffset (s : State) : Rat :=
  match s.pairLink with
  | some l => if s.on (F.GFL_TT_VALID l) then (s.getI (F.GFL_TT_OFFSET l) : Rat) / 65536 else 0
  | none => 0

/-- The phase set is formed and x computed (R157, R159). -/
def formPhase (s : State) : State :=
  let st := s.get F.TSK_STAT_STATE
  let anchored := st = 4 || (st = 3 && s.get F.TSK_STAT_HOLD_ACT = 3)
  let w := heldWeights (s.get F.TSK_ENS_CFG_W_CAP) s.phaseMembers
  let s := [1, 2, 3, 4, 5, 6, 7].foldl (fun s c =>
    let v := alGet w c
    let s := (s.set (F.TSK_CLK_ST_WEIGHT c) (v.getD 0)).setB (F.TSK_CLK_ST_IN_PHASE c) v.isSome
    s.setB (F.TSK_CLK_ST_ANCHORED c) (v.isSome && anchored)) s
  let gives := w.filterMap (fun p => (s.offsetNs p.1).map (fun m => ((p.2 : Rat), m + s.xhatNs p.1)))
  let den : Rat := gives.foldl (fun a p => a + p.1) 0
  let x : Rat := if den = 0 then 0 else gives.foldl (fun a p => a + p.1 * p.2) 0 / den
  -- a standby follows the pair link's OFFSET (R434)
  let x := if s.get F.PAIR_STAT_ROLE = 1 then s.pairOffset else x
  let s := ({ s with tsk := { s.tsk with x := x } } : State).setB F.ASY_GNSS_ST_SPOOF_ARMED s.spoofArmed
  if decide (|x| ≤ (s.get F.TSK_CAPTURE_CAPTURE : Rat)) then s.set F.TSK_STAT_HELD_REFUSED 0 else s

/-! ## Proposals (R163 to R165) -/

/-- Deciding clock of a correction; 255 where none is named (R164, R176). -/
def decidingClock (s : State) : Nat :=
  if s.get F.TSK_STAT_STATE = 2 then s.topDated.getD 255 else s.anchor.getD 255

/-- An armed step by c, 2^-16 ns (R165). -/
def armedStep (s : State) (c : Int) (clock : Nat) : State :=
  let t0 := s.ns
  let s := (s.moveCore (s.time.core + c.toNat * 2 ^ 40)).forwardJump false t0
  let s := { s with tsk := { s.tsk with arm := none, stepTick := some (s.time.tickNo + 1) } }
  let s := (s.set F.TSK_STAT_ARMED 0).set F.TSK_STEP_STAT_STATE 2
  let s := (s.setI F.TSK_STEP_STAT_LAST_STEP c).set F.TSK_STEP_STAT_LAST_AT s.short
  let s := (s.formPhase).set F.TSK_STAT_HELD_REFUSED 0
  (s.count 0x304).corrRecord 1 clock 0 c

/-- A refused proposal (R164). -/
def refuseJump (s : State) (c : Int) (clock ref : Nat) : State :=
  let s := (s.addSat F.TSK_JUMP_ST_COUNT 1).setI F.TSK_JUMP_LAST_C c
  let s := (s.set F.TSK_STAT_HELD_REFUSED 1).count 0x303
  (s.corrRecord 0 clock 0 c).anomaly ref 0

/-- The kernel may propose (R163). -/
def mayPropose (s : State) : Bool :=
  let st := s.get F.TSK_STAT_STATE
  (st = 2 || st = 4 || (st = 3 && s.get F.TSK_STAT_HOLD_ACT = 3)) &&
    decide ((s.get F.TSK_CAPTURE_CAPTURE : Rat) < |s.tsk.x|) && !s.on F.TSK_ANNEAL_ST_ACTIVE &&
    (match s.tsk.lastProp with
    | some n => decide (n + 1000 ≤ s.time.tickNo)
    | none => true)

/-- The proposed correction (R163). -/
def proposed (s : State) : Int := roundRat (-(s.tsk.x * 65536))

/-- The live arm takes the correction (R163). -/
def armTakes (s : State) (c : Int) : Bool :=
  match s.tsk.arm with
  | some (mag, tol, dl) => decide (0 < c) && decide ((c - mag * 65536).natAbs ≤ tol * 65536) && decide (0 ≤ sdiff s.short dl)
  | none => false

/-- A proposal and its decision (R163). -/
def propose (s : State) : State :=
  if s.mayPropose then
    let c := s.proposed
    let clock := s.decidingClock
    let ref := s.decidingRef
    let h := s.tsk.h
    let s := { s with tsk := { s.tsk with lastProp := some s.time.tickNo, h := 0 } }.count 0x302
    if s.armTakes c then s.armedStep c clock
    else
      let s := if decide (0 < c) && s.tsk.arm.isSome then s.addSat F.TSK_STEP_STAT_MISMATCH 1 else s
      if max (s.get F.TSK_STEP_LIMIT_LIMIT * 1000) h * 65536 < c.natAbs * 1000 then s.refuseJump c clock ref
      else (s.set F.TSK_STAT_HELD_REFUSED 0).acceptAnneal c clock 1
  else s

/-! ## Frequency (R152, R159, R170) -/

/-- π, to 36 places. -/
def piQ : Rat := 3141592653589793238462643383279502884 / 10 ^ 36

/-- Natural frequency of the loop, rad/s. -/
def loopWn (s : State) : Rat := 2 * piQ * (s.get F.TSK_LOOP_CFG_BW_UHZ : Rat) / 1000000

/-- The servo's input, clamped to CAPTURE (R159). -/
def servoIn (s : State) : Rat :=
  let cap : Rat := s.get F.TSK_CAPTURE_CAPTURE
  let v := s.tsk.x + (s.time.annR : Rat) / 2 ^ 56
  if cap < v then cap else if v < -cap then -cap else v

/-- The hardware servo at a boundary (R152, R155, R159); held after a refusal (R164). -/
def servo (s : State) : State :=
  if s.on F.TSK_STAT_HELD_REFUSED then s
  else
    let xs := s.servoIn
    let wn := s.loopWn
    let prop := 2 * ((s.get F.TSK_LOOP_CFG_DAMP : Rat) / 64) * wn * xs
    let i :=
      if s.tsk.load then -((s.getI F.TSK_FREQ_ADJ_FREQ_ADJ : Rat) * 1000000000 / 2 ^ 56) - prop
      else if s.on F.TSK_STAT_FREQ_RAIL then s.tsk.integ
      else s.tsk.integ + wn * wn * xs / 1000
    let f := roundRat (-(prop + i) * 2 ^ 56 / 1000000000)
    let s := { s with tsk := { s.tsk with integ := i, xsLast := xs, load := false } }
    let s := s.setB F.TSK_STAT_FREQ_RAIL (decide (freqMax < f.natAbs))
    s.setI F.TSK_FREQ_ADJ_FREQ_ADJ (clampI (-freqMax) freqMax f)

/-- What drives FREQ_ADJ in the tick that begins. -/
def driveFreq (s : State) : State :=
  let st := s.get F.TSK_STAT_STATE
  let act := s.get F.TSK_STAT_HOLD_ACT
  if servoState st act then s.servo
  else
    let s := s.set F.TSK_STAT_FREQ_RAIL 0
    if st = 3 then
      -- the model goes to the DAC instead, and what the DAC cannot take stays in FREQ_ADJ (R172)
      let f0 := s.getI F.TSK_HOLD_ST_F0
      s.setI F.TSK_FREQ_ADJ_FREQ_ADJ
        (if act ≠ 2 then f0
        else if s.get F.TSK_EFC_CFG_MODE = 0 then s.tsk.modelF
        else if s.on F.TSK_EFC_ST_RAIL then
          let applied : Rat := ((s.tsk.holdCode : Int) - s.get F.TSK_EFC_ST_CODE) * s.getI F.TSK_EFC_GAIN_GAIN / 256
          clampI (-freqMax) freqMax (s.tsk.modelF + roundRat applied)
        else f0)
    else s

/-- FREQ_ADJ for the tick that begins, with what the kernel counts over its ticks (R170, R172). -/
def drive (s : State) : State :=
  let st := s.get F.TSK_STAT_STATE
  let s := s.driveFreq
  let f := s.getI F.TSK_FREQ_ADJ_FREQ_ADJ
  let s := { s with tsk := { s.tsk with
    fHist := (f :: s.tsk.fHist).take 255000
    lockedRun := if st = 2 then s.tsk.lockedRun + 1 else 0
    efcSum := if s.get F.TSK_EFC_CFG_MODE = 1 && tracks st then s.tsk.efcSum + f else 0
    efcTicks := if s.get F.TSK_EFC_CFG_MODE = 0 then 0 else s.tsk.efcTicks + 1 } }
  let s := if st = 3 then
      s.set F.TSK_HOLD_ST_DURATION ((s.tsk.bnd - s.tsk.holdTick) / 1000) else s
  if s.on F.TSK_STAT_FREQ_RAIL then s.count 0x307 else s

/-- Engine 0 updates the clock states (R156): free values of its program. -/
def ensemble (s : State) : State :=
  [0, 1, 2, 3, 4, 5, 6, 7].foldl (fun s c =>
    let s := s.setB (F.TSK_CLK_ST_DATED c) (decide (5 ≤ c))
    if s.engQuenched 8 then s.addSat (F.TSK_CLK_ST_TICKS c) 1
    else
      let d := s.draws
      let s := (s.setI (F.TSK_CLK_ST_XHAT c) (satI 64 (Config.estPhase d c))).setI (F.TSK_CLK_ST_FREQ c)
        (satI 64 (Config.estFreq d c))
      let s := (s.setI (F.TSK_CLK_ST_DRIFT c) (satI 32 (Config.estDrift d c))).set (F.TSK_CLK_ST_SIGMA c)
        (satN 32 (Config.estSigma d c))
      (s.set (F.TSK_CLK_ST_TICKS c) 0).draw) s

/-! ## The boundary -/

/-- The end of provisional time at a boundary, if a qualified dated reference gives it (R48 to R51); a pending date set
then completes with NOT_PROVISIONAL (R49). DESIGN CHOICE: one that still waits for its marking edge, and so would not complete in
this tick, ends with NOT_PROVISIONAL too: no date can be loaded any more. -/
def boundaryProv (s : State) : State × Bool × Nat × Option (Nat × Nat × Int) :=
  if s.prov then
    let l := s.datedRefs
    let s := { s with tsk := { s.tsk with behind := s.tsk.behind.filter l.contains } }
    match tryLeave l s with
    | (s, some r, c) =>
      let s := if s.tsk.date.isSome then
          ({ s with tsk := { s.tsk with date := none } }.set F.SYS_DATE_STAT_PENDING 0).set F.SYS_DATE_STAT_CODE 3 else s
      (({ s with tsk := { s.tsk with todRef := some r } } : State).holdTag r, true, bNorm (s.ref r).qBound, c)
    | (s, none, c) => (s, false, s.coreTeb, c)
  else (s, false, s.coreTeb, none)

/-- The floor of a takeover ends when the kernel is LOCKED with a phase set measured since (R190). -/
def floorEnds (s : State) : State :=
  if s.tsk.floor.isSome && s.get F.TSK_STAT_STATE = 2 && s.phaseSet ≠ [] && s.phaseSet.all (fun c =>
      match (s.ref (s.get (F.ASY_CLK_ST_PH_REF c))).last with
      | some (_, at_, _) => decide (s.tsk.floorAt < at_)
      | none => false) then
    { s with tsk := { s.tsk with floor := none } }
  else s

/-- The loss of lock at a boundary of reading `t0` ns before any move (R203): the bound is held unbounded from the first boundary
after the loss to the first one at least 1 s after relock. -/
def lolBoundary (s : State) (t0 : Nat) : State :=
  let done := match s.tsk.lolUntil with
    | some t => decide (t ≤ t0)
    | none => true
  if s.tsk.lol then { s with tsk := { s.tsk with lolOn := true } }
  else if done then { s with tsk := { s.tsk with lolUntil := none, lolOn := false } }
  else { s with tsk := { s.tsk with lolOn := true } }

/-- TEB_HOLD and the bound at a boundary, with the tag that a later holdover keeps (R177, R186, R197, R200). -/
def boundaryTeb (s : State) : State :=
  let st := s.get F.TSK_STAT_STATE
  let s := ({ s with tsk := { s.tsk with bndNs := s.ns } } : State).set F.TSK_TEB_HOLD_B_HOLD (if st = 3 then s.bHold else 0)
  let s := s.recomputeTeb
  (if st = 2 || st = 4 then s.holdTag s.decidingRef else s).boundAlarm

/-- The kernel's work at a boundary, after Assay's evaluation (R154, R177): provisional end, state table, phase set,
proposals, servo, ensemble, bound. -/
def kernelTick (s : State) : State :=
  let t0 := s.ns
  let s := { s with tsk := { s.tsk with bnd := s.time.tickNo + 1, stepHold := s.tsk.stepHold - 1, jumped := false } }
  let (s, moved, teb, cancel) := s.boundaryProv
  let (s, k) := s.evalState moved teb
  let s := s.formPhase
  let s := match k with
    | some (o, n, a, c) => s.kstateRecord o n a c
    | none => s
  let s := s.propose
  let s := match cancel with
    | some (clock, src, r) => s.corrRecord 4 clock src r
    | none => s
  ((s.drive.ensemble.floorEnds).lolBoundary t0).boundaryTeb

/-- The next tick begins (R36, R50): an Anneal accepted in a tick that has ended starts (R166). -/
def beginTick (s : State) (bound : Nat) : State :=
  let t := s.time
  let start := t.annNext ≠ 0 && t.annFrom ≤ t.tickNo
  let s := if start then s.markGates (fun g => { g with slew := true }) else s
  { s with time := { t with
    tickNo := t.tickNo + 1, tickCyc := t.cyc, tickNs := bound
    annS := if start then t.annNext else t.annS, annNext := if start then 0 else t.annNext } }

/-- Each replica that differs from the core is counted, judged as an anomaly of source 0, and reloaded (R23). -/
def replicaCheck (s : State) : State :=
  let n := (s.time.reps.filter (fun p => p.2 ≠ 0)).length
  (List.range n).foldl (fun (s : State) _ => (s.count 0x301).srcAnomaly 0) { s with time := { s.time with reps := [] } }

/-! ## Strobe effects on the kernel (R152, R154, R167, R169) -/

/-- TSK_STEP_ARM at a strobe with ARM = 1 (R169): live, or refused by range or while an arm is live. Answers whether it was
accepted. -/
def armStep (s : State) (mag tol dl : Nat) : State × Bool :=
  let d := sdiff s.short dl
  if s.prov || mag = 0 || mag ≤ tol || d ≤ 0 || 2 ^ 62 ≤ d then (s.set F.TSK_STEP_STAT_STATE 5, false)
  else if s.tsk.arm.isSome then (s.set F.TSK_STEP_STAT_STATE 6, false)
  else
    ((({ s with tsk := { s.tsk with arm := some (mag, tol, dl) } }.set F.TSK_STAT_ARMED 1).set F.TSK_STEP_STAT_STATE 1).set
      F.TSK_STEP_STAT_MISMATCH 0, true)

/-- DISARM = 1 at a strobe (R169). -/
def disarmStep (s : State) : State :=
  if s.tsk.arm.isSome then
    ({ s with tsk := { s.tsk with arm := none } }.set F.TSK_STAT_ARMED 0).set F.TSK_STEP_STAT_STATE 4
  else s

/-- TSK_ANNEAL_CMD at a strobe with GO = 1 (R167). Answers whether it was accepted. -/
def annealCommand (s : State) (amount : Int) : State × Bool :=
  if s.on F.TSK_ANNEAL_ST_ACTIVE || amount = 0 || 2 ^ 46 < amount.natAbs then (s.set F.TSK_ANNEAL_ST_CMD_REFUSED 1, false)
  else ((s.set F.TSK_ANNEAL_ST_CMD_REFUSED 0).acceptAnneal amount 255 2, true)

/-- A strobe makes a new MODE live (R154): the state changes in its cycle, with the record of R176, cause 1. -/
def modeStrobe (s : State) : State :=
  let old := s.get F.TSK_STAT_STATE
  let oact := s.get F.TSK_STAT_HOLD_ACT
  let new := s.kernelNext
  let act := s.holdAct new
  let s := (s.enterState new act s.coreTeb false).formPhase
  if new = old && act = oact then s else s.kstateRecord old new act 1

/-- In MANUAL, FREQ_ADJ takes FREQ_MAN at each strobe (R152). -/
def manualStrobe (s : State) : State :=
  if s.get F.TSK_STAT_STATE = 5 then s.setI F.TSK_FREQ_ADJ_FREQ_ADJ (s.getI F.TSK_FREQ_MAN_FREQ_MAN) else s

/-! ## The oscillator (R172) -/

/-- TSK_EFC_CFG goes live (R172): a change of MODE from OFF writes CODE_INIT, HOLD keeps the code there, and the mean of TRACK begins
anew. -/
def efcLive (s : State) (was : Nat) : State :=
  let mode := s.get F.TSK_EFC_CFG_MODE
  if mode = was then s
  else if was = 0 then s.efcRestart.writeCode (s.get F.TSK_EFC_LIM_CODE_INIT)
  else s.efcRestart.holdInit

/-- A code held within CODE_MIN to CODE_MAX, with EFC_RAIL, written (R172). Answers the code. -/
def writeClamped (s : State) (code : Int) : State × Int :=
  let lo : Int := s.get F.TSK_EFC_LIM_CODE_MIN
  let hi : Int := s.get F.TSK_EFC_LIM_CODE_MAX
  let c := clampI lo hi code
  let rail := c ≠ code
  let s := (s.setB F.TSK_EFC_ST_RAIL rail).setB F.TSK_STAT_EFC_RAIL rail
  ((if rail then s.count 0x309 else s).writeCode c.toNat, c)

/-- The code step of TRACK (R172): the mean FREQ_ADJ of the period in codes, limited to 1 × 10^-11 of the oscillator. -/
def trackStep (s : State) : Int :=
  let g := s.getI F.TSK_EFC_GAIN_GAIN
  if g = 0 || s.tsk.efcTicks = 0 then 0
  else
    let mean : Rat := (s.tsk.efcSum : Rat) / (s.tsk.efcTicks : Rat)
    let lim : Int := ((2 ^ 64 / 10 ^ 11 : Rat) / (g.natAbs : Rat)).floor
    clampI (-lim) lim (roundRat (mean * 256 / (g : Rat)))

end State

/-- ANNEAL_END (R166): the Anneal's last cycle, in which
only the remainder is applied; it ends with a TSK_CORR record of the whole amount. -/
def execAnnealEnd (s : State) : Host.Outcome State Fault Refusal :=
  .next (
    if s.time.running && s.on F.TSK_ANNEAL_ST_ACTIVE && s.time.annS ≠ 0 then
      let k := ceilDiv s.time.annR.natAbs s.time.annS.natAbs
      let src := s.get F.TSK_ANNEAL_ST_SRC
      let s := (s.advance k).clearAnneal
      s.corrRecord 3 s.time.annClock (src - 1) s.time.annAmt
    else s)

/-- ARM_EXPIRY (R169): a live arm at a boundary later than its DEADLINE. -/
def execArmExpiry (s : State) : Host.Outcome State Fault Refusal :=
  .next (match s.tsk.arm with
    | some (mag, _, dl) =>
      if decide (0 < sdiff dl (s.time.tickNs % 2 ^ 64)) then
        let s := ({ s with tsk := { s.tsk with arm := none } }.set F.TSK_STAT_ARMED 0).set F.TSK_STEP_STAT_STATE 3
        s.corrRecord 5 255 0 (mag * 65536)
      else s
    | none => s)

/-- HOLD_MODEL_UPDATE (R170): engine 3 recomputes the MODELLED frequency, once a second of HOLDOVER. -/
def execHoldModelUpdate (s : State) : Host.Outcome State Fault Refusal :=
  .next (
    if s.get F.TSK_STAT_STATE = 3 && !s.engQuenched 11 && decide (s.tsk.modelTick + 1000 ≤ s.tsk.bnd) then s.runModel
    else s)

/-- EFC_TRANSFER (R172): at the end of a PERIOD, engine 3 writes a new DAC code. In TRACK the mean FREQ_ADJ moves into the
DAC and the integrator takes the same amount; in HOLDOVER the model term goes to the DAC. -/
def execEfcTransfer (s : State) : Host.Outcome State Fault Refusal :=
  .next (
    let mode := s.get F.TSK_EFC_CFG_MODE
    let st := s.get F.TSK_STAT_STATE
    let g := s.getI F.TSK_EFC_GAIN_GAIN
    if mode ≠ 0 && !s.engQuenched 11 && decide (s.get F.TSK_EFC_CFG_PERIOD * 1000 ≤ s.tsk.efcTicks) then
      let d := s.trackStep
      let cur := s.get F.TSK_EFC_ST_CODE
      let s := { s with tsk := { s.tsk with efcSum := 0, efcTicks := 0 } }
      if st = 3 then
        let term := if s.get F.TSK_STAT_HOLD_ACT = 2 then s.modelTerm else 0
        let s := s.runModel
        (s.writeClamped ((s.tsk.holdCode : Int) - roundRat (term * 256 / (if g = 0 then 1 else (g : Rat))))).1
      else if mode = 1 && (st = 1 || st = 2 || st = 4) then
        let (s, c) := s.writeClamped (cur + d)
        { s with tsk := { s.tsk with integ := s.tsk.integ + ((c - cur) * g : Int) * 1000000000 / 2 ^ 64 } }
      else s
    else s)

/-- TEMP_READ (R171): a reading of T in 1/16 °C, or none where the reading failed. -/
def execTempRead (t : Option Int) (s : State) : Host.Outcome State Fault Refusal :=
  .next (
    if s.engQuenched 11 then s
    else
      let ext := s.on F.TSK_HOLD_CFG_TC_SRC
      match t with
      | some v =>
        let s := (s.setI F.TSK_HOLD_ST_TEMP v).set F.TSK_HOLD_ST_TEMP_OK 1
        if ext then s.set F.TSK_EFC_ST_SENSOR_ERR 0 else s
      | none =>
        let s := if s.on F.TSK_HOLD_ST_TEMP_OK then s.tempLost else s
        if ext then s.set F.TSK_EFC_ST_SENSOR_ERR 1 else s)

/-- TC_LEARN_WRITE (R171): engine 3 writes the coefficients of its fit to the live and shadow values, at most once an hour,
when the fit spans at least 5 °C (80/16) over MODEL_MIN hours. -/
def execTcLearnWrite (tc1 tc2 t0 : Int) (span hours : Nat) (s : State) : Host.Outcome State Fault Refusal :=
  .next (
    let due := match s.tsk.learnTick with
      | some n => decide (n + 3600000 ≤ s.time.tickNo)
      | none => true
    if s.on F.TSK_HOLD_CFG_TC_LEARN && s.get F.TSK_STAT_STATE = 2 && !s.engQuenched 11 && due && decide (80 ≤ span) &&
        decide (s.get F.TSK_HOLD_CFG_MODEL_MIN ≤ hours) then
      let s := s.setBoth F.TSK_HOLD_TC_TC1 (ofSigned 32 tc1)
      let s := s.setBoth F.TSK_HOLD_TC_TC2 (ofSigned 32 tc2)
      let s := s.setBoth F.TSK_HOLD_TC_T0 (ofSigned 16 t0)
      { s with tsk := { s.tsk with learnTick := some s.time.tickNo } }
    else s)

/-- MODEL_OK_SET (R170): MODEL_MIN hours unbroken in LOCKED. -/
def execModelOkSet (s : State) : Host.Outcome State Fault Refusal :=
  .next (
    if s.get F.TSK_STAT_STATE = 2 && decide (s.get F.TSK_HOLD_CFG_MODEL_MIN * 3600000 ≤ s.tsk.lockedRun) then
      s.set F.TSK_STAT_MODEL_OK 1
    else s)

end Sys2Proof.Machine
end

