-- ==== Sys2Proof/Machine/Almanac.lean ====
section
/-!
DEFINITION. Sys2Proof/Machine/Almanac.lean: setting the date (R62 to R64), the leap-second table (R54 to R56), tenant
transforms at a strobe (R58) and the snapshot of time (R65 to R68).
-/

namespace Sys2Proof.Machine

namespace State

/-! ## The date (R62 to R64) -/

/-- The code that SYS_DATE_CTL.GO reports (R62): the first check that fails, in order, else 1 DATE_OK. -/
def dateCheck (s : State) (mark : Bool) : Nat :=
  let scale := s.get F.SYS_DATE_LO_SCALE
  let y := s.get F.SYS_DATE_HI_YEAR
  let mo := s.get F.SYS_DATE_LO_MONTH
  let d := s.get F.SYS_DATE_LO_DAY
  let h := s.get F.SYS_DATE_LO_HOUR
  let mi := s.get F.SYS_DATE_LO_MIN
  let sec := s.get F.SYS_DATE_LO_SEC
  let ns := s.get F.SYS_DATE_NS_NS
  let mjd := (daysOf y mo d + 40587).toNat
  if s.on F.SYS_DATE_STAT_PENDING then 5
  else if !s.prov then 3
  else if 2 < scale then 2
  else if y < 1970 || 9999 < y then 2
  else if mo < 1 || 12 < mo then 2
  else if d < 1 || mdays y mo < d then 2
  else if 23 < h || 59 < mi || 999999999 < ns then 2
  else if 60 < sec then 2
  else if sec = 60 && !(scale = 0 && h = 23 && mi = 59 && leapAtEnd s.tsk.leap mjd false) then 2
  else if sec = 59 && scale = 0 && h = 23 && mi = 59 && leapAtEnd s.tsk.leap mjd true then 2
  else if !mark && ns % 1000000 ≠ 0 then 2
  else 1

/-- The date of the fields: SCALE, seconds since 1970 in that scale with second 60 counted as 59, whether it is second 60, NS. -/
def dateFields (s : State) : Nat × Int × Bool × Nat :=
  let sec := s.get F.SYS_DATE_LO_SEC
  let day := daysOf (s.get F.SYS_DATE_HI_YEAR) (s.get F.SYS_DATE_LO_MONTH) (s.get F.SYS_DATE_LO_DAY)
  let sod : Int := s.get F.SYS_DATE_LO_HOUR * 3600 + s.get F.SYS_DATE_LO_MIN * 60 + min sec 59
  (s.get F.SYS_DATE_LO_SCALE, day * 86400 + sod, decide (sec = 60), s.get F.SYS_DATE_NS_NS)

/-- The TAI instant of a date, whole ns since the epoch, with the leap table live now (R55). -/
def dateNs (s : State) (d : Nat × Int × Bool × Nat) : Int :=
  let (scale, u, s60, ns) := d
  let t := (if scale = 0 then utcToTai s.tsk.leap u else if scale = 1 then u else u + 19) + (if s60 then 1 else 0)
  t * 1000000000 + ns

/-- The UTC day, as an MJD, of a TAI reading in 2^-16 ns. -/
def utcMjd (s : State) (q : Int) : Int := (utcScale s.tsk.leap q).q / secQ / 86400 + 40587

/-- SYS_DATE_CTL.GO with MARK and MARK_CH (R62, R63). -/
def dateGo (s : State) (mark : Bool) (ch : Nat) : State :=
  let code := s.dateCheck mark
  let s := s.set F.SYS_DATE_STAT_CODE code
  if code = 1 then
    let d := s.dateFields
    let s := (s.set F.SYS_DATE_STAT_PENDING 1).setB F.SYS_DATE_STAT_EXPIRED
      (decide ((s.tsk.leapExp : Int) < s.utcMjd (s.dateNs d * 65536)))
    { s with tsk := { s.tsk with date := some ⟨d.1, d.2.1, d.2.2.1, d.2.2.2, mark, ch, none, s.ns, s.time.cyc⟩ } }
  else s

/-- A pending date set ends with a code. -/
def dateEnd (s : State) (code : Nat) : State :=
  ({ s with tsk := { s.tsk with date := none } }.set F.SYS_DATE_STAT_PENDING 0).set F.SYS_DATE_STAT_CODE code

/-- The load of an accepted date in the cycle of a tick boundary (R63, R64): the move of R50, the kernel's state (R154), the
bound that starts from the date's (R185, R188) and the source tag of reference 62 (R197). -/
def loadDate (s : State) (a : Nat) (teb source tag : Nat) : State :=
  let (s, cancel) := s.leaveProv a source
  let old := s.get F.TSK_STAT_STATE
  let oact := s.get F.TSK_STAT_HOLD_ACT
  let s := ({ s with tsk := { s.tsk with dateLoaded := true } } : State).holdTag tag
  let s := s.enterState s.kernelNext (s.holdAct s.kernelNext) teb true
  let new := s.get F.TSK_STAT_STATE
  let act := s.get F.TSK_STAT_HOLD_ACT
  let s := s.formPhase
  let s := if new = old && act = oact then s else s.kstateRecord old new act 4
  let s := match cancel with
    | some (clock, src, r) => s.corrRecord 4 clock src r
    | none => s
  s.driveFreq.boundaryTeb

/-- The absolute reading that the pending date gives the core now, 2^-56 ns, converted with the live table (R55, R63). -/
def dateReading (s : State) (d : DatePend) : Nat :=
  let at_ := (s.dateNs (d.scale, d.u, d.s60, d.ns)).toNat * 2 ^ 56
  match d.edge with
  | some e => at_ + (s.time.core - e)
  | none => at_

/-- DATE_LOAD's effect (R63, R64): in the cycle of the first tick boundary after GO, or after the marking edge. DESIGN CHOICE:
SYS_DATE_TEB is read at the load, since R64 has the bound start from the register there; the other fields are those of GO. -/
def dateLoad (s : State) : State :=
  match s.tsk.date with
  | some d =>
    let due := if d.mark then (match d.edge with | some e => decide (e < s.time.core) | none => false)
      else decide (d.goCyc < s.time.cyc)
    if s.atBoundary && due then
      if !s.prov then s.dateEnd 3
      else
        let a := s.dateReading d
        let s := { s with tsk := { s.tsk with jumped := false } }
        if laterThan s.time.core a then
          (s.loadDate a (ofFloat (s.get F.SYS_DATE_TEB_TEB)) 0 62).dateEnd 1
        else s.dateEnd 4
    else s
  | none => s

/-- An edge stamped on channel ch may mark the pending date (R63): `at_` in 2^-56 ns. -/
def markDate (s : State) (ch at_ : Nat) : State :=
  match s.tsk.date with
  | some d =>
    if d.mark && d.ch = ch && d.edge.isNone then { s with tsk := { s.tsk with date := some { d with edge := some at_ } } }
    else s
  | none => s

/-! ## The leap-second table (R54 to R56) -/

/-- A staged entry. -/
def stagedLeap (s : State) (i : Nat) : LeapEnt :=
  ⟨s.get (F.TSK_LEAP_ENT_LO_DAY_MJD i), s.on (F.TSK_LEAP_ENT_LO_NEG i), s.getI (F.TSK_LEAP_ENT_HI_OFFSET i)⟩

/-- The day before the first of a month: the last day of one (R54). -/
def lastOfMonth (mjd : Nat) : Bool := (civilOf ((mjd : Int) + 1 - 40587)).2.2 = 1

/-- Check 2 of R54 over the staged entries from index i on: the index of the first entry that breaks it. -/
def leapInvalid : List LeapEnt → Nat → Option LeapEnt → Bool → Option Nat
  | [], _, _, _ => none
  | e :: t, i, prev, ended =>
    if ended || e.mjd = 0 then
      if e.mjd = 0 && !e.neg && e.offset = 0 then leapInvalid t (i + 1) prev true else some i
    else
      let p := match prev with | some p => p.offset | none => 10
      let d := match prev with | some p => decide (p.mjd < e.mjd) | none => true
      if d && lastOfMonth e.mjd && 41316 ≤ e.mjd && e.mjd ≤ 2973452 && e.offset = p + (if e.neg then -1 else 1) then
        leapInvalid t (i + 1) (some e) false
      else some i

/-- The entries of a table with their indices. -/
def withIndex (l : List LeapEnt) : List (Nat × LeapEnt) := (List.range l.length).zip l

/-- The changes that a staged table makes to the live one (R54): whether BAD_INDEX names a live entry, index, leap instant. -/
def leapChanges (live staged : List LeapEnt) : List (Bool × Nat × Int) :=
  ((withIndex staged).filterMap (fun p =>
    match live.find? (fun e => e.mjd = p.2.mjd) with
    | some e => if e = p.2 then none else some (false, p.1, leapE e)
    | none => some (false, p.1, leapE p.2))) ++
  ((withIndex live).filterMap (fun p =>
    if staged.any (fun e => e.mjd = p.2.mjd) then none else some (true, p.1, leapE p.2)))

/-- The result of a commit (R54, R55): code, BAD_INDEX, IN_LIVE. -/
def leapCheck (s : State) : Nat × Nat × Bool :=
  let all := (List.range 64).map s.stagedLeap
  let staged := all.takeWhile (fun e => e.mjd ≠ 0)
  if s.on F.TSK_LEAP_STAT_PENDING then (5, 0, false)
  else match leapInvalid all 0 none false with
    | some i => (2, i, false)
    | none =>
      if s.prov then (1, 0, false)
      else
        let now : Int := s.ns
        let ch := leapChanges s.tsk.leap staged
        match ch.find? (fun c => decide (c.2.2 * 1000000000 ≤ now)) with
        | some (l, i, _) => (3, i, l)
        | none =>
          match ch.find? (fun c => decide (c.2.2 * 1000000000 - now < 604800000000000)) with
          | some (l, i, _) => (4, i, l)
          | none => (1, 0, false)

/-- TSK_LEAP_CTL.COMMIT (R54). -/
def leapCommit (s : State) : State :=
  let (code, bad, live) := s.leapCheck
  let s := ((s.set F.TSK_LEAP_STAT_CODE code).set F.TSK_LEAP_STAT_BAD_INDEX bad).setB F.TSK_LEAP_STAT_IN_LIVE live
  if code = 1 then
    let tab := ((List.range 64).map s.stagedLeap).takeWhile (fun e => e.mjd ≠ 0)
    { s with tsk := { s.tsk with leapPend := some (tab, s.get F.TSK_LEAP_EXPIRY_EXP_MJD) } }.set F.TSK_LEAP_STAT_PENDING 1
  else s

/-- The accepted table and its expiry go live at the strobe of the group that holds TSK (R39, R54). A later expiry clears
LEAP_EXPIRED (R56). -/
def leapLive (s : State) : State :=
  match s.tsk.leapPend with
  | some (tab, exp) =>
    let ends := s.tsk.leapExpired && !decide (s.tsk.leapExp < exp)
    let s := { s with tsk := { s.tsk with leap := tab, leapExp := exp, leapPend := none, leapExpired := ends } }
    ((s.set F.TSK_LEAP_STAT_PENDING 0).set F.TSK_LEAP_STAT_COUNT tab.length).setB F.TSK_LEAP_STAT_EXPIRED ends
  | none => s

/-! ## Transforms at a strobe (R58) -/

/-- The cause for which a changed transform entry is refused, with the value its record carries; 0 where it is accepted. DESIGN
CHOICE: where several cases of R58 hold at once, which gives no priority, the first of SCALE, SMEAR_W, OFFSET, tenant absent and
backward is recorded. -/
def xformCause (s : State) (t : Nat) : Nat × Int :=
  let sc := s.view (F.TSK_XFORM_SCALE t)
  let w := s.view (F.TSK_XFORM_SMEAR_W t)
  let off := s.viewI (F.TSK_XFORM_OFFSET t)
  let q : Int := s.q16
  let old := (s.tenantTime t q).q
  let new := if s.prov then q else (scaleTime s.tsk.leap sc w off q).q
  if 4 < sc then (1, 0)
  else if w % 2 = 1 || w < 2 || 604800 < w then (3, w)
  else if off < -(2 ^ 48) || 2 ^ 48 < off then (4, off)
  else if !s.tenantPresent t then (5, 0)
  else if new < old && s.fnEnabled (s.fnOf t) then (2, ceilDiv (old - new).toNat 65536)
  else (0, 0)

/-- A refused transform change is recorded (R58). `first` says that it is the first refusal of the strobe. -/
def xformRefuse (s : State) (t cause : Nat) (v : Int) (first : Bool) : State :=
  let s := if first then
      ((s.set F.TSK_XFORM_STAT_TENANT t).set F.TSK_XFORM_STAT_CAUSE cause).set F.TSK_XFORM_STAT_VALID 1 else s
  s.pevent 4 t (pay [(20, 1, cause), (21, 1, s.view (F.TSK_XFORM_SCALE t)), (24, 8, ofSigned 64 v)])

/-! ## The snapshot (R65 to R68) -/

/-- The calendar form of a scale's count of seconds: date word fields and range (R61). -/
structure Cal where
  year : Nat
  month : Nat
  day : Nat
  weekday : Nat
  hour : Nat
  min : Nat
  sec : Nat
  range : Bool
  deriving DecidableEq, Repr

/-- Calendar of a reading of a scale; inside a positive leap second it reads second 60 (R68). -/
def calendar (t : ScaleTime) : Cal :=
  let sec := t.q / secQ
  let days := sec / 86400
  let sod := (sec % 86400).toNat
  let (y, m, d) := civilOf days
  if y < 1970 || 9999 < y then ⟨9999, 12, 31, ((daysOf 9999 12 31 + 4) % 7).toNat, 23, 59, 59, true⟩
  else ⟨y.toNat, m, d, ((days + 4) % 7).toNat, sod / 3600, sod / 60 % 60, if t.leap60 then 60 else sod % 60, false⟩

/-- The reading that the calendar form of a function's snapshot shows. -/
def calTime (s : State) (t cs : Nat) (q : Int) : ScaleTime :=
  if s.prov then ⟨q, false, false⟩
  else if cs = 0 then utcScale s.tsk.leap q
  else if cs = 1 then ⟨q, false, false⟩
  else if cs = 2 then ⟨q - 19 * secQ, false, false⟩
  else s.tenantTime t q

/-- A read of TSK_SNAP_NS latches function n's snapshot: time, bound and tag, tenant time and calendar of one cycle. -/
def snapshot (s : State) (n : Nat) : State :=
  let t := s.recTenant n
  let q : Int := s.q16
  let ns := s.ns
  let sec := ns / 1000000000
  let teb := bAdd s.coreTeb (s.tenantTerm t)
  let st := s.tenantTime t q
  let tsec := ofSigned 48 (st.q / secQ)
  let cs := s.get (F.TSK_SNAP_CTL_CAL_SCALE.on n)
  let c := calendar (s.calTime t cs q)
  let s := ((s.set (F.TSK_SNAP_NS_NS.on n) (ns % 1000000000)).set (F.TSK_SNAP_SEC_LO_SEC_LO.on n) sec)
  let s := (s.set (F.TSK_SNAP_SEC_HI_SEC_HI.on n) (sec / 2 ^ 32)).set (F.TSK_SNAP_SEC_HI_FRAC.on n) s.frac
  let s := (s.set (F.TSK_SNAP_TEB_LO_TEB_LO.on n) teb).set (F.TSK_SNAP_TEB_HI_TEB_HI.on n) (teb / 2 ^ 32)
  let s := s.set (F.TSK_SNAP_TEB_HI_SRC_TAG.on n) (s.get F.TSK_TEB_SRC_TAG)
  let s := s.set (F.TSK_SNAP_TS_NS_NS.on n) (st.q % secQ / 65536).toNat
  let s := (s.set (F.TSK_SNAP_TS_SEC_LO_SEC_LO.on n) tsec).set (F.TSK_SNAP_TS_SEC_HI_SEC_HI.on n) (tsec / 2 ^ 32)
  let s := (s.set (F.TSK_SNAP_TS_SEC_HI_SCALE.on n) (s.tenScale t)).setB (F.TSK_SNAP_TS_SEC_HI_SMEARING.on n) st.smearing
  let s := s.setB (F.TSK_SNAP_TS_SEC_HI_LEAP60.on n) st.leap60
  let s := (s.set (F.TSK_SNAP_CAL_DATE_YEAR.on n) c.year).set (F.TSK_SNAP_CAL_DATE_MONTH.on n) c.month
  let s := (s.set (F.TSK_SNAP_CAL_DATE_DAY.on n) c.day).set (F.TSK_SNAP_CAL_DATE_WEEKDAY.on n) c.weekday
  let s := (s.set (F.TSK_SNAP_CAL_TIME_SEC.on n) c.sec).set (F.TSK_SNAP_CAL_TIME_MIN.on n) c.min
  let s := (s.set (F.TSK_SNAP_CAL_TIME_HOUR.on n) c.hour).set (F.TSK_SNAP_CAL_TIME_CAL_SCALE.on n) cs
  let s := (s.setB (F.TSK_SNAP_CAL_TIME_CAL_RANGE.on n) c.range).setB (F.TSK_SNAP_CAL_TIME_PROVISIONAL.on n) s.prov
  let s := s.setB (F.TSK_SNAP_CAL_TIME_LEAP_EXPIRED.on n) s.tsk.leapExpired
  s.setFn n { s.fn n with snapped := true }

end State

/-- DATE_GO (R62): a write of SYS_DATE_CTL with GO, carrying MARK and MARK_CH. -/
def execDateGo (mark : Bool) (ch : Nat) (s : State) : Host.Outcome State Fault Refusal :=
  .next (s.awake (fun s => ((s.setB F.SYS_DATE_CTL_MARK mark).set F.SYS_DATE_CTL_MARK_CH ch).dateGo mark (ch % 16)))

/-- MARK_TIMEOUT (R63): no marking edge within 2 s of provisional time. -/
def execMarkTimeout (s : State) : Host.Outcome State Fault Refusal :=
  .next (match s.tsk.date with
    | some d =>
      if d.mark && d.edge.isNone && s.time.running then (s.runTo (d.goAt + 2000000000)).dateEnd 6 else s
    | none => s)

/-- LEAP_COMMIT (R54): a write of TSK_LEAP_CTL with COMMIT. -/
def execLeapCommit (s : State) : Host.Outcome State Fault Refusal := .next (s.awake State.leapCommit)

/-- LEAP_EXPIRED (R56): at a boundary past the end of the UTC day in the live TSK_LEAP_EXPIRY, as the core reads after any move there. -/
def execLeapExpired (s : State) : Host.Outcome State Fault Refusal :=
  .next (
    if !s.tsk.leapExpired && decide ((s.tsk.leapExp : Int) < s.utcMjd (s.tsk.bndNs * 65536)) then
      { s with tsk := { s.tsk with leapExpired := true } }.set F.TSK_LEAP_STAT_EXPIRED 1
    else s)

end Sys2Proof.Machine
end

