-- ==== Sys2Proof/Machine/Tic.lean ====
section
/-!
DEFINITION. Sys2Proof/Machine/Tic.lean: the interval counter: stamps, records and queues, calibration windows and frequency
by regression (R86 to R101, R492 to R494).
-/

namespace Sys2Proof.Machine

namespace State

/-- A channel's own state. -/
def ticCh (s : State) (ch : Nat) : TicSt := (alGet s.tic.ch ch).getD TicSt.reset

/-- The state with a channel's own state replaced. -/
def setTic (s : State) (ch : Nat) (x : TicSt) : State := { s with tic := { s.tic with ch := alSet s.tic.ch ch x } }

/-- The channel that stamps a source, if any (R76). -/
def chOf (s : State) (src : Nat) : Option Nat := (List.range 16).find? (fun c => s.get (F.REF_XBAR_SRC c) = src)

/-- A channel counter (R444). -/
def tcnt (s : State) (ch k : Nat) : State := s.count (0x080 + 16 * ch + k)

/-- The channel is enabled (R492) and its half's domain is up (R456). -/
def ticOn (s : State) (ch : Nat) : Bool := s.on (F.TIC_CH_CFG_EN ch) && s.pdUp (13 + ch / 8)

/-! ## Records and queues (R88 to R93) -/

/-- A record of the present state of its channel. SEQ is given when it is written to the queue. -/
def ticRec (s : State) (ch short frac : Nat) (pol : Bool) (kind aux dcount : Nat) : TicRec :=
  { short := short, frac := frac, pol := pol, kind := kind, prov := s.prov, cstale := s.on (F.TIC_CH_STAT_CSTALE ch)
    pstale := s.on (F.TIC_CH_STAT_PSTALE ch), calgen := s.get (F.TIC_CH_STAT_CALGEN ch), seq := 0, aux := aux
    dcount := dcount }

/-- A record as 128 bits (R90). -/
def packTic (ch : Nat) (r : TicRec) : Nat :=
  let b (x : Bool) (i : Nat) : Nat := if x then 2 ^ i else 0
  r.short % 2 ^ 64 + r.frac % 2 ^ 16 * 2 ^ 64 + ch % 16 * 2 ^ 80 + b r.pol 84 + r.kind % 4 * 2 ^ 85 + b r.prov 87 +
    b r.cstale 88 + b r.pstale 89 + b (decide (65535 < r.dcount)) 90 + r.calgen % 16 * 2 ^ 92 + r.seq % 256 * 2 ^ 96 +
    r.aux % 256 * 2 ^ 104 + satN 16 r.dcount * 2 ^ 112

/-- A record is dropped and counted (R91): `front` says that it comes before every record dropped so far. -/
def ticDrop (s : State) (ch : Nat) (r : TicRec) (front : Bool) : State :=
  let x := s.ticCh ch
  let x := match x.drops with
    | some (f, n) => { x with drops := some (if front then r.short else f, n + 1), older := if front then 0 else x.older }
    | none => { x with drops := some (r.short, 1), older := if front then 0 else x.stage.length }
  ((s.setTic ch x).set (F.TIC_CH_STAT_OVF ch) 1).tcnt ch 3

/-- A record enters the channel's staging buffer, or is dropped where it is full (R89). With EN = 0 or QMODE = NONE there is no
record (R94, R492). -/
def ticStage (s : State) (ch : Nat) (r : TicRec) : State :=
  if !s.ticOn ch || s.get (F.TIC_CH_CFG_QMODE ch) = 2 then s
  else
    let x := s.ticCh ch
    if x.stage.length < 64 && (x.drops.isNone || x.older = 0) then s.setTic ch { x with stage := x.stage ++ [r] }
    else s.ticDrop ch r false

/-- A record is written to the queue with the next SEQ (R90). -/
def ticEnqueue (s : State) (ch : Nat) (r : TicRec) : State :=
  let x := s.ticCh ch
  let q := x.queue ++ [{ r with seq := x.seq }]
  (s.setTic ch { x with queue := q, seq := (x.seq + 1) % 256 }).set (F.TIC_CH_STAT_FILL ch) q.length

/-- The channel writes records: EN = 1 (R492) and QMODE not NONE (R94). What its staging buffer holds waits meanwhile (DESIGN
CHOICE: the rules say that no record is written, not what becomes of these). -/
def ticWrites (s : State) (ch : Nat) : Bool := s.ticOn ch && s.get (F.TIC_CH_CFG_QMODE ch) ≠ 2

/-- The OVERFLOW record of a channel, once 16 entries are free and the records that came before the first dropped one have
been written (R90, R91). -/
def ticOverflow (s : State) (ch : Nat) : State :=
  let x := s.ticCh ch
  match x.drops with
  | some (f, n) =>
    if s.ticWrites ch && x.older = 0 && x.queue.length + 16 ≤ 16384 then
      let s := (s.setTic ch { x with drops := none }).set (F.TIC_CH_STAT_OVF ch) 0
      (s.ticEnqueue ch (s.ticRec ch f 0 false 1 0 n)).tcnt ch 2
    else s
  | none => s

/-- The shared writer takes the oldest staged record of a channel, the OVERFLOW record before it if that is due; it drops a
record that finds the queue full, and those after it until the OVERFLOW record is written (R89, R91). -/
def ticWriter (s : State) (ch : Nat) : State :=
  let s := s.ticOverflow ch
  let x := s.ticCh ch
  match x.stage with
  | [] => s
  | r :: t =>
    if !s.ticWrites ch then s
    else
      let s := s.setTic ch { x with stage := t, older := x.older - 1 }
      if 16384 ≤ x.queue.length || (x.drops.isSome && x.older = 0) then s.ticDrop ch r (x.drops.isNone || x.older ≠ 0)
      else s.ticEnqueue ch r

/-- The channel that the shared writer serves next: round robin over those with a staged record to write (R89). -/
def ticTurn (s : State) : Option Nat :=
  ((List.range 16).map (fun k => (s.tic.turn + k) % 16)).find? (fun c => (s.ticCh c).stage ≠ [] && s.ticWrites c)

/-- The EMPTY record of a channel (R92). -/
def emptyTic (ch : Nat) : Nat := ch % 16 * 2 ^ 80 + 3 * 2 ^ 85

/-- One record popped from a channel's queue window, as 128 bits; EMPTY where there is none, or not in WINDOW mode (R92). -/
def ticPop (s : State) (ch : Nat) : Nat × State :=
  let x := s.ticCh ch
  if s.get (F.TIC_CH_CFG_QMODE ch) ≠ 0 then (emptyTic ch, s)
  else match x.queue with
  | [] => (emptyTic ch, s)
  | r :: t => (packTic ch r, (s.setTic ch { x with queue := t }).set (F.TIC_CH_STAT_FILL ch) t.length)

/-- n records popped, the first lowest. Where the queue holds fewer, EMPTY records stand for the rest (DEDUCED: R92 states it of an
empty queue only). -/
def ticPopN : Nat → State → Nat → Nat × State
  | 0, s, _ => (0, s)
  | n + 1, s, ch =>
    let (v, s) := s.ticPop ch
    let (w, s) := ticPopN n s ch
    (v + 2 ^ 128 * w, s)

/-! ## Stamps (R86, R494) -/

/-- Live width of a code (R86). -/
def ticWidth (x : TicSt) (c : Nat) : Nat := match x.width with | some l => l.getD c 0 | none => 4096

/-- Sum of the widths below a code. -/
def ticCum (x : TicSt) (c : Nat) : Nat :=
  match x.width with | some l => (l.take c).foldl (fun a w => a + w) 0 | none => 4096 * c

/-- Where an edge with ADC code c meets the converter whose charging stops n cycles from now, 2^-16 ns: the stamp of R86 without
PATH. -/
def rawStamp (s : State) (ch c n : Nat) : Rat :=
  let x := s.ticCh ch
  let z := s.advance n
  let fine : Rat := 1 + (2 * ticCum x c + ticWidth x c : Nat) / (2 ^ 25 : Rat)
  (z.time.core : Rat) / 2 ^ 40 - fine * (z.addend : Rat) / 2 ^ 40

/-- The stamp of an edge whose charging stops n cycles from now, 2^-16 ns, rounded to nearest, ties upward (R86). -/
def stampOf (s : State) (ch c n : Nat) : Int := roundRat (s.rawStamp ch c n - (s.getI (F.TIC_PATH_PATH ch) : Rat))

/-- Charging of an edge of the present cycle stops at the coming tick boundary or after it, so that its stamp needs the reading
and the addend that the boundary brings (R86). -/
def overBoundary (s : State) : Bool := s.time.running && decide (((s.time.tickAt * 2 ^ 56 : Nat) : Int) ≤ s.coreIn 2)

/-- Short time of a stamp. -/
def stampShort (v : Int) : Nat := ofSigned 64 (v / 65536)

/-- FRAC of a stamp. -/
def stampFrac (v : Int) : Nat := (v % 65536).toNat

/-- The claim of a REF source's measurement, ps (R132, R182). -/
def refClaim (s : State) (r : Nat) (cstale pstale : Bool) : Nat :=
  s.get (F.ASY_REF_CFG_NOISE r) + (if cstale then s.get F.TSK_TEB_CFG_CDC_STALE_ADD else 0) +
    (if pstale then s.get F.TSK_TEB_CFG_PATH_STALE_ADD else 0)

/-- A measurement of reference r of the present instant. One of the cycle of a tick boundary belongs to the tick that the boundary
begins (R36), also where TICK has not yet run in that cycle. -/
def measOf (s : State) (r : Nat) (claim : Nat) : Meas :=
  { ref := r, off := none, gate := none, abs := none, claim := claim
    tick := if s.time.tickAt ≤ s.ns then s.time.tickNo + 1 else s.time.tickNo
    at_ := s.ns, tod := none, cstale := false, pstale := false, stamp := none, parts := none }

/-- The parts of a REF source's claim (R182). -/
def refParts (s : State) (r : Nat) (cstale pstale : Bool) : Option ClaimParts :=
  some ⟨s.get (F.ASY_REF_CFG_NOISE r), cstale, pstale, false, 0, false⟩

/-- The kind of a source: 0 FREQ, 1 PPS, 2 PP2S, 3 IRIGB; a SyncE source is a frequency (R71, R494). -/
def srcKind (s : State) (src : Nat) : Nat := if src < 16 then s.get (F.REF_IN_CFG_KIND src) else 0

/-- A stamp of a source is handed to Assay as an offset (R494). -/
def stampMeas (s : State) (ch src : Nat) (v : Int) : State :=
  let cs := s.on (F.TIC_CH_STAT_CSTALE ch)
  let ps := s.on (F.TIC_CH_STAT_PSTALE ch)
  let m := { s.measOf src (s.refClaim src cs ps) with cstale := cs, pstale := ps, parts := s.refParts src cs ps }
  match s.srcKind src with
  | 1 => s.deliver { m with off := some (wrapOff secQ v) }
  | 2 => s.deliver { m with off := some (wrapOff (2 * secQ) v) }
  | _ =>
    let p : Int := s.get (F.TIC_PNOM_PNOM ch)
    if p = 0 then s
    else match (s.ref src).lastStamp with
      | none => s.setRef src { s.ref src with lastStamp := some v }
      | some l => s.deliver { m with off := some (wrapOff p (v - l)), stamp := some v }

/-! ## Gates (R99 to R101) -/

/-- A gate with an edge after the prescaler: its stamp if it has one, and whether a NO_STAMP covers it (R99, R101). -/
def gatePoint (s : State) (ch : Nat) (g : Gate) (e : Option Int × Bool) : Gate :=
  let g' := match e.1 with
    | some v =>
      let t := v - g.start
      { g with n := g.n + 1, sk := g.sk + g.k, skk := g.skk + g.k * g.k, st := g.st + t, skt := g.skt + g.k * t
               stt := g.stt + t * t, prov := g.prov || s.prov, cstale := g.cstale || s.on (F.TIC_CH_STAT_CSTALE ch)
               pstale := g.pstale || s.on (F.TIC_CH_STAT_PSTALE ch) }
    | none => g
  { g' with k := g.k + 1, gap := g.gap || e.2 }

/-- An edge after the prescaler reaches a channel: its open gate counts it (R99). -/
def gateEdge (s : State) (ch : Nat) (pt : Option Int) (gap : Bool) : State :=
  let x := s.ticCh ch
  let x := if x.cycAt = s.time.cyc then x else { x with cycAt := s.time.cyc, cycEdges := [], gatePre := x.gate }
  s.setTic ch { x with cycEdges := x.cycEdges ++ [(pt, gap)], gate := x.gate.map (fun g => s.gatePoint ch g (pt, gap)) }

/-- The fit of a gate's points: slope in 2^-16 ns an edge, and the mean square residual in (2^-16 ns)^2. -/
def gateFit (g : Gate) : Rat × Rat :=
  let n : Rat := g.n
  let sxx : Rat := g.skk - (g.sk : Rat) * g.sk / n
  let sxy : Rat := g.skt - (g.sk : Rat) * g.st / n
  let syy : Rat := g.stt - (g.st : Rat) * g.st / n
  let p := if sxx = 0 then 0 else sxy / sxx
  (p, if sxx = 0 then 0 else (syy - sxy * sxy / sxx) / n)

/-- An open gate closes at the present cycle (R100, R101): its result goes live and to Assay. -/
def gateClose (s : State) (ch : Nat) (long : Bool) : State :=
  let x := s.ticCh ch
  match x.gate with
  | none => s
  | some g =>
    let s := (s.setTic ch { x with gate := none, gatePre := none }).tcnt ch 5
    if !g.fit then s
    else
      let pn := s.get (F.TIC_PNOM_PNOM ch)
      let (p, ms) := if 2 ≤ g.n then gateFit g else (0, 0)
      let y0 := if p = 0 then 0 else roundRat (((pn : Rat) / p - 1) * 2 ^ 56)
      let lim : Int := 2 ^ 63 - 1
      let y := clampI (-lim) lim y0
      -- 2^-16 ns is 125/32 of 2^-8 ps
      let resid := ceilSqrt ((ms * (15625 / 1024)).ceil.toNat)
      let len : Int := s.q16 - g.start
      let valid := decide (65536000000 ≤ len) && decide (3 ≤ g.n) && pn ≠ 0 && !g.step
      let s := ((s.setI (F.TIC_FRES_YFREQ ch) y).set (F.TIC_FRES_NPTS ch) g.n).set (F.TIC_FRES_GEND ch) s.short
      let s := (s.set (F.TIC_FRES_RESID ch) (satN 32 resid)).setB (F.TIC_FRES_VALID ch) valid
      let s := (s.setB (F.TIC_FRES_STEP ch) g.step).setB (F.TIC_FRES_SLEW ch) g.slew
      let s := (s.setB (F.TIC_FRES_CALGAP ch) g.gap).setB (F.TIC_FRES_PROV ch) g.prov
      let s := (s.setB (F.TIC_FRES_LONG ch) long).setB (F.TIC_FRES_SAT ch) (y ≠ y0)
      let s := s.add (F.TIC_FRES_SEQ ch) 1
      let src := s.get (F.REF_XBAR_SRC ch)
      if src < 24 then
        let m := s.measOf src (s.refClaim src (g.cstale || g.gap) (g.pstale || g.gap))
        s.deliver { m with gate := some (y, valid, (len / 65536).toNat), cstale := g.cstale || g.gap, pstale := g.pstale || g.gap
                           parts := s.refParts src (g.cstale || g.gap) (g.pstale || g.gap) }
      else s

/-- Edges of the channel in the present cycle. -/
def edgesNow (s : State) (ch : Nat) : List (Option Int × Bool) :=
  if (s.ticCh ch).cycAt = s.time.cyc then (s.ticCh ch).cycEdges else []

/-- An open gate ends at a boundary of the present cycle: the stamps of this cycle are not its own (R100). -/
def gateEnd (s : State) (ch : Nat) (long : Bool) : State :=
  let x := s.ticCh ch
  (if x.cycAt = s.time.cyc then s.setTic ch { x with gate := x.gatePre } else s).gateClose ch long

/-- A gate opens at an instant in 2^-16 ns; one still open closes first (R99, R100), and the stamps of this cycle belong to the
new one. A disabled channel opens none (R492). -/
def gateOpen (s : State) (ch : Nat) (start : Int) : State :=
  let es := s.edgesNow ch
  let s := s.gateEnd ch false
  if s.ticOn ch then
    let g : Gate := { start := start, fit := s.on (F.TIC_CH_CFG_FREQ_EN ch), k := 0, n := 0, sk := 0, skk := 0, st := 0
                      skt := 0, stt := 0, step := false, slew := s.time.annS ≠ 0, gap := false, prov := false
                      cstale := false, pstale := false }
    s.setTic ch { s.ticCh ch with gate := some (es.foldl (s.gatePoint ch) g), gatePre := some g, cycAt := s.time.cyc, cycEdges := es }
  else s

/-- EN = 0 goes live: an open gate closes and gives its result (R492). -/
def ticDisabled (s : State) (ch : Nat) : State := s.gateClose ch false

/-! ## Edges (R86 to R88) -/

/-- An edge after the prescaler reaches channel ch, which is enabled: dead time, calibration window or NO_STAMP; an edge that is
timed answers DCOUNT of its record (R87, R88, R90). The dead time is judged to the fraction that the code gives. -/
def ticEdge (s : State) (ch : Nat) (falling : Bool) (code : Nat) : State × Option Nat :=
  let x := s.ticCh ch
  let t := roundRat (s.rawStamp ch (code % 4096) 2)
  if x.lastEdge.any (fun l => decide (t < l + 16 * 65536)) then
    let s := s.setTic ch { x with dcount := x.dcount + 1 }
    ((s.gateEdge ch none false).tcnt ch 4, none)
  else
    let x := { x with lastEdge := some t }
    match x.win with
    | some _ =>
      let ns := match x.nostamp with
        | some (f, n, p) => (f, n + 1, p)
        | none => ((s.q16 : Int), 1, falling)
      ((s.setTic ch { x with nostamp := some ns }).gateEdge ch none true, none)
    | none =>
      if code < 1 ∨ 4094 < code then
        let v : Int := (s.q16 : Int) - s.getI (F.TIC_PATH_PATH ch)
        let s := (s.setTic ch { x with dcount := 0 }).gateEdge ch none true
        ((s.ticStage ch (s.ticRec ch (stampShort v) 0 falling 2 1 (x.dcount + 1))).tcnt ch 1, none)
      else (s.setTic ch { x with dcount := 0 }, some (x.dcount + 1))

/-- The stamp v of a timed edge: gate, record, measurement, and a date's mark (R86, R90, R99, R494). -/
def ticStamp (s : State) (ch src : Nat) (falling : Bool) (v : Int) (dcount : Nat) : State :=
  let x := s.ticCh ch
  let s := (s.setTic ch { x with stamp := some v, prevStamp := x.stamp }).gateEdge ch (some v) false
  let s := s.ticStage ch (s.ticRec ch (stampShort v) (stampFrac v) falling 0 0 dcount)
  ((s.tcnt ch 0).stampMeas ch src v).markDate ch (v * 2 ^ 40).toNat

/-! ## Calibration (R95 to R98, R493) -/

/-- The reference that a channel's source is. -/
def ticRef (s : State) (ch : Nat) : Nat := s.get (F.REF_XBAR_SRC ch)

/-- One CAL_STALE anomaly of the channel, if it reports at all (R98, R492). -/
def calStale (s : State) (ch : Nat) : State :=
  if s.ticOn ch && s.ticRef ch < 24 then s.anomaly (s.ticRef ch) 7 else s

/-- Either stale flag of the channel. -/
def isStale (s : State) (ch : Nat) : Bool := s.on (F.TIC_CH_STAT_CSTALE ch) || s.on (F.TIC_CH_STAT_PSTALE ch)

/-- A stale flag sets: one CAL_STALE where none was set (R98). -/
def setStale (s : State) (ch : Nat) (cdc : Bool) : State :=
  let was := s.isStale ch
  let s := s.set (if cdc then F.TIC_CH_STAT_CSTALE ch else F.TIC_CH_STAT_PSTALE ch) 1
  if was then s else s.calStale ch

/-- A calibration window of a channel opens, or is skipped because one is open (R493). -/
def calOpen (s : State) (ch : Nat) (cdc : Bool) (retry : Nat) : State :=
  let x := s.ticCh ch
  if x.win.isSome then s.set (F.TIC_CH_STAT_CAL_SKIP ch) 1
  else
    let s := s.setTic ch { x with win := some ⟨cdc, s.ns, false, retry⟩ }
    let s := (s.set (F.TIC_CH_STAT_CAL_SKIP ch) 0).set (F.TIC_CH_STAT_CAL_ACTIVE ch) 1
    s.tcnt ch (if cdc then 7 else 6)

/-- A calibration window closes: one NO_STAMP record stands for the edges it covered, and counts the dead-time edges since the
record before it (R87, R88, R90). -/
def calClose (s : State) (ch : Nat) : State :=
  let x := s.ticCh ch
  let s := (s.setTic ch { x with win := none, nostamp := none }).set (F.TIC_CH_STAT_CAL_ACTIVE ch) 0
  match x.nostamp with
  | some (f, n, p) =>
    let v : Int := f - s.getI (F.TIC_PATH_PATH ch)
    let s := s.setTic ch { s.ticCh ch with dcount := 0 }
    (s.ticStage ch (s.ticRec ch (stampShort v) 0 p 2 2 (x.dcount + n))).tcnt ch 1
  | none => s

/-- An edge on the pin of source src, before selector and prescaler: the counter of an open path window sees it (R95). -/
def pinActivity (s : State) (src : Nat) : State :=
  match s.chOf src with
  | some ch =>
    (match (s.ticCh ch).win with
      | some w => if w.cdc then s else s.setTic ch { s.ticCh ch with win := some { w with active := true } }
      | none => s)
  | none => s

/-- The next retry of a path series, or its end (R95, R493). -/
def nextRetry (base j : Nat) : Option (Nat × Nat) := if j < 3 then some (base, j + 1) else none

/-- A path window's result is judged (R95, R97): `sum` is the sum over the 256 pulses of stamp without PATH minus injection
instant, 2^-16 ns; `span` says that a pulse read a code out of span. -/
def pathResult (s : State) (ch : Nat) (sum : Int) (span : Bool) : State :=
  let x := s.ticCh ch
  match x.win with
  | some w =>
    let base := match x.series with | some (b, _) => b | none => w.since
    let s := s.calClose ch
    let s := if span then s.set (F.TIC_CH_STAT_PATH_REJECT ch) 1 else s
    if w.active then
      let s := s.setTic ch { s.ticCh ch with series := nextRetry base w.retry }
      if w.retry < 3 then s
      else
        let s := (s.set (F.TIC_CH_STAT_CAL_BLOCKED ch) 1).tcnt ch 8
        if s.isStale ch then s.calStale ch else s
    else
      let s := s.setTic ch { s.ticCh ch with series := none }
      if span then s
      else
        let v := roundRat ((sum : Rat) / 256 - (s.get (F.TIC_TRIM_INJ_DLY ch) : Rat) * 16)
        let s := (s.setBoth (F.TIC_PATH_PATH ch) (ofSigned 32 v)).add (F.TIC_CH_STAT_CALGEN ch) 1
        let s := (s.set (F.TIC_CH_STAT_PSTALE ch) 0).set (F.TIC_CH_STAT_CAL_BLOCKED ch) 0
        let s := s.set (F.TIC_CH_STAT_PATH_REJECT ch) 0
        s.setTic ch { s.ticCh ch with pathAt := some (s.ns, s.tic.temp) }
  | none => s

/-- The width table of a histogram of N hits (R96): the shortfall from 2^24 goes to the widest code, the lowest of equals. -/
def widthTable (h : List Nat) (n : Nat) : List Nat :=
  let w := (List.range 4096).map (fun c => h.getD c 0 * 2 ^ 24 / n)
  let sum := w.foldl (fun a b => a + b) 0
  let best := (w.foldl (fun (b : Nat × Nat × Nat) v => if b.2.1 < v then (b.1 + 1, v, b.1) else (b.1 + 1, b.2.1, b.2.2)) (0, 0, 0)).2.2
  (List.range 4096).map (fun c => w.getD c 0 + (if c = best then 2 ^ 24 - sum else 0))

/-- A code-density window's histogram is judged (R96, R97); `timeout`: the window closed after 1 s. -/
def cdcResult (s : State) (ch : Nat) (h : List Nat) (timeout : Bool) : State :=
  let n := 2 ^ (20 + s.get F.TIC_CAL_CFG_HEXP)
  let hits := h.foldl (fun a b => a + b) 0
  let m := n / 4096
  let r := s.get F.TIC_CAL_CFG_MAXR
  let few := ((List.range 4096).filter (fun c => decide (h.getD c 0 * r < m))).length
  let bad := timeout || decide (hits < n) || h.any (fun v => decide (r * m < v)) || decide (s.get F.TIC_CAL_CFG_ZMAX < few)
  let s := s.calClose ch
  if bad then
    let s := ((s.set (F.TIC_CH_STAT_CDC_REJECT ch) 1).add (F.TIC_TRIM_RING ch) 1).tcnt ch 9
    if s.isStale ch then s.calStale ch else s
  else
    let s := ((s.set (F.TIC_CH_STAT_CDC_REJECT ch) 0).set (F.TIC_CH_STAT_CSTALE ch) 0).add (F.TIC_CH_STAT_CALGEN ch) 1
    s.setTic ch { s.ticCh ch with width := some (widthTable h n), cdcAt := some (s.ns, s.tic.temp) }

/-- A software value of TIC_PATH goes live (R98): age and temperature start anew. -/
def pathWritten (s : State) (ch : Nat) : State :=
  (s.setTic ch { s.ticCh ch with pathAt := some (s.ns, s.tic.temp) }).set (F.TIC_CH_STAT_PSTALE ch) 0

/-- Limit of age of a code-density or path calibration, ns (R98). -/
def maxAge (s : State) (cdc : Bool) : Nat :=
  if cdc then s.get F.TIC_CAL_CFG_CDC_MAXAGE * 3600000000000 else s.get F.TIC_CAL_CFG2_PATH_MAXAGE * 86400000000000

/-- When a calibration of a channel that is not yet stale exceeds its age, core ns. -/
def ageDue (s : State) (ch : Nat) (cdc : Bool) : Option Nat :=
  let x := s.ticCh ch
  if s.on (if cdc then F.TIC_CH_STAT_CSTALE ch else F.TIC_CH_STAT_PSTALE ch) then none
  else (if cdc then x.cdcAt else x.pathAt).map (fun p => p.1 + s.maxAge cdc + 1)

/-! ## Streaming (R93, R382) -/

/-- The channel's vector is signalled. -/
def ticSignal (s : State) (ch : Nat) : State :=
  (s.setTic ch { s.ticCh ch with sigHead := s.get (F.TIC_STRM_HEAD ch), sigAt := none }).msix 0 (3 + ch)

/-- The oldest queued record is written to the channel's host ring, unless it is full (R93). -/
def ticStream (s : State) (ch : Nat) : State :=
  let x := s.ticCh ch
  let log2 := s.get (F.TIC_STRM_LOG2 ch)
  let head := s.get (F.TIC_STRM_HEAD ch)
  let used := (head + 2 ^ 32 - s.get (F.TIC_STRM_TAIL ch)) % 2 ^ 32
  match x.queue with
  | r :: t =>
    if s.get (F.TIC_CH_CFG_QMODE ch) = 1 && (s.fn 0).bme && decide (used < 2 ^ log2 - 1) then
      let base := s.get (F.TIC_STRM_BASE ch) / 4096 * 4096
      let s := s.emitOut (.hostWrite 0 (base + 16 * (head % 2 ^ log2)) 16 (packTic ch r))
      let s := (s.setTic ch { x with queue := t, sigAt := x.sigAt.orElse (fun _ => some s.ns) }).set
        (F.TIC_CH_STAT_FILL ch) t.length
      let s := (s.add (F.TIC_STRM_HEAD ch) 1).tcnt ch 10
      if 2 ^ (log2 - 2) ≤ (head + 1 + 2 ^ 32 - x.sigHead) % 2 ^ 32 then s.ticSignal ch else s
    else s
  | [] => s

/-- A scheduled path window of a channel, its series counted from an instant in core ns (R95); a disabled channel opens none
(R492). -/
def pathWindow (s : State) (ch at_ : Nat) : State :=
  if !s.ticOn ch then s
  else
    let s := if (s.ticCh ch).win.isSome then s else s.setTic ch { s.ticCh ch with series := none }
    let s := s.calOpen ch false 0
    if (s.ticCh ch).win = some ⟨false, s.ns, false, 0⟩ then s.setTic ch { s.ticCh ch with series := some (at_, 0) } else s

/-- A scheduled code-density window of a channel. -/
def cdcWindow (s : State) (ch : Nat) : State := if s.ticOn ch then s.calOpen ch true 0 else s

end State

/-- TIC_RECORD_QUEUE (R89): the shared writer takes the oldest staged record of channel ch, whose turn it is. -/
def execTicRecordQueue (ch : Nat) (s : State) : Host.Outcome State Fault Refusal :=
  .next (if s.ticTurn = some ch then { s.ticWriter ch with tic := { (s.ticWriter ch).tic with turn := (ch + 1) % 16 } } else s)

/-- TIC_OVERFLOW_RECORD (R91). -/
def execTicOverflowRecord (ch : Nat) (s : State) : Host.Outcome State Fault Refusal := .next (s.ticOverflow ch)

/-- TIC_STREAM_WRITE (R93). -/
def execTicStreamWrite (ch : Nat) (s : State) : Host.Outcome State Fault Refusal := .next (s.ticStream ch)

/-- MSIX_TIC_STREAM_TIMEOUT (R382): 1 ms after an unsignalled streamed record. -/
def execMsixTicStreamTimeout (ch : Nat) (s : State) : Host.Outcome State Fault Refusal :=
  .next (match (s.ticCh ch).sigAt with
    | some t => if s.time.running then (s.runTo (t + 1000000)).ticSignal ch else s
    | none => s)

/-- PATH_WINDOW_END (R95): 100 µs after it opened, a path window closes and its result is judged. -/
def execPathWindowEnd (ch : Nat) (sum : Int) (span : Bool) (s : State) : Host.Outcome State Fault Refusal :=
  .next (match (s.ticCh ch).win with
    | some w => if w.cdc || !s.time.running then s else (s.runTo (w.since + 100000)).pathResult ch sum span
    | none => s)

/-- PATH_RETRY (R95): a retry of the series falls due; it is skipped while a window is open or the channel is disabled
(R492, R493). -/
def execPathRetry (ch : Nat) (s : State) : Host.Outcome State Fault Refusal :=
  .next (match (s.ticCh ch).series with
    | some (base, j) =>
      let own := match (s.ticCh ch).win with | some w => !w.cdc && w.retry = j | none => false
      if s.time.running && j ≠ 0 && !own then
        let s := s.runTo (base + j * s.get F.TIC_CAL_CFG2_PATH_RETRY * 1000000)
        let x := s.ticCh ch
        if x.win.isSome then (s.setTic ch { x with series := State.nextRetry base j }).set (F.TIC_CH_STAT_CAL_SKIP ch) 1
        else if !s.ticOn ch then s.setTic ch { x with series := State.nextRetry base j }
        else s.calOpen ch false j
      else s
    | none => s)

/-- CDC_WINDOW_END (R96): a code-density window closes with its histogram, at N hits or 1 s after it opened. It collects no
more than N hits. -/
def execCdcWindowEnd (ch : Nat) (hist : List Nat) (s : State) : Host.Outcome State Fault Refusal :=
  .next (match (s.ticCh ch).win with
    | some w =>
      let n := 2 ^ (20 + s.get F.TIC_CAL_CFG_HEXP)
      let hits := hist.foldl (fun a b => a + b) 0
      if w.cdc && s.time.running && decide (hits ≤ n) then
        if hits = n && decide (s.ns ≤ w.since + 1000000000) then s.cdcResult ch hist false
        else (s.runTo (w.since + 1000000000)).cdcResult ch hist true
      else s
    | none => s)

/-- CAL_AGE_EXPIRY (R98): the age of a channel's calibration exceeds its limit. -/
def execCalAgeExpiry (ch : Nat) (s : State) : Host.Outcome State Fault Refusal :=
  .next (
    if !s.time.running then s
    else match s.ageDue ch true, s.ageDue ch false with
      | some a, some b => if a ≤ b then (s.runTo a).setStale ch true else (s.runTo b).setStale ch false
      | some a, none => (s.runTo a).setStale ch true
      | none, some b => (s.runTo b).setStale ch false
      | none, none => s)

/-- CAL_TEMP_DRIFT (R98): the TIC-bank temperature reaches `temp` (1/16 °C), past a limit of the channel. -/
def execCalTempDrift (ch : Nat) (temp : Int) (s : State) : Host.Outcome State Fault Refusal :=
  .next (
    let s := { s with tic := { s.tic with temp := temp } }
    let x := s.ticCh ch
    let past (p : Option (Nat × Int)) (lim : Nat) : Bool :=
      match p with | some (_, t) => decide (lim * 16 < (temp - t).natAbs) | none => false
    let s := if past x.cdcAt (s.get F.TIC_CAL_CFG_CDC_DT) && !s.on (F.TIC_CH_STAT_CSTALE ch) then s.setStale ch true else s
    if past x.pathAt (s.get F.TIC_CAL_CFG2_PATH_DT) && !s.on (F.TIC_CH_STAT_PSTALE ch) then s.setStale ch false else s)

/-- GATE_LONG_CLOSE (R100): a gate still open after 10,000 s closes with LONG. -/
def execGateLongClose (ch : Nat) (s : State) : Host.Outcome State Fault Refusal :=
  .next (match (s.ticCh ch).gate with
    | some g => if s.time.running then (s.runTo ((g.start / 65536).toNat + 10000000000000)).gateEnd ch true else s
    | none => s)

end Sys2Proof.Machine
end

