-- ==== Sys2Proof/Machine/Operands.lean ====
section
/-!
DEFINITION. Sys2Proof/Machine/Operands.lean: the operand fields of Planish instruction words (R341), which words are ILLEGAL
(R343), and how operands are read and written (R336).
-/

namespace Sys2Proof.Machine

/-! ## Fields of a word (R341) -/

/-- The opcode. -/
def pOp (w : Nat) : Nat := bitsOf w 26 6
/-- Bits [25:22]: rd, rs of a store, ra of a branch. -/
def pRd (w : Nat) : Nat := bitsOf w 22 4
/-- Bits [21:18]: ra, rb of a branch. -/
def pRa (w : Nat) : Nat := bitsOf w 18 4
/-- Bits [17:14]: rb. -/
def pRb (w : Nat) : Nat := bitsOf w 14 4
/-- The 18-bit immediate or offset, zero-extended and sign-extended. -/
def pImm (w : Nat) : Nat := bitsOf w 0 18
def pImmS (w : Nat) : Int := toSigned 18 (pImm w)
/-- The target word of a jump. -/
def pTarget (w : Nat) : Nat := bitsOf w 0 11

/-- How a word's operand bits are laid out (R341). -/
inductive PFmt where
  | R | I | B | J
  deriving DecidableEq, Repr

/-- Format of an opcode; none for a reserved one (R342). -/
def pFmt (op : Nat) : Option PFmt :=
  if (0x01 ≤ op ∧ op ≤ 0x0E) ∨ op = 0x28 ∨ (0x33 ≤ op ∧ op ≤ 0x35) ∨ op = 0x3E then some .R
  else if (0x10 ≤ op ∧ op ≤ 0x15) ∨ (0x18 ≤ op ∧ op ≤ 0x1B) ∨ op = 0x2A ∨ (0x2C ≤ op ∧ op ≤ 0x2E) ∨
      (0x30 ≤ op ∧ op ≤ 0x32) ∨ (0x38 ≤ op ∧ op ≤ 0x3A) ∨ op = 0x3C ∨ op = 0x3D then some .I
  else if 0x20 ≤ op ∧ op ≤ 0x25 then some .B
  else if op = 0x26 ∨ op = 0x27 then some .J
  else none

/-- A pair operand or pair result names an odd register (R336, R343). -/
def pOddPair (w : Nat) : Bool :=
  let odd (r : Nat) : Bool := r % 2 = 1
  match pOp w with
  | 0x0C => odd (pRd w) || odd (pRa w) || odd (pRb w)
  | 0x0D => odd (pRd w) || odd (pRa w) || odd (pRb w)
  | 0x0E => odd (pRa w) || odd (pRb w)
  | 0x34 => odd (pRd w)
  | 0x3C => pImm w = 0 && odd (pRd w)
  | 0x3D => odd (pRa w)
  | _ => false

/-- The word is ILLEGAL (R343). -/
def pIllegal (w : Nat) : Bool :=
  match pFmt (pOp w) with
  | none => true
  | some f =>
    (match f with
      | .R => decide (bitsOf w 0 14 ≠ 0)
      | .J => decide (bitsOf w 11 15 ≠ 0)
      | _ => false) || pOddPair w ||
    (match pOp w with
      | 0x15 => decide (pRa w ≠ 0)
      | 0x2E => decide (6 < pImm w)
      | 0x3C => decide (1 < pImm w)
      | 0x3D => decide (1 < pImm w)
      | _ => false)

namespace State

/-! ## Registers of an engine (R336) -/

/-- Gr of engine e; G0 reads 0. -/
def g (s : State) (e r : Nat) : Nat := if r = 0 then 0 else s.get (F.ENG_G_VALUE e r)

/-- Gr of engine e as a signed number. -/
def gI (s : State) (e r : Nat) : Int := toSigned 32 (s.g e r)

/-- Gr of engine e written; a write to G0 is discarded. -/
def setG (s : State) (e r v : Nat) : State := if r = 0 then s else s.set (F.ENG_G_VALUE e r) v

/-- A register pair: Gd low, Gd+1 high. -/
def pairG (s : State) (e r : Nat) : Nat := s.g e r + 2 ^ 32 * s.g e (r + 1)

/-- A register pair written, modulo 2^64. -/
def setPairG (s : State) (e r v : Nat) : State := (s.setG e r v).setG e (r + 1) (v / 2 ^ 32)

/-- The program counter. -/
def pc (s : State) (e : Nat) : Nat := s.get (F.ENG_PC_PC e)

/-- The program counter set, modulo 2^11. -/
def setPc (s : State) (e v : Nat) : State := s.set (F.ENG_PC_PC e) v

/-- The program counter past the instruction. -/
def pcNext (s : State) (e : Nat) : State := s.setPc e (s.pc e + 1)

/-- A branch with offset off: PC + 1 + off, modulo 2^11 (R341). -/
def pcBranch (s : State) (e : Nat) (off : Int) : State := s.setPc e ((s.pc e + 1 + off) % 2 ^ 11).toNat

/-- An address ra + imm, modulo 2^32. -/
def pAddr (s : State) (e w : Nat) : Nat := ((s.g e (pRa w) + pImmS w) % 2 ^ 32).toNat

end State

end Sys2Proof.Machine
end

