-- ==== Sys2Proof/Machine/TodText.lean ====
section
/-!
DEFINITION. Sys2Proof/Machine/TodText.lean: the time-of-day messages that Celmir's parsers on engine 10 read (R83, R84), and the
pulses of an IRIG-B frame (R85).
-/

namespace Sys2Proof.Machine

/-- What a parser makes of a message: nothing, a CHECK, or bytes 0 to 17 of a ToD record. -/
inductive TodParse where
  | drop
  | check
  | record (bytes : Nat)
  deriving DecidableEq, Repr

/-- A number's bytes, most significant first. -/
def msbBytes (l : List Nat) : Nat := l.foldl (fun v b => v * 256 + b % 256) 0

/-- The CRC-16 register of R83 after one byte: polynomial 0x1021, no reflection. -/
def crc16Byte (crc b : Nat) : Nat :=
  (List.range 8).foldl (fun c _ => if 0x8000 ≤ c then Nat.xor (c * 2 % 65536) 0x1021 else c * 2) (Nat.xor crc (b % 256 * 256))

/-- The CRC-16 of R83. -/
def crc16 (l : List Nat) : Nat := l.foldl crc16Byte 0xFFFF

/-- Bytes 0 to 17 of a ToD record from its fields (R80). -/
def todBytes (sec scale flags off leap qual teb tag : Nat) : Nat :=
  pack 0 [(0, 6, sec), (6, 1, scale), (7, 1, flags), (8, 2, off), (10, 1, leap), (11, 1, qual), (12, 4, teb), (16, 2, tag)]

/-- A Celmir binary ToD message (R83), 6 bytes longer than its LENGTH. One of another type is dropped without count. -/
def parseBinary (l : List Nat) : TodParse :=
  let f (i n : Nat) : Nat := msbBytes ((l.drop i).take n)
  if f 0 2 ≠ 0xC53A || f 2 1 ≠ 1 then .drop
  else if f 3 1 ≠ 20 || crc16 ((l.drop 2).take 22) ≠ f 24 2 then .check
  else .record (todBytes (f 4 6) (f 10 1) (f 11 1) (f 12 2) (f 14 1) (f 15 1) (f 16 4) (f 20 2))

/-- A digit of a base up to 16, capitals only. -/
def digitOf (base c : Nat) : Option Nat :=
  let d := if 48 ≤ c ∧ c ≤ 57 then c - 48 else if 65 ≤ c ∧ c ≤ 70 then c - 55 else 16
  if d < base then some d else none

/-- A number of n to m digits of a base. -/
def numOf (base n m : Nat) (l : List Nat) : Option Nat :=
  if n ≤ l.length && l.length ≤ m then
    l.foldl (fun v c => match v, digitOf base c with | some v, some d => some (v * base + d) | _, _ => none) (some 0)
  else none

/-- A number within a limit. -/
def below (lim : Nat) (v : Option Nat) : Option Nat := v.filter (fun x => decide (x < lim))

/-- A list cut at every comma. -/
def fieldsOf (l : List Nat) : List (List Nat) :=
  l.foldr (fun c r => if c = 44 then [] :: r else match r with | h :: t => (c :: h) :: t | [] => [[c]]) [[]]

/-- A signed decimal as 16 bits. -/
def signed16 (l : List Nat) : Option Nat :=
  match l with
  | 45 :: t => (below 32769 (numOf 10 1 5 t)).map (fun v => (65536 - v) % 65536)
  | 43 :: t => below 32768 (numOf 10 1 5 t)
  | t => below 32768 (numOf 10 1 5 t)

/-- SCALE by its name: UTC, TAI or GPS. -/
def scaleName (l : List Nat) : Option Nat :=
  if l = [85, 84, 67] then some 0 else if l = [84, 65, 73] then some 1 else if l = [71, 80, 83] then some 2 else none

/-- LEAP by its sign: 0, + or −. -/
def leapSign (l : List Nat) : Option Nat :=
  if l = [48] then some 0 else if l = [43] then some 1 else if l = [45] then some 2 else none

/-- The eight fields of a sentence after its name. -/
def ctodFields (fs : List (List Nat)) : Option Nat :=
  match fs with
  | [sec, sc, off, leap, qual, teb, tag, flags] =>
    match below (2 ^ 48) (numOf 10 1 15 sec), scaleName sc, signed16 off, leapSign leap, below 256 (numOf 10 1 3 qual),
        numOf 16 8 8 teb, numOf 16 4 4 tag, numOf 16 2 2 flags with
    | some a, some b, some c, some d, some e, some f, some g, some h => some (todBytes a b h c d e f g)
    | _, _, _, _, _, _, _, _ => none
  | _ => none

/-- A Celmir ASCII ToD sentence (R84): `$CTOD,` fields, `*`, the XOR of what stands between, CR LF. The 96 characters are counted
from `$` to LF; a sentence of another name is dropped without count (DESIGN CHOICE, both). -/
def parseAscii (l : List Nat) : TodParse :=
  if l.take 6 ≠ [36, 67, 84, 79, 68, 44] then .drop
  else
    let body := (l.drop 1).takeWhile (fun c => c ≠ 42)
    let tail := (l.drop 1).dropWhile (fun c => c ≠ 42)
    let cs := match tail with
      | [42, a, b, 13, 10] => numOf 16 2 2 [a, b]
      | _ => none
    if 96 < l.length || cs ≠ some (body.foldl Nat.xor 0) then .check
    else match ctodFields ((fieldsOf body).drop 1) with
      | some r => .record r
      | none => .check

/-- What stands at the front of a parser's characters. -/
inductive TodScan where
  | more
  | msg (n : Nat) (r : TodParse)
  deriving DecidableEq, Repr

/-- The message at the front, by its format (R83, R84): n characters and what becomes of them. A binary message is as long as its
LENGTH says, an ASCII one ends at LF; 97 characters without one are a sentence too long. Anything else between messages is passed over
(DESIGN CHOICE: neither rule says how the parser finds a message again). -/
def scanTod (l : List Nat) : TodScan :=
  match l with
  | [] => .more
  | 36 :: t =>
    let n := (t.takeWhile (fun c => c ≠ 10)).length
    if n < t.length then .msg (n + 2) (parseAscii (l.take (n + 2)))
    else if 96 < l.length then .msg l.length (parseAscii l) else .more
  | 0xC5 :: 0x3A :: t =>
    (match t with
      | _ :: n :: _ => if l.length < n + 6 then .more else .msg (n + 6) (parseBinary (l.take (n + 6)))
      | _ => .more)
  | [0xC5] => .more
  | _ :: _ => .msg 1 .drop

/-! ## IRIG-B (R85) -/

/-- An element by its high time in ns: 0, 1, 2 for a marker, 3 for an error. A width on a limit between two counts as the longer
one (DESIGN CHOICE). -/
def irigClass (w : Nat) : Nat :=
  if w < 1000000 then 3 else if w < 3500000 then 0 else if w < 6500000 then 1 else if w ≤ 9000000 then 2 else 3

/-- The elements of a frame are whole, with markers where a frame has them. -/
def irigWhole (l : List Nat) : Bool :=
  l.length = 100 && (List.range 100).all (fun i => (l.getD i 3 = 2) == (i = 0 || i % 10 = 9) && l.getD i 3 ≠ 3)

/-- n bits of a frame from element i on, the lowest first. -/
def irigBits (l : List Nat) (i n : Nat) : Nat :=
  (List.range n).foldl (fun v k => v + l.getD (i + k) 0 * 2 ^ k) 0

/-- Seconds, minutes, hours, day of year and two-digit year of a frame: the BCD fields at the places of the frame that the outputs
send (PRESUMED: IRIG standard 200). -/
def irigFields (l : List Nat) : Nat × Nat × Nat × Nat × Nat :=
  (irigBits l 1 4 + 10 * irigBits l 6 3, irigBits l 10 4 + 10 * irigBits l 15 3, irigBits l 20 4 + 10 * irigBits l 25 2,
    irigBits l 30 4 + 10 * irigBits l 35 4 + 100 * irigBits l 40 2, irigBits l 50 4 + 10 * irigBits l 55 4)

/-- A reading of a frame is the one that its elements give: whether it is whole, its fields if so, and the two-digit year where the
stream has one (`year`). -/
def irigTold (l : List Nat) (ok : Bool) (sec min hour doy : Nat) (year : Option Nat) : Bool :=
  let f := irigFields l
  ok == irigWhole l && (!ok || (decide (f = (sec, min, hour, doy, f.2.2.2.2)) && year.all (fun y => y = f.2.2.2.2)))

end Sys2Proof.Machine
end

