-- ==== Sys2Proof/Machine/Refin.lean ====
section
/-!
DEFINITION. Sys2Proof/Machine/Refin.lean: reference inputs: sources and their loss timers, status ports, UART characters and
time-of-day inputs (R69 to R85, R346, R347).
-/

namespace Sys2Proof.Machine

namespace State

/-! ## Sources (R73 to R75) -/

/-- A source's own state. -/
def src (s : State) (n : Nat) : SrcSt := (alGet s.refin.srcs n).getD ⟨0, 0, false, 0⟩

/-- The state with a source's own state replaced. -/
def setSrc (s : State) (n : Nat) (x : SrcSt) : State := { s with refin := { s.refin with srcs := alSet s.refin.srcs n x } }

/-- EN = 1 goes live on a REFIN source, or a SyncE source's clock appears: LOS until the first edge for a REFIN, prescaler
count 0, the loss timer of a REFIN starts (R73, R75). -/
def srcEnable (s : State) (n : Nat) : State :=
  let s := (s.set (F.REF_SRC_STAT_PRESENT n) 1).setB (F.REF_SRC_STAT_LOS n) (decide (n < 16))
  s.setSrc n ⟨0, s.ns, decide (n < 16), s.ns⟩

/-- The IRIG-B decoder of a REFIN (R85). -/
def irig (s : State) (n : Nat) : IrigSt := (alGet s.refin.irigs n).getD ⟨none, none, false, none, [], none⟩

/-- The state with a decoder's own state replaced. -/
def setIrig (s : State) (n : Nat) (x : IrigSt) : State := { s with refin := { s.refin with irigs := alSet s.refin.irigs n x } }

/-- EN = 0 goes live, or a SyncE clock is gated off (R73, R74). -/
def srcDisable (s : State) (n : Nat) : State :=
  let s := { s with refin := { s.refin with irigs := s.refin.irigs.filter (fun p => p.1 ≠ n) } }
  let s := (s.set (F.REF_SRC_STAT_PRESENT n) 0).set (F.REF_SRC_STAT_LOS n) 1
  s.setSrc n { s.src n with armed := false }

/-- The SyncE source of a port follows its PCS lock (R73, R74); the SPR-A932 has none at ports 4 to 7. -/
def synceLock (s : State) (p : Nat) (lock : Bool) : State :=
  if 8 ≤ p || (s.part.small && 4 ≤ p) then s
  else if lock = s.on (F.REF_SRC_STAT_PRESENT (16 + p)) then s
  else if lock then s.srcEnable (16 + p) else s.srcDisable (16 + p)

/-- The edge selector takes the edge (R75). -/
def edgeTaken (s : State) (n : Nat) (falling : Bool) : Bool :=
  let e := s.get (F.REF_IN_PRE_EDGE n)
  e = 2 || (e = 0 && !falling) || (e = 1 && falling)

/-! ## Time-of-day records (R80 to R82, R136) -/

/-- A ToD slot's own state. -/
def tod (s : State) (i : Nat) : TodSt := (alGet s.refin.tods i).getD ⟨[], 0, []⟩

/-- The state with a ToD slot's own state replaced. -/
def setTod (s : State) (i : Nat) (x : TodSt) : State := { s with refin := { s.refin with tods := alSet s.refin.tods i x } }

/-- UART bits of a port: the APORTs 0 to 3, then the TODIN slots (R78): EN, DIV, PARITY, STOP2 and DATA7. -/
def uartCfg (s : State) (u : Nat) : Nat :=
  if u < 4 then s.get (F.REF_APORT_CFG_EN u) + 2 * s.get (F.REF_APORT_CFG_DIV u) + 2 ^ 17 * s.get (F.REF_APORT_CFG_PARITY u) +
    2 ^ 19 * s.get (F.REF_APORT_CFG_STOP2 u) + 2 ^ 20 * s.get (F.REF_APORT_CFG_DATA7 u)
  else s.get (F.REF_TOD_CFG_UART (u - 4))

/-- The UART, or the slot, is enabled. -/
def uartOn (s : State) (u : Nat) : Bool := bitOf (s.uartCfg u) 0

/-- Time of one character of a UART configuration, ns: start bit, data, parity and stop bits of 16 × DIV ns (R78). -/
def charNs (cfg : Nat) : Nat :=
  let bits := 1 + (if bitOf cfg 20 then 7 else 8) + (if bitsOf cfg 17 2 = 0 then 0 else 1) + (if bitOf cfg 19 then 2 else 1)
  bits * 16 * bitsOf cfg 1 16

/-- A message dropped under R81, R83, R84 or R85. -/
def todCheck (s : State) (u : Nat) : State := s.addSat (F.REF_UART_STAT_CHECK u) 1

/-- The record of a slot is replaced (R80): bytes 0 to 17 as sent, EDGE, PAIR. A reserved LEAP is treated as 0. -/
def todRecord (s : State) (i rec_ edge pairing : Nat) : State :=
  let r := rec_ % 2 ^ 144
  let r := if 2 < cellBytes r 10 1 then r - cellBytes r 10 1 * 2 ^ 80 else r
  s.set (F.REF_TOD_ST_RECORD i) (r + edge % 2 ^ 64 * 2 ^ 160 + pairing * 2 ^ 224)

/-- A message that cannot be paired (R81): recorded, with one TOD_MISMATCH. The table gives EDGE of a paired record only: it
reads 0 here (DESIGN CHOICE). -/
def todUnpaired (s : State) (i rec_ pairing : Nat) : State := (s.todRecord i rec_ 0 pairing).anomaly (24 + i) 4

/-- The TAI second that a record names: its SEC converted with its UTC_OFF (R136). -/
def todTai (rec_ : Nat) : Int :=
  let sec : Int := cellBytes rec_ 0 6
  match cellBytes rec_ 6 1 with
  | 0 => sec + toSigned 16 (cellBytes rec_ 8 2)
  | 1 => sec
  | _ => sec + 19

/-- A message is paired with an edge stamped v (2^-16 ns): the record, its count, and the measurement of reference 24 + i
(R81, R82, R136, R494). -/
def todPaired (s : State) (i rec_ : Nat) (v : Int) : State :=
  let s := s.todRecord i rec_ (stampShort v) 0
  let s := (s.setTod i { s.tod i with last := s.ns }).count (0x078 + i)
  let fl := cellBytes rec_ 7 1
  let named := todTai rec_
  let dated := bitOf fl 0 && !bitOf fl 2
  let sec := (v + secQ / 2) / secQ
  let m := s.measOf (24 + i) (ofFloat (cellBytes rec_ 12 4))
  s.deliver { m with off := some (wrapOff secQ v)
                     abs := if dated then some (v - named * secQ) else none
                     tod := if bitOf fl 2 then none else some (named.toNat, sec.toNat, toSigned 16 (cellBytes rec_ 8 2)) }

/-- A message that names the previous edge (R81): its first character arrives 1 ms to 900 ms after that edge. PAIR is 2 where an
earlier stamp is known, however old, and 1 where there is none (DESIGN CHOICE: the rule does not say which of the two a message
later than 900 ms after the last edge has). -/
def todPrevious (s : State) (i rec_ tFirst : Nat) : State :=
  let x := match s.chOf (s.get (F.REF_TOD_CFG_PPS_IN i)) with
    | some ch => if s.ticOn ch then some (s.ticCh ch) else none
    | none => none
  let before : Option Int := match x with
    | some x =>
      match x.stamp, x.prevStamp with
      | some v, p => if v ≤ (tFirst : Int) * 65536 then some v else p
      | none, _ => none
    | none => none
  match before with
  | some v =>
    let d : Int := (tFirst : Int) * 65536 - v
    if 1000000 * 65536 ≤ d ∧ d ≤ 900000000 * 65536 then s.todPaired i rec_ v else s.todUnpaired i rec_ 2
  | none => s.todUnpaired i rec_ 1

/-- Messages that name the next edge meet it (R81): the last character 10 ms to 900 ms before it. -/
def todNext (s : State) (i : Nat) (v : Int) : State :=
  let l := (s.tod i).msgs
  l.foldl (fun s p =>
    let d : Int := v - (p.2 : Int) * 65536
    if 10000000 * 65536 ≤ d ∧ d ≤ 900000000 * 65536 then s.todPaired i p.1 v else s.todUnpaired i p.1 2)
    (s.setTod i { s.tod i with msgs := [] })

/-- A message of slot i is taken (R80, R81): short times of its first character's start and its last character's end. -/
def todMessage (s : State) (i rec_ tFirst tLast : Nat) : State :=
  if 2 < cellBytes rec_ 6 1 then s.todCheck (4 + i)
  else if s.on (F.REF_TOD_CFG_REFERS i) then
    s.setTod i { s.tod i with msgs := (s.tod i).msgs ++ [(rec_, (s.unshort tLast).toNat)] }
  else s.todPrevious i rec_ (s.unshort tFirst).toNat

/-! ## APORTs (R79, R136) -/

/-- An APORT's own state. -/
def aport (s : State) (a : Nat) : AportSt := (alGet s.refin.aports a).getD ⟨0, none⟩

/-- The state with an APORT's own state replaced. -/
def setAport (s : State) (a : Nat) (x : AportSt) : State :=
  { s with refin := { s.refin with aports := alSet s.refin.aports a x } }

/-- One STATUS_ALARM for every reference that the image associates with an APORT: the members of its clock (R79). -/
def statusAlarm (s : State) (a : Nat) : State :=
  (s.refin.aportClk.filter (fun p => p.1 = a)).foldl (fun s p => s.anomalyMembers p.2 6) s

/-- EN = 1 goes live on an APORT: its timeout starts (R79). -/
def aportEnable (s : State) (a : Nat) : State := s.setAport a ⟨s.ns, none⟩

/-- EN = 0 goes live on an APORT (R79). -/
def aportDisable (s : State) (a : Nat) : State :=
  ((s.set (F.REF_APORT_ST_VALID a) 0).set (F.REF_APORT_ST_STALE a) 0).setAport a ⟨s.ns, none⟩

/-- A valid status message (R79), and the TUNE_STEP check of R136. One that reports ALARM or no LOCK and also exceeds TUNE_STEP
raises one STATUS_ALARM for each of the two (DESIGN CHOICE: 'never two' of R79 is read of ALARM and LOCK). -/
def aportMessage (s : State) (a : Nat) (lock alarm : Bool) (temp tune : Nat) : State :=
  if !s.on (F.REF_APORT_CFG_EN a) then s
  else
    let old := (s.aport a).tune
    let t := toSigned 32 tune
    let s := (s.setB (F.REF_APORT_ST_LOCK a) lock).setB (F.REF_APORT_ST_ALARM a) alarm
    let s := (s.set (F.REF_APORT_ST_VALID a) 1).set (F.REF_APORT_ST_STALE a) 0
    let s := (s.set (F.REF_APORT_ST_TEMP a) temp).set (F.REF_APORT_ST_TUNE a) tune
    let s := (s.set (F.REF_APORT_ST_MSG_TIME a) s.short).setAport a ⟨s.ns, some t⟩
    let s := if alarm || !lock then s.statusAlarm a else s
    match old with
    | some o => if s.get F.ASY_TUNE_STEP_TUNE_STEP < (t - o).natAbs then s.statusAlarm a else s
    | none => s

/-! ## UARTs (R78, R346) -/

/-- Characters of a UART. -/
def uart (s : State) (u : Nat) : UartSt := (alGet s.refin.uarts u).getD ⟨[]⟩

/-- The state with a UART's characters replaced. -/
def setUart (s : State) (u : Nat) (x : UartSt) : State := { s with refin := { s.refin with uarts := alSet s.refin.uarts u x } }

/-- The CHARS cell of some characters (R346): `len` is the time of one character. -/
def charsCell (u cns : Nat) (l : List (Nat × Bool × Nat)) : Cell :=
  let n := l.length
  let first := (l.headD (0, false, 0)).2.2 - cns
  let last := (l.getLastD (0, false, 0)).2.2
  let bad := ((List.range n).zip l).foldl (fun a p => if p.2.2.1 then a + 2 ^ p.1 else a) 0
  let cs := ((List.range n).zip l).foldl (fun a p => a + p.2.1 % 256 * 2 ^ (8 * p.1)) 0
  ⟨1, 44 + n, pack 0 [(0, 1, u), (1, 1, n), (4, 8, first), (12, 8, last), (20, 24, bad), (44, n, cs)]⟩

/-- The characters of a CHARS cell with their BAD marks and the cell's T_FIRST. -/
def cellChars (c : Cell) : List (Nat × Bool × Nat) :=
  (List.range (cellBytes c.bytes 1 1)).map (fun k => (cellBytes c.bytes (44 + k) 1, bitOf (cellBytes c.bytes 20 24) k, cellBytes c.bytes 4 8))

/-- Celmir's parser takes the whole messages at the front of what slot i holds, at most so many (R83, R84). A message runs from T_FIRST
of the cell that its first character came in to T_LAST of that of its last, and one with a character marked BAD is a CHECK (DESIGN
CHOICE, both: CHARS gives no other times, and R78 says only that the parser gets the mark). -/
def parseText : Nat → State → Nat → Nat → State
  | 0, s, _, _ => s
  | k + 1, s, i, last =>
    let l := (s.tod i).text
    match scanTod (l.map Prod.fst) with
    | .more => s
    | .msg n r =>
      let m := l.take n
      let s := s.setTod i { s.tod i with text := l.drop n }
      parseText k (match r with
        | .drop => s
        | .check => s.todCheck (4 + i)
        | .record b =>
          if m.any (fun x => x.2.1) then s.todCheck (4 + i) else s.todMessage i b (m.headD (0, false, 0)).2.2 last) i last

/-- Celmir's parser, running on engine 10, takes the next CHARS cell of a ToD slot (R80, R83, R84, R346). -/
def celmirParse (s : State) : State :=
  let x := s.engine 10
  if !s.engTakes 10 || x.outQ ≠ [] then s
  else match x.cells.find? (fun c => c.typ = 1 && bitOf (cellBytes c.bytes 0 1) 2) with
    | some c =>
      let i := cellBytes c.bytes 0 1 % 4
      let s := s.setEngine 10 { x with cells := x.cells.erase c }
      if s.uartOn (4 + i) && s.get (F.REF_TOD_CFG_SRC i) = 0 then
        let l := (s.tod i).text ++ cellChars c
        parseText l.length (s.setTod i { s.tod i with text := l }) i (cellBytes c.bytes 12 8)
      else s
    | none => s

/-! ## Edges (R85, R86) -/

/-- The IRIG-B decoder of a REFIN of that kind sees an edge on its pin: a falling edge ends an element. The on-time edge of a
frame is the leading edge of the second of two consecutive markers; an element of another width ends the frame (R85). -/
def irigEdge (s : State) (n : Nat) (falling : Bool) : State :=
  if 16 ≤ n || s.get (F.REF_IN_CFG_KIND n) ≠ 3 then s
  else
    let x := s.irig n
    if !falling then s.setIrig n { x with rise := some s.ns, lead := none }
    else match x.rise with
      | none => s
      | some r =>
        let c := irigClass (s.ns - r)
        let x := { x with rise := none, mark := decide (c = 2) }
        match (s.irig n).onTime with
        | some on =>
          let el := x.elems ++ [c]
          if c = 3 || 100 ≤ el.length then s.setIrig n { x with onTime := none, elems := [], done := some (el, on.1, on.2) }
          else s.setIrig n { x with elems := el }
        | none =>
          if c = 2 && (s.irig n).mark then s.setIrig n { x with onTime := some (r, x.lead), elems := [2] } else s.setIrig n x

/-- The stamp v of an edge of a source goes to its channel, to the IRIG-B decoder if it is a leading edge, and to the ToD messages
that name it (R81, R85, R86). -/
def stamped (s : State) (ch src : Nat) (falling : Bool) (v : Int) (dcount : Nat) : State :=
  let s := s.ticStamp ch src falling v dcount
  let s := if falling || (s.irig src).rise.isNone then s else s.setIrig src { s.irig src with lead := some v }
  ([0, 1, 2, 3].filter (fun i => s.uartOn (4 + i) && s.get (F.REF_TOD_CFG_PPS_IN i) = src &&
    s.on (F.REF_TOD_CFG_REFERS i))).foldl (fun s i => s.todNext i v) s

/-- An edge after the prescaler reaches the channel that its source is routed to: its stamp, now or once the coming tick boundary
has given the reading and addend of the cycle where charging stops (R86). -/
def channelEdge (s : State) (src : Nat) (falling : Bool) (code : Nat) : State :=
  match s.chOf src with
  | some ch =>
    if s.ticOn ch then
      match s.ticEdge ch falling code with
      | (s, some n) =>
        if s.overBoundary then { s with tic := { s.tic with cross := s.tic.cross ++ [⟨ch, src, falling, code, s.time.cyc, n⟩] } }
        else s.stamped ch src falling (s.stampOf ch code 2) n
      | (s, none) => s
    else s
  | none => s

/-- After a tick boundary, the stamps of the edges whose charging it met (R86). Such a stamp is taken in the tick that the boundary
begins (R36, DEDUCED). -/
def crossStamps (s : State) : State :=
  s.tic.cross.foldl (fun s c =>
    if s.ticOn c.ch then s.stamped c.ch c.src c.falling (s.stampOf c.ch c.code (c.cyc + 2 - s.time.cyc)) c.dcount else s)
    ({ s with tic := { s.tic with cross := [] } } : State)

/-! ## IRIG-B frames (R80, R82, R85) -/

/-- The frame of an IRIG-B decoder, for a slot that takes it: the elements, the on-time edge in core ns and its stamp. Fields that
neither R80 nor R85 gives are: UTC_OFF the Almanac's TAI − UTC, LEAP 0, QUAL 0, TEB unbounded, SRC_TAG 0, VALID 1. A two-digit year
is of the century of 2000. For a format without year it is the Almanac's at the on-time edge. -/
def irigRecord (s : State) (i : Nat) (year : Bool) (l : List Nat) (at_ : Nat) (edge : Option Int) : State :=
  let (sec, min, hour, doy, yy) := irigFields l
  let scale := s.get (F.REF_TOD_CFG_IRIG_SCALE i)
  let q : Int := (at_ : Int) * 65536
  let now := if scale = 0 then (utcScale s.tsk.leap q).q else if scale = 1 then q else q - 19 * secQ
  let y := if year then 2000 + yy else (civilOf (now / secQ / 86400)).1.toNat
  if !irigWhole l || doy = 0 || 366 < doy || (doy = 366 && !isLeap y) then s.todCheck (4 + i)
  else
    let t : Int := (daysOf y 1 1 + (doy - 1 : Nat)) * 86400 + (hour * 3600 + min * 60 + sec : Nat)
    let off := taiUtc s.tsk.leap (q / secQ)
    let r := todBytes (ofSigned 48 t) scale (if !year && s.prov then 5 else 1) (ofSigned 16 off) 0 0 0xFFFFFFFF 0
    match edge with
    | some v => s.todPaired i r v
    | none => s.todUnpaired i r 1

end State

/-- REF_EDGE (R86): an edge of a present source: what its pin sees, edge selector, prescaler, and what an edge after the prescaler
does: LOS clears, the routed channel stamps it with ADC code `code`, ToD messages that name it are paired. -/
def execRefEdge (src : Nat) (falling : Bool) (code : Nat) (s : State) : Host.Outcome State Fault Refusal :=
  .next (
    if src < 24 && s.time.running && s.on (F.REF_SRC_STAT_PRESENT src) then
      let s := (s.pinActivity src).irigEdge src falling
      if !s.edgeTaken src falling then s
      else
        let x := s.src src
        if x.sel + 1 < s.get (F.REF_IN_PRE_DIV src) then s.setSrc src { x with sel := x.sel + 1 }
        else
          let s := s.setSrc src ⟨0, s.ns, decide (src < 16), if s.on (F.REF_SRC_STAT_LOS src) then s.ns else x.okAt⟩
          let s := (s.add (F.REF_SRC_STAT_EDGES src) 1).count (0x040 + src)
          let s := if src < 16 then s.set (F.REF_SRC_STAT_LOS src) 0 else s
          s.channelEdge src falling code
    else s)

/-- LOS_EXPIRY (R73): the loss timer of an enabled REFIN input expires: LOS, and one LOSS anomaly. -/
def execLosExpiry (n : Nat) (s : State) : Host.Outcome State Fault Refusal :=
  .next (
    let x := s.src n
    if n < 16 && s.time.running && x.armed && s.on (F.REF_IN_CFG_EN n) then
      let s := s.runTo (x.last + 2 ^ s.get (F.REF_IN_CFG_LOS_EXP n))
      let s := (s.setSrc n { x with armed := false }).set (F.REF_SRC_STAT_LOS n) 1
      let s := if s.refState n = 0 then s else s.setRef n { s.ref n with lossByRef := true }
      (s.count (0x058 + n)).anomaly n 2
    else s)

/-- SYNCE_LOCK_CHANGE (R74): the SyncE source of port p follows the port's PCS lock: it appears or is gated off. A lock other than
the PCS has is no change that the source sees (R73). -/
def execSynceLockChange (p : Nat) (lock : Bool) (s : State) : Host.Outcome State Fault Refusal :=
  .next (if p < 8 && lock == s.on (F.ETH_ST_PCS_LOCK p) then s.synceLock p lock else s)

/-- UART_CHAR (R78): a character ends on UART u, with its errors; a full receive FIFO loses it. -/
def execUartChar (u c : Nat) (framing parity : Bool) (s : State) : Host.Outcome State Fault Refusal :=
  .next (
    if u < 8 && s.uartOn u then
      let x := s.uart u
      let s := if framing then s.addSat (F.REF_UART_STAT_FRAMING u) 1 else s
      let s := if parity then s.addSat (F.REF_UART_STAT_PARITY u) 1 else s
      let full := decide (256 ≤ x.chars.length)
      let s := if framing || parity || full then s.count (0x070 + u) else s
      if full then s.addSat (F.REF_UART_STAT_OVERRUN u) 1
      else s.setUart u ⟨x.chars ++ [(c % 256, framing || parity, s.ns)]⟩
    else s)

/-- CHARS_DELIVER (R346): a CHARS cell closes at 192 characters, or when two character times pass idle after the last, and
goes to engine 10. -/
def execCharsDeliver (u : Nat) (s : State) : Host.Outcome State Fault Refusal :=
  .next (
    let l := (s.uart u).chars
    let cns := State.charNs (s.uartCfg u)
    if u < 8 && l ≠ [] && s.time.running then
      let s := if 192 ≤ l.length then s else s.runTo ((l.getLastD (0, false, 0)).2.2 + 2 * cns)
      (s.setUart u ⟨l.drop 192⟩).cellTo 10 (State.charsCell u cns (l.take 192))
    else s)

/-- APORT_STALE (R79): no valid message for TMO seconds. -/
def execAportStale (a : Nat) (s : State) : Host.Outcome State Fault Refusal :=
  .next (
    if a < 4 && s.time.running && s.on (F.REF_APORT_CFG_EN a) then
      let s := s.runTo ((s.aport a).since + s.get (F.REF_APORT_CFG_TMO a) * 1000000000)
      let s := (s.set (F.REF_APORT_ST_STALE a) 1).setAport a { s.aport a with since := s.ns }
      s.statusAlarm a
    else s)

/-- APORT_ST_CELL (R79, R347): REF takes the APORT_ST cell that engine 10 posted. -/
def execAportStCell (s : State) : Host.Outcome State Fault Refusal :=
  .next (match s.takeCell 10 1 with
    | some (c, s) =>
      let b := c.bytes
      s.aportMessage (State.cellBytes b 0 1 % 4) (bitOf b 8) (bitOf b 9) (State.cellBytes b 2 2) (State.cellBytes b 4 4)
    | none => s)

/-- TOD_MSG_CELL (R81, R347): REF takes the TOD_MSG cell that engine 10 posted. Where it has posted none, Celmir's parsers run there and
take the next CHARS cell of a slot (DESIGN CHOICE: their program is not in the spec). -/
def execTodMsgCell (s : State) : Host.Outcome State Fault Refusal :=
  .next (match s.takeCell 10 2 with
    | some (c, s) =>
      let i := State.cellBytes c.bytes 0 1 % 4
      if s.uartOn (4 + i) && s.get (F.REF_TOD_CFG_SRC i) = 0 then
        s.todMessage i (State.cellBytes c.bytes 20 18) (State.cellBytes c.bytes 4 8) (State.cellBytes c.bytes 12 8)
      else s
    | none => s.celmirParse)

/-- CHECK_CELL (R347). -/
def execCheckCell (s : State) : Host.Outcome State Fault Refusal :=
  .next (match s.takeCell 10 3 with
    | some (c, s) => s.todCheck (State.cellBytes c.bytes 0 1 % 8)
    | none => s)

/-- TOD_LOSS_TIMEOUT (R81): a slot with no paired record for 2.5 s. -/
def execTodLossTimeout (i : Nat) (s : State) : Host.Outcome State Fault Refusal :=
  .next (
    if i < 4 && s.time.running && s.uartOn (4 + i) then
      let s := s.runTo ((s.tod i).last + 2500000000)
      (s.setTod i { s.tod i with last := s.ns }).anomaly (24 + i) 2
    else s)

/-- TOD_PAIR_WINDOW_EXPIRY (R81): the edge that a REFERS = 1 message names has not come within 900 ms. -/
def execTodPairWindowExpiry (i : Nat) (s : State) : Host.Outcome State Fault Refusal :=
  .next (match (s.tod i).msgs with
    | (r, t) :: rest =>
      if s.time.running then ((s.runTo (t + 900000000)).setTod i { s.tod i with msgs := rest }).todUnpaired i r 1 else s
    | [] => s)

/-- IRIG_FRAME (R80, R85): the decoder of REFIN n has read a frame, or met an error in it: every enabled slot that takes the
stream makes a ToD record of it, paired with the stamp that the routed channel gave its on-time edge, or counts CHECK. The operands say
what the decoder read (`year` where the stream is of B004 to B007); a command that says otherwise is none that happens. -/
def execIrigFrame (n : Nat) (ok : Bool) (sec min hour doy : Nat) (year : Option Nat) (edge : Option Int) (s : State) :
    Host.Outcome State Fault Refusal :=
  .next (
    match (s.irig n).done with
    | some (l, at_, e) =>
      if !irigTold l ok sec min hour doy year || e ≠ edge then s
      else
        let s := s.setIrig n { s.irig n with done := none }
        if n < 16 && s.on (F.REF_IN_CFG_EN n) && s.get (F.REF_IN_CFG_KIND n) = 3 then
          ([0, 1, 2, 3].filter (fun i => s.uartOn (4 + i) && s.get (F.REF_TOD_CFG_SRC i) = 1 &&
            s.get (F.REF_TOD_CFG_PPS_IN i) = n)).foldl (fun s i => s.irigRecord i year.isSome l at_ edge) s
        else s
    | none => s)

/-- UPSTREAM_CELL (R347, R494): Assay takes the UPSTREAM cell of a port engine as a measurement of reference 29 + link. The
core's absolute offset is the offset itself: an upstream exchange compares with the upstream's own TAI (R48). -/
def execUpstreamCell (e : Nat) (s : State) : Host.Outcome State Fault Refusal :=
  .next (
    if e < 8 then
      match s.takeCell e 2 with
      | some (c, s) =>
        let r := 29 + State.cellBytes c.bytes 12 1 % 2
        let off := toSigned 64 (State.cellBytes c.bytes 0 8)
        let at_ := (s.unshort (State.cellBytes c.bytes 16 8)).toNat
        let s := s.setRef r { s.ref r with usedAt := s.ns }
        s.deliver { s.measOf r (ofFloat (State.cellBytes c.bytes 8 4)) with off := some off, abs := some off, at_ := at_ }
      | none => s
    else s)

end Sys2Proof.Machine
end

