-- ==== Sys2Proof/Machine/Eth.lean ====
section
/-!
DEFINITION. Sys2Proof/Machine/Eth.lean: the network ports (R244 to R272): states, launch reservations and the slot plan,
launches, best-effort frames and pre-emption, pause, the receive path, transmit timestamps, loop calibration.
-/

namespace Sys2Proof.Machine

/-- Bytes of a frame with all that stands around it on the wire: preamble and SFD, and the inter-packet gap (R252). -/
def preBytes : Nat := 8
def gapBytes : Nat := 12

/-- Time of one byte at a RATE, ps (R245). -/
def bytePs (rate : Nat) : Nat :=
  match rate with
  | 0 => 800
  | 1 => 320
  | 2 => 200
  | 3 => 160
  | _ => 80

/-- Start-grid spacing at a RATE, ps (R245). -/
def gridPs (rate : Nat) : Nat :=
  match rate with
  | 0 => 3200
  | 1 => 1280
  | 2 => 1600
  | 3 => 1280
  | _ => 640

/-- FEC choices allowed with a RATE (R245). -/
def fecOk (rate fec : Nat) : Bool :=
  match rate with
  | 0 => fec < 2
  | 1 => fec < 3
  | 2 => fec < 2
  | 3 => fec = 2
  | 4 => fec = 2
  | _ => false

/-- First point at or after x of the grid of spacing g and phase r. -/
def gridUp (g r x : Nat) : Nat := x + (r % g + g - x % g) % g

/-- An instant in core ps as 2^-16 ns, truncated (R40). -/
def psToQ (l : Nat) : Nat := l * 65536 / 1000

namespace State

/-! ## Ports -/

/-- The part has the port (R4). -/
def portPresent (s : State) (p : Nat) : Bool := p < 8 && !(s.part.small && 4 ≤ p)

/-- A port's own state. -/
def port (s : State) (p : Nat) : PortSt := (alGet s.eth.ports p).getD PortSt.reset

/-- The state with a port's own state replaced. -/
def setPort (s : State) (p : Nat) (x : PortSt) : State := { s with eth := { s.eth with ports := alSet s.eth.ports p x } }

/-- The state of a port (R247): 0 OFF, 1 DOWN, 2 UP, 3 FAULT, 4 LOOP_CAL. -/
def portState (s : State) (p : Nat) : Nat := s.get (F.ETH_ST_STATE p)

/-- The core's reading in ps. -/
def ps (s : State) : Nat := s.time.core * 1000 / 2 ^ 56

/-- Time of one byte on port p. -/
def bt (s : State) (p : Nat) : Nat := bytePs (s.get (F.ETH_CFG_RATE p))

/-- A statistic of Hallmark and the counter of the same event (R268, R444). -/
def hmkStat (s : State) (k : Nat) : State := (s.add (F.HMK_STATS_COUNT k) 1).count (0x4C0 + k)

/-! ## Launch reservations (R250 to R252) -/

/-- What the port's search for a launch instant works with: grid, byte time, frame bytes, the present cycle and what governs
it and the later ones, intervals taken, the earliest an interval may begin, the last L allowed, grid points excluded. -/
structure Slots where
  g : Nat
  r : Nat
  bt : Nat
  len : Nat
  start : Nat
  per : Nat
  share0 : Nat
  guard0 : Nat
  share : Nat
  guard : Nat
  obs : List (Nat × Nat)
  floor : Nat
  limit : Nat
  excl : List Nat

/-- The cycle that an interval beginning at lo counts in (R251). -/
def slotCycle (c : Slots) (lo : Nat) : Nat := (lo - c.start) / c.per

/-- The interval of a launch at l (R252): GUARD is that of the cycle it begins in. -/
def slotInterval (c : Slots) (l : Nat) : Nat × Nat :=
  let pre := preBytes * c.bt
  let lo := l - pre - 1000 * c.guard0
  let lo := if slotCycle c lo = 0 then lo else l - pre - 1000 * c.guard
  (lo, l + (c.len - 8 + gapBytes) * c.bt)

/-- Wire time already reserved in a cycle. -/
def slotUsed (c : Slots) (k : Nat) : Nat :=
  c.obs.foldl (fun a o => if c.start ≤ o.1 && slotCycle c o.1 = k then a + (o.2 - o.1) else a) 0

/-- The first grid point from l on that R251 and R252 allow, within the limit (R250). Each step passes one obstacle. -/
def searchSlot (c : Slots) : Nat → Nat → Option (Nat × Nat × Nat)
  | 0, _ => none
  | n + 1, l =>
    if c.limit < l then none
    else
      let (lo, hi) := slotInterval c l
      if lo < c.floor then searchSlot c n (gridUp c.g c.r (l + (c.floor - lo)))
      else if c.excl.contains l then searchSlot c n (gridUp c.g c.r (l + 1))
      else match c.obs.find? (fun o => decide (lo < o.2) && decide (o.1 < hi)) with
        | some o => searchSlot c n (gridUp c.g c.r (l + (o.2 - lo)))
        | none =>
          let k := slotCycle c lo
          if (slotUsed c k + (hi - lo)) * 256 ≤ (if k = 0 then c.share0 else c.share) * c.per then some (l, lo, hi)
          else searchSlot c n (gridUp c.g c.r (l + (c.start + (k + 1) * c.per - lo)))

/-- The slot plan of port p for a frame of len bytes asked for at lreq (core ps). -/
def slotsOf (s : State) (p len lreq : Nat) (excl : List Nat) : Slots :=
  let x := s.port p
  let rate := s.get (F.ETH_CFG_RATE p)
  { g := gridPs rate, r := x.phase, bt := bytePs rate, len := len, start := 1000 * x.cycStart
    per := max 1000 (1000 * s.get (F.ETH_SLOT_CFG_LC_PER p)), share0 := x.cycShare, guard0 := x.cycGuard
    share := s.get (F.ETH_SLOT_CFG_SHARE p), guard := s.get (F.ETH_SLOT_CFG_GUARD p)
    obs := x.resvs.map (fun r => (r.lo, r.hi)) ++ x.used, floor := max s.ps x.busy, limit := lreq + 4096000, excl := excl }

/-- A port grants a launch instant or refuses (R250, R272): the launch and its interval. -/
def grantAt (s : State) (p len lreq : Nat) (excl : List Nat) : Option (Nat × Nat × Nat) :=
  if s.portPresent p && s.portState p = 2 && s.on (F.ETH_ST_GRID_OK p) && s.feat 16 then
    let c := s.slotsOf p len lreq excl
    searchSlot c (c.obs.length + excl.length + 16) (gridUp c.g c.r lreq)
  else none

/-- A reservation is entered at its port. -/
def addResv (s : State) (p : Nat) (r : Resv) : State := s.setPort p { s.port p with resvs := (s.port p).resvs ++ [r] }

/-- The reservation of a list with the earliest launch. -/
def firstResv : List Resv → Option Resv
  | [] => none
  | r :: t => match firstResv t with
    | none => some r
    | some q => if q.l < r.l then some q else some r

/-- The list without a reservation. -/
def dropResv (r : Resv) (l : List Resv) : List Resv := l.filter (fun q => q ≠ r)

/-! ## Transmit timestamps (R265, R266) -/

/-- FILL follows the queue. -/
def txtsFill (s : State) (p : Nat) : State := s.set (F.ETH_TXTS_ST_FILL p) (s.port p).txts.length

/-- An entry enters the queue; one that finds it full, or an OVERFLOW entry still to come, is dropped and counted. -/
def pushTxts (s : State) (p : Nat) (e : TxTs) : State :=
  let x := s.port p
  match x.txtsDrop with
  | some (t, n) => (s.setPort p { x with txtsDrop := some (t, n + 1) }).ethStat p 22 1
  | none =>
    if x.txts.length < 64 then (s.setPort p { x with txts := x.txts ++ [e] }).txtsFill p
    else ((s.setPort p { x with txtsDrop := some (e.short, 1) }).set (F.ETH_TXTS_ST_OVF p) 1).ethStat p 22 1

/-- A host frame has left, or is dropped: its entry, if it asked for one (R265). -/
def txtsOf (s : State) (p : Nat) (e : BeEnt) (stamp : Option Nat) : State :=
  match e.ts with
  | some id =>
    match stamp with
    | some t => s.pushTxts p ⟨id, 0, s.prov, t / 65536 % 2 ^ 64, t % 65536, 0⟩
    | none => s.pushTxts p ⟨id, 1, s.prov, s.short, 0, 0⟩
  | none => s

/-! ## Leaving UP (R255, R271) -/

/-- Whether a frame answers a client: a response, a NAK, a Delay_Resp or Signaling. -/
def isAnswer : Body → Bool
  | .ntp _ => true
  | .nak _ => true
  | .ptp m => m.typ = 9 || m.typ = 0xC
  | _ => false

/-- A message of Hallmark has left: an answer counts RESP_SENT and the tenant's answers. -/
def answerSent (s : State) (t : Nat) (b : Body) : State := if isAnswer b then (s.hmkStat 3).tcount t 1 1 else s

/-- Every granted launch is missed, in order of L (R255, R271): `k` is the statistic of the cause. -/
def missAll (s : State) (p k : Nat) : State :=
  let n := (s.port p).resvs.length
  (s.setPort p { s.port p with resvs := [] }).ethStat p k n

/-- A frame cut on the wire by a fault counts as a missed launch (R255). -/
def cutLaunch (s : State) (p : Nat) : State :=
  let x := s.port p
  if x.busyLaunch && decide (s.ps + gapBytes * s.bt p < x.busy) then
    (s.setPort p { x with busy := s.ps, busyLaunch := false }).ethStat p 15 1
  else s

/-- An ETH_LINK record (R271). -/
def ethLink (s : State) (p st cause : Nat) : State := s.pevent 0x0C 0 (pay [(20, 1, p), (21, 1, st), (22, 1, cause)])

/-- The loop run ends without its results (R270): cause 1 FOREIGN, 2 LINK, 3 TIMEOUT, 5 OPERATOR. Ports still in LOOP_CAL
return to UP. -/
def loopAbort (s : State) (cause : Nat) : State :=
  match s.eth.loop with
  | some r =>
    let s := { s with eth := { s.eth with loop := none } }
    let s := ((s.set F.ETH_LOOP_ST_STATE 3).set F.ETH_LOOP_ST_CAUSE cause).set F.ETH_LOOP_ST_T_DONE s.short
    let s := [r.a, r.b].foldl (fun s p => if s.portState p = 4 then s.set (F.ETH_ST_STATE p) 2 else s) s
    (s.count (0x3C0 + 32 * r.a + 23)).count (0x3C0 + 32 * r.b + 23)
  | none => s

/-- A port leaves UP or LOOP_CAL for FAULT, DOWN or OFF, in this order within the cycle (R271): missed launches by L, NO_STAMP
entries in acceptance order, ETH_LINK, completions in submission order. -/
def leaveUp (s : State) (p st cause : Nat) : State :=
  let was := s.portState p
  let s := s.set (F.ETH_ST_STATE p) st
  let s := (s.cutLaunch p).missAll p (if cause = 0 then 16 else 15)
  let be := (s.port p).be
  let s := be.foldl (fun s e => s.txtsOf p e none) s
  let s := (s.setPort p { s.port p with be := [], pauses := [] }).set (F.ETH_ST_PREEMPT_OK p) 0
  let s := s.ethLink p st cause
  let s := be.foldl (fun s e => match e.cmd with | some n => s.finish 0 n cLinkDown 0 | none => s) s
  if was = 4 then s.loopAbort 2 else s

/-- A fault on a port (R247): cause 1 local, 2 remote, 3 lock loss. -/
def portFault (s : State) (p cause : Nat) : State :=
  let s := s.setPort p { s.port p with faultAt := s.ns }
  let s := if cause = 1 then s.set (F.ETH_ST_LOCAL_FAULT p) 1 else if cause = 2 then s.set (F.ETH_ST_REMOTE_FAULT p) 1 else s
  if s.portState p = 2 || s.portState p = 4 then s.leaveUp p 3 cause else s

/-- EN = 0 goes live, or the port's domain goes off (R247, R457): `cause` of the ETH_LINK record. -/
def portOff (s : State) (p cause : Nat) : State :=
  let s := if s.portState p = 2 || s.portState p = 4 then s.leaveUp p 0 cause else s
  let s := (s.set (F.ETH_ST_STATE p) 0).set (F.ETH_ST_PCS_LOCK p) 0
  let s := (s.set (F.ETH_ST_GRID_OK p) 0).set (F.ETH_ST_PREEMPT_OK p) 0
  let s := (s.set (F.ETH_ST_LOCAL_FAULT p) 0).set (F.ETH_ST_REMOTE_FAULT p) 0
  (s.set (F.ETH_GRID_ST_GRID_PS p) 0).synceLock p false

/-- EN = 1 is live and the port's domain is up: OFF to DOWN (R247, R456). -/
def portOn (s : State) (p : Nat) : State :=
  if s.portState p = 0 && s.portPresent p && s.pdUp (4 + p) then
    (s.set (F.ETH_ST_STATE p) 1).set (F.ETH_GRID_ST_GRID_PS p) (gridPs (s.get (F.ETH_CFG_RATE p)))
  else s

/-- A strobe accepts a port's configuration (R245, R246). -/
def ethCfgOk (s : State) (p : Nat) : Bool :=
  let ml := s.view (F.ETH_CFG_MAX_LEN p)
  let changed := s.view (F.ETH_CFG_RATE p) ≠ s.get (F.ETH_CFG_RATE p) || s.view (F.ETH_CFG_FEC p) ≠ s.get (F.ETH_CFG_FEC p) ||
    s.view (F.ETH_CFG_PREEMPT p) ≠ s.get (F.ETH_CFG_PREEMPT p)
  fecOk (s.view (F.ETH_CFG_RATE p)) (s.view (F.ETH_CFG_FEC p)) && decide (1518 ≤ ml ∧ ml ≤ 9216) &&
    !(changed && s.on (F.ETH_CFG_EN p) && s.view (F.ETH_CFG_EN p) = 1)

/-- A strobe accepts a port's slot configuration. -/
def ethSlotOk (s : State) (p : Nat) : Bool := decide (2 ≤ s.view (F.ETH_SLOT_CFG_GUARD p))

/-- A strobe accepts a port's pause watchdog. -/
def ethWdOk (s : State) (p : Nat) : Bool := decide (100 ≤ s.view (F.ETH_PAUSE_WD_WD p))

/-- An accepted port configuration is live; `was` is EN before. -/
def ethLive (s : State) (p : Nat) (was : Bool) : State :=
  let s := if s.get (F.ETH_CFG_PREEMPT p) = 0 then s.set (F.ETH_ST_PREEMPT_OK p) 0 else s
  if s.on (F.ETH_CFG_EN p) then s.portOn p else if was then s.portOff p 0 else s

/-! ## Pause (R258, R259) -/

/-- A pause of priority k (8: everything) is in force at an instant in ps. -/
def pausedAt (x : PortSt) (k t : Nat) : Bool :=
  match alGet x.pauses k with
  | some z => decide (z.from_ ≤ t) && decide (t < z.until_)
  | none => false

/-- A pause that stops launched frames is in force at an instant. -/
def launchPaused (s : State) (p t : Nat) : Bool :=
  let x := s.port p
  pausedAt x 8 t || pausedAt x (s.get (F.ETH_CFG_LAUNCH_PRIO p)) t

/-- A pause of priority k with a number of quanta arrives: it takes effect after what is on the wire, 0 ends the pause in
force at once, and a new one replaces the remaining time (R258). -/
def setPause (s : State) (p k quanta : Nat) : State :=
  let x := s.port p
  let now := s.ps
  if quanta = 0 then s.setPort p { x with pauses := alDel x.pauses k }
  else
    let from_ := max now x.busy
    let until_ := from_ + quanta * 64 * s.bt p
    let z : Pause := match alGet x.pauses k with
      | some z => if now < z.until_ then ⟨min z.from_ from_, until_, z.since⟩ else ⟨from_, until_, from_ / 1000⟩
      | none => ⟨from_, until_, from_ / 1000⟩
    s.setPort p { x with pauses := alSet x.pauses k z }

/-- A pause or PFC frame is obeyed under the port's configuration, or only counted (R258). -/
def pauseFrame (s : State) (p op vec : Nat) (quanta : Nat → Nat) : State :=
  let s := s.ethStat p 8 1
  if s.on (F.ETH_CFG_PFC_EN p) then
    if op = 0x0101 then (List.range 8).foldl (fun s k => if bitOf vec k then s.setPause p k (quanta k) else s) s else s
  else if s.on (F.ETH_CFG_PAUSE_EN p) && op = 1 then s.setPause p 8 (quanta 0)
  else s

/-! ## Launches (R255, R256) -/

/-- A frame goes on the wire: TX_OK and TX_BYTES. -/
def sent (s : State) (p len : Nat) : State := (s.ethStat p 11 1).ethStat p 12 len

/-- The earliest reservation of a port launches (R255, R256): `dev` is how far its transmit timestamp lies from L, ps. -/
def launchStart (s : State) (p : Nat) (dev : Int) : State :=
  match firstResv (s.port p).resvs with
  | some r =>
    if r.lo / 1000 < r.ready + 64 then s
    else
      let s := s.runTo (r.l / 1000)
      let x := s.port p
      let s := s.setPort p { x with resvs := dropResv r x.resvs }
      if s.launchPaused p r.l then s.ethStat p 14 1
      else if s.portState p ≠ 2 && s.portState p ≠ 4 then s.ethStat p 15 1
      else
        let x := s.port p
        let bad := decide (1000 < dev.natAbs)
        let s := s.setPort p { x with used := (r.lo, r.hi) :: x.used, busy := max x.busy r.hi, busyLaunch := true }
        let s := s.emitOut (.frame p (if r.src = 2 then 4 else 0) r.len r.l bad r.body)
        if bad then
          let x := s.port p
          (s.setPort p { x with devs := (s.ns, dev.natAbs) :: x.devs.filter (fun d => decide (s.ns < d.1 + 1000000000)) }).ethStat p 17 1
        else
          let s := (s.ethStat p 13 1).sent p r.len
          if r.src = 0 then s.answerSent r.tenant r.body else s
  | none => s

/-- A reservation whose frame is not at the port 64 ns before its interval is released (R255). -/
def launchEmpty (s : State) (p : Nat) : State :=
  match firstResv (s.port p).resvs with
  | some r =>
    if r.lo / 1000 < r.ready + 64 then
      let s := s.runTo (r.lo / 1000 - 64)
      let x := s.port p
      (s.setPort p { x with resvs := dropResv r x.resvs }).ethStat p 18 1
    else s
  | none => s

/-- Reservations that a predicate names are released and counted LAUNCH_EMPTY (R255, R295). -/
def releaseResvs (s : State) (p : Nat) (f : Resv → Bool) : State :=
  let x := s.port p
  let gone := (x.resvs.filter f).length
  if gone = 0 then s else (s.setPort p { x with resvs := x.resvs.filter (fun r => !f r) }).ethStat p 18 gone

/-! ## Best-effort frames (R253, R254) -/

/-- A frame joins the queue of best-effort frames. -/
def addBe (s : State) (p : Nat) (e : BeEnt) : State := s.setPort p { s.port p with be := (s.port p).be ++ [e] }

/-- A port takes best-effort frames: it is UP, or in LOOP_CAL, where they are held (R247, R269). -/
def takesBe (s : State) (p : Nat) : Bool := s.portState p = 2 || s.portState p = 4

/-- A message of Hallmark goes best effort (R272, R284); a port that is not UP sends none. -/
def beAnswer (s : State) (p tenant len : Nat) (b : Body) : State :=
  if !s.takesBe p then s else (s.addBe p ⟨none, none, 0, len, len, false, none, b⟩).answerSent tenant b

/-- Largest fragment, in data bytes, that fits a room of `room` bytes with mCRC, preamble and gap, leaves at least 64 bytes,
and is a multiple of 8 (R254); 0 when none does. -/
def fragBytes (room left : Nat) : Nat :=
  let x := min (room - (preBytes + 4 + gapBytes)) (left - 64) / 8 * 8
  if 60 ≤ x && preBytes + 4 + gapBytes < room then x else 0

/-- The oldest best-effort frame starts, is held, or is cut (R253, R254); `tpcs` is when its first bit after the SFD crosses
the PCS boundary, in core 2^-16 ns. -/
def beStart (s : State) (p tpcs : Nat) : State :=
  if s.portPresent p && s.portState p = 2 && s.time.running then
    match (s.port p).be with
    | e :: rest =>
      let s := s.runTo (ceilDiv (s.port p).busy 1000)
      let x := s.port p
      let now := s.ps
      let bt := s.bt p
      let stamp := match e.stamp with
        | some t => t
        | none => ((tpcs : Int) + psToQ16 (s.getI (F.ETH_TS_LAT_TX_LAT p))).toNat
      let next := firstResv x.resvs
      let fits := match next with
        | some r => decide (now + (preBytes + e.left + gapBytes) * bt ≤ r.lo)
        | none => true
      let room := match next with | some r => (r.lo - now) / bt | none => 0
      let frag := if s.on (F.ETH_CFG_PREEMPT p) && s.on (F.ETH_ST_PREEMPT_OK p) then fragBytes room e.left else 0
      let kind := if e.left < e.len then 3 else if e.cmd.isSome then 1 else 2
      if pausedAt x 8 now || pausedAt x e.prio now then s
      else if fits then
        let s := s.setPort p { x with be := rest, busy := now + (preBytes + e.left + gapBytes) * bt, busyLaunch := false }
        let s := (s.emitOut (.frame p kind e.left (now + preBytes * bt) false e.body)).sent p e.len
        let s := s.txtsOf p e (some stamp)
        match e.cmd with
        | some n => s.finish 0 n cOk 0
        | none => s
      else if frag ≠ 0 then
        let s := s.setPort p { x with
          be := { e with left := e.left - frag, stamp := some stamp } :: rest
          busy := now + (preBytes + frag + 4 + gapBytes) * bt, busyLaunch := false }
        (s.emitOut (.frame p 3 (frag + 4) (now + preBytes * bt) false e.body)).ethStat p 20 1
      else if e.held then s
      else (s.setPort p { x with be := { e with held := true } :: rest }).ethStat p 19 1
    | [] => s
  else s

/-- Priority of a frame: that of its 802.1Q tag, else 0. -/
def framePrio (bytes : Nat) : Nat := if wireBytes bytes 12 2 = 0x8100 then cellBytes bytes 14 1 / 32 else 0

/-! ## Receive path (R260 to R264) -/

/-- The CRC register of R262 after one octet. -/
def hashByte (crc b : Nat) : Nat :=
  (List.range 8).foldl (fun c _ => if c % 2 = 1 then Nat.xor (c / 2) 0xEDB88320 else c / 2) (Nat.xor crc b)

/-- The bucket of a destination address whose first octet on the wire is byte 0 (R262). -/
def hashBucket (da : Nat) : Nat :=
  let crc := (List.range 6).foldl (fun c i => hashByte c (cellBytes da i 1)) 0xFFFFFFFF
  (0xFFFFFFFF - crc) % 4096

/-- A destination address passes the filter (R262). ETH_UC holds the first octet in bits [47:40]. -/
def daPasses (s : State) (p bytes : Nat) : Bool :=
  let da := cellBytes bytes 0 6
  let mac := wireBytes bytes 0 6
  (List.range 64).any (fun i => s.on (F.ETH_UC_VALID p i) &&
      s.get (F.ETH_UC_MAC_LO p i) + 2 ^ 32 * s.get (F.ETH_UC_MAC_HI p i) = mac) ||
    (mac = 0xFFFFFFFFFFFF && s.on (F.ETH_CFG_BCAST p)) ||
    (bitOf da 0 && bitOf (s.get (F.ETH_HASH_BUCKETS p (hashBucket da / 32))) (hashBucket da % 32))

/-- A frame is a pause or PFC frame: its opcode, if so (IEEE 802.3 Annex 31). -/
def pauseOp (bytes : Nat) : Option Nat :=
  if wireBytes bytes 0 6 = 0x0180C2000001 && wireBytes bytes 12 2 = 0x8808 then
    let op := wireBytes bytes 14 2
    if op = 1 || op = 0x0101 then some op else none
  else none

/-- Bytes held in a port's ingress buffer. -/
def bufferUsed (s : State) (p : Nat) : Nat := (s.engine p).frames.foldl (fun a f => a + f.len) 0

/-- A loop frame's number in run r, if it is one of that run (R269): DEVID in byte 14, run in 15 to 18, sequence in 19 and
20. -/
def loopSeq (s : State) (r : LoopRun) (bytes : Nat) : Option Nat :=
  if wireBytes bytes 12 2 = 0x88B5 && cellBytes bytes 14 1 = s.get F.SYS_STRAP_DEVID && wireBytes bytes 15 4 = r.run then
    some (wireBytes bytes 19 2)
  else none

/-- A frame received in LOOP_CAL with receive timestamp rts (2^-16 ns): its delay is taken, or the run aborts (R269, R270). -/
def loopReceive (s : State) (p rts bytes : Nat) : State :=
  match s.eth.loop with
  | some r =>
    let far := if p = r.a then r.b else r.a
    match s.loopSeq r bytes with
    | some q =>
      match alGet r.launched (8 * q + far) with
      | some l =>
        let d : Int := (rts : Int) * 1000 - l * 65536
        let r := if p = r.b then { r with ab := r.ab ++ [d] } else { r with ba := r.ba ++ [d] }
        { s with eth := { s.eth with loop := some r } }
      | none => s.loopAbort 1
    | none => s.loopAbort 1
  | none => s

/-- The stages of R260 after length and FCS, for a port that is UP. -/
def acceptFrame (s : State) (p rts len bytes : Nat) : State :=
  match pauseOp bytes with
  | some op => s.pauseFrame p op (cellBytes bytes 17 1) (fun k => if op = 1 then wireBytes bytes 16 2 else wireBytes bytes (18 + 2 * k) 2)
  | none =>
    if !s.daPasses p bytes then s.ethStat p 6 1
    else if 262144 < s.bufferUsed p + len then s.ethStat p 7 1
    else
      let s := (s.ethStat p 0 1).ethStat p 1 len
      if s.engQuenched p then s.ethStat p 10 1
      else
        let x := s.engine p
        s.setEngine p { x with frames := x.frames ++ [⟨p, len, bytes, rts / 65536 % 2 ^ 64, rts % 65536⟩] }

/-- A received frame passes the stages of R260, and the first that rejects it decides what is counted: `tpcs` is T_pcs of
R248 in core 2^-16 ns, `err` an error character, `bytes` the frame from its destination address. -/
def frameReceive (s : State) (p tpcs len : Nat) (fcsOk err : Bool) (bytes : Nat) : State :=
  let st := s.portState p
  if !(s.portPresent p && (st = 2 || st = 4)) then s
  else
    let rts := ((tpcs : Int) - psToQ16 (s.getI (F.ETH_TS_LAT_RX_LAT p))).toNat
    if err || (len < 64 && !fcsOk) then s.ethStat p 4 1
    else if len < 64 then s.ethStat p 3 1
    else if s.get (F.ETH_CFG_MAX_LEN p) < len then s.ethStat p 5 1
    else if !fcsOk then s.ethStat p 2 1
    else if st = 4 then s.loopReceive p rts bytes
    else s.acceptFrame p rts len bytes

/-! ## Loop calibration (R269, R270) -/

/-- ETH_LOOP_CTL.GO (R269). -/
def loopGo (s : State) : State :=
  let a := s.get F.ETH_LOOP_CFG_PORT_A
  let b := s.get F.ETH_LOOP_CFG_PORT_B
  if !s.feat 17 || a = b || s.portState a ≠ 2 || s.portState b ≠ 2 || s.eth.loop.isSome then s.set F.ETH_LOOP_ST_CAUSE 4
  else
    let run := s.eth.runs % 2 ^ 32
    let r : LoopRun := ⟨a, b, run, s.get F.ETH_LOOP_CFG_N, s.ns, 0, [], [], []⟩
    let s := { s with eth := { s.eth with loop := some r, runs := s.eth.runs + 1 } }
    let s := (s.set F.ETH_LOOP_ST_STATE 1).set F.ETH_LOOP_ST_CAUSE 0
    (s.set (F.ETH_ST_STATE a) 4).set (F.ETH_ST_STATE b) 4

/-- One loop frame of a port, launched at the first grid point at or after an instant in ns (R269). -/
def loopLaunch (s : State) (r : LoopRun) (t p : Nat) : State :=
  let rate := s.get (F.ETH_CFG_RATE p)
  let x := s.port p
  let l := gridUp (gridPs rate) x.phase (max (1000 * t) (x.busy + preBytes * bytePs rate))
  let s := s.setPort p { x with busy := l + (64 - 8 + gapBytes) * bytePs rate, busyLaunch := true }
  let s := (s.emitOut (.frame p 4 64 l false (.loop (s.get F.SYS_STRAP_DEVID) r.run r.sent))).sent p 64
  match s.eth.loop with
  | some q => { s with eth := { s.eth with loop := some { q with launched := alSet q.launched (8 * r.sent + p) l } } }
  | none => s

/-- Both ports launch the next loop frame, 10 µs after GO and then every microsecond (R269). -/
def loopFrames (s : State) : State :=
  match s.eth.loop with
  | some r =>
    if r.sent < r.n && s.time.running then
      let t := r.goAt + 10000 + 1000 * r.sent
      let s := s.runTo t
      let s := (s.loopLaunch r t r.a).loopLaunch r t r.b
      match s.eth.loop with
      | some q => { s with eth := { s.eth with loop := some { q with sent := q.sent + 1 } } }
      | none => s
    else s
  | none => s

/-- Mean of delays in 2^-16 ps less the fibre's ps, to the nearest ps, and their RMS about the mean, rounded up (R269). -/
def loopResult (d : List Int) (fib : Int) : Int × Nat :=
  let n : Int := d.length
  let sum : Int := d.foldl (fun (a x : Int) => a + x) 0
  let sq : Int := d.foldl (fun (a x : Int) => a + x * x) 0
  let r := roundRat ((sum : Rat) / (65536 * n : Int) - fib)
  (r, ceilSqrt (ceilDiv (n * sq - sum * sum).toNat ((n * n).toNat * 65536 * 65536)))

/-- All loop frames have arrived (R269). -/
def loopEnd (s : State) : State :=
  match s.eth.loop with
  | some r =>
    if r.ab.length = r.n && r.ba.length = r.n then
      let (rab, mab) := loopResult r.ab (s.getI F.ETH_LOOP_FIB_FIB_AB)
      let (rba, mba) := loopResult r.ba (s.getI F.ETH_LOOP_FIB_FIB_BA)
      let s := { s with eth := { s.eth with loop := none } }
      let s := (s.set F.ETH_LOOP_ST_STATE 2).set F.ETH_LOOP_ST_NOK r.n
      let s := (s.setI F.ETH_LOOP_ST_R_AB rab).setI F.ETH_LOOP_ST_R_BA rba
      let s := (s.set F.ETH_LOOP_ST_RMS_AB mab).set F.ETH_LOOP_ST_RMS_BA mba
      let s := s.set F.ETH_LOOP_ST_T_DONE s.short
      let s := (s.set (F.ETH_ST_STATE r.a) 2).set (F.ETH_ST_STATE r.b) 2
      (s.count (0x3C0 + 32 * r.a + 23)).count (0x3C0 + 32 * r.b + 23)
    else s
  | none => s

/-! ## Launches of port engines (R347) -/

/-- Bytes put over a frame's bytes from offset o on. -/
def putBytes (bytes o n v : Nat) : Nat := bytes - cellBytes bytes o n * 2 ^ (8 * o) + v % 2 ^ (8 * n) * 2 ^ (8 * o)

/-- A launched frame gets SEC and NS of L at TS_OFF, and FRAC added to the correctionField at CF_OFF (R346). -/
def stampFrame (bytes tsOff cfOff l : Nat) : Nat :=
  let q := psToQ l
  let ns := q / 65536
  let bytes := if tsOff = 0xFFFF then bytes else
    putBytes (putBytes bytes tsOff 6 (bswap 6 (ns / 1000000000))) (tsOff + 6) 4 (bswap 4 (ns % 1000000000))
  if cfOff = 0xFFFF then bytes else putBytes bytes cfOff 8 (bswap 8 (wireBytes bytes cfOff 8 + q % 65536))

/-- A port takes a TX_LAUNCH of its engine, grants it or refuses it, and answers with TX_GRANT (R346, R347). -/
def txLaunch (s : State) (e : Nat) (excl : List Nat) : State :=
  match s.takeCell e 1 with
  | some (c, s) =>
    let b := c.bytes
    let len := c.len - 16 + 4
    let lreq := (1000 * s.unshort (cellBytes b 0 8)).toNat
    let tag := cellBytes b 8 2
    match s.grantAt e len lreq excl with
    | some (l, lo, hi) =>
      let frame := stampFrame (cellBytes b 16 (c.len - 16)) (cellBytes b 10 2) (cellBytes b 12 2) l
      let s := s.addResv e ⟨l, lo, hi, len, 1, 0, s.ns, .raw frame⟩
      s.cellTo e ⟨1, 13, pack 0 [(0, 8, l / 1000 % 2 ^ 64), (8, 2, psToQ l % 65536), (10, 2, tag)]⟩
    | none => s.cellTo e ⟨1, 13, pack 0 [(10, 2, tag), (12, 1, 1)]⟩
  | none => s

/-- A launch cycle of port p begins (R251). -/
def launchCycle (s : State) (p : Nat) : State :=
  let x := s.port p
  s.setPort p { x with
    cycStart := s.ns, cycShare := s.get (F.ETH_SLOT_CFG_SHARE p), cycGuard := s.get (F.ETH_SLOT_CFG_GUARD p)
    used := x.used.filter (fun o => decide (1000 * s.ns ≤ o.2)) }

end State

/-! ## Commands -/

/-- PCS_LOCK_CHANGE (R247, R74): block lock and alignment gained or lost; the recovered clock follows. -/
def execPcsLockChange (p : Nat) (lock : Bool) (s : State) : Host.Outcome State Fault Refusal :=
  .next (
    if s.portPresent p && s.portState p ≠ 0 && s.on (F.ETH_ST_PCS_LOCK p) ≠ lock then
      let s := (s.setB (F.ETH_ST_PCS_LOCK p) lock).synceLock p lock
      if lock then s.setPort p { s.port p with lockSince := s.ns } else s.portFault p 3
    else s)

/-- PORT_UP_TIMER (R247): lock held for 1 ms with GRID_OK. A port that still receives a fault sequence goes on to FAULT. -/
def execPortUpTimer (p : Nat) (s : State) : Host.Outcome State Fault Refusal :=
  .next (
    if s.portPresent p && s.portState p = 1 && s.on (F.ETH_ST_PCS_LOCK p) && s.on (F.ETH_ST_GRID_OK p) && s.time.running then
      let s := s.runTo ((s.port p).lockSince + 1000000)
      let s := (s.set (F.ETH_ST_STATE p) 2).ethLink p 2 4
      if s.on (F.ETH_ST_LOCAL_FAULT p) then s.leaveUp p 3 1
      else if s.on (F.ETH_ST_REMOTE_FAULT p) then s.leaveUp p 3 2 else s
    else s)

/-- PORT_FAULT (R247): a fault sequence received, cause 1 local or 2 remote, or 3 for the lock lost. -/
def execPortFault (p cause : Nat) (s : State) : Host.Outcome State Fault Refusal :=
  .next (
    if s.portPresent p && s.portState p ≠ 0 && (cause = 1 || cause = 2) then s.portFault p cause
    else if s.portPresent p && s.portState p ≠ 0 && cause = 3 && s.on (F.ETH_ST_PCS_LOCK p) then
      ((s.set (F.ETH_ST_PCS_LOCK p) 0).synceLock p false).portFault p 3
    else s)

/-- PORT_FAULT_CLEAR (R247): 1 ms without fault and lock held; in DOWN the bits of the faults that ended clear alone. -/
def execPortFaultClear (p : Nat) (s : State) : Host.Outcome State Fault Refusal :=
  .next (
    if s.portPresent p && s.portState p = 3 && s.on (F.ETH_ST_PCS_LOCK p) && s.time.running then
      let s := s.runTo (max (s.port p).faultAt (s.port p).lockSince + 1000000)
      let s := (s.set (F.ETH_ST_LOCAL_FAULT p) 0).set (F.ETH_ST_REMOTE_FAULT p) 0
      (s.set (F.ETH_ST_STATE p) 2).ethLink p 2 4
    else if s.portPresent p && s.portState p = 1 && s.time.running then
      let s := s.runTo ((s.port p).faultAt + 1000000)
      (s.set (F.ETH_ST_LOCAL_FAULT p) 0).set (F.ETH_ST_REMOTE_FAULT p) 0
    else s)

/-- GRID_LOCK_CHANGE (R250): grid tracking locks, with the grid's phase in core ps, or unlocks. -/
def execGridLockChange (p : Nat) (lock : Bool) (phase : Nat) (s : State) : Host.Outcome State Fault Refusal :=
  .next (
    if s.portPresent p && s.portState p ≠ 0 then
      let s := s.setB (F.ETH_ST_GRID_OK p) lock
      if lock then s.setPort p { s.port p with phase := phase } else s
    else s)

/-- PREEMPT_VERIFY (R254): the verify exchange has succeeded. -/
def execPreemptVerify (p : Nat) (s : State) : Host.Outcome State Fault Refusal :=
  .next (if s.portPresent p && s.portState p = 2 && s.on (F.ETH_CFG_PREEMPT p) then s.set (F.ETH_ST_PREEMPT_OK p) 1 else s)

/-- FRAME_RECEIVE (R260). -/
def execFrameReceive (p tpcs len : Nat) (fcsOk err : Bool) (bytes : Nat) (s : State) : Host.Outcome State Fault Refusal :=
  .next (s.frameReceive p tpcs len fcsOk err bytes)

/-- PAUSE_END (R258): the pause of priority k (8 for all) runs out. -/
def execPauseEnd (p k : Nat) (s : State) : Host.Outcome State Fault Refusal :=
  .next (match alGet (s.port p).pauses k with
    | some z =>
      if s.time.running then
        let s := s.runTo (ceilDiv z.until_ 1000)
        s.setPort p { s.port p with pauses := alDel (s.port p).pauses k }
      else s
    | none => s)

/-- PAUSE_WATCHDOG (R259): a pause, renewals counted, has lasted WD µs. -/
def execPauseWatchdog (p k : Nat) (s : State) : Host.Outcome State Fault Refusal :=
  .next (match alGet (s.port p).pauses k with
    | some z =>
      let due := z.since + 1000 * s.get (F.ETH_PAUSE_WD_WD p)
      if s.time.running && decide (1000 * due ≤ z.until_) then
        let s := s.runTo due
        (s.setPort p { s.port p with pauses := alDel (s.port p).pauses k }).ethStat p 21 1
      else s
    | none => s)

/-- LAUNCH_START (R255, R256). -/
def execLaunchStart (p : Nat) (dev : Int) (s : State) : Host.Outcome State Fault Refusal :=
  .next (if s.time.running then s.launchStart p dev else s)

/-- LAUNCH_EMPTY (R255). -/
def execLaunchEmpty (p : Nat) (s : State) : Host.Outcome State Fault Refusal :=
  .next (if s.time.running then s.launchEmpty p else s)

/-- BE_FRAME_START (R253, R254). -/
def execBeFrameStart (p tpcs : Nat) (s : State) : Host.Outcome State Fault Refusal := .next (s.beStart p tpcs)

/-- TXTS_OVERFLOW_ENTRY (R266): 8 entries are free. -/
def execTxtsOverflowEntry (p : Nat) (s : State) : Host.Outcome State Fault Refusal :=
  .next (match (s.port p).txtsDrop with
    | some (t, n) =>
      if (s.port p).txts.length ≤ 56 then
        let x := s.port p
        let e : TxTs := ⟨0, 2, s.prov, t, 0, satN 16 n⟩
        ((s.setPort p { x with txts := x.txts ++ [e], txtsDrop := none }).txtsFill p).set (F.ETH_TXTS_ST_OVF p) 0
      else s
    | none => s)

/-- ETH_SEND (R265, R372): the oldest ETH_SEND of the provider's ring; `dmaOk` and `bytes` are what the read of the frame
gives. -/
def execEthSend (dmaOk : Bool) (bytes : Nat) (s : State) : Host.Outcome State Fault Refusal :=
  .next (match s.cmdOf 0 0x701 with
    | some c =>
      let p := c.arg 0 1 % 8
      let len := c.arg 2 2
      if !s.takesBe p then s.finish 0 c.n cLinkDown 0
      else if !dmaOk then s.finish 0 c.n cDmaErr 0
      else
        let f := State.cellBytes bytes 0 len
        (s.takeCmd 0 c.n).addBe p
          ⟨some c.n, if bitOf (c.arg 0 1) 3 then some (c.arg 4 2) else none, State.framePrio f, len + 4, len + 4, false, none, .raw f⟩
    | none => s)

/-- LOOP_GO (R269): a write of ETH_LOOP_CTL.GO. -/
def execLoopGo (s : State) : Host.Outcome State Fault Refusal := .next (s.awake State.loopGo)

/-- LOOP_ABORT (R270): a write of ETH_LOOP_CTL.ABORT. -/
def execLoopAbort (s : State) : Host.Outcome State Fault Refusal := .next (s.awake (fun s => s.loopAbort 5))

/-- LOOP_FRAME_LAUNCH (R269). -/
def execLoopFrameLaunch (s : State) : Host.Outcome State Fault Refusal := .next s.loopFrames

/-- LOOP_RUN_END (R269). -/
def execLoopRunEnd (s : State) : Host.Outcome State Fault Refusal := .next s.loopEnd

/-- LOOP_TIMEOUT (R270): fewer than N frames within N × 2 µs + 1 ms. -/
def execLoopTimeout (s : State) : Host.Outcome State Fault Refusal :=
  .next (match s.eth.loop with
    | some r =>
      if (r.ab.length < r.n || r.ba.length < r.n) && s.time.running then
        (s.runTo (r.goAt + 2000 * r.n + 1000000)).loopAbort 3
      else s
    | none => s)

/-- TX_LAUNCH_CELL (R347): the port of engine e takes its TX_LAUNCH; `excl` are the grid points that alignment markers or
parity displace (R250). -/
def execTxLaunchCell (e : Nat) (excl : List Nat) (s : State) : Host.Outcome State Fault Refusal :=
  .next (if e < 8 then s.txLaunch e excl else s)

end Sys2Proof.Machine
end

