-- ==== Sys2Proof/Machine/Gfl.lean ====
section
/-!
DEFINITION. Sys2Proof/Machine/Gfl.lean: the Ghefotha links (R398 to R409): states, cells, sequence numbers and retry, HELLO
and digests, two-way time transfer, the owner of a client key. Payload bytes count from byte 8 of a cell.
-/

namespace Sys2Proof.Machine

/-- A signed difference b − a of instants held as short time and FRAC, 2^-16 ns. -/
def sdiffQ (a b : Nat) : Int := toSigned 80 ((b % 2 ^ 80 + (2 ^ 80 - a % 2 ^ 80)) % 2 ^ 80)

/-- CRC-32C register after one byte (R322). -/
def crcByte (crc b : Nat) : Nat :=
  (List.range 8).foldl (fun c _ => if c % 2 = 1 then Nat.xor (c / 2) 0x82F63B78 else c / 2) (Nat.xor crc b)

/-- CRC-32C of the first n bytes of a number, byte 0 lowest (R322). -/
def crc32c (v n : Nat) : Nat := 0xFFFFFFFF - (List.range n).foldl (fun c i => crcByte c (State.cellBytes v i 1)) 0xFFFFFFFF

/-- The bucket of a client key: h[5:0] of the CRC-32C over TENANT and ADDR (R409). -/
def shardBucket (tenant addr : Nat) : Nat := crc32c (tenant % 2 ^ 16 + 2 ^ 16 * addr) 18 % 64

namespace State

/-! ## Links -/

/-- A link's own state. -/
def link (s : State) (l : Nat) : LinkSt := (alGet s.gfl.links l).getD LinkSt.reset

/-- The state with a link's own state replaced. -/
def setLink (s : State) (l : Nat) (x : LinkSt) : State := { s with gfl := { s.gfl with links := alSet s.gfl.links l x } }

/-- The state of a link (R400): 0 OFF, 1 TRAIN, 2 UP, 3 ISOLATED, 4 QUARANTINE. -/
def linkState (s : State) (l : Nat) : Nat := s.get (F.GFL_ST_STATE l)

/-- One bit of a mask field set or cleared. -/
def setBit (s : State) (f : Fld) (i : Nat) (b : Bool) : State :=
  let v := s.get f
  let v' := if bitOf v i then v - 2 ^ i else v
  s.set f (if b then v' + 2 ^ i else v')

/-- Every request waiting for an owner over a link that has left UP is dropped (R410). -/
def loseShards (s : State) (l : Nat) : State :=
  let n := (s.hmk.shards.filter (fun p => p.link = l)).length
  if n = 0 then s
  else ({ s with hmk := { s.hmk with shards := s.hmk.shards.filter (fun p => p.link ≠ l) } }).add F.GFL_SHARD_ST_SHARD_LOST n

/-- Client entries the part serves under the accepted features (R7). -/
def featClients (s : State) : Nat := if s.part.small then 2097152 else if s.feat 2 then 5242880 else 1048576

/-- Features in force on the link (R401). -/
def linkFeat (s : State) (l b : Nat) : Bool := bitOf (s.get (F.GFL_ST_FEAT_IN l)) b

/-- A cell type is negotiated on the link (R401). -/
def negotiated (s : State) (l typ : Nat) : Bool :=
  typ = 1 || typ = 2 || ((typ = 3 || typ = 4) && s.linkFeat l 8) ||
    (typ = 5 && s.linkFeat l 7 && s.on (F.GFL_CFG_PAIR_LINK l) &&
      (match (s.link l).hello with | some h => h.pairLink | none => false))

/-- The unit at the far end is an SPR-A932. DESIGN CHOICE: no cell names the part; a unit whose features in force hold none of
TENANTS_1024, CLIENTS_5M and MEDIA is taken for one, so that an SPR-A960 that declines all three shares as an SPR-A932 does. -/
def peerSmall (s : State) (l : Nat) : Bool :=
  match (s.link l).hello with
  | some h => !bitOf h.feats 1 && !bitOf h.feats 2 && !bitOf h.feats 9
  | none => false

/-- A tenant and a port exist on both parts of a link, so that they are shared (R8). -/
def sharedKey (s : State) (l tenant port : Nat) : Bool :=
  !(s.part.small || s.peerSmall l) || (tenant < 256 && port < 4)

/-- CAPACITY follows image and features; a device that shares with an SPR-A932 over a link in UP takes the smaller (R8). -/
def settleCapacity (s : State) : State :=
  let mixed := [0, 1, 2, 3].any (fun l => s.linkState l = 2 && (s.negotiated l 3 || s.negotiated l 5) && s.peerSmall l)
  let n := if mixed then min s.featClients 2097152 else s.featClients
  s.set F.HMK_CT_ST_CAPACITY (match s.str.capacity with | some c => min c n | none => n)

/-- A link's state changes: its record carries the cause (R420); what waits for an owner over a link that leaves UP is lost. -/
def linkTo (s : State) (l st cause : Nat) : State :=
  let old := s.linkState l
  let s := if old = 2 && st ≠ 2 then s.loseShards l else s
  let s := (s.set (F.GFL_ST_STATE l) st).settleCapacity
  let s := (s.setBit F.GFL_STAT_UP l (st = 2)).setBit F.GFL_STAT_QUAR l (st = 4)
  s.pevent 0x28 0 (pay [(20, 1, l), (21, 1, old), (22, 1, st), (23, 1, cause)])

/-- Digests differ on the link or not. -/
def setIso (s : State) (l : Nat) (b : Bool) : State := (s.setB (F.GFL_ST_ISO l) b).setBit F.GFL_STAT_ISO l b

/-- The link's HELLO shows another digest than the live one. -/
def digestsDiffer (s : State) (l : Nat) : Bool :=
  match (s.link l).hello with
  | some h => h.digest ≠ s.get F.STR_DIGEST_DIGEST
  | none => false

/-- A cell type may flow in the link's state (R400, R405). -/
def flows (s : State) (l typ : Nat) : Bool :=
  match s.linkState l with
  | 1 => typ = 1 && (s.link l).lanes
  | 2 => s.negotiated l typ
  | 3 => typ = 1 || typ = 2
  | 4 => typ = 1 || typ = 2
  | _ => false

/-! ## Sending (R403) -/

/-- Order in which cells ready in one cycle are sent (R403). -/
def cellRank (typ : Nat) : Nat :=
  match typ with
  | 2 => 0
  | 1 => 1
  | 5 => 2
  | 4 => 3
  | _ => 4

/-- A cell put among those that wait. -/
def insCell (c : GCell) : List GCell → List GCell
  | [] => [c]
  | h :: t => if cellRank c.typ < cellRank h.typ then c :: h :: t else h :: insCell c t

/-- A cell goes out with the next SEQ. A TIME cell's T_SEND is its launch (R405). -/
def cellOut (s : State) (l : Nat) (c : GCell) : State :=
  let x := s.link l
  let pl := if c.typ = 2 then
      putBytes (putBytes c.payload 0 8 (bswap 8 s.short)) 8 2 (bswap 2 s.frac) else c.payload
  let c := { c with seq := x.txSeq, ack := x.rxSeq, ackValid := true, payload := pl }
  let s := s.setLink l { x with txSeq := (x.txSeq + 1) % 65536, unacked := x.unacked ++ [c] }
  (s.emitOut (.cell l c)).count (0x5C0 + 4 * l)

/-- A new cell is sent, or waits while the retry buffer of 512 is full (R403); one that may not flow in QUARANTINE or
ISOLATED is discarded (R393). -/
def sendCell (s : State) (l typ payload : Nat) : State :=
  let x := s.link l
  let c : GCell := ⟨typ, false, false, true, 0, 0, 0, s.get F.SYS_STRAP_DEVID, 1, payload⟩
  if !s.flows l typ then
    if s.linkState l = 3 || s.linkState l = 4 then s.add (F.GFL_ST_QUAR_DROP l) 1 else s
  else if x.unacked.length < 512 && x.waiting.isEmpty then s.cellOut l c
  else s.setLink l { x with waiting := insCell c x.waiting }

/-- Waiting cells go out while the retry buffer has room. -/
def drainCells (s : State) (l : Nat) : State :=
  let x := s.link l
  let n := 512 - x.unacked.length
  let s := s.setLink l { x with waiting := x.waiting.drop n }
  (x.waiting.take n).foldl (fun s c => s.cellOut l c) s

/-- a lies before b in sequence, within the 32,768 values below it. -/
def seqBefore (a b : Nat) : Bool := let d := (b + 65536 - a) % 65536; decide (0 < d ∧ d ≤ 32768)

/-- The peer expects SEQ a next: what lies before it is acknowledged (R403). -/
def acked (s : State) (l a : Nat) : State :=
  let x := s.link l
  (s.setLink l { x with unacked := x.unacked.filter (fun c => !seqBefore c.seq a) }).drainCells l

/-- A NAK with ACK = e: the cells from e on are sent again, in order, with RETRY (R403). -/
def resendFrom (s : State) (l e : Nat) : State :=
  let s := s.acked l e
  (s.link l).unacked.foldl (fun s c => (s.emitOut (.cell l { c with retry := true })).count (0x5C0 + 4 * l)) s

/-- A NAK is sent: an IDLE cell with NAK and the SEQ expected; one anomaly of source 3 + l (R403). -/
def sendNak (s : State) (l : Nat) : State :=
  let x := s.link l
  let s := s.emitOut (.cell l ⟨0, false, true, true, 0, 0, x.rxSeq, s.get F.SYS_STRAP_DEVID, 1, 0⟩)
  ((s.add (F.GFL_ST_RETRIES l) 1).count (0x5C2 + 4 * l)).srcAnomaly (3 + l)

/-! ## HELLO, training, release (R400, R401, R404) -/

/-- The STATE a unit publishes: ISOLATED while MINORITY is set, else its role (R419, R429). -/
def publishedState (s : State) : Nat := if s.on F.SEAM_STAT_MINORITY then 3 else s.get F.PAIR_STAT_ROLE

/-- The HELLO payload (R401). -/
def helloPayload (s : State) (l : Nat) : Nat :=
  pack 0 [(0, 1, s.get F.SYS_STRAP_DEVID + 8 * s.get (F.GFL_CFG_PAIR_LINK l) + 16 * s.publishedState +
      (if s.prov then 128 else 0)),
    (1, 1, s.get F.SYS_STRAP_PAIR_POS), (4, 32, s.get F.STR_DIGEST_DIGEST), (36, 16, s.hif.feats)]

/-- A HELLO is sent. -/
def sendHello (s : State) (l : Nat) : State := s.sendCell l 1 (s.helloPayload l)

/-- A training attempt begins: what the link held is lost, and sequence numbers start at 0. -/
def startTraining (s : State) (l : Nat) : State :=
  let s := (s.add (F.GFL_ST_TRAINS l) 1).count (0x5C3 + 4 * l)
  let s := s.setLink l { LinkSt.reset with inq := (s.link l).inq }
  s.set (F.GFL_TT_VALID l) 0

/-- A link goes to TRAIN. -/
def linkTrain (s : State) (l cause : Nat) : State := (s.linkTo l 1 cause).startTraining l

/-- EN = 1 is live and PD_GFL is up: OFF to TRAIN (R400). -/
def linkOn (s : State) (l : Nat) : State := if s.linkState l = 0 && s.pdUp 27 then s.linkTrain l 0 else s

/-- EN = 0 goes live, or PD_GFL goes off (R400). -/
def linkOff (s : State) (l cause : Nat) : State :=
  if s.linkState l = 0 then s
  else (((s.linkTo l 0 cause).setLink l LinkSt.reset).set (F.GFL_TT_VALID l) 0).setIso l false

/-- A strobe accepts GFL_AGREE, GFL_CFG(l). At most one link has PAIR_LINK set. -/
def gflAgreeOk (s : State) : Bool := decide (100 ≤ s.view F.GFL_AGREE_LIMIT)
def gflCfgOk (s : State) (l : Nat) : Bool :=
  s.view (F.GFL_CFG_TT_PER l) ≠ 0 &&
    (s.view (F.GFL_CFG_PAIR_LINK l) = 0 || [0, 1, 2, 3].all (fun k => k = l || s.view (F.GFL_CFG_PAIR_LINK k) = 0))

/-- An accepted link configuration is live; `was` is EN before. -/
def gflLive (s : State) (l : Nat) (was : Bool) : State :=
  if s.on (F.GFL_CFG_EN l) then s.linkOn l else if was then s.linkOff l 0 else s

/-- The peer of a link commits the violation CELL_TYPE: quench, then QUARANTINE (R393, R402, R408). -/
def quenchPeer (s : State) (l typ : Nat) : State :=
  if s.linkState l = 4 then s else (s.quenchRecords 2 l 1 typ).linkTo l 4 5

/-- A link leaves QUARANTINE at its release strobe, for the state the digests give (R393, R408). -/
def releaseLink (s : State) (l : Nat) : State :=
  if s.linkState l = 4 then (s.releaseRecords 2 l).linkTo l (if s.digestsDiffer l then 3 else 2) 6 else s

/-- The digests of a link are compared at a tick, if a HELLO has come since the last comparison (R407). -/
def compareDigests (s : State) (l : Nat) : State :=
  let x := s.link l
  if !x.fresh || s.linkState l < 2 then s
  else
    let d := s.digestsDiffer l
    let s := (s.setLink l { x with fresh := false, differs := if d then x.differs + 1 else 0 }).setIso l d
    if s.linkState l = 2 && d && 1 ≤ x.differs then s.linkTo l 3 3
    else if s.linkState l = 3 && !d then s.linkTo l 2 4
    else s

/-- A link whose retry source has entered FAULT retrains once (R404). -/
def crcRetrain (s : State) (l : Nat) : State := if s.linkState l = 0 then s else s.linkTrain l 7

/-! ## Receiving (R402, R403) -/

/-- A byte range of a payload is 0. -/
def zeros (pl i n : Nat) : Bool := cellBytes pl i n = 0

/-- A reserved field of a payload is set, or an INGOT cell's KIND is reserved (R402). -/
def payloadBad (typ pl : Nat) : Bool :=
  let b (i : Nat) : Nat := cellBytes pl i 1
  match typ with
  | 1 => 5 ≤ b 0 / 16 % 8 || 2 ≤ b 1 || !zeros pl 2 2
  | 2 => !(zeros pl 10 2 && zeros pl 22 2 && zeros pl 34 2 && zeros pl 48 4)
  | 3 => 32 ≤ b 6 || 4 ≤ b 7 || !zeros pl 44 8 || (b 7 = 2 && !zeros pl 39 5)
  | 4 => 9 ≤ b 4 || !zeros pl 9 43
  | _ =>
    match b 0 with
    | 0 => 64 ≤ b 2 || 16 ≤ b 3 || !zeros pl 40 12
    | 1 => false
    | 2 => 16 ≤ b 1 || !zeros pl 36 16
    | 3 => false
    | _ => true

/-- A cell accepted in sequence is delivered to its block, discarded, or quenches the peer (R400, R402). -/
def deliverCell (s : State) (l : Nat) (c : GCell) (at_ : Nat) : State :=
  let st := s.linkState l
  let bad := 6 ≤ c.typ || c.rsv ≠ 0 || 8 ≤ c.src || 16 ≤ c.proto || payloadBad c.typ c.payload || !s.negotiated l c.typ
  if st = 1 then
    if c.typ ≠ 1 then s
    else if c.proto ≠ 1 then
      (((s.add (F.GFL_ST_TRAINS l) 1).count (0x5C3 + 4 * l)).pevent 0x28 0 (pay [(20, 1, l), (21, 1, 1), (22, 1, 1), (23, 1, 8)]))
    else (s.setLink l { s.link l with inq := (s.link l).inq ++ [(c, at_)] }).count (0x5C1 + 4 * l)
  else if st = 4 && c.typ ≠ 1 && c.typ ≠ 2 then s.add (F.GFL_ST_QUAR_DROP l) 1
  else if bad then s.quenchPeer l c.typ
  else if st = 3 && c.typ ≠ 1 && c.typ ≠ 2 then s.add (F.GFL_ST_QUAR_DROP l) 1
  else (s.setLink l { s.link l with inq := (s.link l).inq ++ [(c, at_)] }).count (0x5C1 + 4 * l)

/-- A link receives a cell (R403): `crcOk` its CRC, `at_` its receive time in core 2^-16 ns. -/
def cellReceive (s : State) (l : Nat) (c : GCell) (crcOk : Bool) (at_ : Nat) : State :=
  if s.linkState l = 0 || 4 ≤ l || !(s.link l).lanes then s
  else if !crcOk then s.sendNak l
  else
    let s := if c.ackValid then s.acked l c.ack else s
    let s := if c.nak then s.resendFrom l c.ack else s
    let e := (s.link l).rxSeq
    if c.typ = 0 then s
    else if c.seq = e then (s.setLink l { s.link l with rxSeq := (e + 1) % 65536 }).deliverCell l c at_
    else if seqBefore c.seq e then s.add (F.GFL_ST_DUPS l) 1
    else s.sendNak l

/-- The first delivered cell of a type that a predicate allows, taken from a link. -/
def takeIn (p : GCell → Bool) : List (GCell × Nat) → Option ((GCell × Nat) × List (GCell × Nat))
  | [] => none
  | x :: t =>
    if p x.1 then some (x, t)
    else match takeIn p t with
      | some (y, r) => some (y, x :: r)
      | none => none

/-- The same, from the link's state. -/
def takeFrom (s : State) (l : Nat) (p : GCell → Bool) : Option (GCell × Nat × State) :=
  match takeIn p (s.link l).inq with
  | some ((c, t), r) => some (c, t, s.setLink l { s.link l with inq := r })
  | none => none

/-- A HELLO is taken (R400, R401): the peer, the features in force on the link, and in TRAIN the state it goes to. -/
def takeHello (s : State) (l : Nat) (pl : Nat) : State :=
  let b0 := cellBytes pl 0 1
  let h : Hello := ⟨b0 % 8, bitOf b0 3, b0 / 16 % 8, bitOf b0 7, cellBytes pl 1 1, cellBytes pl 4 32, cellBytes pl 36 16⟩
  let s := s.setLink l { s.link l with hello := some h, fresh := true }
  let s := (s.set (F.GFL_ST_PEER l) h.devid).set (F.GFL_ST_FEAT_IN l) (h.feats &&& s.hif.feats)
  let s := s.settleCapacity
  if s.linkState l = 1 then
    let d := s.digestsDiffer l
    let s := (s.setIso l d).setLink l { s.link l with differs := 0, fresh := false }
    if d then s.linkTo l 3 3 else s.linkTo l 2 1
  else s

/-! ## Two-way time transfer (R405, R406) -/

/-- An instant at byte i of a payload: short time and FRAC. -/
def wireTime (pl i : Nat) : Nat := wireBytes pl i 8 * 65536 + wireBytes pl (i + 8) 2

/-- The payload of a TIME cell (R401); T_SEND is put when it goes out. -/
def timePayload (s : State) (l : Nat) : Nat :=
  let (p, r) := ((s.link l).lastTime).getD (0, 0)
  let p := p % 2 ^ 80
  let r := r % 2 ^ 80
  pack 0 [(12, 8, bswap 8 (p / 65536)), (20, 2, bswap 2 (p % 65536)), (24, 8, bswap 8 (r / 65536)), (32, 2, bswap 2 (r % 65536)),
    (36, 8, bswap 8 (s.get (F.GFL_TT_OFFSET l))), (44, 4, bswap 4 (s.get F.TSK_TEB_FLOAT_BOUND))]

/-- A received TIME cell (R405, R406): `t4` its receive time. A RETRY cell serves as neither t2 nor t4. -/
def timeReceive (s : State) (l : Nat) (c : GCell) (t4 : Nat) : State :=
  let pl := c.payload
  let s := s.set (F.GFL_TT_PEER_TEB l) (wireBytes pl 44 4)
  if c.retry then s
  else
    let t3 := wireTime pl 0
    let t1 := wireTime pl 12
    let t2 := wireTime pl 24
    let s := s.setLink l { s.link l with lastTime := some (t3, t4) }
    if t1 = 0 && t2 = 0 then s
    else
      let a := sdiffQ t3 t4
      let b := sdiffQ t1 t2
      let off := roundRat (((a - b : Int) : Rat) / 2 - (s.getI (F.GFL_CFG_ASYM l) : Rat) * 65536 / 1000)
      let s := (s.setI (F.GFL_TT_OFFSET l) off).setI (F.GFL_TT_RTT l) (a + b)
      let s := (s.set (F.GFL_TT_T l) (t4 / 65536)).set (F.GFL_TT_VALID l) 1
      let s := s.add (F.GFL_TT_SEQ l) 1
      let tb := s.get (F.GFL_CFG_TT_BOUND l)
      let r := 32 + l
      let s := s.setRef r { s.ref r with usedAt := s.ns }
      s.deliver { s.measOf r (if tb = 0xFFFFFFFF then unb else tb) with off := some off, at_ := t4 / 65536 }

/-! ## The owner of a client key (R409) -/

/-- Where a key is served. -/
inductive Shard where
  | here
  | fallback
  | remote (link dev : Nat)
  deriving DecidableEq, Repr

/-- Where a key is served under the map of a register file (R409, R411): here too where one of the two parts lacks its tenant
or port (R8). -/
def shardIn (s : State) (m : Store) (tenant port addr : Nat) : Shard :=
  let b := shardBucket tenant addr
  let dev := m.get (F.GFL_SHARD_MAP_DEVID (b / 8) (b % 8))
  if !s.feat 8 || m.get (F.GFL_SHARD_MAP_VALID (b / 8) (b % 8)) = 0 || dev = s.get F.SYS_STRAP_DEVID then .here
  else match [0, 1, 2, 3].find? (fun l => s.linkState l = 2 && s.negotiated l 3 && s.get (F.GFL_ST_PEER l) = dev) with
    | some l => if s.sharedKey l tenant port then .remote l dev else .here
    | none => .fallback

/-- Where the key is served under the live map. -/
def shardOf (s : State) (tenant port addr : Nat) : Shard := s.shardIn s.regs tenant port addr

/-- The GFL_TIME action of link l at an epoch (R405). -/
def gflTime (s : State) (l epoch : Nat) : State :=
  let per := 1000000 * s.get (F.GFL_CFG_TT_PER l)
  if per ≠ 0 && epoch % per = 0 && 2 ≤ s.linkState l then s.sendCell l 2 (s.timePayload l) else s

end State

/-! ## Commands -/

/-- LINK_LANE_LOCK (R400, R401): a training link locks and deskews its lanes and sends a HELLO. -/
def execLinkLaneLock (l : Nat) (s : State) : Host.Outcome State Fault Refusal :=
  .next (
    if l < 4 && s.linkState l = 1 && !(s.link l).lanes then (s.setLink l { s.link l with lanes := true }).sendHello l else s)

/-- NAK_RECEIVE (R403): a cell carrying NAK with ACK = e. -/
def execNakReceive (l e : Nat) (s : State) : Host.Outcome State Fault Refusal :=
  .next (if l < 4 && s.linkState l ≠ 0 then s.resendFrom l e else s)

end Sys2Proof.Machine
end

