-- ==== Sys2Proof/Machine/Vault.lean ====
section
/-!
DEFINITION. Sys2Proof/Machine/Vault.lean: the key vault: zeroization and the tamper log, the key cache, update messages,
attestation (R303 to R320), and the ALERT pin (R467). What the vault's cryptography produces is a free value.
-/

namespace Sys2Proof.Machine

namespace State

/-! ## ALERT_L (R467) -/

/-- ALERT_L follows what asserts it (R467). -/
def settleAlert (s : State) : State :=
  let a := s.get F.STR_STAT_STATE = 2 || s.on F.SYS_BOOT_ST_DRAM_FAIL || s.get F.SYS_PD_FAULT_FAULT ≠ 0
    || s.on F.KVT_STAT_VBAT_LOST || s.on F.KVT_STAT_LOG_NEW || s.on F.PAIR_STAT_POS_CONFLICT
  let was := s.on F.SYS_BOOT_ST_ALERT
  let s := s.setB F.SYS_BOOT_ST_ALERT a
  if a && !was then s.emitOut .alert else s

/-! ## The key cache (R308 to R311) -/

/-- A vault statistic and its counter count one. -/
def kvtStat (s : State) (k : Nat) : State := (s.add (F.KVT_STATS_COUNT k) 1).count (0x500 + k)

/-- The vault is PROVISIONED (R306). -/
def provisioned (s : State) : Bool := s.on F.KVT_STAT_PROVISIONED

/-- A slot is emptied. -/
def clearSlot (s : State) (i : Nat) : State :=
  if s.on (F.KVT_SLOT_VALID i) then
    let t := s.get (F.KVT_SLOT_TENANT i)
    let s := s.set (F.KVT_TEN_ST_USED t) (s.get (F.KVT_TEN_ST_USED t) - 1)
    let s := (s.set (F.KVT_SLOT_TENANT i) 0).set (F.KVT_SLOT_CLASS i) 0
    let s := ((s.set (F.KVT_SLOT_USAGE i) 0).set (F.KVT_SLOT_VALID i) 0).set (F.KVT_SLOT_KEY_ID i) 0
    { s with kvt := { s.kvt with slots := alDel s.kvt.slots i } }
  else s

/-- The slots in use that a test picks are emptied. -/
def clearSlots (s : State) (p : Nat → Bool) : State :=
  (s.kvt.slots.map Prod.fst).foldl (fun s i => if p i then s.clearSlot i else s) s

/-- A key goes live in a slot (R309). -/
def fillSlot (s : State) (i : Nat) (b : KeyBlob) : State :=
  let s := s.add (F.KVT_TEN_ST_USED b.tenant) 1
  let s := (s.set (F.KVT_SLOT_TENANT i) b.tenant).set (F.KVT_SLOT_CLASS i) b.cls
  let s := ((s.set (F.KVT_SLOT_USAGE i) b.usage).set (F.KVT_SLOT_VALID i) 1).set (F.KVT_SLOT_KEY_ID i) b.keyId
  { s with kvt := { s.kvt with slots := alSet s.kvt.slots i ⟨b.key, b.notBefore, b.notAfter⟩ } }

/-- Hallmark holds the slot as a current, previous or next key (R310). -/
def slotHeld (s : State) (i : Nat) : Bool :=
  let t := s.get (F.KVT_SLOT_TENANT i)
  let c := s.get (F.KVT_SLOT_CLASS i)
  (s.on (F.HMK_KEY_ST_CUR_VALID t c) && s.get (F.HMK_KEY_ST_CUR_SLOT t c) = i)
    || (s.on (F.HMK_KEY_ST_PREV_VALID t c) && (alGet s.hmk.prevSlot (4 * t + c)).getD 0 = i)
    || (s.on (F.HMK_KEY_ST_NEXT_VALID t c) && s.get (F.HMK_KEY_NEXT_SLOT t c) = i)

/-- A KEY_EPOCH of R303. -/
def keyEpoch (s : State) (t : Nat) : Nat := (alGet s.kvt.epochs t).getD 0

/-- The key blob's MAGIC "CKB1" and the update message's "CKUM", little-endian (R308, R312). -/
def magicBlob : Nat := 0x31424B43
def magicUpd : Nat := 0x4D554B43

/-- A tenant function names a slot that holds another tenant's key (R309 step 4, R310). -/
def slotForeign (s : State) (fn slot : Nat) : Bool :=
  fn ≠ 0 && slot < 4096 && s.on (F.KVT_SLOT_VALID slot) && s.get (F.KVT_SLOT_TENANT slot) ≠ s.cmdTenant fn

/-- The status that a KVT_LOAD without a violation completes with (R309). -/
def loadCheck (s : State) (fn slot : Nat) (dmaOk : Bool) (b : KeyBlob) : Nat :=
  if s.engQuenched 17 then cUnavailable
  else if !s.provisioned then cUnprovisioned
  else if 4096 ≤ slot then cBadSlot
  else if s.on (F.KVT_SLOT_VALID slot) then cOccupied
  else if !dmaOk then cDmaErr
  else if b.magic ≠ magicBlob || b.version ≠ 1 || 3 ≤ b.cls || b.rsv ≠ 0 || 1024 ≤ b.tenant || b.usage = 0 || 4 ≤ b.usage then
    cBadFormat
  else if fn ≠ 0 && b.tenant ≠ s.cmdTenant fn then cNotPermitted
  else if b.epoch ≠ s.keyEpoch b.tenant then cStaleEpoch
  else if !b.tagOk || b.devId ≠ s.get F.KVT_ID_DEV_ID then cBadTag
  else if s.prov && (b.notBefore ≠ 0 || b.notAfter ≠ 0) then cProvisional
  else if b.notAfter ≠ 0 && sdiff s.short b.notAfter ≤ 0 then cExpired
  else if b.notBefore ≠ 0 && 0 < sdiff s.short b.notBefore then cNotYet
  else if s.get (F.KVT_TEN_ST_QUOTA b.tenant) ≤ s.get (F.KVT_TEN_ST_USED b.tenant) then cQuota
  else cOk

/-- Both KVT_LOAD and KVT_EVICT stop before the violation check while the engine is quenched, the vault unprovisioned or
the slot out of range (R309). -/
def slotViolation (s : State) (fn slot : Nat) : Bool :=
  !s.engQuenched 17 && s.provisioned && s.slotForeign fn slot

/-- A command that names another tenant's slot completes with QUENCHED, and its function is quenched with cause KEY
(R384, R388). -/
def keyViolation (s : State) (fn n slot result : Nat) : State :=
  (s.finish fn n cQuenched result).quenchFn fn 4 slot

/-- KVT_LOAD of function fn (R309): the command that waits, its host read and the blob read. -/
def kvtLoad (s : State) (fn : Nat) (dmaOk : Bool) (b : KeyBlob) : State :=
  match s.cmdOf fn 0x0901 with
  | some c =>
    let slot := c.arg 8 2
    if s.slotViolation fn slot then (s.kvtStat 1).keyViolation fn c.n slot slot
    else
      let st := s.loadCheck fn slot dmaOk b
      let s := s.finish fn c.n st slot
      if st = cOk then (s.fillSlot slot b).kvtStat 0 else s.kvtStat 1
  | none => s

/-- The status that a KVT_EVICT without a violation completes with (R310). -/
def evictCheck (s : State) (slot : Nat) : Nat :=
  if s.engQuenched 17 then cUnavailable
  else if !s.provisioned then cUnprovisioned
  else if 4096 ≤ slot then cBadSlot
  else if !s.on (F.KVT_SLOT_VALID slot) then cEmpty
  else if s.slotHeld slot then cInUse
  else cOk

/-- KVT_EVICT of function fn (R310). -/
def kvtEvict (s : State) (fn : Nat) : State :=
  match s.cmdOf fn 0x0902 with
  | some c =>
    let slot := c.arg 0 2
    if s.slotViolation fn slot then s.keyViolation fn c.n slot 0
    else
      let st := s.evictCheck slot
      let s := s.finish fn c.n st 0
      if st = cOk then s.clearSlot slot else s
  | none => s

/-- KEY_EXPIRY of a slot (R311): at a tick boundary at which NOT_AFTER is not later than the core time. -/
def keyExpiry (s : State) (slot : Nat) : State :=
  match alGet s.kvt.slots slot with
  | some k =>
    if s.atBoundary && k.notAfter ≠ 0 && sdiff s.short k.notAfter ≤ 0 then
      let t := s.get (F.KVT_SLOT_TENANT slot)
      let p := pay [(20, 2, slot), (22, 1, s.get (F.KVT_SLOT_CLASS slot)), (24, 4, s.get (F.KVT_SLOT_KEY_ID slot))]
      let s := (s.clearSlot slot).kvtStat 6
      let s := s.pevent 0x0F t p
      if s.fnOf t = 0 then s else s.event (s.fnOf t) 0x0F t p
    else s
  | none => s

/-! ## Zeroization and tamper (R303, R306, R316 to R320) -/

/-- Every vault command under way completes with TAMPERED (R317). -/
def tamperCmds (s : State) (fn : Nat) : State :=
  ((s.fn fn).orphans ++ (s.fn fn).cmds).foldl (fun s c =>
    if c.started && c.done.isNone && c.dupOf.isNone && 0x0901 ≤ c.d.opcode && c.d.opcode ≤ 0x0904 then
      s.finish fn c.n cTampered (if c.d.opcode = 0x0901 then c.arg 8 2 else 0)
    else s) s

/-- The zeroizable set of R303 and the key cache are cleared, and the vault is UNPROVISIONED with a fresh PROV_NONCE
(R306). A record write under way is aborted (R317). -/
def zeroize (s : State) : State :=
  let s := s.clearSlots (fun _ => true)
  let s := { s with kvt := { s.kvt with root := 0, attest := 0, updKey := 0, imgKey := 0, lastDigest := 0, epochs := [], upd := none } }
  let s := (s.set F.KVT_UPD_CTR_UPD_CTR 0).set F.KVT_STAT_PROVISIONED 0
  let s := s.set F.KVT_PROV_NONCE_NONCE (Config.random s.draws)
  s.draw

/-- The VBAT domain's seconds counter runs on its own oscillator, ±2 % (R22, R319): what it has come to arrives with the command, and it
never runs back. -/
def vbatRead (s : State) (n : Nat) : State := { s with kvt := { s.kvt with vbatSec := max s.kvt.vbatSec n } }

/-- A tamper episode begins, or the one whose entry has not committed takes further sources (R319). -/
def episode (s : State) (sources : Nat) (temp : Int) (mainOff : Bool) : State :=
  match s.kvt.episode with
  | some e => { s with kvt := { s.kvt with episode := some { e with sources := e.sources ||| sources } } }
  | none =>
    let e : Episode :=
      { sources := sources, short := if mainOff then 0 else s.short, sec := s.kvt.vbatSec, temp := temp, mainOff := mainOff
        prov := !mainOff && s.prov }
    { s with kvt := { s.kvt with episode := some e } }.count 0x508

/-- Sources that fire and are enabled (R316): pins by PIN_EN, temperature against its limits, the others always; CLK_GLITCH
only while main power is present. -/
def firing (s : State) (sources : Nat) (temp : Int) (mainOff : Bool) : Nat :=
  (bitsOf sources 0 4 &&& s.get F.KVT_TAMPER_CFG_PIN_EN)
    + (if temp < s.getI F.KVT_TAMPER_CFG_T_LOW then 16 else 0)
    + (if (s.get F.KVT_TAMPER_CFG_T_HIGH : Int) < temp then 32 else 0)
    + (if bitOf sources 6 then 64 else 0)
    + (if bitOf sources 7 && !mainOff then 128 else 0)
    + (if bitOf sources 8 then 256 else 0)

/-- The provider and the VFs whose rings may hold vault commands. -/
def ringFns (s : State) : List Nat := s.hif.fns.map Prod.fst

/-- Tamper sources fire (R316, R317). -/
def tamper (s : State) (sources : Nat) (temp : Int) (mainOff : Bool) : State :=
  if sources = 0 then s
  else
    let s := s.zeroize
    let s := s.ringFns.foldl tamperCmds s
    s.episode sources temp mainOff

/-- A tamper log entry as R319 lays it out, VALID and NEW. -/
def tlogEntry (e : Episode) : Nat :=
  pack 0 [(0, 8, e.short), (8, 4, e.sec), (12, 2, e.sources), (14, 1, ofSigned 8 e.temp),
    (15, 1, 5 + (if e.mainOff then 2 else 0) + (if e.prov then 8 else 0))]

/-- NEW of log entry i. -/
def tlogNew (s : State) (i : Nat) : Bool := bitOf (s.get (F.KVT_TLOG_ENTRY i)) 122

/-- LOG_NEW follows the entries (R315, R320). -/
def settleLog (s : State) : State :=
  (s.setB F.KVT_STAT_LOG_NEW ((List.range 16).any (fun i => s.tlogNew i))).settleAlert

/-- Payload of the KVT_TAMPER record of log entry i (R320). -/
def tlogPay (s : State) (i : Nat) : Nat :=
  let v := s.get (F.KVT_TLOG_ENTRY i)
  pay [(20, 2, bitsOf v 96 16), (22, 1, i), (23, 1, bitsOf v 120 8), (24, 4, bitsOf v 64 32)]

/-- The log entry of the episode commits (R319, R320). -/
def tlogCommit (s : State) (mainPower : Bool) : State :=
  match s.kvt.episode with
  | some e =>
    let i := s.get F.KVT_TLOG_ST_HEAD
    let s := if s.tlogNew i then s.addSat F.KVT_TLOG_ST_OVERWRITTEN 1 else s
    let s := s.set (F.KVT_TLOG_ENTRY i) (tlogEntry e)
    let s := (s.add F.KVT_TLOG_ST_HEAD 1).add F.KVT_TLOG_ST_TOTAL 1
    let s := { s with kvt := { s.kvt with episode := none } }.settleLog
    if mainPower then (s.pevent 0x10 0 (s.tlogPay i)).trace 10 0 (s.tlogPay i) else s
  | none => s

/-- The log entries named in a mask are acknowledged (R320). -/
def ackLog (s : State) (mask : Nat) : State :=
  ((List.range 16).foldl (fun s i =>
    if bitOf mask i && s.tlogNew i then s.set (F.KVT_TLOG_ENTRY i) (s.get (F.KVT_TLOG_ENTRY i) - 2 ^ 122) else s) s).settleLog

/-! ## Update messages (R312 to R314) -/

/-- A policy that KEY_IMPORT and KEY_GENERATE refuse (R312), but for the length of the key. -/
def badPolicy (s : State) (p : Policy) : Bool :=
  p.rsv ≠ 0 || 3 ≤ p.cls || s.tenants ≤ p.tenant || p.usage = 0 || 4 ≤ p.usage

/-- Length of the keys of a class, in bytes (R308). -/
def classLen (cls : Nat) : Nat := if cls = 2 then 16 else 32

/-- T_LOW, T_HIGH and reserved bits as KVT_TAMPER_CFG allows them. -/
def tamperCfgOk (w0 w1 : Nat) : Bool :=
  -60 ≤ toSigned 8 w0 && toSigned 8 w0 ≤ -45 && bitsOf w0 8 8 = 0 && 115 ≤ bitsOf w0 16 8 && bitsOf w0 16 8 ≤ 130
    && bitsOf w0 24 8 = 0 && w1 < 16

/-- Length of a type's payload, bytes (R312); none for a type that is not in the table. -/
def payLen : UpdPay → Option Nat
  | .keyImport .. => some 96
  | .keyGenerate _ => some 48
  | .tenantEpoch .. => some 8
  | .setUpdateKey _ => some 48
  | .setAttest _ => some 48
  | .setImageKey _ => some 64
  | .tamperCfg .. => some 8
  | .deprovision => some 0
  | .provision .. => some 208
  | .other _ => none

/-- The payload of a message has its type's length: LENGTH counts it, the header and the MAC. -/
def payLenOk (m : UpdMsg) : Bool := (payLen m.pay).all (fun n => m.len = 64 + n)

/-- Step 8 of R313: the type check. -/
def typeCheck (s : State) (m : UpdMsg) : Nat :=
  match m.pay with
  | .other _ => cBadType
  | .keyImport p key len =>
    if !payLenOk m then cBadFormat
    else if s.badPolicy p || len ≠ classLen p.cls then cBadPolicy
    else if key.isNone then cBadTag else cOk
  | .keyGenerate p =>
    if !payLenOk m then cBadFormat else if s.badPolicy p || p.cls ≠ 0 then cBadPolicy else cOk
  | .tenantEpoch t rsv e =>
    if !payLenOk m || rsv ≠ 0 || 1024 ≤ t || 2 ^ 32 ≤ e || e ≤ s.keyEpoch t then cBadFormat else cOk
  | .setUpdateKey k => if !payLenOk m then cBadFormat else if k.isNone then cBadTag else cOk
  | .setAttest k => if !payLenOk m then cBadFormat else if k.isNone then cBadTag else cOk
  | .setImageKey _ => if !payLenOk m then cBadFormat else cOk
  | .tamperCfg a b => if !payLenOk m || !tamperCfgOk a b then cBadFormat else cOk
  | .deprovision => if !payLenOk m then cBadFormat else cOk
  | .provision .. => cOk

/-- The format check that opens R313: the message's LENGTH is that of the command, `len` (R312). -/
def badFrame (len : Nat) (m : UpdMsg) : Bool := m.magic ≠ magicUpd || m.version ≠ 1 || m.len ≠ len || m.rsv ≠ 0

/-- The checks of R313, or of R314 for PROVISION, on a message submitted with a LENGTH. -/
def updCheck (s : State) (len : Nat) (m : UpdMsg) : Nat :=
  match m.pay with
  | .provision onCurve secrets _ =>
    if badFrame len m || !payLenOk m then cBadFormat
    else if s.provisioned then cAlreadyProvisioned
    else if !onCurve || secrets.isNone then cBadTag
    else cOk
  | _ =>
    if badFrame len m then cBadFormat
    else if !s.provisioned then cUnprovisioned
    else if m.devId ≠ s.get F.KVT_ID_DEV_ID then cWrongDevice
    else if m.digest = s.kvt.lastDigest then cAlreadyApplied
    else if !m.macOk then cBadMac
    else if m.counter ≤ s.get F.KVT_UPD_CTR_UPD_CTR then cReplay
    else if s.get F.KVT_UPD_CTR_UPD_CTR = 2 ^ 64 - 1 then cCounterSpent
    else s.typeCheck m

/-- KVT_UPDATE with a message of a row's type, or of no type of the table (R312, R313): a message that passes begins its
record write; another completes with its status. One record write runs at a time. -/
def kvtUpdate (s : State) (dmaOk : Bool) (m : UpdMsg) (row : UpdPay → Bool) : State :=
  match s.cmdOf 0 0x0903 with
  | some c =>
    if s.kvt.upd.isSome || !row m.pay then s
    else
      let st := if s.engQuenched 17 then cUnavailable else if !dmaOk then cDmaErr else s.updCheck (c.arg 8 2) m
      if st = cOk then
        let s := s.takeCmd 0 c.n
        { s with kvt := { s.kvt with upd := some ⟨c.n, m, c.arg 16 8⟩ } }
      else (s.finish 0 c.n st (s.get F.KVT_UPD_CTR_UPD_CTR % 2 ^ 32)).kvtStat 3
  | none => s

/-- The blob that a policy and key make (R308): the plaintext sealed under KEK_t, which ROOT, DEV_ID, the tenant and its
KEY_EPOCH give (R304). -/
def makeBlob (s : State) (p : Policy) (key : Nat) : Nat :=
  let dev := s.get F.KVT_ID_DEV_ID
  let ep := s.keyEpoch p.tenant
  let head := pack 0 [(0, 4, magicBlob), (4, 1, 1), (8, 4, ep)]
  let pol := pack 0 [(0, 2, p.tenant), (2, 1, p.cls), (3, 1, p.usage), (4, 4, p.keyId), (8, 8, p.notBefore), (16, 8, p.notAfter)]
  let sealed_ := Config.siv [s.kvt.root, dev, p.tenant, ep, head, pol, key]
  head + bitsOf sealed_ 0 320 * 2 ^ 128 + pol * 2 ^ 448 + bitsOf sealed_ 320 128 * 2 ^ 896

/-- The effect of a message on the zeroizable set or the tamper configuration (R312, R314), the blob it makes if any, and
whether it zeroizes. -/
def updEffect (s : State) (m : UpdMsg) : State × Option Nat × Bool :=
  match m.pay with
  | .keyImport p (some key) _ => (s, some (s.makeBlob p key), false)
  | .keyGenerate p => (s.draw, some (s.makeBlob p (bitsOf (Config.random s.draws) 0 256)), false)
  | .tenantEpoch t _ e =>
    (({ s with kvt := { s.kvt with epochs := alSet s.kvt.epochs t e } } : State).clearSlots
      (fun i => s.get (F.KVT_SLOT_TENANT i) = t), none, false)
  | .setUpdateKey (some k) => ({ s with kvt := { s.kvt with updKey := k } }, none, false)
  | .setAttest (some k) => ({ s with kvt := { s.kvt with attest := k } }, none, false)
  | .setImageKey k => ({ s with kvt := { s.kvt with imgKey := k } }, none, false)
  | .tamperCfg a b =>
    (((s.set F.KVT_TAMPER_CFG_T_LOW a).set F.KVT_TAMPER_CFG_T_HIGH (bitsOf a 16 8)).set F.KVT_TAMPER_CFG_PIN_EN b, none, false)
  | .deprovision => (s, none, true)
  | .provision _ (some (u, a)) k =>
    let s := { s with kvt := { s.kvt with root := bitsOf (Config.random s.draws) 0 256, epochs := [], updKey := u, attest := a, imgKey := k } }
    (((s.draw.set F.KVT_STAT_PROVISIONED 1).set F.KVT_PROV_NONCE_NONCE 0).set F.KVT_STAT_VBAT_LOST 0 |>.settleAlert, none, false)
  | _ => (s, none, false)

/-- The record write commits (R313): effect, UPD_CTR and LAST_DIGEST at once; then the blob goes to the host and the command
completes. DEPROVISION then zeroizes with source OWNER. -/
def updCommit (s : State) (hostOk : Bool) (temp : Int) : State :=
  match s.kvt.upd with
  | some u =>
    let s := { s with kvt := { s.kvt with upd := none } }
    let (s, blob, zero) := s.updEffect u.msg
    let s := s.set F.KVT_UPD_CTR_UPD_CTR u.msg.counter
    let s := { s with kvt := { s.kvt with lastDigest := u.msg.digest } }.kvtStat 2
    let ctr := if zero then 0 else u.msg.counter % 2 ^ 32
    let s := match blob with
      | some b => if hostOk then (s.hostWrite 0 u.out 128 b).finish 0 u.cmd cOk ctr else s.finish 0 u.cmd cDmaErr ctr
      | none => s.finish 0 u.cmd cOk ctr
    if zero then s.tamper 512 temp false else s
  | none => s

/-! ## Attestation (R315) -/

/-- The attestation response of a function over a challenge, 136 bytes. -/
def attestation (s : State) (fn challenge : Nat) : Nat :=
  let flags := (if s.prov then 1 else 0) + (if s.provisioned then 0 else 2) + (if s.on F.KVT_STAT_LOG_NEW then 4 else 0)
    + (if s.on F.KVT_STAT_VBAT_LOST then 8 else 0)
  let v := pack 0 [(0, 32, challenge), (32, 8, s.get F.KVT_ID_DEV_ID), (40, 32, s.get F.STR_DIGEST_DIGEST),
    (72, 8, s.get F.KVT_UPD_CTR_UPD_CTR), (80, 2, s.frac), (82, 4, s.ns % 1000000000), (86, 6, s.ns / 1000000000),
    (92, 4, s.get F.TSK_TEB_FLOAT_BOUND), (96, 2, s.get F.TSK_TEB_SRC_TAG), (98, 1, flags), (99, 1, 1),
    (100, 2, s.get F.KVT_TLOG_ST_TOTAL), (102, 2, s.cmdTenant fn)]
  v + (if s.provisioned then bitsOf (Config.hmac [s.kvt.attest, v]) 0 256 else 0) * 2 ^ 832

/-- KVT_ATTEST of function fn (R306, R315). -/
def kvtAttest (s : State) (fn : Nat) (dmaOk : Bool) (challenge : Nat) : State :=
  match s.cmdOf fn 0x0904 with
  | some c =>
    if s.engQuenched 17 then s.finish fn c.n cUnavailable 0
    else if !dmaOk then s.finish fn c.n cDmaErr 0
    else
      let s := (s.hostWrite fn (c.arg 8 8) 136 (s.attestation fn challenge)).kvtStat 4
      s.finish fn c.n (if s.provisioned then cOk else cUnprovisioned) 0
  | none => s

/-- A message of no type of the table may come under any update row. -/
def otherType : UpdPay → Bool
  | .other _ => true
  | _ => false

end State

/-! ## The commands -/

/-- TAMPER_FIRE (R316): the sources that fire, the sensor's reading, the VBAT seconds counter, and whether main power is
off. -/
def execTamperFire (sources : Nat) (temp : Int) (vbatSec : Nat) (mainOff : Bool) (s : State) : Host.Outcome State Fault Refusal :=
  .next ((s.vbatRead vbatSec).tamper (s.firing sources temp mainOff) temp mainOff)

/-- TAMPER_LOG_COMMIT (R319). -/
def execTamperLogCommit (mainPower : Bool) (s : State) : Host.Outcome State Fault Refusal := .next (s.tlogCommit mainPower)

/-- VBAT_RECORD_COMMIT (R313): whether the host write of a blob succeeds, and the VBAT seconds counter and sensor reading
that a DEPROVISION's log entry takes. -/
def execVbatRecordCommit (hostOk : Bool) (vbatSec : Nat) (temp : Int) (s : State) : Host.Outcome State Fault Refusal :=
  .next ((s.vbatRead vbatSec).updCommit hostOk temp)

/-- KEY_EXPIRY (R311). -/
def execKeyExpiry (slot : Nat) (s : State) : Host.Outcome State Fault Refusal := .next (s.keyExpiry slot)

/-- KVT_LOAD (R309). -/
def execKvtLoad (fn : Nat) (dmaOk : Bool) (b : KeyBlob) (s : State) : Host.Outcome State Fault Refusal := .next (s.kvtLoad fn dmaOk b)

/-- KVT_EVICT (R310). -/
def execKvtEvict (fn : Nat) (s : State) : Host.Outcome State Fault Refusal := .next (s.kvtEvict fn)

/-- KVT_ATTEST (R315). -/
def execKvtAttest (fn : Nat) (dmaOk : Bool) (challenge : Nat) (s : State) : Host.Outcome State Fault Refusal :=
  .next (s.kvtAttest fn dmaOk challenge)

/-- KEY_IMPORT (R312). -/
def execKeyImport (dmaOk : Bool) (m : UpdMsg) (s : State) : Host.Outcome State Fault Refusal :=
  .next (s.kvtUpdate dmaOk m (fun p => match p with | .keyImport .. => true | q => State.otherType q))

/-- KEY_GENERATE (R312). -/
def execKeyGenerate (dmaOk : Bool) (m : UpdMsg) (s : State) : Host.Outcome State Fault Refusal :=
  .next (s.kvtUpdate dmaOk m (fun p => match p with | .keyGenerate _ => true | q => State.otherType q))

/-- TENANT_EPOCH (R312). -/
def execTenantEpoch (dmaOk : Bool) (m : UpdMsg) (s : State) : Host.Outcome State Fault Refusal :=
  .next (s.kvtUpdate dmaOk m (fun p => match p with | .tenantEpoch .. => true | q => State.otherType q))

/-- SET_UPDATE_KEY (R312). -/
def execSetUpdateKey (dmaOk : Bool) (m : UpdMsg) (s : State) : Host.Outcome State Fault Refusal :=
  .next (s.kvtUpdate dmaOk m (fun p => match p with | .setUpdateKey _ => true | q => State.otherType q))

/-- SET_ATTEST (R312). -/
def execSetAttest (dmaOk : Bool) (m : UpdMsg) (s : State) : Host.Outcome State Fault Refusal :=
  .next (s.kvtUpdate dmaOk m (fun p => match p with | .setAttest _ => true | q => State.otherType q))

/-- SET_IMAGE_KEY (R312). -/
def execSetImageKey (dmaOk : Bool) (m : UpdMsg) (s : State) : Host.Outcome State Fault Refusal :=
  .next (s.kvtUpdate dmaOk m (fun p => match p with | .setImageKey _ => true | q => State.otherType q))

/-- TAMPER_CFG (R312). -/
def execTamperCfg (dmaOk : Bool) (m : UpdMsg) (s : State) : Host.Outcome State Fault Refusal :=
  .next (s.kvtUpdate dmaOk m (fun p => match p with | .tamperCfg .. => true | q => State.otherType q))

/-- DEPROVISION (R312). -/
def execDeprovision (dmaOk : Bool) (m : UpdMsg) (s : State) : Host.Outcome State Fault Refusal :=
  .next (s.kvtUpdate dmaOk m (fun p => match p with | .deprovision => true | q => State.otherType q))

/-- PROVISION (R314). -/
def execProvision (dmaOk : Bool) (m : UpdMsg) (s : State) : Host.Outcome State Fault Refusal :=
  .next (s.kvtUpdate dmaOk m (fun p => match p with | .provision .. => true | q => State.otherType q))

end Sys2Proof.Machine
end

