-- ==== Sys2Proof/Machine/Hallmark.lean ====
section
/-!
DEFINITION. Sys2Proof/Machine/Hallmark.lean: Hallmark up to the answer: configuration a request entered under (R273), tenant
addresses (R276, R277), the client table and its buckets (R279 to R282), requests and their checks (R275, R283, R284, R291),
grants (R292), keys (R286, R287), journal (R298), and the shards of the table (R410).
-/

namespace Sys2Proof.Machine

namespace State

/-! ## Configuration of a generation (R273) -/

/-- A field as the configuration of a request holds it. -/
def cg (s : State) (c : Option HCfg) (f : Fld) : Nat := match c with
  | some c => c.regs.get f
  | none => s.get f

/-- The same, signed. -/
def cgI (s : State) (c : Option HCfg) (f : Fld) : Int := toSigned f.w (s.cg c f)

/-- The live bank of the tenant address table (R277). -/
def liveTat (s : State) : List TatEnt := if s.on F.HMK_TAT_ST_LIVE_BANK then s.hmk.bank1 else s.hmk.bank0

/-- The tenant address table of a request's generation. -/
def cgTat (s : State) (c : Option HCfg) : List TatEnt := match c with
  | some c => c.tat
  | none => s.liveTat

/-- Requests and answers in hand keep what is live now: a strobe, a rotation or a table swap follows (R273, R411). -/
def tagHmk (s : State) : State :=
  let c : HCfg := ⟨s.regs, s.liveTat⟩
  let f (x : Option HCfg) : Option HCfg := match x with
    | some x => some x
    | none => some c
  { s with hmk := { s.hmk with
    queues := s.hmk.queues.map (fun q => (q.1, q.2.map (fun r => { r with cfg := f r.cfg })))
    jobs := s.hmk.jobs.map (fun q => (q.1, q.2.map (fun j => { j with cfg := f j.cfg })))
    shards := s.hmk.shards.map (fun p => { p with req := { p.req with cfg := f p.req.cfg } }) } }

/-! ## Queues -/

/-- Requests waiting at a port (R294). -/
def hmkQueue (s : State) (p : Nat) : List HReq := (alGet s.hmk.queues p).getD []
def setQueue (s : State) (p : Nat) (l : List HReq) : State := { s with hmk := { s.hmk with queues := alSet s.hmk.queues p l } }

/-- Answers whose sealing has not begun. -/
def hmkJobs (s : State) (p : Nat) : List HJob := (alGet s.hmk.jobs p).getD []
def setJobs (s : State) (p : Nat) (l : List HJob) : State := { s with hmk := { s.hmk with jobs := alSet s.hmk.jobs p l } }
/-- An answer joins those in hand; a unit that does not serve drops it (R297). -/
def addJob (s : State) (j : HJob) : State := if s.on F.HMK_STAT_STANDBY then s.hmkStat 24 else s.setJobs j.port (s.hmkJobs j.port ++ [j])

/-- A classified frame enters Hallmark's ingress queue of its port (R294). -/
def hmkEnqueue (s : State) (f : RxFrame) (cls : Nat) : State :=
  let q := s.hmkQueue f.port
  if 4096 ≤ q.length then s.hmkStat 15 else s.setQueue f.port (q ++ [⟨f, cls, none⟩])

/-! ## Tenants (R276, R277) -/

/-- An entry of the tenant address table matches a request at port p, VLAN apart (R276). -/
def tatMatches (e : TatEnt) (p : Nat) (m : ReqMsg) : Bool :=
  e.valid && e.kind = m.kind && bitOf e.ports p && (m.kind = 2 || e.addr = m.dst)

/-- The tenant of a request (R276): an entry with the frame's VLAN comes before one with VLAN_ANY. -/
def resolveTenant (tat : List TatEnt) (p : Nat) (m : ReqMsg) : Option Nat :=
  match tat.find? (fun e => tatMatches e p m && !e.any && e.vlan = m.vlan) with
  | some e => some e.tenant
  | none => (tat.find? (fun e => tatMatches e p m && e.any)).map (fun e => e.tenant)

/-- Two valid entries have the same key and overlapping PORTS (R277). -/
def tatDup (a b : TatEnt) : Bool :=
  a.valid && b.valid && a.kind = b.kind && a.any == b.any && (a.any || a.vlan = b.vlan) && (a.kind = 2 || a.addr = b.addr)
    && (a.ports &&& b.ports) ≠ 0

/-- An entry that fails its load as BAD_ENTRY (R277). -/
def tatBad (s : State) (e : TatEnt) : Bool :=
  e.valid && (3 ≤ e.kind || s.tenants ≤ e.tenant || (e.kind = 0 && e.addr % 2 ^ 96 ≠ 0xFFFF * 2 ^ 80))

/-- The first entry from index i on that fails the load: its index and the cause (R277). -/
def tatScan (s : State) (ue : Option (Nat × DramErr)) : List TatEnt → Nat → List TatEnt → Option (Nat × Nat)
  | [], _, _ => none
  | e :: t, i, before =>
    if ue.map (fun u => u.1) = some i then some (i, 3)
    else if s.tatBad e then some (i, 2)
    else if before.any (tatDup e) then some (i, 1)
    else tatScan s ue t (i + 1) (e :: before)

/-- HMK_TAT_LOAD.GO (R277). -/
def tatGo (s : State) : State :=
  if s.get F.HMK_TAT_ST_STATE = 1 || s.get F.HMK_TAT_ST_STATE = 2 then s.set F.HMK_TAT_ST_CAUSE 4
  else ((s.set F.HMK_TAT_ST_STATE 1).set F.HMK_TAT_ST_CAUSE 0).set F.HMK_TAT_ST_BAD_INDEX 0

/-- The copy of a table ends (R277): the entries read, and the index of one read in error. -/
def tatDone (s : State) (ents : List TatEnt) (ue : Option (Nat × DramErr)) : State :=
  if s.get F.HMK_TAT_ST_STATE ≠ 1 then s
  else
    let n := s.get F.HMK_TAT_LOAD_COUNT
    let (s, bad?) := s.dramRead (ue.map Prod.snd)
    let ue := bad?.bind (fun _ => ue)
    let bad := if n = 0 || 4096 < n then some (0, 2) else s.tatScan ue (ents.take n) 0 []
    match bad with
    | some (i, c) =>
      let s := match ue with
        | some u => if c = 3 then s.dramUe 1 u.2 else s
        | none => s
      ((s.set F.HMK_TAT_ST_STATE 3).set F.HMK_TAT_ST_CAUSE c).set F.HMK_TAT_ST_BAD_INDEX i
    | none =>
      let l := (ents.take n).filter (fun e => e.valid)
      let s := s.set F.HMK_TAT_ST_STATE 2
      if s.on F.HMK_TAT_ST_LIVE_BANK then { s with hmk := { s.hmk with bank0 := l } } else { s with hmk := { s.hmk with bank1 := l } }

/-- HMK_TAT_CTL.SWAP at a strobe (R277). -/
def tatSwap (s : State) : State :=
  if s.get F.HMK_TAT_ST_STATE = 2 then
    let s := s.tagHmk
    (s.add F.HMK_TAT_ST_LIVE_BANK 1).set F.HMK_TAT_ST_STATE 0
  else s.set F.HMK_STAT_CFG_REFUSED 1

/-! ## Judging configuration (R278, R286) -/

/-- HMK_TEN_CFG(t) is accepted (R278, R368). -/
def tenCfgOk (s : State) (t : Nat) : Bool :=
  let v (f : Fld) : Nat := s.view f
  !(v (F.HMK_TEN_CFG_NTS_EN t) = 1 && !s.feat 3) && !(v (F.HMK_TEN_CFG_AUTH t) ≠ 0 && !s.feat 4)
    && v (F.HMK_TEN_CFG_PTP_PROF t) < 6 && !(v (F.HMK_TEN_CFG_PTP_PROF t) = 2 && !s.feat 12) && v (F.HMK_TEN_CFG_AUTH t) < 3 && v (F.HMK_TEN_CFG_RATE t) ≠ 0
    && v (F.HMK_TEN_CFG_BURST t) ≠ 0 && 3 ≤ v (F.HMK_TEN_CFG_MINPOLL t)
    && v (F.HMK_TEN_CFG_MINPOLL t) ≤ v (F.HMK_TEN_CFG_MAXPOLL t)
    && 10 ≤ v (F.HMK_TEN_CFG_GRANT_MAX_S t) && v (F.HMK_TEN_CFG_GRANT_MAX_S t) ≤ 1000 && t < s.tenants

/-- HMK_PORT_CFG(p) is accepted. -/
def hmkPortOk (s : State) (p : Nat) : Bool :=
  600 ≤ s.view (F.HMK_PORT_CFG_MARGIN p) && s.view (F.HMK_PORT_CFG_MARGIN p) ≤ 4000

/-- HMK_KEY_NEXT(t, k) names a slot that may become the next key (R286), or none. -/
def keyNextOk (s : State) (t k : Nat) : Bool :=
  let i := s.view (F.HMK_KEY_NEXT_SLOT t k)
  if s.view (F.HMK_KEY_NEXT_VALID t k) = 0 then true
  else
    let alive := match alGet s.kvt.slots i with
      | some x => x.notAfter = 0 || 0 < sdiff s.short x.notAfter
      | none => false
    s.on (F.KVT_SLOT_VALID i) && s.get (F.KVT_SLOT_TENANT i) = t && s.get (F.KVT_SLOT_CLASS i) = k
      && bitOf (s.get (F.KVT_SLOT_USAGE i)) 0 && alive

/-! ## Keys (R286, R287, R311) -/

/-- A cached key of tenant t and class k by its key ID: its slot. -/
def keySlot (s : State) (t k id : Nat) : Option Nat :=
  (s.kvt.slots.map Prod.fst).find? (fun i => s.on (F.KVT_SLOT_VALID i) && s.get (F.KVT_SLOT_TENANT i) = t
    && s.get (F.KVT_SLOT_CLASS i) = k && s.get (F.KVT_SLOT_KEY_ID i) = id)

/-- The current key of a class as a request's generation has it, if the cache still holds it (R286, R311). -/
def currentKey (s : State) (c : Option HCfg) (t k : Nat) : Option (Nat × Nat) :=
  if s.cg c (F.HMK_KEY_ST_CUR_VALID t k) = 1 then
    let id := s.cg c (F.HMK_KEY_ST_CUR_ID t k)
    match s.keySlot t k id with
    | some i => (alGet s.kvt.slots i).map (fun x => (id, x.key))
    | none => none
  else none

/-- A key ID names the current or the previous key of a class, the cache holds it, and it may open (R284, R286, R291). -/
def acceptsKey (s : State) (c : Option HCfg) (t k id : Nat) : Bool :=
  ((s.cg c (F.HMK_KEY_ST_CUR_VALID t k) = 1 && s.cg c (F.HMK_KEY_ST_CUR_ID t k) = id) ||
    (s.cg c (F.HMK_KEY_ST_PREV_VALID t k) = 1 && s.cg c (F.HMK_KEY_ST_PREV_ID t k) = id)) &&
  match s.keySlot t k id with
  | some i => bitOf (s.get (F.KVT_SLOT_USAGE i)) 1
  | none => false

/-- A rotation of tenant t's class k (R287). -/
def rotateKey (s : State) (t k : Nat) : State :=
  let s := s.tagHmk
  let ok := s.on (F.HMK_KEY_ST_NEXT_VALID t k)
  let s := if ok then
      let slot := s.get (F.HMK_KEY_NEXT_SLOT t k)
      let cur := s.get (F.HMK_KEY_ST_CUR_SLOT t k)
      let s := { s with hmk := { s.hmk with prevSlot := alSet s.hmk.prevSlot (4 * t + k) cur } }
      let s := s.set (F.HMK_KEY_ST_PREV_ID t k) (s.get (F.HMK_KEY_ST_CUR_ID t k))
      let s := s.set (F.HMK_KEY_ST_PREV_VALID t k) (s.get (F.HMK_KEY_ST_CUR_VALID t k))
      let s := (s.set (F.HMK_KEY_ST_CUR_ID t k) (s.get (F.KVT_SLOT_KEY_ID slot))).set (F.HMK_KEY_ST_CUR_SLOT t k) slot
      let s := (s.set (F.HMK_KEY_ST_CUR_VALID t k) 1).set (F.HMK_KEY_ST_NEXT_VALID t k) 0
      let s := (s.setBoth (F.HMK_KEY_NEXT_VALID t k) 0).add (F.HMK_KEY_ST_ROTATIONS t k) 1
      s.count 0x4E9
    else s
  let id := if s.on (F.HMK_KEY_ST_CUR_VALID t k) then s.get (F.HMK_KEY_ST_CUR_ID t k) else 0
  let p := pay [(20, 1, k), (21, 1, if ok then 0 else 1), (24, 4, id)]
  let s := s.pevent 0x0D t p
  if s.fnOf t = 0 then s else s.event (s.fnOf t) 0x0D t p

/-! ## The client table (R279 to R282, R298) -/

/-- A key of the table as the journal names it: tenant, port and kind, address. -/
def clientKey (c : Client) : Nat × Nat × Nat := (c.tenant, c.port + 8 * c.kind, c.addr)

/-- The entry of a key. -/
def findClient (s : State) (t p kind addr : Nat) : Option Client :=
  s.hmk.table.find? (fun c => c.tenant = t && c.port = p && c.kind = kind && c.addr = addr)

/-- An entry is written back; `first` says whether more than TOKENS, LAST_SEEN, REQS or VLAN changed (R298). -/
def writeClient (s : State) (c : Client) (first : Bool) : State :=
  let k := clientKey c
  let tab := s.hmk.table.map (fun x => if clientKey x = k then c else x)
  let h := { s.hmk with table := tab }
  { s with hmk :=
    if first then { h with firstKind := if h.firstKind.contains k then h.firstKind else h.firstKind ++ [k]
                           otherKind := h.otherKind.filter (fun x => x ≠ k) }
    else if h.firstKind.contains k || h.otherKind.contains k then h
    else { h with otherKind := h.otherKind ++ [k] } }

/-- The table has room for an entry of tenant t (R279). -/
def clientRoom (s : State) (t : Nat) : Bool :=
  s.get (F.HMK_TEN_ST_USED t) < s.get (F.HMK_TEN_ST_QUOTA t) && s.get F.HMK_CT_ST_USED < s.get F.HMK_CT_ST_CAPACITY

/-- A new entry (R279). -/
def newClient (s : State) (t p kind addr vlan now burst : Nat) : State × Client :=
  let c : Client :=
    { tenant := t, port := p, kind := kind, addr := addr, blocked := false, vlan := vlan, lastSeen := now
      tokens := burst * 65536, kodAt := 0, reqs := 0, grants := [] }
  let s := (s.add (F.HMK_TEN_ST_USED t) 1).add F.HMK_CT_ST_USED 1
  (({ s with hmk := { s.hmk with table := s.hmk.table ++ [c] } } : State).writeClient c true, c)

/-- A grant is live at a second (R279). -/
def grantLive (g : Grant) (sec : Nat) : Bool :=
  g.gdur ≠ 0 && 0 < toSigned 24 (g.expiry % 2 ^ 24 + 2 ^ 24 - sec % 2 ^ 24)

/-- Rate of a live Announce or Sync grant, in 1/128 message a second (R292). -/
def grantRate (c : Client) (sec k : Nat) : Nat :=
  match alGet c.grants k with
  | some g => if grantLive g sec then 2 ^ (7 - g.period).toNat else 0
  | none => 0

/-- The present TAI second. -/
def sec (s : State) : Nat := s.ns / 1000000000

/-- Announce and Sync messages granted to the clients that a test picks, in 1/128 a second. -/
def grantedRate (s : State) (p : Client → Bool) : Nat :=
  s.hmk.table.foldl (fun a c => if p c then a + grantRate c s.sec 0 + grantRate c s.sec 1 else a) 0

/-- GRANT_LOAD follows the grants. -/
def settleLoad (s : State) : State := s.set F.HMK_CT_ST_GRANT_LOAD (s.grantedRate (fun _ => true) / 128)

/-- An entry is removed. -/
def deleteClient (s : State) (c : Client) : State :=
  let k := clientKey c
  let s := s.writeClient c true
  let s := { s with hmk := { s.hmk with table := s.hmk.table.filter (fun x => clientKey x ≠ k) } }
  let s := s.set (F.HMK_TEN_ST_USED c.tenant) (s.get (F.HMK_TEN_ST_USED c.tenant) - 1)
  (s.set F.HMK_CT_ST_USED (s.get F.HMK_CT_ST_USED - 1)).settleLoad

/-- The tenant's overflow bucket takes a request (R279): refilled at OVF_RATE a second, up to one second's worth. -/
def overflow (s : State) (c : Option HCfg) (t : Nat) : State × Bool :=
  let r := s.cg c (F.HMK_TEN_CFG_OVF_RATE t)
  let (lv, at_) := (alGet s.hmk.ovf t).getD (r * 1000000000, s.ns)
  let lv := min (r * 1000000000) (lv + r * (s.ns - at_))
  let ok := decide (1000000000 ≤ lv)
  let lv := if ok then lv - 1000000000 else lv
  ({ s with hmk := { s.hmk with ovf := alSet s.hmk.ovf t (lv, s.ns) } }, ok)

/-- An entry after a request at short time `now`: TOKENS refilled by R281, LAST_SEEN, REQS and VLAN. -/
def refill (s : State) (cfg : Option HCfg) (c : Client) (vlan now : Nat) : Client :=
  let d := (sdiff c.lastSeen now).toNat
  let add := s.cg cfg (F.HMK_TEN_CFG_RATE c.tenant) * 65536 * d / 16000000000
  { c with tokens := min (s.cg cfg (F.HMK_TEN_CFG_BURST c.tenant) * 65536) (c.tokens + add), lastSeen := now
           reqs := (c.reqs + 1) % 65536, vlan := vlan }

/-- What a bucket charge decides, in the codes of SHARD_RESP (R410): 0 SERVE, 1 LIMITED, 2 KOD, 3 BLOCKED, 4 TABLE_FULL. -/
def chargeEntry (s : State) (cfg : Option HCfg) (c : Client) (vlan now nowSec : Nat) (ntp : Bool) : State × Nat :=
  let c := s.refill cfg c vlan now
  let t := c.tenant
  if c.blocked then ((s.writeClient c false).hmkStat 11, 3)
  else if 65536 ≤ c.tokens then (s.writeClient { c with tokens := c.tokens - 65536 } false, 0)
  else if ntp && s.cg cfg (F.HMK_TEN_CFG_KOD_GAP t) ≤ (nowSec % 65536 + 65536 - c.kodAt) % 65536 then
    (((s.writeClient { c with kodAt := nowSec % 65536 } true).hmkStat 10).tcount t 3 1, 2)
  else (((s.writeClient c false).hmkStat 9).tcount t 2 1, 1)

/-- R279 to R282 for a request of a key at short time `now`: whether its entry missed the cache, and what its DRAM
read has in error: an uncorrectable entry is lost (R300). -/
def chargeClient (s : State) (cfg : Option HCfg) (t p kind addr vlan now nowSec : Nat) (ntp miss : Bool) (ue : Option DramErr) : State × Nat :=
  let s := if miss then s.hmkStat 23 else s
  let found := s.findClient t p kind addr
  let (s, found) := match found with
    | some c =>
      let (s, ue) := s.dramRead (if miss then ue else none)
      match ue with
      | some u =>
        let s := (s.dramUe 0 u).deleteClient c
        (({ s with hmk := { s.hmk with lost := s.hmk.lost + 1 } } : State).hmkStat 27, none)
      | none => (s, some c)
    | none => (s, none)
  match found with
  | some c => s.chargeEntry cfg c vlan now nowSec ntp
  | none =>
    if s.clientRoom t then
      let (s, c) := s.newClient t p kind addr vlan now (s.cg cfg (F.HMK_TEN_CFG_BURST t))
      s.chargeEntry cfg c vlan now nowSec ntp
    else
      let s := (s.hmkStat 12).tcount t 8 1
      let (s, ok) := s.overflow cfg t
      if ok then (s, 0) else ((s.hmkStat 9).tcount t 2 1, 4)

/-! ## Grants (R292) -/

/-- Grant number of a message type: 0 Announce, 1 Sync, 2 Delay_Resp. -/
def grantNo (msg : Nat) : Option Nat :=
  match msg with
  | 0xB => some 0
  | 0 => some 1
  | 9 => some 2
  | _ => none

/-- The client's entry with a grant set. -/
def putGrant (c : Client) (k : Nat) (g : Grant) : Client := { c with grants := alSet c.grants k g }

/-- A denial: durationField 0. -/
def denyGrant (s : State) (t : Nat) (q : UniTlv) : State × UniTlv × Nat :=
  ((s.hmkStat 18).tcount t 7 1, ⟨2, q.msg, q.period, 0⟩, 6)

/-- A request's conditions on interval, duration and rates hold (R292). -/
def grantOk (s : State) (cfg : Option HCfg) (c : Client) (k : Nat) (q : UniTlv) : Bool :=
  let t := c.tenant
  let low := if k = 0 then s.cgI cfg (F.HMK_TEN_CFG_LOG_ANN_MIN t) else s.cgI cfg (F.HMK_TEN_CFG_LOG_UC_MIN t)
  let lim := s.cg cfg (F.HMK_TEN_CFG_GRANT_RATE t) * 128
  let own := grantRate c s.sec k
  let add := if k = 2 then 0 else 2 ^ (7 - q.period).toNat
  let old := if k = 2 then 0 else own
  low ≤ q.period && q.period ≤ 7 && 10 ≤ q.dur && lim ≠ 0
    && s.grantedRate (fun x => x.tenant = t) - old + add ≤ lim
    && s.grantedRate (fun _ => true) - old + add ≤ 16000000 * 128

/-- One unicast TLV from a client (R292): the state, the TLV that answers it, and the verdict in the codes of R410. `seq` is
the message's sequenceId, `arrival` the second it arrived in. -/
def unicastTlv (s : State) (cfg : Option HCfg) (t p kind addr seq arrival : Nat) (q : UniTlv) : State × UniTlv × Nat :=
  match grantNo q.msg, s.findClient t p kind addr with
  | some k, some c =>
    let cur := (alGet c.grants k).getD ⟨0, 0, 0, 0⟩
    if q.kind = 1 then
      (((s.writeClient (putGrant c k { cur with gdur := 0 }) true).hmkStat 20).settleLoad, ⟨3, q.msg, q.period, 0⟩, 8)
    else if grantLive cur arrival && cur.gseq = seq then (s.hmkStat 19, ⟨2, q.msg, cur.period, cur.gdur⟩, 7)
    else if s.grantOk cfg c k q then
      let d := min q.dur (s.cg cfg (F.HMK_TEN_CFG_GRANT_MAX_S t))
      let g : Grant := ⟨q.period, (arrival + d) % 2 ^ 24, seq, d⟩
      ((((s.writeClient (putGrant c k g) true).hmkStat 17).tcount t 6 1).settleLoad, ⟨2, q.msg, q.period, d⟩, 5)
    else s.denyGrant t q
  | _, _ => if q.kind = 1 then (s.hmkStat 20, ⟨3, q.msg, q.period, 0⟩, 8) else s.denyGrant t q

/-! ## Journal (R298, R300) -/

/-- The tick's journal (R298). Returns nothing outside: the Ingot reads `journal`. -/
def journalBuild (s : State) : State :=
  if s.engQuenched 16 then
    { s with hmk := { s.hmk with firstKind := [], otherKind := [], journal := [] } }.set F.HMK_CT_ST_JOURNAL 0
  else
    let h := s.hmk
    let fst := h.firstKind.take 65536
    let oth := h.otherKind.take (65536 - fst.length)
    let trim := h.otherKind.length - oth.length
    let s := { s with hmk := { h with firstKind := h.firstKind.drop 65536, otherKind := [], journal := fst ++ oth } }
    let s := s.set F.HMK_CT_ST_JOURNAL (fst.length + oth.length)
    if trim = 0 then s else (s.add (F.HMK_STATS_COUNT 26) trim).countN (0x4C0 + 26) trim

/-- The HMK_ENTRY_LOST record of the tick (R300). -/
def entryLost (s : State) : State :=
  if s.hmk.lost = 0 then s
  else
    let s := s.pevent 0x0E 0 (pay [(24, 4, satN 32 s.hmk.lost)])
    { s with hmk := { s.hmk with lost := 0 } }

/-- An entry's key as bytes of a record: 64 bytes (R279). -/
def clientBytes (c : Client) : Nat :=
  let g (k : Nat) : Grant := (alGet c.grants k).getD ⟨0, 0, 0, 0⟩
  let gw (k : Nat) : Nat := ofSigned 8 (g k).period + (g k).expiry % 2 ^ 24 * 256
  pack 0 [(0, 2, c.tenant), (2, 1, c.port + 8 * c.kind), (3, 1, 1 + (if c.blocked then 2 else 0)), (4, 16, c.addr),
    (20, 2, c.vlan), (24, 8, c.lastSeen), (32, 4, c.tokens), (36, 2, c.kodAt), (38, 2, c.reqs),
    (40, 4, gw 0), (44, 4, gw 1), (48, 4, gw 2), (52, 2, (g 0).gseq), (54, 2, (g 1).gseq), (56, 2, (g 2).gseq),
    (58, 2, (g 0).gdur), (60, 2, (g 1).gdur), (62, 2, (g 2).gdur)]

end State

end Sys2Proof.Machine
end

