-- ==== Sys2Proof/Machine/HmkServe.lean ====
section
/-!
DEFINITION. Sys2Proof/Machine/HmkServe.lean: what Hallmark answers: requests (R275, R283 to R285, R291), the messages it sends
(R198, R199, R289 to R293), shards (R410), and its commands (R288, R302).
-/

namespace Sys2Proof.Machine

namespace State

/-! ## Times and bounds in messages -/

/-- An NTP timestamp of a scale's reading in 2^-16 ns since 1970 (R283). -/
def ntpTs (x : Int) : Nat := ((x / secQ + 2208988800) % 2 ^ 32).toNat * 2 ^ 32 + ((x % secQ) * 2 ^ 32 / secQ).toNat % 2 ^ 32

/-- Tenant time of an instant as an NTP timestamp. -/
def tenantNtp (s : State) (t : Nat) (q : Int) : Nat := ntpTs (s.tenantTime t q).q

/-- LI and stratum state: the core TEB is bounded. -/
def bounded (s : State) : Bool := s.coreTeb < unb

/-- The UTC day of an instant ends with a leap second (R283, R289): 1 positive, 2 negative, 0 none. -/
def leapDay (s : State) (q : Int) : Nat :=
  let d := (s.utcMjd q).toNat
  if leapAtEnd s.tsk.leap d false then 1 else if leapAtEnd s.tsk.leap d true then 2 else 0

/-- The tick boundary at which a measurement of the deciding reference was last accepted, 2^-16 ns; while none is steered to, the
last before that began (R283). -/
def refInstant (s : State) : Option Nat :=
  let st := s.get F.TSK_STAT_STATE
  let r := s.decidingRef
  let steered := st = 2 || st = 4 || (st = 3 && s.get F.TSK_STAT_HOLD_ACT = 3)
  (if 36 ≤ r then none else if steered then (s.ref r).accAt else s.tsk.tagAt).map (fun t => t * 65536)

/-- A served bound as Root Dispersion: 16.16 s, rounded up (R283). -/
def dispersion (b : Nat) : Nat :=
  let v := ceilDiv (b * 65536) 1000000000000
  if unb ≤ b || 2 ^ 32 ≤ v then 0xFFFFFFFF else v

/-- The bound field of R198 for a bound of b ps at tenant t and the instant q at which the message is sent or covers, 2^-16 ns. -/
def boundField (s : State) (ntp : Bool) (t b : Nat) (q : Int) : BoundFld :=
  let stale := s.phaseSet.any (fun c => (s.ref (s.get (F.ASY_CLK_ST_PH_REF c))).staleCal ||
    (s.on (F.ASY_CLK_ST_FR_OK c) && (s.ref (s.get (F.ASY_CLK_ST_FR_REF c))).staleCal))
  { typ := if ntp then s.get F.TSK_TEB_WIRE_NTP_FT else s.get F.TSK_TEB_WIRE_PTP_TLV
    len := if ntp then 16 else 12, version := 1
    flags := (if s.get F.TSK_STAT_STATE = 3 then 1 else 0) + (if s.on F.TSK_TEB_ST_FLOOR then 2 else 0)
      + (if (s.tenantTime t q).smearing then 4 else 0) + (if s.tsk.leapExpired then 8 else 0) + (if stale then 16 else 0)
    tag := s.get F.TSK_TEB_SRC_TAG, bound := toFloat b, scale := s.tenScale t, devid := s.get F.SYS_STRAP_DEVID }

/-! ## Frame lengths -/

/-- Bytes of a frame with FCS that carries n bytes of message: kind 0 UDP/IPv4, 1 UDP/IPv6, 2 IEEE 802.3. -/
def frameLen (kind vlan n : Nat) : Nat :=
  max 64 (14 + (if vlan = 0 then 0 else 4) + (match kind with | 0 => 28 | 1 => 48 | _ => 0) + n + 4)

/-- Bytes of the fields a PTP message carries after its body. -/
def ptpTail (s : State) (cfg : Option HCfg) (t : Nat) : Nat :=
  if s.cg cfg (F.HMK_TEN_CFG_AUTH t) = 0 then 0 else 26 + (if s.feat 5 then 16 else 0)

/-- Bytes of an NTP or NTS response (R285). -/
def ntpLen (s : State) (nts : Option NtsReq) : Nat :=
  match nts with
  | none => 48
  | some r => 48 + (4 + (r.uids.headD 0 + 3) / 4 * 4) + (if s.feat 5 then 16 else 0) + 40 + 108 * (1 + r.placeholders.length)

/-! ## PTP messages (R289 to R291) -/

/-- The current key that PTP authentication signs with, or that none is needed. -/
def ptpKey (s : State) (cfg : Option HCfg) (t : Nat) : Option (Option (Nat × Nat)) :=
  match s.cg cfg (F.HMK_TEN_CFG_AUTH t) with
  | 0 => some none
  | a => (s.currentKey cfg t a).map some

/-- A number for a Bool. -/
def boolN (b : Bool) : Nat := if b then 1 else 0

/-- The contents of a bound field, in order (R198). -/
def boundWords : Option BoundFld → List Nat
  | some b => [1, b.typ, b.len, b.version, b.flags, b.tag, b.bound, b.scale, b.devid]
  | none => [0]

/-- The contents of an Announce's dataset, in order (R289). -/
def annWords : Option AnnBody → List Nat
  | some a => [1, a.prio1, a.prio2, a.cls, a.acc, a.variance, a.source, ofSigned 16 a.utcOff, boolN a.utcValid, boolN a.leap61,
      boolN a.leap59, boolN a.timeTr, boolN a.freqTr, a.steps]
  | none => [0]

/-- The whole of a PTP message but its ICV, which an ICV covers (R31, R291). -/
def ptpWords (m : PtpMsg) : List Nat :=
  [m.typ, m.domain, m.clockId, m.portNo, m.seq, ofSigned 64 m.corr, m.sec, m.ns]
    ++ (match m.client with | some c => [1, c] | none => [0]) ++ annWords m.ann
    ++ m.tlvs.length :: m.tlvs.flatMap (fun t => [t.kind, t.msg, ofSigned 8 t.period, t.dur]) ++ [boolN m.l1sync]
    ++ boundWords m.bound ++ (match m.auth with | some a => [1, a.len, a.spp, a.ind, a.keyId] | none => [0])

/-- A PTP message with its bound field and authentication (R198, R291): `q` the timestamp it carries, `at_` the instant its bound
field holds for. -/
def ptpMsg (s : State) (cfg : Option HCfg) (t p typ seq : Nat) (corr : Int) (q at_ : Nat) (client : Option Nat)
    (ann : Option AnnBody) (tlvs : List UniTlv) (key : Option (Nat × Nat)) (sealed_ : Bool) : PtpMsg :=
  let b := s.servedBound p t sealed_ false
  let bf := if key.isSome && s.feat 5 then some (s.boundField false t b at_) else none
  let tlv := key.map (fun k => (⟨22, s.cg cfg (F.HMK_TEN_CFG_SPP t), 0, k.1, 0⟩ : AuthTlv))
  let m : PtpMsg :=
    { typ := typ, domain := s.cg cfg (F.HMK_TEN_CFG_DOMAIN t), clockId := s.cg cfg F.HMK_CLKID_BASE * 1024 + t, portNo := p + 1
      seq := seq, corr := corr, sec := q / 65536 / 1000000000, ns := q / 65536 % 1000000000, client := client, ann := ann
      tlvs := tlvs, l1sync := typ = 0xC && s.cg cfg (F.HMK_TEN_CFG_PTP_PROF t) = 2, bound := bf, auth := tlv }
  match key, tlv with
  | some (_, k), some a =>
    let icv := if s.cg cfg (F.HMK_TEN_CFG_AUTH t) = 1 then Config.hmac (k :: ptpWords m) else Config.cmac (k :: ptpWords m)
    { m with auth := some { a with icv := icv % 2 ^ 128 } }
  | _, _ => m

/-- clockClass (R289). -/
def clockClass (s : State) (cfg : Option HCfg) (t : Nat) : Nat :=
  let st := s.get F.TSK_STAT_STATE
  let lim := s.cg cfg (F.HMK_TEN_CFG_CLASS_LIM t)
  let set1 := s.cg cfg (F.HMK_TEN_CFG_CLASS_SET t) = 1
  if !s.bounded || s.prov then 248
  else if lim ≠ 0xFFFF && lim * 1000 < s.coreTeb then (if set1 then 140 else 52)
  else if st = 2 || st = 4 then 6
  else 7

/-- The limits of the IEEE 1588-2019 clockAccuracy enumeration from 0x17 (1 ps) to 0x30 (10 s), in whole ps. -/
def accLimits : List Nat :=
  [1, 2, 10, 25, 100, 250, 1000, 2500, 10000, 25000, 100000, 250000, 1000000, 2500000, 10000000, 25000000, 100000000,
    250000000, 1000000000, 2500000000, 10000000000, 25000000000, 100000000000, 250000000000, 1000000000000, 10000000000000]

/-- clockAccuracy of a bound (R289): the smallest value whose limit is not below it, 0x31 above all, 0xFE unbounded. -/
def clockAccuracy (b : Nat) : Nat :=
  if unb ≤ b then 0xFE
  else match (List.range accLimits.length).find? (fun i => b ≤ accLimits.getD i 0) with
    | some i => 0x17 + i
    | none => 0x31

/-- timeSource (R289): 0x20 clock 5, 0x10 clocks 1 to 4, 0x40 clocks 6 and 7, else 0xA0. -/
def timeSource (s : State) : Nat :=
  let st := s.get F.TSK_STAT_STATE
  let c := if s.prov then none else if st = 2 then s.topDated
    else if st = 4 || (st = 3 && s.get F.TSK_STAT_HOLD_ACT = 3) then s.anchor else none
  match c with
  | some 5 => 0x20
  | some 6 => 0x40
  | some 7 => 0x40
  | some _ => 0x10
  | none => 0xA0

/-- The dataset of an Announce (R289). -/
def annBody (s : State) (cfg : Option HCfg) (t p : Nat) (q : Nat) : AnnBody :=
  let cls := s.clockClass cfg t
  let ld := if s.prov then 0 else s.leapDay q
  { prio1 := s.cg cfg (F.HMK_TEN_CFG_PRIO1 t), prio2 := s.cg cfg (F.HMK_TEN_CFG_PRIO2 t), cls := cls
    acc := clockAccuracy (s.servedBound p t true false), variance := s.cg cfg (F.HMK_TEN_CFG_VARIANCE t), source := s.timeSource
    utcOff := taiUtc s.tsk.leap (q / 65536 / 1000000000 : Nat), utcValid := !s.prov && !s.tsk.leapExpired
    leap61 := ld = 1, leap59 := ld = 2, timeTr := cls = 6 || cls = 7, freqTr := cls = 6 || cls = 7
    steps := 0 }

/-! ## Sealing an answer (R285, R293) -/

/-- A current key is absent: the message is not sent (R311). -/
def keyMiss (s : State) : State := s.kvtStat 5

/-- A cookie sealed for a client (R285): 104 bytes. -/
def makeCookie (draw keyId key t c2s s2c : Nat) : Nat :=
  let nonce := Config.random draw % 2 ^ 128
  let v := Config.siv [key, keyId, nonce, 15, t, c2s, s2c]
  pack 0 [(0, 4, keyId), (4, 16, nonce), (20, 16, bitsOf v 544 128), (36, 68, v)]

/-- n cookies with fresh nonces. -/
def makeCookies (s : State) (n keyId key t c2s s2c : Nat) : State × List Nat :=
  ({ s with draws := s.draws + n }, (List.range n).map (fun i => makeCookie (s.draws + i) keyId key t c2s s2c))

/-- What the AEAD of an NTS response covers as associated data (R31, R285): the whole packet before the authenticator. -/
def ntpWords (r : NtpResp) : List Nat :=
  [r.li, r.vn, 4, r.stratum, r.poll, ofSigned 8 r.precision, r.rootDelay, r.rootDisp, r.refid, r.refTs, r.origin, r.recv, r.xmit]
    ++ (match r.uid with | some (n, u) => [1, n, u] | none => [0]) ++ boundWords r.bound ++ [r.cookies.length]

/-- The NTP header of an answer of tenant t on port p at an instant, ps (R283): a kiss code stands in place of REFID, with stratum 0. -/
def ntpHead (s : State) (cfg : Option HCfg) (t p vn poll l : Nat) (kiss : Option Nat) : NtpResp :=
  let lq := psToQ l
  let synced := s.bounded && !s.prov
  { li := if !synced then 3 else if s.tenScale t = 0 then s.leapDay lq else 0
    vn := vn, stratum := if kiss.isSome then 0 else if synced then 1 else 16
    poll := max (s.cg cfg (F.HMK_TEN_CFG_MINPOLL t)) (min (s.cg cfg (F.HMK_TEN_CFG_MAXPOLL t)) poll)
    precision := -29, rootDelay := 0, rootDisp := dispersion (s.servedBound p t true true)
    refid := kiss.getD (s.cg cfg (F.HMK_TEN_CFG_REFID t))
    refTs := match s.refInstant with | some q => s.tenantNtp t q | none => 0
    origin := 0, recv := 0, xmit := 0, uid := none, bound := none, cookies := [], auth := none }

/-- The NTS NAK that answers a request (R283, R284): the kiss code "NTSN", the echoed Unique Identifier, zero timestamps. -/
def nakResp (s : State) (cfg : Option HCfg) (t p vn poll : Nat) (n : NtsReq) : NtpResp :=
  { s.ntpHead cfg t p vn poll s.ps (some 0x4E54534E) with uid := some (n.uids.headD 0, n.uid) }

/-- The NTP or NTS response of a job launched at l ps (R283, R285). `key` the current cookie key for NTS. -/
def ntpBody (s : State) (j : HJob) (vn poll xmit recv l : Nat) (kod : Bool) (nts : Option NtsReq) (key : Option (Nat × Nat)) :
    State × NtpResp :=
  let t := j.tenant
  let lq := psToQ l
  let b := s.servedBound j.port t true true
  let h := s.ntpHead j.cfg t j.port vn poll l (if kod then some 0x52415445 else none)
  let r := { h with li := if kod then 3 else h.li, origin := xmit, recv := s.tenantNtp t recv, xmit := ntpTs (s.tenantTime t lq).q }
  match nts, key with
  | some n, some (id, k) =>
    let (s, cs) := s.makeCookies (1 + n.placeholders.length) id k t n.c2s n.s2c
    let r := { r with uid := some (n.uids.headD 0, n.uid), bound := if s.feat 5 then some (s.boundField true t b lq) else none
                      cookies := cs }
    let nonce := Config.random s.draws % 2 ^ 128
    (s.draw, { r with auth := some (nonce, Config.siv ([n.s2c, nonce] ++ ntpWords r ++ cs)) })
  | _, _ => (s, r)

/-- Bytes of a job's frame. -/
def jobLen (s : State) (j : HJob) : Nat :=
  frameLen j.kind j.vlan (match j.what with
    | .ntp _ _ _ _ _ nts => s.ntpLen nts
    | .delayResp .. => 54 + s.ptpTail j.cfg j.tenant
    | .sync .. => 44 + s.ptpTail j.cfg j.tenant
    | .announce .. => 64 + s.ptpTail j.cfg j.tenant)

/-- The key a job needs: none where it needs none, some none where it is absent. -/
def jobKey (s : State) (j : HJob) : Option (Option (Nat × Nat)) :=
  match j.what with
  | .ntp _ _ _ _ _ none => some none
  | .ntp _ _ _ _ _ (some _) => (s.currentKey j.cfg j.tenant 0).map some
  | _ => s.ptpKey j.cfg j.tenant

/-- The client grant that a granted message is sent under has not expired at launch l ps (R292). -/
def stillGranted (s : State) (j : HJob) (l : Nat) : Bool :=
  match j.what with
  | .sync _ (some a) => ((s.findClient j.tenant j.port j.kind a).bind (fun c => alGet c.grants 1)).any (fun g => grantLive g (l / 1000000000000))
  | .announce _ (some a) => ((s.findClient j.tenant j.port j.kind a).bind (fun c => alGet c.grants 0)).any (fun g => grantLive g (l / 1000000000000))
  | _ => true

/-- The message of a job for an instant l ps (R283, R289, R290). -/
def jobBody (s : State) (j : HJob) (l : Nat) (key : Option (Nat × Nat)) : State × Body :=
  let q := psToQ l
  match j.what with
  | .ntp vn poll xmit recv kod nts => let (s, r) := s.ntpBody j vn poll xmit recv l kod nts key; (s, .ntp r)
  | .delayResp seq corr recv client =>
    (s, .ptp (s.ptpMsg j.cfg j.tenant j.port 9 seq (corr - (recv % 65536 : Nat)) recv recv (some client) none [] key false))
  | .sync seq c => (s, .ptp (s.ptpMsg j.cfg j.tenant j.port 0 seq (q % 65536 : Nat) q q c none [] key true))
  | .announce seq c => (s, .ptp (s.ptpMsg j.cfg j.tenant j.port 0xB seq 0 0 q c (some (s.annBody j.cfg j.tenant j.port q)) [] key true))

/-- A job goes best effort (R272), unless the grant it is sent under has expired (R292). -/
def jobBestEffort (s : State) (j : HJob) (key : Option (Nat × Nat)) : State :=
  if !s.stillGranted j s.ps then s
  else
  let len := s.jobLen j
  let (s, b) := s.jobBody j s.ps key
  s.beAnswer j.port j.tenant len b

/-- A job's launch is requested, and its message sealed for the granted instant (R293). `excl` are the grid points the port
excludes, `lat` how long sealing takes, ns. -/
def sealJob (s : State) (j : HJob) (key : Option (Nat × Nat)) (excl : List Nat) (lat : Nat) : State :=
  let len := s.jobLen j
  let lreq := match j.nominal with
    | some n => n * 1000
    | none => s.ps + 1000 * s.cg j.cfg (F.HMK_PORT_CFG_MARGIN j.port)
  match s.grantAt j.port len lreq excl with
  | some (l, lo, hi) =>
    if s.stillGranted j l then
      let (s, b) := s.jobBody j l key
      s.addResv j.port ⟨l, lo, hi, len, 0, j.tenant, s.ns + lat, b⟩
    else s
  | none => s.hmkStat 13

/-- The answer at the head of a port's jobs (R272, R293, R294, R311). -/
def launchRequest (s : State) (p : Nat) (excl : List Nat) (lat : Nat) : State :=
  match s.hmkJobs p with
  | j :: rest =>
    let s := s.setJobs p rest
    if j.nominal.isNone && j.rx + 8000 ≤ s.ns then s.hmkStat 16
    else match s.jobKey j with
      | none => s.keyMiss
      | some key =>
        if s.feat 16 then s.sealJob j key excl lat
        else match j.what with
          | .delayResp .. => s.jobBestEffort j key
          | .announce .. => (s.runTo (j.nominal.getD 0)).jobBestEffort j key
          | _ => s.hmkStat 13
  | [] => s

/-! ## Requests (R275, R281 to R284, R290 to R292) -/

/-- The receive timestamp of a frame, 2^-16 ns of the present count, and its second. -/
def rxQ (s : State) (f : RxFrame) : Nat := (s.unshort f.short).toNat * 65536 + f.frac
def rxNs (s : State) (f : RxFrame) : Nat := (s.unshort f.short).toNat

/-- The form of an NTS request (R284 step 1). -/
def ntsForm (r : NtsReq) : Bool :=
  (match r.uids with | [n] => 32 ≤ n && n ≤ 64 | _ => false) && r.cookies = 1 && r.placeholders.length ≤ 7
    && r.placeholders.all (fun n => n = r.cookieLen) && r.authLast && r.extLen ≤ 1024

/-- Steps 3 and 4 of R284. -/
def ntsOpens (s : State) (cfg : Option HCfg) (t : Nat) (r : NtsReq) : Bool :=
  s.acceptsKey cfg t 0 r.keyId && r.tagOk && r.tenant = t && r.aead = 15 && r.authOk

/-- R291 for a received PTP message. -/
def ptpAuthOk (s : State) (cfg : Option HCfg) (t : Nat) (a : Option PtpAuth) : Bool :=
  let m := s.cg cfg (F.HMK_TEN_CFG_AUTH t)
  if m = 0 then true
  else match a with
    | none => s.cg cfg (F.HMK_TEN_CFG_AUTH_REQ t) = 0
    | some a => a.spp = s.cg cfg (F.HMK_TEN_CFG_SPP t) && a.ind = 0 && s.acceptsKey cfg t m a.keyId && a.icvOk

/-- The tenant sends multicast on a port (R289). -/
def multicastOn (s : State) (cfg : Option HCfg) (t p : Nat) : Bool :=
  let f := s.cg cfg (F.HMK_TEN_CFG_PTP_PROF t)
  f ≠ 0 && f ≠ 4 && bitOf (s.cg cfg (F.HMK_TEN_CFG_PORTS t)) p

/-- A request in hand: its queue entry, message and tenant. -/
structure Req where
  r : HReq
  m : ReqMsg
  t : Nat
  deriving DecidableEq, Repr

/-- An answer in hand for a request. -/
def jobOf (s : State) (q : Req) (w : JobWhat) : State :=
  s.addJob ⟨q.t, q.r.f.port, q.m.kind, q.m.vlan, s.rxNs q.r.f, none, q.r.cfg, w⟩

/-- An NTP or NTS request whose bucket has been charged: served, or answered with a kiss-o'-death (R282, R284). -/
def serveNtp (s : State) (q : Req) (kod : Bool) (vn poll xmit : Nat) (nts : Option NtsReq) : State :=
  let w : JobWhat := .ntp vn poll xmit (s.rxQ q.r.f) kod nts
  match nts with
  | none => s.jobOf q w
  | some n =>
    if s.ntsOpens q.r.cfg q.t n then s.jobOf q w
    else
      let s := (s.hmkStat 7).tcount q.t 4 1
      s.beAnswer q.r.f.port q.t (frameLen q.m.kind q.m.vlan (52 + (n.uids.headD 0 + 3) / 4 * 4)) (.nak (s.nakResp q.r.cfg q.t q.r.f.port vn poll n))

/-- A Delay_Req whose bucket has been charged (R290). `granted` says whether the client holds a live Delay_Resp grant. -/
def serveDelay (s : State) (q : Req) (granted : Bool) (seq : Nat) (corr : Int) (client : Nat) : State :=
  if granted || s.multicastOn q.r.cfg q.t q.r.f.port then s.jobOf q (.delayResp seq corr (s.rxQ q.r.f) client)
  else s.hmkStat 21

/-- A Signaling answer of engine 0 (R292), best effort. -/
def sendSignaling (s : State) (q : Req) (seq client : Nat) (tlvs : List UniTlv) : State :=
  match s.ptpKey q.r.cfg q.t with
  | none => s.keyMiss
  | some key =>
    let m := s.ptpMsg q.r.cfg q.t q.r.f.port 0xC seq 0 0 (psToQ s.ps) (some client) none tlvs key false
    let n := 44 + tlvs.foldl (fun a t => a + (if t.kind = 3 then 6 else 12)) 0 + (if m.l1sync then 6 else 0) + s.ptpTail q.r.cfg q.t
    s.beAnswer q.r.f.port q.t (frameLen q.m.kind q.m.vlan n) (.ptp m)

/-- What a SHARD_REQ asks (R410): REQ code, message type and sequenceId, period, duration. -/
def shardReq (q : Req) (code msg seq : Nat) (period : Int) (dur : Nat) (tag : Nat) : Nat :=
  pack 0 [(0, 4, bswap 4 tag), (4, 2, bswap 2 q.t), (6, 1, q.r.f.port + 8 * q.m.kind), (7, 1, code), (8, 16, q.m.src),
    (24, 8, bswap 8 q.r.f.short), (32, 1, msg), (33, 1, seq), (34, 1, ofSigned 8 period), (35, 4, bswap 4 dur)]

/-- One SHARD_REQ goes to an owner, and the request waits for its answer. -/
def askOwner (s : State) (l : Nat) (q : Req) (code tlv : Nat) (x : UniTlv) (seq : Nat) : State :=
  let tag := s.hmk.nextTag
  let w : ShardPend := ⟨l, tag, q.r, q.m, q.t, tlv⟩
  let s := { s with hmk := { s.hmk with nextTag := (tag + 1) % 2 ^ 32, shards := s.hmk.shards ++ [w] } }
  (s.add F.GFL_SHARD_ST_REMOTE_OUT 1).sendCell l 3 (shardReq q code x.msg seq x.period x.dur tag)

/-- The TLVs of a Signaling message that ask for something: REQUEST and CANCEL (R292). A GRANT or an ACKNOWLEDGE asks for nothing. -/
def asking (tlvs : List UniTlv) : List (Nat × UniTlv) := ((List.range tlvs.length).zip tlvs).filter (fun p => p.2.kind ≤ 1)

/-- A request for a key that another device owns (R410). -/
def sendShard (s : State) (l : Nat) (q : Req) : State :=
  match q.m.body with
  | .ntp .. => s.askOwner l q 0 0 ⟨0, 0, 0, 0⟩ 0
  | .ptp _ typ _ seq _ _ tlvs _ =>
    if typ = 1 then s.askOwner l q 1 0 ⟨0, 0, 0, 0⟩ 0
    else
      (asking tlvs).foldl (fun s p => s.askOwner l q (if p.2.kind = 1 then 3 else 2) p.1 p.2 seq) s

/-- A request of a key served here: bucket, then service (R281, R282, R284, R290, R292). -/
def serveHere (s : State) (q : Req) : State :=
  let f := q.r.f
  let now := f.short
  let sec := s.rxNs f / 1000000000
  match q.m.body with
  | .ntp _ vn poll xmit nts =>
    let (s, v) := s.chargeClient q.r.cfg q.t f.port q.m.kind q.m.src q.m.vlan now sec true q.m.miss q.m.ue
    if v = 0 || v = 2 then s.serveNtp q (v = 2) vn poll xmit nts else s
  | .ptp _ typ _ seq corr client tlvs _ =>
    let (s, v) := s.chargeClient q.r.cfg q.t f.port q.m.kind q.m.src q.m.vlan now sec false q.m.miss q.m.ue
    if v ≠ 0 then s
    else if typ = 1 then
      let g := ((s.findClient q.t f.port q.m.kind q.m.src).bind (fun c => alGet c.grants 2)).any (fun g => grantLive g sec)
      s.serveDelay q g seq corr client
    else
      let (s, out) := (asking tlvs).foldl (fun (a : State × List UniTlv) t =>
        let (s, o, _) := a.1.unicastTlv q.r.cfg q.t f.port q.m.kind q.m.src seq sec t.2
        (s, a.2 ++ [o])) (s, [])
      if out = [] then s else s.sendSignaling q seq client out

/-- A request of a resolved tenant is served here or asked of its owner (R409, R410). -/
def serveKey (s : State) (q : Req) : State :=
  let map := match q.r.cfg with
    | some c => c.regs
    | none => s.regs
  match s.shardIn map q.t q.r.f.port q.m.src with
  | .remote l _ => s.sendShard l q
  | .fallback => (s.add F.GFL_SHARD_ST_LOCAL_FALLBACK 1).serveHere q
  | .here => s.serveHere q

/-- Whether profile `prof` of HMK_TEN_CFG.PTP_PROF is served over a frame of address kind `kind` (R274's table, 0 none):
code 3 over IEEE 802.3 (kind 2) only, codes 4 and 5 over UDP only. -/
def ptpCarried (prof kind : Nat) : Bool :=
  prof ≠ 0 && (prof ≠ 3 || kind = 2) && ((prof ≠ 4 && prof ≠ 5) || kind ≠ 2)

/-- The checks of R275, R283, R284 step 1, R291 and R299 on a request of tenant t: the statistic of the first that fails. -/
def refuses (s : State) (q : Req) : Option Nat :=
  let c (f : Fld) : Bool := s.cg q.r.cfg f = 1
  let unready : Option Nat := if s.prov && !c (F.HMK_TEN_CFG_SERVE_PROV q.t) then some 28 else none
  match q.m.body with
  | .ntp mode vn _ _ nts =>
    if mode ≠ 3 || (vn ≠ 3 && vn ≠ 4) || (nts.isSome && vn = 3) then some 5
    else match nts with
      | none => if !c (F.HMK_TEN_CFG_NTP_EN q.t) || c (F.HMK_TEN_CFG_NTS_ONLY q.t) then some 29 else unready
      | some r =>
        if !c (F.HMK_TEN_CFG_NTS_EN q.t) then some 29
        else match unready with
          | some k => some k
          | none => if ntsForm r then none else some 6
  | .ptp vn typ _ _ _ _ _ a =>
    if vn ≠ 2 || (typ ≠ 1 && typ ≠ 0xC) then some 22
    else if !ptpCarried (s.cg q.r.cfg (F.HMK_TEN_CFG_PTP_PROF q.t)) q.m.kind then some 29
    else match unready with
      | some k => some k
      | none =>
        if typ = 0xC && s.engQuenched 15 then some 25
        else if s.ptpAuthOk q.r.cfg q.t a then none else some 8

/-- The statistic that counts a request: REQ_NTP, REQ_NTS or REQ_PTP. -/
def reqStat (m : ReqMsg) : Nat :=
  match m.body with
  | .ntp _ _ _ _ none => 0
  | .ntp _ _ _ _ (some _) => 1
  | .ptp .. => 2

/-- Hallmark runs: the boot is READY and every channel it needs is up (R466, R467). -/
def hmkReady (s : State) : Bool := s.get F.SYS_BOOT_ST_STATE = 4 && s.pdUp 22

/-- The request at the head of a port's queue, read as `m` (R275 to R284). -/
def hmkRequest (s : State) (p : Nat) (m : ReqMsg) : State :=
  match s.hmkQueue p with
  | r :: rest =>
    let s := (s.setQueue p rest).hmkStat (reqStat m)
    if s.on F.HMK_STAT_STANDBY then s.hmkStat 24
    else if !s.hmkReady || s.cg r.cfg (F.HMK_PORT_CFG_EN p) = 0 then s.hmkStat 28
    else match resolveTenant (s.cgTat r.cfg) p m with
      | none => s.hmkStat 4
      | some t =>
        let s := s.tcount t 0 1
        let q : Req := ⟨r, m, t⟩
        match s.refuses q with
        | some k => let s := s.hmkStat k; if k = 8 then s.tcount t 5 1 else s
        | none => s.serveKey q
  | [] => s

/-- A request whose sealing has not begun 8 µs after its receipt is dropped (R294): one that waits for sealing, for its
owner, or in the queue, the oldest first. -/
def staleReq (s : State) (p : Nat) : State :=
  match s.hmkJobs p, s.hmk.shards.find? (fun x => x.req.f.port = p), s.hmkQueue p with
  | j :: rest, _, _ =>
    if j.nominal.isSome then s else ((s.runTo (j.rx + 8000)).setJobs p rest).hmkStat 16
  | [], some x, _ =>
    let s := s.runTo (s.rxNs x.req.f + 8000)
    ({ s with hmk := { s.hmk with shards := s.hmk.shards.filter (fun y => y.tag ≠ x.tag) } } : State).hmkStat 16
  | [], none, r :: rest => ((s.runTo (s.rxNs r.f + 8000)).setQueue p rest).hmkStat 16
  | [], none, [] => s

/-! ## Shards (R410) -/

/-- A request that has not come before is charged (R281, R282). -/
def chargeNew (s : State) (l pk now code : Nat) (id : Nat × Nat) (pl : Nat) (miss : Bool) (ue : Option DramErr) : State × Nat :=
  let sec := (s.unshort now).toNat / 1000000000
  let (s, v) := s.chargeClient none (wireBytes pl 4 2) (pk % 8) (pk / 8 % 4) (cellBytes pl 8 16) 0 now sec (code = 0) miss ue
  ({ s with hmk := { s.hmk with charged := alSet s.hmk.charged l (id, v) } }, v)

/-- The bucket charge of a SHARD_REQ at its owner. A Signaling message of several TLVs brings one SHARD_REQ for each and is one request,
charged once (R38, R281): the later ones carry the key and the receive timestamp of the first and share its outcome. -/
def chargeShard (s : State) (l pl : Nat) (miss : Bool) (ue : Option DramErr) : State × Nat :=
  let pk := cellBytes pl 6 1
  let now := wireBytes pl 24 8
  let code := cellBytes pl 7 1
  let id := (cellBytes pl 4 3, cellBytes pl 8 24)
  match (if 2 ≤ code then alGet s.hmk.charged l else none) with
  | some (x, v) => if x = id then (s, v) else s.chargeNew l pk now code id pl miss ue
  | none => s.chargeNew l pk now code id pl miss ue

/-- An owner applies a SHARD_REQ and answers it. DESIGN CHOICE: with its engine 0 quenched it drops what a Signaling message asks,
as it drops its own (R299), and sends no answer. -/
def ownerServe (s : State) (l pl : Nat) (miss : Bool) (ue : Option DramErr) : State :=
  let s := s.add F.GFL_SHARD_ST_REMOTE_IN 1
  let t := wireBytes pl 4 2
  let pk := cellBytes pl 6 1
  let p := pk % 8
  let kind := pk / 8 % 4
  let addr := cellBytes pl 8 16
  let now := wireBytes pl 24 8
  let sec := (s.unshort now).toNat / 1000000000
  let code := cellBytes pl 7 1
  if 2 ≤ code && s.engQuenched 15 then s.hmkStat 25
  else
  let (s, v) := if s.sharedKey l t p then s.chargeShard l pl miss ue else (s, 4)
  let (s, v, d) :=
    if v ≠ 0 || code = 0 then (s, v, 0)
    else if code = 1 then
      let g := ((s.findClient t p kind addr).bind (fun c => alGet c.grants 2)).any (fun g => grantLive g sec)
      (s, if g then 0 else 6, 0)
    else
      let q : UniTlv := ⟨if code = 3 then 1 else 0, cellBytes pl 32 1, toSigned 8 (cellBytes pl 34 1), wireBytes pl 35 4⟩
      let (s, o, v) := s.unicastTlv none t p kind addr (cellBytes pl 33 1) sec q
      (s, v, o.dur)
  s.sendCell l 4 (pack 0 [(0, 4, cellBytes pl 0 4), (4, 1, v), (5, 4, bswap 4 d)])

/-- The receiving device acts on an owner's verdict. -/
def shardVerdict (s : State) (x : ShardPend) (v d : Nat) : State :=
  let q : Req := ⟨x.req, x.msg, x.tenant⟩
  match x.msg.body with
  | .ntp _ vn poll xmit nts => if v = 0 || v = 2 then s.serveNtp q (v = 2) vn poll xmit nts else s
  | .ptp _ typ _ seq corr client tlvs _ =>
    if typ = 1 then (if v = 0 || v = 6 then s.serveDelay q (v = 0) seq corr client else s)
    else match tlvs[x.tlv]? with
      | some t =>
        if v = 5 || v = 7 then s.sendSignaling q seq client [⟨2, t.msg, t.period, d⟩]
        else if v = 6 then s.sendSignaling q seq client [⟨2, t.msg, t.period, 0⟩]
        else if v = 8 then s.sendSignaling q seq client [⟨3, t.msg, t.period, 0⟩]
        else s
      | none => s

/-- A SHARD_RESP is taken: TAG, VERDICT and duration. -/
def shardResp (s : State) (l pl : Nat) : State :=
  let tag := wireBytes pl 0 4
  match s.hmk.shards.find? (fun x => x.link = l && x.tag = tag) with
  | some x =>
    let s := { s with hmk := { s.hmk with shards := s.hmk.shards.filter (fun y => !(y.link = l && y.tag = tag)) } }
    s.shardVerdict x (cellBytes pl 4 1) (wireBytes pl 5 4)
  | none => s

/-! ## Scheduled Announce and Sync (R289, R293, R297) -/

/-- An interval of 2^log s in ns, for log from -9 to 7. -/
def logNs (log : Int) : Nat := if 0 ≤ log then 1000000000 * 2 ^ log.toNat else 1000000000 / 2 ^ (-log).toNat

/-- The flow of a message. -/
def flow (s : State) (t p msg : Nat) (client : Option (Nat × Nat)) : Flow :=
  (s.hmk.flows.find? (fun f => f.tenant = t && f.port = p && f.msg = msg && f.client = client)).getD ⟨t, p, msg, client, 0, 0⟩

/-- The flow replaced. -/
def setFlow (s : State) (f : Flow) : State :=
  let same (g : Flow) : Bool := g.tenant = f.tenant && g.port = f.port && g.msg = f.msg && g.client = f.client
  { s with hmk := { s.hmk with flows := s.hmk.flows.filter (fun g => !same g) ++ [f] } }

/-- The log interval at which a message goes to all, or to a client that holds a live grant, if it is sent at all. -/
def flowLog (s : State) (t p msg : Nat) (client : Option (Nat × Nat)) : Option Int :=
  if s.get (F.HMK_TEN_CFG_PTP_PROF t) = 0 || s.get (F.HMK_PORT_CFG_EN p) = 0 then none
  else match client with
    | none =>
      if s.multicastOn none t p then
        some (if msg = 0 then s.getI (F.HMK_TEN_CFG_LOG_ANN t) else s.getI (F.HMK_TEN_CFG_LOG_SYNC t)) else none
    | some (kind, a) =>
      match (s.findClient t p kind a).bind (fun c => alGet c.grants msg) with
      | some g => if grantLive g s.sec then some g.period else none
      | none => none

/-- A scheduled message of tenant t on port p: msg 0 Announce, 1 Sync. Its nominal instant is the next multiple of its
interval, and its launch is requested MARGIN before it. -/
def scheduleMsg (s : State) (t p msg : Nat) (client : Option (Nat × Nat)) : State :=
  if s.on F.HMK_STAT_STANDBY || !s.hmkReady || 2 ≤ msg || !s.time.running then s
  else match s.flowLog t p msg client with
    | none => s
    | some log =>
      let per := logNs log
      let f := s.flow t p msg client
      let m := s.get (F.HMK_PORT_CFG_MARGIN p)
      let first := ceilDiv (s.ns + m) per * per
      let n := if first ≤ f.last then (f.last / per + 1) * per else first
      let s := s.runTo (n - m)
      let s := s.setFlow { f with last := n, seq := (f.seq + 1) % 65536 }
      let kind := match client with
        | some c => c.1
        | none => if s.get (F.HMK_TEN_CFG_PTP_PROF t) = 3 then 2 else 0
      let c := client.map Prod.snd
      s.addJob ⟨t, p, kind, 0, s.ns, some n, none, if msg = 0 then .announce f.seq c else .sync f.seq c⟩

/-! ## Entries in time (R280, R292) -/

/-- Engine 1 reclaims an idle entry (R280). -/
def reclaim (s : State) (t p kind addr : Nat) : State :=
  match s.findClient t p kind addr with
  | some c =>
    let idle := 3 * 2 ^ s.get (F.HMK_TEN_CFG_MAXPOLL t)
    let live := c.grants.any (fun g => grantLive g.2 s.sec)
    if !s.engQuenched 16 && !c.blocked && !live && (idle : Int) * 1000000000 ≤ sdiff c.lastSeen s.short then s.deleteClient c else s
  | none => s

/-- A grant reaches its EXPIRY (R292). -/
def grantExpiry (s : State) (t p kind addr k : Nat) : State :=
  match s.findClient t p kind addr with
  | some c =>
    match alGet c.grants k with
    | some g => if g.gdur ≠ 0 && !grantLive g s.sec then s.settleLoad else s
    | none => s
  | none => s

/-! ## HMK_MINT and HMK_CLIENT (R288, R302) -/

/-- HMK_MINT of function fn (R288): whether the key block was read, the keys in it, and how many cookies the host took. -/
def hmkMint (s : State) (fn : Nat) (inOk : Bool) (c2s s2c took : Nat) : State :=
  match s.cmdOf fn 0x0801 with
  | some c =>
    let t := c.arg 0 2
    let n := c.arg 2 1
    if fn ≠ 0 && t ≠ s.cmdTenant fn then s.finish fn c.n cNotPermitted 0
    else if n = 0 || 8 < n then s.finish fn c.n cBadCount 0
    else if s.get (F.HMK_TEN_CFG_NTS_EN t) = 0 then s.finish fn c.n cNtsOff 0
    else match s.currentKey none t 0 with
      | none => s.finish fn c.n cNoKey 0
      | some (id, key) =>
        if !inOk then s.finish fn c.n cDmaErr 0
        else
          let m := min n took
          let (s, cs) := s.makeCookies m id key t c2s s2c
          let s := (List.range m).foldl (fun s i => s.hostWrite fn (c.arg 12 8 + 104 * i) 104 (cs.getD i 0)) s
          let s := s.countN 0x4E8 m
          s.finish fn c.n (if m = n then cOk else cDmaErr) m
  | none => s

/-- The key an HMK_CLIENT command names: tenant, port, kind, address. -/
def clientArg (c : Cmd) : Nat × Nat × Nat × Nat := (c.arg 1 2, c.arg 3 1 % 8, c.arg 3 1 / 8 % 4, c.arg 4 16)

/-- HMK_CLIENT on a key served here (R302). -/
def clientOp (s : State) (fn : Nat) (c : Cmd) (op : Nat) (outOk : Bool) : State :=
  let (t, p, kind, addr) := clientArg c
  match s.findClient t p kind addr with
  | some e =>
    match op with
    | 0 =>
      if outOk then (s.hostWrite fn (c.arg 20 8) 64 (clientBytes e)).finish fn c.n cOk 0 else s.finish fn c.n cDmaErr 0
    | 1 => (s.writeClient { e with blocked := true } true).finish fn c.n cOk 0
    | 2 => (s.writeClient { e with blocked := false } true).finish fn c.n cOk 0
    | _ => (s.deleteClient e).finish fn c.n cOk 0
  | none =>
    if op = 1 then
      if s.clientRoom t then
        let (s, e) := s.newClient t p kind addr 0 s.short (s.get (F.HMK_TEN_CFG_BURST t))
        (s.writeClient { e with blocked := true } true).finish fn c.n cOk 0
      else s.finish fn c.n cTableFull 0
    else s.finish fn c.n cNotFound 0

/-- HMK_CLIENT of function fn with an operation, or with one that is none of them (R302). -/
def hmkClient (s : State) (fn op : Nat) (outOk : Bool) : State :=
  match s.cmdOf fn 0x0802 with
  | some c =>
    let o := c.arg 0 1
    let (t, p, _, addr) := clientArg c
    if o ≠ op && o < 4 then s
    else if 4 ≤ o then s.finish fn c.n cBadOp 0
    else if fn ≠ 0 && t ≠ s.cmdTenant fn then s.finish fn c.n cNotPermitted 0
    else match s.shardOf t p addr with
      | .remote _ dev => s.finish fn c.n cRemoteOwner dev
      | _ => s.clientOp fn c op outOk
  | none => s

/-- The KEY_ROTATE action (R287); a class that does not exist has no key to rotate. -/
def keyRotate (s : State) (arg : Nat) : State :=
  if bitsOf arg 10 6 < 3 then s.rotateKey (bitsOf arg 0 10) (bitsOf arg 10 6) else s

end State

/-! ## The commands -/

/-- HMK_REQUEST (R281): the request at the head of port p's queue, as Hallmark reads it. -/
def execHmkRequest (p : Nat) (m : ReqMsg) (s : State) : Host.Outcome State Fault Refusal := .next (s.hmkRequest p m)

/-- STALE_REQ (R294). -/
def execStaleReq (p : Nat) (s : State) : Host.Outcome State Fault Refusal := .next (s.staleReq p)

/-- LAUNCH_REQUEST (R250, R293). -/
def execLaunchRequest (p : Nat) (excl : List Nat) (lat : Nat) (s : State) : Host.Outcome State Fault Refusal :=
  .next (s.launchRequest p excl lat)

/-- ANNOUNCE_SYNC_SEND (R289). -/
def execAnnounceSyncSend (t p msg : Nat) (client : Option (Nat × Nat)) (s : State) : Host.Outcome State Fault Refusal :=
  .next (s.scheduleMsg t p msg client)

/-- CLIENT_RECLAIM (R280). -/
def execClientReclaim (t p kind addr : Nat) (s : State) : Host.Outcome State Fault Refusal := .next (s.reclaim t p kind addr)

/-- GRANT_EXPIRY (R292). -/
def execGrantExpiry (t p kind addr k : Nat) (s : State) : Host.Outcome State Fault Refusal := .next (s.grantExpiry t p kind addr k)

/-- HMK_MINT (R288). -/
def execHmkMint (fn : Nat) (inOk : Bool) (c2s s2c took : Nat) (s : State) : Host.Outcome State Fault Refusal :=
  .next (s.hmkMint fn inOk c2s s2c took)

/-- CLIENT_READ (R302). -/
def execClientRead (fn : Nat) (outOk : Bool) (s : State) : Host.Outcome State Fault Refusal := .next (s.hmkClient fn 0 outOk)

/-- CLIENT_BLOCK (R302). -/
def execClientBlock (fn : Nat) (s : State) : Host.Outcome State Fault Refusal := .next (s.hmkClient fn 1 true)

/-- CLIENT_UNBLOCK (R302). -/
def execClientUnblock (fn : Nat) (s : State) : Host.Outcome State Fault Refusal := .next (s.hmkClient fn 2 true)

/-- CLIENT_DELETE (R302). -/
def execClientDelete (fn : Nat) (s : State) : Host.Outcome State Fault Refusal := .next (s.hmkClient fn 3 true)

/-- TAT_LOAD (R277): HMK_TAT_LOAD written with a base, a count and GO. -/
def execTatLoad (base count : Nat) (s : State) : Host.Outcome State Fault Refusal :=
  .next (s.awake (fun s => ((s.set F.HMK_TAT_LOAD_BASE base).set F.HMK_TAT_LOAD_COUNT count).tatGo))

/-- TAT_LOAD_DONE (R277). -/
def execTatLoadDone (ents : List TatEnt) (ue : Option (Nat × DramErr)) (s : State) : Host.Outcome State Fault Refusal := .next (s.tatDone ents ue)

/-- SHARD_REQ_RECEIVE (R410): the oldest SHARD_REQ delivered on the link. -/
def execShardReqReceive (l : Nat) (miss : Bool) (ue : Option DramErr) (s : State) : Host.Outcome State Fault Refusal :=
  .next (match s.takeFrom l (fun c => c.typ = 3) with
    | some (c, _, s) => s.ownerServe l c.payload miss ue
    | none => s)

/-- SHARD_RESP_RECEIVE (R410): the oldest SHARD_RESP delivered on the link. -/
def execShardRespReceive (l : Nat) (s : State) : Host.Outcome State Fault Refusal :=
  .next (match s.takeFrom l (fun c => c.typ = 4) with
    | some (c, _, s) => s.shardResp l c.payload
    | none => s)

end Sys2Proof.Machine
end

