-- ==== Sys2Proof/Machine/Planish.lean ====
section
/-!
DEFINITION. Sys2Proof/Machine/Planish.lean: a Planish engine's start and release (R337, R352) and its bank switch (R353).
-/

namespace Sys2Proof.Machine

namespace State

/-- A free value for a result the spec does not state. -/
def freeNat (s : State) : Nat × State := (Config.freeNat s.draws, s.draw)

/-- Live program of an engine. -/
def prog (s : State) (e : Nat) : Option Prog := (s.engine e).live

/-! ## Start and bank switch (R337, R352, R353) -/

/-- An engine starts its live program: registers 0, data memory from the data image, PC at ENTRY (R337). `keepWakes` says
whether what was pending goes to the program. -/
def startEngine (s : State) (e : Nat) (keepWakes : Bool) : State :=
  match s.prog e with
  | some p =>
    let x := s.engine e
    let x := if keepWakes then x else { x with tick := false, wakes := [], cells := [], frames := [] }
    let s := (List.range 16).foldl (fun s i => s.set (F.ENG_G_VALUE e i) 0) s
    let s := ((s.setPc e p.entry).set (F.ENG_ST_STATE e) 1).set (F.ENG_CYC_FRAME_MAX e) 0
    s.setEngine e { x with
      dm := p.data, frameCyc := 0, held := none, wait := none, crossed := false, oob := false, late := false, bldHi := none
      inCell := ⟨0, 0, 0⟩, outCell := 0 }
  | none => s

/-- ENG_CTL.RELEASE at its strobe: a quenched engine starts afresh, and every wake pending is discarded (R352). -/
def releaseEngine (s : State) (e : Nat) : State :=
  if s.engPresent e && s.engQuenched e then
    let s := (s.startEngine e false).releaseRecords 1 e
    -- KFAULT follows (R174)
    if e = 8 then s.setB F.TSK_STAT_KFAULT (s.on (F.ASY_SRC_ST_FAULT 0)) else s
  else s

/-- The engine's idle bank becomes live and its program starts; pending wakes go to it (R353). A quenched engine stays
quenched on the new bank (R332). -/
def switchBank (s : State) (e : Nat) : State :=
  let x := s.engine e
  match x.idle with
  | some p =>
    let s := s.setEngine e { x with live := some p, idle := none, swap := false }
    let s := s.set (F.ENG_ST_BANK e) (1 - s.get (F.ENG_ST_BANK e))
    if s.engQuenched e then s else s.startEngine e true
  | none => s.setEngine e { x with swap := false }

end State

end Sys2Proof.Machine
end

