-- ==== Sys2Proof/Machine/Synth.lean ====
section
/-!
DEFINITION. Sys2Proof/Machine/Synth.lean: Burnishers, outputs, pulses, time code and media clock ports (R201 to R227).
-/

namespace Sys2Proof.Machine

namespace State

/-- Something appears at an output's pad, unless the output is pair-shared and its pads are released (R421, R424, R432). -/
def padOut (s : State) (o : Nat) (x : Out) : State :=
  if bitOf s.syn.paired o && !s.on F.PAIR_STAT_DRIVING then s else s.emitOut x

/-! ## Access to the state -/

/-- A Burnisher's own state. -/
def burn (s : State) (b : Nat) : BurnSt := (alGet s.syn.burns b).getD ⟨0, 0, 0, 0⟩

/-- The state with a Burnisher's own state replaced. -/
def setBurn (s : State) (b : Nat) (x : BurnSt) : State := { s with syn := { s.syn with burns := alSet s.syn.burns b x } }

/-- An output's own state. -/
def pin (s : State) (o : Nat) : PinSt := (alGet s.syn.pins o).getD ⟨false, false, none, none, none, none, none⟩

/-- The state with an output's own state replaced. -/
def setPin (s : State) (o : Nat) (x : PinSt) : State := { s with syn := { s.syn with pins := alSet s.syn.pins o x } }

/-- A media port's own state. -/
def aes (s : State) (m : Nat) : AesSt := (alGet s.syn.aes m).getD ⟨0, false, 2, 0, 0, 0, 0, false, 0⟩

/-- The state with a media port's own state replaced. -/
def setAes (s : State) (m : Nat) (x : AesSt) : State := { s with syn := { s.syn with aes := alSet s.syn.aes m x } }

/-- The outputs: FOUT0 to FOUT15, then GOUT0 to GOUT7. -/
def outs : List Nat := List.range 24

/-- The domain of an output (R454). -/
def outPd (o : Nat) : Nat := if o < 16 then 19 else 20

/-- MODE of an output: Class F outputs are clocks. -/
def outMode (s : State) (o : Nat) : Nat := if o < 16 then 0 else s.get (F.OUT_G_CFG_MODE (o - 16))

/-- Burnisher, divider and RUN of an output. -/
def outBurnOf (s : State) (o : Nat) : Nat := if o < 16 then s.get (F.OUT_F_CFG_BURN o) else s.get (F.OUT_G_CFG_BURN (o - 16))
def outDiv (s : State) (o : Nat) : Nat := if o < 16 then s.get (F.OUT_F_CFG_DIV o) else s.get (F.OUT_G_CFG_DIV (o - 16))
def outRun (s : State) (o : Nat) : Bool := if o < 16 then s.on (F.OUT_F_CFG_RUN o) else s.on (F.OUT_G_CFG_RUN (o - 16))

/-- The Burnisher feeds the output: a PULSE or TIMECODE output has none (R214). -/
def feeds (s : State) (b o : Nat) : Bool := s.outMode o = 0 && s.outBurnOf o = b

/-- State of an output: 0 STOPPED, 1 WAIT_LOCK, 2 RUNNING, 3 BYPASS. -/
def outState (s : State) (o : Nat) : Nat := s.get (F.OUT_ST_STATE o)

/-- State of a Burnisher: 0 OFF, 1 SEARCH, 2 ACQ, 3 LOCKED, 4 BYPASS. -/
def burnState (s : State) (b : Nat) : Nat := s.get (F.SYN_BURN_ST_STATE b)

/-- The bound of an output (R218): core TEB + OUT_TERM while ALIGNED, else all ones. -/
def outTeb (s : State) (o : Nat) : Nat :=
  if s.on (F.OUT_ST_ALIGNED o) then
    let t := s.get (F.OUT_TERM_TERM o)
    if t = 2 ^ 32 - 1 then 0xFFFFFFFF else toFloat (bAdd s.coreTeb t)
  else 0xFFFFFFFF

/-! ## Clocks of a Burnisher (R204, R205) -/

/-- Period of VCO / P of a Burnisher, ns; 0 before it has measured f_pfd. -/
def vcoPeriod (s : State) (b : Nat) : Rat :=
  let f := (s.burn b).pfd * ((s.get (F.SYN_BURN_CFG_N b) : Rat) + (s.get (F.SYN_BURN_CFG_F b) : Rat) / 2 ^ 32)
  if f = 0 then 0 else ((s.get (F.SYN_BURN_CFG_P b) + 4 : Nat) : Rat) * 1000000000 / f

/-- The first point at or after t of a grid, all in core ns; t itself for a grid without period. -/
def gridAfter (origin per t : Rat) : Rat := if per = 0 then t else origin + ((t - origin) / per).ceil * per

/-- The first VCO / P edge of a Burnisher at or after t, core ns (R214). On its NCO the edges count from a grid point (R205); on another
source their phase is that of the source, a free value within a period. -/
def vcoEdge (s : State) (b : Nat) (t : Rat) : Rat × State :=
  let per := s.vcoPeriod b
  if s.get (F.SYN_BURN_CFG_SRC b) = 24 then (gridAfter ((s.burn b).origin + ((s.burn b).shift : Rat) / 65536) per t, s)
  else
    let (u, s) := s.freeNat
    (t + ((u % 65536 : Nat) : Rat) / 65536 * per, s)

/-- Period of an output's clock, ns. -/
def outPeriod (s : State) (o : Nat) : Rat := s.vcoPeriod (s.outBurnOf o) * (s.outDiv o : Rat)

/-- An instant in core ns as whole ns and ps, rounded to the nearest ps. -/
def nsps (t : Rat) : Nat × Nat := let p := (roundRat (t * 1000)).toNat; (p / 1000, p % 1000)

/-! ## Outputs (R214 to R220) -/

/-- The P leg's level for an active or inactive output: POL inverts a Class G output (R220). -/
def padLevel (s : State) (o : Nat) (active : Bool) : Bool := active != (16 ≤ o && s.on (F.OUT_G_CFG_POL (o - 16)))

/-- An LVCMOS output leaves its N leg high-impedance (R219). -/
def lvcmos (s : State) (o : Nat) : Bool :=
  if o < 16 then 4 ≤ s.get (F.OUT_F_CFG_FORMAT o) else s.get (F.OUT_G_CFG_FORMAT (o - 16)) < 2

/-- An output holds its inactive level: a differential one P low and N high, an LVCMOS one low (R219), a Class G output as POL says
(R220). -/
def outHold (s : State) (o : Nat) : State :=
  let l := s.padLevel o false
  s.padOut o (.stop o (some l) (if s.lvcmos o then none else some (!l)))

/-- An edge of a Class G output. -/
def gEdge (s : State) (o : Nat) (active : Bool) (t : Nat × Nat) : State := s.padOut o (.edge o (s.padLevel o active) t.1 t.2)

/-- An output started now by its Burnisher is ALIGNED (R218). -/
def burnAligned (s : State) (b : Nat) : Bool :=
  s.get (F.SYN_BURN_CFG_SRC b) = 24 && !s.on (F.SYN_BURN_ST_MISALIGNED b) && s.burnState b = 3

/-- An output starts, E + 64 ns being `first` in whole ns: a clock with the first VCO / P edge at or after that, shifted by the pad
skew (R214). The gate of a Class G clock is open from its start (DESIGN CHOICE). -/
def outStartAt (s : State) (o first : Nat) : State :=
  let s := s.set (F.OUT_ST_STATE o) 2
  let s := s.setB (F.OUT_ST_ALIGNED o) (s.outMode o ≠ 0 || s.burnAligned (s.outBurnOf o))
  if s.outMode o = 0 then
    let (e, s) := s.vcoEdge (s.outBurnOf o) first
    let s := s.setPin o ⟨false, true, none, none, none, some e, some s.time.cyc⟩
    s.padOut o (.start o (e + (Config.padSkew o : Rat) / 1000))
  else s.setPin o ⟨false, false, none, none, none, none, some s.time.cyc⟩

/-- RUN = 1 goes live, its domain up (R214, R456): a STOPPED output starts, or waits for its Burnisher; a stop that waits for its edge
is withdrawn (DESIGN CHOICE). A start in the cycle of a SYNCIN alignment is aligned to SYNCIN (R216). -/
def outStart (s : State) (o : Nat) : State :=
  if !s.pdUp (outPd o) then s
  else if s.outState o ≠ 0 then s.setPin o { s.pin o with stopping := false }
  else if s.outMode o ≠ 0 || s.burnState (s.outBurnOf o) = 3 then
    let t := s.outStartAt o (s.ns + 64)
    if s.outMode o = 0 && s.syn.sync.any (fun y => y.1 = s.time.cyc && bitOf y.2 o) then t.set (F.OUT_ST_ALIGNED o) 0 else t
  else s.set (F.OUT_ST_STATE o) 1

/-- RUN = 0 goes live (R214): a RUNNING or BYPASS output stops at its next inactive edge. -/
def outStopReq (s : State) (o : Nat) : State :=
  match s.outState o with
  | 1 => s.set (F.OUT_ST_STATE o) 0
  | 0 => s
  | _ => s.setPin o { s.pin o with stopping := true }

/-- An output has stopped: it holds its inactive level. -/
def outStopped (s : State) (o : Nat) : State :=
  ((((s.set (F.OUT_ST_STATE o) 0).set (F.OUT_ST_ALIGNED o) 0).setPin o
    { s.pin o with stopping := false, active := false, pulseEnd := none, tc := none })).outHold o

/-- An output goes on the bypass clock, divided by BYP_DIV, or holds its inactive level with BYP_DIV = 0 or while the bypass clock is
lost (R210). A Class G output has no BYP_DIV and holds (DEDUCED). -/
def outBypassed (s : State) (o : Nat) : State :=
  let d := if o < 16 then s.get (F.OUT_F_CFG_BYP_DIV o) else 0
  if d = 0 || s.on F.SYN_BYP_ST_BYP_LOS then s.outHold o else s.padOut o (.bypass o d)

/-- ALIGNED of every output that a Burnisher feeds clears (R218). -/
def unalign (s : State) (b : Nat) : State :=
  outs.foldl (fun s o => if s.feeds b o then s.set (F.OUT_ST_ALIGNED o) 0 else s) s

/-! ## Burnishers (R204 to R211) -/

/-- What LOCKAb shows (R212): high impedance with PD_BURNb off; while LOCKED, pulses whose duty is the phase error over the PFD period;
else high. -/
def lockaPin (s : State) (b : Nat) : Option (Option Rat) :=
  if !s.pdUp (15 + b) then none
  else if s.burnState b = 3 then
    some (some (((s.getI (F.SYN_BURN_ST_PH_ERR b)).natAbs : Rat) * (s.burn b).pfd / 1000000000000))
  else some none

/-- LOCKAb follows its Burnisher. -/
def lockaOut (s : State) (b : Nat) : State := s.emitOut (.locka b (s.lockaPin b))

/-- A Burnisher enters a state. -/
def burnTo (s : State) (b st : Nat) : State :=
  let s := ((s.set (F.SYN_BURN_ST_STATE b) st).setBurn b { s.burn b with since := s.ns }).lockaOut b
  if st = 3 then s else s.unalign b

/-- A lock attempt begins (R207): the NCO goes back on its grid, which counts from the latest whole second (R205; DESIGN CHOICE: the
rule says only that O is a whole second). -/
def burnSearch (s : State) (b : Nat) : State :=
  let s := (s.burnTo b 1).count (0x345 + b)
  (s.setBurn b { s.burn b with pfd := 0, origin := s.ns / 1000000000 * 1000000000, shift := 0 }).set (F.SYN_BURN_ST_MISALIGNED b) 0

/-- Entry to BYPASS (R210): RUNNING outputs go with the Burnisher; a stop under way completes on the bypass clock (R216). -/
def burnBypass (s : State) (b fail : Nat) : State :=
  let s := (((s.burnTo b 4).add (F.SYN_BURN_ST_LOSSES b) 1).count (0x341 + b))
  let s := if fail = 0 then s else s.set (F.SYN_BURN_ST_FAIL b) fail
  outs.foldl (fun s o => if s.feeds b o && s.outState o = 2 then (s.set (F.OUT_ST_STATE o) 3).outBypassed o else s) s

/-- A Burnisher goes OFF with its domain: the outputs that it feeds stop (R208). -/
def burnDown (s : State) (b : Nat) : State :=
  (outs.foldl (fun s o => if s.feeds b o && s.outState o ≠ 0 then s.outStopped o else s) s).burnTo b 0

/-- Frequency of the PFD, Hz: from the NCO's period, else as measured; none with the reference absent, which the NCO is while the SPLL
is not locked (R207, R209). -/
def pfdHz (s : State) (b : Nat) (meas : Option Nat) : Option Rat :=
  let r : Rat := s.get (F.SYN_BURN_CFG_R b)
  if s.get (F.SYN_BURN_CFG_SRC b) = 24 then
    (if s.on F.SYN_SPLL_ST_LOCKED then some ((2 ^ 32 * 1000000000 : Nat) / (s.get (F.SYN_BURN_CFG_NCO_PER b) : Rat) / r) else none)
  else meas.map (fun f => (f : Rat))

/-- The largest frequency of an output's class and format, Hz (R219, R220). -/
def outLimit (s : State) (o : Nat) : Rat :=
  if o < 16 then (if s.get (F.OUT_F_CFG_FORMAT o) < 4 then 1500000000 else 250000000) else 250000000

/-- The smallest frequency of an output, Hz: differential formats run from 1 Hz (R219). -/
def outFloor (s : State) (o : Nat) : Rat := if s.lvcmos o then 0 else 1

/-- The plan is out of range (R207). An output of a differential format below 1 Hz is out of its limit too (DEDUCED, R219). -/
def planErr (s : State) (b : Nat) (pfd : Rat) : Bool :=
  let bw : Rat := (10 * 2 ^ s.get (F.SYN_BURN_CFG_BW b) : Nat)
  let vco := pfd * ((s.get (F.SYN_BURN_CFG_N b) : Rat) + (s.get (F.SYN_BURN_CFG_F b) : Rat) / 2 ^ 32)
  let p : Rat := (s.get (F.SYN_BURN_CFG_P b) + 4 : Nat)
  decide (pfd < 8000) || decide (125000000 < pfd) || decide (pfd / 20 < bw) || decide (vco < 9800000000) || decide (12400000000 < vco) ||
    outs.any (fun o =>
      let f := vco / (p * (s.outDiv o : Rat))
      s.feeds b o && (decide (s.outLimit o < f) || decide (f < s.outFloor o)))

/-- When the source of a Burnisher in BYPASS may be judged, core ns: 1 s after entry, and 1 s of edges for a REF source that Assay does
not judge and for BYPCLK (R208, R209). -/
def burnReturnAt (s : State) (b : Nat) : Nat :=
  let src := s.get (F.SYN_BURN_CFG_SRC b)
  let own := if src < 24 then (if s.refState src = 0 then (s.src src).okAt else 0) else if src = 24 then 0 else s.syn.bypAt
  max (s.burn b).since own + 1000000000

/-- The source of a Burnisher is present (R209); the 1 s of an unjudged source have passed. BYPCLK's own edge detector shows only as
BYP_LOS, where the image takes it as bypass clock (DEDUCED). -/
def burnPresent (s : State) (b : Nat) : Bool :=
  let src := s.get (F.SYN_BURN_CFG_SRC b)
  if src < 24 then (if s.refState src = 0 then !s.on (F.REF_SRC_STAT_LOS src) else s.qualified src)
  else if src = 24 then s.on F.SYN_SPLL_ST_LOCKED
  else !(s.get F.SYN_BYP_ST_SRC = 1 && s.on F.SYN_BYP_ST_BYP_LOS)

/-! ## Strobes (R204, R206, R208, R213 to R215, R221, R225) -/

/-- A phase error in ps, in 1/1,024 of the PFD period (R208). -/
def errShare (s : State) (b : Nat) (err : Int) : Rat := (err.natAbs : Rat) * (s.burn b).pfd * 1024 / 1000000000000

/-- The plan of a Burnisher: what a change of restarts its lock (R208). -/
def planView (s : State) (b : Nat) : List Nat :=
  [s.view (F.SYN_BURN_CFG_SRC b), s.view (F.SYN_BURN_CFG_R b), s.view (F.SYN_BURN_CFG_N b), s.view (F.SYN_BURN_CFG_F b),
    s.view (F.SYN_BURN_CFG_P b), s.view (F.SYN_BURN_CFG_BW b), s.view (F.SYN_BURN_CFG_NCO_PER b)]
def planLive (s : State) (b : Nat) : List Nat :=
  [s.get (F.SYN_BURN_CFG_SRC b), s.get (F.SYN_BURN_CFG_R b), s.get (F.SYN_BURN_CFG_N b), s.get (F.SYN_BURN_CFG_F b),
    s.get (F.SYN_BURN_CFG_P b), s.get (F.SYN_BURN_CFG_BW b), s.get (F.SYN_BURN_CFG_NCO_PER b)]

/-- Some output fed by the Burnisher is not STOPPED. -/
def feedsRunning (s : State) (b : Nat) : Bool := outs.any (fun o => s.feeds b o && s.outState o ≠ 0)

/-- The Burnisher feeds a pair-shared output (R206). -/
def feedsPaired (s : State) (b : Nat) : Bool := outs.any (fun o => bitOf s.syn.paired o && s.feeds b o)

/-- A strobe accepts a Burnisher's configuration (R204, R206, R208). -/
def burnCfgOk (s : State) (b : Nat) : Bool :=
  let src := s.view (F.SYN_BURN_CFG_SRC b)
  let n := s.view (F.SYN_BURN_CFG_N b)
  let per := s.view (F.SYN_BURN_CFG_NCO_PER b)
  let changes := s.planView b ≠ s.planLive b || s.view (F.SYN_BURN_CFG_RELOCK b) = 1 ||
    (s.on (F.SYN_BURN_CFG_EN b) && s.view (F.SYN_BURN_CFG_EN b) = 0)
  src < 26 && (src = s.get (F.SYN_BURN_CFG_SRC b) || bitOf ((alGet s.syn.burnSrc b).getD 0) src) &&
    (src = 24 || !s.feedsPaired b) && s.view (F.SYN_BURN_CFG_R b) ≠ 0 && decide (20 ≤ n ∧ n ≤ 1550000) &&
    (s.view (F.SYN_BURN_CFG_F b) = 0 || decide (24 ≤ n)) && decide (8 * 2 ^ 32 ≤ per ∧ per ≤ 1000 * 2 ^ 32) &&
    !(changes && s.feedsRunning b)

/-- A Burnisher's accepted configuration is live: `was` is its EN before, `changed` whether the plan changed or RELOCK was
carried (R208). The domain must be up (R456). -/
def burnLive (s : State) (b : Nat) (was changed : Bool) : State :=
  let en := s.on (F.SYN_BURN_CFG_EN b) && s.pdUp (15 + b)
  if !en then (if was then s.burnTo b 0 else s)
  else if s.burnState b = 0 then s.burnSearch b
  else if changed && s.burnState b ≠ 1 then s.burnSearch b
  else s

/-- A pair-shared clock is fed by a Burnisher on its NCO (R206). -/
def pairFeed (s : State) (o b : Nat) (clock : Bool) : Bool :=
  !bitOf s.syn.paired o || !clock || s.view (F.SYN_BURN_CFG_SRC b) = 24

/-- A strobe accepts an output's configuration (R206, R215, R220, R221). -/
def outCfgOk (s : State) (o : Nat) : Bool :=
  if o < 16 then
    s.pairFeed o (s.view (F.OUT_F_CFG_BURN o)) true &&
    (let changed := s.view (F.OUT_F_CFG_FORMAT o) ≠ s.get (F.OUT_F_CFG_FORMAT o) ||
      s.view (F.OUT_F_CFG_BURN o) ≠ s.get (F.OUT_F_CFG_BURN o) || s.view (F.OUT_F_CFG_DIV o) ≠ s.get (F.OUT_F_CFG_DIV o)
    s.view (F.OUT_F_CFG_FORMAT o) < 6 && s.view (F.OUT_F_CFG_DIV o) ≠ 0 &&
      (s.view (F.OUT_F_CFG_BURN o) = s.get (F.OUT_F_CFG_BURN o) || bitOf ((alGet s.syn.outBurn o).getD 0) (s.view (F.OUT_F_CFG_BURN o))) &&
      (!changed || (s.outState o = 0 && s.view (F.OUT_F_CFG_RUN o) = 0)))
  else
    let g := o - 16
    let w := s.view (F.OUT_G_CFG_WIDTH g)
    let changed := s.view (F.OUT_G_CFG_FORMAT g) ≠ s.get (F.OUT_G_CFG_FORMAT g) ||
      s.view (F.OUT_G_CFG_BURN g) ≠ s.get (F.OUT_G_CFG_BURN g) || s.view (F.OUT_G_CFG_DIV g) ≠ s.get (F.OUT_G_CFG_DIV g)
    s.pairFeed o (s.view (F.OUT_G_CFG_BURN g)) (s.view (F.OUT_G_CFG_MODE g) = 0) &&
      s.view (F.OUT_G_CFG_FORMAT g) ≠ 3 && s.view (F.OUT_G_CFG_MODE g) ≠ 3 && decide (2 ≤ w ∧ w ≤ 999999999) &&
      (s.view (F.OUT_G_CFG_BURN g) = s.get (F.OUT_G_CFG_BURN g) || bitOf ((alGet s.syn.outBurn o).getD 0) (s.view (F.OUT_G_CFG_BURN g))) &&
      (!changed || (s.outState o = 0 && s.view (F.OUT_G_CFG_RUN g) = 0))

/-- MODE of a Class G output changes while it is not STOPPED: PULSE and TIMECODE need no Burnisher and are ALIGNED, a clock that its
Burnisher has not started is not (R214, R218). A clock whose Burnisher is not LOCKED waits for it (DESIGN CHOICE). -/
def outModeLive (s : State) (o : Nat) : State :=
  if s.outState o = 0 then s
  else
    let s := s.setPin o ⟨(s.pin o).stopping, s.outMode o = 0, none, none, none, none, none⟩
    let s := s.set (F.OUT_ST_STATE o) (if s.outMode o = 0 && s.burnState (s.outBurnOf o) ≠ 3 then 1 else 2)
    s.setB (F.OUT_ST_ALIGNED o) (s.outMode o ≠ 0)

/-- An output's accepted configuration is live (R214); `moded`: its MODE has changed. -/
def outLive (s : State) (o : Nat) (moded : Bool) : State :=
  let s := s.set (F.OUT_ST_CFG_REFUSED o) 0
  let s := if moded then s.outModeLive o else s
  if s.outRun o then s.outStart o else s.outStopReq o

/-- SYN_SYNC_CTL at a strobe (R217): DISARM wins over ARM; both fields then read 0. -/
def syncLive (s : State) : State :=
  let arm := s.on F.SYN_SYNC_CTL_ARM
  let disarm := s.on F.SYN_SYNC_CTL_DISARM
  let s := if disarm then s.set F.SYN_SYNC_ST_ARMED 0 else if arm then s.set F.SYN_SYNC_ST_ARMED 1 else s
  (s.set F.SYN_SYNC_CTL_ARM 0).set F.SYN_SYNC_CTL_DISARM 0

/-! ## Media clock ports (R222 to R227) -/

/-- Frames per second and alignment period of a RATE. -/
def aesRate (r : Nat) : Nat := ([32000, 44100, 48000, 88200, 96000, 176400, 192000] : List Nat).getD r 48000
def aesPeriod (r : Nat) : Nat := ([3, 16, 1, 8, 1, 4, 1] : List Nat).getD r 1

/-- Rate of a port's transmission. -/
def aesFs (s : State) (m : Nat) : Nat := aesRate (s.aes m).rate

/-- One block of 192 frames at the configured rate, ns. -/
def aesBlockNs (s : State) (m : Nat) : Nat := 192 * 1000000000 / aesRate (s.get (F.OUT_AES_CFG_RATE m))

/-- The port exists: the feature and the domain (R3, R201). -/
def aesUp (s : State) (m : Nat) : Bool := m < 4 && !s.part.small && s.feat 9 && s.pdUp 21

/-- Instant of block k, 2^-16 ns: 192 frames a block. -/
def aesBlock (s : State) (m : Nat) : Nat :=
  let x := s.aes m
  x.base + x.k * 192 * 65536000000000 / s.aesFs m

/-- The next alignment instant at or after an instant in core ns (R224). -/
def aesAlign (s : State) (m t : Nat) : Nat :=
  let p := aesPeriod (s.get (F.OUT_AES_CFG_RATE m)) * 1000000000
  ceilDiv t p * p

/-- Channel status byte 4 [1:0] (R224): GRADE while the kernel is LOCKED, ANCHOR or HOLDOVER. -/
def aesGrade (s : State) (m : Nat) : Nat :=
  let st := s.get F.TSK_STAT_STATE
  if st = 2 || st = 3 || st = 4 then s.get (F.OUT_AES_CFG_GRADE m) else 0

/-- The CRCC of 23 bytes of channel status: x^8 + x^4 + x^3 + x^2 + 1 over the bits in the order sent, from all ones (PRESUMED: AES3). -/
def aesCrcc (v : Nat) : Nat :=
  (List.range 184).foldl (fun c i => if (c % 2 = 1) != bitOf v i then Nat.xor (c / 2) 0xB8 else c / 2) 0xFF

/-- Channel status of a DARS block (R224): professional, byte 4 [1:0] GRADE, bytes 18 to 21 the time-of-day sample address, byte 23 the
CRCC; the rest 0 (DESIGN CHOICE). -/
def aesStatus (grade addr : Nat) : Nat :=
  let v := pack 0 [(0, 1, 1), (4, 1, grade), (18, 4, addr)]
  v + aesCrcc v * 2 ^ 184

/-- Time-of-day sample address at an instant: frames since 00:00:00 of the tenant's scale (R224). -/
def aesAddr (s : State) (m q : Nat) : Nat :=
  let t := (s.tenantTime (s.get (F.OUT_AES_CFG_TOD_TEN m)) q).q
  ((t % (86400 * secQ)) * s.aesFs m / secQ).toNat

/-- A block is sent with its Z preamble at q (2^-16 ns), and stamped (R224, R226, R227). -/
def aesSend (s : State) (m q : Nat) (follower : Bool) : State :=
  let x := s.aes m
  let mute := follower && x.mute
  let s := ((s.set (F.OUT_AES_TXS_SHORT m) (q / 65536)).set (F.OUT_AES_TXS_FRAC m) q).add (F.OUT_AES_TXS_BLOCKS m) 1
  let b : AesBlk := if follower then ⟨x.status, 0, if mute then some 0 else none, mute⟩
    else ⟨aesStatus (s.aesGrade m) (s.aesAddr m q), 0, some 0, false⟩
  let s := s.emitOut (.aes m (q / 65536 % 2 ^ 64) (q % 65536) b)
  s.setAes m { x with k := x.k + 1, mute := s.on (F.OUT_AES_ST_NONAUDIO m) }

/-- The line is held low for one block period, or for good where MODE sends nothing (R225). -/
def aesHold (s : State) (m : Nat) : State :=
  let mode := s.get (F.OUT_AES_CFG_MODE m)
  let s := s.emitOut (.aesLow m)
  if mode = 1 || mode = 2 then s.setAes m { s.aes m with tx := 3, holdEnd := s.ns + s.aesBlockNs m }
  else (s.setAes m { s.aes m with tx := 0 }).set (F.OUT_AES_ST_MISALIGNED m) 0

/-- A strobe changes MODE or RATE, or carries REALIGN (R225): a transmitter that is sending finishes its block first, at its old
rate; one that was not holds the line at once. -/
def aesRestart (s : State) (m : Nat) : State :=
  if (s.aes m).tx = 1 || (s.aes m).tx = 2 then s.setAes m { s.aes m with tx := 2 } else s.aesHold m

/-- AES registers live after a strobe (R225): REALIGN reads 0 again. -/
def aesLive (s : State) (m : Nat) (changed : Bool) : State :=
  let re := s.on (F.OUT_AES_CFG_REALIGN m)
  let s := s.set (F.OUT_AES_CFG_REALIGN m) 0
  if s.aesUp m && (changed || re) then s.aesRestart m else s

/-! ## Forward jumps (R205, R218, R225) -/

/-- The core was moved forward by d, 2^-16 ns: NCOs, the clocks made from them and LEADER ports keep their phase, and are
MISALIGNED. -/
def synJump (s : State) (d : Nat) : State :=
  let s := [0, 1, 2, 3].foldl (fun s b =>
    let s := s.setBurn b { s.burn b with shift := (s.burn b).shift + d }
    if s.burnState b ≠ 0 then
      let s := s.set (F.SYN_BURN_ST_MISALIGNED b) 1
      if s.get (F.SYN_BURN_CFG_SRC b) = 24 then s.unalign b else s
    else s) s
  let s := { s with syn := { s.syn with pins := s.syn.pins.map (fun p => (p.1, { p.2 with phase := p.2.phase.map (· + (d : Rat) / 65536) })) } }
  [0, 1, 2, 3].foldl (fun s m =>
    let x := s.aes m
    if x.lead && (x.tx = 1 || x.tx = 2) then (s.set (F.OUT_AES_ST_MISALIGNED m) 1).setAes m { x with base := x.base + d }
    else s) s

/-! ## Class G edges (R220, R221) -/

/-- The instant of a scheduled edge in core ns and ps, rounded to 2 ps, with the output's delay. -/
def edgeAt (s : State) (g ns frac : Nat) : Nat × Nat :=
  let ps : Rat := (frac : Rat) * 1000 / 65536 + (s.getI (F.OUT_G_DLY_DLY g) : Rat)
  let q := 2 * roundRat (ps / 2)
  let total : Int := (ns : Int) * 1000 + q
  ((total / 1000).toNat, (total % 1000).toNat)

/-- The first rising (`half` false) or falling edge of an output's clock at or after t; the falling edge lies half a period on
(PRESUMED: a 50 % duty). -/
def clockEdge (s : State) (o : Nat) (t : Nat × Nat) (half : Bool) : Nat × Nat :=
  match (s.pin o).phase with
  | some e =>
    let per := s.outPeriod o
    nsps (gridAfter (if half then e + per / 2 else e) per ((t.1 : Rat) + (t.2 : Rat) / 1000))
  | none => t

/-- A GOUT_EDGE action (R220): kind 0 ACTIVE, 1 INACTIVE, 2 PULSE, its edge at instant t in core ns and ps. The gate of a clock opens at
a rising edge and closes at a falling one. -/
def goutEdge (s : State) (g kind : Nat) (t : Nat × Nat) : State :=
  let o := 16 + g
  if s.outState o ≠ 2 then s
  else
    let mode := s.outMode o
    let x := s.pin o
    if mode = 0 then
      if kind = 0 && !x.active then
        let e := s.clockEdge o t false
        (s.setPin o { x with active := true, lastEdge := some e.1 }).gEdge o true e
      else if kind = 1 && x.active then (s.setPin o { x with active := false }).gEdge o false (s.clockEdge o t true)
      else s
    else if mode = 1 then
      if kind = 0 then (s.setPin o { x with active := true, pulseEnd := none, lastEdge := some t.1 }).gEdge o true t
      else if kind = 1 then (s.setPin o { x with active := false, pulseEnd := none }).gEdge o false t
      else
        let fin := (t.1 + s.get (F.OUT_G_CFG_WIDTH g), t.2)
        if x.pulseEnd.isSome then
          -- extended from the new epoch
          (((s.setPin o { x with pulseEnd := some fin }).add (F.OUT_ST_OVERLAP o) 1).count (0x34F + g))
        else (s.setPin o { x with active := true, pulseEnd := some fin, lastEdge := some t.1 }).gEdge o true t
    else s

/-- The instant in the scale of a TIMECODE output, 2^-16 ns, and whether it lies in a positive leap second (R220). -/
def tcScale (s : State) (g q : Nat) : ScaleTime :=
  if s.prov then ⟨q, false, false⟩
  else match s.get (F.OUT_G_CFG_SCALE g) with
    | 0 => utcScale s.tsk.leap q
    | 1 => ⟨q, false, false⟩
    | 2 => ⟨(q : Int) - 19 * secQ, false, false⟩
    | _ => s.tenantTime (s.get (F.OUT_G_CFG_OWNER g)) q

/-- The number of 10 ms boundaries of the scale up to an instant. Inside a positive leap second, where the scale's count is
held (R68), TAI carries it on. -/
def tcIndex (s : State) (g q : Nat) : Int :=
  let t := s.tcScale g q
  if t.leap60 then t.q / 655360000000 + 1 + (q : Int) % secQ / 655360000000 else t.q / 655360000000

/-- Core ns of the first cycle after the present one in which the count has changed; the scales advance within a smear's rate
of the core, which a few rounds make up. -/
def tcNext : Nat → State → Nat → Nat → Nat
  | 0, _, _, t => t
  | n + 1, s, g, t =>
    let q := t * 65536
    let r := 655360000000 - (s.tcScale g q).q % 655360000000
    if s.tcIndex g s.q16 ≠ s.tcIndex g q then t else tcNext n s g (t + max 1 (r.toNat / 65536))

/-- Bit k of a BCD digit pair, units in the low digit. -/
def bcdBit (v k : Nat) : Bool := if k < 4 then bitOf (v % 10) k else bitOf (v / 10 % 10) (k - 4)

/-- IRIG-B element e (0 to 99) of a second: 0, 1, or 2 for a marker, in format B00x: bit 0 to 7 of the coded expressions of
IRIG 200, with control functions 0 (R220). -/
def irigElem (fmt e sec min hour doy year sod : Nat) : Nat :=
  let b (x : Bool) : Nat := if x then 1 else 0
  let yr := 4 ≤ fmt
  let sbs := fmt = 0 || fmt = 3 || fmt = 4 || fmt = 7
  if e = 0 ∨ e % 10 = 9 then 2
  else if 1 ≤ e ∧ e ≤ 4 then b (bitOf (sec % 10) (e - 1))
  else if 6 ≤ e ∧ e ≤ 8 then b (bitOf (sec / 10) (e - 6))
  else if 10 ≤ e ∧ e ≤ 13 then b (bitOf (min % 10) (e - 10))
  else if 15 ≤ e ∧ e ≤ 17 then b (bitOf (min / 10) (e - 15))
  else if 20 ≤ e ∧ e ≤ 23 then b (bitOf (hour % 10) (e - 20))
  else if 25 ≤ e ∧ e ≤ 26 then b (bitOf (hour / 10) (e - 25))
  else if 30 ≤ e ∧ e ≤ 33 then b (bitOf (doy % 10) (e - 30))
  else if 35 ≤ e ∧ e ≤ 38 then b (bitOf (doy / 10 % 10) (e - 35))
  else if 40 ≤ e ∧ e ≤ 41 then b (bitOf (doy / 100) (e - 40))
  else if yr ∧ 50 ≤ e ∧ e ≤ 53 then b (bitOf (year % 10) (e - 50))
  else if yr ∧ 55 ≤ e ∧ e ≤ 58 then b (bitOf (year / 10 % 10) (e - 55))
  else if sbs ∧ 80 ≤ e ∧ e ≤ 88 then b (bitOf sod (e - 80))
  else if sbs ∧ 90 ≤ e ∧ e ≤ 97 then b (bitOf sod (e - 81))
  else 0

/-- A TIMECODE output sends the element of the 10 ms boundary just reached. The frame starts at the first whole second after
the start (R220). -/
def tcSend (s : State) (g : Nat) : State :=
  let o := 16 + g
  let i := s.tcIndex g s.q16
  let e := (i % 100).toNat
  let x := s.pin o
  let due := match x.tc with
    | some j => decide (j ≠ i)
    | none => e = 0
  if due then
    let t := s.tcScale g s.q16
    let sec := t.q / secQ
    let sod := (sec % 86400).toNat
    let (y, m, d) := civilOf (sec / 86400)
    let doy := (daysOf y.toNat m d - daysOf y.toNat 1 1).toNat + 1
    let el := irigElem (s.get (F.OUT_G_CFG_IRIG g)) e (if t.leap60 then 60 else sod % 60) (sod / 60 % 60) (sod / 3600) doy
      (y.toNat % 100) sod
    (s.setPin o { x with tc := some i, lastEdge := some s.ns }).padOut o (.timecode o el)
  else s

/-! ## Time-of-day outputs (R347) -/

/-- A ToD output slot's own state. -/
def todOut (s : State) (i : Nat) : TodOutSt := (alGet s.refin.todOuts i).getD ⟨none, none⟩

/-- The state with a ToD output slot's own state replaced. -/
def setTodOut (s : State) (i : Nat) (x : TodOutSt) : State :=
  { s with refin := { s.refin with todOuts := alSet s.refin.todOuts i x } }

/-- The record that names an edge (bytes 0 to 17 of the ToD record table); QUAL is a free value. -/
def todOutRecord (s : State) (i edge : Nat) : Nat × State :=
  let q := edge * 65536
  let sc := s.get (F.REF_TODOUT_CFG_SCALE i)
  let t := if s.prov then (q : Int) else if sc = 0 then (utcScale s.tsk.leap q).q else if sc = 1 then (q : Int) else q - 19 * secQ
  let utc := (utcScale s.tsk.leap q).q / secQ / 86400
  let day := (utc + 40587).toNat
  let leap := if leapAtEnd s.tsk.leap day false then 1 else if leapAtEnd s.tsk.leap day true then 2 else 0
  let (qual, s) := s.freeNat
  let flags := (if s.prov then 0 else 1) + (if s.get F.TSK_STAT_STATE = 3 then 2 else 0)
  (pack 0 [(0, 6, ofSigned 48 (roundRat ((t : Rat) / secQ))), (6, 1, sc), (7, 1, flags),
    (8, 2, ofSigned 16 (taiUtc s.tsk.leap (q / secQ))), (10, 1, leap), (11, 1, qual),
    (12, 4, s.get F.TSK_TEB_FLOAT_BOUND), (16, 2, s.get F.TSK_TEB_SRC_TAG)], s)

/-- The edge of the output that slot i names, if it has one not yet requested. The edges of a CLOCK output are those of its
clock, given by the event. -/
def todEdge (s : State) (i clk : Nat) : Option Nat :=
  let o := 16 + s.get (F.REF_TODOUT_CFG_GOUT i)
  let e := if s.outState o ≠ 2 then none
    else if s.outMode o = 0 then (if (s.pin o).active then some clk else none) else (s.pin o).lastEdge
  match e with
  | some t => if (s.todOut i).req = some t then none else some t
  | none => none

end State

/-! ## Burnishers -/

/-- BURN_SEARCH_DONE (R207): the attempt of Burnisher b ends; `pfd` is the measured PFD frequency in Hz, none for a reference
absent (not used for the NCO), and `band` the band found. -/
def execBurnSearchDone (b : Nat) (pfd : Option Nat) (band : Nat) (s : State) : Host.Outcome State Fault Refusal :=
  .next (
    if b < 4 && s.burnState b = 1 then
      match s.pfdHz b pfd with
      | none => s.burnBypass b 2
      | some f =>
        let s := (s.set (F.SYN_BURN_ST_PFD_KHZ b) (satN 16 (f / 1000).floor.toNat)).setBurn b { s.burn b with pfd := f }
        if s.planErr b f then s.burnBypass b 1
        else (s.set (F.SYN_BURN_ST_BAND b) band).burnTo b 2
    else s)

/-- BURN_LOCK_DECLARED (R208): the phase error has stayed below LOCK_THR / 1,024 of a PFD period for 64 cycles, and is `err` ps. -/
def execBurnLockDeclared (b : Nat) (err : Int) (s : State) : Host.Outcome State Fault Refusal :=
  .next (if b < 4 && s.burnState b = 2 && decide (s.errShare b err < s.get (F.SYN_BURN_ANA_LOCK_THR b)) then
      (s.setI (F.SYN_BURN_ST_PH_ERR b) (satI 16 err)).burnTo b 3 else s)

/-- BURN_ACQ_TIMEOUT (R208): no lock within 100 ms. -/
def execBurnAcqTimeout (b : Nat) (s : State) : Host.Outcome State Fault Refusal :=
  .next (if b < 4 && s.burnState b = 2 then (s.runTo ((s.burn b).since + 100000000)).burnBypass b 3 else s)

/-- BURN_REF_LOST (R208). -/
def execBurnRefLost (b : Nat) (s : State) : Host.Outcome State Fault Refusal :=
  .next (if b < 4 && (s.burnState b = 2 || s.burnState b = 3) then s.burnBypass b 0 else s)

/-- BURN_LOCK_LOST (R208): the phase error has exceeded UNLOCK_THR / 1,024 of a PFD period for 16 cycles, and is `err` ps. -/
def execBurnLockLost (b : Nat) (err : Int) (s : State) : Host.Outcome State Fault Refusal :=
  .next (if b < 4 && s.burnState b = 3 && decide ((s.get (F.SYN_BURN_ANA_UNLOCK_THR b) : Rat) < s.errShare b err) then
      (s.setI (F.SYN_BURN_ST_PH_ERR b) (satI 16 err)).burnBypass b 0 else s)

/-- BURN_SOURCE_RETURN (R208, R209): the source is present, at least 1 s after entry to BYPASS. -/
def execBurnSourceReturn (b : Nat) (s : State) : Host.Outcome State Fault Refusal :=
  .next (
    if b < 4 && s.burnState b = 4 then
      let s := s.runTo (s.burnReturnAt b)
      if s.burnPresent b then s.burnSearch b else s
    else s)

/-- BYPASS_CLOCK_LOST (R210): outputs on the bypass clock hold their inactive level. -/
def execBypassClockLost (s : State) : Host.Outcome State Fault Refusal :=
  .next (
    let s := s.set F.SYN_BYP_ST_BYP_LOS 1
    State.outs.foldl (fun s o => if s.outState o = 3 then s.outBypassed o else s) s)

/-- BYPASS_CLOCK_RETURN (R210). -/
def execBypassClockReturn (s : State) : Host.Outcome State Fault Refusal :=
  .next (
    let s := { s.set F.SYN_BYP_ST_BYP_LOS 0 with syn := { s.syn with bypAt := s.ns } }
    State.outs.foldl (fun s o => if s.outState o = 3 then s.outBypassed o else s) s)

/-! ## Outputs -/

/-- OUTPUT_STOP (R214): the next inactive edge of an output that is to stop. -/
def execOutputStop (o : Nat) (s : State) : Host.Outcome State Fault Refusal :=
  .next (if o < 24 && (s.pin o).stopping then s.outStopped o else s)

/-- OUTPUT_RETURN (R211): the restart at S − 64 ns, S the first whole second after the Burnisher has been LOCKED for 10 ms. An output on
the bypass clock stops at its last inactive edge before it; one that is to stop stays stopped. -/
def execOutputReturn (o : Nat) (s : State) : Host.Outcome State Fault Refusal :=
  .next (
    let b := s.outBurnOf o
    if o < 24 && s.outMode o = 0 && (s.outState o = 1 || s.outState o = 3) && s.burnState b = 3 then
      let sec := ceilDiv ((s.burn b).since + 10000000) 1000000000 * 1000000000
      let s := s.runTo (sec - 64)
      if (s.pin o).stopping then s.outStopped o
      else (if s.outState o = 3 then s.outHold o else s).outStartAt o sec
    else s)

/-- SYNCIN_EDGE (R216, R217): a qualified edge. An output that started in this very cycle starts once; one that is to stop is not
restarted. -/
def execSyncinEdge (s : State) : Host.Outcome State Fault Refusal :=
  .next (
    if s.on F.SYN_SYNC_ST_ARMED then
      let mask := s.get F.SYN_SYNC_CTL_MASK
      let s := (((s.set F.SYN_SYNC_ST_ARMED 0).add F.SYN_SYNC_ST_FIRED 1).set F.SYN_SYNC_ST_LAST s.short).count 0x349
      let s := { s with syn := { s.syn with sync := some (s.time.cyc, mask) } }
      State.outs.foldl (fun s o =>
        if bitOf mask o && s.outState o = 2 && s.outMode o = 0 then
          let s := if (s.pin o).stopping || (s.pin o).startCyc = some s.time.cyc then s else s.outStartAt o (s.ns + 64)
          s.set (F.OUT_ST_ALIGNED o) 0
        else s) s
    else (s.addSat F.SYN_SYNC_ST_IGNORED 1).count 0x34A)

/-- PULSE_END (R220). -/
def execPulseEnd (g : Nat) (s : State) : Host.Outcome State Fault Refusal :=
  .next (match (s.pin (16 + g)).pulseEnd with
    | some t =>
      if g < 8 then
        let s := s.runTo t.1
        (s.setPin (16 + g) { s.pin (16 + g) with active := false, pulseEnd := none }).gEdge (16 + g) false t
      else s
    | none => s)

/-- TIMECODE_ELEMENT (R220): core time is carried to the next 10 ms boundary of the output's scale. -/
def execTimecodeElement (g : Nat) (s : State) : Host.Outcome State Fault Refusal :=
  .next (
    if g < 8 && s.time.running && s.outMode (16 + g) = 2 && s.outState (16 + g) = 2 then
      (s.runTo (State.tcNext 8 s g s.ns)).tcSend g
    else s)

/-! ## Media clock ports -/

/-- AES_RX_Z_PREAMBLE (R226, R227): a received block begins at the present reading; `status` are the 24 bytes of its channel status,
`ppb` the averaged rate. -/
def execAesRxZPreamble (m status : Nat) (ppb : Int) (s : State) : Host.Outcome State Fault Refusal :=
  .next (
    if s.aesUp m && s.get (F.OUT_AES_CFG_MODE m) ≠ 0 then
      let s := ((s.set (F.OUT_AES_RXS_SHORT m) s.short).set (F.OUT_AES_RXS_FRAC m) s.frac).add (F.OUT_AES_RXS_BLOCKS m) 1
      let s := s.setI (F.OUT_AES_ST_RX_PPB m) (satI 32 ppb)
      let x : AesSt := { s.aes m with status := status % 2 ^ 192 }
      if bitOf status 1 then (s.set (F.OUT_AES_ST_NONAUDIO m) 1).setAes m { x with clear := 0 }
      else
        let s := s.setAes m { x with clear := min 2 (x.clear + 1) }
        if 1 ≤ x.clear then s.set (F.OUT_AES_ST_NONAUDIO m) 0 else s
    else s)

/-- AES_RX_LOCK_CHANGE (R226): the receiver locks to a rate, or loses lock. -/
def execAesRxLockChange (m : Nat) (rate : Option Nat) (s : State) : Host.Outcome State Fault Refusal :=
  .next (
    if s.aesUp m && s.get (F.OUT_AES_CFG_MODE m) ≠ 0 then
      match rate with
      | some r => (s.set (F.OUT_AES_ST_RXLOCK m) 1).set (F.OUT_AES_ST_RX_RATE m) (min r 6)
      | none => (s.set (F.OUT_AES_ST_RXLOCK m) 0).set (F.OUT_AES_ST_RX_RATE m) 7
    else s)

/-- AES_TX_BLOCK (R223 to R225): a transmitter begins a block, or ends its last one before a restart. A LEADER's instants are its own;
a FOLLOWER sends at the present reading, `fill` being the fill its buffer would reach. -/
def execAesTxBlock (m fill : Nat) (s : State) : Host.Outcome State Fault Refusal :=
  .next (
    if s.aesUp m && s.time.running then
      let x := s.aes m
      let q := s.aesBlock m
      match x.tx, x.lead with
      | 1, true => (s.runTo (q / 65536)).aesSend m q false
      | 2, true => (s.runTo (q / 65536)).aesHold m
      | 2, false => s.aesHold m
      | 1, false =>
        let slip := fill = 0 || 128 ≤ fill
        let s := s.set (F.OUT_AES_ST_FILL m) (if fill = 0 then 1 else if 128 ≤ fill then 127 else fill)
        let s := if slip then (s.add (F.OUT_AES_ST_SLIP m) 1).count (0x34B + m) else s
        s.aesSend m s.q16 true
      | _, _ => s
    else s)

/-- AES_RESUME (R225): after the hold, a LEADER resumes at the next alignment instant; a FOLLOWER, whose blocks have none, with the next
block it is given (DEDUCED). -/
def execAesResume (m : Nat) (s : State) : Host.Outcome State Fault Refusal :=
  .next (
    let x := s.aes m
    let mode := s.get (F.OUT_AES_CFG_MODE m)
    if s.aesUp m && s.time.running && x.tx = 3 then
      let x := { x with tx := 1, lead := decide (mode = 1), rate := s.get (F.OUT_AES_CFG_RATE m), k := 0 }
      if mode = 1 then
        let a := s.aesAlign m (max x.holdEnd s.ns)
        let s := (s.runTo a).set (F.OUT_AES_ST_MISALIGNED m) 0
        (s.setAes m { x with base := a * 65536 }).aesSend m (a * 65536) false
      else if mode = 2 then ((s.runTo x.holdEnd).set (F.OUT_AES_ST_MISALIGNED m) 0).setAes m x
      else s
    else s)

/-! ## Time-of-day outputs -/

/-- TOD_OUT_REQ (R347): at an edge of its Class G output, REF asks engine 10 for slot i's message. `clk` is the edge of a
CLOCK output, core ns. The message of a REFERS = 1 slot names the edge one second later. -/
def execTodOutReq (i clk : Nat) (s : State) : Host.Outcome State Fault Refusal :=
  .next (
    if i < 4 && bitOf (s.get (F.REF_TODOUT_CFG_UART i)) 0 then
      match s.todEdge i clk with
      | some t =>
        let named := if s.on (F.REF_TODOUT_CFG_REFERS i) then t + 1000000000 else t
        let (r, s) := s.todOutRecord i named
        let s := s.setTodOut i { s.todOut i with req := some t }
        s.cellTo 10 ⟨2, 22, pack 0 [(0, 1, i), (1, 1, s.get (F.REF_TODOUT_CFG_ASCII i)), (4, 18, r)]⟩
      | none => s
    else s)

/-- TOD_OUT_CELL (R347): a message for slot i is taken for sending, or dropped as late. REFERS = 0 sends it 10 ms after the
edge; REFERS = 1 so that it ends 10 ms before the next. -/
def execTodOutCell (s : State) : Host.Outcome State Fault Refusal :=
  .next (match s.takeCell 10 4 with
    | some (c, s) =>
      let i := State.cellBytes c.bytes 0 1 % 4
      let n := State.cellBytes c.bytes 1 1
      let x := s.todOut i
      match x.req with
      | some t =>
        let at_ := if s.on (F.REF_TODOUT_CFG_REFERS i) then
            t + 1000000000 - 10000000 - n * State.charNs (s.get (F.REF_TODOUT_CFG_UART i))
          else t + 10000000
        if at_ < s.ns then s.add (F.ENG_LOST_TOD_LATE 10) 1
        else s.setTodOut i { x with msg := some (n, State.cellBytes c.bytes 4 n, at_) }
      | none => s.add (F.ENG_LOST_TOD_LATE 10) 1
    | none => s)

/-- TODOUT_SEND (R347): at its send instant the message goes out. -/
def execTodoutSend (i : Nat) (s : State) : Host.Outcome State Fault Refusal :=
  .next (match (s.todOut i).msg with
    | some (n, v, at_) =>
      if i < 4 && bitOf (s.get (F.REF_TODOUT_CFG_UART i)) 0 then
        let s := s.runTo at_
        (s.setTodOut i { s.todOut i with msg := none }).emitOut (.todOut i n v)
      else s
    | none => s)

end Sys2Proof.Machine
end

