-- ==== Sys2Proof/Machine/Image.lean ====
section
/-!
DEFINITION. Sys2Proof/Machine/Image.lean: the structure image: its checks (R321 to R326, R329), what each section makes live,
regions, generations and switches (R330 to R333).
-/

namespace Sys2Proof.Machine

/-! ## Codes of STR_LOAD_ST -/

abbrev lOk : Nat := 1
abbrev lBadMagic : Nat := 2
abbrev lBadFormat : Nat := 3
abbrev lCrcErr : Nat := 4
abbrev lBadSig : Nat := 5
abbrev lFeature : Nat := 6
abbrev lRegionAbsent : Nat := 7
abbrev lBadSection : Nat := 8
abbrev lGenOld : Nat := 9
abbrev lNotPartial : Nat := 10
abbrev lBusy : Nat := 11
abbrev lReadErr : Nat := 12
abbrev lIncomplete : Nat := 13
abbrev lUnavailable : Nat := 14

/-- The header's MAGIC "CSPI", little-endian (R321). -/
def magicImage : Nat := 0x49505343

/-- A region the part has (R324). -/
def regionPresent (p : Part) (r : Nat) : Bool := r < 24 && !(p.small && ((4 ≤ r && r ≤ 7) || r = 17))

/-- The TYPE that a payload's layout belongs to; 0 for none (R323). -/
def payType : SectPay → Nat
  | .empty => 0x0001
  | .xbar .. => 0x0002
  | .synPlan .. => 0x0003
  | .outMap .. => 0x0004
  | .prog _ => 0x0010
  | .vaultProg _ => 0x0011
  | .tenants _ => 0x0020
  | .clientLayout .. => 0x0021
  | .portProfile _ => 0x0030
  | .holdover .. => 0x0040
  | .schedLocked _ => 0x0041
  | .regDefaults _ => 0x0050
  | .updGroups _ => 0x0051
  | .malformed => 0

/-- A section type is permitted in a region (the section type table). -/
def typeIn (typ r : Nat) : Bool :=
  match typ with
  | 0x0001 => r < 24
  | 0x0002 => r = 13
  | 0x0003 => r = 14
  | 0x0004 => r = 15 || r = 16 || r = 17
  | 0x0010 => r ≤ 12
  | 0x0011 => r = 23
  | 0x0020 => r = 19
  | 0x0021 => r = 20
  | 0x0030 => r = 21
  | 0x0040 => r = 18
  | 0x0041 => r = 11
  | 0x0050 => r < 24
  | 0x0051 => r = 22
  | _ => false

/-- The region of an engine (R334). -/
def engRegion (e : Nat) : Nat :=
  if e < 8 then e else if e < 10 then 8 else if e < 12 then 9 else if e < 14 then 10 else if e = 14 then 11
  else if e < 17 then 12 else 23

/-- The engines of a region. -/
def regionEngines (r : Nat) : List Nat := (List.range 17).filter (fun e => engRegion e = r)

/-- A program as R323, R337 and R339 allow it. -/
def progOk (r : Nat) (p : ProgIn) : Bool :=
  let fb := bitsOf p.budget 20 8
  let tb := bitsOf p.budget 0 20
  p.engine < 17 && engRegion p.engine = r && p.imemLen ≤ 8192 && p.imemLen % 4 = 0 && p.words.length = p.imemLen / 4
    && p.data.length ≤ 16384 && p.entry < p.imemLen / 4 && p.rsv = 0 && 1 ≤ tb && tb ≤ 1000000 && p.budget < 2 ^ 28
    && (if p.engine < 8 then 16 ≤ fb else fb = 0)

/-- An address of a register default: block prefix index and offset. -/
def defaultAddr (d : Nat × Nat × Nat) : Nat := d.1 * 0x100000 + d.2.1

/-- A section's payload holds values its region allows on the part. -/
def payOk (part : Part) (r : Nat) : SectPay → Bool
  | .prog p => progOk r p
  | .vaultProg ok => ok
  | .xbar src burn ap => src.all (fun x => x.1 < 16 && (x.2 < 24 || x.2 = 31)) &&
      src.all (fun x => x.2 = 31 || src.all (fun y => y.1 = x.1 || y.2 ≠ x.2)) && burn.all (fun x => x.1 < 4) &&
      ap.all (fun x => x.1 < 4 && 1 ≤ x.2 && x.2 < 8)
  | .synPlan hz byp _ burn => decide (10000000 ≤ hz) && decide (hz ≤ 125000000) && byp < 2 && burn.all (fun x => x.1 < 4)
  | .outMap burn _ => burn.all (fun x =>
      (if r = 15 then x.1 < 16 else if r = 16 then 16 ≤ x.1 && x.1 < 24 else 24 ≤ x.1 && x.1 < 28) && x.2 < 16)
  | .tenants rows => rows.all (fun t => t.tenant < 1024 && t.fn < 1024 && t.ports < 256)
  | .clientLayout _ q => q.all (fun x => x.1 < 1024)
  | .portProfile rows => rows.all (fun p => p.port < 8 && !(part.small && 4 ≤ p.port) && p.lcPer < 2 ^ 20 && p.buckets.all (fun b => b < 256))
  | .holdover cls clk f m => cls.length = 8 && clk.length = 7 && clk.all (fun c => c < 8) && f < 8 && m < 8
  | .schedLocked es => es.all (fun x => x.1 < 4096 && State.argOk part x.2.action x.2.arg && x.2.locked && x.2.policy < 3)
  | .regDefaults l => l.all (fun d => d.1 < 15 && d.2.1 < 0x40000 && (findReg (defaultAddr d)).isSome)
  | .updGroups l => l.all (fun x => x.1 < 15 && x.2 < 8)
  | .empty => true
  | .malformed => false

namespace State

/-! ## Checking an image (R326) -/

/-- Step 4 of R326 for a section, with the sections before it: the code of the first failure. -/
def sectCheck (s : State) (before : List Section) (x : Section) : Nat :=
  if !x.crcOk then lCrcErr
  else if x.region < 24 && !regionPresent s.part x.region then lRegionAbsent
  else if payType x.pay ≠ x.typ || x.typ = 0 || x.rsv ≠ 0 || !typeIn x.typ x.region || !payOk s.part x.region x.pay
      || before.any (fun y => y.region = x.region && y.gen ≠ x.gen) then lBadSection
  else lOk

/-- The first section that fails, with its index. -/
def sectScan (s : State) : List Section → List Section → Nat → Nat × Nat
  | [], _, _ => (lOk, 0)
  | x :: t, before, i =>
    let c := s.sectCheck before x
    if c ≠ lOk then (c, i) else sectScan s t (x :: before) (i + 1)

/-- The features that an image requires, with those that its capacities need (R369): the capacity that holds with a bit
declined is the part's own (R7), so that an SPR-A932, which does not offer bits 1 and 2, never requires them. -/
def imageReq (part : Part) (img : Image) : Nat :=
  let tenants := if part.small then 256 else 64
  let clients := if part.small then 2097152 else 1048576
  let big := img.sections.any (fun x => match x.pay with
    | .tenants rows => rows.any (fun t => tenants ≤ t.tenant || tenants ≤ t.fn)
    | _ => false)
  let wide := img.sections.any (fun x => match x.pay with
    | .clientLayout c _ => clients < c
    | _ => false)
  img.reqFeat ||| (if big then 2 else 0) ||| (if wide then 4 else 0)

/-- The features the part offers (R7, R368); BASE alone in NO_IMAGE (R370). -/
def offered (s : State) : Nat :=
  if s.get F.STR_STAT_STATE = 2 then 1 else if s.part.small then 0x3FFFF - 2 - 4 - 512 else 0x3FFFF

/-- What the part can offer with an image (R326 step 3). -/
def canOffer (s : State) : Nat := if s.part.small then 0x3FFFF - 2 - 4 - 512 else 0x3FFFF

/-- The Burnishers that the image lets an output or port use. -/
def mapOf (img : Image) : List (Nat × Nat) :=
  img.sections.flatMap (fun x => match x.pay with | .outMap b _ => b | _ => [])

/-- The pair-shared outputs of an image. -/
def pairedOf (img : Image) : Nat :=
  img.sections.foldl (fun a x => match x.pay with | .outMap _ p => a ||| p | _ => a) 0

/-- The SRC of a Burnisher under an image: what its REG_DEFAULTS set; else, for a partial image, the live register, and for a
full one the register's reset value (R206, R329). -/
def imageSrc (s : State) (img : Image) (b : Nat) : Nat :=
  let a := (F.SYN_BURN_CFG_SRC b).a
  let l := img.sections.flatMap (fun x => match x.pay with | .regDefaults l => l | _ => [])
  match l.reverse.find? (fun d => defaultAddr d = a) with
  | some d => bitsOf d.2.2 1 5
  | none => if img.partial_ then s.get (F.SYN_BURN_CFG_SRC b) else 24

/-- The programs that an image carries for an engine. -/
def progCount (img : Image) (e : Nat) : Nat :=
  img.sections.countP (fun x => match x.pay with | .prog p => p.engine = e | _ => false)

/-- A partial image that targets region 8 or 9 carries one program for each engine of the region (R335). -/
def bothPrograms (img : Image) (r : Nat) : Bool :=
  !img.sections.any (fun x => x.region = r) || (regionEngines r).all (fun e => progCount img e = 1)

/-- Step 7 of R326: the rule of R206, both programs of regions 8 and 9 (R335), and the limits of the SPR-A932 (R2). -/
def crossOk (s : State) (img : Image) : Bool :=
  let m := mapOf img
  let pr := pairedOf img
  let ncoOk := m.all (fun x => !bitOf pr x.1 || [0, 1, 2, 3].all (fun b => !bitOf x.2 b || s.imageSrc img b = 24))
  let small := !s.part.small || img.sections.all (fun x => match x.pay with
    | .tenants rows => rows.all (fun t => t.tenant < 256 && t.fn < 256)
    | .clientLayout c _ => c ≤ 2097152
    | _ => true)
  ncoOk && (!img.partial_ || (bothPrograms img 8 && bothPrograms img 9)) && small

/-- Every region of the part has a section (R326 step 6). -/
def complete (s : State) (img : Image) : Bool :=
  (List.range 24).all (fun r => !regionPresent s.part r || img.sections.any (fun x => x.region = r))

/-- Step 8 of R326 for the sections of a partial image: the first failure with its index. -/
def partialScan (s : State) : List Section → Nat → Nat × Nat
  | [], _ => (lOk, 0)
  | x :: t, i =>
    if x.region = 22 || x.region = 23 then (lNotPartial, i)
    else if x.gen ≤ s.get (F.STR_REGION_GEN x.region) then (lGenOld, i)
    else if s.get (F.STR_REGION_STATE x.region) = 2 then (lBusy, i)
    else partialScan s t (i + 1)

/-- The checks of R326 in order: the code, and the section index or 0xFFFF. `len` is the length a push named, `vaultOk` whether
the vault engine answers within 100 ms. -/
def checkImage (s : State) (img : Image) (len : Option Nat) (vaultOk : Bool) : Nat × Nat :=
  let sig := if s.provisioned then img.sigOwner else img.sigFactory
  if img.magic ≠ magicImage then (lBadMagic, 0xFFFF)
  else if img.format ≠ 1 || img.family ≠ 0xA960 || img.totalLen < 148 || 8388608 < img.totalLen
      || len.any (fun n => n ≠ img.totalLen) || img.sections.length < 1 || 4096 < img.sections.length || img.rsv ≠ 0
      || !img.layoutOk then (lBadFormat, 0xFFFF)
  else if !img.hdrCrcOk then (lCrcErr, 0xFFFF)
  else if (img.reqFeat &&& s.canOffer) ≠ img.reqFeat then (lFeature, 0xFFFF)
  else if img.partial_ && !s.feat 15 then (lFeature, 0xFFFF)
  else
    let (c, i) := s.sectScan img.sections [] 0
    if c ≠ lOk then (c, i)
    else if !vaultOk || s.engQuenched 17 then (lUnavailable, 0xFFFF)
    else if !sig then (lBadSig, 0xFFFF)
    else if !img.partial_ && !s.complete img then (lIncomplete, 0xFFFF)
    else if !s.crossOk img then (lBadSection, 0xFFFF)
    else if img.partial_ then s.partialScan img.sections 0
    else (lOk, 0)

/-- A load's result is recorded (R326): copy 0 A, 1 B, 2 host push. -/
def loadResult (s : State) (c code sect : Nat) : State :=
  let s := (s.set (F.STR_LOAD_ST_CODE c) code).set (F.STR_LOAD_ST_SECT c) (if code = lOk then 0 else sect)
  if code = lOk then s.count 0x510 else s.count 0x511

/-! ## What sections make live -/

/-- A program as an engine holds it. -/
def progOf (p : ProgIn) : Prog :=
  { words := p.words, data := Mem.write [] 0 p.data.length (pack 0 (((List.range p.data.length).zip p.data).map (fun x => (x.1, 1, x.2))))
    entry := p.entry, imemLen := p.imemLen, tickBudget := bitsOf p.budget 0 20, frameBudget := bitsOf p.budget 20 8 }

/-- Burnishers' permitted SRC sets: REF sources that XBAR permits and codes that SYN_PLAN permits. -/
def settleBurnSrc (s : State) : State :=
  let l := s.str.synBurn.map (fun x =>
    (x.1, match alGet s.str.xbarBurn x.1 with
      | some m => x.2 &&& (m % 2 ^ 24 + 2 ^ 24 + 2 ^ 25)
      | none => x.2))
  { s with syn := { s.syn with burnSrc := l } }

/-- The rows of a TENANTS section are in force (R357): functions and quotas. -/
def putTenants (s : State) (rows : List TenRow) : State :=
  let s := s.str.tenants.foldl (fun (s : State) t =>
    ((s.set (F.HMK_TEN_ST_QUOTA t.tenant) 0).set (F.KVT_TEN_ST_QUOTA t.tenant) 0).set (F.SCH_TEN_ST_QUOTA t.tenant) 0) s
  let s := rows.foldl (fun (s : State) t =>
    ((s.set (F.HMK_TEN_ST_QUOTA t.tenant) t.clients).set (F.KVT_TEN_ST_QUOTA t.tenant) t.slots).set (F.SCH_TEN_ST_QUOTA t.tenant) t.scheds) s
  let vf := (rows.filter (fun t => t.fn ≠ t.tenant)).map (fun t => (t.tenant, t.fn))
  { s with str := { s.str with tenants := rows }, hif := { s.hif with vfOf := vf } }

/-- Holdover classes (R184). -/
def putHoldover (s : State) (cls : List (Nat × Nat × Nat)) (clk : List Nat) (f m : Nat) : State :=
  let s := ((List.range 8).zip cls).foldl (fun (s : State) x =>
    ((s.set (F.TSK_HGC_A x.1) x.2.1).set (F.TSK_HGC_B x.1) x.2.2.1).set (F.TSK_HGC_C x.1) x.2.2.2) s
  let s := ((List.range 7).zip clk).foldl (fun (s : State) x => s.set (F.TSK_CLK_CLASS_CLASS (x.1 + 1)) x.2) s
  (s.set F.TSK_CLK_CLASS_C0_FROZEN f).set F.TSK_CLK_CLASS_C0_MODELLED m

/-- A LOCKED entry as it goes live. DESIGN CHOICE: the spec does not say what a periodic entry does whose EPOCH has passed when its
image goes live; it starts with its first EPOCH + k × PERIOD later than the present reading. -/
def liveEnt (s : State) (e : SchEnt) : SchEnt :=
  if s.time.running && e.period ≠ 0 && decide (e.epoch ≤ s.ns) then
    { e with epoch := e.epoch + ((s.ns - e.epoch) / e.period + 1) * e.period }
  else e

/-- LOCKED entries replace those before (R237); the next boundary is the TICK entry's (R24). -/
def putLocked (s : State) (es : List (Nat × SchEnt)) : State :=
  let kept := s.sch.ents.filter (fun x => !x.2.locked)
  let s := { s with sch := { s.sch with ents := kept } }
  (es.foldl (fun s x => s.putEnt x.1 (s.liveEnt x.2)) s).placeTick

/-- What a section makes live, program banks, register defaults and update groups apart. -/
def putSection (s : State) (x : Section) : State :=
  match x.pay with
  | .xbar src burn ap =>
    let s := (List.range 16).foldl (fun (s : State) c => s.set (F.REF_XBAR_SRC c) ((alGet src c).getD 31)) s
    ({ s with refin := { s.refin with aportClk := ap }, str := { s.str with xbarBurn := burn } } : State).settleBurnSrc
  | .synPlan hz byp khz burn =>
    let s := ({ s with str := { s.str with synBurn := burn, oscin := hz } } : State).settleBurnSrc.set F.SYN_BYP_ST_SRC byp
    (s.set F.SYN_SPLL_ST_OSC_KHZ (hz / 1000)).set F.SYN_BYP_ST_BYP_KHZ (if byp = 0 then hz / 1000 else khz)
  | .outMap burn pr =>
    let keep := s.syn.outBurn.filter (fun y => !burn.any (fun z => z.1 = y.1))
    let mask := burn.foldl (fun a z => a ||| 2 ^ z.1) 0
    { s with syn := { s.syn with outBurn := keep ++ burn, paired := (s.syn.paired - (s.syn.paired &&& mask)) ||| pr } }
  | .tenants rows => s.putTenants rows
  | .clientLayout c q =>
    let s := ({ s with str := { s.str with capacity := some c } } : State).settleCapacity
    q.foldl (fun (s : State) y => s.set (F.HMK_TEN_ST_QUOTA y.1) y.2) s
  | .portProfile rows =>
    let s := rows.foldl (fun (s : State) p => s.set (F.ETH_SLOT_CFG_LC_PER p.port) p.lcPer) s
    { s with str := { s.str with ports := rows } }
  | .holdover cls clk f m => s.putHoldover cls clk f m
  | .schedLocked es => s.putLocked es
  | .regDefaults l =>
    -- a section's triplets replace its region's stored defaults (R325)
    { s with str := { s.str with defaults := alSet s.str.defaults x.region l } }
  | .updGroups l => { s with hif := { s.hif with grp := l } }
  | _ => s

/-- One register default goes live: the writable bits of its word. DESIGN CHOICE: a default of SYS_PD_CTL.ON that asks
for a domain absent on the part leaves the bit reading 1 without a SYS_PD_REF, and the domain stays off (R4). -/
def putDefault (s : State) (d : Nat × Nat × Nat) : State :=
  let a := defaultAddr d
  match findReg a with
  | some (r, _, _, w) =>
    match r.words[w]? with
    | some x =>
      let m := x.rw ||| x.rws ||| x.rwp
      let old := (s.regs.word a).toNat
      { s with regs := s.regs.put a (BitVec.ofNat 32 ((old - (old &&& m)) ||| (d.2.2 &&& m))), pend := alDel s.pend a }
    | none => s
  | none => s

/-- The defaults of a port profile (R323, R325). -/
def putPortDefaults (s : State) (p : PortRow) : State :=
  let s := p.buckets.foldl (fun (s : State) b =>
    s.set (F.ETH_HASH_BUCKETS p.port (b / 32)) (s.get (F.ETH_HASH_BUCKETS p.port (b / 32)) ||| 2 ^ (b % 32))) s
  let s := (s.setI (F.ETH_TS_LAT_TX_LAT p.port) p.txLat).setI (F.ETH_TS_LAT_RX_LAT p.port) p.rxLat
  s.set (F.TSK_TEB_PORT_TERM p.port) p.teb

/-- Register defaults go live, as at a load (R325). -/
def putDefaults (s : State) : State :=
  let s := s.str.ports.foldl putPortDefaults s
  s.str.defaults.foldl (fun s r => r.2.foldl putDefault s) s

/-- The programs of a full image start (R337). -/
def startPrograms (s : State) (secs : List Section) : State :=
  secs.foldl (fun (s : State) x => match x.pay with
    | .prog p => (s.setEngine p.engine { s.engine p.engine with live := some (progOf p), idle := none }).startEngine p.engine false
    | .vaultProg _ => (s.set (F.ENG_ST_STATE 17) 1)
    | _ => s) s

/-- A full image is live (R325, R328): content, defaults, programs, generations, digest. `src` 0 copy A, 1 copy B, 2 host. -/
def goLive (s : State) (img : Image) (src : Nat) : State :=
  let s := { s with str := { s.str with staged := [], switching := [], defaults := [], pendImg := none } }
  let s := img.sections.foldl putSection s
  let s := (s.settleCapacity.putDefaults).startPrograms img.sections
  let s := img.sections.foldl (fun (s : State) x =>
    (((s.set (F.STR_REGION_GEN x.region) x.gen).set (F.STR_REGION_STAGED_GEN x.region) 0).set (F.STR_REGION_STATE x.region) 0).set
      (F.STR_REGION_TAG x.region) x.gen) s
  let s := (s.set F.STR_GEN_LIVE_GENERATION img.generation).set F.STR_DIGEST_DIGEST img.digest
  let s := ((s.set F.STR_STAT_STATE 1).set F.STR_STAT_SRC src).set F.STR_STAT_PENDING 0
  { s with hif := { s.hif with imgReq := imageReq s.part img } }

/-- A partial image stages its regions (R329). -/
def stage (s : State) (img : Image) : State :=
  let n := s.str.stages
  let s := { s with str := { s.str with stages := n + 1 } }
  img.sections.foldl (fun (s : State) x =>
    let old := match alGet s.str.staged x.region with
      | some o => if o.img = n then o.secs else []
      | none => []
    let s := { s with str := { s.str with staged := alSet s.str.staged x.region ⟨x.gen, old ++ [x], img.digest, n⟩ } }
    (s.set (F.STR_REGION_STATE x.region) 1).set (F.STR_REGION_STAGED_GEN x.region) x.gen) s

/-! ## Switching a region (R330 to R333) -/

/-- A tenant's function is enabled (R330). -/
def tenEnabled (s : State) (t : Nat) : Bool := s.fnEnabled (s.fnOf t)

/-- An output, media port or Burnisher whose assignment changes, its pair-shared flag among it, is not at rest (R330). -/
def mapInUse (s : State) (burn : List (Nat × Nat)) (pr : Nat) : Bool :=
  burn.any (fun x => ((alGet s.syn.outBurn x.1).getD 0 ≠ x.2 || bitOf s.syn.paired x.1 ≠ bitOf pr x.1) &&
    (if x.1 < 24 then s.outState x.1 ≠ 0 else s.get (F.OUT_AES_CFG_MODE (x.1 - 24)) ≠ 0))

/-- The condition of R330 that a staged section meets. -/
def inUse (s : State) (x : Section) : Bool :=
  match x.pay with
  | .xbar src _ _ => (List.range 16).any (fun c => s.get (F.REF_XBAR_SRC c) ≠ (alGet src c).getD 31 && s.on (F.TIC_CH_CFG_EN c))
  | .synPlan _ _ _ burn =>
    (List.range 4).any (fun b => (alGet s.str.synBurn b).getD 0 ≠ (alGet burn b).getD 0 && s.burnState b ≠ 0)
  | .outMap burn pr => s.mapInUse burn pr
  | .tenants rows => s.str.tenants.any (fun t => !rows.any (fun u => u.tenant = t.tenant) && s.tenEnabled t.tenant)
  | _ => false

/-- The STR_GEN record of a switch (R330). -/
def genRecord (s : State) (r outcome : Nat) : State :=
  let p := pay [(20, 1, r), (21, 1, outcome), (24, 4, s.get (F.STR_REGION_GEN r))]
  ((s.set (F.STR_REGION_LAST r) outcome).pevent 0x11 0 p).trace 9 0 p

/-- The live digest advances once for each partial image (R333). -/
def advanceDigest (s : State) (x : Staged) : State :=
  if s.str.advanced.contains x.img then s
  else
    let s := { s with str := { s.str with advanced := x.img :: s.str.advanced } }
    s.set F.STR_DIGEST_DIGEST (Config.hash [s.get F.STR_DIGEST_DIGEST, x.digest])

/-- Staged content that an uncorrectable read has hit: the switch ends with IN_USE, and the region must be pushed again
(R396). -/
def genUe (s : State) (r : Nat) (u : DramErr) : State :=
  let s := s.dramUe 1 u
  let s := { s with str := { s.str with staged := alDel s.str.staged r } }
  ((s.set (F.STR_REGION_STATE r) 0).set (F.STR_REGION_STAGED_GEN r) 0).genRecord r 4

/-- A port engine that holds a frame as its region's switch acts finishes it on the old bank and switches at its next WAITE
(R353). -/
def holdSwap (s : State) (r : Nat) : State :=
  let x := s.engine r
  if r < 8 && x.held.isSome && !s.engQuenched r then s.setEngine r { x with swap := true } else s

/-- A GEN_SWITCH of region r acts (R330), `ue` an uncorrectable read of its staged content. -/
def genSwitch (s : State) (r : Nat) (ue : Option DramErr) : State :=
  let st := s.get (F.STR_REGION_STATE r)
  match alGet s.str.staged r with
  | some x =>
    if (s.str.switching.any (fun y => y.1 = r)) || st = 2 then s.genRecord r 3
    else if x.secs.any (fun y => s.inUse y) then s.genRecord r 4
    else
    let (s, ue) := s.dramRead ue
    match ue with
    | some u => s.genUe r u
    | none =>
      let s := { s with str := { s.str with staged := alDel s.str.staged r, switching := alSet s.str.switching r x } }
      let s := ((s.set (F.STR_REGION_STATE r) 2).set (F.STR_REGION_GEN r) x.gen).set (F.STR_REGION_STAGED_GEN r) 0
      let s := ((s.set (F.STR_REGION_TAG r) x.gen).add (F.STR_REGION_SWITCHES r) 1).count 0x512
      ((s.advanceDigest x).genRecord r 1).holdSwap r
  | none => s.genRecord r 2

/-- The instant at which a switched region's content goes live has come (R324, R353). -/
def effectDue (s : State) (r : Nat) : Bool :=
  if r < 8 then s.engQuenched r || !(s.engine r).swap
  else if (8 ≤ r && r ≤ 10) || r = 18 then s.atBoundary
  else true

/-- New programs load into the idle banks and the engines switch (R332, R353). -/
def switchPrograms (s : State) (secs : List Section) : State :=
  secs.foldl (fun (s : State) x => match x.pay with
    | .prog p => (s.setEngine p.engine { s.engine p.engine with idle := some (progOf p) }).switchBank p.engine
    | _ => s) s

/-- A switched region's new generation takes effect (R324, R325). -/
def regionEffect (s : State) (r : Nat) : State :=
  match alGet s.str.switching r with
  | some x =>
    if s.effectDue r then
      let s := { s with str := { s.str with switching := alDel s.str.switching r } }
      let s := if r = 12 then s.tagHmk else s
      (x.secs.foldl putSection s).switchPrograms x.secs
    else s
  | none => s

/-- The last old-tagged work has left the region (R331). -/
def drainEnd (s : State) (r : Nat) : State :=
  if s.get (F.STR_REGION_STATE r) = 2 && (alGet s.str.switching r).isNone then
    s.set (F.STR_REGION_STATE r) (if (alGet s.str.staged r).isSome then 1 else 0)
  else s

/-- STR_PUSH.GO (R326, R329). -/
def pushGo (s : State) : State := if s.on F.STR_STAT_BUSY then s.loadResult 2 lBusy 0xFFFF else s.set F.STR_STAT_BUSY 1

end State

/-- IMAGE_PUSH (R328): STR_PUSH written with a base, a length and GO. -/
def execImagePush (base len : Nat) (s : State) : Host.Outcome State Fault Refusal :=
  .next (s.awake (fun s => ((s.set F.STR_PUSH_BASE base).set F.STR_PUSH_LENGTH len).pushGo))

/-- REGION_EFFECT (R324). -/
def execRegionEffect (r : Nat) (s : State) : Host.Outcome State Fault Refusal := .next (s.regionEffect r)

/-- REGION_DRAIN_END (R331). -/
def execRegionDrainEnd (r : Nat) (s : State) : Host.Outcome State Fault Refusal := .next (s.drainEnd r)

end Sys2Proof.Machine
end

