-- ==== Sys2Proof/Machine/Pair.lean ====
section
/-!
DEFINITION. Sys2Proof/Machine/Pair.lean: the redundant pair: claims, roles, self-diagnosis, the Ingot, resyncs and swap drills
(R421 to R441), with the link events and the patrol scrub that bear on it.
-/

namespace Sys2Proof.Machine

namespace State

/-! ## Claims and roles (R424 to R429) -/

/-- Feature PAIR is in force (R421). -/
def pairOn (s : State) : Bool := s.feat 7

/-- The pair link is UP. -/
def pairUp (s : State) : Bool := match s.pairLink with
  | some l => s.linkState l = 2
  | none => false

/-- The role as PAIR_STAT shows it: 0 ACTIVE, 1 STANDBY, 2 STALE, 3 ISOLATED, 4 SOLO. -/
def role (s : State) : Nat := s.get F.PAIR_STAT_ROLE

/-- Status of the Ingot: 0 CURRENT, 1 DIVERGED, 2 STALE (R437, R441). -/
def ingotStatus (s : State) : Nat :=
  if s.on F.PAIR_INGOT_ST_STALE then 2 else if s.on F.PAIR_INGOT_ST_DIVERGED then 1 else 0

/-- The ceiling with or without the drill's (R424). -/
def ceilingOf (s : State) (drill : Bool) : Nat :=
  if s.get F.PAIR_TRIG_TRIG ≠ 0 || s.on F.PAIR_TRIG_FAULT || (drill && s.on F.PAIR_TRIG_DRILL) then 0
  else if !s.on F.PAIR_STAT_DRIVING && s.on F.PAIR_INGOT_ST_STALE then 3
  else 15

/-- BIAS as a tie sets it (R427, R428). -/
def tieBias (s : State) : Nat :=
  if s.on F.PAIR_STAT_POS_CONFLICT then
    match s.pairLink.bind (fun l => (s.link l).hello) with
    | some h => if s.get F.SYS_STRAP_DEVID < h.devid then 1 else 0
    | none => 0
  else s.get F.SYS_STRAP_PAIR_POS

/-- The unit's effective claim is recomputed and compared (R424, R425): a fall reaches the comparator at once, a rise 8 ns
later. -/
def claimStep (s : State) : State :=
  let p := s.pair
  let c := if s.pairOn then s.ceilingOf true else 0
  let base := if s.pairOn then min (s.get F.PAIR_CFG_PAIR_CLAIM) c else 0
  let bias := if !s.pairOn || base ≠ p.base then 0 else s.get F.PAIR_STAT_BIAS
  let old := s.get F.PAIR_STAT_CLAIM
  let eff := base + bias
  let p := { p with base := base, cmp := min p.cmp eff, rises := p.rises.map (fun x => (x.1, min x.2 eff)) }
  let p := if old < eff then { p with rises := p.rises ++ [(s.ns + 8, eff)] } else p
  let drive := s.pairOn && decide (s.get F.PAIR_STAT_PEER_CLAIM < p.cmp)
  let was := s.on F.PAIR_STAT_DRIVING
  let s := { s with pair := p }
  let s := ((s.set F.PAIR_STAT_CEILING c).set F.PAIR_STAT_BIAS bias).set F.PAIR_STAT_CLAIM eff
  let s := s.setB F.PAIR_STAT_DRIVING drive
  let s := if eff = old then s else s.emitOut (.claim (some eff))
  if drive == was then s else s.emitOut (.pads drive)

/-- Equality of the claims, and the end of a tie (R427). -/
def tieStep (s : State) : State :=
  let eq := s.pairOn && s.get F.PAIR_STAT_CLAIM = s.get F.PAIR_STAT_PEER_CLAIM
  let s := { s with pair := { s.pair with tieSince := if eq then s.pair.tieSince.orElse (fun _ => some s.ns) else none } }
  if s.on F.PAIR_STAT_TIE && !eq then
    (s.set F.PAIR_STAT_TIE 0).pevent 0x31 0 (pay [(20, 1, s.get F.PAIR_STAT_CLAIM), (21, 1, 0)])
  else s

/-- The role that the table gives (R429). -/
def roleOf (s : State) : Nat :=
  if !s.pairOn then 4
  else if s.on F.SEAM_STAT_MINORITY || s.pairLink.any (fun l => s.linkState l = 3) then 3
  else if s.on F.PAIR_STAT_DRIVING then 0
  else if s.on F.PAIR_INGOT_ST_STALE then 2
  else 1

/-- F: the bound of the last accepted Ingot, the offset to the peer, 20 ps, and the growth of clock 0's FROZEN class over the
Ingot's age in ticks plus one (R190). -/
def pairFloor (s : State) (teb : Nat) : Nat :=
  let off := match s.pairLink with
    | some l => q16ToPs (s.getI (F.GFL_TT_OFFSET l)).natAbs
    | none => 0
  bAdd (bAdd (bAdd teb off) 20) (s.growth (s.classOf 0) (ticksSec (s.pair.age + 2)))

/-- Hallmark serves in a role. -/
def serving (role : Nat) : Bool := role = 0 || 4 ≤ role

/-- Hallmark stops serving (R433): it withdraws the answers whose launch lies later, and those it has in hand, as
STANDBY_DROP. -/
def stopServing (s : State) : State :=
  let t := s.ps
  (List.range 8).foldl (fun (s : State) p =>
    let n := ((s.port p).resvs.filter (fun r => r.src = 0 && t < r.l)).length + (s.hmkJobs p).length
    let s := (s.releaseResvs p (fun r => r.src = 0 && decide (t < r.l))).setJobs p []
    (List.range n).foldl (fun s _ => s.hmkStat 24) s) s

/-- The bound is published anew after a change of role (R190, R434). -/
def roleBound (s : State) (old new : Nat) : State :=
  let s := match s.pair.ingotTeb with
    | some teb =>
      if new = 0 && old ≠ 4 then
        { s with tsk := { s.tsk with floor := some (s.pairFloor teb), floorAt := s.ns, stby := none } }
      else if new = 1 then { s with tsk := { s.tsk with stby := some (s.pairFloor teb) } }
      else { s with tsk := { s.tsk with stby := none } }
    | none => { s with tsk := { s.tsk with stby := none } }
  s.publish s.tsk.tebCalc (s.get F.TSK_TEB_SRC_TAG)

/-- The unit changes role (R429, R433). -/
def roleChange (s : State) (new cause : Nat) : State :=
  let old := s.role
  let s := s.set F.PAIR_STAT_ROLE new
  let p := pay [(20, 1, old), (21, 1, new), (22, 1, s.get F.PAIR_STAT_CLAIM), (23, 1, s.get F.PAIR_STAT_PEER_CLAIM),
    (24, 1, cause)]
  let s := ((s.pevent 0x32 0 p).trace 8 0 p).count 0x5DB
  let s := s.setB F.HMK_STAT_STANDBY (!serving new)
  let s := if serving old && !serving new then s.stopServing else s
  let s := if old = 0 then { s with pair := { s.pair with got := 3 } } else s
  let s := s.roleBound old new
  match (if new = 0 then s.pair.watch else none) with
  | some t =>
    if s.time.tickNo ≤ t + 3 then
      { s with pair := { s.pair with tookAt := some s.time.tickNo } }.set F.PAIR_DRILL_ST_RUNNING 1
    else s
  | none => s

/-- A drill ends with a result (R440): 1 PASSED, 2 SKIPPED, 3 PRE_MISMATCH, 4 POST_MISMATCH, 5 FAILED, 6 ABORTED. `own` says
whether this unit decides it and carries it to its peer. -/
def drillEnd (s : State) (r : Nat) (own : Bool) : State :=
  let held := match s.pair.drill, s.pair.tookAt with
    | some (ph, t), _ => if 3 ≤ ph then s.time.tickNo - t else 0
    | none, some t => s.time.tickNo - t
    | none, none => 0
  let p := { s.pair with drill := none, watch := none, tookAt := none, drillRes := if own then r else s.pair.drillRes }
  let s := { s with pair := p }
  let s := ((s.set F.PAIR_TRIG_DRILL 0).set F.PAIR_DRILL_ST_RUNNING 0).set F.PAIR_DRILL_ST_RESULT r
  let s := (s.set F.PAIR_DRILL_ST_LAST s.short).add F.PAIR_DRILL_ST_COUNT 1
  s.pevent 0x35 0 (pay [(20, 1, r), (21, 1, s.role), (24, 4, held)])

/-- A PAIR_RESYNC record (R441). -/
def resyncRecord (s : State) (full : Bool) (what : Nat) : State :=
  s.pevent 0x34 0 (pay [(20, 1, if full then 1 else 0), (21, 1, what)])

/-- While the pair link is not UP, its Ingot cells are gone, a resync is abandoned and a drill aborted (R437, R438, R440). -/
def linkCut (s : State) : State :=
  if s.pairUp then s
  else
    let s := match s.pairLink with
      | some l => s.setLink l { s.link l with inq := (s.link l).inq.filter (fun x => x.1.typ ≠ 5) }
      | none => s
    let s := match s.pair.resync with
      | some (_, full) =>
        ({ s with pair := { s.pair with resync := none } }.set F.PAIR_INGOT_ST_RESYNC 0).resyncRecord full 2
      | none => s
    if s.pair.drill.isSome || s.pair.tookAt.isSome then s.drillEnd 6 true else s

/-- A trigger on the drilled unit ends its drill (R440). -/
def drillTrigger (s : State) : State :=
  if s.pair.drill.isSome && s.get F.PAIR_TRIG_TRIG ≠ 0 then s.drillEnd 6 true else s

/-- The pair follows its inputs: what the link cuts, claims, tie, role, PAIR_OK_L. `cause` is that of a change of role:
0 claims, 1 trigger, 2 Ingot status, 3 drill, 4 tie, 5 feature (R441). -/
def pairSettle (s : State) (cause : Nat) : State :=
  let s := s.linkCut.drillTrigger
  let s := s.claimStep.claimStep.claimStep.tieStep
  let s := if s.roleOf = s.role then s else s.roleChange s.roleOf cause
  let ok := s.role = 0 && s.pair.ackOk
  if ok == s.pair.okLow then s else { s with pair := { s.pair with okLow := ok } }.emitOut (.pairOk ok)

/-! ## Self-diagnosis (R430) -/

/-- The condition of a trigger. DEDUCED: the peer's TEB counts for BOUND once a TIME cell has come on the pair link since it
trained; before it the register holds no TEB of a peer. -/
def trigger (s : State) (b : Nat) : Bool :=
  match b with
  | 0 => s.engQuenched 8 || s.on (F.ASY_SRC_ST_FAULT 0)
  | 1 => s.engQuenched 8 || s.engQuenched 9 || s.engQuenched 10 || s.engQuenched 11
  | 2 => s.pair.ueTick
  | 3 =>
    let st := s.get F.TSK_STAT_STATE
    let lim := s.get F.PAIR_BOUND_LIMIT_LIMIT
    let peer := match s.pairLink with
      | some l => if (s.link l).lastTime.isSome then ofFloat (s.get (F.GFL_TT_PEER_TEB l)) else unb
      | none => unb
    (st = 0 || st = 3) && lim ≠ 0xFFFFFFFF && decide (lim < s.coreTeb) && decide (peer < s.coreTeb)
  | 4 => s.tsk.lol
  | _ => s.pair.outMon

/-- One trigger: its onset is one anomaly of windowed source 8 and one record, its clear another record. -/
def diagStep (s : State) (b : Nat) : State :=
  let now := s.trigger b
  if now == bitOf (s.get F.PAIR_TRIG_TRIG) b then s
  else
    let s := s.setBit F.PAIR_TRIG_TRIG b now
    let s := if now then s.srcAnomaly 8 else s
    s.pevent 0x30 0 (pay [(20, 1, b), (21, 1, if now then 1 else 0), (22, 1, s.get (F.ASY_SRC_ST_FAULT 8)),
      (24, 4, if b = 5 then s.get F.PAIR_TRIG_OUT_IDX else 0)])

/-- The triggers are evaluated, and the pair follows (R424, R430). -/
def settleDiag (s : State) (cause : Nat) : State :=
  let s := if s.pairOn then
      ([0, 1, 2, 3, 4, 5].foldl diagStep s).set F.PAIR_TRIG_FAULT (s.get (F.ASY_SRC_ST_FAULT 8))
    else s
  s.pairSettle cause

/-! ## Ingots (R436, R437) -/

/-- A client key is shared with the peer of the pair link (R8): tenant, port and kind, address. -/
def sharedClient (s : State) (k : Nat × Nat × Nat) : Bool := s.pairLink.all (fun l => s.sharedKey l k.1 (k.2.1 % 8))

/-- A scheduler entry is shared with it: its owner exists on both parts, and so does what it acts on. -/
def sharedEnt (s : State) (e : SchEnt) : Bool :=
  s.pairLink.all (fun l => s.sharedKey l e.owner 0 && (!(s.part.small || s.peerSmall l) || (argOk .a932ib e.action e.arg &&
    (e.action ≠ 10 || bitsOf e.arg 0 10 < 256))))

/-- An entry of the journal: the client entry, or its key with VALID 0 where it has been deleted (R279, R298). -/
def journalEntry (s : State) (k : Nat × Nat × Nat) : Nat :=
  match s.hmk.table.find? (fun c => clientKey c = k) with
  | some c => clientBytes c
  | none => pack 0 [(0, 2, k.1), (2, 1, k.2.1), (4, 16, k.2.2)]

/-- Numbers of w bits one after the other, the first lowest. -/
def concat (w : Nat) : List Nat → Nat
  | [] => 0
  | x :: t => x % 2 ^ w + 2 ^ w * concat w t

/-- The first 36 bytes of an INGOT header (R436). -/
def ingotHeader (s : State) (flags len j : Nat) : Nat :=
  let off := match s.pairLink with
    | some l => s.get (F.GFL_TT_OFFSET l)
    | none => 0
  pack 0 [(0, 1, 0), (1, 1, 1), (2, 1, flags), (3, 1, s.get F.PAIR_STAT_CLAIM), (4, 4, bswap 4 len),
    (8, 8, bswap 8 s.time.tickNs), (16, 6, bswap 6 s.pair.bTeb), (22, 8, bswap 8 off),
    (30, 2, bswap 2 ((s.time.tickNo + 65535) % 65536)), (32, 4, bswap 4 j)]

/-- A header and its stream of cells go out on a link: `kind` 1 BODY, 3 RESYNC. -/
def sendStream (s : State) (l kind flags len j body : Nat) : State :=
  let h := s.ingotHeader flags len j
  let crc := crc32c (h + 2 ^ 288 * body) (36 + len)
  let s := s.sendCell l 5 (h + 2 ^ 288 * bswap 4 crc)
  (List.range (ceilDiv len 51)).foldl (fun s i => s.sendCell l 5 (kind + 256 * cellBytes body (51 * i) 51)) s

/-- The Ingot of the tick just ended is sent (R436). -/
def sendIngot (s : State) : State :=
  match s.pairLink with
  | some l =>
    let d := s.draws
    let n := Config.ingotLen d % 16385
    let state := Config.ingotState d % 2 ^ (8 * n)
    let j := s.hmk.journal.filter s.sharedClient
    let flags := (if s.engQuenched 16 then 2 else 0) + (if s.prov then 4 else 0) + 8 * s.pair.drillRes
    let body := state + 2 ^ (8 * n) * concat 512 (j.map s.journalEntry)
    let s := (s.draw).sendStream l 1 flags (n + 64 * j.length) j.length body
    let seq := (s.time.tickNo + 65535) % 65536
    { s with pair := { s.pair with sent := some (seq, Config.hash [n, state]), drillRes := 0 } }.count 0x5D8
  | none => s

/-- A client entry as its 64 bytes give it (R279); none where VALID is 0. -/
def parseClient (v : Nat) : Option Client :=
  let b (i n : Nat) : Nat := cellBytes v i n
  let g (k : Nat) : Nat × Grant :=
    (k, ⟨toSigned 8 (b (40 + 4 * k) 1), b (41 + 4 * k) 3, b (52 + 2 * k) 2, b (58 + 2 * k) 2⟩)
  if bitOf (b 3 1) 0 then
    some { tenant := b 0 2 % 1024, port := b 2 1 % 8, kind := b 2 1 / 8 % 4, addr := b 4 16, blocked := bitOf (b 3 1) 1
           vlan := b 20 2, lastSeen := b 24 8, tokens := b 32 4, kodAt := b 36 2, reqs := b 38 2
           grants := [g 0, g 1, g 2].filter (fun x => x.2 ≠ ⟨0, 0, 0, 0⟩) }
  else none

/-- A journal entry is applied to the standby's own table (R297). -/
def applyJournal (s : State) (v : Nat) : State :=
  let k : Nat × Nat × Nat := (cellBytes v 0 2 % 1024, cellBytes v 2 1 % 32, cellBytes v 4 16)
  let had := s.hmk.table.any (fun c => clientKey c = k)
  let rest := s.hmk.table.filter (fun c => clientKey c ≠ k)
  if !s.sharedClient k then s
  else match parseClient v with
  | some c =>
    let s := { s with hmk := { s.hmk with table := rest ++ [c] } }
    if had then s else (s.add (F.HMK_TEN_ST_USED c.tenant) 1).add F.HMK_CT_ST_USED 1
  | none =>
    let s := { s with hmk := { s.hmk with table := rest } }
    if had then
      (s.set (F.HMK_TEN_ST_USED k.1) (s.get (F.HMK_TEN_ST_USED k.1) - 1)).set F.HMK_CT_ST_USED (s.get F.HMK_CT_ST_USED - 1)
    else s

/-- A scheduler entry of the active is mirrored, LOCKED entries apart (R435, R436). -/
def applyEnt (s : State) (x : Nat × Nat) : State :=
  let locked := match alGet s.sch.ents x.1 with
    | some e => e.locked
    | none => false
  if 4096 ≤ x.1 || locked then s
  else if x.2 = 0 then s.freeEnt x.1
  else if (stgEnt x.2).locked || !s.sharedEnt (stgEnt x.2) then s
  else s.putEnt x.1 (stgEnt x.2)

/-- Words of w bits out of a number. -/
def words (w v : Nat) : Nat → List Nat
  | 0 => []
  | n + 1 => v % 2 ^ w :: words w (v / 2 ^ w) n

/-- n stream cells of a kind are taken from a link: their 51 bytes each, in order. -/
def takeBody (l kind : Nat) : Nat → State → Option (List Nat × State)
  | 0, s => some ([], s)
  | n + 1, s =>
    match s.takeFrom l (fun c => c.typ = 5 && cellBytes c.payload 0 1 = kind) with
    | some (c, _, s) => (takeBody l kind n s).map (fun r => (cellBytes c.payload 1 51 :: r.1, r.2))
    | none => none

/-- A header with or without FLAGS.RESYNC and its whole stream are taken: header and body. -/
def takeStream (s : State) (l : Nat) (resync : Bool) : Option (Nat × Nat × State) :=
  match s.takeFrom l (fun c => c.typ = 5 && cellBytes c.payload 0 1 = 0 && bitOf (cellBytes c.payload 2 1) 0 == resync) with
  | some (c, _, s) =>
    let len := wireBytes c.payload 4 4
    match takeBody l (if resync then 3 else 1) (ceilDiv len 51) s with
    | some (b, s) => some (c.payload, concat 408 b, s)
    | none => none
  | none => none

/-- INGOT_CRC holds over a header and its body. -/
def streamOk (h body : Nat) : Bool :=
  let len := wireBytes h 4 4
  wireBytes h 36 4 = crc32c (h % 2 ^ 288 + 2 ^ 288 * body) (36 + len)

/-- A PAIR_INGOT record where the status has changed from `old` (R441). -/
def statusRecord (s : State) (old seq : Nat) : State :=
  let new := s.ingotStatus
  if old = new then s
  else s.pevent 0x33 0 (pay [(20, 1, old), (21, 1, new), (22, 2, seq), (24, 4, s.get F.PAIR_INGOT_ST_AGE)])

/-- An Ingot is discarded (R437). -/
def discardIngot (s : State) (seq : Nat) : State :=
  let old := s.ingotStatus
  let n := s.pair.misses + 1
  let s := (s.add F.PAIR_INGOT_ST_DISCARDED 1).count 0x5DA
  let s := { s with pair := { s.pair with got := 2, misses := n } }.set F.PAIR_INGOT_ST_DIVERGED 1
  let s := if 4 ≤ n then { s with pair := { s.pair with fullDone := false } }.set F.PAIR_INGOT_ST_STALE 1 else s
  s.statusRecord old seq

/-- The header's claim is held against CLAIM_IN (R437). -/
def claimCheck (s : State) (c : Nat) : State :=
  let inn := s.get F.PAIR_STAT_PEER_CLAIM
  let d := decide (c ≠ inn)
  let was := s.on F.PAIR_STAT_CLAIM_MISMATCH
  let now := d && (s.pair.claimDiff || was)
  let s := { s with pair := { s.pair with claimDiff := d } }.setB F.PAIR_STAT_CLAIM_MISMATCH now
  if now == was then s else s.pevent 0x36 0 (pay [(20, 1, inn), (21, 1, c), (22, 1, if now then 1 else 0)])

/-- An Ingot is accepted (R434 to R437). -/
def acceptIngot (s : State) (h body : Nat) : State :=
  let len := wireBytes h 4 4
  let j := wireBytes h 32 4
  let n := len - 64 * j
  let state := cellBytes body 0 n
  let flags := cellBytes h 2 1
  let old := s.ingotStatus
  let s := (((s.set F.PAIR_INGOT_ST_AGE 0).add F.PAIR_INGOT_ST_ACCEPTED 1).set F.PAIR_INGOT_ST_JOURNAL j).count 0x5D9
  let done := s.pair.fullDone
  let s := { s with pair := { s.pair with
    got := 1, misses := 0, age := 0, ingotTeb := some (wireBytes h 16 6), applied := some (n, state), fullDone := false
    loadDue := s.pair.loadDue || (s.prov && !bitOf flags 2) } }
  let s := if done then s.set F.PAIR_INGOT_ST_STALE 0 else s
  let s := (Config.ingotEnts n state).foldl applyEnt s
  let s := (words 512 (body / 2 ^ (8 * n)) j).foldl applyJournal s
  let s := s.settleLoad.statusRecord old (wireBytes h 30 2)
  let r := bitsOf flags 3 3
  let s := if r = 0 then s else s.drillEnd r false
  s.claimCheck (cellBytes h 3 1 % 16)

/-- The ACK that answers an Ingot (R436, R437). -/
def sendAck (s : State) (l seq : Nat) (ok : Bool) (digest : Nat) : State :=
  let idle := s.pair.resync.isNone
  let stale := s.on F.PAIR_INGOT_ST_STALE
  let f := (if ok then 1 else 2) + (if stale && idle && !s.pair.fullDone then 4 else 0)
    + (if !stale && s.on F.PAIR_INGOT_ST_DIVERGED && idle then 8 else 0)
  s.sendCell l 5 (pack 0 [(0, 1, 2), (1, 1, f), (2, 2, bswap 2 seq), (4, 32, digest)])

/-- An Ingot has come whole to a unit that does not drive: it is accepted or discarded, and answered (R437). -/
def ingotReceive (s : State) (l : Nat) : State :=
  if !s.pairOn || s.pairLink ≠ some l then s
  else match s.takeStream l false with
    | some (h, body, s) =>
      if s.role = 0 then s
      else
        let seq := wireBytes h 30 2
        let n := wireBytes h 4 4 - 64 * wireBytes h 32 4
        let ok := streamOk h body && s.qualified (32 + l)
        let s := if ok then s.acceptIngot h body else s.discardIngot seq
        (s.sendAck l seq ok (Config.hash [n, cellBytes body 0 n])).pairSettle 2
    | none => s

/-! ## Resyncs (R438) -/

/-- A resync stream begins. -/
def startResync (s : State) (sending full : Bool) : State :=
  let s := { s with pair := { s.pair with resync := some (sending, full) } }.set F.PAIR_INGOT_ST_RESYNC 1
  ((s.set F.PAIR_RESYNC_ST_PROGRESS 0).setB F.PAIR_RESYNC_ST_KIND full).resyncRecord full 0

/-- The standby's acknowledgement (R437). -/
def ingotAck (s : State) (l : Nat) : State :=
  match s.takeFrom l (fun c => c.typ = 5 && cellBytes c.payload 0 1 = 2) with
  | some (c, _, s) =>
    let f := cellBytes c.payload 1 1
    let s := { s with pair := { s.pair with
      acked := some (wireBytes c.payload 2 2, cellBytes c.payload 4 32)
      ackOk := bitOf f 0 && !bitOf f 2 && !bitOf f 3 } }
    let s := if s.role ≠ 0 || s.pair.resync.isSome then s
      else if bitOf f 2 then s.startResync true true
      else if bitOf f 1 || bitOf f 3 then s.startResync true false
      else s
    s.pairSettle 0
  | none => s

/-- A resync stream ends. -/
def endResync (s : State) (full : Bool) : State :=
  let s := { s with pair := { s.pair with resync := none } }.set F.PAIR_INGOT_ST_RESYNC 0
  ((s.set F.PAIR_RESYNC_ST_PROGRESS 1023).add F.PAIR_RESYNC_ST_COUNT 1).resyncRecord full 1

/-- The active sends its stream: for a full one the 4,096 scheduler entries, then the client entries of the table in force,
free ones as zeros. -/
def sendResync (s : State) (l : Nat) (full : Bool) : State :=
  let cap := s.get F.HMK_CT_ST_CAPACITY
  let ents := concat 256 ((List.range 4096).map (fun i => match alGet s.sch.ents i with
    | some e => if s.sharedEnt e then entStg e else 0
    | none => 0))
  let n := if full then 131072 else 0
  let tab := concat 512 ((s.hmk.table.filter (fun c => s.sharedClient (clientKey c))).map clientBytes)
  let body := (if full then ents else 0) + 2 ^ (8 * n) * tab
  (s.sendStream l 3 (1 + (if s.prov then 4 else 0)) (n + 64 * cap) cap body).endResync full

/-- The standby applies a stream. -/
def applyResync (s : State) (full : Bool) (h body : Nat) : State :=
  let j := wireBytes h 32 4
  let n := wireBytes h 4 4 - 64 * j
  let s := if full then ((List.range 4096).zip (words 256 body 4096)).foldl applyEnt s else s
  let s := (s.hmk.table.filter (fun c => s.sharedClient (clientKey c))).foldl (fun (s : State) c => s.applyJournal (clientBytes c - (cellBytes (clientBytes c) 3 1) * 2 ^ 24)) s
  let s := (words 512 (body / 2 ^ (8 * n)) j).foldl (fun s v => if v = 0 then s else s.applyJournal v) s
  let old := s.ingotStatus
  let s := (s.settleLoad.set F.PAIR_INGOT_ST_DIVERGED 0).statusRecord old (wireBytes h 30 2)
  (if full then { s with pair := { s.pair with fullDone := true } } else s).endResync full

/-- A table or full resync completes (R438). -/
def resyncComplete (s : State) : State :=
  match s.pairLink, s.pair.resync with
  | some l, some (true, full) => if s.pairUp then s.sendResync l full else s
  | some l, some (false, full) =>
    match s.takeStream l true with
    | some (h, body, s) =>
      if streamOk h body then (s.applyResync full h body).pairSettle 2
      else ({ s with pair := { s.pair with resync := none } }.set F.PAIR_INGOT_ST_RESYNC 0).resyncRecord full 2
    | none => s
  | _, _ => s

/-- What a resync's header and cells show as they come (R438). -/
def resyncSeen (s : State) (l : Nat) : State :=
  let q := (s.link l).inq.map Prod.fst
  match q.find? (fun c => c.typ = 5 && cellBytes c.payload 0 1 = 0 && bitOf (cellBytes c.payload 2 1) 0) with
  | some h =>
    let len := wireBytes h.payload 4 4
    let s := if s.pair.resync.isNone && s.role ≠ 0 then s.startResync false (64 * wireBytes h.payload 32 4 < len) else s
    let got := (q.filter (fun c => c.typ = 5 && cellBytes c.payload 0 1 = 3)).length
    if len = 0 then s else s.set F.PAIR_RESYNC_ST_PROGRESS (satN 10 (51 * got * 1024 / len))
  | none => s

/-! ## Boundaries (R430, R434, R437, R440) -/

/-- Before the kernel's work at a boundary: the Ingot's age, an Ingot that did not come, and the floor a standby publishes. -/
def pairBefore (s : State) : State :=
  if !s.pairOn then s
  else
    let s := s.set F.PAIR_INGOT_ST_AGE (satN 16 (s.get F.PAIR_INGOT_ST_AGE + 1))
    let s := { s with pair := { s.pair with age := s.pair.age + 1 } }
    let s := if 1 ≤ s.role && s.role ≤ 3 && s.pair.got = 0 then s.discardIngot (s.time.tickNo % 65536) else s
    let s := { s with pair := { s.pair with got := 0 } }.pairSettle 2
    match (if s.role = 1 then s.pair.ingotTeb else none) with
    | some t => { s with tsk := { s.tsk with stby := some (s.pairFloor t) } }
    | none => s

/-- The digests that a drill compares: the state section sent and the one acknowledged (R440). -/
def digestsAgree (s : State) : Bool := s.pair.sent.isSome && s.pair.sent = s.pair.acked

/-- A drill's steps at a boundary (R440). -/
def drillTick (s : State) : State :=
  match s.pair.drill with
  | some (1, _) =>
    if s.digestsAgree then { s with pair := { s.pair with drill := some (2, s.time.tickNo) } }
    else s.drillEnd 3 true
  | some (2, _) =>
    ({ s with pair := { s.pair with drill := some (3, s.time.tickNo) } }.set F.PAIR_TRIG_DRILL 1).pairSettle 3
  | _ => s

/-- The load of the peer's time by a standby that is still provisional (R434), in the cycle of a boundary. -/
def standbyLoad (s : State) : State :=
  if !s.pair.loadDue then s
  else
    let s := { s with pair := { s.pair with loadDue := false } }
    match s.pairLink, s.pair.ingotTeb with
    | some l, some teb =>
      let off := s.getI (F.GFL_TT_OFFSET l)
      let a : Int := (s.time.core : Int) - off * 2 ^ 40
      if s.prov && laterThan s.time.core a.toNat then
        s.loadDate a.toNat (bAdd (bAdd teb (q16ToPs off.natAbs)) 20) 0 62
      else s
    | _, _ => s

/-- After the kernel's work at a boundary. -/
def pairAfter (s : State) : State :=
  let s := { s with pair := { s.pair with bTeb := s.coreTeb } }
  if !s.pairOn then s
  else
    let s := if s.on F.PAIR_STAT_DRIVING then s else { s with pair := { s.pair with outMon := false } }
    let s := s.settleDiag 1
    let s := { s with pair := { s.pair with ueTick := false } }.settleDiag 1
    s.drillTick

/-- PAIR_CFG is accepted at a strobe (R427). -/
def pairCfgOk (s : State) : Bool :=
  s.view F.PAIR_CFG_PAIR_CLAIM ≠ 15 && decide (100 ≤ s.view F.PAIR_CFG_DRILL_HOLD) && decide (s.view F.PAIR_CFG_DRILL_HOLD ≤ 60000)

/-! ## HELLO cells of the pair link (R428) -/

/-- POS_CONFLICT follows the PAIR_POS that a HELLO shows. DEDUCED: it changes the BIAS of a tie that stands, so that the tie still
elects one driver. -/
def posCheck (s : State) (l : Nat) : State :=
  match (if s.pairOn && s.pairLink = some l then (s.link l).hello else none) with
  | some h =>
    let own := s.get F.SYS_STRAP_PAIR_POS
    let now := decide (h.pos = own)
    if now == s.on F.PAIR_STAT_POS_CONFLICT then s
    else
      let s := s.setB F.PAIR_STAT_POS_CONFLICT now
      let s := (s.pevent 0x37 0 (pay [(20, 1, own), (21, 1, h.devid), (22, 1, if now then 1 else 0), (23, 1, s.tieBias)])).settleAlert
      if s.on F.PAIR_STAT_TIE then s.set F.PAIR_STAT_BIAS s.tieBias else s
  | none => s

/-! ## The patrol scrubber (R394 to R396) -/

/-- A patrol read: its class 0 CLEAN, 1 CE_DATA, 2 CHECK_ONLY, 3 UE; the region and syndrome of a UE; whether it is the last
word of the pass; the client key that an uncorrectable word of region CLIENT holds. -/
def patrol (s : State) (chB : Bool) (cls region syn : Nat) (last : Bool) (entry : Option (Nat × Nat × Nat)) : State :=
  let c := if chB then 1 else 0
  if !s.on (F.HMK_DRAM_ST_UP c) then s
  else
    let a := (alGet s.dram.next c).getD 0
    let s := { s with dram := { s.dram with next := alSet s.dram.next c (if last then 0 else a + 8) } }
    let s := s.setB (F.HMK_DRAM_ST_SCRUBBING c) (!last)
    let s := if last then s.count (0x4E3 + 4 * c) else s
    let (s, ue) := s.dramRead (if cls = 0 then none else some ⟨cls, chB, a, syn⟩)
    match ue with
    | none => s
    | some u =>
      let s := s.dramUe region u
      if region = 3 then { s with pair := { s.pair with ueTick := true } }.settleDiag 1
      else match (if region = 0 then entry else none) with
        | some k =>
          match s.hmk.table.find? (fun x => clientKey x = k) with
          | some x => ({ s with hmk := { s.hmk with lost := s.hmk.lost + 1 } } : State).deleteClient x |>.hmkStat 27
          | none => s
        | none => s

/-- The INGOT_COPY action (R436); an uncorrectable read of region KERNEL keeps the Ingot from being sent (R396). -/
def ingotCopy (s : State) (ue : Option DramErr) : State :=
  if s.pairOn && s.role = 0 && s.pairUp then
    let (s, ue) := s.dramRead ue
    match ue with
    | some u => { s.dramUe 3 u with pair := { s.pair with ueTick := true } }.settleDiag 1
    | none => s.sendIngot
  else s

/-- The SWAP_DRILL action (R440): on the ACTIVE unit the drill starts or is SKIPPED; the other unit awaits its takeover. -/
def swapDrill (s : State) : State :=
  if !s.pairOn then s
  else if s.role = 0 then
    let peer := match s.pairLink.bind (fun l => (s.link l).hello) with
      | some h => h.state = 1
      | none => false
    if s.pairUp && peer && s.pair.ackOk && s.get F.PAIR_TRIG_TRIG = 0 then
      { s with pair := { s.pair with drill := some (1, 0) } }.set F.PAIR_DRILL_ST_RUNNING 1
    else s.drillEnd 2 true
  else { s with pair := { s.pair with watch := some s.time.tickNo } }

end State

/-- CLAIM_IN_CHANGE (R424): a CLAIM_IN that has held for 0.5 ns. A fall below the drilled unit's own claim ends its drill with
FAILED (R440). -/
def execClaimInChange (v : Nat) (s : State) : Host.Outcome State Fault Refusal :=
  .next (
    let v := v % 16
    let old := s.get F.PAIR_STAT_PEER_CLAIM
    let s := s.set F.PAIR_STAT_PEER_CLAIM v
    let own := min (s.get F.PAIR_CFG_PAIR_CLAIM) (s.ceilingOf false)
    let s := match s.pair.drill with
      | some (ph, _) => if 3 ≤ ph && v < old && v < own then s.drillEnd 5 true else s
      | none => s
    s.pairSettle 0)

/-- CLAIM_RISE_ARRIVES (R425). -/
def execClaimRiseArrives (s : State) : Host.Outcome State Fault Refusal :=
  .next (match s.pair.rises with
    | (t, v) :: rest =>
      let s := if s.time.running then s.runTo t else s
      { s with pair := { s.pair with cmp := min v (s.get F.PAIR_STAT_CLAIM), rises := rest } }.pairSettle 0
    | [] => s)

/-- CLAIM_TIE (R427): the claims have been equal for 256 ns. -/
def execClaimTie (s : State) : Host.Outcome State Fault Refusal :=
  .next (match s.pair.tieSince with
    | some t =>
      if s.pairOn && 1 ≤ s.pair.base && !s.on F.PAIR_STAT_TIE then
        let s := if s.time.running then s.runTo (t + 256) else s
        let s := (s.set F.PAIR_STAT_TIE 1).pevent 0x31 0 (pay [(20, 1, s.get F.PAIR_STAT_CLAIM), (21, 1, 1)])
        (s.set F.PAIR_STAT_BIAS s.tieBias).pairSettle 4
      else s
    | none => s)

/-- OUT_MON_MISMATCH (R430): a pair-shared pad's level has differed from its drive for 16 ns. -/
def execOutMonMismatch (o : Nat) (s : State) : Host.Outcome State Fault Refusal :=
  .next (
    if s.on F.PAIR_STAT_DRIVING && o < 24 && bitOf s.syn.paired o then
      ({ s with pair := { s.pair with outMon := true } }.set F.PAIR_TRIG_OUT_IDX o).settleDiag 1
    else s)

/-- INGOT_RECEIVE (R437). -/
def execIngotReceive (l : Nat) (s : State) : Host.Outcome State Fault Refusal := .next (s.ingotReceive l)

/-- INGOT_ACK_RECEIVE (R437). -/
def execIngotAckReceive (l : Nat) (s : State) : Host.Outcome State Fault Refusal := .next (s.ingotAck l)

/-- RESYNC_COMPLETE (R438). -/
def execResyncComplete (s : State) : Host.Outcome State Fault Refusal := .next s.resyncComplete

/-- DRILL_HOLD_END (R440): DRILL_HOLD ticks have passed. The unit that took over compares digests and decides; the drilled
unit's ceiling lifts with the result. -/
def execDrillHoldEnd (s : State) : Host.Outcome State Fault Refusal :=
  .next (
    let n := s.get F.PAIR_CFG_DRILL_HOLD
    match s.pair.drill, s.pair.tookAt with
    | some (3, t), _ =>
      if t + n ≤ s.time.tickNo then { s with pair := { s.pair with drill := some (4, t) } } else s
    | some (_, _), _ => s
    | none, some t =>
      if t + n ≤ s.time.tickNo then s.drillEnd (if s.digestsAgree then 1 else 4) true else s
    | none, none => s)

/-- CELL_RECEIVE (R403): a cell on a link, with the verdict on its CRC and its receive time in core 2^-16 ns. -/
def execCellReceive (l : Nat) (c : GCell) (crcOk : Bool) (at_ : Nat) (s : State) : Host.Outcome State Fault Refusal :=
  .next (
    let s := s.cellReceive l c crcOk at_
    let s := if s.pairOn && s.pairLink = some l && c.typ = 5 then s.resyncSeen l else s
    s.pairSettle 0)

/-- TIME_CELL_RECEIVE (R405): the oldest TIME cell delivered on the link. The peer's TEB bears on trigger BOUND (R430). -/
def execTimeCellReceive (l : Nat) (s : State) : Host.Outcome State Fault Refusal :=
  .next (match s.takeFrom l (fun c => c.typ = 2) with
    | some (c, t, s) =>
      let s := s.timeReceive l c t
      if s.pairOn then s.settleDiag 1 else s
    | none => s)

/-- HELLO_RECEIVE (R401, R428): the oldest HELLO cell delivered on the link. -/
def execHelloReceive (l : Nat) (s : State) : Host.Outcome State Fault Refusal :=
  .next (match s.takeFrom l (fun c => c.typ = 1) with
    | some (c, _, s) =>
      let s := (s.takeHello l c.payload).posCheck l
      s.pairSettle (if s.on F.PAIR_STAT_TIE then 4 else 0)
    | none => s)

/-- LANE_LOSS (R400): lane lock has been lost for 1 µs. -/
def execLaneLoss (l : Nat) (s : State) : Host.Outcome State Fault Refusal :=
  .next (if l < 4 && s.linkState l ≠ 0 then (s.linkTrain l 2).pairSettle 0 else s)

/-- PATROL_SCRUB_READ (R395). -/
def execPatrolScrubRead (chB : Bool) (cls region syn : Nat) (last : Bool) (entry : Option (Nat × Nat × Nat)) (s : State) :
    Host.Outcome State Fault Refusal := .next (s.patrol chB cls region syn last entry)

/-- SOURCE_FAULT_CLEAR (R146): a windowed source's FAULT clears after HOLDOFF without an anomaly; the pair follows those of
sources 0 and 8. -/
def execSourceFaultClear (i : Nat) (s : State) : Host.Outcome State Fault Refusal := .next ((s.sourceFaultClear i).settleDiag 1)

end Sys2Proof.Machine
end

