-- ==== Sys2Proof/Machine/Ring.lean ====
section
/-!
DEFINITION. Sys2Proof/Machine/Ring.lean: the command and event rings of the PCIe functions (R371 to R378, R382, R495), feature
negotiation (R368 to R370), and enabling, disabling, resetting and releasing functions (R358, R381, R388 to R391).
-/

namespace Sys2Proof.Machine

namespace State

/-! ## Functions -/

/-- Function n exists: the provider or a VF of the part (R355). -/
def fnExists (s : State) (n : Nat) : Bool := n < (if s.part.small then 256 else 1024)

/-- A VF that serves no tenant within the count in force (R357). -/
def inert (s : State) (n : Nat) : Bool :=
  n ≠ 0 && (match s.tenantOf n with
    | some t => !s.tenantPresent t
    | none => true)

/-- BAR0 offset of a ring word of a function, as SYS_ACC_ERR reports it (R367, R379). -/
def ringOff (n w : Nat) : Nat := if n = 0 then 0xB01000 + 4 * w else 0x100 + 4 * w

/-- TEN_ST(t).ENABLED follows TEN_CTL and Bus Master Enable (R358). -/
def settleTen (s : State) (t : Nat) : State := s.setB (F.TEN_ST_ENABLED t) (s.fnEnabled (s.fnOf t))

/-- The same for the tenant that function n serves. -/
def settleFn (s : State) (n : Nat) : State :=
  if n = 0 then s.settleTen 0 else match s.tenantOf n with
    | some t => s.settleTen t
    | none => s

/-! ## The command ring (R371 to R375, R495) -/

/-- Depth of a command ring. -/
def cmdDepth (s : State) (n : Nat) : Nat := 2 ^ s.get (F.HIF_RING_CMD_LOG2.on n)

/-- A CMD_TAIL write (R371): dropped and flagged if it would bring more descriptors than the ring holds ahead of the
completions; while TEN_CTL.EN is 0 under Bus Master Enable, what it makes available flushes (R358). -/
def doorbell (s : State) (n v : Nat) : State :=
  let f := s.fn n
  let tail := v % 2 ^ 16
  let avail := f.avail + (tail + 2 ^ 16 - f.avail % 2 ^ 16) % 2 ^ 16
  if s.cmdDepth n < avail - f.cpl then s.flagErr n 13 (ringOff n 3) true
  else
    let off := n ≠ 0 && f.bme && !s.fnEnabled n
    let f := { f with avail := avail, flushTo := if off then avail else f.flushTo }
    (s.setFn n f).set (F.HIF_RING_CMD_TAIL.on n) tail

/-- Commands started and not finished live on without a completion (R358, R495), under positions that no later descriptor
takes; finished and unfetched ones are gone. -/
def orphan (f : FnSt) : FnSt :=
  let off := 2 ^ 64 * (f.orphGen + 1)
  let live := f.cmds.filter (fun c => c.started && c.done.isNone && c.dupOf.isNone)
  let re (n : Nat) : Nat := if live.any (fun c => c.n = n) then n + off else n
  { f with
    cmds := []
    orphans := f.orphans ++ live.map (fun c => { c with n := c.n + off })
    orphGen := f.orphGen + 1
    tags := f.tags.map (fun t => { t with n := re t.n }) }

/-- Ring indices at 0 and the tag window empty: EN changed from 0 to 1 (R371). -/
def resetCmdRing (s : State) (n : Nat) : State :=
  let f := orphan (s.fn n)
  let s := s.setFn n { f with fetched := 0, cpl := 0, avail := 0, qTail := 0, flushTo := 0, tags := [] }
  ((s.set (F.HIF_RING_CMD_TAIL.on n) 0).set (F.HIF_RING_CMD_HEAD.on n) 0).set (F.HIF_RING_CPL_COUNT.on n) 0

/-- The event ring's indices at 0: EV_EN changed from 0 to 1 (R376). -/
def resetEvRing (s : State) (n : Nat) : State :=
  let s := s.setFn n { s.fn n with evPos := 0 }
  (s.set (F.HIF_RING_EV_HEAD.on n) 0).set (F.HIF_RING_EV_TAIL.on n) 0

/-- The vault records of a boot (R320): VBAT_LOST, then each entry that holds NEW, oldest first. -/
def vaultRecs (s : State) : List EvRec :=
  let r (p : Nat) := s.evRec 0x10 0 s.short s.frac p
  (if s.on F.KVT_STAT_VBAT_LOST then [r (pay [(20, 2, 0xFFFF)])] else []) ++
    ((List.range 16).filterMap (fun k =>
      let i := (s.get F.KVT_TLOG_ST_HEAD + k) % 16
      if s.tlogNew i then some (r (s.tlogPay i)) else none))

/-- The BOOT record (R468). -/
def bootRec (s : State) : EvRec :=
  s.evRec 0x3C 0 s.short s.frac (pay [(20, 1, s.get F.SYS_RST_ST_CAUSE), (21, 1, s.get F.STR_STAT_SRC),
    (22, 1, (s.regs.word F.SYS_STRAP_BOOT_SRC.a).toNat), (23, 1, s.get F.SYS_BOOT_ST_DRAM_FAIL),
    (24, 4, s.get F.SYS_BOOT_ST_T_IMAGE), (28, 4, s.get F.SYS_BOOT_ST_T_DRAM)])

/-- The provider's event ring is enabled for the first time since a reset (R397, R320, R468). -/
def bootRecords (s : State) (n : Nat) : State :=
  if n = 0 && s.hif.bootDue then
    { s with hif := { s.hif with bootRecs := s.hif.bootRecs ++ s.vaultRecs ++ [s.bootRec], bootDue := false } }
  else s

/-- A word of HIF_RING written in the bits of a mask. -/
def putRing (s : State) (n w v mask : Nat) : State :=
  { s with regs := s.regs.put (0xB01000 + 4 * w + fnBase n) (BitVec.ofNat 32 (v &&& mask)) }

/-- A HIF_RING configuration word is written (R371, R376): a change of a BASE or LOG2 under EN drops the word; LOG2 outside
its range drops it. -/
def ringConfig (s : State) (n w v : Nat) : State :=
  let word := (s.regs.word (0xB01000 + 4 * w + fnBase n)).toNat
  let cmdEn := s.on (F.HIF_RING_CMD_EN.on n)
  let evEn := s.on (F.HIF_RING_EV_EN.on n)
  let base (en : Bool) : State :=
    if en && word ≠ v % 2 ^ 32 then s.flagErr n 12 (ringOff n w) true else s.putRing n w v 0xFFFFFFFF
  if w = 0 ∨ w = 1 ∨ w = 5 ∨ w = 6 then base cmdEn
  else if w = 8 ∨ w = 9 then base evEn
  else if w = 2 then
    let l := bitsOf v 0 4
    if cmdEn && l ≠ bitsOf word 0 4 then s.flagErr n 12 (ringOff n w) true
    else if l < 4 ∨ 12 < l then s.flagErr n 13 (ringOff n w) true
    else
      let s := s.putRing n w v 0x10F
      if !cmdEn && bitOf v 8 then s.resetCmdRing n else s
  else if w = 10 then
    let l := bitsOf v 0 5
    if evEn && l ≠ bitsOf word 0 5 then s.flagErr n 12 (ringOff n w) true
    else if l < 4 ∨ 16 < l then s.flagErr n 13 (ringOff n w) true
    else
      let s := s.putRing n w v 0xFFFF011F
      if !evEn && bitOf v 8 then (s.resetEvRing n).bootRecords n else s
  else s

/-- EV_TAIL is written (R376): a write that passes EV_HEAD is dropped and flagged. -/
def evTail (s : State) (n v : Nat) : State :=
  let m := 2 ^ 17
  let head := s.get (F.HIF_RING_EV_HEAD.on n)
  let tail := s.get (F.HIF_RING_EV_TAIL.on n)
  if (head + m - tail) % m < (v % m + m - tail) % m then s.flagErr n 13 (ringOff n 11) true
  else s.set (F.HIF_RING_EV_TAIL.on n) v

/-- A write to a ring register of function n that the write reaches: not one of a quenched function, whose writes are
dropped without a flag (R367, R388), nor of an inert VF (R357). -/
def ringWrite (s : State) (n w : Nat) (act : State → State) : State :=
  if s.pow.held || !s.fnExists n || (s.fn n).quenched then s
  else if s.inert n then s.flagErr n 10 (ringOff n w) true
  else act s

/-- Command status of a descriptor that is refused before it starts (R372). -/
def refusal (n : Nat) (d : Desc) : Option Nat :=
  let known := [0, 0x701, 0x801, 0x802, 0x901, 0x902, 0x903, 0x904]
  let provider := d.opcode = 0x701 ∨ d.opcode = 0x903
  let len := bitsOf d.args 16 16
  if !known.contains d.opcode then some cBadOpcode
  else if d.flags ≥ 2 ∨ d.rsv3 ≠ 0 ∨ d.rsv8 ≠ 0 ∨ (d.opcode = 0x801 ∧ bitsOf d.args 24 8 ≠ 0) then some cBadArgs
  else if n ≠ 0 ∧ provider then some cNotPermitted
  else if d.opcode = 0x701 ∧ len < 60 then some cBadArgs
  else none

/-- Arguments outside the ranges that registers or chapters give (R265, R312, R372). DEDUCED: a TENANT runs from 0 to 1,023 (R302,
R355), and a KIND of 3 is reserved (R279). -/
def badRange (s : State) (d : Desc) : Bool :=
  (d.opcode = 0x701 && decide (s.get (F.ETH_CFG_MAX_LEN (bitsOf d.args 0 3)) < bitsOf d.args 16 16 + 4)) ||
    (d.opcode = 0x903 && (decide (bitsOf d.args 64 16 < 64) || decide (1024 < bitsOf d.args 64 16))) ||
    (d.opcode = 0x801 && decide (1024 ≤ bitsOf d.args 0 16)) ||
    (d.opcode = 0x802 && (decide (1024 ≤ bitsOf d.args 8 16) || bitsOf d.args 27 2 = 3))

/-- A descriptor joins the ring's commands, its tag the window (R375). -/
def enqueue (s : State) (n : Nat) (d : Desc) (started : Bool) (done : Option (Nat × Nat)) (dupOf : Option Nat) : State :=
  let f := s.fn n
  let k := f.fetched
  let c : Cmd := ⟨k, d, started, false, done, dupOf⟩
  let t : TagEnt := ⟨dupOf.getD k, d.tag, done⟩
  (s.setFn n { f with cmds := f.cmds ++ [c], tags := (t :: f.tags).take 256, fetched := k + 1 }).set
    (F.HIF_RING_CMD_HEAD.on n) (k + 1)

/-- The command bucket of tenant t as it stands now, 10^-6 commands (R374). -/
def bucketNow (s : State) (n t : Nat) : Nat :=
  let f := s.fn n
  min (f.bucket + (s.ns - f.bucketAt) * s.get (F.TEN_CMD_RATE_RATE t)) (s.get (F.TEN_CMD_RATE_BURST t) * 1000000)

/-- A metered descriptor is compared with the tag window, checked and started (R372, R375). -/
def startDesc (s : State) (n : Nat) (d : Desc) : State :=
  match (if s.feat 13 then (s.fn n).tags.find? (fun t => t.tag = d.tag) else none) with
  | some t => s.enqueue n d false t.done (some t.n)
  | none =>
    match refusal n d with
    | some c => s.enqueue n d false (some (c, 0)) none
    | none => if s.badRange d then s.enqueue n d false (some (cBadArgs, 0)) none else s.enqueue n d true none none

/-- The next descriptor is fetched (R358, R371, R374, R388). -/
def fetch (s : State) (n : Nat) (d : Desc) : State :=
  let f := s.fn n
  if !(s.fnExists n && s.on (F.HIF_RING_CMD_EN.on n) && f.bme && decide (f.fetched < f.avail)) || s.inert n then s
  else if f.fetched < f.qTail then s.enqueue n d false (some (cQuenched, 0)) none
  else if f.quenched then s
  else if n ≠ 0 && (decide (f.fetched < f.flushTo) || !s.fnEnabled n) then s.enqueue n d false (some (cFlushed, 0)) none
  else if n = 0 then s.startDesc 0 d
  else
    let t := s.recTenant n
    let b := s.bucketNow n t
    if b < 1000000 ∨ s.get (F.TEN_CMD_RATE_RATE t) = 0 then
      (s.quenchFn n 2 0).enqueue n d false (some (cQuenched, 0)) none
    else (s.setFn n { f with bucket := b - 1000000, bucketAt := s.ns }).startDesc n d

/-- The completion of the oldest command is written once it has finished (R371, R373). -/
def completeNext (s : State) (n : Nat) : State :=
  let f := s.fn n
  match f.cmds with
  | c :: rest =>
    match c.done with
    | some (status, result) =>
      let depth := s.cmdDepth n
      let t := s.recTenant n
      let s := s.setFn n { f with cmds := rest, cpl := c.n + 1 }
      let s := s.set (F.HIF_RING_CPL_COUNT.on n) (c.n + 1)
      let s := s.emitOut (.completion n (s.get (F.HIF_RING_CPL_BASE.on n) + 16 * (c.n % depth)) c.d.tag status
        (c.n / depth % 2 = 0) c.dupOf.isSome (c.n % 2 ^ 32) result)
      let s := (s.count 0x01A).tcount t 9 1
      let s := if status = cQuenched then (s.count 0x01B).tcount t 10 1 else s
      if bitOf c.d.flags 0 then s.msix n 1 else s
    | none => s
  | [] => s

/-! ## The event ring (R376 to R378, R382) -/

/-- The ring has room: EV_HEAD − EV_TAIL below 2^LOG2. -/
def evRoom (s : State) (n : Nat) : Bool :=
  (s.get (F.HIF_RING_EV_HEAD.on n) + 2 ^ 17 - s.get (F.HIF_RING_EV_TAIL.on n)) % 2 ^ 17 < 2 ^ s.get (F.HIF_RING_EV_LOG2.on n)

/-- The function and its event ring are enabled. -/
def evOn (s : State) (n : Nat) : Bool := s.fnEnabled n && !s.inert n && s.on (F.HIF_RING_EV_EN.on n)

/-- Vector 0 at a record written: at once, or at the end of the hold-off (R382). -/
def signalEvent (s : State) (n : Nat) : State :=
  let f := s.fn n
  if s.ns < f.holdEnd then s.setFn n { f with holdRec := true }
  else (s.setFn n { f with holdEnd := s.ns + 1000 * s.get (F.HIF_RING_EV_MOD.on n), holdRec := false }).msix n 0

/-- One record is written to the ring (R376). -/
def writeEv (s : State) (n : Nat) (r : EvRec) : State :=
  let f := s.fn n
  let depth := 2 ^ s.get (F.HIF_RING_EV_LOG2.on n)
  let t := s.recTenant n
  let s := s.emitOut (.evRec n (s.get (F.HIF_RING_EV_BASE.on n) + 32 * (f.evPos % depth)) (s.get (F.HIF_RING_EV_SEQ.on n))
    (f.evPos / depth % 2 = 0) r)
  let s := s.setFn n { f with evPos := f.evPos + 1 }
  let s := (s.add (F.HIF_RING_EV_HEAD.on n) 1).add (F.HIF_RING_EV_SEQ.on n) 1
  let s := (s.count 0x017).tcount t 12 1
  let s := if r.typ = 1 then (s.count 0x018).tcount t 13 (r.payload % 2 ^ 32) else s
  s.signalEvent n

/-- Events that a discarded record stands for (R378). -/
def evWeight (r : EvRec) : Nat := if r.typ = 1 then r.payload % 2 ^ 32 else if r.summary then r.count else 1 + r.count

/-- The writer takes the next record (R376, R378): into the ring, or into the run of discards. -/
def takeEv (s : State) (n : Nat) : State :=
  let f := s.fn n
  let on := s.evOn n
  if n = 0 && on && !s.hif.bootRecs.isEmpty then
    match s.hif.bootRecs with
    | r :: t => if s.evRoom 0 then { s with hif := { s.hif with bootRecs := t } }.writeEv 0 r else s
    | [] => s
  else
    match f.fifo with
    | [] => s
    | r :: t =>
      if on && s.evRoom n && f.ringLoss.isNone then (s.setFn n { f with fifo := t }).writeEv n r
      else if on && s.evRoom n then s
      else
        let l : LossRun := match f.ringLoss with
          | some l => { l with lost := l.lost + evWeight r, disabled := l.disabled || !on }
          | none => ⟨evWeight r, !on, r.short, r.frac⟩
        s.setFn n { f with fifo := t, ringLoss := some l }

/-- The OVERFLOW record of a run of discards (R378). -/
def ringOverflow (s : State) (n : Nat) : State :=
  let f := s.fn n
  match f.ringLoss with
  | some l =>
    if s.evOn n && s.evRoom n && !(n = 0 && !s.hif.bootRecs.isEmpty) then
      (s.setFn n { f with ringLoss := none }).writeEv n (s.overflowRec (s.recTenant n) l (if l.disabled then 2 else 0))
    else s
  | none => s

/-- The OVERFLOW record with cause FIFO_FULL, once the FIFO has room (R377). -/
def fifoOverflow (s : State) (n : Nat) : State :=
  let f := s.fn n
  match f.fifoLoss with
  | some l =>
    if f.fifo.length < 512 then
      s.setFn n { f with fifo := f.fifo ++ [s.overflowRec (s.recTenant n) l 1], fifoLoss := none }
    else s
  | none => s

/-- A summary record of a pending count (R377). -/
def summaryRec (s : State) (t : Nat) (c : Coal) : EvRec :=
  { typ := c.typ, tenant := t, short := c.short, frac := c.frac, prov := s.prov, coalesced := false, summary := true
    count := satN 16 c.count, payload := 0 }

/-- Summary records once the FIFO holds 256 or fewer (R377). -/
def summaries (s : State) (n : Nat) : State :=
  let f := s.fn n
  if f.fifo.length ≤ 256 then
    s.setFn n { f with fifo := f.fifo ++ f.coal.map (s.summaryRec (s.recTenant n)), coal := [] }
  else s

/-- End of the vector 0 hold-off (R382). -/
def evHoldEnd (s : State) (n : Nat) : State :=
  let f := s.fn n
  if f.holdRec && s.time.running then
    let s := s.runTo f.holdEnd
    let s := s.setFn n { s.fn n with holdRec := false }
    if s.get (F.HIF_RING_EV_HEAD.on n) ≠ s.get (F.HIF_RING_EV_TAIL.on n) then
      (s.setFn n { s.fn n with holdEnd := s.ns + 1000 * s.get (F.HIF_RING_EV_MOD.on n) }).msix n 0
    else s
  else s

/-! ## Feature negotiation (R368 to R370) -/

/-- What fails of a set that the driver accepts: reason and lowest offending bit (R368). -/
def featFails (s : State) (acc : Nat) : Option (Nat × Nat) :=
  let low (v : Nat) : Nat := (lowestBit 128 v 0).getD 0
  let extra := acc - (acc &&& s.offered)
  let declined := s.hif.imgReq - (s.hif.imgReq &&& acc)
  let changed := acc ^^^ s.hif.feats
  if !bitOf acc 0 then some (1, 0)
  else if extra ≠ 0 then some (2, low extra)
  else if bitOf acc 5 && !bitOf acc 3 && !bitOf acc 4 then some (3, 5)
  else if bitOf acc 7 && !bitOf acc 16 then some (3, 7)
  else if declined ≠ 0 then some (4, low declined)
  else if s.hif.perst && s.hif.accepted && changed ≠ 0 then some (5, low changed)
  else none

/-- FEATURES_OK (R368): the checks, and the set in force in one cycle. Negotiation is accepted from the boot phase IMAGE onward
(R466). -/
def featuresOk (s : State) : State :=
  let acc := s.get F.HIF_FEAT_ACCEPT_ACCEPT
  if s.get F.SYS_BOOT_ST_STATE < 2 then s
  else match s.featFails acc with
  | some (r, b) => ((s.set F.HIF_FEAT_ST_STATE 2).set F.HIF_FEAT_ST_REASON r).set F.HIF_FEAT_ST_BIT b
  | none =>
    let s := ((s.set F.HIF_FEAT_ST_STATE 1).set F.HIF_FEAT_ST_REASON 0).set F.HIF_FEAT_ST_BIT 0
    let s := { s with hif := { s.hif with feats := acc, accepted := true } }
    s.settleCapacity.settleDiag 5

/-! ## Enabling, disabling and resetting functions (R358, R390, R495) -/

/-- The scheduler entries of the tenant that function n serves are deleted (R238). -/
def dropEntries (s : State) (n : Nat) : State :=
  if n = 0 then s else
  match s.tenantOf n with
  | some t => s.deleteOwned t
  | none => s

/-- TEN_CTL(t).EN is written (R358). -/
def tenCtl (s : State) (t : Nat) (en : Bool) : State :=
  let n := s.fnOf t
  let was := s.on (F.TEN_CTL_EN t)
  if t = 0 ∨ 1024 ≤ t then s
  else if !s.tenantPresent t then s.flagErr 0 10 (0xB10000 + 4 * t) true
  else
    let s := s.setB (F.TEN_CTL_EN t) en
    let s := if was && !en then
        let f := s.fn n
        (if f.bme then s.setFn n { f with flushTo := f.avail } else s).deleteOwned t
      else s
    s.settleTen t

/-- Bus Master Enable of function n clears (R358, R495): unstarted descriptors are discarded, and their positions and those
of started commands are consumed. -/
def busClear (s : State) (n : Nat) : State :=
  let f := s.fn n
  if !s.fnExists n || !f.bme then s
  else
    let f := orphan f
    let s := s.setFn n { f with bme := false, fetched := f.avail, cpl := f.avail }
    let s := (s.set (F.HIF_RING_CMD_HEAD.on n) f.avail).set (F.HIF_RING_CPL_COUNT.on n) f.avail
    (s.dropEntries n).settleFn n

/-- Bus Master Enable of function n is set (R358, R495). -/
def busSet (s : State) (n : Nat) : State :=
  if !s.fnExists n then s
  else
    let s := s.setFn n { s.fn n with bme := true }
    s.settleFn n

/-- Function n's ring registers, snapshot and TEN_ACC_ERR are reset, and its commands, events and enables (R358). Quench
survives (R390), and commands that have started run on. -/
def resetFn (s : State) (n : Nat) : State :=
  let f := orphan (s.fn n)
  let s := s.setFn n { FnSt.reset with quenched := f.quenched, orphans := f.orphans, orphGen := f.orphGen
                                       bucket := f.bucket, bucketAt := f.bucketAt }
  let lo (a : Nat) (k : Nat) : Bool := k % 2 ^ 25 / 64 = a / 64 && k / 2 ^ 25 = n
  let snap (k : Nat) : Bool := decide (0x400400 ≤ k % 2 ^ 25) && decide (k % 2 ^ 25 < 0x40042C) && k / 2 ^ 25 = n
  let err (k : Nat) : Bool := n ≠ 0 && (k % 2 ^ 25 = 0xE00040 || k % 2 ^ 25 = 0xE00044) && k / 2 ^ 25 = n
  { s with regs := s.regs.filter (fun p => !(lo 0xB01000 p.1 || snap p.1 || err p.1)) }

/-- Register defaults of the image for registers indexed by tenant t go live at a reset of its function (R325); TEN_CTL and
TEN_CMD_RATE keep their values (R495). -/
def tenantDefaults (s : State) (t : Nat) : State :=
  s.str.defaults.foldl (fun s r => r.2.foldl (fun (s : State) d =>
    match findReg (defaultAddr d) with
    | some (x, i, _, _) =>
      if (x.id = .TSK_XFORM ∨ x.id = .HMK_TEN_CFG ∨ x.id = .HMK_KEY_NEXT) ∧ i = t then s.putDefault d else s
    | none => s) s) s

/-- A reset of VF n (R358), with its tenant's scheduler entries deleted (`drop`) and the image's defaults live (`dflt`) where the reset
says so. -/
def resetVf (s : State) (drop dflt : Bool) (n : Nat) : State :=
  let s := s.resetFn n
  let s := if drop then s.dropEntries n else s
  match s.tenantOf n with
  | some t => (if dflt then s.tenantDefaults t else s).settleTen t
  | none => s

/-- Every VF is reset, as where VF Enable clears. -/
def resetVfs (s : State) (drop dflt : Bool) : State :=
  let s := { s with hif := { s.hif with vfEnable := false } }
  ((List.range (if s.part.small then 256 else 1024)).drop 1).foldl (fun s n => s.resetVf drop dflt n) s

/-- FLR of function n (R358): the provider's clears VF Enable and deletes no scheduler entry. -/
def flr (s : State) (n : Nat) : State :=
  if !s.fnExists n then s
  else if n = 0 then ((s.resetFn 0).settleFn 0).resetVfs false true
  else s.resetVf true true n

/-- Quenched functions are released (R381, R387, R391). -/
def releaseFn (s : State) (n : Nat) : State :=
  let f := s.fn n
  if !f.quenched then s
  else
    let t := s.recTenant n
    let tags := f.tags.filter (fun x => match x.done with
      | some d => d.1 ≠ cQuenched
      | none => true)
    let s := s.setFn n { f with quenched := false, tags := tags, bucket := s.get (F.TEN_CMD_RATE_BURST t) * 1000000, bucketAt := s.ns }
    (s.set (F.TEN_ST_QUENCHED t) 0).releaseRecords 0 n

/-- The release bits of shadow TEN_QUENCH_RELEASE take effect at the strobe and read 0 (R381, R387). -/
def releaseFns (s : State) : State :=
  (List.range 32).foldl (fun (s : State) w =>
    let v := s.view (F.TEN_QUENCH_RELEASE_RELEASE w)
    if v = 0 then s
    else
      let s := (List.range 32).foldl (fun (s : State) b => if bitOf v b then s.releaseFn (32 * w + b) else s) s
      let s := s.set (F.TEN_QUENCH_RELEASE_RELEASE w) 0
      { s with pend := alDel s.pend (F.TEN_QUENCH_RELEASE_RELEASE w).a }) s

end State

/-- RING_CONFIG_WRITE (R371, R376): function fn writes v to configuration word `word` of its HIF_RING. -/
def execRingConfigWrite (fn word v : Nat) (s : State) : Host.Outcome State Fault Refusal :=
  .next (s.ringWrite fn word (fun s => s.ringConfig fn word v))

/-- CMD_DOORBELL (R371): function fn writes CMD_TAIL. -/
def execCmdDoorbell (fn tail : Nat) (s : State) : Host.Outcome State Fault Refusal :=
  .next (s.ringWrite fn 3 (fun s => s.doorbell fn tail))

/-- CMD_FETCH (R371 to R375, R388): the next descriptor of function fn's ring is fetched and reads as d. -/
def execCmdFetch (fn : Nat) (d : Desc) (s : State) : Host.Outcome State Fault Refusal := .next (s.fetch fn d)

/-- NOP (R372): the oldest NOP of the ring completes with OK. -/
def execNop (fn : Nat) (s : State) : Host.Outcome State Fault Refusal :=
  .next (match s.cmdOf fn 0 with
    | some c => s.finish fn c.n cOk 0
    | none => s)

/-- CMD_COMPLETION_WRITE (R373). -/
def execCmdCompletionWrite (fn : Nat) (s : State) : Host.Outcome State Fault Refusal := .next (s.completeNext fn)

/-- EV_TAIL_WRITE (R376): function fn writes EV_TAIL. -/
def execEvTailWrite (fn tail : Nat) (s : State) : Host.Outcome State Fault Refusal :=
  .next (s.ringWrite fn 11 (fun s => s.evTail fn tail))

/-- EVENT_WRITE (R376, R378). -/
def execEventWrite (fn : Nat) (s : State) : Host.Outcome State Fault Refusal := .next (s.takeEv fn)

/-- RING_OVERFLOW_RECORD (R378). -/
def execRingOverflowRecord (fn : Nat) (s : State) : Host.Outcome State Fault Refusal := .next (s.ringOverflow fn)

/-- FIFO_OVERFLOW_RECORD (R377). -/
def execFifoOverflowRecord (fn : Nat) (s : State) : Host.Outcome State Fault Refusal := .next (s.fifoOverflow fn)

/-- EVENT_SUMMARY (R377). -/
def execEventSummary (fn : Nat) (s : State) : Host.Outcome State Fault Refusal := .next (s.summaries fn)

/-- MSIX_EVENT_HOLDOFF_END (R382). -/
def execMsixEventHoldoffEnd (fn : Nat) (s : State) : Host.Outcome State Fault Refusal := .next (s.evHoldEnd fn)

/-- FEATURES_OK (R368): a write of HIF_FEAT_CTL.FEATURES_OK. -/
def execFeaturesOk (s : State) : Host.Outcome State Fault Refusal := .next (s.awake State.featuresOk)

/-- TEN_CTL_WRITE (R358): the provider writes TEN_CTL(t).EN. -/
def execTenCtlWrite (t : Nat) (en : Bool) (s : State) : Host.Outcome State Fault Refusal := .next (s.awake (fun s => s.tenCtl t en))

/-- BUS_MASTER_CLEAR (R358, R495). -/
def execBusMasterClear (fn : Nat) (s : State) : Host.Outcome State Fault Refusal := .next (s.awake (fun s => s.busClear fn))

/-- BUS_MASTER_SET (R358, R495). -/
def execBusMasterSet (fn : Nat) (s : State) : Host.Outcome State Fault Refusal := .next (s.awake (fun s => s.busSet fn))

/-- FLR (R358). -/
def execFlr (fn : Nat) (s : State) : Host.Outcome State Fault Refusal := .next (s.awake (fun s => s.flr fn))

/-- VF_ENABLE_CLEAR (R238, R358): a configuration write clears VF Enable. -/
def execVfEnableClear (s : State) : Host.Outcome State Fault Refusal := .next (s.awake (fun s => s.resetVfs true true))

/-- MSIX_SAMPLE_HOLDOFF_END (R449): the SMP_MOD hold-off ends, with a sample raised during it. -/
def execMsixSampleHoldoffEnd (s : State) : Host.Outcome State Fault Refusal :=
  .next (if s.obs.smpPend && s.time.running then (s.runTo s.obs.smpEnd).signalSample else s)

end Sys2Proof.Machine
end

