-- ==== Sys2Proof/Machine/Seam.lean ====
section
/-!
DEFINITION. Sys2Proof/Machine/Seam.lean: the Seam bus: frames, station reports, contention messages, alignment, roll call
(R412 to R420).
-/

namespace Sys2Proof.Machine

namespace State

/-! ## The station -/

/-- The device's own number. -/
def devid (s : State) : Nat := s.get F.SYS_STRAP_DEVID

/-- The station takes part (R412). -/
def seamOn (s : State) : Bool := s.on F.SEAM_STAT_EN && s.time.running

/-- A posted Seam write is in progress (R365). -/
def seamBusy (s : State) : Bool := s.hif.posted.any (fun p => p.win = 12)

/-- Links whose peer is device e. -/
def linksTo (s : State) (e : Nat) : List Nat := [0, 1, 2, 3].filter (fun l => 1 < s.linkState l && s.get (F.GFL_ST_PEER l) = e)

/-- A mask with bit e set where a test holds for a link to e. -/
def peerMask (s : State) (f : Nat → Bool) : Nat :=
  [0, 1, 2, 3, 4, 5, 6, 7].foldl (fun m e => if (s.linksTo e).any f then m + 2 ^ e else m) 0

/-- AGREE (R414): this device's references for its peers that are PROBATION or QUALIFIED. -/
def agreeByte (s : State) : Nat := s.peerMask (fun l => s.qualified (32 + l))

/-- LINKED (R414): peers with a link in UP or ISOLATED. -/
def linkedByte (s : State) : Nat := s.peerMask (fun l => s.linkState l = 2 || s.linkState l = 3)

/-- The offset to peer e in a report, ps (R414). -/
def reportOffset (s : State) (e : Nat) : Nat :=
  match (s.linksTo e).find? (fun l => s.on (F.GFL_TT_VALID l)) with
  | some l => ofSigned 32 (clampI (-2147483647) 2147483647 (roundRat ((s.getI (F.GFL_TT_OFFSET l) : Rat) * 1000 / 65536)))
  | none => 0x80000000

/-- Bytes 0 to 63 of the station's report of a frame (R414), sent from core ns `t` on. -/
def seamReport (s : State) (page : Bool) (t : Nat) : Nat :=
  let flags := (if s.prov then 1 else 0) + 2 * s.get F.SEAM_STAT_MINORITY + 4 * s.get F.SEAM_STAT_CONT_ONLY
    + 8 * s.get F.SEAM_STAT_ROLLCALL
  let head := pack 0 [(0, 1, 0x5E), (1, 1, s.devid + (if page then 8 else 0)), (2, 2, bswap 2 (s.get F.SEAM_STAT_GEN)),
    (4, 1, s.publishedState), (5, 1, flags), (6, 1, s.agreeByte), (7, 1, s.linkedByte), (8, 8, bswap 8 t)]
  if page then head + 2 ^ 128 * concat 32 ((List.range 8).map (fun e => bswap 4 (s.reportOffset e)))
  else head + pack 0 [(16, 32, s.get F.STR_DIGEST_DIGEST), (48, 16, bswap 16 s.hif.feats)]

/-! ## Roll call (R417) -/

/-- A SEAM_ROLLCALL record (R420). -/
def rollRecord (s : State) (done cause : Nat) : State :=
  s.pevent 0x29 0 (pay [(20, 2, s.get F.SEAM_STAT_GEN), (22, 1, s.get F.SEAM_MEMBERS_MEMBERS), (23, 1, done), (24, 1, cause)])

/-- Roll call starts with a generation: cause 0 power-up, 1 attach, 2 removal, 3 higher GEN. -/
def rollStart (s : State) (gen cause : Nat) : State :=
  let s := (s.set F.SEAM_STAT_GEN gen).set F.SEAM_STAT_ROLLCALL 1
  let s := { s with seam := { s.seam with rcFrames := 0, rcSet := 0, rcCause := cause, restart := none } }
  (s.count 0x5D2).rollRecord 0 cause

/-- a is a higher generation than b, compared as signed 16-bit numbers. -/
def genAbove (a b : Nat) : Bool := decide (0 < toSigned 16 (a + 65536 - b % 65536))

/-- The generation of a restart for an attach or a removal: one above its own and every one heard. -/
def nextGen (s : State) : Nat :=
  let own := s.get F.SEAM_STAT_GEN
  ((if genAbove s.seam.maxGen own then s.seam.maxGen else own) + 1) % 65536

/-- Roll call completes after 64 unchanged frames. DEDUCED: its record carries the cause of its start, which R420's payload
does not say of a completion. -/
def rollComplete (s : State) : State :=
  let s := { s with seam := { s.seam with gone := 0 } }
  ((s.set F.SEAM_MEMBERS_MEMBERS s.seam.rcSet).set F.SEAM_STAT_ROLLCALL 0).rollRecord 1 s.seam.rcCause

/-! ## Frames (R413, R416, R419) -/

/-- Members that a test picks. -/
def countBits (m : Nat) : Nat := ([0, 1, 2, 3, 4, 5, 6, 7].filter (fun i => bitOf m i)).length

/-- MINORITY (R419): among the other members whose aligned reports name this device, more clear its AGREE bit than set it,
with at least two of them. -/
def judgeMinority (s : State) : State :=
  let d := s.devid
  let named := [0, 1, 2, 3, 4, 5, 6, 7].filter (fun e => e ≠ d && bitOf (s.get F.SEAM_MEMBERS_MEMBERS) e && bitOf s.seam.heard e
    && !bitOf s.seam.bad e && bitOf (s.get (F.SEAM_PEER_LINKED e)) d)
  let against := named.filter (fun e => !bitOf (s.get (F.SEAM_PEER_AGREE e)) d)
  let n := against.length
  let a := named.length - n
  let now := decide (2 ≤ named.length) && decide (a < n)
  let s := s.set F.SEAM_MEMBERS_AGAINST (against.foldl (fun m e => m + 2 ^ e) 0)
  if now == s.on F.SEAM_STAT_MINORITY then s
  else
    ((s.setB F.SEAM_STAT_MINORITY now).pevent 0x2B 0 (pay [(20, 1, if now then 1 else 0), (21, 1, a), (22, 1, n)])).pairSettle 0

/-- The frame that ends is judged: silences, alignment, the roll call's count. -/
def frameEnd (s : State) : State :=
  let x := s.seam
  let h := x.heard ||| 2 ^ s.devid
  let s := [0, 1, 2, 3, 4, 5, 6, 7].foldl (fun (s : State) d =>
    if bitOf h d then s.set (F.SEAM_PEER_AGE d) 0 else s.set (F.SEAM_PEER_AGE d) (satN 8 (s.get (F.SEAM_PEER_AGE d) + 1))) s
  let s := s.set F.SEAM_MEMBERS_HEARD h
  let mis := decide (x.bad ≠ 0)
  let s := if x.judged && mis then s.count 0x5D3 else s
  let x := if !x.judged then x
    else { x with misRun := if mis then x.misRun + 1 else 0, okRun := if mis then 0 else x.okRun + 1 }
  let x := if !s.on F.SEAM_STAT_ROLLCALL then x
    else if x.genBad then { x with rcFrames := 0, rcSet := h }
    else if x.rcFrames ≠ 0 && x.rcSet = h then { x with rcFrames := x.rcFrames + 1 }
    else { x with rcFrames := 1, rcSet := h }
  let s := { s with seam := { x with gone := x.gone - (x.gone &&& h) } }
  s.judgeMinority

/-- The own report of a frame: in its slot, or as a REPORT contention message in contention-only mode (R414, R416). -/
def ownReport (s : State) (t : Nat) : State :=
  let page := t / 125000 % 2 = 1
  if s.on F.SEAM_STAT_CONT_ONLY then
    let m : SeamMsg := ⟨s.devid, 0, true, 64, 1, s.seamReport page s.short⟩
    { s with seam := { s.seam with report := some ⟨m, 0, none⟩ } }
  else s.emitOut (.seamReport (s.seamReport page (t + 10000 * s.devid + 1200)))

/-- A frame begins (R413). `conflict`: the station's own slot reads back a mismatch (R418). `jump`: the core has moved forward
since the last frame began, so that this one is not judged. -/
def seamFrame (s : State) (conflict : Bool) : State :=
  if !s.seamOn then s
  else
    let s := if s.seam.frameAt.isSome then s.frameEnd else s
    let t := s.ns / 125000 * 125000
    let jump := match s.seam.frameAt with
      | some a => decide (a + 125000 ≠ t)
      | none => false
    let s := { s with seam := { s.seam with frameAt := some t, judged := !jump, heard := 0, bad := 0, genBad := false } }
    let s := match s.seam.restart with
      | some c => s.rollStart s.nextGen c
      | none => s
    let s := s.set F.SEAM_MEMBERS_AGREE s.agreeByte
    let s := s.ownReport t
    if conflict && !s.on F.SEAM_STAT_CONT_ONLY then (s.set F.SEAM_STAT_DEVID_CONFLICT 1).srcAnomaly 7
    else s.set F.SEAM_STAT_DEVID_CONFLICT 0

/-! ## Reports (R414, R416, R417) -/

/-- A report's contents go to the peer's registers. -/
def putReport (s : State) (d v : Nat) : State :=
  let b (i n : Nat) : Nat := cellBytes v i n
  let s := ((s.set (F.SEAM_PEER_STATE d) (b 4 1)).set (F.SEAM_PEER_FLAGS d) (b 5 1)).set (F.SEAM_PEER_AGE d) 0
  let s := ((s.set (F.SEAM_PEER_GEN d) (wireBytes v 2 2)).set (F.SEAM_PEER_AGREE d) (b 6 1)).set (F.SEAM_PEER_LINKED d) (b 7 1)
  if bitOf (b 1 1) 3 then
    (List.range 8).foldl (fun (s : State) e => s.set (F.SEAM_PEER_OFS_OFFSET d e) (wireBytes v (16 + 4 * e) 4)) s
  else (s.set (F.SEAM_PEER_DIGEST d) (b 16 32)).set (F.SEAM_PEER_FEATURES d) (wireBytes v 48 16)

/-- A report whose CRC holds is received: its first symbol came at short time `at_`. -/
def seamReportIn (s : State) (v at_ : Nat) : State :=
  let d := cellBytes v 1 1 % 8
  if cellBytes v 0 1 ≠ 0x5E || d = s.devid then s
  else
    let lim := s.get F.SEAM_CFG_ALIGN_LIM
    let off := (sdiff (wireBytes v 8 8) at_).natAbs
    let slot := match s.seam.frameAt with
      | some t => (sdiff ((t + 10000 * d + 1200) % 2 ^ 64) at_).natAbs
      | none => 0
    let bad := decide (lim < off) || (!s.on F.SEAM_STAT_CONT_ONLY && decide (lim < slot))
    let gen := wireBytes v 2 2
    let own := s.get F.SEAM_STAT_GEN
    let rolling := s.on F.SEAM_STAT_ROLLCALL
    let strange := if rolling then s.seam.rcFrames ≠ 0 && !bitOf s.seam.rcSet d else !bitOf (s.get F.SEAM_MEMBERS_MEMBERS) d
    let s := s.putReport d v
    let x := s.seam
    let x := { x with heard := x.heard ||| 2 ^ d, bad := if bad then x.bad ||| 2 ^ d else x.bad
                      maxGen := if genAbove gen x.maxGen then gen else x.maxGen, genBad := x.genBad || gen ≠ own
                      restart := if strange then x.restart.orElse (fun _ => some 1) else x.restart }
    let s := { s with seam := x }
    -- a higher GEN is adopted at once, and the frame goes on under it
    if genAbove gen own then
      let s := s.rollStart gen 3
      { s with seam := { s.seam with genBad := false } }
    else s

/-! ## Contention messages (R415) -/

/-- Time of a message on the bus, ns: 8 bytes besides its payload, 100 ns each. -/
def msgNs (m : SeamMsg) : Nat := 100 * (m.len + 8)

/-- The window is open at core ns t and the message ends 1 µs before it closes. -/
def windowFits (s : State) (m : SeamMsg) (t : Nat) : Bool :=
  match s.seam.frameAt with
  | some f =>
    let p := t - f
    (s.on F.SEAM_STAT_CONT_ONLY || 80000 ≤ p) && decide (p + msgNs m + 1000 ≤ 125000)
  | none => false

/-- The core ns at which r ns of contention window have passed from now on (R415). -/
def windowAfter (s : State) (r : Nat) : Nat :=
  if s.on F.SEAM_STAT_CONT_ONLY then s.ns + r
  else
    let f := s.seam.frameAt.getD s.ns
    let start := max (s.ns - f) 80000
    let room := 125000 - start
    if r ≤ room then f + start + r
    else let q := r - room; f + 125000 * ((q - 1) / 45000 + 1) + 80000 + ((q - 1) % 45000 + 1)

/-- A host message ends: RESULT 1 SENT, 2 DROPPED, 3 REFUSED (R420). -/
def txDone (s : State) (r tries : Nat) : State :=
  let s := (s.set F.SEAM_TX_ST_RESULT r).set F.SEAM_TX_ST_ATTEMPTS tries
  s.pevent 0x2D 0 (pay [(20, 1, r), (21, 1, tries)])

/-- The message that waits. -/
def seamTx (s : State) (report : Bool) : Option SeamTx := if report then s.seam.report else s.seam.host

/-- It is replaced; PENDING shows a host message. -/
def setSeamTx (s : State) (report : Bool) (x : Option SeamTx) : State :=
  if report then { s with seam := { s.seam with report := x } }
  else { s with seam := { s.seam with host := x } }.setB F.SEAM_TX_ST_PENDING x.isSome

/-- SEAM_TX_CTL.SEND (R415, R420): SEAM_TX_DATA becomes one HOST message. -/
def seamSend (s : State) : State :=
  let m : SeamMsg :=
    { src := s.devid, dst := s.get F.SEAM_TX_CTL_DST, bcast := s.on F.SEAM_TX_CTL_BCAST, len := s.get F.SEAM_TX_CTL_LEN
      kind := 0, payload := s.regs.join (F.SEAM_TX_DATA_DATA 0).a 32 % 2 ^ (8 * s.get F.SEAM_TX_CTL_LEN) }
  if s.seam.host.isSome || s.on (F.ASY_SRC_ST_FAULT 7) then s.txDone 3 0
  else s.setSeamTx false (some ⟨m, 0, none⟩)

/-- A waiting message is sent if the window has room for it. `clash`: a symbol reads back differently. -/
def contend (s : State) (report clash : Bool) : State :=
  match (if s.seamOn then s.seamTx report else none) with
  | some x =>
    if x.wait.isSome || !s.windowFits x.msg s.ns || (!report && s.on (F.ASY_SRC_ST_FAULT 7)) then s
    else if !clash then
      -- a report's SEND_T is its own first symbol's (R414, R416)
      let m := if report then { x.msg with payload := putBytes x.msg.payload 8 8 (bswap 8 s.short) } else x.msg
      let s := (s.emitOut (.seamMsg m)).setSeamTx report none
      if report then s else s.txDone 1 (x.tries + 1)
    else
      let n := x.tries + 1
      let s := (s.count 0x5D0).srcAnomaly 7
      if 16 ≤ n then
        let s := ((s.setSeamTx report none).add F.SEAM_TX_ST_DROPS 1).count 0x5D1
        if report then s else s.txDone 2 n
      else
        let k := Config.freeNat s.draws % 2 ^ min n 10
        s.draw.setSeamTx report (some { x with tries := n, wait := some (s.windowAfter (1000 * k)) })
  | none => s

/-- A contention message whose CRC holds is received (R415, R416, R420). -/
def seamMsgIn (s : State) (m : SeamMsg) (at_ : Nat) : State :=
  if m.kind = 1 then s.seamReportIn m.payload at_
  else if m.kind ≠ 0 || !(m.bcast || m.dst = s.devid) then s
  else match (List.range 16).find? (fun j => !s.on (F.SEAM_RX_FULL j)) with
    | some j =>
      let s := ((s.set (F.SEAM_RX_FULL j) 1).set (F.SEAM_RX_SRC j) m.src).setB (F.SEAM_RX_BCAST j) m.bcast
      let s := ((s.set (F.SEAM_RX_LEN j) m.len).set (F.SEAM_RX_SHORT j) at_).set (F.SEAM_RX_DATA j) (m.payload % 2 ^ (8 * m.len))
      s.pevent 0x2C 0 (pay [(20, 1, j), (21, 1, m.src), (22, 1, m.len)])
    | none => s.addSat F.SEAM_TX_ST_RX_LOST 1

/-- SEAM_RX_ACK (R420). -/
def rxAck (s : State) (mask : Nat) : State :=
  (List.range 16).foldl (fun (s : State) j => if bitOf mask j then s.set (F.SEAM_RX_FULL j) 0 else s) s

/-- A change of mode (R416). -/
def seamMode (s : State) (cont : Bool) : State :=
  let s := { s with seam := { s.seam with misRun := 0, okRun := 0, report := none } }
  (s.setB F.SEAM_STAT_CONT_ONLY cont).pevent 0x2A 0 (pay [(20, 1, if cont then 1 else 0)])

/-- A posted write that meets BUSY is lost (R365). -/
def postLost (s : State) (a : Nat) : State := (s.flagErr 0 7 a true).addSat F.SYS_POST_LOST_COUNT 1 |>.count 0x016

end State

/-- SEAM_SEND (R415): SEAM_TX_CTL is written with SEND, a destination and a length. -/
def execSeamSend (dst : Nat) (bcast : Bool) (len : Nat) (s : State) : Host.Outcome State Fault Refusal :=
  .next (s.awake (fun s =>
    if s.seamBusy then s.postLost F.SEAM_TX_CTL_SEND.a
    else if 128 < len then s.flagErr 0 8 F.SEAM_TX_CTL_SEND.a true
    else ((s.set F.SEAM_TX_CTL_DST dst).setB F.SEAM_TX_CTL_BCAST bcast).set F.SEAM_TX_CTL_LEN len |>.seamSend))

/-- SEAM_RX_ACK (R420): the named receive buffers are freed. -/
def execSeamRxAck (mask : Nat) (s : State) : Host.Outcome State Fault Refusal :=
  .next (s.awake (fun s => if s.seamBusy then s.postLost F.SEAM_RX_ACK_MASK.a else s.rxAck mask))

/-- SEAM_REPORT_RECEIVE (R414, R416): a station's 64 report bytes, the verdict on its CRC, the short time of its first
symbol. -/
def execSeamReportReceive (v : Nat) (crcOk : Bool) (at_ : Nat) (s : State) : Host.Outcome State Fault Refusal :=
  .next (if s.seamOn && crcOk then s.seamReportIn v at_ else s)

/-- SEAM_MSG_RECEIVE (R415, R420). -/
def execSeamMsgReceive (m : SeamMsg) (crcOk : Bool) (at_ : Nat) (s : State) : Host.Outcome State Fault Refusal :=
  .next (if s.seamOn && crcOk && m.len ≤ 128 then s.seamMsgIn m at_ else s)

/-- SEAM_CONTENTION_SEND (R415): the bus has been idle for 1 µs and the station sends its host message or its report. -/
def execSeamContentionSend (report clash : Bool) (s : State) : Host.Outcome State Fault Refusal := .next (s.contend report clash)

/-- SEAM_BACKOFF_END (R415). -/
def execSeamBackoffEnd (report : Bool) (s : State) : Host.Outcome State Fault Refusal :=
  .next (match s.seamTx report with
    | some x =>
      match x.wait with
      | some t => if s.time.running then (s.runTo t).setSeamTx report (some { x with wait := none }) else s
      | none => s
    | none => s)

/-- MEMBER_SILENT (R417): a member not heard for 8 consecutive frames; the roll call restarts at this frame boundary. -/
def execMemberSilent (d : Nat) (s : State) : Host.Outcome State Fault Refusal :=
  .next (
    if s.seamOn && d < 8 && bitOf (s.get F.SEAM_MEMBERS_MEMBERS) d && 8 ≤ s.get (F.SEAM_PEER_AGE d) && !bitOf s.seam.gone d then
      { s with seam := { s.seam with gone := s.seam.gone ||| 2 ^ d } }.rollStart s.nextGen 2
    else s)

/-- ROLLCALL_COMPLETE (R417): 64 consecutive frames with an unchanged heard set under one GEN. -/
def execRollcallComplete (s : State) : Host.Outcome State Fault Refusal :=
  .next (if s.seamOn && s.on F.SEAM_STAT_ROLLCALL && 64 ≤ s.seam.rcFrames then s.rollComplete else s)

/-- CONT_ONLY_ENTER (R416): 8 consecutive misaligned frames. -/
def execContOnlyEnter (s : State) : Host.Outcome State Fault Refusal :=
  .next (if s.seamOn && !s.on F.SEAM_STAT_CONT_ONLY && 8 ≤ s.seam.misRun then s.seamMode true else s)

/-- SLOTTED_RETURN (R416): 64 consecutive aligned frames. -/
def execSlottedReturn (s : State) : Host.Outcome State Fault Refusal :=
  .next (if s.seamOn && s.on F.SEAM_STAT_CONT_ONLY && 64 ≤ s.seam.okRun then s.seamMode false else s)

end Sys2Proof.Machine
end

