-- ==== Sys2Proof/Machine/Gnss.lean ====
section
/-!
DEFINITION. Sys2Proof/Machine/Gnss.lean: the GNSS baseband: sample inputs, antennas, tracking channels, acquisition, the
measurement epoch, the timing solution and dormant tracking (R102 to R126, R137, R183).
-/

namespace Sys2Proof.Machine

namespace State

/-! ## Signals (R103, R104) -/

/-- Band of a signal: 0 L1, 1 L5, 2 G1. -/
def sigBand (sig : Nat) : Nat := if sig = 2 ∨ sig = 4 ∨ sig = 6 then 1 else if sig = 7 then 2 else 0

/-- Largest SVID of a signal. -/
def sigMax (sig : Nat) : Nat := ([32, 32, 32, 36, 36, 63, 63, 24] : List Nat).getD sig 0

/-- System of a signal: 0 GPS, 1 Galileo, 2 BeiDou, 3 GLONASS. -/
def sigSys (sig : Nat) : Nat := ([0, 0, 0, 1, 1, 2, 2, 3] : List Nat).getD sig 0

/-- Length of a signal's primary code, ms. -/
def sigMs (sig : Nat) : Nat := ([1, 10, 1, 4, 1, 10, 1, 1] : List Nat).getD sig 1

/-- Chips of a signal's primary code. -/
def sigChips (sig : Nat) : Nat := ([1023, 10230, 10230, 4092, 10230, 10230, 10230, 511] : List Nat).getD sig 1023

/-- The signal is served with the features in force (R104). -/
def sigServed (s : State) (sig : Nat) : Bool := sig < 8 && (s.feat 10 || sigBand sig ≠ 1)

/-! ## Channels (R109, R111) -/

/-- A channel that has done nothing. -/
def gnsCh0 : GnsCh :=
  { fcn := 0, next := none, codeLock := false, carrLock := false, halfCyc := false, slip := false, cn0 := 0, since := 0
    lockSince := none, lowSince := none, intAt := 0, handed := none }

/-- A channel's own state. -/
def gnsCh (s : State) (c : Nat) : GnsCh := (alGet s.gns.chs c).getD gnsCh0

/-- The state with a channel's own state replaced. -/
def setGnsCh (s : State) (c : Nat) (x : GnsCh) : State := { s with gns := { s.gns with chs := alSet s.gns.chs c x } }

/-- State of a channel: 0 IDLE, 1 ACQ, 2 PULL, 3 TRACK, 4 LOST, 5 DORMANT. -/
def chState (s : State) (c : Nat) : Nat := s.get (F.GNS_CH_STAT_STATE c)

/-- Every channel number. -/
def gnsAll : List Nat := List.range 256

/-- The live assignment of a channel; SVID 0 holds none. -/
def chPair (s : State) (c : Nat) : Nat × Nat := (s.get (F.GNS_CH_STAT_SIG c), s.get (F.GNS_CH_STAT_SVID c))

/-- Since when every enabled channel has been out of TRACK (R113). -/
def noteLost (s : State) : State :=
  let any := gnsAll.any (fun c => s.chState c ≠ 0)
  let track := gnsAll.any (fun c => s.chState c = 3)
  let v := if !any || track then none else match s.gns.lostSince with
    | some t => some t
    | none => some s.ns
  { s with gns := { s.gns with lostSince := v } }

/-- A channel changes state (R111). An AUTO channel that returns to ACQ releases its assignment. -/
def chMove (s : State) (c new : Nat) : State :=
  let x := s.gnsCh c
  let s := s.set (F.GNS_CH_STAT_STATE c) new
  let s := if (new = 1 && s.on (F.GNS_CH_CFG_AUTO c)) || new = 0 then
    (s.set (F.GNS_CH_STAT_SIG c) 0).set (F.GNS_CH_STAT_SVID c) 0 else s
  let s := if new = 4 then s.count 0x18D else s
  (s.setGnsCh c { x with
    next := none, since := s.ns, intAt := s.ns, lockSince := none, lowSince := none
    codeLock := x.codeLock && decide (new = 3), carrLock := x.carrLock && decide (new = 3), slip := x.slip || decide (new = 2) }).noteLost

/-- A channel is to change state at its next integration boundary (R111). A change to IDLE that waits gives way only to a new
enable, a change to LOST only to IDLE or ACQ. -/
def chRequest (s : State) (c new : Nat) : State :=
  let x := s.gnsCh c
  if (x.next = some 0 && new ≠ 1) || (x.next = some 4 && 2 ≤ new) then s else s.setGnsCh c { x with next := some new }

/-- Integration time of a channel, ms (R110): TCOH rounded up to whole code periods; 1 ms for L1 C/A and L1OF until bit
synchronisation. -/
def integMs (s : State) (c : Nat) : Nat :=
  let sig := s.get (F.GNS_CH_STAT_SIG c)
  if (sig = 0 || sig = 7) && !s.on (F.GNS_CH_STAT_BITSYNC c) then 1
  else ceilDiv (s.get (F.GNS_CH_CFG_TCOH c)) (sigMs sig) * sigMs sig

/-- The channels that an input failure or an antenna removal takes: those that track (R106, R108). -/
def chTracks (s : State) (c : Nat) : Bool := s.chState c = 2 || s.chState c = 3 || s.chState c = 5

/-- Every tracking channel on some sample inputs goes to LOST. -/
def loseInputs (s : State) (p : Nat → Bool) : State :=
  gnsAll.foldl (fun s c => if s.chTracks c && p (s.get (F.GNS_CH_CFG_GSI c)) then s.chRequest c 4 else s) s

/-- A sample input in use: enabled, its clock good (R106). -/
def gsiUsed (s : State) (i : Nat) : Bool :=
  s.on (F.GNS_GSI_CFG_EN i) && s.on (F.GNS_GSI_STAT_CLK_OK i) && !s.on (F.GNS_GSI_STAT_RATE_ERR i) && s.pdUp 12

/-- A detection is handed over (R109, R114): to the LOST channel that holds the pair, or another that waits in ACQ with it;
else to the lowest-numbered free AUTO channel in ACQ. A pair that a channel tracks already is not handed twice; a detection
with no free channel is discarded and counted. `fcn` is the FCN of an L1OF satellite. -/
def handDetection (s : State) (sig svid : Nat) (fcn : Int) : State :=
  let s := (s.addSat F.GNS_SRCH_STAT_DET 1).count 0x184
  let holds (c : Nat) : Bool := s.chPair c = (sig, svid)
  let waits (c : Nat) : Bool := (s.chState c = 1 || s.chState c = 4) && ((s.gnsCh c).next).isNone
  match gnsAll.find? holds with
  | some c => if waits c then (s.setGnsCh c { s.gnsCh c with handed := some s.ns }).chRequest c 2 else s
  | none =>
    match gnsAll.find? (fun c => waits c && s.chState c = 1 && s.on (F.GNS_CH_CFG_AUTO c) && (s.chPair c).2 = 0) with
    | some c =>
      let s := (s.set (F.GNS_CH_STAT_SIG c) sig).set (F.GNS_CH_STAT_SVID c) svid
      (s.setGnsCh c { s.gnsCh c with handed := some s.ns, fcn := if sig = 7 then ofSigned 4 fcn else 0 }).chRequest c 2
    | none => (s.addSat F.GNS_SRCH_STAT_DROP 1).count 0x186

/-! ## The serial search (R113 to R115) -/

/-- The search takes the signal: selected and served. -/
def sigSearched (s : State) (sig : Nat) : Bool := bitOf (s.get F.GNS_SRCH_CFG_SIGS) sig && s.sigServed sig

/-- An input of the signal's band is in use. -/
def sigHeard (s : State) (sig : Nat) : Bool :=
  [0, 1, 2, 3].any (fun i => s.gsiUsed i && s.get (F.GNS_GSI_CFG_BAND i) = sigBand sig)

/-- A pair that a channel holds in PULL or TRACK is skipped. -/
def pairHeld (s : State) (sig svid : Nat) : Bool :=
  gnsAll.any (fun c => (s.chState c = 2 || s.chState c = 3) && s.chPair c = (sig, svid))

/-- Every satellite of a pass, in order. -/
def passPairs : List (Nat × Nat) :=
  (List.range 8).flatMap (fun sig => (List.range (sigMax sig)).map (fun v => (sig, v + 1)))

/-- The first satellite to search after a place in the order. -/
def nextSat (s : State) (after : Option (Nat × Nat)) : Option (Nat × Nat) :=
  passPairs.find? (fun p => (match after with
    | some a => decide (a.1 < p.1 ∨ (a.1 = p.1 ∧ a.2 < p.2))
    | none => true) && s.sigSearched p.1 && !s.pairHeld p.1 p.2)

/-- The search moves to the satellite after a place; past the last one the pass ends (R114). -/
def searchFrom (s : State) (after : Option (Nat × Nat)) : State :=
  match s.nextSat after with
  | some p => { s with gns := { s.gns with pos := some ⟨p.1, p.2, 0, 0, false, s.ns⟩ } }
  | none => { (s.set F.GNS_SRCH_STAT_STATE 0).count 0x183 with gns := { s.gns with pos := none } }.set F.GNS_STAT_SRCH_RUN 0

/-- Dormant tracking in force (R125): asked for, or on the standby of a pair. -/
def dormantWanted (s : State) : Bool :=
  s.on F.GNS_DORM_CFG_EN || (s.on F.GNS_DORM_CFG_STBY && s.get F.PAIR_STAT_ROLE = 1)

/-- A cause of the serial search suspends dormant tracking: tracking is continuous, and no burst is on (R126). -/
def suspendDormant (s : State) : State :=
  if s.dormantWanted then { s.set F.GNS_STAT_DORMANT 0 with gns := { s.gns with suspended := true, burst := false } } else s

/-- Dormant tracking in force and not suspended. -/
def dormantOn (s : State) : Bool := s.dormantWanted && !s.gns.suspended

/-- Between the bursts of dormant tracking, correlators and acquisition engines are gated (R125). -/
def gnsGated (s : State) : Bool := s.dormantOn && !s.gns.burst

/-- The serial search starts from its first satellite with a cause (R113); it suspends dormant tracking (R126). START_UP and
ALL_LOST are ignored while a search runs. -/
def searchStart (s : State) (cause : Nat) : State :=
  if !s.pdUp 12 || ((cause = 0 || cause = 2) && s.get F.GNS_SRCH_STAT_STATE ≠ 0) then s
  else
    let s := (((s.set F.GNS_SRCH_STAT_STATE 1).set F.GNS_SRCH_STAT_CAUSE cause).set F.GNS_SRCH_STAT_DET 0).set F.GNS_STAT_SRCH_RUN 1
    ({ s with gns := { s.gns with settle := none } } : State).suspendDormant.searchFrom none

/-- The search stops (R113). -/
def searchStop (s : State) : State :=
  { (s.set F.GNS_SRCH_STAT_STATE 0).set F.GNS_STAT_SRCH_RUN 0 with gns := { s.gns with pos := none, settle := none } }

/-- The aided engine's conditions on position and time (R112). Validity of the satellite's ephemeris is known to the
program. -/
def aidedReady (s : State) : Bool :=
  let pos := s.get F.GNS_POS_CFG_MODE = 1 || (s.on F.GNS_SOL_VALID && s.on F.GNS_SOL_SURVEYING)
  let claim := if s.on F.GNS_SOL_VALID then ofFloat (s.get F.GNS_SOL_CLAIM) else unb
  let m := s.get F.GNS_AID_CFG_AID_TEB_MAX
  pos && m ≠ 0 && decide (min (s.coreTeb) claim ≤ m * 100000)

/-- START_UP (R113): the domain is on with an input enabled, and the aided engine cannot run. -/
def gnsStartUp (s : State) : State :=
  if s.pdUp 12 && [0, 1, 2, 3].any (fun i => s.on (F.GNS_GSI_CFG_EN i)) && !s.aidedReady then s.searchStart 0 else s

/-- Doppler bins of a satellite: −DOPP to +DOPP in steps of BIN (R114). -/
def dopplerBins (s : State) : Nat := 2 * (s.get F.GNS_SRCH_CFG_DOPP * 100) / (s.get F.GNS_SRCH_CFG_BIN * 50) + 1

/-- Dwells that cover a satellite's code: half-chip cells, 2,048 a dwell (R114). -/
def codeSegs (sig : Nat) : Nat := ceilDiv (2 * sigChips sig) 2048

/-- The search moves to the dwell after the present one. -/
def nextDwell (s : State) (p : SrchPos) : State :=
  if p.seg + 1 < codeSegs p.sig then
    { s with gns := { s.gns with pos := some { p with seg := p.seg + 1, check := false, since := s.ns } } }
  else if p.bin + 1 < s.dopplerBins then
    { s with gns := { s.gns with pos := some { p with seg := 0, bin := p.bin + 1, check := false, since := s.ns } } }
  else s.searchFrom (some (p.sig, p.svid))

/-- A dwell of the serial search ends (R114) with the largest peak-to-mean ratio of its cells in 0.5 dB units, which is held to
THR; an input of the band must be in use. Its time is carried to the end of NONCOH sums of 1 ms. -/
def searchDwell (s : State) (ratio : Nat) (fcn : Int) : State :=
  match s.gns.pos with
  | some p =>
    if s.get F.GNS_SRCH_STAT_STATE = 1 then
      let s := s.runTo (p.since + s.get F.GNS_SRCH_CFG_NONCOH * 1000000)
      let hit := decide (s.get F.GNS_SRCH_CFG_THR ≤ ratio) && s.sigHeard p.sig
      if p.check then
        let s := if hit then s.handDetection p.sig p.svid fcn else s
        s.nextDwell p
      else if hit then { s with gns := { s.gns with pos := some { p with check := true, since := s.ns } } }
      else s.nextDwell p
    else s
  | none => s

/-! ## Antennas (R108, R115, R116) -/

/-- A sensor's own state. -/
def ant (s : State) (a : Nat) : AntSt := (alGet s.gns.ants a).getD ⟨0, 0, 0, false, 0, 0⟩

/-- The state with a sensor's own state replaced. -/
def setAnt (s : State) (a : Nat) (x : AntSt) : State := { s with gns := { s.gns with ants := alSet s.gns.ants a x } }

/-- The input belongs to the antenna. -/
def gsiOfAnt (s : State) (a i : Nat) : Bool := s.get (F.GNS_GSI_CFG_ANT i) = a

/-- The serial search uses an input: enabled, of the band of a signal it takes. -/
def inputOf (s : State) (i : Nat) : Bool :=
  s.on (F.GNS_GSI_CFG_EN i) &&
    (List.range 8).any (fun g => bitOf (s.get F.GNS_SRCH_CFG_SIGS) g && sigBand g = s.get (F.GNS_GSI_CFG_BAND i))

/-- A channel tracks the satellite on another band (R112). -/
def satTracked (s : State) (sig svid : Nat) : Bool :=
  gnsAll.any (fun c => s.chState c = 3 && (s.chPair c).2 = svid && sigSys (s.chPair c).1 = sigSys sig &&
    sigBand (s.chPair c).1 ≠ sigBand sig)

/-- The serial search uses an input of the antenna (R115). -/
def searchOn (s : State) (a : Nat) : Bool := [0, 1, 2, 3].any (fun i => s.gsiOfAnt a i && s.inputOf i)

/-- Detections handed to channels of the antenna since a core ns are discarded with the cells of the aborted pass (R115): such a
channel waits in ACQ again. -/
def recallHits (s : State) (a since : Nat) : State :=
  gnsAll.foldl (fun s c =>
    let x := s.gnsCh c
    if s.gsiOfAnt a (s.get (F.GNS_CH_CFG_GSI c)) && x.handed.any (fun t => decide (since ≤ t)) &&
        (s.chState c = 2 || (s.chState c = 1 && x.next = some 2)) then s.setGnsCh c { x with next := some 1, handed := none }
    else s) s

/-- A confirmed change of antenna a during a pass that uses it aborts the pass (R115): ABORTS counts it, and what it found since
the first differing sample is discarded. The search then waits in SETTLE. -/
def abortPass (s : State) (a : Nat) : State :=
  let s := if s.get F.GNS_SRCH_STAT_STATE = 1 && s.searchOn a then
      ((s.add F.GNS_SRCH_STAT_ABORTS 1).count 0x185).recallHits a (s.ant a).first else s
  { s.set F.GNS_SRCH_STAT_STATE 2 with gns := { s.gns with pos := none, settle := none } }.set F.GNS_STAT_SRCH_RUN 1

/-- Records latched in this very cycle carry ANT_CHG when an antenna change is confirmed in it (R120). -/
def markAntChg (s : State) (a : Nat) : State :=
  match s.gns.latch with
  | some (_, cyc) =>
    if cyc = s.time.cyc then
      let b := s.get F.GNS_EPOCH_ST_BANK
      gnsAll.foldl (fun s c =>
        if s.gsiOfAnt a (s.get (F.GNS_CH_CFG_GSI c)) then
          let r := s.get (F.GNS_MEAS_RECORD b c)
          if bitOf r 215 then s else s.set (F.GNS_MEAS_RECORD b c) (r + 2 ^ 215)
        else s) s
    else s
  | none => s

/-- A confirmed change of a sensor's state (R108, R113, R115, R116). -/
def antChange (s : State) (a old new : Nat) : State :=
  let x := s.ant a
  let s := ((s.set (F.GNS_ANT_STAT_STATE a) new).add (F.GNS_ANT_STAT_CHANGES a) 1).count (0x187 + a)
  let s := s.markAntChg a
  if old = 2 then
    -- removal
    let s := s.setAnt a { x with removed := true }
    let s := (s.loseInputs (s.gsiOfAnt a)).anomaly 28 2
    if s.get F.GNS_SRCH_STAT_STATE ≠ 0 && s.searchOn a then s.abortPass a else s
  else if new = 2 && old ≠ 0 then
    -- attach
    let fin := s.ns + s.get (F.GNS_ANT_CFG_SETTLE a) * 1000000
    let s := s.setAnt a { x with removed := false, settleEnd := fin }
    let s := if x.removed then (s.set (F.GNS_ANT_STAT_DLY_UNCONF a) 1).anomaly 28 7 else s
    let s := (s.abortPass a).suspendDormant
    { s with gns := { s.gns with settle := some fin } }
  else s

/-- Class of a current in 0.1 mA: 1 OPEN, 2 OK, 3 SHORT (R108). -/
def antClass (s : State) (a current : Nat) : Nat :=
  if current < s.get (F.GNS_ANT_CFG_I_OPEN a) * 5 then 1
  else if s.get (F.GNS_ANT_CFG_I_SHORT a) * 5 < current then 3 else 2

/-- One sample of a sensor; a new state is confirmed at the third in a row (R108). -/
def antSample (s : State) (a current : Nat) : State :=
  if a < 2 && s.on (F.GNS_ANT_CFG_EN a) && s.pdUp 12 then
    let s := s.set (F.GNS_ANT_STAT_CURRENT a) (satN 13 current)
    let cls := s.antClass a current
    let old := s.get (F.GNS_ANT_STAT_STATE a)
    let x := s.ant a
    if cls = old then s.setAnt a { x with cand := cls, run := 0, quietAt := if 0 < x.run then s.ns else x.quietAt }
    else
      let run := if x.cand = cls then x.run + 1 else 1
      let first := if run = 1 then s.ns else x.first
      let s := s.setAnt a { x with cand := cls, run := if run = 3 then 0 else run, first := first, quietAt := s.ns }
      if run = 3 then s.antChange a old cls else s
  else s

/-- A window of the aided engine on an input that began `dur` ns ago overlaps an interval from a first differing sample to the end
of SETTLE (R115). -/
def antUnsettled (s : State) (i dur : Nat) : Bool :=
  let a := s.get (F.GNS_GSI_CFG_ANT i)
  let x := s.ant a
  s.on (F.GNS_ANT_CFG_EN a) && (decide (0 < x.run) || s.get (F.GNS_ANT_STAT_STATE a) ≠ 2 || decide (s.ns < max x.settleEnd x.quietAt + dur))

/-! ## The measurement epoch (R117 to R120) -/

/-- VALID of a record (R119). -/
def recValid (s : State) (c : Nat) : Bool :=
  s.chState c = 3 || (s.gns.burst && s.dormantOn && s.chState c = 2 && (s.gnsCh c).codeLock && (s.gnsCh c).carrLock)

/-- A measurement record (R118). -/
def gnsRecord (s : State) (caps : List GnsCap) (c : Nat) : Nat :=
  let x := s.gnsCh c
  let k := (caps.find? (fun k => k.ch = c)).getD ⟨c, 0, 0, 0, 0⟩
  let inBurst := s.gns.burst && s.dormantOn
  let b (v : Bool) (i : Nat) : Nat := if v then 2 ^ i else 0
  let flags := b (s.recValid c) 0 + b x.codeLock 1 + b x.carrLock 2 + b x.halfCyc 3 + b (x.slip || inBurst) 4 + b inBurst 5 + b s.prov 6
  let ms := if s.chState c = 3 then satN 32 ((s.ns - x.since) / 1000000) else 0
  pack 0 [(0, 8, k.codePh), (8, 8, ofSigned 64 k.carrPh), (16, 4, ofSigned 32 k.doppler), (20, 2, x.cn0),
    (22, 1, (s.chPair c).1 + (if (s.chPair c).1 = 7 then 16 * x.fcn else 0)), (23, 1, (s.chPair c).2), (24, 2, k.codeCnt), (26, 1, flags), (27, 1, c), (28, 4, ms)]

/-- The latch of every channel (R117, R118); a firing less than 10 ms after the previous latch is skipped. -/
def gnsEpoch (s : State) (caps : List GnsCap) : State :=
  if !s.pdUp 12 then s
  else
    let soon := match s.gns.latch with | some (t, _) => decide (s.ns < t + 10000000) | none => false
    if soon then (s.add F.GNS_EPOCH_ST_SKIPPED 1).count 0x181
    else
      let b := s.get F.GNS_EPOCH_ST_SEQ % 2
      let n := (gnsAll.filter s.recValid).length
      let s0 := s
      let s := gnsAll.foldl (fun s c => s.set (F.GNS_MEAS_RECORD b c) (s0.gnsRecord caps c)) s
      let s := gnsAll.foldl (fun s c => if s0.recValid c && (s0.gnsCh c).slip then s.setGnsCh c { s0.gnsCh c with slip := false } else s) s
      let s := (((s.set F.GNS_EPOCH_ST_T s.short).add F.GNS_EPOCH_ST_SEQ 1).set F.GNS_EPOCH_ST_BANK b).set F.GNS_EPOCH_ST_NVALID n
      let s := (s.setB F.GNS_EPOCH_ST_PROV s.prov).count 0x180
      { s with gns := { s.gns with latch := some (s.ns, s.time.cyc), solDue := true } }

/-! ## The timing solution (R121 to R123, R137, R183) -/

/-- Bit 0 of FLAGS in a record, its satellite and its band: the bands of a satellite with VALID records in the latest bank. -/
def satBands (s : State) (sys svid : Nat) : List Nat :=
  let b := s.get F.GNS_EPOCH_ST_BANK
  gnsAll.filterMap (fun c =>
    let r := s.get (F.GNS_MEAS_RECORD b c)
    let sig := bitsOf r 176 4
    if bitOf r 208 && sigSys sig = sys && bitsOf r 184 8 = svid then some (sigBand sig) else none)

/-- A satellite has VALID records in both bands, with dual frequency in force (R104, R121). -/
def satDual (s : State) (x : GnsSat) : Bool :=
  let l := s.satBands x.sys x.svid
  s.feat 10 && l.contains 1 && l.any (fun b => b ≠ 1)

/-- Satellites of a system among some. -/
def ofSys (l : List GnsSat) (sys : Nat) : Nat := (l.filter (fun x => x.sys = sys)).length

/-- Satellites the solution needs (R121). -/
def solMin (s : State) : Nat := 4 + s.get F.GNS_POS_CFG_SOL_MIN

/-- ISB mode of a system; GPS has none. -/
def isbMode (s : State) (sys : Nat) : Nat := if sys = 0 then 0 else s.get (F.GNS_ISB_MODE (sys - 1))

/-- Uncertainty of a system's offset, ps (R123): the broadcast value's, or the estimate's; GPS has none. -/
def isbUnc (s : State) (f : GnsFix) (sys : Nat) : Nat :=
  match sys with
  | 0 => 0
  | k => if s.isbMode k = 1 then (if k = 1 then f.isbUnc.1 else if k = 2 then f.isbUnc.2.1 else f.isbUnc.2.2) else s.get (F.GNS_ISB_UNC (k - 1))

/-- Satellites of the systems that a solution may use (R123): EXCLUDE leaves a system out; ESTIMATE needs two satellites of the system
beyond SOL_MIN: two of its own, and two more than SOL_MIN in all (DEDUCED). -/
def usable (s : State) (l : List GnsSat) : List GnsSat :=
  let l := l.filter (fun x => s.isbMode x.sys ≠ 2)
  l.filter (fun x => s.isbMode x.sys ≠ 1 || (decide (2 ≤ ofSys l x.sys) && decide (s.solMin + 2 ≤ l.length)))

/-- The parts of a solution's claim (R183) over the satellites it uses: antenna delay, position, inter-system and residual terms,
each rounded up to 1 ps; none where it is unbounded. -/
def gnsParts (s : State) (f : GnsFix) (used : List GnsSat) (surveying : Bool) : Option ClaimParts :=
  let dual := used.any s.satDual
  let u (b : Nat) : Nat := s.get (F.GNS_ANT_DLY_UNC b)
  let bad (b : Nat) : Bool := u b = 2 ^ 32 - 1
  let pu := if surveying then f.posUnc else s.get F.GNS_POS_UNC_UNC
  let isbT := ([1, 2, 3].filter (fun k => used.any (fun x => x.sys = k))).foldl (fun m k => max m (s.isbUnc f k)) 0
  if (if dual then bad 0 || bad 1 else bad f.band) then none
  else some ⟨(if dual then ceilDiv (579 * u 0 + 323 * u 1) 256 else u f.band) + ceilDiv (3336 * pu) 1000 + isbT, false, false, !dual, f.resid, true⟩

/-- The claim of a solution, ps (R183). -/
def gnsClaim (s : State) (f : GnsFix) (used : List GnsSat) (surveying : Bool) : Nat :=
  match s.gnsParts f used surveying with
  | some p => s.claimOf { p with flt := false }
  | none => unb

/-! ### Assay engine 0's checks (R137) -/

/-- A satellite passes the cross-frequency test. -/
def xfreqOk (s : State) (x : GnsSat) : Bool := !s.satDual x || decide (-3000 ≤ x.iono ∧ x.iono ≤ 60000)

/-- Two systems agree: their times lie within SPOOF_K × (ISB UNC + CLAIM), with the larger UNC of the two (DESIGN CHOICE: the rule
speaks of one system and its UNC). -/
def sysAgree (s : State) (f : GnsFix) (claim a b : Nat) : Bool :=
  let t (k : Nat) : Int := (alGet f.sysTime k).getD 0
  decide ((t a - t b).natAbs ≤ s.get F.ASY_CHK_CFG_SPOOF_K * (max (s.isbUnc f a) (s.isbUnc f b) + claim))

/-- The groups of systems, as masks, whose members agree pairwise. -/
def sysGroups (s : State) (f : GnsFix) (claim : Nat) (l : List GnsSat) : List Nat :=
  let here := [0, 1, 2, 3].filter (fun k => l.any (fun x => x.sys = k))
  ((List.range 16).filter (fun m => m ≠ 0)).filter (fun m =>
    let g := [0, 1, 2, 3].filter (fun k => bitOf m k)
    g.all (fun a => here.contains a && g.all (fun b => s.sysAgree f claim a b)))

/-- The largest agreeing group by satellite count; the first of equals. -/
def sysGroup (s : State) (f : GnsFix) (claim : Nat) (l : List GnsSat) : Nat :=
  let size (m : Nat) : Nat := (l.filter (fun x => bitOf m x.sys)).length
  (s.sysGroups f claim l).foldl (fun b m => if size b < size m then m else b) 0

/-- The residual check over the fits in turn: the worst satellite beyond OUT_K is excluded and the next fit looked at, at most n
times. Answers the satellites excluded, and whether the check still fails. -/
def raim (lim : Nat) : Nat → List (List (Nat × Nat × Nat)) → List (Nat × Nat) → List (Nat × Nat) × Bool
  | _, [], ex => (ex, false)
  | n, l :: rest, ex =>
    let worst := (l.filter (fun r => !ex.contains (r.1, r.2.1))).foldl (fun (b : Nat × Nat × Nat) r => if b.2.2 < r.2.2 then r else b) (0, 0, 0)
    if worst.2.2 ≤ lim then (ex, false)
    else match n with
      | 0 => (ex, true)
      | m + 1 => raim lim m rest ((worst.1, worst.2.1) :: ex)

/-- The outcome of the checks: 0 the epoch is used, else the class raised, or 8 for a count too small, which raises none; the
satellites of the solution, and those and the systems excluded by each check. -/
structure GnsVerdict where
  cls : Nat
  used : List GnsSat
  xfreq : Nat
  sys : Nat
  sat : Nat
  deriving DecidableEq, Repr

/-- Assay engine 0's checks in their order (R137), on the satellites with VALID records. -/
def gnsVerdict (s : State) (f : GnsFix) : GnsVerdict :=
  let all := f.sats.filter (fun x => s.satBands x.sys x.svid ≠ [])
  let dual := all.filter s.satDual
  let bad := dual.filter (fun x => !s.xfreqOk x)
  let ok := all.filter s.xfreqOk
  let claim := s.gnsClaim f (s.usable ok) (s.get F.GNS_POS_CFG_MODE = 0)
  let m := s.sysGroup f claim ok
  let held := ok.filter (fun x => bitOf m x.sys)
  let split := decide (2 * held.length ≤ all.length)
  let sysEx := ([0, 1, 2, 3].filter (fun k => ok.any (fun x => x.sys = k) && !bitOf m k)).foldl (fun v k => v + 2 ^ k) 0
  let r := raim (s.get F.ASY_CHK_CFG_OUT_K * 256) (s.get F.ASY_CHK_CFG_RAIM_MAXEXCL) f.fits []
  let used := s.usable (held.filter (fun x => !r.1.contains (x.sys, x.svid)))
  let cls := if dual.length < 2 * bad.length then 5 else if split then 5 else if r.2 then 3 else if used.length < s.solMin then 8 else 0
  ⟨cls, used, bad.length, sysEx, r.1.length⟩

/-- A GNSS time as TAI (R121): GPS and Galileo time are TAI − 19 s, BeiDou time TAI − 33 s, GLONASS time UTC(SU) + 3 h with whole
seconds by the Almanac's leap table. -/
def gnssTai (s : State) (sys : Nat) (t : Int) : Int :=
  match sys with
  | 2 => t + 33 * secQ
  | 3 => utcToTai s.tsk.leap (t / secQ - 10800) * secQ + t % secQ
  | _ => t + 19 * secQ

/-- OFFSET of a solution (R121): GNSS time as TAI minus core time at the latch. -/
def gnssOffset (s : State) (f : GnsFix) : Int :=
  s.gnssTai f.scale f.time - (match s.gns.latch with | some (t, _) => (t : Int) * 65536 | none => s.q16)

/-- A survey is complete (R122): the averaged position and its uncertainty go live and shadow, and the mode with them. -/
def surveyDone (s : State) (f : GnsFix) : State :=
  let s := s.setBoth (F.GNS_POS_COORD 0) (ofSigned 64 f.pos.1)
  let s := s.setBoth (F.GNS_POS_COORD 1) (ofSigned 64 f.pos.2.1)
  let s := s.setBoth (F.GNS_POS_COORD 2) (ofSigned 64 f.pos.2.2)
  let s := (s.setBoth F.GNS_POS_UNC_UNC f.posUnc).setBoth F.GNS_POS_CFG_MODE 1
  { s.pevent 5 0 0 with gns := { s.gns with survey := none } }

/-- The solution registers of a formed solution (R121, R123). -/
def solRegs (s : State) (f : GnsFix) (used : List GnsSat) (surveying : Bool) : State :=
  let claim := s.gnsClaim f used surveying
  let s := ((s.setI F.GNS_SOL_OFFSET (s.gnssOffset f)).set F.GNS_SOL_T (s.get F.GNS_EPOCH_ST_T)).set F.GNS_SOL_CLAIM (toFloat claim)
  let s := ((s.set F.GNS_SOL_NSV used.length).set F.GNS_SOL_VALID 1).setB F.GNS_SOL_SURVEYING surveying
  let s := ((s.setB F.GNS_SOL_DUAL (used.any s.satDual)).set F.GNS_SOL_RESID (satN 32 f.resid)).add F.GNS_SOL_SEQ 1
  let s := ((s.setI (F.GNS_ISB_VALUE 0) f.isb.1).setI (F.GNS_ISB_VALUE 1) f.isb.2.1).setI (F.GNS_ISB_VALUE 2) f.isb.2.2
  s.count 0x182

/-- The survey after an epoch with a solution (R122). -/
def surveyStep (s : State) (f : GnsFix) : State :=
  let start := s.gns.survey.getD s.ns
  let s := { s with gns := { s.gns with survey := some start } }
  if decide (start + s.get F.GNS_POS_CFG_SURVEY_MIN * 1000000000 ≤ s.ns) &&
      decide (f.posUnc ≤ s.get F.GNS_POS_CFG_SURVEY_UNC * 10) then s.surveyDone f else s

/-- The measurement of reference 28 (R121, R494). -/
def solDeliver (s : State) (f : GnsFix) (used : List GnsSat) (surveying : Bool) : State :=
  let s := (s.set F.ASY_GNSS_ST_USED 1).setRef 28 { s.ref 28 with usedAt := s.ns }
  let m := s.measOf 28 (ofFloat (s.get F.GNS_SOL_CLAIM))
  let o := s.gnssOffset f
  s.deliver { m with off := some (-o), abs := some (-o), at_ := (s.unshort (s.get F.GNS_SOL_T)).toNat, parts := s.gnsParts f used surveying }

/-- The program's result at an epoch (R121 to R123): the solution registers, the survey, and the measurement of reference 28
if Assay engine 0, which runs the checks and raises their anomalies, passes it on (R137). -/
def solution (s : State) (f : GnsFix) : State :=
  let surveying := decide (s.get F.GNS_POS_CFG_MODE = 0)
  let s := { s with gns := { s.gns with solDue := false } }
  let checks := s.engRuns 12
  let v := s.gnsVerdict f
  let used := if checks then v.used else s.usable (f.sats.filter (fun x => s.satBands x.sys x.svid ≠ []))
  let formed := decide (s.solMin ≤ used.length)
  let s := if checks then ((s.set F.ASY_GNSS_ST_SAT_EXCL v.sat).set F.ASY_GNSS_ST_SYS_EXCL v.sys).set F.ASY_GNSS_ST_XFREQ_EXCL v.xfreq else s
  let s := (s.setB F.GNS_STAT_SOL_VALID formed).set F.ASY_GNSS_ST_USED 0
  let s := if checks && (v.cls = 5 || v.cls = 3) then s.anomaly 28 v.cls else s
  if formed then
    let s := s.solRegs f used surveying
    let s := if surveying then s.surveyStep f else s
    if v.cls = 0 && checks then s.solDeliver f used surveying else s
  else s.set F.GNS_SOL_VALID 0

/-! ## Dormant tracking (R125, R126) -/

/-- Dormant tracking starts or ends with a change of its wish (R125): tracking channels go dormant at once, and GNS_STAT
shows it. Channels that are dormant when it ends go to PULL at the next millisecond. -/
def dormantChanged (s : State) : State :=
  let inForce := s.dormantOn
  let s := s.setB F.GNS_STAT_DORMANT inForce
  if inForce then gnsAll.foldl (fun s c => if s.chState c = 3 then s.chRequest c 5 else s) s
  else { s with gns := { s.gns with burst := false, suspended := s.gns.suspended && s.dormantWanted } }

/-- A burst starts: every channel in TRACK or DORMANT restarts in PULL (R125). -/
def burstStart (s : State) : State :=
  let s := { s with gns := { s.gns with burst := true } }
  gnsAll.foldl (fun s c => if s.chState c = 3 || s.chState c = 5 then s.chRequest c 2 else s) s

/-- A burst ends: every channel in PULL goes dormant, locked or not (R111, R125). -/
def burstEnd (s : State) : State :=
  let s := { s with gns := { s.gns with burst := false } }
  gnsAll.foldl (fun s c => if s.chState c = 2 || s.chState c = 3 then s.chRequest c 5 else s) s

/-- One millisecond of the LOCKED GNSS_BURST entry (R125, R126). A burst that a jump carries past its end ends at the next one. -/
def gnsBurst (s : State) : State :=
  if !s.pdUp 12 then s
  else
    let m := s.ns / 1000000 % 1000
    let s := if s.gns.suspended && s.get F.GNS_SRCH_STAT_STATE = 0 && m = 0 then
        ({ s with gns := { s.gns with suspended := false } }).dormantChanged else s
    if s.dormantOn then
      let d := (m + s.get F.GNS_DORM_CFG_LEAD_MS) % 1000
      if d = 0 then s.burstStart
      else if s.get F.GNS_DORM_CFG_BURST_MS ≤ d && s.gns.burst then s.burstEnd
      else s
    else gnsAll.foldl (fun s c => if s.chState c = 5 then s.chRequest c 2 else s) s

/-! ## Strobes (R105, R108 to R110, R122) -/

/-- An IF a strobe accepts: within ±(rate / 2 − 2 MHz) (R105). -/
def gsiIfOk (s : State) (i : Nat) : Bool :=
  let half : Int := (s.view (F.GNS_GSI_CFG_RATE_KHZ i) * 500 : Nat) - 2000000
  let f := s.viewI (F.GNS_GSI_IF_IF_HZ i)
  decide (-half ≤ f) && decide (f ≤ half)

/-- A GSI configuration a strobe accepts: an enabled input has a rate in range, and an IF that fits it (R105). -/
def gsiCfgOk (s : State) (i : Nat) : Bool :=
  let rate := s.view (F.GNS_GSI_CFG_RATE_KHZ i)
  s.view (F.GNS_GSI_CFG_BAND i) ≠ 3 &&
    (s.view (F.GNS_GSI_CFG_EN i) = 0 || (decide (8000 ≤ rate) && decide (rate ≤ 125000) && s.gsiIfOk i))

/-- One sample of an input as its configuration reads it (R105): I and Q before SWAP_IQ and INV_Q, each four bits. -/
def gsiLevel (s : State) (i v : Nat) : Int :=
  if s.on (F.GNS_GSI_CFG_FMT i) then (if bitOf v 3 then -(2 * (v % 8) + 1 : Int) else 2 * (v % 8 : Nat) + 1) else toSigned 4 (v % 16)

/-- The complex sample, I and Q. -/
def gsiSample (s : State) (i : Nat) (v : Nat × Nat) : Int × Int :=
  let a := s.gsiLevel i v.1
  let b := s.gsiLevel i v.2
  let (re, im) := if s.on (F.GNS_GSI_CFG_SWAP_IQ i) then (b, a) else (a, b)
  (re, if s.on (F.GNS_GSI_CFG_INV_Q i) then -im else im)

/-- A level at full scale. -/
def gsiFull (s : State) (i : Nat) (x : Int) : Bool :=
  if s.on (F.GNS_GSI_CFG_FMT i) then x.natAbs = 15 else x = 7 || x = -7 || x = 8 || x = -8

/-- The receiver's measurement of a millisecond (R106): MEAS_KHZ, and SAT from its samples; one of a complex sample's parts at full
scale makes it so (DESIGN CHOICE). -/
def gsiMeasured (s : State) (i : Nat) (m : GsiMs) : State :=
  let n := (m.raw.filter (fun v => s.gsiFull i (s.gsiSample i v).1 || s.gsiFull i (s.gsiSample i v).2)).length
  let s := s.set (F.GNS_GSI_STAT_MEAS_KHZ i) (satN 17 m.khz)
  if m.raw = [] then s else s.set (F.GNS_GSI_STAT_SAT i) (satN 8 (n * 256 / m.raw.length))

/-- A measured rate differs from RATE_KHZ by more than 0.1 % (R106). -/
def gsiOff (s : State) (i khz : Nat) : Bool :=
  let r := s.get (F.GNS_GSI_CFG_RATE_KHZ i)
  decide (r < 1000 * ((khz : Int) - r).natAbs)

/-- A condition of R106 holds now on an input, or the input has just been enabled. -/
def gsiFaulty (s : State) (i : Nat) : State := { s with gns := { s.gns with gsiBad := alSet s.gns.gsiBad i s.ns } }

/-- The signal a configuration names is served and on an input of its band, with SVID and FCN in range (R103, R104, R109). SVID 0
names no satellite, which a disabled or an AUTO channel need not (DEDUCED). -/
def chSigOk (s : State) (c : Nat) (manual : Bool) : Bool :=
  let sig := s.view (F.GNS_CH_CFG_SIG c)
  let v := s.view (F.GNS_CH_CFG_SVID c)
  let k := s.viewI (F.GNS_CH_CFG_FCN c)
  s.sigServed sig && (decide (1 ≤ v) || !manual) && decide (v ≤ sigMax sig) && decide (-7 ≤ k ∧ k ≤ 6) &&
    s.view (F.GNS_GSI_CFG_BAND (s.view (F.GNS_CH_CFG_GSI c))) = sigBand sig

/-- Ranges of a channel's own fields (R109, R110). -/
def chFieldsOk (s : State) (c : Nat) : Bool :=
  let sp := s.view (F.GNS_CH_CFG_SPACING c)
  let tc := s.view (F.GNS_CH_CFG_TCOH c)
  decide (3 ≤ sp ∧ sp ≤ 64) && s.view (F.GNS_CH_CFG_DLL_BW c) ≠ 0 && s.view (F.GNS_CH_CFG_PLL_BW c) ≠ 0 && decide (1 ≤ tc ∧ tc ≤ 20)

/-- A channel's configuration names a satellite of its own: enabled and not AUTO. -/
def chManual (s : State) (c : Nat) : Bool := s.view (F.GNS_CH_CFG_EN c) = 1 && s.view (F.GNS_CH_CFG_AUTO c) = 0

/-- A manual configuration would duplicate a pair that another channel holds, or that one of a lower number takes in the same
strobe (R109). -/
def chDup (s : State) (c : Nat) : Bool :=
  let pair := (s.view (F.GNS_CH_CFG_SIG c), s.view (F.GNS_CH_CFG_SVID c))
  gnsAll.any (fun d => d ≠ c && ((s.chPair d = pair && pair.2 ≠ 0) ||
    (d < c && s.chManual d && (s.view (F.GNS_CH_CFG_SIG d), s.view (F.GNS_CH_CFG_SVID d)) = pair)))

/-- What a strobe does with a channel's configuration (R109): 0 accepts it, 1 refuses it with CFG_ERR, 2 with DUP. -/
def chJudge (s : State) (c : Nat) : Nat :=
  if !s.chFieldsOk c || !s.chSigOk c (s.chManual c) then 1 else if s.chManual c && s.chDup c then 2 else 0

/-- A channel's accepted configuration is live (R109, R111); `was` is whether it was enabled. -/
def chLive (s : State) (c : Nat) (was : Bool) : State :=
  let s := (s.set (F.GNS_CH_STAT_CFG_ERR c) 0).set (F.GNS_CH_STAT_DUP c) 0
  let en := s.on (F.GNS_CH_CFG_EN c)
  let auto := s.on (F.GNS_CH_CFG_AUTO c)
  let pair := (s.get (F.GNS_CH_CFG_SIG c), s.get (F.GNS_CH_CFG_SVID c))
  let assign (s : State) : State :=
    if auto then ((s.set (F.GNS_CH_STAT_SIG c) 0).set (F.GNS_CH_STAT_SVID c) 0).setGnsCh c { s.gnsCh c with fcn := 0 }
    else ((s.set (F.GNS_CH_STAT_SIG c) pair.1).set (F.GNS_CH_STAT_SVID c) pair.2).setGnsCh c
      { s.gnsCh c with fcn := if pair.1 = 7 then s.get (F.GNS_CH_CFG_FCN c) else 0 }
  if en && !was then (assign s).chRequest c 1
  else if en && !auto && s.chPair c ≠ pair then (assign s).chRequest c 1
  else if !en && was then s.chRequest c 0
  else s

/-- A strobe makes MODE live (R122): a change to SURVEY starts a new survey. -/
def posModeLive (s : State) (changed : Bool) : State :=
  let s := if changed then s.set F.GNS_STAT_POS_REFUSED 0 else s
  if changed && s.get F.GNS_POS_CFG_MODE = 0 then { s with gns := { s.gns with survey := some s.ns } } else s

/-- A write to GNS_ANT_DLY(b) goes live (R116). -/
def antDlyLive (s : State) (b : Nat) : State :=
  [0, 1].foldl (fun s a =>
    if [0, 1, 2, 3].any (fun i => s.on (F.GNS_GSI_CFG_EN i) && s.gsiOfAnt a i && s.get (F.GNS_GSI_CFG_BAND i) = b) then
      s.set (F.GNS_ANT_STAT_DLY_UNCONF a) 0 else s) s

/-- A sensor's enable goes live: disabled, its state is DISABLED (R108). -/
def antEnLive (s : State) (a : Nat) : State :=
  if s.on (F.GNS_ANT_CFG_EN a) then s
  else (s.set (F.GNS_ANT_STAT_STATE a) 0).setAnt a ⟨0, 0, 0, false, 0, 0⟩

/-- A posted write of GNS_GFE_CMD that starts a transfer. -/
def gfeGo (p : Posted) : Bool := p.key = F.GNS_GFE_CMD_CS.a && p.al ≠ 2 && bitOf p.v 0

/-- A transfer on GFE_SPI ends (R107): the posted write is accepted, and a read leaves the bits received in GNS_GFE_DATA. -/
def gfeDone (s : State) (rx : Nat) : State :=
  match s.hif.posted.find? gfeGo with
  | some p =>
    let m := 0xFF03FE
    let v := aliasVal p.al (s.regs.word p.key).toNat p.v m
    let s := { s with regs := s.regs.put p.key (BitVec.ofNat 32 v), hif := { s.hif with posted := s.hif.posted.filter (fun x => x.win ≠ 2) } }
    if s.on F.GNS_GFE_CMD_RD then s.set F.GNS_GFE_DATA_DATA (rx % 2 ^ s.get F.GNS_GFE_CMD_NBITS) else s
  | none => s

/-- PD_GNSS goes down: channels, search and bursts stop (R456, R457). -/
def gnsDown (s : State) : State :=
  let s := gnsAll.foldl (fun s c => if s.chState c = 0 then s else s.chMove c 0) s.searchStop
  let s := [0, 1, 2, 3].foldl (fun s i => s.set (F.GNS_GSI_STAT_CLK_OK i) 0) s
  (s.set F.GNS_STAT_DORMANT 0).set F.GNS_STAT_SOL_VALID 0

end State

/-! ## Inputs and antennas -/

/-- GSI_CLOCK_FAULT (R106): the rate measured over a millisecond, with its samples, is off by more than 0.1 % (`rate`), or no clock
edge came for 10 µs. -/
def execGsiClockFault (i : Nat) (rate : Bool) (ms : GsiMs) (s : State) : Host.Outcome State Fault Refusal :=
  .next (
    if i < 4 && s.on (F.GNS_GSI_CFG_EN i) && s.pdUp 12 then
      let s := s.gsiMeasured i ms
      if rate && !s.gsiOff i ms.khz then s
      else
        let s := if rate then
            (if s.on (F.GNS_GSI_STAT_RATE_ERR i) then s else (s.set (F.GNS_GSI_STAT_RATE_ERR i) 1).count (0x189 + i))
          else s.set (F.GNS_GSI_STAT_CLK_OK i) 0
        (s.gsiFaulty i).loseInputs (fun j => j = i)
    else s)

/-- GSI_CLOCK_RECOVER (R106): both conditions have been clear for 10 ms, with the rate measured at the end of them. -/
def execGsiClockRecover (i : Nat) (ms : GsiMs) (s : State) : Host.Outcome State Fault Refusal :=
  .next (
    if i < 4 && s.on (F.GNS_GSI_CFG_EN i) && s.pdUp 12 then
      let s := (s.runTo ((alGet s.gns.gsiBad i).getD 0 + 10000000)).gsiMeasured i ms
      if s.gsiOff i ms.khz then s
      else (s.set (F.GNS_GSI_STAT_CLK_OK i) 1).set (F.GNS_GSI_STAT_RATE_ERR i) 0
    else s)

/-- ANT_SAMPLE (R108): a sample of sensor a, in 0.1 mA. -/
def execAntSample (a current : Nat) (s : State) : Host.Outcome State Fault Refusal := .next (s.antSample a current)

/-! ## Channels -/

/-- GNS_INTEGRATION (R110, R111): channel c reaches an integration boundary with its lock detectors, C/N0 in 2^-8 dB-Hz, bit
synchronisation, ambiguity and slip; a state change that waits takes effect, and a LOST channel whose peak is above CN0_LOSS
goes to PULL. A channel that integrates reaches the boundary its integration time after the last one (nominal code periods: DESIGN
CHOICE). Between bursts, and on an input that is not in use, the correlators give nothing. -/
def execGnsIntegration (c : Nat) (code carr bit half slip : Bool) (cn0 : Nat) (s : State) : Host.Outcome State Fault Refusal :=
  .next (
    if c < 256 && s.pdUp 12 then
      let st := s.chState c
      let s := if (st = 2 || st = 3 || st = 4) && s.time.running then s.runTo ((s.gnsCh c).intAt + s.integMs c * 1000000) else s
      match (s.gnsCh c).next with
      | some new => s.chMove c new
      | none =>
        if (st = 2 || st = 3 || st = 4) && s.gsiUsed (s.get (F.GNS_CH_CFG_GSI c)) && !s.gnsGated then
          let x := s.gnsCh c
          let low := decide (cn0 < s.get F.GNS_TRK_CFG_CN0_LOSS * 256)
          let s := (s.set (F.GNS_CH_STAT_CN0 c) (satN 10 (cn0 * 10 / 256))).setB (F.GNS_CH_STAT_BITSYNC c) bit
          let both := code && carr
          let s := s.setGnsCh c { x with
            codeLock := code, carrLock := carr, halfCyc := half, slip := x.slip || slip, cn0 := satN 16 cn0, intAt := s.ns
            lockSince := if both then some (x.lockSince.getD s.ns) else none
            lowSince := if low then some (x.lowSince.getD s.ns) else none }
          if st = 4 && !low then s.chMove c 2 else s
        else s
    else s)

/-- PULL_LOCK_HELD (R111): code and carrier lock have both been held for 100 ms: TRACK from the next integration boundary. -/
def execPullLockHeld (c : Nat) (s : State) : Host.Outcome State Fault Refusal :=
  .next (match (s.gnsCh c).lockSince with
    | some t =>
      if c < 256 && s.chState c = 2 && ((s.gnsCh c).next).isNone && s.gsiUsed (s.get (F.GNS_CH_CFG_GSI c)) then
        let s := s.runTo (t + 100000000)
        (s.setGnsCh c { s.gnsCh c with codeLock := true, carrLock := true }).chRequest c 3
      else s
    | none => s)

/-- PULL_TIMEOUT (R111): no lock within PULL_MS: ACQ from the next integration boundary. In a burst, its end takes the channel. -/
def execPullTimeout (c : Nat) (s : State) : Host.Outcome State Fault Refusal :=
  .next (if c < 256 && s.chState c = 2 && ((s.gnsCh c).next).isNone && !s.gns.burst then
      (s.runTo ((s.gnsCh c).since + s.get F.GNS_TRK_CFG_PULL_MS * 1000000)).chRequest c 1 else s)

/-- CN0_LOSS_TIMEOUT (R111): C/N0 below CN0_LOSS for 200 ms: LOST from the next integration boundary. -/
def execCn0LossTimeout (c : Nat) (s : State) : Host.Outcome State Fault Refusal :=
  .next (match (s.gnsCh c).lowSince with
    | some t => if c < 256 && s.chState c = 3 && ((s.gnsCh c).next).isNone then (s.runTo (t + 200000000)).chRequest c 4 else s
    | none => s)

/-- COAST_TIMEOUT (R111): COAST_S have passed in LOST: ACQ from the next integration boundary. -/
def execCoastTimeout (c : Nat) (s : State) : Host.Outcome State Fault Refusal :=
  .next (if c < 256 && s.chState c = 4 && ((s.gnsCh c).next).isNone then
      (s.runTo ((s.gnsCh c).since + s.get F.GNS_TRK_CFG_COAST_S * 1000000000)).chRequest c 1 else s)

/-! ## Acquisition -/

/-- SEARCH_START (R113): GNS_SRCH_CTL.START. -/
def execSearchStart (s : State) : Host.Outcome State Fault Refusal := .next (s.awake (fun s => s.searchStart 1))

/-- SEARCH_ABORT (R113): GNS_SRCH_CTL.ABORT. -/
def execSearchAbort (s : State) : Host.Outcome State Fault Refusal := .next (s.awake State.searchStop)

/-- SEARCH_DWELL (R114): the largest peak-to-mean ratio of the dwell's cells in 0.5 dB units, and the FCN of an L1OF satellite. -/
def execSearchDwell (d : Dwell) (s : State) : Host.Outcome State Fault Refusal := .next (s.searchDwell d.ratio d.fcn)

/-- AIDED_DWELL (R112, R115): a window on sample input g that needs so many passes and began so long ago ends with some detections
(SIG, SVID, FCN) in the input's band. It needs the conditions on position and time, and an ephemeris or almanac that is valid for the
satellite (known to the navigation program); or, with `second`, a channel that tracks the satellite on another band. The serial
search keeps the engine off the inputs that it uses (R113). -/
def execAidedDwell (g : Nat) (win : AidWin) (second : Bool) (dets : List (Nat × Nat × Int)) (s : State) :
    Host.Outcome State Fault Refusal :=
  .next (
    let searching := s.get F.GNS_SRCH_STAT_STATE = 1 && s.inputOf g
    if g < 4 && s.gsiUsed g && s.get F.GNS_AID_CFG_AID_TEB_MAX ≠ 0 && (second || (win.eph && s.aidedReady)) && !s.antUnsettled g win.dur &&
        !s.gnsGated && !searching then
      if s.get F.GNS_AID_CFG_AID_PASSES < win.passes then (s.addSat F.GNS_SRCH_STAT_DROP 1).count 0x186
      else (dets.filter (fun p => s.sigServed p.1 && decide (1 ≤ p.2.1) && decide (p.2.1 ≤ State.sigMax p.1) &&
        State.sigBand p.1 = s.get (F.GNS_GSI_CFG_BAND g) && (!second || s.satTracked p.1 p.2.1))).foldl
          (fun s p => s.handDetection p.1 p.2.1 p.2.2) s
    else s)

/-- SEARCH_SETTLE_END (R115). -/
def execSearchSettleEnd (s : State) : Host.Outcome State Fault Refusal :=
  .next (match s.gns.settle with
    | some t => (s.runTo t).searchStart 3
    | none => s)

/-- ALL_LOST_TIMEOUT (R113). -/
def execAllLostTimeout (s : State) : Host.Outcome State Fault Refusal :=
  .next (match s.gns.lostSince with
    | some t =>
      let s := s.runTo (t + s.get F.GNS_TRK_CFG_ALL_LOST_S * 1000000000)
      ({ s with gns := { s.gns with lostSince := some s.ns } }).searchStart 2
    | none => s)

/-! ## Epochs, solution and bursts -/

/-- SOLUTION_COMPUTE (R121): kernel engine 1's program finishes with the latched epoch. -/
def execSolutionCompute (f : GnsFix) (s : State) : Host.Outcome State Fault Refusal :=
  .next (if s.gns.solDue && s.engRuns 9 then s.solution f else s)

/-- GFE_TRANSFER_DONE (R107): `rx` the bits the front end returned. -/
def execGfeTransferDone (rx : Nat) (s : State) : Host.Outcome State Fault Refusal := .next (s.gfeDone rx)

end Sys2Proof.Machine
end

