-- ==== Sys2Proof/Machine/PlanishRun.lean ====
section
/-!
DEFINITION. Sys2Proof/Machine/PlanishRun.lean: how a Planish engine runs an instruction (R336 to R343, R350), and the
instructions that touch the engine alone, its frame and its cells (R342, R344, R346, R348, R349).
-/

namespace Sys2Proof.Machine

namespace State

/-! ## Running an instruction -/

/-- The word at the engine's PC; none at or beyond IMEM_LEN / 4 (R350). -/
def pFetch (s : State) (e : Nat) : Option Nat :=
  match s.prog e with
  | some p => if s.pc e < p.imemLen / 4 then p.words[s.pc e]? else none
  | none => none

/-- The cycles that count against FRAME_BUDGET: a port engine holds a frame (R339). -/
def frameCounted (s : State) (e : Nat) : Bool := e < 8 && (s.engine e).held.isSome

/-- c further cycles would take a count past its budget (R339). -/
def overBudget (s : State) (e c : Nat) : Bool :=
  match s.prog e with
  | some p => decide (p.tickBudget < (s.engine e).cyc + c) ||
      (s.frameCounted e && decide (p.frameBudget < (s.engine e).frameCyc + c))
  | none => false

/-- c cycles count against the budgets. -/
def charge (s : State) (e c : Nat) : State :=
  let x := s.engine e
  s.setEngine e { x with cyc := x.cyc + c, frameCyc := if s.frameCounted e then x.frameCyc + c else x.frameCyc }

/-- The engine's counters (R444): its cycles, and the instruction unless it stalled. -/
def executed (s : State) (e c : Nat) (stalled : Bool) : State :=
  let s := s.countN (0x541 + 4 * e) c
  if stalled then s else s.count (0x540 + 4 * e)

/-- An engine is quenched by its instruction; a kernel engine's quench is a self-diagnosis trigger at once (R350, R430). -/
def stopEngine (s : State) (e mask soft : Nat) : State :=
  let s := s.quenchEngine e mask soft
  if s.pairOn && 8 ≤ e && e ≤ 11 then s.settleDiag 1 else s

/-- Engine e executes the instruction at its PC, if it runs and that instruction has the given opcode (R338, R350): `cost`
its cycles, `faults` the mask of causes 2, 5, 6 and 7 it meets, `act` its effect with the program counter. A fetch past the
program and a reserved opcode quench the engine whichever instruction is named. -/
def pRun (opc : Nat) (cost faults : State → Nat → Nat → Nat) (act : State → Nat → Nat → State) (e : Nat) (s : State) :
    State :=
  if s.engPresent e && s.get (F.ENG_ST_STATE e) = 1 then
    match s.pFetch e with
    | none => s.stopEngine e 8 0
    | some w =>
      if (pFmt (pOp w)).isNone then s.stopEngine e 2 0
      else if pOp w = opc then
        let c := cost s e w
        let bad := pIllegal w
        let m := (if bad then 2 else 0) + faults s e w + (if s.overBudget e c then 16 else 0)
        if m = 0 then (act (s.charge e c) e w).executed e c (opc = 0x3A && 16 ≤ (s.engine e).outQ.length) else s.stopEngine e m (pImm w % 2 ^ 16)
      else s
  else s

/-- A constant number of cycles. -/
def pCost (c : Nat) : State → Nat → Nat → Nat := fun _ _ _ => c

/-- No fault of its own. -/
def pNoFault : State → Nat → Nat → Nat := fun _ _ _ => 0

/-- An instruction of format R that puts a function of ra and rb into rd. -/
def pAlu (opc c : Nat) (f : Nat → Nat → Nat) : Nat → State → State :=
  pRun opc (pCost c) pNoFault (fun s e w => (s.setG e (pRd w) (f (s.g e (pRa w)) (s.g e (pRb w)))).pcNext e)

/-- An instruction of format I that puts a function of ra and the word into rd. -/
def pAluI (opc : Nat) (f : Nat → Nat → Nat) : Nat → State → State :=
  pRun opc (pCost 1) pNoFault (fun s e w => (s.setG e (pRd w) (f (s.g e (pRa w)) w)).pcNext e)

/-- An instruction on register pairs. -/
def pAluPair (opc : Nat) (f : Nat → Nat → Nat) : Nat → State → State :=
  pRun opc (pCost 2) pNoFault (fun s e w =>
    (s.setPairG e (pRd w) (f (s.pairG e (pRa w)) (s.pairG e (pRb w)))).pcNext e)

/-- Arithmetic right shift of a 32-bit number. -/
def sra32 (v n : Nat) : Nat := ofSigned 32 (toSigned 32 v / (2 ^ n : Nat))

/-- A branch: `c` compares ra and rb, which stand in the first two fields (R341). -/
def pBranch (opc : Nat) (c : Nat → Nat → Bool) : Nat → State → State :=
  pRun opc (fun s e w => if c (s.g e (pRd w)) (s.g e (pRa w)) then 2 else 1) pNoFault
    (fun s e w => if c (s.g e (pRd w)) (s.g e (pRa w)) then s.pcBranch e (pImmS w) else s.pcNext e)

/-- Data-memory faults of an access of n bytes at ra + imm (R350). -/
def dmFault (n : Nat) (s : State) (e w : Nat) : Nat :=
  if 16384 ≤ s.pAddr e w ∨ s.pAddr e w % n ≠ 0 then 4 else 0

/-- A load of n bytes; `ue` says whether the word carries an uncorrectable error (R350). -/
def pLoad (opc n : Nat) (ue : Bool) : Nat → State → State :=
  pRun opc (pCost 2) (fun s e w => dmFault n s e w + (if ue && dmFault n s e w = 0 then 128 else 0))
    (fun s e w => (s.setG e (pRd w) (Mem.read (s.engine e).dm (s.pAddr e w) n)).pcNext e)

/-- A store of n bytes. -/
def pStore (opc n : Nat) : Nat → State → State :=
  pRun opc (pCost 1) (dmFault n)
    (fun s e w =>
      let x := s.engine e
      (s.setEngine e { x with dm := Mem.write x.dm (s.pAddr e w) n (s.g e (pRd w)) }).pcNext e)

/-! ## Frames and cells (R342, R344, R346) -/

/-- Engines with PKT: the port engines and Hallmark engine 0 (R334). -/
def hasPkt (e : Nat) : Bool := e < 8 || e = 15

/-- A PKT instruction on an engine without PKT is a WINDOW fault (R344). -/
def pktFault (_ : State) (e _ : Nat) : Nat := if hasPkt e then 0 else 32

/-- A byte of the header buffer, if it lies within the frame's first 256 bytes (R344). -/
def frameByte (f : RxFrame) (i : Int) : Option Nat :=
  if 0 ≤ i ∧ i < 256 ∧ i < f.len then some (cellBytes f.bytes i.toNat 1) else none

/-- n bytes of a frame from an offset, most significant first, and whether one lay outside (R344). -/
def frameRead (f : RxFrame) (i : Int) : Nat → Nat × Bool
  | 0 => (0, false)
  | n + 1 =>
    let r := frameRead f (i + 1) n
    match frameByte f i with
    | some b => (b * 256 ^ n + r.1, r.2)
    | none => (r.1, true)

/-- A load of n frame bytes at ra + imm. With no frame held the spec states no value: a free value. -/
def pPkt (opc n : Nat) : Nat → State → State :=
  pRun opc (pCost 1) pktFault (fun s e w =>
    match (s.engine e).held with
    | some f =>
      let (v, out) := frameRead f (toSigned 32 (s.pAddr e w)) n
      let x := s.engine e
      ((s.setEngine e { x with oob := x.oob || out }).setG e (pRd w) v).pcNext e
    | none => let (v, s) := s.freeNat; (s.setG e (pRd w) v).pcNext e)

/-- The cell types an engine posts, and their lengths: the documented cells of R346. The cells of the other engines are
internal to Celmir's programs (R335): any length and type is defined for them. -/
def cellDefined (e typ len : Nat) : Bool :=
  1 ≤ len && len ≤ 256 &&
  (if e < 8 then (typ = 1 && 80 ≤ len) || (typ = 2 && len = 24)
   else if e = 10 then (typ = 1 && len = 16) || (typ = 2 && len = 38) || (typ = 3 && len = 1) || (typ = 4 && 5 ≤ len && len ≤ 132)
   else true)

/-- An UPSTREAM cell names a link the image has not given to the engine (R347). -/
def upstreamBad (s : State) (e typ : Nat) : Bool :=
  e < 8 && typ = 2 && !(s.hif.upLink.contains (e, cellBytes (s.engine e).outCell 12 1))

/-- Faults of CELLPUT (R346, R347). -/
def putFault (s : State) (e w : Nat) : Nat :=
  let len := s.g e (pRa w)
  if !cellDefined e (pImm w) len || s.upstreamBad e (pImm w) then 32 else 0

/-- CELLPUT occupies 4 cycles, or one more stall cycle while the block's queue is full (R338, R346). -/
def putCost (s : State) (e _ : Nat) : Nat := if (s.engine e).outQ.length < 16 then 4 else 1

/-- CELLPUT posts bytes 0 to ra − 1 of the output cell; while the block's queue is full it stalls, and nothing but the
count changes. -/
def putAct (s : State) (e w : Nat) : State :=
  let x := s.engine e
  if x.outQ.length < 16 then
    let len := s.g e (pRa w)
    (s.setEngine e { x with outQ := x.outQ ++ [⟨pImm w, len, bitsOf x.outCell 0 (8 * len)⟩] }).pcNext e
  else s

/-! ## Special registers, time and waits (R348, R349) -/

/-- Region of an engine (R334). -/
def engRegion (e : Nat) : Nat :=
  if e < 8 then e else if e < 10 then 8 else if e < 12 then 9 else if e < 14 then 10 else if e = 14 then 11
  else if e < 17 then 12 else 23

/-- A special register (R348). -/
def special (s : State) (e imm : Nat) : Nat :=
  let x := s.engine e
  match imm with
  | 0 => e
  | 1 => x.cyc
  | 2 => match x.live with | some p => p.tickBudget | none => 0
  | 3 => s.get (F.STR_REGION_GEN (engRegion e))
  | 4 => (if s.prov then 1 else 0) + (if x.oob then 2 else 0) + (if x.late then 4 else 0)
  | 5 => s.tenants
  | _ => match x.held with | some f => f.frac | none => 0

/-- A wait begins (R349). -/
def beginWait (s : State) (e : Nat) (w : Wait) (crossed : Bool) : State :=
  (s.setEngine e { s.engine e with wait := some w, crossed := crossed }).set (F.ENG_ST_STATE e) 2

/-- WAITT: TOO_FAR returns at issue; otherwise the wait begins, and an epoch already due is LATE (R45, R349). -/
def waittAct (s : State) (e w : Nat) : State :=
  let epoch := s.pairG e (pRa w)
  let d := sdiff s.short epoch
  if 2 ^ 62 ≤ d.natAbs then
    ((s.setEngine e { s.engine e with oob := false, late := false }).setG e (pRd w) 5).pcNext e
  else s.beginWait e ⟨pRd w, some epoch, bitOf (pImm w) 0⟩ (decide (d ≤ 0))

/-- A wake is pending. -/
def wakePending (x : EngSt) : Bool := x.tick || !x.wakes.isEmpty || !x.cells.isEmpty || !x.frames.isEmpty

/-- The next wake is taken: its result word, and the engine without it, in the order TICK, WAKE, CELL, FRAME (R340, R349).
A FRAME becomes the held frame, a CELL the input cell. -/
def takeWake (x : EngSt) : Nat × EngSt :=
  if x.tick then (3, { x with tick := false })
  else match x.wakes, x.cells, x.frames with
    | c :: t, _, _ => (4 + 256 * c, { x with wakes := t })
    | [], c :: t, _ => (2 + 256 * c.typ + 65536 * c.len, { x with cells := t, inCell := c })
    | [], [], f :: t => (1, { x with frames := t, held := some f, frameCyc := 0 })
    | [], [], [] => (0, x)

/-- A waiting engine resumes with a result (R349): OOB clears. -/
def resume (s : State) (e rd v : Nat) (x : EngSt) : State :=
  (((s.setEngine e { x with wait := none, oob := false }).set (F.ENG_ST_STATE e) 1).setG e rd v).pcNext e

/-- A waiting engine returns for its epoch. -/
def resumeEpoch (s : State) (e rd : Nat) : State :=
  let x := s.engine e
  s.resume e rd (if x.crossed then 256 else 0) { x with late := x.crossed }

/-- A frame that a WAITT's return of FRAME finds still held is dropped, as WAITE's issue does (R344). DESIGN CHOICE: the
spec states it for WAITE alone, and no engine holds two frames. -/
def dropHeld (s : State) (e : Nat) : State :=
  let x := s.engine e
  match x.held with
  | some f => if x.tick || !x.wakes.isEmpty || !x.cells.isEmpty then s else s.ethStat f.port 9 1
  | none => s

/-- A waiting engine returns for the next wake, which it takes. -/
def resumeWake (s : State) (e rd : Nat) (timed : Bool) : State :=
  let s := s.dropHeld e
  let (v, x) := takeWake (s.engine e)
  (s.resume e rd v (if timed then { x with late := false } else x)).count (0x542 + 4 * e)

/-- A waiting engine resumes if it can: at its epoch if that is due, which goes before a wake of the same cycle; else for a
pending wake; else in the cycle its epoch falls due, if that comes before the next tick boundary (R349). -/
def waitReturn (s : State) (e : Nat) : State :=
  let x := s.engine e
  match x.wait with
  | some w =>
    if s.engPresent e && s.get (F.ENG_ST_STATE e) = 2 then
      match w.epoch with
      | some ep =>
        if x.crossed || sdiff s.short ep ≤ 0 then s.resumeEpoch e w.rd
        else if w.wake && wakePending x then s.resumeWake e w.rd true
        else if s.time.running && decide (s.unshort ep < s.time.tickAt) then (s.runTo (s.unshort ep).toNat).resumeEpoch e w.rd
        else s
      | none => if wakePending x then s.resumeWake e w.rd false else s
    else s
  | none => s

end State

/-! ## Arithmetic and logic -/

/-- ADD (R342). -/
def execPlAdd (e : Nat) (s : State) : Host.Outcome State Fault Refusal := .next (State.pAlu 0x01 1 (fun a b => a + b) e s)
/-- SUB (R342). -/
def execPlSub (e : Nat) (s : State) : Host.Outcome State Fault Refusal :=
  .next (State.pAlu 0x02 1 (fun a b => a + 2 ^ 32 - b) e s)
/-- AND (R342). -/
def execPlAnd (e : Nat) (s : State) : Host.Outcome State Fault Refusal := .next (State.pAlu 0x03 1 (fun a b => a &&& b) e s)
/-- OR (R342). -/
def execPlOr (e : Nat) (s : State) : Host.Outcome State Fault Refusal := .next (State.pAlu 0x04 1 (fun a b => a ||| b) e s)
/-- XOR (R342). -/
def execPlXor (e : Nat) (s : State) : Host.Outcome State Fault Refusal := .next (State.pAlu 0x05 1 (fun a b => a ^^^ b) e s)
/-- SHL (R342). -/
def execPlShl (e : Nat) (s : State) : Host.Outcome State Fault Refusal :=
  .next (State.pAlu 0x06 1 (fun a b => a * 2 ^ (b % 32)) e s)
/-- SHR (R342). -/
def execPlShr (e : Nat) (s : State) : Host.Outcome State Fault Refusal :=
  .next (State.pAlu 0x07 1 (fun a b => a / 2 ^ (b % 32)) e s)
/-- SRA (R342). -/
def execPlSra (e : Nat) (s : State) : Host.Outcome State Fault Refusal :=
  .next (State.pAlu 0x08 1 (fun a b => State.sra32 a (b % 32)) e s)
/-- MUL (R342). -/
def execPlMul (e : Nat) (s : State) : Host.Outcome State Fault Refusal := .next (State.pAlu 0x09 2 (fun a b => a * b) e s)
/-- SLT (R342). -/
def execPlSlt (e : Nat) (s : State) : Host.Outcome State Fault Refusal :=
  .next (State.pAlu 0x0A 1 (fun a b => if toSigned 32 a < toSigned 32 b then 1 else 0) e s)
/-- SLTU (R342). -/
def execPlSltu (e : Nat) (s : State) : Host.Outcome State Fault Refusal :=
  .next (State.pAlu 0x0B 1 (fun a b => if a < b then 1 else 0) e s)
/-- ADD64 (R342). -/
def execPlAdd64 (e : Nat) (s : State) : Host.Outcome State Fault Refusal :=
  .next (State.pAluPair 0x0C (fun a b => (a + b) % 2 ^ 64) e s)
/-- SUB64 (R342). -/
def execPlSub64 (e : Nat) (s : State) : Host.Outcome State Fault Refusal :=
  .next (State.pAluPair 0x0D (fun a b => (a + 2 ^ 64 - b) % 2 ^ 64) e s)
/-- CMPT (R342, R44). -/
def execPlCmpt (e : Nat) (s : State) : Host.Outcome State Fault Refusal :=
  .next (State.pRun 0x0E (State.pCost 2) State.pNoFault (fun s e w =>
    (s.setG e (pRd w) (ofSigned 32 (sdiff (s.pairG e (pRb w)) (s.pairG e (pRa w))).sign)).pcNext e) e s)
/-- ADDI (R342). -/
def execPlAddi (e : Nat) (s : State) : Host.Outcome State Fault Refusal :=
  .next (State.pAluI 0x10 (fun a w => ofSigned 32 (a + pImmS w)) e s)
/-- ANDI (R342). -/
def execPlAndi (e : Nat) (s : State) : Host.Outcome State Fault Refusal := .next (State.pAluI 0x11 (fun a w => a &&& pImm w) e s)
/-- ORI (R342). -/
def execPlOri (e : Nat) (s : State) : Host.Outcome State Fault Refusal := .next (State.pAluI 0x12 (fun a w => a ||| pImm w) e s)
/-- SHLI (R342). -/
def execPlShli (e : Nat) (s : State) : Host.Outcome State Fault Refusal :=
  .next (State.pAluI 0x13 (fun a w => a * 2 ^ (pImm w % 32)) e s)
/-- SHRI (R342). -/
def execPlShri (e : Nat) (s : State) : Host.Outcome State Fault Refusal :=
  .next (State.pAluI 0x14 (fun a w => a / 2 ^ (pImm w % 32)) e s)
/-- LUI (R342). -/
def execPlLui (e : Nat) (s : State) : Host.Outcome State Fault Refusal :=
  .next (State.pAluI 0x15 (fun _ w => pImm w * 2 ^ 14) e s)

/-! ## Data memory -/

/-- LDW (R342): `ue` when the word carries an uncorrectable error. -/
def execPlLdw (e : Nat) (ue : Bool) (s : State) : Host.Outcome State Fault Refusal := .next (State.pLoad 0x18 4 ue e s)
/-- LDB (R342). -/
def execPlLdb (e : Nat) (ue : Bool) (s : State) : Host.Outcome State Fault Refusal := .next (State.pLoad 0x19 1 ue e s)
/-- STW (R342). -/
def execPlStw (e : Nat) (s : State) : Host.Outcome State Fault Refusal := .next (State.pStore 0x1A 4 e s)
/-- STB (R342). -/
def execPlStb (e : Nat) (s : State) : Host.Outcome State Fault Refusal := .next (State.pStore 0x1B 1 e s)

/-! ## Branches and jumps -/

/-- BEQ (R342). -/
def execPlBeq (e : Nat) (s : State) : Host.Outcome State Fault Refusal := .next (State.pBranch 0x20 (fun a b => a == b) e s)
/-- BNE (R342). -/
def execPlBne (e : Nat) (s : State) : Host.Outcome State Fault Refusal := .next (State.pBranch 0x21 (fun a b => a != b) e s)
/-- BLT (R342). -/
def execPlBlt (e : Nat) (s : State) : Host.Outcome State Fault Refusal :=
  .next (State.pBranch 0x22 (fun a b => decide (toSigned 32 a < toSigned 32 b)) e s)
/-- BGE (R342). -/
def execPlBge (e : Nat) (s : State) : Host.Outcome State Fault Refusal :=
  .next (State.pBranch 0x23 (fun a b => decide (toSigned 32 b ≤ toSigned 32 a)) e s)
/-- BLTU (R342). -/
def execPlBltu (e : Nat) (s : State) : Host.Outcome State Fault Refusal :=
  .next (State.pBranch 0x24 (fun a b => decide (a < b)) e s)
/-- BGEU (R342). -/
def execPlBgeu (e : Nat) (s : State) : Host.Outcome State Fault Refusal :=
  .next (State.pBranch 0x25 (fun a b => decide (b ≤ a)) e s)
/-- JMP (R342). -/
def execPlJmp (e : Nat) (s : State) : Host.Outcome State Fault Refusal :=
  .next (State.pRun 0x26 (State.pCost 2) State.pNoFault (fun s e w => s.setPc e (pTarget w)) e s)
/-- JAL (R342): the return address is PC + 1 as an 11-bit counter holds it. -/
def execPlJal (e : Nat) (s : State) : Host.Outcome State Fault Refusal :=
  .next (State.pRun 0x27 (State.pCost 2) State.pNoFault (fun s e w =>
    (s.setG e 15 ((s.pc e + 1) % 2 ^ 11)).setPc e (pTarget w)) e s)
/-- JR (R342). -/
def execPlJr (e : Nat) (s : State) : Host.Outcome State Fault Refusal :=
  .next (State.pRun 0x28 (State.pCost 2) State.pNoFault (fun s e w => s.setPc e (s.g e (pRa w))) e s)
/-- FAULT (R342, R350). -/
def execPlFault (e : Nat) (s : State) : Host.Outcome State Fault Refusal :=
  .next (State.pRun 0x2A (State.pCost 1) (fun _ _ _ => 64) (fun s _ _ => s) e s)

/-! ## Special registers, frames and cells -/

/-- RDS (R348). -/
def execPlRds (e : Nat) (s : State) : Host.Outcome State Fault Refusal :=
  .next (State.pRun 0x2E (State.pCost 1) State.pNoFault (fun s e w => (s.setG e (pRd w) (s.special e (pImm w))).pcNext e) e s)
/-- PKTLW (R344). -/
def execPlPktlw (e : Nat) (s : State) : Host.Outcome State Fault Refusal := .next (State.pPkt 0x30 4 e s)
/-- PKTLH (R344). -/
def execPlPktlh (e : Nat) (s : State) : Host.Outcome State Fault Refusal := .next (State.pPkt 0x31 2 e s)
/-- PKTLB (R344). -/
def execPlPktlb (e : Nat) (s : State) : Host.Outcome State Fault Refusal := .next (State.pPkt 0x32 1 e s)
/-- PKTINF (R342). -/
def execPlPktinf (e : Nat) (s : State) : Host.Outcome State Fault Refusal :=
  .next (State.pRun 0x33 (State.pCost 1) State.pktFault (fun s e w =>
    match (s.engine e).held with
    | some f => (s.setG e (pRd w) (f.len % 2 ^ 16 + 2 ^ 16 * (f.port % 8))).pcNext e
    | none => let (v, s) := s.freeNat; (s.setG e (pRd w) (v % 2 ^ 19)).pcNext e) e s)
/-- PKTTS (R342). -/
def execPlPktts (e : Nat) (s : State) : Host.Outcome State Fault Refusal :=
  .next (State.pRun 0x34 (State.pCost 1) State.pktFault (fun s e w =>
    match (s.engine e).held with
    | some f => (s.setPairG e (pRd w) f.short).pcNext e
    | none => let (v, s) := s.freeNat; (s.setPairG e (pRd w) (v % 2 ^ 64)).pcNext e) e s)
/-- CELLLW (R342): for an imm above 63 the spec states no value, and the result is a free value. -/
def execPlCelllw (e : Nat) (s : State) : Host.Outcome State Fault Refusal :=
  .next (State.pRun 0x38 (State.pCost 2) State.pNoFault (fun s e w =>
    if pImm w < 64 then (s.setG e (pRd w) (State.cellBytes (s.engine e).inCell.bytes (4 * pImm w) 4)).pcNext e
    else let (v, s) := s.freeNat; (s.setG e (pRd w) v).pcNext e) e s)
/-- CELLSW (R342): a word beyond the output cell is not held. -/
def execPlCellsw (e : Nat) (s : State) : Host.Outcome State Fault Refusal :=
  .next (State.pRun 0x39 (State.pCost 1) State.pNoFault (fun s e w =>
    let x := s.engine e
    let i := pImm w
    if i < 64 then
      let old := State.cellBytes x.outCell (4 * i) 4
      (s.setEngine e { x with outCell := x.outCell - old * 2 ^ (32 * i) + s.g e (pRd w) * 2 ^ (32 * i) }).pcNext e
    else s.pcNext e) e s)
/-- CELLPUT (R346). -/
def execPlCellput (e : Nat) (s : State) : Host.Outcome State Fault Refusal :=
  .next (State.pRun 0x3A State.putCost State.putFault State.putAct e s)
/-- RDT (R342). -/
def execPlRdt (e : Nat) (s : State) : Host.Outcome State Fault Refusal :=
  .next (State.pRun 0x3C (State.pCost 1) State.pNoFault (fun s e w =>
    (if pImm w = 0 then s.setPairG e (pRd w) s.short else s.setG e (pRd w) s.frac).pcNext e) e s)
/-- WAITT (R349). -/
def execPlWaitt (e : Nat) (s : State) : Host.Outcome State Fault Refusal :=
  .next (State.pRun 0x3D (State.pCost 1) State.pNoFault State.waittAct e s)
/-- WAIT_RETURN (R349). -/
def execWaitReturn (e : Nat) (s : State) : Host.Outcome State Fault Refusal := .next (s.waitReturn e)

end Sys2Proof.Machine
end

