-- ==== Sys2Proof/Machine/Obs.lean ====
section
/-!
DEFINITION. Sys2Proof/Machine/Obs.lean: sampling slots, the trace ring in DRAM and the trace pins (R448 to R453). OBS registers are
not shadowed.
-/

namespace Sys2Proof.Machine

namespace State

/-- A record's type passes TYPES; a GAP always does (R452, R453). -/
def trcPasses (s : State) (r : TrcRec) : Bool := r.ttype = 13 || bitOf (s.get F.OBS_TRC_CFG_TYPES) r.ttype

/-- A GAP record in place of n lost records from `tseq` on: cause 0 STAGING, 1 PINS (R451). -/
def gapRec (s : State) (tseq n cause : Nat) : TrcRec :=
  { ttype := 13, prov := s.prov, standby := s.get F.PAIR_STAT_ROLE ≠ 0, src := 0, devid := s.get F.SYS_STRAP_DEVID
    tseq := tseq, short := s.short, frac := s.frac, payload := pay [(20, 4, satN 32 n), (24, 1, cause)] }

/-- A trace record as 256 bits, byte 0 lowest (R450). -/
def packTrc (r : TrcRec) : Nat :=
  pack 0 [(0, 1, r.ttype), (1, 1, (if r.prov then 1 else 0) + (if r.standby then 2 else 0)),
    (2, 2, r.src % 1024 + 1024 * r.devid), (4, 4, r.tseq), (8, 8, r.short), (16, 2, r.frac), (20, 12, r.payload)]

/-- Fields of more than one byte in a trace record of a type, first byte and length (R450). -/
def trcFields (ttype : Nat) : List (Nat × Nat) :=
  [(2, 2), (4, 4), (8, 8), (16, 2)] ++
    (match ttype with
      | 1 => [(24, 4), (28, 4)]
      | 3 => [(24, 8)]
      | 4 => [(24, 8)]
      | 5 => [(24, 6), (30, 2)]
      | 6 => [(21, 2), (24, 4), (28, 4)]
      | 7 => [(21, 2)]
      | 9 => [(24, 4)]
      | 10 => [(20, 2), (24, 4)]
      | 11 => [(22, 2), (24, 4)]
      | 12 => [(20, 2), (24, 2), (28, 4)]
      | 13 => [(20, 4)]
      | _ => [])

/-- The frame that a trace record makes on the pins, its first byte lowest (R453): sync, the record with its fields most significant
byte first (R13), CRC-16. -/
def pinFrame (r : TrcRec) : Nat :=
  let v := (trcFields r.ttype).foldl (fun v f => putBytes v f.1 f.2 (bswap f.2 (cellBytes v f.1 f.2))) (packTrc r)
  let crc := crc16 ((List.range 32).map (fun i => cellBytes v i 1))
  pack 0 [(0, 1, 0xA5), (1, 1, 0x5A), (2, 32, v), (34, 2, bswap 2 crc)]

/-- Records that the ring holds (R452). -/
def ringRoom (s : State) : Nat := 2 ^ s.get F.OBS_TRC_CFG_LOG2 / 32

/-- A record goes to the ring, over the oldest one once it is full (R452). -/
def toRing (s : State) (r : TrcRec) : State :=
  if s.on F.OBS_TRC_CFG_DRAM_EN && s.trcPasses r then
    let o := s.obs
    { s with obs := { o with ring := ((o.head, r) :: o.ring).take s.ringRoom, head := o.head + 1 } }.count 0x601
  else s

/-- A record goes to the pin FIFO of 4,096, or is lost there (R453). -/
def toPins (s : State) (r : TrcRec) : State :=
  if s.on F.OBS_TRC_CFG_PIN_EN && s.trcPasses r then
    let o := s.obs
    match o.pinLoss with
    | some (t, n) => { s with obs := { o with pinLoss := some (t, n + 1), pinLost := (o.pinLost + 1) % 2 ^ 32 } }.count 0x604
    | none =>
      if o.pin.length < 4096 then { s with obs := { o with pin := o.pin ++ [r] } }
      else { s with obs := { o with pinLoss := some (r.tseq, 1), pinLost := (o.pinLost + 1) % 2 ^ 32 } }.count 0x604
  else s

/-- A write to a word of a sampling slot (R448): word 0 CNT and EN, word 1 N. -/
def smpWrite (s : State) (j w v : Nat) : State :=
  if 8 ≤ j || 2 ≤ w then s
  else if w = 1 && v % 2 ^ 32 = 0 then s.flagErr 0 8 ((F.OBS_SMP_CFG_N j).a) true
  else
    let was := s.on (F.OBS_SMP_CFG_EN j)
    let s := if w = 0 then (s.set (F.OBS_SMP_CFG_CNT j) v).setB (F.OBS_SMP_CFG_EN j) (bitOf v 11) else s.set (F.OBS_SMP_CFG_N j) v
    if was || s.on (F.OBS_SMP_CFG_EN j) then s.setSlot j { s.slot j with cnt := 0 } else s

/-- A write to a word of the trace configuration (R452, R453): 0 DRAM_EN, PIN_EN and LOG2, 1 TYPES, 2 and 3 BASE. -/
def trcWrite (s : State) (w v : Nat) : State :=
  let en := s.on F.OBS_TRC_CFG_DRAM_EN
  match w with
  | 0 =>
    let log := bitsOf v 2 5
    let a := F.OBS_TRC_CFG_DRAM_EN.a
    if log < 16 || 30 < log then s.flagErr 0 8 a true
    else if en && log ≠ s.get F.OBS_TRC_CFG_LOG2 then s.flagErr 0 12 a true
    else
      let s := ((s.setB F.OBS_TRC_CFG_DRAM_EN (bitOf v 0)).setB F.OBS_TRC_CFG_PIN_EN (bitOf v 1)).set F.OBS_TRC_CFG_LOG2 log
      let s := if bitOf v 1 then s else { s with obs := { s.obs with pin := [], pinLoss := none } }
      if bitOf v 0 && !en then { s with obs := { s.obs with ring := [], head := 0 } }.set F.OBS_TRC_RDPTR_RDPTR 0 else s
  | 1 => s.set F.OBS_TRC_CFG_TYPES v
  | 2 =>
    if en && s.get F.OBS_TRC_BASE_BASE % 2 ^ 32 ≠ v % 2 ^ 32 then s.flagErr 0 12 F.OBS_TRC_BASE_BASE.a true
    else s.set F.OBS_TRC_BASE_BASE (s.get F.OBS_TRC_BASE_BASE / 2 ^ 32 * 2 ^ 32 + v % 2 ^ 32)
  | 3 =>
    if en && s.get F.OBS_TRC_BASE_BASE / 2 ^ 32 ≠ v % 2 ^ 32 then s.flagErr 0 12 (F.OBS_TRC_BASE_BASE.a + 4) true
    else s.set F.OBS_TRC_BASE_BASE (s.get F.OBS_TRC_BASE_BASE % 2 ^ 32 + v % 2 ^ 32 * 2 ^ 32)
  | _ => s

end State

/-- OBS_SMP_CFG_WRITE (R448): slot, word, value. -/
def execObsSmpCfgWrite (j w v : Nat) (s : State) : Host.Outcome State Fault Refusal :=
  .next (s.awake (fun s => s.smpWrite j w v))

/-- OBS_TRC_CFG_WRITE (R452). -/
def execObsTrcCfgWrite (w v : Nat) (s : State) : Host.Outcome State Fault Refusal := .next (s.awake (fun s => s.trcWrite w v))

/-- TRACE_DRAM_WRITE (R452, R453): the oldest staged record leaves staging for the ring and the pins. -/
def execTraceDramWrite (s : State) : Host.Outcome State Fault Refusal :=
  .next (match s.obs.stage with
    | r :: t => ({ s with obs := { s.obs with stage := t } }.toRing r).toPins r
    | [] => s)

/-- TRACE_PIN_SEND (R453). -/
def execTracePinSend (s : State) : Host.Outcome State Fault Refusal :=
  .next (match s.obs.pin with
    | r :: t =>
      if s.on F.OBS_TRC_CFG_PIN_EN then ({ s with obs := { s.obs with pin := t } }.emitOut (.tracePin (State.pinFrame r))).count 0x602 else s
    | [] => s)

/-- TRACE_GAP_ENTER (R451, R453): 16 places are free at staging, or in the pin FIFO. -/
def execTraceGapEnter (pins : Bool) (s : State) : Host.Outcome State Fault Refusal :=
  .next (
    let o := s.obs
    if pins then
      match o.pinLoss with
      | some (t, n) =>
        if o.pin.length ≤ 4080 then { s with obs := { o with pin := o.pin ++ [s.gapRec t n 1], pinLoss := none } } else s
      | none => s
    else
      match o.stageLoss with
      | some (t, n) =>
        if o.stage.length ≤ 1008 then { s with obs := { o with stage := o.stage ++ [s.gapRec t n 0], stageLoss := none } } else s
      | none => s)

/-- TRACE_LOSS_REPORT (R451): at most one OBS_TRACE_LOSS record a millisecond. -/
def execTraceLossReport (s : State) : Host.Outcome State Fault Refusal :=
  .next (
    if s.obs.unreported = 0 then s
    else
      let s := match s.obs.reportAt with
        | some t => if s.time.running then s.runTo (t + 1000000) else s
        | none => s
      let n := s.obs.unreported
      { s with obs := { s.obs with unreported := 0, reportAt := some s.ns } }.pevent 0x39 0 (pay [(20, 4, satN 32 n)]))

end Sys2Proof.Machine
end

