-- ==== Sys2Proof/Machine/Read.lean ====
section
/-!
DEFINITION. Sys2Proof/Machine/Read.lean: reads of registers by the PCIe functions: block windows, aliases and the tenant
window (R357 to R363, R379), access rules (R366, R367), and the reads that have an effect (R17, R65, R92, R267, R362, R445, R452).
-/

namespace Sys2Proof.Machine

/-! ## Places -/

/-- What an offset of a function's BAR0 names: nothing, a register word (register, indices, word, Normal address), the queue
window of a TIC channel or the trace window, the first word of the tenant window, a word of the feature set in force, or an
offset of the tenant's counters that reads 0. -/
inductive Place where
  | reserved
  | reg (d : RegDesc) (i j w a : Nat)
  | window (trace : Bool) (ch : Nat)
  | tenId
  | feats (w : Nat)
  | zero
  deriving DecidableEq, Repr

/-- The place of a provider BAR0 offset, whatever its alias (R359 to R361). TEN_CTL and TEN_CMD_RATE begin at tenant 1. -/
def provPlace (off : Nat) : Place :=
  let a := off / 0x100000 * 0x100000 + off % 0x40000
  if 0x2000000 ≤ off then .reserved
  else if 0x130000 ≤ a ∧ a < 0x140000 then .window false ((a - 0x130000) / 0x1000)
  else if 0xD10000 ≤ a ∧ a < 0xD11000 then .window true 0
  else match findReg a with
    | some (d, i, j, w) => if (d.id = .TEN_CTL ∨ d.id = .TEN_CMD_RATE) ∧ i = 0 then .reserved else .reg d i j w (a / 4 * 4)
    | none => .reserved

/-- The alias of a provider BAR0 offset (R361): 0 Normal, 1 SET, 2 CLR, 3 TOG. -/
def aliasOf (off : Nat) : Nat := off / 0x40000 % 4

/-- The place of an offset of the tenant window of tenant t (R379, R447). -/
def tenPlace (t off : Nat) : Place :=
  let o := off / 4 * 4
  if o = 0 then .tenId
  else if o = 4 then provPlace (0xB11000 + 4 * t)
  else if 0x10 ≤ o ∧ o < 0x20 then .feats ((o - 0x10) / 4)
  else if 0x40 ≤ o ∧ o < 0x48 then provPlace (0xE00000 + o)
  else if 0x100 ≤ o ∧ o < 0x140 then provPlace (0xB01000 + (o - 0x100))
  else if 0x400 ≤ o ∧ o < 0x42C then provPlace (0x400000 + o)
  else if 0x900 ≤ o ∧ o < 0x928 then provPlace (0x600000 + (o - 0x800))
  else if 0x1000 ≤ o ∧ o < 0x1080 then provPlace (0xD20000 + 128 * t + (o - 0x1000))
  else if 0x1080 ≤ o ∧ o < 0x1088 then provPlace (0xD00008 + (o - 0x1080))
  else if 0x1088 ≤ o ∧ o < 0x2000 then .zero
  else if 0x8000 ≤ o ∧ o < 0x10000 then provPlace (0x918000 + o)
  else .reserved

/-- Registers that each function has to itself (R65, R234, R367, R371, R445). -/
def perFn (a : Nat) : Bool :=
  (0x400400 ≤ a && a < 0x40042C) || (0x600100 ≤ a && a < 0x600128) || (0xB01000 ≤ a && a < 0xB01040)
    || (0xD00008 ≤ a && a < 0xD00010) || (0xE00040 ≤ a && a < 0xE00048)

/-- The key of a word as function fn reaches it. -/
def fnKey (fn a : Nat) : Nat := if perFn a then a + fnBase fn else a

/-- A register of a port, media port, engine or source that SPR-A932 does not have (R5, R74, R334). -/
def absentReg (p : Part) (d : RegDesc) (i : Nat) : Bool :=
  p.small && (match d.id with
    | .ETH_CFG | .ETH_ST | .ETH_SLOT_CFG | .ETH_PAUSE_WD | .ETH_TS_LAT | .ETH_GRID_ST | .ETH_TXTS_POP | .ETH_TXTS_INFO
    | .ETH_TXTS_ST | .ETH_UC | .ETH_HASH | .ETH_STATS | .HMK_PORT_CFG | .HMK_CLKID | .TSK_TEB_PORT => 4 ≤ i && i < 8
    | .ENG_ST | .ENG_PC | .ENG_CYC | .ENG_CYC_MAX | .ENG_LOST | .ENG_G | .ENG_DM_ADDR | .ENG_DM_DATA | .ENG_CTL => 4 ≤ i && i < 8
    | .REF_IN_PRE | .REF_SRC_STAT => 20 ≤ i
    | .OUT_AES_CFG | .OUT_AES_ST | .OUT_AES_RXS | .OUT_AES_TXS => true
    | _ => false)

/-- A number with w bits from bit lo on replaced by v. -/
def putBits (old lo w v : Nat) : Nat := old - bitsOf old lo w * 2 ^ lo + v % 2 ^ w * 2 ^ lo

/-- The read side effect of a word (R362): 0 none, 1 RC, 2 TSK_SNAP_NS, 3 ETH_TXTS_POP, 4 ENG_DM_DATA. -/
def sideOf (d : RegDesc) (w : Nat) : Nat :=
  if d.id = .TSK_SNAP_NS then 2 else if d.id = .ETH_TXTS_POP then 3 else if d.id = .ENG_DM_DATA then 4
  else match d.words[w]? with
    | some x => if x.rc ≠ 0 ∨ (d.wide ∧ d.words.any (fun y => y.rc ≠ 0)) then 1 else 0
    | none => 0

namespace State

/-! ## Values -/

/-- A posted write to a slow domain waits for its acceptance (R365). -/
def postBusy (s : State) (win : Nat) : Bool := s.hif.posted.any (fun p => p.win = win)

/-- The first occurrence of an entry that has not yet been dispatched (R230). -/
def toDispatch (s : State) (id : Nat) (e : SchEnt) : Option Occ :=
  let late : Int := s.ns + 1024 - s.dueOf e
  if late < 0 then some ⟨false, id, e⟩
  else if e.period = 0 then none
  else some ⟨false, id, { e with epoch := (e.epoch + (late / e.period + 1).toNat * e.period) % 2 ^ 64 }⟩

/-- The occurrence that is dispatched next, one of the TICK entry among them. -/
def nextShown (s : State) : Option Occ :=
  s.firstOcc ((s.sch.ents.filter (fun p => !(p.2.abs && s.prov))).filterMap (fun p => s.toDispatch p.1 p.2))

/-- ms to the end of the Anneal, rounded up: the cycles that R takes at S a cycle (R166). -/
def annealEta (s : State) : Nat :=
  let r := if s.time.annS = 0 then s.time.annNext else s.time.annS
  if r = 0 then 0 else ceilDiv (s.time.annR.natAbs) (r.natAbs * 1000000)

/-- Engines e to e + n − 1 that run, as a bit mask. -/
def runMask (s : State) (e n : Nat) : Nat :=
  (List.range n).foldl (fun (m : Nat) k => if s.engRuns (e + k) then m + 2 ^ k else m) 0

/-- A 32-bit word of a 64-bit value. -/
def half (v w : Nat) : Nat := v / 2 ^ (32 * w) % 2 ^ 32

/-- Words that show what the block is doing rather than what was stored: register index i, j and word w, as function fn
reads it; `live` is the stored word. -/
def shown (s : State) (fn : Nat) (id : RegId) (i j w live : Nat) : Nat :=
  let busy (win : Nat) : Nat := if s.postBusy win then 1 else 0
  let b (x : Bool) : Nat := if x then 1 else 0
  match id with
  | .TIC_STAT => putBits live 0 1 (busy 1)
  | .GNS_STAT => putBits live 0 1 (busy 2)
  | .SYN_STAT => putBits live 0 1 (busy 5)
  | .KVT_STAT => putBits (putBits live 0 1 (busy 9)) 2 1 (b (s.engRuns 17))
  | .SEAM_STAT => putBits live 0 1 (busy 12)
  | .TSK_STAT => putBits live 12 4 (s.runMask 8 4)
  | .ASY_STAT => putBits live 1 2 (s.runMask 12 2)
  | .HMK_STAT => putBits (putBits live 0 2 (s.runMask 15 2)) 4 1 (b (s.pdUp 23))
  | .SCH_STAT =>
    let wait := if s.prov then (s.sch.ents.filter (fun p => p.2.abs)).length else 0
    putBits (putBits (putBits live 0 1 (b (s.engRuns 14))) 1 13 s.sch.ents.length) 14 13 wait
  | .SCH_NEXT =>
    (match s.nextShown with
      | some o => if w < 2 then half o.ent.epoch w else o.id
      | none => if w < 2 then 0 else 4096)
  | .REF_SRC_STAT => putBits live 3 1 (b (s.chOf i).isSome)
  | .SCH_TEN_ST => putBits live 16 13 (s.ownedBy i)
  | .TSK_ANNEAL_ST =>
    if w < 2 then half (ofSigned 64 (satI 64 s.remain16)) w
    else if w = 3 then (if s.on F.TSK_ANNEAL_ST_ACTIVE then satN 32 s.annealEta else 0) else live
  | .TIC_CW =>
    (match (s.ticCh i).width with
      | some t => t.getD (2 * j) 0 % 65536 + 65536 * (t.getD (2 * j + 1) 0 % 65536)
      | none => live)
  | .OUT_ST => if w = 1 then s.outTeb i else live
  | .ETH_ST =>
    let paused := (s.port i).pauses.any (fun p => pausedAt (s.port i) p.1 s.ps)
    putBits (putBits live 7 1 (b paused)) 10 1 (b (s.engRuns i))
  | .ETH_GRID_ST =>
    let ds := (s.port i).devs.filter (fun d => decide (s.ns < d.1 + 1000000000))
    putBits live 16 16 (satN 16 (ds.foldl (fun (m : Nat) d => max m d.2) 0))
  | .TEN_ST => putBits (putBits live 2 1 (b (!s.tenantPresent i))) 3 10 (if i = 0 then 0 else s.fnOf i)
  | .HIF_FEAT_OFFER => half s.offered w
  | .HIF_FEAT_ACCEPT => if s.get F.HIF_FEAT_ST_STATE = 1 then half s.hif.feats w else live
  | .STR_REGION => if w = 2 && !regionPresent s.part i then putBits live 0 2 3 else live
  | .SYS_CAP =>
    if w = 0 then
      (if s.part.small then 0xA932 + 4 * 2 ^ 16 + 14 * 2 ^ 23 else 0xA960 + 8 * 2 ^ 16 + 4 * 2 ^ 20 + 18 * 2 ^ 23)
    else if !s.hif.accepted then 0
    else if w = 1 then s.tenants else s.featClients
  | .HIF_RING =>
    let f := s.fn fn
    if w = 14 then f.fifo.length + (if f.fifoLoss.isSome || f.ringLoss.isSome || f.coal.any (fun c => c.count ≠ 0) then 1024 else 0)
    else live
  | .OBS_STAT =>
    b (s.on F.OBS_TRC_CFG_DRAM_EN) + 2 * b (s.on F.OBS_TRC_CFG_PIN_EN) + 4 * b (s.obs.stageLoss.isSome || s.obs.pinLoss.isSome)
  | .OBS_SMP_ST => if w = 0 then (s.slot i).samples else (s.slot i).lost
  | .OBS_TRC_ST =>
    (match w with
      | 0 => s.obs.head % 2 ^ 32
      | 1 => s.obs.tseq
      | 2 => s.obs.stageLost
      | _ => s.obs.pinLost)
  | .OBS_CNT => half (s.counter i) w
  | .OBS_TEN_CNT => half (s.tenCounter i j) w
  | .ENG_DM_DATA => (s.engine i).dm.read (4 * s.get (F.ENG_DM_ADDR_WORD i)) 4
  | _ => live

/-- Engine 17 shows only ENG_ST and ENG_CTL (R334). -/
def hiddenEng (d : RegDesc) (i : Nat) : Bool :=
  i = 17 && (match d.id with
    | .ENG_PC | .ENG_CYC | .ENG_CYC_MAX | .ENG_LOST | .ENG_G | .ENG_DM_ADDR | .ENG_DM_DATA => true
    | _ => false)

/-- A word as function fn reads it, without side effect: shadow bits unless live ones are asked for (R363); a tenant sees its
own key slots alone (R309). -/
def wordView (s : State) (asLive : Bool) (fn : Nat) (d : RegDesc) (i j w a : Nat) : Nat :=
  let k := fnKey fn a
  let live := (s.regs.word k).toNat
  let m := match d.words[w]? with | some x => x.rws | none => 0
  if absentReg s.part d i || hiddenEng d i then 0
  else if fn ≠ 0 && d.id = .KVT_SLOT && !(s.on (F.KVT_SLOT_VALID i) && s.get (F.KVT_SLOT_TENANT i) = s.recTenant fn) then 0
  else
    let v := s.shown fn d.id i j w live
    if m = 0 || asLive then v
    else Nat.lor (Nat.land v (2 ^ 32 - 1 - m)) (Nat.land (s.shadowWord k).toNat m)

/-- A word as function fn reads it: the provider sees live values while it sets HIF_VIEW.LIVE. -/
def wordAt (s : State) (fn : Nat) (d : RegDesc) (i j w a : Nat) : Nat :=
  s.wordView (fn = 0 && s.on F.HIF_VIEW_LIVE) fn d i j w a

/-- The place that a BAR0 offset of a function names. -/
def placeOf (s : State) (fn off : Nat) : Place := if fn = 0 then provPlace off else tenPlace (s.recTenant fn) off

/-- The value of a place. -/
def placeVal (s : State) (fn : Nat) : Place → Nat
  | .reg d i j w a => s.wordAt fn d i j w a
  | .tenId => s.recTenant fn + 1024 * fn
  | .feats w => s.hif.feats / 2 ^ (32 * w) % 2 ^ 32
  | _ => 0

/-! ## Reads with an effect -/

/-- RC bits of a word clear (R17); ALERT_L follows SYS_PD_FAULT (R467). -/
def clearRc (s : State) (fn : Nat) (d : RegDesc) (w a : Nat) : State :=
  let k := fnKey fn a
  let m := match d.words[w]? with | some x => x.rc | none => 0
  let s := { s with regs := s.regs.put k (BitVec.ofNat 32 (Nat.land (s.regs.word k).toNat (2 ^ 32 - 1 - m))) }
  if d.id = .SYS_PD_FAULT then s.settleAlert else s

/-- The head transmit-timestamp entry of port p is removed, and its fields latched (R267). -/
def txtsPop (s : State) (p : Nat) : Nat × State :=
  let x := s.port p
  let e : TxTs := match x.txts with
    | e :: _ => e
    | [] => { id := 0, kind := 3, prov := false, short := 0, frac := 0, dcount := 0 }
  let s := (s.setPort p { x with txts := x.txts.drop 1 }).txtsFill p
  let s := ((s.set (F.ETH_TXTS_INFO_ID p) e.id).set (F.ETH_TXTS_INFO_KIND p) e.kind).setB (F.ETH_TXTS_INFO_PROV p) e.prov
  (e.short, (s.set (F.ETH_TXTS_INFO_FRAC p) e.frac).set (F.ETH_TXTS_INFO_DCOUNT p) e.dcount)

/-- A 32-bit read of one register word, with its effect. -/
def readWord (s : State) (fn : Nat) (p : Place) : Nat × State :=
  match p with
  | .reg d i j w a =>
    if absentReg s.part d i || hiddenEng d i then (0, s)
    else match sideOf d w with
      | 1 => (s.placeVal fn p, s.clearRc fn d w a)
      | 2 => let s := s.snapshot fn; (s.placeVal fn p, s)
      | 4 => (s.placeVal fn p, s.set (F.ENG_DM_ADDR_WORD i) (s.get (F.ENG_DM_ADDR_WORD i) + 1))
      | _ => (s.wordAt fn d i j w a, s)
  | p => (s.placeVal fn p, s)

/-- A 64-bit read of a 64-bit register from its first word, with its effect (R366, R445). -/
def readWide (s : State) (fn : Nat) (d : RegDesc) (i j a : Nat) : Nat × State :=
  let v := s.wordAt fn d i j 0 a + 2 ^ 32 * s.wordAt fn d i j 1 (a + 4)
  if absentReg s.part d i then (0, s)
  else if d.id = .ETH_TXTS_POP then s.txtsPop i
  else if d.id = .OBS_CNT || d.id = .OBS_TEN_CNT then (v, s.set (F.OBS_LAST_T_SHORT.on fn) s.short)
  else if sideOf d 0 = 1 then (v, (s.clearRc fn d 0 a).clearRc fn d 1 (a + 4))
  else (v, s)

/-! ## The trace window (R452) -/

/-- A GAP that a window read returns: n records lost, cause 2 OVERWRITTEN or 3 DRAM_UE. Its TSEQ, SHORT and FRAC are free
values: R452 gives only its cause and count. -/
def windowGap (s : State) (n cause : Nat) : Nat × State :=
  let r := s.gapRec (Config.freeNat s.draws) n cause
  (packTrc { r with short := Config.freeNat (s.draws + 1), frac := Config.freeNat (s.draws + 2) }, s.draw.draw.draw)

/-- One record from RDPTR on; `ue` what its DRAM read has in error. -/
def trcPop (s : State) (ue : Option DramErr) : Nat × State :=
  let rd := s.get F.OBS_TRC_RDPTR_RDPTR
  let behind := (s.obs.head + 2 ^ 32 - rd % 2 ^ 32) % 2 ^ 32
  let kept := s.obs.ring.length
  if behind = 0 then (0, s)
  else if kept < behind then
    let (v, s) := s.windowGap (behind - kept) 2
    (v, s.add F.OBS_TRC_RDPTR_RDPTR (behind - kept))
  else
    let s := s.add F.OBS_TRC_RDPTR_RDPTR 1
    let (s, ue) := s.dramRead ue
    match ue with
    | some u => (s.dramUe 2 u).windowGap 1 3
    | none => (match s.obs.ring[behind - 1]? with
      | some x => (packTrc x.2, s)
      | none => (0, s))

/-- n records, the first lowest; `ues` gives those read in error by their place in the read. -/
def trcPopN : Nat → State → Nat → List (Nat × DramErr) → Nat × State
  | 0, s, _, _ => (0, s)
  | n + 1, s, k, ues =>
    let (v, s) := s.trcPop (alGet ues k)
    let (w, s) := trcPopN n s (k + 1) ues
    (v + 2 ^ 256 * w, s)

/-! ## Access rules (R360, R362, R366) -/

/-- What a read does beyond returning a value: which row of the command list it belongs to. -/
inductive ReadRow where
  | plain | rc | snap | tic | txts | dm | trace | counter
  deriving DecidableEq, Repr

/-- The row of a word with a side effect. -/
def rowOf (side : Nat) : ReadRow :=
  match side with
  | 1 => .rc
  | 2 => .snap
  | 3 => .txts
  | 4 => .dm
  | _ => .plain

/-- An access of one of the widths the interface knows, aligned to it, with contiguous byte enables (R366). -/
def aligned (off n : Nat) (contig : Bool) : Bool := contig && n ≠ 0 && 2 ^ Nat.log2 n = n && off % n = 0

/-- Any of n bytes from an offset of the tenant window on lies on a reserved offset (R360). -/
def tenReserved (off n : Nat) : Bool := (List.range n).any (fun k => tenPlace 0 (off + k) = .reserved)

/-- A read of a window of records (R92, R452): the kind of error that R366 names, or none. -/
def windowErr (trace : Bool) (off n : Nat) (contig : Bool) : Option Nat :=
  let z := if trace then 32 else 16
  if off % z ≠ 0 || !contig then some 3
  else if n = 0 || n % z ≠ 0 then some 2
  else if 256 < n then some 4
  else none

/-- One access judged by R366, 1 to 4 bytes, or both halves of a 64-bit register: value, row, state after. `off` is the
offset as the function gave it. -/
def readPart (s : State) (fn off n : Nat) : Nat × ReadRow × State :=
  let p := s.placeOf fn off
  let bad (kind : Nat) : Nat × ReadRow × State := (0, .plain, s.flagErr fn kind off false)
  match p with
  | .reserved => bad 9
  | .reg d i j w a =>
    let side := if absentReg s.part d i then 0 else sideOf d w
    if side ≠ 0 && fn = 0 && aliasOf off ≠ 0 then bad 6
    else if n < 4 then
      (if side ≠ 0 then bad 2 else (s.wordAt fn d i j w a / 2 ^ (8 * (off % 4)) % 2 ^ (8 * n), .plain, s))
    else if n = 8 then
      let (v, t) := s.readWide fn d i j a
      (v, if d.id = .OBS_CNT || d.id = .OBS_TEN_CNT then .counter else rowOf side, t)
    else if d.wide && (side = 1 || side = 3) then bad 5
    else
      let (v, t) := s.readWord fn p
      (v, rowOf side, t)
  | p => (s.placeVal fn p / 2 ^ (8 * (off % 4)) % 2 ^ (8 * n), .plain, s)

/-- The first of two rows that is not plain. -/
def ReadRow.or (a b : ReadRow) : ReadRow := if a = .plain then b else a

/-- A read by function fn of n bytes at an offset of its BAR0: what it returns, its row, and the state after. A tenant's
violation comes before everything (R360); a quenched or inert function reads 0 (R357, R388). -/
def readJudge (s : State) (fn off n : Nat) (contig : Bool) (ues : List (Nat × DramErr)) : Nat × ReadRow × State :=
  if fn ≠ 0 && (s.fn fn).quenched then (0, .plain, if tenReserved off n then s.quenchFn fn 1 off else s)
  else if s.inert fn then (if off / 4 = 0 then (2 ^ 20 / 2 ^ (8 * (off % 4)) % 2 ^ (8 * n), .plain, s) else (0, .plain, s))
  else if fn ≠ 0 && tenReserved off n then (0, .plain, s.quenchFn fn 1 off)
  else match s.placeOf fn off with
    | .window trace ch =>
      if aliasOf off ≠ 0 then (0, .plain, s.flagErr fn 6 off false)
      else (match windowErr trace off n contig with
        | some k => (0, if !contig then .plain else if trace then .trace else .tic, s.flagErr fn k off false)
        | none =>
          if trace then
            let (v, t) := trcPopN (n / 32) s 0 ues
            (v, .trace, t)
          else
            let (v, t) := ticPopN (n / 16) s ch
            (v, .tic, t))
    | p =>
      if p = .reserved && (n ≠ 8 || !aligned off n contig) then (0, .plain, s.flagErr fn 9 off false)
      else if !aligned off n contig then (2 ^ (8 * n) - 1, .plain, s.flagErr fn 3 off false)
      else if 8 < n then (0, .plain, s.flagErr fn 4 off false)
      else if n < 8 then s.readPart fn off n
      else
        let wide := match p with | .reg d _ _ _ _ => d.wide | _ => false
        if wide then s.readPart fn off 8
        else
          let (lo, r1, s) := s.readPart fn off 4
          let (hi, r2, s) := s.readPart fn (off + 4) 4
          (lo + 2 ^ 32 * hi, r1.or r2, s)

/-- A read of a row is done and its value returned to the reader; a read that belongs to another row is not this command.
Nothing is read while the part is held in reset. -/
def readAs (s : State) (row : ReadRow) (fn off n : Nat) (contig : Bool) (ues : List (Nat × DramErr)) : State :=
  if s.pow.held || !s.fnExists fn then s
  else
    let (v, r, t) := s.readJudge fn off n contig ues
    if r = row then t.emitOut (.readData fn off (8 * n) v) else s

end State

/-- REG_READ (R360, R366): function, BAR0 offset, bytes, contiguous byte enables. -/
def execRegRead (fn off n : Nat) (contig : Bool) (s : State) : Host.Outcome State Fault Refusal :=
  .next (s.readAs .plain fn off n contig [])

/-- RC_READ (R17). -/
def execRcRead (fn off n : Nat) (s : State) : Host.Outcome State Fault Refusal := .next (s.readAs .rc fn off n true [])

/-- SNAPSHOT_LATCH (R65): a read of TSK_SNAP_NS through function fn's window, 4 or 8 bytes. -/
def execSnapshotLatch (fn n : Nat) (s : State) : Host.Outcome State Fault Refusal :=
  .next (s.readAs .snap fn (if fn = 0 then 0x400400 else 0x400) n true [])

/-- TIC_QWIN_READ (R92): channel, offset in its window, bytes. -/
def execTicQwinRead (ch off n : Nat) (s : State) : Host.Outcome State Fault Refusal :=
  .next (s.readAs .tic 0 (0x130000 + 0x1000 * (ch % 16) + off % 0x1000) n true [])

/-- TXTS_POP (R267): a 64-bit read of ETH_TXTS_POP(p). -/
def execTxtsPop (p : Nat) (s : State) : Host.Outcome State Fault Refusal :=
  .next (s.readAs .txts 0 (F.ETH_TXTS_POP_SHORT p).a 8 true [])

/-- ENG_DM_READ (R362): a read of ENG_DM_DATA of engine e. -/
def execEngDmRead (e : Nat) (s : State) : Host.Outcome State Fault Refusal :=
  .next (s.readAs .dm 0 (F.ENG_DM_DATA_DATA e).a 4 true [])

/-- TRACE_WIN_READ (R452): offset in the window, bytes, uncorrectable records by their place in the read. -/
def execTraceWinRead (off n : Nat) (ues : List (Nat × DramErr)) (s : State) : Host.Outcome State Fault Refusal :=
  .next (s.readAs .trace 0 (0xD10000 + off % 0x1000) n true ues)

/-- COUNTER_READ (R445): a 64-bit read of a counter: the provider by BAR0 offset, a tenant by window offset. -/
def execCounterRead (fn off : Nat) (s : State) : Host.Outcome State Fault Refusal := .next (s.readAs .counter fn off 8 true [])

end Sys2Proof.Machine
end

