-- ==== Sys2Proof/Machine/PlanishIo.lean ====
section
/-!
DEFINITION. Sys2Proof/Machine/PlanishIo.lean: the Planish instructions that reach beyond the engine: BLD and BST (R345), CLASS
(R263, R344) and WAITE (R349, R353).
-/

namespace Sys2Proof.Machine

/-- The windows of the blocks whose registers an engine may read (R334). -/
def bldWindows (e : Nat) : List Nat :=
  if e < 8 then [7] else match e with
    | 8 => [4, 3]
    | 9 => [4, 2]
    | 10 => [4, 0]
    | 11 => [4]
    | 12 => [3, 2, 0, 4]
    | 13 => [3, 2, 0, 4]
    | 14 => [6, 4]
    | 15 => [8, 4]
    | 16 => [8, 4]
    | _ => []

/-- The bits of a register word that an engine may write (R334): none where the register is not one of its own. -/
def bstMask (e : Nat) (id : RegId) (w : Nat) : Option Nat :=
  let f := 0xFFFFFFFF
  match e, id with
  | 8, .TSK_CLK_ST => some (if w = 5 then 0xFFFFF else f)
  | 9, .GNS_SOL => some (if w = 5 then 0x7FF else f)
  | 9, .GNS_POS_CFG => some f
  | 9, .GNS_POS => some f
  | 9, .GNS_POS_UNC => some f
  | 9, .GNS_ISB => if w = 2 then some f else none
  | 11, .TSK_HOLD_TC => some (if w = 2 then 0xFFFF else f)
  | 11, .TSK_HOLD_ST => if w = 5 then some 0x1FFFF else none
  | 11, .TSK_EFC_ST => some 0x3FFFFFF
  | 12, .ASY_GNSS_ST => some 0x3FFFFF
  | 13, .ASY_GNSS_ST => some 0x3FFFFF
  | 15, .HMK_CT_ST => some (match w with | 2 => 0x1FFFFFF | 3 => 0x1FFFF | _ => 0x7FFFFF)
  | 16, .HMK_CT_ST => some (match w with | 2 => 0x1FFFFFF | 3 => 0x1FFFF | _ => 0x7FFFFF)
  | _, _ => none

namespace State

/-! ## BLD and BST (R345) -/

/-- The register word that an engine may read at an address: 4-byte aligned, Normal alias, of a block of its own, not RC. -/
def bldPlace (e a : Nat) : Option (RegDesc × Nat × Nat × Nat) :=
  if a % 4 = 0 ∧ aliasOf a = 0 ∧ a < 0x2000000 ∧ a / 0x100000 ∈ bldWindows e then
    match provPlace a with
    | .reg d i j w _ => if sideOf d w = 1 then none else some (d, i, j, w)
    | _ => none
  else none

/-- The register word that an engine may write at an address, and its writable bits. -/
def bstPlace (e a : Nat) : Option Nat :=
  if a % 4 = 0 ∧ aliasOf a = 0 ∧ a < 0x2000000 then
    match provPlace a with
    | .reg d _ _ w _ => bstMask e d.id w
    | _ => none
  else none

/-- BLD: no read side effect takes place; the low word of a 64-bit register latches its high word. ETH_TXTS_POP answers a
32-bit read with 0 (R267). -/
def bldAct (s : State) (e w : Nat) : State :=
  let a := s.pAddr e w
  match bldPlace e a with
  | some (d, i, j, k) =>
    let x := s.engine e
    let word (k a : Nat) : Nat := if d.id = .ETH_TXTS_POP then 0 else s.wordView false 0 d i j k a
    match x.bldHi with
    | some (h, v) =>
      if h = a then ((s.setEngine e { x with bldHi := none }).setG e (pRd w) v).pcNext e
      else
        let x := if d.wide && k % 2 = 0 then { x with bldHi := some (a + 4, word (k + 1) (a + 4)) } else x
        ((s.setEngine e x).setG e (pRd w) (word k a)).pcNext e
    | none =>
      let x := if d.wide && k % 2 = 0 then { x with bldHi := some (a + 4, word (k + 1) (a + 4)) } else x
      ((s.setEngine e x).setG e (pRd w) (word k a)).pcNext e
  | none => s.pcNext e

/-- A word is written live, and into a shadow that waits, within a mask. -/
def putLive (s : State) (k v m : Nat) : State :=
  let mix (old : Nat) : Word := BitVec.ofNat 32 (Nat.lor (Nat.land old (2 ^ 32 - 1 - m)) (Nat.land v m))
  let pend := match alGet s.pend k with
    | some p => alSet s.pend k (mix p.toNat)
    | none => s.pend
  { s with regs := s.regs.put k (mix (s.regs.word k).toNat), pend := pend }

/-- BST: the write reaches the live value and the shadow at once. A survey mode made live begins a survey (R122). -/
def bstAct (s : State) (e w : Nat) : State :=
  let a := s.pAddr e w
  match bstPlace e a with
  | some m =>
    let was := s.get F.GNS_POS_CFG_MODE
    let s := s.putLive a (s.g e (pRd w)) m
    let s := if was ≠ s.get F.GNS_POS_CFG_MODE && s.get F.GNS_POS_CFG_MODE = 0 then
      { s with gns := { s.gns with survey := some s.ns } } else s
    s.pcNext e
  | none => s.pcNext e

/-! ## CLASS and WAITE (R263, R344, R349) -/

/-- The LOCAL_FRAME cell of a frame (R346). -/
def localCell (f : RxFrame) : Cell :=
  ⟨2, 256, pack 0 [(0, 8, f.short), (8, 2, f.frac), (10, 2, f.len), (16, 240, f.bytes)]⟩

/-- The held frame is released under a class (R263). -/
def classify (s : State) (e cls : Nat) (loc : Bool) : State :=
  let x := s.engine e
  match x.held with
  | some f =>
    let s := s.setEngine e { x with held := none, frameCyc := 0 }
    let s := s.set (F.ENG_CYC_FRAME_MAX e) (max (s.get (F.ENG_CYC_FRAME_MAX e)) (satN 8 x.frameCyc))
    if (cls = 1 || cls = 2) && loc then s.cellTo e (localCell f)
    else if cls = 1 || cls = 2 || cls = 3 then s.hmkEnqueue f cls
    else if cls = 5 then s.emitOut (.hostFrame f.port f.len f.bytes f.short f.frac)
    else s.ethStat f.port 9 1
  | none => s

/-- WAITE: a frame still held is classified DROP; a port engine whose region's switch waits for this WAITE switches to the
new generation (R353); otherwise the wait begins. -/
def waiteAct (s : State) (e w : Nat) : State :=
  let s := s.classify e 0 false
  let t := if (s.engine e).swap then (s.setEngine e { s.engine e with swap := false }).regionEffect e else s
  if t.get (F.ENG_ST_BANK e) ≠ s.get (F.ENG_ST_BANK e) then t else t.beginWait e ⟨pRd w, none, true⟩ false

end State

/-- BLD (R345). -/
def execPlBld (e : Nat) (s : State) : Host.Outcome State Fault Refusal :=
  .next (State.pRun 0x2C (State.pCost 8) (fun s e w => if (State.bldPlace e (s.pAddr e w)).isSome then 0 else 32)
    State.bldAct e s)

/-- BST (R345). -/
def execPlBst (e : Nat) (s : State) : Host.Outcome State Fault Refusal :=
  .next (State.pRun 0x2D (State.pCost 4) (fun s e w => if (State.bstPlace e (s.pAddr e w)).isSome then 0 else 32)
    State.bstAct e s)

/-- CLASS (R344): class ra[2:0], LOCAL ra[3]. -/
def execPlClass (e : Nat) (s : State) : Host.Outcome State Fault Refusal :=
  .next (State.pRun 0x35 (State.pCost 1) State.pktFault
    (fun s e w => (s.classify e (bitsOf (s.g e (pRa w)) 0 3) (bitOf (s.g e (pRa w)) 3)).pcNext e) e s)

/-- WAITE (R349). -/
def execPlWaite (e : Nat) (s : State) : Host.Outcome State Fault Refusal :=
  .next (State.pRun 0x3E (State.pCost 1) State.pNoFault State.waiteAct e s)

end Sys2Proof.Machine
end

