-- ==== Sys2Proof/Machine/Update.lean ====
section
/-!
DEFINITION. Sys2Proof/Machine/Update.lean: strobes of the update groups (R25 to R28, R363, R364, R496): the judging of shadow
values, the cycle in which a group goes live, and what each block does in it; power domains switched by software (R454 to R457).
-/

namespace Sys2Proof.Machine

/-- A shadowed register with written words: name, indices, address of its first word, number of words. -/
structure PReg where
  id : RegId
  i : Nat
  j : Nat
  a : Nat
  n : Nat
  deriving DecidableEq, Repr

/-- The update group of a block window without an UPD_GROUPS section (R364). -/
def defaultGroup (win : Nat) : Nat := ([1, 1, 3, 4, 2, 5, 0, 6, 7] : List Nat).getD win 0

/-- The window of a key. -/
def winOf (k : Nat) : Nat := k % 2 ^ 25 / 0x100000

/-- The shadowed register a key belongs to. -/
def pregOf (k : Nat) : Option PReg :=
  match findReg k with
  | some (d, i, j, w) => some ⟨d.id, i, j, k - 4 * w, d.words.length⟩
  | none => none

/-- The registers of a list of keys, once each; keys rise. -/
def pregs : List Nat → List PReg
  | [] => []
  | k :: t =>
    let r := pregs t
    match pregOf k with
    | some p => if r.any (fun q => q.a = p.a) then r else p :: r
    | none => r

/-- Ranges that the field tables give, as (field, least, greatest). -/
def fieldRanges (id : RegId) (i : Nat) : List (Fld × Nat × Nat) :=
  match id with
  | .REF_IN_PRE => [(F.REF_IN_PRE_DIV i, 1, 2 ^ 24), (F.REF_IN_PRE_EDGE i, 0, 2)]
  | .REF_APORT_CFG => [(F.REF_APORT_CFG_DIV i, 63, 65535), (F.REF_APORT_CFG_PARITY i, 0, 2), (F.REF_APORT_CFG_TMO i, 1, 255)]
  | .REF_TOD_CFG => [(F.REF_TOD_CFG_IRIG_SCALE i, 0, 2)]
  | .REF_TODOUT_CFG => [(F.REF_TODOUT_CFG_SCALE i, 0, 2)]
  | .TIC_CAL_CFG => [(F.TIC_CAL_CFG_HEXP, 0, 6), (F.TIC_CAL_CFG_MAXR, 2, 7), (F.TIC_CAL_CFG_CDC_MAXAGE, 1, 255), (F.TIC_CAL_CFG_CDC_DT, 1, 15)]
  | .TIC_CAL_CFG2 => [(F.TIC_CAL_CFG2_PATH_MAXAGE, 1, 255), (F.TIC_CAL_CFG2_PATH_DT, 1, 31), (F.TIC_CAL_CFG2_PATH_RETRY, 1, 65535)]
  | .TIC_CH_CFG => [(F.TIC_CH_CFG_QMODE i, 0, 2)]
  | .TIC_STRM => [(F.TIC_STRM_LOG2 i, 8, 26)]
  | .GNS_TRK_CFG => [(F.GNS_TRK_CFG_CN0_LOSS, 10, 45), (F.GNS_TRK_CFG_PULL_MS, 100, 1023), (F.GNS_TRK_CFG_COAST_S, 1, 15), (F.GNS_TRK_CFG_ALL_LOST_S, 1, 255)]
  | .GNS_SRCH_CFG => [(F.GNS_SRCH_CFG_DOPP, 1, 255), (F.GNS_SRCH_CFG_BIN, 1, 63), (F.GNS_SRCH_CFG_NONCOH, 1, 15)]
  | .GNS_AID_CFG => [(F.GNS_AID_CFG_AID_PASSES, 1, 15)]
  | .GNS_POS_CFG => [(F.GNS_POS_CFG_MODE, 0, 1)]
  | .GNS_ISB => [(F.GNS_ISB_MODE i, 0, 2)]
  | .GNS_DORM_CFG => [(F.GNS_DORM_CFG_BURST_MS, 20, 60)]
  | .ASY_DISC_CFG => [(F.ASY_DISC_CFG_WIN, 1, 4095)]
  | .ASY_LIMIT => (List.range 8).map (fun c => (F.ASY_LIMIT_LIMIT c, 1, 15))
  | .ASY_PROB_CFG => [(F.ASY_PROB_CFG_ENTRY, 1, 255)]
  | .ASY_CHK_CFG => [(F.ASY_CHK_CFG_OUT_K, 2, 15), (F.ASY_CHK_CFG_SPOOF_K, 1, 15), (F.ASY_CHK_CFG_PJ_AGREE, 1, 15)]
  | .ASY_REF_CFG => [(F.ASY_REF_CFG_ROLE i, 0, 2), (F.ASY_REF_CFG_NOISE i, 1, 65535)]
  | .ASY_SRC_CFG => [(F.ASY_SRC_CFG_WIN i, 1, 4095), (F.ASY_SRC_CFG_LIMIT i, 1, 15)]
  | .TSK_MODE_CFG => [(F.TSK_MODE_CFG_MODE, 0, 2)]
  | .TSK_LOOP_CFG => [(F.TSK_LOOP_CFG_BW_UHZ, 1, 10000000), (F.TSK_LOOP_CFG_DAMP, 16, 255)]
  | .TSK_ENS_CFG => [(F.TSK_ENS_CFG_W_CAP, 1, 256), (F.TSK_ENS_CFG_EST_TAU, 60, 1048575)]
  | .TSK_STEP_LIMIT => [(F.TSK_STEP_LIMIT_LIMIT, 1, 2 ^ 31)]
  | .TSK_SLEW_MAX => [(F.TSK_SLEW_MAX_RATE, 1, 50000)]
  | .TSK_HOLD_CFG => [(F.TSK_HOLD_CFG_HOLD_MODE, 0, 2), (F.TSK_HOLD_CFG_MODEL_MIN, 1, 255)]
  | .TSK_EFC_CFG => [(F.TSK_EFC_CFG_MODE, 0, 2), (F.TSK_EFC_CFG_NBITS, 16, 24), (F.TSK_EFC_CFG_SCLK_DIV, 4, 255), (F.TSK_EFC_CFG_PERIOD, 1, 255)]
  | .TSK_TEB_CFG => [(F.TSK_TEB_CFG_SERVO_MARGIN, 1, 4095)]
  | .TSK_TEB_CFG2 => [(F.TSK_TEB_CFG2_RES_K, 1, 15)]
  | .ETH_LOOP_CFG => [(F.ETH_LOOP_CFG_N, 16, 65535)]
  | .HMK_DRAM_CFG => [(F.HMK_DRAM_CFG_SCRUB_H, 1, 255), (F.HMK_DRAM_CFG_FAST_H, 1, 255)]
  | _ => []

/-- Reference numbers that a source tag or a configuration may name (R128, R196). -/
def refNamed (r : Nat) : Bool := r < 31 || (32 ≤ r && r < 36)

namespace State

/-- The update group of a block window (R364). -/
def groupOf (s : State) (win : Nat) : Nat := (alGet s.hif.grp win).getD (defaultGroup win)

/-- The block of a window is in a group of the mask. -/
def strobed (s : State) (mask win : Nat) : Bool := bitOf mask (s.groupOf win)

/-- The written shadow registers of the groups of a mask. -/
def pendRegs (s : State) (mask : Nat) : List PReg :=
  pregs ((s.pend.map Prod.fst).filter (fun k => s.strobed mask (winOf k)))

/-- The shadow of a register is reloaded from its live value (R363). -/
def reload (s : State) (p : PReg) : State :=
  { s with pend := (List.range p.n).foldl (fun (l : Store) w => alDel l (p.a + 4 * w)) s.pend }

/-- The shadow of one field is reloaded from its live value (R72, R93, R455). -/
def reloadFld (s : State) (f : Fld) : State :=
  if (alGet s.pend f.a).isSome then { s with pend := alSet s.pend f.a ((BitVec.ofNat 32 (putBits (s.shadowWord f.a).toNat f.lo f.w (s.get f)))) } else s

/-- The register's shadow differs from its live value. -/
def regChanged (s : State) (p : PReg) : Bool := s.shadowJoin p.a p.n ≠ s.regs.join p.a p.n

/-- Every field lies in its range. -/
def inRanges (s : State) (l : List (Fld × Nat × Nat)) : Bool :=
  l.all (fun x => decide (x.2.1 ≤ s.view x.1) && decide (s.view x.1 ≤ x.2.2))

/-! ## Judging (R363, R496) -/

/-- UART fields of a ToD input or output are in range (R78): DIV and PARITY at the places of REF_APORT_CFG. -/
def uartOk (v : Nat) : Bool := decide (63 ≤ bitsOf v 1 16) && bitsOf v 17 2 ≠ 3

/-- A source tag is accepted (R196). -/
def tagOk (s : State) (i : Nat) : Bool :=
  let tag := s.view (F.TSK_TAG_TAG i)
  let r := s.view (F.TSK_TAG_REF i)
  s.view (F.TSK_TAG_VALID i) = 0 ||
    (tag ≠ 0 && tag ≠ 0xFFFF && (refNamed r || r = 62) &&
      !(List.range 256).any (fun k => k ≠ i && s.view (F.TSK_TAG_VALID k) = 1 &&
        (k < i || (alGet s.pend (F.TSK_TAG_TAG k).a).isNone) &&
        (s.view (F.TSK_TAG_TAG k) = tag || s.view (F.TSK_TAG_REF k) = r)))

/-- Codes of the DAC are accepted (R172). -/
def efcLimOk (s : State) : Bool :=
  let lo := s.view F.TSK_EFC_LIM_CODE_MIN
  let hi := s.view F.TSK_EFC_LIM_CODE_MAX
  let v := s.view F.TSK_EFC_LIM_CODE_INIT
  decide (lo < hi) && decide (hi < 2 ^ s.view F.TSK_EFC_CFG_NBITS) && decide (lo ≤ v ∧ v ≤ hi)

/-- A strobe accepts a register's shadow value, where no rule of its own block names the fields kept. `s0` is the state before
the strobe judged anything. -/
def cfgOk (s0 s : State) (p : PReg) : Bool :=
  s.inRanges (fieldRanges p.id p.i) &&
  (match p.id with
    | .REF_TOD_CFG => uartOk (s.view (F.REF_TOD_CFG_UART p.i))
    | .REF_TODOUT_CFG => uartOk (s.view (F.REF_TODOUT_CFG_UART p.i))
    | .TIC_STRM => s.get (F.TIC_CH_CFG_QMODE p.i) ≠ 1
    | .GNS_GSI_CFG => s.gsiCfgOk p.i
    | .GNS_ANT_CFG => decide (s.view (F.GNS_ANT_CFG_I_OPEN p.i) < s.view (F.GNS_ANT_CFG_I_SHORT p.i))
    | .GNS_GSI_IF => s.gsiIfOk p.i
    | .GNS_DORM_CFG => decide (s.view F.GNS_DORM_CFG_LEAD_MS < s.view F.GNS_DORM_CFG_BURST_MS)
    | .ASY_DISC_CFG => decide (s.view F.ASY_DISC_CFG_WIN ≤ s.view F.ASY_DISC_CFG_HOLDOFF)
    | .ASY_REF_CTL =>
      refNamed (s.view F.ASY_REF_CTL_REF) && !(s.view F.ASY_REF_CTL_CLEAR = 1 && s.refState (s.view F.ASY_REF_CTL_REF) = 0)
    | .ASY_REF_CFG =>
      refNamed p.i && !(s.view (F.ASY_REF_CFG_MEMBER p.i) = 1 && (s.view (F.ASY_REF_CFG_CLOCK p.i) = 0 || 32 ≤ p.i))
    | .ASY_SRC_CFG => p.i < 9 && decide (s.view (F.ASY_SRC_CFG_WIN p.i) ≤ s.view (F.ASY_SRC_CFG_HOLDOFF p.i))
    | .TSK_MODE_CFG => !(s.view F.TSK_MODE_CFG_MODE = 1 && s.prov)
    | .TSK_FREQ_MAN => decide ((s.viewI F.TSK_FREQ_MAN_FREQ_MAN).natAbs ≤ 7205759403792)
    | .TSK_CAPTURE => decide (1 ≤ s.view F.TSK_CAPTURE_CAPTURE ∧ s.view F.TSK_CAPTURE_CAPTURE ≤ s.view F.TSK_STEP_LIMIT_LIMIT)
    | .TSK_EFC_LIM => s.efcLimOk
    | .TSK_EFC_GAIN => !(s.view F.TSK_EFC_GAIN_GAIN = 0 && s.view F.TSK_EFC_CFG_MODE ≠ 0)
    | .TSK_TAG => s.tagOk p.i
    | .SYN_BURN_CFG => s.burnCfgOk p.i
    | .OUT_F_CFG => s.outCfgOk p.i
    | .OUT_G_CFG => s.outCfgOk (16 + p.i)
    | .OUT_AES_CFG =>
      s.view (F.OUT_AES_CFG_RATE p.i) ≠ 7 && (s.view (F.OUT_AES_CFG_GRADE p.i) = 1 || s.view (F.OUT_AES_CFG_GRADE p.i) = 2)
    | .ETH_CFG => s.ethCfgOk p.i
    | .ETH_SLOT_CFG => s.ethSlotOk p.i
    | .ETH_PAUSE_WD => s.ethWdOk p.i
    | .HMK_PORT_CFG => s.hmkPortOk p.i
    | .HMK_TAT_CTL => s.view F.HMK_TAT_CTL_SWAP = 0 || s.get F.HMK_TAT_ST_STATE = 2
    | .HMK_TEN_CFG => s.tenCfgOk p.i
    | .HMK_KEY_NEXT => s.keyNextOk p.i p.j
    | .HMK_DRAM_CFG => decide (s.view F.HMK_DRAM_CFG_FAST_H ≤ s.view F.HMK_DRAM_CFG_SCRUB_H)
    | .GFL_AGREE => s.gflAgreeOk
    | .GFL_CFG => s0.gflCfgOk p.i && s.gflCfgOk p.i
    | .PAIR_CFG => s.pairCfgOk
    | _ => true)

/-- A refused register, with the flags its block gives the refusal besides CFG_REFUSED. -/
def refuse (s : State) (p : PReg) : State :=
  let s := s.reload p
  match p.id with
  | .OUT_F_CFG => s.set (F.OUT_ST_CFG_REFUSED p.i) 1
  | .OUT_G_CFG => s.set (F.OUT_ST_CFG_REFUSED (16 + p.i)) 1
  | .HMK_TEN_CFG => s.set (F.HMK_TEN_ST_CFG_REFUSED p.i) 1
  | .HMK_KEY_NEXT => s.set (F.HMK_KEY_ST_KEY_REFUSED p.i p.j) 1
  | _ => s

/-- REF_IN_CFG (R72, R496): a reserved MODE refuses the register; a change of MODE or TERM while EN stays 1 keeps these two. -/
def judgeRefIn (s : State) (p : PReg) : State × Bool :=
  let i := p.i
  let changed := s.view (F.REF_IN_CFG_MODE i) ≠ s.get (F.REF_IN_CFG_MODE i) || s.view (F.REF_IN_CFG_TERM i) ≠ s.get (F.REF_IN_CFG_TERM i)
  if !changed then (s, false)
  else if 4 < s.view (F.REF_IN_CFG_MODE i) then ((s.reload p).set (F.REF_SRC_STAT_MODE_REFUSED i) 1, true)
  else if s.on (F.REF_IN_CFG_EN i) && s.view (F.REF_IN_CFG_EN i) = 1 then
    (((s.reloadFld (F.REF_IN_CFG_MODE i)).reloadFld (F.REF_IN_CFG_TERM i)).set (F.REF_SRC_STAT_MODE_REFUSED i) 1, true)
  else (s.set (F.REF_SRC_STAT_MODE_REFUSED i) 0, false)

/-- A channel's configuration (R109): refused with CFG_ERR or DUP. -/
def judgeCh (s : State) (p : PReg) : State × Bool :=
  match s.chJudge p.i with
  | 0 => (s, false)
  | 1 => (((s.reload p).set (F.GNS_CH_STAT_CFG_ERR p.i) 1).set (F.GNS_CH_STAT_DUP p.i) 0, true)
  | _ => (((s.reload p).set (F.GNS_CH_STAT_DUP p.i) 1).set (F.GNS_CH_STAT_CFG_ERR p.i) 0, true)

/-- TSK_STEP_ARM and TSK_ANNEAL_CMD (R167, R169): the command is judged, and a refused one keeps the register. -/
def judgeArm (s : State) (p : PReg) : State × Bool :=
  if s.view F.TSK_STEP_ARM_DISARM = 1 then (s.disarmStep, false)
  else if s.view F.TSK_STEP_ARM_ARM = 1 then
    let r := s.armStep (s.view F.TSK_STEP_ARM_MAG) (s.view F.TSK_STEP_ARM_TOL) (s.view F.TSK_STEP_ARM_DEADLINE)
    if r.2 then (r.1, false) else (r.1.reload p, true)
  else (s, false)
def judgeAnneal (s : State) (p : PReg) : State × Bool :=
  if s.view F.TSK_ANNEAL_CMD_GO = 1 then
    let r := s.annealCommand (s.viewI F.TSK_ANNEAL_CMD_AMOUNT)
    if r.2 then (r.1, false) else (r.1.reload p, true)
  else (s, false)

/-- One written register is judged. Answers whether something was refused. `first` says that no transform entry has been
refused before it in this strobe (R58). -/
def judgeReg (s0 s : State) (p : PReg) (first : Bool) : State × Bool :=
  if !s.regChanged p && p.id ≠ .HMK_KEY_NEXT then (s, false)
  else
    match p.id with
    | .REF_IN_CFG => s.judgeRefIn p
    | .GNS_CH_CFG => s.judgeCh p
    | .TSK_STEP_ARM => s.judgeArm p
    | .TSK_ANNEAL_CMD => s.judgeAnneal p
    | .TSK_XFORM =>
      let c := s.xformCause p.i
      if c.1 = 0 then (s, false) else ((s.xformRefuse p.i c.1 c.2 first).reload p, true)
    | .TIC_CH_CFG =>
      if !cfgOk s0 s p then (s.reload p, true)
      else if s.view (F.TIC_CH_CFG_QMODE p.i) = 1 && s.get (F.TIC_CH_CFG_QMODE p.i) ≠ 1 && !s.feat 11 then
        (s.reloadFld (F.TIC_CH_CFG_QMODE p.i), true)
      else (s, false)
    | .GNS_POS_CFG =>
      if !cfgOk s0 s p then (s.reload p, true)
      else if s.view F.GNS_POS_CFG_MODE = 1 && s.view F.GNS_POS_UNC_UNC = 2 ^ 32 - 1 then
        ((s.reload p).set F.GNS_STAT_POS_REFUSED 1, true)
      else (s, false)
    | .SYS_PD_CTL => (s, false)
    | _ => if cfgOk s0 s p then (s, false) else (s.refuse p, true)

/-- The written registers are judged in address order. Answers those refused. -/
def judgeAll (s0 : State) : List PReg → State → List PReg → State × List PReg
  | [], s, bad => (s, bad)
  | p :: t, s, bad =>
    let r := judgeReg s0 s p (!bad.any (fun q => q.id = .TSK_XFORM))
    judgeAll s0 t r.1 (if r.2 then p :: bad else bad)

/-- CFG_REFUSED of the blocks strobed: set where a value was refused, else cleared. -/
def flagRefused (s : State) (mask : Nat) (bad : List PReg) : State :=
  let hit (win : Nat) : Bool := bad.any (fun p => winOf p.a = win)
  let flag (s : State) (win : Nat) (f : Fld) (b : Bool) : State := if s.strobed mask win then s.setB f b else s
  let gfl := bad.any (fun p => winOf p.a = 12 && p.id ≠ .PAIR_CFG)
  let s := flag s 3 F.ASY_STAT_CFG_REFUSED (hit 3)
  let s := flag s 4 F.TSK_STAT_CFG_REFUSED (hit 4)
  let s := flag s 5 F.SYN_STAT_CFG_REFUSED (hit 5)
  let s := flag s 8 F.HMK_STAT_CFG_REFUSED (hit 8)
  let s := flag (flag s 12 F.GFL_STAT_CFG_REFUSED gfl) 12 F.PAIR_STAT_CFG_REFUSED (bad.any (fun p => p.id = .PAIR_CFG))
  (List.range 8).foldl (fun (s : State) q =>
    flag s 7 (F.ETH_ST_CFG_REFUSED q) (bad.any (fun p => winOf p.a = 7 && (p.i = q || p.id = .ETH_LOOP_CFG)))) s

/-! ## Power domains (R454 to R456) -/

/-- Domains that the power sequence alone switches, as a mask. -/
def seqDomains : Nat := 0x3400000F

/-- Domains the part does not have (R4): ports 4 to 7 and media of SPR-A932. -/
def pdAbsent (s : State) (d : Nat) : Bool := s.part.small && ((8 ≤ d && d < 12) || d = 21)

/-- The live values allow a domain to be switched off (R454). -/
def pdIdle (s : State) (d : Nat) : Bool :=
  if d < 12 then !s.on (F.ETH_CFG_EN (d - 4))
  else if d = 12 then [0, 1, 2, 3].all (fun i => !s.on (F.GNS_GSI_CFG_EN i))
  else if d < 15 then (List.range 8).all (fun k => !s.on (F.TIC_CH_CFG_EN (8 * (d - 13) + k)))
  else if d < 19 then s.burnState (d - 15) = 0
  else if d < 21 then (outs.filter (fun o => outPd o = d)).all (fun o => s.outState o = 0)
  else if d = 21 then [0, 1, 2, 3].all (fun m => s.get (F.OUT_AES_CFG_MODE m) = 0)
  else if d = 22 then (List.range 8).all (fun p => !s.on (F.HMK_PORT_CFG_EN p))
  else if d = 24 || d = 25 then
    -- the image's placement in DRAM is not part of the format that R321 to R324 give
    !(s.get F.STR_STAT_STATE = 1 && Config.dramPlaced (s.get F.STR_DIGEST_DIGEST) (d - 24)) &&
      !(s.on F.OBS_TRC_CFG_DRAM_EN && Config.dramPlaced (s.get F.OBS_TRC_BASE_BASE) (d - 24))
  else if d = 27 then [0, 1, 2, 3].all (fun l => !s.on (F.GFL_CFG_EN l))
  else true

/-- PD_CHANGE (R468). -/
def pdRecord (s : State) (d st : Nat) : State := s.pevent 0x3D 0 (pay [(20, 1, d), (21, 1, st)])

/-- One domain's bit at a strobe; `old` is the state before it (R455, R456). -/
def pdStrobe (old : State) (s : State) (d : Nat) : State :=
  let was := bitOf (s.get F.SYS_PD_CTL_ON) d
  let now := bitOf (s.view F.SYS_PD_CTL_ON) d
  let bit : Fld := { F.SYS_PD_CTL_ON with lo := d, w := 1 }
  let dark := !old.pdUp d && !old.pow.up.contains d
  if was = now then s
  else if bitOf seqDomains d || (now && s.pdAbsent d) || (!now && !dark && !old.pdIdle d) then
    (s.reloadFld bit).set F.SYS_PD_REF_REFUSED (s.get F.SYS_PD_REF_REFUSED ||| 2 ^ d)
  else if now then
    let s := s.set F.SYS_PD_ST_PG (s.get F.SYS_PD_ST_PG - (s.get F.SYS_PD_ST_PG &&& 2 ^ d))
    ({ s with pow := { s.pow with up := s.pow.up ++ [d], down := s.pow.down.filter (fun x => x ≠ d) } }).pdRecord d 1
  else
    let s := { s with pow := { s.pow with up := s.pow.up.filter (fun x => x ≠ d), down := if dark then s.pow.down else s.pow.down ++ [d] } }
    if dark then s else s.pdRecord d 0

/-- SYS_PD_CTL at a strobe of its group (R455). -/
def pdStrobes (old s : State) : State := (List.range 30).foldl (pdStrobe old) (s.set F.SYS_PD_REF_REFUSED 0)

/-! ## Live (R27) -/

/-- The shadowed bits of a word. -/
def shadowMask (k : Nat) : Nat :=
  match findReg (k % 2 ^ 25) with
  | some (d, _, _, w) => (match d.words[w]? with | some x => x.rws | none => 0)
  | none => 0

/-- A register's shadow words become live. -/
def commitReg (s : State) (p : PReg) : State :=
  ((List.range p.n).foldl (fun (s : State) w =>
    match alGet s.pend (p.a + 4 * w) with
    | some v => s.putLive (p.a + 4 * w) v.toNat (shadowMask (p.a + 4 * w))
    | none => s) s).reload p

/-- A reference is enabled or disabled at a strobe (R139, R145, R150). -/
def refEnable (s : State) (r : Nat) (was : Bool) : State :=
  let en := s.on (F.ASY_REF_CFG_EN r)
  let x := s.ref r
  if en && !was then
    let s := s.setRef r { x with wasDisq := none, held := none, absent := false, nextLoss := 0, lossByRef := false, lastStamp := none, enAt := s.ns }
    match x.wasDisq with
    | some t => s.refMove r 4 t 10
    | none => s.refMove r 1 s.entryTicks 10
  else if !en && was then
    let left := if s.refState r = 4 then some x.timer else none
    (s.setRef r { x with wasDisq := left, held := none }).refMove r 0 0 10
  else s

/-- ASY_REF_CTL.CLEAR (R144). -/
def refClear (s : State) (r : Nat) : State :=
  let s := s.setRef r { s.ref r with log := [], held := none, wasDisq := none }
  let s := (List.range 8).foldl (fun (s : State) c => s.set (F.ASY_REF_ST_COUNT r c) 0) (s.set (F.ASY_REF_ST_BACKOFF r) 0)
  s.refMove r 1 s.entryTicks 8

/-- An engine is released at its strobe; engine 17 has no register set and no data image (R334, R352). An uncorrectable word of
its data image makes the release fail (R396). -/
def engRelease (s : State) (ues : List (Nat × DramErr)) (e : Nat) : State :=
  if !(s.engPresent e && s.engQuenched e) then s
  else
    let (s, ue) := s.dramRead (alGet ues e)
    match ue with
    | some u => s.dramUe 1 u
    | none => if e = 17 then (s.set (F.ENG_ST_STATE 17) 1).releaseRecords 1 17 else s.releaseEngine e

/-- What a block does as one of its registers goes live; `old` is the state before the strobe. -/
def liveReg (old s : State) (p : PReg) : State :=
  let i := p.i
  match p.id with
  | .REF_IN_CFG =>
    let en := s.on (F.REF_IN_CFG_EN i)
    if en && !old.on (F.REF_IN_CFG_EN i) then s.srcEnable i
    else if !en && old.on (F.REF_IN_CFG_EN i) then s.srcDisable i else s
  | .REF_IN_PRE => if s.get (F.REF_IN_PRE_DIV i) = old.get (F.REF_IN_PRE_DIV i) then s else s.setSrc i { s.src i with sel := 0 }
  | .REF_APORT_CFG =>
    let en := s.on (F.REF_APORT_CFG_EN i)
    if en && !old.on (F.REF_APORT_CFG_EN i) then s.aportEnable i
    else if !en && old.on (F.REF_APORT_CFG_EN i) then s.aportDisable i else s
  | .REF_TOD_CFG => if s.get (F.REF_TOD_CFG_UART i) % 2 = old.get (F.REF_TOD_CFG_UART i) % 2 then s else s.setTod i ⟨[], s.ns, []⟩
  | .REF_TODOUT_CFG => if s.get (F.REF_TODOUT_CFG_UART i) % 2 = old.get (F.REF_TODOUT_CFG_UART i) % 2 then s else s.setTodOut i ⟨none, none⟩
  | .TIC_CH_CFG => if old.on (F.TIC_CH_CFG_EN i) && !s.on (F.TIC_CH_CFG_EN i) then s.ticDisabled i else s
  | .TIC_PATH => s.pathWritten i
  | .GNS_GSI_CFG =>
    let en := s.on (F.GNS_GSI_CFG_EN i)
    if en && !old.on (F.GNS_GSI_CFG_EN i) then (s.gsiFaulty i).gnsStartUp
    else if !en && old.on (F.GNS_GSI_CFG_EN i) then
      (((s.set (F.GNS_GSI_STAT_CLK_OK i) 0).set (F.GNS_GSI_STAT_RATE_ERR i) 0).loseInputs (fun k => k = i)) else s
  | .GNS_ANT_CFG => s.antEnLive i
  | .GNS_POS_CFG => s.posModeLive (s.get F.GNS_POS_CFG_MODE ≠ old.get F.GNS_POS_CFG_MODE)
  | .GNS_ANT_DLY => s.antDlyLive i
  | .GNS_DORM_CFG => s.dormantChanged
  | .GNS_CH_CFG => s.chLive i (old.on (F.GNS_CH_CFG_EN i))
  | .ASY_REF_CFG => s.refEnable i (old.on (F.ASY_REF_CFG_EN i))
  | .TSK_MODE_CFG => if s.get F.TSK_MODE_CFG_MODE = old.get F.TSK_MODE_CFG_MODE then s else s.modeStrobe
  | .TSK_STEP_ARM => (s.set F.TSK_STEP_ARM_ARM 0).set F.TSK_STEP_ARM_DISARM 0
  | .TSK_ANNEAL_CMD => s.set F.TSK_ANNEAL_CMD_GO 0
  | .TSK_EFC_CFG => s.efcLive (old.get F.TSK_EFC_CFG_MODE)
  | .TSK_TEB_CFG => s.renewClaims.recomputeTeb.boundTrace
  | .TSK_TEB_CFG2 => s.renewClaims.recomputeTeb.boundTrace
  | .TSK_TEB_PORT => s.recomputeTeb.boundTrace
  | .SYN_SYNC_CTL => s.syncLive
  | .SYN_BURN_CFG =>
    let again := s.on (F.SYN_BURN_CFG_RELOCK i) || s.planLive i ≠ old.planLive i
    (s.set (F.SYN_BURN_CFG_RELOCK i) 0).burnLive i (old.on (F.SYN_BURN_CFG_EN i)) again
  | .OUT_F_CFG => s.outLive i false
  | .OUT_G_CFG =>
    let s := s.outLive (16 + i) (s.get (F.OUT_G_CFG_MODE i) ≠ old.get (F.OUT_G_CFG_MODE i))
    if s.get (F.OUT_G_CFG_OWNER i) = old.get (F.OUT_G_CFG_OWNER i) then s else s.ownerChange i (old.get (F.OUT_G_CFG_OWNER i))
  | .OUT_AES_CFG =>
    s.aesLive i (s.get (F.OUT_AES_CFG_MODE i) ≠ old.get (F.OUT_AES_CFG_MODE i) || s.get (F.OUT_AES_CFG_RATE i) ≠ old.get (F.OUT_AES_CFG_RATE i))
  | .ETH_CFG => s.ethLive i (old.on (F.ETH_CFG_EN i))
  | .HMK_TAT_CTL => (if s.on F.HMK_TAT_CTL_SWAP then s.tatSwap else s).set F.HMK_TAT_CTL_SWAP 0
  | .HMK_TEN_CFG => s.set (F.HMK_TEN_ST_CFG_REFUSED i) 0
  | .HMK_KEY_NEXT =>
    (s.set (F.HMK_KEY_ST_KEY_REFUSED i p.j) 0).set (F.HMK_KEY_ST_NEXT_VALID i p.j) (s.get (F.HMK_KEY_NEXT_VALID i p.j))
  | .GFL_CFG => (s.gflLive i (old.on (F.GFL_CFG_EN i))).pairSettle 0
  | .PAIR_CFG => s.pairSettle 0
  | _ => s

/-- CLEAR acts after every enable of its strobe. -/
def liveClear (s : State) : State :=
  if s.on F.ASY_REF_CTL_CLEAR then (s.refClear (s.get F.ASY_REF_CTL_REF)).set F.ASY_REF_CTL_CLEAR 0 else s

/-- Releases in the order of R29: functions, engines, peers. -/
def liveReleases (s : State) (mask : Nat) (ues : List (Nat × DramErr)) : State :=
  let s := if s.strobed mask 11 then s.releaseFns else s
  let es := (List.range 18).filter (fun e => s.strobed mask (winOf (engBase e)) && s.on (F.ENG_CTL_RELEASE e))
  let s := es.foldl (fun (s : State) e => (s.engRelease ues e).set (F.ENG_CTL_RELEASE e) 0) s
  let s := if es = [] then s else s.settleDiag 1
  let r := s.get F.GFL_REL_RELEASE
  if s.strobed mask 12 && r ≠ 0 then
    (([0, 1, 2, 3].filter (fun l => bitOf r l)).foldl releaseLink (s.set F.GFL_REL_RELEASE 0)).pairSettle 0
  else s

/-- SYS_UPD_ST of the groups strobed. -/
def countStrobes (s : State) (byReg bySched : Nat) : State :=
  (List.range 8).foldl (fun (s : State) g =>
    if bitOf (byReg ||| bySched) g then
      (((s.add (F.SYS_UPD_ST_COUNT g) 1).setB (F.SYS_UPD_ST_BY_REG g) (bitOf byReg g)).setB (F.SYS_UPD_ST_BY_SCHED g) (bitOf bySched g)).count g
    else s) s

/-- A strobe of the groups named by SYS_UPD_STROBE and by a scheduler entry, each switched once (R26, R27). `ues` are the
engines whose data image has an uncorrectable word. -/
def strobe (s : State) (byReg bySched : Nat) (ues : List (Nat × DramErr)) : State :=
  let mask := byReg ||| bySched
  let s := s.countStrobes byReg bySched
  let s := if s.strobed mask 8 || s.strobed mask 12 then s.tagHmk else s
  let regs := s.pendRegs mask
  let (s, bad) := judgeAll s regs s []
  let (s, bad) := judgeAll s (regs.filter (fun p => p.id = .GFL_CFG && !bad.contains p)) s bad
  let s := s.flagRefused mask bad
  let old := s
  let s := if s.strobed mask 14 then pdStrobes old s else s
  let regs := regs.filter (fun p => p.id ≠ .TEN_QUENCH_RELEASE)
  let s := regs.foldl commitReg s
  let s := if s.strobed mask 4 then s.leapLive else s
  let live := regs.filter (fun p => !bad.contains p || p.id = .REF_IN_CFG || p.id = .TIC_CH_CFG)
  let s := live.foldl (liveReg old) s
  let s := if s.strobed mask 3 then s.liveClear else s
  let s := if s.strobed mask 4 then s.manualStrobe else s
  let s := s.liveReleases mask ues
  if s.pairOn then s.settleDiag 1 else s

/-! ## Strobes of one cycle (R26, R231) -/

/-- The state with every shadow word as it was before the writes of this cycle. -/
def shadowsBefore (s : State) : State :=
  if s.hif.freshAt = s.time.cyc then
    { s with pend := s.hif.fresh.foldl (fun l p => match p.2 with | some w => alSet l p.1 w | none => alDel l p.1) s.pend }
  else s

/-- The state with the shadow words that `old` was written in this cycle waiting again. -/
def shadowsAfter (s old : State) : State :=
  if old.hif.freshAt = old.time.cyc then
    { s with pend := old.hif.fresh.foldl (fun l p => match alGet old.pend p.1 with | some w => alSet l p.1 w | none => l) s.pend }
  else s

/-- An occurrence of the calendar, the kernel tick among them, is due in the present cycle and has not acted. -/
def dueNow (s : State) : Bool :=
  s.occs.any (fun o => decide (s.dueOf o.ent ≤ s.ns) && s.notOverdue (s.dueOf o.ent)) ||
    (match s.tickEnt with | some (_, e) => decide (s.dueOf e ≤ s.ns) | none => false)

/-- SYS_UPD_STROBE (R26, R231): while occurrences of this cycle have yet to act, the strobe waits for the last of them. A group that
the scheduler switched in this cycle reports both and does not switch again. -/
def hostStrobe (s : State) (mask : Nat) (ues : List (Nat × DramErr)) : State :=
  if s.dueNow then { s with sch := { s.sch with updWait := s.sch.updWait ||| mask % 256 } }
  else
    let done := if s.hif.struck.1 = s.time.cyc then mask % 256 &&& s.hif.struck.2 else 0
    let s := (List.range 8).foldl (fun (s : State) g => if bitOf done g then s.set (F.SYS_UPD_ST_BY_REG g) 1 else s) s
    if done = 0 then s.strobe (mask % 256) 0 ues
    else if mask % 256 = done then s
    else s.strobe (mask % 256 - done) 0 ues

/-- A waiting SYS_UPD_STROBE takes effect once the last occurrence of its cycle has acted (R231). -/
def strobeDue (s : State) : State :=
  if s.sch.updWait = 0 || s.dueNow then s
  else ({ s with sch := { s.sch with updWait := 0 } } : State).hostStrobe s.sch.updWait []

/-- A strobe by SYS_UPD_STROBE of the group of a block, if a shadow field of it is 1. -/
def strobeFor (s : State) (f : Fld) (ues : List (Nat × DramErr)) : State :=
  if s.view f = 1 && !s.pow.held then s.hostStrobe (2 ^ s.groupOf (winOf f.a)) ues else s

end State

/-! ## Commands -/

/-- UPD_STROBE (R27, R364): the provider writes SYS_UPD_STROBE. -/
def execUpdStrobe (mask : Nat) (ues : List (Nat × DramErr)) (s : State) : Host.Outcome State Fault Refusal :=
  .next (if s.pow.held then s else s.hostStrobe mask ues)

/-- STEP_ARM (R169). -/
def execStepArm (s : State) : Host.Outcome State Fault Refusal := .next (s.strobeFor F.TSK_STEP_ARM_ARM [])

/-- STEP_DISARM (R169). -/
def execStepDisarm (s : State) : Host.Outcome State Fault Refusal := .next (s.strobeFor F.TSK_STEP_ARM_DISARM [])

/-- ANNEAL_COMMAND (R167). -/
def execAnnealCommand (s : State) : Host.Outcome State Fault Refusal := .next (s.strobeFor F.TSK_ANNEAL_CMD_GO [])

/-- BURN_RELOCK (R208). -/
def execBurnRelock (b : Nat) (s : State) : Host.Outcome State Fault Refusal :=
  .next (if b < 4 then s.strobeFor (F.SYN_BURN_CFG_RELOCK b) [] else s)

/-- AES_REALIGN (R225). -/
def execAesRealign (m : Nat) (s : State) : Host.Outcome State Fault Refusal :=
  .next (if m < 4 then s.strobeFor (F.OUT_AES_CFG_REALIGN m) [] else s)

/-- TAT_SWAP (R277). -/
def execTatSwap (s : State) : Host.Outcome State Fault Refusal := .next (s.strobeFor F.HMK_TAT_CTL_SWAP [])

/-- REF_CLEAR (R144). -/
def execRefClear (s : State) : Host.Outcome State Fault Refusal := .next (s.strobeFor F.ASY_REF_CTL_CLEAR [])

/-- ENGINE_RELEASE (R352): `ue` is an uncorrectable word of the engine's data image. -/
def execEngineRelease (e : Nat) (ue : Option DramErr) (s : State) : Host.Outcome State Fault Refusal :=
  .next (if e < 18 then s.strobeFor (F.ENG_CTL_RELEASE e) (match ue with | some u => [(e, u)] | none => []) else s)

/-- LINK_RELEASE (R393): the strobe that carries a release bit of link l. -/
def execLinkRelease (l : Nat) (s : State) : Host.Outcome State Fault Refusal :=
  .next (if l < 4 then s.strobeFor { F.GFL_REL_RELEASE with lo := l, w := 1 } [] else s)

/-- SYNC_ARM (R217). -/
def execSyncArm (s : State) : Host.Outcome State Fault Refusal := .next (s.strobeFor F.SYN_SYNC_CTL_ARM [])

/-- SYNC_DISARM (R217). -/
def execSyncDisarm (s : State) : Host.Outcome State Fault Refusal := .next (s.strobeFor F.SYN_SYNC_CTL_DISARM [])

/-- TENANT_RELEASE (R381): the strobe that carries the release bit of function n. -/
def execTenantRelease (n : Nat) (s : State) : Host.Outcome State Fault Refusal :=
  .next (if n < 1024 then s.strobeFor { F.TEN_QUENCH_RELEASE_RELEASE (n / 32) with lo := n % 32, w := 1 } [] else s)

end Sys2Proof.Machine
end

