-- ==== Sys2Proof/Machine/Boot.lean ====
section
/-!
DEFINITION. Sys2Proof/Machine/Boot.lean: power good of the domains (R456, R457), the SPLL's lock (R202, R203), the resets and
straps (R459, R461 to R464), the boot sequence (R327, R328, R466 to R468) and boundary scan (R469).
-/

namespace Sys2Proof.Machine

/-- The keys of VBAT state and fuses (R303, R305): no reset of the main domains touches them. -/
def vbatKey (k : Nat) : Bool :=
  (0x900008 ≤ k && k < 0x900034) || (0x900040 ≤ k && k < 0x900080) || (0x900100 ≤ k && k < 0x900200)

namespace State

/-! ## Domains up and down (R456, R457) -/

/-- A channel of a TIC half as its reset leaves it. -/
def ticClear (s : State) (c : Nat) : State :=
  let s := s.setTic c TicSt.reset
  let s := ((s.set (F.TIC_CH_STAT_FILL c) 0).set (F.TIC_CH_STAT_OVF c) 0).set (F.TIC_CH_STAT_CAL_ACTIVE c) 0
  (s.set (F.TIC_CH_STAT_CSTALE c) 1).set (F.TIC_CH_STAT_PSTALE c) 1

/-- A domain's blocks stop as it goes off: `cause` is that of ETH_LINK and GFL_LINK records. -/
def pdDown (s : State) (d cause : Nat) : State :=
  if d < 12 then s.portOff (d - 4) cause
  else if d = 12 then s.gnsDown
  else if d < 15 then (List.range 8).foldl (fun (s : State) k => s.ticClear (8 * (d - 13) + k)) s
  else if d < 19 then s.burnDown (d - 15)
  else if d < 21 then (outs.filter (fun o => outPd o = d)).foldl (fun (s : State) o => if s.outState o = 0 then s else s.outStopped o) s
  else if d = 21 then [0, 1, 2, 3].foldl (fun (s : State) m => s.setAes m ⟨0, false, 2, 0, 0, 0, 0, false, 0⟩) s
  else if d = 22 then { s with hmk := { s.hmk with queues := [], jobs := [] } }
  else if d = 24 || d = 25 then s.set (F.HMK_DRAM_ST_UP (d - 24)) 0
  else if d = 27 then [0, 1, 2, 3].foldl (fun (s : State) l => s.linkOff l cause) s
  else s

/-- A domain's blocks start from reset and follow their live registers (R456). -/
def pdStart (s : State) (d : Nat) : State :=
  if d < 12 then (if s.on (F.ETH_CFG_EN (d - 4)) then s.portOn (d - 4) else s)
  else if d = 12 then
    (gnsAll.foldl (fun (s : State) c => if s.on (F.GNS_CH_CFG_EN c) then s.chLive c false else s) s).gnsStartUp.dormantChanged
  else if d < 15 then (List.range 8).foldl (fun (s : State) k => s.ticClear (8 * (d - 13) + k)) s
  else if d < 19 then (s.lockaOut (d - 15)).burnLive (d - 15) false false
  else if d < 21 then (outs.filter (fun o => outPd o = d)).foldl (fun (s : State) o => if s.outRun o then s.outStart o else s) s
  else if d = 21 then [0, 1, 2, 3].foldl (fun (s : State) m => if s.aesUp m then s.aesRestart m else s) s
  else if d = 27 then [0, 1, 2, 3].foldl (fun (s : State) l => if s.on (F.GFL_CFG_EN l) then s.linkOn l else s) s
  else s

/-- Power good of a domain. -/
def setPg (s : State) (d : Nat) (b : Bool) : State := s.setB { F.SYS_PD_ST_PG with lo := d, w := 1 } b

/-- A domain reaches power good (R456). -/
def powerGood (s : State) (d : Nat) : State :=
  if s.pow.up.contains d then
    (({ s with pow := { s.pow with up := s.pow.up.filter (fun x => x ≠ d) } }).setPg d true).pdStart d
  else s

/-- A domain that was switched off is isolated (R456). -/
def offDone (s : State) (d : Nat) : State :=
  if s.pow.down.contains d then
    (({ s with pow := { s.pow with down := s.pow.down.filter (fun x => x ≠ d) } }).setPg d false).pdDown d 0
  else s

/-- Power good of a software-switched domain fails while it is on (R457). -/
def pgFail (s : State) (d : Nat) : State :=
  if s.pdUp d && !bitOf seqDomains d then
    let s := (s.setPg d false).set F.SYS_PD_FAULT_FAULT (s.get F.SYS_PD_FAULT_FAULT ||| 2 ^ d)
    let s := (s.pevent 0x3E 0 (pay [(20, 1, d)])).settleAlert
    ({ s with pow := { s.pow with down := s.pow.down.filter (fun x => x ≠ d) } }).pdDown d 3
  else s

/-! ## Boot (R466 to R468) -/

/-- µs after PORST_L rose: those to the SPLL's lock, then cycles (R466). -/
def bootUs (s : State) : Nat := s.get F.SYS_BOOT_ST_T_SPLL + s.time.cyc / 1000

/-- The blocks follow the register defaults of an image, as at a strobe (R325); `old` is the state before them. A default is no
software write of a delay. -/
def defaultsLive (old s : State) : State :=
  ((pregs (s.regs.map Prod.fst)).filter (fun p => p.id ≠ .TIC_PATH && p.id ≠ .GNS_ANT_DLY && p.id ≠ .GNS_CH_CFG)).foldl (liveReg old) s

/-- An image has gone live in the boot: domains that it asks for come up, and DRAM is trained (R466). -/
def imageLive (s : State) (img : Image) (src : Nat) : State :=
  let old := s
  let s := s.goLive img src
  let wants (d : Nat) : Bool :=
    bitOf (s.get F.SYS_PD_CTL_ON) d || ((d = 24 || d = 25) && Config.dramPlaced img.digest (d - 24))
  let up := (List.range 30).filter (fun d => wants d && !s.pdUp d && !s.pdAbsent d && !s.pow.up.contains d)
  let s := { s with pow := { s.pow with up := s.pow.up ++ up } }
  let s := if s.get F.GNS_POS_CFG_MODE = 0 then { s with gns := { s.gns with survey := some s.ns } } else s
  let s := defaultsLive old s
  ((s.set F.SYS_BOOT_ST_STATE 3).set F.SYS_BOOT_ST_T_IMAGE s.bootUs).settleAlert

/-- No copy is left to try, or the host is to push: NO_IMAGE (R328). -/
def noImage (s : State) : State := ((s.set F.STR_STAT_STATE 2).set F.SYS_BOOT_ST_STATE 5).settleAlert

/-- The boot phase IMAGE begins (R327). -/
def imagePhase (s : State) : State := if 2 ≤ s.get F.SYS_STRAP_BOOT_SRC then s.noImage else s.set F.SYS_BOOT_ST_STATE 2

/-- The QSPI copy to try: A is 0, B is 1 (R327). -/
def copyNow (s : State) : Nat :=
  let first := s.get F.SYS_STRAP_BOOT_SRC
  if s.str.tried = [] then first else 1 - first

/-- The read and checks of a QSPI copy end (R326 to R328, R397). -/
def imageRead (s : State) (readOk : Bool) (img : Image) (vaultOk : Bool) : State :=
  let c := s.copyNow
  let r := if readOk then s.checkImage img none vaultOk else (lReadErr, 0xFFFF)
  let s := s.loadResult c r.1 r.2
  if r.1 = lOk then s.imageLive img c
  else
    let rec_ := s.evRec 0x21 0 s.short s.frac (pay [(20, 1, c), (21, 1, r.1), (22, 2, r.2)])
    let s := { s with str := { s.str with tried := s.str.tried ++ [c] }, hif := { s.hif with bootRecs := s.hif.bootRecs ++ [rec_] } }
    let s := s.set F.STR_STAT_FALLBACK 1
    if s.str.tried.length < 2 then s else s.noImage

/-- The vault at power-up (R306, R307): VBAT loss, and a PROV_NONCE. -/
def vaultBoot (s : State) : State :=
  let s := if s.kvt.pattern then s
    else
      let k : KvtSt := { KvtSt.reset with pattern := true }
      let regs := s.regs.filter (fun p => !(0x900020 ≤ p.1 && p.1 < 0x900034) && !(0x900100 ≤ p.1 && p.1 < 0x900200))
      ({ s with regs := regs, kvt := k }.set F.KVT_STAT_PROVISIONED 0).set F.KVT_STAT_VBAT_LOST 1
  let s := if s.provisioned then s else (s.set F.KVT_PROV_NONCE_NONCE (Config.random s.draws)).draw
  s.settleLog

/-- The SPLL declares lock: the time core starts in provisional time (R47, R202), and roll call begins (R417). -/
def spllLock (s : State) (us : Nat) : State :=
  let s := { s with time := { TimeSt.reset with running := true }, pow := { s.pow with locked := true } }
  let s := (s.set F.SYN_SPLL_ST_LOCKED 1).set F.TSK_STAT_PROVISIONAL 1
  let s := (s.set F.SYS_BOOT_ST_STATE 1).set F.SYS_BOOT_ST_T_SPLL us
  let s := s.vaultBoot
  if s.on F.SEAM_STAT_EN then s.rollStart 1 0 else s

/-- VAULT ends: the loader begins (R466). -/
def vaultEnd (s : State) : State := if s.get F.SYS_BOOT_ST_STATE = 1 then s.imagePhase else s

/-- A pushed image's checks end (R326, R328, R329). -/
def pushDone (s : State) (readOk : Bool) (img : Image) (vaultOk : Bool) : State :=
  if s.on F.STR_STAT_BUSY then
    let s := s.set F.STR_STAT_BUSY 0
    let r := if readOk then s.checkImage img (some (s.get F.STR_PUSH_LENGTH)) vaultOk else (lReadErr, 0xFFFF)
    let s := s.loadResult 2 r.1 r.2
    if r.1 ≠ lOk then s
    else if img.partial_ then s.stage img
    else if s.get F.STR_STAT_STATE = 1 then ({ s with str := { s.str with pendImg := some img } }).set F.STR_STAT_PENDING 1
    else s.imageLive img 2
  else s

/-- DRAM training ends, channel by channel (R467). -/
def dramTrained (s : State) (okA okB : Bool) : State :=
  let st := s.get F.SYS_BOOT_ST_STATE
  let one (s : State) (c : Nat) (ok : Bool) : State :=
    if !s.pdUp (24 + c) || s.on (F.HMK_DRAM_ST_UP c) then s
    else if ok then s.set (F.HMK_DRAM_ST_UP c) 1
    else (s.set F.SYS_BOOT_ST_DRAM_FAIL 1).settleAlert
  let s := one (one s 0 okA) 1 okB
  if st = 3 then s.set F.SYS_BOOT_ST_T_DRAM s.bootUs else s

/-- Every DRAM channel on which the image places its tables is up (R467). -/
def dramReady (s : State) : Bool :=
  [0, 1].all (fun c => !Config.dramPlaced (s.get F.STR_DIGEST_DIGEST) c || s.on (F.HMK_DRAM_ST_UP c))

/-! ## Resets (R461 to R463) -/

/-- The vault as a reset of the main domains leaves it: what VBAT holds stays (R303, R461). -/
def kvtKept (s : State) : KvtSt := { s.kvt with slots := [], upd := none }

/-- The pads are released and CLAIM_OUT is driven to 0 for 100 ns (R424, R426). -/
def padsReset (s : State) : State :=
  let s := if s.on F.PAIR_STAT_DRIVING then s.emitOut (.pads false) else s
  let s := if s.pair.okLow then s.emitOut (.pairOk false) else s
  s.emitOut (.claim (some 0))

/-- Every domain but PD_VBAT and the fuses at its reset state (R461). -/
def porstCore (s : State) (held extest : Bool) : State :=
  let on := s.get F.KVT_STAT_PROVISIONED
  let r : State :=
    { State.reset with part := s.part, regs := s.regs.filter (fun p => vbatKey p.1), kvt := s.kvtKept
                       tic := { State.reset.tic with temp := s.tic.temp }, draws := s.draws, out := s.out, pending := s.pending
                       pow := { PowSt.reset with held := held, extest := extest, claimLow := true, tap := s.pow.tap } }
  r.set F.KVT_STAT_PROVISIONED on

/-- Every domain is reset but PD_VBAT and the fuses (R461). -/
def porst (s : State) (held extest : Bool) : State := s.padsReset.porstCore held extest

/-- The straps as read (R464, R412, R428). -/
def putStraps (s : State) (v : Nat) : State :=
  let s := { s with regs := s.regs.put F.SYS_STRAP_BOOT_SRC.a (BitVec.ofNat 32 (v % 128)) }
  let s := (s.set F.PAIR_STAT_POS (bitsOf v 5 1)).set F.SEAM_STAT_EN (bitsOf v 6 1)
  if bitOf v 6 then s else s.set F.SEAM_MEMBERS_MEMBERS (2 ^ bitsOf v 2 3)

/-- The straps in force. -/
def straps (s : State) : Nat := (s.regs.word F.SYS_STRAP_BOOT_SRC.a).toNat

/-- WARMRST_L (R462): what survives is the SPLL, the time core with FREQ_ADJ and the published bound, VBAT, the device and
tenant counters, the straps and WARM_COUNT. The kernel resumes in HOLDOVER, FROZEN, unless time was provisional. -/
def warmReset (s : State) : State :=
  let prov := s.prov
  let warm := s.get F.SYS_RST_ST_WARM_COUNT
  let tsk (k : Nat) : Bool := F.TSK_FREQ_ADJ_FREQ_ADJ.a ≤ k && k < F.TSK_FREQ_ADJ_FREQ_ADJ.a + 8 || F.TSK_TEB_TEB_LO.a ≤ k && k < F.TSK_TEB_TEB_LO.a + 8 || k = F.TSK_TEB_FLOAT_BOUND.a
  let kept := s.regs.filter (fun p => vbatKey p.1 || tsk p.1 || p.1 = F.SYN_SPLL_ST_LOCKED.a ||
    (F.SYS_BOOT_ST_T_SPLL.a ≤ p.1 && p.1 < F.SYS_BOOT_ST_T_SPLL.a + 4))
  let x := s.padsReset
  let r : State :=
    { State.reset with part := x.part, regs := kept, kvt := x.kvtKept
                       time := { x.time with annS := 0, annNext := 0, annR := 0, annAmt := 0, annClock := 255 }
                       tsk := { TskSt.reset with
                                lol := x.tsk.lol, lolUntil := x.tsk.lolUntil, lolOn := x.tsk.lolOn, tebCalc := x.tsk.tebCalc
                                bnd := x.tsk.bnd, bndNs := x.tsk.bndNs, tagHeld := s.get F.TSK_TEB_SRC_TAG }
                       obs := { ObsSt.reset with cnt := x.obs.cnt, ten := x.obs.ten }
                       tic := { State.reset.tic with temp := x.tic.temp }, draws := x.draws, out := x.out, pending := x.pending
                       pow := { x.pow with up := [], down := [], claimLow := true } }
  let r := (r.set F.KVT_STAT_PROVISIONED (s.get F.KVT_STAT_PROVISIONED)).set F.KVT_STAT_VBAT_LOST (s.get F.KVT_STAT_VBAT_LOST)
  let r := r.putStraps s.straps
  let r := (r.set F.SYS_RST_ST_CAUSE 1).set F.SYS_RST_ST_WARM_COUNT (warm + 1)
  let r := if prov then r.set F.TSK_STAT_PROVISIONAL 1 else r.enterState 3 1 s.coreTeb false
  let r := r.settleLog
  let r := if r.on F.SEAM_STAT_EN then r.rollStart 1 0 else r
  match s.str.pendImg with
  | some img => (r.loadResult 2 lOk 0).imageLive img 2
  | none => r.imagePhase

/-- PERST_L or a PCIe hot reset (R463): the host interface alone. The planes run on with their last strobed configuration, so that no
register default goes live (R21, R325). -/
def perstReset (s : State) : State :=
  let s := ((s.resetFn 0).settleFn 0).resetVfs false false
  let s := { s with hif := { s.hif with perst := true } }
  (s.set F.HIF_VIEW_LIVE 0).set F.HIF_FEAT_ST_STATE (if s.hif.accepted then 3 else 0)

end State

/-! ## Commands -/

/-- PORST_ASSERT (R461, R426): what is in reset stays there until PORST_L rises. -/
def execPorstAssert (s : State) : Host.Outcome State Fault Refusal := .next (s.porst true false)

/-- PORST_RISE (R461, R464): the straps are sampled as SYS_STRAP shows them, and the boot begins. -/
def execPorstRise (straps : Nat) (s : State) : Host.Outcome State Fault Refusal :=
  .next (
    if s.pow.held && !s.pow.extest then
      ((s.porstCore false false).putStraps straps).emitOut (.claim (some 0))
    else s)

/-- WARM_RESET (R462): during power-on reset, or before the SPLL has locked, there is nothing further to reset. -/
def execWarmReset (s : State) : Host.Outcome State Fault Refusal :=
  .next (if s.pow.held || !s.time.running then s else s.warmReset)

/-- CLAIM_RESET_RELEASE (R426). -/
def execClaimResetRelease (s : State) : Host.Outcome State Fault Refusal :=
  .next (if s.pow.claimLow then ({ s with pow := { s.pow with claimLow := false } } : State).emitOut (.claim none) else s)

/-- PERST_RESET (R463). -/
def execPerstReset (s : State) : Host.Outcome State Fault Refusal := .next (if s.pow.held then s else s.perstReset)

/-- BROWNOUT (R459): `pgFail` says that a sequence domain failed power good. The straps stay as sampled. -/
def execBrownout (pgFail : Bool) (s : State) : Host.Outcome State Fault Refusal :=
  .next (
    if s.pow.held then s
    else ((s.porst false false).putStraps s.straps).set F.SYS_RST_ST_CAUSE (if pgFail then 3 else 2))

/-- PD_PG_FAIL (R457). -/
def execPdPgFail (d : Nat) (s : State) : Host.Outcome State Fault Refusal := .next (if d < 30 then s.pgFail d else s)

/-- PD_POWER_GOOD (R456). -/
def execPdPowerGood (d : Nat) (s : State) : Host.Outcome State Fault Refusal := .next (s.powerGood d)

/-- PD_OFF_DONE (R456). -/
def execPdOffDone (d : Nat) (s : State) : Host.Outcome State Fault Refusal := .next (s.offDone d)

/-- SPLL_LOCK (R202): `us` is the time since PORST_L rose. -/
def execSpllLock (us : Nat) (s : State) : Host.Outcome State Fault Refusal :=
  .next (if s.pow.held || s.pow.locked then s else s.spllLock us)

/-- SPLL_LOSS_OF_LOCK (R203). -/
def execSpllLossOfLock (s : State) : Host.Outcome State Fault Refusal :=
  .next (
    if s.time.running && s.on F.SYN_SPLL_ST_LOCKED then
      let s := ((s.set F.SYN_SPLL_ST_LOCKED 0).set F.SYN_SPLL_ST_SPLL_LOL 1).add F.SYN_SPLL_ST_LOL_COUNT 1
      (({ s with tsk := { s.tsk with lol := true } } : State).count 0x340).settleDiag 1
    else s)

/-- SPLL_RELOCK (R203): the computed bound returns at the first boundary at least 1 s later. -/
def execSpllRelock (s : State) : Host.Outcome State Fault Refusal :=
  .next (
    if s.time.running && s.tsk.lol then
      let s := (s.set F.SYN_SPLL_ST_LOCKED 1).set F.SYN_SPLL_ST_SPLL_LOL 0
      ({ s with tsk := { s.tsk with lol := false, lolUntil := some (s.ns + 1000000000) } } : State).settleDiag 1
    else s)

/-- BOOT_IMAGE_LOADED (R466): the read of a QSPI copy and its checks end; VAULT has ended before them. -/
def execBootImageLoaded (readOk : Bool) (img : Image) (vaultOk : Bool) (s : State) : Host.Outcome State Fault Refusal :=
  .next (let s := s.vaultEnd; if s.get F.SYS_BOOT_ST_STATE = 2 then s.imageRead readOk img vaultOk else s)

/-- IMAGE_CHECK_DONE (R326). -/
def execImageCheckDone (readOk : Bool) (img : Image) (vaultOk : Bool) (s : State) : Host.Outcome State Fault Refusal :=
  .next (s.pushDone readOk img vaultOk)

/-- DRAM_TRAINED (R466): whether each channel's training succeeds. -/
def execDramTrained (okA okB : Bool) (s : State) : Host.Outcome State Fault Refusal :=
  .next (if 3 ≤ s.get F.SYS_BOOT_ST_STATE && s.get F.SYS_BOOT_ST_STATE < 5 then s.dramTrained okA okB else s)

/-- BOOT_READY (R466): the client region is cleared. -/
def execBootReady (s : State) : Host.Outcome State Fault Refusal :=
  .next (
    if s.get F.SYS_BOOT_ST_STATE = 3 && s.dramReady then
      ({ s with hmk := { s.hmk with table := [] } } : State).set F.SYS_BOOT_ST_STATE 4
    else s)

/-- EXTEST_LOAD (R469): tamper source 8 fires, and the internal reset holds until the next PORST_L. -/
def execExtestLoad (vbatSec : Nat) (temp : Int) (s : State) : Host.Outcome State Fault Refusal :=
  .next (
    let t := ((s.vbatRead vbatSec).tamper 256 temp false).porst true true
    { t with pow := { t.pow with tap := 0 } })

/-- TAP_INSTRUCTION (R469): any code but EXTEST. -/
def execTapInstruction (code : Nat) (s : State) : Host.Outcome State Fault Refusal :=
  .next (if code % 16 = 0 then s else { s with pow := { s.pow with tap := code % 16 } })

end Sys2Proof.Machine
end

