-- ==== Sys2Proof/Machine/Tick.lean ====
section
/-!
DEFINITION. Sys2Proof/Machine/Tick.lean: the tick boundary (R36), the load of a date (R64), and what a forward jump does
outside the kernel (R205, R218, R225, R240, R295, R349).
-/

namespace Sys2Proof.Machine

namespace State

/-! ## Forward jumps -/

/-- Durations that run on count the time that passes, not a jump of the core: the instants they count from move with it. -/
def shiftTimers (s : State) (n : Nat) : State :=
  let o : Option Nat → Option Nat := Option.map (· + n)
  let prs (x : List (Nat × Pause)) : List (Nat × Pause) := x.map (fun p => (p.1, ⟨p.2.from_ + 1000 * n, p.2.until_ + 1000 * n, p.2.since + n⟩))
  let tx (x : Option SeamTx) : Option SeamTx := x.map (fun y => { y with wait := o y.wait })
  { s with
    hif := { s.hif with fns := s.hif.fns.map (fun p => (p.1, { p.2 with holdEnd := p.2.holdEnd + n, bucketAt := p.2.bucketAt + n })) }
    obs := { s.obs with
      slots := s.obs.slots.map (fun p => (p.1, { p.2 with last := o p.2.last }))
      smpEnd := s.obs.smpEnd + n, reportAt := o s.obs.reportAt }
    tsk := { s.tsk with lolUntil := o s.tsk.lolUntil }
    asy := { s.asy with refs := s.asy.refs.map (fun p => (p.1, { p.2 with
      held := p.2.held.map (fun h => (h.1, h.2.1, h.2.2.1 + n, h.2.2.2.1, h.2.2.2.2)), enAt := p.2.enAt + n, usedAt := p.2.usedAt + n })) }
    refin := { s.refin with
      srcs := s.refin.srcs.map (fun p => (p.1, { p.2 with last := p.2.last + n, okAt := p.2.okAt + n }))
      irigs := s.refin.irigs.map (fun p => (p.1, { p.2 with rise := o p.2.rise }))
      tods := s.refin.tods.map (fun p => (p.1, { p.2 with last := p.2.last + n }))
      aports := s.refin.aports.map (fun p => (p.1, { p.2 with since := p.2.since + n })) }
    tic := { s.tic with ch := s.tic.ch.map (fun p => (p.1, { p.2 with
      lastEdge := p.2.lastEdge.map (· + 65536 * n), win := p.2.win.map (fun w => { w with since := w.since + n }), series := p.2.series.map (fun x => (x.1 + n, x.2))
      cdcAt := p.2.cdcAt.map (fun x => (x.1 + n, x.2)), pathAt := p.2.pathAt.map (fun x => (x.1 + n, x.2)), sigAt := o p.2.sigAt })) }
    gns := { s.gns with
      chs := s.gns.chs.map (fun p => (p.1, { p.2 with
        since := p.2.since + n, lockSince := o p.2.lockSince, lowSince := o p.2.lowSince
        intAt := p.2.intAt + n, handed := o p.2.handed }))
      ants := s.gns.ants.map (fun p => (p.1, { p.2 with first := p.2.first + n, quietAt := p.2.quietAt + n, settleEnd := p.2.settleEnd + n }))
      gsiBad := s.gns.gsiBad.map (fun p => (p.1, p.2 + n))
      pos := s.gns.pos.map (fun x => { x with since := x.since + n })
      settle := o s.gns.settle, lostSince := o s.gns.lostSince, survey := o s.gns.survey }
    syn := { s.syn with
      burns := s.syn.burns.map (fun p => (p.1, { p.2 with since := p.2.since + n }))
      bypAt := s.syn.bypAt + n
      aes := s.syn.aes.map (fun p => (p.1, { p.2 with holdEnd := p.2.holdEnd + n })) }
    eth := { s.eth with
      ports := s.eth.ports.map (fun p => (p.1, { p.2 with
        lockSince := p.2.lockSince + n, faultAt := p.2.faultAt + n, busy := p.2.busy + 1000 * n, pauses := prs p.2.pauses
        devs := p.2.devs.map (fun x => (x.1 + n, x.2)) }))
      loop := s.eth.loop.map (fun r => { r with goAt := r.goAt + n }) }
    hmk := { s.hmk with ovf := s.hmk.ovf.map (fun p => (p.1, (p.2.1, p.2.2 + n))) }
    pair := { s.pair with rises := s.pair.rises.map (fun p => (p.1 + n, p.2)), tieSince := o s.pair.tieSince }
    seam := { s.seam with host := tx s.seam.host, report := tx s.seam.report } }

/-- The launches of a port whose instant lies in (T0, T1], in core ps, do not happen: Hallmark withdraws its answers (R295),
and the port releases every such reservation. -/
def withdraw (s : State) (t0 t1 p : Nat) : State :=
  let crossed (r : Resv) : Bool := decide (t0 < r.l) && decide (r.l ≤ t1)
  let n := ((s.port p).resvs.filter (fun r => crossed r && r.src = 0)).length
  let s := (List.range n).foldl (fun (s : State) _ => s.hmkStat 14) s
  s.releaseResvs p crossed

/-- A WAITT whose epoch lies in (T0, T1] has been crossed (R349). -/
def crossWaits (s : State) (t0 t1 : Nat) : State :=
  { s with eng := s.eng.map (fun p => match p.2.wait.bind Wait.epoch with
    | some ep =>
      if decide (0 < sdiff (t0 % 2 ^ 64) ep) && decide (sdiff (t1 % 2 ^ 64) ep ≤ 0) then (p.1, { p.2 with crossed := true }) else p
    | none => p) }

/-- What a forward jump does besides moving the core, if the core has been moved since it read `core` (2^-56 ns). -/
def afterJump (s : State) (wasProv : Bool) (core : Nat) : State :=
  if s.time.core ≤ core then s
  else
    let t0 := core / 2 ^ 56
    let s := s.forwardJump wasProv t0
    let s := [0, 1, 2, 3, 4, 5, 6, 7].foldl (fun (s : State) p => s.withdraw (core * 1000 / 2 ^ 56) s.ps p) s
    let s := s.synJump ((s.time.core - core) / 2 ^ 40)
    (s.crossWaits t0 s.ns).shiftTimers (s.ns - t0)

/-! ## Parts of the boundary -/

/-- The occurrence of the TICK entry has acted (R230): EPOCH has advanced, by the boundary's jump (R240) or now, and places the
next boundary. -/
def tickEntry (s : State) : State :=
  match s.tickEnt with
  | some (id, e) =>
    (if s.tsk.jumped then ((s.takeDispatch s.time.tickNs).count 0x380).tcount e.owner 14 1 else s.acted ⟨false, id, e⟩).placeTick
  | none => s

/-- An engine's cycles of the tick that ends (R339), and its wake (R340). -/
def engTick (s : State) (e : Nat) : State :=
  if !s.engPresent e then s
  else
    let x := s.engine e
    let s := s.set (F.ENG_CYC_LAST e) (satN 20 x.cyc)
    let s := s.set (F.ENG_CYC_MAX_MAX e) (max (s.get (F.ENG_CYC_MAX_MAX e)) (satN 20 x.cyc))
    (s.setEngine e { x with cyc := 0 }).tickWake e

/-- A link at the boundary: the comparison of the tick's HELLO cells (R407), the retraining that a fault of its retry source
brings (R404), and the HELLO of the new tick (R401). -/
def linkTick (old : State) (s : State) (l : Nat) : State :=
  let s := s.compareDigests l
  let s := if s.on (F.ASY_SRC_ST_FAULT (3 + l)) && !old.on (F.ASY_SRC_ST_FAULT (3 + l)) then s.crcRetrain l else s
  if s.linkState l ≠ 0 && (s.link l).lanes then s.sendHello l else s

/-- What the boundary does from Assay to the kernel (R23, R36, R138, R154). -/
def tickWork (s : State) : State := (((s.drainInbox.replicaCheck).assayEvaluate).pairBefore).kernelTick

/-- GNSS dormant tracking follows its wish (R125). -/
def dormantTick (s : State) : State :=
  if s.pdUp 12 && s.on F.GNS_STAT_DORMANT ≠ (s.dormantWanted && !s.gns.suspended) then s.dormantChanged else s

/-- The tick boundary (R36), where the TICK entry places it (R24), with the upsets that time replicas took in the tick that ends
(R23). -/
def tick (s : State) (ups : List (Nat × Int)) : State :=
  match s.tickEnt with
  | none => s
  | some (_, e) =>
  if s.pow.held then s
  else
    let bound := (s.dueOf e).toNat
    let old := ups.foldl (fun (s : State) u => s.upset u.1 u.2) (s.runTo bound)
    let s := old.tickWork
    let s := (s.beginTick bound).tickEntry.count 0x300
    let s := s.afterJump old.prov old.time.core
    let s := (List.range 18).foldl (fun (s : State) e => s.engTick e) s
    let s := [0, 1, 2, 3].foldl (linkTick old) s
    let s := s.journalBuild.entryLost.pairAfter
    let mid := s
    let s := s.standbyLoad.afterJump mid.prov mid.time.core
    s.crossStamps.dormantTick.vaultEnd

end State

/-- DATE_LOAD (R63, R64). -/
def execDateLoad (s : State) : Host.Outcome State Fault Refusal := .next (s.dateLoad.afterJump s.prov s.time.core)

end Sys2Proof.Machine
end

