-- ==== Sys2Proof/Machine/Acts.lean ====
section
/-!
DEFINITION. Sys2Proof/Machine/Acts.lean: what acts at an instant of the calendar: the scheduled commands (R229, R231), the kernel
tick among them (R24, R36), and the late dispatch of what a jump crossed (R241).
-/

namespace Sys2Proof.Machine

namespace State

/-- The PLANISH_WAKE action (R229, R340): engine and wake code. -/
def planishWake (s : State) (arg : Nat) : State := s.wakeEngine (bitsOf arg 0 5) (bitsOf arg 8 24)

/-- The STROBE occurrences due in the present cycle that have not yet acted and were dispatched by it (R231). -/
def strobesNow (s : State) : List Occ :=
  s.occs.filter (fun o => o.ent.action = 8 && decide (s.dueOf o.ent ≤ s.ns) && s.notOverdue (s.dueOf o.ent) && !s.congested (s.dueOf o.ent))

/-- A strobe of the scheduler of the groups `arg`: every other STROBE entry of the cycle acts in it, `also` are the groups that
SYS_UPD_STROBE names in the same cycle, and those it named before the cycle's last action; each group switches once (R26, R231).
A shadow word written in this cycle waits for the next strobe (R26). -/
def schStrobe (s : State) (arg also : Nat) (ues : List (Nat × DramErr)) : State :=
  let more := s.strobesNow
  let upd := (also ||| s.sch.updWait) % 256
  let groups := more.foldl (fun m o => m ||| o.ent.arg) arg
  let s := more.foldl acted s
  let s := ({ s with sch := { s.sch with updWait := 0 } } : State)
  let s := (s.shadowsBefore.strobe upd groups ues).shadowsAfter s
  { s with hif := { s.hif with struck := (s.time.cyc, groups ||| upd) } }

/-- A scheduled occurrence acts, and a SYS_UPD_STROBE of its cycle that waited for the last of them (R231). -/
def scheduled (s : State) (id action : Nat) (ok : SchEnt → Bool) (act : State → SchEnt → State) : State :=
  (s.occurrence id action ok act).strobeDue

/-- The action of a FIRE_LATE occurrence, once for all those missed (R241): `d` is the reading of its dispatch in core ps. A
late edge falls on the first 2 ps point at least 64 ns after dispatch. -/
def lateAct (s : State) (e : SchEnt) (d : Nat) (caps : List GnsCap) (ue : Option DramErr) (ues : List (Nat × DramErr))
    (conflict : Bool) : State :=
  let ch := bitsOf e.arg 0 4
  match e.action with
  | 2 => s.ingotCopy ue
  | 3 => s.seamFrame conflict
  | 4 => s.launchCycle e.arg
  | 5 =>
    let t := 2 * ceilDiv (d + 64000) 2
    s.goutEdge (bitsOf e.arg 0 3) (bitsOf e.arg 4 2) (t / 1000, t % 1000)
  | 6 => if bitOf e.arg 4 then s.gateEnd ch false else s.gateOpen ch s.q16
  | 7 => if bitOf e.arg 4 then s.cdcWindow ch else s.pathWindow ch s.ns
  | 8 => s.schStrobe e.arg 0 ues
  | 9 => s.genSwitch e.arg ue
  | 10 => s.keyRotate e.arg
  | 11 => s.swapDrill
  | 12 => s.gnsEpoch caps
  | 13 => s.planishWake e.arg
  | 14 => s.gflTime e.arg e.epoch
  | 15 => s.gnsBurst
  | _ => s

/-- The first FIRE_LATE occurrence of the queue is dispatched, in the first cycle free for it, and acts in the next cycle;
its record is written (R241, R243). An edge whose output has another owner by then is dropped (R238). -/
def lateFire (s : State) (caps : List GnsCap) (ue : Option DramErr) (ues : List (Nat × DramErr)) (conflict : Bool) : State :=
  match s.flushLate.sch.late with
  | [] => s.flushLate
  | l :: t =>
    let s := ({ s.flushLate with sch := { s.flushLate.sch with late := t } } : State)
    let s := s.advance (s.sch.lateAt - s.time.cyc)
    let s := ({ s with sch := { s.sch with lateAt := s.time.cyc + 1 } } : State)
    if s.foreignEdge l.ent then
      let same := (alGet s.sch.ents l.id).any (fun e => { e with epoch := 0, policy := 0 } = { l.ent with epoch := 0, policy := 0 })
      (((if !l.det && same then s.freeEnt l.id else s).lateRecord { l with ent := { l.ent with policy := 2 }, cause := 2 })).flushLate
    else
      let d := s.ps
      let s := (s.lateRecord l).advance 1
      (((s.count 0x380).tcount l.ent.owner 14 1).lateAct l.ent d caps ue ues conflict).flushLate

end State

/-- INGOT_COPY (R436): a scheduled occurrence; `ue` an uncorrectable read of region KERNEL. -/
def execIngotCopy (id : Nat) (ue : Option DramErr) (s : State) : Host.Outcome State Fault Refusal :=
  .next (s.scheduled id 2 (fun _ => true) (fun s _ => s.ingotCopy ue))

/-- SEAM_FRAME (R413): a scheduled occurrence. -/
def execSeamFrame (id : Nat) (conflict : Bool) (s : State) : Host.Outcome State Fault Refusal :=
  .next (s.scheduled id 3 (fun _ => true) (fun s _ => s.seamFrame conflict))

/-- LAUNCH_CYCLE (R251): the port of the entry begins a cycle, under SHARE and GUARD as live now. -/
def execLaunchCycle (id : Nat) (s : State) : Host.Outcome State Fault Refusal :=
  .next (s.scheduled id 4 (fun _ => true) (fun s e => s.launchCycle e.arg))

/-- GOUT_EDGE (R220): a scheduled edge or pulse. -/
def execGoutEdge (id : Nat) (s : State) : Host.Outcome State Fault Refusal :=
  .next (s.scheduled id 5 (fun _ => true) (fun s e => 
    s.goutEdge (bitsOf e.arg 0 3) (bitsOf e.arg 4 2) (s.edgeAt (bitsOf e.arg 0 3) (s.unshort e.epoch).toNat e.frac)))

/-- TIC_GATE_START (R100): a scheduled gate start. -/
def execTicGateStart (id : Nat) (s : State) : Host.Outcome State Fault Refusal :=
  .next (s.scheduled id 6 (fun e => !bitOf e.arg 4)
    (fun s e => s.gateOpen (bitsOf e.arg 0 4) (s.unshort e.epoch * 65536)))

/-- TIC_GATE_STOP (R100): a scheduled gate stop. -/
def execTicGateStop (id : Nat) (s : State) : Host.Outcome State Fault Refusal :=
  .next (s.scheduled id 6 (fun e => bitOf e.arg 4) (fun s e => s.gateEnd (bitsOf e.arg 0 4) false))

/-- CAL_WINDOW_PATH (R95, R493): a scheduled path window opens. -/
def execCalWindowPath (id : Nat) (s : State) : Host.Outcome State Fault Refusal :=
  .next (s.scheduled id 7 (fun e => !bitOf e.arg 4) (fun s e => s.pathWindow (bitsOf e.arg 0 4) (s.unshort e.epoch).toNat))

/-- CAL_WINDOW_CDC (R96, R493): a scheduled code-density window opens. -/
def execCalWindowCdc (id : Nat) (s : State) : Host.Outcome State Fault Refusal :=
  .next (s.scheduled id 7 (fun e => bitOf e.arg 4) (fun s e => s.cdcWindow (bitsOf e.arg 0 4)))

/-- GEN_SWITCH (R330). -/
def execGenSwitch (id : Nat) (ue : Option DramErr) (s : State) : Host.Outcome State Fault Refusal :=
  .next (s.scheduled id 9 (fun _ => true) (fun s e => s.genSwitch e.arg ue))

/-- KEY_ROTATE (R287). -/
def execKeyRotate (id : Nat) (s : State) : Host.Outcome State Fault Refusal :=
  .next (s.scheduled id 10 (fun _ => true) (fun s e => s.keyRotate e.arg))

/-- SWAP_DRILL (R440): a scheduled occurrence. -/
def execSwapDrill (id : Nat) (s : State) : Host.Outcome State Fault Refusal :=
  .next (s.scheduled id 11 (fun _ => true) (fun s _ => s.swapDrill))

/-- GNSS_EPOCH (R117): the scheduled latch; `caps` what the channels' NCOs hold at it. -/
def execGnssEpoch (id : Nat) (caps : List GnsCap) (s : State) : Host.Outcome State Fault Refusal :=
  .next (s.scheduled id 12 (fun _ => true) (fun s _ => s.gnsEpoch caps))

/-- GFL_TIME (R405): at an occurrence whose epoch is a multiple of TT_PER ms the link launches a TIME cell. -/
def execGflTime (id : Nat) (s : State) : Host.Outcome State Fault Refusal :=
  .next (s.scheduled id 14 (fun _ => true) (fun s e => s.gflTime e.arg e.epoch))

/-- GNSS_BURST (R125). -/
def execGnssBurst (id : Nat) (s : State) : Host.Outcome State Fault Refusal :=
  .next (s.scheduled id 15 (fun _ => true) (fun s _ => s.gnsBurst))

/-- STROBE (R26, R27, R231): a scheduled strobe; `also` are the groups that SYS_UPD_STROBE names in the same cycle, `ues` the
engines released whose data image has an uncorrectable word. -/
def execStrobe (id also : Nat) (ues : List (Nat × DramErr)) (s : State) : Host.Outcome State Fault Refusal :=
  .next (s.scheduled id 8 (fun _ => true) (fun s e => s.schStrobe e.arg also ues))

/-- PLANISH_WAKE (R340): a scheduled wake. -/
def execPlanishWake (id : Nat) (s : State) : Host.Outcome State Fault Refusal :=
  .next (s.scheduled id 13 (fun _ => true) (fun s e => s.planishWake e.arg))

/-- SCH_CONGESTED_LATE (R232): the next occurrence in order was not dispatched by its due cycle, since each cycle before it had
dispatched another, or that cycle has passed; it is handled under its late policy with cause CONGESTED. Missed occurrences are
those due up to the present cycle. -/
def execSchCongestedLate (id : Nat) (s : State) : Host.Outcome State Fault Refusal :=
  .next (State.strobeDue (match s.nextOcc with
    | some o =>
      let due := s.dueOf o.ent
      let at_ := s.runTo due.toNat
      if s.time.running && o.id = id && decide (due < s.time.tickAt) && (!s.notOverdue due || at_.congested due) then
        let s := at_
        let missed := if o.ent.period = 0 then 1 else (((s.ns : Int) - due) / o.ent.period).toNat + 1
        let p := s.latePolicy o.ent.policy
        let l : Late := ⟨id, { o.ent with policy := p }, missed, 1, o.detached⟩
        let s := if o.detached then s.advanceEnt o
          else if p = 2 || o.ent.period = 0 then s.freeEnt id
          else s.putEnt id { o.ent with epoch := (o.ent.epoch + missed * o.ent.period) % 2 ^ 64 }
        { s with sch := { s.sch with late := s.sch.late ++ [l], lateAt := max s.sch.lateAt (s.time.cyc + 1) } }.flushLate
      else s
    | none => s))

/-- TICK (R24, R36): the tick boundary; `upsets` are the time replicas that were disturbed in the tick that ends, with what their
readings moved by, 2^-56 ns (R23). -/
def execTick (upsets : List (Nat × Int)) (s : State) : Host.Outcome State Fault Refusal := .next (s.tick upsets).strobeDue

/-- LATE_FIRE_DISPATCH (R241): the operands are what the action may need: the NCOs at a GNSS epoch, uncorrectable DRAM words,
a conflict in the Seam slot. -/
def execLateFireDispatch (caps : List GnsCap) (ue : Option DramErr) (ues : List (Nat × DramErr)) (conflict : Bool) (s : State) :
    Host.Outcome State Fault Refusal := .next (s.lateFire caps ue ues conflict)

end Sys2Proof.Machine
end

