-- ==== Sys2Proof/Machine/Write.lean ====
section
/-!
DEFINITION. Sys2Proof/Machine/Write.lean: writes of registers by the PCIe functions: the tenant window's limits (R360, R379),
access rules (R366, R367), aliases and access codes (R17, R361), shadowed and posted registers (R363, R365), and the fields
that trigger an action.
-/

namespace Sys2Proof.Machine

namespace State

/-! ## Words of the live registers -/

/-- BURST of 0 is no command rate (R380). -/
def cmdRateBad (v : Nat) : Bool := bitsOf v 16 8 = 0

/-- The unshadowed bits of a word written: `v` is the value through its alias, m the mask of the bits it may change. -/
def putRw (s : State) (fn : Nat) (id : RegId) (i w key off : Nat) (v m : Nat) : State :=
  match id with
  | .TEN_CTL => s.tenCtl i (bitOf v 0)
  | .TEN_CMD_RATE => if cmdRateBad v then s.flagErr 0 13 off true else { s with regs := s.regs.put key (BitVec.ofNat 32 v) }
  | .HIF_RING => if w = 3 then s.doorbell fn v else if w = 11 then s.evTail fn v else s.ringConfig fn w v
  | .OBS_SMP_CFG => s.smpWrite i w v
  | .OBS_TRC_CFG => s.trcWrite w v
  | .OBS_TRC_BASE => s.trcWrite (2 + w) v
  | _ =>
    let old := (s.regs.word key).toNat
    { s with regs := s.regs.put key (BitVec.ofNat 32 (aliasVal 0 old v m)) }

/-- A shadow word is about to be written: what it held before the writes of this cycle is kept (R26). -/
def noteShadow (s : State) (key : Nat) : State :=
  let old := if s.hif.freshAt = s.time.cyc then s.hif.fresh else []
  let now := if old.any (fun p => p.1 = key) then old else (key, alGet s.pend key) :: old
  { s with hif := { s.hif with fresh := now, freshAt := s.time.cyc, struck := (0, 0) } }

/-- The shadowed bits of a word written (R363). -/
def putShadow (s : State) (al key v m : Nat) : State :=
  let s := s.noteShadow key
  { s with pend := alSet s.pend key (BitVec.ofNat 32 (aliasVal al (s.shadowWord key).toNat v m)) }

/-! ## Posted writes (R107, R365) -/

/-- A command word of the front end that is accepted (R107). -/
def gfeOk (v : Nat) : Bool := 8 ≤ bitsOf v 4 6 && bitsOf v 4 6 ≤ 32 && 4 ≤ bitsOf v 16 8

/-- A posted value that its slow domain takes: CP_I not 0, LOCK_THR below UNLOCK_THR and that at most 48 (SYN_BURN_ANA, R213), ALIGN_LIM 100 to 1,000, LEN at most 128. -/
def postOk (id : RegId) (v : Nat) : Bool :=
  match id with
  | .GNS_GFE_CMD => gfeOk v
  | .SYN_BURN_ANA => bitsOf v 0 6 ≠ 0 && decide (bitsOf v 6 8 < bitsOf v 14 8) && decide (bitsOf v 14 8 ≤ 48)
  | .SEAM_CFG => 100 ≤ bitsOf v 0 10 && bitsOf v 0 10 ≤ 1000
  | .SEAM_TX_CTL => bitsOf v 5 8 ≤ 128
  | _ => true

/-- The transfer that a command word starts: GNS_GFE_DATA's low NBITS on the chip select CS. -/
def gfeStart (s : State) (v : Nat) : State :=
  let n := bitsOf v 4 6
  s.emitOut (.spi (1 + bitsOf v 1 2) n (s.get F.GNS_GFE_DATA_DATA % 2 ^ n))

/-- A posted write arrives: lost while BUSY is 1; a front-end transfer starts if its command is accepted. -/
def post (s : State) (off : Nat) (p : Posted) : State :=
  if s.postBusy p.win then s.postLost off
  else if gfeGo p then
    let v := aliasVal p.al (s.regs.word p.key).toNat p.v 0xFF03FE
    if gfeOk v then { s.gfeStart v with hif := { s.hif with posted := s.hif.posted ++ [p] } }
    else s.flagErr 0 8 off true
  else { s with hif := { s.hif with posted := s.hif.posted ++ [p] } }

/-- The slow domain accepts a posted write: the value is judged, held, and acts. -/
def accept1 (s : State) (p : Posted) : State :=
  match findReg p.key with
  | some (d, _, _, w) =>
    let m := match d.words[w]? with | some x => x.rwp | none => 0
    let held := (s.regs.word p.key).toNat
    let v := aliasVal p.al held p.v m
    if !postOk d.id v then s.flagErr 0 8 p.key true
    else match d.id with
      | .SEAM_RX_ACK => s.rxAck v
      | .KVT_TLOG_ACK => s.ackLog v
      | .SEAM_TX_CTL =>
        let s := { s with regs := s.regs.put p.key (BitVec.ofNat 32 v) }
        if p.al ≠ 2 && bitOf p.v 0 then s.seamSend else s
      | _ => { s with regs := s.regs.put p.key (BitVec.ofNat 32 v) }
  | none => s

/-- The slow domain of a window accepts the write it holds; a front-end transfer ends by itself (R107). -/
def acceptPosted (s : State) (win : Nat) : State :=
  match s.hif.posted.find? (fun p => p.win = win && !gfeGo p) with
  | some p => ({ s with hif := { s.hif with posted := s.hif.posted.filter (fun q => q.win ≠ win) } } : State).accept1 p
  | none => s

/-! ## Triggers (R17, R361) -/

/-- The actions that the 1 bits of `t` trigger in word w of a register, in ascending bit order. -/
def trigger1 (s : State) (fn : Nat) (id : RegId) (w t : Nat) : State :=
  let on (k : Nat) : Bool := bitOf t k
  match id with
  | .TSK_LEAP_CTL => if on 0 then s.leapCommit else s
  | .SYS_DATE_CTL => if on 0 then s.dateGo (s.on F.SYS_DATE_CTL_MARK) (s.get F.SYS_DATE_CTL_MARK_CH) else s
  | .GNS_SRCH_CTL =>
    let s := if on 0 then s.searchStart 1 else s
    if on 1 then s.searchStop else s
  | .SCH_CMD => if on 14 then s.set (F.SCH_CMD_ST_BUSY.on fn) 1 else s
  | .ETH_LOOP_CTL =>
    let s := if on 0 then s.loopGo else s
    if on 1 then s.loopAbort 5 else s
  | .HMK_TAT_LOAD => if w = 2 && on 0 then s.tatGo else s
  | .STR_PUSH => if w = 3 && on 0 then s.pushGo else s
  | .SYS_UPD_STROBE => s.hostStrobe t []
  | .HIF_FEAT_CTL => if on 0 then s.featuresOk else s
  | _ => s

/-! ## A write of one word -/

/-- A write of a register word through an alias: each field by its access code (R17, R361). -/
def writeWord (s : State) (fn : Nat) (d : RegDesc) (i j w a al off v : Nat) : State :=
  match d.words[w]? with
  | none => s
  | some x =>
    let key := fnKey fn a
    if (d.id = .SCH_STG ∨ d.id = .SCH_CMD) ∧ s.on (F.SCH_CMD_ST_BUSY.on fn) then s.flagErr fn 7 off true
    else if d.id = .ASY_SRC_CFG ∧ 9 ≤ i then s
    else if x.rwv ≠ 0 then s.flagErr fn 11 off true
    else if x.rwp ≠ 0 then s.post off ⟨winOf a, a, al, v % 2 ^ 32⟩
    else
      let s := if x.rw = 0 then s
        else s.putRw fn d.id i w key off (aliasVal al (s.shown fn d.id i j w (s.regs.word key).toNat) (v % 2 ^ 32) x.rw) x.rw
      let s := if x.rws = 0 then s else s.putShadow al key (v % 2 ^ 32) x.rws
      if al = 2 then s else s.trigger1 fn d.id w (v % 2 ^ 32 &&& x.w1)

/-- A 32-bit write at an offset. -/
def writePart (s : State) (fn off v : Nat) : State :=
  match s.placeOf fn off with
  | .reserved => s.flagErr fn 9 off true
  | .reg d i j w a =>
    if absentReg s.part d i then s.flagErr fn 10 off true
    else if hiddenEng d i then s
    else s.writeWord fn d i j w a (if fn = 0 then aliasOf off else 0) off v
  | _ => s

/-- An enabled byte falls on a read-only offset of the tenant window (R360, R379). -/
def tenReadOnly (off n : Nat) : Bool :=
  (List.range n).any (fun k => match tenPlace 0 (off + k) with
    | .reg d _ _ w _ => (match d.words[w]? with | some x => x.rw = 0 && x.rws = 0 && x.w1 = 0 && x.rwp = 0 | none => true)
    | .reserved => false
    | _ => true)

/-- One atomic write of 64 bits to the trace base (R366, R452): dropped as a whole where it would change a base in use. -/
def trcBase64 (s : State) (al v : Nat) : State :=
  let old := s.get F.OBS_TRC_BASE_BASE
  let new := aliasVal al old v (2 ^ 64 - 1)
  if s.on F.OBS_TRC_CFG_DRAM_EN && new ≠ old then s.flagErr 0 12 F.OBS_TRC_BASE_BASE.a true else s.set F.OBS_TRC_BASE_BASE new

/-- A write of n bytes by function fn at an offset of its BAR0. A quenched function's writes are dropped (R367, R388), an
inert one's flagged (R357), and a tenant's violation comes before the access rules (R360, R366). -/
def regWrite (s : State) (fn off n v : Nat) (contig : Bool) : State :=
  let bad := fn ≠ 0 && (tenReserved off n || tenReadOnly off n)
  if !s.fnExists fn then s
  else if fn ≠ 0 && (s.fn fn).quenched then (if bad then s.quenchFn fn 1 off else s)
  else if s.inert fn then s.flagErr fn 10 off true
  else if bad then s.quenchFn fn 1 off
  else
    let p := s.placeOf fn off
    if p = .reserved && (n ≠ 8 || !aligned off n contig) then s.flagErr fn 9 off true
    else if !aligned off n contig then s.flagErr fn 3 off true
    else if 8 < n then s.flagErr fn 4 off true
    else if n < 4 then s.flagErr fn 1 off true
    else if n = 4 then s.writePart fn off v
    else
      let base : Bool := match p with | .reg d _ _ _ _ => d.id = .OBS_TRC_BASE | _ => false
      if base then s.trcBase64 (aliasOf off) v
      else (s.writePart fn off (v % 2 ^ 32)).writePart fn (off + 4) (v / 2 ^ 32)

end State

/-- REG_WRITE (R360, R361, R366): function, BAR0 offset, bytes, value, contiguous byte enables. -/
def execRegWrite (fn off n v : Nat) (contig : Bool) (s : State) : Host.Outcome State Fault Refusal :=
  .next (s.awake (fun s => s.regWrite fn off n v contig))

/-- POSTED_WRITE_ACCEPT (R365): the slow domain of a window (1 TIC, 2 GNS, 5 SYN, 9 KVT, 12 Seam) accepts the write that waits
for it. -/
def execPostedWriteAccept (win : Nat) (s : State) : Host.Outcome State Fault Refusal := .next (s.acceptPosted win)

/-- GFE_TRANSFER (R107): the provider writes v to GNS_GFE_CMD with GO. -/
def execGfeTransfer (v : Nat) (s : State) : Host.Outcome State Fault Refusal :=
  .next (s.awake (fun s => s.post F.GNS_GFE_CMD_CS.a ⟨2, F.GNS_GFE_CMD_CS.a, 0, (v % 2 ^ 32) ||| 1⟩))

/-- TLOG_ACK (R320): a KVT_TLOG_ACK write, accepted at once where no other waits. -/
def execTlogAck (mask : Nat) (s : State) : Host.Outcome State Fault Refusal :=
  .next (s.awake (fun s => if s.postBusy 9 then s.postLost F.KVT_TLOG_ACK_MASK.a else s.ackLog (mask % 2 ^ 16)))

end Sys2Proof.Machine
end

