-- ==== Sys2Proof/Machine/Dispatch.lean ====
section
/-!
DEFINITION. Sys2Proof/Machine/Dispatch.lean: the effect of each command, one arm a constructor.
-/

namespace Sys2Proof.Machine

def exec (i : Instr) (s : State) : Host.Outcome State Fault Refusal :=
  match i with
  | .porstAssert => Sys2Proof.Machine.execPorstAssert s
  | .porstRise straps => Sys2Proof.Machine.execPorstRise straps s
  | .warmReset => Sys2Proof.Machine.execWarmReset s
  | .claimResetRelease => Sys2Proof.Machine.execClaimResetRelease s
  | .perstReset => Sys2Proof.Machine.execPerstReset s
  | .brownout pgFail => Sys2Proof.Machine.execBrownout pgFail s
  | .pdPgFail d => Sys2Proof.Machine.execPdPgFail d s
  | .pdPowerGood d => Sys2Proof.Machine.execPdPowerGood d s
  | .pdOffDone d => Sys2Proof.Machine.execPdOffDone d s
  | .spllLock us => Sys2Proof.Machine.execSpllLock us s
  | .spllLossOfLock => Sys2Proof.Machine.execSpllLossOfLock s
  | .bootImageLoaded readOk img vaultOk => Sys2Proof.Machine.execBootImageLoaded readOk img vaultOk s
  | .dramTrained okA okB => Sys2Proof.Machine.execDramTrained okA okB s
  | .bootReady => Sys2Proof.Machine.execBootReady s
  | .extestLoad vbatSec temp => Sys2Proof.Machine.execExtestLoad vbatSec temp s
  | .tapInstruction code => Sys2Proof.Machine.execTapInstruction code s
  | .tamperFire sources temp vbatSec mainOff => Sys2Proof.Machine.execTamperFire sources temp vbatSec mainOff s
  | .tamperLogCommit mainPower => Sys2Proof.Machine.execTamperLogCommit mainPower s
  | .vbatRecordCommit hostOk vbatSec temp => Sys2Proof.Machine.execVbatRecordCommit hostOk vbatSec temp s
  | .keyExpiry slot => Sys2Proof.Machine.execKeyExpiry slot s
  | .kvtLoad fn dmaOk b => Sys2Proof.Machine.execKvtLoad fn dmaOk b s
  | .kvtEvict fn => Sys2Proof.Machine.execKvtEvict fn s
  | .kvtAttest fn dmaOk challenge => Sys2Proof.Machine.execKvtAttest fn dmaOk challenge s
  | .keyImport dmaOk m => Sys2Proof.Machine.execKeyImport dmaOk m s
  | .keyGenerate dmaOk m => Sys2Proof.Machine.execKeyGenerate dmaOk m s
  | .tenantEpoch dmaOk m => Sys2Proof.Machine.execTenantEpoch dmaOk m s
  | .setUpdateKey dmaOk m => Sys2Proof.Machine.execSetUpdateKey dmaOk m s
  | .setAttest dmaOk m => Sys2Proof.Machine.execSetAttest dmaOk m s
  | .setImageKey dmaOk m => Sys2Proof.Machine.execSetImageKey dmaOk m s
  | .tamperCfg dmaOk m => Sys2Proof.Machine.execTamperCfg dmaOk m s
  | .deprovision dmaOk m => Sys2Proof.Machine.execDeprovision dmaOk m s
  | .provision dmaOk m => Sys2Proof.Machine.execProvision dmaOk m s
  | .tlogAck mask => Sys2Proof.Machine.execTlogAck mask s
  | .nop fn => Sys2Proof.Machine.execNop fn s
  | .ethSend dmaOk bytes => Sys2Proof.Machine.execEthSend dmaOk bytes s
  | .hmkMint fn inOk c2s s2c took => Sys2Proof.Machine.execHmkMint fn inOk c2s s2c took s
  | .clientRead fn outOk => Sys2Proof.Machine.execClientRead fn outOk s
  | .clientBlock fn => Sys2Proof.Machine.execClientBlock fn s
  | .clientUnblock fn => Sys2Proof.Machine.execClientUnblock fn s
  | .clientDelete fn => Sys2Proof.Machine.execClientDelete fn s
  | .cmdDoorbell fn tail => Sys2Proof.Machine.execCmdDoorbell fn tail s
  | .cmdFetch fn d => Sys2Proof.Machine.execCmdFetch fn d s
  | .cmdCompletionWrite fn => Sys2Proof.Machine.execCmdCompletionWrite fn s
  | .evTailWrite fn tail => Sys2Proof.Machine.execEvTailWrite fn tail s
  | .ringConfigWrite fn word v => Sys2Proof.Machine.execRingConfigWrite fn word v s
  | .eventWrite fn => Sys2Proof.Machine.execEventWrite fn s
  | .ringOverflowRecord fn => Sys2Proof.Machine.execRingOverflowRecord fn s
  | .fifoOverflowRecord fn => Sys2Proof.Machine.execFifoOverflowRecord fn s
  | .eventSummary fn => Sys2Proof.Machine.execEventSummary fn s
  | .msixEventHoldoffEnd fn => Sys2Proof.Machine.execMsixEventHoldoffEnd fn s
  | .msixTicStreamTimeout ch => Sys2Proof.Machine.execMsixTicStreamTimeout ch s
  | .featuresOk => Sys2Proof.Machine.execFeaturesOk s
  | .tenCtlWrite t en => Sys2Proof.Machine.execTenCtlWrite t en s
  | .busMasterClear fn => Sys2Proof.Machine.execBusMasterClear fn s
  | .busMasterSet fn => Sys2Proof.Machine.execBusMasterSet fn s
  | .flr fn => Sys2Proof.Machine.execFlr fn s
  | .vfEnableClear => Sys2Proof.Machine.execVfEnableClear s
  | .tenantRelease n => Sys2Proof.Machine.execTenantRelease n s
  | .regWrite fn off n v contig => Sys2Proof.Machine.execRegWrite fn off n v contig s
  | .postedWriteAccept win => Sys2Proof.Machine.execPostedWriteAccept win s
  | .rcRead fn off n => Sys2Proof.Machine.execRcRead fn off n s
  | .snapshotLatch fn n => Sys2Proof.Machine.execSnapshotLatch fn n s
  | .ticQwinRead ch off n => Sys2Proof.Machine.execTicQwinRead ch off n s
  | .txtsPop p => Sys2Proof.Machine.execTxtsPop p s
  | .engDmRead e => Sys2Proof.Machine.execEngDmRead e s
  | .traceWinRead off n ues => Sys2Proof.Machine.execTraceWinRead off n ues s
  | .counterRead fn off => Sys2Proof.Machine.execCounterRead fn off s
  | .updStrobe mask ues => Sys2Proof.Machine.execUpdStrobe mask ues s
  | .outputStop o => Sys2Proof.Machine.execOutputStop o s
  | .stepArm => Sys2Proof.Machine.execStepArm s
  | .stepDisarm => Sys2Proof.Machine.execStepDisarm s
  | .annealCommand => Sys2Proof.Machine.execAnnealCommand s
  | .burnRelock b => Sys2Proof.Machine.execBurnRelock b s
  | .aesRealign m => Sys2Proof.Machine.execAesRealign m s
  | .tatSwap => Sys2Proof.Machine.execTatSwap s
  | .refClear => Sys2Proof.Machine.execRefClear s
  | .engineRelease e ue => Sys2Proof.Machine.execEngineRelease e ue s
  | .linkRelease l => Sys2Proof.Machine.execLinkRelease l s
  | .syncArm => Sys2Proof.Machine.execSyncArm s
  | .syncDisarm => Sys2Proof.Machine.execSyncDisarm s
  | .dateGo mark ch => Sys2Proof.Machine.execDateGo mark ch s
  | .dateLoad => Sys2Proof.Machine.execDateLoad s
  | .markTimeout => Sys2Proof.Machine.execMarkTimeout s
  | .leapCommit => Sys2Proof.Machine.execLeapCommit s
  | .leapExpired => Sys2Proof.Machine.execLeapExpired s
  | .schWrite fn => Sys2Proof.Machine.execSchWrite fn s
  | .schDelete fn => Sys2Proof.Machine.execSchDelete fn s
  | .schRead fn => Sys2Proof.Machine.execSchRead fn s
  | .searchStart => Sys2Proof.Machine.execSearchStart s
  | .searchAbort => Sys2Proof.Machine.execSearchAbort s
  | .gfeTransfer v => Sys2Proof.Machine.execGfeTransfer v s
  | .gfeTransferDone rx => Sys2Proof.Machine.execGfeTransferDone rx s
  | .loopGo => Sys2Proof.Machine.execLoopGo s
  | .loopAbort => Sys2Proof.Machine.execLoopAbort s
  | .loopFrameLaunch => Sys2Proof.Machine.execLoopFrameLaunch s
  | .loopRunEnd => Sys2Proof.Machine.execLoopRunEnd s
  | .loopTimeout => Sys2Proof.Machine.execLoopTimeout s
  | .tatLoad base count => Sys2Proof.Machine.execTatLoad base count s
  | .tatLoadDone ents ue => Sys2Proof.Machine.execTatLoadDone ents ue s
  | .imagePush base len => Sys2Proof.Machine.execImagePush base len s
  | .imageCheckDone readOk img vaultOk => Sys2Proof.Machine.execImageCheckDone readOk img vaultOk s
  | .seamSend dst bcast len => Sys2Proof.Machine.execSeamSend dst bcast len s
  | .seamRxAck mask => Sys2Proof.Machine.execSeamRxAck mask s
  | .obsSmpCfgWrite j w v => Sys2Proof.Machine.execObsSmpCfgWrite j w v s
  | .obsTrcCfgWrite w v => Sys2Proof.Machine.execObsTrcCfgWrite w v s
  | .schCongestedLate id => Sys2Proof.Machine.execSchCongestedLate id s
  | .lateFireDispatch caps ue ues conflict => Sys2Proof.Machine.execLateFireDispatch caps ue ues conflict s
  | .tick upsets => Sys2Proof.Machine.execTick upsets s
  | .entryTimerEnd r => Sys2Proof.Machine.execEntryTimerEnd r s
  | .probationEnd r => Sys2Proof.Machine.execProbationEnd r s
  | .holdoffEnd r => Sys2Proof.Machine.execHoldoffEnd r s
  | .sourceFaultClear r => Sys2Proof.Machine.execSourceFaultClear r s
  | .lossRepeat r => Sys2Proof.Machine.execLossRepeat r s
  | .heldMeasurementTimeout r => Sys2Proof.Machine.execHeldMeasurementTimeout r s
  | .asyMeasurement => Sys2Proof.Machine.execAsyMeasurement s
  | .annealEnd => Sys2Proof.Machine.execAnnealEnd s
  | .armExpiry => Sys2Proof.Machine.execArmExpiry s
  | .holdModelUpdate => Sys2Proof.Machine.execHoldModelUpdate s
  | .efcTransfer => Sys2Proof.Machine.execEfcTransfer s
  | .tempRead t => Sys2Proof.Machine.execTempRead t s
  | .tcLearnWrite tc1 tc2 t0 span hours => Sys2Proof.Machine.execTcLearnWrite tc1 tc2 t0 span hours s
  | .modelOkSet => Sys2Proof.Machine.execModelOkSet s
  | .refEdge src falling code => Sys2Proof.Machine.execRefEdge src falling code s
  | .ticRecordQueue ch => Sys2Proof.Machine.execTicRecordQueue ch s
  | .ticOverflowRecord ch => Sys2Proof.Machine.execTicOverflowRecord ch s
  | .ticStreamWrite ch => Sys2Proof.Machine.execTicStreamWrite ch s
  | .losExpiry n => Sys2Proof.Machine.execLosExpiry n s
  | .synceLockChange p lock => Sys2Proof.Machine.execSynceLockChange p lock s
  | .uartChar u c framing parity => Sys2Proof.Machine.execUartChar u c framing parity s
  | .charsDeliver u => Sys2Proof.Machine.execCharsDeliver u s
  | .aportStale a => Sys2Proof.Machine.execAportStale a s
  | .aportStCell => Sys2Proof.Machine.execAportStCell s
  | .todMsgCell => Sys2Proof.Machine.execTodMsgCell s
  | .checkCell => Sys2Proof.Machine.execCheckCell s
  | .todLossTimeout k => Sys2Proof.Machine.execTodLossTimeout k s
  | .irigFrame n ok sec min hour doy year edge => Sys2Proof.Machine.execIrigFrame n ok sec min hour doy year edge s
  | .todOutReq k clk => Sys2Proof.Machine.execTodOutReq k clk s
  | .todOutCell => Sys2Proof.Machine.execTodOutCell s
  | .todoutSend k => Sys2Proof.Machine.execTodoutSend k s
  | .pathWindowEnd ch sum span => Sys2Proof.Machine.execPathWindowEnd ch sum span s
  | .pathRetry ch => Sys2Proof.Machine.execPathRetry ch s
  | .cdcWindowEnd ch hist => Sys2Proof.Machine.execCdcWindowEnd ch hist s
  | .calAgeExpiry ch => Sys2Proof.Machine.execCalAgeExpiry ch s
  | .calTempDrift ch temp => Sys2Proof.Machine.execCalTempDrift ch temp s
  | .gateLongClose ch => Sys2Proof.Machine.execGateLongClose ch s
  | .gsiClockFault k rate ms => Sys2Proof.Machine.execGsiClockFault k rate ms s
  | .gsiClockRecover k ms => Sys2Proof.Machine.execGsiClockRecover k ms s
  | .antSample a current => Sys2Proof.Machine.execAntSample a current s
  | .gnsIntegration c code carr bit half slip cn0 => Sys2Proof.Machine.execGnsIntegration c code carr bit half slip cn0 s
  | .pullLockHeld c => Sys2Proof.Machine.execPullLockHeld c s
  | .pullTimeout c => Sys2Proof.Machine.execPullTimeout c s
  | .cn0LossTimeout c => Sys2Proof.Machine.execCn0LossTimeout c s
  | .coastTimeout c => Sys2Proof.Machine.execCoastTimeout c s
  | .searchDwell d => Sys2Proof.Machine.execSearchDwell d s
  | .aidedDwell g win second dets => Sys2Proof.Machine.execAidedDwell g win second dets s
  | .searchSettleEnd => Sys2Proof.Machine.execSearchSettleEnd s
  | .allLostTimeout => Sys2Proof.Machine.execAllLostTimeout s
  | .solutionCompute f => Sys2Proof.Machine.execSolutionCompute f s
  | .ingotCopy id ue => Sys2Proof.Machine.execIngotCopy id ue s
  | .seamFrame id conflict => Sys2Proof.Machine.execSeamFrame id conflict s
  | .launchCycle id => Sys2Proof.Machine.execLaunchCycle id s
  | .goutEdge id => Sys2Proof.Machine.execGoutEdge id s
  | .ticGateStart id => Sys2Proof.Machine.execTicGateStart id s
  | .ticGateStop id => Sys2Proof.Machine.execTicGateStop id s
  | .calWindowPath id => Sys2Proof.Machine.execCalWindowPath id s
  | .calWindowCdc id => Sys2Proof.Machine.execCalWindowCdc id s
  | .strobe id also ues => Sys2Proof.Machine.execStrobe id also ues s
  | .genSwitch id ue => Sys2Proof.Machine.execGenSwitch id ue s
  | .keyRotate id => Sys2Proof.Machine.execKeyRotate id s
  | .swapDrill id => Sys2Proof.Machine.execSwapDrill id s
  | .gnssEpoch id caps => Sys2Proof.Machine.execGnssEpoch id caps s
  | .planishWake id => Sys2Proof.Machine.execPlanishWake id s
  | .gflTime id => Sys2Proof.Machine.execGflTime id s
  | .gnssBurst id => Sys2Proof.Machine.execGnssBurst id s
  | .burnSearchDone b pfd band => Sys2Proof.Machine.execBurnSearchDone b pfd band s
  | .burnLockDeclared b err => Sys2Proof.Machine.execBurnLockDeclared b err s
  | .burnAcqTimeout b => Sys2Proof.Machine.execBurnAcqTimeout b s
  | .burnRefLost b => Sys2Proof.Machine.execBurnRefLost b s
  | .burnLockLost b err => Sys2Proof.Machine.execBurnLockLost b err s
  | .burnSourceReturn b => Sys2Proof.Machine.execBurnSourceReturn b s
  | .bypassClockLost => Sys2Proof.Machine.execBypassClockLost s
  | .outputReturn o => Sys2Proof.Machine.execOutputReturn o s
  | .syncinEdge => Sys2Proof.Machine.execSyncinEdge s
  | .pulseEnd g => Sys2Proof.Machine.execPulseEnd g s
  | .timecodeElement g => Sys2Proof.Machine.execTimecodeElement g s
  | .aesRxZPreamble m status ppb => Sys2Proof.Machine.execAesRxZPreamble m status ppb s
  | .aesTxBlock m fill => Sys2Proof.Machine.execAesTxBlock m fill s
  | .aesResume m => Sys2Proof.Machine.execAesResume m s
  | .pcsLockChange p lock => Sys2Proof.Machine.execPcsLockChange p lock s
  | .portUpTimer p => Sys2Proof.Machine.execPortUpTimer p s
  | .portFault p cause => Sys2Proof.Machine.execPortFault p cause s
  | .portFaultClear p => Sys2Proof.Machine.execPortFaultClear p s
  | .gridLockChange p lock phase => Sys2Proof.Machine.execGridLockChange p lock phase s
  | .preemptVerify p => Sys2Proof.Machine.execPreemptVerify p s
  | .frameReceive p tpcs len fcsOk err bytes => Sys2Proof.Machine.execFrameReceive p tpcs len fcsOk err bytes s
  | .pauseEnd p k => Sys2Proof.Machine.execPauseEnd p k s
  | .pauseWatchdog p k => Sys2Proof.Machine.execPauseWatchdog p k s
  | .launchRequest p excl lat => Sys2Proof.Machine.execLaunchRequest p excl lat s
  | .launchStart p dev => Sys2Proof.Machine.execLaunchStart p dev s
  | .launchEmpty p => Sys2Proof.Machine.execLaunchEmpty p s
  | .beFrameStart p tpcs => Sys2Proof.Machine.execBeFrameStart p tpcs s
  | .txtsOverflowEntry p => Sys2Proof.Machine.execTxtsOverflowEntry p s
  | .hmkRequest p m => Sys2Proof.Machine.execHmkRequest p m s
  | .staleReq p => Sys2Proof.Machine.execStaleReq p s
  | .announceSyncSend t p msg client => Sys2Proof.Machine.execAnnounceSyncSend t p msg client s
  | .clientReclaim t p kind addr => Sys2Proof.Machine.execClientReclaim t p kind addr s
  | .patrolScrubRead chB cls region syn last entry => Sys2Proof.Machine.execPatrolScrubRead chB cls region syn last entry s
  | .scrubWrite c => Sys2Proof.Machine.execScrubWrite c s
  | .regionEffect r => Sys2Proof.Machine.execRegionEffect r s
  | .regionDrainEnd r => Sys2Proof.Machine.execRegionDrainEnd r s
  | .plAdd e => Sys2Proof.Machine.execPlAdd e s
  | .plSub e => Sys2Proof.Machine.execPlSub e s
  | .plAnd e => Sys2Proof.Machine.execPlAnd e s
  | .plOr e => Sys2Proof.Machine.execPlOr e s
  | .plXor e => Sys2Proof.Machine.execPlXor e s
  | .plShl e => Sys2Proof.Machine.execPlShl e s
  | .plShr e => Sys2Proof.Machine.execPlShr e s
  | .plSra e => Sys2Proof.Machine.execPlSra e s
  | .plMul e => Sys2Proof.Machine.execPlMul e s
  | .plSlt e => Sys2Proof.Machine.execPlSlt e s
  | .plSltu e => Sys2Proof.Machine.execPlSltu e s
  | .plAdd64 e => Sys2Proof.Machine.execPlAdd64 e s
  | .plSub64 e => Sys2Proof.Machine.execPlSub64 e s
  | .plCmpt e => Sys2Proof.Machine.execPlCmpt e s
  | .plAddi e => Sys2Proof.Machine.execPlAddi e s
  | .plAndi e => Sys2Proof.Machine.execPlAndi e s
  | .plOri e => Sys2Proof.Machine.execPlOri e s
  | .plShli e => Sys2Proof.Machine.execPlShli e s
  | .plShri e => Sys2Proof.Machine.execPlShri e s
  | .plLui e => Sys2Proof.Machine.execPlLui e s
  | .plLdw e ue => Sys2Proof.Machine.execPlLdw e ue s
  | .plLdb e ue => Sys2Proof.Machine.execPlLdb e ue s
  | .plStw e => Sys2Proof.Machine.execPlStw e s
  | .plStb e => Sys2Proof.Machine.execPlStb e s
  | .plBeq e => Sys2Proof.Machine.execPlBeq e s
  | .plBne e => Sys2Proof.Machine.execPlBne e s
  | .plBlt e => Sys2Proof.Machine.execPlBlt e s
  | .plBge e => Sys2Proof.Machine.execPlBge e s
  | .plBltu e => Sys2Proof.Machine.execPlBltu e s
  | .plBgeu e => Sys2Proof.Machine.execPlBgeu e s
  | .plJmp e => Sys2Proof.Machine.execPlJmp e s
  | .plJal e => Sys2Proof.Machine.execPlJal e s
  | .plJr e => Sys2Proof.Machine.execPlJr e s
  | .plFault e => Sys2Proof.Machine.execPlFault e s
  | .plBld e => Sys2Proof.Machine.execPlBld e s
  | .plBst e => Sys2Proof.Machine.execPlBst e s
  | .plRds e => Sys2Proof.Machine.execPlRds e s
  | .plPktlw e => Sys2Proof.Machine.execPlPktlw e s
  | .plPktlh e => Sys2Proof.Machine.execPlPktlh e s
  | .plPktlb e => Sys2Proof.Machine.execPlPktlb e s
  | .plPktinf e => Sys2Proof.Machine.execPlPktinf e s
  | .plPktts e => Sys2Proof.Machine.execPlPktts e s
  | .plClass e => Sys2Proof.Machine.execPlClass e s
  | .plCelllw e => Sys2Proof.Machine.execPlCelllw e s
  | .plCellsw e => Sys2Proof.Machine.execPlCellsw e s
  | .plCellput e => Sys2Proof.Machine.execPlCellput e s
  | .plRdt e => Sys2Proof.Machine.execPlRdt e s
  | .plWaitt e => Sys2Proof.Machine.execPlWaitt e s
  | .plWaite e => Sys2Proof.Machine.execPlWaite e s
  | .waitReturn e => Sys2Proof.Machine.execWaitReturn e s
  | .txLaunchCell e excl => Sys2Proof.Machine.execTxLaunchCell e excl s
  | .upstreamCell e => Sys2Proof.Machine.execUpstreamCell e s
  | .linkLaneLock l => Sys2Proof.Machine.execLinkLaneLock l s
  | .laneLoss l => Sys2Proof.Machine.execLaneLoss l s
  | .cellReceive l c crcOk at_ => Sys2Proof.Machine.execCellReceive l c crcOk at_ s
  | .nakReceive l e => Sys2Proof.Machine.execNakReceive l e s
  | .helloReceive l => Sys2Proof.Machine.execHelloReceive l s
  | .timeCellReceive l => Sys2Proof.Machine.execTimeCellReceive l s
  | .shardReqReceive l miss ue => Sys2Proof.Machine.execShardReqReceive l miss ue s
  | .shardRespReceive l => Sys2Proof.Machine.execShardRespReceive l s
  | .ingotReceive l => Sys2Proof.Machine.execIngotReceive l s
  | .ingotAckReceive l => Sys2Proof.Machine.execIngotAckReceive l s
  | .resyncComplete => Sys2Proof.Machine.execResyncComplete s
  | .seamReportReceive v crcOk at_ => Sys2Proof.Machine.execSeamReportReceive v crcOk at_ s
  | .seamMsgReceive m crcOk at_ => Sys2Proof.Machine.execSeamMsgReceive m crcOk at_ s
  | .seamContentionSend report clash => Sys2Proof.Machine.execSeamContentionSend report clash s
  | .seamBackoffEnd report => Sys2Proof.Machine.execSeamBackoffEnd report s
  | .memberSilent d => Sys2Proof.Machine.execMemberSilent d s
  | .rollcallComplete => Sys2Proof.Machine.execRollcallComplete s
  | .contOnlyEnter => Sys2Proof.Machine.execContOnlyEnter s
  | .slottedReturn => Sys2Proof.Machine.execSlottedReturn s
  | .claimInChange v => Sys2Proof.Machine.execClaimInChange v s
  | .claimRiseArrives => Sys2Proof.Machine.execClaimRiseArrives s
  | .claimTie => Sys2Proof.Machine.execClaimTie s
  | .outMonMismatch o => Sys2Proof.Machine.execOutMonMismatch o s
  | .drillHoldEnd => Sys2Proof.Machine.execDrillHoldEnd s
  | .traceDramWrite => Sys2Proof.Machine.execTraceDramWrite s
  | .tracePinSend => Sys2Proof.Machine.execTracePinSend s
  | .traceGapEnter pins => Sys2Proof.Machine.execTraceGapEnter pins s
  | .traceLossReport => Sys2Proof.Machine.execTraceLossReport s
  | .msixSampleHoldoffEnd => Sys2Proof.Machine.execMsixSampleHoldoffEnd s
  | .regRead fn off n contig => Sys2Proof.Machine.execRegRead fn off n contig s
  | .spllRelock => Sys2Proof.Machine.execSpllRelock s
  | .todPairWindowExpiry k => Sys2Proof.Machine.execTodPairWindowExpiry k s
  | .aesRxLockChange m rate => Sys2Proof.Machine.execAesRxLockChange m rate s
  | .grantExpiry t p kind addr k => Sys2Proof.Machine.execGrantExpiry t p kind addr k s
  | .bypassClockReturn => Sys2Proof.Machine.execBypassClockReturn s

end Sys2Proof.Machine
end

