-- ==== Sys2Proof/Safety.lean ====
section
/-!
DEFINITION. Sys2Proof/Safety.lean: the terms the claims use: what every state that the block can reach has in common, and what
a command leaves alone.
-/

namespace Sys2Proof.Machine

/-- An engine's memories are in canonical form: its data memory and the data images of its banks. -/
def EngSt.canonical (x : EngSt) : Bool :=
  x.dm.wf && (match x.live with | some p => p.data.wf | none => true) && (match x.idle with | some p => p.data.wf | none => true)

/-- The register file and every engine's memories are in canonical form, so that equal contents are equal data. -/
def State.Canonical (s : State) : Prop := s.regs.wf = true ∧ s.eng.all (fun p => p.2.canonical) = true

/-- The state without what counts and records: counters and trace, staging of the functions, what has left. -/
def State.calm (s : State) : State := { s with obs := ObsSt.reset, hif := { s.hif with fns := [] }, out := [] }

end Sys2Proof.Machine
end

