-- ==== Sys2Proof/Certificates/Slice0/Obligations.lean ====
section
/-!
DEFINITION. Sys2Proof/Certificates/Slice0/Obligations.lean: the statements for the provers, and the terms they are made in.
-/

open Sys2Proof Sys2Proof.Machine

namespace Sys2Proof.Claims

/-- Command c, run on state s, answers a next state of which P holds. -/
def Does (c : Instr) (s : State) (P : State → Prop) : Prop := ∃ t, exec c s = .next t ∧ P t

/-- Every register word outside the given keys is as before. -/
def SameRegs (ks : List Nat) (s t : State) : Prop := ∀ k, k ∉ ks → t.regs.word k = s.regs.word k

/-- What lies outside the registers, the engines, and what counts and records is as before. -/
def SameRest (s t : State) : Prop := { t.calm with regs := [], eng := [] } = { s.calm with regs := [], eng := [] }

/-- The keys of the words that some fields lie in. -/
def words (fs : List Fld) : List Nat := fs.flatMap fun f => (List.range (Store.span f)).map fun i => f.a + 4 * i

/-- The change f of the state outside the registers, the words of the fields fs, and what counts and records are all that
differs: counters, trace, the functions' own rings and staging, and what has left the part. -/
def Only (fs : List Fld) (f : State → State) (s t : State) : Prop :=
  SameRegs (words fs) s t ∧ { t.calm with regs := [] } = f { s.calm with regs := [] }

/-- The record of an event, dated in state s, stands in the staging FIFO of function n, if it had room for it, whatever the command records besides, and no count of
its type waited (R376, R377). -/
def Reports (s t : State) (n typ tenant payload : Nat) : Prop :=
  (s.fn n).fifo.length < 448 → (s.fn n).coal = [] → s.evRec typ tenant s.short s.frac payload ∈ (t.fn n).fifo

/-- What has left the part before is still there, and o has left it. -/
def Sends (t : State) (o : Out) : Prop := o ∈ t.out

end Sys2Proof.Claims

open Sys2Proof.Claims


/-! ## Planish engines (R334 to R354) -/

namespace Sys2Proof.Claims

/-- Engine e is present and running, the word at its PC is w, with opcode op and legal, and c further cycles stay within its
budgets (R338, R339, R343). -/
def Ready (s : State) (e op c w : Nat) : Prop :=
  s.engPresent e = true ∧ s.get (F.ENG_ST_STATE e) = 1 ∧ s.pFetch e = some w ∧ pOp w = op ∧ pIllegal w = false ∧
    s.overBudget e c = false

/-- The register words that a result in Gr takes: none for G0. -/
def gKeys (e r : Nat) : List Nat := if r = 0 then [] else [(F.ENG_G_VALUE e r).a]

/-- Engine e goes on at pc with c cycles more counted, and nothing but the register words ks, the engine's own state and what
counts and records has changed; of the engine's state only its cycles and what f changes. -/
def Ran (s t : State) (e pc c : Nat) (ks : List Nat) (f : EngSt → EngSt) : Prop :=
  t.pc e = pc % 2 ^ 11 ∧ SameRegs ((F.ENG_PC_PC e).a :: ks) s t ∧ SameRest s t ∧ (∀ e', e' ≠ e → t.engine e' = s.engine e') ∧
    (let x := s.engine e
     t.engine e = f { x with cyc := x.cyc + c, frameCyc := if s.frameCounted e then x.frameCyc + c else x.frameCyc })

/-- Engine e puts v, modulo 2^32, into Gr and goes on to the next instruction; G0 takes nothing. -/
def Puts (s t : State) (e r v c : Nat) (f : EngSt → EngSt) : Prop :=
  t.g e r = (if r = 0 then 0 else v % 2 ^ 32) ∧ Ran s t e (s.pc e + 1) c (gKeys e r) f

/-- Engine e puts v, modulo 2^64, into the pair Gr, Gr+1 and goes on to the next instruction; G0 takes nothing. -/
def PutsPair (s t : State) (e r v c : Nat) : Prop :=
  t.g e r = (if r = 0 then 0 else v % 2 ^ 32) ∧ t.g e (r + 1) = v / 2 ^ 32 % 2 ^ 32 ∧
    Ran s t e (s.pc e + 1) c (gKeys e r ++ gKeys e (r + 1)) id

/-- The instruction of a command puts f ra rb into rd. -/
def AluDoes (i : Nat → Instr) (op c : Nat) (f : Nat → Nat → Nat) : Prop :=
  ∀ s e w, Ready s e op c w → Does (i e) s fun t => Puts s t e (pRd w) (f (s.g e (pRa w)) (s.g e (pRb w))) c id

/-- The instruction of a command puts f ra w into rd. -/
def ImmDoes (i : Nat → Instr) (op : Nat) (f : Nat → Nat → Nat) : Prop :=
  ∀ s e w, Ready s e op 1 w → Does (i e) s fun t => Puts s t e (pRd w) (f (s.g e (pRa w)) w) 1 id

/-- The branch of a command goes to PC + 1 + off in 2 cycles where c holds of ra and rb, else on in 1; nothing else changes. -/
def BranchDoes (i : Nat → Instr) (op : Nat) (c : Nat → Nat → Prop) : Prop :=
  ∀ s e w,
    (c (s.g e (pRd w)) (s.g e (pRa w)) → Ready s e op 2 w →
      Does (i e) s fun t => Ran s t e ((s.pc e + 1 + pImmS w) % 2 ^ 11).toNat 2 [] id) ∧
    (¬ c (s.g e (pRd w)) (s.g e (pRa w)) → Ready s e op 1 w → Does (i e) s fun t => Ran s t e (s.pc e + 1) 1 [] id)

end Sys2Proof.Claims

/-- R342, R336: each instruction of format R with one result puts its result, modulo 2^32, into rd (G0 stays 0), counts its
cycles, steps the PC, and leaves every other register word, the data memory and the other engines as they were. -/
def Obligations.PlanishAluResult : Prop :=
  AluDoes .plAdd 0x01 1 (fun a b => a + b) ∧ AluDoes .plSub 0x02 1 (fun a b => a + 2 ^ 32 - b) ∧
  AluDoes .plAnd 0x03 1 (fun a b => a &&& b) ∧ AluDoes .plOr 0x04 1 (fun a b => a ||| b) ∧
  AluDoes .plXor 0x05 1 (fun a b => a ^^^ b) ∧ AluDoes .plShl 0x06 1 (fun a b => a * 2 ^ (b % 32)) ∧
  AluDoes .plShr 0x07 1 (fun a b => a / 2 ^ (b % 32)) ∧
  AluDoes .plSra 0x08 1 (fun a b => (toSigned 32 a / 2 ^ (b % 32) % 2 ^ 32).toNat) ∧
  AluDoes .plMul 0x09 2 (fun a b => a * b) ∧
  AluDoes .plSlt 0x0A 1 (fun a b => if toSigned 32 a < toSigned 32 b then 1 else 0) ∧
  AluDoes .plSltu 0x0B 1 (fun a b => if a < b then 1 else 0)

/-- R342, R44: ADD64 and SUB64 put sum and difference of pairs, modulo 2^64, into a pair; CMPT puts the sign of the signed
64-bit difference of pairs into rd. -/
def Obligations.PlanishPairResult : Prop :=
  (∀ s e w, Ready s e 0x0C 2 w →
    Does (.plAdd64 e) s fun t => PutsPair s t e (pRd w) (s.pairG e (pRa w) + s.pairG e (pRb w)) 2) ∧
  (∀ s e w, Ready s e 0x0D 2 w →
    Does (.plSub64 e) s fun t => PutsPair s t e (pRd w) (s.pairG e (pRa w) + 2 ^ 64 - s.pairG e (pRb w)) 2) ∧
  (∀ s e w, Ready s e 0x0E 2 w →
    Does (.plCmpt e) s fun t =>
      Puts s t e (pRd w) (let d := Machine.sdiff (s.pairG e (pRb w)) (s.pairG e (pRa w))
        if d < 0 then 2 ^ 32 - 1 else if d = 0 then 0 else 1) 2 id)

/-- R342: ADDI sign-extends its immediate, ANDI and ORI zero-extend it, SHLI and SHRI shift by its low five bits, LUI puts it
into bits [31:14]. -/
def Obligations.PlanishImmediateResult : Prop :=
  ImmDoes .plAddi 0x10 (fun a w => (((a : Int) + pImmS w) % 2 ^ 32).toNat) ∧ ImmDoes .plAndi 0x11 (fun a w => a &&& pImm w) ∧
  ImmDoes .plOri 0x12 (fun a w => a ||| pImm w) ∧ ImmDoes .plShli 0x13 (fun a w => a * 2 ^ (pImm w % 32)) ∧
  ImmDoes .plShri 0x14 (fun a w => a / 2 ^ (pImm w % 32)) ∧ ImmDoes .plLui 0x15 (fun _ w => pImm w * 2 ^ 14)

/-- R342, R337, R350: a load within data memory, aligned and without an uncorrectable error, puts the bytes at ra + imm into
rd, zero-extended; a store puts the low bytes of rs there, and every other byte of the engine's memory reads as before. -/
def Obligations.PlanishLoadStore : Prop :=
  (∀ s e w, Ready s e 0x18 2 w → s.pAddr e w < 16384 → s.pAddr e w % 4 = 0 →
    Does (.plLdw e false) s fun t => Puts s t e (pRd w) (Mem.read (s.engine e).dm (s.pAddr e w) 4) 2 id) ∧
  (∀ s e w, Ready s e 0x19 2 w → s.pAddr e w < 16384 →
    Does (.plLdb e false) s fun t => Puts s t e (pRd w) (Mem.read (s.engine e).dm (s.pAddr e w) 1) 2 id) ∧
  (∀ s e w, Ready s e 0x1A 1 w → s.pAddr e w < 16384 → s.pAddr e w % 4 = 0 →
    Does (.plStw e) s fun t =>
      Mem.read (t.engine e).dm (s.pAddr e w) 4 = s.g e (pRd w) ∧
      (∀ a, (a < s.pAddr e w ∨ s.pAddr e w + 4 ≤ a) → Mem.byte (t.engine e).dm a = Mem.byte (s.engine e).dm a) ∧
      Ran s t e (s.pc e + 1) 1 [] (fun x => { x with dm := (t.engine e).dm })) ∧
  (∀ s e w, Ready s e 0x1B 1 w → s.pAddr e w < 16384 →
    Does (.plStb e) s fun t =>
      Mem.read (t.engine e).dm (s.pAddr e w) 1 = s.g e (pRd w) % 2 ^ 8 ∧
      (∀ a, a ≠ s.pAddr e w → Mem.byte (t.engine e).dm a = Mem.byte (s.engine e).dm a) ∧
      Ran s t e (s.pc e + 1) 1 [] (fun x => { x with dm := (t.engine e).dm }))

/-- R342, R341: branches compare ra with rb as named; JMP, JAL and JR go to their target word, JAL with PC + 1 in G15. -/
def Obligations.PlanishControlFlow : Prop :=
  BranchDoes .plBeq 0x20 (fun a b => a = b) ∧ BranchDoes .plBne 0x21 (fun a b => a ≠ b) ∧
  BranchDoes .plBlt 0x22 (fun a b => toSigned 32 a < toSigned 32 b) ∧
  BranchDoes .plBge 0x23 (fun a b => toSigned 32 b ≤ toSigned 32 a) ∧
  BranchDoes .plBltu 0x24 (fun a b => a < b) ∧ BranchDoes .plBgeu 0x25 (fun a b => b ≤ a) ∧
  (∀ s e w, Ready s e 0x26 2 w → Does (.plJmp e) s fun t => Ran s t e (pTarget w) 2 [] id) ∧
  (∀ s e w, Ready s e 0x27 2 w →
    Does (.plJal e) s fun t => t.g e 15 = (s.pc e + 1) % 2 ^ 11 ∧ Ran s t e (pTarget w) 2 (gKeys e 15) id) ∧
  (∀ s e w, Ready s e 0x28 2 w → Does (.plJr e) s fun t => Ran s t e (s.g e (pRa w)) 2 [] id)

/-- R348, R342, R349, R45: RDS and RDT put a special register and core time into rd; a WAITT for an epoch 2^62 ns or more
away puts TOO_FAR into rd at once, and a nearer one waits; WAITE waits with no epoch; a waiting engine returns for its epoch
with EPOCH in rd, LATE where the epoch was crossed, and runs on. -/
def Obligations.PlanishTimeAndWaits : Prop :=
  (∀ s e w, Ready s e 0x2E 1 w →
    Does (.plRds e) s fun t => Puts s t e (pRd w) ((s.charge e 1).special e (pImm w)) 1 id) ∧
  (∀ s e w, Ready s e 0x3C 1 w → pImm w = 0 → Does (.plRdt e) s fun t => PutsPair s t e (pRd w) s.short 1) ∧
  (∀ s e w, Ready s e 0x3C 1 w → pImm w = 1 → Does (.plRdt e) s fun t => Puts s t e (pRd w) s.frac 1 id) ∧
  (∀ s e w, Ready s e 0x3D 1 w → 2 ^ 62 ≤ (Machine.sdiff s.short (s.pairG e (pRa w))).natAbs →
    Does (.plWaitt e) s fun t => Puts s t e (pRd w) 5 1 (fun x => { x with oob := false, late := false })) ∧
  (∀ s e w, Ready s e 0x3D 1 w → (Machine.sdiff s.short (s.pairG e (pRa w))).natAbs < 2 ^ 62 →
    Does (.plWaitt e) s fun t =>
      t.get (F.ENG_ST_STATE e) = 2 ∧ t.pc e = s.pc e ∧ SameRegs [(F.ENG_ST_STATE e).a] s t ∧
      (t.engine e).wait = some ⟨pRd w, some (s.pairG e (pRa w)), bitOf (pImm w) 0⟩) ∧
  (∀ s e w, Ready s e 0x3E 1 w → (s.engine e).held = none → (s.engine e).swap = false →
    Does (.plWaite e) s fun t =>
      t.get (F.ENG_ST_STATE e) = 2 ∧ t.pc e = s.pc e ∧ SameRegs [(F.ENG_ST_STATE e).a] s t ∧
      (t.engine e).wait = some ⟨pRd w, none, true⟩) ∧
  (∀ (s : State) (e rd ep : Nat) (wk : Bool), s.engPresent e = true → s.get (F.ENG_ST_STATE e) = 2 → (s.engine e).wait = some ⟨rd, some ep, wk⟩ →
    rd < 16 → (s.engine e).crossed = true ∨ Machine.sdiff s.short ep ≤ 0 →
    Does (.waitReturn e) s fun t =>
      t.get (F.ENG_ST_STATE e) = 1 ∧ t.pc e = (s.pc e + 1) % 2 ^ 11 ∧ (t.engine e).wait = none ∧ (t.engine e).oob = false ∧
      (t.engine e).late = (s.engine e).crossed ∧
      t.g e rd = (if rd = 0 then 0 else if (s.engine e).crossed then 256 else 0))

/-- R344, R346: an engine with a held frame reads its bytes, most significant first, its length and port, and its timestamp;
CLASS 5 gives the frame to the host and releases it; CELLLW reads the input cell, CELLSW writes the output cell, and CELLPUT
posts the output cell while its queue has room. -/
def Obligations.PlanishFramesAndCells : Prop :=
  (∀ s e w f, Ready s e 0x30 1 w → State.hasPkt e = true → (s.engine e).held = some f →
    Does (.plPktlw e) s fun t =>
      Puts s t e (pRd w) (State.frameRead f (toSigned 32 (s.pAddr e w)) 4).1 1
        (fun x => { x with oob := x.oob || (State.frameRead f (toSigned 32 (s.pAddr e w)) 4).2 })) ∧
  (∀ s e w f, Ready s e 0x31 1 w → State.hasPkt e = true → (s.engine e).held = some f →
    Does (.plPktlh e) s fun t =>
      Puts s t e (pRd w) (State.frameRead f (toSigned 32 (s.pAddr e w)) 2).1 1
        (fun x => { x with oob := x.oob || (State.frameRead f (toSigned 32 (s.pAddr e w)) 2).2 })) ∧
  (∀ s e w f, Ready s e 0x32 1 w → State.hasPkt e = true → (s.engine e).held = some f →
    Does (.plPktlb e) s fun t =>
      Puts s t e (pRd w) (State.frameRead f (toSigned 32 (s.pAddr e w)) 1).1 1
        (fun x => { x with oob := x.oob || (State.frameRead f (toSigned 32 (s.pAddr e w)) 1).2 })) ∧
  (∀ s e w f, Ready s e 0x33 1 w → State.hasPkt e = true → (s.engine e).held = some f →
    Does (.plPktinf e) s fun t => Puts s t e (pRd w) (f.len % 2 ^ 16 + 2 ^ 16 * (f.port % 8)) 1 id) ∧
  (∀ s e w f, Ready s e 0x34 1 w → State.hasPkt e = true → (s.engine e).held = some f →
    Does (.plPktts e) s fun t => PutsPair s t e (pRd w) f.short 1) ∧
  (∀ s e w f, Ready s e 0x35 1 w → State.hasPkt e = true → (s.engine e).held = some f → s.g e (pRa w) % 8 = 5 →
    Does (.plClass e) s fun t =>
      t.pc e = (s.pc e + 1) % 2 ^ 11 ∧ (t.engine e).held = none ∧
      Out.hostFrame f.port f.len f.bytes f.short f.frac ∈ t.out) ∧
  (∀ s e w, Ready s e 0x38 2 w → pImm w < 64 →
    Does (.plCelllw e) s fun t => Puts s t e (pRd w) (bitsOf (s.engine e).inCell.bytes (32 * pImm w) 32) 2 id) ∧
  (∀ s e w, Ready s e 0x39 1 w → pImm w < 64 →
    Does (.plCellsw e) s fun t =>
      bitsOf (t.engine e).outCell (32 * pImm w) 32 = s.g e (pRd w) ∧
      (∀ i, i ≠ pImm w → bitsOf (t.engine e).outCell (32 * i) 32 = bitsOf (s.engine e).outCell (32 * i) 32) ∧
      Ran s t e (s.pc e + 1) 1 [] (fun x => { x with outCell := (t.engine e).outCell })) ∧
  (∀ s e w, Ready s e 0x3A 4 w → State.cellDefined e (pImm w) (s.g e (pRa w)) = true → s.upstreamBad e (pImm w) = false →
    (s.engine e).outQ.length < 16 →
    Does (.plCellput e) s fun t =>
      Ran s t e (s.pc e + 1) 4 [] (fun x => { x with
        outQ := x.outQ ++ [⟨pImm w, s.g e (pRa w), bitsOf x.outCell 0 (8 * s.g e (pRa w))⟩] }))

/-- R345, R334: BLD puts a register of the engine's blocks into rd, BST writes the bits of a register that the engine may
write, live and in a waiting shadow alike, with no strobe. -/
def Obligations.PlanishRegisterAccess : Prop :=
  (∀ s e w d i j k, Ready s e 0x2C 8 w → State.bldPlace e (s.pAddr e w) = some (d, i, j, k) → d.wide = false →
    d.id ≠ .ETH_TXTS_POP → (s.engine e).bldHi = none →
    Does (.plBld e) s fun t =>
      Puts s t e (pRd w) ((s.charge e 8).wordView false 0 d i j k (s.pAddr e w)) 8 id) ∧
  (∀ s e w m, Ready s e 0x2D 4 w → State.bstPlace e (s.pAddr e w) = some m →
    Does (.plBst e) s fun t =>
      (∀ b < 32, bitOf (t.regs.word (s.pAddr e w)).toNat b =
        if bitOf m b then bitOf (s.g e (pRd w)) b else bitOf (s.regs.word (s.pAddr e w)).toNat b) ∧
      (∀ p, alGet s.pend (s.pAddr e w) = some p → ∃ q, alGet t.pend (s.pAddr e w) = some q ∧
        ∀ b < 32, bitOf q.toNat b = if bitOf m b then bitOf (s.g e (pRd w)) b else bitOf p.toNat b) ∧
      t.pc e = (s.pc e + 1) % 2 ^ 11 ∧ SameRegs [s.pAddr e w, (F.ENG_PC_PC e).a] s t)

/-- R350, R343, R342: a running engine that meets an ILLEGAL word, or the FAULT instruction, stops before it: its STATE is
QUENCHED with the lowest cause, its PC and data memory are as before, and its pending wakes, cells and frames are gone. FAULT
stores imm[15:0] in SOFT_CODE. -/
def Obligations.PlanishQuench : Prop :=
  (∀ s e w, s.engPresent e = true → s.get (F.ENG_ST_STATE e) = 1 → s.pFetch e = some w → pOp w = 0x01 → pIllegal w = true →
    Does (.plAdd e) s fun t =>
      t.get (F.ENG_ST_STATE e) = 3 ∧ t.get (F.ENG_ST_CAUSE e) = 1 ∧ t.pc e = s.pc e ∧ (t.engine e).dm = (s.engine e).dm ∧
      (t.engine e).tick = false ∧ (t.engine e).wakes = [] ∧ (t.engine e).cells = [] ∧ (t.engine e).frames = []) ∧
  (∀ s e w, Ready s e 0x2A 1 w →
    Does (.plFault e) s fun t =>
      t.get (F.ENG_ST_STATE e) = 3 ∧ t.get (F.ENG_ST_CAUSE e) = 6 ∧ t.get (F.ENG_ST_SOFT_CODE e) = pImm w % 2 ^ 16 ∧
      t.pc e = s.pc e ∧ (t.engine e).dm = (s.engine e).dm ∧
      (t.engine e).tick = false ∧ (t.engine e).wakes = [] ∧ (t.engine e).cells = [] ∧ (t.engine e).frames = [])

/-! ## Epoch scheduler (R228 to R243) -/

namespace Sys2Proof.Claims

/-- The answer of the checks of R235 to the operation that function fn has in progress. -/
def schCode (s : State) (fn op : Nat) : Nat :=
  s.schCheck (s.recTenant fn) op (s.get (F.SCH_CMD_ID.on fn)) (State.stgEnt (s.get (F.SCH_STG_ENTRY.on fn)))

/-- Function fn has operation op in progress. -/
def SchGo (s : State) (fn op : Nat) : Prop := s.on (F.SCH_CMD_ST_BUSY.on fn) = true ∧ s.get (F.SCH_CMD_OP.on fn) = op

/-- The occurrences of entry id that have been dispatched. -/
def dispatchedOf (s : State) (id : Nat) : List (Nat × SchEnt) :=
  match alGet s.sch.ents id with
  | some c => if s.dispatched c then [(id, { c with period := 0 })] else []
  | none => []

/-- Entry id has no occurrence that was dispatched while another tenant owned its output (R238). -/
def Clear (s : State) (id : Nat) : Prop :=
  ∀ c, alGet s.sch.ents id = some c → s.dispatched c = true → s.disowned ⟨false, id, c⟩ = false

/-- The occurrence o acts with an action: it is the next one in order, due before the next boundary, not behind the present
cycle, its output has no other owner, it finds a free cycle of the dispatch, and no strobe waits for it. -/
def Acts (s : State) (o : State.Occ) (id action : Nat) : Prop :=
  s.nextOcc = some o ∧ o.id = id ∧ s.time.running = true ∧ o.ent.action = action ∧ s.dueOf o.ent < s.time.tickAt ∧
    s.notOverdue (s.dueOf o.ent) = true ∧ s.disowned o = false ∧
    (s.runTo (s.dueOf o.ent).toNat).congested (s.dueOf o.ent) = false ∧ s.sch.updWait = 0

/-- The entries once occurrence o has acted: EPOCH advances by PERIOD, or a one-shot entry is freed (R230). -/
def entsAfter (s : State) (o : State.Occ) : List (Nat × SchEnt) :=
  if o.detached then s.sch.ents
  else if o.ent.period = 0 then alDel s.sch.ents o.id
  else alSet s.sch.ents o.id { o.ent with epoch := (o.ent.epoch + o.ent.period) % 2 ^ 64 }

/-- The core stands at the cycle in which occurrence o is due, and its entry has advanced. -/
def Acted (s t : State) (o : State.Occ) : Prop :=
  t.time = (s.runTo (s.dueOf o.ent).toNat).time ∧ t.sch.ents = entsAfter s o

end Sys2Proof.Claims

/-- R234, R235: an operation whose checks pass completes with OK: WRITE puts the staged entry, DELETE frees the entry, READ
puts the entry into the staging registers; dispatched occurrences of a replaced or deleted entry are kept apart to act, and one that lost its output before its dispatch is
dropped. One whose checks fail answers the code of the first that fails and changes no entry. -/
def Obligations.SchedulerOperations : Prop :=
  (∀ s fn, SchGo s fn 0 → schCode s fn 0 = 1 → Clear s (s.get (F.SCH_CMD_ID.on fn)) →
    let id := s.get (F.SCH_CMD_ID.on fn)
    Does (.schWrite fn) s fun t =>
      t.get (F.SCH_CMD_ST_CODE.on fn) = 1 ∧ t.get (F.SCH_CMD_ST_BUSY.on fn) = 0 ∧
      t.get (F.SCH_CMD_ST_REPLACED.on fn) = (if (alGet s.sch.ents id).isSome then 1 else 0) ∧
      t.get (F.SCH_CMD_ST_DISPATCHED.on fn) = (dispatchedOf s id).length ∧
      Only [F.SCH_CMD_ST_CODE.on fn] (fun x => { x with sch := { x.sch with
        ents := alSet s.sch.ents id (State.stgEnt (s.get (F.SCH_STG_ENTRY.on fn)))
        detached := s.sch.detached ++ dispatchedOf s id } }) s t) ∧
  (∀ s fn, SchGo s fn 1 → schCode s fn 1 = 1 → Clear s (s.get (F.SCH_CMD_ID.on fn)) →
    let id := s.get (F.SCH_CMD_ID.on fn)
    Does (.schDelete fn) s fun t =>
      t.get (F.SCH_CMD_ST_CODE.on fn) = 1 ∧ t.get (F.SCH_CMD_ST_BUSY.on fn) = 0 ∧ t.get (F.SCH_CMD_ST_REPLACED.on fn) = 0 ∧
      t.get (F.SCH_CMD_ST_DISPATCHED.on fn) = (dispatchedOf s id).length ∧
      Only [F.SCH_CMD_ST_CODE.on fn] (fun x => { x with sch := { x.sch with
        ents := alDel s.sch.ents id, detached := s.sch.detached ++ dispatchedOf s id } }) s t) ∧
  (∀ s fn c, SchGo s fn 2 → schCode s fn 2 = 1 → alGet s.sch.ents (s.get (F.SCH_CMD_ID.on fn)) = some c →
    Does (.schRead fn) s fun t =>
      t.get (F.SCH_CMD_ST_CODE.on fn) = 1 ∧ t.get (F.SCH_CMD_ST_BUSY.on fn) = 0 ∧
      t.get (F.SCH_STG_ENTRY.on fn) = State.entStg c % 2 ^ 256 ∧
      Only [F.SCH_CMD_ST_CODE.on fn, F.SCH_STG_ENTRY.on fn] id s t) ∧
  (∀ s fn c, ∀ p ∈ [(Instr.schWrite fn, 0), (Instr.schDelete fn, 1)], SchGo s fn p.2 → schCode s fn p.2 = 1 →
    let id := s.get (F.SCH_CMD_ID.on fn)
    alGet s.sch.ents id = some c → s.dispatched c = true → s.disowned ⟨false, id, c⟩ = true → s.sch.late = [] →
    Does p.1 s fun t =>
      t.get (F.SCH_CMD_ST_CODE.on fn) = 1 ∧ t.get (F.SCH_CMD_ST_BUSY.on fn) = 0 ∧ t.get (F.SCH_CMD_ST_REPLACED.on fn) = 0 ∧
      t.get (F.SCH_CMD_ST_DISPATCHED.on fn) = 0 ∧ t.sch.detached = s.sch.detached ∧ t.sch.late = [] ∧
      t.get F.SCH_LATE_ST_DROPPED = (s.get F.SCH_LATE_ST_DROPPED + 1) % 2 ^ 32 ∧
      (∀ i, i ≠ id → alGet t.sch.ents i = alGet s.sch.ents i) ∧
      alGet t.sch.ents id = (if p.2 = 0 then some (State.stgEnt (s.get (F.SCH_STG_ENTRY.on fn))) else none) ∧
      SameRegs (words [F.SCH_CMD_ST_CODE.on fn, F.SCH_LATE_ST_DROPPED]) s t) ∧
  (∀ s fn op, ∀ p ∈ [(Instr.schWrite fn, 0), (Instr.schDelete fn, 1), (Instr.schRead fn, 2)],
    SchGo s fn op → op = p.2 ∨ op = 3 → schCode s fn op ≠ 1 →
    Does p.1 s fun t =>
      t.get (F.SCH_CMD_ST_CODE.on fn) = schCode s fn op ∧ t.get (F.SCH_CMD_ST_BUSY.on fn) = 0 ∧
      Only [F.SCH_CMD_ST_CODE.on fn] id s t)

/-- R232, R241, R243: an occurrence that was not dispatched by its due cycle is handled late with cause CONGESTED: its entry
passes over what it missed, SKIP and DROP_ENTRY are counted and recorded at once, and FIRE_LATE waits in the late queue. -/
def Sys2Proof.Claims.SchedulerCongestion : Prop :=
  ∀ (s : State) (o : State.Occ), s.nextOcc = some o → s.time.running = true → s.dueOf o.ent < s.time.tickAt →
    (let u := s.runTo (s.dueOf o.ent).toNat
     s.notOverdue (s.dueOf o.ent) = false ∨ u.congested (s.dueOf o.ent) = true) →
    o.detached = false → s.sch.late = [] → s.sch.updWait = 0 →
    let u := s.runTo (s.dueOf o.ent).toNat
    let p := s.latePolicy o.ent.policy
    let missed := if o.ent.period = 0 then 1 else (((u.ns : Int) - s.dueOf o.ent) / o.ent.period).toNat + 1
    Does (.schCongestedLate o.id) s fun t =>
      t.sch.ents = (if p = 2 ∨ o.ent.period = 0 then alDel s.sch.ents o.id
        else alSet s.sch.ents o.id { o.ent with epoch := (o.ent.epoch + missed * o.ent.period) % 2 ^ 64 }) ∧
      t.sch.late = (if p = 0 then [⟨o.id, { o.ent with policy := p }, missed, 1, false⟩] else []) ∧
      t.get F.SCH_LATE_ST_SKIPPED = (s.get F.SCH_LATE_ST_SKIPPED + (if p = 1 then missed else 0)) % 2 ^ 32 ∧
      t.get F.SCH_LATE_ST_DROPPED = (s.get F.SCH_LATE_ST_DROPPED + (if 2 ≤ p then 1 else 0)) % 2 ^ 32 ∧
      SameRegs (words [F.SCH_LATE_ST_SKIPPED, F.SCH_LATE_ST_DROPPED]) s t ∧ t.time = u.time ∧ t.sch.detached = s.sch.detached

/-- R230, R340: a scheduled wake reaches an engine that takes it, with its code behind those that wait. -/
def Sys2Proof.Claims.ScheduledWake : Prop :=
  (∀ s o id, Acts s o id 13 →
    let e := bitsOf o.ent.arg 0 5
    s.engPresent e = true → s.engQuenched e = false → e ≠ 17 → (s.engine e).wakes.length < 16 →
    Does (.planishWake id) s fun t =>
      Acted s t o ∧ t.engine e = { s.engine e with wakes := (s.engine e).wakes ++ [bitsOf o.ent.arg 8 24] } ∧
      (∀ e', e' ≠ e → t.engine e' = s.engine e') ∧ SameRegs [] s t) ∧
  (∀ s l caps ue ues conflict, s.sch.late = [l] → l.ent.policy = 0 → l.ent.action = 13 →
    let e := bitsOf l.ent.arg 0 5
    s.engPresent e = true → s.engQuenched e = false → e ≠ 17 → (s.engine e).wakes.length < 16 →
    Does (.lateFireDispatch caps ue ues conflict) s fun t =>
      t.sch.late = [] ∧ t.get F.SCH_LATE_ST_FIRED_LATE = (s.get F.SCH_LATE_ST_FIRED_LATE + 1) % 2 ^ 32 ∧
      t.engine e = { s.engine e with wakes := (s.engine e).wakes ++ [bitsOf l.ent.arg 8 24] } ∧
      SameRegs (words [F.SCH_LATE_ST_FIRED_LATE]) s t)

/-- R232, R241, R243: an occurrence that was not dispatched by its due cycle is handled late with cause CONGESTED: its entry
passes over what it missed, SKIP and DROP_ENTRY are counted and recorded at once, and FIRE_LATE waits in the late queue.
R230, R340: a scheduled wake reaches an engine that takes it, with its code behind those that wait. -/
def Obligations.SchedulerLateAndWakes : Prop := SchedulerCongestion ∧ ScheduledWake

/-! ## Timescale kernel (R151 to R176) -/

/-- R166, R169, R170: an Anneal at its end has applied what remained of it and is no longer active; an arm past its DEADLINE
expires; engine 3 recomputes the MODELLED frequency once a second; MODEL_OK follows MODEL_MIN hours in LOCKED. -/
def Sys2Proof.Claims.KernelEvents : Prop :=
  (∀ s : State, s.time.running = true → s.on F.TSK_ANNEAL_ST_ACTIVE = true → s.time.annS ≠ 0 →
    let k := ceilDiv s.time.annR.natAbs s.time.annS.natAbs
    Does .annealEnd s fun t =>
      t.get F.TSK_ANNEAL_ST_ACTIVE = 0 ∧ t.get F.TSK_ANNEAL_ST_SRC = 0 ∧ t.get F.TSK_STAT_ANNEAL = 0 ∧
      Only [F.TSK_ANNEAL_ST_ACTIVE, F.TSK_STAT_ANNEAL] (fun x => { x with time := { x.time with
        core := ((s.time.core : Int) + k * s.baseStep + s.time.annR).toNat, cyc := s.time.cyc + k
        prev := if k = 0 then s.time.prev else s.coreIn (k - 1), annS := 0, annNext := 0, annR := 0 } }) s t) ∧
  (∀ s mag tol dl, s.tsk.arm = some (mag, tol, dl) → 0 < Machine.sdiff dl (s.time.tickNs % 2 ^ 64) →
    Does .armExpiry s fun t =>
      t.get F.TSK_STEP_STAT_STATE = 3 ∧ t.get F.TSK_STAT_ARMED = 0 ∧
      Only [F.TSK_STEP_STAT_STATE, F.TSK_STAT_ARMED] (fun x => { x with tsk := { x.tsk with arm := none } }) s t) ∧
  (∀ s : State, s.get F.TSK_STAT_STATE = 3 → s.engQuenched 11 = false → s.tsk.modelTick + 1000 ≤ s.tsk.bnd →
    Does .holdModelUpdate s fun t =>
      Only [] (fun x => { x with tsk := { x.tsk with
        tTerm := s.tempTerm, modelTick := s.tsk.bnd
        modelF := clampI (-State.freqMax) State.freqMax (s.getI F.TSK_HOLD_ST_F0 - roundRat s.modelTerm) } }) s t) ∧
  (∀ s : State, s.get F.TSK_STAT_STATE = 2 → s.get F.TSK_HOLD_CFG_MODEL_MIN * 3600000 ≤ s.tsk.lockedRun →
    Does .modelOkSet s fun t => t.get F.TSK_STAT_MODEL_OK = 1 ∧ Only [F.TSK_STAT_MODEL_OK] id s t)

/-- R171, R172: a temperature reading is held with TEMP_OK, a failed one clears it and holds the temperature terms; the coefficients of a fit become live and
shadow values; in TRACK the mean FREQ_ADJ of a period moves into the DAC code within its limits and into the integrator, and
in HOLDOVER the code follows the model term. -/
def Sys2Proof.Claims.KernelOscillator : Prop :=
  (∀ (s : State) (v : Int), s.engQuenched 11 = false →
    Does (.tempRead (some v)) s fun t =>
      t.getI F.TSK_HOLD_ST_TEMP = toSigned F.TSK_HOLD_ST_TEMP.w (ofSigned F.TSK_HOLD_ST_TEMP.w v) ∧ t.get F.TSK_HOLD_ST_TEMP_OK = 1 ∧
      t.get F.TSK_EFC_ST_SENSOR_ERR = (if s.on F.TSK_HOLD_CFG_TC_SRC then 0 else s.get F.TSK_EFC_ST_SENSOR_ERR) ∧
      Only [F.TSK_HOLD_ST_TEMP, F.TSK_HOLD_ST_TEMP_OK, F.TSK_EFC_ST_SENSOR_ERR] id s t) ∧
  (∀ s : State, s.engQuenched 11 = false →
    Does (.tempRead none) s fun t =>
      t.get F.TSK_HOLD_ST_TEMP_OK = 0 ∧
      t.get F.TSK_EFC_ST_SENSOR_ERR = (if s.on F.TSK_HOLD_CFG_TC_SRC then 1 else s.get F.TSK_EFC_ST_SENSOR_ERR) ∧
      Only [F.TSK_HOLD_ST_TEMP_OK, F.TSK_EFC_ST_SENSOR_ERR] (fun x => { x with tsk := { x.tsk with tTerm := s.tempTerm } }) s t) ∧
  (∀ (s : State) (tc1 tc2 t0 : Int) (span hours : Nat), s.on F.TSK_HOLD_CFG_TC_LEARN = true → s.get F.TSK_STAT_STATE = 2 →
    s.engQuenched 11 = false → (∀ n, s.tsk.learnTick = some n → n + 3600000 ≤ s.time.tickNo) → 80 ≤ span →
    s.get F.TSK_HOLD_CFG_MODEL_MIN ≤ hours →
    Does (.tcLearnWrite tc1 tc2 t0 span hours) s fun t =>
      t.get F.TSK_HOLD_TC_TC1 = ofSigned 32 tc1 ∧ t.view F.TSK_HOLD_TC_TC1 = ofSigned 32 tc1 ∧
      t.get F.TSK_HOLD_TC_TC2 = ofSigned 32 tc2 ∧ t.view F.TSK_HOLD_TC_TC2 = ofSigned 32 tc2 ∧
      t.get F.TSK_HOLD_TC_T0 = ofSigned 16 t0 ∧ t.view F.TSK_HOLD_TC_T0 = ofSigned 16 t0 ∧
      t.tsk = { s.tsk with learnTick := some s.time.tickNo } ∧
      SameRegs (words [F.TSK_HOLD_TC_TC1, F.TSK_HOLD_TC_TC2, F.TSK_HOLD_TC_T0]) s t) ∧
  (∀ s : State, s.get F.TSK_EFC_CFG_MODE = 1 → s.engQuenched 11 = false → s.get F.TSK_EFC_CFG_PERIOD * 1000 ≤ s.tsk.efcTicks →
    (s.get F.TSK_STAT_STATE = 1 ∨ s.get F.TSK_STAT_STATE = 2 ∨ s.get F.TSK_STAT_STATE = 4) →
    let cur := s.get F.TSK_EFC_ST_CODE
    let code : Int := cur + s.trackStep
    let c := clampI (s.get F.TSK_EFC_LIM_CODE_MIN) (s.get F.TSK_EFC_LIM_CODE_MAX) code
    Does .efcTransfer s fun t =>
      t.get F.TSK_EFC_ST_CODE = c.toNat % 2 ^ 24 ∧ t.get F.TSK_EFC_ST_RAIL = (if c ≠ code then 1 else 0) ∧
      t.get F.TSK_STAT_EFC_RAIL = (if c ≠ code then 1 else 0) ∧
      Only [F.TSK_EFC_ST_CODE, F.TSK_STAT_EFC_RAIL] (fun x => { x with tsk := { x.tsk with
        efcSum := 0, efcTicks := 0
        integ := s.tsk.integ + ((c - cur) * s.getI F.TSK_EFC_GAIN_GAIN : Int) * 1000000000 / 2 ^ 64 } }) s t) ∧
  (∀ s : State, s.get F.TSK_EFC_CFG_MODE ≠ 0 → s.engQuenched 11 = false → s.get F.TSK_EFC_CFG_PERIOD * 1000 ≤ s.tsk.efcTicks →
    s.get F.TSK_STAT_STATE = 3 → s.get F.TSK_STAT_HOLD_ACT = 2 → s.getI F.TSK_EFC_GAIN_GAIN ≠ 0 →
    let code : Int := (s.tsk.holdCode : Int) - roundRat (s.modelTerm * 256 / s.getI F.TSK_EFC_GAIN_GAIN)
    let c := clampI (s.get F.TSK_EFC_LIM_CODE_MIN) (s.get F.TSK_EFC_LIM_CODE_MAX) code
    Does .efcTransfer s fun t =>
      t.get F.TSK_EFC_ST_CODE = c.toNat % 2 ^ 24 ∧ t.get F.TSK_EFC_ST_RAIL = (if c ≠ code then 1 else 0) ∧
      t.tsk.efcSum = 0 ∧ t.tsk.efcTicks = 0)

/-! ## Observation (R448 to R453) -/

/-- R448, R452: a write to a sampling slot or to the trace configuration is held; a slot that was or becomes enabled counts
from 0. -/
def Sys2Proof.Claims.ObservationConfig : Prop :=
  (∀ s j v, s.pow.held = false → j < 8 →
    Does (.obsSmpCfgWrite j 0 v) s fun t =>
      t.get (F.OBS_SMP_CFG_CNT j) = v % 2 ^ 11 ∧ t.on (F.OBS_SMP_CFG_EN j) = bitOf v 11 ∧
      (t.slot j).cnt = (if s.on (F.OBS_SMP_CFG_EN j) || bitOf v 11 then 0 else (s.slot j).cnt) ∧
      Only [F.OBS_SMP_CFG_CNT j] id s t) ∧
  (∀ s j v, s.pow.held = false → j < 8 → v % 2 ^ 32 ≠ 0 →
    Does (.obsSmpCfgWrite j 1 v) s fun t =>
      t.get (F.OBS_SMP_CFG_N j) = v % 2 ^ 32 ∧
      (t.slot j).cnt = (if s.on (F.OBS_SMP_CFG_EN j) then 0 else (s.slot j).cnt) ∧ Only [F.OBS_SMP_CFG_N j] id s t) ∧
  (∀ s v, s.pow.held = false → 16 ≤ bitsOf v 2 5 → bitsOf v 2 5 ≤ 30 →
    (s.on F.OBS_TRC_CFG_DRAM_EN = true → bitsOf v 2 5 = s.get F.OBS_TRC_CFG_LOG2) →
    Does (.obsTrcCfgWrite 0 v) s fun t =>
      t.on F.OBS_TRC_CFG_DRAM_EN = bitOf v 0 ∧ t.on F.OBS_TRC_CFG_PIN_EN = bitOf v 1 ∧ t.get F.OBS_TRC_CFG_LOG2 = bitsOf v 2 5 ∧
      (bitOf v 1 = false → t.obs.pin = []) ∧
      (bitOf v 0 = true → s.on F.OBS_TRC_CFG_DRAM_EN = false → t.obs.ring = [] ∧ t.obs.head = 0 ∧ t.get F.OBS_TRC_RDPTR_RDPTR = 0) ∧
      Only [F.OBS_TRC_CFG_DRAM_EN, F.OBS_TRC_RDPTR_RDPTR] id s t) ∧
  (∀ s v, s.pow.held = false →
    Does (.obsTrcCfgWrite 1 v) s fun t => t.get F.OBS_TRC_CFG_TYPES = v % 2 ^ 32 ∧ Only [F.OBS_TRC_CFG_TYPES] id s t) ∧
  (∀ s v, s.pow.held = false → s.on F.OBS_TRC_CFG_DRAM_EN = false →
    (Does (.obsTrcCfgWrite 2 v) s fun t =>
      t.get F.OBS_TRC_BASE_BASE % 2 ^ 32 = v % 2 ^ 32 ∧ t.get F.OBS_TRC_BASE_BASE / 2 ^ 32 = s.get F.OBS_TRC_BASE_BASE / 2 ^ 32 ∧
      Only [F.OBS_TRC_BASE_BASE] id s t) ∧
    (Does (.obsTrcCfgWrite 3 v) s fun t =>
      t.get F.OBS_TRC_BASE_BASE / 2 ^ 32 = v % 2 ^ 32 ∧ t.get F.OBS_TRC_BASE_BASE % 2 ^ 32 = s.get F.OBS_TRC_BASE_BASE % 2 ^ 32 ∧
      Only [F.OBS_TRC_BASE_BASE] id s t))

/-- R451 to R453: the oldest staged record goes to the ring, over the oldest one there once it is full, and to the pins; the
oldest pin record leaves on the pins; a GAP stands in place of the records lost, with its count; a report of losses is
written. -/
def Sys2Proof.Claims.TraceMovement : Prop :=
  (∀ (s : State) r l, s.obs.stage = r :: l → s.trcPasses r = true →
    Does .traceDramWrite s fun t =>
      (∃ more, t.obs.stage = l ++ more) ∧
      (s.on F.OBS_TRC_CFG_DRAM_EN = true →
        t.obs.ring = ((s.obs.head, r) :: s.obs.ring).take s.ringRoom ∧ t.obs.head = s.obs.head + 1) ∧
      (s.on F.OBS_TRC_CFG_PIN_EN = true → s.obs.pinLoss = none → s.obs.pin.length < 4096 → t.obs.pin = s.obs.pin ++ [r]) ∧
      Only [] id s t) ∧
  (∀ (s : State) r l, s.obs.pin = r :: l → s.on F.OBS_TRC_CFG_PIN_EN = true →
    Does .tracePinSend s fun t => t.obs.pin = l ∧ Sends t (.tracePin (State.pinFrame r)) ∧ Only [] id s t) ∧
  (∀ (s : State) q n, s.obs.pinLoss = some (q, n) → s.obs.pin.length ≤ 4080 →
    Does (.traceGapEnter true) s fun t =>
      t = { s with obs := { s.obs with pin := s.obs.pin ++ [s.gapRec q n 1], pinLoss := none } }) ∧
  (∀ (s : State) q n, s.obs.stageLoss = some (q, n) → s.obs.stage.length ≤ 1008 →
    Does (.traceGapEnter false) s fun t =>
      t = { s with obs := { s.obs with stage := s.obs.stage ++ [s.gapRec q n 0], stageLoss := none } }) ∧
  (∀ s : State, s.obs.unreported ≠ 0 → s.obs.reportAt = none →
    Does .traceLossReport s fun t =>
      t.obs.reportAt = some s.ns ∧ Reports s t 0 0x39 0 (pay [(20, 4, satN 32 s.obs.unreported)]) ∧ Only [] id s t)

/-- R448, R452: a write to a sampling slot or to the trace configuration is held; a slot that was or becomes enabled counts
from 0.
R451 to R453: the oldest staged record goes to the ring, over the oldest one there once it is full, and to the pins; the
oldest pin record leaves on the pins; a GAP stands in place of the records lost, with its count; a report of losses is
written. -/
def Obligations.Observation : Prop := ObservationConfig ∧ TraceMovement

/-! ## Rings and functions (R355 to R382, R495) -/

namespace Sys2Proof.Claims

/-- Function fn reaches its ring registers: the part runs, the function exists, is not quenched and not inert. -/
def Reaches (s : State) (fn : Nat) : Prop :=
  s.pow.held = false ∧ s.fnExists fn = true ∧ (s.fn fn).quenched = false ∧ s.inert fn = false

/-- Function fn may fetch: its command ring is enabled, Bus Master Enable is set, and a descriptor is available. -/
def Fetches (s : State) (fn : Nat) : Prop :=
  s.fnExists fn = true ∧ s.on (F.HIF_RING_CMD_EN.on fn) = true ∧ (s.fn fn).bme = true ∧ (s.fn fn).fetched < (s.fn fn).avail ∧
    s.inert fn = false

/-- Descriptor d has joined function f's commands at the next position, with its TAG in the window of 256 (R371, R375). -/
def queued (f : FnSt) (d : Desc) (started : Bool) (done : Option (Nat × Nat)) (bucket at_ : Nat) : FnSt :=
  { f with
    cmds := f.cmds ++ [⟨f.fetched, d, started, false, done, none⟩], tags := (⟨f.fetched, d.tag, done⟩ :: f.tags).take 256
    fetched := f.fetched + 1, bucket := bucket, bucketAt := at_ }

/-- Function fn has its next record written to its event ring: it has left at the ring's next place, and head and sequence
number have advanced (R376). -/
def EventLeaves (s t : State) (fn : Nat) (r : EvRec) : Prop :=
  let depth := 2 ^ s.get (F.HIF_RING_EV_LOG2.on fn)
  let p := (s.fn fn).evPos
  Sends t (.evRec fn (s.get (F.HIF_RING_EV_BASE.on fn) + 32 * (p % depth)) (s.get (F.HIF_RING_EV_SEQ.on fn)) (p / depth % 2 = 0) r) ∧
    t.get (F.HIF_RING_EV_HEAD.on fn) = (s.get (F.HIF_RING_EV_HEAD.on fn) + 1) % 2 ^ 17 ∧
    t.get (F.HIF_RING_EV_SEQ.on fn) = (s.get (F.HIF_RING_EV_SEQ.on fn) + 1) % 2 ^ 32 ∧ (t.fn fn).evPos = p + 1 ∧
    Only [F.HIF_RING_EV_HEAD.on fn, F.HIF_RING_EV_SEQ.on fn] id s t

end Sys2Proof.Claims

/-- R371, R358: a CMD_TAIL write makes descriptors available while no more are pending than the ring holds, and else is
dropped; descriptors made available while the function is not enabled flush. -/
def Sys2Proof.Claims.CommandDoorbell : Prop :=
  ∀ s fn tail, Reaches s fn →
    let f := s.fn fn
    let avail := f.avail + (tail % 2 ^ 16 + 2 ^ 16 - f.avail % 2 ^ 16) % 2 ^ 16
    (avail - f.cpl ≤ 2 ^ s.get (F.HIF_RING_CMD_LOG2.on fn) →
      Does (.cmdDoorbell fn tail) s fun t =>
        t.fn fn = { f with avail := avail, flushTo := if fn ≠ 0 ∧ f.bme ∧ s.fnEnabled fn = false then avail else f.flushTo } ∧
        t.get (F.HIF_RING_CMD_TAIL.on fn) = tail % 2 ^ 16 ∧ Only [F.HIF_RING_CMD_TAIL.on fn] id s t) ∧
    (2 ^ s.get (F.HIF_RING_CMD_LOG2.on fn) < avail - f.cpl →
      Does (.cmdDoorbell fn tail) s fun t =>
        (t.fn fn).avail = f.avail ∧ (t.fn fn).flushTo = f.flushTo ∧ t.on F.SYS_ACC_ERR_VALID = true ∧
        Only [F.SYS_ACC_ERR_KIND, F.SYS_ACC_ERR_ADDR, F.SYS_ACC_ERR_KIND.on fn, F.SYS_ACC_ERR_ADDR.on fn] id s t)

/-- R371 to R375, R388: a fetched descriptor starts in turn, pays one token of its tenant's bucket, and holds its TAG; one
that was available at a quench completes with QUENCHED; one with an unknown opcode completes with BAD_OPCODE. -/
def Sys2Proof.Claims.CommandFetch : Prop :=
  (∀ s d, Fetches s 0 → (s.fn 0).qTail ≤ (s.fn 0).fetched → (s.fn 0).quenched = false → s.feat 13 = false →
    State.refusal 0 d = none → s.badRange d = false →
    Does (.cmdFetch 0 d) s fun t =>
      t.fn 0 = queued (s.fn 0) d true none (s.fn 0).bucket (s.fn 0).bucketAt ∧
      t.get (F.HIF_RING_CMD_HEAD.on 0) = ((s.fn 0).fetched + 1) % 2 ^ 16 ∧ Only [F.HIF_RING_CMD_HEAD.on 0] id s t) ∧
  (∀ s fn d, fn ≠ 0 → Fetches s fn → (s.fn fn).qTail ≤ (s.fn fn).fetched → (s.fn fn).quenched = false →
    (s.fn fn).flushTo ≤ (s.fn fn).fetched → s.fnEnabled fn = true → 1000000 ≤ s.bucketNow fn (s.recTenant fn) →
    s.get (F.TEN_CMD_RATE_RATE (s.recTenant fn)) ≠ 0 → (s.fn fn).tags = [] → State.refusal fn d = none → s.badRange d = false →
    Does (.cmdFetch fn d) s fun t =>
      t.fn fn = queued (s.fn fn) d true none (s.bucketNow fn (s.recTenant fn) - 1000000) s.ns ∧
      t.get (F.HIF_RING_CMD_HEAD.on fn) = ((s.fn fn).fetched + 1) % 2 ^ 16 ∧ Only [F.HIF_RING_CMD_HEAD.on fn] id s t) ∧
  (∀ s fn d, Fetches s fn → (s.fn fn).fetched < (s.fn fn).qTail →
    Does (.cmdFetch fn d) s fun t =>
      t.fn fn = queued (s.fn fn) d false (some (4, 0)) (s.fn fn).bucket (s.fn fn).bucketAt ∧
      Only [F.HIF_RING_CMD_HEAD.on fn] id s t) ∧
  (∀ s d, Fetches s 0 → (s.fn 0).qTail ≤ (s.fn 0).fetched → (s.fn 0).quenched = false → s.feat 13 = false →
    d.opcode ∉ [0, 0x701, 0x801, 0x802, 0x901, 0x902, 0x903, 0x904] →
    Does (.cmdFetch 0 d) s fun t =>
      t.fn 0 = queued (s.fn 0) d false (some (1, 0)) (s.fn 0).bucket (s.fn 0).bucketAt ∧ Only [F.HIF_RING_CMD_HEAD.on 0] id s t)

/-- R371, R358: a CMD_TAIL write makes descriptors available while no more are pending than the ring holds, and else is
dropped; descriptors made available while the function is not enabled flush.
R371 to R375, R388: a fetched descriptor starts in turn, pays one token of its tenant's bucket, and holds its TAG; one
that was available at a quench completes with QUENCHED; one with an unknown opcode completes with BAD_OPCODE. -/
def Obligations.CommandIntake : Prop := CommandDoorbell ∧ CommandFetch

/-- R372, R373: a NOP finishes with OK; the completion of the oldest command leaves once that command has finished, at its
place in the ring with the phase of its lap, and CPL_COUNT follows it. -/
def Obligations.CommandCompletion : Prop :=
  (∀ s fn c, s.cmdOf fn 0 = some c →
    Does (.nop fn) s fun t =>
      (∀ x ∈ (t.fn fn).cmds, x.n = c.n → x.done = some (0, 0)) ∧ (t.fn fn).cmds.length = (s.fn fn).cmds.length ∧
      (∀ x ∈ (s.fn fn).cmds, x.n ≠ c.n → x.dupOf ≠ some c.n → x ∈ (t.fn fn).cmds) ∧
      (∀ n, n ≠ fn → t.fn n = s.fn n) ∧ Only [] id s t) ∧
  (∀ s fn c rest status result, (s.fn fn).cmds = c :: rest → c.done = some (status, result) →
    let depth := 2 ^ s.get (F.HIF_RING_CMD_LOG2.on fn)
    Does (.cmdCompletionWrite fn) s fun t =>
      (t.fn fn).cmds = rest ∧ (t.fn fn).cpl = c.n + 1 ∧ t.get (F.HIF_RING_CPL_COUNT.on fn) = (c.n + 1) % 2 ^ 16 ∧
      Sends t (.completion fn (s.get (F.HIF_RING_CPL_BASE.on fn) + 16 * (c.n % depth)) c.d.tag status (c.n / depth % 2 = 0)
        c.dupOf.isSome (c.n % 2 ^ 32) result) ∧
      Only [F.HIF_RING_CPL_COUNT.on fn] id s t)

/-- R371, R376: ring configuration is held while its ring is disabled; enabling a ring returns its indices to 0; EV_TAIL
follows the host up to EV_HEAD, and a write that passes EV_HEAD is dropped. -/
def Obligations.RingConfiguration : Prop :=
  (∀ s fn w v, Reaches s fn → (w ∈ [0, 1, 5, 6] ∧ s.on (F.HIF_RING_CMD_EN.on fn) = false ∨
      w ∈ [8, 9] ∧ s.on (F.HIF_RING_EV_EN.on fn) = false) →
    Does (.ringConfigWrite fn w v) s fun t =>
      t.get ((⟨0xB01000 + 4 * w, 0, 32⟩ : Fld).on fn) = v % 2 ^ 32 ∧ Only [(⟨0xB01000 + 4 * w, 0, 32⟩ : Fld).on fn] id s t) ∧
  (∀ s fn v, Reaches s fn → s.on (F.HIF_RING_CMD_EN.on fn) = false → 4 ≤ bitsOf v 0 4 → bitsOf v 0 4 ≤ 12 → bitOf v 8 = true →
    Does (.ringConfigWrite fn 2 v) s fun t =>
      t.get (F.HIF_RING_CMD_LOG2.on fn) = bitsOf v 0 4 ∧ t.on (F.HIF_RING_CMD_EN.on fn) = true ∧
      t.get (F.HIF_RING_CMD_TAIL.on fn) = 0 ∧ t.get (F.HIF_RING_CMD_HEAD.on fn) = 0 ∧ t.get (F.HIF_RING_CPL_COUNT.on fn) = 0 ∧
      (t.fn fn).fetched = 0 ∧ (t.fn fn).avail = 0 ∧ (t.fn fn).cpl = 0 ∧ (t.fn fn).tags = [] ∧
      Only [F.HIF_RING_CMD_LOG2.on fn, F.HIF_RING_CMD_TAIL.on fn, F.HIF_RING_CMD_HEAD.on fn] id s t) ∧
  (∀ s fn v, fn ≠ 0 → Reaches s fn → s.on (F.HIF_RING_EV_EN.on fn) = false → 4 ≤ bitsOf v 0 5 → bitsOf v 0 5 ≤ 16 →
    bitOf v 8 = true →
    Does (.ringConfigWrite fn 10 v) s fun t =>
      t.get (F.HIF_RING_EV_LOG2.on fn) = bitsOf v 0 5 ∧ t.on (F.HIF_RING_EV_EN.on fn) = true ∧
      t.get (F.HIF_RING_EV_MOD.on fn) = bitsOf v 16 16 ∧ t.get (F.HIF_RING_EV_HEAD.on fn) = 0 ∧
      t.get (F.HIF_RING_EV_TAIL.on fn) = 0 ∧
      Only [F.HIF_RING_EV_LOG2.on fn, F.HIF_RING_EV_TAIL.on fn, F.HIF_RING_EV_HEAD.on fn] id s t) ∧
  (∀ s fn v, Reaches s fn →
    let gap (x : Nat) := (x + 2 ^ 17 - s.get (F.HIF_RING_EV_TAIL.on fn)) % 2 ^ 17
    gap (v % 2 ^ 17) ≤ gap (s.get (F.HIF_RING_EV_HEAD.on fn)) →
    Does (.evTailWrite fn v) s fun t =>
      t.get (F.HIF_RING_EV_TAIL.on fn) = v % 2 ^ 17 ∧ Only [F.HIF_RING_EV_TAIL.on fn] id s t) ∧
  (∀ s fn v, Reaches s fn →
    let gap (x : Nat) := (x + 2 ^ 17 - s.get (F.HIF_RING_EV_TAIL.on fn)) % 2 ^ 17
    gap (s.get (F.HIF_RING_EV_HEAD.on fn)) < gap (v % 2 ^ 17) →
    Does (.evTailWrite fn v) s fun t => t.get (F.HIF_RING_EV_TAIL.on fn) = s.get (F.HIF_RING_EV_TAIL.on fn))

/-- R376 to R378, R382: the oldest staged record goes to an enabled ring with room, and else into a run of discards, whose
OVERFLOW record follows once there is room; a FIFO that lost events records them once it has room; pending counts become
summary records; a record written in the vector 0 hold-off is signalled at its end. -/
def Obligations.EventRing : Prop :=
  (∀ s fn r rest, (s.fn fn).fifo = r :: rest → s.evOn fn = true → s.evRoom fn = true → (s.fn fn).ringLoss = none →
    ¬(fn = 0 ∧ s.hif.bootRecs ≠ []) →
    Does (.eventWrite fn) s fun t => EventLeaves s t fn r ∧ (∃ more, (t.fn fn).fifo = rest ++ more) ∧ (t.fn fn).ringLoss = none) ∧
  (∀ s fn r rest, (s.fn fn).fifo = r :: rest → s.evOn fn = false → (s.fn fn).ringLoss = none →
    Does (.eventWrite fn) s fun t =>
      (t.fn fn).fifo = rest ∧ (t.fn fn).ringLoss = some ⟨State.evWeight r, true, r.short, r.frac⟩ ∧ Only [] id s t) ∧
  (∀ s fn l, (s.fn fn).ringLoss = some l → s.evOn fn = true → s.evRoom fn = true → ¬(fn = 0 ∧ s.hif.bootRecs ≠ []) →
    Does (.ringOverflowRecord fn) s fun t =>
      EventLeaves s t fn (s.overflowRec (s.recTenant fn) l (if l.disabled then 2 else 0)) ∧ (t.fn fn).ringLoss = none) ∧
  (∀ s fn l, (s.fn fn).fifoLoss = some l → (s.fn fn).fifo.length < 512 →
    Does (.fifoOverflowRecord fn) s fun t =>
      t.fn fn = { s.fn fn with fifo := (s.fn fn).fifo ++ [s.overflowRec (s.recTenant fn) l 1], fifoLoss := none } ∧
      (∀ n, n ≠ fn → t.fn n = s.fn n) ∧ Only [] id s t) ∧
  (∀ s fn, (s.fn fn).fifo.length ≤ 256 →
    Does (.eventSummary fn) s fun t =>
      t.fn fn = { s.fn fn with fifo := (s.fn fn).fifo ++ (s.fn fn).coal.map (s.summaryRec (s.recTenant fn)), coal := [] } ∧
      (∀ n, n ≠ fn → t.fn n = s.fn n) ∧ Only [] id s t) ∧
  (∀ s fn, (s.fn fn).holdRec = true → s.time.running = true →
    s.get (F.HIF_RING_EV_HEAD.on fn) ≠ s.get (F.HIF_RING_EV_TAIL.on fn) →
    Does (.msixEventHoldoffEnd fn) s fun t =>
      t.time = (s.runTo (s.fn fn).holdEnd).time ∧ Sends t (.msix fn 0) ∧ (t.fn fn).holdRec = false ∧
      (t.fn fn).holdEnd = t.ns + 1000 * s.get (F.HIF_RING_EV_MOD.on fn) ∧ SameRegs [] s t) ∧
  (∀ s : State, s.obs.smpPend = true → s.time.running = true → s.obs.smpEnd ≤ (s.runTo s.obs.smpEnd).ns →
    Does .msixSampleHoldoffEnd s fun t => Sends t (.msix 0 2) ∧ t.obs.smpPend = false ∧ t.time = (s.runTo s.obs.smpEnd).time ∧ SameRegs [] s t)

/-- R368: FEATURES_OK takes the accepted set into force if every check passes, and else answers the reason and the bit of the
first that fails. -/
def Sys2Proof.Claims.FeatureNegotiation : Prop :=
  (∀ s : State, s.pow.held = false → 2 ≤ s.get F.SYS_BOOT_ST_STATE → s.featFails (s.get F.HIF_FEAT_ACCEPT_ACCEPT) = none →
    Does .featuresOk s fun t =>
      t.hif.feats = s.get F.HIF_FEAT_ACCEPT_ACCEPT ∧ t.hif.accepted = true ∧ t.get F.HIF_FEAT_ST_STATE = 1 ∧
      t.get F.HIF_FEAT_ST_REASON = 0 ∧ t.get F.HIF_FEAT_ST_BIT = 0) ∧
  (∀ s r b, s.pow.held = false → 2 ≤ s.get F.SYS_BOOT_ST_STATE → s.featFails (s.get F.HIF_FEAT_ACCEPT_ACCEPT) = some (r, b) →
    Does .featuresOk s fun t =>
      t.get F.HIF_FEAT_ST_STATE = 2 ∧ t.get F.HIF_FEAT_ST_REASON = r % 8 ∧ t.get F.HIF_FEAT_ST_BIT = b % 128 ∧
      Only [F.HIF_FEAT_ST_STATE] id s t)

/-- R358, R238, R495: a tenant is enabled by TEN_CTL.EN together with Bus Master Enable; clearing either deletes its scheduler
entries; a cleared Bus Master Enable consumes the positions of what was not completed; an FLR resets one function, and VF
Enable cleared resets every VF. -/
def Sys2Proof.Claims.FunctionEnables : Prop :=
  (∀ (s : State) k en, s.pow.held = false → 1 ≤ k → k < 1024 → s.tenantPresent k = true → s.fnOf k ≠ 0 →
    s.tenantOf (s.fnOf k) = some k →
    Does (.tenCtlWrite k en) s fun t =>
      t.on (F.TEN_CTL_EN k) = en ∧ t.on (F.TEN_ST_ENABLED k) = ((s.fn (s.fnOf k)).bme && en) ∧
      t.sch.ents = (if s.on (F.TEN_CTL_EN k) && !en then s.sch.ents.filter (fun p => p.2.owner ≠ k) else s.sch.ents) ∧
      SameRegs (words [F.TEN_CTL_EN k, F.TEN_ST_ENABLED k, F.SCH_LATE_ST_SKIPPED, F.SCH_LATE_ST_DROPPED]) s t) ∧
  (∀ s fn, s.pow.held = false → s.fnExists fn = true →
    Does (.busMasterSet fn) s fun t =>
      t.fn fn = { s.fn fn with bme := true } ∧ (∀ n, n ≠ fn → t.fn n = s.fn n) ∧
      Only [F.TEN_ST_ENABLED (if fn = 0 then 0 else s.recTenant fn)] id s t) ∧
  (∀ s fn k, s.pow.held = false → s.fnExists fn = true → (s.fn fn).bme = true → fn ≠ 0 → s.tenantOf fn = some k → 1 ≤ k → k < 1024 →
    Does (.busMasterClear fn) s fun t =>
      (t.fn fn).bme = false ∧ (t.fn fn).cmds = [] ∧ (t.fn fn).fetched = (s.fn fn).avail ∧ (t.fn fn).cpl = (s.fn fn).avail ∧
      t.get (F.HIF_RING_CMD_HEAD.on fn) = (s.fn fn).avail % 2 ^ 16 ∧ t.get (F.HIF_RING_CPL_COUNT.on fn) = (s.fn fn).avail % 2 ^ 16 ∧
      t.sch.ents = s.sch.ents.filter (fun p => p.2.owner ≠ k) ∧
      SameRegs (words [F.HIF_RING_CMD_HEAD.on fn, F.TEN_ST_ENABLED k, F.SCH_LATE_ST_SKIPPED, F.SCH_LATE_ST_DROPPED]) s t) ∧
  (∀ s fn k, s.pow.held = false → s.fnExists fn = true → fn ≠ 0 → s.tenantOf fn = some k → 1 ≤ k → k < 1024 → s.str.defaults = [] →
    Does (.flr fn) s fun t =>
      (t.fn fn).bme = false ∧ (t.fn fn).cmds = [] ∧ (t.fn fn).fifo = [] ∧ (t.fn fn).quenched = (s.fn fn).quenched ∧
      (∀ n, n ≠ fn → t.fn n = s.fn n) ∧ t.sch.ents = s.sch.ents.filter (fun p => p.2.owner ≠ k) ∧
      (∀ w, w < 16 → t.regs.word (0xB01000 + 4 * w + fnBase fn) = resetWord (0xB01000 + 4 * w + fnBase fn))) ∧
  (∀ s : State, s.pow.held = false →
    Does .vfEnableClear s fun t =>
      t.hif.vfEnable = false ∧ t.fn 0 = s.fn 0 ∧
      (∀ n, 1 ≤ n → n < (if s.part.small then 256 else 1024) →
        (t.fn n).bme = false ∧ (t.fn n).cmds = [] ∧ (t.fn n).fifo = [] ∧ (t.fn n).quenched = (s.fn n).quenched))

/-- R368: FEATURES_OK takes the accepted set into force if every check passes, and else answers the reason and the bit of the
first that fails.
R358, R238, R495: a tenant is enabled by TEN_CTL.EN together with Bus Master Enable; clearing either deletes its scheduler
entries; a cleared Bus Master Enable consumes the positions of what was not completed; an FLR resets one function, and VF
Enable cleared resets every VF. -/
def Obligations.FeaturesAndEnables : Prop := FeatureNegotiation ∧ FunctionEnables

/-! ## Registers as the functions reach them (R360 to R367) -/

/-- R363, R361: a provider write to a shadowed word changes its shadow alone, through its alias, and no live word. -/
def Sys2Proof.Claims.ShadowWrite : Prop :=
  ∀ s off v d i j w a x, s.pow.held = false → off % 4 = 0 → provPlace off = .reg d i j w a → absentReg s.part d i = false →
    State.hiddenEng d i = false → d.words[w]? = some x → x.rws ≠ 0 → x.rw = 0 → x.rwv = 0 → x.rwp = 0 → x.w1 = 0 →
    d.id ∉ [.SCH_STG, .SCH_CMD, .ASY_SRC_CFG, .SYS_UPD_STROBE] → perFn a = false →
    let new := aliasVal (aliasOf off) (s.shadowWord a).toNat (v % 2 ^ 32) x.rws
    Does (.regWrite 0 off 4 v true) s fun t =>
      Only [] (fun y => { y.noteShadow a with pend := alSet s.pend a (BitVec.ofNat 32 new) }) s t

/-- R366, R367, R360: a write to a reserved offset is dropped and flagged RESERVED with its address; a tenant's write to a
reserved offset of its window quenches it. -/
def Obligations.AccessViolations : Prop :=
  (∀ s off v, s.pow.held = false → off % 4 = 0 → off < 2 ^ 25 → provPlace off = .reserved →
    Does (.regWrite 0 off 4 v true) s fun t =>
      t.on F.SYS_ACC_ERR_VALID = true ∧ t.get F.SYS_ACC_ERR_COUNT = satN 16 (s.get F.SYS_ACC_ERR_COUNT + 1) ∧
      (s.on F.SYS_ACC_ERR_VALID = false →
        t.get F.SYS_ACC_ERR_KIND = 9 ∧ t.on F.SYS_ACC_ERR_WRITE = true ∧ t.get F.SYS_ACC_ERR_FUNC = 0 ∧
        t.get F.SYS_ACC_ERR_ADDR = off) ∧
      (s.on F.SYS_ACC_ERR_VALID = true → t.get F.SYS_ACC_ERR_ADDR = s.get F.SYS_ACC_ERR_ADDR) ∧
      Only [F.SYS_ACC_ERR_KIND, F.SYS_ACC_ERR_ADDR] id s t) ∧
  (∀ s fn off n v contig, Reaches s fn → fn ≠ 0 → State.tenReserved off n = true →
    Does (.regWrite fn off n v contig) s fun t =>
      (t.fn fn).quenched = true ∧ (t.fn fn).qTail = (s.fn fn).avail ∧ t.get (F.TEN_ST_QUENCHED (s.recTenant fn)) = 1 ∧
      Only [F.TEN_ST_QUENCHED (s.recTenant fn)] id s t)

/-- R360, R362, R17, R65, R445, R452: a read returns the word as the function sees it; a read of an RC word returns it and
clears its RC bits; ENG_DM_DATA returns a word of data memory and moves on; a counter's read latches its short time; a trace
record is read from the window in order; a snapshot is latched by the read of its nanoseconds. -/
def Obligations.RegisterReads : Prop :=
  (∀ s off d i j w a, s.pow.held = false → off % 4 = 0 → provPlace off = .reg d i j w a → sideOf d w = 0 →
    Does (.regRead 0 off 4 true) s fun t => t = s.emitOut (.readData 0 off 32 (s.wordAt 0 d i j w a))) ∧
  (∀ s off d i j w a x, s.pow.held = false → off % 4 = 0 → aliasOf off = 0 → provPlace off = .reg d i j w a → sideOf d w = 1 →
    d.wide = false → d.words[w]? = some x → absentReg s.part d i = false → State.hiddenEng d i = false → d.id ≠ .SYS_PD_FAULT →
    perFn a = false →
    Does (.rcRead 0 off 4) s fun t =>
      Sends t (.readData 0 off 32 (s.wordAt 0 d i j w a)) ∧
      (t.regs.word a).toNat = Nat.land (s.regs.word a).toNat (2 ^ 32 - 1 - x.rc) ∧ Only [⟨a, 0, 32⟩] id s t) ∧
  (∀ s e, s.pow.held = false → e < 17 → s.engPresent e = true →
    Does (.engDmRead e) s fun t =>
      Sends t (.readData 0 (F.ENG_DM_DATA_DATA e).a 32 (Mem.read (s.engine e).dm (4 * s.get (F.ENG_DM_ADDR_WORD e)) 4)) ∧
      t.get (F.ENG_DM_ADDR_WORD e) = (s.get (F.ENG_DM_ADDR_WORD e) + 1) % 2 ^ 12 ∧ Only [F.ENG_DM_ADDR_WORD e] id s t) ∧
  (∀ s k, s.pow.held = false → k < 2048 →
    Does (.counterRead 0 (F.OBS_CNT_COUNT k).a) s fun t =>
      Sends t (.readData 0 (F.OBS_CNT_COUNT k).a 64 (s.counter k % 2 ^ 64)) ∧ t.get (F.OBS_LAST_T_SHORT.on 0) = s.short ∧
      Only [F.OBS_LAST_T_SHORT.on 0] id s t) ∧
  (∀ s off behind p, s.pow.held = false → off % 32 = 0 →
    behind = (s.obs.head + 2 ^ 32 - s.get F.OBS_TRC_RDPTR_RDPTR) % 2 ^ 32 → 1 ≤ behind → behind ≤ s.obs.ring.length →
    s.obs.ring[behind - 1]? = some p →
    Does (.traceWinRead off 32 []) s fun t =>
      Sends t (.readData 0 (0xD10000 + off % 0x1000) 256 (State.packTrc p.2)) ∧
      t.get F.OBS_TRC_RDPTR_RDPTR = (s.get F.OBS_TRC_RDPTR_RDPTR + 1) % 2 ^ 32 ∧ Only [F.OBS_TRC_RDPTR_RDPTR] id s t) ∧
  (∀ s, s.pow.held = false →
    Does (.snapshotLatch 0 4) s fun t =>
      t.get (F.TSK_SNAP_NS_NS.on 0) = s.ns % 1000000000 ∧
      t.get (F.TSK_SNAP_SEC_LO_SEC_LO.on 0) = s.ns / 1000000000 % 2 ^ 32 ∧
      t.get (F.TSK_SNAP_SEC_HI_SEC_HI.on 0) = s.ns / 1000000000 / 2 ^ 32 % 2 ^ 16 ∧ t.get (F.TSK_SNAP_SEC_HI_FRAC.on 0) = s.frac ∧
      t.get (F.TSK_SNAP_TEB_HI_SRC_TAG.on 0) = s.get F.TSK_TEB_SRC_TAG ∧
      t.on (F.TSK_SNAP_CAL_TIME_PROVISIONAL.on 0) = s.prov ∧ (t.fn 0).snapped = true ∧ t.time = s.time)

/-! ## Date, leap seconds (R54 to R64) -/

/-- R62 to R64: a GO answers the code of its checks and, where they pass, a date is pending; its load at a boundary moves the
core to it and ends provisional time; a date that waits for a mark times out 2 s after its GO. -/
def Sys2Proof.Claims.DateSetting : Prop :=
  (∀ s mark ch, s.pow.held = false → s.dateCheck mark = 1 →
    Does (.dateGo mark ch) s fun t =>
      t.get F.SYS_DATE_STAT_CODE = 1 ∧ t.get F.SYS_DATE_STAT_PENDING = 1 ∧
      t.tsk.date = some ⟨s.dateFields.1, s.dateFields.2.1, s.dateFields.2.2.1, s.dateFields.2.2.2, mark, ch % 16, none, s.ns, s.time.cyc⟩ ∧
      SameRegs (words [F.SYS_DATE_STAT_CODE, F.SYS_DATE_CTL_MARK]) s t) ∧
  (∀ s mark ch, s.pow.held = false → s.dateCheck mark ≠ 1 →
    Does (.dateGo mark ch) s fun t =>
      t.get F.SYS_DATE_STAT_CODE = s.dateCheck mark ∧ Only [F.SYS_DATE_STAT_CODE, F.SYS_DATE_CTL_MARK] id s t) ∧
  (∀ s d, s.tsk.date = some d → d.mark = false → d.edge = none → d.goCyc < s.time.cyc → s.atBoundary = true → s.prov = true →
    State.laterThan s.time.core (s.dateReading d) = true →
    Does .dateLoad s fun t =>
      t.time.core = s.dateReading d ∧ t.prov = false ∧ t.tsk.date = none ∧ t.get F.SYS_DATE_STAT_CODE = 1 ∧
      t.get F.SYS_DATE_STAT_PENDING = 0 ∧
      ((∀ p ∈ s.sch.ents, p.2.action ≠ 1) → t.time.tickAt = State.tickAfter (ceilDiv (s.dateReading d) (2 ^ 56)))) ∧
  (∀ s d, s.tsk.date = some d → d.mark = false → d.goCyc < s.time.cyc → s.atBoundary = true → s.prov = false →
    Does .dateLoad s fun t =>
      t.tsk.date = none ∧ t.get F.SYS_DATE_STAT_CODE = 3 ∧ t.get F.SYS_DATE_STAT_PENDING = 0 ∧ t.time = s.time) ∧
  (∀ s d, s.tsk.date = some d → d.mark = true → d.edge = none → s.time.running = true →
    Does .markTimeout s fun t =>
      t.get F.SYS_DATE_STAT_CODE = 6 ∧ t.get F.SYS_DATE_STAT_PENDING = 0 ∧
      Only [F.SYS_DATE_STAT_CODE] (fun x => { x with
        tsk := { x.tsk with date := none }, time := (s.runTo (d.goAt + 2000000000)).time }) s t)

/-- R54, R56: COMMIT answers the code of its checks, and an accepted table is pending; LEAP_EXPIRED is set once the UTC day of
a boundary lies past the expiry. -/
def Sys2Proof.Claims.LeapTable : Prop :=
  (∀ s code bad live, s.pow.held = false → s.leapCheck = (code, bad, live) → code < 8 → bad < 64 →
    Does .leapCommit s fun t =>
      t.get F.TSK_LEAP_STAT_CODE = code ∧ t.get F.TSK_LEAP_STAT_BAD_INDEX = bad ∧ t.on F.TSK_LEAP_STAT_IN_LIVE = live ∧
      (code = 1 → t.get F.TSK_LEAP_STAT_PENDING = 1 ∧ t.tsk.leapPend =
        some (((List.range 64).map s.stagedLeap).takeWhile (fun e => e.mjd ≠ 0), s.get F.TSK_LEAP_EXPIRY_EXP_MJD)) ∧
      (code ≠ 1 → t.tsk = s.tsk) ∧ SameRegs (words [F.TSK_LEAP_STAT_CODE]) s t) ∧
  (∀ s : State, s.tsk.leapExpired = false → (s.tsk.leapExp : Int) < s.utcMjd (s.tsk.bndNs * 65536) →
    Does .leapExpired s fun t =>
      t.get F.TSK_LEAP_STAT_EXPIRED = 1 ∧
      Only [F.TSK_LEAP_STAT_EXPIRED] (fun x => { x with tsk := { x.tsk with leapExpired := true } }) s t)

/-- R62 to R64: a GO answers the code of its checks and, where they pass, a date is pending; its load at a boundary moves the
core to it and ends provisional time; a date that waits for a mark times out 2 s after its GO.
R54, R56: COMMIT answers the code of its checks, and an accepted table is pending; LEAP_EXPIRED is set once the UTC day of
a boundary lies past the expiry. -/
def Obligations.DateAndLeap : Prop := DateSetting ∧ LeapTable

/-! ## Assay (R127 to R150), DRAM (R394, R395) -/

namespace Sys2Proof.Claims

/-- Counter i has counted n events. -/
def Counts (s t : State) (i n : Nat) : Prop := t.counter i = (s.counter i + n) % 2 ^ 64

/-- The timer of reference r in state st ends at the coming boundary, no anomaly fell in the tick, no LOSS falls at the boundary,
and no measurement waits. -/
def TimerEnds (s : State) (r st : Nat) : Prop :=
  s.time.running = true ∧ r < 36 ∧ s.refState r = st ∧ (s.ref r).timer ≤ 1 ∧ (s.ref r).fresh = false ∧
    s.quietTick r = true ∧ s.lossDue r s.time.tickAt = false ∧ s.asy.inbox = []

/-- Reference r has moved to a state at the boundary, with its timer; its record waits for its place in the boundary. -/
def RefMoved (s t : State) (r new timer : Nat) : Prop :=
  t.refState r = new ∧ (t.ref r).timer = timer ∧ t.get (F.ASY_REF_ST_TIMER r) = satN 30 timer ∧ (t.ref r).fresh = true ∧
    (t.ref r).due = some (s.refState r, new) ∧ t.time = (s.runTo s.time.tickAt).time ∧ SameRegs (words [F.ASY_REF_ST_STATE r, F.ASY_REF_ST_TIMER r]) s t

end Sys2Proof.Claims

/-- R139, R142: at the end of its timer a CANDIDATE with an accepted measurement whose source is present goes to PROBATION,
PROBATION goes to QUALIFIED with BACKOFF 0, and DISQUALIFIED goes to PROBATION. -/
def Sys2Proof.Claims.ReferenceTimers : Prop :=
  (∀ s r, TimerEnds s r 1 → s.lasting r s.time.tickNo = none → (s.ref r).accepted = true → s.absentAt r s.time.tickAt = false →
    Does (.entryTimerEnd r) s fun t => RefMoved s t r 2 (s.get F.ASY_DISC_CFG_WIN * 1000)) ∧
  (∀ s r, TimerEnds s r 2 → s.lasting r s.time.tickNo = none →
    Does (.probationEnd r) s fun t => RefMoved s t r 3 0 ∧ t.get (F.ASY_REF_ST_BACKOFF r) = 0) ∧
  (∀ s r, TimerEnds s r 4 → Does (.holdoffEnd r) s fun t => RefMoved s t r 2 (s.get F.ASY_DISC_CFG_WIN * 1000))

/-- R133, R138, R145, R146: a reference without a prediction accepts its first measurement; a measurement held for 2 s without
a successor is an OUTLIER of its own tick; an absent reference takes a LOSS each period; a windowed source without an
anomaly leaves FAULT, and its DRAM channel DEGRADED. -/
def Sys2Proof.Claims.AssayEvents : Prop :=
  (∀ (s : State) m l o, s.asy.inbox = m :: l → m.tick ≤ s.time.tickNo → s.refState m.ref ≠ 0 → s.unjudged m.ref = false → m.ref < 31 → m.off = some o → m.gate = none → m.tod = none →
    s.statusGated m.ref = false → s.tsk.stepTick ≠ some m.tick → s.trustedFor m.ref = [] → (s.ref m.ref).last = none →
    (s.ref m.ref).held = none →
    Does .asyMeasurement s fun t =>
      t.asy.inbox = l ∧ (t.ref m.ref).last = some (o, m.at_, m.tick) ∧ (t.ref m.ref).accepted = true ∧
      (t.ref m.ref).claim = m.claim ∧ (t.ref m.ref).parts = m.parts ∧ (t.ref m.ref).log = (s.ref m.ref).log) ∧
  (∀ s r e tick at_ off b, (s.ref r).held = some (e, tick, at_, off, b) → s.time.running = true → r < 36 → s.refState r ≠ 0 →
    Does (.heldMeasurementTimeout r) s fun t =>
      (t.ref r).held = none ∧ (3, tick) ∈ (t.ref r).log ∧ t.time = (s.runTo (at_ + 2000000000)).time ∧
      Counts s t (0x1C0 + 8 * r + 3) 1) ∧
  (∀ s r, s.time.running = true → r < 36 → s.refState r ≠ 0 → (s.ref r).absent = true → (s.ref r).nextLoss ≤ s.time.tickNo →
    s.absentAt r s.time.tickAt = true →
    Does (.lossRepeat r) s fun t =>
      (t.ref r).nextLoss = s.time.tickNo + s.lossPeriod ∧ (2, s.time.tickNo) ∈ (t.ref r).log ∧
      t.time = (s.runTo s.time.tickAt).time ∧ Counts s t (0x1C0 + 8 * r + 2) 1) ∧
  (∀ s i, s.time.running = true → i < 9 → s.on (F.ASY_SRC_ST_FAULT i) = true → s.get (F.ASY_SRC_ST_TIMER i) ≤ 1 →
    (∀ n ∈ (alGet s.asy.srcs i).getD [], n ≠ s.time.tickNo) →
    Does (.sourceFaultClear i) s fun t =>
      t.on (F.ASY_SRC_ST_FAULT i) = false ∧ t.get (F.ASY_SRC_ST_TIMER i) = 0 ∧ t.time = (s.runTo s.time.tickAt).time ∧
      t.asy.srcDue = i :: s.asy.srcDue ∧ (i = 1 ∨ i = 2 → t.get (F.HMK_DRAM_ST_DEGRADED (i - 1)) = 0))

/-- R139, R142: at the end of its timer a CANDIDATE with an accepted measurement whose source is present goes to PROBATION,
PROBATION goes to QUALIFIED with BACKOFF 0, and DISQUALIFIED goes to PROBATION.
R133, R138, R145, R146: a reference without a prediction accepts its first measurement; a measurement held for 2 s without
a successor is an OUTLIER of its own tick; an absent reference takes a LOSS each period; a windowed source without an
anomaly leaves FAULT, and its DRAM channel DEGRADED. -/
def Obligations.AssayTimersAndEvents : Prop := ReferenceTimers ∧ AssayEvents

/-- R394 to R396: a patrol read moves on; a corrected data bit and a check-bit error are counted and queue a scrub write, an
uncorrectable word is counted with its address, region and syndrome; a queued scrub is written back. -/
def Obligations.DramPatrol : Prop :=
  (∀ s chB region syn last entry, ∀ cls ∈ [0, 1, 2],
    let c := if chB then 1 else 0
    let a := (alGet s.dram.next c).getD 0
    s.on (F.HMK_DRAM_ST_UP c) = true →
    Does (.patrolScrubRead chB cls region syn last entry) s fun t =>
      t.dram.next = alSet s.dram.next c (if last then 0 else a + 8) ∧ t.on (F.HMK_DRAM_ST_SCRUBBING c) = !last ∧
      t.dram.scrubs = (if cls = 0 then s.dram.scrubs else s.dram.scrubs ++ [(c, a)]) ∧
      t.get (F.HMK_DRAM_ST_CE_DATA c) = (s.get (F.HMK_DRAM_ST_CE_DATA c) + (if cls = 1 then 1 else 0)) % 2 ^ 32 ∧
      t.get (F.HMK_DRAM_ST_CHECK_ONLY c) = (s.get (F.HMK_DRAM_ST_CHECK_ONLY c) + (if cls = 2 then 1 else 0)) % 2 ^ 32 ∧
      t.hmk = s.hmk) ∧
  (∀ s chB syn last entry, ∀ region ∈ [1, 2, 4],
    let c := if chB then 1 else 0
    s.on (F.HMK_DRAM_ST_UP c) = true →
    Does (.patrolScrubRead chB 3 region syn last entry) s fun t =>
      t.get (F.HMK_DRAM_ST_UE c) = (s.get (F.HMK_DRAM_ST_UE c) + 1) % 2 ^ 32 ∧
      t.get (F.HMK_DRAM_LAST_ADDR c) = (alGet s.dram.next c).getD 0 % 2 ^ 64 ∧ t.get (F.HMK_DRAM_LAST_REGION c) = region ∧
      t.get (F.HMK_DRAM_LAST_SYNDROME c) = syn % 2 ^ 8 ∧ t.dram.scrubs = s.dram.scrubs ∧ t.hmk = s.hmk) ∧
  (∀ (s : State) c a pre post, s.dram.scrubs = pre ++ (c, a) :: post → (∀ p ∈ pre, p.1 ≠ c) →
    Does (.scrubWrite c) s fun t => t = { s with dram := { s.dram with scrubs := pre ++ post } })

/-! ## Ghefotha links (R398 to R408) -/

/-- R400, R401, R403: a training link that locks its lanes sends a HELLO; lane loss begins a training with empty buffers; a
HELLO with the own digest brings the link UP and its features into force. -/
def Sys2Proof.Claims.LinkTraining : Prop :=
  (∀ s l, l < 4 → s.linkState l = 1 → (s.link l).lanes = false → (s.link l).unacked.length < 512 → (s.link l).waiting = [] →
    Does (.linkLaneLock l) s fun t =>
      (t.link l).lanes = true ∧ (t.link l).txSeq = ((s.link l).txSeq + 1) % 65536 ∧
      (∃ c, c.typ = 1 ∧ c.payload = s.helloPayload l ∧ c.seq = (s.link l).txSeq ∧ (t.link l).unacked = (s.link l).unacked ++ [c] ∧
        Sends t (.cell l c)) ∧ Only [] (fun x => { x with gfl := t.gfl }) s t) ∧
  (∀ s l, l < 4 → s.linkState l ≠ 0 →
    Does (.laneLoss l) s fun t =>
      t.linkState l = 1 ∧ t.get (F.GFL_ST_TRAINS l) = (s.get (F.GFL_ST_TRAINS l) + 1) % 2 ^ 8 ∧ (t.link l).lanes = false ∧
      (t.link l).unacked = [] ∧ (t.link l).txSeq = 0 ∧ (t.link l).rxSeq = 0 ∧ t.get (F.GFL_TT_VALID l) = 0) ∧
  (∀ s l c a rest, l < 4 → s.linkState l = 1 → (s.link l).inq = (c, a) :: rest → c.typ = 1 →
    State.cellBytes c.payload 4 32 = s.get F.STR_DIGEST_DIGEST →
    Does (.helloReceive l) s fun t =>
      t.linkState l = 2 ∧ t.get (F.GFL_ST_PEER l) = State.cellBytes c.payload 0 1 % 8 ∧
      t.get (F.GFL_ST_FEAT_IN l) = (State.cellBytes c.payload 36 16 &&& s.hif.feats) ∧ t.on (F.GFL_ST_ISO l) = false)

/-- R402, R403: a cell in sequence is delivered and the next one expected; a duplicate is counted; a cell with a bad CRC or
past the one expected is answered by a NAK; one that is not negotiated quenches the peer; a NAK has every cell from its ACK on
sent again with RETRY. -/
def Sys2Proof.Claims.LinkCells : Prop :=
  (∀ s l c at_, l < 4 → s.linkState l = 2 → (s.link l).lanes = true → c.ackValid = false → c.nak = false → c.typ = 2 →
    c.seq = (s.link l).rxSeq → c.rsv = 0 → c.src < 8 → c.proto < 16 → State.payloadBad 2 c.payload = false →
    Does (.cellReceive l c true at_) s fun t =>
      (t.link l).rxSeq = ((s.link l).rxSeq + 1) % 65536 ∧ (t.link l).unacked = (s.link l).unacked ∧ t.linkState l = 2 ∧
      (s.pairLink ≠ some l → (t.link l).inq = (s.link l).inq ++ [(c, at_)])) ∧
  (∀ s l c at_, l < 4 → s.linkState l ≠ 0 → (s.link l).lanes = true → c.ackValid = false → c.nak = false → c.typ ≠ 0 → c.typ ≠ 5 →
    c.seq ≠ (s.link l).rxSeq →
    Does (.cellReceive l c true at_) s fun t =>
      (t.link l).rxSeq = (s.link l).rxSeq ∧
      (State.seqBefore c.seq (s.link l).rxSeq = true → t.get (F.GFL_ST_DUPS l) = (s.get (F.GFL_ST_DUPS l) + 1) % 2 ^ 32) ∧
      (State.seqBefore c.seq (s.link l).rxSeq = false →
        t.get (F.GFL_ST_RETRIES l) = (s.get (F.GFL_ST_RETRIES l) + 1) % 2 ^ 32)) ∧
  (∀ s l c at_, l < 4 → s.linkState l ≠ 0 → (s.link l).lanes = true → c.typ ≠ 5 →
    Does (.cellReceive l c false at_) s fun t =>
      Sends t (.cell l ⟨0, false, true, true, 0, 0, (s.link l).rxSeq, s.get F.SYS_STRAP_DEVID, 1, 0⟩) ∧
      t.get (F.GFL_ST_RETRIES l) = (s.get (F.GFL_ST_RETRIES l) + 1) % 2 ^ 32 ∧ (t.link l).rxSeq = (s.link l).rxSeq) ∧
  (∀ s l c at_, l < 4 → s.linkState l = 2 → (s.link l).lanes = true → c.ackValid = false → c.nak = false → c.typ ≠ 0 →
    c.seq = (s.link l).rxSeq → s.negotiated l c.typ = false → c.typ ≠ 5 →
    Does (.cellReceive l c true at_) s fun t => t.linkState l = 4) ∧
  (∀ s l e, l < 4 → s.linkState l ≠ 0 → (s.link l).waiting = [] →
    Does (.nakReceive l e) s fun t =>
      (t.link l).unacked = (s.link l).unacked.filter (fun c => !State.seqBefore c.seq e) ∧
      (∀ c ∈ (t.link l).unacked, Sends t (.cell l { c with retry := true })) ∧ SameRegs [] s t)

/-- R400, R401, R403: a training link that locks its lanes sends a HELLO; lane loss begins a training with empty buffers; a
HELLO with the own digest brings the link UP and its features into force.
R402, R403: a cell in sequence is delivered and the next one expected; a duplicate is counted; a cell with a bad CRC or
past the one expected is answered by a NAK; one that is not negotiated quenches the peer; a NAK has every cell from its ACK on
sent again with RETRY. -/
def Obligations.LinkTrainingAndCells : Prop := LinkTraining ∧ LinkCells

/-- R405, R406: a TIME cell goes out at an epoch that is a multiple of its period; one received gives offset and round trip
from the four instants, and a measurement of the peer's reference. -/
def Obligations.LinkTime : Prop :=
  (∀ s o id, Acts s o id 14 → o.ent.arg < 4 → s.get (F.GFL_CFG_TT_PER o.ent.arg) ≠ 0 →
    o.ent.epoch % (1000000 * s.get (F.GFL_CFG_TT_PER o.ent.arg)) = 0 → 2 ≤ s.linkState o.ent.arg → s.linkState o.ent.arg ≤ 4 →
    (s.link o.ent.arg).unacked.length < 512 → (s.link o.ent.arg).waiting = [] →
    Does (.gflTime id) s fun t =>
      Acted s t o ∧ (t.link o.ent.arg).txSeq = ((s.link o.ent.arg).txSeq + 1) % 65536 ∧
      (∃ c, c.typ = 2 ∧ c.seq = (s.link o.ent.arg).txSeq ∧ Sends t (.cell o.ent.arg c)) ∧ SameRegs [] s t) ∧
  (∀ s l c t4 rest, l < 4 → (s.link l).inq = (c, t4) :: rest → c.typ = 2 → c.retry = false →
    let t3 := State.wireTime c.payload 0
    let t1 := State.wireTime c.payload 12
    let t2 := State.wireTime c.payload 24
    let off := roundRat (((sdiffQ t3 t4 - sdiffQ t1 t2 : Int) : Rat) / 2 - (s.getI (F.GFL_CFG_ASYM l) : Rat) * 65536 / 1000)
    t1 ≠ 0 →
    Does (.timeCellReceive l) s fun t =>
      (t.link l).inq = rest ∧ (t.link l).lastTime = some (t3, t4) ∧ t.get (F.GFL_TT_OFFSET l) = ofSigned 64 off ∧
      t.get (F.GFL_TT_RTT l) = ofSigned 64 (sdiffQ t3 t4 + sdiffQ t1 t2) ∧ t.get (F.GFL_TT_T l) = t4 / 65536 % 2 ^ 64 ∧
      t.get (F.GFL_TT_VALID l) = 1 ∧ t.get (F.GFL_TT_SEQ l) = (s.get (F.GFL_TT_SEQ l) + 1) % 2 ^ 16 ∧
      t.get (F.GFL_TT_PEER_TEB l) = State.wireBytes c.payload 44 4 ∧
      (∃ m, t.asy.inbox = s.asy.inbox ++ [m] ∧ m.ref = 32 + l ∧ m.off = some off ∧ m.at_ = t4 / 65536))

/-! ## Seam bus (R412 to R420) -/

/-- R413, R414, R418: a frame begins at its occurrence, and the station's report goes out in its slot; without a mismatch
DEVID_CONFLICT reads 0. -/
def Sys2Proof.Claims.SeamFrames : Prop :=
  ∀ s o id, Acts s o id 3 → s.on F.SEAM_STAT_EN = true → s.on F.SEAM_STAT_CONT_ONLY = false →
    Does (.seamFrame id false) s fun t =>
      Acted s t o ∧ t.seam.frameAt = some (t.ns / 125000 * 125000) ∧ t.seam.heard = 0 ∧ t.seam.bad = 0 ∧ t.on F.SEAM_STAT_DEVID_CONFLICT = false ∧
      ∃ v, v % 256 = 0x5E ∧ Sends t (.seamReport v)

/-- R414 to R416, R420: a station's report goes into its peer registers and counts as heard; a host message addressed to the
station takes a free buffer, and is lost where none is free; acknowledged buffers are free. -/
def Sys2Proof.Claims.SeamReceive : Prop :=
  (∀ s v at_, s.seamOn = true → State.cellBytes v 0 1 = 0x5E →
    let d := State.cellBytes v 1 1 % 8
    d ≠ s.devid →
    Does (.seamReportReceive v true at_) s fun t =>
      t.get (F.SEAM_PEER_AGREE d) = State.cellBytes v 6 1 ∧ t.get (F.SEAM_PEER_LINKED d) = State.cellBytes v 7 1 ∧
      t.get (F.SEAM_PEER_GEN d) = State.wireBytes v 2 2 ∧ t.get (F.SEAM_PEER_AGE d) = 0 ∧ bitOf t.seam.heard d = true) ∧
  (∀ s m at_ j, s.seamOn = true → m.len ≤ 128 → m.kind = 0 → (m.bcast = true ∨ m.dst = s.devid) →
    (List.range 16).find? (fun k => !s.on (F.SEAM_RX_FULL k)) = some j →
    Does (.seamMsgReceive m true at_) s fun t =>
      t.on (F.SEAM_RX_FULL j) = true ∧ t.get (F.SEAM_RX_SRC j) = m.src % 8 ∧ t.on (F.SEAM_RX_BCAST j) = m.bcast ∧
      t.get (F.SEAM_RX_LEN j) = m.len ∧ t.get (F.SEAM_RX_SHORT j) = at_ % 2 ^ 64 ∧
      t.get (F.SEAM_RX_DATA j) = m.payload % 2 ^ (8 * m.len) ∧
      Only [F.SEAM_RX_FULL j, F.SEAM_RX_SHORT j, F.SEAM_RX_DATA j] id s t) ∧
  (∀ s m at_, s.seamOn = true → m.len ≤ 128 → m.kind = 0 → (m.bcast = true ∨ m.dst = s.devid) →
    (∀ k, k < 16 → s.on (F.SEAM_RX_FULL k) = true) →
    Does (.seamMsgReceive m true at_) s fun t =>
      t.get F.SEAM_TX_ST_RX_LOST = satN 8 (s.get F.SEAM_TX_ST_RX_LOST + 1) ∧ Only [F.SEAM_TX_ST_RX_LOST] id s t) ∧
  (∀ s mask, s.pow.held = false → s.seamBusy = false →
    Does (.seamRxAck mask) s fun t =>
      (∀ j, j < 16 → t.on (F.SEAM_RX_FULL j) = (s.on (F.SEAM_RX_FULL j) && !bitOf mask j)) ∧
      Only ((List.range 16).map F.SEAM_RX_FULL) id s t)

/-- R413, R414, R418: a frame begins at its occurrence, and the station's report goes out in its slot; without a mismatch
DEVID_CONFLICT reads 0.
R414 to R416, R420: a station's report goes into its peer registers and counts as heard; a host message addressed to the
station takes a free buffer, and is lost where none is free; acknowledged buffers are free. -/
def Obligations.SeamTraffic : Prop := SeamFrames ∧ SeamReceive

/-- R415, R420: a host message waits for the contention window, is refused while another waits, goes out in a window with
room, and after a collision waits for its back-off. -/
def Sys2Proof.Claims.SeamContention : Prop :=
  (∀ s dst bcast len, s.pow.held = false → s.seamBusy = false → len ≤ 128 → s.seam.host = none → s.on (F.ASY_SRC_ST_FAULT 7) = false →
    Does (.seamSend dst bcast len) s fun t =>
      t.on F.SEAM_TX_ST_PENDING = true ∧
      (∃ m, t.seam.host = some ⟨m, 0, none⟩ ∧ m.src = s.devid ∧ m.dst = dst % 8 ∧ m.bcast = bcast ∧ m.len = len ∧ m.kind = 0) ∧
      Only [F.SEAM_TX_CTL_DST, F.SEAM_TX_ST_PENDING] (fun x => { x with seam := t.seam }) s t) ∧
  (∀ s dst bcast len x, s.pow.held = false → s.seamBusy = false → len ≤ 128 → s.seam.host = some x →
    Does (.seamSend dst bcast len) s fun t =>
      t.get F.SEAM_TX_ST_RESULT = 3 ∧ t.seam = s.seam ∧ Reports s t 0 0x2D 0 (pay [(20, 1, 3), (21, 1, 0)])) ∧
  (∀ s x, s.seamOn = true → s.seam.host = some x → x.wait = none → s.windowFits x.msg s.ns = true →
    s.on (F.ASY_SRC_ST_FAULT 7) = false →
    Does (.seamContentionSend false false) s fun t =>
      Sends t (.seamMsg x.msg) ∧ t.seam = { s.seam with host := none } ∧ t.on F.SEAM_TX_ST_PENDING = false ∧
      t.get F.SEAM_TX_ST_RESULT = 1 ∧ t.get F.SEAM_TX_ST_ATTEMPTS = (x.tries + 1) % 32 ∧ SameRegs (words [F.SEAM_TX_ST_RESULT]) s t) ∧
  (∀ s x, s.seamOn = true → s.seam.host = some x → x.wait = none → s.windowFits x.msg s.ns = true →
    s.on (F.ASY_SRC_ST_FAULT 7) = false → x.tries < 15 →
    Does (.seamContentionSend false true) s fun t =>
      (∃ y w, t.seam.host = some y ∧ y.msg = x.msg ∧ y.tries = x.tries + 1 ∧ y.wait = some w) ∧ Counts s t 0x5D0 1) ∧
  (∀ s x u, s.seam.host = some x → x.wait = some u → s.time.running = true →
    Does (.seamBackoffEnd false) s fun t =>
      t.seam.host = some { x with wait := none } ∧ t.time = (s.runTo u).time ∧ SameRegs (words [F.SEAM_TX_ST_PENDING]) s t)

/-- R416, R417: roll call restarts for a member that has been silent for 8 frames and completes with the heard set after 64
unchanged ones; 8 misaligned frames bring contention-only mode, and 64 aligned ones the slots again. -/
def Sys2Proof.Claims.SeamRollCall : Prop :=
  (∀ s d, s.seamOn = true → d < 8 → bitOf (s.get F.SEAM_MEMBERS_MEMBERS) d = true → 8 ≤ s.get (F.SEAM_PEER_AGE d) →
    bitOf s.seam.gone d = false →
    Does (.memberSilent d) s fun t =>
      t.get F.SEAM_STAT_GEN = s.nextGen ∧ t.on F.SEAM_STAT_ROLLCALL = true ∧ t.seam.rcFrames = 0 ∧ bitOf t.seam.gone d = true ∧
      SameRegs (words [F.SEAM_STAT_GEN]) s t) ∧
  (∀ s : State, s.seamOn = true → s.on F.SEAM_STAT_ROLLCALL = true → 64 ≤ s.seam.rcFrames →
    Does .rollcallComplete s fun t =>
      t.get F.SEAM_MEMBERS_MEMBERS = s.seam.rcSet % 2 ^ 8 ∧ t.on F.SEAM_STAT_ROLLCALL = false ∧ t.seam = { s.seam with gone := 0 } ∧
      SameRegs (words [F.SEAM_STAT_GEN, F.SEAM_MEMBERS_MEMBERS]) s t) ∧
  (∀ s : State, s.seamOn = true → s.on F.SEAM_STAT_CONT_ONLY = false → 8 ≤ s.seam.misRun →
    Does .contOnlyEnter s fun t =>
      t.on F.SEAM_STAT_CONT_ONLY = true ∧ t.seam.misRun = 0 ∧ t.seam.okRun = 0 ∧ SameRegs (words [F.SEAM_STAT_CONT_ONLY]) s t) ∧
  (∀ s : State, s.seamOn = true → s.on F.SEAM_STAT_CONT_ONLY = true → 64 ≤ s.seam.okRun →
    Does .slottedReturn s fun t =>
      t.on F.SEAM_STAT_CONT_ONLY = false ∧ t.seam.misRun = 0 ∧ t.seam.okRun = 0 ∧ SameRegs (words [F.SEAM_STAT_CONT_ONLY]) s t)

/-- R415, R420: a host message waits for the contention window, is refused while another waits, goes out in a window with
room, and after a collision waits for its back-off.
R416, R417: roll call restarts for a member that has been silent for 8 frames and completes with the heard set after 64
unchanged ones; 8 misaligned frames bring contention-only mode, and 64 aligned ones the slots again. -/
def Obligations.SeamRoll : Prop := SeamContention ∧ SeamRollCall

/-! ## The redundant pair (R421 to R441) -/

namespace Sys2Proof.Claims

/-- The pair works undisturbed: PAIR is in force, its link UP, no drill, the status not STALE, and the claim in force is the
base claim under its ceiling with its bias. -/
def PairSteady (s : State) : Prop :=
  s.pairOn = true ∧ s.pairUp = true ∧ s.pair.drill = none ∧ s.pair.tookAt = none ∧ s.on F.PAIR_INGOT_ST_STALE = false ∧
    s.pair.base = min (s.get F.PAIR_CFG_PAIR_CLAIM) (s.ceilingOf true) ∧
    s.get F.PAIR_STAT_CLAIM = s.pair.base + s.get F.PAIR_STAT_BIAS

end Sys2Proof.Claims

/-- R424, R425, R427, R430: the peer's claim is held as it changes; a risen claim reaches the comparator and decides who
drives; a tie of 256 ns sets BIAS by position and is recorded; a pad that differs from its drive is kept with its index. -/
def Obligations.PairClaims : Prop :=
  (∀ s v, Does (.claimInChange v) s fun t => t.get F.PAIR_STAT_PEER_CLAIM = v % 16) ∧
  (∀ s at_ v rest, PairSteady s → s.pair.rises = (at_, v) :: rest → v = s.get F.PAIR_STAT_CLAIM →
    Does .claimRiseArrives s fun t =>
      t.pair.cmp = v ∧ t.on F.PAIR_STAT_DRIVING = decide (s.get F.PAIR_STAT_PEER_CLAIM < v) ∧ t.get F.PAIR_STAT_CLAIM = v) ∧
  (∀ s u, PairSteady s → s.pair.tieSince = some u → 1 ≤ s.pair.base → s.on F.PAIR_STAT_TIE = false →
    let s' := if s.time.running then s.runTo (u + 256) else s
    Does .claimTie s fun t =>
      t.get F.PAIR_STAT_BIAS = s.tieBias ∧ t.time = s'.time ∧
      Reports s' t 0 0x31 0 (pay [(20, 1, s.get F.PAIR_STAT_CLAIM), (21, 1, 1)])) ∧
  (∀ s o, s.on F.PAIR_STAT_DRIVING = true → o < 24 → bitOf s.syn.paired o = true →
    Does (.outMonMismatch o) s fun t => t.pair.outMon = true ∧ t.get F.PAIR_TRIG_OUT_IDX = o)

/-- R436 to R438: the ACTIVE unit's Ingot goes out at its occurrence; one whose CRC holds, from a qualified peer, is accepted,
and another one is discarded and makes the status DIVERGED; the acknowledgement is kept; the ACTIVE unit's resync completes. -/
def Sys2Proof.Claims.PairIngots : Prop :=
  (∀ s o id, Acts s o id 2 → s.pairOn = true → s.role = 0 → s.pairUp = true →
    Does (.ingotCopy id none) s fun t =>
      Acted s t o ∧ t.pair.sent.map Prod.fst = some ((s.time.tickNo + 65535) % 65536) ∧ t.pair.drillRes = 0 ∧ Counts s t 0x5D8 1) ∧
  (∀ s l h body s', s.pairOn = true → s.pairLink = some l → s.takeStream l false = some (h, body, s') → s.role ≠ 0 →
    State.streamOk h body = true → s.qualified (32 + l) = true →
    Does (.ingotReceive l) s fun t =>
      t.get F.PAIR_INGOT_ST_ACCEPTED = (s.get F.PAIR_INGOT_ST_ACCEPTED + 1) % 2 ^ 32 ∧ t.get F.PAIR_INGOT_ST_AGE = 0 ∧
      t.pair.ingotTeb = some (State.wireBytes h 16 6) ∧ t.pair.misses = 0) ∧
  (∀ s l h body s', s.pairOn = true → s.pairLink = some l → s.takeStream l false = some (h, body, s') → s.role ≠ 0 →
    State.streamOk h body = false →
    Does (.ingotReceive l) s fun t =>
      t.get F.PAIR_INGOT_ST_DISCARDED = (s.get F.PAIR_INGOT_ST_DISCARDED + 1) % 2 ^ 32 ∧
      t.on F.PAIR_INGOT_ST_DIVERGED = true ∧ t.pair.misses = s.pair.misses + 1) ∧
  (∀ s l c a rest, (s.link l).inq = (c, a) :: rest → c.typ = 5 → State.cellBytes c.payload 0 1 = 2 →
    Does (.ingotAckReceive l) s fun t =>
      t.pair.acked = some (State.wireBytes c.payload 2 2, State.cellBytes c.payload 4 32) ∧
      t.pair.ackOk = (bitOf (State.cellBytes c.payload 1 1) 0 && !bitOf (State.cellBytes c.payload 1 1) 2 &&
        !bitOf (State.cellBytes c.payload 1 1) 3)) ∧
  (∀ s l full, s.pairLink = some l → s.pair.resync = some (true, full) → s.pairUp = true →
    Does .resyncComplete s fun t =>
      t.pair.resync = none ∧ t.on F.PAIR_INGOT_ST_RESYNC = false ∧ t.get F.PAIR_RESYNC_ST_PROGRESS = 1023 ∧
      t.get F.PAIR_RESYNC_ST_COUNT = (s.get F.PAIR_RESYNC_ST_COUNT + 1) % 2 ^ 32)

/-- R440: a drill starts on the ACTIVE unit with a current standby, and the other unit awaits its takeover; once DRILL_HOLD has
passed the drilled unit waits for the result, and the unit that took over answers PASSED or POST_MISMATCH. -/
def Sys2Proof.Claims.PairDrills : Prop :=
  (∀ s o id l h, Acts s o id 11 → s.pairOn = true → s.role = 0 → s.pairUp = true → s.pairLink = some l →
    (s.link l).hello = some h → h.state = 1 → s.pair.ackOk = true → s.get F.PAIR_TRIG_TRIG = 0 →
    Does (.swapDrill id) s fun t =>
      Acted s t o ∧ t.pair = { s.pair with drill := some (1, 0) } ∧ t.get F.PAIR_DRILL_ST_RUNNING = 1 ∧
      SameRegs (words [F.PAIR_DRILL_ST_RUNNING]) s t) ∧
  (∀ s o id, Acts s o id 11 → s.pairOn = true → s.role ≠ 0 →
    Does (.swapDrill id) s fun t => Acted s t o ∧ t.pair = { s.pair with watch := some s.time.tickNo } ∧ SameRegs [] s t) ∧
  (∀ (s : State) u, s.pair.drill = some (3, u) → u + s.get F.PAIR_CFG_DRILL_HOLD ≤ s.time.tickNo →
    Does .drillHoldEnd s fun t => t = { s with pair := { s.pair with drill := some (4, u) } }) ∧
  (∀ (s : State) u, s.pair.drill = none → s.pair.tookAt = some u → u + s.get F.PAIR_CFG_DRILL_HOLD ≤ s.time.tickNo →
    Does .drillHoldEnd s fun t =>
      t.get F.PAIR_DRILL_ST_RESULT = (if s.digestsAgree then 1 else 4) ∧ t.get F.PAIR_DRILL_ST_RUNNING = 0 ∧
      t.get F.PAIR_DRILL_ST_COUNT = (s.get F.PAIR_DRILL_ST_COUNT + 1) % 2 ^ 32 ∧ t.pair.tookAt = none ∧
      SameRegs (words [F.PAIR_TRIG_DRILL, F.PAIR_DRILL_ST_RESULT, F.PAIR_DRILL_ST_LAST, F.PAIR_DRILL_ST_COUNT]) s t)

/-- R436 to R438: the ACTIVE unit's Ingot goes out at its occurrence; one whose CRC holds, from a qualified peer, is accepted,
and another one is discarded and makes the status DIVERGED; the acknowledgement is kept; the ACTIVE unit's resync completes.
R440: a drill starts on the ACTIVE unit with a current standby, and the other unit awaits its takeover; once DRILL_HOLD has
passed the drilled unit waits for the result, and the unit that took over answers PASSED or POST_MISMATCH. -/
def Obligations.PairIngotsAndDrills : Prop := PairIngots ∧ PairDrills

/-! ## Resets, power and boot (R202, R203, R424 to R426, R454 to R469) -/

/-- R426, R459, R461 to R464: a power-on reset takes every word but those of VBAT state and PROVISIONED to its reset value,
keeps what the vault holds in VBAT and drives CLAIM_OUT to 0; the rise of PORST_L samples the straps, a brownout and a warm
reset keep them and name their cause; a warm reset keeps the time core; PERST_L ends the feature set in force. -/
def Obligations.Resets : Prop :=
  (∀ s, Does .porstAssert s fun t =>
      t.pow.held = true ∧ t.pow.claimLow = true ∧ t.time.running = false ∧ t.kvt = s.kvtKept ∧ t.pending = s.pending ∧
      (∀ k, vbatKey k = true → t.regs.word k = s.regs.word k) ∧
      (∀ k, vbatKey k = false → k ≠ F.KVT_STAT_PROVISIONED.a → t.regs.word k = resetWord k) ∧
      t.get F.KVT_STAT_PROVISIONED = s.get F.KVT_STAT_PROVISIONED ∧ Sends t (.claim (some 0))) ∧
  (∀ s v, s.pow.held = true → s.pow.extest = false →
    Does (.porstRise v) s fun t =>
      t.pow.held = false ∧ t.time.running = false ∧ t.kvt = s.kvtKept ∧
      t.regs.word F.SYS_STRAP_BOOT_SRC.a = BitVec.ofNat 32 (v % 128) ∧ t.get F.PAIR_STAT_POS = bitsOf v 5 1 ∧
      t.get F.SEAM_STAT_EN = bitsOf v 6 1 ∧ (∀ k, vbatKey k = true → t.regs.word k = s.regs.word k) ∧
      t.get F.SYS_BOOT_ST_STATE = 0) ∧
  (∀ s pg, s.pow.held = false →
    Does (.brownout pg) s fun t =>
      t.pow.held = false ∧ t.time.running = false ∧ t.kvt = s.kvtKept ∧ t.get F.SYS_RST_ST_CAUSE = (if pg then 3 else 2) ∧
      t.regs.word F.SYS_STRAP_BOOT_SRC.a = BitVec.ofNat 32 (s.straps % 128) ∧
      (∀ k, vbatKey k = true → t.regs.word k = s.regs.word k) ∧ Sends t (.claim (some 0))) ∧
  (∀ s, s.pow.held = false → s.time.running = true → s.str.pendImg = none →
    Does .warmReset s fun t =>
      t.time.core = s.time.core ∧ t.time.running = true ∧ t.get F.SYS_RST_ST_CAUSE = 1 ∧
      t.get F.SYS_RST_ST_WARM_COUNT = (s.get F.SYS_RST_ST_WARM_COUNT + 1) % 2 ^ 8 ∧ t.kvt = s.kvtKept ∧
      t.regs.word F.SYS_STRAP_BOOT_SRC.a = BitVec.ofNat 32 (s.straps % 128) ∧
      (∀ k, vbatKey k = true → t.regs.word k = s.regs.word k) ∧
      t.get F.SYS_BOOT_ST_STATE = (if 2 ≤ s.straps % 4 then 5 else 2) ∧
      (s.prov = true → t.prov = true) ∧
      (s.prov = false → t.get F.TSK_STAT_STATE = 3 ∧ t.get F.TSK_STAT_HOLD_ACT = 1)) ∧
  (∀ s, s.pow.claimLow = true →
    Does .claimResetRelease s fun t =>
      t = { s with pow := { s.pow with claimLow := false }, out := .claim none :: s.out }) ∧
  (∀ s, s.pow.held = false →
    Does .perstReset s fun t =>
      t.hif.perst = true ∧ t.get F.HIF_VIEW_LIVE = 0 ∧ t.get F.HIF_FEAT_ST_STATE = (if t.hif.accepted then 3 else 0) ∧
      t.time = s.time ∧ t.eng = s.eng)

/-- R202, R203, R456, R457: a domain that reaches power good or is isolated shows it in SYS_PD_ST, and one that fails is
latched and recorded; the SPLL's lock starts the time core at 0 in provisional time, its loss counts and raises SPLL_LOL,
and its return ends that. -/
def Obligations.PowerAndClock : Prop :=
  (∀ s d, d < 30 → d ∈ s.pow.up →
    Does (.pdPowerGood d) s fun t => t.pdUp d = true ∧ d ∉ t.pow.up) ∧
  (∀ s d, d < 30 → d ∈ s.pow.down →
    Does (.pdOffDone d) s fun t => t.pdUp d = false ∧ d ∉ t.pow.down) ∧
  (∀ s d, d < 30 → s.pdUp d = true → bitOf State.seqDomains d = false →
    Does (.pdPgFail d) s fun t =>
      t.pdUp d = false ∧ bitOf (t.get F.SYS_PD_FAULT_FAULT) d = true ∧ d ∉ t.pow.down ∧ t.on F.SYS_BOOT_ST_ALERT = true ∧
      Reports s t 0 0x3E 0 (pay [(20, 1, d)])) ∧
  (∀ s us, s.pow.held = false → s.pow.locked = false →
    Does (.spllLock us) s fun t =>
      t.time = { TimeSt.reset with running := true } ∧ t.pow = { s.pow with locked := true } ∧ t.prov = true ∧
      t.get F.SYN_SPLL_ST_LOCKED = 1 ∧ t.get F.SYS_BOOT_ST_STATE = 1 ∧ t.get F.SYS_BOOT_ST_T_SPLL = us % 2 ^ 32) ∧
  (∀ s, s.time.running = true → s.on F.SYN_SPLL_ST_LOCKED = true →
    Does .spllLossOfLock s fun t =>
      t.get F.SYN_SPLL_ST_LOCKED = 0 ∧ t.get F.SYN_SPLL_ST_SPLL_LOL = 1 ∧
      t.get F.SYN_SPLL_ST_LOL_COUNT = (s.get F.SYN_SPLL_ST_LOL_COUNT + 1) % 2 ^ 8 ∧ t.tsk.lol = true ∧ Counts s t 0x340 1) ∧
  (∀ s, s.time.running = true → s.tsk.lol = true →
    Does .spllRelock s fun t =>
      t.get F.SYN_SPLL_ST_LOCKED = 1 ∧ t.get F.SYN_SPLL_ST_SPLL_LOL = 0 ∧ t.tsk.lol = false ∧
      t.tsk.lolUntil = some (s.ns + 1000000000))

/-- R326 to R328, R466, R467, R469: a boot copy that cannot be read is recorded and the other one follows, then NO_IMAGE; one
whose checks pass goes live; DRAM training brings a channel up or sets DRAM_FAIL; READY clears the client region; EXTEST
zeroizes the vault and holds the reset; another instruction only selects. -/
def Obligations.BootSequence : Prop :=
  (∀ s img v, s.get F.SYS_BOOT_ST_STATE = 2 → s.get F.SYS_STRAP_BOOT_SRC < 2 →
    let c := s.copyNow
    Does (.bootImageLoaded false img v) s fun t =>
      t.get (F.STR_LOAD_ST_CODE c) = lReadErr ∧ t.on F.STR_STAT_FALLBACK = true ∧ t.str.tried = s.str.tried ++ [c] ∧
      t.get F.SYS_BOOT_ST_STATE = (if s.str.tried = [] then 2 else 5) ∧
      (s.str.tried ≠ [] → t.get F.STR_STAT_STATE = 2 ∧ t.on F.SYS_BOOT_ST_ALERT = true) ∧ t.eng = s.eng) ∧
  (∀ s img v, s.get F.SYS_BOOT_ST_STATE = 2 → s.get F.SYS_STRAP_BOOT_SRC < 2 → (s.checkImage img none v).1 = lOk →
    Does (.bootImageLoaded true img v) s fun t =>
      t.get F.SYS_BOOT_ST_STATE = 3 ∧ t.get F.STR_STAT_STATE = 1 ∧ t.get F.STR_STAT_SRC = s.copyNow ∧
      t.get F.STR_DIGEST_DIGEST = img.digest % 2 ^ 256) ∧
  (∀ s okB, s.get F.SYS_BOOT_ST_STATE = 3 → s.pdUp 24 = true → s.on (F.HMK_DRAM_ST_UP 0) = false →
    Does (.dramTrained true okB) s fun t =>
      t.on (F.HMK_DRAM_ST_UP 0) = true ∧ t.get F.SYS_BOOT_ST_T_DRAM = s.bootUs % 2 ^ 32 ∧ t.hmk = s.hmk) ∧
  (∀ s okB, s.get F.SYS_BOOT_ST_STATE = 3 → s.pdUp 24 = true → s.on (F.HMK_DRAM_ST_UP 0) = false →
    Does (.dramTrained false okB) s fun t =>
      t.on (F.HMK_DRAM_ST_UP 0) = false ∧ t.on F.SYS_BOOT_ST_DRAM_FAIL = true ∧ t.on F.SYS_BOOT_ST_ALERT = true) ∧
  (∀ s, s.get F.SYS_BOOT_ST_STATE = 3 → s.dramReady = true →
    Does .bootReady s fun t =>
      t.get F.SYS_BOOT_ST_STATE = 4 ∧
      Only [F.SYS_BOOT_ST_STATE] (fun x => { x with hmk := { x.hmk with table := [] } }) s t) ∧
  (∀ s sec temp, Does (.extestLoad sec temp) s fun t =>
      t.pow = { PowSt.reset with held := true, extest := true, claimLow := true, tap := 0 } ∧ t.time.running = false ∧
      t.kvt.root = 0 ∧ t.kvt.attest = 0 ∧ t.kvt.updKey = 0 ∧ t.provisioned = false ∧
      (∃ e, t.kvt.episode = some e ∧ bitOf e.sources 8 = true) ∧ Sends t (.claim (some 0))) ∧
  (∀ s code, code % 16 ≠ 0 →
    Does (.tapInstruction code) s fun t => t = { s with pow := { s.pow with tap := code % 16 } })

/-- R324, R326, R328 to R331: a push is busy until its checks end, and another one is refused; an image pushed while one is
live waits for a warm reset; a GEN_SWITCH makes the staged generation that of the region and drains the old one; its content
takes effect, and once the last old-tagged work has left the region is idle, or staged where more waits. -/
def Obligations.ImageLoads : Prop :=
  (∀ s base len, s.pow.held = false → s.on F.STR_STAT_BUSY = false →
    Does (.imagePush base len) s fun t =>
      t.get F.STR_PUSH_BASE = base % 2 ^ 64 ∧ t.get F.STR_PUSH_LENGTH = len % 2 ^ 24 ∧ t.on F.STR_STAT_BUSY = true ∧
      Only [F.STR_PUSH_BASE, F.STR_PUSH_LENGTH, F.STR_STAT_BUSY] id s t) ∧
  (∀ s base len, s.pow.held = false → s.on F.STR_STAT_BUSY = true →
    Does (.imagePush base len) s fun t =>
      t.get (F.STR_LOAD_ST_CODE 2) = lBusy ∧ t.on F.STR_STAT_BUSY = true ∧ t.str = s.str) ∧
  (∀ s img v, s.on F.STR_STAT_BUSY = true → s.get F.STR_STAT_STATE = 1 → img.partial_ = false →
    ((s.set F.STR_STAT_BUSY 0).checkImage img (some (s.get F.STR_PUSH_LENGTH)) v).1 = lOk →
    Does (.imageCheckDone true img v) s fun t =>
      t.on F.STR_STAT_BUSY = false ∧ t.get (F.STR_LOAD_ST_CODE 2) = lOk ∧ t.str.pendImg = some img ∧
      t.on F.STR_STAT_PENDING = true ∧ t.get F.STR_DIGEST_DIGEST = s.get F.STR_DIGEST_DIGEST) ∧
  (∀ s o id x, Acts s o id 9 → o.ent.arg < 24 → alGet s.str.staged o.ent.arg = some x →
    s.str.switching.any (fun y => y.1 = o.ent.arg) = false → s.get (F.STR_REGION_STATE o.ent.arg) ≠ 2 →
    (∀ y ∈ x.secs, s.inUse y = false) →
    Does (.genSwitch id none) s fun t =>
      Acted s t o ∧ t.get (F.STR_REGION_STATE o.ent.arg) = 2 ∧ t.get (F.STR_REGION_GEN o.ent.arg) = x.gen % 2 ^ 32 ∧
      t.get (F.STR_REGION_STAGED_GEN o.ent.arg) = 0 ∧
      t.get (F.STR_REGION_SWITCHES o.ent.arg) = (s.get (F.STR_REGION_SWITCHES o.ent.arg) + 1) % 2 ^ 32 ∧
      t.str.staged = alDel s.str.staged o.ent.arg ∧ t.str.switching = alSet s.str.switching o.ent.arg x ∧
      t.get (F.STR_REGION_LAST o.ent.arg) = 1) ∧
  (∀ s o id ue, Acts s o id 9 → o.ent.arg < 24 → alGet s.str.staged o.ent.arg = none →
    Does (.genSwitch id ue) s fun t =>
      Acted s t o ∧ t.get (F.STR_REGION_LAST o.ent.arg) = 2 ∧ t.str = s.str ∧ SameRegs (words [F.STR_REGION_LAST o.ent.arg]) s t) ∧
  (∀ s r x, alGet s.str.switching r = some x → s.effectDue r = true →
    Does (.regionEffect r) s fun t =>
      t.str.switching = alDel s.str.switching r ∧
      (∀ y, x.secs = [y] →
        (∀ f, y.pay = .updGroups f → t.hif.grp = f) ∧ (∀ rows, y.pay = .portProfile rows → t.str.ports = rows) ∧
        (∀ rows, y.pay = .tenants rows → t.str.tenants = rows) ∧
        (∀ hz byp khz burn, y.pay = .synPlan hz byp khz burn →
          t.str.oscin = hz ∧ t.str.synBurn = burn ∧ t.get F.SYN_SPLL_ST_OSC_KHZ = hz / 1000 % 2 ^ F.SYN_SPLL_ST_OSC_KHZ.w) ∧
        (∀ p, y.pay = .prog p → (t.engine p.engine).live = some (State.progOf p) ∧ (t.engine p.engine).idle = none))) ∧
  (∀ s r, s.get (F.STR_REGION_STATE r) = 2 → alGet s.str.switching r = none →
    Does (.regionDrainEnd r) s fun t =>
      t.get (F.STR_REGION_STATE r) = (if (alGet s.str.staged r).isSome then 1 else 0) ∧ Only [F.STR_REGION_STATE r] id s t)

/-! ## The key vault (R303 to R320) -/

namespace Sys2Proof.Claims

/-- An update message waits as the provider's command c, the engine runs, and no record write is under way. -/
def UpdWaits (s : State) (c : Cmd) : Prop := s.cmdOf 0 0x0903 = some c ∧ s.kvt.upd = none ∧ s.engQuenched 17 = false

/-- The command of a message's type. -/
def updCmd (m : UpdMsg) : Instr :=
  match m.pay with
  | .keyImport .. => .keyImport true m
  | .keyGenerate _ => .keyGenerate true m
  | .tenantEpoch .. => .tenantEpoch true m
  | .setUpdateKey _ => .setUpdateKey true m
  | .setAttest _ => .setAttest true m
  | .setImageKey _ => .setImageKey true m
  | .tamperCfg .. => .tamperCfg true m
  | .deprovision => .deprovision true m
  | .provision .. => .provision true m
  | .other _ => .deprovision true m

/-- The command of function fn with number n has finished with a status. -/
def Finished (t : State) (fn n status : Nat) : Prop :=
  ∀ c ∈ (t.fn fn).cmds, c.n = n → ∃ r, c.done = some (status, r)

/-- A command that names no other tenant's slot, of function fn. -/
def OwnSlot (s : State) (fn slot : Nat) : Prop := s.slotViolation fn slot = false

end Sys2Proof.Claims

/-- R312 to R314: a message of each type whose checks pass begins its record write, and one whose checks fail completes with
the status of the first that fails and changes nothing the vault holds; the record write commits the effect, UPD_CTR and
LAST_DIGEST at once. -/
def Obligations.VaultUpdates : Prop :=
  (∀ s c m, UpdWaits s c → s.updCheck (c.arg 8 2) m = cOk →
    Does (updCmd m) s fun t => t.kvt = { s.kvt with upd := some ⟨c.n, m, c.arg 16 8⟩ } ∧ t.regs = s.regs) ∧
  (∀ s c m, UpdWaits s c → s.updCheck (c.arg 8 2) m ≠ cOk →
    Does (updCmd m) s fun t =>
      t.kvt = s.kvt ∧ Finished t 0 c.n (s.updCheck (c.arg 8 2) m) ∧ t.get F.KVT_UPD_CTR_UPD_CTR = s.get F.KVT_UPD_CTR_UPD_CTR ∧
      SameRegs (words [F.KVT_STATS_COUNT 3]) s t) ∧
  (∀ s u k ok sec temp, s.kvt.upd = some u → u.msg.pay = .setImageKey k →
    Does (.vbatRecordCommit ok sec temp) s fun t =>
      t.kvt = { (s.vbatRead sec).kvt with upd := none, imgKey := k, lastDigest := u.msg.digest } ∧
      t.get F.KVT_UPD_CTR_UPD_CTR = u.msg.counter % 2 ^ 64 ∧ Finished t 0 u.cmd cOk) ∧
  (∀ s u a b ok sec temp, s.kvt.upd = some u → u.msg.pay = .tamperCfg a b →
    Does (.vbatRecordCommit ok sec temp) s fun t =>
      t.get F.KVT_TAMPER_CFG_T_LOW = a % 2 ^ 8 ∧ t.get F.KVT_TAMPER_CFG_T_HIGH = bitsOf a 16 8 ∧
      t.get F.KVT_TAMPER_CFG_PIN_EN = b % 2 ^ 4 ∧ t.get F.KVT_UPD_CTR_UPD_CTR = u.msg.counter % 2 ^ 64 ∧
      t.kvt = { (s.vbatRead sec).kvt with upd := none, lastDigest := u.msg.digest }) ∧
  (∀ s u p ok sec temp, s.kvt.upd = some u → u.msg.pay = .keyGenerate p →
    Does (.vbatRecordCommit ok sec temp) s fun t =>
      t.kvt = { (s.vbatRead sec).kvt with upd := none, lastDigest := u.msg.digest } ∧ t.get F.KVT_UPD_CTR_UPD_CTR = u.msg.counter % 2 ^ 64 ∧
      Finished t 0 u.cmd (if ok then cOk else cDmaErr) ∧
      (ok = true → Sends t (.hostWrite 0 u.out 128 (s.makeBlob p (bitsOf (Config.random s.draws) 0 256))))) ∧
  (∀ s u ok sec temp, s.kvt.upd = some u → u.msg.pay = .deprovision →
    Does (.vbatRecordCommit ok sec temp) s fun t =>
      t.provisioned = false ∧ t.kvt.root = 0 ∧ t.kvt.updKey = 0 ∧ t.kvt.attest = 0 ∧ t.kvt.imgKey = 0 ∧ t.kvt.epochs = [] ∧
      t.get F.KVT_UPD_CTR_UPD_CTR = 0) ∧
  (∀ s u p k l ok sec temp, s.kvt.upd = some u → u.msg.pay = .keyImport p (some k) l →
    Does (.vbatRecordCommit ok sec temp) s fun t =>
      t.kvt = { (s.vbatRead sec).kvt with upd := none, lastDigest := u.msg.digest } ∧ t.get F.KVT_UPD_CTR_UPD_CTR = u.msg.counter % 2 ^ 64 ∧
      Finished t 0 u.cmd (if ok then cOk else cDmaErr) ∧ (ok = true → Sends t (.hostWrite 0 u.out 128 (s.makeBlob p k)))) ∧
  (∀ s u t0 r e ok sec temp, s.kvt.upd = some u → u.msg.pay = .tenantEpoch t0 r e →
    Does (.vbatRecordCommit ok sec temp) s fun t =>
      t.kvt.epochs = alSet s.kvt.epochs t0 e ∧ t.get F.KVT_UPD_CTR_UPD_CTR = u.msg.counter % 2 ^ 64 ∧ Finished t 0 u.cmd cOk ∧
      (∀ i < 4096, (alGet s.kvt.slots i).isSome = true → s.get (F.KVT_SLOT_TENANT i) = t0 → t.on (F.KVT_SLOT_VALID i) = false)) ∧
  (∀ s u k ok sec temp, s.kvt.upd = some u → u.msg.pay = .setUpdateKey (some k) →
    Does (.vbatRecordCommit ok sec temp) s fun t =>
      t.kvt = { (s.vbatRead sec).kvt with upd := none, updKey := k, lastDigest := u.msg.digest } ∧
      t.get F.KVT_UPD_CTR_UPD_CTR = u.msg.counter % 2 ^ 64 ∧ Finished t 0 u.cmd cOk) ∧
  (∀ s u k ok sec temp, s.kvt.upd = some u → u.msg.pay = .setAttest (some k) →
    Does (.vbatRecordCommit ok sec temp) s fun t =>
      t.kvt = { (s.vbatRead sec).kvt with upd := none, attest := k, lastDigest := u.msg.digest } ∧
      t.get F.KVT_UPD_CTR_UPD_CTR = u.msg.counter % 2 ^ 64 ∧ Finished t 0 u.cmd cOk) ∧
  (∀ s u c x y k ok sec temp, s.kvt.upd = some u → u.msg.pay = .provision c (some (x, y)) k →
    Does (.vbatRecordCommit ok sec temp) s fun t =>
      t.kvt = { (s.vbatRead sec).kvt with
        upd := none, root := bitsOf (Config.random s.draws) 0 256, epochs := [], updKey := x, attest := y, imgKey := k
        lastDigest := u.msg.digest } ∧
      t.provisioned = true ∧ t.get F.KVT_UPD_CTR_UPD_CTR = u.msg.counter % 2 ^ 64 ∧ Finished t 0 u.cmd cOk)

/-- R309, R311, R315 to R317, R319, R320: a key blob whose checks pass fills its slot; expiry empties a slot;
an attestation is written over its challenge; a tamper source clears what is zeroizable and leaves the vault UNPROVISIONED;
its log entry commits at HEAD with NEW, and an acknowledgement clears NEW. -/
def Obligations.KeyCache : Prop :=
  (∀ s fn c b, s.cmdOf fn 0x0901 = some c → OwnSlot s fn (c.arg 8 2) → s.loadCheck fn (c.arg 8 2) true b = cOk →
    let i := c.arg 8 2
    Does (.kvtLoad fn true b) s fun t =>
      t.kvt = { s.kvt with slots := alSet s.kvt.slots i ⟨b.key, b.notBefore, b.notAfter⟩ } ∧
      t.on (F.KVT_SLOT_VALID i) = true ∧ t.get (F.KVT_SLOT_TENANT i) = b.tenant ∧ t.get (F.KVT_SLOT_CLASS i) = b.cls ∧
      t.get (F.KVT_SLOT_USAGE i) = b.usage ∧ t.get (F.KVT_SLOT_KEY_ID i) = b.keyId % 2 ^ 32 ∧
      t.get (F.KVT_TEN_ST_USED b.tenant) = (s.get (F.KVT_TEN_ST_USED b.tenant) + 1) % 2 ^ 13) ∧
  (∀ s fn c ok b, s.cmdOf fn 0x0901 = some c → OwnSlot s fn (c.arg 8 2) → s.loadCheck fn (c.arg 8 2) ok b ≠ cOk →
    Does (.kvtLoad fn ok b) s fun t =>
      t.kvt = s.kvt ∧ Finished t fn c.n (s.loadCheck fn (c.arg 8 2) ok b) ∧ SameRegs (words [F.KVT_STATS_COUNT 1]) s t) ∧
  (∀ s fn c ok b, s.cmdOf fn 0x0901 = some c → s.slotViolation fn (c.arg 8 2) = true → (s.fn fn).quenched = false →
    Does (.kvtLoad fn ok b) s fun t => (t.fn fn).quenched = true ∧ Finished t fn c.n cQuenched ∧ t.kvt = s.kvt) ∧
  (∀ s fn c ch, s.cmdOf fn 0x0904 = some c → s.engQuenched 17 = false →
    Does (.kvtAttest fn true ch) s fun t =>
      Sends t (.hostWrite fn (c.arg 8 8) 136 (s.attestation fn ch)) ∧ t.kvt = s.kvt ∧
      Finished t fn c.n (if s.provisioned then cOk else cUnprovisioned) ∧ SameRegs (words [F.KVT_STATS_COUNT 4]) s t) ∧
  (∀ (s : State) i (k : SlotKey), alGet s.kvt.slots i = some k → i < 4096 → s.on (F.KVT_SLOT_VALID i) = true → s.atBoundary = true →
    k.notAfter ≠ 0 → Machine.sdiff s.short k.notAfter ≤ 0 →
    Does (.keyExpiry i) s fun t =>
      t.kvt = { s.kvt with slots := alDel s.kvt.slots i } ∧ t.on (F.KVT_SLOT_VALID i) = false ∧
      Reports s t 0 0x0F (s.get (F.KVT_SLOT_TENANT i))
        (pay [(20, 2, i), (22, 1, s.get (F.KVT_SLOT_CLASS i)), (24, 4, s.get (F.KVT_SLOT_KEY_ID i))])) ∧
  (∀ s sources temp sec off, s.firing sources temp off ≠ 0 → (∀ p ∈ s.kvt.slots, p.1 < 4096) →
    Does (.tamperFire sources temp sec off) s fun t =>
      t.provisioned = false ∧ t.kvt.root = 0 ∧ t.kvt.attest = 0 ∧ t.kvt.updKey = 0 ∧ t.kvt.imgKey = 0 ∧ t.kvt.epochs = [] ∧
      t.kvt.upd = none ∧ t.get F.KVT_UPD_CTR_UPD_CTR = 0 ∧ (∀ p ∈ s.kvt.slots, t.on (F.KVT_SLOT_VALID p.1) = false) ∧
      (∃ e, t.kvt.episode = some e ∧ (s.kvt.episode = none → e.sources = s.firing sources temp off))) ∧
  (∀ s e main, s.kvt.episode = some e →
    let i := s.get F.KVT_TLOG_ST_HEAD
    Does (.tamperLogCommit main) s fun t =>
      t.get (F.KVT_TLOG_ENTRY i) = State.tlogEntry e % 2 ^ 128 ∧ t.get F.KVT_TLOG_ST_HEAD = (i + 1) % 16 ∧
      t.get F.KVT_TLOG_ST_TOTAL = (s.get F.KVT_TLOG_ST_TOTAL + 1) % 2 ^ 16 ∧ t.kvt = { s.kvt with episode := none } ∧
      t.on F.KVT_STAT_LOG_NEW = true ∧ (main = true → Reports s t 0 0x10 0 (t.tlogPay i))) ∧
  (∀ s mask, s.pow.held = false → s.postBusy 9 = false →
    Does (.tlogAck mask) s fun t =>
      (∀ i, i < 16 → t.tlogNew i = (s.tlogNew i && !bitOf mask i)) ∧
      t.on F.KVT_STAT_LOG_NEW = (List.range 16).any (fun i => s.tlogNew i && !bitOf mask i) ∧
      Only ([F.KVT_STAT_LOG_NEW, F.SYS_BOOT_ST_ALERT] ++ (List.range 16).map F.KVT_TLOG_ENTRY) id s t)

namespace Sys2Proof.Claims

/-- A KVT_EVICT of function fn waits that names slot i, and the vault and its engine work. -/
def Evicts (s : State) (fn i : Nat) (c : Cmd) : Prop :=
  s.cmdOf fn 0x0902 = some c ∧ c.arg 0 2 = i ∧ i < 4096 ∧ s.engQuenched 17 = false ∧ s.provisioned = true

/-- Hallmark holds slot i as a current, previous or next key of the tenant and class that it holds a key of. -/
def InUse (s : State) (i : Nat) : Prop :=
  let t := s.get (F.KVT_SLOT_TENANT i)
  let k := s.get (F.KVT_SLOT_CLASS i)
  (s.on (F.HMK_KEY_ST_CUR_VALID t k) = true ∧ s.get (F.HMK_KEY_ST_CUR_SLOT t k) = i) ∨
    (s.on (F.HMK_KEY_ST_PREV_VALID t k) = true ∧ (alGet s.hmk.prevSlot (4 * t + k)).getD 0 = i) ∨
    (s.on (F.HMK_KEY_ST_NEXT_VALID t k) = true ∧ s.get (F.HMK_KEY_NEXT_SLOT t k) = i)

end Sys2Proof.Claims

/-- R310: KVT_EVICT empties a slot; it completes with EMPTY for a free slot and with IN_USE for one that Hallmark holds; a tenant
that names another tenant's slot is quenched as for KVT_LOAD (R309); the provider may evict any slot. -/
def Obligations.SlotEviction : Prop :=
  (∀ s fn i c, Evicts s fn i c → s.on (F.KVT_SLOT_VALID i) = true → ¬InUse s i →
    fn = 0 ∨ s.get (F.KVT_SLOT_TENANT i) = s.cmdTenant fn →
    Does (.kvtEvict fn) s fun t =>
      t.kvt = { s.kvt with slots := alDel s.kvt.slots i } ∧ t.on (F.KVT_SLOT_VALID i) = false ∧ Finished t fn c.n cOk) ∧
  (∀ s fn i c, Evicts s fn i c → s.on (F.KVT_SLOT_VALID i) = false →
    Does (.kvtEvict fn) s fun t => t.kvt = s.kvt ∧ Finished t fn c.n cEmpty ∧ SameRegs [] s t) ∧
  (∀ s fn i c, Evicts s fn i c → s.on (F.KVT_SLOT_VALID i) = true → InUse s i →
    fn = 0 ∨ s.get (F.KVT_SLOT_TENANT i) = s.cmdTenant fn →
    Does (.kvtEvict fn) s fun t => t.kvt = s.kvt ∧ Finished t fn c.n cInUse ∧ SameRegs [] s t) ∧
  (∀ s fn i c, Evicts s fn i c → s.on (F.KVT_SLOT_VALID i) = true → fn ≠ 0 → s.get (F.KVT_SLOT_TENANT i) ≠ s.cmdTenant fn →
    (s.fn fn).quenched = false →
    Does (.kvtEvict fn) s fun t => t.kvt = s.kvt ∧ (t.fn fn).quenched = true ∧ Finished t fn c.n cQuenched)

/-! ## Strobes of the update groups (R25 to R27, R363, R364) -/

namespace Sys2Proof.Claims

/-- The update group that holds a field's block while no UPD_GROUPS section has set one (R364). -/
def groupOfFld (f : Fld) : Nat := defaultGroup (winOf f.a)

/-- A strobe by register acts at once: no occurrence of its cycle has yet to act, and the scheduler has switched no group in it. -/
def StrobeNow (s : State) : Prop :=
  s.pow.held = false ∧ s.hif.grp = [] ∧ s.dueNow = false ∧ (s.hif.struck.1 = s.time.cyc → s.hif.struck.2 = 0)

/-- A shadow field reads 1 and its live one 0, and the register it lies in is the only one of its group with written words. -/
def Strobes (s : State) (f : Fld) : Prop :=
  StrobeNow s ∧ s.view f = 1 ∧ s.get f = 0 ∧
    ∃ p, pregOf f.a = some p ∧ s.pendRegs (2 ^ groupOfFld f) = [p]

/-- The strobe of a field's group has been counted, and the field reads 0 again. -/
def Strobed (s t : State) (f : Fld) : Prop :=
  t.get (F.SYS_UPD_ST_COUNT (groupOfFld f)) = (s.get (F.SYS_UPD_ST_COUNT (groupOfFld f)) + 1) % 2 ^ 16 ∧
    t.on (F.SYS_UPD_ST_BY_REG (groupOfFld f)) = true ∧ t.get f = 0

end Sys2Proof.Claims

/-- R27, R363, R364: a strobe makes an accepted shadow value live and keeps the live value of a refused one, with CFG_REFUSED,
and counts in each group it switches; while an occurrence of its cycle has yet to act a SYS_UPD_STROBE waits; a scheduled strobe switches the groups its entry and SYS_UPD_STROBE name, each once. -/
def Obligations.GroupStrobes : Prop :=
  (∀ s mask ues w, StrobeNow s → bitOf mask 2 = true → s.pend = [(F.TSK_SLEW_MAX_RATE.a, w)] →
    s.view F.TSK_SLEW_MAX_RATE ≠ s.get F.TSK_SLEW_MAX_RATE →
    Does (.updStrobe mask ues) s fun t =>
      t.get F.TSK_SLEW_MAX_RATE =
        (if 1 ≤ s.view F.TSK_SLEW_MAX_RATE ∧ s.view F.TSK_SLEW_MAX_RATE ≤ 50000 then s.view F.TSK_SLEW_MAX_RATE
          else s.get F.TSK_SLEW_MAX_RATE) ∧
      t.on F.TSK_STAT_CFG_REFUSED =
        !(decide (1 ≤ s.view F.TSK_SLEW_MAX_RATE) && decide (s.view F.TSK_SLEW_MAX_RATE ≤ 50000)) ∧
      t.pend = [] ∧
      (∀ g, g < 8 → t.get (F.SYS_UPD_ST_COUNT g) =
        (s.get (F.SYS_UPD_ST_COUNT g) + (if bitOf mask g then 1 else 0)) % 2 ^ 16)) ∧
  (∀ s mask ues, StrobeNow s → s.pend = [] →
    Does (.updStrobe mask ues) s fun t =>
      t.pend = [] ∧ t.time = s.time ∧
      ∀ g, g < 8 → t.get (F.SYS_UPD_ST_COUNT g) = (s.get (F.SYS_UPD_ST_COUNT g) + (if bitOf mask g then 1 else 0)) % 2 ^ 16 ∧
        (bitOf mask g = true → t.on (F.SYS_UPD_ST_BY_REG g) = true ∧ t.on (F.SYS_UPD_ST_BY_SCHED g) = false)) ∧
  (∀ s mask ues, s.pow.held = false → s.dueNow = true →
    Does (.updStrobe mask ues) s fun t => t = { s with sch := { s.sch with updWait := s.sch.updWait ||| mask % 256 } }) ∧
  (∀ s o id also ues, Acts s o id 8 → s.pend = [] → s.hif.fresh = [] →
    ((s.runTo (s.dueOf o.ent).toNat).acted o).strobesNow = [] →
    Does (.strobe id also ues) s fun t =>
      Acted s t o ∧ t.pend = [] ∧
      (∀ g, g < 8 → bitOf o.ent.arg g = true →
        t.get (F.SYS_UPD_ST_COUNT g) = (s.get (F.SYS_UPD_ST_COUNT g) + 1) % 2 ^ 16 ∧
        t.on (F.SYS_UPD_ST_BY_SCHED g) = true ∧ t.on (F.SYS_UPD_ST_BY_REG g) = bitOf also g))

/-- R144, R167, R169, R208, R217, R225, R277: the fields that act at a strobe of their group. A step is armed or disarmed, an
Anneal accepted, a Burnisher searches anew, a transmitter that sends finishes its block first, the staged table becomes the
live one, a reference is cleared to CANDIDATE, the divider reset is armed or disarmed. -/
def Sys2Proof.Claims.StrobedActions : Prop :=
  (∀ s, Strobes s F.TSK_STEP_ARM_ARM → s.view F.TSK_STEP_ARM_DISARM = 0 →
    (s.armStep (s.view F.TSK_STEP_ARM_MAG) (s.view F.TSK_STEP_ARM_TOL) (s.view F.TSK_STEP_ARM_DEADLINE)).2 = true →
    Does .stepArm s fun t =>
      Strobed s t F.TSK_STEP_ARM_ARM ∧ t.get F.TSK_STEP_STAT_STATE = 1 ∧ t.on F.TSK_STAT_ARMED = true ∧
      t.tsk.arm = some (s.view F.TSK_STEP_ARM_MAG, s.view F.TSK_STEP_ARM_TOL, s.view F.TSK_STEP_ARM_DEADLINE)) ∧
  (∀ s, Strobes s F.TSK_STEP_ARM_DISARM → s.tsk.arm.isSome = true →
    Does .stepDisarm s fun t =>
      Strobed s t F.TSK_STEP_ARM_DISARM ∧ t.get F.TSK_STEP_STAT_STATE = 4 ∧ t.on F.TSK_STAT_ARMED = false ∧ t.tsk.arm = none) ∧
  (∀ s, Strobes s F.TSK_ANNEAL_CMD_GO → s.on F.TSK_ANNEAL_ST_ACTIVE = false → s.viewI F.TSK_ANNEAL_CMD_AMOUNT ≠ 0 →
    (s.viewI F.TSK_ANNEAL_CMD_AMOUNT).natAbs ≤ 2 ^ 46 →
    Does .annealCommand s fun t =>
      Strobed s t F.TSK_ANNEAL_CMD_GO ∧ t.on F.TSK_ANNEAL_ST_ACTIVE = true ∧ t.get F.TSK_ANNEAL_ST_SRC = 2 ∧
      t.time.annAmt = s.viewI F.TSK_ANNEAL_CMD_AMOUNT ∧ t.time.annR = s.viewI F.TSK_ANNEAL_CMD_AMOUNT * 2 ^ 40 ∧
      t.time.annS = 0) ∧
  (∀ s b, b < 4 → Strobes s (F.SYN_BURN_CFG_RELOCK b) → s.burnCfgOk b = true → s.view (F.SYN_BURN_CFG_EN b) = 1 →
    s.pdUp (15 + b) = true → s.burnState b ≠ 1 →
    Does (.burnRelock b) s fun t =>
      Strobed s t (F.SYN_BURN_CFG_RELOCK b) ∧ t.burnState b = 1 ∧ Counts s t (0x345 + b) 1) ∧
  (∀ s m, m < 4 → Strobes s (F.OUT_AES_CFG_REALIGN m) → s.get (F.OUT_AES_CFG_MODE m) = 1 → s.view (F.OUT_AES_CFG_MODE m) = 1 →
    s.view (F.OUT_AES_CFG_RATE m) ≠ 7 → s.view (F.OUT_AES_CFG_GRADE m) = 1 ∨ s.view (F.OUT_AES_CFG_GRADE m) = 2 →
    s.aesUp m = true → (s.aes m).tx = 1 →
    Does (.aesRealign m) s fun t =>
      Strobed s t (F.OUT_AES_CFG_REALIGN m) ∧ t.aes m = { s.aes m with tx := 2 }) ∧
  (∀ s, Strobes s F.HMK_TAT_CTL_SWAP → s.get F.HMK_TAT_ST_STATE = 2 →
    Does .tatSwap s fun t =>
      Strobed s t F.HMK_TAT_CTL_SWAP ∧ t.get F.HMK_TAT_ST_LIVE_BANK = (s.get F.HMK_TAT_ST_LIVE_BANK + 1) % 2 ∧
      t.get F.HMK_TAT_ST_STATE = 0) ∧
  (∀ s, Strobes s F.ASY_REF_CTL_CLEAR → refNamed (s.view F.ASY_REF_CTL_REF) = true →
    let r := s.view F.ASY_REF_CTL_REF
    s.refState r ≠ 0 →
    Does .refClear s fun t =>
      Strobed s t F.ASY_REF_CTL_CLEAR ∧ t.refState r = 1 ∧ t.get (F.ASY_REF_ST_BACKOFF r) = 0 ∧ (t.ref r).log = [] ∧
      (t.ref r).accepted = false ∧ ∀ c, c < 8 → t.get (F.ASY_REF_ST_COUNT r c) = 0) ∧
  (∀ s, Strobes s F.SYN_SYNC_CTL_ARM → s.view F.SYN_SYNC_CTL_DISARM = 0 →
    Does .syncArm s fun t => Strobed s t F.SYN_SYNC_CTL_ARM ∧ t.on F.SYN_SYNC_ST_ARMED = true) ∧
  (∀ s, Strobes s F.SYN_SYNC_CTL_DISARM →
    Does .syncDisarm s fun t => Strobed s t F.SYN_SYNC_CTL_DISARM ∧ t.on F.SYN_SYNC_ST_ARMED = false)

/-- R352, R381, R387, R393: the release of a quenched master at the strobe of its group: an engine starts its live program
afresh, a link goes UP or ISOLATED by its digests, a function is no longer quenched; each is recorded. -/
def Sys2Proof.Claims.QuenchReleases : Prop :=
  (∀ s e p, e < 18 → e ≠ 17 → Strobes s (F.ENG_CTL_RELEASE e) → s.engPresent e = true → s.engQuenched e = true → s.prog e = some p →
    Does (.engineRelease e none) s fun t =>
      Strobed s t (F.ENG_CTL_RELEASE e) ∧ t.get (F.ENG_ST_STATE e) = 1 ∧ (t.engine e).wakes = [] ∧ (t.engine e).held = none ∧
      (t.engine e).dm = p.data ∧ ∀ i, i < 16 → t.get (F.ENG_G_VALUE e i) = 0) ∧
  (∀ s l, l < 4 → Strobes s { F.GFL_REL_RELEASE with lo := l, w := 1 } → s.linkState l = 4 →
    Does (.linkRelease l) s fun t =>
      Strobed s t { F.GFL_REL_RELEASE with lo := l, w := 1 } ∧ t.linkState l = (if s.digestsDiffer l then 3 else 2)) ∧
  (∀ s n, n < 1024 → Strobes s { F.TEN_QUENCH_RELEASE_RELEASE (n / 32) with lo := n % 32, w := 1 } → (s.fn n).quenched = true →
    Does (.tenantRelease n) s fun t =>
      Strobed s t { F.TEN_QUENCH_RELEASE_RELEASE (n / 32) with lo := n % 32, w := 1 } ∧ (t.fn n).quenched = false ∧
      t.get (F.TEN_ST_QUENCHED (s.recTenant n)) = 0)

/-- R144, R167, R169, R208, R217, R225, R277: the fields that act at a strobe of their group. A step is armed or disarmed, an
Anneal accepted, a Burnisher searches anew, a transmitter that sends finishes its block first, the staged table becomes the
live one, a reference is cleared to CANDIDATE, the divider reset is armed or disarmed.
R352, R381, R387, R393: the release of a quenched master at the strobe of its group: an engine starts its live program
afresh, a link goes UP or ISOLATED by its digests, a function is no longer quenched; each is recorded. -/
def Obligations.StrobedActionsAndReleases : Prop := StrobedActions ∧ QuenchReleases

/-! ## Ethernet ports (R244 to R272) -/

namespace Sys2Proof.Claims

/-- Statistic k of port p has counted n. -/
def Stat (s t : State) (p k n : Nat) : Prop :=
  t.get (F.ETH_STATS_COUNT p k) = (s.get (F.ETH_STATS_COUNT p k) + n) % 2 ^ 64

/-- A port has left UP (R255, R271): nothing is granted, queued or paused any more, and the change is recorded. -/
def LeftUp (s t : State) (p cause : Nat) : Prop :=
  t.portState p = 3 ∧ (t.port p).resvs = [] ∧ (t.port p).be = [] ∧ (t.port p).pauses = [] ∧
    t.on (F.ETH_ST_PREEMPT_OK p) = false ∧ Reports s t 0 0x0C 0 (pay [(20, 1, p), (21, 1, 3), (22, 1, cause)])

/-- A port of the part in a state. -/
def PortIn (s : State) (p st : Nat) : Prop := s.portPresent p = true ∧ s.portState p = st

end Sys2Proof.Claims

/-- R247, R250, R254, R255, R271: lock gained is dated, and lock lost or a fault received takes a port from UP to FAULT with
all it held; after 1 ms of lock, or without fault, it is UP; its grid and its pre-emption partner show in ETH_ST. -/
def Obligations.PortStates : Prop :=
  (∀ s p, s.portPresent p = true → s.portState p ≠ 0 → s.on (F.ETH_ST_PCS_LOCK p) = false →
    Does (.pcsLockChange p true) s fun t =>
      t.on (F.ETH_ST_PCS_LOCK p) = true ∧ t.port p = { s.port p with lockSince := s.ns } ∧ t.portState p = s.portState p) ∧
  (∀ s p, PortIn s p 2 → s.on (F.ETH_ST_PCS_LOCK p) = true →
    Does (.pcsLockChange p false) s fun t =>
      t.on (F.ETH_ST_PCS_LOCK p) = false ∧ (t.port p).faultAt = s.ns ∧ LeftUp s t p 3) ∧
  (∀ s p, PortIn s p 1 → s.on (F.ETH_ST_PCS_LOCK p) = true → s.on (F.ETH_ST_GRID_OK p) = true → s.time.running = true →
    Does (.portUpTimer p) s fun t =>
      t.portState p = 2 ∧ t.time = (s.runTo ((s.port p).lockSince + 1000000)).time ∧ SameRegs (words [F.ETH_ST_STATE p]) s t) ∧
  (∀ s p, PortIn s p 2 → ∀ cause ∈ [1, 2],
    Does (.portFault p cause) s fun t =>
      t.on (F.ETH_ST_LOCAL_FAULT p) = (if cause = 1 then true else s.on (F.ETH_ST_LOCAL_FAULT p)) ∧
      t.on (F.ETH_ST_REMOTE_FAULT p) = (if cause = 2 then true else s.on (F.ETH_ST_REMOTE_FAULT p)) ∧
      (t.port p).faultAt = s.ns ∧ LeftUp s t p cause) ∧
  (∀ s p, PortIn s p 3 → s.on (F.ETH_ST_PCS_LOCK p) = true → s.time.running = true →
    Does (.portFaultClear p) s fun t =>
      t.portState p = 2 ∧ t.on (F.ETH_ST_LOCAL_FAULT p) = false ∧ t.on (F.ETH_ST_REMOTE_FAULT p) = false ∧
      t.time = (s.runTo (max (s.port p).faultAt (s.port p).lockSince + 1000000)).time ∧
      SameRegs (words [F.ETH_ST_STATE p]) s t) ∧
  (∀ s p lock ph, s.portPresent p = true → s.portState p ≠ 0 →
    Does (.gridLockChange p lock ph) s fun t =>
      t.on (F.ETH_ST_GRID_OK p) = lock ∧ t.port p = (if lock then { s.port p with phase := ph } else s.port p) ∧
      SameRegs (words [F.ETH_ST_GRID_OK p]) s t) ∧
  (∀ s p, PortIn s p 2 → s.on (F.ETH_CFG_PREEMPT p) = true →
    Does (.preemptVerify p) s fun t => t.on (F.ETH_ST_PREEMPT_OK p) = true ∧ Only [F.ETH_ST_PREEMPT_OK p] id s t)

/-- R251 to R256, R265 to R267, R346, R347: a launch cycle begins under SHARE and GUARD as live; a reserved frame launches at
L, with a bad FCS where it strays by more than 1 ns, is missed where a pause or the state forbids it, and is released where
it came late; a best-effort frame goes out where it fits before the next interval, as a fragment, or is held; ETH_SEND queues
one; transmit timestamps are read from their queue, which takes an OVERFLOW entry once 8 places are free. -/
def Obligations.Launches : Prop :=
  (∀ s o id, Acts s o id 4 →
    let p := o.ent.arg
    Does (.launchCycle id) s fun t =>
      Acted s t o ∧ SameRegs [] s t ∧
      t.port p = { s.port p with
        cycStart := t.ns, cycShare := s.get (F.ETH_SLOT_CFG_SHARE p), cycGuard := s.get (F.ETH_SLOT_CFG_GUARD p)
        used := (s.port p).used.filter (fun u => decide (1000 * t.ns ≤ u.2)) }) ∧
  (∀ s p r dev, PortIn s p 2 ∨ PortIn s p 4 → s.time.running = true → State.firstResv (s.port p).resvs = some r → r.ready + 64 ≤ r.lo / 1000 →
    s.launchPaused p r.l = false →
    Does (.launchStart p dev) s fun t =>
      Sends t (.frame p (if r.src = 2 then 4 else 0) r.len r.l (decide (1000 < dev.natAbs)) r.body) ∧
      t.time = (s.runTo (r.l / 1000)).time ∧ (t.port p).resvs = State.dropResv r (s.port p).resvs ∧
      (t.port p).used = (r.lo, r.hi) :: (s.port p).used ∧ (t.port p).busy = max (s.port p).busy r.hi ∧
      (dev.natAbs ≤ 1000 → Stat s t p 13 1 ∧ Stat s t p 11 1 ∧ Stat s t p 12 r.len ∧ Stat s t p 17 0) ∧
      (1000 < dev.natAbs → Stat s t p 13 0 ∧ Stat s t p 11 0 ∧ Stat s t p 17 1)) ∧
  (∀ s p r dev, s.portPresent p = true → s.time.running = true → State.firstResv (s.port p).resvs = some r →
    r.ready + 64 ≤ r.lo / 1000 → s.launchPaused p r.l = true ∨ (s.portState p ≠ 2 ∧ s.portState p ≠ 4) →
    Does (.launchStart p dev) s fun t =>
      (t.port p).resvs = State.dropResv r (s.port p).resvs ∧
      (if s.launchPaused p r.l then Stat s t p 14 1 else Stat s t p 15 1) ∧ Stat s t p 13 0 ∧
      SameRegs (words [F.ETH_STATS_COUNT p 14, F.ETH_STATS_COUNT p 15]) s t) ∧
  (∀ s p r, s.portPresent p = true → s.time.running = true → State.firstResv (s.port p).resvs = some r →
    r.lo / 1000 < r.ready + 64 →
    Does (.launchEmpty p) s fun t =>
      t.port p = { s.port p with resvs := State.dropResv r (s.port p).resvs } ∧ Stat s t p 18 1 ∧
      t.time = (s.runTo (r.lo / 1000 - 64)).time ∧ SameRegs (words [F.ETH_STATS_COUNT p 18]) s t) ∧
  (∀ s e c rest l lo hi excl, e < 8 → s.engPresent e = true → s.engQuenched e = false → (s.engine e).cells.length < 16 →
    (s.engine e).outQ = c :: rest → c.typ = 1 →
    s.grantAt e (c.len - 16 + 4) (1000 * s.unshort (State.cellBytes c.bytes 0 8)).toNat excl = some (l, lo, hi) →
    Does (.txLaunchCell e excl) s fun t =>
      (∃ b, (t.port e).resvs = (s.port e).resvs ++ [⟨l, lo, hi, c.len - 16 + 4, 1, 0, s.ns, b⟩]) ∧
      (t.engine e).outQ = rest ∧ SameRegs [] s t ∧
      (t.engine e).cells = (s.engine e).cells ++
        [⟨1, 13, pack 0 [(0, 8, l / 1000 % 2 ^ 64), (8, 2, psToQ l % 65536), (10, 2, State.cellBytes c.bytes 8 2)]⟩]) ∧
  (∀ s e c rest excl, e < 8 → s.engPresent e = true → s.engQuenched e = false → (s.engine e).cells.length < 16 →
    (s.engine e).outQ = c :: rest → c.typ = 1 →
    s.grantAt e (c.len - 16 + 4) (1000 * s.unshort (State.cellBytes c.bytes 0 8)).toNat excl = none →
    Does (.txLaunchCell e excl) s fun t =>
      (t.engine e).cells = (s.engine e).cells ++ [⟨1, 13, pack 0 [(10, 2, State.cellBytes c.bytes 8 2), (12, 1, 1)]⟩] ∧
      (t.engine e).outQ = rest ∧ (t.port e).resvs = (s.port e).resvs ∧ SameRegs [] s t) ∧
  (∀ s p tpcs e rest, PortIn s p 2 → s.time.running = true → (s.port p).be = e :: rest → (s.port p).pauses = [] →
    let s' := s.runTo (ceilDiv (s.port p).busy 1000)
    let bt := s.bt p
    let room := match State.firstResv (s.port p).resvs with | some r => (r.lo - s'.ps) / bt | none => 0
    let frag := if s.on (F.ETH_CFG_PREEMPT p) && s.on (F.ETH_ST_PREEMPT_OK p) then State.fragBytes room e.left else 0
    let fits := (∀ r, State.firstResv (s.port p).resvs = some r → s'.ps + (preBytes + e.left + gapBytes) * bt ≤ r.lo)
    Does (.beFrameStart p tpcs) s fun t =>
      t.time = s'.time ∧
      (fits → (t.port p).be = rest ∧ (t.port p).busy = s'.ps + (preBytes + e.left + gapBytes) * bt ∧
        Sends t (.frame p (if e.left < e.len then 3 else if e.cmd.isSome then 1 else 2) e.left (s'.ps + preBytes * bt) false e.body) ∧
        Stat s t p 11 1 ∧ Stat s t p 12 e.len ∧ ∀ n, e.cmd = some n → Finished t 0 n cOk) ∧
      (¬fits → frag ≠ 0 → (∃ st, (t.port p).be = { e with left := e.left - frag, stamp := some st } :: rest) ∧
        Sends t (.frame p 3 (frag + 4) (s'.ps + preBytes * bt) false e.body) ∧ Stat s t p 20 1) ∧
      (¬fits → frag = 0 → (t.port p).be = { e with held := true } :: rest ∧ Stat s t p 19 (if e.held then 0 else 1))) ∧
  (∀ s c bytes, s.cmdOf 0 0x701 = some c → s.portState (c.arg 0 1 % 8) = 2 →
    let p := c.arg 0 1 % 8
    let f := State.cellBytes bytes 0 (c.arg 2 2)
    Does (.ethSend true bytes) s fun t =>
      SameRegs [] s t ∧ t.port p = { s.port p with be := (s.port p).be ++
        [⟨some c.n, if bitOf (c.arg 0 1) 3 then some (c.arg 4 2) else none, State.framePrio f, c.arg 2 2 + 4, c.arg 2 2 + 4, false,
          none, .raw f⟩] }) ∧
  (∀ s c ok bytes, s.cmdOf 0 0x701 = some c → ok = false ∨ s.portState (c.arg 0 1 % 8) ≠ 2 →
    Does (.ethSend ok bytes) s fun t =>
      Finished t 0 c.n (if s.portState (c.arg 0 1 % 8) ≠ 2 then cLinkDown else cDmaErr) ∧ t.eth = s.eth ∧ SameRegs [] s t) ∧
  (∀ s p tm n, p < 8 → (s.port p).txtsDrop = some (tm, n) → (s.port p).txts.length ≤ 56 →
    Does (.txtsOverflowEntry p) s fun t =>
      t.port p = { s.port p with txts := (s.port p).txts ++ [⟨0, 2, s.prov, tm, 0, satN 16 n⟩], txtsDrop := none } ∧
      t.get (F.ETH_TXTS_ST_FILL p) = (s.port p).txts.length + 1 ∧ t.on (F.ETH_TXTS_ST_OVF p) = false ∧
      SameRegs (words [F.ETH_TXTS_ST_FILL p]) s t) ∧
  (∀ s p e rest, s.portPresent p = true → s.pow.held = false → (s.port p).txts = e :: rest →
    Does (.txtsPop p) s fun t =>
      Sends t (.readData 0 (F.ETH_TXTS_POP_SHORT p).a 64 e.short) ∧ t.port p = { s.port p with txts := rest } ∧
      t.get (F.ETH_TXTS_ST_FILL p) = rest.length % 2 ^ 7 ∧ t.get (F.ETH_TXTS_INFO_ID p) = e.id % 2 ^ 16 ∧
      t.get (F.ETH_TXTS_INFO_KIND p) = e.kind % 4 ∧ t.on (F.ETH_TXTS_INFO_PROV p) = e.prov ∧
      t.get (F.ETH_TXTS_INFO_FRAC p) = e.frac % 2 ^ 16 ∧ t.get (F.ETH_TXTS_INFO_DCOUNT p) = e.dcount % 2 ^ 16)

/-- R258 to R264, R269, R270: a frame passes the stages of reception in order, and the first that rejects it is counted; a
pause ends when it runs out or its watchdog breaks it; a loop run takes both ports, sends a frame each way, and ends with its
means, or with its cause. -/
def Obligations.ReceptionAndLoop : Prop :=
  (∀ s p (tpcs : Nat) len fcs err bytes, PortIn s p 2 →
    let bad (k : Nat) (t : State) : Prop := Stat s t p k 1 ∧ t.eng = s.eng ∧ SameRegs (words [F.ETH_STATS_COUNT p k]) s t
    let rts := ((tpcs : Int) - psToQ16 (s.getI (F.ETH_TS_LAT_RX_LAT p))).toNat
    let max := s.get (F.ETH_CFG_MAX_LEN p)
    Does (.frameReceive p tpcs len fcs err bytes) s fun t =>
      (err = true ∨ (len < 64 ∧ fcs = false) → bad 4 t) ∧
      (err = false → len < 64 → fcs = true → bad 3 t) ∧
      (err = false → 64 ≤ len → max < len → bad 5 t) ∧
      (err = false → 64 ≤ len → len ≤ max → fcs = false → bad 2 t) ∧
      (err = false → 64 ≤ len → len ≤ max → fcs = true → State.pauseOp bytes = none →
        (s.daPasses p bytes = false → bad 6 t) ∧
        (s.daPasses p bytes = true → 262144 < s.bufferUsed p + len → bad 7 t) ∧
        (s.daPasses p bytes = true → s.bufferUsed p + len ≤ 262144 →
          Stat s t p 0 1 ∧ Stat s t p 1 len ∧ (s.engQuenched p = true → Stat s t p 10 1 ∧ t.eng = s.eng) ∧
          (s.engQuenched p = false → t.engine p = { s.engine p with
            frames := (s.engine p).frames ++ [⟨p, len, bytes, rts / 65536 % 2 ^ 64, rts % 65536⟩] })))) ∧
  (∀ s p k z, alGet (s.port p).pauses k = some z → s.time.running = true →
    Does (.pauseEnd p k) s fun t =>
      t.port p = { s.port p with pauses := alDel (s.port p).pauses k } ∧ t.time = (s.runTo (ceilDiv z.until_ 1000)).time ∧
      SameRegs [] s t) ∧
  (∀ s p k z, p < 8 → alGet (s.port p).pauses k = some z → s.time.running = true →
    let due := z.since + 1000 * s.get (F.ETH_PAUSE_WD_WD p)
    1000 * due ≤ z.until_ →
    Does (.pauseWatchdog p k) s fun t =>
      t.port p = { s.port p with pauses := alDel (s.port p).pauses k } ∧ Stat s t p 21 1 ∧ t.time = (s.runTo due).time ∧
      SameRegs (words [F.ETH_STATS_COUNT p 21]) s t) ∧
  (∀ s, s.pow.held = false →
    let a := s.get F.ETH_LOOP_CFG_PORT_A
    let b := s.get F.ETH_LOOP_CFG_PORT_B
    let ok := s.feat 17 && decide (a ≠ b) && decide (s.portState a = 2) && decide (s.portState b = 2) && s.eth.loop.isNone
    Does .loopGo s fun t =>
      (ok = true → t.eth.loop = some ⟨a, b, s.eth.runs % 2 ^ 32, s.get F.ETH_LOOP_CFG_N, s.ns, 0, [], [], []⟩ ∧
        t.portState a = 4 ∧ t.portState b = 4 ∧ t.get F.ETH_LOOP_ST_STATE = 1 ∧ t.get F.ETH_LOOP_ST_CAUSE = 0) ∧
      (ok = false → t.get F.ETH_LOOP_ST_CAUSE = 4 ∧ Only [F.ETH_LOOP_ST_CAUSE] id s t)) ∧
  (∀ s r, s.pow.held = false → s.eth.loop = some r → r.a < 8 → r.b < 8 → s.portState r.a = 4 → s.portState r.b = 4 →
    Does .loopAbort s fun t =>
      t.eth = { s.eth with loop := none } ∧ t.portState r.a = 2 ∧ t.portState r.b = 2 ∧ t.get F.ETH_LOOP_ST_STATE = 3 ∧
      t.get F.ETH_LOOP_ST_CAUSE = 5 ∧ t.get F.ETH_LOOP_ST_T_DONE = s.short) ∧
  (∀ (s : State) r, s.eth.loop = some r → r.sent < r.n → s.time.running = true → r.a ≠ r.b → r.a < 8 → r.b < 8 →
    Does .loopFrameLaunch s fun t =>
      t.time = (s.runTo (r.goAt + 10000 + 1000 * r.sent)).time ∧
      (∃ q, t.eth.loop = some q ∧ q.sent = r.sent + 1 ∧ q.ab = r.ab ∧ q.ba = r.ba) ∧
      ∀ p ∈ [r.a, r.b], ∃ l, 1000 * (r.goAt + 10000 + 1000 * r.sent) ≤ l ∧
        Sends t (.frame p 4 64 l false (.loop (s.get F.SYS_STRAP_DEVID) r.run r.sent))) ∧
  (∀ (s : State) r, s.eth.loop = some r → r.ab.length = r.n → r.ba.length = r.n → r.a < 8 → r.b < 8 →
    let x := State.loopResult r.ab (s.getI F.ETH_LOOP_FIB_FIB_AB)
    let y := State.loopResult r.ba (s.getI F.ETH_LOOP_FIB_FIB_BA)
    Does .loopRunEnd s fun t =>
      t.eth = { s.eth with loop := none } ∧ t.portState r.a = 2 ∧ t.portState r.b = 2 ∧ t.get F.ETH_LOOP_ST_STATE = 2 ∧
      t.get F.ETH_LOOP_ST_NOK = r.n % 2 ^ 16 ∧ t.get F.ETH_LOOP_ST_R_AB = ofSigned 32 x.1 ∧
      t.get F.ETH_LOOP_ST_R_BA = ofSigned 32 y.1 ∧ t.get F.ETH_LOOP_ST_RMS_AB = x.2 % 2 ^ 32 ∧
      t.get F.ETH_LOOP_ST_RMS_BA = y.2 % 2 ^ 32 ∧ t.get F.ETH_LOOP_ST_T_DONE = s.short) ∧
  (∀ (s : State) r, s.eth.loop = some r → r.ab.length < r.n ∨ r.ba.length < r.n → s.time.running = true → r.a < 8 → r.b < 8 →
    Does .loopTimeout s fun t =>
      t.eth = { s.eth with loop := none } ∧ t.get F.ETH_LOOP_ST_STATE = 3 ∧ t.get F.ETH_LOOP_ST_CAUSE = 3 ∧
      t.time = (s.runTo (r.goAt + 2000 * r.n + 1000000)).time)

/-! ## GNSS (R102 to R126) -/

namespace Sys2Proof.Claims

/-- Channel c, and no other, has changed state (R111). -/
def ChMoved (s t : State) (c new : Nat) : Prop :=
  t.chState c = new ∧ (t.gnsCh c).next = none ∧ (t.gnsCh c).since = t.ns ∧ (t.gnsCh c).lockSince = none ∧
    (t.gnsCh c).lowSince = none ∧ SameRegs (words [F.GNS_CH_STAT_STATE c]) s t

/-- The change that waits once another is asked for: one to IDLE gives way only to a new enable, one to LOST only to IDLE or ACQ. -/
def waits (x : Option Nat) (new : Nat) : Option Nat :=
  if (x = some 0 ∧ new ≠ 1) ∨ (x = some 4 ∧ 2 ≤ new) then x else some new

/-- Every channel that a test picks is to change state at its next integration boundary. -/
def Requested (s t : State) (p : Nat → Bool) (new : Nat) : Prop :=
  ∀ c, c < 256 → (t.gnsCh c).next = if p c then waits (s.gnsCh c).next new else (s.gnsCh c).next

/-- Channel c, and no other, is to change state at its next integration boundary, and nothing else has changed but time. -/
def ChAsked (s t : State) (c new at_ : Nat) : Prop :=
  (t.gnsCh c).next = some new ∧ (∀ c', c' ≠ c → t.gnsCh c' = s.gnsCh c') ∧ t.time = (s.runTo at_).time ∧ SameRegs [] s t

/-- The state at channel c's integration boundary (R110). -/
def atIntegration (s : State) (c : Nat) : State :=
  if (s.chState c = 2 ∨ s.chState c = 3 ∨ s.chState c = 4) ∧ s.time.running = true then
    s.runTo ((s.gnsCh c).intAt + s.integMs c * 1000000)
  else s

/-- The satellites that a solution uses: those Assay engine 0 leaves, if it runs. -/
def solUses (s : State) (f : GnsFix) : List GnsSat :=
  if s.engRuns 12 then (s.gnsVerdict f).used else s.usable (f.sats.filter fun x => s.satBands x.sys x.svid ≠ [])

end Sys2Proof.Claims

/-- R106 to R108, R110, R111, R113, R115, R365: a clock fault is shown and takes the channels on its input to LOST, and a recovery
clears it; the third sensor sample of a new class confirms it; a channel moves at an integration boundary, and is asked to by
held lock and by each of its time limits; a front-end transfer starts, and ends with the bits it received. -/
def Obligations.GnssInputsAndChannels : Prop :=
  (∀ s i rate (ms : GsiMs), i < 4 → s.on (F.GNS_GSI_CFG_EN i) = true → s.pdUp 12 = true → rate = false ∨ s.gsiOff i ms.khz = true →
    Does (.gsiClockFault i rate ms) s fun t =>
      t.get (F.GNS_GSI_STAT_MEAS_KHZ i) = satN 17 ms.khz ∧
      t.on (F.GNS_GSI_STAT_RATE_ERR i) = (rate || s.on (F.GNS_GSI_STAT_RATE_ERR i)) ∧
      t.on (F.GNS_GSI_STAT_CLK_OK i) = (rate && s.on (F.GNS_GSI_STAT_CLK_OK i)) ∧
      Requested s t (fun c => s.chTracks c && decide (s.get (F.GNS_CH_CFG_GSI c) = i)) 4 ∧
      SameRegs (words [F.GNS_GSI_STAT_CLK_OK i]) s t) ∧
  (∀ s i (ms : GsiMs), i < 4 → s.on (F.GNS_GSI_CFG_EN i) = true → s.pdUp 12 = true → s.gsiOff i ms.khz = false →
    Does (.gsiClockFault i true ms) s fun t =>
      t.get (F.GNS_GSI_STAT_MEAS_KHZ i) = satN 17 ms.khz ∧ t.gns = s.gns ∧ Only [F.GNS_GSI_STAT_MEAS_KHZ i] id s t) ∧
  (∀ s i (ms : GsiMs), i < 4 → s.on (F.GNS_GSI_CFG_EN i) = true → s.pdUp 12 = true →
    Does (.gsiClockRecover i ms) s fun t =>
      t.get (F.GNS_GSI_STAT_MEAS_KHZ i) = satN 17 ms.khz ∧
      t.on (F.GNS_GSI_STAT_CLK_OK i) = (!s.gsiOff i ms.khz || s.on (F.GNS_GSI_STAT_CLK_OK i)) ∧
      t.on (F.GNS_GSI_STAT_RATE_ERR i) = (s.gsiOff i ms.khz && s.on (F.GNS_GSI_STAT_RATE_ERR i)) ∧
      t.time = (s.runTo ((alGet s.gns.gsiBad i).getD 0 + 10000000)).time ∧ SameRegs (words [F.GNS_GSI_STAT_CLK_OK i]) s t) ∧
  (∀ s a x, a < 2 → s.on (F.GNS_ANT_CFG_EN a) = true → s.pdUp 12 = true →
    let cls := s.antClass a x
    let old := s.get (F.GNS_ANT_STAT_STATE a)
    let run := if (s.ant a).cand = cls then (s.ant a).run + 1 else 1
    Does (.antSample a x) s fun t =>
      t.get (F.GNS_ANT_STAT_CURRENT a) = satN 13 x ∧
      (cls = old → (t.ant a).run = 0 ∧ t.get (F.GNS_ANT_STAT_STATE a) = old) ∧
      (cls ≠ old → run ≠ 3 → (t.ant a).run = run ∧ (t.ant a).cand = cls ∧ t.get (F.GNS_ANT_STAT_STATE a) = old) ∧
      (cls ≠ old → run = 3 →
        t.get (F.GNS_ANT_STAT_STATE a) = cls ∧
        t.get (F.GNS_ANT_STAT_CHANGES a) = (s.get (F.GNS_ANT_STAT_CHANGES a) + 1) % 2 ^ 8 ∧
        (t.ant a).run = 0 ∧ (t.ant a).cand = cls ∧
        (old = 2 → (t.ant a).removed = true ∧ (s.get F.GNS_SRCH_STAT_STATE ≠ 1 →
          Requested s t (fun c => s.chTracks c && s.gsiOfAnt a (s.get (F.GNS_CH_CFG_GSI c))) 4)) ∧
        (cls = 2 → old ≠ 0 → (t.ant a).removed = false ∧ t.get F.GNS_SRCH_STAT_STATE = 2 ∧
          t.gns.settle = some (s.ns + s.get (F.GNS_ANT_CFG_SETTLE a) * 1000000)))) ∧
  (∀ s c code carr bit half slip cn0, c < 256 → s.pdUp 12 = true →
    let low := decide (cn0 < s.get F.GNS_TRK_CFG_CN0_LOSS * 256)
    let s' := atIntegration s c
    let heard := s.gsiUsed (s.get (F.GNS_CH_CFG_GSI c)) && !s.gnsGated
    Does (.gnsIntegration c code carr bit half slip cn0) s fun t =>
      t.time = s'.time ∧
      (∀ new, (s.gnsCh c).next = some new → new < 6 → ChMoved s t c new) ∧
      ((s.gnsCh c).next = none → heard = true → s.chState c = 2 ∨ s.chState c = 3 →
        (t.gnsCh c).codeLock = code ∧ (t.gnsCh c).carrLock = carr ∧ t.on (F.GNS_CH_STAT_BITSYNC c) = bit ∧
        t.get (F.GNS_CH_STAT_CN0 c) = satN 10 (cn0 * 10 / 256) ∧ t.chState c = s.chState c ∧ (t.gnsCh c).intAt = s'.ns ∧
        (t.gnsCh c).lockSince = (if code && carr then some ((s.gnsCh c).lockSince.getD s'.ns) else none) ∧
        (t.gnsCh c).lowSince = (if low then some ((s.gnsCh c).lowSince.getD s'.ns) else none)) ∧
      ((s.gnsCh c).next = none → heard = true → s.chState c = 4 → low = false → ChMoved s t c 2) ∧
      ((s.gnsCh c).next = none → heard = false ∨ (s.chState c ≠ 2 ∧ s.chState c ≠ 3 ∧ s.chState c ≠ 4) → t.gns = s.gns ∧ SameRegs [] s t)) ∧
  (∀ s c u, c < 256 → s.chState c = 2 → (s.gnsCh c).next = none → s.gsiUsed (s.get (F.GNS_CH_CFG_GSI c)) = true →
    (s.gnsCh c).lockSince = some u →
    Does (.pullLockHeld c) s fun t =>
      ChAsked s t c 3 (u + 100000000) ∧ (t.gnsCh c).codeLock = true ∧ (t.gnsCh c).carrLock = true) ∧
  (∀ s c, c < 256 → s.chState c = 2 → (s.gnsCh c).next = none → s.gns.burst = false →
    Does (.pullTimeout c) s fun t => ChAsked s t c 1 ((s.gnsCh c).since + s.get F.GNS_TRK_CFG_PULL_MS * 1000000)) ∧
  (∀ s c u, c < 256 → s.chState c = 3 → (s.gnsCh c).next = none → (s.gnsCh c).lowSince = some u →
    Does (.cn0LossTimeout c) s fun t => ChAsked s t c 4 (u + 200000000)) ∧
  (∀ s c, c < 256 → s.chState c = 4 → (s.gnsCh c).next = none →
    Does (.coastTimeout c) s fun t => ChAsked s t c 1 ((s.gnsCh c).since + s.get F.GNS_TRK_CFG_COAST_S * 1000000000)) ∧
  (∀ s v, s.pow.held = false → s.postBusy 2 = false →
    let w := aliasVal 0 (s.regs.word F.GNS_GFE_CMD_CS.a).toNat ((v % 2 ^ 32) ||| 1) 0xFF03FE
    Does (.gfeTransfer v) s fun t =>
      (State.gfeOk w = true →
        Sends t (.spi (1 + bitsOf w 1 2) (bitsOf w 4 6) (s.get F.GNS_GFE_DATA_DATA % 2 ^ bitsOf w 4 6)) ∧
        t.hif.posted = s.hif.posted ++ [⟨2, F.GNS_GFE_CMD_CS.a, 0, (v % 2 ^ 32) ||| 1⟩] ∧ SameRegs [] s t) ∧
      (State.gfeOk w = false → t.hif.posted = s.hif.posted ∧ Counts s t 0x010 1)) ∧
  (∀ s v, s.pow.held = false → s.postBusy 2 = true → Does (.gfeTransfer v) s fun t => t.hif.posted = s.hif.posted ∧ t.gns = s.gns) ∧
  (∀ s rx p, s.hif.posted.find? State.gfeGo = some p →
    let w := aliasVal p.al (s.regs.word F.GNS_GFE_CMD_CS.a).toNat p.v 0xFF03FE
    Does (.gfeTransferDone rx) s fun t =>
      t.regs.word F.GNS_GFE_CMD_CS.a = BitVec.ofNat 32 w ∧ t.hif.posted = s.hif.posted.filter (fun q => q.win ≠ 2) ∧
      t.get F.GNS_GFE_DATA_DATA =
        (if bitsOf w 3 1 = 1 then rx % 2 ^ bitsOf w 4 6 % 2 ^ 32 else s.get F.GNS_GFE_DATA_DATA) ∧
      SameRegs (words [F.GNS_GFE_CMD_CS, F.GNS_GFE_DATA_DATA]) s t)

/-- R112 to R115, R117, R118, R121, R123, R125: the search starts with a cause at its first satellite, steps through its
dwells and stops; an aided window hands over its detections, or counts a drop; a latch fills a bank of records; a solution
is shown with its claim and goes to Assay; a burst starts and ends on its milliseconds. -/
def Obligations.GnssSearchAndEpochs : Prop :=
  (∀ s, s.pow.held = false → s.pdUp 12 = true →
    Does .searchStart s fun t =>
      t.get F.GNS_SRCH_STAT_CAUSE = 1 ∧ t.get F.GNS_SRCH_STAT_DET = 0 ∧ t.gns.settle = none ∧
      (∀ p, s.nextSat none = some p → t.get F.GNS_SRCH_STAT_STATE = 1 ∧ t.on F.GNS_STAT_SRCH_RUN = true ∧
        t.gns.pos = some ⟨p.1, p.2, 0, 0, false, s.ns⟩) ∧
      (s.nextSat none = none → t.get F.GNS_SRCH_STAT_STATE = 0 ∧ t.on F.GNS_STAT_SRCH_RUN = false ∧ t.gns.pos = none ∧
        Counts s t 0x183 1)) ∧
  (∀ s, s.pow.held = false →
    Does .searchAbort s fun t =>
      t.get F.GNS_SRCH_STAT_STATE = 0 ∧ t.on F.GNS_STAT_SRCH_RUN = false ∧
      Only [F.GNS_SRCH_STAT_STATE, F.GNS_STAT_SRCH_RUN] (fun x => { x with gns := { x.gns with pos := none, settle := none } }) s t) ∧
  (∀ s p (d : Dwell), s.gns.pos = some p → s.get F.GNS_SRCH_STAT_STATE = 1 →
    let s' := s.runTo (p.since + s.get F.GNS_SRCH_CFG_NONCOH * 1000000)
    let hit := decide (s.get F.GNS_SRCH_CFG_THR ≤ d.ratio) && s.sigHeard p.sig
    Does (.searchDwell d) s fun t =>
      t.time = s'.time ∧
      (p.check = false → hit = true → t.gns.pos = some { p with check := true, since := s'.ns } ∧ SameRegs [] s t) ∧
      (p.check = true ∨ hit = false → p.seg + 1 < State.codeSegs p.sig →
        t.gns.pos = some { p with seg := p.seg + 1, check := false, since := s'.ns }) ∧
      (p.check = true ∨ hit = false → State.codeSegs p.sig ≤ p.seg + 1 → p.bin + 1 < s.dopplerBins →
        t.gns.pos = some { p with seg := 0, bin := p.bin + 1, check := false, since := s'.ns }) ∧
      (p.check = true → t.get F.GNS_SRCH_STAT_DET =
        (if hit then satN 8 (s.get F.GNS_SRCH_STAT_DET + 1) else s.get F.GNS_SRCH_STAT_DET))) ∧
  (∀ s g (win : AidWin) second dets, g < 4 → s.gsiUsed g = true → s.get F.GNS_AID_CFG_AID_TEB_MAX ≠ 0 →
    second = true ∨ (win.eph = true ∧ s.aidedReady = true) → s.antUnsettled g win.dur = false → s.gnsGated = false →
    (s.get F.GNS_SRCH_STAT_STATE = 1 → s.inputOf g = false) →
    Does (.aidedDwell g win second dets) s fun t =>
      (s.get F.GNS_AID_CFG_AID_PASSES < win.passes →
        t.get F.GNS_SRCH_STAT_DROP = satN 8 (s.get F.GNS_SRCH_STAT_DROP + 1) ∧ Counts s t 0x186 1 ∧
        SameRegs (words [F.GNS_SRCH_STAT_DROP]) s t) ∧
      (win.passes ≤ s.get F.GNS_AID_CFG_AID_PASSES → dets = [] → t = s) ∧
      (∀ d, win.passes ≤ s.get F.GNS_AID_CFG_AID_PASSES → dets = [d] → s.sigServed d.1 = true → 1 ≤ d.2.1 → d.2.1 ≤ State.sigMax d.1 →
        State.sigBand d.1 = s.get (F.GNS_GSI_CFG_BAND g) → (second = true → s.satTracked d.1 d.2.1 = true) →
        t.get F.GNS_SRCH_STAT_DET = satN 8 (s.get F.GNS_SRCH_STAT_DET + 1) ∧ Counts s t 0x184 1 ∧
        (∀ c, c < 256 → (∀ k, k < 256 → s.chPair k = (d.1, d.2.1) → k = c) → s.chState c = 4 → s.chPair c = (d.1, d.2.1) →
          (s.gnsCh c).next = none → (t.gnsCh c).next = some 2))) ∧
  (∀ s u, s.gns.settle = some u → s.pdUp 12 = true →
    Does .searchSettleEnd s fun t =>
      t.get F.GNS_SRCH_STAT_CAUSE = 3 ∧ t.get F.GNS_SRCH_STAT_DET = 0 ∧ t.gns.settle = none ∧ t.time = (s.runTo u).time) ∧
  (∀ s u, s.gns.lostSince = some u → s.pdUp 12 = true → s.get F.GNS_SRCH_STAT_STATE = 0 →
    Does .allLostTimeout s fun t =>
      t.get F.GNS_SRCH_STAT_CAUSE = 2 ∧ t.get F.GNS_SRCH_STAT_DET = 0 ∧ t.gns.lostSince = some t.ns ∧
      t.time = (s.runTo (u + s.get F.GNS_TRK_CFG_ALL_LOST_S * 1000000000)).time) ∧
  (∀ s o id caps, Acts s o id 12 → s.pdUp 12 = true →
    let s' := s.runTo (s.dueOf o.ent).toNat
    let b := s.get F.GNS_EPOCH_ST_SEQ % 2
    Does (.gnssEpoch id caps) s fun t =>
      Acted s t o ∧
      ((∀ x, s.gns.latch = some x → x.1 + 10000000 ≤ s'.ns) →
        (∀ c, c < 256 → t.get (F.GNS_MEAS_RECORD b c) = s'.gnsRecord caps c % 2 ^ 256) ∧
        t.get F.GNS_EPOCH_ST_T = s'.short ∧ t.get F.GNS_EPOCH_ST_SEQ = (s.get F.GNS_EPOCH_ST_SEQ + 1) % 2 ^ 32 ∧
        t.get F.GNS_EPOCH_ST_BANK = b ∧ t.on F.GNS_EPOCH_ST_PROV = s.prov ∧
        t.get F.GNS_EPOCH_ST_NVALID = (State.gnsAll.filter s.recValid).length ∧ t.gns.solDue = true) ∧
      (∀ x, s.gns.latch = some x → s'.ns < x.1 + 10000000 →
        t.get F.GNS_EPOCH_ST_SKIPPED = (s.get F.GNS_EPOCH_ST_SKIPPED + 1) % 2 ^ 8 ∧ t.gns = s.gns ∧
        SameRegs (words [F.GNS_EPOCH_ST_SKIPPED]) s t)) ∧
  (∀ s f, s.gns.solDue = true → s.engRuns 9 = true →
    let used := solUses s f
    let formed := decide (s.solMin ≤ used.length)
    Does (.solutionCompute f) s fun t =>
      t.gns.solDue = false ∧ t.on F.GNS_STAT_SOL_VALID = formed ∧ t.on F.GNS_SOL_VALID = formed ∧
      (formed = true →
        t.get F.GNS_SOL_OFFSET = ofSigned 64 (s.gnssOffset f) ∧ t.get F.GNS_SOL_T = s.get F.GNS_EPOCH_ST_T ∧
        t.get F.GNS_SOL_NSV = used.length % 2 ^ 8 ∧ t.get F.GNS_SOL_SEQ = (s.get F.GNS_SOL_SEQ + 1) % 2 ^ 32 ∧
        t.get F.GNS_SOL_CLAIM = toFloat (s.gnsClaim f used (decide (s.get F.GNS_POS_CFG_MODE = 0))) % 2 ^ 32) ∧
      (formed = true → (s.gnsVerdict f).cls = 0 → s.engRuns 12 = true →
        t.on F.ASY_GNSS_ST_USED = true ∧
        ∃ m, t.asy.inbox = s.asy.inbox ++ [m] ∧ m.ref = 28 ∧ m.off = some (-s.gnssOffset f) ∧ m.tod = none)) ∧
  (∀ s o id, Acts s o id 15 → s.pdUp 12 = true → s.gns.suspended = false →
    let d := ((s.runTo (s.dueOf o.ent).toNat).ns / 1000000 % 1000 + s.get F.GNS_DORM_CFG_LEAD_MS) % 1000
    Does (.gnssBurst id) s fun t =>
      Acted s t o ∧ SameRegs [] s t ∧
      (s.dormantWanted = true → d = 0 → t.gns.burst = true ∧
        Requested s t (fun c => decide (s.chState c = 3) || decide (s.chState c = 5)) 2) ∧
      (s.dormantWanted = true → d ≠ 0 → s.get F.GNS_DORM_CFG_BURST_MS ≤ d → s.gns.burst = true → t.gns.burst = false ∧
        Requested s t (fun c => decide (s.chState c = 2) || decide (s.chState c = 3)) 5) ∧
      (s.dormantWanted = false → Requested s t (fun c => decide (s.chState c = 5)) 2))

/-! ## Hallmark (R273 to R302, R410) -/

namespace Sys2Proof.Claims

/-- Statistic k of Hallmark has counted n. -/
def HStat (s t : State) (k n : Nat) : Prop :=
  t.get (F.HMK_STATS_COUNT k) = (s.get (F.HMK_STATS_COUNT k) + n) % 2 ^ 64

/-- The request r stands first on port p, is read as m, and belongs to tenant t (R276). -/
def ReqFor (s : State) (p : Nat) (m : ReqMsg) (r : HReq) (rest : List HReq) (t : Nat) : Prop :=
  p < 8 ∧ s.hmkQueue p = r :: rest ∧ s.on F.HMK_STAT_STANDBY = false ∧ s.hmkReady = true ∧ s.cg r.cfg (F.HMK_PORT_CFG_EN p) ≠ 0 ∧
    State.resolveTenant (s.cgTat r.cfg) p m = some t

/-- The register words that a request's shard map is read from. -/
def mapOfReq (s : State) (r : HReq) : Store := match r.cfg with | some c => c.regs | none => s.regs

/-- The oldest cell of link l is c. -/
def FirstCell (s : State) (l : Nat) (c : GCell) (rest : List (GCell × Nat)) : Prop := ∃ a, (s.link l).inq = (c, a) :: rest

/-- The answer of an NTP request (R283). -/
def ntpJob (s : State) (r : HReq) (m : ReqMsg) (t vn poll xmit : Nat) (kod : Bool) : HJob :=
  ⟨t, r.f.port, m.kind, m.vlan, s.rxNs r.f, none, r.cfg, .ntp vn poll xmit (s.rxQ r.f) kod none⟩

/-- Command c of HMK_CLIENT, of function fn, waits with an operation on a key that is served here and that the function may
name. -/
def ClientCmd (s : State) (fn op : Nat) (c : Cmd) : Prop :=
  s.cmdOf fn 0x0802 = some c ∧ c.arg 0 1 = op ∧ (fn = 0 ∨ (State.clientArg c).1 = s.cmdTenant fn) ∧
    ∀ l d, s.shardOf (State.clientArg c).1 (State.clientArg c).2.1 (State.clientArg c).2.2.2 ≠ .remote l d

/-- The entry that the key of an HMK_CLIENT command names. -/
def clientOf (s : State) (c : Cmd) : Option Client :=
  s.findClient (State.clientArg c).1 (State.clientArg c).2.1 (State.clientArg c).2.2.1 (State.clientArg c).2.2.2

end Sys2Proof.Claims

/-- R275, R276, R281 to R283, R289, R293, R294, R297, R410: a request is counted and refused with the statistic of its cause,
or its bucket is charged and its answer joins those in hand; one not sealed within 8 µs is dropped; an answer's launch is
reserved, or refused; a scheduled message is due at the next multiple of its interval; an owner charges a SHARD_REQ and
answers its verdict, which the receiving device acts on. -/
def Obligations.HallmarkService : Prop :=
  (∀ s p m r rest, p < 8 → s.hmkQueue p = r :: rest →
    (s.on F.HMK_STAT_STANDBY = true → Does (.hmkRequest p m) s fun t =>
      t.hmkQueue p = rest ∧ HStat s t 24 1 ∧ HStat s t (State.reqStat m) 1 ∧ t.hmk.jobs = s.hmk.jobs) ∧
    (s.on F.HMK_STAT_STANDBY = false → s.hmkReady = false ∨ s.cg r.cfg (F.HMK_PORT_CFG_EN p) = 0 → Does (.hmkRequest p m) s fun t =>
      t.hmkQueue p = rest ∧ HStat s t 28 1 ∧ HStat s t (State.reqStat m) 1 ∧ t.hmk.jobs = s.hmk.jobs) ∧
    (s.on F.HMK_STAT_STANDBY = false → s.hmkReady = true → s.cg r.cfg (F.HMK_PORT_CFG_EN p) ≠ 0 →
      State.resolveTenant (s.cgTat r.cfg) p m = none → Does (.hmkRequest p m) s fun t =>
      t.hmkQueue p = rest ∧ HStat s t 4 1 ∧ HStat s t (State.reqStat m) 1 ∧ t.hmk.jobs = s.hmk.jobs)) ∧
  (∀ s p m r rest t0 k, ReqFor s p m r rest t0 → s.refuses ⟨r, m, t0⟩ = some k →
    Does (.hmkRequest p m) s fun t =>
      t.hmkQueue p = rest ∧ HStat s t k 1 ∧ HStat s t (State.reqStat m) 1 ∧ t.hmk.jobs = s.hmk.jobs ∧ t.hmk.table = s.hmk.table) ∧
  (∀ s p m r rest t0 c vn poll xmit, ReqFor s p m r rest t0 → s.refuses ⟨r, m, t0⟩ = none → m.body = .ntp 3 vn poll xmit none →
    m.miss = false → s.shardIn (mapOfReq s r) t0 r.f.port m.src = .here → s.findClient t0 r.f.port m.kind m.src = some c →
    c.blocked = false →
    let e := s.refill r.cfg c m.vlan r.f.short
    let gap := (s.rxNs r.f / 1000000000 % 65536 + 65536 - c.kodAt) % 65536
    Does (.hmkRequest p m) s fun t =>
      t.hmkQueue p = rest ∧ HStat s t 0 1 ∧
      (65536 ≤ e.tokens →
        t.findClient t0 r.f.port m.kind m.src = some { e with tokens := e.tokens - 65536 } ∧
        t.hmkJobs r.f.port = s.hmkJobs r.f.port ++ [ntpJob s r m t0 vn poll xmit false]) ∧
      (e.tokens < 65536 → s.cg r.cfg (F.HMK_TEN_CFG_KOD_GAP t0) ≤ gap →
        HStat s t 10 1 ∧ t.hmkJobs r.f.port = s.hmkJobs r.f.port ++ [ntpJob s r m t0 vn poll xmit true]) ∧
      (e.tokens < 65536 → gap < s.cg r.cfg (F.HMK_TEN_CFG_KOD_GAP t0) →
        HStat s t 9 1 ∧ t.findClient t0 r.f.port m.kind m.src = some e ∧ t.hmk.jobs = s.hmk.jobs)) ∧
  (∀ s p,
    (∀ j rest, s.hmkJobs p = j :: rest → j.nominal = none →
      Does (.staleReq p) s fun t => t.hmkJobs p = rest ∧ HStat s t 16 1 ∧ t.time = (s.runTo (j.rx + 8000)).time) ∧
    (∀ r rest, s.hmkJobs p = [] → s.hmk.shards.find? (fun x => x.req.f.port = p) = none → s.hmkQueue p = r :: rest →
      Does (.staleReq p) s fun t => t.hmkQueue p = rest ∧ HStat s t 16 1 ∧ t.time = (s.runTo (s.rxNs r.f + 8000)).time)) ∧
  (∀ s p j rest excl lat, s.hmkJobs p = j :: rest →
    let late := j.nominal.isNone && decide (j.rx + 8000 ≤ s.ns)
    let lreq := match j.nominal with | some n => n * 1000 | none => s.ps + 1000 * s.cg j.cfg (F.HMK_PORT_CFG_MARGIN j.port)
    Does (.launchRequest p excl lat) s fun t =>
      t.hmkJobs p = rest ∧
      (late = true → HStat s t 16 1 ∧ t.eth = s.eth) ∧
      (late = false → s.jobKey j = none → t.eth = s.eth ∧
        t.get (F.KVT_STATS_COUNT 5) = (s.get (F.KVT_STATS_COUNT 5) + 1) % 2 ^ 64) ∧
      (∀ key l lo hi, late = false → s.jobKey j = some key → s.feat 16 = true →
        s.grantAt j.port (s.jobLen j) lreq excl = some (l, lo, hi) → s.stillGranted j l = true →
        ∃ b, (t.port j.port).resvs = (s.port j.port).resvs ++ [⟨l, lo, hi, s.jobLen j, 0, j.tenant, s.ns + lat, b⟩]) ∧
      (∀ key, late = false → s.jobKey j = some key → s.feat 16 = true → s.grantAt j.port (s.jobLen j) lreq excl = none →
        HStat s t 13 1 ∧ t.eth = s.eth)) ∧
  (∀ s t0 p msg client log, s.on F.HMK_STAT_STANDBY = false → s.hmkReady = true → msg < 2 → s.time.running = true →
    s.flowLog t0 p msg client = some log →
    let per := State.logNs log
    let f := s.flow t0 p msg client
    let m := s.get (F.HMK_PORT_CFG_MARGIN p)
    let first := ceilDiv (s.ns + m) per * per
    let n := if first ≤ f.last then (f.last / per + 1) * per else first
    let c := client.map Prod.snd
    Does (.announceSyncSend t0 p msg client) s fun t =>
      t.time = (s.runTo (n - m)).time ∧ t.flow t0 p msg client = { f with last := n, seq := (f.seq + 1) % 65536 } ∧
      ∃ j, t.hmkJobs p = s.hmkJobs p ++ [j] ∧ j.tenant = t0 ∧ j.port = p ∧ j.nominal = some n ∧
        j.what = (if msg = 0 then .announce f.seq c else .sync f.seq c)) ∧
  (∀ s l c rest miss ue, FirstCell s l c rest → c.typ = 3 → State.cellBytes c.payload 7 1 = 0 → s.flows l 4 = true →
    (s.link l).unacked.length < 512 → (s.link l).waiting = [] →
    let pl := c.payload
    let now := State.wireBytes pl 24 8
    let t0 := State.wireBytes pl 4 2
    let p := State.cellBytes pl 6 1 % 8
    let v := if s.sharedKey l t0 p then
        (s.chargeClient none t0 p (State.cellBytes pl 6 1 / 8 % 4) (State.cellBytes pl 8 16) 0 now
          ((s.unshort now).toNat / 1000000000) true miss ue).2
      else 4
    Does (.shardReqReceive l miss ue) s fun t =>
      (t.link l).inq = rest ∧ t.get F.GFL_SHARD_ST_REMOTE_IN = (s.get F.GFL_SHARD_ST_REMOTE_IN + 1) % 2 ^ F.GFL_SHARD_ST_REMOTE_IN.w ∧
      ∃ x, x.typ = 4 ∧ x.payload = pack 0 [(0, 4, State.cellBytes pl 0 4), (4, 1, v), (5, 4, State.bswap 4 0)] ∧
        Sends t (.cell l x)) ∧
  (∀ s l c rest, FirstCell s l c rest → c.typ = 4 →
    let tag := State.wireBytes c.payload 0 4
    Does (.shardRespReceive l) s fun t =>
      (t.link l).inq = rest ∧
      (s.hmk.shards.find? (fun x => x.link = l && x.tag = tag) = none → t.hmk = s.hmk) ∧
      (∀ x vn poll xmit mode, s.hmk.shards.find? (fun x => x.link = l && x.tag = tag) = some x →
        x.msg.body = .ntp mode vn poll xmit none → s.on F.HMK_STAT_STANDBY = false →
        t.hmk.shards = s.hmk.shards.filter (fun y => !(y.link = l && y.tag = tag)) ∧
        t.hmkJobs x.req.f.port = s.hmkJobs x.req.f.port ++
          (if State.cellBytes c.payload 4 1 = 0 ∨ State.cellBytes c.payload 4 1 = 2 then
            [ntpJob s x.req x.msg x.tenant vn poll xmit (decide (State.cellBytes c.payload 4 1 = 2))] else [])))

/-- R277, R280, R287, R288, R292, R302: an idle entry is reclaimed, and an expired grant leaves the load; cookies are sealed
and written to the host; a client entry is read, blocked, unblocked or deleted; a table is read and judged, and its valid
entries fill the idle bank; a rotation makes the next key the current one and the current one the previous. -/
def Obligations.HallmarkTables : Prop :=
  (∀ s t0 p kind addr c, s.findClient t0 p kind addr = some c → s.engQuenched 16 = false → c.blocked = false →
    c.grants.any (fun g => State.grantLive g.2 s.sec) = false →
    (3 * 2 ^ s.get (F.HMK_TEN_CFG_MAXPOLL t0) : Int) * 1000000000 ≤ Machine.sdiff c.lastSeen s.short →
    Does (.clientReclaim t0 p kind addr) s fun t =>
      t.findClient t0 p kind addr = none ∧ t.get (F.HMK_TEN_ST_USED t0) = (s.get (F.HMK_TEN_ST_USED t0) - 1) ∧
      t.get F.HMK_CT_ST_USED = s.get F.HMK_CT_ST_USED - 1 ∧ State.clientKey c ∈ t.hmk.firstKind) ∧
  (∀ s t0 p kind addr c k g, s.findClient t0 p kind addr = some c → alGet c.grants k = some g → g.gdur ≠ 0 →
    State.grantLive g s.sec = false →
    Does (.grantExpiry t0 p kind addr k) s fun t =>
      t.get F.HMK_CT_ST_GRANT_LOAD = s.grantedRate (fun _ => true) / 128 % 2 ^ 25 ∧ Only [F.HMK_CT_ST_GRANT_LOAD] id s t) ∧
  (∀ s fn c id key c2s s2c took, s.cmdOf fn 0x0801 = some c → fn = 0 ∨ c.arg 0 2 = s.cmdTenant fn →
    c.arg 2 1 ≠ 0 → c.arg 2 1 ≤ 8 → s.get (F.HMK_TEN_CFG_NTS_EN (c.arg 0 2)) ≠ 0 → s.currentKey none (c.arg 0 2) 0 = some (id, key) →
    Does (.hmkMint fn true c2s s2c took) s fun t =>
      t.draws = s.draws + min (c.arg 2 1) took ∧ Finished t fn c.n (if c.arg 2 1 ≤ took then cOk else cDmaErr) ∧
      (∀ i, i < min (c.arg 2 1) took → Sends t
        (.hostWrite fn (c.arg 12 8 + 104 * i) 104 (State.makeCookie (s.draws + i) id key (c.arg 0 2) c2s s2c))) ∧ SameRegs [] s t) ∧
  (∀ s fn c ok c2s s2c took, s.cmdOf fn 0x0801 = some c →
    let t0 := c.arg 0 2
    Does (.hmkMint fn ok c2s s2c took) s fun t =>
      (fn ≠ 0 → t0 ≠ s.cmdTenant fn → Finished t fn c.n cNotPermitted) ∧
      (fn = 0 ∨ t0 = s.cmdTenant fn →
        (c.arg 2 1 = 0 ∨ 8 < c.arg 2 1 → Finished t fn c.n cBadCount) ∧
        (c.arg 2 1 ≠ 0 → c.arg 2 1 ≤ 8 → s.get (F.HMK_TEN_CFG_NTS_EN t0) = 0 → Finished t fn c.n cNtsOff) ∧
        (c.arg 2 1 ≠ 0 → c.arg 2 1 ≤ 8 → s.get (F.HMK_TEN_CFG_NTS_EN t0) ≠ 0 → s.currentKey none t0 0 = none →
          Finished t fn c.n cNoKey))) ∧
  (∀ s fn c e, ClientCmd s fn 0 c → clientOf s c = some e →
    Does (.clientRead fn true) s fun t =>
      Sends t (.hostWrite fn (c.arg 20 8) 64 (State.clientBytes e)) ∧ Finished t fn c.n cOk ∧ t.hmk = s.hmk ∧ SameRegs [] s t) ∧
  (∀ s fn c e, ClientCmd s fn 1 c → clientOf s c = some e →
    Does (.clientBlock fn) s fun t =>
      clientOf t c = some { e with blocked := true } ∧ Finished t fn c.n cOk ∧ SameRegs [] s t) ∧
  (∀ s fn c e, ClientCmd s fn 2 c → clientOf s c = some e →
    Does (.clientUnblock fn) s fun t =>
      clientOf t c = some { e with blocked := false } ∧ Finished t fn c.n cOk ∧ SameRegs [] s t) ∧
  (∀ s fn c e, ClientCmd s fn 3 c → clientOf s c = some e →
    Does (.clientDelete fn) s fun t =>
      clientOf t c = none ∧ Finished t fn c.n cOk ∧ t.get F.HMK_CT_ST_USED = s.get F.HMK_CT_ST_USED - 1) ∧
  (∀ s fn c op ok, ∀ i ∈ [Instr.clientRead fn ok, .clientUnblock fn, .clientDelete fn],
    i = .clientRead fn ok ∧ op = 0 ∨ i = .clientUnblock fn ∧ op = 2 ∨ i = .clientDelete fn ∧ op = 3 →
    ClientCmd s fn op c → clientOf s c = none →
    Does i s fun t => Finished t fn c.n cNotFound ∧ t.hmk = s.hmk ∧ SameRegs [] s t) ∧
  (∀ s fn c, ClientCmd s fn 1 c → clientOf s c = none →
    Does (.clientBlock fn) s fun t =>
      if s.clientRoom (State.clientArg c).1 then
        Finished t fn c.n cOk ∧ ∃ e, clientOf t c = some e ∧ e.blocked = true ∧ e.grants = []
      else Finished t fn c.n cTableFull ∧ t.hmk = s.hmk) ∧
  (∀ s base n, s.pow.held = false →
    Does (.tatLoad base n) s fun t =>
      t.get F.HMK_TAT_LOAD_BASE = base % 2 ^ 64 ∧ t.get F.HMK_TAT_LOAD_COUNT = n % 2 ^ 13 ∧
      (if s.get F.HMK_TAT_ST_STATE = 1 ∨ s.get F.HMK_TAT_ST_STATE = 2 then
        t.get F.HMK_TAT_ST_CAUSE = 4 ∧ t.get F.HMK_TAT_ST_STATE = s.get F.HMK_TAT_ST_STATE
      else t.get F.HMK_TAT_ST_CAUSE = 0 ∧ t.get F.HMK_TAT_ST_STATE = 1 ∧ t.get F.HMK_TAT_ST_BAD_INDEX = 0) ∧
      Only [F.HMK_TAT_LOAD_BASE, F.HMK_TAT_LOAD_COUNT, F.HMK_TAT_ST_STATE] id s t) ∧
  (∀ s ents, s.get F.HMK_TAT_ST_STATE = 1 →
    let n := s.get F.HMK_TAT_LOAD_COUNT
    1 ≤ n → n ≤ 4096 →
    Does (.tatLoadDone ents none) s fun t =>
      (s.tatScan none (ents.take n) 0 [] = none →
        t.get F.HMK_TAT_ST_STATE = 2 ∧
        (if s.on F.HMK_TAT_ST_LIVE_BANK then t.hmk.bank0 else t.hmk.bank1) = (ents.take n).filter (fun e => e.valid) ∧
        t.liveTat = s.liveTat ∧ SameRegs (words [F.HMK_TAT_ST_STATE]) s t) ∧
      (∀ i k, s.tatScan none (ents.take n) 0 [] = some (i, k) →
        t.get F.HMK_TAT_ST_STATE = 3 ∧ t.get F.HMK_TAT_ST_CAUSE = k ∧ t.get F.HMK_TAT_ST_BAD_INDEX = i ∧ t.hmk = s.hmk)) ∧
  (∀ s o id, Acts s o id 10 →
    let t0 := bitsOf o.ent.arg 0 10
    let k := bitsOf o.ent.arg 10 6
    k < 3 →
    Does (.keyRotate id) s fun t =>
      Acted s t o ∧
      (s.on (F.HMK_KEY_ST_NEXT_VALID t0 k) = true →
        t.get (F.HMK_KEY_ST_CUR_ID t0 k) = s.get (F.KVT_SLOT_KEY_ID (s.get (F.HMK_KEY_NEXT_SLOT t0 k))) ∧
        t.get (F.HMK_KEY_ST_CUR_SLOT t0 k) = s.get (F.HMK_KEY_NEXT_SLOT t0 k) ∧ t.on (F.HMK_KEY_ST_CUR_VALID t0 k) = true ∧
        t.get (F.HMK_KEY_ST_PREV_ID t0 k) = s.get (F.HMK_KEY_ST_CUR_ID t0 k) ∧
        t.get (F.HMK_KEY_ST_PREV_VALID t0 k) = s.get (F.HMK_KEY_ST_CUR_VALID t0 k) ∧ t.on (F.HMK_KEY_ST_NEXT_VALID t0 k) = false ∧
        t.get (F.HMK_KEY_ST_ROTATIONS t0 k) = (s.get (F.HMK_KEY_ST_ROTATIONS t0 k) + 1) % 2 ^ 16 ∧ Counts s t 0x4E9 1) ∧
      (s.on (F.HMK_KEY_ST_NEXT_VALID t0 k) = false → SameRegs [] s t))

/-! ## Reference inputs and the interval counter (R69 to R101, R346, R347, R492 to R494) -/

namespace Sys2Proof.Claims

/-- An anomaly of class c stands in the log of reference r, which is enabled, dated to the present tick, and is counted. -/
def Raised (s t : State) (r c : Nat) : Prop :=
  s.refState r ≠ 0 → (c, s.time.tickNo) ∈ (t.ref r).log ∧ Counts s t (0x1C0 + 8 * r + c) 1

/-- What an anomaly of class c writes of the registers of reference r. -/
def refFlds (r c : Nat) : List Fld := [F.ASY_REF_ST_COUNT r c, F.ASY_REF_ST_TIMER r]

/-- Engine e has room for a cell. -/
def Room (s : State) (e : Nat) : Prop :=
  s.engPresent e = true ∧ s.engQuenched e = false ∧ (s.engine e).cells.length < 16

/-- The next cell that engine e has posted. -/
def OutCell (s : State) (e typ : Nat) (c : Cell) (rest : List Cell) : Prop := (s.engine e).outQ = c :: rest ∧ c.typ = typ

/-- The next characters of a ToD slot that engine 10 has been given. -/
def IsChars (s : State) (c : Cell) : Prop :=
  (s.engine 10).cells.find? (fun c => c.typ = 1 && bitOf (State.cellBytes c.bytes 0 1) 2) = some c

/-- An edge that source src may take, whose prescaler passes it, with the channel that stamps it. -/
def EdgePasses (s : State) (src : Nat) (falling : Bool) (ch : Nat) : Prop :=
  src < 24 ∧ s.time.running = true ∧ s.on (F.REF_SRC_STAT_PRESENT src) = true ∧ s.edgeTaken src falling = true ∧
    s.get (F.REF_IN_PRE_DIV src) ≤ (s.src src).sel + 1 ∧ s.chOf src = some ch ∧ s.ticOn ch = true

/-- What an edge that passed the prescaler does before any channel sees it (R73, R75). -/
def EdgeSeen (s t : State) (src : Nat) : Prop :=
  t.get (F.REF_SRC_STAT_EDGES src) = (s.get (F.REF_SRC_STAT_EDGES src) + 1) % 2 ^ 16 ∧
    t.on (F.REF_SRC_STAT_LOS src) = (if src < 16 then false else s.on (F.REF_SRC_STAT_LOS src)) ∧
    t.src src = ⟨0, s.ns, decide (src < 16), if s.on (F.REF_SRC_STAT_LOS src) then s.ns else (s.src src).okAt⟩ ∧ Counts s t (0x040 + src) 1

/-- What an edge writes of the registers of its source. -/
def edgeFlds (src : Nat) : List Fld := [F.REF_SRC_STAT_EDGES src]

/-- Where an edge with ADC code `code` meets the converter of a channel, 2^-16 ns. -/
def edgeAt16 (s : State) (ch code : Nat) : Int := roundRat (s.rawStamp ch (code % 4096) 2)

/-- The last edge of a channel lies outside the dead time (R87). -/
def NotBlind (s : State) (ch code : Nat) : Prop := ∀ t, (s.ticCh ch).lastEdge = some t → t + 16 * 65536 ≤ edgeAt16 s ch code

/-- A channel x with its gate, and what is kept for that gate, as in y. -/
def gateAs (x y : TicSt) : TicSt := { x with gate := y.gate, gatePre := y.gatePre, cycAt := y.cycAt, cycEdges := y.cycEdges }

/-- The staging buffer of a channel takes a record (R89, R91, R94). -/
def Stages (s : State) (ch : Nat) : Prop :=
  s.get (F.TIC_CH_CFG_QMODE ch) ≠ 2 ∧ (s.ticCh ch).stage.length < 64 ∧ ((s.ticCh ch).drops = none ∨ (s.ticCh ch).older = 0)

/-- RECORD of a ToD slot: bytes 0 to 17 as sent, a reserved LEAP as 0, with EDGE and PAIR (R80). -/
def todWord (rec_ edge pairing : Nat) : Nat :=
  let r := rec_ % 2 ^ 144
  let r := if 2 < State.cellBytes r 10 1 then r - State.cellBytes r 10 1 * 2 ^ 80 else r
  (r + edge % 2 ^ 64 * 2 ^ 160 + pairing * 2 ^ 224) % 2 ^ 256

/-- A ToD message is paired with the edge stamped v: its record, the count, and the measurement of reference 24 + i (R81, R82,
R136, R494). -/
def Paired (s t : State) (i rec_ : Nat) (v : Int) : Prop :=
  let fl := State.cellBytes rec_ 7 1
  t.get (F.REF_TOD_ST_RECORD i) = todWord rec_ (State.stampShort v) 0 ∧ (t.tod i).last = s.ns ∧ Counts s t (0x078 + i) 1 ∧
    { s.measOf (24 + i) (ofFloat (State.cellBytes rec_ 12 4)) with
      off := some (State.wrapOff State.secQ v)
      abs := if bitOf fl 0 && !bitOf fl 2 then some (v - State.todTai rec_ * State.secQ) else none
      tod := if bitOf fl 2 then none
        else some ((State.todTai rec_).toNat, ((v + State.secQ / 2) / State.secQ).toNat, toSigned 16 (State.cellBytes rec_ 8 2)) } ∈ t.asy.inbox

/-- A ToD message could not be paired (R81). -/
def Unpaired (s t : State) (i rec_ pairing : Nat) : Prop :=
  t.get (F.REF_TOD_ST_RECORD i) = todWord rec_ 0 pairing ∧ Raised s t (24 + i) 4 ∧ t.asy.inbox = s.asy.inbox

end Sys2Proof.Claims

/-- R73 to R75, R86 to R90, R494: the prescaler counts an edge or passes it; one that passes clears LOS, and its channel
stages a STAMP record, or a NO_STAMP record where the code is out of span; one in a calibration window waits for it, and one
whose charging meets a tick boundary waits for that. -/
def Obligations.ReferenceEdges : Prop :=
  (∀ s src falling code, src < 24 → s.time.running = true → s.on (F.REF_SRC_STAT_PRESENT src) = true →
    s.edgeTaken src falling = true → (s.src src).sel + 1 < s.get (F.REF_IN_PRE_DIV src) →
    Does (.refEdge src falling code) s fun t =>
      t = ((s.pinActivity src).irigEdge src falling).setSrc src { s.src src with sel := (s.src src).sel + 1 }) ∧
  (∀ s src falling code ch, EdgePasses s src falling ch → NotBlind s ch code → (s.ticCh ch).win = none → 1 ≤ code →
    code ≤ 4094 → s.overBoundary = false → Stages s ch →
    let x := s.ticCh ch
    let v := s.stampOf ch code 2
    let cs := s.on (F.TIC_CH_STAT_CSTALE ch)
    let ps := s.on (F.TIC_CH_STAT_PSTALE ch)
    Does (.refEdge src falling code) s fun t =>
      EdgeSeen s t src ∧
      gateAs (t.ticCh ch) x = { x with
        lastEdge := some (edgeAt16 s ch code), dcount := 0, stamp := some v, prevStamp := x.stamp
        stage := x.stage ++ [s.ticRec ch (State.stampShort v) (State.stampFrac v) falling 0 0 (x.dcount + 1)] } ∧
      (x.gate = none → (t.ticCh ch).gate = none) ∧
      (∀ g, x.gate = some g → ∃ g', (t.ticCh ch).gate = some g' ∧ g'.k = g.k + 1 ∧ g'.n = g.n + 1 ∧ g'.sk = g.sk + g.k ∧
        g'.st = g.st + (v - g.start) ∧ g'.gap = g.gap) ∧
      (s.srcKind src = 1 → { s.measOf src (s.refClaim src cs ps) with
        cstale := cs, pstale := ps, parts := s.refParts src cs ps, off := some (State.wrapOff State.secQ v) } ∈ t.asy.inbox) ∧
      Counts s t (0x080 + 16 * ch) 1 ∧
      ((∀ i < 4, s.uartOn (4 + i) = true → s.get (F.REF_TOD_CFG_PPS_IN i) = src → s.on (F.REF_TOD_CFG_REFERS i) = false) →
        SameRegs (words (edgeFlds src)) s t)) ∧
  (∀ s src falling code ch, EdgePasses s src falling ch → NotBlind s ch code → (s.ticCh ch).win = none → 1 ≤ code →
    code ≤ 4094 → s.overBoundary = true →
    let x := s.ticCh ch
    Does (.refEdge src falling code) s fun t =>
      EdgeSeen s t src ∧ SameRegs (words (edgeFlds src)) s t ∧ t.asy = s.asy ∧
      t.tic.cross = s.tic.cross ++ [⟨ch, src, falling, code, s.time.cyc, x.dcount + 1⟩] ∧
      t.ticCh ch = { x with lastEdge := some (edgeAt16 s ch code), dcount := 0 }) ∧
  (∀ s src falling code ch, EdgePasses s src falling ch → NotBlind s ch code → (s.ticCh ch).win = none →
    code < 1 ∨ 4094 < code → Stages s ch →
    let x := s.ticCh ch
    let v : Int := (s.q16 : Int) - s.getI (F.TIC_PATH_PATH ch)
    Does (.refEdge src falling code) s fun t =>
      EdgeSeen s t src ∧ SameRegs (words (edgeFlds src)) s t ∧ Counts s t (0x081 + 16 * ch) 1 ∧
      gateAs (t.ticCh ch) x = { x with
        lastEdge := some (edgeAt16 s ch code), dcount := 0
        stage := x.stage ++ [s.ticRec ch (State.stampShort v) 0 falling 2 1 (x.dcount + 1)] } ∧
      (∀ g, x.gate = some g → (t.ticCh ch).gate = some { g with k := g.k + 1, gap := true })) ∧
  (∀ s src falling code ch w, EdgePasses s src falling ch → NotBlind s ch code → (s.ticCh ch).win = some w →
    let x := s.ticCh ch
    Does (.refEdge src falling code) s fun t =>
      EdgeSeen s t src ∧ SameRegs (words (edgeFlds src)) s t ∧
      gateAs (t.ticCh ch) x = { x with
        lastEdge := some (edgeAt16 s ch code), win := some { w with active := w.active || !w.cdc }
        nostamp := some (match x.nostamp with | some (f, n, p) => (f, n + 1, p) | none => ((s.q16 : Int), 1, falling)) } ∧
      (∀ g, x.gate = some g → (t.ticCh ch).gate = some { g with k := g.k + 1, gap := true }))

/-- R87: after an accepted edge a channel is blind for 16 ns: an edge that comes sooner is not accepted; it adds to the edge
count and to the next record's DCOUNT, is counted in TIC_DEAD, and produces no record; one that comes later is accepted. -/
def Obligations.ChannelDeadTime : Prop :=
  (∀ s src falling code ch last, EdgePasses s src falling ch → (s.ticCh ch).lastEdge = some last →
    edgeAt16 s ch code < last + 16 * 65536 →
    let x := s.ticCh ch
    Does (.refEdge src falling code) s fun t =>
      EdgeSeen s t src ∧ SameRegs (words (edgeFlds src)) s t ∧ Counts s t (0x084 + 16 * ch) 1 ∧
      { gateAs (t.ticCh ch) x with win := x.win } = { x with dcount := x.dcount + 1 } ∧
      (x.gate = none → (t.ticCh ch).gate = none) ∧
      (∀ g, x.gate = some g → (t.ticCh ch).gate = some { g with k := g.k + 1 })) ∧
  (∀ s src falling code ch last, EdgePasses s src falling ch → (s.ticCh ch).lastEdge = some last →
    last + 16 * 65536 ≤ edgeAt16 s ch code →
    Does (.refEdge src falling code) s fun t =>
      EdgeSeen s t src ∧ (t.ticCh ch).lastEdge = some (edgeAt16 s ch code) ∧ Counts s t (0x084 + 16 * ch) 0)

/-- R73, R74, R78, R79, R346, R347: a REFIN input that stays silent loses its signal; a SyncE source follows its port's lock;
a character waits in its receive FIFO with its errors counted, or is lost; characters leave as one cell for engine 10; a status
port holds its last message and goes STALE without one, each with the anomalies of its clock; a failed check is counted; an
upstream exchange is a measurement. -/
def Obligations.ReferenceInputs : Prop :=
  (∀ (s : State) n, n < 16 → s.time.running = true → (s.src n).armed = true → s.on (F.REF_IN_CFG_EN n) = true →
    Does (.losExpiry n) s fun t =>
      t.on (F.REF_SRC_STAT_LOS n) = true ∧ t.src n = { s.src n with armed := false } ∧ (s.refState n ≠ 0 → (t.ref n).lossByRef = true) ∧
      t.time = (s.runTo ((s.src n).last + 2 ^ s.get (F.REF_IN_CFG_LOS_EXP n))).time ∧ Counts s t (0x058 + n) 1 ∧
      Raised s t n 2 ∧ SameRegs (words (F.REF_SRC_STAT_LOS n :: refFlds n 2)) s t) ∧
  (∀ (s : State) p, p < 8 → s.part.small = false ∨ p < 4 → s.on (F.ETH_ST_PCS_LOCK p) = true →
    s.on (F.REF_SRC_STAT_PRESENT (16 + p)) = false →
    Does (.synceLockChange p true) s fun t =>
      t.on (F.REF_SRC_STAT_PRESENT (16 + p)) = true ∧ t.on (F.REF_SRC_STAT_LOS (16 + p)) = false ∧
      Only [F.REF_SRC_STAT_PRESENT (16 + p)] (fun x => x.setSrc (16 + p) ⟨0, s.ns, false, s.ns⟩) s t) ∧
  (∀ (s : State) p, p < 8 → s.part.small = false ∨ p < 4 → s.on (F.ETH_ST_PCS_LOCK p) = false →
    s.on (F.REF_SRC_STAT_PRESENT (16 + p)) = true →
    Does (.synceLockChange p false) s fun t =>
      t.on (F.REF_SRC_STAT_PRESENT (16 + p)) = false ∧ t.on (F.REF_SRC_STAT_LOS (16 + p)) = true ∧
      SameRegs (words [F.REF_SRC_STAT_PRESENT (16 + p)]) s t ∧
      t.src (16 + p) = { s.src (16 + p) with armed := false }) ∧
  (∀ (s : State) p lock, s.on (F.ETH_ST_PCS_LOCK p) ≠ lock → Does (.synceLockChange p lock) s fun t => t = s) ∧
  (∀ (s : State) u c framing parity, u < 8 → s.uartOn u = true →
    Does (.uartChar u c framing parity) s fun t =>
      let full := decide (256 ≤ (s.uart u).chars.length)
      t.get (F.REF_UART_STAT_FRAMING u) = min 255 (s.get (F.REF_UART_STAT_FRAMING u) + if framing then 1 else 0) ∧
      t.get (F.REF_UART_STAT_PARITY u) = min 255 (s.get (F.REF_UART_STAT_PARITY u) + if parity then 1 else 0) ∧
      t.get (F.REF_UART_STAT_OVERRUN u) = min 255 (s.get (F.REF_UART_STAT_OVERRUN u) + if full then 1 else 0) ∧
      Counts s t (0x070 + u) (if framing || parity || full then 1 else 0) ∧
      (t.uart u).chars = (if full then (s.uart u).chars else (s.uart u).chars ++ [(c % 256, framing || parity, s.ns)]) ∧
      SameRegs (words [F.REF_UART_STAT_FRAMING u]) s t) ∧
  (∀ (s : State) u, u < 8 → (s.uart u).chars ≠ [] → s.time.running = true → Room s 10 →
    let l := (s.uart u).chars
    let cns := State.charNs (s.uartCfg u)
    Does (.charsDeliver u) s fun t =>
      t.time = (if 192 ≤ l.length then s.time else (s.runTo ((l.getLastD (0, false, 0)).2.2 + 2 * cns)).time) ∧
      (t.uart u).chars = l.drop 192 ∧ SameRegs [] s t ∧
      t.engine 10 = { s.engine 10 with cells := (s.engine 10).cells ++ [State.charsCell u cns (l.take 192)] }) ∧
  (∀ (s : State) a, a < 4 → s.time.running = true → s.on (F.REF_APORT_CFG_EN a) = true →
    Does (.aportStale a) s fun t =>
      let s' := s.runTo ((s.aport a).since + s.get (F.REF_APORT_CFG_TMO a) * 1000000000)
      t.on (F.REF_APORT_ST_STALE a) = true ∧ t.time = s'.time ∧ t.aport a = { s.aport a with since := s'.ns } ∧
      ∀ p ∈ s.refin.aportClk, p.1 = a → ∀ r ∈ State.refNums, s.memberOf r = some p.2 → s.refState r ≠ 0 →
        (6, s.time.tickNo) ∈ (t.ref r).log) ∧
  (∀ (s : State) c rest, OutCell s 10 1 c rest → s.on (F.REF_APORT_CFG_EN (State.cellBytes c.bytes 0 1 % 4)) = true →
    Does .aportStCell s fun t =>
      let a := State.cellBytes c.bytes 0 1 % 4
      let tune := toSigned 32 (State.cellBytes c.bytes 4 4)
      let jumped := ∃ o, (s.aport a).tune = some o ∧ s.get F.ASY_TUNE_STEP_TUNE_STEP < (tune - o).natAbs
      (t.engine 10).outQ = rest ∧ t.aport a = ⟨s.ns, some tune⟩ ∧
      t.on (F.REF_APORT_ST_LOCK a) = bitOf c.bytes 8 ∧ t.on (F.REF_APORT_ST_ALARM a) = bitOf c.bytes 9 ∧
      t.on (F.REF_APORT_ST_VALID a) = true ∧ t.on (F.REF_APORT_ST_STALE a) = false ∧
      t.get (F.REF_APORT_ST_TEMP a) = State.cellBytes c.bytes 2 2 ∧ t.get (F.REF_APORT_ST_TUNE a) = State.cellBytes c.bytes 4 4 ∧
      t.get (F.REF_APORT_ST_MSG_TIME a) = s.short ∧
      (bitOf c.bytes 9 = true ∨ bitOf c.bytes 8 = false ∨ jumped →
        ∀ p ∈ s.refin.aportClk, p.1 = a → ∀ r ∈ State.refNums, s.memberOf r = some p.2 → s.refState r ≠ 0 →
          (6, s.time.tickNo) ∈ (t.ref r).log) ∧
      (bitOf c.bytes 9 = false → bitOf c.bytes 8 = true → ¬jumped → t.asy = s.asy ∧
        SameRegs (words [F.REF_APORT_ST_LOCK a, F.REF_APORT_ST_TUNE a, F.REF_APORT_ST_MSG_TIME a]) s t)) ∧
  (∀ (s : State) c rest, OutCell s 10 3 c rest →
    Does .checkCell s fun t =>
      let u := State.cellBytes c.bytes 0 1 % 8
      t = (s.setEngine 10 { s.engine 10 with outQ := rest }).set (F.REF_UART_STAT_CHECK u) (min 255 (s.get (F.REF_UART_STAT_CHECK u) + 1))) ∧
  (∀ (s : State) e c rest, e < 8 → OutCell s e 2 c rest →
    Does (.upstreamCell e) s fun t =>
      let r := 29 + State.cellBytes c.bytes 12 1 % 2
      let off := toSigned 64 (State.cellBytes c.bytes 0 8)
      t.asy.inbox = s.asy.inbox ++ [{ s.measOf r (ofFloat (State.cellBytes c.bytes 8 4)) with
        off := some off, abs := some off, at_ := (s.unshort (State.cellBytes c.bytes 16 8)).toNat }] ∧
      (t.engine e).outQ = rest ∧ SameRegs [] s t)

/-- R80 to R85, R136: a message that names the previous edge is paired with it where the first character came 1 ms to
900 ms after it, and else recorded with why not; one that names the next edge waits for it, at most 900 ms; Celmir's own
parsers drop, count or take the characters of a message; an IRIG frame names its own on-time edge; a slot without a paired record for 2.5 s takes a LOSS. -/
def Obligations.TimeOfDayInputs : Prop :=
  (∀ (s : State) c rest, OutCell s 10 2 c rest →
    let i := State.cellBytes c.bytes 0 1 % 4
    let rec_ := State.cellBytes c.bytes 20 18
    s.uartOn (4 + i) = true → s.get (F.REF_TOD_CFG_SRC i) = 0 →
    Does .todMsgCell s fun t =>
      (t.engine 10).outQ = rest ∧
      (2 < State.cellBytes rec_ 6 1 →
        t.get (F.REF_UART_STAT_CHECK (4 + i)) = min 255 (s.get (F.REF_UART_STAT_CHECK (4 + i)) + 1) ∧
        SameRegs (words [F.REF_UART_STAT_CHECK (4 + i)]) s t ∧ t.refin = s.refin ∧ t.asy = s.asy) ∧
      (State.cellBytes rec_ 6 1 ≤ 2 → s.on (F.REF_TOD_CFG_REFERS i) = true → SameRegs [] s t ∧
        t.tod i = { s.tod i with
          msgs := (s.tod i).msgs ++ [(rec_, (s.unshort (State.cellBytes c.bytes 12 8)).toNat)] }) ∧
      (State.cellBytes rec_ 6 1 ≤ 2 → s.on (F.REF_TOD_CFG_REFERS i) = false →
        let first : Int := ((s.unshort (State.cellBytes c.bytes 4 8)).toNat : Int) * 65536
        (s.chOf (s.get (F.REF_TOD_CFG_PPS_IN i)) = none → Unpaired s t i rec_ 1) ∧
        (∀ ch v, s.chOf (s.get (F.REF_TOD_CFG_PPS_IN i)) = some ch → s.ticOn ch = true → (s.ticCh ch).stamp = some v → v ≤ first →
          (first - v < 1000000 * 65536 ∨ 900000000 * 65536 < first - v → Unpaired s t i rec_ 2) ∧
          (1000000 * 65536 ≤ first - v → first - v ≤ 900000000 * 65536 → Paired s t i rec_ v)))) ∧
  (∀ (s : State) c r, s.engTakes 10 = true → (s.engine 10).outQ = [] → IsChars s c →
    let i := State.cellBytes c.bytes 0 1 % 4
    let l := State.cellChars c
    (s.tod i).text = [] → s.uartOn (4 + i) = true → s.get (F.REF_TOD_CFG_SRC i) = 0 → scanTod (l.map Prod.fst) = .msg l.length r → l ≠ [] →
    Does .todMsgCell s fun t =>
      let s' := s.setEngine 10 { s.engine 10 with cells := (s.engine 10).cells.erase c }
      (t.engine 10).cells = (s.engine 10).cells.erase c ∧
      (r = .drop → SameRegs [] s t ∧ t.tod i = s.tod i ∧ t.asy = s.asy) ∧
      (r = .check ∨ (r ≠ .drop ∧ l.any (fun x => x.2.1) = true) →
        t.get (F.REF_UART_STAT_CHECK (4 + i)) = min 255 (s.get (F.REF_UART_STAT_CHECK (4 + i)) + 1) ∧
        SameRegs (words [F.REF_UART_STAT_CHECK (4 + i)]) s t ∧ t.tod i = s.tod i ∧ t.asy = s.asy) ∧
      (∀ b, r = .record b → l.any (fun x => x.2.1) = false →
        t = (s'.setTod i { s.tod i with text := [] }).todMessage i b (State.cellBytes c.bytes 4 8) (State.cellBytes c.bytes 12 8))) ∧
  (∀ (s : State) i, i < 4 → s.time.running = true → s.uartOn (4 + i) = true →
    Does (.todLossTimeout i) s fun t =>
      let s' := s.runTo ((s.tod i).last + 2500000000)
      t.time = s'.time ∧ t.tod i = { s.tod i with last := s'.ns } ∧ Raised s t (24 + i) 2 ∧
      SameRegs (words (refFlds (24 + i) 2)) s t) ∧
  (∀ (s : State) i r at_ rest, i < 4 → s.time.running = true → (s.tod i).msgs = (r, at_) :: rest →
    Does (.todPairWindowExpiry i) s fun t =>
      t.time = (s.runTo (at_ + 900000000)).time ∧ t.tod i = { s.tod i with msgs := rest } ∧ Unpaired s t i r 1 ∧
      SameRegs (words (F.REF_TOD_ST_RECORD i :: refFlds (24 + i) 4)) s t) ∧
  (∀ (s : State) n ok sec mn hour doy (year : Option Nat) l at_ edge i, n < 16 → s.on (F.REF_IN_CFG_EN n) = true → s.get (F.REF_IN_CFG_KIND n) = 3 →
    (s.irig n).done = some (l, at_, edge) → irigTold l ok sec mn hour doy year = true → i < 4 → s.uartOn (4 + i) = true → s.get (F.REF_TOD_CFG_SRC i) = 1 →
    s.get (F.REF_TOD_CFG_PPS_IN i) = n →
    let scale := s.get (F.REF_TOD_CFG_IRIG_SCALE i)
    let q : Int := (at_ : Int) * 65536
    let now := if scale = 0 then (State.utcScale s.tsk.leap q).q else if scale = 1 then q else q - 19 * State.secQ
    let y := match year with | some y => 2000 + y | none => (State.civilOf (now / State.secQ / 86400)).1.toNat
    let bad := ok = false ∨ doy = 0 ∨ 366 < doy ∨ (doy = 366 ∧ State.isLeap y = false)
    let r := pack 0 [(0, 6, ofSigned 48 ((State.daysOf y 1 1 + (doy - 1 : Nat)) * 86400 + (hour * 3600 + mn * 60 + sec : Nat))),
      (6, 1, scale), (7, 1, if !year.isSome && s.prov then 5 else 1),
      (8, 2, ofSigned 16 (State.taiUtc s.tsk.leap (q / State.secQ))), (12, 4, 0xFFFFFFFF)]
    Does (.irigFrame n ok sec mn hour doy year edge) s fun t =>
      (bad → t.get (F.REF_UART_STAT_CHECK (4 + i)) = min 255 (s.get (F.REF_UART_STAT_CHECK (4 + i)) + 1) ∧ t.tod i = s.tod i) ∧
      (¬bad → ∀ v, edge = some v → Paired s t i r v) ∧
      (¬bad → edge = none → t.get (F.REF_TOD_ST_RECORD i) = todWord r 0 1 ∧ Raised s t (24 + i) 4) ∧
      (t.irig n).done = none ∧ t.time = s.time)

namespace Sys2Proof.Claims

/-- An open gate g of channel ch has closed at the present cycle of t, and if it fits its result is live (R100, R101). -/
def GateResult (s t : State) (ch : Nat) (g : Gate) (long : Bool) : Prop :=
  let pn := s.get (F.TIC_PNOM_PNOM ch)
  let p : Rat := if 2 ≤ g.n then (State.gateFit g).1 else 0
  let y : Int := if p = 0 then 0 else roundRat (((pn : Rat) / p - 1) * 2 ^ 56)
  (t.ticCh ch).gate = none ∧ Counts s t (0x085 + 16 * ch) 1 ∧
    (g.fit = false → SameRegs [] s t) ∧
    (g.fit = true →
      t.getI (F.TIC_FRES_YFREQ ch) = clampI (-(2 ^ 63 - 1)) (2 ^ 63 - 1) y ∧ t.get (F.TIC_FRES_NPTS ch) = g.n % 2 ^ 64 ∧
      t.get (F.TIC_FRES_GEND ch) = t.short ∧ t.on (F.TIC_FRES_LONG ch) = long ∧ t.on (F.TIC_FRES_STEP ch) = g.step ∧
      t.on (F.TIC_FRES_SLEW ch) = g.slew ∧ t.on (F.TIC_FRES_CALGAP ch) = g.gap ∧ t.on (F.TIC_FRES_PROV ch) = g.prov ∧
      (t.on (F.TIC_FRES_VALID ch) = true ↔ (65536000000 : Int) ≤ t.q16 - g.start ∧ 3 ≤ g.n ∧ pn ≠ 0 ∧ g.step = false) ∧
      t.get (F.TIC_FRES_SEQ ch) = (s.get (F.TIC_FRES_SEQ ch) + 1) % 2 ^ 8 ∧
      SameRegs (words [F.TIC_FRES_YFREQ ch, F.TIC_FRES_NPTS ch, F.TIC_FRES_GEND ch, F.TIC_FRES_RESID ch, F.TIC_FRES_VALID ch]) s t)

/-- A calibration window of channel ch has opened at the present cycle of t (R493). -/
def WindowOpens (s t : State) (ch : Nat) (cdc : Bool) (retry : Nat) : Prop :=
  (t.ticCh ch).win = some ⟨cdc, t.ns, false, retry⟩ ∧ t.on (F.TIC_CH_STAT_CAL_ACTIVE ch) = true ∧
    t.on (F.TIC_CH_STAT_CAL_SKIP ch) = false ∧ Counts s t (0x080 + 16 * ch + (if cdc then 7 else 6)) 1 ∧
    SameRegs (words [F.TIC_CH_STAT_CAL_SKIP ch]) s t

/-- The channel reports against the reference of its source (R98, R492). -/
def Reporting (s : State) (ch : Nat) : Prop := s.ticOn ch = true ∧ s.ticRef ch < 24

/-- The gate that ends at a boundary in cycle cyc: the stamps of that cycle are not its own (R100). -/
def endGate (x : TicSt) (cyc : Nat) : Option Gate := if x.cycAt = cyc then x.gatePre else x.gate

/-- A code-density histogram that R97 rejects: too few hits, a code with too many, or too many codes with too few. -/
def DensityBad (s : State) (h : List Nat) : Prop :=
  let n := 2 ^ (20 + s.get F.TIC_CAL_CFG_HEXP)
  let r := s.get F.TIC_CAL_CFG_MAXR
  h.foldl (fun a b => a + b) 0 < n ∨ (∃ v ∈ h, r * (n / 4096) < v) ∨
    s.get F.TIC_CAL_CFG_ZMAX < ((List.range 4096).filter (fun c => decide (h.getD c 0 * r < n / 4096))).length

/-- The temperature lies further than lim degrees from that of a calibration (R98). -/
def TempPast (p : Option (Nat × Int)) (lim : Nat) (temp : Int) : Prop := ∃ x, p = some x ∧ lim * 16 < (temp - x.2).natAbs

end Sys2Proof.Claims

/-- R89 to R93, R382: the shared writer moves a record into its queue with the next SEQ, or drops and counts it; one OVERFLOW
record stands for what was dropped; a queue window read pops the oldest record; a streamed record goes to its place in the
host's ring, and the vector follows a quarter of the ring or 1 ms. -/
def Obligations.IntervalRecords : Prop :=
  (∀ (s : State) ch r l, s.ticTurn = some ch → (s.ticCh ch).stage = r :: l →
    (s.ticCh ch).drops = none ∨ (s.ticCh ch).older ≠ 0 → (s.ticCh ch).queue.length < 16384 →
    let x := s.ticCh ch
    Does (.ticRecordQueue ch) s fun t =>
      t.ticCh ch = { x with
        stage := l, older := x.older - 1, queue := x.queue ++ [{ r with seq := x.seq }], seq := (x.seq + 1) % 256 } ∧
      t.tic.turn = (ch + 1) % 16 ∧ t.get (F.TIC_CH_STAT_FILL ch) = x.queue.length + 1 ∧
      SameRegs (words [F.TIC_CH_STAT_FILL ch]) s t) ∧
  (∀ (s : State) ch r l, s.ticTurn = some ch → (s.ticCh ch).stage = r :: l →
    16384 ≤ (s.ticCh ch).queue.length ∨
      ((s.ticCh ch).drops ≠ none ∧ (s.ticCh ch).older = 0 ∧ 16384 < (s.ticCh ch).queue.length + 16) →
    let x := s.ticCh ch
    Does (.ticRecordQueue ch) s fun t =>
      t.ticCh ch = { x with
        stage := l, older := 0
        drops := some (match x.drops with
          | some (f, n) => (if x.older = 0 then f else r.short, n + 1)
          | none => (r.short, 1)) } ∧
      t.tic.turn = (ch + 1) % 16 ∧ t.on (F.TIC_CH_STAT_OVF ch) = true ∧ Counts s t (0x083 + 16 * ch) 1 ∧
      SameRegs (words [F.TIC_CH_STAT_OVF ch]) s t) ∧
  (∀ (s : State) ch f n, s.ticWrites ch = true → (s.ticCh ch).older = 0 → (s.ticCh ch).drops = some (f, n) →
    (s.ticCh ch).queue.length + 16 ≤ 16384 →
    let x := s.ticCh ch
    Does (.ticOverflowRecord ch) s fun t =>
      t.ticCh ch = { x with
        drops := none, queue := x.queue ++ [{ s.ticRec ch f 0 false 1 0 n with seq := x.seq }], seq := (x.seq + 1) % 256 } ∧
      t.on (F.TIC_CH_STAT_OVF ch) = false ∧ t.get (F.TIC_CH_STAT_FILL ch) = x.queue.length + 1 ∧
      Counts s t (0x082 + 16 * ch) 1 ∧ SameRegs (words [F.TIC_CH_STAT_FILL ch]) s t) ∧
  (∀ (s : State) ch, s.ticWrites ch = false →
    Does (.ticOverflowRecord ch) s fun t => t = s) ∧
  (∀ s ch off, s.pow.held = false → ch < 16 → off < 4096 → off % 16 = 0 → s.get (F.TIC_CH_CFG_QMODE ch) = 0 →
    let x := s.ticCh ch
    (x.queue = [] → Does (.ticQwinRead ch off 16) s fun t =>
      t = s.emitOut (.readData 0 (0x130000 + 0x1000 * ch + off) 128 (State.emptyTic ch))) ∧
    (∀ r l, x.queue = r :: l → Does (.ticQwinRead ch off 16) s fun t =>
      Sends t (.readData 0 (0x130000 + 0x1000 * ch + off) 128 (State.packTic ch r)) ∧ t.ticCh ch = { x with queue := l } ∧
      t.get (F.TIC_CH_STAT_FILL ch) = l.length % 2 ^ 15 ∧ SameRegs (words [F.TIC_CH_STAT_FILL ch]) s t)) ∧
  (∀ (s : State) ch, ch < 16 → ∀ r l, (s.ticCh ch).queue = r :: l → s.get (F.TIC_CH_CFG_QMODE ch) = 1 → (s.fn 0).bme = true →
    let x := s.ticCh ch
    let log2 := s.get (F.TIC_STRM_LOG2 ch)
    let head := s.get (F.TIC_STRM_HEAD ch)
    (head + 2 ^ 32 - s.get (F.TIC_STRM_TAIL ch)) % 2 ^ 32 < 2 ^ log2 - 1 →
    Does (.ticStreamWrite ch) s fun t =>
      Sends t (.hostWrite 0 (s.get (F.TIC_STRM_BASE ch) / 4096 * 4096 + 16 * (head % 2 ^ log2)) 16 (State.packTic ch r)) ∧
      t.get (F.TIC_STRM_HEAD ch) = (head + 1) % 2 ^ 32 ∧ t.get (F.TIC_CH_STAT_FILL ch) = l.length % 2 ^ 15 ∧
      Counts s t (0x08A + 16 * ch) 1 ∧ SameRegs (words [F.TIC_STRM_HEAD ch, F.TIC_CH_STAT_FILL ch]) s t ∧
      t.ticCh ch = (if 2 ^ (log2 - 2) ≤ (head + 1 + 2 ^ 32 - x.sigHead) % 2 ^ 32 then
          { x with queue := l, sigHead := (head + 1) % 2 ^ 32, sigAt := none }
        else { x with queue := l, sigAt := some (x.sigAt.getD s.ns) })) ∧
  (∀ (s : State) ch, ch < 16 → ∀ at_, (s.ticCh ch).sigAt = some at_ → s.time.running = true →
    Does (.msixTicStreamTimeout ch) s fun t =>
      t.time = (s.runTo (at_ + 1000000)).time ∧ SameRegs [] s t ∧
      t.ticCh ch = { s.ticCh ch with sigHead := s.get (F.TIC_STRM_HEAD ch), sigAt := none })

/-- R95 to R98, R492, R493: a scheduled calibration window opens on an enabled channel, or is skipped while one is open; a path
window's result goes live as PATH unless an edge or an out-of-span pulse spoiled it, and its retries follow; a code-density
window's widths go live unless they fail R97; a calibration past its age or temperature limit is stale, with one anomaly. -/
def Sys2Proof.Claims.ChannelCalibration : Prop :=
  (∀ s o id, Acts s o id 7 → bitOf o.ent.arg 4 = false → s.ticOn (bitsOf o.ent.arg 0 4) = true →
    let ch := bitsOf o.ent.arg 0 4
    Does (.calWindowPath id) s fun t => Acted s t o ∧
      ((s.ticCh ch).win = none →
        WindowOpens s t ch false 0 ∧ (t.ticCh ch).series = some ((t.unshort o.ent.epoch).toNat, 0))) ∧
  (∀ s o id, Acts s o id 7 → bitOf o.ent.arg 4 = true → s.ticOn (bitsOf o.ent.arg 0 4) = true →
    let ch := bitsOf o.ent.arg 0 4
    Does (.calWindowCdc id) s fun t => Acted s t o ∧
      ((s.ticCh ch).win = none → WindowOpens s t ch true 0) ∧
      (∀ w, (s.ticCh ch).win = some w →
        t.ticCh ch = s.ticCh ch ∧ t.on (F.TIC_CH_STAT_CAL_SKIP ch) = true ∧ SameRegs (words [F.TIC_CH_STAT_CAL_SKIP ch]) s t)) ∧
  (∀ (s : State) ch, ch < 16 → ∀ base j, (s.ticCh ch).series = some (base, j) → s.time.running = true → j ≠ 0 →
    (∀ w, (s.ticCh ch).win = some w → w.cdc = true ∨ w.retry ≠ j) →
    Does (.pathRetry ch) s fun t =>
      t.time = (s.runTo (base + j * s.get F.TIC_CAL_CFG2_PATH_RETRY * 1000000)).time ∧
      ((s.ticCh ch).win = none → s.ticOn ch = true → WindowOpens s t ch false j ∧ (t.ticCh ch).series = some (base, j)) ∧
      ((s.ticCh ch).win ≠ none → t.on (F.TIC_CH_STAT_CAL_SKIP ch) = true ∧
        t.ticCh ch = { s.ticCh ch with series := if j < 3 then some (base, j + 1) else none })) ∧
  (∀ (s : State) ch, ch < 16 → ∀ sum span w, (s.ticCh ch).win = some w → w.cdc = false → s.time.running = true →
    Does (.pathWindowEnd ch sum span) s fun t =>
      let v := roundRat ((sum : Rat) / 256 - (s.get (F.TIC_TRIM_INJ_DLY ch) : Rat) * 16)
      t.time = (s.runTo (w.since + 100000)).time ∧ (t.ticCh ch).win = none ∧ t.on (F.TIC_CH_STAT_CAL_ACTIVE ch) = false ∧
      (w.active = false → (t.ticCh ch).series = none) ∧ (span = true → t.on (F.TIC_CH_STAT_PATH_REJECT ch) = true) ∧
      (w.active = false → span = false →
        t.get (F.TIC_PATH_PATH ch) = ofSigned 32 v ∧ t.view (F.TIC_PATH_PATH ch) = ofSigned 32 v ∧
        t.get (F.TIC_CH_STAT_CALGEN ch) = (s.get (F.TIC_CH_STAT_CALGEN ch) + 1) % 16 ∧ t.on (F.TIC_CH_STAT_PSTALE ch) = false ∧
        t.on (F.TIC_CH_STAT_CAL_BLOCKED ch) = false ∧ t.on (F.TIC_CH_STAT_PATH_REJECT ch) = false ∧
        (t.ticCh ch).pathAt = some (t.ns, s.tic.temp) ∧
        SameRegs (words [F.TIC_PATH_PATH ch, F.TIC_CH_STAT_CALGEN ch]) s t) ∧
      (w.active = false → span = true →
        t.on (F.TIC_CH_STAT_PATH_REJECT ch) = true ∧ (t.ticCh ch).pathAt = (s.ticCh ch).pathAt ∧
        SameRegs (words [F.TIC_CH_STAT_PATH_REJECT ch]) s t) ∧
      (∀ b j, w.active = true → (s.ticCh ch).series = some (b, j) →
        (t.ticCh ch).series = (if w.retry < 3 then some (b, w.retry + 1) else none) ∧
        (t.ticCh ch).pathAt = (s.ticCh ch).pathAt ∧ t.get (F.TIC_PATH_PATH ch) = s.get (F.TIC_PATH_PATH ch) ∧
        (3 ≤ w.retry → t.on (F.TIC_CH_STAT_CAL_BLOCKED ch) = true ∧ Counts s t (0x088 + 16 * ch) 1 ∧
          (s.isStale ch = true → Reporting s ch → Raised s t (s.ticRef ch) 7)))) ∧
  (∀ (s : State) ch, ch < 16 → ∀ h w, (s.ticCh ch).win = some w → w.cdc = true → s.time.running = true →
    let n := 2 ^ (20 + s.get F.TIC_CAL_CFG_HEXP)
    let hits := h.foldl (fun a b => a + b) 0
    let full := decide (hits = n) && decide (s.ns ≤ w.since + 1000000000)
    hits ≤ n → Does (.cdcWindowEnd ch h) s fun t =>
      t.time = (if full then s.time else (s.runTo (w.since + 1000000000)).time) ∧
      (t.ticCh ch).win = none ∧ t.on (F.TIC_CH_STAT_CAL_ACTIVE ch) = false ∧
      (DensityBad s h ∨ full = false →
        t.on (F.TIC_CH_STAT_CDC_REJECT ch) = true ∧ t.get (F.TIC_TRIM_RING ch) = (s.get (F.TIC_TRIM_RING ch) + 1) % 16 ∧
        Counts s t (0x089 + 16 * ch) 1 ∧ (t.ticCh ch).width = (s.ticCh ch).width ∧
        (s.isStale ch = true → Reporting s ch → Raised s t (s.ticRef ch) 7)) ∧
      (¬DensityBad s h → full = true →
        t.on (F.TIC_CH_STAT_CDC_REJECT ch) = false ∧ t.on (F.TIC_CH_STAT_CSTALE ch) = false ∧
        t.get (F.TIC_CH_STAT_CALGEN ch) = (s.get (F.TIC_CH_STAT_CALGEN ch) + 1) % 16 ∧
        (t.ticCh ch).width = some (State.widthTable h n) ∧ (t.ticCh ch).cdcAt = some (t.ns, s.tic.temp) ∧
        SameRegs (words [F.TIC_CH_STAT_CALGEN ch]) s t)) ∧
  (∀ (s : State) ch, ch < 16 → ∀ a cdc, s.time.running = true → s.ageDue ch cdc = some a →
    (∀ b, s.ageDue ch (!cdc) = some b → a < b) →
    Does (.calAgeExpiry ch) s fun t =>
      t.time = (s.runTo a).time ∧ t.on (if cdc then F.TIC_CH_STAT_CSTALE ch else F.TIC_CH_STAT_PSTALE ch) = true ∧
      (s.isStale ch = false → Reporting s ch → Raised s t (s.ticRef ch) 7) ∧
      SameRegs (words (F.TIC_CH_STAT_CSTALE ch :: refFlds (s.ticRef ch) 7)) s t) ∧
  (∀ (s : State) ch, ch < 16 → ∀ temp,
    Does (.calTempDrift ch temp) s fun t =>
      t.tic.temp = temp ∧
      (t.on (F.TIC_CH_STAT_CSTALE ch) = true ↔ s.on (F.TIC_CH_STAT_CSTALE ch) = true ∨
        TempPast (s.ticCh ch).cdcAt (s.get F.TIC_CAL_CFG_CDC_DT) temp) ∧
      (t.on (F.TIC_CH_STAT_PSTALE ch) = true ↔ s.on (F.TIC_CH_STAT_PSTALE ch) = true ∨
        TempPast (s.ticCh ch).pathAt (s.get F.TIC_CAL_CFG2_PATH_DT) temp) ∧
      (s.isStale ch = false → t.isStale ch = true → Reporting s ch → Raised s t (s.ticRef ch) 7) ∧
      SameRegs (words (F.TIC_CH_STAT_CSTALE ch :: refFlds (s.ticRef ch) 7)) s t)

/-- R99 to R101: a scheduled gate start opens a gate at its instant on an enabled channel; a stop, or 10,000 s, closes it and
its fit's slope goes live with its flags. -/
def Sys2Proof.Claims.FrequencyGates : Prop :=
  (∀ s o id, Acts s o id 6 → bitOf o.ent.arg 4 = false →
    let ch := bitsOf o.ent.arg 0 4
    s.ticOn ch = true → (s.ticCh ch).gate = none → (s.ticCh ch).gatePre = none →
    Does (.ticGateStart id) s fun t => Acted s t o ∧ SameRegs [] s t ∧
      (t.ticCh ch).gate = some ((t.edgesNow ch).foldl (t.gatePoint ch)
        { start := t.unshort o.ent.epoch * 65536, fit := s.on (F.TIC_CH_CFG_FREQ_EN ch), k := 0, n := 0, sk := 0, skk := 0
          st := 0, skt := 0, stt := 0, step := false, slew := t.time.annS ≠ 0, gap := false, prov := false, cstale := false
          pstale := false })) ∧
  (∀ s o id, Acts s o id 6 → bitOf o.ent.arg 4 = true →
    let ch := bitsOf o.ent.arg 0 4
    Does (.ticGateStop id) s fun t => Acted s t o ∧
      ∀ g, endGate (s.ticCh ch) t.time.cyc = some g → GateResult s t ch g false) ∧
  (∀ (s : State) ch, ch < 16 → ∀ g, (s.ticCh ch).gate = some g → s.time.running = true →
    Does (.gateLongClose ch) s fun t =>
      t.time = (s.runTo ((g.start / 65536).toNat + 10000000000000)).time ∧
      ∀ g', endGate (s.ticCh ch) t.time.cyc = some g' → GateResult s t ch g' true)

/-- R95 to R98, R492, R493: a scheduled calibration window opens on an enabled channel, or is skipped while one is open; a path
window's result goes live as PATH unless an edge or an out-of-span pulse spoiled it, and its retries follow; a code-density
window's widths go live unless they fail R97; a calibration past its age or temperature limit is stale, with one anomaly.
R99 to R101: a scheduled gate start opens a gate at its instant on an enabled channel; a stop, or 10,000 s, closes it and
its fit's slope goes live with its flags. -/
def Obligations.ChannelCalibrationAndGates : Prop := ChannelCalibration ∧ FrequencyGates

/-! ## Clock synthesis, outputs and media ports (R201 to R227, R347) -/

namespace Sys2Proof.Claims

/-- x has appeared at output o's pad, unless the pad of a pair-shared output is released (R421, R432). -/
def Pad (s t : State) (o : Nat) (x : Out) : Prop :=
  bitOf s.syn.paired o = false ∨ s.on F.PAIR_STAT_DRIVING = true → Sends t x

/-- What a stopped output holds: its inactive level, the N leg high impedance for an LVCMOS one (R219, R220). -/
def holdOut (s : State) (o : Nat) : Out :=
  .stop o (some (s.padLevel o false)) (if s.lvcmos o then none else some (!s.padLevel o false))

/-- What an output on the bypass clock shows: the clock over BYP_DIV, or its inactive level with BYP_DIV 0 or the clock lost
(R210). -/
def bypOut (s : State) (o : Nat) : Out :=
  let d := if o < 16 then s.get (F.OUT_F_CFG_BYP_DIV o) else 0
  if d = 0 || s.on F.SYN_BYP_ST_BYP_LOS then holdOut s o else .bypass o d

/-- A Burnisher has entered a state other than LOCKED: no output it feeds is ALIGNED, only those in RUNNING that go to
BYPASS with it change their state, and LOCKA shows it (R210, R212, R218). -/
def BurnIn (s t : State) (b st : Nat) : Prop :=
  t.burnState b = st ∧ (t.burn b).since = t.ns ∧ Sends t (.locka b (t.lockaPin b)) ∧
    (∀ o < 24, s.feeds b o = true → t.on (F.OUT_ST_ALIGNED o) = false) ∧
    (∀ o < 24, t.outState o = if st = 4 ∧ s.feeds b o = true ∧ s.outState o = 2 then 3 else s.outState o) ∧
    (∀ o < 24, s.feeds b o = false → t.on (F.OUT_ST_ALIGNED o) = s.on (F.OUT_ST_ALIGNED o))

/-- A Burnisher has gone to BYPASS, with FAIL where its attempt failed (R207, R208, R210). -/
def Bypassed (s t : State) (b fail : Nat) : Prop :=
  BurnIn s t b 4 ∧ t.get (F.SYN_BURN_ST_LOSSES b) = (s.get (F.SYN_BURN_ST_LOSSES b) + 1) % 256 ∧
    t.get (F.SYN_BURN_ST_FAIL b) = (if fail = 0 then s.get (F.SYN_BURN_ST_FAIL b) else fail) ∧ Counts s t (0x341 + b) 1 ∧
    ∀ o < 24, s.feeds b o = true → s.outState o = 2 → Pad s t o (bypOut t o)

/-- e is the first VCO / P edge at or after an instant in core ns (R214): on the NCO's grid, else within one period, at a free
phase (log 4). -/
def FirstEdge (s : State) (b : Nat) (first e : Rat) : Prop :=
  if s.get (F.SYN_BURN_CFG_SRC b) = 24 then
    e = State.gridAfter ((s.burn b).origin + ((s.burn b).shift : Rat) / 65536) (s.vcoPeriod b) first
  else ∃ u : Nat, u < 65536 ∧ e = first + (u : Rat) / 65536 * s.vcoPeriod b

/-- The clock of output o has started with the first edge of its Burnisher at or after an instant in whole ns, shifted by the pad
skew (R214). -/
def Started (s t : State) (o first : Nat) (aligned : Bool) : Prop :=
  t.outState o = 2 ∧ t.on (F.OUT_ST_ALIGNED o) = aligned ∧
    let e := (t.pin o).phase.getD 0
    FirstEdge s (s.outBurnOf o) first e ∧ t.pin o = ⟨false, true, none, none, none, some e, some t.time.cyc⟩ ∧
      Pad s t o (.start o (e + (Config.padSkew o : Rat) / 1000))

/-- A media port has sent a block with its Z preamble at q, 2^-16 ns, and stamped it (R224, R226, R227). -/
def BlockSent (s t : State) (m q : Nat) (b : AesBlk) : Prop :=
  Sends t (.aes m (q / 65536 % 2 ^ 64) (q % 65536) b) ∧
    t.get (F.OUT_AES_TXS_SHORT m) = q / 65536 % 2 ^ 64 ∧ t.get (F.OUT_AES_TXS_FRAC m) = q % 65536 ∧
    t.get (F.OUT_AES_TXS_BLOCKS m) = (s.get (F.OUT_AES_TXS_BLOCKS m) + 1) % 2 ^ 32

/-- A DARS block of a LEADER whose Z preamble stands at q: GRADE and the time-of-day sample address in its channel status, no
audio (R224). -/
def darsBlock (s : State) (m q : Nat) : AesBlk := ⟨State.aesStatus (s.aesGrade m) (s.aesAddr m q), 0, some 0, false⟩

/-- What a block writes of a port's registers. -/
def txFlds (m : Nat) : List Fld := [F.OUT_AES_ST_FILL m, F.OUT_AES_TXS_SHORT m, F.OUT_AES_TXS_FRAC m, F.OUT_AES_TXS_BLOCKS m]

end Sys2Proof.Claims

/-- R207 to R212: a lock attempt fails without its reference or with a plan out of range and else acquires; a declared lock is
LOCKED with its phase error; 100 ms without one, a lost reference or a lost lock go to BYPASS; 1 s after that a present source
starts a new attempt; the bypass clock's loss is shown. -/
def Obligations.Burnishers : Prop :=
  (∀ (s : State) b pfd band, b < 4 → s.burnState b = 1 →
    Does (.burnSearchDone b pfd band) s fun t =>
      (s.pfdHz b pfd = none → Bypassed s t b 2) ∧
      (∀ f, s.pfdHz b pfd = some f →
        t.get (F.SYN_BURN_ST_PFD_KHZ b) = satN 16 (f / 1000).floor.toNat ∧ (t.burn b).pfd = f ∧
        (s.planErr b f = true → Bypassed s t b 1) ∧
        (s.planErr b f = false → BurnIn s t b 2 ∧ t.get (F.SYN_BURN_ST_BAND b) = band % 256))) ∧
  (∀ (s : State) b err, b < 4 → s.burnState b = 2 →
    Does (.burnLockDeclared b err) s fun t =>
      (s.errShare b err < s.get (F.SYN_BURN_ANA_LOCK_THR b) →
        t.burnState b = 3 ∧ t.getI (F.SYN_BURN_ST_PH_ERR b) = satI 16 err ∧ Sends t (.locka b (t.lockaPin b)) ∧
        Only [F.SYN_BURN_ST_STATE b, F.SYN_BURN_ST_PH_ERR b] (fun x => x.setBurn b { s.burn b with since := s.ns }) s t) ∧
      (s.get (F.SYN_BURN_ANA_LOCK_THR b) ≤ s.errShare b err → t = s)) ∧
  (∀ (s : State) b, b < 4 → s.burnState b = 2 →
    Does (.burnAcqTimeout b) s fun t =>
      Bypassed s t b 3 ∧ t.time = (s.runTo ((s.burn b).since + 100000000)).time) ∧
  (∀ (s : State) b, b < 4 → s.burnState b = 2 ∨ s.burnState b = 3 →
    Does (.burnRefLost b) s fun t => Bypassed s t b 0 ∧ t.time = s.time) ∧
  (∀ (s : State) b err, b < 4 → s.burnState b = 3 →
    Does (.burnLockLost b err) s fun t =>
      ((s.get (F.SYN_BURN_ANA_UNLOCK_THR b) : Rat) < s.errShare b err →
        Bypassed s t b 0 ∧ t.getI (F.SYN_BURN_ST_PH_ERR b) = satI 16 err ∧ t.time = s.time) ∧
      (s.errShare b err ≤ (s.get (F.SYN_BURN_ANA_UNLOCK_THR b) : Rat) → t = s)) ∧
  (∀ (s : State) b, b < 4 → s.burnState b = 4 →
    Does (.burnSourceReturn b) s fun t =>
      t.time = (s.runTo (s.burnReturnAt b)).time ∧
      (s.burnPresent b = true →
        BurnIn s t b 1 ∧ Counts s t (0x345 + b) 1 ∧ t.on (F.SYN_BURN_ST_MISALIGNED b) = false ∧
        (t.burn b).origin = t.ns / 1000000000 * 1000000000 ∧ (t.burn b).shift = 0) ∧
      (s.burnPresent b = false → SameRegs [] s t ∧ t.syn = s.syn)) ∧
  (∀ s : State,
    (Does .bypassClockLost s fun t => t.on F.SYN_BYP_ST_BYP_LOS = true ∧ Only [F.SYN_BYP_ST_BYP_LOS] id s t ∧
      ∀ o < 24, s.outState o = 3 → Pad s t o (holdOut s o)) ∧
    (Does .bypassClockReturn s fun t => t.on F.SYN_BYP_ST_BYP_LOS = false ∧
      Only [F.SYN_BYP_ST_BYP_LOS] (fun x => { x with syn := { x.syn with bypAt := s.ns } }) s t ∧
      ∀ o < 24, s.outState o = 3 → Pad s t o (bypOut t o)))

/-- R211, R214, R217, R218, R220, R221: an output stops at its inactive edge and returns on a whole second; an armed SYNCIN edge
restarts the outputs of its mask; a scheduled edge or pulse appears at its instant, a pulse in a pulse extends it; a time-code
output sends the element of each 10 ms boundary. -/
def Obligations.OutputEdges : Prop :=
  (∀ (s : State) o, o < 24 → (s.pin o).stopping = true →
    Does (.outputStop o) s fun t =>
      t.outState o = 0 ∧ t.on (F.OUT_ST_ALIGNED o) = false ∧ Pad s t o (holdOut s o) ∧ SameRegs (words [F.OUT_ST_STATE o]) s t ∧
      t.pin o = { s.pin o with stopping := false, active := false, pulseEnd := none, tc := none }) ∧
  (∀ (s : State) o, o < 24 → s.outMode o = 0 → s.outState o = 1 ∨ s.outState o = 3 → s.burnState (s.outBurnOf o) = 3 →
    Does (.outputReturn o) s fun t =>
      let b := s.outBurnOf o
      let sec := ceilDiv ((s.burn b).since + 10000000) 1000000000 * 1000000000
      t.time = (s.runTo (sec - 64)).time ∧ SameRegs (words [F.OUT_ST_STATE o]) s t ∧
      ((s.pin o).stopping = true → t.outState o = 0 ∧ Pad s t o (holdOut s o)) ∧
      ((s.pin o).stopping = false →
        Started s t o sec (s.get (F.SYN_BURN_CFG_SRC b) = 24 && !s.on (F.SYN_BURN_ST_MISALIGNED b)) ∧
        (s.outState o = 3 → Pad s t o (holdOut s o)))) ∧
  (∀ s : State, s.on F.SYN_SYNC_ST_ARMED = true →
    Does .syncinEdge s fun t =>
      t.on F.SYN_SYNC_ST_ARMED = false ∧ t.get F.SYN_SYNC_ST_FIRED = (s.get F.SYN_SYNC_ST_FIRED + 1) % 256 ∧
      t.get F.SYN_SYNC_ST_LAST = s.short ∧ Counts s t 0x349 1 ∧ t.time = s.time ∧
      ∀ o < 24, if bitOf (s.get F.SYN_SYNC_CTL_MASK) o = true ∧ s.outState o = 2 ∧ s.outMode o = 0
        then
          if (s.pin o).stopping = true ∨ (s.pin o).startCyc = some s.time.cyc
          then t.outState o = 2 ∧ t.on (F.OUT_ST_ALIGNED o) = false ∧ t.pin o = s.pin o
          else Started s t o (s.ns + 64) false
        else t.outState o = s.outState o ∧ t.on (F.OUT_ST_ALIGNED o) = s.on (F.OUT_ST_ALIGNED o) ∧ t.pin o = s.pin o) ∧
  (∀ s : State, s.on F.SYN_SYNC_ST_ARMED = false →
    Does .syncinEdge s fun t =>
      t.get F.SYN_SYNC_ST_IGNORED = min 255 (s.get F.SYN_SYNC_ST_IGNORED + 1) ∧ Counts s t 0x34A 1 ∧
      Only [F.SYN_SYNC_ST_IGNORED] id s t) ∧
  (∀ s o id, Acts s o id 5 →
    let g := bitsOf o.ent.arg 0 3
    let kind := bitsOf o.ent.arg 4 2
    let p := 16 + g
    let x := s.pin p
    Does (.goutEdge id) s fun t =>
      let tm := s.edgeAt g (t.unshort o.ent.epoch).toNat o.ent.frac
      Acted s t o ∧
      (s.outState p ≠ 2 → t.pin p = x ∧ SameRegs [] s t) ∧
      (s.outState p = 2 → s.outMode p = 0 → kind = 0 → x.active = false →
        let ce := s.clockEdge p tm false
        t.pin p = { x with active := true, lastEdge := some ce.1 } ∧ Pad s t p (.edge p (s.padLevel p true) ce.1 ce.2) ∧
        SameRegs [] s t) ∧
      (s.outState p = 2 → s.outMode p = 0 → kind = 1 → x.active = true →
        let ce := s.clockEdge p tm true
        t.pin p = { x with active := false } ∧ Pad s t p (.edge p (s.padLevel p false) ce.1 ce.2) ∧ SameRegs [] s t) ∧
      (s.outState p = 2 → s.outMode p = 0 → kind = 0 ∧ x.active = true ∨ kind = 1 ∧ x.active = false ∨ 2 ≤ kind →
        t.pin p = x ∧ SameRegs [] s t) ∧
      (s.outState p = 2 → s.outMode p = 1 → kind = 0 →
        t.pin p = { x with active := true, pulseEnd := none, lastEdge := some tm.1 } ∧
        Pad s t p (.edge p (s.padLevel p true) tm.1 tm.2) ∧ SameRegs [] s t) ∧
      (s.outState p = 2 → s.outMode p = 1 → kind = 1 →
        t.pin p = { x with active := false, pulseEnd := none } ∧
        Pad s t p (.edge p (s.padLevel p false) tm.1 tm.2) ∧ SameRegs [] s t) ∧
      (s.outState p = 2 → s.outMode p = 1 → kind = 2 → x.pulseEnd = none →
        t.pin p = { x with
          active := true, pulseEnd := some (tm.1 + s.get (F.OUT_G_CFG_WIDTH g), tm.2), lastEdge := some tm.1 } ∧
        Pad s t p (.edge p (s.padLevel p true) tm.1 tm.2) ∧ SameRegs [] s t) ∧
      (s.outState p = 2 → s.outMode p = 1 → kind = 2 → x.pulseEnd ≠ none →
        t.pin p = { x with pulseEnd := some (tm.1 + s.get (F.OUT_G_CFG_WIDTH g), tm.2) } ∧
        t.get (F.OUT_ST_OVERLAP p) = (s.get (F.OUT_ST_OVERLAP p) + 1) % 256 ∧ Counts s t (0x34F + g) 1 ∧
        SameRegs (words [F.OUT_ST_OVERLAP p]) s t)) ∧
  (∀ (s : State) g tm, g < 8 → (s.pin (16 + g)).pulseEnd = some tm →
    Does (.pulseEnd g) s fun t =>
      t.time = (s.runTo tm.1).time ∧ t.pin (16 + g) = { s.pin (16 + g) with active := false, pulseEnd := none } ∧
      Pad s t (16 + g) (.edge (16 + g) (s.padLevel (16 + g) false) tm.1 tm.2) ∧ SameRegs [] s t) ∧
  (∀ (s : State) g, g < 8 → s.time.running = true → s.outMode (16 + g) = 2 → s.outState (16 + g) = 2 →
    Does (.timecodeElement g) s fun t =>
      let o := 16 + g
      let i := t.tcIndex g t.q16
      let sc := t.tcScale g t.q16
      let sod := (sc.q / State.secQ % 86400).toNat
      let day := State.civilOf (sc.q / State.secQ / 86400)
      let doy := (State.daysOf day.1.toNat day.2.1 day.2.2 - State.daysOf day.1.toNat 1 1).toNat + 1
      let due := match (s.pin o).tc with | some j => j ≠ i | none => i % 100 = 0
      t.time = (s.runTo (State.tcNext 8 s g s.ns)).time ∧ SameRegs [] s t ∧
      (due → t.pin o = { s.pin o with tc := some i, lastEdge := some t.ns } ∧
        Pad s t o (.timecode o (State.irigElem (s.get (F.OUT_G_CFG_IRIG g)) (i % 100).toNat (if sc.leap60 then 60 else sod % 60)
          (sod / 60 % 60) (sod / 3600) doy (day.1.toNat % 100) sod))) ∧
      (¬due → t.pin o = s.pin o))

/-- R223 to R227: a received block is stamped and its audio bit followed; the receiver's lock and rate are shown; a leader's
block starts at its own instant, a follower's at the present one with its buffer's slips counted; a realigned transmitter
resumes on the alignment grid. -/
def Obligations.MediaPorts : Prop :=
  (∀ (s : State) m status ppb, s.aesUp m = true → s.get (F.OUT_AES_CFG_MODE m) ≠ 0 →
    let nonaudio := bitOf status 1
    Does (.aesRxZPreamble m status ppb) s fun t =>
      t.get (F.OUT_AES_RXS_SHORT m) = s.short ∧ t.get (F.OUT_AES_RXS_FRAC m) = s.frac ∧
      t.get (F.OUT_AES_RXS_BLOCKS m) = (s.get (F.OUT_AES_RXS_BLOCKS m) + 1) % 2 ^ 32 ∧
      t.getI (F.OUT_AES_ST_RX_PPB m) = satI 32 ppb ∧
      t.on (F.OUT_AES_ST_NONAUDIO m) = (if nonaudio then true else if 1 ≤ (s.aes m).clear then false
        else s.on (F.OUT_AES_ST_NONAUDIO m)) ∧
      Only [F.OUT_AES_RXS_SHORT m, F.OUT_AES_RXS_FRAC m, F.OUT_AES_RXS_BLOCKS m, F.OUT_AES_ST_RX_PPB m, F.OUT_AES_ST_NONAUDIO m]
        (fun x => x.setAes m { s.aes m with
          status := status % 2 ^ 192, clear := if nonaudio then 0 else min 2 ((s.aes m).clear + 1) }) s t) ∧
  (∀ (s : State) m rate, s.aesUp m = true → s.get (F.OUT_AES_CFG_MODE m) ≠ 0 →
    Does (.aesRxLockChange m rate) s fun t =>
      t.on (F.OUT_AES_ST_RXLOCK m) = rate.isSome ∧
      t.get (F.OUT_AES_ST_RX_RATE m) = (match rate with | some r => min r 6 | none => 7) ∧
      Only [F.OUT_AES_ST_RXLOCK m] id s t) ∧
  (∀ (s : State) m fill, s.aesUp m = true → s.time.running = true →
    Does (.aesTxBlock m fill) s fun t =>
      let x := s.aes m
      let q := s.aesBlock m
      let mode := s.get (F.OUT_AES_CFG_MODE m)
      (x.lead = true → x.tx = 1 →
        BlockSent s t m q (darsBlock t m q) ∧ t.time = (s.runTo (q / 65536)).time ∧
        t.aes m = { x with k := x.k + 1, mute := s.on (F.OUT_AES_ST_NONAUDIO m) } ∧ SameRegs (words (txFlds m)) s t) ∧
      (x.tx = 2 →
        t.time = (if x.lead then (s.runTo (q / 65536)).time else s.time) ∧ Sends t (.aesLow m) ∧
        (mode = 1 ∨ mode = 2 → t.aes m = { x with tx := 3, holdEnd := t.ns + s.aesBlockNs m } ∧ SameRegs [] s t) ∧
        (mode ≠ 1 → mode ≠ 2 → t.aes m = { x with tx := 0 } ∧ t.on (F.OUT_AES_ST_MISALIGNED m) = false ∧
          SameRegs (words [F.OUT_AES_ST_MISALIGNED m]) s t)) ∧
      (x.lead = false → x.tx = 1 →
        BlockSent s t m s.q16 ⟨x.status, 0, if x.mute then some 0 else none, x.mute⟩ ∧ t.time = s.time ∧
        t.get (F.OUT_AES_ST_FILL m) = (if fill = 0 then 1 else if 128 ≤ fill then 127 else fill) ∧
        t.get (F.OUT_AES_ST_SLIP m) = (s.get (F.OUT_AES_ST_SLIP m) + if fill = 0 ∨ 128 ≤ fill then 1 else 0) % 256 ∧
        Counts s t (0x34B + m) (if fill = 0 ∨ 128 ≤ fill then 1 else 0) ∧
        t.aes m = { x with k := x.k + 1, mute := s.on (F.OUT_AES_ST_NONAUDIO m) } ∧ SameRegs (words (txFlds m)) s t)) ∧
  (∀ (s : State) m, s.aesUp m = true → s.time.running = true → (s.aes m).tx = 3 →
    Does (.aesResume m) s fun t =>
      let a := s.aesAlign m (max (s.aes m).holdEnd s.ns)
      let x := { s.aes m with tx := 1, rate := s.get (F.OUT_AES_CFG_RATE m) }
      (s.get (F.OUT_AES_CFG_MODE m) = 1 →
        BlockSent s t m (a * 65536) (darsBlock t m (a * 65536)) ∧ t.time = (s.runTo a).time ∧
        t.on (F.OUT_AES_ST_MISALIGNED m) = false ∧ SameRegs (words (txFlds m)) s t ∧
        t.aes m = { x with lead := true, base := a * 65536, k := 1, mute := s.on (F.OUT_AES_ST_NONAUDIO m) }) ∧
      (s.get (F.OUT_AES_CFG_MODE m) = 2 →
        t.time = (s.runTo (s.aes m).holdEnd).time ∧ t.on (F.OUT_AES_ST_MISALIGNED m) = false ∧
        t.aes m = { x with lead := false, k := 0 } ∧ SameRegs (words [F.OUT_AES_ST_MISALIGNED m]) s t))

/-- R347: at an edge of its output a slot asks engine 10 for the message of the record that names it; the engine's message is
taken for its send instant, or dropped as late, and goes out then. QUAL is a free value (log 4). -/
def Obligations.TimeOfDayOutputs : Prop :=
  (∀ (s : State) i clk edge, i < 4 → bitOf (s.get (F.REF_TODOUT_CFG_UART i)) 0 = true → s.todEdge i clk = some edge → Room s 10 →
    Does (.todOutReq i clk) s fun t =>
      let named := if s.on (F.REF_TODOUT_CFG_REFERS i) then edge + 1000000000 else edge
      let q := named * 65536
      let sc := s.get (F.REF_TODOUT_CFG_SCALE i)
      let tm : Int := if s.prov then q else if sc = 0 then (State.utcScale s.tsk.leap q).q else if sc = 1 then q else q - 19 * State.secQ
      let day := ((State.utcScale s.tsk.leap q).q / State.secQ / 86400 + 40587).toNat
      let leap := if State.leapAtEnd s.tsk.leap day false then 1 else if State.leapAtEnd s.tsk.leap day true then 2 else 0
      (t.todOut i) = { s.todOut i with req := some edge } ∧ SameRegs [] s t ∧
      ∃ qual, t.engine 10 = { s.engine 10 with cells := (s.engine 10).cells ++
        [⟨2, 22, pack 0 [(0, 1, i), (1, 1, s.get (F.REF_TODOUT_CFG_ASCII i)), (4, 18, pack 0
          [(0, 6, ofSigned 48 (roundRat ((tm : Rat) / State.secQ))), (6, 1, sc),
            (7, 1, (if s.prov then 0 else 1) + (if s.get F.TSK_STAT_STATE = 3 then 2 else 0)),
            (8, 2, ofSigned 16 (State.taiUtc s.tsk.leap (q / State.secQ))), (10, 1, leap), (11, 1, qual),
            (12, 4, s.get F.TSK_TEB_FLOAT_BOUND), (16, 2, s.get F.TSK_TEB_SRC_TAG)])]⟩] }) ∧
  (∀ (s : State) c rest edge, OutCell s 10 4 c rest →
    let i := State.cellBytes c.bytes 0 1 % 4
    let n := State.cellBytes c.bytes 1 1
    (s.todOut i).req = some edge →
    let at_ := if s.on (F.REF_TODOUT_CFG_REFERS i) then edge + 990000000 - n * State.charNs (s.get (F.REF_TODOUT_CFG_UART i))
      else edge + 10000000
    Does .todOutCell s fun t =>
      (t.engine 10).outQ = rest ∧
      (s.ns ≤ at_ → t.todOut i = { s.todOut i with msg := some (n, State.cellBytes c.bytes 4 n, at_) } ∧ SameRegs [] s t) ∧
      (at_ < s.ns → t.todOut i = s.todOut i ∧
        t.get (F.ENG_LOST_TOD_LATE 10) = (s.get (F.ENG_LOST_TOD_LATE 10) + 1) % 256 ∧ SameRegs (words [F.ENG_LOST_TOD_LATE 10]) s t)) ∧
  (∀ (s : State) i n v at_, i < 4 → bitOf (s.get (F.REF_TODOUT_CFG_UART i)) 0 = true → (s.todOut i).msg = some (n, v, at_) →
    Does (.todoutSend i) s fun t =>
      t.time = (s.runTo at_).time ∧ t.todOut i = { s.todOut i with msg := none } ∧ Sends t (.todOut i n v) ∧ SameRegs [] s t)

/-! ## The block as a whole -/

/-- R24, R36: the boundary that the TICK entry places begins the next tick, and is counted; one without a TICK entry does not
come. -/
def Sys2Proof.Claims.TickBoundary : Prop :=
  (∀ (s : State) ups id e, s.tickEnt = some (id, e) → s.pow.held = false →
    Does (.tick ups) s fun t =>
      t.time.tickNo = s.time.tickNo + 1 ∧ t.time.tickNs = (s.dueOf e).toNat ∧ Counts s t 0x300 1 ∧ t.pending = s.pending) ∧
  (∀ (s : State) ups, s.tickEnt = none → s.sch.updWait = 0 → Does (.tick ups) s fun t => t = s)

/-- R166, R169, R170: an Anneal at its end has applied what remained of it and is no longer active; an arm past its DEADLINE
expires; engine 3 recomputes the MODELLED frequency once a second; MODEL_OK follows MODEL_MIN hours in LOCKED.
R171, R172: a temperature reading is held with TEMP_OK, a failed one clears it and holds the temperature terms; the coefficients of a fit become live and
shadow values; in TRACK the mean FREQ_ADJ of a period moves into the DAC code within its limits and into the integrator, and
in HOLDOVER the code follows the model term.
R24, R36: the boundary that the TICK entry places begins the next tick, and is counted; one without a TICK entry does not
come. -/
def Obligations.KernelAndTick : Prop := KernelEvents ∧ KernelOscillator ∧ TickBoundary

/-- R365, R213: the slow domain takes the posted write that waits for its window, or flags one whose value it refuses. -/
def Sys2Proof.Claims.PostedWrites : Prop :=
  ∀ (s : State) win (p : Machine.Posted) d i j w x,
    s.hif.posted.find? (fun q => decide (q.win = win) && !State.gfeGo q) = some p → findReg p.key = some (d, i, j, w) →
    d.words[w]? = some x →
    let v := aliasVal p.al (s.regs.word p.key).toNat p.v x.rwp
    let taken := fun y : State => { y with hif := { y.hif with posted := y.hif.posted.filter (fun q => q.win ≠ win) } }
    (State.postOk d.id v = true → d.id ∉ [RegId.SEAM_RX_ACK, .KVT_TLOG_ACK, .SEAM_TX_CTL] →
      Does (.postedWriteAccept win) s fun t => t.regs.word p.key = BitVec.ofNat 32 v ∧ Only [⟨p.key, 0, 32⟩] taken s t) ∧
    (State.postOk d.id v = false →
      Does (.postedWriteAccept win) s fun t =>
        t.on F.SYS_ACC_ERR_VALID = true ∧ Only [F.SYS_ACC_ERR_KIND, F.SYS_ACC_ERR_ADDR] taken s t)

/-- R363, R361: a provider write to a shadowed word changes its shadow alone, through its alias, and no live word.
R365, R213: the slow domain takes the posted write that waits for its window, or flags one whose value it refuses. -/
def Obligations.RegisterWrites : Prop := ShadowWrite ∧ PostedWrites

/-- R179, R194, R195: a sum of bounds is unbounded where a term is or where it reaches 2^48 − 1 ps; a bound float has the
smallest exponent with a mantissa below 2^26, denotes m × 2^e ps and never less than the bound it encodes; all ones, and
values of 2^48 − 1 ps or more, are unbounded. -/
def Obligations.BoundFloats : Prop :=
  (∀ a b, bAdd a b = if 2 ^ 48 - 1 ≤ a ∨ 2 ^ 48 - 1 ≤ b ∨ 2 ^ 48 - 1 ≤ a + b then 2 ^ 48 - 1 else a + b) ∧
  (∀ w < 2 ^ 32, ofFloat w =
    if w = 2 ^ 32 - 1 ∨ 2 ^ 48 - 1 ≤ w % 2 ^ 26 * 2 ^ (w / 2 ^ 26) then 2 ^ 48 - 1 else w % 2 ^ 26 * 2 ^ (w / 2 ^ 26)) ∧
  (∀ v, 2 ^ 48 - 1 ≤ v → toFloat v = 2 ^ 32 - 1) ∧
  (∀ v < 2 ^ 48 - 1, ∃ e m, toFloat v = 2 ^ 26 * e + m ∧ m < 2 ^ 26 ∧ m = (v + 2 ^ e - 1) / 2 ^ e ∧ e < 2 ^ 6 ∧
    ∀ e' < e, 2 ^ 26 ≤ (v + 2 ^ e' - 1) / 2 ^ e') ∧
  (∀ v < 2 ^ 48, v ≤ ofFloat (toFloat v))

/-- The step takes the command at the front of the queue and answers what it does to the state with the queue's rest; on an
empty queue one CCLK cycle of core time passes (log 1). Every command answers a next state: none stops the block (log 2). -/
def Obligations.StepRunsFront : Prop :=
  (∀ (s : State) c, ∃ t, exec c s = .next t) ∧
  (∀ (s : State) c rest, step { s with pending := c :: rest } = exec c { s with pending := rest }) ∧
  (∀ s : State, s.pending = [] → step s = .next (s.advance 1)) ∧
  (∀ (s : State) nbits w, s.withFetchWord nbits w = s)

/-- R16, R47, R193, R461: after a power-on reset every register word holds its reset value, the time core does not run and
reads 0, nothing waits, no engine runs, and every port's term of the served bound is unbounded. -/
def Obligations.ResetState : Prop :=
  let s := State.reset
  s.Canonical ∧ s.pending = [] ∧ s.out = [] ∧ s.eng = [] ∧ s.time.running = false ∧ s.time.core = 0 ∧ s.time.tickNo = 0 ∧
    (∀ k, s.regs.word k = resetWord k) ∧ s.get F.TSK_STAT_STATE = 0 ∧ s.get F.SYS_BOOT_ST_STATE = 0 ∧
    (∀ p < 8, s.get (F.TSK_TEB_PORT_TERM p) = 2 ^ 32 - 1) ∧ (∀ p < 8, s.get (F.ETH_SLOT_CFG_LC_PER p) = 10000) ∧
    (∀ e < 18, s.get (F.ENG_ST_STATE e) = 0) ∧ (∀ r < 36, s.refState r = 0)

/-- Every step keeps the register file and the engines' memories in canonical form: equal contents stay equal data, and no
register word or byte of data memory is ever listed at the value that an unlisted one reads as. -/
def Obligations.CanonicalInvariant : Prop :=
  ∀ s t : State, s.Canonical → step s = .next t → t.Canonical
end

