-- ==== Sys2Proof/Laws/State.lean ====
section
/-!
SUPPORT. Sys2Proof/Laws/State.lean: what the plain updates of the state leave alone, one lemma a field and update.
-/

namespace Sys2Proof.Machine

@[simp] theorem State.set_part (s : State) (f : Fld) (v : Nat) : (s.set f v).part = s.part := rfl
@[simp] theorem State.set_pend (s : State) (f : Fld) (v : Nat) : (s.set f v).pend = s.pend := rfl
@[simp] theorem State.set_time (s : State) (f : Fld) (v : Nat) : (s.set f v).time = s.time := rfl
@[simp] theorem State.set_hif (s : State) (f : Fld) (v : Nat) : (s.set f v).hif = s.hif := rfl
@[simp] theorem State.set_obs (s : State) (f : Fld) (v : Nat) : (s.set f v).obs = s.obs := rfl
@[simp] theorem State.set_tsk (s : State) (f : Fld) (v : Nat) : (s.set f v).tsk = s.tsk := rfl
@[simp] theorem State.set_asy (s : State) (f : Fld) (v : Nat) : (s.set f v).asy = s.asy := rfl
@[simp] theorem State.set_sch (s : State) (f : Fld) (v : Nat) : (s.set f v).sch = s.sch := rfl
@[simp] theorem State.set_eng (s : State) (f : Fld) (v : Nat) : (s.set f v).eng = s.eng := rfl
@[simp] theorem State.set_refin (s : State) (f : Fld) (v : Nat) : (s.set f v).refin = s.refin := rfl
@[simp] theorem State.set_tic (s : State) (f : Fld) (v : Nat) : (s.set f v).tic = s.tic := rfl
@[simp] theorem State.set_gns (s : State) (f : Fld) (v : Nat) : (s.set f v).gns = s.gns := rfl
@[simp] theorem State.set_syn (s : State) (f : Fld) (v : Nat) : (s.set f v).syn = s.syn := rfl
@[simp] theorem State.set_eth (s : State) (f : Fld) (v : Nat) : (s.set f v).eth = s.eth := rfl
@[simp] theorem State.set_hmk (s : State) (f : Fld) (v : Nat) : (s.set f v).hmk = s.hmk := rfl
@[simp] theorem State.set_kvt (s : State) (f : Fld) (v : Nat) : (s.set f v).kvt = s.kvt := rfl
@[simp] theorem State.set_gfl (s : State) (f : Fld) (v : Nat) : (s.set f v).gfl = s.gfl := rfl
@[simp] theorem State.set_str (s : State) (f : Fld) (v : Nat) : (s.set f v).str = s.str := rfl
@[simp] theorem State.set_dram (s : State) (f : Fld) (v : Nat) : (s.set f v).dram = s.dram := rfl
@[simp] theorem State.set_pair (s : State) (f : Fld) (v : Nat) : (s.set f v).pair = s.pair := rfl
@[simp] theorem State.set_seam (s : State) (f : Fld) (v : Nat) : (s.set f v).seam = s.seam := rfl
@[simp] theorem State.set_pow (s : State) (f : Fld) (v : Nat) : (s.set f v).pow = s.pow := rfl
@[simp] theorem State.set_draws (s : State) (f : Fld) (v : Nat) : (s.set f v).draws = s.draws := rfl
@[simp] theorem State.set_out (s : State) (f : Fld) (v : Nat) : (s.set f v).out = s.out := rfl
@[simp] theorem State.set_pending (s : State) (f : Fld) (v : Nat) : (s.set f v).pending = s.pending := rfl
@[simp] theorem State.setB_part (s : State) (f : Fld) (b : Bool) : (s.setB f b).part = s.part := rfl
@[simp] theorem State.setB_pend (s : State) (f : Fld) (b : Bool) : (s.setB f b).pend = s.pend := rfl
@[simp] theorem State.setB_time (s : State) (f : Fld) (b : Bool) : (s.setB f b).time = s.time := rfl
@[simp] theorem State.setB_hif (s : State) (f : Fld) (b : Bool) : (s.setB f b).hif = s.hif := rfl
@[simp] theorem State.setB_obs (s : State) (f : Fld) (b : Bool) : (s.setB f b).obs = s.obs := rfl
@[simp] theorem State.setB_tsk (s : State) (f : Fld) (b : Bool) : (s.setB f b).tsk = s.tsk := rfl
@[simp] theorem State.setB_asy (s : State) (f : Fld) (b : Bool) : (s.setB f b).asy = s.asy := rfl
@[simp] theorem State.setB_sch (s : State) (f : Fld) (b : Bool) : (s.setB f b).sch = s.sch := rfl
@[simp] theorem State.setB_eng (s : State) (f : Fld) (b : Bool) : (s.setB f b).eng = s.eng := rfl
@[simp] theorem State.setB_refin (s : State) (f : Fld) (b : Bool) : (s.setB f b).refin = s.refin := rfl
@[simp] theorem State.setB_tic (s : State) (f : Fld) (b : Bool) : (s.setB f b).tic = s.tic := rfl
@[simp] theorem State.setB_gns (s : State) (f : Fld) (b : Bool) : (s.setB f b).gns = s.gns := rfl
@[simp] theorem State.setB_syn (s : State) (f : Fld) (b : Bool) : (s.setB f b).syn = s.syn := rfl
@[simp] theorem State.setB_eth (s : State) (f : Fld) (b : Bool) : (s.setB f b).eth = s.eth := rfl
@[simp] theorem State.setB_hmk (s : State) (f : Fld) (b : Bool) : (s.setB f b).hmk = s.hmk := rfl
@[simp] theorem State.setB_kvt (s : State) (f : Fld) (b : Bool) : (s.setB f b).kvt = s.kvt := rfl
@[simp] theorem State.setB_gfl (s : State) (f : Fld) (b : Bool) : (s.setB f b).gfl = s.gfl := rfl
@[simp] theorem State.setB_str (s : State) (f : Fld) (b : Bool) : (s.setB f b).str = s.str := rfl
@[simp] theorem State.setB_dram (s : State) (f : Fld) (b : Bool) : (s.setB f b).dram = s.dram := rfl
@[simp] theorem State.setB_pair (s : State) (f : Fld) (b : Bool) : (s.setB f b).pair = s.pair := rfl
@[simp] theorem State.setB_seam (s : State) (f : Fld) (b : Bool) : (s.setB f b).seam = s.seam := rfl
@[simp] theorem State.setB_pow (s : State) (f : Fld) (b : Bool) : (s.setB f b).pow = s.pow := rfl
@[simp] theorem State.setB_draws (s : State) (f : Fld) (b : Bool) : (s.setB f b).draws = s.draws := rfl
@[simp] theorem State.setB_out (s : State) (f : Fld) (b : Bool) : (s.setB f b).out = s.out := rfl
@[simp] theorem State.setB_pending (s : State) (f : Fld) (b : Bool) : (s.setB f b).pending = s.pending := rfl
@[simp] theorem State.setI_part (s : State) (f : Fld) (v : Int) : (s.setI f v).part = s.part := rfl
@[simp] theorem State.setI_pend (s : State) (f : Fld) (v : Int) : (s.setI f v).pend = s.pend := rfl
@[simp] theorem State.setI_time (s : State) (f : Fld) (v : Int) : (s.setI f v).time = s.time := rfl
@[simp] theorem State.setI_hif (s : State) (f : Fld) (v : Int) : (s.setI f v).hif = s.hif := rfl
@[simp] theorem State.setI_obs (s : State) (f : Fld) (v : Int) : (s.setI f v).obs = s.obs := rfl
@[simp] theorem State.setI_tsk (s : State) (f : Fld) (v : Int) : (s.setI f v).tsk = s.tsk := rfl
@[simp] theorem State.setI_asy (s : State) (f : Fld) (v : Int) : (s.setI f v).asy = s.asy := rfl
@[simp] theorem State.setI_sch (s : State) (f : Fld) (v : Int) : (s.setI f v).sch = s.sch := rfl
@[simp] theorem State.setI_eng (s : State) (f : Fld) (v : Int) : (s.setI f v).eng = s.eng := rfl
@[simp] theorem State.setI_refin (s : State) (f : Fld) (v : Int) : (s.setI f v).refin = s.refin := rfl
@[simp] theorem State.setI_tic (s : State) (f : Fld) (v : Int) : (s.setI f v).tic = s.tic := rfl
@[simp] theorem State.setI_gns (s : State) (f : Fld) (v : Int) : (s.setI f v).gns = s.gns := rfl
@[simp] theorem State.setI_syn (s : State) (f : Fld) (v : Int) : (s.setI f v).syn = s.syn := rfl
@[simp] theorem State.setI_eth (s : State) (f : Fld) (v : Int) : (s.setI f v).eth = s.eth := rfl
@[simp] theorem State.setI_hmk (s : State) (f : Fld) (v : Int) : (s.setI f v).hmk = s.hmk := rfl
@[simp] theorem State.setI_kvt (s : State) (f : Fld) (v : Int) : (s.setI f v).kvt = s.kvt := rfl
@[simp] theorem State.setI_gfl (s : State) (f : Fld) (v : Int) : (s.setI f v).gfl = s.gfl := rfl
@[simp] theorem State.setI_str (s : State) (f : Fld) (v : Int) : (s.setI f v).str = s.str := rfl
@[simp] theorem State.setI_dram (s : State) (f : Fld) (v : Int) : (s.setI f v).dram = s.dram := rfl
@[simp] theorem State.setI_pair (s : State) (f : Fld) (v : Int) : (s.setI f v).pair = s.pair := rfl
@[simp] theorem State.setI_seam (s : State) (f : Fld) (v : Int) : (s.setI f v).seam = s.seam := rfl
@[simp] theorem State.setI_pow (s : State) (f : Fld) (v : Int) : (s.setI f v).pow = s.pow := rfl
@[simp] theorem State.setI_draws (s : State) (f : Fld) (v : Int) : (s.setI f v).draws = s.draws := rfl
@[simp] theorem State.setI_out (s : State) (f : Fld) (v : Int) : (s.setI f v).out = s.out := rfl
@[simp] theorem State.setI_pending (s : State) (f : Fld) (v : Int) : (s.setI f v).pending = s.pending := rfl
@[simp] theorem State.add_part (s : State) (f : Fld) (n : Nat) : (s.add f n).part = s.part := rfl
@[simp] theorem State.add_pend (s : State) (f : Fld) (n : Nat) : (s.add f n).pend = s.pend := rfl
@[simp] theorem State.add_time (s : State) (f : Fld) (n : Nat) : (s.add f n).time = s.time := rfl
@[simp] theorem State.add_hif (s : State) (f : Fld) (n : Nat) : (s.add f n).hif = s.hif := rfl
@[simp] theorem State.add_obs (s : State) (f : Fld) (n : Nat) : (s.add f n).obs = s.obs := rfl
@[simp] theorem State.add_tsk (s : State) (f : Fld) (n : Nat) : (s.add f n).tsk = s.tsk := rfl
@[simp] theorem State.add_asy (s : State) (f : Fld) (n : Nat) : (s.add f n).asy = s.asy := rfl
@[simp] theorem State.add_sch (s : State) (f : Fld) (n : Nat) : (s.add f n).sch = s.sch := rfl
@[simp] theorem State.add_eng (s : State) (f : Fld) (n : Nat) : (s.add f n).eng = s.eng := rfl
@[simp] theorem State.add_refin (s : State) (f : Fld) (n : Nat) : (s.add f n).refin = s.refin := rfl
@[simp] theorem State.add_tic (s : State) (f : Fld) (n : Nat) : (s.add f n).tic = s.tic := rfl
@[simp] theorem State.add_gns (s : State) (f : Fld) (n : Nat) : (s.add f n).gns = s.gns := rfl
@[simp] theorem State.add_syn (s : State) (f : Fld) (n : Nat) : (s.add f n).syn = s.syn := rfl
@[simp] theorem State.add_eth (s : State) (f : Fld) (n : Nat) : (s.add f n).eth = s.eth := rfl
@[simp] theorem State.add_hmk (s : State) (f : Fld) (n : Nat) : (s.add f n).hmk = s.hmk := rfl
@[simp] theorem State.add_kvt (s : State) (f : Fld) (n : Nat) : (s.add f n).kvt = s.kvt := rfl
@[simp] theorem State.add_gfl (s : State) (f : Fld) (n : Nat) : (s.add f n).gfl = s.gfl := rfl
@[simp] theorem State.add_str (s : State) (f : Fld) (n : Nat) : (s.add f n).str = s.str := rfl
@[simp] theorem State.add_dram (s : State) (f : Fld) (n : Nat) : (s.add f n).dram = s.dram := rfl
@[simp] theorem State.add_pair (s : State) (f : Fld) (n : Nat) : (s.add f n).pair = s.pair := rfl
@[simp] theorem State.add_seam (s : State) (f : Fld) (n : Nat) : (s.add f n).seam = s.seam := rfl
@[simp] theorem State.add_pow (s : State) (f : Fld) (n : Nat) : (s.add f n).pow = s.pow := rfl
@[simp] theorem State.add_draws (s : State) (f : Fld) (n : Nat) : (s.add f n).draws = s.draws := rfl
@[simp] theorem State.add_out (s : State) (f : Fld) (n : Nat) : (s.add f n).out = s.out := rfl
@[simp] theorem State.add_pending (s : State) (f : Fld) (n : Nat) : (s.add f n).pending = s.pending := rfl
@[simp] theorem State.addSat_part (s : State) (f : Fld) (n : Nat) : (s.addSat f n).part = s.part := rfl
@[simp] theorem State.addSat_pend (s : State) (f : Fld) (n : Nat) : (s.addSat f n).pend = s.pend := rfl
@[simp] theorem State.addSat_time (s : State) (f : Fld) (n : Nat) : (s.addSat f n).time = s.time := rfl
@[simp] theorem State.addSat_hif (s : State) (f : Fld) (n : Nat) : (s.addSat f n).hif = s.hif := rfl
@[simp] theorem State.addSat_obs (s : State) (f : Fld) (n : Nat) : (s.addSat f n).obs = s.obs := rfl
@[simp] theorem State.addSat_tsk (s : State) (f : Fld) (n : Nat) : (s.addSat f n).tsk = s.tsk := rfl
@[simp] theorem State.addSat_asy (s : State) (f : Fld) (n : Nat) : (s.addSat f n).asy = s.asy := rfl
@[simp] theorem State.addSat_sch (s : State) (f : Fld) (n : Nat) : (s.addSat f n).sch = s.sch := rfl
@[simp] theorem State.addSat_eng (s : State) (f : Fld) (n : Nat) : (s.addSat f n).eng = s.eng := rfl
@[simp] theorem State.addSat_refin (s : State) (f : Fld) (n : Nat) : (s.addSat f n).refin = s.refin := rfl
@[simp] theorem State.addSat_tic (s : State) (f : Fld) (n : Nat) : (s.addSat f n).tic = s.tic := rfl
@[simp] theorem State.addSat_gns (s : State) (f : Fld) (n : Nat) : (s.addSat f n).gns = s.gns := rfl
@[simp] theorem State.addSat_syn (s : State) (f : Fld) (n : Nat) : (s.addSat f n).syn = s.syn := rfl
@[simp] theorem State.addSat_eth (s : State) (f : Fld) (n : Nat) : (s.addSat f n).eth = s.eth := rfl
@[simp] theorem State.addSat_hmk (s : State) (f : Fld) (n : Nat) : (s.addSat f n).hmk = s.hmk := rfl
@[simp] theorem State.addSat_kvt (s : State) (f : Fld) (n : Nat) : (s.addSat f n).kvt = s.kvt := rfl
@[simp] theorem State.addSat_gfl (s : State) (f : Fld) (n : Nat) : (s.addSat f n).gfl = s.gfl := rfl
@[simp] theorem State.addSat_str (s : State) (f : Fld) (n : Nat) : (s.addSat f n).str = s.str := rfl
@[simp] theorem State.addSat_dram (s : State) (f : Fld) (n : Nat) : (s.addSat f n).dram = s.dram := rfl
@[simp] theorem State.addSat_pair (s : State) (f : Fld) (n : Nat) : (s.addSat f n).pair = s.pair := rfl
@[simp] theorem State.addSat_seam (s : State) (f : Fld) (n : Nat) : (s.addSat f n).seam = s.seam := rfl
@[simp] theorem State.addSat_pow (s : State) (f : Fld) (n : Nat) : (s.addSat f n).pow = s.pow := rfl
@[simp] theorem State.addSat_draws (s : State) (f : Fld) (n : Nat) : (s.addSat f n).draws = s.draws := rfl
@[simp] theorem State.addSat_out (s : State) (f : Fld) (n : Nat) : (s.addSat f n).out = s.out := rfl
@[simp] theorem State.addSat_pending (s : State) (f : Fld) (n : Nat) : (s.addSat f n).pending = s.pending := rfl
@[simp] theorem State.emitOut_part (s : State) (o : Out) : (s.emitOut o).part = s.part := rfl
@[simp] theorem State.emitOut_regs (s : State) (o : Out) : (s.emitOut o).regs = s.regs := rfl
@[simp] theorem State.emitOut_pend (s : State) (o : Out) : (s.emitOut o).pend = s.pend := rfl
@[simp] theorem State.emitOut_time (s : State) (o : Out) : (s.emitOut o).time = s.time := rfl
@[simp] theorem State.emitOut_hif (s : State) (o : Out) : (s.emitOut o).hif = s.hif := rfl
@[simp] theorem State.emitOut_obs (s : State) (o : Out) : (s.emitOut o).obs = s.obs := rfl
@[simp] theorem State.emitOut_tsk (s : State) (o : Out) : (s.emitOut o).tsk = s.tsk := rfl
@[simp] theorem State.emitOut_asy (s : State) (o : Out) : (s.emitOut o).asy = s.asy := rfl
@[simp] theorem State.emitOut_sch (s : State) (o : Out) : (s.emitOut o).sch = s.sch := rfl
@[simp] theorem State.emitOut_eng (s : State) (o : Out) : (s.emitOut o).eng = s.eng := rfl
@[simp] theorem State.emitOut_refin (s : State) (o : Out) : (s.emitOut o).refin = s.refin := rfl
@[simp] theorem State.emitOut_tic (s : State) (o : Out) : (s.emitOut o).tic = s.tic := rfl
@[simp] theorem State.emitOut_gns (s : State) (o : Out) : (s.emitOut o).gns = s.gns := rfl
@[simp] theorem State.emitOut_syn (s : State) (o : Out) : (s.emitOut o).syn = s.syn := rfl
@[simp] theorem State.emitOut_eth (s : State) (o : Out) : (s.emitOut o).eth = s.eth := rfl
@[simp] theorem State.emitOut_hmk (s : State) (o : Out) : (s.emitOut o).hmk = s.hmk := rfl
@[simp] theorem State.emitOut_kvt (s : State) (o : Out) : (s.emitOut o).kvt = s.kvt := rfl
@[simp] theorem State.emitOut_gfl (s : State) (o : Out) : (s.emitOut o).gfl = s.gfl := rfl
@[simp] theorem State.emitOut_str (s : State) (o : Out) : (s.emitOut o).str = s.str := rfl
@[simp] theorem State.emitOut_dram (s : State) (o : Out) : (s.emitOut o).dram = s.dram := rfl
@[simp] theorem State.emitOut_pair (s : State) (o : Out) : (s.emitOut o).pair = s.pair := rfl
@[simp] theorem State.emitOut_seam (s : State) (o : Out) : (s.emitOut o).seam = s.seam := rfl
@[simp] theorem State.emitOut_pow (s : State) (o : Out) : (s.emitOut o).pow = s.pow := rfl
@[simp] theorem State.emitOut_draws (s : State) (o : Out) : (s.emitOut o).draws = s.draws := rfl
@[simp] theorem State.emitOut_pending (s : State) (o : Out) : (s.emitOut o).pending = s.pending := rfl
@[simp] theorem State.emitOut_get (s : State) (o : Out) (q : Fld) : (s.emitOut o).get q = s.get q := rfl
@[simp] theorem State.emitOut_getI (s : State) (o : Out) (q : Fld) : (s.emitOut o).getI q = s.getI q := rfl
@[simp] theorem State.emitOut_on (s : State) (o : Out) (q : Fld) : (s.emitOut o).on q = s.on q := rfl
@[simp] theorem State.msix_part (s : State) (fn vec : Nat) : (s.msix fn vec).part = s.part := rfl
@[simp] theorem State.msix_regs (s : State) (fn vec : Nat) : (s.msix fn vec).regs = s.regs := rfl
@[simp] theorem State.msix_pend (s : State) (fn vec : Nat) : (s.msix fn vec).pend = s.pend := rfl
@[simp] theorem State.msix_time (s : State) (fn vec : Nat) : (s.msix fn vec).time = s.time := rfl
@[simp] theorem State.msix_hif (s : State) (fn vec : Nat) : (s.msix fn vec).hif = s.hif := rfl
@[simp] theorem State.msix_obs (s : State) (fn vec : Nat) : (s.msix fn vec).obs = s.obs := rfl
@[simp] theorem State.msix_tsk (s : State) (fn vec : Nat) : (s.msix fn vec).tsk = s.tsk := rfl
@[simp] theorem State.msix_asy (s : State) (fn vec : Nat) : (s.msix fn vec).asy = s.asy := rfl
@[simp] theorem State.msix_sch (s : State) (fn vec : Nat) : (s.msix fn vec).sch = s.sch := rfl
@[simp] theorem State.msix_eng (s : State) (fn vec : Nat) : (s.msix fn vec).eng = s.eng := rfl
@[simp] theorem State.msix_refin (s : State) (fn vec : Nat) : (s.msix fn vec).refin = s.refin := rfl
@[simp] theorem State.msix_tic (s : State) (fn vec : Nat) : (s.msix fn vec).tic = s.tic := rfl
@[simp] theorem State.msix_gns (s : State) (fn vec : Nat) : (s.msix fn vec).gns = s.gns := rfl
@[simp] theorem State.msix_syn (s : State) (fn vec : Nat) : (s.msix fn vec).syn = s.syn := rfl
@[simp] theorem State.msix_eth (s : State) (fn vec : Nat) : (s.msix fn vec).eth = s.eth := rfl
@[simp] theorem State.msix_hmk (s : State) (fn vec : Nat) : (s.msix fn vec).hmk = s.hmk := rfl
@[simp] theorem State.msix_kvt (s : State) (fn vec : Nat) : (s.msix fn vec).kvt = s.kvt := rfl
@[simp] theorem State.msix_gfl (s : State) (fn vec : Nat) : (s.msix fn vec).gfl = s.gfl := rfl
@[simp] theorem State.msix_str (s : State) (fn vec : Nat) : (s.msix fn vec).str = s.str := rfl
@[simp] theorem State.msix_dram (s : State) (fn vec : Nat) : (s.msix fn vec).dram = s.dram := rfl
@[simp] theorem State.msix_pair (s : State) (fn vec : Nat) : (s.msix fn vec).pair = s.pair := rfl
@[simp] theorem State.msix_seam (s : State) (fn vec : Nat) : (s.msix fn vec).seam = s.seam := rfl
@[simp] theorem State.msix_pow (s : State) (fn vec : Nat) : (s.msix fn vec).pow = s.pow := rfl
@[simp] theorem State.msix_draws (s : State) (fn vec : Nat) : (s.msix fn vec).draws = s.draws := rfl
@[simp] theorem State.msix_pending (s : State) (fn vec : Nat) : (s.msix fn vec).pending = s.pending := rfl
@[simp] theorem State.msix_get (s : State) (fn vec : Nat) (q : Fld) : (s.msix fn vec).get q = s.get q := rfl
@[simp] theorem State.msix_getI (s : State) (fn vec : Nat) (q : Fld) : (s.msix fn vec).getI q = s.getI q := rfl
@[simp] theorem State.msix_on (s : State) (fn vec : Nat) (q : Fld) : (s.msix fn vec).on q = s.on q := rfl
@[simp] theorem State.draw_part (s : State) : (s.draw).part = s.part := rfl
@[simp] theorem State.draw_regs (s : State) : (s.draw).regs = s.regs := rfl
@[simp] theorem State.draw_pend (s : State) : (s.draw).pend = s.pend := rfl
@[simp] theorem State.draw_time (s : State) : (s.draw).time = s.time := rfl
@[simp] theorem State.draw_hif (s : State) : (s.draw).hif = s.hif := rfl
@[simp] theorem State.draw_obs (s : State) : (s.draw).obs = s.obs := rfl
@[simp] theorem State.draw_tsk (s : State) : (s.draw).tsk = s.tsk := rfl
@[simp] theorem State.draw_asy (s : State) : (s.draw).asy = s.asy := rfl
@[simp] theorem State.draw_sch (s : State) : (s.draw).sch = s.sch := rfl
@[simp] theorem State.draw_eng (s : State) : (s.draw).eng = s.eng := rfl
@[simp] theorem State.draw_refin (s : State) : (s.draw).refin = s.refin := rfl
@[simp] theorem State.draw_tic (s : State) : (s.draw).tic = s.tic := rfl
@[simp] theorem State.draw_gns (s : State) : (s.draw).gns = s.gns := rfl
@[simp] theorem State.draw_syn (s : State) : (s.draw).syn = s.syn := rfl
@[simp] theorem State.draw_eth (s : State) : (s.draw).eth = s.eth := rfl
@[simp] theorem State.draw_hmk (s : State) : (s.draw).hmk = s.hmk := rfl
@[simp] theorem State.draw_kvt (s : State) : (s.draw).kvt = s.kvt := rfl
@[simp] theorem State.draw_gfl (s : State) : (s.draw).gfl = s.gfl := rfl
@[simp] theorem State.draw_str (s : State) : (s.draw).str = s.str := rfl
@[simp] theorem State.draw_dram (s : State) : (s.draw).dram = s.dram := rfl
@[simp] theorem State.draw_pair (s : State) : (s.draw).pair = s.pair := rfl
@[simp] theorem State.draw_seam (s : State) : (s.draw).seam = s.seam := rfl
@[simp] theorem State.draw_pow (s : State) : (s.draw).pow = s.pow := rfl
@[simp] theorem State.draw_out (s : State) : (s.draw).out = s.out := rfl
@[simp] theorem State.draw_pending (s : State) : (s.draw).pending = s.pending := rfl
@[simp] theorem State.draw_get (s : State) (q : Fld) : (s.draw).get q = s.get q := rfl
@[simp] theorem State.draw_getI (s : State) (q : Fld) : (s.draw).getI q = s.getI q := rfl
@[simp] theorem State.draw_on (s : State) (q : Fld) : (s.draw).on q = s.on q := rfl
@[simp] theorem State.setFn_part (s : State) (n : Nat) (f : FnSt) : (s.setFn n f).part = s.part := rfl
@[simp] theorem State.setFn_regs (s : State) (n : Nat) (f : FnSt) : (s.setFn n f).regs = s.regs := rfl
@[simp] theorem State.setFn_pend (s : State) (n : Nat) (f : FnSt) : (s.setFn n f).pend = s.pend := rfl
@[simp] theorem State.setFn_time (s : State) (n : Nat) (f : FnSt) : (s.setFn n f).time = s.time := rfl
@[simp] theorem State.setFn_obs (s : State) (n : Nat) (f : FnSt) : (s.setFn n f).obs = s.obs := rfl
@[simp] theorem State.setFn_tsk (s : State) (n : Nat) (f : FnSt) : (s.setFn n f).tsk = s.tsk := rfl
@[simp] theorem State.setFn_asy (s : State) (n : Nat) (f : FnSt) : (s.setFn n f).asy = s.asy := rfl
@[simp] theorem State.setFn_sch (s : State) (n : Nat) (f : FnSt) : (s.setFn n f).sch = s.sch := rfl
@[simp] theorem State.setFn_eng (s : State) (n : Nat) (f : FnSt) : (s.setFn n f).eng = s.eng := rfl
@[simp] theorem State.setFn_refin (s : State) (n : Nat) (f : FnSt) : (s.setFn n f).refin = s.refin := rfl
@[simp] theorem State.setFn_tic (s : State) (n : Nat) (f : FnSt) : (s.setFn n f).tic = s.tic := rfl
@[simp] theorem State.setFn_gns (s : State) (n : Nat) (f : FnSt) : (s.setFn n f).gns = s.gns := rfl
@[simp] theorem State.setFn_syn (s : State) (n : Nat) (f : FnSt) : (s.setFn n f).syn = s.syn := rfl
@[simp] theorem State.setFn_eth (s : State) (n : Nat) (f : FnSt) : (s.setFn n f).eth = s.eth := rfl
@[simp] theorem State.setFn_hmk (s : State) (n : Nat) (f : FnSt) : (s.setFn n f).hmk = s.hmk := rfl
@[simp] theorem State.setFn_kvt (s : State) (n : Nat) (f : FnSt) : (s.setFn n f).kvt = s.kvt := rfl
@[simp] theorem State.setFn_gfl (s : State) (n : Nat) (f : FnSt) : (s.setFn n f).gfl = s.gfl := rfl
@[simp] theorem State.setFn_str (s : State) (n : Nat) (f : FnSt) : (s.setFn n f).str = s.str := rfl
@[simp] theorem State.setFn_dram (s : State) (n : Nat) (f : FnSt) : (s.setFn n f).dram = s.dram := rfl
@[simp] theorem State.setFn_pair (s : State) (n : Nat) (f : FnSt) : (s.setFn n f).pair = s.pair := rfl
@[simp] theorem State.setFn_seam (s : State) (n : Nat) (f : FnSt) : (s.setFn n f).seam = s.seam := rfl
@[simp] theorem State.setFn_pow (s : State) (n : Nat) (f : FnSt) : (s.setFn n f).pow = s.pow := rfl
@[simp] theorem State.setFn_draws (s : State) (n : Nat) (f : FnSt) : (s.setFn n f).draws = s.draws := rfl
@[simp] theorem State.setFn_out (s : State) (n : Nat) (f : FnSt) : (s.setFn n f).out = s.out := rfl
@[simp] theorem State.setFn_pending (s : State) (n : Nat) (f : FnSt) : (s.setFn n f).pending = s.pending := rfl
@[simp] theorem State.setFn_get (s : State) (n : Nat) (f : FnSt) (q : Fld) : (s.setFn n f).get q = s.get q := rfl
@[simp] theorem State.setFn_getI (s : State) (n : Nat) (f : FnSt) (q : Fld) : (s.setFn n f).getI q = s.getI q := rfl
@[simp] theorem State.setFn_on (s : State) (n : Nat) (f : FnSt) (q : Fld) : (s.setFn n f).on q = s.on q := rfl
@[simp] theorem State.tcount_part (s : State) (t k n : Nat) : (s.tcount t k n).part = s.part := rfl
@[simp] theorem State.tcount_regs (s : State) (t k n : Nat) : (s.tcount t k n).regs = s.regs := rfl
@[simp] theorem State.tcount_pend (s : State) (t k n : Nat) : (s.tcount t k n).pend = s.pend := rfl
@[simp] theorem State.tcount_time (s : State) (t k n : Nat) : (s.tcount t k n).time = s.time := rfl
@[simp] theorem State.tcount_hif (s : State) (t k n : Nat) : (s.tcount t k n).hif = s.hif := rfl
@[simp] theorem State.tcount_tsk (s : State) (t k n : Nat) : (s.tcount t k n).tsk = s.tsk := rfl
@[simp] theorem State.tcount_asy (s : State) (t k n : Nat) : (s.tcount t k n).asy = s.asy := rfl
@[simp] theorem State.tcount_sch (s : State) (t k n : Nat) : (s.tcount t k n).sch = s.sch := rfl
@[simp] theorem State.tcount_eng (s : State) (t k n : Nat) : (s.tcount t k n).eng = s.eng := rfl
@[simp] theorem State.tcount_refin (s : State) (t k n : Nat) : (s.tcount t k n).refin = s.refin := rfl
@[simp] theorem State.tcount_tic (s : State) (t k n : Nat) : (s.tcount t k n).tic = s.tic := rfl
@[simp] theorem State.tcount_gns (s : State) (t k n : Nat) : (s.tcount t k n).gns = s.gns := rfl
@[simp] theorem State.tcount_syn (s : State) (t k n : Nat) : (s.tcount t k n).syn = s.syn := rfl
@[simp] theorem State.tcount_eth (s : State) (t k n : Nat) : (s.tcount t k n).eth = s.eth := rfl
@[simp] theorem State.tcount_hmk (s : State) (t k n : Nat) : (s.tcount t k n).hmk = s.hmk := rfl
@[simp] theorem State.tcount_kvt (s : State) (t k n : Nat) : (s.tcount t k n).kvt = s.kvt := rfl
@[simp] theorem State.tcount_gfl (s : State) (t k n : Nat) : (s.tcount t k n).gfl = s.gfl := rfl
@[simp] theorem State.tcount_str (s : State) (t k n : Nat) : (s.tcount t k n).str = s.str := rfl
@[simp] theorem State.tcount_dram (s : State) (t k n : Nat) : (s.tcount t k n).dram = s.dram := rfl
@[simp] theorem State.tcount_pair (s : State) (t k n : Nat) : (s.tcount t k n).pair = s.pair := rfl
@[simp] theorem State.tcount_seam (s : State) (t k n : Nat) : (s.tcount t k n).seam = s.seam := rfl
@[simp] theorem State.tcount_pow (s : State) (t k n : Nat) : (s.tcount t k n).pow = s.pow := rfl
@[simp] theorem State.tcount_draws (s : State) (t k n : Nat) : (s.tcount t k n).draws = s.draws := rfl
@[simp] theorem State.tcount_out (s : State) (t k n : Nat) : (s.tcount t k n).out = s.out := rfl
@[simp] theorem State.tcount_pending (s : State) (t k n : Nat) : (s.tcount t k n).pending = s.pending := rfl
@[simp] theorem State.tcount_get (s : State) (t k n : Nat) (q : Fld) : (s.tcount t k n).get q = s.get q := rfl
@[simp] theorem State.tcount_getI (s : State) (t k n : Nat) (q : Fld) : (s.tcount t k n).getI q = s.getI q := rfl
@[simp] theorem State.tcount_on (s : State) (t k n : Nat) (q : Fld) : (s.tcount t k n).on q = s.on q := rfl
@[simp] theorem State.bump_part (s : State) (i n : Nat) : (s.bump i n).part = s.part := rfl
@[simp] theorem State.bump_regs (s : State) (i n : Nat) : (s.bump i n).regs = s.regs := rfl
@[simp] theorem State.bump_pend (s : State) (i n : Nat) : (s.bump i n).pend = s.pend := rfl
@[simp] theorem State.bump_time (s : State) (i n : Nat) : (s.bump i n).time = s.time := rfl
@[simp] theorem State.bump_hif (s : State) (i n : Nat) : (s.bump i n).hif = s.hif := rfl
@[simp] theorem State.bump_tsk (s : State) (i n : Nat) : (s.bump i n).tsk = s.tsk := rfl
@[simp] theorem State.bump_asy (s : State) (i n : Nat) : (s.bump i n).asy = s.asy := rfl
@[simp] theorem State.bump_sch (s : State) (i n : Nat) : (s.bump i n).sch = s.sch := rfl
@[simp] theorem State.bump_eng (s : State) (i n : Nat) : (s.bump i n).eng = s.eng := rfl
@[simp] theorem State.bump_refin (s : State) (i n : Nat) : (s.bump i n).refin = s.refin := rfl
@[simp] theorem State.bump_tic (s : State) (i n : Nat) : (s.bump i n).tic = s.tic := rfl
@[simp] theorem State.bump_gns (s : State) (i n : Nat) : (s.bump i n).gns = s.gns := rfl
@[simp] theorem State.bump_syn (s : State) (i n : Nat) : (s.bump i n).syn = s.syn := rfl
@[simp] theorem State.bump_eth (s : State) (i n : Nat) : (s.bump i n).eth = s.eth := rfl
@[simp] theorem State.bump_hmk (s : State) (i n : Nat) : (s.bump i n).hmk = s.hmk := rfl
@[simp] theorem State.bump_kvt (s : State) (i n : Nat) : (s.bump i n).kvt = s.kvt := rfl
@[simp] theorem State.bump_gfl (s : State) (i n : Nat) : (s.bump i n).gfl = s.gfl := rfl
@[simp] theorem State.bump_str (s : State) (i n : Nat) : (s.bump i n).str = s.str := rfl
@[simp] theorem State.bump_dram (s : State) (i n : Nat) : (s.bump i n).dram = s.dram := rfl
@[simp] theorem State.bump_pair (s : State) (i n : Nat) : (s.bump i n).pair = s.pair := rfl
@[simp] theorem State.bump_seam (s : State) (i n : Nat) : (s.bump i n).seam = s.seam := rfl
@[simp] theorem State.bump_pow (s : State) (i n : Nat) : (s.bump i n).pow = s.pow := rfl
@[simp] theorem State.bump_draws (s : State) (i n : Nat) : (s.bump i n).draws = s.draws := rfl
@[simp] theorem State.bump_out (s : State) (i n : Nat) : (s.bump i n).out = s.out := rfl
@[simp] theorem State.bump_pending (s : State) (i n : Nat) : (s.bump i n).pending = s.pending := rfl
@[simp] theorem State.bump_get (s : State) (i n : Nat) (q : Fld) : (s.bump i n).get q = s.get q := rfl
@[simp] theorem State.bump_getI (s : State) (i n : Nat) (q : Fld) : (s.bump i n).getI q = s.getI q := rfl
@[simp] theorem State.bump_on (s : State) (i n : Nat) (q : Fld) : (s.bump i n).on q = s.on q := rfl
@[simp] theorem State.setSlot_part (s : State) (k : Nat) (x : Slot) : (s.setSlot k x).part = s.part := rfl
@[simp] theorem State.setSlot_regs (s : State) (k : Nat) (x : Slot) : (s.setSlot k x).regs = s.regs := rfl
@[simp] theorem State.setSlot_pend (s : State) (k : Nat) (x : Slot) : (s.setSlot k x).pend = s.pend := rfl
@[simp] theorem State.setSlot_time (s : State) (k : Nat) (x : Slot) : (s.setSlot k x).time = s.time := rfl
@[simp] theorem State.setSlot_hif (s : State) (k : Nat) (x : Slot) : (s.setSlot k x).hif = s.hif := rfl
@[simp] theorem State.setSlot_tsk (s : State) (k : Nat) (x : Slot) : (s.setSlot k x).tsk = s.tsk := rfl
@[simp] theorem State.setSlot_asy (s : State) (k : Nat) (x : Slot) : (s.setSlot k x).asy = s.asy := rfl
@[simp] theorem State.setSlot_sch (s : State) (k : Nat) (x : Slot) : (s.setSlot k x).sch = s.sch := rfl
@[simp] theorem State.setSlot_eng (s : State) (k : Nat) (x : Slot) : (s.setSlot k x).eng = s.eng := rfl
@[simp] theorem State.setSlot_refin (s : State) (k : Nat) (x : Slot) : (s.setSlot k x).refin = s.refin := rfl
@[simp] theorem State.setSlot_tic (s : State) (k : Nat) (x : Slot) : (s.setSlot k x).tic = s.tic := rfl
@[simp] theorem State.setSlot_gns (s : State) (k : Nat) (x : Slot) : (s.setSlot k x).gns = s.gns := rfl
@[simp] theorem State.setSlot_syn (s : State) (k : Nat) (x : Slot) : (s.setSlot k x).syn = s.syn := rfl
@[simp] theorem State.setSlot_eth (s : State) (k : Nat) (x : Slot) : (s.setSlot k x).eth = s.eth := rfl
@[simp] theorem State.setSlot_hmk (s : State) (k : Nat) (x : Slot) : (s.setSlot k x).hmk = s.hmk := rfl
@[simp] theorem State.setSlot_kvt (s : State) (k : Nat) (x : Slot) : (s.setSlot k x).kvt = s.kvt := rfl
@[simp] theorem State.setSlot_gfl (s : State) (k : Nat) (x : Slot) : (s.setSlot k x).gfl = s.gfl := rfl
@[simp] theorem State.setSlot_str (s : State) (k : Nat) (x : Slot) : (s.setSlot k x).str = s.str := rfl
@[simp] theorem State.setSlot_dram (s : State) (k : Nat) (x : Slot) : (s.setSlot k x).dram = s.dram := rfl
@[simp] theorem State.setSlot_pair (s : State) (k : Nat) (x : Slot) : (s.setSlot k x).pair = s.pair := rfl
@[simp] theorem State.setSlot_seam (s : State) (k : Nat) (x : Slot) : (s.setSlot k x).seam = s.seam := rfl
@[simp] theorem State.setSlot_pow (s : State) (k : Nat) (x : Slot) : (s.setSlot k x).pow = s.pow := rfl
@[simp] theorem State.setSlot_draws (s : State) (k : Nat) (x : Slot) : (s.setSlot k x).draws = s.draws := rfl
@[simp] theorem State.setSlot_out (s : State) (k : Nat) (x : Slot) : (s.setSlot k x).out = s.out := rfl
@[simp] theorem State.setSlot_pending (s : State) (k : Nat) (x : Slot) : (s.setSlot k x).pending = s.pending := rfl
@[simp] theorem State.setSlot_get (s : State) (k : Nat) (x : Slot) (q : Fld) : (s.setSlot k x).get q = s.get q := rfl
@[simp] theorem State.setSlot_getI (s : State) (k : Nat) (x : Slot) (q : Fld) : (s.setSlot k x).getI q = s.getI q := rfl
@[simp] theorem State.setSlot_on (s : State) (k : Nat) (x : Slot) (q : Fld) : (s.setSlot k x).on q = s.on q := rfl

end Sys2Proof.Machine
end

