-- ==== Sys2Proof/Laws/Blocks.lean ====
section
/-!
SUPPORT. Sys2Proof/Laws/Blocks.lean: what the blocks' own setters leave alone, one lemma a field and update.
-/

namespace Sys2Proof.Machine

@[simp] theorem State.setEngine_part (s : State) (e : Nat) (x : EngSt) : (s.setEngine e x).part = s.part := rfl
@[simp] theorem State.setEngine_regs (s : State) (e : Nat) (x : EngSt) : (s.setEngine e x).regs = s.regs := rfl
@[simp] theorem State.setEngine_pend (s : State) (e : Nat) (x : EngSt) : (s.setEngine e x).pend = s.pend := rfl
@[simp] theorem State.setEngine_time (s : State) (e : Nat) (x : EngSt) : (s.setEngine e x).time = s.time := rfl
@[simp] theorem State.setEngine_hif (s : State) (e : Nat) (x : EngSt) : (s.setEngine e x).hif = s.hif := rfl
@[simp] theorem State.setEngine_obs (s : State) (e : Nat) (x : EngSt) : (s.setEngine e x).obs = s.obs := rfl
@[simp] theorem State.setEngine_tsk (s : State) (e : Nat) (x : EngSt) : (s.setEngine e x).tsk = s.tsk := rfl
@[simp] theorem State.setEngine_asy (s : State) (e : Nat) (x : EngSt) : (s.setEngine e x).asy = s.asy := rfl
@[simp] theorem State.setEngine_sch (s : State) (e : Nat) (x : EngSt) : (s.setEngine e x).sch = s.sch := rfl
@[simp] theorem State.setEngine_refin (s : State) (e : Nat) (x : EngSt) : (s.setEngine e x).refin = s.refin := rfl
@[simp] theorem State.setEngine_tic (s : State) (e : Nat) (x : EngSt) : (s.setEngine e x).tic = s.tic := rfl
@[simp] theorem State.setEngine_gns (s : State) (e : Nat) (x : EngSt) : (s.setEngine e x).gns = s.gns := rfl
@[simp] theorem State.setEngine_syn (s : State) (e : Nat) (x : EngSt) : (s.setEngine e x).syn = s.syn := rfl
@[simp] theorem State.setEngine_eth (s : State) (e : Nat) (x : EngSt) : (s.setEngine e x).eth = s.eth := rfl
@[simp] theorem State.setEngine_hmk (s : State) (e : Nat) (x : EngSt) : (s.setEngine e x).hmk = s.hmk := rfl
@[simp] theorem State.setEngine_kvt (s : State) (e : Nat) (x : EngSt) : (s.setEngine e x).kvt = s.kvt := rfl
@[simp] theorem State.setEngine_gfl (s : State) (e : Nat) (x : EngSt) : (s.setEngine e x).gfl = s.gfl := rfl
@[simp] theorem State.setEngine_str (s : State) (e : Nat) (x : EngSt) : (s.setEngine e x).str = s.str := rfl
@[simp] theorem State.setEngine_dram (s : State) (e : Nat) (x : EngSt) : (s.setEngine e x).dram = s.dram := rfl
@[simp] theorem State.setEngine_pair (s : State) (e : Nat) (x : EngSt) : (s.setEngine e x).pair = s.pair := rfl
@[simp] theorem State.setEngine_seam (s : State) (e : Nat) (x : EngSt) : (s.setEngine e x).seam = s.seam := rfl
@[simp] theorem State.setEngine_pow (s : State) (e : Nat) (x : EngSt) : (s.setEngine e x).pow = s.pow := rfl
@[simp] theorem State.setEngine_draws (s : State) (e : Nat) (x : EngSt) : (s.setEngine e x).draws = s.draws := rfl
@[simp] theorem State.setEngine_out (s : State) (e : Nat) (x : EngSt) : (s.setEngine e x).out = s.out := rfl
@[simp] theorem State.setEngine_pending (s : State) (e : Nat) (x : EngSt) : (s.setEngine e x).pending = s.pending := rfl
@[simp] theorem State.setEngine_get (s : State) (e : Nat) (x : EngSt) (q : Fld) : (s.setEngine e x).get q = s.get q := rfl
@[simp] theorem State.setEngine_getI (s : State) (e : Nat) (x : EngSt) (q : Fld) : (s.setEngine e x).getI q = s.getI q := rfl
@[simp] theorem State.setEngine_on (s : State) (e : Nat) (x : EngSt) (q : Fld) : (s.setEngine e x).on q = s.on q := rfl
@[simp] theorem State.setRef_part (s : State) (r : Nat) (x : RefSt) : (s.setRef r x).part = s.part := rfl
@[simp] theorem State.setRef_regs (s : State) (r : Nat) (x : RefSt) : (s.setRef r x).regs = s.regs := rfl
@[simp] theorem State.setRef_pend (s : State) (r : Nat) (x : RefSt) : (s.setRef r x).pend = s.pend := rfl
@[simp] theorem State.setRef_time (s : State) (r : Nat) (x : RefSt) : (s.setRef r x).time = s.time := rfl
@[simp] theorem State.setRef_hif (s : State) (r : Nat) (x : RefSt) : (s.setRef r x).hif = s.hif := rfl
@[simp] theorem State.setRef_obs (s : State) (r : Nat) (x : RefSt) : (s.setRef r x).obs = s.obs := rfl
@[simp] theorem State.setRef_tsk (s : State) (r : Nat) (x : RefSt) : (s.setRef r x).tsk = s.tsk := rfl
@[simp] theorem State.setRef_sch (s : State) (r : Nat) (x : RefSt) : (s.setRef r x).sch = s.sch := rfl
@[simp] theorem State.setRef_eng (s : State) (r : Nat) (x : RefSt) : (s.setRef r x).eng = s.eng := rfl
@[simp] theorem State.setRef_refin (s : State) (r : Nat) (x : RefSt) : (s.setRef r x).refin = s.refin := rfl
@[simp] theorem State.setRef_tic (s : State) (r : Nat) (x : RefSt) : (s.setRef r x).tic = s.tic := rfl
@[simp] theorem State.setRef_gns (s : State) (r : Nat) (x : RefSt) : (s.setRef r x).gns = s.gns := rfl
@[simp] theorem State.setRef_syn (s : State) (r : Nat) (x : RefSt) : (s.setRef r x).syn = s.syn := rfl
@[simp] theorem State.setRef_eth (s : State) (r : Nat) (x : RefSt) : (s.setRef r x).eth = s.eth := rfl
@[simp] theorem State.setRef_hmk (s : State) (r : Nat) (x : RefSt) : (s.setRef r x).hmk = s.hmk := rfl
@[simp] theorem State.setRef_kvt (s : State) (r : Nat) (x : RefSt) : (s.setRef r x).kvt = s.kvt := rfl
@[simp] theorem State.setRef_gfl (s : State) (r : Nat) (x : RefSt) : (s.setRef r x).gfl = s.gfl := rfl
@[simp] theorem State.setRef_str (s : State) (r : Nat) (x : RefSt) : (s.setRef r x).str = s.str := rfl
@[simp] theorem State.setRef_dram (s : State) (r : Nat) (x : RefSt) : (s.setRef r x).dram = s.dram := rfl
@[simp] theorem State.setRef_pair (s : State) (r : Nat) (x : RefSt) : (s.setRef r x).pair = s.pair := rfl
@[simp] theorem State.setRef_seam (s : State) (r : Nat) (x : RefSt) : (s.setRef r x).seam = s.seam := rfl
@[simp] theorem State.setRef_pow (s : State) (r : Nat) (x : RefSt) : (s.setRef r x).pow = s.pow := rfl
@[simp] theorem State.setRef_draws (s : State) (r : Nat) (x : RefSt) : (s.setRef r x).draws = s.draws := rfl
@[simp] theorem State.setRef_out (s : State) (r : Nat) (x : RefSt) : (s.setRef r x).out = s.out := rfl
@[simp] theorem State.setRef_pending (s : State) (r : Nat) (x : RefSt) : (s.setRef r x).pending = s.pending := rfl
@[simp] theorem State.setRef_get (s : State) (r : Nat) (x : RefSt) (q : Fld) : (s.setRef r x).get q = s.get q := rfl
@[simp] theorem State.setRef_getI (s : State) (r : Nat) (x : RefSt) (q : Fld) : (s.setRef r x).getI q = s.getI q := rfl
@[simp] theorem State.setRef_on (s : State) (r : Nat) (x : RefSt) (q : Fld) : (s.setRef r x).on q = s.on q := rfl
@[simp] theorem State.setPort_part (s : State) (p : Nat) (x : PortSt) : (s.setPort p x).part = s.part := rfl
@[simp] theorem State.setPort_regs (s : State) (p : Nat) (x : PortSt) : (s.setPort p x).regs = s.regs := rfl
@[simp] theorem State.setPort_pend (s : State) (p : Nat) (x : PortSt) : (s.setPort p x).pend = s.pend := rfl
@[simp] theorem State.setPort_time (s : State) (p : Nat) (x : PortSt) : (s.setPort p x).time = s.time := rfl
@[simp] theorem State.setPort_hif (s : State) (p : Nat) (x : PortSt) : (s.setPort p x).hif = s.hif := rfl
@[simp] theorem State.setPort_obs (s : State) (p : Nat) (x : PortSt) : (s.setPort p x).obs = s.obs := rfl
@[simp] theorem State.setPort_tsk (s : State) (p : Nat) (x : PortSt) : (s.setPort p x).tsk = s.tsk := rfl
@[simp] theorem State.setPort_asy (s : State) (p : Nat) (x : PortSt) : (s.setPort p x).asy = s.asy := rfl
@[simp] theorem State.setPort_sch (s : State) (p : Nat) (x : PortSt) : (s.setPort p x).sch = s.sch := rfl
@[simp] theorem State.setPort_eng (s : State) (p : Nat) (x : PortSt) : (s.setPort p x).eng = s.eng := rfl
@[simp] theorem State.setPort_refin (s : State) (p : Nat) (x : PortSt) : (s.setPort p x).refin = s.refin := rfl
@[simp] theorem State.setPort_tic (s : State) (p : Nat) (x : PortSt) : (s.setPort p x).tic = s.tic := rfl
@[simp] theorem State.setPort_gns (s : State) (p : Nat) (x : PortSt) : (s.setPort p x).gns = s.gns := rfl
@[simp] theorem State.setPort_syn (s : State) (p : Nat) (x : PortSt) : (s.setPort p x).syn = s.syn := rfl
@[simp] theorem State.setPort_hmk (s : State) (p : Nat) (x : PortSt) : (s.setPort p x).hmk = s.hmk := rfl
@[simp] theorem State.setPort_kvt (s : State) (p : Nat) (x : PortSt) : (s.setPort p x).kvt = s.kvt := rfl
@[simp] theorem State.setPort_gfl (s : State) (p : Nat) (x : PortSt) : (s.setPort p x).gfl = s.gfl := rfl
@[simp] theorem State.setPort_str (s : State) (p : Nat) (x : PortSt) : (s.setPort p x).str = s.str := rfl
@[simp] theorem State.setPort_dram (s : State) (p : Nat) (x : PortSt) : (s.setPort p x).dram = s.dram := rfl
@[simp] theorem State.setPort_pair (s : State) (p : Nat) (x : PortSt) : (s.setPort p x).pair = s.pair := rfl
@[simp] theorem State.setPort_seam (s : State) (p : Nat) (x : PortSt) : (s.setPort p x).seam = s.seam := rfl
@[simp] theorem State.setPort_pow (s : State) (p : Nat) (x : PortSt) : (s.setPort p x).pow = s.pow := rfl
@[simp] theorem State.setPort_draws (s : State) (p : Nat) (x : PortSt) : (s.setPort p x).draws = s.draws := rfl
@[simp] theorem State.setPort_out (s : State) (p : Nat) (x : PortSt) : (s.setPort p x).out = s.out := rfl
@[simp] theorem State.setPort_pending (s : State) (p : Nat) (x : PortSt) : (s.setPort p x).pending = s.pending := rfl
@[simp] theorem State.setPort_get (s : State) (p : Nat) (x : PortSt) (q : Fld) : (s.setPort p x).get q = s.get q := rfl
@[simp] theorem State.setPort_getI (s : State) (p : Nat) (x : PortSt) (q : Fld) : (s.setPort p x).getI q = s.getI q := rfl
@[simp] theorem State.setPort_on (s : State) (p : Nat) (x : PortSt) (q : Fld) : (s.setPort p x).on q = s.on q := rfl
@[simp] theorem State.setLink_part (s : State) (l : Nat) (x : LinkSt) : (s.setLink l x).part = s.part := rfl
@[simp] theorem State.setLink_regs (s : State) (l : Nat) (x : LinkSt) : (s.setLink l x).regs = s.regs := rfl
@[simp] theorem State.setLink_pend (s : State) (l : Nat) (x : LinkSt) : (s.setLink l x).pend = s.pend := rfl
@[simp] theorem State.setLink_time (s : State) (l : Nat) (x : LinkSt) : (s.setLink l x).time = s.time := rfl
@[simp] theorem State.setLink_hif (s : State) (l : Nat) (x : LinkSt) : (s.setLink l x).hif = s.hif := rfl
@[simp] theorem State.setLink_obs (s : State) (l : Nat) (x : LinkSt) : (s.setLink l x).obs = s.obs := rfl
@[simp] theorem State.setLink_tsk (s : State) (l : Nat) (x : LinkSt) : (s.setLink l x).tsk = s.tsk := rfl
@[simp] theorem State.setLink_asy (s : State) (l : Nat) (x : LinkSt) : (s.setLink l x).asy = s.asy := rfl
@[simp] theorem State.setLink_sch (s : State) (l : Nat) (x : LinkSt) : (s.setLink l x).sch = s.sch := rfl
@[simp] theorem State.setLink_eng (s : State) (l : Nat) (x : LinkSt) : (s.setLink l x).eng = s.eng := rfl
@[simp] theorem State.setLink_refin (s : State) (l : Nat) (x : LinkSt) : (s.setLink l x).refin = s.refin := rfl
@[simp] theorem State.setLink_tic (s : State) (l : Nat) (x : LinkSt) : (s.setLink l x).tic = s.tic := rfl
@[simp] theorem State.setLink_gns (s : State) (l : Nat) (x : LinkSt) : (s.setLink l x).gns = s.gns := rfl
@[simp] theorem State.setLink_syn (s : State) (l : Nat) (x : LinkSt) : (s.setLink l x).syn = s.syn := rfl
@[simp] theorem State.setLink_eth (s : State) (l : Nat) (x : LinkSt) : (s.setLink l x).eth = s.eth := rfl
@[simp] theorem State.setLink_hmk (s : State) (l : Nat) (x : LinkSt) : (s.setLink l x).hmk = s.hmk := rfl
@[simp] theorem State.setLink_kvt (s : State) (l : Nat) (x : LinkSt) : (s.setLink l x).kvt = s.kvt := rfl
@[simp] theorem State.setLink_str (s : State) (l : Nat) (x : LinkSt) : (s.setLink l x).str = s.str := rfl
@[simp] theorem State.setLink_dram (s : State) (l : Nat) (x : LinkSt) : (s.setLink l x).dram = s.dram := rfl
@[simp] theorem State.setLink_pair (s : State) (l : Nat) (x : LinkSt) : (s.setLink l x).pair = s.pair := rfl
@[simp] theorem State.setLink_seam (s : State) (l : Nat) (x : LinkSt) : (s.setLink l x).seam = s.seam := rfl
@[simp] theorem State.setLink_pow (s : State) (l : Nat) (x : LinkSt) : (s.setLink l x).pow = s.pow := rfl
@[simp] theorem State.setLink_draws (s : State) (l : Nat) (x : LinkSt) : (s.setLink l x).draws = s.draws := rfl
@[simp] theorem State.setLink_out (s : State) (l : Nat) (x : LinkSt) : (s.setLink l x).out = s.out := rfl
@[simp] theorem State.setLink_pending (s : State) (l : Nat) (x : LinkSt) : (s.setLink l x).pending = s.pending := rfl
@[simp] theorem State.setLink_get (s : State) (l : Nat) (x : LinkSt) (q : Fld) : (s.setLink l x).get q = s.get q := rfl
@[simp] theorem State.setLink_getI (s : State) (l : Nat) (x : LinkSt) (q : Fld) : (s.setLink l x).getI q = s.getI q := rfl
@[simp] theorem State.setLink_on (s : State) (l : Nat) (x : LinkSt) (q : Fld) : (s.setLink l x).on q = s.on q := rfl
@[simp] theorem State.setGnsCh_part (s : State) (c : Nat) (x : GnsCh) : (s.setGnsCh c x).part = s.part := rfl
@[simp] theorem State.setGnsCh_regs (s : State) (c : Nat) (x : GnsCh) : (s.setGnsCh c x).regs = s.regs := rfl
@[simp] theorem State.setGnsCh_pend (s : State) (c : Nat) (x : GnsCh) : (s.setGnsCh c x).pend = s.pend := rfl
@[simp] theorem State.setGnsCh_time (s : State) (c : Nat) (x : GnsCh) : (s.setGnsCh c x).time = s.time := rfl
@[simp] theorem State.setGnsCh_hif (s : State) (c : Nat) (x : GnsCh) : (s.setGnsCh c x).hif = s.hif := rfl
@[simp] theorem State.setGnsCh_obs (s : State) (c : Nat) (x : GnsCh) : (s.setGnsCh c x).obs = s.obs := rfl
@[simp] theorem State.setGnsCh_tsk (s : State) (c : Nat) (x : GnsCh) : (s.setGnsCh c x).tsk = s.tsk := rfl
@[simp] theorem State.setGnsCh_asy (s : State) (c : Nat) (x : GnsCh) : (s.setGnsCh c x).asy = s.asy := rfl
@[simp] theorem State.setGnsCh_sch (s : State) (c : Nat) (x : GnsCh) : (s.setGnsCh c x).sch = s.sch := rfl
@[simp] theorem State.setGnsCh_eng (s : State) (c : Nat) (x : GnsCh) : (s.setGnsCh c x).eng = s.eng := rfl
@[simp] theorem State.setGnsCh_refin (s : State) (c : Nat) (x : GnsCh) : (s.setGnsCh c x).refin = s.refin := rfl
@[simp] theorem State.setGnsCh_tic (s : State) (c : Nat) (x : GnsCh) : (s.setGnsCh c x).tic = s.tic := rfl
@[simp] theorem State.setGnsCh_syn (s : State) (c : Nat) (x : GnsCh) : (s.setGnsCh c x).syn = s.syn := rfl
@[simp] theorem State.setGnsCh_eth (s : State) (c : Nat) (x : GnsCh) : (s.setGnsCh c x).eth = s.eth := rfl
@[simp] theorem State.setGnsCh_hmk (s : State) (c : Nat) (x : GnsCh) : (s.setGnsCh c x).hmk = s.hmk := rfl
@[simp] theorem State.setGnsCh_kvt (s : State) (c : Nat) (x : GnsCh) : (s.setGnsCh c x).kvt = s.kvt := rfl
@[simp] theorem State.setGnsCh_gfl (s : State) (c : Nat) (x : GnsCh) : (s.setGnsCh c x).gfl = s.gfl := rfl
@[simp] theorem State.setGnsCh_str (s : State) (c : Nat) (x : GnsCh) : (s.setGnsCh c x).str = s.str := rfl
@[simp] theorem State.setGnsCh_dram (s : State) (c : Nat) (x : GnsCh) : (s.setGnsCh c x).dram = s.dram := rfl
@[simp] theorem State.setGnsCh_pair (s : State) (c : Nat) (x : GnsCh) : (s.setGnsCh c x).pair = s.pair := rfl
@[simp] theorem State.setGnsCh_seam (s : State) (c : Nat) (x : GnsCh) : (s.setGnsCh c x).seam = s.seam := rfl
@[simp] theorem State.setGnsCh_pow (s : State) (c : Nat) (x : GnsCh) : (s.setGnsCh c x).pow = s.pow := rfl
@[simp] theorem State.setGnsCh_draws (s : State) (c : Nat) (x : GnsCh) : (s.setGnsCh c x).draws = s.draws := rfl
@[simp] theorem State.setGnsCh_out (s : State) (c : Nat) (x : GnsCh) : (s.setGnsCh c x).out = s.out := rfl
@[simp] theorem State.setGnsCh_pending (s : State) (c : Nat) (x : GnsCh) : (s.setGnsCh c x).pending = s.pending := rfl
@[simp] theorem State.setGnsCh_get (s : State) (c : Nat) (x : GnsCh) (q : Fld) : (s.setGnsCh c x).get q = s.get q := rfl
@[simp] theorem State.setGnsCh_getI (s : State) (c : Nat) (x : GnsCh) (q : Fld) : (s.setGnsCh c x).getI q = s.getI q := rfl
@[simp] theorem State.setGnsCh_on (s : State) (c : Nat) (x : GnsCh) (q : Fld) : (s.setGnsCh c x).on q = s.on q := rfl
@[simp] theorem State.setAnt_part (s : State) (a : Nat) (x : AntSt) : (s.setAnt a x).part = s.part := rfl
@[simp] theorem State.setAnt_regs (s : State) (a : Nat) (x : AntSt) : (s.setAnt a x).regs = s.regs := rfl
@[simp] theorem State.setAnt_pend (s : State) (a : Nat) (x : AntSt) : (s.setAnt a x).pend = s.pend := rfl
@[simp] theorem State.setAnt_time (s : State) (a : Nat) (x : AntSt) : (s.setAnt a x).time = s.time := rfl
@[simp] theorem State.setAnt_hif (s : State) (a : Nat) (x : AntSt) : (s.setAnt a x).hif = s.hif := rfl
@[simp] theorem State.setAnt_obs (s : State) (a : Nat) (x : AntSt) : (s.setAnt a x).obs = s.obs := rfl
@[simp] theorem State.setAnt_tsk (s : State) (a : Nat) (x : AntSt) : (s.setAnt a x).tsk = s.tsk := rfl
@[simp] theorem State.setAnt_asy (s : State) (a : Nat) (x : AntSt) : (s.setAnt a x).asy = s.asy := rfl
@[simp] theorem State.setAnt_sch (s : State) (a : Nat) (x : AntSt) : (s.setAnt a x).sch = s.sch := rfl
@[simp] theorem State.setAnt_eng (s : State) (a : Nat) (x : AntSt) : (s.setAnt a x).eng = s.eng := rfl
@[simp] theorem State.setAnt_refin (s : State) (a : Nat) (x : AntSt) : (s.setAnt a x).refin = s.refin := rfl
@[simp] theorem State.setAnt_tic (s : State) (a : Nat) (x : AntSt) : (s.setAnt a x).tic = s.tic := rfl
@[simp] theorem State.setAnt_syn (s : State) (a : Nat) (x : AntSt) : (s.setAnt a x).syn = s.syn := rfl
@[simp] theorem State.setAnt_eth (s : State) (a : Nat) (x : AntSt) : (s.setAnt a x).eth = s.eth := rfl
@[simp] theorem State.setAnt_hmk (s : State) (a : Nat) (x : AntSt) : (s.setAnt a x).hmk = s.hmk := rfl
@[simp] theorem State.setAnt_kvt (s : State) (a : Nat) (x : AntSt) : (s.setAnt a x).kvt = s.kvt := rfl
@[simp] theorem State.setAnt_gfl (s : State) (a : Nat) (x : AntSt) : (s.setAnt a x).gfl = s.gfl := rfl
@[simp] theorem State.setAnt_str (s : State) (a : Nat) (x : AntSt) : (s.setAnt a x).str = s.str := rfl
@[simp] theorem State.setAnt_dram (s : State) (a : Nat) (x : AntSt) : (s.setAnt a x).dram = s.dram := rfl
@[simp] theorem State.setAnt_pair (s : State) (a : Nat) (x : AntSt) : (s.setAnt a x).pair = s.pair := rfl
@[simp] theorem State.setAnt_seam (s : State) (a : Nat) (x : AntSt) : (s.setAnt a x).seam = s.seam := rfl
@[simp] theorem State.setAnt_pow (s : State) (a : Nat) (x : AntSt) : (s.setAnt a x).pow = s.pow := rfl
@[simp] theorem State.setAnt_draws (s : State) (a : Nat) (x : AntSt) : (s.setAnt a x).draws = s.draws := rfl
@[simp] theorem State.setAnt_out (s : State) (a : Nat) (x : AntSt) : (s.setAnt a x).out = s.out := rfl
@[simp] theorem State.setAnt_pending (s : State) (a : Nat) (x : AntSt) : (s.setAnt a x).pending = s.pending := rfl
@[simp] theorem State.setAnt_get (s : State) (a : Nat) (x : AntSt) (q : Fld) : (s.setAnt a x).get q = s.get q := rfl
@[simp] theorem State.setAnt_getI (s : State) (a : Nat) (x : AntSt) (q : Fld) : (s.setAnt a x).getI q = s.getI q := rfl
@[simp] theorem State.setAnt_on (s : State) (a : Nat) (x : AntSt) (q : Fld) : (s.setAnt a x).on q = s.on q := rfl
@[simp] theorem State.setQueue_part (s : State) (p : Nat) (l : List HReq) : (s.setQueue p l).part = s.part := rfl
@[simp] theorem State.setQueue_regs (s : State) (p : Nat) (l : List HReq) : (s.setQueue p l).regs = s.regs := rfl
@[simp] theorem State.setQueue_pend (s : State) (p : Nat) (l : List HReq) : (s.setQueue p l).pend = s.pend := rfl
@[simp] theorem State.setQueue_time (s : State) (p : Nat) (l : List HReq) : (s.setQueue p l).time = s.time := rfl
@[simp] theorem State.setQueue_hif (s : State) (p : Nat) (l : List HReq) : (s.setQueue p l).hif = s.hif := rfl
@[simp] theorem State.setQueue_obs (s : State) (p : Nat) (l : List HReq) : (s.setQueue p l).obs = s.obs := rfl
@[simp] theorem State.setQueue_tsk (s : State) (p : Nat) (l : List HReq) : (s.setQueue p l).tsk = s.tsk := rfl
@[simp] theorem State.setQueue_asy (s : State) (p : Nat) (l : List HReq) : (s.setQueue p l).asy = s.asy := rfl
@[simp] theorem State.setQueue_sch (s : State) (p : Nat) (l : List HReq) : (s.setQueue p l).sch = s.sch := rfl
@[simp] theorem State.setQueue_eng (s : State) (p : Nat) (l : List HReq) : (s.setQueue p l).eng = s.eng := rfl
@[simp] theorem State.setQueue_refin (s : State) (p : Nat) (l : List HReq) : (s.setQueue p l).refin = s.refin := rfl
@[simp] theorem State.setQueue_tic (s : State) (p : Nat) (l : List HReq) : (s.setQueue p l).tic = s.tic := rfl
@[simp] theorem State.setQueue_gns (s : State) (p : Nat) (l : List HReq) : (s.setQueue p l).gns = s.gns := rfl
@[simp] theorem State.setQueue_syn (s : State) (p : Nat) (l : List HReq) : (s.setQueue p l).syn = s.syn := rfl
@[simp] theorem State.setQueue_eth (s : State) (p : Nat) (l : List HReq) : (s.setQueue p l).eth = s.eth := rfl
@[simp] theorem State.setQueue_kvt (s : State) (p : Nat) (l : List HReq) : (s.setQueue p l).kvt = s.kvt := rfl
@[simp] theorem State.setQueue_gfl (s : State) (p : Nat) (l : List HReq) : (s.setQueue p l).gfl = s.gfl := rfl
@[simp] theorem State.setQueue_str (s : State) (p : Nat) (l : List HReq) : (s.setQueue p l).str = s.str := rfl
@[simp] theorem State.setQueue_dram (s : State) (p : Nat) (l : List HReq) : (s.setQueue p l).dram = s.dram := rfl
@[simp] theorem State.setQueue_pair (s : State) (p : Nat) (l : List HReq) : (s.setQueue p l).pair = s.pair := rfl
@[simp] theorem State.setQueue_seam (s : State) (p : Nat) (l : List HReq) : (s.setQueue p l).seam = s.seam := rfl
@[simp] theorem State.setQueue_pow (s : State) (p : Nat) (l : List HReq) : (s.setQueue p l).pow = s.pow := rfl
@[simp] theorem State.setQueue_draws (s : State) (p : Nat) (l : List HReq) : (s.setQueue p l).draws = s.draws := rfl
@[simp] theorem State.setQueue_out (s : State) (p : Nat) (l : List HReq) : (s.setQueue p l).out = s.out := rfl
@[simp] theorem State.setQueue_pending (s : State) (p : Nat) (l : List HReq) : (s.setQueue p l).pending = s.pending := rfl
@[simp] theorem State.setQueue_get (s : State) (p : Nat) (l : List HReq) (q : Fld) : (s.setQueue p l).get q = s.get q := rfl
@[simp] theorem State.setQueue_getI (s : State) (p : Nat) (l : List HReq) (q : Fld) : (s.setQueue p l).getI q = s.getI q := rfl
@[simp] theorem State.setQueue_on (s : State) (p : Nat) (l : List HReq) (q : Fld) : (s.setQueue p l).on q = s.on q := rfl
@[simp] theorem State.setJobs_part (s : State) (p : Nat) (l : List HJob) : (s.setJobs p l).part = s.part := rfl
@[simp] theorem State.setJobs_regs (s : State) (p : Nat) (l : List HJob) : (s.setJobs p l).regs = s.regs := rfl
@[simp] theorem State.setJobs_pend (s : State) (p : Nat) (l : List HJob) : (s.setJobs p l).pend = s.pend := rfl
@[simp] theorem State.setJobs_time (s : State) (p : Nat) (l : List HJob) : (s.setJobs p l).time = s.time := rfl
@[simp] theorem State.setJobs_hif (s : State) (p : Nat) (l : List HJob) : (s.setJobs p l).hif = s.hif := rfl
@[simp] theorem State.setJobs_obs (s : State) (p : Nat) (l : List HJob) : (s.setJobs p l).obs = s.obs := rfl
@[simp] theorem State.setJobs_tsk (s : State) (p : Nat) (l : List HJob) : (s.setJobs p l).tsk = s.tsk := rfl
@[simp] theorem State.setJobs_asy (s : State) (p : Nat) (l : List HJob) : (s.setJobs p l).asy = s.asy := rfl
@[simp] theorem State.setJobs_sch (s : State) (p : Nat) (l : List HJob) : (s.setJobs p l).sch = s.sch := rfl
@[simp] theorem State.setJobs_eng (s : State) (p : Nat) (l : List HJob) : (s.setJobs p l).eng = s.eng := rfl
@[simp] theorem State.setJobs_refin (s : State) (p : Nat) (l : List HJob) : (s.setJobs p l).refin = s.refin := rfl
@[simp] theorem State.setJobs_tic (s : State) (p : Nat) (l : List HJob) : (s.setJobs p l).tic = s.tic := rfl
@[simp] theorem State.setJobs_gns (s : State) (p : Nat) (l : List HJob) : (s.setJobs p l).gns = s.gns := rfl
@[simp] theorem State.setJobs_syn (s : State) (p : Nat) (l : List HJob) : (s.setJobs p l).syn = s.syn := rfl
@[simp] theorem State.setJobs_eth (s : State) (p : Nat) (l : List HJob) : (s.setJobs p l).eth = s.eth := rfl
@[simp] theorem State.setJobs_kvt (s : State) (p : Nat) (l : List HJob) : (s.setJobs p l).kvt = s.kvt := rfl
@[simp] theorem State.setJobs_gfl (s : State) (p : Nat) (l : List HJob) : (s.setJobs p l).gfl = s.gfl := rfl
@[simp] theorem State.setJobs_str (s : State) (p : Nat) (l : List HJob) : (s.setJobs p l).str = s.str := rfl
@[simp] theorem State.setJobs_dram (s : State) (p : Nat) (l : List HJob) : (s.setJobs p l).dram = s.dram := rfl
@[simp] theorem State.setJobs_pair (s : State) (p : Nat) (l : List HJob) : (s.setJobs p l).pair = s.pair := rfl
@[simp] theorem State.setJobs_seam (s : State) (p : Nat) (l : List HJob) : (s.setJobs p l).seam = s.seam := rfl
@[simp] theorem State.setJobs_pow (s : State) (p : Nat) (l : List HJob) : (s.setJobs p l).pow = s.pow := rfl
@[simp] theorem State.setJobs_draws (s : State) (p : Nat) (l : List HJob) : (s.setJobs p l).draws = s.draws := rfl
@[simp] theorem State.setJobs_out (s : State) (p : Nat) (l : List HJob) : (s.setJobs p l).out = s.out := rfl
@[simp] theorem State.setJobs_pending (s : State) (p : Nat) (l : List HJob) : (s.setJobs p l).pending = s.pending := rfl
@[simp] theorem State.setJobs_get (s : State) (p : Nat) (l : List HJob) (q : Fld) : (s.setJobs p l).get q = s.get q := rfl
@[simp] theorem State.setJobs_getI (s : State) (p : Nat) (l : List HJob) (q : Fld) : (s.setJobs p l).getI q = s.getI q := rfl
@[simp] theorem State.setJobs_on (s : State) (p : Nat) (l : List HJob) (q : Fld) : (s.setJobs p l).on q = s.on q := rfl
@[simp] theorem State.setSrc_part (s : State) (n : Nat) (x : SrcSt) : (s.setSrc n x).part = s.part := rfl
@[simp] theorem State.setSrc_regs (s : State) (n : Nat) (x : SrcSt) : (s.setSrc n x).regs = s.regs := rfl
@[simp] theorem State.setSrc_pend (s : State) (n : Nat) (x : SrcSt) : (s.setSrc n x).pend = s.pend := rfl
@[simp] theorem State.setSrc_time (s : State) (n : Nat) (x : SrcSt) : (s.setSrc n x).time = s.time := rfl
@[simp] theorem State.setSrc_hif (s : State) (n : Nat) (x : SrcSt) : (s.setSrc n x).hif = s.hif := rfl
@[simp] theorem State.setSrc_obs (s : State) (n : Nat) (x : SrcSt) : (s.setSrc n x).obs = s.obs := rfl
@[simp] theorem State.setSrc_tsk (s : State) (n : Nat) (x : SrcSt) : (s.setSrc n x).tsk = s.tsk := rfl
@[simp] theorem State.setSrc_asy (s : State) (n : Nat) (x : SrcSt) : (s.setSrc n x).asy = s.asy := rfl
@[simp] theorem State.setSrc_sch (s : State) (n : Nat) (x : SrcSt) : (s.setSrc n x).sch = s.sch := rfl
@[simp] theorem State.setSrc_eng (s : State) (n : Nat) (x : SrcSt) : (s.setSrc n x).eng = s.eng := rfl
@[simp] theorem State.setSrc_tic (s : State) (n : Nat) (x : SrcSt) : (s.setSrc n x).tic = s.tic := rfl
@[simp] theorem State.setSrc_gns (s : State) (n : Nat) (x : SrcSt) : (s.setSrc n x).gns = s.gns := rfl
@[simp] theorem State.setSrc_syn (s : State) (n : Nat) (x : SrcSt) : (s.setSrc n x).syn = s.syn := rfl
@[simp] theorem State.setSrc_eth (s : State) (n : Nat) (x : SrcSt) : (s.setSrc n x).eth = s.eth := rfl
@[simp] theorem State.setSrc_hmk (s : State) (n : Nat) (x : SrcSt) : (s.setSrc n x).hmk = s.hmk := rfl
@[simp] theorem State.setSrc_kvt (s : State) (n : Nat) (x : SrcSt) : (s.setSrc n x).kvt = s.kvt := rfl
@[simp] theorem State.setSrc_gfl (s : State) (n : Nat) (x : SrcSt) : (s.setSrc n x).gfl = s.gfl := rfl
@[simp] theorem State.setSrc_str (s : State) (n : Nat) (x : SrcSt) : (s.setSrc n x).str = s.str := rfl
@[simp] theorem State.setSrc_dram (s : State) (n : Nat) (x : SrcSt) : (s.setSrc n x).dram = s.dram := rfl
@[simp] theorem State.setSrc_pair (s : State) (n : Nat) (x : SrcSt) : (s.setSrc n x).pair = s.pair := rfl
@[simp] theorem State.setSrc_seam (s : State) (n : Nat) (x : SrcSt) : (s.setSrc n x).seam = s.seam := rfl
@[simp] theorem State.setSrc_pow (s : State) (n : Nat) (x : SrcSt) : (s.setSrc n x).pow = s.pow := rfl
@[simp] theorem State.setSrc_draws (s : State) (n : Nat) (x : SrcSt) : (s.setSrc n x).draws = s.draws := rfl
@[simp] theorem State.setSrc_out (s : State) (n : Nat) (x : SrcSt) : (s.setSrc n x).out = s.out := rfl
@[simp] theorem State.setSrc_pending (s : State) (n : Nat) (x : SrcSt) : (s.setSrc n x).pending = s.pending := rfl
@[simp] theorem State.setSrc_get (s : State) (n : Nat) (x : SrcSt) (q : Fld) : (s.setSrc n x).get q = s.get q := rfl
@[simp] theorem State.setSrc_getI (s : State) (n : Nat) (x : SrcSt) (q : Fld) : (s.setSrc n x).getI q = s.getI q := rfl
@[simp] theorem State.setSrc_on (s : State) (n : Nat) (x : SrcSt) (q : Fld) : (s.setSrc n x).on q = s.on q := rfl
@[simp] theorem State.setIrig_part (s : State) (n : Nat) (x : IrigSt) : (s.setIrig n x).part = s.part := rfl
@[simp] theorem State.setIrig_regs (s : State) (n : Nat) (x : IrigSt) : (s.setIrig n x).regs = s.regs := rfl
@[simp] theorem State.setIrig_pend (s : State) (n : Nat) (x : IrigSt) : (s.setIrig n x).pend = s.pend := rfl
@[simp] theorem State.setIrig_time (s : State) (n : Nat) (x : IrigSt) : (s.setIrig n x).time = s.time := rfl
@[simp] theorem State.setIrig_hif (s : State) (n : Nat) (x : IrigSt) : (s.setIrig n x).hif = s.hif := rfl
@[simp] theorem State.setIrig_obs (s : State) (n : Nat) (x : IrigSt) : (s.setIrig n x).obs = s.obs := rfl
@[simp] theorem State.setIrig_tsk (s : State) (n : Nat) (x : IrigSt) : (s.setIrig n x).tsk = s.tsk := rfl
@[simp] theorem State.setIrig_asy (s : State) (n : Nat) (x : IrigSt) : (s.setIrig n x).asy = s.asy := rfl
@[simp] theorem State.setIrig_sch (s : State) (n : Nat) (x : IrigSt) : (s.setIrig n x).sch = s.sch := rfl
@[simp] theorem State.setIrig_eng (s : State) (n : Nat) (x : IrigSt) : (s.setIrig n x).eng = s.eng := rfl
@[simp] theorem State.setIrig_tic (s : State) (n : Nat) (x : IrigSt) : (s.setIrig n x).tic = s.tic := rfl
@[simp] theorem State.setIrig_gns (s : State) (n : Nat) (x : IrigSt) : (s.setIrig n x).gns = s.gns := rfl
@[simp] theorem State.setIrig_syn (s : State) (n : Nat) (x : IrigSt) : (s.setIrig n x).syn = s.syn := rfl
@[simp] theorem State.setIrig_eth (s : State) (n : Nat) (x : IrigSt) : (s.setIrig n x).eth = s.eth := rfl
@[simp] theorem State.setIrig_hmk (s : State) (n : Nat) (x : IrigSt) : (s.setIrig n x).hmk = s.hmk := rfl
@[simp] theorem State.setIrig_kvt (s : State) (n : Nat) (x : IrigSt) : (s.setIrig n x).kvt = s.kvt := rfl
@[simp] theorem State.setIrig_gfl (s : State) (n : Nat) (x : IrigSt) : (s.setIrig n x).gfl = s.gfl := rfl
@[simp] theorem State.setIrig_str (s : State) (n : Nat) (x : IrigSt) : (s.setIrig n x).str = s.str := rfl
@[simp] theorem State.setIrig_dram (s : State) (n : Nat) (x : IrigSt) : (s.setIrig n x).dram = s.dram := rfl
@[simp] theorem State.setIrig_pair (s : State) (n : Nat) (x : IrigSt) : (s.setIrig n x).pair = s.pair := rfl
@[simp] theorem State.setIrig_seam (s : State) (n : Nat) (x : IrigSt) : (s.setIrig n x).seam = s.seam := rfl
@[simp] theorem State.setIrig_pow (s : State) (n : Nat) (x : IrigSt) : (s.setIrig n x).pow = s.pow := rfl
@[simp] theorem State.setIrig_draws (s : State) (n : Nat) (x : IrigSt) : (s.setIrig n x).draws = s.draws := rfl
@[simp] theorem State.setIrig_out (s : State) (n : Nat) (x : IrigSt) : (s.setIrig n x).out = s.out := rfl
@[simp] theorem State.setIrig_pending (s : State) (n : Nat) (x : IrigSt) : (s.setIrig n x).pending = s.pending := rfl
@[simp] theorem State.setIrig_get (s : State) (n : Nat) (x : IrigSt) (q : Fld) : (s.setIrig n x).get q = s.get q := rfl
@[simp] theorem State.setIrig_getI (s : State) (n : Nat) (x : IrigSt) (q : Fld) : (s.setIrig n x).getI q = s.getI q := rfl
@[simp] theorem State.setIrig_on (s : State) (n : Nat) (x : IrigSt) (q : Fld) : (s.setIrig n x).on q = s.on q := rfl
@[simp] theorem State.setTod_part (s : State) (i : Nat) (x : TodSt) : (s.setTod i x).part = s.part := rfl
@[simp] theorem State.setTod_regs (s : State) (i : Nat) (x : TodSt) : (s.setTod i x).regs = s.regs := rfl
@[simp] theorem State.setTod_pend (s : State) (i : Nat) (x : TodSt) : (s.setTod i x).pend = s.pend := rfl
@[simp] theorem State.setTod_time (s : State) (i : Nat) (x : TodSt) : (s.setTod i x).time = s.time := rfl
@[simp] theorem State.setTod_hif (s : State) (i : Nat) (x : TodSt) : (s.setTod i x).hif = s.hif := rfl
@[simp] theorem State.setTod_obs (s : State) (i : Nat) (x : TodSt) : (s.setTod i x).obs = s.obs := rfl
@[simp] theorem State.setTod_tsk (s : State) (i : Nat) (x : TodSt) : (s.setTod i x).tsk = s.tsk := rfl
@[simp] theorem State.setTod_asy (s : State) (i : Nat) (x : TodSt) : (s.setTod i x).asy = s.asy := rfl
@[simp] theorem State.setTod_sch (s : State) (i : Nat) (x : TodSt) : (s.setTod i x).sch = s.sch := rfl
@[simp] theorem State.setTod_eng (s : State) (i : Nat) (x : TodSt) : (s.setTod i x).eng = s.eng := rfl
@[simp] theorem State.setTod_tic (s : State) (i : Nat) (x : TodSt) : (s.setTod i x).tic = s.tic := rfl
@[simp] theorem State.setTod_gns (s : State) (i : Nat) (x : TodSt) : (s.setTod i x).gns = s.gns := rfl
@[simp] theorem State.setTod_syn (s : State) (i : Nat) (x : TodSt) : (s.setTod i x).syn = s.syn := rfl
@[simp] theorem State.setTod_eth (s : State) (i : Nat) (x : TodSt) : (s.setTod i x).eth = s.eth := rfl
@[simp] theorem State.setTod_hmk (s : State) (i : Nat) (x : TodSt) : (s.setTod i x).hmk = s.hmk := rfl
@[simp] theorem State.setTod_kvt (s : State) (i : Nat) (x : TodSt) : (s.setTod i x).kvt = s.kvt := rfl
@[simp] theorem State.setTod_gfl (s : State) (i : Nat) (x : TodSt) : (s.setTod i x).gfl = s.gfl := rfl
@[simp] theorem State.setTod_str (s : State) (i : Nat) (x : TodSt) : (s.setTod i x).str = s.str := rfl
@[simp] theorem State.setTod_dram (s : State) (i : Nat) (x : TodSt) : (s.setTod i x).dram = s.dram := rfl
@[simp] theorem State.setTod_pair (s : State) (i : Nat) (x : TodSt) : (s.setTod i x).pair = s.pair := rfl
@[simp] theorem State.setTod_seam (s : State) (i : Nat) (x : TodSt) : (s.setTod i x).seam = s.seam := rfl
@[simp] theorem State.setTod_pow (s : State) (i : Nat) (x : TodSt) : (s.setTod i x).pow = s.pow := rfl
@[simp] theorem State.setTod_draws (s : State) (i : Nat) (x : TodSt) : (s.setTod i x).draws = s.draws := rfl
@[simp] theorem State.setTod_out (s : State) (i : Nat) (x : TodSt) : (s.setTod i x).out = s.out := rfl
@[simp] theorem State.setTod_pending (s : State) (i : Nat) (x : TodSt) : (s.setTod i x).pending = s.pending := rfl
@[simp] theorem State.setTod_get (s : State) (i : Nat) (x : TodSt) (q : Fld) : (s.setTod i x).get q = s.get q := rfl
@[simp] theorem State.setTod_getI (s : State) (i : Nat) (x : TodSt) (q : Fld) : (s.setTod i x).getI q = s.getI q := rfl
@[simp] theorem State.setTod_on (s : State) (i : Nat) (x : TodSt) (q : Fld) : (s.setTod i x).on q = s.on q := rfl
@[simp] theorem State.setAport_part (s : State) (a : Nat) (x : AportSt) : (s.setAport a x).part = s.part := rfl
@[simp] theorem State.setAport_regs (s : State) (a : Nat) (x : AportSt) : (s.setAport a x).regs = s.regs := rfl
@[simp] theorem State.setAport_pend (s : State) (a : Nat) (x : AportSt) : (s.setAport a x).pend = s.pend := rfl
@[simp] theorem State.setAport_time (s : State) (a : Nat) (x : AportSt) : (s.setAport a x).time = s.time := rfl
@[simp] theorem State.setAport_hif (s : State) (a : Nat) (x : AportSt) : (s.setAport a x).hif = s.hif := rfl
@[simp] theorem State.setAport_obs (s : State) (a : Nat) (x : AportSt) : (s.setAport a x).obs = s.obs := rfl
@[simp] theorem State.setAport_tsk (s : State) (a : Nat) (x : AportSt) : (s.setAport a x).tsk = s.tsk := rfl
@[simp] theorem State.setAport_asy (s : State) (a : Nat) (x : AportSt) : (s.setAport a x).asy = s.asy := rfl
@[simp] theorem State.setAport_sch (s : State) (a : Nat) (x : AportSt) : (s.setAport a x).sch = s.sch := rfl
@[simp] theorem State.setAport_eng (s : State) (a : Nat) (x : AportSt) : (s.setAport a x).eng = s.eng := rfl
@[simp] theorem State.setAport_tic (s : State) (a : Nat) (x : AportSt) : (s.setAport a x).tic = s.tic := rfl
@[simp] theorem State.setAport_gns (s : State) (a : Nat) (x : AportSt) : (s.setAport a x).gns = s.gns := rfl
@[simp] theorem State.setAport_syn (s : State) (a : Nat) (x : AportSt) : (s.setAport a x).syn = s.syn := rfl
@[simp] theorem State.setAport_eth (s : State) (a : Nat) (x : AportSt) : (s.setAport a x).eth = s.eth := rfl
@[simp] theorem State.setAport_hmk (s : State) (a : Nat) (x : AportSt) : (s.setAport a x).hmk = s.hmk := rfl
@[simp] theorem State.setAport_kvt (s : State) (a : Nat) (x : AportSt) : (s.setAport a x).kvt = s.kvt := rfl
@[simp] theorem State.setAport_gfl (s : State) (a : Nat) (x : AportSt) : (s.setAport a x).gfl = s.gfl := rfl
@[simp] theorem State.setAport_str (s : State) (a : Nat) (x : AportSt) : (s.setAport a x).str = s.str := rfl
@[simp] theorem State.setAport_dram (s : State) (a : Nat) (x : AportSt) : (s.setAport a x).dram = s.dram := rfl
@[simp] theorem State.setAport_pair (s : State) (a : Nat) (x : AportSt) : (s.setAport a x).pair = s.pair := rfl
@[simp] theorem State.setAport_seam (s : State) (a : Nat) (x : AportSt) : (s.setAport a x).seam = s.seam := rfl
@[simp] theorem State.setAport_pow (s : State) (a : Nat) (x : AportSt) : (s.setAport a x).pow = s.pow := rfl
@[simp] theorem State.setAport_draws (s : State) (a : Nat) (x : AportSt) : (s.setAport a x).draws = s.draws := rfl
@[simp] theorem State.setAport_out (s : State) (a : Nat) (x : AportSt) : (s.setAport a x).out = s.out := rfl
@[simp] theorem State.setAport_pending (s : State) (a : Nat) (x : AportSt) : (s.setAport a x).pending = s.pending := rfl
@[simp] theorem State.setAport_get (s : State) (a : Nat) (x : AportSt) (q : Fld) : (s.setAport a x).get q = s.get q := rfl
@[simp] theorem State.setAport_getI (s : State) (a : Nat) (x : AportSt) (q : Fld) : (s.setAport a x).getI q = s.getI q := rfl
@[simp] theorem State.setAport_on (s : State) (a : Nat) (x : AportSt) (q : Fld) : (s.setAport a x).on q = s.on q := rfl
@[simp] theorem State.setUart_part (s : State) (u : Nat) (x : UartSt) : (s.setUart u x).part = s.part := rfl
@[simp] theorem State.setUart_regs (s : State) (u : Nat) (x : UartSt) : (s.setUart u x).regs = s.regs := rfl
@[simp] theorem State.setUart_pend (s : State) (u : Nat) (x : UartSt) : (s.setUart u x).pend = s.pend := rfl
@[simp] theorem State.setUart_time (s : State) (u : Nat) (x : UartSt) : (s.setUart u x).time = s.time := rfl
@[simp] theorem State.setUart_hif (s : State) (u : Nat) (x : UartSt) : (s.setUart u x).hif = s.hif := rfl
@[simp] theorem State.setUart_obs (s : State) (u : Nat) (x : UartSt) : (s.setUart u x).obs = s.obs := rfl
@[simp] theorem State.setUart_tsk (s : State) (u : Nat) (x : UartSt) : (s.setUart u x).tsk = s.tsk := rfl
@[simp] theorem State.setUart_asy (s : State) (u : Nat) (x : UartSt) : (s.setUart u x).asy = s.asy := rfl
@[simp] theorem State.setUart_sch (s : State) (u : Nat) (x : UartSt) : (s.setUart u x).sch = s.sch := rfl
@[simp] theorem State.setUart_eng (s : State) (u : Nat) (x : UartSt) : (s.setUart u x).eng = s.eng := rfl
@[simp] theorem State.setUart_tic (s : State) (u : Nat) (x : UartSt) : (s.setUart u x).tic = s.tic := rfl
@[simp] theorem State.setUart_gns (s : State) (u : Nat) (x : UartSt) : (s.setUart u x).gns = s.gns := rfl
@[simp] theorem State.setUart_syn (s : State) (u : Nat) (x : UartSt) : (s.setUart u x).syn = s.syn := rfl
@[simp] theorem State.setUart_eth (s : State) (u : Nat) (x : UartSt) : (s.setUart u x).eth = s.eth := rfl
@[simp] theorem State.setUart_hmk (s : State) (u : Nat) (x : UartSt) : (s.setUart u x).hmk = s.hmk := rfl
@[simp] theorem State.setUart_kvt (s : State) (u : Nat) (x : UartSt) : (s.setUart u x).kvt = s.kvt := rfl
@[simp] theorem State.setUart_gfl (s : State) (u : Nat) (x : UartSt) : (s.setUart u x).gfl = s.gfl := rfl
@[simp] theorem State.setUart_str (s : State) (u : Nat) (x : UartSt) : (s.setUart u x).str = s.str := rfl
@[simp] theorem State.setUart_dram (s : State) (u : Nat) (x : UartSt) : (s.setUart u x).dram = s.dram := rfl
@[simp] theorem State.setUart_pair (s : State) (u : Nat) (x : UartSt) : (s.setUart u x).pair = s.pair := rfl
@[simp] theorem State.setUart_seam (s : State) (u : Nat) (x : UartSt) : (s.setUart u x).seam = s.seam := rfl
@[simp] theorem State.setUart_pow (s : State) (u : Nat) (x : UartSt) : (s.setUart u x).pow = s.pow := rfl
@[simp] theorem State.setUart_draws (s : State) (u : Nat) (x : UartSt) : (s.setUart u x).draws = s.draws := rfl
@[simp] theorem State.setUart_out (s : State) (u : Nat) (x : UartSt) : (s.setUart u x).out = s.out := rfl
@[simp] theorem State.setUart_pending (s : State) (u : Nat) (x : UartSt) : (s.setUart u x).pending = s.pending := rfl
@[simp] theorem State.setUart_get (s : State) (u : Nat) (x : UartSt) (q : Fld) : (s.setUart u x).get q = s.get q := rfl
@[simp] theorem State.setUart_getI (s : State) (u : Nat) (x : UartSt) (q : Fld) : (s.setUart u x).getI q = s.getI q := rfl
@[simp] theorem State.setUart_on (s : State) (u : Nat) (x : UartSt) (q : Fld) : (s.setUart u x).on q = s.on q := rfl
@[simp] theorem State.setTodOut_part (s : State) (i : Nat) (x : TodOutSt) : (s.setTodOut i x).part = s.part := rfl
@[simp] theorem State.setTodOut_regs (s : State) (i : Nat) (x : TodOutSt) : (s.setTodOut i x).regs = s.regs := rfl
@[simp] theorem State.setTodOut_pend (s : State) (i : Nat) (x : TodOutSt) : (s.setTodOut i x).pend = s.pend := rfl
@[simp] theorem State.setTodOut_time (s : State) (i : Nat) (x : TodOutSt) : (s.setTodOut i x).time = s.time := rfl
@[simp] theorem State.setTodOut_hif (s : State) (i : Nat) (x : TodOutSt) : (s.setTodOut i x).hif = s.hif := rfl
@[simp] theorem State.setTodOut_obs (s : State) (i : Nat) (x : TodOutSt) : (s.setTodOut i x).obs = s.obs := rfl
@[simp] theorem State.setTodOut_tsk (s : State) (i : Nat) (x : TodOutSt) : (s.setTodOut i x).tsk = s.tsk := rfl
@[simp] theorem State.setTodOut_asy (s : State) (i : Nat) (x : TodOutSt) : (s.setTodOut i x).asy = s.asy := rfl
@[simp] theorem State.setTodOut_sch (s : State) (i : Nat) (x : TodOutSt) : (s.setTodOut i x).sch = s.sch := rfl
@[simp] theorem State.setTodOut_eng (s : State) (i : Nat) (x : TodOutSt) : (s.setTodOut i x).eng = s.eng := rfl
@[simp] theorem State.setTodOut_tic (s : State) (i : Nat) (x : TodOutSt) : (s.setTodOut i x).tic = s.tic := rfl
@[simp] theorem State.setTodOut_gns (s : State) (i : Nat) (x : TodOutSt) : (s.setTodOut i x).gns = s.gns := rfl
@[simp] theorem State.setTodOut_syn (s : State) (i : Nat) (x : TodOutSt) : (s.setTodOut i x).syn = s.syn := rfl
@[simp] theorem State.setTodOut_eth (s : State) (i : Nat) (x : TodOutSt) : (s.setTodOut i x).eth = s.eth := rfl
@[simp] theorem State.setTodOut_hmk (s : State) (i : Nat) (x : TodOutSt) : (s.setTodOut i x).hmk = s.hmk := rfl
@[simp] theorem State.setTodOut_kvt (s : State) (i : Nat) (x : TodOutSt) : (s.setTodOut i x).kvt = s.kvt := rfl
@[simp] theorem State.setTodOut_gfl (s : State) (i : Nat) (x : TodOutSt) : (s.setTodOut i x).gfl = s.gfl := rfl
@[simp] theorem State.setTodOut_str (s : State) (i : Nat) (x : TodOutSt) : (s.setTodOut i x).str = s.str := rfl
@[simp] theorem State.setTodOut_dram (s : State) (i : Nat) (x : TodOutSt) : (s.setTodOut i x).dram = s.dram := rfl
@[simp] theorem State.setTodOut_pair (s : State) (i : Nat) (x : TodOutSt) : (s.setTodOut i x).pair = s.pair := rfl
@[simp] theorem State.setTodOut_seam (s : State) (i : Nat) (x : TodOutSt) : (s.setTodOut i x).seam = s.seam := rfl
@[simp] theorem State.setTodOut_pow (s : State) (i : Nat) (x : TodOutSt) : (s.setTodOut i x).pow = s.pow := rfl
@[simp] theorem State.setTodOut_draws (s : State) (i : Nat) (x : TodOutSt) : (s.setTodOut i x).draws = s.draws := rfl
@[simp] theorem State.setTodOut_out (s : State) (i : Nat) (x : TodOutSt) : (s.setTodOut i x).out = s.out := rfl
@[simp] theorem State.setTodOut_pending (s : State) (i : Nat) (x : TodOutSt) : (s.setTodOut i x).pending = s.pending := rfl
@[simp] theorem State.setTodOut_get (s : State) (i : Nat) (x : TodOutSt) (q : Fld) : (s.setTodOut i x).get q = s.get q := rfl
@[simp] theorem State.setTodOut_getI (s : State) (i : Nat) (x : TodOutSt) (q : Fld) : (s.setTodOut i x).getI q = s.getI q := rfl
@[simp] theorem State.setTodOut_on (s : State) (i : Nat) (x : TodOutSt) (q : Fld) : (s.setTodOut i x).on q = s.on q := rfl
@[simp] theorem State.setBurn_part (s : State) (b : Nat) (x : BurnSt) : (s.setBurn b x).part = s.part := rfl
@[simp] theorem State.setBurn_regs (s : State) (b : Nat) (x : BurnSt) : (s.setBurn b x).regs = s.regs := rfl
@[simp] theorem State.setBurn_pend (s : State) (b : Nat) (x : BurnSt) : (s.setBurn b x).pend = s.pend := rfl
@[simp] theorem State.setBurn_time (s : State) (b : Nat) (x : BurnSt) : (s.setBurn b x).time = s.time := rfl
@[simp] theorem State.setBurn_hif (s : State) (b : Nat) (x : BurnSt) : (s.setBurn b x).hif = s.hif := rfl
@[simp] theorem State.setBurn_obs (s : State) (b : Nat) (x : BurnSt) : (s.setBurn b x).obs = s.obs := rfl
@[simp] theorem State.setBurn_tsk (s : State) (b : Nat) (x : BurnSt) : (s.setBurn b x).tsk = s.tsk := rfl
@[simp] theorem State.setBurn_asy (s : State) (b : Nat) (x : BurnSt) : (s.setBurn b x).asy = s.asy := rfl
@[simp] theorem State.setBurn_sch (s : State) (b : Nat) (x : BurnSt) : (s.setBurn b x).sch = s.sch := rfl
@[simp] theorem State.setBurn_eng (s : State) (b : Nat) (x : BurnSt) : (s.setBurn b x).eng = s.eng := rfl
@[simp] theorem State.setBurn_refin (s : State) (b : Nat) (x : BurnSt) : (s.setBurn b x).refin = s.refin := rfl
@[simp] theorem State.setBurn_tic (s : State) (b : Nat) (x : BurnSt) : (s.setBurn b x).tic = s.tic := rfl
@[simp] theorem State.setBurn_gns (s : State) (b : Nat) (x : BurnSt) : (s.setBurn b x).gns = s.gns := rfl
@[simp] theorem State.setBurn_eth (s : State) (b : Nat) (x : BurnSt) : (s.setBurn b x).eth = s.eth := rfl
@[simp] theorem State.setBurn_hmk (s : State) (b : Nat) (x : BurnSt) : (s.setBurn b x).hmk = s.hmk := rfl
@[simp] theorem State.setBurn_kvt (s : State) (b : Nat) (x : BurnSt) : (s.setBurn b x).kvt = s.kvt := rfl
@[simp] theorem State.setBurn_gfl (s : State) (b : Nat) (x : BurnSt) : (s.setBurn b x).gfl = s.gfl := rfl
@[simp] theorem State.setBurn_str (s : State) (b : Nat) (x : BurnSt) : (s.setBurn b x).str = s.str := rfl
@[simp] theorem State.setBurn_dram (s : State) (b : Nat) (x : BurnSt) : (s.setBurn b x).dram = s.dram := rfl
@[simp] theorem State.setBurn_pair (s : State) (b : Nat) (x : BurnSt) : (s.setBurn b x).pair = s.pair := rfl
@[simp] theorem State.setBurn_seam (s : State) (b : Nat) (x : BurnSt) : (s.setBurn b x).seam = s.seam := rfl
@[simp] theorem State.setBurn_pow (s : State) (b : Nat) (x : BurnSt) : (s.setBurn b x).pow = s.pow := rfl
@[simp] theorem State.setBurn_draws (s : State) (b : Nat) (x : BurnSt) : (s.setBurn b x).draws = s.draws := rfl
@[simp] theorem State.setBurn_out (s : State) (b : Nat) (x : BurnSt) : (s.setBurn b x).out = s.out := rfl
@[simp] theorem State.setBurn_pending (s : State) (b : Nat) (x : BurnSt) : (s.setBurn b x).pending = s.pending := rfl
@[simp] theorem State.setBurn_get (s : State) (b : Nat) (x : BurnSt) (q : Fld) : (s.setBurn b x).get q = s.get q := rfl
@[simp] theorem State.setBurn_getI (s : State) (b : Nat) (x : BurnSt) (q : Fld) : (s.setBurn b x).getI q = s.getI q := rfl
@[simp] theorem State.setBurn_on (s : State) (b : Nat) (x : BurnSt) (q : Fld) : (s.setBurn b x).on q = s.on q := rfl
@[simp] theorem State.setPin_part (s : State) (o : Nat) (x : PinSt) : (s.setPin o x).part = s.part := rfl
@[simp] theorem State.setPin_regs (s : State) (o : Nat) (x : PinSt) : (s.setPin o x).regs = s.regs := rfl
@[simp] theorem State.setPin_pend (s : State) (o : Nat) (x : PinSt) : (s.setPin o x).pend = s.pend := rfl
@[simp] theorem State.setPin_time (s : State) (o : Nat) (x : PinSt) : (s.setPin o x).time = s.time := rfl
@[simp] theorem State.setPin_hif (s : State) (o : Nat) (x : PinSt) : (s.setPin o x).hif = s.hif := rfl
@[simp] theorem State.setPin_obs (s : State) (o : Nat) (x : PinSt) : (s.setPin o x).obs = s.obs := rfl
@[simp] theorem State.setPin_tsk (s : State) (o : Nat) (x : PinSt) : (s.setPin o x).tsk = s.tsk := rfl
@[simp] theorem State.setPin_asy (s : State) (o : Nat) (x : PinSt) : (s.setPin o x).asy = s.asy := rfl
@[simp] theorem State.setPin_sch (s : State) (o : Nat) (x : PinSt) : (s.setPin o x).sch = s.sch := rfl
@[simp] theorem State.setPin_eng (s : State) (o : Nat) (x : PinSt) : (s.setPin o x).eng = s.eng := rfl
@[simp] theorem State.setPin_refin (s : State) (o : Nat) (x : PinSt) : (s.setPin o x).refin = s.refin := rfl
@[simp] theorem State.setPin_tic (s : State) (o : Nat) (x : PinSt) : (s.setPin o x).tic = s.tic := rfl
@[simp] theorem State.setPin_gns (s : State) (o : Nat) (x : PinSt) : (s.setPin o x).gns = s.gns := rfl
@[simp] theorem State.setPin_eth (s : State) (o : Nat) (x : PinSt) : (s.setPin o x).eth = s.eth := rfl
@[simp] theorem State.setPin_hmk (s : State) (o : Nat) (x : PinSt) : (s.setPin o x).hmk = s.hmk := rfl
@[simp] theorem State.setPin_kvt (s : State) (o : Nat) (x : PinSt) : (s.setPin o x).kvt = s.kvt := rfl
@[simp] theorem State.setPin_gfl (s : State) (o : Nat) (x : PinSt) : (s.setPin o x).gfl = s.gfl := rfl
@[simp] theorem State.setPin_str (s : State) (o : Nat) (x : PinSt) : (s.setPin o x).str = s.str := rfl
@[simp] theorem State.setPin_dram (s : State) (o : Nat) (x : PinSt) : (s.setPin o x).dram = s.dram := rfl
@[simp] theorem State.setPin_pair (s : State) (o : Nat) (x : PinSt) : (s.setPin o x).pair = s.pair := rfl
@[simp] theorem State.setPin_seam (s : State) (o : Nat) (x : PinSt) : (s.setPin o x).seam = s.seam := rfl
@[simp] theorem State.setPin_pow (s : State) (o : Nat) (x : PinSt) : (s.setPin o x).pow = s.pow := rfl
@[simp] theorem State.setPin_draws (s : State) (o : Nat) (x : PinSt) : (s.setPin o x).draws = s.draws := rfl
@[simp] theorem State.setPin_out (s : State) (o : Nat) (x : PinSt) : (s.setPin o x).out = s.out := rfl
@[simp] theorem State.setPin_pending (s : State) (o : Nat) (x : PinSt) : (s.setPin o x).pending = s.pending := rfl
@[simp] theorem State.setPin_get (s : State) (o : Nat) (x : PinSt) (q : Fld) : (s.setPin o x).get q = s.get q := rfl
@[simp] theorem State.setPin_getI (s : State) (o : Nat) (x : PinSt) (q : Fld) : (s.setPin o x).getI q = s.getI q := rfl
@[simp] theorem State.setPin_on (s : State) (o : Nat) (x : PinSt) (q : Fld) : (s.setPin o x).on q = s.on q := rfl
@[simp] theorem State.setAes_part (s : State) (m : Nat) (x : AesSt) : (s.setAes m x).part = s.part := rfl
@[simp] theorem State.setAes_regs (s : State) (m : Nat) (x : AesSt) : (s.setAes m x).regs = s.regs := rfl
@[simp] theorem State.setAes_pend (s : State) (m : Nat) (x : AesSt) : (s.setAes m x).pend = s.pend := rfl
@[simp] theorem State.setAes_time (s : State) (m : Nat) (x : AesSt) : (s.setAes m x).time = s.time := rfl
@[simp] theorem State.setAes_hif (s : State) (m : Nat) (x : AesSt) : (s.setAes m x).hif = s.hif := rfl
@[simp] theorem State.setAes_obs (s : State) (m : Nat) (x : AesSt) : (s.setAes m x).obs = s.obs := rfl
@[simp] theorem State.setAes_tsk (s : State) (m : Nat) (x : AesSt) : (s.setAes m x).tsk = s.tsk := rfl
@[simp] theorem State.setAes_asy (s : State) (m : Nat) (x : AesSt) : (s.setAes m x).asy = s.asy := rfl
@[simp] theorem State.setAes_sch (s : State) (m : Nat) (x : AesSt) : (s.setAes m x).sch = s.sch := rfl
@[simp] theorem State.setAes_eng (s : State) (m : Nat) (x : AesSt) : (s.setAes m x).eng = s.eng := rfl
@[simp] theorem State.setAes_refin (s : State) (m : Nat) (x : AesSt) : (s.setAes m x).refin = s.refin := rfl
@[simp] theorem State.setAes_tic (s : State) (m : Nat) (x : AesSt) : (s.setAes m x).tic = s.tic := rfl
@[simp] theorem State.setAes_gns (s : State) (m : Nat) (x : AesSt) : (s.setAes m x).gns = s.gns := rfl
@[simp] theorem State.setAes_eth (s : State) (m : Nat) (x : AesSt) : (s.setAes m x).eth = s.eth := rfl
@[simp] theorem State.setAes_hmk (s : State) (m : Nat) (x : AesSt) : (s.setAes m x).hmk = s.hmk := rfl
@[simp] theorem State.setAes_kvt (s : State) (m : Nat) (x : AesSt) : (s.setAes m x).kvt = s.kvt := rfl
@[simp] theorem State.setAes_gfl (s : State) (m : Nat) (x : AesSt) : (s.setAes m x).gfl = s.gfl := rfl
@[simp] theorem State.setAes_str (s : State) (m : Nat) (x : AesSt) : (s.setAes m x).str = s.str := rfl
@[simp] theorem State.setAes_dram (s : State) (m : Nat) (x : AesSt) : (s.setAes m x).dram = s.dram := rfl
@[simp] theorem State.setAes_pair (s : State) (m : Nat) (x : AesSt) : (s.setAes m x).pair = s.pair := rfl
@[simp] theorem State.setAes_seam (s : State) (m : Nat) (x : AesSt) : (s.setAes m x).seam = s.seam := rfl
@[simp] theorem State.setAes_pow (s : State) (m : Nat) (x : AesSt) : (s.setAes m x).pow = s.pow := rfl
@[simp] theorem State.setAes_draws (s : State) (m : Nat) (x : AesSt) : (s.setAes m x).draws = s.draws := rfl
@[simp] theorem State.setAes_out (s : State) (m : Nat) (x : AesSt) : (s.setAes m x).out = s.out := rfl
@[simp] theorem State.setAes_pending (s : State) (m : Nat) (x : AesSt) : (s.setAes m x).pending = s.pending := rfl
@[simp] theorem State.setAes_get (s : State) (m : Nat) (x : AesSt) (q : Fld) : (s.setAes m x).get q = s.get q := rfl
@[simp] theorem State.setAes_getI (s : State) (m : Nat) (x : AesSt) (q : Fld) : (s.setAes m x).getI q = s.getI q := rfl
@[simp] theorem State.setAes_on (s : State) (m : Nat) (x : AesSt) (q : Fld) : (s.setAes m x).on q = s.on q := rfl
@[simp] theorem State.setTic_part (s : State) (c : Nat) (x : TicSt) : (s.setTic c x).part = s.part := rfl
@[simp] theorem State.setTic_regs (s : State) (c : Nat) (x : TicSt) : (s.setTic c x).regs = s.regs := rfl
@[simp] theorem State.setTic_pend (s : State) (c : Nat) (x : TicSt) : (s.setTic c x).pend = s.pend := rfl
@[simp] theorem State.setTic_time (s : State) (c : Nat) (x : TicSt) : (s.setTic c x).time = s.time := rfl
@[simp] theorem State.setTic_hif (s : State) (c : Nat) (x : TicSt) : (s.setTic c x).hif = s.hif := rfl
@[simp] theorem State.setTic_obs (s : State) (c : Nat) (x : TicSt) : (s.setTic c x).obs = s.obs := rfl
@[simp] theorem State.setTic_tsk (s : State) (c : Nat) (x : TicSt) : (s.setTic c x).tsk = s.tsk := rfl
@[simp] theorem State.setTic_asy (s : State) (c : Nat) (x : TicSt) : (s.setTic c x).asy = s.asy := rfl
@[simp] theorem State.setTic_sch (s : State) (c : Nat) (x : TicSt) : (s.setTic c x).sch = s.sch := rfl
@[simp] theorem State.setTic_eng (s : State) (c : Nat) (x : TicSt) : (s.setTic c x).eng = s.eng := rfl
@[simp] theorem State.setTic_refin (s : State) (c : Nat) (x : TicSt) : (s.setTic c x).refin = s.refin := rfl
@[simp] theorem State.setTic_gns (s : State) (c : Nat) (x : TicSt) : (s.setTic c x).gns = s.gns := rfl
@[simp] theorem State.setTic_syn (s : State) (c : Nat) (x : TicSt) : (s.setTic c x).syn = s.syn := rfl
@[simp] theorem State.setTic_eth (s : State) (c : Nat) (x : TicSt) : (s.setTic c x).eth = s.eth := rfl
@[simp] theorem State.setTic_hmk (s : State) (c : Nat) (x : TicSt) : (s.setTic c x).hmk = s.hmk := rfl
@[simp] theorem State.setTic_kvt (s : State) (c : Nat) (x : TicSt) : (s.setTic c x).kvt = s.kvt := rfl
@[simp] theorem State.setTic_gfl (s : State) (c : Nat) (x : TicSt) : (s.setTic c x).gfl = s.gfl := rfl
@[simp] theorem State.setTic_str (s : State) (c : Nat) (x : TicSt) : (s.setTic c x).str = s.str := rfl
@[simp] theorem State.setTic_dram (s : State) (c : Nat) (x : TicSt) : (s.setTic c x).dram = s.dram := rfl
@[simp] theorem State.setTic_pair (s : State) (c : Nat) (x : TicSt) : (s.setTic c x).pair = s.pair := rfl
@[simp] theorem State.setTic_seam (s : State) (c : Nat) (x : TicSt) : (s.setTic c x).seam = s.seam := rfl
@[simp] theorem State.setTic_pow (s : State) (c : Nat) (x : TicSt) : (s.setTic c x).pow = s.pow := rfl
@[simp] theorem State.setTic_draws (s : State) (c : Nat) (x : TicSt) : (s.setTic c x).draws = s.draws := rfl
@[simp] theorem State.setTic_out (s : State) (c : Nat) (x : TicSt) : (s.setTic c x).out = s.out := rfl
@[simp] theorem State.setTic_pending (s : State) (c : Nat) (x : TicSt) : (s.setTic c x).pending = s.pending := rfl
@[simp] theorem State.setTic_get (s : State) (c : Nat) (x : TicSt) (q : Fld) : (s.setTic c x).get q = s.get q := rfl
@[simp] theorem State.setTic_getI (s : State) (c : Nat) (x : TicSt) (q : Fld) : (s.setTic c x).getI q = s.getI q := rfl
@[simp] theorem State.setTic_on (s : State) (c : Nat) (x : TicSt) (q : Fld) : (s.setTic c x).on q = s.on q := rfl
@[simp] theorem State.putEnt_part (s : State) (id : Nat) (e : SchEnt) : (s.putEnt id e).part = s.part := rfl
@[simp] theorem State.putEnt_regs (s : State) (id : Nat) (e : SchEnt) : (s.putEnt id e).regs = s.regs := rfl
@[simp] theorem State.putEnt_pend (s : State) (id : Nat) (e : SchEnt) : (s.putEnt id e).pend = s.pend := rfl
@[simp] theorem State.putEnt_time (s : State) (id : Nat) (e : SchEnt) : (s.putEnt id e).time = s.time := rfl
@[simp] theorem State.putEnt_hif (s : State) (id : Nat) (e : SchEnt) : (s.putEnt id e).hif = s.hif := rfl
@[simp] theorem State.putEnt_obs (s : State) (id : Nat) (e : SchEnt) : (s.putEnt id e).obs = s.obs := rfl
@[simp] theorem State.putEnt_tsk (s : State) (id : Nat) (e : SchEnt) : (s.putEnt id e).tsk = s.tsk := rfl
@[simp] theorem State.putEnt_asy (s : State) (id : Nat) (e : SchEnt) : (s.putEnt id e).asy = s.asy := rfl
@[simp] theorem State.putEnt_eng (s : State) (id : Nat) (e : SchEnt) : (s.putEnt id e).eng = s.eng := rfl
@[simp] theorem State.putEnt_refin (s : State) (id : Nat) (e : SchEnt) : (s.putEnt id e).refin = s.refin := rfl
@[simp] theorem State.putEnt_tic (s : State) (id : Nat) (e : SchEnt) : (s.putEnt id e).tic = s.tic := rfl
@[simp] theorem State.putEnt_gns (s : State) (id : Nat) (e : SchEnt) : (s.putEnt id e).gns = s.gns := rfl
@[simp] theorem State.putEnt_syn (s : State) (id : Nat) (e : SchEnt) : (s.putEnt id e).syn = s.syn := rfl
@[simp] theorem State.putEnt_eth (s : State) (id : Nat) (e : SchEnt) : (s.putEnt id e).eth = s.eth := rfl
@[simp] theorem State.putEnt_hmk (s : State) (id : Nat) (e : SchEnt) : (s.putEnt id e).hmk = s.hmk := rfl
@[simp] theorem State.putEnt_kvt (s : State) (id : Nat) (e : SchEnt) : (s.putEnt id e).kvt = s.kvt := rfl
@[simp] theorem State.putEnt_gfl (s : State) (id : Nat) (e : SchEnt) : (s.putEnt id e).gfl = s.gfl := rfl
@[simp] theorem State.putEnt_str (s : State) (id : Nat) (e : SchEnt) : (s.putEnt id e).str = s.str := rfl
@[simp] theorem State.putEnt_dram (s : State) (id : Nat) (e : SchEnt) : (s.putEnt id e).dram = s.dram := rfl
@[simp] theorem State.putEnt_pair (s : State) (id : Nat) (e : SchEnt) : (s.putEnt id e).pair = s.pair := rfl
@[simp] theorem State.putEnt_seam (s : State) (id : Nat) (e : SchEnt) : (s.putEnt id e).seam = s.seam := rfl
@[simp] theorem State.putEnt_pow (s : State) (id : Nat) (e : SchEnt) : (s.putEnt id e).pow = s.pow := rfl
@[simp] theorem State.putEnt_draws (s : State) (id : Nat) (e : SchEnt) : (s.putEnt id e).draws = s.draws := rfl
@[simp] theorem State.putEnt_out (s : State) (id : Nat) (e : SchEnt) : (s.putEnt id e).out = s.out := rfl
@[simp] theorem State.putEnt_pending (s : State) (id : Nat) (e : SchEnt) : (s.putEnt id e).pending = s.pending := rfl
@[simp] theorem State.putEnt_get (s : State) (id : Nat) (e : SchEnt) (q : Fld) : (s.putEnt id e).get q = s.get q := rfl
@[simp] theorem State.putEnt_getI (s : State) (id : Nat) (e : SchEnt) (q : Fld) : (s.putEnt id e).getI q = s.getI q := rfl
@[simp] theorem State.putEnt_on (s : State) (id : Nat) (e : SchEnt) (q : Fld) : (s.putEnt id e).on q = s.on q := rfl
@[simp] theorem State.freeEnt_part (s : State) (id : Nat) : (s.freeEnt id).part = s.part := rfl
@[simp] theorem State.freeEnt_regs (s : State) (id : Nat) : (s.freeEnt id).regs = s.regs := rfl
@[simp] theorem State.freeEnt_pend (s : State) (id : Nat) : (s.freeEnt id).pend = s.pend := rfl
@[simp] theorem State.freeEnt_time (s : State) (id : Nat) : (s.freeEnt id).time = s.time := rfl
@[simp] theorem State.freeEnt_hif (s : State) (id : Nat) : (s.freeEnt id).hif = s.hif := rfl
@[simp] theorem State.freeEnt_obs (s : State) (id : Nat) : (s.freeEnt id).obs = s.obs := rfl
@[simp] theorem State.freeEnt_tsk (s : State) (id : Nat) : (s.freeEnt id).tsk = s.tsk := rfl
@[simp] theorem State.freeEnt_asy (s : State) (id : Nat) : (s.freeEnt id).asy = s.asy := rfl
@[simp] theorem State.freeEnt_eng (s : State) (id : Nat) : (s.freeEnt id).eng = s.eng := rfl
@[simp] theorem State.freeEnt_refin (s : State) (id : Nat) : (s.freeEnt id).refin = s.refin := rfl
@[simp] theorem State.freeEnt_tic (s : State) (id : Nat) : (s.freeEnt id).tic = s.tic := rfl
@[simp] theorem State.freeEnt_gns (s : State) (id : Nat) : (s.freeEnt id).gns = s.gns := rfl
@[simp] theorem State.freeEnt_syn (s : State) (id : Nat) : (s.freeEnt id).syn = s.syn := rfl
@[simp] theorem State.freeEnt_eth (s : State) (id : Nat) : (s.freeEnt id).eth = s.eth := rfl
@[simp] theorem State.freeEnt_hmk (s : State) (id : Nat) : (s.freeEnt id).hmk = s.hmk := rfl
@[simp] theorem State.freeEnt_kvt (s : State) (id : Nat) : (s.freeEnt id).kvt = s.kvt := rfl
@[simp] theorem State.freeEnt_gfl (s : State) (id : Nat) : (s.freeEnt id).gfl = s.gfl := rfl
@[simp] theorem State.freeEnt_str (s : State) (id : Nat) : (s.freeEnt id).str = s.str := rfl
@[simp] theorem State.freeEnt_dram (s : State) (id : Nat) : (s.freeEnt id).dram = s.dram := rfl
@[simp] theorem State.freeEnt_pair (s : State) (id : Nat) : (s.freeEnt id).pair = s.pair := rfl
@[simp] theorem State.freeEnt_seam (s : State) (id : Nat) : (s.freeEnt id).seam = s.seam := rfl
@[simp] theorem State.freeEnt_pow (s : State) (id : Nat) : (s.freeEnt id).pow = s.pow := rfl
@[simp] theorem State.freeEnt_draws (s : State) (id : Nat) : (s.freeEnt id).draws = s.draws := rfl
@[simp] theorem State.freeEnt_out (s : State) (id : Nat) : (s.freeEnt id).out = s.out := rfl
@[simp] theorem State.freeEnt_pending (s : State) (id : Nat) : (s.freeEnt id).pending = s.pending := rfl
@[simp] theorem State.freeEnt_get (s : State) (id : Nat) (q : Fld) : (s.freeEnt id).get q = s.get q := rfl
@[simp] theorem State.freeEnt_getI (s : State) (id : Nat) (q : Fld) : (s.freeEnt id).getI q = s.getI q := rfl
@[simp] theorem State.freeEnt_on (s : State) (id : Nat) (q : Fld) : (s.freeEnt id).on q = s.on q := rfl

end Sys2Proof.Machine
end

