-- ==== Sys2Proof/Laws/Store.lean ====
section
/-!
SUPPORT. Sys2Proof/Laws/Store.lean: what the register file, the keyed lists and the byte memories do: a read after a write
gives what was written, a write leaves every other place alone, and every write keeps the canonical form.
-/

namespace Sys2Proof.Machine

/-! ## Keyed lists -/

theorem alGet_alDel {α : Type} (l : List (Nat × α)) (k j : Nat) :
    alGet (alDel l k) j = if j = k then none else alGet l j := by
  induction l with
  | nil => simp [alDel, alGet]
  | cons p t ih =>
    obtain ⟨a, x⟩ := p
    by_cases ha : a = k
    · have e : alDel ((a, x) :: t) k = alDel t k := by simp [alDel, ha]
      rw [e, ih, alGet]
      by_cases hj : j = k
      · rw [if_pos hj, if_pos hj]
      · rw [if_neg hj, if_neg hj, if_neg (fun h => hj (h.symm.trans ha))]
    · have e : alDel ((a, x) :: t) k = (a, x) :: alDel t k := by simp [alDel, ha]
      rw [e, alGet, ih, alGet]
      by_cases hj : a = j
      · rw [if_pos hj, if_pos hj, if_neg (fun h => ha (hj.trans h))]
      · rw [if_neg hj, if_neg hj]

theorem alGet_alIns {α : Type} (l : List (Nat × α)) (k j : Nat) (x : α) (h : alGet l k = none) :
    alGet (alIns k x l) j = if j = k then some x else alGet l j := by
  induction l with
  | nil =>
    simp only [alIns, alGet]
    by_cases hj : j = k
    · rw [if_pos hj, if_pos hj.symm]
    · rw [if_neg hj, if_neg (Ne.symm hj)]
  | cons p t ih =>
    obtain ⟨a, y⟩ := p
    have ha : a ≠ k := by rintro rfl; simp [alGet] at h
    have ht : alGet t k = none := by simpa [alGet, ha] using h
    by_cases hk : k < a
    · simp only [alIns, hk, if_true, alGet]
      by_cases hj : j = k
      · rw [if_pos hj, if_pos hj.symm]
      · rw [if_neg hj, if_neg (Ne.symm hj)]
    · simp only [alIns, hk, if_false, alGet, ih ht]
      by_cases hj : a = j
      · rw [if_pos hj, if_neg (fun h => ha (hj.trans h)), if_pos hj]
      · rw [if_neg hj, if_neg hj]

theorem alGet_alSet {α : Type} (l : List (Nat × α)) (k j : Nat) (x : α) :
    alGet (alSet l k x) j = if j = k then some x else alGet l j := by
  rw [alSet, alGet_alIns _ _ _ _ (by simp [alGet_alDel]), alGet_alDel]
  split_ifs <;> rfl

@[simp] theorem alGet_alSet_self {α : Type} (l : List (Nat × α)) (k : Nat) (x : α) : alGet (alSet l k x) k = some x := by
  simp [alGet_alSet]

theorem alGet_alSet_ne {α : Type} (l : List (Nat × α)) {k j : Nat} (x : α) (h : j ≠ k) :
    alGet (alSet l k x) j = alGet l j := by
  simp [alGet_alSet, h]

namespace Store

/-! ## Words -/

theorem word_put (st : Store) (k j : Nat) (v : Word) : word (put st k v) j = if j = k then v else word st j := by
  unfold word put
  by_cases h : v = resetWord k
  · rw [if_pos h, alGet_alDel]
    split_ifs with hj
    · subst hj; simp [h]
    · rfl
  · rw [if_neg h, alGet_alSet]
    split_ifs <;> rfl

@[simp] theorem word_put_self (st : Store) (k : Nat) (v : Word) : word (put st k v) k = v := by simp [word_put]

theorem word_put_ne (st : Store) {k j : Nat} (v : Word) (h : j ≠ k) : word (put st k v) j = word st j := by
  simp [word_put, h]

theorem wfFrom_mono {lo lo' : Nat} (h : lo ≤ lo') : ∀ {st : Store}, wfFrom lo' st = true → wfFrom lo st = true
  | [], _ => rfl
  | (k, v) :: t, hs => by
    simp only [wfFrom, Bool.and_eq_true, decide_eq_true_eq] at *
    exact ⟨⟨le_trans h hs.1.1, hs.1.2⟩, hs.2⟩

theorem wfFrom_alDel (k : Nat) : ∀ {lo : Nat} {st : Store}, wfFrom lo st = true → wfFrom lo (alDel st k) = true
  | _, [], _ => rfl
  | lo, (j, v) :: t, hs => by
    simp only [wfFrom, Bool.and_eq_true, decide_eq_true_eq] at hs
    have ht := wfFrom_alDel k hs.2
    by_cases hj : j = k
    · have e : alDel ((j, v) :: t) k = alDel t k := by simp [alDel, hj]
      rw [e]; exact wfFrom_mono (by omega) ht
    · have e : alDel ((j, v) :: t) k = (j, v) :: alDel t k := by simp [alDel, hj]
      rw [e]; simp only [wfFrom, Bool.and_eq_true, decide_eq_true_eq]; exact ⟨hs.1, ht⟩

theorem wfFrom_alIns {k : Nat} {v : Word} (hv : v ≠ resetWord k) :
    ∀ {lo : Nat} {st : Store}, lo ≤ k → wfFrom lo st = true → alGet st k = none → wfFrom lo (alIns k v st) = true
  | lo, [], hl, _, _ => by simp [alIns, wfFrom, hl, hv]
  | lo, (j, w) :: t, hl, hs, hn => by
    have hj : j ≠ k := by rintro rfl; simp [alGet] at hn
    have ht : alGet t k = none := by simpa [alGet, hj] using hn
    simp only [wfFrom, Bool.and_eq_true, decide_eq_true_eq] at hs
    by_cases hk : k < j
    · simp only [alIns, hk, if_true, wfFrom, Bool.and_eq_true, decide_eq_true_eq]
      exact ⟨⟨hl, hv⟩, ⟨by omega, hs.1.2⟩, hs.2⟩
    · simp only [alIns, hk, if_false, wfFrom, Bool.and_eq_true, decide_eq_true_eq]
      exact ⟨hs.1, wfFrom_alIns hv (by omega) hs.2 ht⟩

/-- Writing a word keeps the canonical form. -/
theorem wf_put (st : Store) (k : Nat) (v : Word) (h : st.wf = true) : (put st k v).wf = true := by
  unfold put wf at *
  split_ifs with hv
  · exact wfFrom_alDel k h
  · exact wfFrom_alIns hv (Nat.zero_le k) (wfFrom_alDel k h) (by simp [alGet_alDel])

/-! ## Several words -/

theorem wf_putWords : ∀ (n : Nat) (st : Store) (a v : Nat), st.wf = true → (putWords st a n v).wf = true
  | 0, _, _, _, h => h
  | n + 1, _, _, _, h => wf_putWords n _ _ _ (wf_put _ _ _ h)

/-- A write of n words from a on leaves every other key alone. -/
theorem word_putWords_out : ∀ (n : Nat) (st : Store) (a v j : Nat), (∀ i < n, j ≠ a + 4 * i) →
    word (putWords st a n v) j = word st j
  | 0, _, _, _, _, _ => rfl
  | n + 1, st, a, v, j, h => by
    rw [putWords, word_putWords_out n _ _ _ _ (fun i hi => by have := h (i + 1) (by omega); omega),
      word_put_ne _ _ (by have := h 0 (by omega); omega)]

theorem join_putWords_out : ∀ (m n : Nat) (st : Store) (a b v : Nat), (∀ i < n, ∀ j < m, b + 4 * j ≠ a + 4 * i) →
    join (putWords st a n v) b m = join st b m
  | 0, _, _, _, _, _, _ => rfl
  | m + 1, n, st, a, b, v, h => by
    rw [join, join, word_putWords_out n _ _ _ _ (fun i hi => by simpa using h i hi 0 (by omega)),
      join_putWords_out m n st a (b + 4) v (fun i hi j hj => by have := h i hi (j + 1) (by omega); omega)]

theorem join_put_out : ∀ (n : Nat) (st : Store) (a k : Nat) (v : Word), k < a → join (put st k v) a n = join st a n
  | 0, _, _, _, _, _ => rfl
  | n + 1, st, a, k, v, h => by
    rw [join, join, word_put_ne _ _ (by omega), join_put_out n st (a + 4) k v (by omega)]

theorem putWords_put : ∀ (n : Nat) (st : Store) (a v : Nat) (k : Nat) (w : Word), k < a →
    word (putWords (put st k w) a n v) k = w
  | n, st, a, v, k, w, h => by rw [word_putWords_out n _ _ _ _ (fun i _ => by omega), word_put_self]

/-- n words written read back as the number, cut to n words. -/
theorem join_putWords : ∀ (n : Nat) (st : Store) (a v : Nat), join (putWords st a n v) a n = v % 2 ^ (32 * n)
  | 0, _, _, v => by simp [join, Nat.mod_one]
  | n + 1, st, a, v => by
    rw [join, putWords, join_putWords n, putWords_put n _ _ _ _ _ (by omega), BitVec.toNat_ofNat,
      show 32 * (n + 1) = 32 + 32 * n by ring, pow_add, Nat.mod_mul]

theorem join_lt : ∀ (n : Nat) (st : Store) (a : Nat), join st a n < 2 ^ (32 * n)
  | 0, _, _ => by simp [join]
  | n + 1, st, a => by
    have h := join_lt n st (a + 4)
    have hw := (word st a).isLt
    rw [join, show 32 * (n + 1) = 32 + 32 * n by ring, pow_add]
    nlinarith

/-! ## Fields -/

theorem bitsOf_lt (v lo w : Nat) : bitsOf v lo w < 2 ^ w := Nat.mod_lt _ (Nat.two_pow_pos w)

theorem get_lt (st : Store) (f : Fld) : st.get f < 2 ^ f.w := bitsOf_lt _ _ _

theorem wf_set (st : Store) (f : Fld) (v : Nat) (h : st.wf = true) : (st.set f v).wf = true := wf_putWords _ _ _ _ h

/-- A number with its bits [lo + w − 1 : lo] replaced, split at those bits. -/
theorem replaced_bits (old lo w x : Nat) :
    old - bitsOf old lo w * 2 ^ lo + x * 2 ^ lo = old % 2 ^ lo + 2 ^ lo * (x + 2 ^ w * (old / 2 ^ lo / 2 ^ w)) := by
  have h1 : old = old % 2 ^ lo + 2 ^ lo * (old / 2 ^ lo) := (Nat.mod_add_div old (2 ^ lo)).symm
  have h2 : old / 2 ^ lo = bitsOf old lo w + 2 ^ w * (old / 2 ^ lo / 2 ^ w) := (Nat.mod_add_div _ _).symm
  have h3 : old = old % 2 ^ lo + 2 ^ lo * (2 ^ w * (old / 2 ^ lo / 2 ^ w)) + bitsOf old lo w * 2 ^ lo := by
    conv_lhs => rw [h1, h2]
    ring
  have h4 : old - bitsOf old lo w * 2 ^ lo = old % 2 ^ lo + 2 ^ lo * (2 ^ w * (old / 2 ^ lo / 2 ^ w)) := by omega
  rw [h4]; ring

theorem bitsOf_replaced_self (old lo w x : Nat) (hx : x < 2 ^ w) :
    bitsOf (old - bitsOf old lo w * 2 ^ lo + x * 2 ^ lo) lo w = x := by
  rw [replaced_bits old lo w x, bitsOf, Nat.add_mul_div_left _ _ (Nat.two_pow_pos lo),
    Nat.div_eq_of_lt (Nat.mod_lt _ (Nat.two_pow_pos lo)), Nat.zero_add, Nat.add_mul_mod_self_left, Nat.mod_eq_of_lt hx]

theorem replaced_lt (old lo w x n : Nat) (hx : x < 2 ^ w) (ho : old < 2 ^ n) (hn : lo + w ≤ n) :
    old - bitsOf old lo w * 2 ^ lo + x * 2 ^ lo < 2 ^ n := by
  rw [replaced_bits old lo w x]
  have h1 : old % 2 ^ lo < 2 ^ lo := Nat.mod_lt _ (Nat.two_pow_pos lo)
  have h2 : old / 2 ^ lo / 2 ^ w < 2 ^ (n - lo - w) := by
    rw [Nat.div_div_eq_div_mul, ← pow_add]
    exact Nat.div_lt_of_lt_mul (by rw [← pow_add]; rwa [show lo + w + (n - lo - w) = n by omega])
  have h3 : x + 2 ^ w * (old / 2 ^ lo / 2 ^ w) < 2 ^ w * 2 ^ (n - lo - w) := by
    have : 2 ^ w * (old / 2 ^ lo / 2 ^ w + 1) ≤ 2 ^ w * 2 ^ (n - lo - w) := Nat.mul_le_mul_left _ h2
    nlinarith
  have h4 : 2 ^ n = 2 ^ lo * (2 ^ w * 2 ^ (n - lo - w)) := by
    rw [← pow_add, ← pow_add]; congr 1; omega
  rw [h4]
  have : 2 ^ lo * (x + 2 ^ w * (old / 2 ^ lo / 2 ^ w) + 1) ≤ 2 ^ lo * (2 ^ w * 2 ^ (n - lo - w)) := Nat.mul_le_mul_left _ h3
  nlinarith

theorem bitsOf_replaced_ne (old lo w x lo' w' : Nat) (hx : x < 2 ^ w) (hd : lo' + w' ≤ lo ∨ lo + w ≤ lo') :
    bitsOf (old - bitsOf old lo w * 2 ^ lo + x * 2 ^ lo) lo' w' = bitsOf old lo' w' := by
  rw [replaced_bits old lo w x]
  rcases hd with hd | hd
  · have key : ∀ y, bitsOf (old % 2 ^ lo + 2 ^ lo * y) lo' w' = bitsOf (old % 2 ^ lo) lo' w' := by
      intro y
      unfold bitsOf
      rw [show 2 ^ lo * y = 2 ^ lo' * (2 ^ (lo - lo') * y) by rw [← mul_assoc, ← pow_add]; congr 2; omega,
        Nat.add_mul_div_left _ _ (Nat.two_pow_pos lo'),
        show 2 ^ (lo - lo') * y = 2 ^ w' * (2 ^ (lo - lo' - w') * y) by rw [← mul_assoc, ← pow_add]; congr 2; omega,
        Nat.add_mul_mod_self_left]
    conv_rhs => rw [← Nat.mod_add_div old (2 ^ lo)]
    rw [key, key]
  · have key : ∀ z, z < 2 ^ lo → ∀ y, y < 2 ^ w → ∀ u, bitsOf (z + 2 ^ lo * (y + 2 ^ w * u)) lo' w' = bitsOf u (lo' - lo - w) w' := by
      intro z hz y hy u
      unfold bitsOf
      congr 1
      rw [show (2 : Nat) ^ lo' = 2 ^ lo * (2 ^ w * 2 ^ (lo' - lo - w)) by rw [← pow_add, ← pow_add]; congr 1; omega,
        ← Nat.div_div_eq_div_mul, Nat.add_mul_div_left _ _ (Nat.two_pow_pos lo), Nat.div_eq_of_lt hz, Nat.zero_add,
        ← Nat.div_div_eq_div_mul, Nat.add_mul_div_left _ _ (Nat.two_pow_pos w), Nat.div_eq_of_lt hy, Nat.zero_add]
    have h2 : old = old % 2 ^ lo + 2 ^ lo * (old / 2 ^ lo % 2 ^ w + 2 ^ w * (old / 2 ^ lo / 2 ^ w)) := by
      rw [Nat.mod_add_div, Nat.mod_add_div]
    conv_rhs => rw [h2]
    rw [key _ (Nat.mod_lt _ (Nat.two_pow_pos lo)) _ hx, key _ (Nat.mod_lt _ (Nat.two_pow_pos lo)) _ (Nat.mod_lt _ (Nat.two_pow_pos w))]

/-- Setting a field and reading it back gives the value, modulo the field's width. -/
theorem get_set_self (st : Store) (f : Fld) (v : Nat) : (st.set f v).get f = v % 2 ^ f.w := by
  unfold get set
  have hs : f.lo + f.w ≤ 32 * span f := by unfold span; omega
  rw [join_putWords, Nat.mod_eq_of_lt (replaced_lt _ _ _ _ _ (Nat.mod_lt _ (Nat.two_pow_pos _)) (join_lt _ _ _) hs),
    bitsOf_replaced_self _ _ _ _ (Nat.mod_lt _ (Nat.two_pow_pos _))]

/-- Two fields that share no word. -/
def apart (f g : Fld) : Prop := ∀ i < span f, ∀ j < span g, g.a + 4 * j ≠ f.a + 4 * i

/-- Setting a field leaves a field in other words alone. -/
theorem get_set_apart (st : Store) (f g : Fld) (v : Nat) (h : apart f g) : (st.set f v).get g = st.get g := by
  unfold get set
  rw [join_putWords_out _ _ _ _ _ _ h]

/-- Fields whose words lie wholly below or above one another's share no word. -/
theorem apart_of_lt {f g : Fld} (h : g.a + 4 * span g ≤ f.a + 3 ∨ f.a + 4 * span f ≤ g.a + 3) : apart f g := by
  intro i hi j hj
  omega

/-- Setting a field leaves the other bits of the same words alone. -/
theorem get_set_bits (st : Store) (f g : Fld) (v : Nat) (ha : g.a = f.a) (hs : span g = span f)
    (hd : g.lo + g.w ≤ f.lo ∨ f.lo + f.w ≤ g.lo) : (st.set f v).get g = st.get g := by
  unfold get set
  have hb : f.lo + f.w ≤ 32 * span f := by unfold span; omega
  rw [ha, hs, join_putWords, Nat.mod_eq_of_lt (replaced_lt _ _ _ _ _ (Nat.mod_lt _ (Nat.two_pow_pos _)) (join_lt _ _ _) hb),
    bitsOf_replaced_ne _ _ _ _ _ _ (Nat.mod_lt _ (Nat.two_pow_pos _)) hd]

end Store

/-! ## Byte memories -/

namespace Mem

theorem byte_del (m : Mem) (a b : Nat) : byte (del m a) b = if b = a then 0 else byte m b := by
  induction m with
  | nil => simp [del, byte]
  | cons c t ih =>
    by_cases hc : c.1 = a
    · have e : del (c :: t) a = del t a := by simp [del, hc]
      rw [e, ih, byte]
      split_ifs <;> simp_all
    · have e : del (c :: t) a = c :: del t a := by simp [del, hc]
      rw [e, byte, ih, byte]
      split_ifs <;> simp_all

theorem byte_ins (a b : Nat) (v : Byte) : ∀ (m : Mem), (∀ c ∈ m, c.1 ≠ a) → byte (ins a v m) b = if b = a then v else byte m b
  | [], _ => by
    simp only [ins, byte]
    by_cases hb : b = a
    · rw [if_pos hb, if_pos hb.symm]
    · rw [if_neg hb, if_neg (Ne.symm hb)]
  | c :: t, h => by
    have hc : c.1 ≠ a := h c (by simp)
    have ih := byte_ins a b v t (fun d hd => h d (by simp [hd]))
    by_cases hk : a < c.1
    · simp only [ins, hk, if_true, byte]
      by_cases hb : b = a
      · rw [if_pos hb, if_pos hb.symm]
      · rw [if_neg hb, if_neg (Ne.symm hb)]
    · simp only [ins, hk, if_false, byte, ih]
      by_cases hb : c.1 = b
      · rw [if_pos hb, if_neg (fun h => hc (hb.trans h)), if_pos hb]
      · rw [if_neg hb, if_neg hb]

/-- A byte written reads back; every other byte is as before. -/
theorem byte_put (m : Mem) (a b : Nat) (v : Byte) : byte (put m a v) b = if b = a then v else byte m b := by
  unfold put
  split_ifs with hv hb hb
  · rw [byte_del, if_pos hb, hv]
  · rw [byte_del, if_neg hb]
  · rw [byte_ins _ _ _ _ (by simp [del]), if_pos hb]
  · rw [byte_ins _ _ _ _ (by simp [del]), if_neg hb, byte_del, if_neg hb]

/-- A write of n bytes from a on leaves every other byte alone. -/
theorem byte_write_out : ∀ (n : Nat) (m : Mem) (a v b : Nat), (b < a ∨ a + n ≤ b) → byte (write m a n v) b = byte m b
  | 0, _, _, _, _, _ => rfl
  | n + 1, m, a, v, b, h => by
    rw [write, byte_write_out n _ _ _ _ (by omega), byte_put, if_neg (by omega)]

/-- n bytes written read back as the number, cut to n bytes. -/
theorem read_write : ∀ (n : Nat) (m : Mem) (a v : Nat), read (write m a n v) a n = v % 256 ^ n
  | 0, _, _, v => by simp [read, Nat.mod_one]
  | n + 1, m, a, v => by
    rw [read, write, read_write n, byte_write_out n _ _ _ _ (by omega), byte_put, if_pos rfl, BitVec.toNat_ofNat, pow_succ' 256 n,
      Nat.mod_mul]

theorem wfFrom_mono {lo lo' : Nat} (h : lo ≤ lo') : ∀ {m : Mem}, wfFrom lo' m = true → wfFrom lo m = true
  | [], _ => rfl
  | c :: t, hs => by
    simp only [wfFrom, Bool.and_eq_true, decide_eq_true_eq] at *
    exact ⟨⟨le_trans h hs.1.1, hs.1.2⟩, hs.2⟩

theorem wfFrom_del (a : Nat) : ∀ {lo : Nat} {m : Mem}, wfFrom lo m = true → wfFrom lo (del m a) = true
  | _, [], _ => rfl
  | lo, c :: t, hs => by
    simp only [wfFrom, Bool.and_eq_true, decide_eq_true_eq] at hs
    have ht := wfFrom_del a hs.2
    by_cases hc : c.1 = a
    · have e : del (c :: t) a = del t a := by simp [del, hc]
      rw [e]; exact wfFrom_mono (by omega) ht
    · have e : del (c :: t) a = c :: del t a := by simp [del, hc]
      rw [e]; simp only [wfFrom, Bool.and_eq_true, decide_eq_true_eq]; exact ⟨hs.1, ht⟩

theorem wfFrom_ins {a : Nat} {v : Byte} (hv : v ≠ 0) :
    ∀ {lo : Nat} {m : Mem}, lo ≤ a → wfFrom lo m = true → (∀ c ∈ m, c.1 ≠ a) → wfFrom lo (ins a v m) = true
  | lo, [], hl, _, _ => by
    simp only [ins, wfFrom, Bool.and_true, Bool.and_eq_true, decide_eq_true_eq]; exact ⟨hl, hv⟩
  | lo, c :: t, hl, hs, hn => by
    have hc : c.1 ≠ a := hn c (by simp)
    simp only [wfFrom, Bool.and_eq_true, decide_eq_true_eq] at hs
    by_cases hk : a < c.1
    · simp only [ins, hk, if_true, wfFrom, Bool.and_eq_true, decide_eq_true_eq]
      exact ⟨⟨hl, hv⟩, ⟨by omega, hs.1.2⟩, hs.2⟩
    · simp only [ins, hk, if_false, wfFrom, Bool.and_eq_true, decide_eq_true_eq]
      exact ⟨hs.1, wfFrom_ins hv (by omega) hs.2 (fun d hd => hn d (by simp [hd]))⟩

/-- Writing a byte keeps the canonical form. -/
theorem wf_put (m : Mem) (a : Nat) (v : Byte) (h : m.wf = true) : (put m a v).wf = true := by
  unfold put wf at *
  split_ifs with hv
  · exact wfFrom_del a h
  · exact wfFrom_ins hv (Nat.zero_le a) (wfFrom_del a h) (by simp [del])

/-- Writing bytes keeps the canonical form. -/
theorem wf_write : ∀ (n : Nat) (m : Mem) (a v : Nat), m.wf = true → (write m a n v).wf = true
  | 0, _, _, _, h => h
  | n + 1, _, _, _, h => wf_write n _ _ _ (wf_put _ _ _ h)

end Mem

end Sys2Proof.Machine
end

