-- ==== Sys2Proof/Laws/Ops.lean ====
section
/-!
SUPPORT. Sys2Proof/Laws/Ops.lean: what the shared operations do. Counters, samples, event records and trace records change
nothing but what counts and records (State.calm); a field set reads back, and fields elsewhere are as before.
-/

namespace Sys2Proof.Machine

/-! ## Register fields -/


theorem State.get_set_self (s : State) (f : Fld) (v : Nat) : (s.set f v).get f = v % 2 ^ f.w := Store.get_set_self _ _ _

theorem State.get_set_apart (s : State) (f g : Fld) (v : Nat) (h : Store.apart f g) : (s.set f v).get g = s.get g :=
  Store.get_set_apart _ _ _ _ h

theorem State.get_set_bits (s : State) (f g : Fld) (v : Nat) (ha : g.a = f.a) (hs : Store.span g = Store.span f)
    (hd : g.lo + g.w ≤ f.lo ∨ f.lo + f.w ≤ g.lo) : (s.set f v).get g = s.get g :=
  Store.get_set_bits _ _ _ _ ha hs hd

theorem State.get_lt (s : State) (f : Fld) : s.get f < 2 ^ f.w := Store.get_lt _ _

/-! ## Counting and recording -/

theorem State.fn_setFn (s : State) (n m : Nat) (f : FnSt) : (s.setFn n f).fn m = if m = n then f else s.fn m := by
  simp only [State.fn, State.setFn, alGet_alSet]
  split_ifs <;> rfl

theorem State.pushTrace_calm (s : State) (ty src sh fr p : Nat) : (s.pushTrace ty src sh fr p).1.calm = s.calm := by
  unfold State.pushTrace
  dsimp only
  split
  · rfl
  · split <;> rfl

theorem State.pushEv_calm (s : State) (n : Nat) (r : EvRec) : (s.pushEv n r).1.calm = s.calm := by
  unfold State.pushEv
  dsimp only
  repeat' split
  all_goals rfl

theorem State.signalSample_calm (s : State) : s.signalSample.calm = s.calm := by
  unfold State.signalSample
  dsimp only
  split <;> rfl

theorem State.slotStep_calm (more : State → Nat → State) (hm : ∀ s i, (more s i).calm = s.calm) (i n : Nat) (s : State)
    (j : Nat) : (State.slotStep more i n s j).calm = s.calm := by
  have hs : ∀ (u : State) (k : Nat) (x : Slot), (u.setSlot k x).calm = u.calm := fun _ _ _ => rfl
  unfold State.slotStep
  dsimp only
  repeat' split
  all_goals simp only [hm, hs, State.signalSample_calm, State.pushTrace_calm, State.pushEv_calm]

theorem State.countF_calm : ∀ (k : Nat) (s : State) (i n : Nat), (State.countF k s i n).calm = s.calm
  | 0, _, _, _ => rfl
  | k + 1, s, i, n => by
    have h : ∀ (l : List Nat) (u : State), u.calm = s.calm →
        (l.foldl (State.slotStep (fun s k' => State.countF k s k' 1) i n) u).calm = s.calm := by
      intro l
      induction l with
      | nil => exact fun _ hu => hu
      | cons a t ih =>
        intro u hu
        exact ih _ ((State.slotStep_calm _ (fun s i => State.countF_calm k s i 1) _ _ _ _).trans hu)
    exact h _ _ rfl

theorem State.countN_calm (s : State) (i n : Nat) : (s.countN i n).calm = s.calm := State.countF_calm 9 s i n

theorem State.count_calm (s : State) (i : Nat) : (s.count i).calm = s.calm := State.countN_calm s i 1

theorem State.traceAt_calm (s : State) (ty src sh fr p : Nat) : (s.traceAt ty src sh fr p).calm = s.calm := by
  unfold State.traceAt
  dsimp only
  split <;> simp only [State.count_calm, State.pushTrace_calm]

theorem State.trace_calm (s : State) (ty src p : Nat) : (s.trace ty src p).calm = s.calm := State.traceAt_calm ..

theorem State.eventAt_calm (s : State) (n ty t sh fr p : Nat) : (s.eventAt n ty t sh fr p).calm = s.calm := by
  unfold State.eventAt
  dsimp only
  split <;> simp only [State.count_calm, State.pushEv_calm]

theorem State.event_calm (s : State) (n ty t p : Nat) : (s.event n ty t p).calm = s.calm := State.eventAt_calm ..

theorem State.orderLast_calm (s : State) : s.orderLast.calm = s.calm := by
  unfold State.orderLast
  dsimp only
  split
  · split <;> rfl
  · rfl

theorem State.pevent_calm (s : State) (ty t p : Nat) : (s.pevent ty t p).calm = s.calm := by
  unfold State.pevent
  rw [State.orderLast_calm, State.event_calm]

theorem State.orderTrace_calm (s : State) : (s.orderTrace).calm = s.calm := by
  unfold State.orderTrace
  dsimp only
  split
  · split <;> rfl
  · rfl

theorem State.quenchRecords_calm (s : State) (k m c d : Nat) : (s.quenchRecords k m c d).calm = s.calm := by
  unfold State.quenchRecords
  dsimp only
  rw [State.orderTrace_calm, State.trace_calm]
  split <;> simp only [State.event_calm, State.pevent_calm]

/-- Further causes of a quench change nothing but staged records (R29). -/
theorem State.addCauses_calm (s : State) (n c : Nat) : (s.addCauses n c).calm = s.calm := by
  unfold State.addCauses
  split <;> rfl

theorem State.releaseRecords_calm (s : State) (k m : Nat) : (s.releaseRecords k m).calm = s.calm := by
  unfold State.releaseRecords
  dsimp only
  rw [State.orderTrace_calm, State.trace_calm]
  split <;> simp only [State.event_calm, State.pevent_calm]

@[simp] theorem State.signalSample_part (s : State) : (s.signalSample).part = s.part := by have h := congrArg State.part (State.signalSample_calm s); exact h
@[simp] theorem State.signalSample_regs (s : State) : (s.signalSample).regs = s.regs := by have h := congrArg State.regs (State.signalSample_calm s); exact h
@[simp] theorem State.signalSample_pend (s : State) : (s.signalSample).pend = s.pend := by have h := congrArg State.pend (State.signalSample_calm s); exact h
@[simp] theorem State.signalSample_time (s : State) : (s.signalSample).time = s.time := by have h := congrArg State.time (State.signalSample_calm s); exact h
@[simp] theorem State.signalSample_tsk (s : State) : (s.signalSample).tsk = s.tsk := by have h := congrArg State.tsk (State.signalSample_calm s); exact h
@[simp] theorem State.signalSample_asy (s : State) : (s.signalSample).asy = s.asy := by have h := congrArg State.asy (State.signalSample_calm s); exact h
@[simp] theorem State.signalSample_sch (s : State) : (s.signalSample).sch = s.sch := by have h := congrArg State.sch (State.signalSample_calm s); exact h
@[simp] theorem State.signalSample_eng (s : State) : (s.signalSample).eng = s.eng := by have h := congrArg State.eng (State.signalSample_calm s); exact h
@[simp] theorem State.signalSample_refin (s : State) : (s.signalSample).refin = s.refin := by have h := congrArg State.refin (State.signalSample_calm s); exact h
@[simp] theorem State.signalSample_tic (s : State) : (s.signalSample).tic = s.tic := by have h := congrArg State.tic (State.signalSample_calm s); exact h
@[simp] theorem State.signalSample_gns (s : State) : (s.signalSample).gns = s.gns := by have h := congrArg State.gns (State.signalSample_calm s); exact h
@[simp] theorem State.signalSample_syn (s : State) : (s.signalSample).syn = s.syn := by have h := congrArg State.syn (State.signalSample_calm s); exact h
@[simp] theorem State.signalSample_eth (s : State) : (s.signalSample).eth = s.eth := by have h := congrArg State.eth (State.signalSample_calm s); exact h
@[simp] theorem State.signalSample_hmk (s : State) : (s.signalSample).hmk = s.hmk := by have h := congrArg State.hmk (State.signalSample_calm s); exact h
@[simp] theorem State.signalSample_kvt (s : State) : (s.signalSample).kvt = s.kvt := by have h := congrArg State.kvt (State.signalSample_calm s); exact h
@[simp] theorem State.signalSample_gfl (s : State) : (s.signalSample).gfl = s.gfl := by have h := congrArg State.gfl (State.signalSample_calm s); exact h
@[simp] theorem State.signalSample_str (s : State) : (s.signalSample).str = s.str := by have h := congrArg State.str (State.signalSample_calm s); exact h
@[simp] theorem State.signalSample_dram (s : State) : (s.signalSample).dram = s.dram := by have h := congrArg State.dram (State.signalSample_calm s); exact h
@[simp] theorem State.signalSample_pair (s : State) : (s.signalSample).pair = s.pair := by have h := congrArg State.pair (State.signalSample_calm s); exact h
@[simp] theorem State.signalSample_seam (s : State) : (s.signalSample).seam = s.seam := by have h := congrArg State.seam (State.signalSample_calm s); exact h
@[simp] theorem State.signalSample_pow (s : State) : (s.signalSample).pow = s.pow := by have h := congrArg State.pow (State.signalSample_calm s); exact h
@[simp] theorem State.signalSample_draws (s : State) : (s.signalSample).draws = s.draws := by have h := congrArg State.draws (State.signalSample_calm s); exact h
@[simp] theorem State.signalSample_pending (s : State) : (s.signalSample).pending = s.pending := by have h := congrArg State.pending (State.signalSample_calm s); exact h
@[simp] theorem State.signalSample_get (s : State) (q : Fld) : (s.signalSample).get q = s.get q := by have h := congrArg (fun x => State.get x q) (State.signalSample_calm s); exact h
@[simp] theorem State.signalSample_getI (s : State) (q : Fld) : (s.signalSample).getI q = s.getI q := by have h := congrArg (fun x => State.getI x q) (State.signalSample_calm s); exact h
@[simp] theorem State.signalSample_on (s : State) (q : Fld) : (s.signalSample).on q = s.on q := by have h := congrArg (fun x => State.on x q) (State.signalSample_calm s); exact h
@[simp] theorem State.signalSample_feat (s : State) (i : Nat) : (s.signalSample).feat i = s.feat i := by have h := congrArg (fun x => State.feat x i) (State.signalSample_calm s); exact h
@[simp] theorem State.countN_part (s : State) (i n : Nat) : (s.countN i n).part = s.part := by have h := congrArg State.part (State.countN_calm s i n); exact h
@[simp] theorem State.countN_regs (s : State) (i n : Nat) : (s.countN i n).regs = s.regs := by have h := congrArg State.regs (State.countN_calm s i n); exact h
@[simp] theorem State.countN_pend (s : State) (i n : Nat) : (s.countN i n).pend = s.pend := by have h := congrArg State.pend (State.countN_calm s i n); exact h
@[simp] theorem State.countN_time (s : State) (i n : Nat) : (s.countN i n).time = s.time := by have h := congrArg State.time (State.countN_calm s i n); exact h
@[simp] theorem State.countN_tsk (s : State) (i n : Nat) : (s.countN i n).tsk = s.tsk := by have h := congrArg State.tsk (State.countN_calm s i n); exact h
@[simp] theorem State.countN_asy (s : State) (i n : Nat) : (s.countN i n).asy = s.asy := by have h := congrArg State.asy (State.countN_calm s i n); exact h
@[simp] theorem State.countN_sch (s : State) (i n : Nat) : (s.countN i n).sch = s.sch := by have h := congrArg State.sch (State.countN_calm s i n); exact h
@[simp] theorem State.countN_eng (s : State) (i n : Nat) : (s.countN i n).eng = s.eng := by have h := congrArg State.eng (State.countN_calm s i n); exact h
@[simp] theorem State.countN_refin (s : State) (i n : Nat) : (s.countN i n).refin = s.refin := by have h := congrArg State.refin (State.countN_calm s i n); exact h
@[simp] theorem State.countN_tic (s : State) (i n : Nat) : (s.countN i n).tic = s.tic := by have h := congrArg State.tic (State.countN_calm s i n); exact h
@[simp] theorem State.countN_gns (s : State) (i n : Nat) : (s.countN i n).gns = s.gns := by have h := congrArg State.gns (State.countN_calm s i n); exact h
@[simp] theorem State.countN_syn (s : State) (i n : Nat) : (s.countN i n).syn = s.syn := by have h := congrArg State.syn (State.countN_calm s i n); exact h
@[simp] theorem State.countN_eth (s : State) (i n : Nat) : (s.countN i n).eth = s.eth := by have h := congrArg State.eth (State.countN_calm s i n); exact h
@[simp] theorem State.countN_hmk (s : State) (i n : Nat) : (s.countN i n).hmk = s.hmk := by have h := congrArg State.hmk (State.countN_calm s i n); exact h
@[simp] theorem State.countN_kvt (s : State) (i n : Nat) : (s.countN i n).kvt = s.kvt := by have h := congrArg State.kvt (State.countN_calm s i n); exact h
@[simp] theorem State.countN_gfl (s : State) (i n : Nat) : (s.countN i n).gfl = s.gfl := by have h := congrArg State.gfl (State.countN_calm s i n); exact h
@[simp] theorem State.countN_str (s : State) (i n : Nat) : (s.countN i n).str = s.str := by have h := congrArg State.str (State.countN_calm s i n); exact h
@[simp] theorem State.countN_dram (s : State) (i n : Nat) : (s.countN i n).dram = s.dram := by have h := congrArg State.dram (State.countN_calm s i n); exact h
@[simp] theorem State.countN_pair (s : State) (i n : Nat) : (s.countN i n).pair = s.pair := by have h := congrArg State.pair (State.countN_calm s i n); exact h
@[simp] theorem State.countN_seam (s : State) (i n : Nat) : (s.countN i n).seam = s.seam := by have h := congrArg State.seam (State.countN_calm s i n); exact h
@[simp] theorem State.countN_pow (s : State) (i n : Nat) : (s.countN i n).pow = s.pow := by have h := congrArg State.pow (State.countN_calm s i n); exact h
@[simp] theorem State.countN_draws (s : State) (i n : Nat) : (s.countN i n).draws = s.draws := by have h := congrArg State.draws (State.countN_calm s i n); exact h
@[simp] theorem State.countN_pending (s : State) (i n : Nat) : (s.countN i n).pending = s.pending := by have h := congrArg State.pending (State.countN_calm s i n); exact h
@[simp] theorem State.countN_get (s : State) (i n : Nat) (q : Fld) : (s.countN i n).get q = s.get q := by have h := congrArg (fun x => State.get x q) (State.countN_calm s i n); exact h
@[simp] theorem State.countN_getI (s : State) (i n : Nat) (q : Fld) : (s.countN i n).getI q = s.getI q := by have h := congrArg (fun x => State.getI x q) (State.countN_calm s i n); exact h
@[simp] theorem State.countN_on (s : State) (i n : Nat) (q : Fld) : (s.countN i n).on q = s.on q := by have h := congrArg (fun x => State.on x q) (State.countN_calm s i n); exact h
@[simp] theorem State.countN_feat (s : State) (i n : Nat) (i : Nat) : (s.countN i n).feat i = s.feat i := by have h := congrArg (fun x => State.feat x i) (State.countN_calm s i n); exact h
@[simp] theorem State.count_part (s : State) (i : Nat) : (s.count i).part = s.part := by have h := congrArg State.part (State.count_calm s i); exact h
@[simp] theorem State.count_regs (s : State) (i : Nat) : (s.count i).regs = s.regs := by have h := congrArg State.regs (State.count_calm s i); exact h
@[simp] theorem State.count_pend (s : State) (i : Nat) : (s.count i).pend = s.pend := by have h := congrArg State.pend (State.count_calm s i); exact h
@[simp] theorem State.count_time (s : State) (i : Nat) : (s.count i).time = s.time := by have h := congrArg State.time (State.count_calm s i); exact h
@[simp] theorem State.count_tsk (s : State) (i : Nat) : (s.count i).tsk = s.tsk := by have h := congrArg State.tsk (State.count_calm s i); exact h
@[simp] theorem State.count_asy (s : State) (i : Nat) : (s.count i).asy = s.asy := by have h := congrArg State.asy (State.count_calm s i); exact h
@[simp] theorem State.count_sch (s : State) (i : Nat) : (s.count i).sch = s.sch := by have h := congrArg State.sch (State.count_calm s i); exact h
@[simp] theorem State.count_eng (s : State) (i : Nat) : (s.count i).eng = s.eng := by have h := congrArg State.eng (State.count_calm s i); exact h
@[simp] theorem State.count_refin (s : State) (i : Nat) : (s.count i).refin = s.refin := by have h := congrArg State.refin (State.count_calm s i); exact h
@[simp] theorem State.count_tic (s : State) (i : Nat) : (s.count i).tic = s.tic := by have h := congrArg State.tic (State.count_calm s i); exact h
@[simp] theorem State.count_gns (s : State) (i : Nat) : (s.count i).gns = s.gns := by have h := congrArg State.gns (State.count_calm s i); exact h
@[simp] theorem State.count_syn (s : State) (i : Nat) : (s.count i).syn = s.syn := by have h := congrArg State.syn (State.count_calm s i); exact h
@[simp] theorem State.count_eth (s : State) (i : Nat) : (s.count i).eth = s.eth := by have h := congrArg State.eth (State.count_calm s i); exact h
@[simp] theorem State.count_hmk (s : State) (i : Nat) : (s.count i).hmk = s.hmk := by have h := congrArg State.hmk (State.count_calm s i); exact h
@[simp] theorem State.count_kvt (s : State) (i : Nat) : (s.count i).kvt = s.kvt := by have h := congrArg State.kvt (State.count_calm s i); exact h
@[simp] theorem State.count_gfl (s : State) (i : Nat) : (s.count i).gfl = s.gfl := by have h := congrArg State.gfl (State.count_calm s i); exact h
@[simp] theorem State.count_str (s : State) (i : Nat) : (s.count i).str = s.str := by have h := congrArg State.str (State.count_calm s i); exact h
@[simp] theorem State.count_dram (s : State) (i : Nat) : (s.count i).dram = s.dram := by have h := congrArg State.dram (State.count_calm s i); exact h
@[simp] theorem State.count_pair (s : State) (i : Nat) : (s.count i).pair = s.pair := by have h := congrArg State.pair (State.count_calm s i); exact h
@[simp] theorem State.count_seam (s : State) (i : Nat) : (s.count i).seam = s.seam := by have h := congrArg State.seam (State.count_calm s i); exact h
@[simp] theorem State.count_pow (s : State) (i : Nat) : (s.count i).pow = s.pow := by have h := congrArg State.pow (State.count_calm s i); exact h
@[simp] theorem State.count_draws (s : State) (i : Nat) : (s.count i).draws = s.draws := by have h := congrArg State.draws (State.count_calm s i); exact h
@[simp] theorem State.count_pending (s : State) (i : Nat) : (s.count i).pending = s.pending := by have h := congrArg State.pending (State.count_calm s i); exact h
@[simp] theorem State.count_get (s : State) (i : Nat) (q : Fld) : (s.count i).get q = s.get q := by have h := congrArg (fun x => State.get x q) (State.count_calm s i); exact h
@[simp] theorem State.count_getI (s : State) (i : Nat) (q : Fld) : (s.count i).getI q = s.getI q := by have h := congrArg (fun x => State.getI x q) (State.count_calm s i); exact h
@[simp] theorem State.count_on (s : State) (i : Nat) (q : Fld) : (s.count i).on q = s.on q := by have h := congrArg (fun x => State.on x q) (State.count_calm s i); exact h
@[simp] theorem State.count_feat (s : State) (i : Nat) (i : Nat) : (s.count i).feat i = s.feat i := by have h := congrArg (fun x => State.feat x i) (State.count_calm s i); exact h
@[simp] theorem State.traceAt_part (s : State) (ty src sh fr p : Nat) : (s.traceAt ty src sh fr p).part = s.part := by have h := congrArg State.part (State.traceAt_calm s ty src sh fr p); exact h
@[simp] theorem State.traceAt_regs (s : State) (ty src sh fr p : Nat) : (s.traceAt ty src sh fr p).regs = s.regs := by have h := congrArg State.regs (State.traceAt_calm s ty src sh fr p); exact h
@[simp] theorem State.traceAt_pend (s : State) (ty src sh fr p : Nat) : (s.traceAt ty src sh fr p).pend = s.pend := by have h := congrArg State.pend (State.traceAt_calm s ty src sh fr p); exact h
@[simp] theorem State.traceAt_time (s : State) (ty src sh fr p : Nat) : (s.traceAt ty src sh fr p).time = s.time := by have h := congrArg State.time (State.traceAt_calm s ty src sh fr p); exact h
@[simp] theorem State.traceAt_tsk (s : State) (ty src sh fr p : Nat) : (s.traceAt ty src sh fr p).tsk = s.tsk := by have h := congrArg State.tsk (State.traceAt_calm s ty src sh fr p); exact h
@[simp] theorem State.traceAt_asy (s : State) (ty src sh fr p : Nat) : (s.traceAt ty src sh fr p).asy = s.asy := by have h := congrArg State.asy (State.traceAt_calm s ty src sh fr p); exact h
@[simp] theorem State.traceAt_sch (s : State) (ty src sh fr p : Nat) : (s.traceAt ty src sh fr p).sch = s.sch := by have h := congrArg State.sch (State.traceAt_calm s ty src sh fr p); exact h
@[simp] theorem State.traceAt_eng (s : State) (ty src sh fr p : Nat) : (s.traceAt ty src sh fr p).eng = s.eng := by have h := congrArg State.eng (State.traceAt_calm s ty src sh fr p); exact h
@[simp] theorem State.traceAt_refin (s : State) (ty src sh fr p : Nat) : (s.traceAt ty src sh fr p).refin = s.refin := by have h := congrArg State.refin (State.traceAt_calm s ty src sh fr p); exact h
@[simp] theorem State.traceAt_tic (s : State) (ty src sh fr p : Nat) : (s.traceAt ty src sh fr p).tic = s.tic := by have h := congrArg State.tic (State.traceAt_calm s ty src sh fr p); exact h
@[simp] theorem State.traceAt_gns (s : State) (ty src sh fr p : Nat) : (s.traceAt ty src sh fr p).gns = s.gns := by have h := congrArg State.gns (State.traceAt_calm s ty src sh fr p); exact h
@[simp] theorem State.traceAt_syn (s : State) (ty src sh fr p : Nat) : (s.traceAt ty src sh fr p).syn = s.syn := by have h := congrArg State.syn (State.traceAt_calm s ty src sh fr p); exact h
@[simp] theorem State.traceAt_eth (s : State) (ty src sh fr p : Nat) : (s.traceAt ty src sh fr p).eth = s.eth := by have h := congrArg State.eth (State.traceAt_calm s ty src sh fr p); exact h
@[simp] theorem State.traceAt_hmk (s : State) (ty src sh fr p : Nat) : (s.traceAt ty src sh fr p).hmk = s.hmk := by have h := congrArg State.hmk (State.traceAt_calm s ty src sh fr p); exact h
@[simp] theorem State.traceAt_kvt (s : State) (ty src sh fr p : Nat) : (s.traceAt ty src sh fr p).kvt = s.kvt := by have h := congrArg State.kvt (State.traceAt_calm s ty src sh fr p); exact h
@[simp] theorem State.traceAt_gfl (s : State) (ty src sh fr p : Nat) : (s.traceAt ty src sh fr p).gfl = s.gfl := by have h := congrArg State.gfl (State.traceAt_calm s ty src sh fr p); exact h
@[simp] theorem State.traceAt_str (s : State) (ty src sh fr p : Nat) : (s.traceAt ty src sh fr p).str = s.str := by have h := congrArg State.str (State.traceAt_calm s ty src sh fr p); exact h
@[simp] theorem State.traceAt_dram (s : State) (ty src sh fr p : Nat) : (s.traceAt ty src sh fr p).dram = s.dram := by have h := congrArg State.dram (State.traceAt_calm s ty src sh fr p); exact h
@[simp] theorem State.traceAt_pair (s : State) (ty src sh fr p : Nat) : (s.traceAt ty src sh fr p).pair = s.pair := by have h := congrArg State.pair (State.traceAt_calm s ty src sh fr p); exact h
@[simp] theorem State.traceAt_seam (s : State) (ty src sh fr p : Nat) : (s.traceAt ty src sh fr p).seam = s.seam := by have h := congrArg State.seam (State.traceAt_calm s ty src sh fr p); exact h
@[simp] theorem State.traceAt_pow (s : State) (ty src sh fr p : Nat) : (s.traceAt ty src sh fr p).pow = s.pow := by have h := congrArg State.pow (State.traceAt_calm s ty src sh fr p); exact h
@[simp] theorem State.traceAt_draws (s : State) (ty src sh fr p : Nat) : (s.traceAt ty src sh fr p).draws = s.draws := by have h := congrArg State.draws (State.traceAt_calm s ty src sh fr p); exact h
@[simp] theorem State.traceAt_pending (s : State) (ty src sh fr p : Nat) : (s.traceAt ty src sh fr p).pending = s.pending := by have h := congrArg State.pending (State.traceAt_calm s ty src sh fr p); exact h
@[simp] theorem State.traceAt_get (s : State) (ty src sh fr p : Nat) (q : Fld) : (s.traceAt ty src sh fr p).get q = s.get q := by have h := congrArg (fun x => State.get x q) (State.traceAt_calm s ty src sh fr p); exact h
@[simp] theorem State.traceAt_getI (s : State) (ty src sh fr p : Nat) (q : Fld) : (s.traceAt ty src sh fr p).getI q = s.getI q := by have h := congrArg (fun x => State.getI x q) (State.traceAt_calm s ty src sh fr p); exact h
@[simp] theorem State.traceAt_on (s : State) (ty src sh fr p : Nat) (q : Fld) : (s.traceAt ty src sh fr p).on q = s.on q := by have h := congrArg (fun x => State.on x q) (State.traceAt_calm s ty src sh fr p); exact h
@[simp] theorem State.traceAt_feat (s : State) (ty src sh fr p : Nat) (i : Nat) : (s.traceAt ty src sh fr p).feat i = s.feat i := by have h := congrArg (fun x => State.feat x i) (State.traceAt_calm s ty src sh fr p); exact h
@[simp] theorem State.trace_part (s : State) (ty src p : Nat) : (s.trace ty src p).part = s.part := by have h := congrArg State.part (State.trace_calm s ty src p); exact h
@[simp] theorem State.trace_regs (s : State) (ty src p : Nat) : (s.trace ty src p).regs = s.regs := by have h := congrArg State.regs (State.trace_calm s ty src p); exact h
@[simp] theorem State.trace_pend (s : State) (ty src p : Nat) : (s.trace ty src p).pend = s.pend := by have h := congrArg State.pend (State.trace_calm s ty src p); exact h
@[simp] theorem State.trace_time (s : State) (ty src p : Nat) : (s.trace ty src p).time = s.time := by have h := congrArg State.time (State.trace_calm s ty src p); exact h
@[simp] theorem State.trace_tsk (s : State) (ty src p : Nat) : (s.trace ty src p).tsk = s.tsk := by have h := congrArg State.tsk (State.trace_calm s ty src p); exact h
@[simp] theorem State.trace_asy (s : State) (ty src p : Nat) : (s.trace ty src p).asy = s.asy := by have h := congrArg State.asy (State.trace_calm s ty src p); exact h
@[simp] theorem State.trace_sch (s : State) (ty src p : Nat) : (s.trace ty src p).sch = s.sch := by have h := congrArg State.sch (State.trace_calm s ty src p); exact h
@[simp] theorem State.trace_eng (s : State) (ty src p : Nat) : (s.trace ty src p).eng = s.eng := by have h := congrArg State.eng (State.trace_calm s ty src p); exact h
@[simp] theorem State.trace_refin (s : State) (ty src p : Nat) : (s.trace ty src p).refin = s.refin := by have h := congrArg State.refin (State.trace_calm s ty src p); exact h
@[simp] theorem State.trace_tic (s : State) (ty src p : Nat) : (s.trace ty src p).tic = s.tic := by have h := congrArg State.tic (State.trace_calm s ty src p); exact h
@[simp] theorem State.trace_gns (s : State) (ty src p : Nat) : (s.trace ty src p).gns = s.gns := by have h := congrArg State.gns (State.trace_calm s ty src p); exact h
@[simp] theorem State.trace_syn (s : State) (ty src p : Nat) : (s.trace ty src p).syn = s.syn := by have h := congrArg State.syn (State.trace_calm s ty src p); exact h
@[simp] theorem State.trace_eth (s : State) (ty src p : Nat) : (s.trace ty src p).eth = s.eth := by have h := congrArg State.eth (State.trace_calm s ty src p); exact h
@[simp] theorem State.trace_hmk (s : State) (ty src p : Nat) : (s.trace ty src p).hmk = s.hmk := by have h := congrArg State.hmk (State.trace_calm s ty src p); exact h
@[simp] theorem State.trace_kvt (s : State) (ty src p : Nat) : (s.trace ty src p).kvt = s.kvt := by have h := congrArg State.kvt (State.trace_calm s ty src p); exact h
@[simp] theorem State.trace_gfl (s : State) (ty src p : Nat) : (s.trace ty src p).gfl = s.gfl := by have h := congrArg State.gfl (State.trace_calm s ty src p); exact h
@[simp] theorem State.trace_str (s : State) (ty src p : Nat) : (s.trace ty src p).str = s.str := by have h := congrArg State.str (State.trace_calm s ty src p); exact h
@[simp] theorem State.trace_dram (s : State) (ty src p : Nat) : (s.trace ty src p).dram = s.dram := by have h := congrArg State.dram (State.trace_calm s ty src p); exact h
@[simp] theorem State.trace_pair (s : State) (ty src p : Nat) : (s.trace ty src p).pair = s.pair := by have h := congrArg State.pair (State.trace_calm s ty src p); exact h
@[simp] theorem State.trace_seam (s : State) (ty src p : Nat) : (s.trace ty src p).seam = s.seam := by have h := congrArg State.seam (State.trace_calm s ty src p); exact h
@[simp] theorem State.trace_pow (s : State) (ty src p : Nat) : (s.trace ty src p).pow = s.pow := by have h := congrArg State.pow (State.trace_calm s ty src p); exact h
@[simp] theorem State.trace_draws (s : State) (ty src p : Nat) : (s.trace ty src p).draws = s.draws := by have h := congrArg State.draws (State.trace_calm s ty src p); exact h
@[simp] theorem State.trace_pending (s : State) (ty src p : Nat) : (s.trace ty src p).pending = s.pending := by have h := congrArg State.pending (State.trace_calm s ty src p); exact h
@[simp] theorem State.trace_get (s : State) (ty src p : Nat) (q : Fld) : (s.trace ty src p).get q = s.get q := by have h := congrArg (fun x => State.get x q) (State.trace_calm s ty src p); exact h
@[simp] theorem State.trace_getI (s : State) (ty src p : Nat) (q : Fld) : (s.trace ty src p).getI q = s.getI q := by have h := congrArg (fun x => State.getI x q) (State.trace_calm s ty src p); exact h
@[simp] theorem State.trace_on (s : State) (ty src p : Nat) (q : Fld) : (s.trace ty src p).on q = s.on q := by have h := congrArg (fun x => State.on x q) (State.trace_calm s ty src p); exact h
@[simp] theorem State.trace_feat (s : State) (ty src p : Nat) (i : Nat) : (s.trace ty src p).feat i = s.feat i := by have h := congrArg (fun x => State.feat x i) (State.trace_calm s ty src p); exact h
@[simp] theorem State.eventAt_part (s : State) (n ty t sh fr p : Nat) : (s.eventAt n ty t sh fr p).part = s.part := by have h := congrArg State.part (State.eventAt_calm s n ty t sh fr p); exact h
@[simp] theorem State.eventAt_regs (s : State) (n ty t sh fr p : Nat) : (s.eventAt n ty t sh fr p).regs = s.regs := by have h := congrArg State.regs (State.eventAt_calm s n ty t sh fr p); exact h
@[simp] theorem State.eventAt_pend (s : State) (n ty t sh fr p : Nat) : (s.eventAt n ty t sh fr p).pend = s.pend := by have h := congrArg State.pend (State.eventAt_calm s n ty t sh fr p); exact h
@[simp] theorem State.eventAt_time (s : State) (n ty t sh fr p : Nat) : (s.eventAt n ty t sh fr p).time = s.time := by have h := congrArg State.time (State.eventAt_calm s n ty t sh fr p); exact h
@[simp] theorem State.eventAt_tsk (s : State) (n ty t sh fr p : Nat) : (s.eventAt n ty t sh fr p).tsk = s.tsk := by have h := congrArg State.tsk (State.eventAt_calm s n ty t sh fr p); exact h
@[simp] theorem State.eventAt_asy (s : State) (n ty t sh fr p : Nat) : (s.eventAt n ty t sh fr p).asy = s.asy := by have h := congrArg State.asy (State.eventAt_calm s n ty t sh fr p); exact h
@[simp] theorem State.eventAt_sch (s : State) (n ty t sh fr p : Nat) : (s.eventAt n ty t sh fr p).sch = s.sch := by have h := congrArg State.sch (State.eventAt_calm s n ty t sh fr p); exact h
@[simp] theorem State.eventAt_eng (s : State) (n ty t sh fr p : Nat) : (s.eventAt n ty t sh fr p).eng = s.eng := by have h := congrArg State.eng (State.eventAt_calm s n ty t sh fr p); exact h
@[simp] theorem State.eventAt_refin (s : State) (n ty t sh fr p : Nat) : (s.eventAt n ty t sh fr p).refin = s.refin := by have h := congrArg State.refin (State.eventAt_calm s n ty t sh fr p); exact h
@[simp] theorem State.eventAt_tic (s : State) (n ty t sh fr p : Nat) : (s.eventAt n ty t sh fr p).tic = s.tic := by have h := congrArg State.tic (State.eventAt_calm s n ty t sh fr p); exact h
@[simp] theorem State.eventAt_gns (s : State) (n ty t sh fr p : Nat) : (s.eventAt n ty t sh fr p).gns = s.gns := by have h := congrArg State.gns (State.eventAt_calm s n ty t sh fr p); exact h
@[simp] theorem State.eventAt_syn (s : State) (n ty t sh fr p : Nat) : (s.eventAt n ty t sh fr p).syn = s.syn := by have h := congrArg State.syn (State.eventAt_calm s n ty t sh fr p); exact h
@[simp] theorem State.eventAt_eth (s : State) (n ty t sh fr p : Nat) : (s.eventAt n ty t sh fr p).eth = s.eth := by have h := congrArg State.eth (State.eventAt_calm s n ty t sh fr p); exact h
@[simp] theorem State.eventAt_hmk (s : State) (n ty t sh fr p : Nat) : (s.eventAt n ty t sh fr p).hmk = s.hmk := by have h := congrArg State.hmk (State.eventAt_calm s n ty t sh fr p); exact h
@[simp] theorem State.eventAt_kvt (s : State) (n ty t sh fr p : Nat) : (s.eventAt n ty t sh fr p).kvt = s.kvt := by have h := congrArg State.kvt (State.eventAt_calm s n ty t sh fr p); exact h
@[simp] theorem State.eventAt_gfl (s : State) (n ty t sh fr p : Nat) : (s.eventAt n ty t sh fr p).gfl = s.gfl := by have h := congrArg State.gfl (State.eventAt_calm s n ty t sh fr p); exact h
@[simp] theorem State.eventAt_str (s : State) (n ty t sh fr p : Nat) : (s.eventAt n ty t sh fr p).str = s.str := by have h := congrArg State.str (State.eventAt_calm s n ty t sh fr p); exact h
@[simp] theorem State.eventAt_dram (s : State) (n ty t sh fr p : Nat) : (s.eventAt n ty t sh fr p).dram = s.dram := by have h := congrArg State.dram (State.eventAt_calm s n ty t sh fr p); exact h
@[simp] theorem State.eventAt_pair (s : State) (n ty t sh fr p : Nat) : (s.eventAt n ty t sh fr p).pair = s.pair := by have h := congrArg State.pair (State.eventAt_calm s n ty t sh fr p); exact h
@[simp] theorem State.eventAt_seam (s : State) (n ty t sh fr p : Nat) : (s.eventAt n ty t sh fr p).seam = s.seam := by have h := congrArg State.seam (State.eventAt_calm s n ty t sh fr p); exact h
@[simp] theorem State.eventAt_pow (s : State) (n ty t sh fr p : Nat) : (s.eventAt n ty t sh fr p).pow = s.pow := by have h := congrArg State.pow (State.eventAt_calm s n ty t sh fr p); exact h
@[simp] theorem State.eventAt_draws (s : State) (n ty t sh fr p : Nat) : (s.eventAt n ty t sh fr p).draws = s.draws := by have h := congrArg State.draws (State.eventAt_calm s n ty t sh fr p); exact h
@[simp] theorem State.eventAt_pending (s : State) (n ty t sh fr p : Nat) : (s.eventAt n ty t sh fr p).pending = s.pending := by have h := congrArg State.pending (State.eventAt_calm s n ty t sh fr p); exact h
@[simp] theorem State.eventAt_get (s : State) (n ty t sh fr p : Nat) (q : Fld) : (s.eventAt n ty t sh fr p).get q = s.get q := by have h := congrArg (fun x => State.get x q) (State.eventAt_calm s n ty t sh fr p); exact h
@[simp] theorem State.eventAt_getI (s : State) (n ty t sh fr p : Nat) (q : Fld) : (s.eventAt n ty t sh fr p).getI q = s.getI q := by have h := congrArg (fun x => State.getI x q) (State.eventAt_calm s n ty t sh fr p); exact h
@[simp] theorem State.eventAt_on (s : State) (n ty t sh fr p : Nat) (q : Fld) : (s.eventAt n ty t sh fr p).on q = s.on q := by have h := congrArg (fun x => State.on x q) (State.eventAt_calm s n ty t sh fr p); exact h
@[simp] theorem State.eventAt_feat (s : State) (n ty t sh fr p : Nat) (i : Nat) : (s.eventAt n ty t sh fr p).feat i = s.feat i := by have h := congrArg (fun x => State.feat x i) (State.eventAt_calm s n ty t sh fr p); exact h
@[simp] theorem State.event_part (s : State) (n ty t p : Nat) : (s.event n ty t p).part = s.part := by have h := congrArg State.part (State.event_calm s n ty t p); exact h
@[simp] theorem State.event_regs (s : State) (n ty t p : Nat) : (s.event n ty t p).regs = s.regs := by have h := congrArg State.regs (State.event_calm s n ty t p); exact h
@[simp] theorem State.event_pend (s : State) (n ty t p : Nat) : (s.event n ty t p).pend = s.pend := by have h := congrArg State.pend (State.event_calm s n ty t p); exact h
@[simp] theorem State.event_time (s : State) (n ty t p : Nat) : (s.event n ty t p).time = s.time := by have h := congrArg State.time (State.event_calm s n ty t p); exact h
@[simp] theorem State.event_tsk (s : State) (n ty t p : Nat) : (s.event n ty t p).tsk = s.tsk := by have h := congrArg State.tsk (State.event_calm s n ty t p); exact h
@[simp] theorem State.event_asy (s : State) (n ty t p : Nat) : (s.event n ty t p).asy = s.asy := by have h := congrArg State.asy (State.event_calm s n ty t p); exact h
@[simp] theorem State.event_sch (s : State) (n ty t p : Nat) : (s.event n ty t p).sch = s.sch := by have h := congrArg State.sch (State.event_calm s n ty t p); exact h
@[simp] theorem State.event_eng (s : State) (n ty t p : Nat) : (s.event n ty t p).eng = s.eng := by have h := congrArg State.eng (State.event_calm s n ty t p); exact h
@[simp] theorem State.event_refin (s : State) (n ty t p : Nat) : (s.event n ty t p).refin = s.refin := by have h := congrArg State.refin (State.event_calm s n ty t p); exact h
@[simp] theorem State.event_tic (s : State) (n ty t p : Nat) : (s.event n ty t p).tic = s.tic := by have h := congrArg State.tic (State.event_calm s n ty t p); exact h
@[simp] theorem State.event_gns (s : State) (n ty t p : Nat) : (s.event n ty t p).gns = s.gns := by have h := congrArg State.gns (State.event_calm s n ty t p); exact h
@[simp] theorem State.event_syn (s : State) (n ty t p : Nat) : (s.event n ty t p).syn = s.syn := by have h := congrArg State.syn (State.event_calm s n ty t p); exact h
@[simp] theorem State.event_eth (s : State) (n ty t p : Nat) : (s.event n ty t p).eth = s.eth := by have h := congrArg State.eth (State.event_calm s n ty t p); exact h
@[simp] theorem State.event_hmk (s : State) (n ty t p : Nat) : (s.event n ty t p).hmk = s.hmk := by have h := congrArg State.hmk (State.event_calm s n ty t p); exact h
@[simp] theorem State.event_kvt (s : State) (n ty t p : Nat) : (s.event n ty t p).kvt = s.kvt := by have h := congrArg State.kvt (State.event_calm s n ty t p); exact h
@[simp] theorem State.event_gfl (s : State) (n ty t p : Nat) : (s.event n ty t p).gfl = s.gfl := by have h := congrArg State.gfl (State.event_calm s n ty t p); exact h
@[simp] theorem State.event_str (s : State) (n ty t p : Nat) : (s.event n ty t p).str = s.str := by have h := congrArg State.str (State.event_calm s n ty t p); exact h
@[simp] theorem State.event_dram (s : State) (n ty t p : Nat) : (s.event n ty t p).dram = s.dram := by have h := congrArg State.dram (State.event_calm s n ty t p); exact h
@[simp] theorem State.event_pair (s : State) (n ty t p : Nat) : (s.event n ty t p).pair = s.pair := by have h := congrArg State.pair (State.event_calm s n ty t p); exact h
@[simp] theorem State.event_seam (s : State) (n ty t p : Nat) : (s.event n ty t p).seam = s.seam := by have h := congrArg State.seam (State.event_calm s n ty t p); exact h
@[simp] theorem State.event_pow (s : State) (n ty t p : Nat) : (s.event n ty t p).pow = s.pow := by have h := congrArg State.pow (State.event_calm s n ty t p); exact h
@[simp] theorem State.event_draws (s : State) (n ty t p : Nat) : (s.event n ty t p).draws = s.draws := by have h := congrArg State.draws (State.event_calm s n ty t p); exact h
@[simp] theorem State.event_pending (s : State) (n ty t p : Nat) : (s.event n ty t p).pending = s.pending := by have h := congrArg State.pending (State.event_calm s n ty t p); exact h
@[simp] theorem State.event_get (s : State) (n ty t p : Nat) (q : Fld) : (s.event n ty t p).get q = s.get q := by have h := congrArg (fun x => State.get x q) (State.event_calm s n ty t p); exact h
@[simp] theorem State.event_getI (s : State) (n ty t p : Nat) (q : Fld) : (s.event n ty t p).getI q = s.getI q := by have h := congrArg (fun x => State.getI x q) (State.event_calm s n ty t p); exact h
@[simp] theorem State.event_on (s : State) (n ty t p : Nat) (q : Fld) : (s.event n ty t p).on q = s.on q := by have h := congrArg (fun x => State.on x q) (State.event_calm s n ty t p); exact h
@[simp] theorem State.event_feat (s : State) (n ty t p : Nat) (i : Nat) : (s.event n ty t p).feat i = s.feat i := by have h := congrArg (fun x => State.feat x i) (State.event_calm s n ty t p); exact h
@[simp] theorem State.pevent_part (s : State) (ty t p : Nat) : (s.pevent ty t p).part = s.part := by have h := congrArg State.part (State.pevent_calm s ty t p); exact h
@[simp] theorem State.pevent_regs (s : State) (ty t p : Nat) : (s.pevent ty t p).regs = s.regs := by have h := congrArg State.regs (State.pevent_calm s ty t p); exact h
@[simp] theorem State.pevent_pend (s : State) (ty t p : Nat) : (s.pevent ty t p).pend = s.pend := by have h := congrArg State.pend (State.pevent_calm s ty t p); exact h
@[simp] theorem State.pevent_time (s : State) (ty t p : Nat) : (s.pevent ty t p).time = s.time := by have h := congrArg State.time (State.pevent_calm s ty t p); exact h
@[simp] theorem State.pevent_tsk (s : State) (ty t p : Nat) : (s.pevent ty t p).tsk = s.tsk := by have h := congrArg State.tsk (State.pevent_calm s ty t p); exact h
@[simp] theorem State.pevent_asy (s : State) (ty t p : Nat) : (s.pevent ty t p).asy = s.asy := by have h := congrArg State.asy (State.pevent_calm s ty t p); exact h
@[simp] theorem State.pevent_sch (s : State) (ty t p : Nat) : (s.pevent ty t p).sch = s.sch := by have h := congrArg State.sch (State.pevent_calm s ty t p); exact h
@[simp] theorem State.pevent_eng (s : State) (ty t p : Nat) : (s.pevent ty t p).eng = s.eng := by have h := congrArg State.eng (State.pevent_calm s ty t p); exact h
@[simp] theorem State.pevent_refin (s : State) (ty t p : Nat) : (s.pevent ty t p).refin = s.refin := by have h := congrArg State.refin (State.pevent_calm s ty t p); exact h
@[simp] theorem State.pevent_tic (s : State) (ty t p : Nat) : (s.pevent ty t p).tic = s.tic := by have h := congrArg State.tic (State.pevent_calm s ty t p); exact h
@[simp] theorem State.pevent_gns (s : State) (ty t p : Nat) : (s.pevent ty t p).gns = s.gns := by have h := congrArg State.gns (State.pevent_calm s ty t p); exact h
@[simp] theorem State.pevent_syn (s : State) (ty t p : Nat) : (s.pevent ty t p).syn = s.syn := by have h := congrArg State.syn (State.pevent_calm s ty t p); exact h
@[simp] theorem State.pevent_eth (s : State) (ty t p : Nat) : (s.pevent ty t p).eth = s.eth := by have h := congrArg State.eth (State.pevent_calm s ty t p); exact h
@[simp] theorem State.pevent_hmk (s : State) (ty t p : Nat) : (s.pevent ty t p).hmk = s.hmk := by have h := congrArg State.hmk (State.pevent_calm s ty t p); exact h
@[simp] theorem State.pevent_kvt (s : State) (ty t p : Nat) : (s.pevent ty t p).kvt = s.kvt := by have h := congrArg State.kvt (State.pevent_calm s ty t p); exact h
@[simp] theorem State.pevent_gfl (s : State) (ty t p : Nat) : (s.pevent ty t p).gfl = s.gfl := by have h := congrArg State.gfl (State.pevent_calm s ty t p); exact h
@[simp] theorem State.pevent_str (s : State) (ty t p : Nat) : (s.pevent ty t p).str = s.str := by have h := congrArg State.str (State.pevent_calm s ty t p); exact h
@[simp] theorem State.pevent_dram (s : State) (ty t p : Nat) : (s.pevent ty t p).dram = s.dram := by have h := congrArg State.dram (State.pevent_calm s ty t p); exact h
@[simp] theorem State.pevent_pair (s : State) (ty t p : Nat) : (s.pevent ty t p).pair = s.pair := by have h := congrArg State.pair (State.pevent_calm s ty t p); exact h
@[simp] theorem State.pevent_seam (s : State) (ty t p : Nat) : (s.pevent ty t p).seam = s.seam := by have h := congrArg State.seam (State.pevent_calm s ty t p); exact h
@[simp] theorem State.pevent_pow (s : State) (ty t p : Nat) : (s.pevent ty t p).pow = s.pow := by have h := congrArg State.pow (State.pevent_calm s ty t p); exact h
@[simp] theorem State.pevent_draws (s : State) (ty t p : Nat) : (s.pevent ty t p).draws = s.draws := by have h := congrArg State.draws (State.pevent_calm s ty t p); exact h
@[simp] theorem State.pevent_pending (s : State) (ty t p : Nat) : (s.pevent ty t p).pending = s.pending := by have h := congrArg State.pending (State.pevent_calm s ty t p); exact h
@[simp] theorem State.pevent_get (s : State) (ty t p : Nat) (q : Fld) : (s.pevent ty t p).get q = s.get q := by have h := congrArg (fun x => State.get x q) (State.pevent_calm s ty t p); exact h
@[simp] theorem State.pevent_getI (s : State) (ty t p : Nat) (q : Fld) : (s.pevent ty t p).getI q = s.getI q := by have h := congrArg (fun x => State.getI x q) (State.pevent_calm s ty t p); exact h
@[simp] theorem State.pevent_on (s : State) (ty t p : Nat) (q : Fld) : (s.pevent ty t p).on q = s.on q := by have h := congrArg (fun x => State.on x q) (State.pevent_calm s ty t p); exact h
@[simp] theorem State.pevent_feat (s : State) (ty t p : Nat) (i : Nat) : (s.pevent ty t p).feat i = s.feat i := by have h := congrArg (fun x => State.feat x i) (State.pevent_calm s ty t p); exact h
@[simp] theorem State.quenchRecords_part (s : State) (k m c d : Nat) : (s.quenchRecords k m c d).part = s.part := by have h := congrArg State.part (State.quenchRecords_calm s k m c d); exact h
@[simp] theorem State.quenchRecords_regs (s : State) (k m c d : Nat) : (s.quenchRecords k m c d).regs = s.regs := by have h := congrArg State.regs (State.quenchRecords_calm s k m c d); exact h
@[simp] theorem State.quenchRecords_pend (s : State) (k m c d : Nat) : (s.quenchRecords k m c d).pend = s.pend := by have h := congrArg State.pend (State.quenchRecords_calm s k m c d); exact h
@[simp] theorem State.quenchRecords_time (s : State) (k m c d : Nat) : (s.quenchRecords k m c d).time = s.time := by have h := congrArg State.time (State.quenchRecords_calm s k m c d); exact h
@[simp] theorem State.quenchRecords_tsk (s : State) (k m c d : Nat) : (s.quenchRecords k m c d).tsk = s.tsk := by have h := congrArg State.tsk (State.quenchRecords_calm s k m c d); exact h
@[simp] theorem State.quenchRecords_asy (s : State) (k m c d : Nat) : (s.quenchRecords k m c d).asy = s.asy := by have h := congrArg State.asy (State.quenchRecords_calm s k m c d); exact h
@[simp] theorem State.quenchRecords_sch (s : State) (k m c d : Nat) : (s.quenchRecords k m c d).sch = s.sch := by have h := congrArg State.sch (State.quenchRecords_calm s k m c d); exact h
@[simp] theorem State.quenchRecords_eng (s : State) (k m c d : Nat) : (s.quenchRecords k m c d).eng = s.eng := by have h := congrArg State.eng (State.quenchRecords_calm s k m c d); exact h
@[simp] theorem State.quenchRecords_refin (s : State) (k m c d : Nat) : (s.quenchRecords k m c d).refin = s.refin := by have h := congrArg State.refin (State.quenchRecords_calm s k m c d); exact h
@[simp] theorem State.quenchRecords_tic (s : State) (k m c d : Nat) : (s.quenchRecords k m c d).tic = s.tic := by have h := congrArg State.tic (State.quenchRecords_calm s k m c d); exact h
@[simp] theorem State.quenchRecords_gns (s : State) (k m c d : Nat) : (s.quenchRecords k m c d).gns = s.gns := by have h := congrArg State.gns (State.quenchRecords_calm s k m c d); exact h
@[simp] theorem State.quenchRecords_syn (s : State) (k m c d : Nat) : (s.quenchRecords k m c d).syn = s.syn := by have h := congrArg State.syn (State.quenchRecords_calm s k m c d); exact h
@[simp] theorem State.quenchRecords_eth (s : State) (k m c d : Nat) : (s.quenchRecords k m c d).eth = s.eth := by have h := congrArg State.eth (State.quenchRecords_calm s k m c d); exact h
@[simp] theorem State.quenchRecords_hmk (s : State) (k m c d : Nat) : (s.quenchRecords k m c d).hmk = s.hmk := by have h := congrArg State.hmk (State.quenchRecords_calm s k m c d); exact h
@[simp] theorem State.quenchRecords_kvt (s : State) (k m c d : Nat) : (s.quenchRecords k m c d).kvt = s.kvt := by have h := congrArg State.kvt (State.quenchRecords_calm s k m c d); exact h
@[simp] theorem State.quenchRecords_gfl (s : State) (k m c d : Nat) : (s.quenchRecords k m c d).gfl = s.gfl := by have h := congrArg State.gfl (State.quenchRecords_calm s k m c d); exact h
@[simp] theorem State.quenchRecords_str (s : State) (k m c d : Nat) : (s.quenchRecords k m c d).str = s.str := by have h := congrArg State.str (State.quenchRecords_calm s k m c d); exact h
@[simp] theorem State.quenchRecords_dram (s : State) (k m c d : Nat) : (s.quenchRecords k m c d).dram = s.dram := by have h := congrArg State.dram (State.quenchRecords_calm s k m c d); exact h
@[simp] theorem State.quenchRecords_pair (s : State) (k m c d : Nat) : (s.quenchRecords k m c d).pair = s.pair := by have h := congrArg State.pair (State.quenchRecords_calm s k m c d); exact h
@[simp] theorem State.quenchRecords_seam (s : State) (k m c d : Nat) : (s.quenchRecords k m c d).seam = s.seam := by have h := congrArg State.seam (State.quenchRecords_calm s k m c d); exact h
@[simp] theorem State.quenchRecords_pow (s : State) (k m c d : Nat) : (s.quenchRecords k m c d).pow = s.pow := by have h := congrArg State.pow (State.quenchRecords_calm s k m c d); exact h
@[simp] theorem State.quenchRecords_draws (s : State) (k m c d : Nat) : (s.quenchRecords k m c d).draws = s.draws := by have h := congrArg State.draws (State.quenchRecords_calm s k m c d); exact h
@[simp] theorem State.quenchRecords_pending (s : State) (k m c d : Nat) : (s.quenchRecords k m c d).pending = s.pending := by have h := congrArg State.pending (State.quenchRecords_calm s k m c d); exact h
@[simp] theorem State.quenchRecords_get (s : State) (k m c d : Nat) (q : Fld) : (s.quenchRecords k m c d).get q = s.get q := by have h := congrArg (fun x => State.get x q) (State.quenchRecords_calm s k m c d); exact h
@[simp] theorem State.quenchRecords_getI (s : State) (k m c d : Nat) (q : Fld) : (s.quenchRecords k m c d).getI q = s.getI q := by have h := congrArg (fun x => State.getI x q) (State.quenchRecords_calm s k m c d); exact h
@[simp] theorem State.quenchRecords_on (s : State) (k m c d : Nat) (q : Fld) : (s.quenchRecords k m c d).on q = s.on q := by have h := congrArg (fun x => State.on x q) (State.quenchRecords_calm s k m c d); exact h
@[simp] theorem State.quenchRecords_feat (s : State) (k m c d : Nat) (i : Nat) : (s.quenchRecords k m c d).feat i = s.feat i := by have h := congrArg (fun x => State.feat x i) (State.quenchRecords_calm s k m c d); exact h
@[simp] theorem State.releaseRecords_part (s : State) (k m : Nat) : (s.releaseRecords k m).part = s.part := by have h := congrArg State.part (State.releaseRecords_calm s k m); exact h
@[simp] theorem State.releaseRecords_regs (s : State) (k m : Nat) : (s.releaseRecords k m).regs = s.regs := by have h := congrArg State.regs (State.releaseRecords_calm s k m); exact h
@[simp] theorem State.releaseRecords_pend (s : State) (k m : Nat) : (s.releaseRecords k m).pend = s.pend := by have h := congrArg State.pend (State.releaseRecords_calm s k m); exact h
@[simp] theorem State.releaseRecords_time (s : State) (k m : Nat) : (s.releaseRecords k m).time = s.time := by have h := congrArg State.time (State.releaseRecords_calm s k m); exact h
@[simp] theorem State.releaseRecords_tsk (s : State) (k m : Nat) : (s.releaseRecords k m).tsk = s.tsk := by have h := congrArg State.tsk (State.releaseRecords_calm s k m); exact h
@[simp] theorem State.releaseRecords_asy (s : State) (k m : Nat) : (s.releaseRecords k m).asy = s.asy := by have h := congrArg State.asy (State.releaseRecords_calm s k m); exact h
@[simp] theorem State.releaseRecords_sch (s : State) (k m : Nat) : (s.releaseRecords k m).sch = s.sch := by have h := congrArg State.sch (State.releaseRecords_calm s k m); exact h
@[simp] theorem State.releaseRecords_eng (s : State) (k m : Nat) : (s.releaseRecords k m).eng = s.eng := by have h := congrArg State.eng (State.releaseRecords_calm s k m); exact h
@[simp] theorem State.releaseRecords_refin (s : State) (k m : Nat) : (s.releaseRecords k m).refin = s.refin := by have h := congrArg State.refin (State.releaseRecords_calm s k m); exact h
@[simp] theorem State.releaseRecords_tic (s : State) (k m : Nat) : (s.releaseRecords k m).tic = s.tic := by have h := congrArg State.tic (State.releaseRecords_calm s k m); exact h
@[simp] theorem State.releaseRecords_gns (s : State) (k m : Nat) : (s.releaseRecords k m).gns = s.gns := by have h := congrArg State.gns (State.releaseRecords_calm s k m); exact h
@[simp] theorem State.releaseRecords_syn (s : State) (k m : Nat) : (s.releaseRecords k m).syn = s.syn := by have h := congrArg State.syn (State.releaseRecords_calm s k m); exact h
@[simp] theorem State.releaseRecords_eth (s : State) (k m : Nat) : (s.releaseRecords k m).eth = s.eth := by have h := congrArg State.eth (State.releaseRecords_calm s k m); exact h
@[simp] theorem State.releaseRecords_hmk (s : State) (k m : Nat) : (s.releaseRecords k m).hmk = s.hmk := by have h := congrArg State.hmk (State.releaseRecords_calm s k m); exact h
@[simp] theorem State.releaseRecords_kvt (s : State) (k m : Nat) : (s.releaseRecords k m).kvt = s.kvt := by have h := congrArg State.kvt (State.releaseRecords_calm s k m); exact h
@[simp] theorem State.releaseRecords_gfl (s : State) (k m : Nat) : (s.releaseRecords k m).gfl = s.gfl := by have h := congrArg State.gfl (State.releaseRecords_calm s k m); exact h
@[simp] theorem State.releaseRecords_str (s : State) (k m : Nat) : (s.releaseRecords k m).str = s.str := by have h := congrArg State.str (State.releaseRecords_calm s k m); exact h
@[simp] theorem State.releaseRecords_dram (s : State) (k m : Nat) : (s.releaseRecords k m).dram = s.dram := by have h := congrArg State.dram (State.releaseRecords_calm s k m); exact h
@[simp] theorem State.releaseRecords_pair (s : State) (k m : Nat) : (s.releaseRecords k m).pair = s.pair := by have h := congrArg State.pair (State.releaseRecords_calm s k m); exact h
@[simp] theorem State.releaseRecords_seam (s : State) (k m : Nat) : (s.releaseRecords k m).seam = s.seam := by have h := congrArg State.seam (State.releaseRecords_calm s k m); exact h
@[simp] theorem State.releaseRecords_pow (s : State) (k m : Nat) : (s.releaseRecords k m).pow = s.pow := by have h := congrArg State.pow (State.releaseRecords_calm s k m); exact h
@[simp] theorem State.releaseRecords_draws (s : State) (k m : Nat) : (s.releaseRecords k m).draws = s.draws := by have h := congrArg State.draws (State.releaseRecords_calm s k m); exact h
@[simp] theorem State.releaseRecords_pending (s : State) (k m : Nat) : (s.releaseRecords k m).pending = s.pending := by have h := congrArg State.pending (State.releaseRecords_calm s k m); exact h
@[simp] theorem State.releaseRecords_get (s : State) (k m : Nat) (q : Fld) : (s.releaseRecords k m).get q = s.get q := by have h := congrArg (fun x => State.get x q) (State.releaseRecords_calm s k m); exact h
@[simp] theorem State.releaseRecords_getI (s : State) (k m : Nat) (q : Fld) : (s.releaseRecords k m).getI q = s.getI q := by have h := congrArg (fun x => State.getI x q) (State.releaseRecords_calm s k m); exact h
@[simp] theorem State.releaseRecords_on (s : State) (k m : Nat) (q : Fld) : (s.releaseRecords k m).on q = s.on q := by have h := congrArg (fun x => State.on x q) (State.releaseRecords_calm s k m); exact h
@[simp] theorem State.releaseRecords_feat (s : State) (k m : Nat) (i : Nat) : (s.releaseRecords k m).feat i = s.feat i := by have h := congrArg (fun x => State.feat x i) (State.releaseRecords_calm s k m); exact h
@[simp] theorem State.orderLast_part (s : State) : (s.orderLast).part = s.part := by have h := congrArg State.part (State.orderLast_calm s); exact h
@[simp] theorem State.orderLast_regs (s : State) : (s.orderLast).regs = s.regs := by have h := congrArg State.regs (State.orderLast_calm s); exact h
@[simp] theorem State.orderLast_pend (s : State) : (s.orderLast).pend = s.pend := by have h := congrArg State.pend (State.orderLast_calm s); exact h
@[simp] theorem State.orderLast_time (s : State) : (s.orderLast).time = s.time := by have h := congrArg State.time (State.orderLast_calm s); exact h
@[simp] theorem State.orderLast_tsk (s : State) : (s.orderLast).tsk = s.tsk := by have h := congrArg State.tsk (State.orderLast_calm s); exact h
@[simp] theorem State.orderLast_asy (s : State) : (s.orderLast).asy = s.asy := by have h := congrArg State.asy (State.orderLast_calm s); exact h
@[simp] theorem State.orderLast_sch (s : State) : (s.orderLast).sch = s.sch := by have h := congrArg State.sch (State.orderLast_calm s); exact h
@[simp] theorem State.orderLast_eng (s : State) : (s.orderLast).eng = s.eng := by have h := congrArg State.eng (State.orderLast_calm s); exact h
@[simp] theorem State.orderLast_refin (s : State) : (s.orderLast).refin = s.refin := by have h := congrArg State.refin (State.orderLast_calm s); exact h
@[simp] theorem State.orderLast_tic (s : State) : (s.orderLast).tic = s.tic := by have h := congrArg State.tic (State.orderLast_calm s); exact h
@[simp] theorem State.orderLast_gns (s : State) : (s.orderLast).gns = s.gns := by have h := congrArg State.gns (State.orderLast_calm s); exact h
@[simp] theorem State.orderLast_syn (s : State) : (s.orderLast).syn = s.syn := by have h := congrArg State.syn (State.orderLast_calm s); exact h
@[simp] theorem State.orderLast_eth (s : State) : (s.orderLast).eth = s.eth := by have h := congrArg State.eth (State.orderLast_calm s); exact h
@[simp] theorem State.orderLast_hmk (s : State) : (s.orderLast).hmk = s.hmk := by have h := congrArg State.hmk (State.orderLast_calm s); exact h
@[simp] theorem State.orderLast_kvt (s : State) : (s.orderLast).kvt = s.kvt := by have h := congrArg State.kvt (State.orderLast_calm s); exact h
@[simp] theorem State.orderLast_gfl (s : State) : (s.orderLast).gfl = s.gfl := by have h := congrArg State.gfl (State.orderLast_calm s); exact h
@[simp] theorem State.orderLast_str (s : State) : (s.orderLast).str = s.str := by have h := congrArg State.str (State.orderLast_calm s); exact h
@[simp] theorem State.orderLast_dram (s : State) : (s.orderLast).dram = s.dram := by have h := congrArg State.dram (State.orderLast_calm s); exact h
@[simp] theorem State.orderLast_pair (s : State) : (s.orderLast).pair = s.pair := by have h := congrArg State.pair (State.orderLast_calm s); exact h
@[simp] theorem State.orderLast_seam (s : State) : (s.orderLast).seam = s.seam := by have h := congrArg State.seam (State.orderLast_calm s); exact h
@[simp] theorem State.orderLast_pow (s : State) : (s.orderLast).pow = s.pow := by have h := congrArg State.pow (State.orderLast_calm s); exact h
@[simp] theorem State.orderLast_draws (s : State) : (s.orderLast).draws = s.draws := by have h := congrArg State.draws (State.orderLast_calm s); exact h
@[simp] theorem State.orderLast_pending (s : State) : (s.orderLast).pending = s.pending := by have h := congrArg State.pending (State.orderLast_calm s); exact h
@[simp] theorem State.orderLast_get (s : State) (q : Fld) : s.orderLast.get q = s.get q := by have h := congrArg (fun x => State.get x q) (State.orderLast_calm s); exact h
@[simp] theorem State.orderLast_getI (s : State) (q : Fld) : s.orderLast.getI q = s.getI q := by have h := congrArg (fun x => State.getI x q) (State.orderLast_calm s); exact h
@[simp] theorem State.orderLast_on (s : State) (q : Fld) : s.orderLast.on q = s.on q := by have h := congrArg (fun x => State.on x q) (State.orderLast_calm s); exact h
@[simp] theorem State.orderLast_feat (s : State) (i : Nat) : s.orderLast.feat i = s.feat i := by have h := congrArg (fun x => State.feat x i) (State.orderLast_calm s); exact h
@[simp] theorem State.orderTrace_part (s : State) : (s.orderTrace).part = s.part := by have h := congrArg State.part (State.orderTrace_calm s); exact h
@[simp] theorem State.orderTrace_regs (s : State) : (s.orderTrace).regs = s.regs := by have h := congrArg State.regs (State.orderTrace_calm s); exact h
@[simp] theorem State.orderTrace_pend (s : State) : (s.orderTrace).pend = s.pend := by have h := congrArg State.pend (State.orderTrace_calm s); exact h
@[simp] theorem State.orderTrace_time (s : State) : (s.orderTrace).time = s.time := by have h := congrArg State.time (State.orderTrace_calm s); exact h
@[simp] theorem State.orderTrace_tsk (s : State) : (s.orderTrace).tsk = s.tsk := by have h := congrArg State.tsk (State.orderTrace_calm s); exact h
@[simp] theorem State.orderTrace_asy (s : State) : (s.orderTrace).asy = s.asy := by have h := congrArg State.asy (State.orderTrace_calm s); exact h
@[simp] theorem State.orderTrace_sch (s : State) : (s.orderTrace).sch = s.sch := by have h := congrArg State.sch (State.orderTrace_calm s); exact h
@[simp] theorem State.orderTrace_eng (s : State) : (s.orderTrace).eng = s.eng := by have h := congrArg State.eng (State.orderTrace_calm s); exact h
@[simp] theorem State.orderTrace_refin (s : State) : (s.orderTrace).refin = s.refin := by have h := congrArg State.refin (State.orderTrace_calm s); exact h
@[simp] theorem State.orderTrace_tic (s : State) : (s.orderTrace).tic = s.tic := by have h := congrArg State.tic (State.orderTrace_calm s); exact h
@[simp] theorem State.orderTrace_gns (s : State) : (s.orderTrace).gns = s.gns := by have h := congrArg State.gns (State.orderTrace_calm s); exact h
@[simp] theorem State.orderTrace_syn (s : State) : (s.orderTrace).syn = s.syn := by have h := congrArg State.syn (State.orderTrace_calm s); exact h
@[simp] theorem State.orderTrace_eth (s : State) : (s.orderTrace).eth = s.eth := by have h := congrArg State.eth (State.orderTrace_calm s); exact h
@[simp] theorem State.orderTrace_hmk (s : State) : (s.orderTrace).hmk = s.hmk := by have h := congrArg State.hmk (State.orderTrace_calm s); exact h
@[simp] theorem State.orderTrace_kvt (s : State) : (s.orderTrace).kvt = s.kvt := by have h := congrArg State.kvt (State.orderTrace_calm s); exact h
@[simp] theorem State.orderTrace_gfl (s : State) : (s.orderTrace).gfl = s.gfl := by have h := congrArg State.gfl (State.orderTrace_calm s); exact h
@[simp] theorem State.orderTrace_str (s : State) : (s.orderTrace).str = s.str := by have h := congrArg State.str (State.orderTrace_calm s); exact h
@[simp] theorem State.orderTrace_dram (s : State) : (s.orderTrace).dram = s.dram := by have h := congrArg State.dram (State.orderTrace_calm s); exact h
@[simp] theorem State.orderTrace_pair (s : State) : (s.orderTrace).pair = s.pair := by have h := congrArg State.pair (State.orderTrace_calm s); exact h
@[simp] theorem State.orderTrace_seam (s : State) : (s.orderTrace).seam = s.seam := by have h := congrArg State.seam (State.orderTrace_calm s); exact h
@[simp] theorem State.orderTrace_pow (s : State) : (s.orderTrace).pow = s.pow := by have h := congrArg State.pow (State.orderTrace_calm s); exact h
@[simp] theorem State.orderTrace_draws (s : State) : (s.orderTrace).draws = s.draws := by have h := congrArg State.draws (State.orderTrace_calm s); exact h
@[simp] theorem State.orderTrace_pending (s : State) : (s.orderTrace).pending = s.pending := by have h := congrArg State.pending (State.orderTrace_calm s); exact h
@[simp] theorem State.orderTrace_get (s : State) (q : Fld) : (s.orderTrace).get q = s.get q := by have h := congrArg (fun x => State.get x q) (State.orderTrace_calm s); exact h
@[simp] theorem State.orderTrace_getI (s : State) (q : Fld) : (s.orderTrace).getI q = s.getI q := by have h := congrArg (fun x => State.getI x q) (State.orderTrace_calm s); exact h
@[simp] theorem State.orderTrace_on (s : State) (q : Fld) : (s.orderTrace).on q = s.on q := by have h := congrArg (fun x => State.on x q) (State.orderTrace_calm s); exact h
@[simp] theorem State.orderTrace_feat (s : State) (i : Nat) : (s.orderTrace).feat i = s.feat i := by have h := congrArg (fun x => State.feat x i) (State.orderTrace_calm s); exact h
@[simp] theorem State.addCauses_part (s : State) (n c : Nat) : (s.addCauses n c).part = s.part := by have h := congrArg State.part (State.addCauses_calm s n c); exact h
@[simp] theorem State.addCauses_regs (s : State) (n c : Nat) : (s.addCauses n c).regs = s.regs := by have h := congrArg State.regs (State.addCauses_calm s n c); exact h
@[simp] theorem State.addCauses_pend (s : State) (n c : Nat) : (s.addCauses n c).pend = s.pend := by have h := congrArg State.pend (State.addCauses_calm s n c); exact h
@[simp] theorem State.addCauses_time (s : State) (n c : Nat) : (s.addCauses n c).time = s.time := by have h := congrArg State.time (State.addCauses_calm s n c); exact h
@[simp] theorem State.addCauses_tsk (s : State) (n c : Nat) : (s.addCauses n c).tsk = s.tsk := by have h := congrArg State.tsk (State.addCauses_calm s n c); exact h
@[simp] theorem State.addCauses_asy (s : State) (n c : Nat) : (s.addCauses n c).asy = s.asy := by have h := congrArg State.asy (State.addCauses_calm s n c); exact h
@[simp] theorem State.addCauses_sch (s : State) (n c : Nat) : (s.addCauses n c).sch = s.sch := by have h := congrArg State.sch (State.addCauses_calm s n c); exact h
@[simp] theorem State.addCauses_eng (s : State) (n c : Nat) : (s.addCauses n c).eng = s.eng := by have h := congrArg State.eng (State.addCauses_calm s n c); exact h
@[simp] theorem State.addCauses_refin (s : State) (n c : Nat) : (s.addCauses n c).refin = s.refin := by have h := congrArg State.refin (State.addCauses_calm s n c); exact h
@[simp] theorem State.addCauses_tic (s : State) (n c : Nat) : (s.addCauses n c).tic = s.tic := by have h := congrArg State.tic (State.addCauses_calm s n c); exact h
@[simp] theorem State.addCauses_gns (s : State) (n c : Nat) : (s.addCauses n c).gns = s.gns := by have h := congrArg State.gns (State.addCauses_calm s n c); exact h
@[simp] theorem State.addCauses_syn (s : State) (n c : Nat) : (s.addCauses n c).syn = s.syn := by have h := congrArg State.syn (State.addCauses_calm s n c); exact h
@[simp] theorem State.addCauses_eth (s : State) (n c : Nat) : (s.addCauses n c).eth = s.eth := by have h := congrArg State.eth (State.addCauses_calm s n c); exact h
@[simp] theorem State.addCauses_hmk (s : State) (n c : Nat) : (s.addCauses n c).hmk = s.hmk := by have h := congrArg State.hmk (State.addCauses_calm s n c); exact h
@[simp] theorem State.addCauses_kvt (s : State) (n c : Nat) : (s.addCauses n c).kvt = s.kvt := by have h := congrArg State.kvt (State.addCauses_calm s n c); exact h
@[simp] theorem State.addCauses_gfl (s : State) (n c : Nat) : (s.addCauses n c).gfl = s.gfl := by have h := congrArg State.gfl (State.addCauses_calm s n c); exact h
@[simp] theorem State.addCauses_str (s : State) (n c : Nat) : (s.addCauses n c).str = s.str := by have h := congrArg State.str (State.addCauses_calm s n c); exact h
@[simp] theorem State.addCauses_dram (s : State) (n c : Nat) : (s.addCauses n c).dram = s.dram := by have h := congrArg State.dram (State.addCauses_calm s n c); exact h
@[simp] theorem State.addCauses_pair (s : State) (n c : Nat) : (s.addCauses n c).pair = s.pair := by have h := congrArg State.pair (State.addCauses_calm s n c); exact h
@[simp] theorem State.addCauses_seam (s : State) (n c : Nat) : (s.addCauses n c).seam = s.seam := by have h := congrArg State.seam (State.addCauses_calm s n c); exact h
@[simp] theorem State.addCauses_pow (s : State) (n c : Nat) : (s.addCauses n c).pow = s.pow := by have h := congrArg State.pow (State.addCauses_calm s n c); exact h
@[simp] theorem State.addCauses_draws (s : State) (n c : Nat) : (s.addCauses n c).draws = s.draws := by have h := congrArg State.draws (State.addCauses_calm s n c); exact h
@[simp] theorem State.addCauses_pending (s : State) (n c : Nat) : (s.addCauses n c).pending = s.pending := by have h := congrArg State.pending (State.addCauses_calm s n c); exact h
@[simp] theorem State.addCauses_get (s : State) (n c : Nat) (q : Fld) : (s.addCauses n c).get q = s.get q := by have h := congrArg (fun x => State.get x q) (State.addCauses_calm s n c); exact h
@[simp] theorem State.addCauses_getI (s : State) (n c : Nat) (q : Fld) : (s.addCauses n c).getI q = s.getI q := by have h := congrArg (fun x => State.getI x q) (State.addCauses_calm s n c); exact h
@[simp] theorem State.addCauses_on (s : State) (n c : Nat) (q : Fld) : (s.addCauses n c).on q = s.on q := by have h := congrArg (fun x => State.on x q) (State.addCauses_calm s n c); exact h
@[simp] theorem State.addCauses_feat (s : State) (n c : Nat) (i : Nat) : (s.addCauses n c).feat i = s.feat i := by have h := congrArg (fun x => State.feat x i) (State.addCauses_calm s n c); exact h

end Sys2Proof.Machine
end

