-- ==== Sys2Proof/Laws/Planish.lean ====
section
/-!
SUPPORT. Sys2Proof/Laws/Planish.lean: what running a Planish instruction does, once for all instructions (State.pRun), and how
an engine's registers, PC and own state read after they are written.
-/

namespace Sys2Proof.Machine

/-! ## Words and single-word fields -/

/-- A field within one word changes no other word. -/
theorem State.word_set (s : State) (f : Fld) (v k : Nat) (hs : Store.span f = 1) (hk : k ≠ f.a) :
    (s.set f v).regs.word k = s.regs.word k := by
  show Store.word (Store.set s.regs f v) k = _
  unfold Store.set
  dsimp only
  rw [hs]
  exact Store.word_putWords_out 1 _ _ _ _ (fun i hi => by omega)

/-! ## Engines -/

theorem State.engine_setEngine (s : State) (e j : Nat) (x : EngSt) :
    (s.setEngine e x).engine j = if j = e then x else s.engine j := by
  simp only [State.engine, State.setEngine, alGet_alSet]
  split_ifs <;> rfl

theorem State.executed_calm (s : State) (e c : Nat) (b : Bool) : (s.executed e c b).calm = s.calm := by
  unfold State.executed
  dsimp only
  split <;> simp only [State.count_calm, State.countN_calm]

@[simp] theorem State.executed_regs (s : State) (e c : Nat) (b : Bool) : (s.executed e c b).regs = s.regs := by
  have h := congrArg State.regs (State.executed_calm s e c b); exact h
@[simp] theorem State.executed_eng (s : State) (e c : Nat) (b : Bool) : (s.executed e c b).eng = s.eng := by
  have h := congrArg State.eng (State.executed_calm s e c b); exact h
@[simp] theorem State.executed_pend (s : State) (e c : Nat) (b : Bool) : (s.executed e c b).pend = s.pend := by
  have h := congrArg State.pend (State.executed_calm s e c b); exact h

/-- A legal instruction within its budgets, without a fault of its own, takes its effect and is counted. -/
theorem State.pRun_ready {opc : Nat} {cost faults : State → Nat → Nat → Nat} {act : State → Nat → Nat → State} {e : Nat}
    {s : State} {w : Nat} (hp : s.engPresent e = true) (hr : s.get (F.ENG_ST_STATE e) = 1) (hf : s.pFetch e = some w)
    (ho : pOp w = opc) (hl : pIllegal w = false) (hz : faults s e w = 0) (hb : s.overBudget e (cost s e w) = false) :
    State.pRun opc cost faults act e s =
      (act (s.charge e (cost s e w)) e w).executed e (cost s e w) (opc = 0x3A && 16 ≤ (s.engine e).outQ.length) := by
  have hn : (pFmt (pOp w)).isNone = false := by
    cases h : pFmt (pOp w) with
    | none => simp [pIllegal, h] at hl
    | some f => rfl
  subst ho
  unfold State.pRun
  rw [if_pos (by simp [hp, hr]), hf]
  dsimp only
  rw [if_neg (by simp [hn]), if_pos rfl]
  simp [hl, hz, hb]

end Sys2Proof.Machine
end

