-- ==== Sys2Proof/Laws/Touch.lean ====
section
/-!
SUPPORT. Sys2Proof/Laws/Touch.lean: which parts of the state a function may change, as a mask of bits (Touch), and that a
canonical register file stays canonical. One lemma a function stands in the files TouchN.lean after this one.
-/

namespace Sys2Proof.Machine

/-- State t differs from s at most in the parts whose bits the mask m has (0 regs, 1 pend, 2 time, 3 hif but the functions' own
states, 4 obs, 5 tsk, 6 asy, 7 sch, 8 eng, 9 refin, 10 tic, 11 gns, 12 syn, 13 eth, 14 hmk, 15 kvt, 16 gfl, 17 str, 18 dram, 19 pair,
20 seam, 21 pow, 22 draws, 23 out, 24 the functions' own states), and its register file is canonical if that of s is. -/
structure Touch (m : Nat) (s t : State) : Prop where
  part : t.part = s.part
  pending : t.pending = s.pending
  wf : s.regs.wf = true → t.regs.wf = true
  regs : m.testBit 0 = false → t.regs = s.regs
  pend : m.testBit 1 = false → t.pend = s.pend
  time : m.testBit 2 = false → t.time = s.time
  hif : m.testBit 3 = false → { t.hif with fns := [] } = { s.hif with fns := [] }
  obs : m.testBit 4 = false → t.obs = s.obs
  tsk : m.testBit 5 = false → t.tsk = s.tsk
  asy : m.testBit 6 = false → t.asy = s.asy
  sch : m.testBit 7 = false → t.sch = s.sch
  eng : m.testBit 8 = false → t.eng = s.eng
  refin : m.testBit 9 = false → t.refin = s.refin
  tic : m.testBit 10 = false → t.tic = s.tic
  gns : m.testBit 11 = false → t.gns = s.gns
  syn : m.testBit 12 = false → t.syn = s.syn
  eth : m.testBit 13 = false → t.eth = s.eth
  hmk : m.testBit 14 = false → t.hmk = s.hmk
  kvt : m.testBit 15 = false → t.kvt = s.kvt
  gfl : m.testBit 16 = false → t.gfl = s.gfl
  str : m.testBit 17 = false → t.str = s.str
  dram : m.testBit 18 = false → t.dram = s.dram
  pair : m.testBit 19 = false → t.pair = s.pair
  seam : m.testBit 20 = false → t.seam = s.seam
  pow : m.testBit 21 = false → t.pow = s.pow
  draws : m.testBit 22 = false → t.draws = s.draws
  out : m.testBit 23 = false → t.out = s.out
  fns : m.testBit 24 = false → t.hif.fns = s.hif.fns

theorem Touch.refl (m : Nat) (s : State) : Touch m s s := by constructor <;> intros <;> first | rfl | assumption

theorem Touch.mono {m n : Nat} {s t : State} (h : Touch m s t) (hm : m ||| n = n) : Touch n s t := by
  have key : ∀ i, n.testBit i = false → m.testBit i = false := by
    intro i hi
    rw [← hm, Nat.testBit_or] at hi
    exact (Bool.or_eq_false_iff.mp hi).1
  exact ⟨h.part, h.pending, h.wf, fun x => h.regs (key _ x), fun x => h.pend (key _ x), fun x => h.time (key _ x),
    fun x => h.hif (key _ x), fun x => h.obs (key _ x), fun x => h.tsk (key _ x), fun x => h.asy (key _ x),
    fun x => h.sch (key _ x), fun x => h.eng (key _ x), fun x => h.refin (key _ x), fun x => h.tic (key _ x),
    fun x => h.gns (key _ x), fun x => h.syn (key _ x), fun x => h.eth (key _ x), fun x => h.hmk (key _ x),
    fun x => h.kvt (key _ x), fun x => h.gfl (key _ x), fun x => h.str (key _ x), fun x => h.dram (key _ x),
    fun x => h.pair (key _ x), fun x => h.seam (key _ x), fun x => h.pow (key _ x), fun x => h.draws (key _ x),
    fun x => h.out (key _ x), fun x => h.fns (key _ x)⟩

theorem Touch.comp {m : Nat} {s t u : State} (h : Touch m s t) (k : Touch m t u) : Touch m s u :=
  ⟨k.part.trans h.part, k.pending.trans h.pending, fun x => k.wf (h.wf x), fun x => (k.regs x).trans (h.regs x),
    fun x => (k.pend x).trans (h.pend x), fun x => (k.time x).trans (h.time x), fun x => (k.hif x).trans (h.hif x),
    fun x => (k.obs x).trans (h.obs x), fun x => (k.tsk x).trans (h.tsk x), fun x => (k.asy x).trans (h.asy x),
    fun x => (k.sch x).trans (h.sch x), fun x => (k.eng x).trans (h.eng x), fun x => (k.refin x).trans (h.refin x),
    fun x => (k.tic x).trans (h.tic x), fun x => (k.gns x).trans (h.gns x), fun x => (k.syn x).trans (h.syn x),
    fun x => (k.eth x).trans (h.eth x), fun x => (k.hmk x).trans (h.hmk x), fun x => (k.kvt x).trans (h.kvt x),
    fun x => (k.gfl x).trans (h.gfl x), fun x => (k.str x).trans (h.str x), fun x => (k.dram x).trans (h.dram x),
    fun x => (k.pair x).trans (h.pair x), fun x => (k.seam x).trans (h.seam x), fun x => (k.pow x).trans (h.pow x),
    fun x => (k.draws x).trans (h.draws x), fun x => (k.out x).trans (h.out x), fun x => (k.fns x).trans (h.fns x)⟩

/-- What a function with mask n does to u, within mask m. -/
theorem Touch.step {m n : Nat} {s u t : State} (h : Touch m s u) (k : Touch n u t) (hm : n ||| m = m) : Touch m s t :=
  h.comp (k.mono hm)

theorem Touch.foldl {α : Type} {m : Nat} {s : State} {g : State → α → State} :
    ∀ {l : List α} {u : State}, Touch m s u → (∀ v a, Touch m s v → Touch m s (g v a)) → Touch m s (l.foldl g u)
  | [], _, h, _ => h
  | a :: t, u, h, hg => by
    rw [List.foldl_cons]
    exact Touch.foldl (l := t) (hg u a h) hg

theorem Touch.fst {α : Type} {m : Nat} {s a : State} {b : α} {p : State × α} (h : p = (a, b)) (k : Touch m s p.1) : Touch m s a := by
  subst h; exact k

theorem Touch.snd {α : Type} {m : Nat} {s a : State} {b : α} {p : α × State} (h : p = (b, a)) (k : Touch m s p.2) : Touch m s a := by
  subst h; exact k

theorem Touch.snd2 {α β : Type} {m : Nat} {s a : State} {b : α} {c : β} {p : α × β × State} (h : p = (b, c, a))
    (k : Touch m s p.2.2) : Touch m s a := by
  subst h; exact k

theorem Touch.awake {m : Nat} {s u : State} {f : State → State} (h : Touch m s u) (hf : Touch m s (f u)) :
    Touch m s (u.awake f) := by
  unfold State.awake
  split
  · exact h
  · exact hf

/-! ## The plain updates -/

theorem Touch.updRegs {m : Nat} {s u : State} (h : Touch m s u) (x : Store) (hx : u.regs.wf = true → x.wf = true)
    (hm : m.testBit 0 = true) : Touch m s { u with regs := x } :=
  h.comp (by constructor <;> intros <;> first | rfl | (exact hx ‹_›) | simp_all)

theorem Touch.updPend {m : Nat} {s u : State} (h : Touch m s u) (x : Store) (hm : m.testBit 1 = true) :
    Touch m s { u with pend := x } :=
  h.comp (by constructor <;> intros <;> first | rfl | assumption | simp_all)

theorem Touch.updTime {m : Nat} {s u : State} (h : Touch m s u) (x : TimeSt) (hm : m.testBit 2 = true) :
    Touch m s { u with time := x } :=
  h.comp (by constructor <;> intros <;> first | rfl | assumption | simp_all)

theorem Touch.updHif {m : Nat} {s u : State} (h : Touch m s u) (x : HifSt) (hm : m.testBit 3 = true) (hn : m.testBit 24 = true) :
    Touch m s { u with hif := x } :=
  h.comp (by constructor <;> intros <;> first | rfl | assumption | simp_all)

theorem Touch.updObs {m : Nat} {s u : State} (h : Touch m s u) (x : ObsSt) (hm : m.testBit 4 = true) :
    Touch m s { u with obs := x } :=
  h.comp (by constructor <;> intros <;> first | rfl | assumption | simp_all)

theorem Touch.updTsk {m : Nat} {s u : State} (h : Touch m s u) (x : TskSt) (hm : m.testBit 5 = true) :
    Touch m s { u with tsk := x } :=
  h.comp (by constructor <;> intros <;> first | rfl | assumption | simp_all)

theorem Touch.updAsy {m : Nat} {s u : State} (h : Touch m s u) (x : AsySt) (hm : m.testBit 6 = true) :
    Touch m s { u with asy := x } :=
  h.comp (by constructor <;> intros <;> first | rfl | assumption | simp_all)

theorem Touch.updSch {m : Nat} {s u : State} (h : Touch m s u) (x : SchSt) (hm : m.testBit 7 = true) :
    Touch m s { u with sch := x } :=
  h.comp (by constructor <;> intros <;> first | rfl | assumption | simp_all)

theorem Touch.updEng {m : Nat} {s u : State} (h : Touch m s u) (x : List (Nat × EngSt)) (hm : m.testBit 8 = true) :
    Touch m s { u with eng := x } :=
  h.comp (by constructor <;> intros <;> first | rfl | assumption | simp_all)

theorem Touch.updRefin {m : Nat} {s u : State} (h : Touch m s u) (x : RefinSt) (hm : m.testBit 9 = true) :
    Touch m s { u with refin := x } :=
  h.comp (by constructor <;> intros <;> first | rfl | assumption | simp_all)

theorem Touch.updTic {m : Nat} {s u : State} (h : Touch m s u) (x : TicBank) (hm : m.testBit 10 = true) :
    Touch m s { u with tic := x } :=
  h.comp (by constructor <;> intros <;> first | rfl | assumption | simp_all)

theorem Touch.updGns {m : Nat} {s u : State} (h : Touch m s u) (x : GnsSt) (hm : m.testBit 11 = true) :
    Touch m s { u with gns := x } :=
  h.comp (by constructor <;> intros <;> first | rfl | assumption | simp_all)

theorem Touch.updSyn {m : Nat} {s u : State} (h : Touch m s u) (x : SynSt) (hm : m.testBit 12 = true) :
    Touch m s { u with syn := x } :=
  h.comp (by constructor <;> intros <;> first | rfl | assumption | simp_all)

theorem Touch.updEth {m : Nat} {s u : State} (h : Touch m s u) (x : EthSt) (hm : m.testBit 13 = true) :
    Touch m s { u with eth := x } :=
  h.comp (by constructor <;> intros <;> first | rfl | assumption | simp_all)

theorem Touch.updHmk {m : Nat} {s u : State} (h : Touch m s u) (x : HmkSt) (hm : m.testBit 14 = true) :
    Touch m s { u with hmk := x } :=
  h.comp (by constructor <;> intros <;> first | rfl | assumption | simp_all)

theorem Touch.updKvt {m : Nat} {s u : State} (h : Touch m s u) (x : KvtSt) (hm : m.testBit 15 = true) :
    Touch m s { u with kvt := x } :=
  h.comp (by constructor <;> intros <;> first | rfl | assumption | simp_all)

theorem Touch.updGfl {m : Nat} {s u : State} (h : Touch m s u) (x : GflSt) (hm : m.testBit 16 = true) :
    Touch m s { u with gfl := x } :=
  h.comp (by constructor <;> intros <;> first | rfl | assumption | simp_all)

theorem Touch.updStr {m : Nat} {s u : State} (h : Touch m s u) (x : StrSt) (hm : m.testBit 17 = true) :
    Touch m s { u with str := x } :=
  h.comp (by constructor <;> intros <;> first | rfl | assumption | simp_all)

theorem Touch.updDram {m : Nat} {s u : State} (h : Touch m s u) (x : DramSt) (hm : m.testBit 18 = true) :
    Touch m s { u with dram := x } :=
  h.comp (by constructor <;> intros <;> first | rfl | assumption | simp_all)

theorem Touch.updPair {m : Nat} {s u : State} (h : Touch m s u) (x : PairSt) (hm : m.testBit 19 = true) :
    Touch m s { u with pair := x } :=
  h.comp (by constructor <;> intros <;> first | rfl | assumption | simp_all)

theorem Touch.updSeam {m : Nat} {s u : State} (h : Touch m s u) (x : SeamSt) (hm : m.testBit 20 = true) :
    Touch m s { u with seam := x } :=
  h.comp (by constructor <;> intros <;> first | rfl | assumption | simp_all)

theorem Touch.updPow {m : Nat} {s u : State} (h : Touch m s u) (x : PowSt) (hm : m.testBit 21 = true) :
    Touch m s { u with pow := x } :=
  h.comp (by constructor <;> intros <;> first | rfl | assumption | simp_all)

theorem Touch.updDraws {m : Nat} {s u : State} (h : Touch m s u) (x : Nat) (hm : m.testBit 22 = true) :
    Touch m s { u with draws := x } :=
  h.comp (by constructor <;> intros <;> first | rfl | assumption | simp_all)

theorem Touch.updOut {m : Nat} {s u : State} (h : Touch m s u) (x : List Out) (hm : m.testBit 23 = true) :
    Touch m s { u with out := x } :=
  h.comp (by constructor <;> intros <;> first | rfl | assumption | simp_all)

theorem Touch.updFns {m : Nat} {s u : State} (h : Touch m s u) (x : List (Nat × FnSt)) (hm : m.testBit 24 = true) :
    Touch m s { u with hif := { u.hif with fns := x } } :=
  h.comp (by constructor <;> intros <;> first | rfl | assumption | simp_all)

/-- What counts and records touches the counters, the functions' staging and what has left. -/
theorem Touch.ofCalm {s t : State} (h : t.calm = s.calm) : Touch 25165840 s t := by
  simp only [State.calm, State.mk.injEq] at h
  obtain ⟨h0, h1, h2, h3, h4, h5, h6, h7, h8, h9, h10, h11, h12, h13, h14, h15, h16, h17, h18, h19, h20, h21, h22, h23, h24, h25⟩ := h
  constructor <;> intros <;> first | assumption | (simp_all; done) | (exfalso; revert ‹_ = false›; decide)
end Sys2Proof.Machine
end

