-- ==== Sys2Proof/Laws/TouchOps.lean ====
section
/-!
SUPPORT. Sys2Proof/Laws/TouchOps.lean: the parts that the shared operations touch.
-/

namespace Sys2Proof.Machine

theorem Touch.cut {m : Nat} {s t : State} (x : State) (h : Touch m s x) (k : Touch m s x → Touch m s t) : Touch m s t := k h

theorem Touch.cutFst {α : Type} {m : Nat} {s t : State} (x : State × α) (h : Touch m s x.1)
    (k : Touch m s x.1 → Touch m s t) : Touch m s t := k h

theorem Touch.cutSnd {α : Type} {m : Nat} {s t : State} (x : α × State) (h : Touch m s x.2)
    (k : Touch m s x.2 → Touch m s t) : Touch m s t := k h

theorem State.set_touch (s : State) (f : Fld) (v : Nat) : Touch 1 s (s.set f v) :=
  (Touch.refl 1 s).updRegs _ (Store.wf_set _ _ _) rfl
theorem State.setB_touch (s : State) (f : Fld) (b : Bool) : Touch 1 s (s.setB f b) := s.set_touch ..
theorem State.setI_touch (s : State) (f : Fld) (v : Int) : Touch 1 s (s.setI f v) := s.set_touch ..
theorem State.add_touch (s : State) (f : Fld) (n : Nat) : Touch 1 s (s.add f n) := s.set_touch ..
theorem State.addSat_touch (s : State) (f : Fld) (n : Nat) : Touch 1 s (s.addSat f n) := s.set_touch ..
theorem State.emitOut_touch (s : State) (o : Out) : Touch 8388608 s (s.emitOut o) := (Touch.refl _ s).updOut _ rfl
theorem State.msix_touch (s : State) (fn vec : Nat) : Touch 8388608 s (s.msix fn vec) := s.emitOut_touch ..
theorem State.draw_touch (s : State) : Touch 4194304 s s.draw := (Touch.refl _ s).updDraws _ rfl
theorem State.setFn_touch (s : State) (n : Nat) (f : FnSt) : Touch 16777216 s (s.setFn n f) := (Touch.refl _ s).updFns _ rfl
theorem State.tcount_touch (s : State) (t k n : Nat) : Touch 16 s (s.tcount t k n) := (Touch.refl _ s).updObs _ rfl
theorem State.countN_touch (s : State) (i n : Nat) : Touch 25165840 s (s.countN i n) := .ofCalm (s.countN_calm i n)
theorem State.count_touch (s : State) (i : Nat) : Touch 25165840 s (s.count i) := .ofCalm (s.count_calm i)
theorem State.traceAt_touch (s : State) (ty src sh fr p : Nat) : Touch 25165840 s (s.traceAt ty src sh fr p) :=
  .ofCalm (s.traceAt_calm ..)
theorem State.trace_touch (s : State) (ty src p : Nat) : Touch 25165840 s (s.trace ty src p) := .ofCalm (s.trace_calm ..)
theorem State.eventAt_touch (s : State) (n ty t sh fr p : Nat) : Touch 25165840 s (s.eventAt n ty t sh fr p) :=
  .ofCalm (s.eventAt_calm ..)
theorem State.event_touch (s : State) (n ty t p : Nat) : Touch 25165840 s (s.event n ty t p) := .ofCalm (s.event_calm ..)
theorem State.pevent_touch (s : State) (ty t p : Nat) : Touch 25165840 s (s.pevent ty t p) := .ofCalm (s.pevent_calm ..)
theorem State.quenchRecords_touch (s : State) (k m c d : Nat) : Touch 25165840 s (s.quenchRecords k m c d) :=
  .ofCalm (s.quenchRecords_calm ..)
theorem State.releaseRecords_touch (s : State) (k m : Nat) : Touch 25165840 s (s.releaseRecords k m) :=
  .ofCalm (s.releaseRecords_calm ..)
theorem State.pushEv_touch (s : State) (n : Nat) (r : EvRec) : Touch 25165840 s (s.pushEv n r).1 := .ofCalm (s.pushEv_calm ..)
theorem State.pushTrace_touch (s : State) (ty src sh fr p : Nat) : Touch 25165840 s (s.pushTrace ty src sh fr p).1 :=
  .ofCalm (s.pushTrace_calm ..)

end Sys2Proof.Machine
end

