-- ==== Sys2Proof/Tests/Slice0.lean ====
section
/-!
SUPPORT. Sys2Proof/Tests/Slice0.lean: the author's own checks: WellFormed refuses what names no unit of the family; a few steps
with results worked out from the spec; and for each obligation states and operands that meet its hypotheses.
-/

open Sys2Proof Sys2Proof.Machine Sys2Proof.Claims

namespace Sys2Proof.Tests

set_option maxRecDepth 20000
set_option Elab.async false

/-! ## WellFormed refuses -/

theorem test_wf_index_1 :
    ∀ c ∈ [Instr.porstRise], (c 128).wellFormed = false := by decide

theorem test_wf_index_2 :
    ∀ c ∈ [Instr.pdPgFail, .pdPowerGood, .pdOffDone], (c 30).wellFormed = false := by decide

theorem test_wf_index_3 :
    ∀ c ∈ [Instr.spllLock, .gfeTransfer], (c (2 ^ 32)).wellFormed = false := by decide

theorem test_wf_index_4 :
    ∀ c ∈ [Instr.tapInstruction, .msixTicStreamTimeout, .ticRecordQueue, .ticOverflowRecord, .ticStreamWrite, .pathRetry,
      .calAgeExpiry, .gateLongClose, .claimInChange], (c 16).wellFormed = false := by decide

theorem test_wf_index_5 :
    ∀ c ∈ [Instr.keyExpiry, .schCongestedLate, .launchCycle, .goutEdge, .ticGateStart, .ticGateStop, .calWindowPath, .calWindowCdc,
      .keyRotate, .swapDrill, .planishWake, .gflTime, .gnssBurst], (c 4096).wellFormed = false := by decide

theorem test_wf_index_6 :
    ∀ c ∈ [Instr.kvtEvict, .nop, .clientBlock, .clientUnblock, .clientDelete, .cmdCompletionWrite, .eventWrite, .ringOverflowRecord,
      .fifoOverflowRecord, .eventSummary, .msixEventHoldoffEnd, .busMasterClear, .busMasterSet, .flr, .tenantRelease, .schWrite,
      .schDelete, .schRead], (c 1024).wellFormed = false := by decide

theorem test_wf_index_7 :
    ∀ c ∈ [Instr.tlogAck, .seamRxAck], (c (2 ^ 16)).wellFormed = false := by decide

theorem test_wf_index_8 :
    ∀ c ∈ [Instr.postedWriteAccept], (c 15).wellFormed = false := by decide

theorem test_wf_index_9 :
    ∀ c ∈ [Instr.txtsPop, .charsDeliver, .pulseEnd, .timecodeElement, .portUpTimer, .portFaultClear, .preemptVerify, .launchEmpty,
      .txtsOverflowEntry, .staleReq, .memberSilent], (c 8).wellFormed = false := by decide

theorem test_wf_index_10 :
    ∀ c ∈ [Instr.engDmRead, .plAdd, .plSub, .plAnd, .plOr, .plXor, .plShl, .plShr, .plSra, .plMul, .plSlt, .plSltu, .plAdd64,
      .plSub64, .plCmpt, .plAddi, .plAndi, .plOri, .plShli, .plShri, .plLui, .plStw, .plStb, .plBeq, .plBne, .plBlt, .plBge,
      .plBltu, .plBgeu, .plJmp, .plJal, .plJr, .plFault, .plBld, .plBst, .plRds, .plPktlw, .plPktlh, .plPktlb, .plPktinf,
      .plPktts, .plClass, .plCelllw, .plCellsw, .plCellput, .plRdt, .plWaitt, .plWaite, .waitReturn, .upstreamCell], (c
      18).wellFormed = false := by decide

theorem test_wf_index_11 :
    ∀ c ∈ [Instr.outputStop, .losExpiry, .outputReturn, .regionEffect, .regionDrainEnd, .outMonMismatch], (c 24).wellFormed = false := by decide

theorem test_wf_index_12 :
    ∀ c ∈ [Instr.burnRelock, .aesRealign, .linkRelease, .aportStale, .todLossTimeout, .todoutSend, .burnAcqTimeout, .burnRefLost,
      .burnSourceReturn, .aesResume, .linkLaneLock, .laneLoss, .helloReceive, .timeCellReceive, .shardRespReceive,
      .ingotReceive, .ingotAckReceive, .todPairWindowExpiry], (c 4).wellFormed = false := by decide

theorem test_wf_index_13 :
    ∀ c ∈ [Instr.entryTimerEnd, .probationEnd, .holdoffEnd, .lossRepeat, .heldMeasurementTimeout], (c 36).wellFormed = false := by decide

theorem test_wf_index_14 :
    ∀ c ∈ [Instr.sourceFaultClear], (c 9).wellFormed = false := by decide

theorem test_wf_index_15 :
    ∀ c ∈ [Instr.pullLockHeld, .pullTimeout, .cn0LossTimeout, .coastTimeout], (c 256).wellFormed = false := by decide

theorem test_wf_index_16 :
    ∀ c ∈ [Instr.scrubWrite], (c 2).wellFormed = false := by decide

/-- A descriptor of zeros. -/
def noDesc : Desc := ⟨0, 0, 0, 0, 0, 0⟩

/-- A key blob of zeros. -/
def noBlob : KeyBlob := ⟨0, 0, 0, 0, 0, 0, 0, 0, 0, 0, false, 0, 0⟩

/-- A cell of zeros. -/
def noCell : GCell :=
  { typ := 0, retry := false, nak := false, ackValid := false, rsv := 0, seq := 0, ack := 0, src := 0, proto := 0, payload := 0 }

/-- A request. -/
def noMsg : ReqMsg := ⟨0, 0, 0, 0, false, none, .ntp 3 4 6 0 none⟩

theorem test_wf_operand_1 :
    ∀ i ∈ [Instr.extestLoad (2 ^ 32) 0, .tamperFire 512 0 0 false, .tamperFire 0 0 (2 ^ 32) false, .vbatRecordCommit false (2 ^ 32)
      0, .kvtLoad 1024 false noBlob, .kvtAttest 1024 false 0, .hmkMint 1024 false 0 0 0, .hmkMint 0 false (2 ^ 256) 0 0,
      .hmkMint 0 false 0 (2 ^ 256) 0, .clientRead 1024 false, .cmdDoorbell 1024 0, .cmdDoorbell 0 (2 ^ 32), .cmdFetch 1024
      noDesc, .evTailWrite 1024 0, .evTailWrite 0 (2 ^ 32), .ringConfigWrite 1024 0 0, .ringConfigWrite 0 16 0, .ringConfigWrite
      0 0 (2 ^ 32), .tenCtlWrite 1024 false, .regWrite 1024 0 0 0 false], i.wellFormed = false := by decide +kernel

theorem test_wf_operand_2 :
    ∀ i ∈ [Instr.regWrite 0 (2 ^ 25) 0 0 false, .regWrite 0 0 4097 0 false, .regWrite 0 0 1 256 false, .rcRead 1024 0 0, .rcRead 0
      (2 ^ 25) 0, .rcRead 0 0 4097, .snapshotLatch 1024 0, .snapshotLatch 0 9, .ticQwinRead 16 0 0, .ticQwinRead 0 4096 0,
      .traceWinRead 4096 0 [], .counterRead 1024 0, .counterRead 0 (2 ^ 25), .updStrobe 256 [], .engineRelease 18 none, .dateGo
      false 16, .tatLoad (2 ^ 64) 0, .tatLoad 0 (2 ^ 13), .imagePush (2 ^ 64) 0, .imagePush 0 (2 ^ 24)], i.wellFormed = false := by decide

theorem test_wf_operand_3 :
    ∀ i ∈ [Instr.seamSend 8 false 0, .seamSend 0 false 256, .obsSmpCfgWrite 8 0 0, .obsSmpCfgWrite 0 2 0, .obsSmpCfgWrite 0 0 (2 ^
      32), .obsTrcCfgWrite 4 0, .obsTrcCfgWrite 0 (2 ^ 32), .refEdge 24 false 0, .refEdge 0 false 4096, .synceLockChange 8
      false, .uartChar 8 0 false false, .uartChar 0 256 false false, .irigFrame 16 false 0 0 0 0 none none, .todOutReq 4 0,
      .pathWindowEnd 16 0 false, .cdcWindowEnd 16 [], .calTempDrift 16 0, .gsiClockFault 4 false ⟨0, []⟩, .gsiClockRecover 4 ⟨0,
      []⟩, .antSample 2 0], i.wellFormed = false := by decide

theorem test_wf_operand_4 :
    ∀ i ∈ [Instr.antSample 0 (2 ^ 16), .gnsIntegration 256 false false false false false 0, .gnsIntegration 0 false false false
      false false (2 ^ 16), .aidedDwell 4 ⟨0, 0, false⟩ false [], .ingotCopy 4096 none, .seamFrame 4096 false, .strobe 4096 0
      [], .strobe 0 256 [], .genSwitch 4096 none, .gnssEpoch 4096 [], .burnSearchDone 4 none 0, .burnSearchDone 0 none 256,
      .burnLockDeclared 4 0, .burnLockLost 4 0, .aesRxZPreamble 4 0 0, .aesRxZPreamble 0 (2 ^ 192) 0, .aesTxBlock 4 0,
      .pcsLockChange 8 false, .portFault 8 0, .portFault 0 8], i.wellFormed = false := by decide

theorem test_wf_operand_5 :
    ∀ i ∈ [Instr.gridLockChange 8 false 0, .frameReceive 8 0 0 false false 0, .frameReceive 0 0 (2 ^ 16) false false 0, .pauseEnd 8
      0, .pauseEnd 0 9, .pauseWatchdog 8 0, .pauseWatchdog 0 9, .launchRequest 8 [] 0, .launchStart 8 0, .beFrameStart 8 0,
      .hmkRequest 8 noMsg, .announceSyncSend 1024 0 0 none, .announceSyncSend 0 8 0 none, .announceSyncSend 0 0 2 none,
      .clientReclaim 1024 0 0 0, .clientReclaim 0 8 0 0, .clientReclaim 0 0 3 0, .clientReclaim 0 0 0 (2 ^ 128),
      .patrolScrubRead false 4 0 0 false none, .patrolScrubRead false 0 5 0 false none], i.wellFormed = false := by decide

theorem test_wf_operand_6 :
    ∀ i ∈ [Instr.patrolScrubRead false 0 0 (2 ^ 16) false none, .plLdw 18 false, .plLdb 18 false, .txLaunchCell 18 [], .cellReceive
      4 noCell false 0, .nakReceive 4 0, .nakReceive 0 (2 ^ 16), .shardReqReceive 4 false none, .seamReportReceive (2 ^ 256 * 2
      ^ 256) false 0, .regRead 1024 0 0 false, .regRead 0 (2 ^ 25) 0 false, .regRead 0 0 4097 false, .aesRxLockChange 4 none,
      .grantExpiry 1024 0 0 0 0, .grantExpiry 0 8 0 0 0, .grantExpiry 0 0 3 0 0, .grantExpiry 0 0 0 (2 ^ 128) 0, .grantExpiry 0
      0 0 0 3], i.wellFormed = false := by decide

/-! ## States used below -/

/-- A state whose time core has run for 5 ns. -/
def on (s : State) : State :=
  { s with time := { s.time with running := true, core := 5 * 2 ^ 56, prev := 4 * 2 ^ 56, cyc := 5, tickCyc := 0 } }

/-- The reset state with its time core running. -/
def base : State := on State.reset

/-- Register fields set. -/
def sets (s : State) (l : List (Fld × Nat)) : State := l.foldl (fun s p => s.set p.1 p.2) s

/-- A scheduler entry due at an instant: its action, argument and period. -/
def ent (action arg epoch period : Nat) : SchEnt :=
  { epoch := epoch, frac := 3, policy := 0, abs := false, align := false, locked := false, action := action, owner := 0
    period := period, arg := arg }

/-- The scheduler holds entry 7. -/
def withEnt (s : State) (e : SchEnt) : State := { s with sch := { s.sch with ents := [(7, e)] } }

/-- The scheduler holds the TICK entry, for the boundary at 1 ms. -/
def ticking (s : State) : State := { s with sch := { s.sch with ents := (0, ent 1 0 1000000 1000000) :: s.sch.ents } }

/-- An instruction word: opcode, rd, ra, the rest. -/
def word (op rd ra rest : Nat) : Nat := op * 2 ^ 26 + rd * 2 ^ 22 + ra * 2 ^ 18 + rest

/-- Engine e runs the one word w, with values in G1 to G6. -/
def eng (e w : Nat) (x : EngSt) : State :=
  let s := sets base [(F.ENG_ST_STATE e, 1), (F.ENG_G_VALUE e 1, 2 ^ 32 - 1), (F.ENG_G_VALUE e 2, 5), (F.ENG_G_VALUE e 3, 7),
    (F.ENG_G_VALUE e 4, 64), (F.ENG_G_VALUE e 6, 2 ^ 31)]
  { s with eng := [(e, { x with live := some ⟨[w], [], 0, 4, 100, 100⟩ })] }

/-- An engine with a frame held and something in every queue. -/
def busy : EngSt :=
  { EngSt.reset with
    held := some ⟨3, 64, 0x0102030405060708, 77, 88⟩, inCell := ⟨1, 8, 0xAABBCCDD00112233⟩, outCell := 0x99, tick := true, wakes := [4]
    cells := [⟨1, 4, 5⟩], frames := [⟨1, 64, 9, 8, 7⟩], dm := [(64, 9), (65, 1)] }

/-- The state or value under test of a witness below. -/
def case10_1 : State := eng 3 (word 10 2 1 (3*2^14)) busy

/-- The state or value under test of a witness below. -/
def case10_2 : State := eng 3 (word 11 2 1 (3*2^14)) busy

/-- The state or value under test of a witness below. -/
def case10_3 : State := eng 3 (word 12 2 2 (6*2^14)) busy

/-- The state or value under test of a witness below. -/
def case10_4 : State := eng 3 (word 13 2 2 (6*2^14)) busy

/-- The state or value under test of a witness below. -/
def case10_5 : State := eng 3 (word 14 2 2 (6*2^14)) busy

/-- The state or value under test of a witness below. -/
def case10_6 : State := eng 3 (word 16 2 1 (2^18-3)) busy

/-- The state or value under test of a witness below. -/
def case10_7 : State := eng 3 (word 17 2 1 (2^18-3)) busy

/-- The state or value under test of a witness below. -/
def case10_8 : State := eng 3 (word 18 2 1 (2^18-3)) busy

/-- The state or value under test of a witness below. -/
def case10_9 : State := eng 3 (word 19 2 1 (2^18-3)) busy

/-- The state or value under test of a witness below. -/
def case10_10 : State := eng 3 (word 20 2 1 (2^18-3)) busy

/-- The state or value under test of a witness below. -/
def case10_11 : State := eng 3 (word 21 2 0 (2^18-3)) busy

/-- The state or value under test of a witness below. -/
def case10_12 : State := eng 3 (word 32 1 2 (2^18-1)) busy

/-- The state or value under test of a witness below. -/
def case10_13 : State := eng 3 (word 32 2 2 (2^18-1)) busy

/-- The state or value under test of a witness below. -/
def case10_14 : State := eng 3 (word 33 1 2 (2^18-1)) busy

/-- The state or value under test of a witness below. -/
def case10_15 : State := eng 3 (word 33 2 2 (2^18-1)) busy

/-- The state or value under test of a witness below. -/
def case10_16 : State := eng 3 (word 34 1 2 (2^18-1)) busy

/-- The state or value under test of a witness below. -/
def case10_17 : State := eng 3 (word 34 2 2 (2^18-1)) busy

/-- The state or value under test of a witness below. -/
def case10_18 : State := eng 3 (word 35 1 2 (2^18-1)) busy

/-- The state or value under test of a witness below. -/
def case10_19 : State := eng 3 (word 35 2 2 (2^18-1)) busy

/-- The state or value under test of a witness below. -/
def case10_20 : State := eng 3 (word 36 1 2 (2^18-1)) busy

/-- The state or value under test of a witness below. -/
def case10_21 : State := eng 3 (word 36 2 1 (2^18-1)) busy

/-- The state or value under test of a witness below. -/
def case10_22 : State := eng 3 (word 37 1 2 (2^18-1)) busy

/-- The state or value under test of a witness below. -/
def case10_23 : State := eng 3 (word 37 2 1 (2^18-1)) busy

/-- The state or value under test of a witness below. -/
def case10_24 : State := sets (eng 3 (word 0x3D 2 6 1) busy) [(F.ENG_G_VALUE 3 7, 2^31)]

/-- The state or value under test of a witness below. -/
def case10_25 : State := eng 3 (word 0x3E 2 0 0) EngSt.reset

/-- The state or value under test of a witness below. -/
def case10_26 : State := (eng 3 0 { busy with wait := some ⟨2, some 4, false⟩ }).set (F.ENG_ST_STATE 3) 2

/-- Function fn has operation op on entry 7 in progress, with an entry staged. -/
def going (s : State) (fn op : Nat) (e : SchEnt) : State :=
  sets s [(F.SCH_CMD_ST_BUSY.on fn, 1), (F.SCH_CMD_OP.on fn, op), (F.SCH_CMD_ID.on fn, 7), (F.SCH_STG_ENTRY.on fn, State.entStg e),
    (F.SCH_TEN_ST_QUOTA 0, 100)]

/-- The state or value under test of a witness below. -/
def case20_1 : State := going base 0 0 (ent 13 0x0509 5000 0)

/-- The state or value under test of a witness below. -/
def case20_2 : State := going (withEnt base (ent 13 1 500 9000)) 0 1 (ent 13 0x0509 5000 0)

/-- The state or value under test of a witness below. -/
def case20_3 : State := going (withEnt base (ent 13 1 500 9000)) 0 2 (ent 13 0x0509 5000 0)

/-- The state or value under test of a witness below. -/
def case20_4 : State := going base 0 0 (ent 13 0x0509 1000 0)

/-- The state or value under test of a witness below. -/
def case20_5 : State := going (withEnt (sets base [(F.OUT_G_CFG_OWNER 0, 3)]) { ent 5 0 500 9000 with owner := 2 }) 0 0 (ent 13 0x0509 5000 0)

/-- The state or value under test of a witness below. -/
def case20_6 := { ent 5 0 500 9000 with owner := 2 }

/-- The state or value under test of a witness below. -/
def case20_7 : State := withEnt base { ent 13 0x0509 2 10 with policy := 0 }

/-- The state or value under test of a witness below. -/
def case20_8 : State := withEnt base (ent 13 0x0509 70 0)

/-- The state or value under test of a witness below. -/
def case20_9 : State := { base with sch := { base.sch with late := [⟨7, ent 13 0x0509 2 0, 1, 0, false⟩] } }

/-- A trace record. -/
def trc (n : Nat) : TrcRec :=
  { ttype := 6, prov := true, standby := false, src := 1, devid := 0, tseq := n, short := 5, frac := 6, payload := 7 }

/-- Observation with something in every buffer. -/
def obs : State :=
  { sets base [(F.OBS_TRC_CFG_TYPES, 64), (F.OBS_TRC_CFG_DRAM_EN, 1), (F.OBS_TRC_CFG_PIN_EN, 1), (F.OBS_TRC_CFG_LOG2, 16),
      (F.OBS_SMP_CFG_EN 3, 1), (F.OBS_SMP_CFG_CNT 3, 0x601), (F.OBS_SMP_CFG_N 3, 1)] with
    obs := { base.obs with stage := [trc 4, trc 5], stageLoss := some (6, 9), head := 3, ring := [(2, trc 3)], pin := [trc 1], unreported := 9 } }

/-- The kernel in a state, with an oscillator's DAC and gain. -/
def kern (st : Nat) : State :=
  { sets base [(F.TSK_STAT_STATE, st), (F.TSK_EFC_CFG_MODE, 1), (F.TSK_EFC_CFG_PERIOD, 1), (F.TSK_EFC_GAIN_GAIN, 4096),
      (F.TSK_EFC_LIM_CODE_MAX, 70000), (F.TSK_EFC_LIM_CODE_MIN, 100), (F.TSK_EFC_ST_CODE, 69990), (F.TSK_HOLD_CFG_TC_SRC, 1), (F.TSK_EFC_ST_SENSOR_ERR, 1),
      (F.TSK_HOLD_CFG_TC_LEARN, 1), (F.TSK_ANNEAL_ST_ACTIVE, 1), (F.TSK_ANNEAL_ST_SRC, 1), (F.TSK_STAT_ANNEAL, 1)] with
    tsk := { base.tsk with
      efcTicks := 1000, efcSum := 2 ^ 40 * 1000, holdCode := 500, arm := some (10, 5, 3), modelTick := 5, bnd := 5000, lockedRun := 3600000 * 24 * 7 }
    time := { base.time with tickNo := 5000, annS := -3, annR := -10, tickNs := 4 } }

/-- The state or value under test of a witness below. -/
def case30_1 : State := { kern 2 with pend := [(F.TSK_HOLD_TC_T0.a, 0xABCD1234)] }

/-- The state or value under test of a witness below. -/
def case30_2 : State := sets (kern 3) [(F.TSK_STAT_HOLD_ACT, 2)]

/-- The state or value under test of a witness below. -/
def case30_3 : State := sets obs [(F.OBS_TRC_CFG_DRAM_EN,0)]

/-- The state or value under test of a witness below. -/
def case30_4 : State := { obs with obs := { obs.obs with pinLoss := some (4, 5) } }

/-- A descriptor. -/
def dsc (op : Nat) : Desc := { opcode := op, flags := 1, rsv3 := 0, tag := 77, rsv8 := 0, args := 64 * 2 ^ 64 + 64 * 2 ^ 16 }

/-- An event record. -/
def evr (typ p : Nat) : EvRec :=
  { typ := typ, tenant := 0, short := 5, frac := 6, prov := true, coalesced := false, summary := false, count := 0, payload := p }

/-- A function at work. -/
def fnWork : FnSt :=
  { FnSt.reset with
    bme := true, fifo := [evr 0x20 9, evr 1 7], coal := [⟨0x30, 3, 1, 2⟩], fetched := 65534, cpl := 65533, avail := 65536, bucket := 500000
    bucketAt := 1, evPos := 19, cmds := [⟨65533, dsc 0, true, false, none, none⟩] }

/-- The provider and the VF of tenant 5 at work, both rings of each enabled. -/
def ring (f : FnSt) : State :=
  sets { base with hif := { base.hif with fns := [(0, f), (5, f), (6, f)] } }
    ([0, 5].flatMap (fun n => [(F.HIF_RING_CMD_EN.on n, 1), (F.HIF_RING_CMD_LOG2.on n, 4), (F.HIF_RING_EV_EN.on n, 1), (F.HIF_RING_EV_LOG2.on n, 4),
      (F.HIF_RING_EV_HEAD.on n, 5), (F.HIF_RING_EV_SEQ.on n, 2 ^ 32 - 1), (F.HIF_RING_EV_TAIL.on n, 2 ^ 17 - 3), (F.HIF_RING_EV_BASE.on n, 4096),
      (F.HIF_RING_CPL_BASE.on n, 8192), (F.HIF_RING_EV_MOD.on n, 3)]) ++
      [(F.TEN_CTL_EN 5, 1), (F.TEN_CMD_RATE_RATE 5, 1000000), (F.TEN_CMD_RATE_BURST 5, 10), (F.SYS_BOOT_ST_STATE, 4), (F.ETH_CFG_MAX_LEN 0, 1518)])

/-- What a provider offset names: register, indices, word, Normal address. -/
def named (off : Nat) : RegDesc × Nat × Nat × Nat × Nat :=
  match provPlace off with
  | .reg d i j w a => (d, i, j, w, a)
  | _ => (⟨.REF_IN_CFG, 0, 0, 0, 0, 0, 0, false, []⟩, 0, 0, 0, 0)

/-- The word description of what an offset names. -/
def wordOf (off : Nat) : WordDesc := ((named off).1.words[(named off).2.2.2.1]?).getD (.ro 0)

/-- The state or value under test of a witness below. -/
def case40_1 : State := ring { fnWork with bucketAt := 0, bucket := 2000000 }

/-- The state or value under test of a witness below. -/
def case40_2 : State := ring { fnWork with qTail := 65535, quenched := true }

/-- The state or value under test of a witness below. -/
def case40_3 : State := ring { fnWork with cmds := [⟨65533, dsc 0, true, false, some (0, 7), none⟩, ⟨65534, dsc 0, true, false, some (0, 7), none⟩] }

/-- The state or value under test of a witness below. -/
def case40_4 : State := sets (ring fnWork) [(F.HIF_RING_CMD_EN.on 5, 0), (F.HIF_RING_EV_EN.on 5, 0)]

/-- The state or value under test of a witness below. -/
def case40_5 : State := sets (ring fnWork) [(F.HIF_RING_EV_EN.on 5, 0)]

/-- The state or value under test of a witness below. -/
def case40_6 : State := ring { fnWork with ringLoss := some ⟨3, false, 4, 5⟩ }

/-- The state or value under test of a witness below. -/
def case40_7 : State := ring { fnWork with fifoLoss := some ⟨3, false, 4, 5⟩ }

/-- The state or value under test of a witness below. -/
def case40_8 : State := ring { fnWork with holdRec := true, holdEnd := 400 }

/-- The state or value under test of a witness below. -/
def case40_9 : State := { ring fnWork with obs := { base.obs with smpPend := true, smpEnd := 3 } }

/-- The state or value under test of a witness below. -/
def case40_10 : State := sets (ring fnWork) [(F.HIF_FEAT_ACCEPT_ACCEPT, 0x10003)]

/-- The state or value under test of a witness below. -/
def case40_11 : State := sets (ring fnWork) [(F.HIF_FEAT_ACCEPT_ACCEPT, 0x10002)]

/-- The state or value under test of a witness below. -/
def case40_12 : State := { ring fnWork with sch := { base.sch with ents := [(7, { (⟨5,3,0,false,false,false,1,0,0,0⟩ : SchEnt) with owner := 5 }), (8, { (⟨5,3,0,false,false,false,1,0,0,0⟩ : SchEnt) with owner := 6 })] } }

/-- The state or value under test of a witness below. -/
def case40_13 : State := { (sets (ring fnWork) [(F.SYS_PD_FAULT_FAULT,1),(F.OBS_TRC_RDPTR_RDPTR,2)]) with obs := { base.obs with head := 3, ring := [(2, ⟨6,true,false,1,0,4,5,6,7⟩)] } }

/-- The state or value under test of a witness below. -/
def case40_14 : State := sets ({ (sets (ring fnWork) [(F.SYS_PD_FAULT_FAULT,1),(F.OBS_TRC_RDPTR_RDPTR,2)]) with obs := { base.obs with head := 3, ring := [(2, ⟨6,true,false,1,0,4,5,6,7⟩)] } }) [(⟨592,0,32⟩, 0xFFFFFFFF)]

/-- A date to set, with the block provisional at a boundary. -/
def alm : State :=
  { sets base [(F.TSK_STAT_PROVISIONAL, 1), (F.TSK_STAT_STATE, 1), (F.SYS_DATE_LO_SCALE, 1), (F.SYS_DATE_HI_YEAR, 2031), (F.SYS_DATE_LO_MONTH, 2),
      (F.SYS_DATE_LO_DAY, 28), (F.SYS_DATE_LO_HOUR, 23), (F.SYS_DATE_LO_MIN, 59), (F.SYS_DATE_LO_SEC, 58), (F.SYS_DATE_NS_NS, 7000000)] with
    time := { base.time with cyc := 1000, tickCyc := 1000, core := 1000000 * 2 ^ 56, tickNs := 1000000, tickNo := 5 } }

/-- A leap table staged. -/
def leaps : State :=
  sets alm [(F.TSK_LEAP_ENT_LO_DAY_MJD 0, 41498), (F.TSK_LEAP_ENT_HI_OFFSET 0, 11), (F.TSK_LEAP_ENT_LO_DAY_MJD 1, 41682), (F.TSK_LEAP_ENT_HI_OFFSET 1, 12)]

/-- Reference r in a state with its timer. -/
def asy (r st timer : Nat) (x : RefSt) : State :=
  { sets base [(F.ASY_REF_ST_STATE r, st), (F.ASY_REF_ST_TIMER r, timer), (F.ASY_DISC_CFG_WIN, 60), (F.ASY_LIMIT_LIMIT 0, 3), (F.ASY_LIMIT_LIMIT 1, 3),
      (F.ASY_LIMIT_LIMIT 2, 3), (F.ASY_LIMIT_LIMIT 3, 3), (F.ASY_LIMIT_LIMIT 4, 3), (F.ASY_LIMIT_LIMIT 5, 3), (F.ASY_LIMIT_LIMIT 6, 3),
      (F.ASY_LIMIT_LIMIT 7, 3), (F.ASY_REF_ST_BACKOFF r, 2)] with
    asy := { refs := [(r, { x with timer := timer })], srcs := [(1, [3])], srcDue := [], inbox := [] }
    time := { base.time with tickNo := 9000 } }

/-- A measurement of reference 3. -/
def meas : Meas :=
  { ref := 3, off := some 12345, gate := none, abs := none, claim := 77, tick := 9000, at_ := 4, tod := none, cstale := false, pstale := false, stamp := none, parts := none }

/-- A DRAM channel with patrol and scrubs under way. -/
def dram : State :=
  { sets base [(F.HMK_DRAM_ST_UP 0, 1), (F.HMK_DRAM_ST_UP 1, 1), (F.HMK_DRAM_ST_CE_DATA 1, 2 ^ 32 - 1)] with
    dram := { next := [(1, 64)], scrubs := [(0, 8), (1, 16), (1, 24)] } }

/-- A cell. -/
def cell (typ seq pl : Nat) : GCell :=
  { typ := typ, retry := false, nak := false, ackValid := false, rsv := 0, seq := seq, ack := 9, src := 2, proto := 1, payload := pl }

/-- The HELLO of a peer in a state of the pair. -/
def hello (st : Nat) : Hello := { devid := 3, pairLink := true, state := st, prov := false, pos := 1, digest := 0, feats := 0x1FF }

/-- Link 1 in a state, with the given link. -/
def link (st : Nat) (x : LinkSt) : State :=
  { sets base [(F.GFL_ST_STATE 1, st), (F.GFL_CFG_PAIR_LINK 1, 1), (F.GFL_ST_FEAT_IN 1, 0x1FF), (F.GFL_CFG_TT_PER 1, 1), (F.GFL_CFG_ASYM 1, 2 ^ 16 - 3)] with
    gfl := ⟨[(1, x)]⟩, hif := { base.hif with feats := 0x1FF } }

/-- A link with cells under way. -/
def flow : LinkSt :=
  { LinkSt.reset with lanes := true, txSeq := 65535, rxSeq := 7, unacked := [cell 2 65533 1, cell 2 65534 2], hello := some (hello 1) }

/-- A station of the Seam bus in a frame. -/
def seam : State :=
  { sets base [(F.SEAM_STAT_EN, 1), (F.SEAM_RX_FULL 0, 1), (F.SEAM_MEMBERS_MEMBERS, 0x28), (F.SEAM_PEER_AGE 3, 9), (F.SEAM_STAT_GEN, 65535)] with
    seam := { base.seam with frameAt := some 0, heard := 8, judged := true, misRun := 8, okRun := 64, rcFrames := 64, rcSet := 0x2A } }

/-- A contention message. -/
def smsg : SeamMsg := { src := 4, dst := 0, bcast := true, len := 20, kind := 0, payload := 0x0102030405 }

/-- A unit of a pair in a role, over link 1. -/
def pair (role claim peer : Nat) (p : PairSt) : State :=
  { sets (link 2 flow) [(F.PAIR_STAT_ROLE, role), (F.PAIR_CFG_PAIR_CLAIM, claim), (F.PAIR_STAT_CLAIM, claim), (F.PAIR_STAT_PEER_CLAIM, peer),
      (F.PAIR_STAT_DRIVING, if role = 0 then 1 else 0), (F.PAIR_STAT_CEILING, 15), (F.PAIR_CFG_DRILL_HOLD, 100), (F.ASY_REF_ST_STATE 33, 3),
      (F.SYS_STRAP_PAIR_POS, 1), (F.PAIR_INGOT_ST_STALE, 0)] with
    pair := { p with base := claim, cmp := if role = 0 then claim else p.cmp }, syn := { base.syn with paired := 0xFF }
    time := { base.time with tickNo := 500 } }

/-- The cells of an Ingot whose state section is n bytes of the value 7. -/
def ingot (n crc : Nat) : List (GCell × Nat) :=
  let h := pack 0 [(1, 1, 1), (3, 1, 5), (4, 4, State.bswap 4 n), (16, 6, 0x0203), (30, 2, 0x0405)]
  let body := 7
  (cell 5 0 (h + 2 ^ 288 * State.bswap 4 ((crc32c (h + 2 ^ 288 * body) (36 + n) + crc) % 2 ^ 32)), 0) ::
    (List.range (ceilDiv n 51)).map (fun i => (cell 5 0 (1 + 256 * State.cellBytes body (51 * i) 51), 0))

/-- The state or value under test of a witness below. -/
def case50_1 : State := sets alm [(F.SYS_DATE_LO_DAY, 29)]

/-- The state or value under test of a witness below. -/
def case50_2 : State := { alm with tsk := { alm.tsk with date := some (⟨1, 1234567890, false, 7000000, false, 3, none, 77, 900⟩ : DatePend) } }

/-- The state or value under test of a witness below. -/
def case50_3 : State := { (sets alm [(F.TSK_STAT_PROVISIONAL, 0)]) with tsk := { (sets alm [(F.TSK_STAT_PROVISIONAL, 0)]).tsk with date := some (⟨1, 1234567890, false, 7000000, false, 3, none, 77, 900⟩ : DatePend) } }

/-- The state or value under test of a witness below. -/
def case50_4 : State := { alm with tsk := { alm.tsk with date := some (⟨1, 1234567890, false, 7000000, true, 3, none, 77, 900⟩ : DatePend) } }

/-- The state or value under test of a witness below. -/
def case50_5 : State := { alm with tsk := { alm.tsk with leapExpired := false, leapExp := 40585, bndNs := 86400000000000 } }

/-- The state or value under test of a witness below. -/
def case50_6 : State := (asy 3 1 1 { RefSt.reset with accepted := true }).set (F.REF_SRC_STAT_LOS 3) 0

/-- The state or value under test of a witness below. -/
def case50_7 : State := (asy 3 2 1 RefSt.reset).set (F.REF_SRC_STAT_LOS 3) 0

/-- The state or value under test of a witness below. -/
def case50_8 : State := (asy 3 4 1 RefSt.reset).set (F.REF_SRC_STAT_LOS 3) 0

/-- The state or value under test of a witness below. -/
def case50_9 : State := { asy 3 1 100 RefSt.reset with asy := { (asy 3 1 100 RefSt.reset).asy with inbox := [meas, meas] } }

/-- The state or value under test of a witness below. -/
def case50_10 : State := asy 3 1 100 { RefSt.reset with held := some (5, 8000, 40, 9) }

/-- The state or value under test of a witness below. -/
def case50_11 : State := (asy 3 2 100 { RefSt.reset with absent := true, nextLoss := 9000 }).set (F.REF_SRC_STAT_LOS 3) 1

/-- The state or value under test of a witness below. -/
def case50_12 : State := sets (asy 3 2 100 RefSt.reset) [(F.ASY_SRC_ST_FAULT 1, 1), (F.ASY_SRC_ST_TIMER 1, 1), (F.HMK_DRAM_ST_DEGRADED 0, 1)]

/-- The state or value under test of a witness below. -/
def case50_13 : State := link 1 { LinkSt.reset with txSeq := 65535 }

/-- The state or value under test of a witness below. -/
def case50_14 : State := link 1 { flow with inq := [(cell 1 0 3, 9)] }

/-- The state or value under test of a witness below. -/
def case50_15 : State := (link 2 flow).set (F.GFL_ST_FEAT_IN 1) 0

/-- The state or value under test of a witness below. -/
def case50_16 : State := { withEnt (link 2 flow) (ent 14 1 1000000 4000000) with time := { base.time with tickAt := 2000000 } }

/-- The state or value under test of a witness below. -/
def case50_17 : State := link 2 { flow with inq := [(cell 2 6 (2^100+ 2^150*777+2^31), 655360000), (cell 1 6 0, 4)] }

/-- The state or value under test of a witness below. -/
def case50_18 : State := sets seam ((List.range 16).map (fun k => (F.SEAM_RX_FULL k, 1)))

/-- The state or value under test of a witness below. -/
def case50_19 : State := { seam with seam := { seam.seam with host := some ⟨smsg, 3, none⟩ }, time := { base.time with core := 90000 * 2 ^ 56 } }

/-- The state or value under test of a witness below. -/
def case50_20 : State := { seam with seam := { seam.seam with host := some ⟨smsg, 3, some 91000⟩ }, time := { base.time with core := 90000 * 2 ^ 56 } }

/-- The state or value under test of a witness below. -/
def case50_21 : State := sets seam [(F.SEAM_STAT_ROLLCALL,1)]

/-- The state or value under test of a witness below. -/
def case50_22 : State := sets seam [(F.SEAM_STAT_CONT_ONLY,1)]

/-- The state or value under test of a witness below. -/
def case50_23 : State := pair 0 9 3 { PairSt.reset with drill := some (3, 4) }

/-- The state or value under test of a witness below. -/
def case50_24 : State := pair 1 9 3 { PairSt.reset with rises := [(9, 9)] }

/-- The state or value under test of a witness below. -/
def case50_25 : State := pair 1 9 9 { PairSt.reset with tieSince := some 4 }

/-- The state or value under test of a witness below. -/
def case50_26 : State := withEnt (pair 0 9 3 PairSt.reset) (ent 2 0 50 125000)

/-- The state or value under test of a witness below. -/
def case50_27 : State := sets { pair 1 9 3 PairSt.reset with gfl := ⟨[(1, { flow with inq := ingot 60 0 })]⟩ } [(F.PAIR_INGOT_ST_AGE, 4)]

/-- The state or value under test of a witness below. -/
def case50_28 := ((sets { pair 1 9 3 PairSt.reset with gfl := ⟨[(1, { flow with inq := ingot 60 0 })]⟩ } [(F.PAIR_INGOT_ST_AGE, 4)]).takeStream 1 false).elim 0 (·.1)

/-- The state or value under test of a witness below. -/
def case50_29 := ((sets { pair 1 9 3 PairSt.reset with gfl := ⟨[(1, { flow with inq := ingot 60 0 })]⟩ } [(F.PAIR_INGOT_ST_AGE, 4)]).takeStream 1 false).elim 0 (·.2.1)

/-- The state or value under test of a witness below. -/
def case50_30 := ((sets { pair 1 9 3 PairSt.reset with gfl := ⟨[(1, { flow with inq := ingot 60 0 })]⟩ } [(F.PAIR_INGOT_ST_AGE, 4)]).takeStream 1 false).elim base (·.2.2)

/-- The state or value under test of a witness below. -/
def case50_31 : State := sets { pair 1 9 3 PairSt.reset with gfl := ⟨[(1, { flow with inq := ingot 60 1 })]⟩ } [(F.PAIR_INGOT_ST_AGE, 4)]

/-- The state or value under test of a witness below. -/
def case50_32 := ((sets { pair 1 9 3 PairSt.reset with gfl := ⟨[(1, { flow with inq := ingot 60 1 })]⟩ } [(F.PAIR_INGOT_ST_AGE, 4)]).takeStream 1 false).elim 0 (·.1)

/-- The state or value under test of a witness below. -/
def case50_33 := ((sets { pair 1 9 3 PairSt.reset with gfl := ⟨[(1, { flow with inq := ingot 60 1 })]⟩ } [(F.PAIR_INGOT_ST_AGE, 4)]).takeStream 1 false).elim 0 (·.2.1)

/-- The state or value under test of a witness below. -/
def case50_34 := ((sets { pair 1 9 3 PairSt.reset with gfl := ⟨[(1, { flow with inq := ingot 60 1 })]⟩ } [(F.PAIR_INGOT_ST_AGE, 4)]).takeStream 1 false).elim base (·.2.2)

/-- The state or value under test of a witness below. -/
def case50_35 : State := { pair 1 9 3 PairSt.reset with gfl := ⟨[(1, { flow with inq := [((cell 5 0 (2 + 256 * 1 + 2^24 * 5 + 2^40 * 99)), 4), (cell 1 0 0, 1)] })]⟩ }

/-- The state or value under test of a witness below. -/
def case50_36 : State := pair 0 9 3 { PairSt.reset with resync := some (true, false) }

/-- The state or value under test of a witness below. -/
def case50_37 : State := withEnt (pair 0 9 3 { PairSt.reset with ackOk := true }) (ent 11 0 50 125000)

/-- The state or value under test of a witness below. -/
def case50_38 : State := withEnt (pair 1 9 3 { PairSt.reset with ackOk := true }) (ent 11 0 50 125000)

/-- The state or value under test of a witness below. -/
def case50_39 : State := pair 0 9 3 { PairSt.reset with drill := some (3, 400) }

/-- The state or value under test of a witness below. -/
def case50_40 : State := pair 0 9 3 { PairSt.reset with tookAt := some 400 }

/-- A part at work, with something in VBAT, on the pads and in the straps. -/
def work : State :=
  { sets base [(F.SYS_STRAP_BOOT_SRC, 1), (F.SYS_STRAP_DEVID, 5), (F.SYS_STRAP_PAIR_POS, 1), (F.SYS_STRAP_SEAM_EN, 1), (F.PAIR_STAT_DRIVING, 1),
      (F.KVT_ID_DEV_ID, 2 ^ 63 + 9), (F.KVT_TLOG_ENTRY 3, 2 ^ 122 + 2 ^ 120 + 77), (F.KVT_UPD_CTR_UPD_CTR, 41), (F.KVT_STAT_PROVISIONED, 1),
      (F.SYS_RST_ST_WARM_COUNT, 255), (F.TSK_STAT_STATE, 2), (F.TSK_STAT_PROVISIONAL, 0), (F.HIF_VIEW_LIVE, 1), (F.SYN_SPLL_ST_LOCKED, 1), (F.SYN_SPLL_ST_LOL_COUNT, 255),
      (F.SYS_PD_ST_PG, 0x3FFFFFFF), (F.ENG_ST_STATE 17, 1), (F.KVT_TLOG_ST_HEAD, 3), (F.KVT_TEN_ST_QUOTA 5, 9), (F.KVT_SLOT_VALID 7, 1), (F.KVT_SLOT_TENANT 7, 5),
      (F.KVT_SLOT_CLASS 7, 1), (F.KVT_SLOT_KEY_ID 7, 99), (F.KVT_TEN_ST_USED 5, 1), (F.SYS_BOOT_ST_STATE, 4), (F.STR_STAT_STATE, 1)] with
    kvt := { base.kvt with root := 1, attest := 2, updKey := 3, imgKey := 4, lastDigest := 5, epochs := [(5, 6)], pattern := true, slots := [(7, ⟨8, 0, 1⟩)] }
    pair := { base.pair with okLow := true }, pending := [.warmReset]
    pow := { base.pow with up := [15, 16], down := [17, 5], locked := true } }

/-- It in reset. -/
def held : State := { work with pow := { work.pow with held := true, claimLow := true } }

/-- A section without content. -/
def sect (r : Nat) : Section := ⟨1, r, 0, 6, true, .empty⟩

/-- An image without content. -/
def img : Image :=
  { magic := 0x49505343, format := 1, family := 0xA960, reqFeat := 0, generation := 6, totalLen := 4000, partial_ := false, rsv := 0, hdrCrcOk := true
    layoutOk := true, sections := (List.range 24).map sect, digest := 2 ^ 256 - 9, sigOwner := true, sigFactory := true }

/-- A command of opcode op that waits, in function fn of the working part. -/
def asks (fn op args : Nat) : State :=
  { work with hif := { work.hif with fns := [(fn, { FnSt.reset with cmds := [⟨4, ⟨op, 0, 0, 77, 0, args⟩, true, false, none, none⟩] })] } }

/-- The command itself. -/
def asked (op args : Nat) : Cmd := ⟨4, ⟨op, 0, 0, 77, 0, args⟩, true, false, none, none⟩

/-- An update message. -/
def upd (p : UpdPay) : UpdMsg :=
  { magic := 0x4D554B43, version := 1, len := 64 + (State.payLen p).getD 0, rsv := 0, devId := 2 ^ 63 + 9, counter := 42, digest := 6, macOk := true, pay := p }

/-- A policy. -/
def pol : Policy := ⟨5, 0, 3, 9, 0, 0, 0⟩

/-- Its record write under way. -/
def writes (p : UpdPay) : State :=
  let s := asks 0 0x0903 0
  { s with kvt := { s.kvt with upd := some ⟨4, upd p, 4096⟩ } }

/-- A key blob of tenant 5. -/
def blob : KeyBlob :=
  { magic := 0x31424B43, version := 1, rsv := 0, epoch := 6, tenant := 5, cls := 1, usage := 3, keyId := 99, notBefore := 0, notAfter := 0, tagOk := true
    devId := 2 ^ 63 + 9, key := 1234 }

/-- Shadow fields written. -/
def shadows (s : State) (l : List (Fld × Nat)) : State :=
  { s with pend := (Claims.words (l.map Prod.fst)).foldl (fun q k => alSet q k ((sets s l).regs.word k)) s.pend }

/-- The state or value under test of a witness below. -/
def case60_1 : State := { work with pow := { work.pow with locked := false } }

/-- The state or value under test of a witness below. -/
def case60_2 : State := { work with tsk := { work.tsk with lol := true } }

/-- The state or value under test of a witness below. -/
def case60_3 : State := sets work [(F.SYS_BOOT_ST_STATE,2)]

/-- The state or value under test of a witness below. -/
def case60_4 : State := sets work [(F.SYS_BOOT_ST_STATE,3),(F.HMK_DRAM_ST_UP 1, 1)]

/-- The state or value under test of a witness below. -/
def case60_5 : State := sets work [(F.SYS_BOOT_ST_STATE,3),(F.HMK_DRAM_ST_UP 1, 1),(F.HMK_DRAM_ST_UP 0, 1)]

/-- The state or value under test of a witness below. -/
def case60_6 : State := sets work [(F.STR_STAT_BUSY,1),(F.STR_PUSH_LENGTH,4000)]

/-- The state or value under test of a witness below. -/
def case60_7 : State := { withEnt work (ent 9 13 50 125000) with str := { base.str with staged := [(13, ⟨2^32+7, [sect 13], 5, 0⟩)] } }

/-- The state or value under test of a witness below. -/
def case60_8 : State := withEnt work (ent 9 13 50 125000)

/-- The state or value under test of a witness below. -/
def case60_9 : State := { work with str := { base.str with switching := [(13, ⟨7, [sect 13], 5, 0⟩)] } }

/-- The state or value under test of a witness below. -/
def case60_10 : State := sets work [(F.STR_REGION_STATE 13, 2)]

/-- The state or value under test of a witness below. -/
def case60_11 : State := writes (.tamperCfg (0x007A00CA) 5)

/-- The state or value under test of a witness below. -/
def case60_12 : State := writes (.keyImport pol (some 3) 32)

/-- The state or value under test of a witness below. -/
def case60_13 : State := (writes (.provision true (some (1, 2)) 3)).set F.KVT_STAT_PROVISIONED 0

/-- The state or value under test of a witness below. -/
def case60_14 := { blob with epoch := 5 }

/-- The state or value under test of a witness below. -/
def case60_15 : State := { work with time := { work.time with tickCyc := 5 } }

/-- The state or value under test of a witness below. -/
def case60_16 : State := { work with kvt := { work.kvt with episode := some ⟨64, 5, 6, -7, false, true⟩ } }

/-- The state or value under test of a witness below. -/
def case60_17 : State := sets (asks 5 0x0902 7) [(F.HMK_KEY_ST_CUR_VALID 5 1, 1),(F.HMK_KEY_ST_CUR_SLOT 5 1, 7)]

/-- The state or value under test of a witness below. -/
def case60_18 : State := shadows work [(F.TSK_SLEW_MAX_RATE, 0)]

/-- The state or value under test of a witness below. -/
def case60_19 : State := withEnt work (ent 8 0x85 5 125000)

/-- The state or value under test of a witness below. -/
def case60_20 : State := withEnt work (ent 8 0x85 50 125000)

/-- The state or value under test of a witness below. -/
def case60_21 : State := shadows work [(F.TSK_STEP_ARM_ARM,1),(F.TSK_STEP_ARM_MAG,500),(F.TSK_STEP_ARM_TOL,20),(F.TSK_STEP_ARM_DEADLINE,5000)]

/-- The state or value under test of a witness below. -/
def case60_22 : State := { shadows work [(F.TSK_STEP_ARM_DISARM,1)] with tsk := { base.tsk with arm := some (1,2,3) } }

/-- The state or value under test of a witness below. -/
def case60_23 : State := shadows work [(F.TSK_ANNEAL_CMD_GO,1),(F.TSK_ANNEAL_CMD_AMOUNT,2^64-77)]

/-- The state or value under test of a witness below. -/
def case60_24 : State := shadows (sets work [(F.SYN_BURN_CFG_N 2,1000),(F.SYN_BURN_CFG_R 2,10),(F.SYN_BURN_CFG_NCO_PER 2,2^38)]) [(F.SYN_BURN_CFG_RELOCK 2,1),(F.SYN_BURN_CFG_EN 2,1)]

/-- The state or value under test of a witness below. -/
def case60_25 : State := { shadows (sets work [(F.OUT_AES_CFG_MODE 1,1),(F.OUT_AES_CFG_GRADE 1,1)]) [(F.OUT_AES_CFG_REALIGN 1,1)] with hif := { work.hif with feats := 1023 }, syn := { base.syn with aes := [(1, ⟨1,true,2,5,6,7,8,false,9⟩)] } }

/-- The state or value under test of a witness below. -/
def case60_26 : State := shadows (sets work [(F.HMK_TAT_ST_STATE,2),(F.HMK_TAT_ST_LIVE_BANK,1)]) [(F.HMK_TAT_CTL_SWAP,1)]

/-- The state or value under test of a witness below. -/
def case60_27 : State := { shadows (sets work [(F.ASY_REF_ST_STATE 33,4),(F.ASY_REF_ST_BACKOFF 33,3),(F.ASY_REF_ST_COUNT 33 2,3)]) [(F.ASY_REF_CTL_CLEAR,1),(F.ASY_REF_CTL_REF,33)] with asy := { base.asy with refs := [(33, { RefSt.reset with accepted := true, log := [(2,3)] })] } }

/-- The state or value under test of a witness below. -/
def case60_28 : State := shadows work [(F.SYN_SYNC_CTL_ARM,1),(F.SYN_SYNC_CTL_MASK,5)]

/-- The state or value under test of a witness below. -/
def case60_29 : State := shadows (sets work [(F.SYN_SYNC_ST_ARMED,1)]) [(F.SYN_SYNC_CTL_DISARM,1)]

/-- The state or value under test of a witness below. -/
def case60_30 : State := { shadows (sets work [(F.ENG_ST_STATE 3,3),(F.ENG_G_VALUE 3 3, 9)]) [(F.ENG_CTL_RELEASE 3,1)] with eng := [(3, { EngSt.reset with live := some ⟨[5], [(0, 7)], 0, 4, 100, 100⟩, wakes := [3] })] }

/-- The state or value under test of a witness below. -/
def case60_31 : State := shadows (sets work [(F.GFL_ST_STATE 1,4)]) [({ F.GFL_REL_RELEASE with lo := 1, w := 1 },1)]

/-- The state or value under test of a witness below. -/
def case60_32 : State := { shadows (sets work [(F.TEN_ST_QUENCHED 37,1)]) [({ F.TEN_QUENCH_RELEASE_RELEASE 1 with lo := 5, w := 1 },1)] with hif := { base.hif with fns := [(37, { FnSt.reset with quenched := true })] } }

/-- Port 3 in a state, with features 16 and 17 in force. -/
def eth (st : Nat) (x : PortSt) : State :=
  { sets base [(F.ETH_ST_STATE 3, st), (F.ETH_ST_STATE 5, st), (F.ETH_ST_PCS_LOCK 3, 1), (F.ETH_ST_GRID_OK 3, 1), (F.ETH_CFG_MAX_LEN 3, 1518), (F.ETH_CFG_RATE 3, 1),
      (F.ETH_SLOT_CFG_LC_PER 3, 1000000), (F.ETH_SLOT_CFG_SHARE 3, 255), (F.ETH_SLOT_CFG_GUARD 3, 8), (F.ETH_CFG_PREEMPT 3, 1), (F.ETH_CFG_BCAST 3, 1),
      (F.ETH_PAUSE_WD_WD 3, 100), (F.ETH_LOOP_CFG_PORT_A, 3), (F.ETH_LOOP_CFG_PORT_B, 5), (F.ETH_LOOP_CFG_N, 16), (F.ETH_STATS_COUNT 3 11, 2 ^ 64 - 1),
      (F.ENG_ST_STATE 3, 1)] with
    hif := { base.hif with
      feats := 0x30000
      fns := [(0, { FnSt.reset with cmds := [⟨4, ⟨0x701, 0, 0, 77, 0, 0x000B + 2 ^ 16 * 60 + 2 ^ 32 * 9⟩, true, false, none, none⟩] })] }
    eth := { base.eth with ports := [(3, x)] }, time := { base.time with tickAt := 10 ^ 9 } }

/-- A reservation launching at l. -/
def resv (l ready src : Nat) : Resv := ⟨l, l - 13000, l + 30000, 100, src, 5, ready, .raw 7⟩

/-- A best-effort frame. -/
def beFrame (len left : Nat) (cmd : Option Nat) (held : Bool) : BeEnt := ⟨cmd, some 6, 2, len, left, held, none, .raw 9⟩

/-- A port with work waiting. -/
def portBusy : PortSt :=
  { PortSt.reset with
    resvs := [resv 40000000 0 0, resv 20000000 0 1], used := [(1, 2), (90000, 99000)], be := [beFrame 1000 1000 (some 4) false], busy := 50000, busyLaunch := true
    txts := [⟨3, 1, true, 4, 5, 6⟩, ⟨7, 0, false, 4, 5, 6⟩], txtsDrop := some (8, 70000), lockSince := 3, pauses := [(2, ⟨10, 60000, 9⟩)] }

/-- Engine 3 has a TX_LAUNCH out. -/
def ethEng (x : PortSt) (ask : Nat) : State :=
  { eth 2 x with eng := [(3, { EngSt.reset with outQ := [⟨1, 80, ask + 2 ^ 64 * 0x55 + 2 ^ 80 * 0xFFFF + 2 ^ 96 * 0xFFFF⟩], cells := [⟨1, 4, 5⟩] })] }

/-- A loop run. -/
def looping (sent : Nat) (ab ba : List Int) : LoopRun := ⟨3, 5, 9, 2, 100, sent, ab, ba, []⟩

/-- The state or value under test of a witness below. -/
def case70_1 : State := (eth 1 portBusy).set (F.ETH_ST_PCS_LOCK 3) 0

/-- The state or value under test of a witness below. -/
def case70_2 : State := sets (eth 3 portBusy) [(F.ETH_ST_LOCAL_FAULT 3, 1)]

/-- The state or value under test of a witness below. -/
def case70_3 : State := withEnt (eth 2 portBusy) (ent 4 3 50 125000)

/-- The state or value under test of a witness below. -/
def case70_4 : State := eth 2 { portBusy with pauses := [(8, ⟨10, 60000000, 9⟩)] }

/-- The state or value under test of a witness below. -/
def case70_5 : State := eth 2 { portBusy with resvs := [resv 20000000 19950 1] }

/-- The state or value under test of a witness below. -/
def case70_6 : State := (ethEng portBusy 30000).set (F.ETH_ST_GRID_OK 3) 0

/-- The state or value under test of a witness below. -/
def case70_7 : State := eth 2 { portBusy with pauses := [], be := [beFrame 1000 1000 (some 4) false], resvs := [resv 20000000 0 0] }

/-- The state or value under test of a witness below. -/
def case70_8 : State := eth 2 { portBusy with pauses := [(2, ⟨10, 600000000, 9⟩)] }

/-- The state or value under test of a witness below. -/
def case70_9 : State := { eth 4 portBusy with eth := { base.eth with loop := some (looping 1 [5] [6]), ports := [(3, portBusy)] } }

/-- The state or value under test of a witness below. -/
def case70_10 : State := { eth 4 portBusy with eth := { base.eth with loop := some (looping 2 [500000000,60000000] [-6,9]), ports := [(3, portBusy)] } }

/-- A channel with a lock. -/
def gch : GnsCh := { State.gnsCh0 with lockSince := some 1000000, lowSince := some 2000000, slip := true, codeLock := true }

/-- GNSS at work: channels 0 in ACQ with AUTO, 1 in PULL, 2 in TRACK, 3 in LOST, 4 dormant. -/
def gnss : State :=
  { sets base [(F.SYS_PD_ST_PG, 0x3FFFFFFF), (F.GNS_GSI_CFG_EN 0, 1), (F.GNS_GSI_STAT_CLK_OK 0, 1), (F.GNS_GSI_STAT_CLK_OK 1, 1), (F.GNS_GSI_CFG_EN 1, 1), (F.GNS_GSI_CFG_BAND 1, 1),
      (F.GNS_ANT_CFG_EN 0, 1), (F.GNS_ANT_CFG_I_OPEN 0, 10), (F.GNS_ANT_CFG_I_SHORT 0, 100), (F.GNS_ANT_CFG_SETTLE 0, 7), (F.GNS_ANT_STAT_CHANGES 0, 255),
      (F.GNS_SRCH_CFG_SIGS, 1), (F.GNS_SRCH_CFG_DOPP, 50), (F.GNS_SRCH_CFG_BIN, 10), (F.GNS_SRCH_CFG_NONCOH, 5), (F.GNS_TRK_CFG_CN0_LOSS, 25),
      (F.GNS_TRK_CFG_PULL_MS, 500), (F.GNS_TRK_CFG_COAST_S, 2), (F.GNS_TRK_CFG_ALL_LOST_S, 10), (F.GNS_AID_CFG_AID_PASSES, 4), (F.GNS_SRCH_STAT_DROP, 255),
      (F.GNS_CH_STAT_STATE 0, 1), (F.GNS_CH_CFG_AUTO 0, 1), (F.GNS_CH_STAT_STATE 1, 2), (F.GNS_CH_STAT_SIG 1, 0), (F.GNS_CH_STAT_SVID 1, 4),
      (F.GNS_CH_CFG_AUTO 1, 1), (F.GNS_CH_STAT_STATE 2, 3), (F.GNS_CH_STAT_SVID 2, 5), (F.GNS_CH_CFG_AUTO 2, 1), (F.GNS_CH_STAT_STATE 3, 4), (F.GNS_CH_STAT_SVID 3, 7),
      (F.GNS_CH_CFG_AUTO 3, 1), (F.GNS_CH_STAT_STATE 4, 5), (F.GNS_GFE_DATA_DATA, 0xFFFFFFFF), (F.GNS_POS_CFG_MODE, 1), (F.GNS_POS_CFG_SOL_MIN, 1),
      (F.ENG_ST_STATE 9, 1), (F.ENG_ST_STATE 12, 1), (F.GNS_DORM_CFG_LEAD_MS, 5), (F.GNS_DORM_CFG_BURST_MS, 40), (F.GNS_EPOCH_ST_SEQ, 2 ^ 32 - 1), (F.GNS_AID_CFG_AID_TEB_MAX, 9), (F.GNS_GSI_CFG_RATE_KHZ 0, 40000)] with
    gns := { base.gns with chs := (List.range 5).map fun c => (c, gch) } }

/-- A fix of n GPS satellites. -/
def fix (n : Nat) : GnsFix :=
  { sats := (List.range n).map (fun k => ⟨0, k + 1, 0⟩), sysTime := [(0, 0)], fits := [[(0, 1, 5)]], scale := 0, time := 99999, band := 0, resid := 3
    pos := (1, -2, 3), posUnc := 40, isb := (1, -2, 3), isbUnc := (4, 5, 6) }

/-- A sensor with two samples of a class. -/
def antTwo (st cand run : Nat) : State := (gnss.set (F.GNS_ANT_STAT_STATE 0) st).setAnt 0 ⟨cand, run, 3, true, 0, 0⟩

/-- The search at a place. -/
def searching (x : SrchPos) : State := { gnss.set F.GNS_SRCH_STAT_STATE 1 with gns := { gnss.gns with pos := some x } }

/-- The entry of action a is due on the working receiver. -/
def gnsDue (a arg period : Nat) : State := { withEnt gnss (ent a arg 5000000 period) with time := { gnss.time with tickAt := 10 ^ 9 } }

/-- Channels 0 to n - 1 have VALID records of GPS satellites 1 to n in the latest bank. -/
def heard (n : Nat) (s : State) : State :=
  { sets s ((List.range n).map fun k => (F.GNS_MEAS_RECORD 1 k, (k + 1) * 2 ^ 184 + 2 ^ 208)) with gns := { s.gns with solDue := true, latch := some (3, 4) } }

/-- The state or value under test of a witness below. -/
def case71_1 : State := gnss.set (F.GNS_GSI_STAT_RATE_ERR 0) 1

/-- The state or value under test of a witness below. -/
def case71_2 : State := { gnss with hif := { gnss.hif with posted := [⟨2, F.GNS_GFE_CMD_CS.a, 0, 524619⟩] } }

/-- The state or value under test of a witness below. -/
def case71_3 : State := { gnss with hif := { gnss.hif with posted := [⟨2, F.GNS_GFE_CMD_CS.a, 0, 3⟩] } }

/-- The state or value under test of a witness below. -/
def case71_4 : State := (searching ⟨0, 1, 0, 0, false, 3⟩).set F.GNS_SRCH_CFG_THR 9

/-- The state or value under test of a witness below. -/
def case71_5 : State := { gnss with gns := { gnss.gns with settle := some 70000000 } }

/-- The state or value under test of a witness below. -/
def case71_6 : State := { gnss with gns := { gnss.gns with lostSince := some 70000000 } }

/-- The state or value under test of a witness below. -/
def case71_7 : State := { withEnt (gnss.set F.GNS_DORM_CFG_EN 1) (ent 15 0 995000000 1000000) with time := { gnss.time with tickAt := 10 ^ 10 }, gns := { gnss.gns with burst := false } }

/-- A frame received at port 3. -/
def reqFrame : RxFrame := ⟨3, 90, 7, 5, 9⟩

/-- A request waiting at port 3. -/
def req : HReq := ⟨reqFrame, 2, none⟩

/-- An NTP request of a client of tenant 5. -/
def ntp (mode : Nat) (nts : Option NtsReq) : ReqMsg := ⟨0, 0, 0x55, 0x77, false, none, .ntp mode 4 6 0x1234 nts⟩

/-- The client's entry. -/
def client (tokens kod : Nat) : Client :=
  { tenant := 5, port := 3, kind := 0, addr := 0x77, blocked := false, vlan := 0, lastSeen := 2, tokens := tokens, kodAt := kod, reqs := 65535
    grants := [(1, ⟨-3, 2 ^ 24 - 5, 6, 300⟩)] }

/-- An answer in hand on port 3. -/
def job (nominal : Option Nat) (w : JobWhat) : HJob := ⟨5, 3, 0, 0, 5, nominal, none, w⟩

/-- Hallmark serving tenant 5 on port 3. -/
def hmk (x : HmkSt) : State :=
  { sets base [(F.SYS_BOOT_ST_STATE, 4), (F.SYS_PD_ST_PG, 0x3FFFFFFF), (F.HMK_PORT_CFG_EN 3, 1), (F.HMK_PORT_CFG_MARGIN 3, 1000), (F.HMK_TEN_CFG_NTP_EN 5, 1),
      (F.HMK_TEN_CFG_NTS_EN 5, 1), (F.HMK_TEN_CFG_RATE 5, 16), (F.HMK_TEN_CFG_BURST 5, 8), (F.HMK_TEN_CFG_KOD_GAP 5, 10), (F.HMK_TEN_CFG_PTP_PROF 5, 1),
      (F.HMK_TEN_CFG_PORTS 5, 0xFF), (F.HMK_TEN_CFG_SERVE_PROV 5, 1), (F.HMK_TEN_ST_QUOTA 5, 3), (F.HMK_CT_ST_CAPACITY, 9), (F.HMK_TEN_ST_USED 5, 1),
      (F.HMK_CT_ST_USED, 1), (F.HMK_STATS_COUNT 0, 4095), (F.ETH_ST_STATE 3, 2), (F.ETH_ST_GRID_OK 3, 1), (F.ETH_CFG_MAX_LEN 3, 1518),
      (F.ETH_SLOT_CFG_LC_PER 3, 1000000), (F.ETH_SLOT_CFG_SHARE 3, 255), (F.ETH_SLOT_CFG_GUARD 3, 8), (F.HMK_KEY_ST_CUR_VALID 5 0, 1),
      (F.HMK_KEY_ST_CUR_ID 5 0, 99), (F.KVT_SLOT_VALID 7, 1), (F.KVT_SLOT_TENANT 7, 5), (F.KVT_SLOT_KEY_ID 7, 99), (F.HMK_KEY_NEXT_SLOT 5 0, 8),
      (F.HMK_KEY_ST_NEXT_VALID 5 0, 1), (F.KVT_SLOT_KEY_ID 8, 100), (F.HMK_KEY_ST_CUR_SLOT 5 0, 7), (F.HMK_KEY_ST_ROTATIONS 5 0, 65535),
      (F.GFL_ST_STATE 1, 2), (F.GFL_ST_FEAT_IN 1, 0x1FF)] with
    hmk := { x with bank0 := [⟨0x55, 0, true, 0, true, 5, 0xFF⟩] }
    hif := { base.hif with feats := 0x101FF }, kvt := { base.kvt with slots := [(7, ⟨123, 0, 0⟩)] } }

/-- A request in the queue, and a client entry. -/
def asksFor (c : Client) : State := hmk { base.hmk with queues := [(3, [req, req])], table := [c] }

/-- An answer in hand. -/
def jobs (j : HJob) : State := hmk { base.hmk with jobs := [(3, [j, j])] }

/-- A command of opcode op of the provider waits. -/
def hmkAsk (c : Client) (op args : Nat) : State :=
  { asksFor c with hif := { (asksFor c).hif with fns := [(0, { FnSt.reset with cmds := [⟨4, ⟨op, 0, 0, 77, 0, args⟩, true, false, none, none⟩] })] } }

/-- The command itself. -/
def hmkCmd (op args : Nat) : Cmd := ⟨4, ⟨op, 0, 0, 77, 0, args⟩, true, false, none, none⟩

/-- A cell waits on link 1. -/
def inCell (s : State) (c : GCell) : State := { s with gfl := ⟨[(1, { LinkSt.reset with inq := [(c, 4)] })]⟩ }

/-- A cell of a type and payload. -/
def hmkCell (typ pl : Nat) : GCell :=
  { typ := typ, retry := false, nak := false, ackValid := false, rsv := 0, seq := 1, ack := 9, src := 2, proto := 1, payload := pl }

/-- A request that waits for its owner. -/
def shardWait : ShardPend := ⟨1, 0x01020304, req, ntp 3 none, 5, 0⟩

/-- Entries of a table. -/
def tatEnt (addr ports : Nat) (valid : Bool) : TatEnt := ⟨addr, 0, true, 1, valid, 5, ports⟩

/-- The state or value under test of a witness below. -/
def case72_1 : State := ((asksFor (client 0 0))).set F.HMK_STAT_STANDBY 1

/-- The state or value under test of a witness below. -/
def case72_2 : State := ((asksFor (client 0 0))).set F.SYS_BOOT_ST_STATE 3

/-- The state or value under test of a witness below. -/
def case72_3 : State := { (asksFor (client 0 0)) with hmk := { (asksFor (client 0 0)).hmk with bank0 := [] } }

/-- The state or value under test of a witness below. -/
def case72_4 : State := jobs (job none (.ntp 4 6 7 8 false none))

/-- The state or value under test of a witness below. -/
def case72_5 : State := inCell (asksFor (client 0 0)) (hmkCell 3 (pack 0 [(0, 4, 0x04030201), (4, 2, State.bswap 2 5), (6, 1, 3), (8, 16, 0x77), (24, 8, State.bswap 8 5)]))

/-- The state or value under test of a witness below. -/
def case72_6 := hmkCell 3 (pack 0 [(0, 4, 0x04030201), (4, 2, State.bswap 2 5), (6, 1, 3), (8, 16, 0x77), (24, 8, State.bswap 8 5)])

/-- The state or value under test of a witness below. -/
def case72_7 : State := { inCell (asksFor (client 0 0)) (hmkCell 4 (0x04030201 + 0 * 2 ^ 32)) with hmk := { (asksFor (client 0 0)).hmk with shards := [shardWait] } }

/-- The state or value under test of a witness below. -/
def case72_8 : State := (asksFor ({ client 0 0 with grants := [], lastSeen := 2 ^ 64 - 4000000000000 })).runTo 1000

/-- The state or value under test of a witness below. -/
def case72_9 := { client 0 0 with grants := [], lastSeen := 2 ^ 64 - 4000000000000 }

/-- The state or value under test of a witness below. -/
def case72_10 : State := hmkAsk (client 0 0) 0x0801 (5 + 2 ^ 16 * 3 + 2 ^ 96 * 4096)

/-- The state or value under test of a witness below. -/
def case72_11 : State := hmkAsk (client 0 0) 0x0801 (5 + 2 ^ 16 * 0 + 2 ^ 96 * 4096)

/-- The state or value under test of a witness below. -/
def case72_12 : State := hmkAsk (client 0 0) 0x0802 (0 + 2 ^ 8 * 5 + 2 ^ 24 * 3 + 2 ^ 32 * 119 + 2 ^ 160 * 8192)

/-- The state or value under test of a witness below. -/
def case72_13 : State := hmkAsk (client 0 0) 0x0802 (1 + 2 ^ 8 * 5 + 2 ^ 24 * 3 + 2 ^ 32 * 119 + 2 ^ 160 * 8192)

/-- The state or value under test of a witness below. -/
def case72_14 : State := hmkAsk (client 0 0) 0x0802 (2 + 2 ^ 8 * 5 + 2 ^ 24 * 3 + 2 ^ 32 * 119 + 2 ^ 160 * 8192)

/-- The state or value under test of a witness below. -/
def case72_15 : State := hmkAsk (client 0 0) 0x0802 (3 + 2 ^ 8 * 5 + 2 ^ 24 * 3 + 2 ^ 32 * 119 + 2 ^ 160 * 8192)

/-- The state or value under test of a witness below. -/
def case72_16 : State := hmkAsk (client 0 0) 0x0802 (0 + 2 ^ 8 * 5 + 2 ^ 24 * 3 + 2 ^ 32 * 120 + 2 ^ 160 * 8192)

/-- The state or value under test of a witness below. -/
def case72_17 : State := hmkAsk (client 0 0) 0x0802 (1 + 2 ^ 8 * 5 + 2 ^ 24 * 3 + 2 ^ 32 * 120 + 2 ^ 160 * 8192)

/-- The state or value under test of a witness below. -/
def case72_18 : State := (asksFor (client 0 0)).set F.HMK_TAT_ST_STATE 0

/-- The state or value under test of a witness below. -/
def case72_19 : State := sets (asksFor (client 0 0)) [(F.HMK_TAT_ST_STATE, 1), (F.HMK_TAT_LOAD_COUNT, 3), (F.HMK_TAT_ST_BAD_INDEX, 77)]

/-- The state or value under test of a witness below. -/
def case72_20 : State := withEnt { (asksFor (client 0 0)) with time := { base.time with tickAt := 10 ^ 9 } } (ent 10 5 50 125000)

/-- Reference inputs at work: REFIN 3 a PPS on channel 5, SyncE 16 present, slot 1 naming the next edge of REFIN 3, slot 2 the previous one. -/
def refin (x : TicSt) : State :=
  { sets base [(F.SYS_PD_ST_PG, 0x3FFFFFFF), (F.REF_IN_CFG_EN 3, 1), (F.REF_IN_CFG_KIND 3, 1), (F.REF_IN_CFG_LOS_EXP 3, 10), (F.REF_SRC_STAT_PRESENT 3, 1),
      (F.REF_SRC_STAT_LOS 3, 1), (F.REF_SRC_STAT_EDGES 3, 65535), (F.REF_XBAR_SRC 5, 3), (F.REF_XBAR_SRC 0, 31), (F.REF_XBAR_SRC 1, 31), (F.REF_XBAR_SRC 2, 31),
      (F.REF_XBAR_SRC 3, 31), (F.REF_XBAR_SRC 4, 31), (F.REF_IN_PRE_DIV 3, 4), (F.TIC_CH_CFG_EN 5, 1), (F.TIC_CH_CFG_QMODE 5, 1), (F.TIC_PATH_PATH 5, 2 ^ 32 - 77),
      (F.REF_TOD_CFG_UART 1, 3), (F.REF_TOD_CFG_PPS_IN 1, 3), (F.REF_TOD_CFG_UART 2, 2001), (F.REF_TOD_CFG_PPS_IN 2, 3),
      (F.ASY_REF_ST_STATE 3, 2), (F.ASY_REF_ST_STATE 25, 1), (F.ASY_REF_ST_STATE 26, 4), (F.ASY_REF_CFG_NOISE 3, 40), (F.ASY_REF_CFG_MEMBER 3, 1), (F.ASY_REF_CFG_CLOCK 3, 2),
      (F.ASY_DISC_CFG_WIN, 60), (F.REF_UART_STAT_FRAMING 6, 255), (F.REF_UART_STAT_CHECK 6, 255), (F.ENG_ST_STATE 10, 1), (F.REF_APORT_CFG_EN 2, 1),
      (F.REF_APORT_CFG_TMO 2, 9), (F.ASY_TUNE_STEP_TUNE_STEP, 1000)] with
    tic := { base.tic with ch := [(5, x)] }, time := { base.time with core := 10 ^ 9 * 2 ^ 56, prev := (10 ^ 9 - 1) * 2 ^ 56, tickAt := 10 ^ 9 + 10 ^ 6, tickNo := 1000 }
    refin := { base.refin with
      srcs := [(3, ⟨3, 7, true, 5⟩)], aportClk := [(2, 2), (1, 3)], aports := [(2, ⟨5, some (-900)⟩)]
      uarts := [(6, ⟨[(65, false, 10 ^ 9 - 50), (66, true, 10 ^ 9 - 10)]⟩)], tods := [(1, ⟨[(todRec 1 0 0, 900000000)], 3, []⟩), (2, ⟨[], 3, []⟩)] } }
where
  /-- Bytes 0 to 17 of a message: scale, LEAP, flags. -/
  todRec (scale lp fl : Nat) : Nat := pack 0 [(0, 6, 12345), (6, 1, scale), (7, 1, fl), (8, 2, 37), (10, 1, lp), (12, 4, 0x40000000)]

/-- An open gate. -/
def openGate : Gate :=
  { start := 65536, fit := true, k := 7, n := 5, sk := 20, skk := 100, st := 70, skt := 900, stt := 10000, step := false, slew := true, gap := false, prov := true
    cstale := false, pstale := false }

/-- A channel that has stamped. -/
def stamped : TicSt := { TicSt.reset with stamp := some (500000000 * 65536), lastEdge := some (500000000 * 65536), dcount := 3, gate := some openGate }

/-- Engine e has posted a cell. -/
def posted (s : State) (e : Nat) (c : Cell) : State := { s with eng := [(e, { EngSt.reset with outQ := [c] })] }

/-- A binary message of Celmir's for the record's fields, with its CRC. -/
def binMsg (scale : Nat) : List Nat :=
  let b := [1, 20, 0, 0, 0, 0, 48, 57, scale, 1, 0, 37, 0, 0, 64, 0, 0, 0, 0, 0, 0, 0]
  [0xC5, 0x3A] ++ b ++ [crc16 b / 256, crc16 b % 256]

/-- A sentence of Celmir's with its checksum. -/
def ctod : List Nat :=
  let b := "CTOD,12345,UTC,37,0,9,40000000,00AB,01".toList.map Char.toNat
  let x := b.foldl Nat.xor 0
  let d (v : Nat) : Nat := if v < 10 then 48 + v else 55 + v
  36 :: b ++ [42, d (x / 16), d (x % 16), 13, 10]

/-- The characters of a message of slot 1 as engine 10 gets them, one marked BAD. -/
def told (l : List Nat) (bad : Nat) : Cell :=
  State.charsCell 5 100 ((List.range l.length).map fun k => (l.getD k 0, k == bad, 600000000 + 100 * k))

/-- Engine 10 has been given a cell. -/
def parsing (s : State) (c : Cell) : State := { s with eng := [(10, { EngSt.reset with cells := [c] })] }

/-- The IRIG-B decoder of REFIN 3 has read a frame of day doy. -/
def irigRead (doy : Nat) (edge : Option Int) (cut : Nat) : State :=
  let s := sets (refin stamped) [(F.REF_TOD_CFG_SRC 2, 1), (F.REF_TOD_CFG_SRC 1, 1), (F.REF_TOD_CFG_IRIG_SCALE 2, 2), (F.REF_IN_CFG_KIND 3, 3)]
  s.setIrig 3 ⟨none, none, false, none, [], some (((List.range 100).map fun e => State.irigElem 5 e 5 6 7 doy 24 0).take cut, 999000000, edge)⟩

/-- The state or value under test of a witness below. -/
def case73_1 : State := { refin stamped with refin := { (refin stamped).refin with srcs := [(3, ⟨1, 7, true, 5⟩)] } }

/-- The state or value under test of a witness below. -/
def case73_2 : State := { refin stamped with time := { (refin stamped).time with tickAt := 10 ^ 9 + 2 } }

/-- The state or value under test of a witness below. -/
def case73_3 : State := refin { stamped with win := some ⟨true, 7, false, 0⟩ }

/-- The state or value under test of a witness below. -/
def case73_4 : State := refin { stamped with lastEdge := some (999999985 * 65536) }

/-- The state or value under test of a witness below. -/
def case73_5 : State := (refin stamped).set (F.ETH_ST_PCS_LOCK 2) 1

/-- The state or value under test of a witness below. -/
def case73_6 : State := (refin stamped).set (F.REF_SRC_STAT_PRESENT 18) 1

/-- The state or value under test of a witness below. -/
def case73_7 : State := posted (refin stamped) 10 (⟨1, 8, pack 0 [(0, 1, 2), (1, 1, 1), (2, 2, 0xFFF0), (4, 4, 4294966346)]⟩)

/-- The state or value under test of a witness below. -/
def case73_8 : State := posted (refin stamped) 10 ⟨3, 8, 6⟩

/-- The state or value under test of a witness below. -/
def case73_9 : State := posted (refin stamped) 7 (⟨2, 24, pack 0 [(0, 8, 2^64-5), (8, 4, 0x40000000), (12, 1, 3), (16, 8, 999999999)]⟩)

/-- The state or value under test of a witness below. -/
def case73_10 : State := posted (refin stamped) 10 (⟨2, 40, pack 0 [(0, 1, 2), (4, 8, 600000000), (12, 8, 600001000), (20, 18, refin.todRec 0 0 1)]⟩)

/-- The state or value under test of a witness below. -/
def case73_11 : State := parsing ((refin stamped).set (F.REF_TOD_CFG_REFERS 1) 1) (told ((binMsg 0)) 99)

/-- A record in a channel. -/
def ticRec (n : Nat) : TicRec :=
  { short := n, frac := 5, pol := true, kind := 0, prov := false, cstale := true, pstale := false, calgen := 9, seq := 200, aux := 0, dcount := 70000 }

/-- Channel 5 with work. -/
def ticWork : TicSt := { TicSt.reset with stage := [ticRec 1, ticRec 2], queue := [ticRec 3, ticRec 4], seq := 255, sigHead := 2 ^ 32 - 2, sigAt := some 9 }

/-- Channel 5 enabled, on REFIN 3, in a state. -/
def tic (x : TicSt) : State :=
  { sets base [(F.SYS_PD_ST_PG, 0x3FFFFFFF), (F.TIC_CH_CFG_EN 5, 1), (F.TIC_CH_CFG_FREQ_EN 5, 1), (F.REF_XBAR_SRC 5, 3), (F.ASY_REF_ST_STATE 3, 2), (F.TIC_STRM_LOG2 5, 4),
      (F.TIC_STRM_BASE 5, 2 ^ 63 + 4097), (F.TIC_STRM_HEAD 5, 2 ^ 32 - 1), (F.TIC_STRM_TAIL 5, 2 ^ 32 - 3), (F.TIC_CH_STAT_CALGEN 5, 15), (F.TIC_CH_STAT_CSTALE 5, 0), (F.TIC_CH_STAT_PSTALE 5, 0), (F.TIC_CAL_CFG_MAXR, 4),
      (F.TIC_CAL_CFG_ZMAX, 16), (F.TIC_CAL_CFG_CDC_MAXAGE, 24), (F.TIC_CAL_CFG_CDC_DT, 5), (F.TIC_CAL_CFG2_PATH_MAXAGE, 1), (F.TIC_CAL_CFG2_PATH_DT, 10),
      (F.TIC_CAL_CFG2_PATH_RETRY, 100), (F.TIC_TRIM_INJ_DLY 5, 300), (F.TIC_TRIM_RING 5, 15), (F.TIC_PNOM_PNOM 5, 65536000000)] with
    hif := { base.hif with fns := [(0, { FnSt.reset with bme := true })] }
    tic := { ch := [(5, x)], turn := 0, cross := [], temp := 320 }, time := { base.time with tickAt := 10 ^ 9, tickNo := 1000 } }

/-- A path window open since 4 ns. -/
def window (cdc active : Bool) (retry : Nat) : TicSt :=
  { ticWork with win := some ⟨cdc, 4, active, retry⟩, series := some (3, retry), nostamp := some (3, 4, true), cdcAt := some (1, 320), pathAt := some (2, 300) }

/-- A flat histogram with one code of v hits. -/
def flat (v : Nat) : List Nat := v :: List.replicate 4095 256

/-- An open gate. -/
def gate (fit : Bool) : Gate :=
  { start := 65536, fit := fit, k := 4, n := 4, sk := 6, skk := 14, st := 393216006000, skt := 917504014000, stt := 10 ^ 23, step := false, slew := true, gap := false
    prov := true, cstale := false, pstale := false }

/-- The state or value under test of a witness below. -/
def case74_1 : State := tic { ticWork with queue := List.replicate 16384 (ticRec 3) }

/-- The state or value under test of a witness below. -/
def case74_2 : State := tic { ticWork with drops := some (7, 8) }

/-- The state or value under test of a witness below. -/
def case74_3 : State := (tic { ticWork with drops := some (7, 8) }).set (F.TIC_CH_CFG_QMODE 5) 2

/-- The state or value under test of a witness below. -/
def case74_4 : State := (tic ticWork).set (F.TIC_CH_CFG_QMODE 5) 1

/-- The state or value under test of a witness below. -/
def case74_5 : State := withEnt (tic ticWork) (ent 7 5 50 125000)

/-- The state or value under test of a witness below. -/
def case74_6 : State := withEnt (tic ticWork) (ent 7 21 50 125000)

/-- The state or value under test of a witness below. -/
def case74_7 : State := tic { window false false 2 with win := none }

/-- The state or value under test of a witness below. -/
def case74_8 : State := withEnt (tic ticWork) (ent 6 5 50 125000)

/-- The state or value under test of a witness below. -/
def case74_9 : State := withEnt (tic { ticWork with gate := some (gate true) }) (ent 6 21 50 125000)

/-- The state or value under test of a witness below. -/
def case74_10 : State := tic { ticWork with gate := some (gate true) }

/-- Synthesis: Burnisher 1 in a state with plan 10 GHz, feeding output 3, GOUT 2 in a mode and state, the AES port 1. -/
def syn (st mode os : Nat) (x : PinSt) : State :=
  { sets base [(F.SYS_PD_ST_PG, 0x3FFFFFFF), (F.SYN_BURN_ST_STATE 1, st), (F.SYN_BURN_CFG_SRC 1, 24), (F.SYN_BURN_CFG_R 1, 1), (F.SYN_BURN_CFG_N 1, 1000),
      (F.SYN_BURN_CFG_NCO_PER 1, 100 * 2 ^ 32), (F.SYN_BURN_CFG_P 1, 6), (F.SYN_BURN_CFG_BW 1, 1), (F.SYN_BURN_ST_LOSSES 1, 255), (F.SYN_BURN_ST_MISALIGNED 1, 1),
      (F.SYN_SPLL_ST_LOCKED, 1), (F.OUT_F_CFG_BURN 3, 1), (F.OUT_F_CFG_DIV 3, 10), (F.OUT_ST_STATE 3, os), (F.OUT_ST_ALIGNED 3, 1), (F.OUT_F_CFG_BURN 4, 2),
      (F.OUT_ST_STATE 4, 2), (F.OUT_ST_ALIGNED 4, 1), (F.OUT_G_CFG_MODE 2, mode), (F.OUT_ST_STATE 18, os), (F.OUT_G_CFG_WIDTH 2, 500), (F.OUT_G_DLY_DLY 2, 2 ^ 16 - 3),
      (F.OUT_ST_OVERLAP 18, 255), (F.OUT_G_CFG_BURN 2, 1), (F.OUT_G_CFG_DIV 2, 100), (F.SYN_SYNC_ST_FIRED, 255), (F.SYN_SYNC_ST_IGNORED, 255), (F.SYN_SYNC_CTL_MASK, 8 + 2 ^ 18)] with
    syn := { base.syn with burns := [(1, ⟨2, 10000000, 0, 5⟩)], pins := [(18, x), (3, x)], paired := 2 ^ 18 }, time := { base.time with tickAt := 10 ^ 9 } }

/-- An output at rest, and one in a pulse. -/
def rest : PinSt := ⟨true, false, none, none, some 77, some 7, none⟩
def still : PinSt := ⟨false, false, none, none, some 77, some 7, none⟩
def pulse : PinSt := ⟨true, true, some (600, 4), some 5, some 77, some 7, some 5⟩

/-- Media port 1 in a mode. -/
def aesAt (mode : Nat) (x : AesSt) : State :=
  { sets (syn 3 0 2 rest) [(F.OUT_AES_CFG_MODE 1, mode), (F.OUT_AES_CFG_RATE 1, 1), (F.OUT_AES_CFG_GRADE 1, 2), (F.TSK_STAT_STATE, 2), (F.OUT_AES_RXS_BLOCKS 1, 2 ^ 32 - 1),
      (F.OUT_AES_TXS_BLOCKS 1, 2 ^ 32 - 1), (F.OUT_AES_ST_SLIP 1, 255), (F.OUT_AES_ST_NONAUDIO 1, 1), (F.OUT_AES_ST_MISALIGNED 1, 1)] with
    hif := { base.hif with feats := 0x200 }, syn := { base.syn with aes := [(1, x)] } }

/-- ToD output slot 1 on GOUT 2. -/
def todo (refers : Nat) (x : TodOutSt) : State :=
  { sets (syn 3 1 2 rest) [(F.REF_TODOUT_CFG_UART 1, 3), (F.REF_TODOUT_CFG_GOUT 1, 2), (F.REF_TODOUT_CFG_REFERS 1, refers), (F.REF_TODOUT_CFG_SCALE 1, 2), (F.ENG_ST_STATE 10, 1),
      (F.ENG_LOST_TOD_LATE 10, 255), (F.TSK_STAT_STATE, 3)] with
    refin := { base.refin with todOuts := [(1, x)] } }

/-- Engine 10 has posted a cell. -/
def postedBy10 (s : State) (c : Cell) : State := { s with eng := [(10, { EngSt.reset with outQ := [c] })] }

/-- The state or value under test of a witness below. -/
def case75_1 : State := (syn 2 0 2 rest).set (F.SYN_BURN_ANA_LOCK_THR 1) 8

/-- The state or value under test of a witness below. -/
def case75_2 : State := (syn 3 0 3 rest).set (F.SYN_BURN_ANA_UNLOCK_THR 1) 16

/-- The state or value under test of a witness below. -/
def case75_3 : State := (syn 3 0 2 pulse).set F.PAIR_STAT_DRIVING 0

/-- The state or value under test of a witness below. -/
def case75_4 : State := (syn 3 0 1 rest).set F.PAIR_STAT_DRIVING 0

/-- The state or value under test of a witness below. -/
def case75_5 : State := ((syn 3 0 1 rest).set F.PAIR_STAT_DRIVING 0).set F.SYN_SYNC_ST_ARMED 1

/-- The state or value under test of a witness below. -/
def case75_6 : State := (syn 3 0 2 rest).set F.PAIR_STAT_DRIVING 0

/-- The state or value under test of a witness below. -/
def case75_7 : State := withEnt ((syn 3 0 1 rest).set F.PAIR_STAT_DRIVING 0) (ent 5 2 50 125000)

/-- The state or value under test of a witness below. -/
def case75_8 : State := (syn 3 1 2 pulse).set F.PAIR_STAT_DRIVING 0

/-- The state or value under test of a witness below. -/
def case75_9 : State := (syn 3 2 2 pulse).set F.PAIR_STAT_DRIVING 0

/-- The state or value under test of a witness below. -/
def case75_10 : State := aesAt 1 ⟨1, true, 2, 65536, 7, 5, 0, true, 99⟩

/-- The state or value under test of a witness below. -/
def case75_11 : State := aesAt 1 ⟨3, true, 2, 65536, 7, 5000000, 0, true, 99⟩

/-- The state or value under test of a witness below. -/
def case75_12 : State := postedBy10 (todo 0 ⟨none, some 77⟩) ⟨4, 9, 1 + 256 * 3 + 2 ^ 32 * 0x334455⟩

/-- The state or value under test of a witness below. -/
def case75_13 : State := todo 0 ⟨some (3, 0x334455, 900), none⟩

/-- A posted write waits for window 5. -/
def posts (key v : Nat) : State := { base with hif := { base.hif with posted := [⟨5, key, 0, v⟩] } }

/-- The state or value under test of a witness below. -/
def bldCase : State := sets (eng 11 (word 0x2C 2 4 0) busy) [(F.ENG_G_VALUE 11 4, F.TSK_EFC_CFG_MODE.a), (F.TSK_EFC_CFG_MODE, 2)]

/-- The state or value under test of a witness below. -/
def bldDesc : RegDesc := ((State.bldPlace 11 F.TSK_EFC_CFG_MODE.a).map (·.1)).getD ⟨.REF_IN_CFG, 0, 0, 0, 0, 0, 0, false, []⟩

/-- The state or value under test of a witness below. -/
def bstCase : State :=
  { sets (eng 11 (word 0x2D 2 4 8) busy) [(F.ENG_G_VALUE 11 4, F.TSK_HOLD_TC_TC1.a), (F.ENG_G_VALUE 11 2, 2 ^ 32 - 2), (F.TSK_HOLD_TC_T0, 5)] with pend := [(F.TSK_HOLD_TC_T0.a, 0x123)] }

/-! ## Single steps, with results from the spec -/

/-- The state after a command. -/
def after (i : Instr) (s : State) : State :=
  match exec i s with
  | .next t => t
  | _ => s

/-- R394: a DRAM read in error has class 1, 2 or 3; a replica has 16 bits of number. -/
theorem test_wf_errors : ∀ i ∈ [Instr.traceWinRead 0 1 [(0, ⟨4, false, 0, 0⟩)], .updStrobe 0 [(0, ⟨0, false, 0, 0⟩)],
    .engineRelease 0 (some ⟨4, false, 0, 0⟩), .tatLoadDone [] (some (0, ⟨4, false, 0, 0⟩)),
    .lateFireDispatch [] (some ⟨0, true, 0, 0⟩) [] false, .lateFireDispatch [] none [(0, ⟨1, true, 0, 2 ^ 16⟩)] false,
    .tick [(2 ^ 16, 0)],
    .ingotCopy 0 (some ⟨4, false, 0, 0⟩), .strobe 0 0 [(0, ⟨4, false, 0, 0⟩)], .genSwitch 0 (some ⟨4, false, 0, 0⟩),
    .shardReqReceive 0 false (some ⟨4, false, 0, 0⟩)], i.wellFormed = false := by decide

/-- R83: the CRC-16 with polynomial 0x1021 from 0xFFFF, not reflected, of the digits 1 to 9 is 0x29B1. -/
theorem test_crc16 : crc16 [49, 50, 51, 52, 53, 54, 55, 56, 57] = 0x29B1 := by decide +kernel

/-- No row of the opcode table has bits, so no word spells a command. -/
theorem test_decode_none : decodeTableWord 32 0x12345678 = none := rfl

/-- R342: ADD wraps at 32 bits (2^32 − 1 + 5 = 4). -/
theorem test_add_wraps : (after (.plAdd 3) (eng 3 (word 1 4 1 (2 * 2 ^ 14)) busy)).g 3 4 = 4 := by decide +kernel

/-- R342: SLT compares as signed (−1 < 5), SLTU as unsigned. -/
theorem test_slt_signed : (after (.plSlt 3) (eng 3 (word 0x0A 4 1 (2 * 2 ^ 14)) busy)).g 3 4 = 1 ∧
    (after (.plSltu 3) (eng 3 (word 0x0B 4 1 (2 * 2 ^ 14)) busy)).g 3 4 = 0 := by decide +kernel

/-- R336: g0 reads 0 and takes no value. -/
theorem test_g0_is_zero : (after (.plAdd 3) (eng 3 (word 1 0 1 (2 * 2 ^ 14)) busy)).g 3 0 = 0 := by decide +kernel

/-- R194: a bound of 2^26 ps takes exponent 1 and mantissa 2^25; 2^48 − 1 ps and more is unbounded. -/
theorem test_bound_float : toFloat (2 ^ 26) = 2 ^ 26 + 2 ^ 25 ∧ toFloat (2 ^ 48 - 1) = 2 ^ 32 - 1 ∧ ofFloat (2 ^ 26 + 2 ^ 25) = 2 ^ 26 := by
  decide +kernel

/-- R461: PORST_L holds the part; its rising edge ends that and samples the straps, which SYS_STRAP shows (R464). -/
theorem test_porst_rise : (after .porstAssert base).pow.held = true ∧ (after .porstAssert base).time.running = false ∧
    (after (.porstRise 5) (after .porstAssert base)).pow.held = false ∧ (after (.porstRise 5) (after .porstAssert base)).straps = 5 := by
  decide +kernel

/-- R469: TAP instructions leave the part as it is. -/
theorem test_tap : (after (.tapInstruction 2) base).regs = base.regs := by decide +kernel

/-! ## What meets the hypotheses of each obligation -/

/-- The hypotheses of Obligations.PlanishAluResult are met, clause by clause. -/
theorem witness_PlanishAluResult :
    (Ready (eng 3 (word 1 2 1 (3 * 2 ^ 14)) busy) 3 1 1 (word 1 2 1 (3 * 2 ^ 14))) ∧
    (Ready (eng 3 (word 2 2 1 (3 * 2 ^ 14)) busy) 3 2 1 (word 2 2 1 (3 * 2 ^ 14))) ∧
    (Ready (eng 3 (word 3 2 1 (3 * 2 ^ 14)) busy) 3 3 1 (word 3 2 1 (3 * 2 ^ 14))) ∧
    (Ready (eng 3 (word 4 2 1 (3 * 2 ^ 14)) busy) 3 4 1 (word 4 2 1 (3 * 2 ^ 14))) ∧
    (Ready (eng 3 (word 5 2 1 (3 * 2 ^ 14)) busy) 3 5 1 (word 5 2 1 (3 * 2 ^ 14))) ∧
    (Ready (eng 3 (word 6 2 1 (3 * 2 ^ 14)) busy) 3 6 1 (word 6 2 1 (3 * 2 ^ 14))) ∧
    (Ready (eng 3 (word 7 2 1 (3 * 2 ^ 14)) busy) 3 7 1 (word 7 2 1 (3 * 2 ^ 14))) ∧
    (Ready (eng 3 (word 8 2 1 (3 * 2 ^ 14)) busy) 3 8 1 (word 8 2 1 (3 * 2 ^ 14))) ∧
    (Ready (eng 3 (word 9 2 1 (3 * 2 ^ 14)) busy) 3 9 2 (word 9 2 1 (3 * 2 ^ 14))) ∧
    (Ready case10_1 3 10 1 (word 10 2 1 (3 * 2 ^ 14))) ∧
    (Ready case10_2 3 11 1 (word 11 2 1 (3 * 2 ^ 14))) :=
  by
    iterate 10 refine ⟨by unfold Ready; decide +kernel, ?_⟩
    unfold Ready
    decide +kernel

/-- The hypotheses of Obligations.PlanishPairResult are met, clause by clause. -/
theorem witness_PlanishPairResult :
    (Ready case10_3 3 12 2 (word 12 2 2 (6 * 2 ^ 14))) ∧
    (Ready case10_4 3 13 2 (word 13 2 2 (6 * 2 ^ 14))) ∧
    (Ready case10_5 3 14 2 (word 14 2 2 (6 * 2 ^ 14))) :=
  by
    iterate 2 refine ⟨by unfold Ready; decide +kernel, ?_⟩
    unfold Ready
    decide +kernel

/-- The hypotheses of Obligations.PlanishImmediateResult are met, clause by clause. -/
theorem witness_PlanishImmediateResult :
    (Ready case10_6 3 16 1 (word 16 2 1 (2 ^ 18 - 3))) ∧
    (Ready case10_7 3 17 1 (word 17 2 1 (2 ^ 18 - 3))) ∧
    (Ready case10_8 3 18 1 (word 18 2 1 (2 ^ 18 - 3))) ∧
    (Ready case10_9 3 19 1 (word 19 2 1 (2 ^ 18 - 3))) ∧
    (Ready case10_10 3 20 1 (word 20 2 1 (2 ^ 18 - 3))) ∧
    (Ready case10_11 3 21 1 (word 21 2 0 (2 ^ 18 - 3))) :=
  by
    iterate 5 refine ⟨by unfold Ready; decide +kernel, ?_⟩
    unfold Ready
    decide +kernel

/-- The hypotheses of Obligations.PlanishLoadStore are met, clause by clause. -/
theorem witness_PlanishLoadStore :
    (Ready (eng 3 (word 24 1 4 0) busy) 3 24 2 (word 24 1 4 0) ∧
       (eng 3 (word 24 1 4 0) busy).pAddr 3 (word 24 1 4 0) < 16384 ∧
         (eng 3 (word 24 1 4 0) busy).pAddr 3 (word 24 1 4 0) % 4 = 0) ∧
    (Ready (eng 3 (word 25 1 4 0) busy) 3 25 2 (word 25 1 4 0) ∧
       (eng 3 (word 25 1 4 0) busy).pAddr 3 (word 25 1 4 0) < 16384) ∧
    (Ready (eng 3 (word 26 1 4 0) busy) 3 26 1 (word 26 1 4 0) ∧
       (eng 3 (word 26 1 4 0) busy).pAddr 3 (word 26 1 4 0) < 16384 ∧
         (eng 3 (word 26 1 4 0) busy).pAddr 3 (word 26 1 4 0) % 4 = 0) ∧
    (Ready (eng 3 (word 27 1 4 0) busy) 3 27 1 (word 27 1 4 0) ∧
       (eng 3 (word 27 1 4 0) busy).pAddr 3 (word 27 1 4 0) < 16384) :=
  by
    iterate 3 refine ⟨by unfold Ready; decide +kernel, ?_⟩
    unfold Ready
    decide +kernel

/-- The hypotheses of Obligations.PlanishControlFlow are met, clause by clause. -/
theorem witness_PlanishControlFlow :
    (¬(fun a b => a = b) (case10_12.g 3 (pRd (word 32 1 2 (2 ^ 18 - 1))))
           (case10_12.g 3 (pRa (word 32 1 2 (2 ^ 18 - 1)))) ∧
       Ready case10_12 3 32 1 (word 32 1 2 (2 ^ 18 - 1))) ∧
    ((fun a b => a = b) (case10_13.g 3 (pRd (word 32 2 2 (2 ^ 18 - 1)))) (case10_13.g 3 (pRa (word 32 2 2 (2 ^ 18 - 1)))) ∧
       Ready case10_13 3 32 2 (word 32 2 2 (2 ^ 18 - 1))) ∧
    ((fun a b => a ≠ b) (case10_14.g 3 (pRd (word 33 1 2 (2 ^ 18 - 1)))) (case10_14.g 3 (pRa (word 33 1 2 (2 ^ 18 - 1)))) ∧
       Ready case10_14 3 33 2 (word 33 1 2 (2 ^ 18 - 1))) ∧
    (¬(fun a b => a ≠ b) (case10_15.g 3 (pRd (word 33 2 2 (2 ^ 18 - 1))))
           (case10_15.g 3 (pRa (word 33 2 2 (2 ^ 18 - 1)))) ∧
       Ready case10_15 3 33 1 (word 33 2 2 (2 ^ 18 - 1))) ∧
    ((fun a b => toSigned 32 a < toSigned 32 b) (case10_16.g 3 (pRd (word 34 1 2 (2 ^ 18 - 1))))
         (case10_16.g 3 (pRa (word 34 1 2 (2 ^ 18 - 1)))) ∧
       Ready case10_16 3 34 2 (word 34 1 2 (2 ^ 18 - 1))) ∧
    (¬(fun a b => toSigned 32 a < toSigned 32 b) (case10_17.g 3 (pRd (word 34 2 2 (2 ^ 18 - 1))))
           (case10_17.g 3 (pRa (word 34 2 2 (2 ^ 18 - 1)))) ∧
       Ready case10_17 3 34 1 (word 34 2 2 (2 ^ 18 - 1))) ∧
    (¬(fun a b => toSigned 32 b ≤ toSigned 32 a) (case10_18.g 3 (pRd (word 35 1 2 (2 ^ 18 - 1))))
           (case10_18.g 3 (pRa (word 35 1 2 (2 ^ 18 - 1)))) ∧
       Ready case10_18 3 35 1 (word 35 1 2 (2 ^ 18 - 1))) ∧
    ((fun a b => toSigned 32 b ≤ toSigned 32 a) (case10_19.g 3 (pRd (word 35 2 2 (2 ^ 18 - 1))))
         (case10_19.g 3 (pRa (word 35 2 2 (2 ^ 18 - 1)))) ∧
       Ready case10_19 3 35 2 (word 35 2 2 (2 ^ 18 - 1))) ∧
    (¬(fun a b => a < b) (case10_20.g 3 (pRd (word 36 1 2 (2 ^ 18 - 1))))
           (case10_20.g 3 (pRa (word 36 1 2 (2 ^ 18 - 1)))) ∧
       Ready case10_20 3 36 1 (word 36 1 2 (2 ^ 18 - 1))) ∧
    ((fun a b => a < b) (case10_21.g 3 (pRd (word 36 2 1 (2 ^ 18 - 1)))) (case10_21.g 3 (pRa (word 36 2 1 (2 ^ 18 - 1)))) ∧
       Ready case10_21 3 36 2 (word 36 2 1 (2 ^ 18 - 1))) ∧
    ((fun a b => b ≤ a) (case10_22.g 3 (pRd (word 37 1 2 (2 ^ 18 - 1)))) (case10_22.g 3 (pRa (word 37 1 2 (2 ^ 18 - 1)))) ∧
       Ready case10_22 3 37 2 (word 37 1 2 (2 ^ 18 - 1))) ∧
    (¬(fun a b => b ≤ a) (case10_23.g 3 (pRd (word 37 2 1 (2 ^ 18 - 1))))
           (case10_23.g 3 (pRa (word 37 2 1 (2 ^ 18 - 1)))) ∧
       Ready case10_23 3 37 1 (word 37 2 1 (2 ^ 18 - 1))) ∧
    (Ready (eng 3 (word 38 0 0 7) busy) 3 38 2 (word 38 0 0 7)) ∧
    (Ready (eng 3 (word 39 0 0 7) busy) 3 39 2 (word 39 0 0 7)) ∧
    (Ready (eng 3 (word 40 0 4 0) busy) 3 40 2 (word 40 0 4 0)) :=
  by
    iterate 14 refine ⟨by unfold Ready; decide +kernel, ?_⟩
    unfold Ready
    decide +kernel

/-- The hypotheses of Obligations.PlanishTimeAndWaits are met, clause by clause. -/
theorem witness_PlanishTimeAndWaits :
    (Ready (eng 3 (word 46 2 0 1) busy) 3 46 1 (word 46 2 0 1)) ∧
    (Ready (eng 3 (word 60 2 0 0) busy) 3 60 1 (word 60 2 0 0) ∧ pImm (word 60 2 0 0) = 0) ∧
    (Ready (eng 3 (word 60 2 0 1) busy) 3 60 1 (word 60 2 0 1) ∧ pImm (word 60 2 0 1) = 1) ∧
    (Ready case10_24 3 61 1 (word 61 2 6 1) ∧
       2 ^ 62 ≤ (Machine.sdiff case10_24.short (case10_24.pairG 3 (pRa (word 61 2 6 1)))).natAbs) ∧
    (Ready (eng 3 (word 61 3 2 1) busy) 3 61 1 (word 61 3 2 1) ∧
       (Machine.sdiff (eng 3 (word 61 3 2 1) busy).short
             ((eng 3 (word 61 3 2 1) busy).pairG 3 (pRa (word 61 3 2 1)))).natAbs <
         2 ^ 62) ∧
    (Ready case10_25 3 62 1 (word 62 2 0 0) ∧ (case10_25.engine 3).held = none ∧ (case10_25.engine 3).swap = false) ∧
    (case10_26.engPresent 3 = true ∧
       case10_26.get (F.ENG_ST_STATE 3) = 2 ∧
         (case10_26.engine 3).wait = some { rd := 2, epoch := some 4, wake := false : Wait } ∧
           2 < 16 ∧ ((case10_26.engine 3).crossed = true ∨ Machine.sdiff case10_26.short 4 ≤ 0)) :=
  by
    iterate 6 refine ⟨by unfold Ready; decide +kernel, ?_⟩
    decide +kernel

/-- The hypotheses of Obligations.PlanishFramesAndCells are met, clause by clause. -/
theorem witness_PlanishFramesAndCells :
    (Ready (eng 3 (word 48 2 3 1) busy) 3 48 1 (word 48 2 3 1) ∧
       State.hasPkt 3 = true ∧
         ((eng 3 (word 48 2 3 1) busy).engine 3).held =
           some { port := 3, len := 64, bytes := 72623859790382856, short := 77, frac := 88 : RxFrame }) ∧
    (Ready (eng 3 (word 49 2 3 1) busy) 3 49 1 (word 49 2 3 1) ∧
       State.hasPkt 3 = true ∧
         ((eng 3 (word 49 2 3 1) busy).engine 3).held =
           some { port := 3, len := 64, bytes := 72623859790382856, short := 77, frac := 88 : RxFrame }) ∧
    (Ready (eng 3 (word 50 2 3 1) busy) 3 50 1 (word 50 2 3 1) ∧
       State.hasPkt 3 = true ∧
         ((eng 3 (word 50 2 3 1) busy).engine 3).held =
           some { port := 3, len := 64, bytes := 72623859790382856, short := 77, frac := 88 : RxFrame }) ∧
    (Ready (eng 3 (word 51 2 0 0) busy) 3 51 1 (word 51 2 0 0) ∧
       State.hasPkt 3 = true ∧
         ((eng 3 (word 51 2 0 0) busy).engine 3).held =
           some { port := 3, len := 64, bytes := 72623859790382856, short := 77, frac := 88 : RxFrame }) ∧
    (Ready (eng 3 (word 52 2 0 0) busy) 3 52 1 (word 52 2 0 0) ∧
       State.hasPkt 3 = true ∧
         ((eng 3 (word 52 2 0 0) busy).engine 3).held =
           some { port := 3, len := 64, bytes := 72623859790382856, short := 77, frac := 88 : RxFrame }) ∧
    (Ready (eng 3 (word 53 0 2 0) busy) 3 53 1 (word 53 0 2 0) ∧
       State.hasPkt 3 = true ∧
         ((eng 3 (word 53 0 2 0) busy).engine 3).held =
             some { port := 3, len := 64, bytes := 72623859790382856, short := 77, frac := 88 : RxFrame } ∧
           (eng 3 (word 53 0 2 0) busy).g 3 (pRa (word 53 0 2 0)) % 8 = 5) ∧
    (Ready (eng 3 (word 56 2 0 1) busy) 3 56 2 (word 56 2 0 1) ∧ pImm (word 56 2 0 1) < 64) ∧
    (Ready (eng 3 (word 57 1 0 63) busy) 3 57 1 (word 57 1 0 63) ∧ pImm (word 57 1 0 63) < 64) ∧
    (Ready (eng 9 (word 58 0 2 9) busy) 9 58 4 (word 58 0 2 9) ∧
       State.cellDefined 9 (pImm (word 58 0 2 9)) ((eng 9 (word 58 0 2 9) busy).g 9 (pRa (word 58 0 2 9))) = true ∧
         (eng 9 (word 58 0 2 9) busy).upstreamBad 9 (pImm (word 58 0 2 9)) = false ∧
           ((eng 9 (word 58 0 2 9) busy).engine 9).outQ.length < 16) :=
  by
    iterate 8 refine ⟨by unfold Ready; decide +kernel, ?_⟩
    unfold Ready
    decide +kernel

/-- The hypotheses of Obligations.PlanishRegisterAccess are met, clause by clause. -/
theorem witness_PlanishRegisterAccess :
    (Ready bldCase 11 0x2C 8 (word 0x2C 2 4 0) ∧ State.bldPlace 11 (bldCase.pAddr 11 (word 0x2C 2 4 0)) = some (bldDesc, 0, 0, 0) ∧ bldDesc.wide = false ∧ bldDesc.id ≠ .ETH_TXTS_POP ∧ (bldCase.engine 11).bldHi = none) ∧
    (Ready bstCase 11 0x2D 4 (word 0x2D 2 4 8) ∧ State.bstPlace 11 (bstCase.pAddr 11 (word 0x2D 2 4 8)) = some 65535 ∧ alGet bstCase.pend (bstCase.pAddr 11 (word 0x2D 2 4 8)) = some 0x123) :=
  by
    refine ⟨by unfold Ready; decide +kernel, ?_⟩
    unfold Ready
    decide +kernel

/-- The hypotheses of Obligations.PlanishQuench are met, clause by clause. -/
theorem witness_PlanishQuench :
    ((eng 3 (word 1 2 1 1) busy).engPresent 3 = true ∧
       (eng 3 (word 1 2 1 1) busy).get (F.ENG_ST_STATE 3) = 1 ∧
         (eng 3 (word 1 2 1 1) busy).pFetch 3 = some (word 1 2 1 1) ∧
           pOp (word 1 2 1 1) = 1 ∧ pIllegal (word 1 2 1 1) = true) ∧
    (Ready (eng 3 (word 42 0 0 65537) busy) 3 42 1 (word 42 0 0 65537)) :=
  by
    refine ⟨by decide +kernel, ?_⟩
    unfold Ready
    decide +kernel

/-- The hypotheses of Obligations.SchedulerOperations are met, clause by clause. -/
theorem witness_SchedulerOperations :
    (SchGo case20_1 0 0 ∧ schCode case20_1 0 0 = 1 ∧ Clear case20_1 (case20_1.get (F.SCH_CMD_ID.on 0))) ∧
    (SchGo case20_2 0 1 ∧ schCode case20_2 0 1 = 1 ∧ Clear case20_2 (case20_2.get (F.SCH_CMD_ID.on 0))) ∧
    (SchGo case20_3 0 2 ∧
       schCode case20_3 0 2 = 1 ∧ alGet case20_3.sch.ents (case20_3.get (F.SCH_CMD_ID.on 0)) = some (ent 13 1 500 9000)) ∧
    ((Instr.schWrite 0, 0) ∈ [(Instr.schWrite 0, 0), (Instr.schDelete 0, 1), (Instr.schRead 0, 2)] ∧
       SchGo case20_4 0 0 ∧ (0 = (Instr.schWrite 0, 0).2 ∨ 0 = 3) ∧ schCode case20_4 0 0 ≠ 1) ∧
    ((Instr.schWrite 0, 0) ∈ [(Instr.schWrite 0, 0), (Instr.schDelete 0, 1)] ∧
       SchGo case20_5 0 (Instr.schWrite 0, 0).2 ∧
         schCode case20_5 0 (Instr.schWrite 0, 0).2 = 1 ∧
           alGet case20_5.sch.ents (case20_5.get (F.SCH_CMD_ID.on 0)) = some case20_6 ∧
             case20_5.dispatched case20_6 = true ∧
               case20_5.disowned
                     { detached := false, id := case20_5.get (F.SCH_CMD_ID.on 0), ent := case20_6 : State.Occ } =
                   true ∧
                 case20_5.sch.late = []) :=
  by
    iterate 2 refine ⟨by unfold SchGo Clear; decide +kernel, ?_⟩
    iterate 2 refine ⟨by unfold SchGo; decide +kernel, ?_⟩
    unfold SchGo
    decide +kernel

/-- The hypotheses of Obligations.SchedulerLateAndWakes are met, clause by clause. -/
theorem witness_SchedulerLateAndWakes :
    (case20_7.nextOcc = some { detached := false, id := 7, ent := ent 13 1289 2 10 : State.Occ } ∧
       case20_7.time.running = true ∧
         case20_7.dueOf { detached := false, id := 7, ent := ent 13 1289 2 10 : State.Occ }.ent < ↑case20_7.time.tickAt ∧
           (have u :=
               case20_7.runTo
                 (case20_7.dueOf { detached := false, id := 7, ent := ent 13 1289 2 10 : State.Occ }.ent).toNat;
             case20_7.notOverdue (case20_7.dueOf { detached := false, id := 7, ent := ent 13 1289 2 10 : State.Occ }.ent) =
                 false ∨
               u.congested (case20_7.dueOf { detached := false, id := 7, ent := ent 13 1289 2 10 : State.Occ }.ent) =
                 true) ∧
             { detached := false, id := 7, ent := ent 13 1289 2 10 : State.Occ }.detached = false ∧
               case20_7.sch.late = [] ∧ case20_7.sch.updWait = 0) ∧
    (Acts case20_8 { detached := false, id := 7, ent := ent 13 1289 70 0 : State.Occ } 7 13 ∧
       case20_8.engPresent (bitsOf { detached := false, id := 7, ent := ent 13 1289 70 0 : State.Occ }.ent.arg 0 5) =
           true ∧
         case20_8.engQuenched (bitsOf { detached := false, id := 7, ent := ent 13 1289 70 0 : State.Occ }.ent.arg 0 5) =
             false ∧
           bitsOf { detached := false, id := 7, ent := ent 13 1289 70 0 : State.Occ }.ent.arg 0 5 ≠ 17 ∧
             (case20_8.engine
                     (bitsOf { detached := false, id := 7, ent := ent 13 1289 70 0 : State.Occ }.ent.arg 0
                       5)).wakes.length <
               16) ∧
    (case20_9.sch.late = [{ id := 7, ent := ent 13 1289 2 0, missed := 1, cause := 0, det := false : Late }] ∧
       { id := 7, ent := ent 13 1289 2 0, missed := 1, cause := 0, det := false : Late }.ent.policy = 0 ∧
         { id := 7, ent := ent 13 1289 2 0, missed := 1, cause := 0, det := false : Late }.ent.action = 13 ∧
           case20_9.engPresent
                 (bitsOf { id := 7, ent := ent 13 1289 2 0, missed := 1, cause := 0, det := false : Late }.ent.arg 0 5) =
               true ∧
             case20_9.engQuenched
                   (bitsOf { id := 7, ent := ent 13 1289 2 0, missed := 1, cause := 0, det := false : Late }.ent.arg 0 5) =
                 false ∧
               bitsOf { id := 7, ent := ent 13 1289 2 0, missed := 1, cause := 0, det := false : Late }.ent.arg 0 5 ≠ 17 ∧
                 (case20_9.engine
                         (bitsOf { id := 7, ent := ent 13 1289 2 0, missed := 1, cause := 0, det := false : Late }.ent.arg
                           0 5)).wakes.length <
                   16) :=
  by
    refine ⟨by decide +kernel, ?_⟩
    refine ⟨by unfold Acts; decide +kernel, ?_⟩
    decide +kernel

/-- The hypotheses of Obligations.Observation are met, clause by clause. -/
theorem witness_Observation :
    (obs.pow.held = false ∧ 3 < 8) ∧
    (obs.pow.held = false ∧ 3 < 8 ∧ 9 % 2 ^ 32 ≠ 0) ∧
    (obs.pow.held = false ∧
       16 ≤ bitsOf (1 + 2 * 0 + 16 * 4) 2 5 ∧
         bitsOf (1 + 2 * 0 + 16 * 4) 2 5 ≤ 30 ∧
           (obs.on F.OBS_TRC_CFG_DRAM_EN = true → bitsOf (1 + 2 * 0 + 16 * 4) 2 5 = obs.get F.OBS_TRC_CFG_LOG2)) ∧
    (obs.pow.held = false) ∧
    (case30_3.pow.held = false ∧ case30_3.on F.OBS_TRC_CFG_DRAM_EN = false) ∧
    (obs.obs.stage = [trc 4, trc 5] ∧ obs.trcPasses (trc 4) = true) ∧
    (obs.obs.pin = [trc 1] ∧ obs.on F.OBS_TRC_CFG_PIN_EN = true) ∧
    (case30_4.obs.pinLoss = some (4, 5) ∧ case30_4.obs.pin.length ≤ 4080) ∧
    (obs.obs.stageLoss = some (6, 9) ∧ obs.obs.stage.length ≤ 1008) ∧
    (obs.obs.unreported ≠ 0 ∧ obs.obs.reportAt = none) :=
  by
    iterate 9 refine ⟨by decide +kernel, ?_⟩
    decide +kernel

/-- The hypotheses of Obligations.CommandIntake are met, clause by clause. -/
theorem witness_CommandIntake :
    ((Reaches (ring fnWork) 0 ∧ ((ring fnWork).fn 0).avail + (5 % 2 ^ 16 + 2 ^ 16 - ((ring fnWork).fn 0).avail % 2 ^ 16) % 2 ^ 16 - ((ring fnWork).fn 0).cpl ≤ 2 ^ (ring fnWork).get (F.HIF_RING_CMD_LOG2.on 0)) ∧ Reaches (ring fnWork) 5 ∧ 2 ^ (ring fnWork).get (F.HIF_RING_CMD_LOG2.on 5) < ((ring fnWork).fn 5).avail + (100 % 2 ^ 16 + 2 ^ 16 - ((ring fnWork).fn 5).avail % 2 ^ 16) % 2 ^ 16 - ((ring fnWork).fn 5).cpl) ∧
    (Fetches (ring fnWork) 0 ∧
       ((ring fnWork).fn 0).qTail ≤ ((ring fnWork).fn 0).fetched ∧
         ((ring fnWork).fn 0).quenched = false ∧
           (ring fnWork).feat 13 = false ∧ State.refusal 0 (dsc 0) = none ∧ (ring fnWork).badRange (dsc 0) = false) ∧
    (5 ≠ 0 ∧
       Fetches case40_1 5 ∧
         (case40_1.fn 5).qTail ≤ (case40_1.fn 5).fetched ∧
           (case40_1.fn 5).quenched = false ∧
             (case40_1.fn 5).flushTo ≤ (case40_1.fn 5).fetched ∧
               case40_1.fnEnabled 5 = true ∧
                 1000000 ≤ case40_1.bucketNow 5 (case40_1.recTenant 5) ∧
                   case40_1.get (F.TEN_CMD_RATE_RATE (case40_1.recTenant 5)) ≠ 0 ∧
                     (case40_1.fn 5).tags = [] ∧ State.refusal 5 (dsc 0) = none ∧ case40_1.badRange (dsc 0) = false) ∧
    (Fetches case40_2 5 ∧ (case40_2.fn 5).fetched < (case40_2.fn 5).qTail) ∧
    (Fetches (ring fnWork) 0 ∧
       ((ring fnWork).fn 0).qTail ≤ ((ring fnWork).fn 0).fetched ∧
         ((ring fnWork).fn 0).quenched = false ∧
           (ring fnWork).feat 13 = false ∧ (dsc 3).opcode ∉ [0, 1793, 2049, 2050, 2305, 2306, 2307, 2308]) :=
  by
    refine ⟨by unfold Reaches; decide +kernel, ?_⟩
    iterate 3 refine ⟨by unfold Fetches; decide +kernel, ?_⟩
    unfold Fetches
    decide +kernel

/-- The hypotheses of Obligations.CommandCompletion are met, clause by clause. -/
theorem witness_CommandCompletion :
    ((ring fnWork).cmdOf 5 0 =
       some { n := 65533, d := dsc 0, started := true, taken := false, done := none, dupOf := none : Cmd }) ∧
    ((case40_3.fn 0).cmds =
         [{ n := 65533, d := dsc 0, started := true, taken := false, done := some (0, 7), dupOf := none : Cmd },
           { n := 65534, d := dsc 0, started := true, taken := false, done := some (0, 7), dupOf := none : Cmd }] ∧
       { n := 65533, d := dsc 0, started := true, taken := false, done := some (0, 7), dupOf := none : Cmd }.done =
         some (0, 7)) :=
  by
    refine ⟨by decide +kernel, ?_⟩
    decide +kernel

/-- The hypotheses of Obligations.RingConfiguration are met, clause by clause. -/
theorem witness_RingConfiguration :
    (Reaches case40_4 5 ∧
       (0 ∈ [0, 1, 5, 6] ∧ case40_4.on (F.HIF_RING_CMD_EN.on 5) = false ∨
         0 ∈ [8, 9] ∧ case40_4.on (F.HIF_RING_EV_EN.on 5) = false)) ∧
    (Reaches case40_4 5 ∧
       case40_4.on (F.HIF_RING_CMD_EN.on 5) = false ∧ 4 ≤ bitsOf 268 0 4 ∧ bitsOf 268 0 4 ≤ 12 ∧ bitOf 268 8 = true) ∧
    (5 ≠ 0 ∧
       Reaches case40_4 5 ∧
         case40_4.on (F.HIF_RING_EV_EN.on 5) = false ∧
           4 ≤ bitsOf 305398032 0 5 ∧ bitsOf 305398032 0 5 ≤ 16 ∧ bitOf 305398032 8 = true) ∧
    (Reaches (ring fnWork) 5 ∧
       (fun x => (x + 2 ^ 17 - (ring fnWork).get (F.HIF_RING_EV_TAIL.on 5)) % 2 ^ 17) (2 % 2 ^ 17) ≤
         (fun x => (x + 2 ^ 17 - (ring fnWork).get (F.HIF_RING_EV_TAIL.on 5)) % 2 ^ 17)
           ((ring fnWork).get (F.HIF_RING_EV_HEAD.on 5))) ∧
    (Reaches (ring fnWork) 5 ∧
       (fun x => (x + 2 ^ 17 - (ring fnWork).get (F.HIF_RING_EV_TAIL.on 5)) % 2 ^ 17)
           ((ring fnWork).get (F.HIF_RING_EV_HEAD.on 5)) <
         (fun x => (x + 2 ^ 17 - (ring fnWork).get (F.HIF_RING_EV_TAIL.on 5)) % 2 ^ 17) (6 % 2 ^ 17)) :=
  by
    iterate 4 refine ⟨by unfold Reaches; decide +kernel, ?_⟩
    unfold Reaches
    decide +kernel

/-- The hypotheses of Obligations.EventRing are met, clause by clause. -/
theorem witness_EventRing :
    (((ring fnWork).fn 5).fifo = [evr 32 9, evr 1 7] ∧
       (ring fnWork).evOn 5 = true ∧
         (ring fnWork).evRoom 5 = true ∧ ((ring fnWork).fn 5).ringLoss = none ∧ ¬(5 = 0 ∧ (ring fnWork).hif.bootRecs ≠ [])) ∧
    ((case40_5.fn 5).fifo = [evr 32 9, evr 1 7] ∧ case40_5.evOn 5 = false ∧ (case40_5.fn 5).ringLoss = none) ∧
    ((case40_6.fn 0).ringLoss = some { lost := 3, disabled := false, short := 4, frac := 5 : LossRun } ∧
       case40_6.evOn 0 = true ∧ case40_6.evRoom 0 = true ∧ ¬(0 = 0 ∧ case40_6.hif.bootRecs ≠ [])) ∧
    ((case40_7.fn 0).fifoLoss = some { lost := 3, disabled := false, short := 4, frac := 5 : LossRun } ∧
       (case40_7.fn 0).fifo.length < 512) ∧
    (((ring fnWork).fn 5).fifo.length ≤ 256) ∧
    ((case40_8.fn 5).holdRec = true ∧
       case40_8.time.running = true ∧ case40_8.get (F.HIF_RING_EV_HEAD.on 5) ≠ case40_8.get (F.HIF_RING_EV_TAIL.on 5)) ∧
    (case40_9.obs.smpPend = true ∧
       case40_9.time.running = true ∧ case40_9.obs.smpEnd ≤ (case40_9.runTo case40_9.obs.smpEnd).ns) :=
  by
    iterate 6 refine ⟨by decide +kernel, ?_⟩
    decide +kernel

/-- The hypotheses of Obligations.FeaturesAndEnables are met, clause by clause. -/
theorem witness_FeaturesAndEnables :
    (case40_10.pow.held = false ∧
       2 ≤ case40_10.get F.SYS_BOOT_ST_STATE ∧ case40_10.featFails (case40_10.get F.HIF_FEAT_ACCEPT_ACCEPT) = none) ∧
    (case40_11.pow.held = false ∧
       2 ≤ case40_11.get F.SYS_BOOT_ST_STATE ∧ case40_11.featFails (case40_11.get F.HIF_FEAT_ACCEPT_ACCEPT) = some (1, 0)) ∧
    (case40_12.pow.held = false ∧
       1 ≤ 5 ∧
         5 < 1024 ∧
           case40_12.tenantPresent 5 = true ∧ case40_12.fnOf 5 ≠ 0 ∧ case40_12.tenantOf (case40_12.fnOf 5) = some 5) ∧
    (case40_12.pow.held = false ∧ case40_12.fnExists 5 = true) ∧
    (case40_12.pow.held = false ∧
       case40_12.fnExists 5 = true ∧ (case40_12.fn 5).bme = true ∧ 5 ≠ 0 ∧ case40_12.tenantOf 5 = some 5 ∧ 1 ≤ 5 ∧ 5 < 1024) ∧
    (case40_12.pow.held = false ∧
       case40_12.fnExists 5 = true ∧ 5 ≠ 0 ∧ case40_12.tenantOf 5 = some 5 ∧ 1 ≤ 5 ∧ 5 < 1024 ∧ case40_12.str.defaults = []) ∧
    (case40_12.pow.held = false) :=
  by
    iterate 6 refine ⟨by decide +kernel, ?_⟩
    decide +kernel

/-- The hypotheses of Obligations.AccessViolations are met, clause by clause. -/
theorem witness_AccessViolations :
    ((ring fnWork).pow.held = false ∧ 15728640 % 4 = 0 ∧ 15728640 < 2 ^ 25 ∧ provPlace 15728640 = Place.reserved) ∧
    (Reaches (ring fnWork) 5 ∧ 5 ≠ 0 ∧ State.tenReserved 8 4 = true) :=
  by
    refine ⟨by decide +kernel, ?_⟩
    unfold Reaches
    decide +kernel

/-- The hypotheses of Obligations.RegisterReads are met, clause by clause. -/
theorem witness_RegisterReads :
    (case40_13.pow.held = false ∧
       516 % 4 = 0 ∧
         provPlace 516 =
             Place.reg (named 516).1 (named 516).2.1 (named 516).2.2.1 (named 516).2.2.2.1 (named 516).2.2.2.2 ∧
           sideOf (named 516).1 (named 516).2.2.2.1 = 0) ∧
    (case40_14.pow.held = false ∧
       592 % 4 = 0 ∧
         aliasOf 592 = 0 ∧
           provPlace 592 =
               Place.reg (named 592).1 (named 592).2.1 (named 592).2.2.1 (named 592).2.2.2.1 (named 592).2.2.2.2 ∧
             sideOf (named 592).1 (named 592).2.2.2.1 = 1 ∧
               (named 592).1.wide = false ∧
                 (named 592).1.words[(named 592).2.2.2.1]? = some (wordOf 592) ∧
                   absentReg case40_14.part (named 592).1 (named 592).2.1 = false ∧
                     State.hiddenEng (named 592).1 (named 592).2.1 = false ∧
                       (named 592).1.id ≠ RegId.SYS_PD_FAULT ∧ perFn (named 592).2.2.2.2 = false) ∧
    (case40_13.pow.held = false ∧ 9 < 17 ∧ case40_13.engPresent 9 = true) ∧
    (case40_13.pow.held = false ∧ 0 < 2048) ∧
    (case40_13.pow.held = false ∧
       64 % 32 = 0 ∧
         1 = (case40_13.obs.head + 2 ^ 32 - case40_13.get F.OBS_TRC_RDPTR_RDPTR) % 2 ^ 32 ∧
           1 ≤ 1 ∧
             1 ≤ case40_13.obs.ring.length ∧
               case40_13.obs.ring[1 - 1]? =
                 some
                   (2,
                     { ttype := 6, prov := true, standby := false, src := 1, devid := 0, tseq := 4, short := 5, frac := 6,
                       payload := 7 : TrcRec })) ∧
    (case40_13.pow.held = false) :=
  by
    iterate 5 refine ⟨by decide +kernel, ?_⟩
    decide +kernel

/-- The hypotheses of Obligations.DateAndLeap are met, clause by clause. -/
theorem witness_DateAndLeap :
    (alm.pow.held = false ∧ alm.dateCheck false = 1) ∧
    (case50_1.pow.held = false ∧ case50_1.dateCheck false ≠ 1) ∧
    (case50_2.tsk.date =
         some
           { scale := 1, u := 1234567890, s60 := false, ns := 7000000, mark := false, ch := 3, edge := none, goAt := 77,
             goCyc := 900 : DatePend } ∧
       { scale := 1, u := 1234567890, s60 := false, ns := 7000000, mark := false, ch := 3, edge := none, goAt := 77,
               goCyc := 900 : DatePend }.mark =
           false ∧
         { scale := 1, u := 1234567890, s60 := false, ns := 7000000, mark := false, ch := 3, edge := none, goAt := 77,
                 goCyc := 900 : DatePend }.edge =
             none ∧
           { scale := 1, u := 1234567890, s60 := false, ns := 7000000, mark := false, ch := 3, edge := none, goAt := 77,
                   goCyc := 900 : DatePend }.goCyc <
               case50_2.time.cyc ∧
             case50_2.atBoundary = true ∧
               case50_2.prov = true ∧
                 State.laterThan case50_2.time.core
                     (case50_2.dateReading
                       { scale := 1, u := 1234567890, s60 := false, ns := 7000000, mark := false, ch := 3, edge := none,
                         goAt := 77, goCyc := 900 : DatePend }) =
                   true) ∧
    (case50_3.tsk.date =
         some
           { scale := 1, u := 1234567890, s60 := false, ns := 7000000, mark := false, ch := 3, edge := none, goAt := 77,
             goCyc := 900 : DatePend } ∧
       { scale := 1, u := 1234567890, s60 := false, ns := 7000000, mark := false, ch := 3, edge := none, goAt := 77,
               goCyc := 900 : DatePend }.mark =
           false ∧
         { scale := 1, u := 1234567890, s60 := false, ns := 7000000, mark := false, ch := 3, edge := none, goAt := 77,
                 goCyc := 900 : DatePend }.goCyc <
             case50_3.time.cyc ∧
           case50_3.atBoundary = true ∧ case50_3.prov = false) ∧
    (case50_4.tsk.date =
         some
           { scale := 1, u := 1234567890, s60 := false, ns := 7000000, mark := true, ch := 3, edge := none, goAt := 77,
             goCyc := 900 : DatePend } ∧
       { scale := 1, u := 1234567890, s60 := false, ns := 7000000, mark := true, ch := 3, edge := none, goAt := 77,
               goCyc := 900 : DatePend }.mark =
           true ∧
         { scale := 1, u := 1234567890, s60 := false, ns := 7000000, mark := true, ch := 3, edge := none, goAt := 77,
                 goCyc := 900 : DatePend }.edge =
             none ∧
           case50_4.time.running = true) ∧
    (leaps.pow.held = false ∧ leaps.leapCheck = (1, 0, false) ∧ 1 < 8 ∧ 0 < 64) ∧
    (case50_5.tsk.leapExpired = false ∧ ↑case50_5.tsk.leapExp < case50_5.utcMjd (↑case50_5.tsk.bndNs * 65536)) :=
  by
    iterate 6 refine ⟨by decide +kernel, ?_⟩
    decide +kernel

/-- The hypotheses of Obligations.AssayTimersAndEvents are met, clause by clause. -/
theorem witness_AssayTimersAndEvents :
    (TimerEnds case50_6 3 1 ∧
       case50_6.lasting 3 case50_6.time.tickNo = none ∧
         (case50_6.ref 3).accepted = true ∧ case50_6.absentAt 3 case50_6.time.tickAt = false) ∧
    (TimerEnds case50_7 3 2 ∧ case50_7.lasting 3 case50_7.time.tickNo = none) ∧
    (TimerEnds case50_8 3 4) ∧
    (case50_9.asy.inbox = [meas, meas] ∧
       meas.tick ≤ case50_9.time.tickNo ∧
         case50_9.refState meas.ref ≠ 0 ∧
           case50_9.unjudged meas.ref = false ∧
             meas.ref < 31 ∧
               meas.off = some 12345 ∧
                 meas.gate = none ∧
                   meas.tod = none ∧
                     case50_9.statusGated meas.ref = false ∧
                       case50_9.tsk.stepTick ≠ some meas.tick ∧
                         case50_9.trustedFor meas.ref = [] ∧
                           (case50_9.ref meas.ref).last = none ∧ (case50_9.ref meas.ref).held = none) ∧
    (case50_11.time.running = true ∧
       3 < 36 ∧
         case50_11.refState 3 ≠ 0 ∧
           (case50_11.ref 3).absent = true ∧
             (case50_11.ref 3).nextLoss ≤ case50_11.time.tickNo ∧ case50_11.absentAt 3 case50_11.time.tickAt = true) ∧
    (case50_12.time.running = true ∧
       1 < 9 ∧
         case50_12.on (F.ASY_SRC_ST_FAULT 1) = true ∧
           case50_12.get (F.ASY_SRC_ST_TIMER 1) ≤ 1 ∧ ∀ n ∈ (alGet case50_12.asy.srcs 1).getD [], n ≠ case50_12.time.tickNo) :=
  by
    iterate 3 refine ⟨by unfold TimerEnds; decide +kernel, ?_⟩
    iterate 2 refine ⟨by decide +kernel, ?_⟩
    decide +kernel

/-- The hypotheses of Obligations.DramPatrol are met, clause by clause. -/
theorem witness_DramPatrol :
    (dram.on (F.HMK_DRAM_ST_UP (if true = true then 1 else 0)) = true) ∧
    (dram.on (F.HMK_DRAM_ST_UP (if true = true then 1 else 0)) = true) ∧
    (dram.dram.scrubs = [(0, 8)] ++ [(1, 16), (1, 24)] ∧ ∀ p ∈ [(0, 8)], p.1 ≠ 1) :=
  by
    iterate 2 refine ⟨by decide +kernel, ?_⟩
    decide +kernel

/-- The hypotheses of Obligations.LinkTrainingAndCells are met, clause by clause. -/
theorem witness_LinkTrainingAndCells :
    (1 < 4 ∧
       case50_13.linkState 1 = 1 ∧
         (case50_13.link 1).lanes = false ∧ (case50_13.link 1).unacked.length < 512 ∧ (case50_13.link 1).waiting = []) ∧
    (1 < 4 ∧ (link 2 flow).linkState 1 ≠ 0) ∧
    (1 < 4 ∧
       case50_14.linkState 1 = 1 ∧
         (case50_14.link 1).inq = [(cell 1 0 3, 9)] ∧
           (cell 1 0 3).typ = 1 ∧ State.cellBytes (cell 1 0 3).payload 4 32 = case50_14.get F.STR_DIGEST_DIGEST) ∧
    (1 < 4 ∧
       (link 2 flow).linkState 1 = 2 ∧
         ((link 2 flow).link 1).lanes = true ∧
           (cell 2 7 0).ackValid = false ∧
             (cell 2 7 0).nak = false ∧
               (cell 2 7 0).typ = 2 ∧
                 (cell 2 7 0).seq = ((link 2 flow).link 1).rxSeq ∧
                   (cell 2 7 0).rsv = 0 ∧
                     (cell 2 7 0).src < 8 ∧ (cell 2 7 0).proto < 16 ∧ State.payloadBad 2 (cell 2 7 0).payload = false) ∧
    (1 < 4 ∧
       (link 2 flow).linkState 1 ≠ 0 ∧
         ((link 2 flow).link 1).lanes = true ∧
           (cell 2 6 0).ackValid = false ∧
             (cell 2 6 0).nak = false ∧
               (cell 2 6 0).typ ≠ 0 ∧ (cell 2 6 0).typ ≠ 5 ∧ (cell 2 6 0).seq ≠ ((link 2 flow).link 1).rxSeq) ∧
    (1 < 4 ∧ (link 2 flow).linkState 1 ≠ 0 ∧ ((link 2 flow).link 1).lanes = true ∧ (cell 3 7 0).typ ≠ 5) ∧
    (1 < 4 ∧
       case50_15.linkState 1 = 2 ∧
         (case50_15.link 1).lanes = true ∧
           (cell 3 7 0).ackValid = false ∧
             (cell 3 7 0).nak = false ∧
               (cell 3 7 0).typ ≠ 0 ∧
                 (cell 3 7 0).seq = (case50_15.link 1).rxSeq ∧
                   case50_15.negotiated 1 (cell 3 7 0).typ = false ∧ (cell 3 7 0).typ ≠ 5) ∧
    (1 < 4 ∧ (link 2 flow).linkState 1 ≠ 0 ∧ ((link 2 flow).link 1).waiting = []) :=
  by
    iterate 7 refine ⟨by decide +kernel, ?_⟩
    decide +kernel

/-- The hypotheses of Obligations.LinkTime are met, clause by clause. -/
theorem witness_LinkTime :
    (Acts case50_16 { detached := false, id := 7, ent := ent 14 1 1000000 4000000 : State.Occ } 7 14 ∧
       { detached := false, id := 7, ent := ent 14 1 1000000 4000000 : State.Occ }.ent.arg < 4 ∧
         case50_16.get
               (F.GFL_CFG_TT_PER { detached := false, id := 7, ent := ent 14 1 1000000 4000000 : State.Occ }.ent.arg) ≠
             0 ∧
           { detached := false, id := 7, ent := ent 14 1 1000000 4000000 : State.Occ }.ent.epoch %
                 (1000000 *
                   case50_16.get
                     (F.GFL_CFG_TT_PER
                       { detached := false, id := 7, ent := ent 14 1 1000000 4000000 : State.Occ }.ent.arg)) =
               0 ∧
             2 ≤ case50_16.linkState { detached := false, id := 7, ent := ent 14 1 1000000 4000000 : State.Occ }.ent.arg ∧
               case50_16.linkState { detached := false, id := 7, ent := ent 14 1 1000000 4000000 : State.Occ }.ent.arg ≤
                   4 ∧
                 (case50_16.link
                           { detached := false, id := 7, ent := ent 14 1 1000000 4000000 :
                                 State.Occ }.ent.arg).unacked.length <
                     512 ∧
                   (case50_16.link
                         { detached := false, id := 7, ent := ent 14 1 1000000 4000000 : State.Occ }.ent.arg).waiting =
                     []) ∧
    (1 < 4 ∧
       (case50_17.link 1).inq = [(cell 2 6 (2 ^ 100 + 2 ^ 150 * 777 + 2 ^ 31), 655360000), (cell 1 6 0, 4)] ∧
         (cell 2 6 (2 ^ 100 + 2 ^ 150 * 777 + 2 ^ 31)).typ = 2 ∧
           (cell 2 6 (2 ^ 100 + 2 ^ 150 * 777 + 2 ^ 31)).retry = false ∧
             State.wireTime (cell 2 6 (2 ^ 100 + 2 ^ 150 * 777 + 2 ^ 31)).payload 12 ≠ 0) :=
  by
    refine ⟨by unfold Acts; decide +kernel, ?_⟩
    decide +kernel

/-- The hypotheses of Obligations.SeamTraffic are met, clause by clause. -/
theorem witness_SeamTraffic :
    (Acts (withEnt seam (ent 3 0 50 125000)) { detached := false, id := 7, ent := ent 3 0 50 125000 : State.Occ } 7 3 ∧
       (withEnt seam (ent 3 0 50 125000)).on F.SEAM_STAT_EN = true ∧
         (withEnt seam (ent 3 0 50 125000)).on F.SEAM_STAT_CONT_ONLY = false) ∧
    (seam.seamOn = true ∧
       State.cellBytes (pack 0 [(0, 1, 94), (1, 1, 3), (2, 2, 258), (6, 1, 5), (7, 1, 9)]) 0 1 = 94 ∧
         State.cellBytes (pack 0 [(0, 1, 94), (1, 1, 3), (2, 2, 258), (6, 1, 5), (7, 1, 9)]) 1 1 % 8 ≠ seam.devid) ∧
    (seam.seamOn = true ∧
       smsg.len ≤ 128 ∧
         smsg.kind = 0 ∧
           (smsg.bcast = true ∨ smsg.dst = seam.devid) ∧
             List.find? (fun k => !seam.on (F.SEAM_RX_FULL k)) (List.range 16) = some 1) ∧
    (case50_18.seamOn = true ∧
       smsg.len ≤ 128 ∧
         smsg.kind = 0 ∧
           (smsg.bcast = true ∨ smsg.dst = case50_18.devid) ∧ ∀ k < 16, case50_18.on (F.SEAM_RX_FULL k) = true) ∧
    (seam.pow.held = false ∧ seam.seamBusy = false) :=
  by
    refine ⟨by unfold Acts; decide +kernel, ?_⟩
    iterate 3 refine ⟨by decide +kernel, ?_⟩
    decide +kernel

/-- The hypotheses of Obligations.SeamRoll are met, clause by clause. -/
theorem witness_SeamRoll :
    (seam.pow.held = false ∧
       seam.seamBusy = false ∧ 20 ≤ 128 ∧ seam.seam.host = none ∧ seam.on (F.ASY_SRC_ST_FAULT 7) = false) ∧
    (case50_19.pow.held = false ∧
       case50_19.seamBusy = false ∧
         20 ≤ 128 ∧ case50_19.seam.host = some { msg := smsg, tries := 3, wait := none : SeamTx }) ∧
    (case50_19.seamOn = true ∧
       case50_19.seam.host = some { msg := smsg, tries := 3, wait := none : SeamTx } ∧
         { msg := smsg, tries := 3, wait := none : SeamTx }.wait = none ∧
           case50_19.windowFits { msg := smsg, tries := 3, wait := none : SeamTx }.msg case50_19.ns = true ∧
             case50_19.on (F.ASY_SRC_ST_FAULT 7) = false) ∧
    (case50_19.seamOn = true ∧
       case50_19.seam.host = some { msg := smsg, tries := 3, wait := none : SeamTx } ∧
         { msg := smsg, tries := 3, wait := none : SeamTx }.wait = none ∧
           case50_19.windowFits { msg := smsg, tries := 3, wait := none : SeamTx }.msg case50_19.ns = true ∧
             case50_19.on (F.ASY_SRC_ST_FAULT 7) = false ∧ { msg := smsg, tries := 3, wait := none : SeamTx }.tries < 15) ∧
    (case50_20.seam.host = some { msg := smsg, tries := 3, wait := some 91000 : SeamTx } ∧
       { msg := smsg, tries := 3, wait := some 91000 : SeamTx }.wait = some 91000 ∧ case50_20.time.running = true) ∧
    (seam.seamOn = true ∧
       3 < 8 ∧
         bitOf (seam.get F.SEAM_MEMBERS_MEMBERS) 3 = true ∧
           8 ≤ seam.get (F.SEAM_PEER_AGE 3) ∧ bitOf seam.seam.gone 3 = false) ∧
    (case50_21.seamOn = true ∧ case50_21.on F.SEAM_STAT_ROLLCALL = true ∧ 64 ≤ case50_21.seam.rcFrames) ∧
    (seam.seamOn = true ∧ seam.on F.SEAM_STAT_CONT_ONLY = false ∧ 8 ≤ seam.seam.misRun) ∧
    (case50_22.seamOn = true ∧ case50_22.on F.SEAM_STAT_CONT_ONLY = true ∧ 64 ≤ case50_22.seam.okRun) :=
  by
    iterate 8 refine ⟨by decide +kernel, ?_⟩
    decide +kernel

/-- The hypotheses of Obligations.PairClaims are met, clause by clause. -/
theorem witness_PairClaims :
    (PairSteady case50_24 ∧ case50_24.pair.rises = [(9, 9)] ∧ 9 = case50_24.get F.PAIR_STAT_CLAIM) ∧
    (PairSteady case50_25 ∧
       case50_25.pair.tieSince = some 4 ∧ 1 ≤ case50_25.pair.base ∧ case50_25.on F.PAIR_STAT_TIE = false) ∧
    ((pair 0 9 3 PairSt.reset).on F.PAIR_STAT_DRIVING = true ∧ 7 < 24 ∧ bitOf (pair 0 9 3 PairSt.reset).syn.paired 7 = true) :=
  by
    iterate 2 refine ⟨by unfold PairSteady; decide +kernel, ?_⟩
    decide +kernel

/-- The hypotheses of Obligations.PairIngotsAndDrills are met, clause by clause. -/
theorem witness_PairIngotsAndDrills :
    (Acts case50_26 { detached := false, id := 7, ent := ent 2 0 50 125000 : State.Occ } 7 2 ∧
       case50_26.pairOn = true ∧ case50_26.role = 0 ∧ case50_26.pairUp = true) ∧
    (case50_27.pairOn = true ∧
       case50_27.pairLink = some 1 ∧
         case50_27.takeStream 1 false = some (case50_28, case50_29, case50_30) ∧
           case50_27.role ≠ 0 ∧ State.streamOk case50_28 case50_29 = true ∧ case50_27.qualified (32 + 1) = true) ∧
    (case50_31.pairOn = true ∧
       case50_31.pairLink = some 1 ∧
         case50_31.takeStream 1 false = some (case50_32, case50_33, case50_34) ∧
           case50_31.role ≠ 0 ∧ State.streamOk case50_32 case50_33 = false) ∧
    ((case50_35.link 1).inq = [(cell 5 0 (2 + 256 * 1 + 2 ^ 24 * 5 + 2 ^ 40 * 99), 4), (cell 1 0 0, 1)] ∧
       (cell 5 0 (2 + 256 * 1 + 2 ^ 24 * 5 + 2 ^ 40 * 99)).typ = 5 ∧
         State.cellBytes (cell 5 0 (2 + 256 * 1 + 2 ^ 24 * 5 + 2 ^ 40 * 99)).payload 0 1 = 2) ∧
    (case50_36.pairLink = some 1 ∧ case50_36.pair.resync = some (true, false) ∧ case50_36.pairUp = true) ∧
    (Acts case50_37 { detached := false, id := 7, ent := ent 11 0 50 125000 : State.Occ } 7 11 ∧
       case50_37.pairOn = true ∧
         case50_37.role = 0 ∧
           case50_37.pairUp = true ∧
             case50_37.pairLink = some 1 ∧
               (case50_37.link 1).hello = some (hello 1) ∧
                 (hello 1).state = 1 ∧ case50_37.pair.ackOk = true ∧ case50_37.get F.PAIR_TRIG_TRIG = 0) ∧
    (Acts case50_38 { detached := false, id := 7, ent := ent 11 0 50 125000 : State.Occ } 7 11 ∧
       case50_38.pairOn = true ∧ case50_38.role ≠ 0) ∧
    (case50_39.pair.drill = some (3, 400) ∧ 400 + case50_39.get F.PAIR_CFG_DRILL_HOLD ≤ case50_39.time.tickNo) ∧
    (case50_40.pair.drill = none ∧
       case50_40.pair.tookAt = some 400 ∧ 400 + case50_40.get F.PAIR_CFG_DRILL_HOLD ≤ case50_40.time.tickNo) :=
  by
    refine ⟨by unfold Acts; decide +kernel, ?_⟩
    iterate 4 refine ⟨by decide +kernel, ?_⟩
    iterate 2 refine ⟨by unfold Acts; decide +kernel, ?_⟩
    refine ⟨by decide +kernel, ?_⟩
    decide +kernel

/-- The hypotheses of Obligations.Resets are met, clause by clause. -/
theorem witness_Resets :
    (held.pow.held = true ∧ held.pow.extest = false) ∧
    (work.pow.held = false) ∧
    (work.pow.held = false ∧ work.time.running = true ∧ work.str.pendImg = none) ∧
    (held.pow.claimLow = true) ∧
    (work.pow.held = false) :=
  by
    iterate 4 refine ⟨by decide +kernel, ?_⟩
    decide +kernel

/-- The hypotheses of Obligations.PowerAndClock are met, clause by clause. -/
theorem witness_PowerAndClock :
    (5 < 30 ∧ work.pdUp 5 = true ∧ bitOf State.seqDomains 5 = false) ∧
    (case60_1.pow.held = false ∧ case60_1.pow.locked = false) ∧
    (work.time.running = true ∧ work.on F.SYN_SPLL_ST_LOCKED = true) ∧
    (case60_2.time.running = true ∧ case60_2.tsk.lol = true) :=
  by
    iterate 3 refine ⟨by decide +kernel, ?_⟩
    decide +kernel

/-- The hypotheses of Obligations.BootSequence are met, clause by clause. -/
theorem witness_BootSequence :
    (case60_3.get F.SYS_BOOT_ST_STATE = 2 ∧ case60_3.get F.SYS_STRAP_BOOT_SRC < 2) ∧
    (case60_3.get F.SYS_BOOT_ST_STATE = 2 ∧
       case60_3.get F.SYS_STRAP_BOOT_SRC < 2 ∧ (case60_3.checkImage img none true).1 = lOk) ∧
    (case60_4.get F.SYS_BOOT_ST_STATE = 3 ∧ case60_4.pdUp 24 = true ∧ case60_4.on (F.HMK_DRAM_ST_UP 0) = false) ∧
    (case60_4.get F.SYS_BOOT_ST_STATE = 3 ∧ case60_4.pdUp 24 = true ∧ case60_4.on (F.HMK_DRAM_ST_UP 0) = false) ∧
    (case60_5.get F.SYS_BOOT_ST_STATE = 3 ∧ case60_5.dramReady = true) ∧
    (31 % 16 ≠ 0) :=
  by
    iterate 4 refine ⟨by decide +kernel, ?_⟩
    refine ⟨⟨by decide +kernel, by
    have h : ∀ c ∈ [0, 1], case60_5.on (F.HMK_DRAM_ST_UP c) = true := by decide +kernel
    unfold State.dramReady; simp [h 0 (by simp), h 1 (by simp)]⟩, ?_⟩
    decide +kernel

/-- The hypotheses of Obligations.ImageLoads are met, clause by clause. -/
theorem witness_ImageLoads :
    (work.pow.held = false ∧ work.on F.STR_STAT_BUSY = false) ∧
    ((sets work [(F.STR_STAT_BUSY, 1)]).pow.held = false ∧ (sets work [(F.STR_STAT_BUSY, 1)]).on F.STR_STAT_BUSY = true) ∧
    (case60_6.on F.STR_STAT_BUSY = true ∧
       case60_6.get F.STR_STAT_STATE = 1 ∧
         img.partial_ = false ∧
           ((case60_6.set F.STR_STAT_BUSY 0).checkImage img (some (case60_6.get F.STR_PUSH_LENGTH)) true).1 = lOk) ∧
    (Acts case60_7 { detached := false, id := 7, ent := ent 9 13 50 125000 : State.Occ } 7 9 ∧
       { detached := false, id := 7, ent := ent 9 13 50 125000 : State.Occ }.ent.arg < 24 ∧
         alGet case60_7.str.staged { detached := false, id := 7, ent := ent 9 13 50 125000 : State.Occ }.ent.arg =
             some { gen := 2 ^ 32 + 7, secs := [sect 13], digest := 5, img := 0 : Staged } ∧
           (case60_7.str.switching.any fun y =>
                 decide (y.1 = { detached := false, id := 7, ent := ent 9 13 50 125000 : State.Occ }.ent.arg)) =
               false ∧
             case60_7.get
                   (F.STR_REGION_STATE { detached := false, id := 7, ent := ent 9 13 50 125000 : State.Occ }.ent.arg) ≠
                 2 ∧
               ∀ y ∈ { gen := 2 ^ 32 + 7, secs := [sect 13], digest := 5, img := 0 : Staged }.secs,
                 case60_7.inUse y = false) ∧
    (Acts case60_8 { detached := false, id := 7, ent := ent 9 13 50 125000 : State.Occ } 7 9 ∧
       { detached := false, id := 7, ent := ent 9 13 50 125000 : State.Occ }.ent.arg < 24 ∧
         alGet case60_8.str.staged { detached := false, id := 7, ent := ent 9 13 50 125000 : State.Occ }.ent.arg = none) ∧
    (alGet case60_9.str.switching 13 = some { gen := 7, secs := [sect 13], digest := 5, img := 0 : Staged } ∧
       case60_9.effectDue 13 = true) ∧
    (case60_10.get (F.STR_REGION_STATE 13) = 2 ∧ alGet case60_10.str.switching 13 = none) :=
  by
    iterate 3 refine ⟨by decide +kernel, ?_⟩
    iterate 2 refine ⟨by unfold Acts; decide +kernel, ?_⟩
    refine ⟨by decide +kernel, ?_⟩
    decide +kernel

/-- The hypotheses of Obligations.VaultUpdates are met, clause by clause. -/
theorem witness_VaultUpdates :
    (UpdWaits (asks 0 2307 (2 ^ 128 * 5 + 2 ^ 64 * 128)) (asked 2307 (2 ^ 128 * 5 + 2 ^ 64 * 128)) ∧
       (asks 0 2307 (2 ^ 128 * 5 + 2 ^ 64 * 128)).updCheck ((asked 2307 (2 ^ 128 * 5 + 2 ^ 64 * 128)).arg 8 2)
           (upd (UpdPay.setImageKey 9)) =
         cOk) ∧
    (UpdWaits (asks 0 2307 (2 ^ 128 * 5 + 2 ^ 64 * 64)) (asked 2307 (2 ^ 128 * 5 + 2 ^ 64 * 64)) ∧
       (asks 0 2307 (2 ^ 128 * 5 + 2 ^ 64 * 64)).updCheck ((asked 2307 (2 ^ 128 * 5 + 2 ^ 64 * 64)).arg 8 2)
           (upd (UpdPay.other 9)) ≠
         cOk) ∧
    ((writes (UpdPay.setImageKey 9)).kvt.upd =
         some { cmd := 4, msg := upd (UpdPay.setImageKey 9), out := 4096 : PendUpd } ∧
       { cmd := 4, msg := upd (UpdPay.setImageKey 9), out := 4096 : PendUpd }.msg.pay = UpdPay.setImageKey 9) ∧
    (case60_11.kvt.upd = some { cmd := 4, msg := upd (UpdPay.tamperCfg 7995594 5), out := 4096 : PendUpd } ∧
       { cmd := 4, msg := upd (UpdPay.tamperCfg 7995594 5), out := 4096 : PendUpd }.msg.pay = UpdPay.tamperCfg 7995594 5) ∧
    ((writes (UpdPay.keyGenerate pol)).kvt.upd =
         some { cmd := 4, msg := upd (UpdPay.keyGenerate pol), out := 4096 : PendUpd } ∧
       { cmd := 4, msg := upd (UpdPay.keyGenerate pol), out := 4096 : PendUpd }.msg.pay = UpdPay.keyGenerate pol) ∧
    ((writes UpdPay.deprovision).kvt.upd = some { cmd := 4, msg := upd UpdPay.deprovision, out := 4096 : PendUpd } ∧
       { cmd := 4, msg := upd UpdPay.deprovision, out := 4096 : PendUpd }.msg.pay = UpdPay.deprovision) ∧
    (case60_12.kvt.upd = some { cmd := 4, msg := upd (UpdPay.keyImport pol (some 3) 32), out := 4096 : PendUpd } ∧
       { cmd := 4, msg := upd (UpdPay.keyImport pol (some 3) 32), out := 4096 : PendUpd }.msg.pay =
         UpdPay.keyImport pol (some 3) 32) ∧
    ((writes (UpdPay.tenantEpoch 5 0 7)).kvt.upd =
         some { cmd := 4, msg := upd (UpdPay.tenantEpoch 5 0 7), out := 4096 : PendUpd } ∧
       { cmd := 4, msg := upd (UpdPay.tenantEpoch 5 0 7), out := 4096 : PendUpd }.msg.pay = UpdPay.tenantEpoch 5 0 7) ∧
    ((writes (UpdPay.setUpdateKey (some 3))).kvt.upd =
         some { cmd := 4, msg := upd (UpdPay.setUpdateKey (some 3)), out := 4096 : PendUpd } ∧
       { cmd := 4, msg := upd (UpdPay.setUpdateKey (some 3)), out := 4096 : PendUpd }.msg.pay =
         UpdPay.setUpdateKey (some 3)) ∧
    ((writes (UpdPay.setAttest (some 3))).kvt.upd =
         some { cmd := 4, msg := upd (UpdPay.setAttest (some 3)), out := 4096 : PendUpd } ∧
       { cmd := 4, msg := upd (UpdPay.setAttest (some 3)), out := 4096 : PendUpd }.msg.pay = UpdPay.setAttest (some 3)) ∧
    (case60_13.kvt.upd = some { cmd := 4, msg := upd (UpdPay.provision true (some (1, 2)) 3), out := 4096 : PendUpd } ∧
       { cmd := 4, msg := upd (UpdPay.provision true (some (1, 2)) 3), out := 4096 : PendUpd }.msg.pay =
         UpdPay.provision true (some (1, 2)) 3) :=
  by
    iterate 2 refine ⟨by unfold UpdWaits; decide +kernel, ?_⟩
    iterate 8 refine ⟨by decide +kernel, ?_⟩
    decide +kernel

/-- The hypotheses of Obligations.KeyCache are met, clause by clause. -/
theorem witness_KeyCache :
    ((asks 5 2305 (2 ^ 64 * 9)).cmdOf 5 2305 = some (asked 2305 (2 ^ 64 * 9)) ∧
       OwnSlot (asks 5 2305 (2 ^ 64 * 9)) 5 ((asked 2305 (2 ^ 64 * 9)).arg 8 2) ∧
         (asks 5 2305 (2 ^ 64 * 9)).loadCheck 5 ((asked 2305 (2 ^ 64 * 9)).arg 8 2) true blob = cOk) ∧
    ((asks 5 2305 (2 ^ 64 * 9)).cmdOf 5 2305 = some (asked 2305 (2 ^ 64 * 9)) ∧
       OwnSlot (asks 5 2305 (2 ^ 64 * 9)) 5 ((asked 2305 (2 ^ 64 * 9)).arg 8 2) ∧
         (asks 5 2305 (2 ^ 64 * 9)).loadCheck 5 ((asked 2305 (2 ^ 64 * 9)).arg 8 2) true case60_14 ≠ cOk) ∧
    ((asks 6 2305 (2 ^ 64 * 7)).cmdOf 6 2305 = some (asked 2305 (2 ^ 64 * 7)) ∧
       (asks 6 2305 (2 ^ 64 * 7)).slotViolation 6 ((asked 2305 (2 ^ 64 * 7)).arg 8 2) = true ∧
         ((asks 6 2305 (2 ^ 64 * 7)).fn 6).quenched = false) ∧
    ((asks 0 2308 (2 ^ 64 * 4096)).cmdOf 0 2308 = some (asked 2308 (2 ^ 64 * 4096)) ∧
       (asks 0 2308 (2 ^ 64 * 4096)).engQuenched 17 = false) ∧
    (alGet case60_15.kvt.slots 7 = some { key := 8, notBefore := 0, notAfter := 1 : SlotKey } ∧
       7 < 4096 ∧
         case60_15.on (F.KVT_SLOT_VALID 7) = true ∧
           case60_15.atBoundary = true ∧
             { key := 8, notBefore := 0, notAfter := 1 : SlotKey }.notAfter ≠ 0 ∧
               Machine.sdiff case60_15.short { key := 8, notBefore := 0, notAfter := 1 : SlotKey }.notAfter ≤ 0) ∧
    ((asks 5 2305 0).firing 64 20 false ≠ 0 ∧ ∀ p ∈ (asks 5 2305 0).kvt.slots, p.1 < 4096) ∧
    (case60_16.kvt.episode =
       some { sources := 64, short := 5, sec := 6, temp := -7, mainOff := false, prov := true : Episode }) ∧
    (work.pow.held = false ∧ work.postBusy 9 = false) :=
  by
    iterate 2 refine ⟨by unfold OwnSlot; decide +kernel, ?_⟩
    iterate 5 refine ⟨by decide +kernel, ?_⟩
    decide +kernel

/-- The hypotheses of Obligations.SlotEviction are met, clause by clause. -/
theorem witness_SlotEviction :
    (Evicts (asks 5 2306 7) 5 7 (asked 2306 7) ∧
       (asks 5 2306 7).on (F.KVT_SLOT_VALID 7) = true ∧
         ¬InUse (asks 5 2306 7) 7 ∧ (5 = 0 ∨ (asks 5 2306 7).get (F.KVT_SLOT_TENANT 7) = (asks 5 2306 7).cmdTenant 5)) ∧
    (Evicts (asks 5 2306 8) 5 8 (asked 2306 8) ∧ (asks 5 2306 8).on (F.KVT_SLOT_VALID 8) = false) ∧
    (Evicts case60_17 5 7 (asked 2306 7) ∧
       case60_17.on (F.KVT_SLOT_VALID 7) = true ∧
         InUse case60_17 7 ∧ (5 = 0 ∨ case60_17.get (F.KVT_SLOT_TENANT 7) = case60_17.cmdTenant 5)) ∧
    (Evicts (asks 6 2306 7) 6 7 (asked 2306 7) ∧
       (asks 6 2306 7).on (F.KVT_SLOT_VALID 7) = true ∧
         6 ≠ 0 ∧
           (asks 6 2306 7).get (F.KVT_SLOT_TENANT 7) ≠ (asks 6 2306 7).cmdTenant 6 ∧
             ((asks 6 2306 7).fn 6).quenched = false) :=
  by
    refine ⟨by unfold Evicts InUse; decide +kernel, ?_⟩
    refine ⟨by unfold Evicts; decide +kernel, ?_⟩
    refine ⟨by unfold Evicts InUse; decide +kernel, ?_⟩
    unfold Evicts
    decide +kernel

/-- The hypotheses of Obligations.GroupStrobes are met, clause by clause. -/
theorem witness_GroupStrobes :
    (StrobeNow case60_18 ∧
       bitOf 511 2 = true ∧
         case60_18.pend = [(F.TSK_SLEW_MAX_RATE.a, 0)] ∧
           case60_18.view F.TSK_SLEW_MAX_RATE ≠ case60_18.get F.TSK_SLEW_MAX_RATE) ∧
    (StrobeNow work ∧ work.pend = []) ∧
    (case60_19.pow.held = false ∧ case60_19.dueNow = true) ∧
    (Acts case60_20 { detached := false, id := 7, ent := ent 8 133 50 125000 : State.Occ } 7 8 ∧
       case60_20.pend = [] ∧
         case60_20.hif.fresh = [] ∧
           ((case60_20.runTo
                     (case60_20.dueOf
                         { detached := false, id := 7, ent := ent 8 133 50 125000 : State.Occ }.ent).toNat).acted
                 { detached := false, id := 7, ent := ent 8 133 50 125000 : State.Occ }).strobesNow =
             []) :=
  by
    iterate 2 refine ⟨by unfold StrobeNow; decide +kernel, ?_⟩
    refine ⟨by decide +kernel, ?_⟩
    unfold Acts
    decide +kernel

/-- The hypotheses of Obligations.StrobedActionsAndReleases are met, clause by clause. -/
theorem witness_StrobedActionsAndReleases :
    (Strobes case60_21 F.TSK_STEP_ARM_ARM ∧
       case60_21.view F.TSK_STEP_ARM_DISARM = 0 ∧
         (case60_21.armStep (case60_21.view F.TSK_STEP_ARM_MAG) (case60_21.view F.TSK_STEP_ARM_TOL)
               (case60_21.view F.TSK_STEP_ARM_DEADLINE)).2 =
           true) ∧
    (Strobes case60_22 F.TSK_STEP_ARM_DISARM ∧ case60_22.tsk.arm.isSome = true) ∧
    (Strobes case60_23 F.TSK_ANNEAL_CMD_GO ∧
       case60_23.on F.TSK_ANNEAL_ST_ACTIVE = false ∧
         case60_23.viewI F.TSK_ANNEAL_CMD_AMOUNT ≠ 0 ∧ (case60_23.viewI F.TSK_ANNEAL_CMD_AMOUNT).natAbs ≤ 2 ^ 46) ∧
    (2 < 4 ∧
       Strobes case60_24 (F.SYN_BURN_CFG_RELOCK 2) ∧
         case60_24.burnCfgOk 2 = true ∧
           case60_24.view (F.SYN_BURN_CFG_EN 2) = 1 ∧ case60_24.pdUp (15 + 2) = true ∧ case60_24.burnState 2 ≠ 1) ∧
    (1 < 4 ∧
       Strobes case60_25 (F.OUT_AES_CFG_REALIGN 1) ∧
         case60_25.get (F.OUT_AES_CFG_MODE 1) = 1 ∧
           case60_25.view (F.OUT_AES_CFG_MODE 1) = 1 ∧
             case60_25.view (F.OUT_AES_CFG_RATE 1) ≠ 7 ∧
               (case60_25.view (F.OUT_AES_CFG_GRADE 1) = 1 ∨ case60_25.view (F.OUT_AES_CFG_GRADE 1) = 2) ∧
                 case60_25.aesUp 1 = true ∧ (case60_25.aes 1).tx = 1) ∧
    (Strobes case60_26 F.HMK_TAT_CTL_SWAP ∧ case60_26.get F.HMK_TAT_ST_STATE = 2) ∧
    (Strobes case60_27 F.ASY_REF_CTL_CLEAR ∧
       refNamed (case60_27.view F.ASY_REF_CTL_REF) = true ∧ case60_27.refState (case60_27.view F.ASY_REF_CTL_REF) ≠ 0) ∧
    (Strobes case60_28 F.SYN_SYNC_CTL_ARM ∧ case60_28.view F.SYN_SYNC_CTL_DISARM = 0) ∧
    (Strobes case60_29 F.SYN_SYNC_CTL_DISARM) ∧
    (3 < 18 ∧
       3 ≠ 17 ∧
         Strobes case60_30 (F.ENG_CTL_RELEASE 3) ∧
           case60_30.engPresent 3 = true ∧
             case60_30.engQuenched 3 = true ∧
               case60_30.prog 3 =
                 some
                   { words := [5], data := [(0, 7)], entry := 0, imemLen := 4, tickBudget := 100, frameBudget := 100 :
                     Prog }) ∧
    (1 < 4 ∧
       Strobes case60_31
           (have __src := F.GFL_REL_RELEASE;
           { a := __src.a, lo := 1, w := 1 : Fld }) ∧
         case60_31.linkState 1 = 4) ∧
    (37 < 1024 ∧
       Strobes case60_32
           (have __src := F.TEN_QUENCH_RELEASE_RELEASE (37 / 32);
           { a := __src.a, lo := 37 % 32, w := 1 : Fld }) ∧
         (case60_32.fn 37).quenched = true) :=
  by
    iterate 11 refine ⟨by unfold Strobes StrobeNow; decide +kernel, ?_⟩
    unfold Strobes StrobeNow
    decide +kernel

/-- The hypotheses of Obligations.PortStates are met, clause by clause. -/
theorem witness_PortStates :
    (case70_1.portPresent 3 = true ∧ case70_1.portState 3 ≠ 0 ∧ case70_1.on (F.ETH_ST_PCS_LOCK 3) = false) ∧
    (PortIn (eth 2 portBusy) 3 2 ∧ (eth 2 portBusy).on (F.ETH_ST_PCS_LOCK 3) = true) ∧
    (PortIn (eth 1 portBusy) 3 1 ∧
       (eth 1 portBusy).on (F.ETH_ST_PCS_LOCK 3) = true ∧
         (eth 1 portBusy).on (F.ETH_ST_GRID_OK 3) = true ∧ (eth 1 portBusy).time.running = true) ∧
    (PortIn case70_2 3 3 ∧ case70_2.on (F.ETH_ST_PCS_LOCK 3) = true ∧ case70_2.time.running = true) ∧
    ((eth 3 portBusy).portPresent 3 = true ∧ (eth 3 portBusy).portState 3 ≠ 0) ∧
    (PortIn (eth 2 portBusy) 3 2 ∧ (eth 2 portBusy).on (F.ETH_CFG_PREEMPT 3) = true) :=
  by
    refine ⟨by decide +kernel, ?_⟩
    iterate 3 refine ⟨by unfold PortIn; decide +kernel, ?_⟩
    refine ⟨by decide +kernel, ?_⟩
    unfold PortIn
    decide +kernel

/-- The hypotheses of Obligations.Launches are met, clause by clause. -/
theorem witness_Launches :
    (Acts case70_3 { detached := false, id := 7, ent := ent 4 3 50 125000 : State.Occ } 7 4) ∧
    ((PortIn (eth 2 portBusy) 3 2 ∨ PortIn (eth 2 portBusy) 3 4) ∧
       (eth 2 portBusy).time.running = true ∧
         State.firstResv ((eth 2 portBusy).port 3).resvs = some (resv 20000000 0 1) ∧
           (resv 20000000 0 1).ready + 64 ≤ (resv 20000000 0 1).lo / 1000 ∧
             (eth 2 portBusy).launchPaused 3 (resv 20000000 0 1).l = false) ∧
    (case70_4.portPresent 3 = true ∧
       case70_4.time.running = true ∧
         State.firstResv (case70_4.port 3).resvs = some (resv 20000000 0 1) ∧
           (resv 20000000 0 1).ready + 64 ≤ (resv 20000000 0 1).lo / 1000 ∧
             (case70_4.launchPaused 3 (resv 20000000 0 1).l = true ∨ case70_4.portState 3 ≠ 2 ∧ case70_4.portState 3 ≠ 4)) ∧
    (case70_5.portPresent 3 = true ∧
       case70_5.time.running = true ∧
         State.firstResv (case70_5.port 3).resvs = some (resv 20000000 19950 1) ∧
           (resv 20000000 19950 1).lo / 1000 < (resv 20000000 19950 1).ready + 64) ∧
    (3 < 8 ∧
       (ethEng portBusy 30000).engPresent 3 = true ∧
         (ethEng portBusy 30000).engQuenched 3 = false ∧
           ((ethEng portBusy 30000).engine 3).cells.length < 16 ∧
             ((ethEng portBusy 30000).engine 3).outQ =
                 [{ typ := 1, len := 80, bytes := 30000 + 2 ^ 64 * 85 + 2 ^ 80 * 65535 + 2 ^ 96 * 65535 : Cell }] ∧
               { typ := 1, len := 80, bytes := 30000 + 2 ^ 64 * 85 + 2 ^ 80 * 65535 + 2 ^ 96 * 65535 : Cell }.typ = 1 ∧
                 (ethEng portBusy 30000).grantAt 3
                     ({ typ := 1, len := 80, bytes := 30000 + 2 ^ 64 * 85 + 2 ^ 80 * 65535 + 2 ^ 96 * 65535 : Cell }.len -
                         16 +
                       4)
                     (1000 *
                         (ethEng portBusy 30000).unshort
                           (State.cellBytes
                             { typ := 1, len := 80, bytes := 30000 + 2 ^ 64 * 85 + 2 ^ 80 * 65535 + 2 ^ 96 * 65535 :
                                 Cell }.bytes
                             0 8)).toNat
                     [] =
                   some
                     ((((ethEng portBusy 30000).grantAt 3 68 30000000 []).getD (0, 0, 0)).1,
                       (((ethEng portBusy 30000).grantAt 3 68 30000000 []).getD (0, 0, 0)).2.1,
                       (((ethEng portBusy 30000).grantAt 3 68 30000000 []).getD (0, 0, 0)).2.2)) ∧
    (3 < 8 ∧
       case70_6.engPresent 3 = true ∧
         case70_6.engQuenched 3 = false ∧
           (case70_6.engine 3).cells.length < 16 ∧
             (case70_6.engine 3).outQ =
                 [{ typ := 1, len := 80, bytes := 30000 + 2 ^ 64 * 85 + 2 ^ 80 * 65535 + 2 ^ 96 * 65535 : Cell }] ∧
               { typ := 1, len := 80, bytes := 30000 + 2 ^ 64 * 85 + 2 ^ 80 * 65535 + 2 ^ 96 * 65535 : Cell }.typ = 1 ∧
                 case70_6.grantAt 3
                     ({ typ := 1, len := 80, bytes := 30000 + 2 ^ 64 * 85 + 2 ^ 80 * 65535 + 2 ^ 96 * 65535 : Cell }.len -
                         16 +
                       4)
                     (1000 *
                         case70_6.unshort
                           (State.cellBytes
                             { typ := 1, len := 80, bytes := 30000 + 2 ^ 64 * 85 + 2 ^ 80 * 65535 + 2 ^ 96 * 65535 :
                                 Cell }.bytes
                             0 8)).toNat
                     [] =
                   none) ∧
    (PortIn case70_7 3 2 ∧
       case70_7.time.running = true ∧
         (case70_7.port 3).be = [beFrame 1000 1000 (some 4) false] ∧ (case70_7.port 3).pauses = []) ∧
    ((eth 2 portBusy).cmdOf 0 1793 =
         some
           { n := 4,
             d :=
               { opcode := 1793, flags := 0, rsv3 := 0, tag := 77, rsv8 := 0, args := 11 + 2 ^ 16 * 60 + 2 ^ 32 * 9 :
                 Desc },
             started := true, taken := false, done := none, dupOf := none : Cmd } ∧
       (eth 2 portBusy).portState
           ({ n := 4,
                   d :=
                     { opcode := 1793, flags := 0, rsv3 := 0, tag := 77, rsv8 := 0, args := 11 + 2 ^ 16 * 60 + 2 ^ 32 * 9 :
                       Desc },
                   started := true, taken := false, done := none, dupOf := none : Cmd }.arg
               0 1 %
             8) =
         2) ∧
    ((eth 2 portBusy).cmdOf 0 1793 =
         some
           { n := 4,
             d :=
               { opcode := 1793, flags := 0, rsv3 := 0, tag := 77, rsv8 := 0, args := 11 + 2 ^ 16 * 60 + 2 ^ 32 * 9 :
                 Desc },
             started := true, taken := false, done := none, dupOf := none : Cmd } ∧
       (false = false ∨
         (eth 2 portBusy).portState
             ({ n := 4,
                     d :=
                       { opcode := 1793, flags := 0, rsv3 := 0, tag := 77, rsv8 := 0,
                         args := 11 + 2 ^ 16 * 60 + 2 ^ 32 * 9 : Desc },
                     started := true, taken := false, done := none, dupOf := none : Cmd }.arg
                 0 1 %
               8) ≠
           2)) ∧
    (3 < 8 ∧ ((eth 2 portBusy).port 3).txtsDrop = some (8, 70000) ∧ ((eth 2 portBusy).port 3).txts.length ≤ 56) ∧
    ((eth 2 portBusy).portPresent 3 = true ∧
       (eth 2 portBusy).pow.held = false ∧
         ((eth 2 portBusy).port 3).txts =
           [{ id := 3, kind := 1, prov := true, short := 4, frac := 5, dcount := 6 : TxTs },
             { id := 7, kind := 0, prov := false, short := 4, frac := 5, dcount := 6 : TxTs }]) :=
  by
    refine ⟨by unfold Acts; decide +kernel, ?_⟩
    refine ⟨by unfold PortIn; decide +kernel, ?_⟩
    iterate 4 refine ⟨by decide +kernel, ?_⟩
    refine ⟨by unfold PortIn; decide +kernel, ?_⟩
    iterate 3 refine ⟨by decide +kernel, ?_⟩
    decide +kernel

/-- The hypotheses of Obligations.ReceptionAndLoop are met, clause by clause. -/
theorem witness_ReceptionAndLoop :
    (PortIn (eth 2 portBusy) 3 2) ∧
    (alGet ((eth 2 portBusy).port 3).pauses 2 = some { from_ := 10, until_ := 60000, since := 9 : Pause } ∧
       (eth 2 portBusy).time.running = true) ∧
    (3 < 8 ∧
       alGet (case70_8.port 3).pauses 2 = some { from_ := 10, until_ := 600000000, since := 9 : Pause } ∧
         case70_8.time.running = true ∧
           1000 *
               ({ from_ := 10, until_ := 600000000, since := 9 : Pause }.since +
                 1000 * case70_8.get (F.ETH_PAUSE_WD_WD 3)) ≤
             { from_ := 10, until_ := 600000000, since := 9 : Pause }.until_) ∧
    ((eth 2 portBusy).pow.held = false) ∧
    (case70_9.pow.held = false ∧
       case70_9.eth.loop = some (looping 1 [5] [6]) ∧
         (looping 1 [5] [6]).a < 8 ∧
           (looping 1 [5] [6]).b < 8 ∧
             case70_9.portState (looping 1 [5] [6]).a = 4 ∧ case70_9.portState (looping 1 [5] [6]).b = 4) ∧
    (case70_9.eth.loop = some (looping 1 [5] [6]) ∧
       (looping 1 [5] [6]).sent < (looping 1 [5] [6]).n ∧
         case70_9.time.running = true ∧
           (looping 1 [5] [6]).a ≠ (looping 1 [5] [6]).b ∧ (looping 1 [5] [6]).a < 8 ∧ (looping 1 [5] [6]).b < 8) ∧
    (case70_10.eth.loop = some (looping 2 [500000000, 60000000] [-6, 9]) ∧
       (looping 2 [500000000, 60000000] [-6, 9]).ab.length = (looping 2 [500000000, 60000000] [-6, 9]).n ∧
         (looping 2 [500000000, 60000000] [-6, 9]).ba.length = (looping 2 [500000000, 60000000] [-6, 9]).n ∧
           (looping 2 [500000000, 60000000] [-6, 9]).a < 8 ∧ (looping 2 [500000000, 60000000] [-6, 9]).b < 8) ∧
    (case70_9.eth.loop = some (looping 1 [5] [6]) ∧
       ((looping 1 [5] [6]).ab.length < (looping 1 [5] [6]).n ∨ (looping 1 [5] [6]).ba.length < (looping 1 [5] [6]).n) ∧
         case70_9.time.running = true ∧ (looping 1 [5] [6]).a < 8 ∧ (looping 1 [5] [6]).b < 8) :=
  by
    refine ⟨by unfold PortIn; decide +kernel, ?_⟩
    iterate 6 refine ⟨by decide +kernel, ?_⟩
    decide +kernel

/-- The hypotheses of Obligations.GnssInputsAndChannels are met, clause by clause. -/
theorem witness_GnssInputsAndChannels :
    (0 < 4 ∧
       gnss.on (F.GNS_GSI_CFG_EN 0) = true ∧
         gnss.pdUp 12 = true ∧ (true = false ∨ gnss.gsiOff 0 { khz := 99999999, raw := [3, 5] : GsiMs }.khz = true)) ∧
    (0 < 4 ∧
       gnss.on (F.GNS_GSI_CFG_EN 0) = true ∧
         gnss.pdUp 12 = true ∧ gnss.gsiOff 0 { khz := 40010, raw := [3, 5] : GsiMs }.khz = false) ∧
    (0 < 4 ∧ case71_1.on (F.GNS_GSI_CFG_EN 0) = true ∧ case71_1.pdUp 12 = true) ∧
    (0 < 2 ∧ (antTwo 2 1 2).on (F.GNS_ANT_CFG_EN 0) = true ∧ (antTwo 2 1 2).pdUp 12 = true) ∧
    (1 < 256 ∧ gnss.pdUp 12 = true) ∧
    (1 < 256 ∧
       gnss.chState 1 = 2 ∧
         (gnss.gnsCh 1).next = none ∧
           gnss.gsiUsed (gnss.get (F.GNS_CH_CFG_GSI 1)) = true ∧ (gnss.gnsCh 1).lockSince = some 1000000) ∧
    (1 < 256 ∧ gnss.chState 1 = 2 ∧ (gnss.gnsCh 1).next = none ∧ gnss.gns.burst = false) ∧
    (2 < 256 ∧ gnss.chState 2 = 3 ∧ (gnss.gnsCh 2).next = none ∧ (gnss.gnsCh 2).lowSince = some 2000000) ∧
    (3 < 256 ∧ gnss.chState 3 = 4 ∧ (gnss.gnsCh 3).next = none) ∧
    (gnss.pow.held = false ∧ gnss.postBusy 2 = false) ∧
    (List.find? State.gfeGo case71_2.hif.posted =
       some { win := 2, key := F.GNS_GFE_CMD_CS.a, al := 0, v := 524619 : Posted }) ∧
    (case71_3.pow.held = false ∧ case71_3.postBusy 2 = true) :=
  by
    iterate 11 refine ⟨by decide +kernel, ?_⟩
    decide +kernel

/-- The hypotheses of Obligations.GnssSearchAndEpochs are met, clause by clause. -/
theorem witness_GnssSearchAndEpochs :
    (gnss.pow.held = false ∧ gnss.pdUp 12 = true) ∧
    ((gnss.set F.GNS_SRCH_STAT_STATE 1).pow.held = false) ∧
    (case71_4.gns.pos = some { sig := 0, svid := 1, bin := 0, seg := 0, check := false, since := 3 : SrchPos } ∧
       case71_4.get F.GNS_SRCH_STAT_STATE = 1) ∧
    (0 < 4 ∧
       (gnss.set (F.GNS_ANT_CFG_EN 0) 0).gsiUsed 0 = true ∧
         (gnss.set (F.GNS_ANT_CFG_EN 0) 0).get F.GNS_AID_CFG_AID_TEB_MAX ≠ 0 ∧
           (true = true ∨
               { passes := 5, dur := 9, eph := true : AidWin }.eph = true ∧
                 (gnss.set (F.GNS_ANT_CFG_EN 0) 0).aidedReady = true) ∧
             (gnss.set (F.GNS_ANT_CFG_EN 0) 0).antUnsettled 0 { passes := 5, dur := 9, eph := true : AidWin }.dur = false ∧
               (gnss.set (F.GNS_ANT_CFG_EN 0) 0).gnsGated = false ∧
                 ((gnss.set (F.GNS_ANT_CFG_EN 0) 0).get F.GNS_SRCH_STAT_STATE = 1 →
                   (gnss.set (F.GNS_ANT_CFG_EN 0) 0).inputOf 0 = false)) ∧
    (case71_5.gns.settle = some 70000000 ∧ case71_5.pdUp 12 = true) ∧
    (case71_6.gns.lostSince = some 70000000 ∧ case71_6.pdUp 12 = true ∧ case71_6.get F.GNS_SRCH_STAT_STATE = 0) ∧
    (Acts (gnsDue 12 0 125000) { detached := false, id := 7, ent := ent 12 0 5000000 125000 : State.Occ } 7 12 ∧
       (gnsDue 12 0 125000).pdUp 12 = true) ∧
    ((heard 5 gnss).gns.solDue = true ∧ (heard 5 gnss).engRuns 9 = true) ∧
    (Acts case71_7 { detached := false, id := 7, ent := ent 15 0 995000000 1000000 : State.Occ } 7 15 ∧
       case71_7.pdUp 12 = true ∧ case71_7.gns.suspended = false) :=
  by
    iterate 6 refine ⟨by decide +kernel, ?_⟩
    refine ⟨by unfold Acts; decide +kernel, ?_⟩
    refine ⟨by decide +kernel, ?_⟩
    unfold Acts
    decide +kernel

/-- The hypotheses of Obligations.HallmarkService are met, clause by clause. -/
theorem witness_HallmarkService :
    (case72_1.on F.HMK_STAT_STANDBY = true) ∧
    (case72_2.on F.HMK_STAT_STANDBY = false ∧ (case72_2.hmkReady = false ∨ case72_2.cg req.cfg (F.HMK_PORT_CFG_EN 3) = 0)) ∧
    (case72_3.on F.HMK_STAT_STANDBY = false ∧
       case72_3.hmkReady = true ∧
         case72_3.cg req.cfg (F.HMK_PORT_CFG_EN 3) ≠ 0 ∧ State.resolveTenant (case72_3.cgTat req.cfg) 3 (ntp 3 none) = none) ∧
    (ReqFor (asksFor (client 0 0)) 3 (ntp 4 none) req [req] 5 ∧
       (asksFor (client 0 0)).refuses { r := req, m := ntp 4 none, t := 5 : State.Req } = some 5) ∧
    (ReqFor (asksFor (client 0 0)) 3 (ntp 3 none) req [req] 5 ∧
       (asksFor (client 0 0)).refuses { r := req, m := ntp 3 none, t := 5 : State.Req } = none ∧
         (ntp 3 none).body = ReqBody.ntp 3 4 6 4660 none ∧
           (ntp 3 none).miss = false ∧
             (asksFor (client 0 0)).shardIn (mapOfReq (asksFor (client 0 0)) req) 5 req.f.port (ntp 3 none).src =
                 State.Shard.here ∧
               (asksFor (client 0 0)).findClient 5 req.f.port (ntp 3 none).kind (ntp 3 none).src = some (client 0 0) ∧
                 (client 0 0).blocked = false) ∧
    (case72_4.hmkJobs 3 = [job none (JobWhat.ntp 4 6 7 8 false none), job none (JobWhat.ntp 4 6 7 8 false none)] ∧
       (job none (JobWhat.ntp 4 6 7 8 false none)).nominal = none) ∧
    ((asksFor (client 0 0)).hmkJobs 3 = [] ∧
       List.find? (fun x => decide (x.req.f.port = 3)) (asksFor (client 0 0)).hmk.shards = none ∧
         (asksFor (client 0 0)).hmkQueue 3 = [req, req]) ∧
    (case72_4.hmkJobs 3 = [job none (JobWhat.ntp 4 6 7 8 false none), job none (JobWhat.ntp 4 6 7 8 false none)]) ∧
    ((asksFor (client 0 0)).on F.HMK_STAT_STANDBY = false ∧
       (asksFor (client 0 0)).hmkReady = true ∧
         0 < 2 ∧ (asksFor (client 0 0)).time.running = true ∧ (asksFor (client 0 0)).flowLog 5 3 0 none = some 0) ∧
    (FirstCell case72_5 1 case72_6 [] ∧
       case72_6.typ = 3 ∧
         State.cellBytes case72_6.payload 7 1 = 0 ∧
           case72_5.flows 1 4 = true ∧ (case72_5.link 1).unacked.length < 512 ∧ (case72_5.link 1).waiting = []) ∧
    (FirstCell case72_7 1 (hmkCell 4 (67305985 + 0 * 2 ^ 32)) [] ∧ (hmkCell 4 (67305985 + 0 * 2 ^ 32)).typ = 4) :=
  by
    iterate 3 refine ⟨by decide +kernel, ?_⟩
    iterate 2 refine ⟨by unfold ReqFor; decide +kernel, ?_⟩
    iterate 4 refine ⟨by decide +kernel, ?_⟩
    refine ⟨by unfold FirstCell; exact ⟨⟨4, by decide +kernel⟩, by decide +kernel⟩, ?_⟩
    unfold FirstCell
    exact ⟨⟨4, by decide +kernel⟩, by decide +kernel⟩

/-- The hypotheses of Obligations.HallmarkTables are met, clause by clause. -/
theorem witness_HallmarkTables :
    (case72_8.findClient 5 3 0 119 = some case72_9 ∧
       case72_8.engQuenched 16 = false ∧
         case72_9.blocked = false ∧
           (case72_9.grants.any fun g => State.grantLive g.2 case72_8.sec) = false ∧
             3 * 2 ^ case72_8.get (F.HMK_TEN_CFG_MAXPOLL 5) * 1000000000 ≤ Machine.sdiff case72_9.lastSeen case72_8.short) ∧
    ((asksFor (client 0 0)).findClient 5 3 0 119 = some (client 0 0) ∧
       alGet (client 0 0).grants 1 = some { period := -3, expiry := 2 ^ 24 - 5, gseq := 6, gdur := 300 : Grant } ∧
         { period := -3, expiry := 2 ^ 24 - 5, gseq := 6, gdur := 300 : Grant }.gdur ≠ 0 ∧
           State.grantLive { period := -3, expiry := 2 ^ 24 - 5, gseq := 6, gdur := 300 : Grant }
               (asksFor (client 0 0)).sec =
             false) ∧
    (case72_10.cmdOf 0 2049 = some (hmkCmd 2049 (5 + 2 ^ 16 * 3 + 2 ^ 96 * 4096)) ∧
       (0 = 0 ∨ (hmkCmd 2049 (5 + 2 ^ 16 * 3 + 2 ^ 96 * 4096)).arg 0 2 = case72_10.cmdTenant 0) ∧
         (hmkCmd 2049 (5 + 2 ^ 16 * 3 + 2 ^ 96 * 4096)).arg 2 1 ≠ 0 ∧
           (hmkCmd 2049 (5 + 2 ^ 16 * 3 + 2 ^ 96 * 4096)).arg 2 1 ≤ 8 ∧
             case72_10.get (F.HMK_TEN_CFG_NTS_EN ((hmkCmd 2049 (5 + 2 ^ 16 * 3 + 2 ^ 96 * 4096)).arg 0 2)) ≠ 0 ∧
               case72_10.currentKey none ((hmkCmd 2049 (5 + 2 ^ 16 * 3 + 2 ^ 96 * 4096)).arg 0 2) 0 = some (99, 123)) ∧
    (case72_11.cmdOf 0 2049 = some (hmkCmd 2049 (5 + 2 ^ 16 * 0 + 2 ^ 96 * 4096))) ∧
    (ClientCmd case72_12 0 0 (hmkCmd 2050 (0 + 2 ^ 8 * 5 + 2 ^ 24 * 3 + 2 ^ 32 * 119 + 2 ^ 160 * 8192)) ∧
       clientOf case72_12 (hmkCmd 2050 (0 + 2 ^ 8 * 5 + 2 ^ 24 * 3 + 2 ^ 32 * 119 + 2 ^ 160 * 8192)) = some (client 0 0)) ∧
    (ClientCmd case72_13 0 1 (hmkCmd 2050 (1 + 2 ^ 8 * 5 + 2 ^ 24 * 3 + 2 ^ 32 * 119 + 2 ^ 160 * 8192)) ∧
       clientOf case72_13 (hmkCmd 2050 (1 + 2 ^ 8 * 5 + 2 ^ 24 * 3 + 2 ^ 32 * 119 + 2 ^ 160 * 8192)) = some (client 0 0)) ∧
    (ClientCmd case72_14 0 2 (hmkCmd 2050 (2 + 2 ^ 8 * 5 + 2 ^ 24 * 3 + 2 ^ 32 * 119 + 2 ^ 160 * 8192)) ∧
       clientOf case72_14 (hmkCmd 2050 (2 + 2 ^ 8 * 5 + 2 ^ 24 * 3 + 2 ^ 32 * 119 + 2 ^ 160 * 8192)) = some (client 0 0)) ∧
    (ClientCmd case72_15 0 3 (hmkCmd 2050 (3 + 2 ^ 8 * 5 + 2 ^ 24 * 3 + 2 ^ 32 * 119 + 2 ^ 160 * 8192)) ∧
       clientOf case72_15 (hmkCmd 2050 (3 + 2 ^ 8 * 5 + 2 ^ 24 * 3 + 2 ^ 32 * 119 + 2 ^ 160 * 8192)) = some (client 0 0)) ∧
    ((Instr.clientRead 0 true = Instr.clientRead 0 true ∧ 0 = 0 ∨
         Instr.clientRead 0 true = Instr.clientUnblock 0 ∧ 0 = 2 ∨
           Instr.clientRead 0 true = Instr.clientDelete 0 ∧ 0 = 3) ∧
       ClientCmd case72_16 0 0 (hmkCmd 2050 (0 + 2 ^ 8 * 5 + 2 ^ 24 * 3 + 2 ^ 32 * 120 + 2 ^ 160 * 8192)) ∧
         clientOf case72_16 (hmkCmd 2050 (0 + 2 ^ 8 * 5 + 2 ^ 24 * 3 + 2 ^ 32 * 120 + 2 ^ 160 * 8192)) = none) ∧
    (ClientCmd case72_17 0 1 (hmkCmd 2050 (1 + 2 ^ 8 * 5 + 2 ^ 24 * 3 + 2 ^ 32 * 120 + 2 ^ 160 * 8192)) ∧
       clientOf case72_17 (hmkCmd 2050 (1 + 2 ^ 8 * 5 + 2 ^ 24 * 3 + 2 ^ 32 * 120 + 2 ^ 160 * 8192)) = none) ∧
    (case72_18.pow.held = false) ∧
    (case72_19.get F.HMK_TAT_ST_STATE = 1 ∧
       1 ≤ case72_19.get F.HMK_TAT_LOAD_COUNT ∧ case72_19.get F.HMK_TAT_LOAD_COUNT ≤ 4096) ∧
    (Acts case72_20 { detached := false, id := 7, ent := ent 10 5 50 125000 : State.Occ } 7 10 ∧
       bitsOf { detached := false, id := 7, ent := ent 10 5 50 125000 : State.Occ }.ent.arg 10 6 < 3) :=
  by
    iterate 4 refine ⟨by decide +kernel, ?_⟩
    refine ⟨⟨⟨by decide +kernel, by decide +kernel, .inl rfl, fun l d => by
    have h : case72_12.shardOf (State.clientArg (hmkCmd 2050 (0 + 2 ^ 8 * 5 + 2 ^ 24 * 3 + 2 ^ 32 * 119 + 2 ^ 160 * 8192))).1
        (State.clientArg (hmkCmd 2050 (0 + 2 ^ 8 * 5 + 2 ^ 24 * 3 + 2 ^ 32 * 119 + 2 ^ 160 * 8192))).2.1
        (State.clientArg (hmkCmd 2050 (0 + 2 ^ 8 * 5 + 2 ^ 24 * 3 + 2 ^ 32 * 119 + 2 ^ 160 * 8192))).2.2.2 = .here := by decide +kernel
    rw [h]; nofun⟩, by decide +kernel⟩, ?_⟩
    refine ⟨⟨⟨by decide +kernel, by decide +kernel, .inl rfl, fun l d => by
    have h : case72_13.shardOf (State.clientArg (hmkCmd 2050 (1 + 2 ^ 8 * 5 + 2 ^ 24 * 3 + 2 ^ 32 * 119 + 2 ^ 160 * 8192))).1
        (State.clientArg (hmkCmd 2050 (1 + 2 ^ 8 * 5 + 2 ^ 24 * 3 + 2 ^ 32 * 119 + 2 ^ 160 * 8192))).2.1
        (State.clientArg (hmkCmd 2050 (1 + 2 ^ 8 * 5 + 2 ^ 24 * 3 + 2 ^ 32 * 119 + 2 ^ 160 * 8192))).2.2.2 = .here := by decide +kernel
    rw [h]; nofun⟩, by decide +kernel⟩, ?_⟩
    refine ⟨⟨⟨by decide +kernel, by decide +kernel, .inl rfl, fun l d => by
    have h : case72_14.shardOf (State.clientArg (hmkCmd 2050 (2 + 2 ^ 8 * 5 + 2 ^ 24 * 3 + 2 ^ 32 * 119 + 2 ^ 160 * 8192))).1
        (State.clientArg (hmkCmd 2050 (2 + 2 ^ 8 * 5 + 2 ^ 24 * 3 + 2 ^ 32 * 119 + 2 ^ 160 * 8192))).2.1
        (State.clientArg (hmkCmd 2050 (2 + 2 ^ 8 * 5 + 2 ^ 24 * 3 + 2 ^ 32 * 119 + 2 ^ 160 * 8192))).2.2.2 = .here := by decide +kernel
    rw [h]; nofun⟩, by decide +kernel⟩, ?_⟩
    refine ⟨⟨⟨by decide +kernel, by decide +kernel, .inl rfl, fun l d => by
    have h : case72_15.shardOf (State.clientArg (hmkCmd 2050 (3 + 2 ^ 8 * 5 + 2 ^ 24 * 3 + 2 ^ 32 * 119 + 2 ^ 160 * 8192))).1
        (State.clientArg (hmkCmd 2050 (3 + 2 ^ 8 * 5 + 2 ^ 24 * 3 + 2 ^ 32 * 119 + 2 ^ 160 * 8192))).2.1
        (State.clientArg (hmkCmd 2050 (3 + 2 ^ 8 * 5 + 2 ^ 24 * 3 + 2 ^ 32 * 119 + 2 ^ 160 * 8192))).2.2.2 = .here := by decide +kernel
    rw [h]; nofun⟩, by decide +kernel⟩, ?_⟩
    refine ⟨⟨by decide +kernel, ⟨⟨by decide +kernel, by decide +kernel, .inl rfl, fun l d => by
    have h : case72_16.shardOf (State.clientArg (hmkCmd 2050 (0 + 2 ^ 8 * 5 + 2 ^ 24 * 3 + 2 ^ 32 * 120 + 2 ^ 160 * 8192))).1
        (State.clientArg (hmkCmd 2050 (0 + 2 ^ 8 * 5 + 2 ^ 24 * 3 + 2 ^ 32 * 120 + 2 ^ 160 * 8192))).2.1
        (State.clientArg (hmkCmd 2050 (0 + 2 ^ 8 * 5 + 2 ^ 24 * 3 + 2 ^ 32 * 120 + 2 ^ 160 * 8192))).2.2.2 = .here := by decide +kernel
    rw [h]; nofun⟩, by decide +kernel⟩⟩, ?_⟩
    refine ⟨⟨⟨by decide +kernel, by decide +kernel, .inl rfl, fun l d => by
    have h : case72_17.shardOf (State.clientArg (hmkCmd 2050 (1 + 2 ^ 8 * 5 + 2 ^ 24 * 3 + 2 ^ 32 * 120 + 2 ^ 160 * 8192))).1
        (State.clientArg (hmkCmd 2050 (1 + 2 ^ 8 * 5 + 2 ^ 24 * 3 + 2 ^ 32 * 120 + 2 ^ 160 * 8192))).2.1
        (State.clientArg (hmkCmd 2050 (1 + 2 ^ 8 * 5 + 2 ^ 24 * 3 + 2 ^ 32 * 120 + 2 ^ 160 * 8192))).2.2.2 = .here := by decide +kernel
    rw [h]; nofun⟩, by decide +kernel⟩, ?_⟩
    iterate 2 refine ⟨by decide +kernel, ?_⟩
    unfold Acts
    decide +kernel

/-- The hypotheses of Obligations.ReferenceEdges are met, clause by clause. -/
theorem witness_ReferenceEdges :
    (3 < 24 ∧
       case73_1.time.running = true ∧
         case73_1.on (F.REF_SRC_STAT_PRESENT 3) = true ∧
           case73_1.edgeTaken 3 false = true ∧ (case73_1.src 3).sel + 1 < case73_1.get (F.REF_IN_PRE_DIV 3)) ∧
    (EdgePasses (refin stamped) 3 false 5 ∧
       NotBlind (refin stamped) 5 1 ∧
         ((refin stamped).ticCh 5).win = none ∧
           1 ≤ 1 ∧ 1 ≤ 4094 ∧ (refin stamped).overBoundary = false ∧ Stages (refin stamped) 5) ∧
    (EdgePasses case73_2 3 false 5 ∧
       NotBlind case73_2 5 77 ∧ (case73_2.ticCh 5).win = none ∧ 1 ≤ 77 ∧ 77 ≤ 4094 ∧ case73_2.overBoundary = true) ∧
    (EdgePasses (refin stamped) 3 false 5 ∧
       NotBlind (refin stamped) 5 0 ∧ ((refin stamped).ticCh 5).win = none ∧ (0 < 1 ∨ 4094 < 0) ∧ Stages (refin stamped) 5) ∧
    (EdgePasses case73_3 3 false 5 ∧
       NotBlind case73_3 5 77 ∧
         (case73_3.ticCh 5).win = some { cdc := true, since := 7, active := false, retry := 0 : CalWin }) :=
  by
    refine ⟨by decide +kernel, ?_⟩
    refine ⟨by unfold EdgePasses NotBlind Stages; decide +kernel, ?_⟩
    refine ⟨by unfold EdgePasses NotBlind; decide +kernel, ?_⟩
    refine ⟨by unfold EdgePasses NotBlind Stages; decide +kernel, ?_⟩
    unfold EdgePasses NotBlind
    decide +kernel

/-- The hypotheses of Obligations.ChannelDeadTime are met, clause by clause. -/
theorem witness_ChannelDeadTime :
    (EdgePasses case73_4 3 false 5 ∧
       (case73_4.ticCh 5).lastEdge = some (999999985 * 65536) ∧ edgeAt16 case73_4 5 77 < 999999985 * 65536 + 16 * 65536) ∧
    (EdgePasses (refin stamped) 3 false 5 ∧
       ((refin stamped).ticCh 5).lastEdge = some (500000000 * 65536) ∧
         500000000 * 65536 + 16 * 65536 ≤ edgeAt16 (refin stamped) 5 77) :=
  by
    refine ⟨by unfold EdgePasses; decide +kernel, ?_⟩
    unfold EdgePasses
    decide +kernel

/-- The hypotheses of Obligations.ReferenceInputs are met, clause by clause. -/
theorem witness_ReferenceInputs :
    (3 < 16 ∧
       (refin stamped).time.running = true ∧
         ((refin stamped).src 3).armed = true ∧ (refin stamped).on (F.REF_IN_CFG_EN 3) = true) ∧
    (2 < 8 ∧
       (case73_5.part.small = false ∨ 2 < 4) ∧
         case73_5.on (F.ETH_ST_PCS_LOCK 2) = true ∧ case73_5.on (F.REF_SRC_STAT_PRESENT (16 + 2)) = false) ∧
    (2 < 8 ∧
       (case73_6.part.small = false ∨ 2 < 4) ∧
         case73_6.on (F.ETH_ST_PCS_LOCK 2) = false ∧ case73_6.on (F.REF_SRC_STAT_PRESENT (16 + 2)) = true) ∧
    ((refin stamped).on (F.ETH_ST_PCS_LOCK 2) ≠ true) ∧
    (6 < 8 ∧ (refin stamped).uartOn 6 = true) ∧
    (6 < 8 ∧ ((refin stamped).uart 6).chars ≠ [] ∧ (refin stamped).time.running = true ∧ Room (refin stamped) 10) ∧
    (2 < 4 ∧ (refin stamped).time.running = true ∧ (refin stamped).on (F.REF_APORT_CFG_EN 2) = true) ∧
    (OutCell case73_7 10 1
         { typ := 1, len := 8, bytes := pack 0 [(0, 1, 2), (1, 1, 1), (2, 2, 65520), (4, 4, 4294966346)] : Cell } [] ∧
       case73_7.on
           (F.REF_APORT_CFG_EN
             (State.cellBytes
                 { typ := 1, len := 8, bytes := pack 0 [(0, 1, 2), (1, 1, 1), (2, 2, 65520), (4, 4, 4294966346)] :
                     Cell }.bytes
                 0 1 %
               4)) =
         true) ∧
    (OutCell case73_8 10 3 { typ := 3, len := 8, bytes := 6 : Cell } []) ∧
    (7 < 8 ∧
       OutCell case73_9 7 2
         { typ := 2, len := 24, bytes := pack 0 [(0, 8, 2 ^ 64 - 5), (8, 4, 1073741824), (12, 1, 3), (16, 8, 999999999)] :
           Cell }
         []) :=
  by
    iterate 5 refine ⟨by decide +kernel, ?_⟩
    refine ⟨by unfold Room; decide +kernel, ?_⟩
    refine ⟨by decide +kernel, ?_⟩
    iterate 2 refine ⟨by unfold OutCell; decide +kernel, ?_⟩
    unfold OutCell
    decide +kernel

/-- The hypotheses of Obligations.TimeOfDayInputs are met, clause by clause. -/
theorem witness_TimeOfDayInputs :
    (OutCell case73_10 10 2
         { typ := 2, len := 40,
           bytes := pack 0 [(0, 1, 2), (4, 8, 600000000), (12, 8, 600001000), (20, 18, refin.todRec 0 0 1)] : Cell }
         [] ∧
       case73_10.uartOn
             (4 +
               State.cellBytes
                   { typ := 2, len := 40,
                       bytes := pack 0 [(0, 1, 2), (4, 8, 600000000), (12, 8, 600001000), (20, 18, refin.todRec 0 0 1)] :
                       Cell }.bytes
                   0 1 %
                 4) =
           true ∧
         case73_10.get
             (F.REF_TOD_CFG_SRC
               (State.cellBytes
                   { typ := 2, len := 40,
                       bytes := pack 0 [(0, 1, 2), (4, 8, 600000000), (12, 8, 600001000), (20, 18, refin.todRec 0 0 1)] :
                       Cell }.bytes
                   0 1 %
                 4)) =
           0) ∧
    (case73_11.engTakes 10 = true ∧
       (case73_11.engine 10).outQ = [] ∧
         IsChars case73_11 (told (binMsg 0) 99) ∧
           (case73_11.tod (State.cellBytes (told (binMsg 0) 99).bytes 0 1 % 4)).text = [] ∧
             case73_11.uartOn (4 + State.cellBytes (told (binMsg 0) 99).bytes 0 1 % 4) = true ∧
               case73_11.get (F.REF_TOD_CFG_SRC (State.cellBytes (told (binMsg 0) 99).bytes 0 1 % 4)) = 0 ∧
                 scanTod (List.map Prod.fst (State.cellChars (told (binMsg 0) 99))) =
                     TodScan.msg (State.cellChars (told (binMsg 0) 99)).length (parseBinary (binMsg 0)) ∧
                   State.cellChars (told (binMsg 0) 99) ≠ []) ∧
    (1 < 4 ∧ (refin stamped).time.running = true ∧ (refin stamped).uartOn (4 + 1) = true) ∧
    (1 < 4 ∧ (refin stamped).time.running = true ∧ ((refin stamped).tod 1).msgs = [(refin.todRec 1 0 0, 900000000)]) ∧
    (3 < 16 ∧
       (irigRead 366 none 100).on (F.REF_IN_CFG_EN 3) = true ∧
         (irigRead 366 none 100).get (F.REF_IN_CFG_KIND 3) = 3 ∧
           ((irigRead 366 none 100).irig 3).done =
               some
                 (List.take 100 (List.map (fun e => State.irigElem 5 e 5 6 7 366 24 0) (List.range 100)), 999000000,
                   none) ∧
             irigTold (List.take 100 (List.map (fun e => State.irigElem 5 e 5 6 7 366 24 0) (List.range 100))) true 5 6 7
                   366 (some 24) =
                 true ∧
               2 < 4 ∧
                 (irigRead 366 none 100).uartOn (4 + 2) = true ∧
                   (irigRead 366 none 100).get (F.REF_TOD_CFG_SRC 2) = 1 ∧
                     (irigRead 366 none 100).get (F.REF_TOD_CFG_PPS_IN 2) = 3) :=
  by
    refine ⟨by unfold OutCell; decide +kernel, ?_⟩
    refine ⟨by unfold IsChars; decide +kernel, ?_⟩
    iterate 2 refine ⟨by decide +kernel, ?_⟩
    decide +kernel

/-- The hypotheses of Obligations.IntervalRecords are met, clause by clause. -/
theorem witness_IntervalRecords :
    ((tic ticWork).ticTurn = some 5 ∧
       ((tic ticWork).ticCh 5).stage = [ticRec 1, ticRec 2] ∧
         (((tic ticWork).ticCh 5).drops = none ∨ ((tic ticWork).ticCh 5).older ≠ 0) ∧
           ((tic ticWork).ticCh 5).queue.length < 16384) ∧
    (case74_1.ticTurn = some 5 ∧
       (case74_1.ticCh 5).stage = [ticRec 1, ticRec 2] ∧
         (16384 ≤ (case74_1.ticCh 5).queue.length ∨
           (case74_1.ticCh 5).drops ≠ none ∧ (case74_1.ticCh 5).older = 0 ∧ 16384 < (case74_1.ticCh 5).queue.length + 16)) ∧
    (case74_2.ticWrites 5 = true ∧
       (case74_2.ticCh 5).older = 0 ∧ (case74_2.ticCh 5).drops = some (7, 8) ∧ (case74_2.ticCh 5).queue.length + 16 ≤ 16384) ∧
    (case74_3.ticWrites 5 = false) ∧
    (((tic ticWork).ticCh 5).queue = [ticRec 3, ticRec 4]) ∧
    (((tic TicSt.reset).ticCh 5).queue = []) ∧
    ((case74_4.ticCh 5).queue = [ticRec 3, ticRec 4] ∧
       case74_4.get (F.TIC_CH_CFG_QMODE 5) = 1 ∧
         (case74_4.fn 0).bme = true ∧
           (case74_4.get (F.TIC_STRM_HEAD 5) + 2 ^ 32 - case74_4.get (F.TIC_STRM_TAIL 5)) % 2 ^ 32 <
             2 ^ case74_4.get (F.TIC_STRM_LOG2 5) - 1) ∧
    (((tic ticWork).ticCh 5).sigAt = some 9 ∧ (tic ticWork).time.running = true) :=
  by
    iterate 7 refine ⟨by decide +kernel, ?_⟩
    decide +kernel

/-- The hypotheses of Obligations.ChannelCalibrationAndGates are met, clause by clause. -/
theorem witness_ChannelCalibrationAndGates :
    (Acts case74_5 { detached := false, id := 7, ent := ent 7 5 50 125000 : State.Occ } 7 7 ∧
       bitOf { detached := false, id := 7, ent := ent 7 5 50 125000 : State.Occ }.ent.arg 4 = false ∧
         case74_5.ticOn (bitsOf { detached := false, id := 7, ent := ent 7 5 50 125000 : State.Occ }.ent.arg 0 4) = true) ∧
    (Acts case74_6 { detached := false, id := 7, ent := ent 7 21 50 125000 : State.Occ } 7 7 ∧
       bitOf { detached := false, id := 7, ent := ent 7 21 50 125000 : State.Occ }.ent.arg 4 = true ∧
         case74_6.ticOn (bitsOf { detached := false, id := 7, ent := ent 7 21 50 125000 : State.Occ }.ent.arg 0 4) = true) ∧
    ((case74_7.ticCh 5).series = some (3, 2) ∧
       case74_7.time.running = true ∧ 2 ≠ 0 ∧ ∀ (w : CalWin), (case74_7.ticCh 5).win = some w → w.cdc = true ∨ w.retry ≠ 2) ∧
    (((tic (window false false 0)).ticCh 5).win = some { cdc := false, since := 4, active := false, retry := 0 : CalWin } ∧
       { cdc := false, since := 4, active := false, retry := 0 : CalWin }.cdc = false ∧
         (tic (window false false 0)).time.running = true) ∧
    (((tic (window true true 0)).ticCh 5).win = some { cdc := true, since := 4, active := true, retry := 0 : CalWin } ∧
       { cdc := true, since := 4, active := true, retry := 0 : CalWin }.cdc = true ∧
         (tic (window true true 0)).time.running = true ∧
           List.foldl (fun a b => a + b) 0 (flat 256) ≤ 2 ^ (20 + (tic (window true true 0)).get F.TIC_CAL_CFG_HEXP)) ∧
    ((tic (window true true 0)).time.running = true ∧
       (tic (window true true 0)).ageDue 5 true = some 86400000000002 ∧
         ∀ (b : ℕ), ((tic (window true true 0)).ageDue 5 !true) = some b → 86400000000002 < b) ∧
    (Acts case74_8 { detached := false, id := 7, ent := ent 6 5 50 125000 : State.Occ } 7 6 ∧
       bitOf { detached := false, id := 7, ent := ent 6 5 50 125000 : State.Occ }.ent.arg 4 = false ∧
         case74_8.ticOn (bitsOf { detached := false, id := 7, ent := ent 6 5 50 125000 : State.Occ }.ent.arg 0 4) = true ∧
           (case74_8.ticCh
                   (bitsOf { detached := false, id := 7, ent := ent 6 5 50 125000 : State.Occ }.ent.arg 0 4)).gate =
               none ∧
             (case74_8.ticCh
                   (bitsOf { detached := false, id := 7, ent := ent 6 5 50 125000 : State.Occ }.ent.arg 0 4)).gatePre =
               none) ∧
    (Acts case74_9 { detached := false, id := 7, ent := ent 6 21 50 125000 : State.Occ } 7 6 ∧
       bitOf { detached := false, id := 7, ent := ent 6 21 50 125000 : State.Occ }.ent.arg 4 = true) ∧
    ((case74_10.ticCh 5).gate = some (gate true) ∧ case74_10.time.running = true) :=
  by
    iterate 2 refine ⟨by unfold Acts; decide +kernel, ?_⟩
    iterate 4 refine ⟨by decide +kernel, ?_⟩
    iterate 2 refine ⟨by unfold Acts; decide +kernel, ?_⟩
    decide +kernel

/-- The hypotheses of Obligations.Burnishers are met, clause by clause. -/
theorem witness_Burnishers :
    (1 < 4 ∧ (syn 1 0 2 rest).burnState 1 = 1) ∧
    (1 < 4 ∧ case75_1.burnState 1 = 2) ∧
    (1 < 4 ∧ (syn 2 0 2 rest).burnState 1 = 2) ∧
    ((syn 2 0 2 rest).burnState 1 = 2 ∨ (syn 2 0 2 rest).burnState 1 = 3) ∧
    (1 < 4 ∧ case75_2.burnState 1 = 3) ∧
    (1 < 4 ∧ (syn 4 0 2 rest).burnState 1 = 4) :=
  by
    iterate 5 refine ⟨by decide +kernel, ?_⟩
    decide +kernel

/-- The hypotheses of Obligations.OutputEdges are met, clause by clause. -/
theorem witness_OutputEdges :
    (18 < 24 ∧ (case75_3.pin 18).stopping = true) ∧
    (18 < 24 ∧
       case75_4.outMode 18 = 0 ∧
         (case75_4.outState 18 = 1 ∨ case75_4.outState 18 = 3) ∧ case75_4.burnState (case75_4.outBurnOf 18) = 3) ∧
    (case75_5.on F.SYN_SYNC_ST_ARMED = true) ∧
    (case75_6.on F.SYN_SYNC_ST_ARMED = false) ∧
    (Acts case75_7 { detached := false, id := 7, ent := ent 5 2 50 125000 : State.Occ } 7 5) ∧
    (2 < 8 ∧ (case75_8.pin (16 + 2)).pulseEnd = some (600, 4)) ∧
    (2 < 8 ∧ case75_9.time.running = true ∧ case75_9.outMode (16 + 2) = 2 ∧ case75_9.outState (16 + 2) = 2) :=
  by
    iterate 4 refine ⟨by decide +kernel, ?_⟩
    refine ⟨by unfold Acts; decide +kernel, ?_⟩
    refine ⟨by decide +kernel, ?_⟩
    decide +kernel

/-- The hypotheses of Obligations.MediaPorts are met, clause by clause. -/
theorem witness_MediaPorts :
    (case75_10.aesUp 1 = true ∧ case75_10.get (F.OUT_AES_CFG_MODE 1) ≠ 0) ∧
    (case75_10.aesUp 1 = true ∧ case75_10.get (F.OUT_AES_CFG_MODE 1) ≠ 0) ∧
    (case75_10.aesUp 1 = true ∧ case75_10.time.running = true) ∧
    (case75_11.aesUp 1 = true ∧ case75_11.time.running = true ∧ (case75_11.aes 1).tx = 3) :=
  by
    iterate 3 refine ⟨by decide +kernel, ?_⟩
    decide +kernel

/-- The hypotheses of Obligations.TimeOfDayOutputs are met, clause by clause. -/
theorem witness_TimeOfDayOutputs :
    (1 < 4 ∧
       bitOf ((todo 0 { msg := none, req := none : TodOutSt }).get (F.REF_TODOUT_CFG_UART 1)) 0 = true ∧
         (todo 0 { msg := none, req := none : TodOutSt }).todEdge 1 99 = some 77 ∧
           Room (todo 0 { msg := none, req := none : TodOutSt }) 10) ∧
    (OutCell case75_12 10 4 { typ := 4, len := 9, bytes := 1 + 256 * 3 + 2 ^ 32 * 3359829 : Cell } [] ∧
       (case75_12.todOut
             (State.cellBytes { typ := 4, len := 9, bytes := 1 + 256 * 3 + 2 ^ 32 * 3359829 : Cell }.bytes 0 1 % 4)).req =
         some 77) ∧
    (1 < 4 ∧ bitOf (case75_13.get (F.REF_TODOUT_CFG_UART 1)) 0 = true ∧ (case75_13.todOut 1).msg = some (3, 3359829, 900)) :=
  by
    refine ⟨by unfold Room; decide +kernel, ?_⟩
    refine ⟨by unfold OutCell; decide +kernel, ?_⟩
    decide +kernel

/-- The hypotheses of Obligations.KernelAndTick are met, clause by clause. -/
theorem witness_KernelAndTick :
    ((kern 2).time.running = true ∧ (kern 2).on F.TSK_ANNEAL_ST_ACTIVE = true ∧ (kern 2).time.annS ≠ 0) ∧
    ((kern 2).tsk.arm = some (10, 5, 3) ∧ 0 < Machine.sdiff 3 ((kern 2).time.tickNs % 2 ^ 64)) ∧
    ((kern 3).get F.TSK_STAT_STATE = 3 ∧ (kern 3).engQuenched 11 = false ∧ (kern 3).tsk.modelTick + 1000 ≤ (kern 3).tsk.bnd) ∧
    ((kern 2).get F.TSK_STAT_STATE = 2 ∧ (kern 2).get F.TSK_HOLD_CFG_MODEL_MIN * 3600000 ≤ (kern 2).tsk.lockedRun) ∧
    ((kern 2).engQuenched 11 = false) ∧
    ((kern 2).engQuenched 11 = false) ∧
    (case30_1.on F.TSK_HOLD_CFG_TC_LEARN = true ∧
       case30_1.get F.TSK_STAT_STATE = 2 ∧
         case30_1.engQuenched 11 = false ∧
           (∀ (n : ℕ), case30_1.tsk.learnTick = some n → n + 3600000 ≤ case30_1.time.tickNo) ∧
             80 ≤ 80 ∧ case30_1.get F.TSK_HOLD_CFG_MODEL_MIN ≤ 400) ∧
    ((kern 2).get F.TSK_EFC_CFG_MODE = 1 ∧
       (kern 2).engQuenched 11 = false ∧
         (kern 2).get F.TSK_EFC_CFG_PERIOD * 1000 ≤ (kern 2).tsk.efcTicks ∧
           ((kern 2).get F.TSK_STAT_STATE = 1 ∨ (kern 2).get F.TSK_STAT_STATE = 2 ∨ (kern 2).get F.TSK_STAT_STATE = 4)) ∧
    (case30_2.get F.TSK_EFC_CFG_MODE ≠ 0 ∧
       case30_2.engQuenched 11 = false ∧
         case30_2.get F.TSK_EFC_CFG_PERIOD * 1000 ≤ case30_2.tsk.efcTicks ∧
           case30_2.get F.TSK_STAT_STATE = 3 ∧ case30_2.get F.TSK_STAT_HOLD_ACT = 2 ∧ case30_2.getI F.TSK_EFC_GAIN_GAIN ≠ 0) ∧
    ((ticking (kern 2)).tickEnt = some (0, ent 1 0 1000000 1000000) ∧ (ticking (kern 2)).pow.held = false) ∧
    (obs.tickEnt = none ∧ obs.sch.updWait = 0) :=
  by
    iterate 10 refine ⟨by decide +kernel, ?_⟩
    decide +kernel

/-- The hypotheses of Obligations.RegisterWrites are met, clause by clause. -/
theorem witness_RegisterWrites :
    (ring fnWork).pow.held = false ∧
      516 % 4 = 0 ∧
        provPlace 516 =
            Place.reg (named 516).1 (named 516).2.1 (named 516).2.2.1 (named 516).2.2.2.1 (named 516).2.2.2.2 ∧
          absentReg (ring fnWork).part (named 516).1 (named 516).2.1 = false ∧
            State.hiddenEng (named 516).1 (named 516).2.1 = false ∧
              (named 516).1.words[(named 516).2.2.2.1]? = some (wordOf 516) ∧
                (wordOf 516).rws ≠ 0 ∧
                  (wordOf 516).rw = 0 ∧
                    (wordOf 516).rwv = 0 ∧
                      (wordOf 516).rwp = 0 ∧
                        (wordOf 516).w1 = 0 ∧
                          (named 516).1.id ∉ [RegId.SCH_STG, RegId.SCH_CMD, RegId.ASY_SRC_CFG, RegId.SYS_UPD_STROBE] ∧
                            perFn (named 516).2.2.2.2 = false :=
  by decide +kernel

/-- The hypotheses of Obligations.BoundFloats are met, clause by clause. -/
theorem witness_BoundFloats :
    (67108863 < 2 ^ 48 - 1) ∧
    (67108863 < 2 ^ 48) ∧
    (4294967295 < 2 ^ 32) ∧
    (2 ^ 48 - 1 ≤ 2 ^ 48 - 1) :=
  by
    iterate 3 refine ⟨by decide +kernel, ?_⟩
    decide +kernel

/-- The hypotheses of Obligations.StepRunsFront are met, clause by clause. -/
theorem witness_StepRunsFront :
    base.pending = [] :=
  by decide +kernel

/-- The hypotheses of Obligations.CanonicalInvariant are met, clause by clause. -/
theorem witness_CanonicalInvariant :
    base.Canonical ∧ step base = .next (base.advance 1) :=
  ⟨by unfold State.Canonical; decide +kernel, rfl⟩

end Sys2Proof.Tests
end

section
/-!
The dead time of a channel (R87, O46). An edge within it does what the first clause says (`refEdge_withinDeadTime`); an edge
past it is accepted and leaves TIC_DEAD exactly as it was (`refEdge_pastDeadTime`). The second clause writes that last part as
`Counts … 0`, which asks for the old value modulo 2^64: a state whose TIC_DEAD holds 2^64 or more refutes it.
-/

open Sys2Proof Sys2Proof.Machine Sys2Proof.Claims

namespace Sys2Proof.Proofs

/-! ## Counters -/

/-- The counters that a sample itself counts (R448). -/
def selfCounted : List Nat := [0x019, 0x600, 0x603, 0x605, 0x606]

theorem counter_bump (s : State) (i n j : Nat) :
    (s.bump i n).counter j = if j = i then (s.counter i + n) % 2 ^ 64 else s.counter j := by
  simp only [State.counter, State.bump, alGet_alSet]
  split_ifs <;> rfl

theorem counter_pushTrace (s : State) (ty src sh fr p j : Nat) : (s.pushTrace ty src sh fr p).1.counter j = s.counter j := by
  unfold State.pushTrace
  dsimp only
  split
  · rfl
  · split <;> rfl

theorem counter_pushEv (s : State) (n : Nat) (r : EvRec) (j : Nat) : (s.pushEv n r).1.counter j = s.counter j := by
  unfold State.pushEv
  dsimp only
  repeat' split
  all_goals rfl

theorem counter_signalSample (s : State) (j : Nat) : s.signalSample.counter j = s.counter j := by
  unfold State.signalSample
  dsimp only
  split <;> rfl

theorem counter_setSlot (s : State) (k : Nat) (x : Slot) (j : Nat) : (s.setSlot k x).counter j = s.counter j := rfl

/-- A sampling slot moves no counter besides those that `more` moves. -/
theorem counter_slotStep {more : State → Nat → State} {j : Nat}
    (hm : ∀ s, ∀ k ∈ selfCounted, (more s k).counter j = s.counter j) (i n : Nat) (s : State) (m : Nat) :
    (State.slotStep more i n s m).counter j = s.counter j := by
  unfold State.slotStep
  dsimp only
  repeat' split
  all_goals simp (disch := decide) only [hm, counter_setSlot, counter_signalSample, counter_pushTrace, counter_pushEv]

theorem counter_countF {j : Nat} (hj : j ∉ selfCounted) : ∀ (k : Nat) (s : State) (i n : Nat),
    (State.countF k s i n).counter j = if j = i then (s.counter i + n) % 2 ^ 64 else s.counter j
  | 0, s, i, n => counter_bump s i n j
  | k + 1, s, i, n => by
    have hm : ∀ s, ∀ c ∈ selfCounted, (State.countF k s c 1).counter j = s.counter j := fun s c hc =>
      (counter_countF hj k s c 1).trans (if_neg (by rintro rfl; exact hj hc))
    have hslots : ∀ (l : List Nat) (u : State),
        (l.foldl (State.slotStep (fun s k' => State.countF k s k' 1) i n) u).counter j = u.counter j := by
      intro l
      induction l with
      | nil => exact fun _ => rfl
      | cons a t ih => exact fun u => (ih _).trans (counter_slotStep hm i n u a)
    exact (hslots _ _).trans (counter_bump s i n j)

theorem counter_count_self (s : State) {i : Nat} (hi : i ∉ selfCounted) :
    (s.count i).counter i = (s.counter i + 1) % 2 ^ 64 :=
  (counter_countF hi 9 s i 1).trans (if_pos rfl)

theorem counter_count_ne (s : State) {i j : Nat} (hj : j ∉ selfCounted) (h : j ≠ i) : (s.count i).counter j = s.counter j :=
  (counter_countF hj 9 s i 1).trans (if_neg h)

/-! ## Register words -/

theorem word_set_of_ne (s : State) (f : Fld) (v k : Nat) (hk : ∀ i < Store.span f, k ≠ f.a + 4 * i) :
    (s.set f v).regs.word k = s.regs.word k :=
  Store.word_putWords_out _ _ _ _ _ hk

theorem join_congr {a b : Store} : ∀ {n k : Nat},
    (∀ i < n, a.word (k + 4 * i) = b.word (k + 4 * i)) → a.join k n = b.join k n
  | 0, _, _ => rfl
  | n + 1, k, h => by
    have hhead : a.word k = b.word k := h 0 (Nat.succ_pos n)
    have htail : a.join (k + 4) n = b.join (k + 4) n := join_congr fun i hi => by
      have := h (i + 1) (Nat.succ_lt_succ hi)
      rwa [show k + 4 * (i + 1) = k + 4 + 4 * i by omega] at this
    simp only [Store.join, hhead, htail]

theorem get_congr {s t : State} (f : Fld) (h : ∀ i < Store.span f, t.regs.word (f.a + 4 * i) = s.regs.word (f.a + 4 * i)) :
    t.get f = s.get f := by
  simp only [State.get, Store.get, join_congr h]

/-- The key of the status word of a source. -/
theorem words_edgeFlds (src : Nat) : words (edgeFlds src) = [0x100 + 4 * src] := by
  simp [words, edgeFlds, Store.span, List.range_one]

/-- A field that lies apart from the status word of a source reads as before an edge. -/
theorem get_of_sameRegs {s t : State} {src : Nat} (h : SameRegs (words (edgeFlds src)) s t) (f : Fld)
    (hf : ∀ i < Store.span f, f.a + 4 * i ≠ 0x100 + 4 * src) : t.get f = s.get f :=
  get_congr f fun i hi => h _ (by simpa [words_edgeFlds] using hf i hi)

/-! ## What an edge does before it reaches a channel (R73, R75, R85, R95) -/

theorem ticCh_setTic (s : State) (c : Nat) (x : TicSt) : (s.setTic c x).ticCh c = x := by
  simp [State.ticCh, State.setTic]

theorem ticCh_setTic_ne (s : State) {c d : Nat} (x : TicSt) (h : d ≠ c) : (s.setTic c x).ticCh d = s.ticCh d := by
  simp [State.ticCh, State.setTic, alGet_alSet_ne _ _ h]

theorem src_setSrc (s : State) (n : Nat) (x : SrcSt) : (s.setSrc n x).src n = x := by
  simp [State.src, State.setSrc]

/-- The pin's activity is noted in an open window of the source's channel, if anywhere. -/
theorem pinActivity_cases (s : State) (src : Nat) :
    s.pinActivity src = s ∨ ∃ ch w, s.pinActivity src = s.setTic ch { s.ticCh ch with win := some w } := by
  unfold State.pinActivity
  split
  · split
    · split
      · exact .inl rfl
      · exact .inr ⟨_, _, rfl⟩
    · exact .inl rfl
  · exact .inl rfl

theorem irigEdge_cases (s : State) (n : Nat) (falling : Bool) :
    s.irigEdge n falling = s ∨ ∃ x, s.irigEdge n falling = s.setIrig n x := by
  unfold State.irigEdge
  dsimp only
  split
  · exact .inl rfl
  split
  · exact .inr ⟨_, rfl⟩
  split
  · exact .inl rfl
  split
  · split <;> exact .inr ⟨_, rfl⟩
  · split <;> exact .inr ⟨_, rfl⟩

/-- The state once the pin of a source has seen an edge. -/
def pinSeen (s : State) (src : Nat) (falling : Bool) : State := (s.pinActivity src).irigEdge src falling

/-- What the pin's edge leaves alone: all but the windows, the decoders. -/
theorem pinSeen_keeps (s : State) (src : Nat) (falling : Bool) :
    (pinSeen s src falling).regs = s.regs ∧ (pinSeen s src falling).time = s.time ∧
      (pinSeen s src falling).obs = s.obs ∧ (pinSeen s src falling).refin.srcs = s.refin.srcs := by
  have hpin : (s.pinActivity src).regs = s.regs ∧ (s.pinActivity src).time = s.time ∧
      (s.pinActivity src).obs = s.obs ∧ (s.pinActivity src).refin.srcs = s.refin.srcs := by
    obtain h | ⟨ch, w, h⟩ := pinActivity_cases s src <;> rw [h] <;> exact ⟨rfl, rfl, rfl, rfl⟩
  obtain h | ⟨x, h⟩ := irigEdge_cases (s.pinActivity src) src falling <;> rw [pinSeen, h] <;> exact hpin

theorem pinSeen_ticCh (s : State) (src : Nat) (falling : Bool) (ch : Nat) :
    ∃ w, (pinSeen s src falling).ticCh ch = { s.ticCh ch with win := w } := by
  have htic : (pinSeen s src falling).ticCh ch = (s.pinActivity src).ticCh ch := by
    obtain h | ⟨x, h⟩ := irigEdge_cases (s.pinActivity src) src falling
    · rw [pinSeen, h]
    · rw [pinSeen, h]; rfl
  rw [htic]
  obtain h | ⟨c, w, h⟩ := pinActivity_cases s src
  · exact ⟨(s.ticCh ch).win, by rw [h]⟩
  · by_cases hc : ch = c
    · subst hc
      exact ⟨some w, by rw [h, ticCh_setTic]⟩
    · exact ⟨(s.ticCh ch).win, by rw [h, ticCh_setTic_ne _ _ hc]⟩

/-- What an edge that the prescaler passes does to its source (R73, R75). -/
def passPrescaler (u : State) (src : Nat) : State :=
  let v := u.setSrc src ⟨0, u.ns, decide (src < 16), if u.on (F.REF_SRC_STAT_LOS src) then u.ns else (u.src src).okAt⟩
  let v := (v.add (F.REF_SRC_STAT_EDGES src) 1).count (0x040 + src)
  if src < 16 then v.set (F.REF_SRC_STAT_LOS src) 0 else v

/-- The state as an edge that the prescaler passes reaches its channel. -/
def edgeArrived (s : State) (src : Nat) (falling : Bool) : State := passPrescaler (pinSeen s src falling) src

theorem exec_refEdge_of_passes {s : State} {src ch : Nat} {falling : Bool} (code : Nat) (h : EdgePasses s src falling ch) :
    exec (.refEdge src falling code) s = .next ((edgeArrived s src falling).channelEdge src falling code) := by
  obtain ⟨hsrc, hrun, hpresent, htaken, hpre, -, -⟩ := h
  obtain ⟨hregs, -, -, hsrcs⟩ := pinSeen_keeps s src falling
  have hget : ∀ f, (pinSeen s src falling).get f = s.get f := fun f => by simp only [State.get, hregs]
  have htaken' : (pinSeen s src falling).edgeTaken src falling = true := by
    rw [← htaken]; simp only [State.edgeTaken, hget]
  have hlast : ¬ ((pinSeen s src falling).src src).sel + 1 < (pinSeen s src falling).get (F.REF_IN_PRE_DIV src) := by
    have hsel : (pinSeen s src falling).src src = s.src src := by simp only [State.src, hsrcs]
    rw [hsel, hget]; omega
  simp only [pinSeen] at htaken' hlast
  show execRefEdge src falling code s = _
  unfold execRefEdge edgeArrived passPrescaler pinSeen
  rw [if_pos (by simp [hsrc, hrun, hpresent])]
  dsimp only
  rw [htaken', if_neg (by simp), if_neg hlast]

/-- LOS and EDGES lie apart in the status word of a source. -/
theorem get_edges_set_los (u : State) (src v : Nat) :
    (u.set (F.REF_SRC_STAT_LOS src) v).get (F.REF_SRC_STAT_EDGES src) = u.get (F.REF_SRC_STAT_EDGES src) :=
  State.get_set_bits _ _ _ _ rfl (by simp [Store.span]) (by simp)

theorem get_los_set_edges (u : State) (src v : Nat) :
    (u.set (F.REF_SRC_STAT_EDGES src) v).get (F.REF_SRC_STAT_LOS src) = u.get (F.REF_SRC_STAT_LOS src) :=
  State.get_set_bits _ _ _ _ rfl (by simp [Store.span]) (by simp)

section
variable (u : State) (src : Nat)

theorem passPrescaler_time : (passPrescaler u src).time = u.time := by
  unfold passPrescaler
  dsimp only
  split <;> simp

theorem passPrescaler_tic : (passPrescaler u src).tic = u.tic := by
  unfold passPrescaler
  dsimp only
  split <;> simp

theorem passPrescaler_src : (passPrescaler u src).src src =
    ⟨0, u.ns, decide (src < 16), if u.on (F.REF_SRC_STAT_LOS src) then u.ns else (u.src src).okAt⟩ := by
  rw [← src_setSrc u src ⟨0, u.ns, decide (src < 16), if u.on (F.REF_SRC_STAT_LOS src) then u.ns else (u.src src).okAt⟩]
  unfold passPrescaler State.src
  dsimp only
  split <;> simp

theorem passPrescaler_edges : (passPrescaler u src).get (F.REF_SRC_STAT_EDGES src) =
    (u.get (F.REF_SRC_STAT_EDGES src) + 1) % 2 ^ 16 := by
  unfold passPrescaler
  dsimp only
  split
  · rw [get_edges_set_los, State.count_get, State.add, State.get_set_self, State.setSrc_get]
  · rw [State.count_get, State.add, State.get_set_self, State.setSrc_get]

theorem passPrescaler_los : (passPrescaler u src).on (F.REF_SRC_STAT_LOS src) =
    if src < 16 then false else u.on (F.REF_SRC_STAT_LOS src) := by
  unfold passPrescaler State.on
  dsimp only
  split
  · rw [State.get_set_self]; rfl
  · rw [State.count_get, State.add, get_los_set_edges, State.setSrc_get]

/-- An edge writes the status word of its source. -/
theorem passPrescaler_sameRegs : SameRegs (words (edgeFlds src)) u (passPrescaler u src) := by
  intro k hk
  have hk : k ≠ 0x100 + 4 * src := by simpa [words_edgeFlds] using hk
  have hlos : ∀ (x : State) v, (x.set (F.REF_SRC_STAT_LOS src) v).regs.word k = x.regs.word k := fun x v =>
    State.word_set x _ v k (by simp [Store.span]) hk
  have hedges : ∀ (x : State) v, (x.set (F.REF_SRC_STAT_EDGES src) v).regs.word k = x.regs.word k := fun x v =>
    State.word_set x _ v k (by simp [Store.span]) hk
  unfold passPrescaler
  dsimp only
  split
  · rw [hlos, State.count_regs, State.add, hedges, State.setSrc_regs]
  · rw [State.count_regs, State.add, hedges, State.setSrc_regs]

/-- An edge counts in the counter of its source. -/
theorem passPrescaler_counter {j : Nat} (hj : j ∉ selfCounted) :
    (passPrescaler u src).counter j = if j = 0x040 + src then (u.counter j + 1) % 2 ^ 64 else u.counter j := by
  have hcount : ∀ v : State, v.obs = u.obs →
      (v.count (0x040 + src)).counter j = if j = 0x040 + src then (u.counter j + 1) % 2 ^ 64 else u.counter j := by
    intro v hv
    have hsame : ∀ k, v.counter k = u.counter k := fun k => by simp only [State.counter, hv]
    split
    · next h => subst h; rw [counter_count_self v hj, hsame]
    · next h => rw [counter_count_ne v hj h, hsame]
  unfold passPrescaler
  dsimp only
  split <;> exact hcount _ rfl

end

section
variable (s : State) (src : Nat) (falling : Bool)

theorem edgeArrived_time : (edgeArrived s src falling).time = s.time := by
  obtain ⟨-, htime, -, -⟩ := pinSeen_keeps s src falling
  rw [edgeArrived, passPrescaler_time, htime]

theorem edgeArrived_ticCh (ch : Nat) : ∃ w, (edgeArrived s src falling).ticCh ch = { s.ticCh ch with win := w } := by
  simpa only [State.ticCh, edgeArrived, passPrescaler_tic] using pinSeen_ticCh s src falling ch

theorem edgeArrived_sameRegs : SameRegs (words (edgeFlds src)) s (edgeArrived s src falling) := by
  obtain ⟨hregs, -, -, -⟩ := pinSeen_keeps s src falling
  intro k hk
  rw [edgeArrived, passPrescaler_sameRegs _ src k hk, hregs]

theorem edgeArrived_counter {j : Nat} (hj : j ∉ selfCounted) :
    (edgeArrived s src falling).counter j = if j = 0x040 + src then (s.counter j + 1) % 2 ^ 64 else s.counter j := by
  obtain ⟨-, -, hobs, -⟩ := pinSeen_keeps s src falling
  have hsame : (pinSeen s src falling).counter j = s.counter j := by simp only [State.counter, hobs]
  rw [edgeArrived, passPrescaler_counter _ src hj, hsame]

end

/-- The counter of a source's edges is none that a sample counts. -/
theorem edgeCounter_notMem {src : Nat} (h : src < 24) : 0x040 + src ∉ selfCounted := by
  simp [selfCounted]; omega

theorem edgeArrived_seen (s : State) {src : Nat} (falling : Bool) (hsrc : src < 24) :
    EdgeSeen s (edgeArrived s src falling) src := by
  obtain ⟨hregs, htime, -, hsrcs⟩ := pinSeen_keeps s src falling
  have hget : ∀ f, (pinSeen s src falling).get f = s.get f := fun f => by simp only [State.get, hregs]
  have hon : ∀ f, (pinSeen s src falling).on f = s.on f := fun f => by simp only [State.on, hget]
  have hns : (pinSeen s src falling).ns = s.ns := by simp only [State.ns, htime]
  have hsource : (pinSeen s src falling).src src = s.src src := by simp only [State.src, hsrcs]
  refine ⟨?_, ?_, ?_, (edgeArrived_counter s src falling (edgeCounter_notMem hsrc)).trans (if_pos rfl)⟩
  · rw [edgeArrived, passPrescaler_edges, hget]
  · rw [edgeArrived, passPrescaler_los, hon]
  · rw [edgeArrived, passPrescaler_src, hns, hon, hsource]
/-! ## What an edge finds at its channel -/

/-- The status words of the sources lie below key 0x160. -/
theorem get_above_status {s t : State} {src : Nat} (h : SameRegs (words (edgeFlds src)) s t) (hsrc : src < 24) {f : Fld}
    (hf : 0x160 ≤ f.a) : t.get f = s.get f :=
  get_of_sameRegs h f fun i _ => by omega

theorem rawStamp_congr {s t : State} {ch : Nat} (c n : Nat) (htime : t.time = s.time)
    (hwidth : (t.ticCh ch).width = (s.ticCh ch).width) (hadj : t.get F.TSK_FREQ_ADJ_FREQ_ADJ = s.get F.TSK_FREQ_ADJ_FREQ_ADJ) :
    t.rawStamp ch c n = s.rawStamp ch c n := by
  have hstep : t.baseStep = s.baseStep := by simp only [State.baseStep, State.getI, hadj]
  have hann : ∀ k, t.annealed k = s.annealed k := fun k => by simp only [State.annealed, htime]
  have hcore : (t.advance n).time = (s.advance n).time := by
    simp only [State.advance, State.coreIn, htime, hstep, hann]
    split
    · rfl
    · exact htime
  have hadd : (t.advance n).addend = (s.advance n).addend := by
    have hbase : ∀ u : State, (u.advance n).baseStep = u.baseStep := fun u => by unfold State.advance; split <;> rfl
    simp only [State.addend, State.annealed, hbase, hstep, hcore]
  simp only [State.rawStamp, State.ticCum, State.ticWidth, hwidth, hcore, hadd]

section
variable {s : State} {src ch : Nat} {falling : Bool}

theorem edgeArrived_chOf : (edgeArrived s src falling).chOf src = s.chOf src := by
  unfold State.chOf
  refine List.find?_congr fun c hc => ?_
  have hc : c < 16 := List.mem_range.mp hc
  rw [get_of_sameRegs (edgeArrived_sameRegs s src falling) _ fun i hi => ?_]
  simp [Store.span] at hi ⊢
  omega

theorem edgeArrived_ticOn (hsrc : src < 24) : (edgeArrived s src falling).ticOn ch = s.ticOn ch := by
  have hget : ∀ f : Fld, 0x160 ≤ f.a → (edgeArrived s src falling).get f = s.get f := fun f hf =>
    get_above_status (edgeArrived_sameRegs s src falling) hsrc hf
  simp only [State.ticOn, State.on, State.pdUp, hget _ (show 0x160 ≤ (F.TIC_CH_CFG_EN ch).a by simp; omega),
    hget F.SYS_PD_ST_PG (by decide)]

theorem edgeAt16_edgeArrived (hsrc : src < 24) (code : Nat) :
    edgeAt16 (edgeArrived s src falling) ch code = edgeAt16 s ch code := by
  obtain ⟨w, hch⟩ := edgeArrived_ticCh s src falling ch
  exact congrArg roundRat (rawStamp_congr _ _ (edgeArrived_time s src falling) (by rw [hch])
    (get_above_status (edgeArrived_sameRegs s src falling) hsrc (by decide)))

end

theorem channel_lt_sixteen {s : State} {src ch : Nat} {falling : Bool} (h : EdgePasses s src falling ch) : ch < 16 := by
  obtain ⟨-, -, -, -, -, hch, -⟩ := h
  exact List.mem_range.mp (List.mem_of_find?_eq_some hch)

section
variable {s u : State} {src ch code : Nat} {falling : Bool} (h : EdgePasses s src falling ch)
include h

/-- An edge that its channel does not time ends with what the channel does. -/
theorem channelEdge_untimed (hu : (edgeArrived s src falling).ticEdge ch falling code = (u, none)) :
    (edgeArrived s src falling).channelEdge src falling code = u := by
  obtain ⟨hsrc, -, -, -, -, hch, hon⟩ := h
  unfold State.channelEdge
  rw [edgeArrived_chOf, hch]
  dsimp only
  rw [if_pos ((edgeArrived_ticOn hsrc).trans hon), hu]

/-- An edge that its channel times waits for the coming tick boundary, or is stamped (R86). -/
theorem channelEdge_timed {n : Nat} (hu : (edgeArrived s src falling).ticEdge ch falling code = (u, some n)) :
    (edgeArrived s src falling).channelEdge src falling code =
      if u.overBoundary then
        { u with tic := { u.tic with cross := u.tic.cross ++ [⟨ch, src, falling, code, u.time.cyc, n⟩] } }
      else u.stamped ch src falling (u.stampOf ch code 2) n := by
  obtain ⟨hsrc, -, -, -, -, hch, hon⟩ := h
  unfold State.channelEdge
  rw [edgeArrived_chOf, hch]
  dsimp only
  rw [if_pos ((edgeArrived_ticOn hsrc).trans hon), hu]

end

/-- What an edge has done to its source stands in the status word, the source's own state and its counter. -/
theorem edgeSeen_of_same {s a t : State} {src : Nat} (h : EdgeSeen s a src)
    (hword : t.regs.word (0x100 + 4 * src) = a.regs.word (0x100 + 4 * src)) (hsource : t.src src = a.src src)
    (hcount : t.counter (0x040 + src) = a.counter (0x040 + src)) : EdgeSeen s t src := by
  obtain ⟨hedges, hlos, hst, hcnt⟩ := h
  have hget : ∀ f : Fld, f.a = 0x100 + 4 * src → Store.span f = 1 → t.get f = a.get f := fun f ha hs =>
    get_congr f fun i hi => by
      obtain rfl : i = 0 := by omega
      simpa only [ha, Nat.mul_zero, Nat.add_zero] using hword
  refine ⟨?_, ?_, hsource.trans hst, hcount.trans hcnt⟩
  · rw [hget _ rfl (by simp [Store.span]), hedges]
  · rw [← hlos]
    simp only [State.on, hget (F.REF_SRC_STAT_LOS src) rfl (by simp [Store.span])]

/-- A gate takes an edge, and the rest of its channel stays. -/
theorem gateEdge_eq (s : State) (ch : Nat) (pt : Option Int) (gap : Bool) : ∃ x, s.gateEdge ch pt gap = s.setTic ch x ∧
    gateAs x (s.ticCh ch) = s.ticCh ch ∧ x.gate = (s.ticCh ch).gate.map (fun g => s.gatePoint ch g (pt, gap)) := by
  unfold State.gateEdge
  dsimp only
  split <;> exact ⟨_, rfl, rfl, rfl⟩

/-! ## An edge within the dead time -/

/-- A dead-time edge in a gate: the gate counts it and has no point and no gap of it. -/
theorem gatePoint_dead (s : State) (ch : Nat) (g : Gate) : s.gatePoint ch g (none, false) = { g with k := g.k + 1 } := by
  simp [State.gatePoint]

/-- A channel takes no edge within 16 ns of the last accepted one: DCOUNT, an open gate and TIC_DEAD count it. -/
theorem ticEdge_blind {s : State} {ch code : Nat} {last : Int} (falling : Bool) (hlast : (s.ticCh ch).lastEdge = some last)
    (h : edgeAt16 s ch code < last + 16 * 65536) :
    ∃ y z, s.ticEdge ch falling code = (((s.setTic ch y).setTic ch z).tcnt ch 4, none) ∧
      gateAs z (s.ticCh ch) = { s.ticCh ch with dcount := (s.ticCh ch).dcount + 1 } ∧
      z.gate = (s.ticCh ch).gate.map (fun g => { g with k := g.k + 1 }) := by
  obtain ⟨z, hz, hrest, hgate⟩ :=
    gateEdge_eq (s.setTic ch { s.ticCh ch with dcount := (s.ticCh ch).dcount + 1 }) ch none false
  rw [ticCh_setTic] at hrest hgate
  simp only [gatePoint_dead] at hgate
  refine ⟨{ s.ticCh ch with dcount := (s.ticCh ch).dcount + 1 }, z, ?_, hrest, hgate⟩
  have hdead : (s.ticCh ch).lastEdge.any
      (fun l => decide (roundRat (s.rawStamp ch (code % 4096) 2) < l + 16 * 65536)) = true := by
    rw [hlast]
    exact decide_eq_true h
  unfold State.ticEdge
  dsimp only
  rw [if_pos hdead, hz]

/-- TIC_DEAD is none of the counters that a sample counts. -/
theorem deadCounter_notMem {ch : Nat} (h : ch < 16) : 0x084 + 16 * ch ∉ selfCounted := by
  simp [selfCounted]; omega

theorem tcnt_dead (s : State) (ch : Nat) : s.tcnt ch 4 = s.count (0x084 + 16 * ch) := by
  rw [State.tcnt]
  congr 1
  omega

/-- R87, an edge less than 16 ns after the last accepted one: counted and not accepted. -/
theorem refEdge_withinDeadTime {s : State} {src code ch : Nat} {falling : Bool} {last : Int} (h : EdgePasses s src falling ch)
    (hlast : (s.ticCh ch).lastEdge = some last) (hblind : edgeAt16 s ch code < last + 16 * 65536) :
    Does (.refEdge src falling code) s fun t =>
      EdgeSeen s t src ∧ SameRegs (words (edgeFlds src)) s t ∧ Counts s t (0x084 + 16 * ch) 1 ∧
      { gateAs (t.ticCh ch) (s.ticCh ch) with win := (s.ticCh ch).win } =
        { s.ticCh ch with dcount := (s.ticCh ch).dcount + 1 } ∧
      ((s.ticCh ch).gate = none → (t.ticCh ch).gate = none) ∧
      (∀ g, (s.ticCh ch).gate = some g → (t.ticCh ch).gate = some { g with k := g.k + 1 }) := by
  have hsrc : src < 24 := h.1
  have hch := channel_lt_sixteen h
  obtain ⟨w, hx⟩ := edgeArrived_ticCh s src falling ch
  obtain ⟨y, z, hedge, hrest, hgate⟩ := ticEdge_blind (s := edgeArrived s src falling) (code := code) falling
    (by rw [hx]; exact hlast) (by rw [edgeAt16_edgeArrived hsrc]; exact hblind)
  rw [hx] at hrest hgate
  refine ⟨(((edgeArrived s src falling).setTic ch y).setTic ch z).tcnt ch 4, ?_, ?_, ?_, ?_, ?_⟩
  · rw [exec_refEdge_of_passes code h, channelEdge_untimed h hedge]
  · refine edgeSeen_of_same (edgeArrived_seen s falling hsrc) (by simp [State.tcnt]) (by simp [State.tcnt, State.src]) ?_
    exact counter_count_ne _ (edgeCounter_notMem hsrc) (by omega)
  · intro k hk
    rw [← edgeArrived_sameRegs s src falling k hk]
    simp [State.tcnt]
  · have hwas : (edgeArrived s src falling).counter (0x084 + 16 * ch) = s.counter (0x084 + 16 * ch) :=
      (edgeArrived_counter s src falling (deadCounter_notMem hch)).trans (if_neg (by omega))
    rw [tcnt_dead, Counts, ← hwas]
    exact counter_count_self _ (deadCounter_notMem hch)
  · have hz : ((((edgeArrived s src falling).setTic ch y).setTic ch z).tcnt ch 4).ticCh ch = z := by
      simpa [State.tcnt, State.ticCh] using ticCh_setTic ((edgeArrived s src falling).setTic ch y) ch z
    rw [hz]
    refine ⟨?_, fun hg => by simpa [hg] using hgate, fun g hg => by simpa [hg] using hgate⟩
    exact congrArg (fun x : TicSt => { gateAs x (s.ticCh ch) with win := (s.ticCh ch).win }) hrest

/-! ## An edge past the dead time -/

/-- What the clause on an edge past the dead time looks at: the status word of source src, its own state, its edge counter,
TIC_DEAD of channel ch, and the channel's last accepted edge. -/
def edgeView (src ch : Nat) (s : State) : Word × SrcSt × Nat × Nat × Option Int :=
  (s.regs.word (0x100 + 4 * src), s.src src, s.counter (0x040 + src), s.counter (0x084 + 16 * ch), (s.ticCh ch).lastEdge)

section
variable {src ch : Nat} (s : State)

theorem edgeView_setTic (x : TicSt) : edgeView src ch (s.setTic ch x) =
    (s.regs.word (0x100 + 4 * src), s.src src, s.counter (0x040 + src), s.counter (0x084 + 16 * ch), x.lastEdge) := by
  unfold edgeView
  rw [ticCh_setTic]
  rfl

theorem edgeView_setTic_same (x : TicSt) (h : x.lastEdge = (s.ticCh ch).lastEdge) :
    edgeView src ch (s.setTic ch x) = edgeView src ch s := by
  rw [edgeView_setTic, h, edgeView]

theorem edgeView_gateEdge (pt : Option Int) (gap : Bool) : edgeView src ch (s.gateEdge ch pt gap) = edgeView src ch s := by
  obtain ⟨x, hx, hrest, -⟩ := gateEdge_eq s ch pt gap
  have hlast : (gateAs x (s.ticCh ch)).lastEdge = (s.ticCh ch).lastEdge := by rw [hrest]
  rw [hx, edgeView_setTic_same s x hlast]

theorem edgeView_setRef (r : Nat) (x : RefSt) : edgeView src ch (s.setRef r x) = edgeView src ch s := rfl

theorem edgeView_deliver (m : Meas) : edgeView src ch (s.deliver m) = edgeView src ch s := rfl

theorem edgeView_setIrig (n : Nat) (x : IrigSt) : edgeView src ch (s.setIrig n x) = edgeView src ch s := rfl

theorem edgeView_setTod (i : Nat) (x : TodSt) : edgeView src ch (s.setTod i x) = edgeView src ch s := rfl

theorem edgeView_cross (l : List CrossEdge) :
    edgeView src ch { s with tic := { s.tic with cross := l } } = edgeView src ch s := rfl

theorem edgeView_markDate (c at_ : Nat) : edgeView src ch (s.markDate c at_) = edgeView src ch s := by
  unfold State.markDate
  split
  · split <;> rfl
  · rfl

theorem edgeView_stampMeas (c n : Nat) (v : Int) : edgeView src ch (s.stampMeas c n v) = edgeView src ch s := by
  unfold State.stampMeas
  dsimp only
  split
  · rfl
  · rfl
  · split
    · rfl
    · split <;> rfl

end

section
variable {src ch : Nat} (hsrc : src < 24) (hch : ch < 16)
include hsrc

/-- The status words lie below key 0x160. -/
theorem edgeView_set (s : State) (f : Fld) (v : Nat) (hf : 0x160 ≤ f.a) :
    edgeView src ch (s.set f v) = edgeView src ch s := by
  unfold edgeView
  rw [word_set_of_ne s f v _ (fun i _ => by omega)]
  rfl

theorem edgeView_todRecord (s : State) (i r e p : Nat) : edgeView src ch (s.todRecord i r e p) = edgeView src ch s :=
  edgeView_set hsrc _ _ _ (by simp; omega)

include hch

/-- Counters besides the two of the view. -/
theorem edgeView_count (s : State) {i : Nat} (hseen : 0x040 + src ≠ i) (hdead : 0x084 + 16 * ch ≠ i) :
    edgeView src ch (s.count i) = edgeView src ch s := by
  unfold edgeView
  rw [counter_count_ne s (edgeCounter_notMem hsrc) hseen, counter_count_ne s (deadCounter_notMem hch) hdead]
  simp [State.src, State.ticCh]

theorem edgeView_tcnt (s : State) (c : Nat) {k : Nat} (hk : k < 4) : edgeView src ch (s.tcnt c k) = edgeView src ch s :=
  edgeView_count hsrc hch s (by omega) (by omega)

theorem edgeView_ticStage (s : State) (r : TicRec) : edgeView src ch (s.ticStage ch r) = edgeView src ch s := by
  have hdrop : edgeView src ch (s.ticDrop ch r false) = edgeView src ch s := by
    unfold State.ticDrop
    dsimp only
    rw [edgeView_tcnt hsrc hch _ _ (by omega), edgeView_set hsrc _ _ _ (by simp; omega), edgeView_setTic_same]
    split <;> rfl
  unfold State.ticStage
  dsimp only
  split
  · rfl
  · split
    · exact edgeView_setTic_same s _ rfl
    · exact hdrop

theorem edgeView_anomaly (s : State) (r c : Nat) : edgeView src ch (s.anomaly r c) = edgeView src ch s := by
  have htimer : ∀ (u : State) n, edgeView src ch (u.setTimer r n) = edgeView src ch u := fun u n =>
    edgeView_set hsrc _ _ _ (by simp; omega)
  have hlogged : ∀ (x : RefSt) v,
      edgeView src ch (((s.setRef r x).count (0x1C0 + 8 * r + c)).set (F.ASY_REF_ST_COUNT r c) v) = edgeView src ch s := fun x v => by
    rw [edgeView_set hsrc _ _ _ (by simp; omega), edgeView_count hsrc hch _ (by omega) (by omega), edgeView_setRef]
  unfold State.anomaly State.anomalyAt State.anomalyBy
  split
  · rfl
  · dsimp only
    split
    · rw [edgeView_setRef, htimer, hlogged]
    · rw [htimer, hlogged]
    · exact hlogged _ _

theorem edgeView_todUnpaired (s : State) (i r p : Nat) : edgeView src ch (s.todUnpaired i r p) = edgeView src ch s := by
  rw [State.todUnpaired, edgeView_anomaly hsrc hch, edgeView_todRecord hsrc]

theorem edgeView_todPaired (s : State) {i : Nat} (hi : i < 4) (r : Nat) (v : Int) :
    edgeView src ch (s.todPaired i r v) = edgeView src ch s := by
  unfold State.todPaired
  dsimp only
  rw [edgeView_deliver, edgeView_count hsrc hch _ (by omega) (by omega), edgeView_setTod, edgeView_todRecord hsrc]

theorem edgeView_todNext (s : State) {i : Nat} (hi : i < 4) (v : Int) :
    edgeView src ch (s.todNext i v) = edgeView src ch s := by
  unfold State.todNext
  refine List.foldlRecOn (motive := fun u => edgeView src ch u = edgeView src ch s) _ _ (edgeView_setTod s i _) ?_
  intro u hu p _
  dsimp only
  split
  · rw [edgeView_todPaired hsrc hch u hi, hu]
  · rw [edgeView_todUnpaired hsrc hch, hu]

theorem edgeView_ticStamp (s : State) (n : Nat) (falling : Bool) (v : Int) (d : Nat) :
    edgeView src ch (s.ticStamp ch n falling v d) = edgeView src ch s := by
  unfold State.ticStamp
  dsimp only
  rw [edgeView_markDate, edgeView_stampMeas, edgeView_tcnt hsrc hch _ _ (by omega), edgeView_ticStage hsrc hch,
    edgeView_gateEdge, edgeView_setTic_same]
  rfl

theorem edgeView_stamped (s : State) (n : Nat) (falling : Bool) (v : Int) (d : Nat) :
    edgeView src ch (s.stamped ch n falling v d) = edgeView src ch s := by
  unfold State.stamped
  dsimp only
  refine List.foldlRecOn (motive := fun u => edgeView src ch u = edgeView src ch s) _ _ ?_ ?_
  · split
    · exact edgeView_ticStamp hsrc hch s n falling v d
    · rw [edgeView_setIrig, edgeView_ticStamp hsrc hch]
  · intro u hu i hi
    have hi : i < 4 := by
      have := List.mem_of_mem_filter hi
      simp at this
      omega
    rw [edgeView_todNext hsrc hch u hi, hu]

/-- A channel accepts an edge 16 ns or more after the last accepted one, whether it times it or not. -/
theorem edgeView_ticEdge (s : State) {code : Nat} {last : Int} (falling : Bool) (hlast : (s.ticCh ch).lastEdge = some last)
    (h : last + 16 * 65536 ≤ edgeAt16 s ch code) : edgeView src ch (s.ticEdge ch falling code).1 =
      edgeView src ch (s.setTic ch { s.ticCh ch with lastEdge := some (edgeAt16 s ch code) }) := by
  have hopen : ¬ (s.ticCh ch).lastEdge.any
      (fun l => decide (roundRat (s.rawStamp ch (code % 4096) 2) < l + 16 * 65536)) = true := by
    rw [hlast]
    exact fun hlt => absurd (of_decide_eq_true hlt) (not_lt.mpr h)
  unfold State.ticEdge
  dsimp only
  rw [if_neg hopen]
  split
  · rw [edgeView_gateEdge, edgeView_setTic, edgeView_setTic]
    rfl
  · split
    · rw [edgeView_tcnt hsrc hch _ _ (by omega), edgeView_ticStage hsrc hch, edgeView_gateEdge,
        edgeView_setTic, edgeView_setTic]
      rfl
    · rw [edgeView_setTic, edgeView_setTic]
      rfl

end

/-- R87, an edge 16 ns or more after the last accepted one: accepted, and TIC_DEAD stays as it was. -/
theorem refEdge_pastDeadTime {s : State} {src code ch : Nat} {falling : Bool} {last : Int} (h : EdgePasses s src falling ch)
    (hlast : (s.ticCh ch).lastEdge = some last) (hopen : last + 16 * 65536 ≤ edgeAt16 s ch code) :
    Does (.refEdge src falling code) s fun t =>
      EdgeSeen s t src ∧ (t.ticCh ch).lastEdge = some (edgeAt16 s ch code) ∧
        t.counter (0x084 + 16 * ch) = s.counter (0x084 + 16 * ch) := by
  have hsrc : src < 24 := h.1
  have hch := channel_lt_sixteen h
  obtain ⟨w, hx⟩ := edgeArrived_ticCh s src falling ch
  have hedge := edgeView_ticEdge (code := code) hsrc hch (edgeArrived s src falling) falling (by rw [hx]; exact hlast)
    (by rw [edgeAt16_edgeArrived hsrc]; exact hopen)
  have hview : edgeView src ch ((edgeArrived s src falling).channelEdge src falling code) =
      edgeView src ch ((edgeArrived s src falling).ticEdge ch falling code).1 := by
    match hu : (edgeArrived s src falling).ticEdge ch falling code with
    | (u, none) => rw [channelEdge_untimed h hu]
    | (u, some n) =>
      rw [channelEdge_timed h hu]
      split
      · exact edgeView_cross u _
      · exact edgeView_stamped hsrc hch u src falling _ n
  rw [hedge, edgeView_setTic, edgeAt16_edgeArrived hsrc] at hview
  simp only [edgeView, Prod.mk.injEq] at hview
  obtain ⟨hword, hsource, hseen, hdead, haccepted⟩ := hview
  refine ⟨_, exec_refEdge_of_passes code h, edgeSeen_of_same (edgeArrived_seen s falling hsrc) hword hsource hseen,
    haccepted, hdead.trans ?_⟩
  exact (edgeArrived_counter s src falling (deadCounter_notMem hch)).trans (if_neg (by omega))

/-- The second clause of O46 holds as it stands wherever TIC_DEAD holds a 64-bit value (R443); the first clause is
`refEdge_withinDeadTime`. -/
theorem refEdge_pastDeadTime_of_counter_lt (s : State) (src : Nat) (falling : Bool) (code ch : Nat) (last : Int)
    (h : EdgePasses s src falling ch) (hlast : (s.ticCh ch).lastEdge = some last)
    (hopen : last + 16 * 65536 ≤ edgeAt16 s ch code) (hwide : s.counter (0x084 + 16 * ch) < 2 ^ 64) :
    Does (.refEdge src falling code) s fun t =>
      EdgeSeen s t src ∧ (t.ticCh ch).lastEdge = some (edgeAt16 s ch code) ∧ Counts s t (0x084 + 16 * ch) 0 := by
  obtain ⟨t, ht, hseen, haccepted, hdead⟩ := refEdge_pastDeadTime (code := code) h hlast hopen
  exact ⟨t, ht, hseen, haccepted, hdead.trans (Nat.mod_eq_of_lt hwide).symm⟩

/-! ## The refutation -/

/-- Source 0 on channel 0, whose last accepted edge lies 1 µs back, with a TIC_DEAD(0) that holds 2^64: the counter is a Nat in
the model, so that a state may hold more there than R443's 64 bits. -/
def overfullDeadCount : State :=
  let s := (((State.reset.set F.SYS_PD_ST_PG (2 ^ 13)).set (F.REF_SRC_STAT_PRESENT 0) 1).set (F.REF_XBAR_SRC 0) 0).set
    (F.TIC_CH_CFG_EN 0) 1
  { s with
    time := { s.time with running := true, core := 1000 * 2 ^ 56 }
    tic := { s.tic with ch := [(0, { TicSt.reset with lastEdge := some 0 })] }
    obs := { s.obs with cnt := [(0x084, 2 ^ 64)] } }

theorem overfullDeadCount_edgePasses : EdgePasses overfullDeadCount 0 false 0 := by
  unfold EdgePasses
  decide +kernel

theorem overfullDeadCount_pastDeadTime : 0 + 16 * 65536 ≤ edgeAt16 overfullDeadCount 0 77 := by decide +kernel

/-- TIC_DEAD(0) as the edge leaves it. -/
def deadCountAfter : Option Nat :=
  match exec (.refEdge 0 false 77) overfullDeadCount with
  | .next t => some (t.counter 0x084)
  | _ => none

theorem deadCountAfter_eq : deadCountAfter = some (2 ^ 64) := by decide +kernel

/-- Refutes O46, by its second clause: `Counts … 0` asks for TIC_DEAD modulo 2^64, and the accepted edge keeps the 2^64 that
`overfullDeadCount` holds. On 64-bit counters both clauses hold: `refEdge_withinDeadTime`,
`refEdge_pastDeadTime_of_counter_lt`. -/
theorem not_channelDeadTime : ¬ Obligations.ChannelDeadTime := by
  unfold Obligations.ChannelDeadTime
  rintro ⟨-, hpast⟩
  obtain ⟨t, ht, -, -, hcount⟩ := hpast overfullDeadCount 0 false 77 0 0 overfullDeadCount_edgePasses (by decide +kernel)
    overfullDeadCount_pastDeadTime
  have hkept : t.counter 0x084 = 2 ^ 64 := by
    simpa [deadCountAfter, ht] using deadCountAfter_eq
  have hzero : t.counter 0x084 = (overfullDeadCount.counter 0x084 + 0) % 2 ^ 64 := hcount
  have hwas : overfullDeadCount.counter 0x084 = 2 ^ 64 := by decide +kernel
  simp [hkept, hwas] at hzero

end Sys2Proof.Proofs
end

section
/-!
Bounds in picoseconds and the bound float (R179, R194, R195, O57). A sum saturates once (`bAdd_eq_min`); the encoder's search
ends at the smallest exponent whose rounded-up mantissa fits 26 bits (`ceilDiv_floatExp_lt`, `le_ceilDiv_of_lt_floatExp`); the
decoder reads the two fields back (`ofFloat_pack`), and a quotient rounded up gives no less than it took (`le_ceilDiv_mul`).
-/

open Sys2Proof Sys2Proof.Machine

namespace Sys2Proof.Proofs

/-! ## Saturation (R179) -/

theorem bNorm_eq_min (a : Nat) : bNorm a = min unb a := rfl

/-- The sum decides alone: it reaches 2^48 − 1 where a term does. -/
theorem bAdd_eq_min (a b : Nat) : bAdd a b = min unb (a + b) := by
  rw [← bNorm_eq_min]
  unfold bAdd
  split
  · rw [bNorm, if_pos (by omega)]
  · rfl

/-! ## Division rounded up (R180) -/

/-- The model's rounded-up division is Mathlib's. -/
theorem ceilDiv_eq_library (a : Nat) {b : Nat} (hb : 0 < b) : ceilDiv a b = a ⌈/⌉ b := by
  rw [Nat.ceilDiv_eq_add_pred_div, ceilDiv, Nat.add_sub_assoc hb]

theorem ceilDiv_two_pow (v e : Nat) : ceilDiv v (2 ^ e) = (v + 2 ^ e - 1) / 2 ^ e := by
  rw [ceilDiv_eq_library v (Nat.two_pow_pos e), Nat.ceilDiv_eq_add_pred_div]

theorem le_ceilDiv_mul (v e : Nat) : v ≤ ceilDiv v (2 ^ e) * 2 ^ e := by
  rw [ceilDiv_eq_library v (Nat.two_pow_pos e), mul_comm]
  exact le_smul_ceilDiv (Nat.two_pow_pos e)

/-! ## The encoder's exponent (R194) -/

theorem floatExp_le (n v e : Nat) : floatExp n v e ≤ e + n := by
  induction n generalizing e with
  | zero => exact le_rfl
  | succ n ih =>
    rw [floatExp]
    split
    · omega
    · exact (ih (e + 1)).trans_eq (by omega)

/-- The search ends at an exponent that fits, if the last one it may try does. -/
theorem ceilDiv_floatExp_lt {n v e : Nat} (hlast : ceilDiv v (2 ^ (e + n)) < 2 ^ 26) :
    ceilDiv v (2 ^ floatExp n v e) < 2 ^ 26 := by
  induction n generalizing e with
  | zero => exact hlast
  | succ n ih =>
    rw [floatExp]
    split
    next hfits => exact hfits
    next => exact ih (by rwa [Nat.add_right_comm, Nat.add_assoc])

/-- No exponent that the search passed over fits. -/
theorem le_ceilDiv_of_lt_floatExp {n v e e' : Nat} (hfrom : e ≤ e') (hpassed : e' < floatExp n v e) :
    2 ^ 26 ≤ ceilDiv v (2 ^ e') := by
  induction n generalizing e with
  | zero => exact absurd hpassed (Nat.not_lt.mpr hfrom)
  | succ n ih =>
    rw [floatExp] at hpassed
    split at hpassed
    next => exact absurd hpassed (Nat.not_lt.mpr hfrom)
    next hover =>
      obtain rfl | hnext := hfrom.eq_or_lt
      · exact Nat.not_lt.mp hover
      · exact ih hnext hpassed

/-- 48 tries are enough for a 48-bit bound: at exponent 48 its mantissa is at most 1. -/
theorem mantissa_lt {v : Nat} (hv : v < 2 ^ 48) : ceilDiv v (2 ^ floatExp 48 v 0) < 2 ^ 26 :=
  ceilDiv_floatExp_lt (by rw [ceilDiv_two_pow]; omega)

/-! ## Encoding and decoding (R194, R195) -/

theorem toFloat_of_unbounded {v : Nat} (hv : unb ≤ v) : toFloat v = 2 ^ 32 - 1 := if_pos hv

theorem toFloat_of_bounded {v : Nat} (hv : v < unb) :
    toFloat v = 2 ^ 26 * floatExp 48 v 0 + ceilDiv v (2 ^ floatExp 48 v 0) := by
  rw [toFloat, if_neg (Nat.not_le.mpr hv), mul_comm]

theorem ofFloat_allOnes : ofFloat (2 ^ 32 - 1) = unb := rfl

theorem ofFloat_of_ne_allOnes {w : Nat} (hw : w < 2 ^ 32) (hones : w ≠ 2 ^ 32 - 1) :
    ofFloat w = min unb (w % 2 ^ 26 * 2 ^ (w / 2 ^ 26)) := by
  have hexp : w / 2 ^ 26 % 64 = w / 2 ^ 26 := Nat.mod_eq_of_lt (by omega)
  rw [ofFloat, Nat.mod_eq_of_lt hw, if_neg (show ¬ w = 0xFFFFFFFF from hones), hexp, bNorm_eq_min]

/-- The decoder reads back the exponent and the mantissa; no exponent below 63 makes the word all ones. -/
theorem ofFloat_pack {e m : Nat} (he : e < 63) (hm : m < 2 ^ 26) : ofFloat (2 ^ 26 * e + m) = min unb (m * 2 ^ e) := by
  rw [ofFloat_of_ne_allOnes (by omega) (by omega), Nat.mul_add_mod, Nat.mod_eq_of_lt hm,
    Nat.mul_add_div (by decide), Nat.div_eq_of_lt hm, Nat.add_zero]

/-- R194: what an encoded bound decodes to is no tighter than the bound. -/
theorem le_ofFloat_toFloat {v : Nat} (hv : v < 2 ^ 48) : v ≤ ofFloat (toFloat v) := by
  have hunb : v ≤ unb := Nat.le_pred_of_lt hv
  obtain rfl | hbounded := hunb.eq_or_lt
  · rw [toFloat_of_unbounded le_rfl, ofFloat_allOnes]
  · have hexp := floatExp_le 48 v 0
    rw [toFloat_of_bounded hbounded, ofFloat_pack (by omega) (mantissa_lt hv)]
    exact le_min hunb (le_ceilDiv_mul v _)

/-! ## The obligation -/

theorem bAdd_eq_ite (a b : Nat) :
    bAdd a b = if 2 ^ 48 - 1 ≤ a ∨ 2 ^ 48 - 1 ≤ b ∨ 2 ^ 48 - 1 ≤ a + b then 2 ^ 48 - 1 else a + b := by
  rw [bAdd_eq_min, unb]
  split <;> omega

theorem ofFloat_eq_ite {w : Nat} (hw : w < 2 ^ 32) :
    ofFloat w = if w = 2 ^ 32 - 1 ∨ 2 ^ 48 - 1 ≤ w % 2 ^ 26 * 2 ^ (w / 2 ^ 26) then 2 ^ 48 - 1
      else w % 2 ^ 26 * 2 ^ (w / 2 ^ 26) := by
  by_cases hones : w = 2 ^ 32 - 1
  · rw [if_pos (.inl hones), hones, ofFloat_allOnes, unb]
  · rw [ofFloat_of_ne_allOnes hw hones, min_def, unb]
    simp only [hones, false_or]

/-- R194: the mantissa is the bound divided by 2^e and rounded up, and e the smallest exponent for which it fits 26 bits. -/
theorem toFloat_fields {v : Nat} (hv : v < 2 ^ 48 - 1) :
    ∃ e m, toFloat v = 2 ^ 26 * e + m ∧ m < 2 ^ 26 ∧ m = (v + 2 ^ e - 1) / 2 ^ e ∧ e < 2 ^ 6 ∧
      ∀ e' < e, 2 ^ 26 ≤ (v + 2 ^ e' - 1) / 2 ^ e' := by
  have hexp := floatExp_le 48 v 0
  refine ⟨floatExp 48 v 0, ceilDiv v (2 ^ floatExp 48 v 0), toFloat_of_bounded hv, mantissa_lt (by omega),
    ceilDiv_two_pow v _, by omega, fun e' he' => ?_⟩
  rw [← ceilDiv_two_pow]
  exact le_ceilDiv_of_lt_floatExp (Nat.zero_le e') he'

/-- Settles O57: saturation of a sum, the decoder, and the encoder's search for the smallest exponent. -/
theorem boundFloats : Obligations.BoundFloats := by
  unfold Obligations.BoundFloats
  exact ⟨bAdd_eq_ite, fun _ => ofFloat_eq_ite, fun _ => toFloat_of_unbounded, fun _ => toFloat_fields,
    fun _ => le_ofFloat_toFloat⟩

end Sys2Proof.Proofs
end

section
/-!
KVT_EVICT (R309, R310, O35). What the command does, case by case: another tenant's slot is a violation, any other command completes
with the status of `evictCheck`, and only OK empties the slot. Recording changes no function beyond its staged records
(`unstaged_fn_quenchRecords`), so a quench leaves the completion of the violating command in place.
-/

open Sys2Proof Sys2Proof.Machine Sys2Proof.Claims

namespace Sys2Proof.Proofs

/-! ## Recording and the functions' own states (R376, R377, R386) -/

/-- What a function has besides its staged event records. -/
def unstaged (f : FnSt) : FnSt := { f with fifo := [], coal := [], fifoLoss := none }

theorem unstaged_fn_setFn (s : State) {n : Nat} {f : FnSt} (h : unstaged f = unstaged (s.fn n)) (m : Nat) :
    unstaged ((s.setFn n f).fn m) = unstaged (s.fn m) := by
  rw [State.fn_setFn]
  split_ifs with hm
  · rw [h, hm]
  · rfl

theorem unstaged_fn_pushEv (s : State) (n : Nat) (r : EvRec) (m : Nat) :
    unstaged ((s.pushEv n r).1.fn m) = unstaged (s.fn m) := by
  unfold State.pushEv
  dsimp only
  repeat' split
  all_goals
    refine unstaged_fn_setFn s ?_ m
    rfl

theorem fn_pushTrace (s : State) (ty src sh fr p m : Nat) : (s.pushTrace ty src sh fr p).1.fn m = s.fn m := by
  unfold State.pushTrace
  dsimp only
  split
  · rfl
  · split <;> rfl

theorem fn_signalSample (s : State) (m : Nat) : s.signalSample.fn m = s.fn m := by
  unfold State.signalSample
  dsimp only
  split <;> rfl

theorem fn_setSlot (s : State) (k : Nat) (x : Slot) (m : Nat) : (s.setSlot k x).fn m = s.fn m := rfl

theorem unstaged_fn_slotStep {more : State → Nat → State} {m : Nat}
    (hm : ∀ s k, unstaged ((more s k).fn m) = unstaged (s.fn m)) (i n : Nat) (s : State) (j : Nat) :
    unstaged ((State.slotStep more i n s j).fn m) = unstaged (s.fn m) := by
  unfold State.slotStep
  dsimp only
  repeat' split
  all_goals simp only [hm, fn_setSlot, fn_signalSample, fn_pushTrace, unstaged_fn_pushEv]

theorem unstaged_fn_countF (m : Nat) : ∀ (k : Nat) (s : State) (i n : Nat),
    unstaged ((State.countF k s i n).fn m) = unstaged (s.fn m)
  | 0, _, _, _ => rfl
  | k + 1, s, i, n => by
    have hslots : ∀ (l : List Nat) (u : State),
        unstaged ((l.foldl (State.slotStep (fun s k' => State.countF k s k' 1) i n) u).fn m) = unstaged (u.fn m) := by
      intro l
      induction l with
      | nil => exact fun _ => rfl
      | cons a t ih =>
        exact fun u => (ih _).trans (unstaged_fn_slotStep (fun s c => unstaged_fn_countF m k s c 1) i n u a)
    exact hslots _ _

theorem unstaged_fn_count (s : State) (i m : Nat) : unstaged ((s.count i).fn m) = unstaged (s.fn m) :=
  unstaged_fn_countF m 9 s i 1

theorem unstaged_fn_trace (s : State) (ty src p m : Nat) : unstaged ((s.trace ty src p).fn m) = unstaged (s.fn m) := by
  unfold State.trace State.traceAt
  dsimp only
  split <;> simp only [unstaged_fn_count, fn_pushTrace]

theorem unstaged_fn_event (s : State) (n ty t p m : Nat) : unstaged ((s.event n ty t p).fn m) = unstaged (s.fn m) := by
  unfold State.event State.eventAt
  dsimp only
  split <;> simp only [unstaged_fn_count, unstaged_fn_pushEv]

theorem unstaged_fn_orderLast (s : State) (m : Nat) : unstaged (s.orderLast.fn m) = unstaged (s.fn m) := by
  unfold State.orderLast
  dsimp only
  split
  · split
    · refine unstaged_fn_setFn s ?_ m
      rfl
    · rfl
  · rfl

theorem unstaged_fn_pevent (s : State) (ty t p m : Nat) : unstaged ((s.pevent ty t p).fn m) = unstaged (s.fn m) :=
  (unstaged_fn_orderLast _ m).trans (unstaged_fn_event s 0 ty t p m)

theorem fn_orderTrace (s : State) (m : Nat) : s.orderTrace.fn m = s.fn m := by
  unfold State.orderTrace
  dsimp only
  split
  · split <;> rfl
  · rfl

theorem unstaged_fn_quenchRecords (s : State) (k n c d m : Nat) :
    unstaged ((s.quenchRecords k n c d).fn m) = unstaged (s.fn m) := by
  unfold State.quenchRecords
  dsimp only
  rw [fn_orderTrace, unstaged_fn_trace]
  split <;> simp only [unstaged_fn_event, unstaged_fn_pevent]

/-! ## The quench of a tenant function (R386, R388) -/

theorem fn_set (s : State) (f : Fld) (v m : Nat) : (s.set f v).fn m = s.fn m := rfl

theorem fn_tcount (s : State) (t k n m : Nat) : (s.tcount t k n).fn m = s.fn m := rfl

section
variable {s : State} {n : Nat} (hn : n ≠ 0) (hq : (s.fn n).quenched = false) (causes detail : Nat)
include hn hq

/-- A quench marks the function and keeps CMD_TAIL as it was at the violation; its commands stand. -/
theorem unstaged_fn_quenchFn : unstaged ((s.quenchFn n causes detail).fn n) =
    { unstaged (s.fn n) with quenched := true, qTail := (s.fn n).avail } := by
  simp only [State.quenchFn, if_neg hn, hq, Bool.false_eq_true, if_false]
  rw [unstaged_fn_quenchRecords, fn_tcount, fn_set, State.fn_setFn, if_pos rfl]
  rfl

theorem quenched_quenchFn : ((s.quenchFn n causes detail).fn n).quenched = true :=
  congrArg FnSt.quenched (unstaged_fn_quenchFn hn hq causes detail)

theorem cmds_quenchFn : ((s.quenchFn n causes detail).fn n).cmds = (s.fn n).cmds :=
  (congrArg FnSt.cmds (unstaged_fn_quenchFn hn hq causes detail) :)

theorem kvt_quenchFn : (s.quenchFn n causes detail).kvt = s.kvt := by
  simp [State.quenchFn, hn, hq]

end

/-! ## Completion of a command (R373) -/

theorem kvt_finish (s : State) (fn n st r : Nat) : (s.finish fn n st r).kvt = s.kvt := rfl

theorem quenched_finish (s : State) (fn n st r : Nat) : ((s.finish fn n st r).fn fn).quenched = (s.fn fn).quenched := by
  simp [State.finish, State.fn_setFn]

/-- A command that finishes carries its status as long as the function's commands stand. -/
theorem finished_finish {s t : State} {fn n st r : Nat} (h : (t.fn fn).cmds = ((s.finish fn n st r).fn fn).cmds) :
    Finished t fn n st := by
  intro c hc hcn
  simp only [h, State.finish, State.fn_setFn, if_true, List.mem_map] at hc
  obtain ⟨a, -, rfl⟩ := hc
  by_cases ha : a.n = n ∨ a.dupOf = some n
  · exact ⟨r, by rw [if_pos ha]⟩
  · rw [if_neg ha] at hcn
    exact absurd (.inl hcn) ha

/-! ## A slot emptied (R310) -/

theorem hif_clearSlot (s : State) (i : Nat) : (s.clearSlot i).hif = s.hif := by
  unfold State.clearSlot
  split <;> rfl

theorem kvt_clearSlot {s : State} {i : Nat} (h : s.on (F.KVT_SLOT_VALID i) = true) :
    (s.clearSlot i).kvt = { s.kvt with slots := alDel s.kvt.slots i } := by
  unfold State.clearSlot
  rw [if_pos h]
  rfl

/-- A slot's KEY_ID word lies apart from the word of its VALID. -/
theorem slotKeyId_apart_slotValid (i : Nat) : Store.apart (F.KVT_SLOT_KEY_ID i) (F.KVT_SLOT_VALID i) :=
  Store.apart_of_lt (.inl (by simp [Store.span]))

theorem slotValid_clearSlot (s : State) (i : Nat) : (s.clearSlot i).on (F.KVT_SLOT_VALID i) = false := by
  unfold State.clearSlot
  split
  next h =>
    have hget (u : State) :
        ((u.set (F.KVT_SLOT_VALID i) 0).set (F.KVT_SLOT_KEY_ID i) 0).get (F.KVT_SLOT_VALID i) = 0 := by
      rw [State.get_set_apart _ _ _ _ (slotKeyId_apart_slotValid i), State.get_set_self, Nat.zero_mod]
    exact decide_eq_false (ne_of_eq_of_ne (hget _) Nat.zero_ne_one)
  next h => exact Bool.eq_false_iff.mpr h

/-! ## KVT_EVICT (R309, R310) -/

section
variable {s : State} {fn i : Nat} {c : Cmd}

theorem slotHeld_iff_inUse : s.slotHeld i = true ↔ InUse s i := by
  simp only [State.slotHeld, InUse, Bool.or_eq_true, Bool.and_eq_true, decide_eq_true_eq, or_assoc]

theorem slotForeign_iff : s.slotForeign fn i = true ↔
    fn ≠ 0 ∧ i < 4096 ∧ s.on (F.KVT_SLOT_VALID i) = true ∧ s.get (F.KVT_SLOT_TENANT i) ≠ s.cmdTenant fn := by
  simp only [State.slotForeign, Bool.and_eq_true, decide_eq_true_eq, and_assoc]

variable (h : Evicts s fn i c)
include h

theorem slotViolation_eq_slotForeign : s.slotViolation fn i = s.slotForeign fn i := by
  obtain ⟨-, -, -, heng, hprov⟩ := h
  simp only [State.slotViolation, heng, hprov, Bool.not_false, Bool.true_and]

theorem evictCheck_eq : s.evictCheck i =
    if s.on (F.KVT_SLOT_VALID i) = false then cEmpty else if s.slotHeld i = true then cInUse else cOk := by
  obtain ⟨-, -, hlt, heng, hprov⟩ := h
  simp [State.evictCheck, heng, hprov, Nat.not_le.mpr hlt]

/-- The violation is judged before the slot's state, and only OK empties the slot. -/
theorem kvtEvict_eq : s.kvtEvict fn =
    if s.slotForeign fn i = true then s.keyViolation fn c.n i 0
    else if s.evictCheck i = cOk then (s.finish fn c.n cOk 0).clearSlot i
    else s.finish fn c.n (s.evictCheck i) 0 := by
  rw [← slotViolation_eq_slotForeign h]
  obtain ⟨hcmd, rfl, -⟩ := h
  simp only [State.kvtEvict, hcmd]
  split_ifs with _ hok
  · rfl
  · rw [hok]
  · rfl

/-- A refused command leaves the key cache and every register as they were (R310). -/
theorem kvtEvict_refused {st : Nat} (hf : ¬ s.slotForeign fn i = true) (hst : s.evictCheck i = st) (hne : st ≠ cOk) :
    Does (.kvtEvict fn) s fun t => t.kvt = s.kvt ∧ Finished t fn c.n st ∧ SameRegs [] s t := by
  refine ⟨s.kvtEvict fn, rfl, ?_⟩
  rw [kvtEvict_eq h, if_neg hf, hst, if_neg hne]
  exact ⟨kvt_finish .., finished_finish rfl, fun _ _ => rfl⟩

theorem kvtEvict_accepted (hf : ¬ s.slotForeign fn i = true) (hv : s.on (F.KVT_SLOT_VALID i) = true) (hu : ¬ InUse s i) :
    Does (.kvtEvict fn) s fun t =>
      t.kvt = { s.kvt with slots := alDel s.kvt.slots i } ∧ t.on (F.KVT_SLOT_VALID i) = false ∧ Finished t fn c.n cOk := by
  have hst : s.evictCheck i = cOk := by simp [evictCheck_eq h, hv, slotHeld_iff_inUse, hu]
  refine ⟨s.kvtEvict fn, rfl, ?_⟩
  rw [kvtEvict_eq h, if_neg hf, if_pos hst]
  refine ⟨kvt_clearSlot hv, slotValid_clearSlot _ i, finished_finish (r := 0) (s := s) ?_⟩
  simp only [State.fn, hif_clearSlot]

theorem kvtEvict_violation (hf : s.slotForeign fn i = true) (hq : (s.fn fn).quenched = false) :
    Does (.kvtEvict fn) s fun t => t.kvt = s.kvt ∧ (t.fn fn).quenched = true ∧ Finished t fn c.n cQuenched := by
  have hfn : fn ≠ 0 := (slotForeign_iff.mp hf).1
  have hq' : ((s.finish fn c.n cQuenched 0).fn fn).quenched = false := (quenched_finish ..).trans hq
  refine ⟨s.kvtEvict fn, rfl, ?_⟩
  rw [kvtEvict_eq h, if_pos hf]
  exact ⟨kvt_quenchFn hfn hq' 4 i, quenched_quenchFn hfn hq' 4 i, finished_finish (cmds_quenchFn hfn hq' 4 i)⟩

end

/-- The provider, and a tenant at a slot of its own, commit no violation. -/
theorem not_slotForeign_of_own {s : State} {fn i : Nat} (h : fn = 0 ∨ s.get (F.KVT_SLOT_TENANT i) = s.cmdTenant fn) :
    ¬ s.slotForeign fn i = true := fun hf => by
  obtain ⟨hfn, -, -, ht⟩ := slotForeign_iff.mp hf
  exact h.elim hfn ht

/-- Settles O35, clause by clause: accepted, EMPTY, IN_USE, and the violation by a tenant. -/
theorem slotEviction : Obligations.SlotEviction := by
  unfold Obligations.SlotEviction
  refine ⟨fun s fn i c h hv hu hown => ?_, fun s fn i c h hv => ?_, fun s fn i c h hv hu hown => ?_,
    fun s fn i c h hv hfn ht hq => ?_⟩
  · exact kvtEvict_accepted h (not_slotForeign_of_own hown) hv hu
  · have hf : ¬ s.slotForeign fn i = true := by simp [slotForeign_iff, hv]
    exact kvtEvict_refused h hf (by simp [evictCheck_eq h, hv]) (by decide)
  · have hst : s.evictCheck i = cInUse := by simp [evictCheck_eq h, hv, slotHeld_iff_inUse, hu]
    exact kvtEvict_refused h (not_slotForeign_of_own hown) hst (by decide)
  · have ⟨_, _, hlt, _⟩ := h
    exact kvtEvict_violation h (slotForeign_iff.mpr ⟨hfn, hlt, hv, ht⟩) hq

end Sys2Proof.Proofs
end

section

/-! # The canonical form of the register file and the engines' memories -/

open Sys2Proof Sys2Proof.Machine Sys2Proof.Claims

namespace Sys2Proof.Proofs

/-- The data image of a bank that holds a program is in canonical form. -/
def BankWf (p : Option Prog) : Prop := ∀ q, p = some q → q.data.wf = true

theorem engCanonical_iff (x : EngSt) : x.canonical = true ↔ x.dm.wf = true ∧ BankWf x.live ∧ BankWf x.idle := by
  unfold EngSt.canonical BankWf
  cases x.live <;> cases x.idle <;> simp [and_assoc]

@[simp] theorem bankWf_none : BankWf none := fun _ h => nomatch h

@[simp] theorem bankWf_some (p : Prog) : BankWf (some p) ↔ p.data.wf = true :=
  ⟨fun h => h p rfl, fun h _ e => Option.some.inj e ▸ h⟩

/-- Every engine of a list has its memories in canonical form. -/
def EnginesWf (l : List (Nat × EngSt)) : Prop := l.all (fun p => p.2.canonical) = true

@[simp] theorem enginesWf_nil : EnginesWf [] := rfl

/-- A state written out field by field is canonical if its register file and its engines are. -/
@[simp] theorem canonical_mk_iff (part regs pend time hif obs tsk asy sch eng refin tic gns syn eth hmk kvt gfl str dram
    pair seam
    pow draws out pending) :
    State.Canonical ⟨part, regs, pend, time, hif, obs, tsk, asy, sch, eng, refin, tic, gns, syn, eth, hmk, kvt, gfl, str,
        dram,
      pair, seam, pow, draws, out, pending⟩ ↔ regs.wf = true ∧ EnginesWf eng := Iff.rfl

theorem regs_wf {s : State} (h : s.Canonical) : s.regs.wf = true := h.1

theorem eng_canonical {s : State} (h : s.Canonical) : EnginesWf s.eng := h.2

@[simp] theorem store_wf_nil : Store.wf [] = true := rfl

@[simp] theorem mem_wf_nil : Mem.wf [] = true := rfl

theorem canonical_ite {c : Prop} [Decidable c] {s t : State} (hs : s.Canonical) (ht : t.Canonical) :
    (if c then s else t).Canonical := by split <;> assumption

theorem canonical_foldl {α : Type} {g : State → α → State} (hg : ∀ u a, u.Canonical → (g u a).Canonical) :
    ∀ {l : List α} {s : State}, s.Canonical → (l.foldl g s).Canonical
  | [], _, h => h
  | a :: t, _, h => canonical_foldl hg (l := t) (hg _ a h)

theorem store_wf_put {st : Store} (h : st.wf = true) (k : Nat) (v : Word) : (st.put k v).wf = true := Store.wf_put _ _ _ h

theorem canonical_foldl_fst {α β : Type} {g : State × β → α → State × β} (hg : ∀ a x, a.1.Canonical → (g a x).1.Canonical) :
    ∀ (l : List α) {a : State × β}, a.1.Canonical → (l.foldl g a).1.Canonical
  | [], _, h => h
  | x :: l, _, h => canonical_foldl_fst hg l (hg _ x h)

theorem store_wfFrom_filter (p : Nat × Word → Bool) : ∀ {lo : Nat} {st : Store}, Store.wfFrom lo st = true →
    Store.wfFrom lo (st.filter p) = true
  | _, [], _ => rfl
  | lo, (j, v) :: t, hs => by
    simp only [Store.wfFrom, Bool.and_eq_true, decide_eq_true_eq] at hs
    have ht := store_wfFrom_filter p hs.2
    by_cases hj : p (j, v) = true
    · rw [List.filter_cons_of_pos hj]
      simp only [Store.wfFrom, Bool.and_eq_true, decide_eq_true_eq]
      exact ⟨hs.1, ht⟩
    · rw [List.filter_cons_of_neg hj]
      exact Store.wfFrom_mono (by omega) ht

theorem store_wf_filter {st : Store} (h : st.wf = true) (p : Nat × Word → Bool) : Store.wf (st.filter p) = true :=
  store_wfFrom_filter p h

theorem mem_wf_write {m : Mem} (h : m.wf = true) (a n v : Nat) : (m.write a n v).wf = true := Mem.wf_write _ _ _ _ h

theorem engine_canonical {s : State} (h : s.Canonical) (e : Nat) : (s.engine e).canonical = true := by
  have key : ∀ {l : List (Nat × EngSt)}, l.all (fun p => p.2.canonical) = true → ((alGet l e).getD EngSt.reset).canonical =
      true := by
    intro l
    induction l with
    | nil => intro _; rfl
    | cons p t ih =>
      obtain ⟨k, x⟩ := p
      intro hl
      simp only [List.all_cons, Bool.and_eq_true] at hl
      unfold alGet
      split
      · exact hl.1
      · exact ih hl.2
  exact key h.2

theorem dm_engine_wf {s : State} (h : s.Canonical) (e : Nat) : (s.engine e).dm.wf = true :=
  ((engCanonical_iff _).mp (engine_canonical h e)).1

theorem live_engine_wf {s : State} (h : s.Canonical) (e : Nat) : BankWf (s.engine e).live :=
  ((engCanonical_iff _).mp (engine_canonical h e)).2.1

theorem idle_engine_wf {s : State} (h : s.Canonical) (e : Nat) : BankWf (s.engine e).idle :=
  ((engCanonical_iff _).mp (engine_canonical h e)).2.2

theorem all_alIns {k : Nat} {x : EngSt} (hx : x.canonical = true) : ∀ {l : List (Nat × EngSt)},
    l.all (fun p => p.2.canonical) = true → (alIns k x l).all (fun p => p.2.canonical) = true
  | [], _ => by simp [alIns, hx]
  | p :: t, h => by
    simp only [List.all_cons, Bool.and_eq_true] at h
    unfold alIns
    split
    · simp [hx, h.1, h.2]
    · simp only [List.all_cons, Bool.and_eq_true]
      exact ⟨h.1, all_alIns hx h.2⟩

theorem canonical_setEngine {s : State} (h : s.Canonical) (e : Nat) (x : EngSt)
    (hd : x.dm.wf = true) (hl : BankWf x.live) (hi : BankWf x.idle) : (s.setEngine e x).Canonical := by
  refine ⟨h.1, all_alIns ((engCanonical_iff x).mpr ⟨hd, hl, hi⟩) ?_⟩
  rw [alDel, List.all_filter]
  have h2 := h.2
  rw [List.all_eq_true] at h2 ⊢
  intro p hp
  simp [h2 p hp]

@[simp] theorem bankWf_progOf (p : ProgIn) : BankWf (some (State.progOf p)) :=
  (bankWf_some _).mpr (Mem.wf_write _ _ _ _ rfl)

/-- An engine whose memories are those of an engine of a canonical state. -/
theorem canonical_setEngine_of {s u : State} (h : s.Canonical) (hu : u.Canonical) (e i : Nat) (x : EngSt)
    (hx : (x.dm, x.live, x.idle) = ((u.engine i).dm, (u.engine i).live, (u.engine i).idle)) : (s.setEngine e x).Canonical
        := by
  obtain ⟨hd, hl, hi⟩ : x.dm = _ ∧ x.live = _ ∧ x.idle = _ := by simpa only [Prod.mk.injEq] using hx
  exact canonical_setEngine h e x (hd ▸ dm_engine_wf hu i) (hl ▸ live_engine_wf hu i) (hi ▸ idle_engine_wf hu i)

theorem canonical_of_calm {s t : State} (h : s.Canonical) (e : t.calm = s.calm) : t.Canonical := by
  have hr : t.regs = s.regs := by have := congrArg State.regs e; exact this
  have he : t.eng = s.eng := by have := congrArg State.eng e; exact this
  exact ⟨hr ▸ h.1, he ▸ h.2⟩

theorem canonical_set {s : State} (h : s.Canonical) (f : Fld) (v : Nat) : (s.set f v).Canonical :=
  ⟨Store.wf_set _ _ _ h.1, h.2⟩

/-- What changes neither the register file nor the engines keeps the canonical form. -/
theorem canonical_upd {s t : State} (h : s.Canonical) (e : (t.regs, t.eng) = (s.regs, s.eng)) : t.Canonical := by
  obtain ⟨hr, he⟩ := Prod.mk.inj e
  exact ⟨hr ▸ h.1, he ▸ h.2⟩

theorem canonical_fst {α : Type} {p : State × α} {s : State} {a : α} (h : p.1.Canonical) (e : p = (s, a)) : s.Canonical := by
  subst e; exact h

theorem canonical_snd {α : Type} {p : α × State} {s : State} {a : α} (h : p.2.Canonical) (e : p = (a, s)) : s.Canonical := by
  subst e; exact h

/-- Every next state of an outcome is canonical. -/
def NextCanonical (o : Host.Outcome State Fault Refusal) : Prop := ∀ t, o = .next t → t.Canonical

theorem nextCanonical_next {t : State} (h : t.Canonical) : NextCanonical (.next t) := by
  intro u hu
  cases hu
  exact h

theorem engine_wf {s : State} (h : s.Canonical) (e : ℕ) :
    (s.engine e).dm.wf = true ∧ BankWf (s.engine e).live ∧ BankWf (s.engine e).idle :=
  ⟨dm_engine_wf h e, live_engine_wf h e, idle_engine_wf h e⟩

theorem prog_wf {s : State} (h : s.Canonical) {e : ℕ} {p : Prog} (hp : s.prog e = some p) : p.data.wf = true :=
  live_engine_wf h e p hp

theorem takeWake_wf {x : EngSt} (hx : x.dm.wf = true ∧ BankWf x.live ∧ BankWf x.idle) :
    (State.takeWake x).2.dm.wf = true ∧ BankWf (State.takeWake x).2.live ∧ BankWf (State.takeWake x).2.idle := by
  unfold State.takeWake
  split
  · exact hx
  · split <;> exact hx

theorem canonical_tsk {s : State} (h : s.Canonical) (x : TskSt) : State.Canonical { s with tsk := x } := h

theorem canonical_gns {s : State} (h : s.Canonical) (x : GnsSt) : State.Canonical { s with gns := x } := h

theorem canonical_syn {s : State} (h : s.Canonical) (x : SynSt) : State.Canonical { s with syn := x } := h

theorem canonical_hmk {s : State} (h : s.Canonical) (x : HmkSt) : State.Canonical { s with hmk := x } := h

theorem canonical_pair {s : State} (h : s.Canonical) (x : PairSt) : State.Canonical { s with pair := x } := h

theorem canonical_pow {s : State} (h : s.Canonical) (x : PowSt) : State.Canonical { s with pow := x } := h

/-! ## Every operation keeps the canonical form -/

theorem canonical_porstCore {s : State} (h : s.Canonical) (held extest : Bool) : (s.porstCore held extest).Canonical := by
  unfold State.porstCore
  exact canonical_set ⟨store_wf_filter h.1 _, rfl⟩ ..

theorem canonical_emitOut {s : State} (h : s.Canonical) (o : Out) : (s.emitOut o).Canonical := by
  unfold State.emitOut
  exact canonical_upd h (by rfl)

theorem canonical_padsReset {s : State} (h : s.Canonical) : (s.padsReset).Canonical := by
  unfold State.padsReset
  extract_lets s1 s2
  have hs1 : s1.Canonical := canonical_ite (canonical_emitOut h _) h
  have hs2 : s2.Canonical := canonical_ite (canonical_emitOut hs1 _) hs1
  clear_value s1 s2
  exact canonical_emitOut hs2 _

theorem canonical_porst {s : State} (h : s.Canonical) (held extest : Bool) : (s.porst held extest).Canonical := by
  unfold State.porst
  exact canonical_porstCore (canonical_padsReset h) ..

theorem canonical_execPorstAssert {s : State} (h : s.Canonical) : NextCanonical (execPorstAssert s) := by
  unfold execPorstAssert
  exact nextCanonical_next (canonical_porst h ..)

theorem canonical_putStraps {s : State} (h : s.Canonical) (v : ℕ) : (s.putStraps v).Canonical := by
  unfold State.putStraps
  extract_lets s1 s2
  have hs1 : s1.Canonical := ⟨store_wf_put h.1 _ _, h.2⟩
  have hs2 : s2.Canonical := canonical_set (canonical_set hs1 ..) ..
  clear_value s1 s2
  exact canonical_ite hs2 (canonical_set hs2 ..)

theorem canonical_execPorstRise {s : State} (h : s.Canonical) (straps : ℕ) : NextCanonical (execPorstRise straps s) := by
  unfold execPorstRise
  exact nextCanonical_next (canonical_ite (canonical_emitOut (canonical_putStraps (canonical_porstCore h ..) _) _) h)

theorem canonical_setRebased {s : State} (h : s.Canonical) (b : Bool) : (s.setRebased b).Canonical := by
  unfold State.setRebased
  exact canonical_upd h (by rfl)

theorem canonical_efcRestart {s : State} (h : s.Canonical) : (s.efcRestart).Canonical := by
  unfold State.efcRestart
  exact canonical_upd h (by rfl)

theorem canonical_setI {s : State} (h : s.Canonical) (f : Fld) (v : ℤ) : (s.setI f v).Canonical := by
  unfold State.setI
  exact canonical_set h ..

theorem canonical_runModel {s : State} (h : s.Canonical) : (s.runModel).Canonical := by
  unfold State.runModel
  extract_lets f __src
  clear_value f __src
  exact canonical_upd h (by rfl)

theorem canonical_enterHold {s : State} (h : s.Canonical) (f0 : ℤ) (tebEntry : ℕ) : (s.enterHold f0 tebEntry).Canonical := by
  unfold State.enterHold
  extract_lets s1 s2 __src s3
  have hs1 : s1.Canonical := canonical_setI (canonical_set (canonical_set h ..) ..) ..
  have hs2 : s2.Canonical := canonical_set hs1 ..
  have hs3 : s3.Canonical := canonical_upd hs2 (by rfl)
  clear_value s1 s2 __src s3
  exact canonical_runModel hs3

theorem canonical_bump {s : State} (h : s.Canonical) (i n : ℕ) : (s.bump i n).Canonical := by
  unfold State.bump
  exact canonical_upd h (by rfl)

theorem canonical_setSlot {s : State} (h : s.Canonical) (k : ℕ) (x : Slot) : (s.setSlot k x).Canonical := by
  unfold State.setSlot
  exact canonical_upd h (by rfl)

theorem canonical_setFn {s : State} (h : s.Canonical) (n : ℕ) (f : FnSt) : (s.setFn n f).Canonical := by
  unfold State.setFn
  exact canonical_upd h (by rfl)

theorem canonical_pushEv {s : State} (h : s.Canonical) (n : ℕ) (r : EvRec) : (s.pushEv n r).1.Canonical := by
  unfold State.pushEv
  extract_lets f f1 l
  clear_value f f1 l
  split
  · split
    · extract_lets r1
      clear_value r1
      exact canonical_setFn h ..
  · split
    · exact canonical_setFn h ..
    · exact canonical_setFn h ..

theorem canonical_pushTrace {s : State} (h : s.Canonical) (ttype src short frac payload : ℕ) :
    (s.pushTrace ttype src short frac payload).1.Canonical := by
  unfold State.pushTrace
  extract_lets o r o1 lose
  clear_value o r o1
  split
  · exact canonical_upd h (by rfl)
  · split
    · exact canonical_upd h (by rfl)
    · exact canonical_upd h (by rfl)

theorem canonical_msix {s : State} (h : s.Canonical) (fn vec : ℕ) : (s.msix fn vec).Canonical := by
  unfold State.msix
  exact canonical_emitOut h _

theorem canonical_signalSample {s : State} (h : s.Canonical) : (s.signalSample).Canonical := by
  unfold State.signalSample
  extract_lets m __src
  clear_value m __src
  exact canonical_ite (canonical_upd h (by rfl)) (canonical_msix (canonical_upd h (by rfl)) ..)

theorem canonical_slotStep {s : State} (h : s.Canonical) (more : State → ℕ → State) (i n j : ℕ) (hmore : ∀ (u : State) a,
    u.Canonical → (more u a).Canonical) :
    (State.slotStep more i n s j).Canonical := by
  unfold State.slotStep
  extract_lets x per crossed x' recent p s1
  have hs1 : s1.Canonical := canonical_setSlot h ..
  clear_value x per crossed x' recent p s1
  refine canonical_ite (canonical_ite (canonical_setSlot h ..) (canonical_ite (hmore _ _ (canonical_setSlot h ..)) ?_)) h
  split
  · rename_i x1 s2 lost e
    have hs2 : s2.Canonical := canonical_fst (canonical_pushEv hs1 ..) e
    split
    · rename_i x2 s3 lost1 e1
      have hs3 : s3.Canonical := canonical_fst (canonical_pushTrace hs2 ..) e1
      extract_lets s4 s5
      have hs4 : s4.Canonical := hmore _ _ (hmore _ _ (canonical_signalSample hs3))
      have hs5 : s5.Canonical := canonical_ite (hmore _ _ hs4) hs4
      clear_value s4 s5
      exact canonical_ite (hmore _ _ hs5) hs5

theorem canonical_countF {x1 : State} (h : x1.Canonical) (x0 x2 x3 : ℕ) : (State.countF x0 x1 x2 x3).Canonical := by
  induction x0 generalizing x1 x2 x3 with
  | zero => exact canonical_bump h ..
  | succ k ih =>
    exact canonical_foldl (fun _ _ hu => canonical_slotStep hu _ _ _ _ fun _ _ hv => ih hv ..) (canonical_bump h ..)

theorem canonical_countN {s : State} (h : s.Canonical) (i n : ℕ) : (s.countN i n).Canonical := by
  unfold State.countN
  exact canonical_countF h ..

theorem canonical_count {s : State} (h : s.Canonical) (i : ℕ) : (s.count i).Canonical := by
  unfold State.count
  exact canonical_countN h ..

theorem canonical_writeCode {s : State} (h : s.Canonical) (code : ℕ) : (s.writeCode code).Canonical := by
  unfold State.writeCode
  extract_lets n
  clear_value n
  exact canonical_count (canonical_emitOut (canonical_set h ..) _) _

theorem canonical_holdInit {s : State} (h : s.Canonical) : (s.holdInit).Canonical := by
  unfold State.holdInit
  exact canonical_ite (canonical_writeCode h _) h

theorem canonical_enterState {s : State} (h : s.Canonical) (new act tebEntry : ℕ) (moved : Bool) :
    (s.enterState new act tebEntry moved).Canonical := by
  unfold State.enterState
  extract_lets old oact __src s1 s2 s3 live s4 __src1 s5 s6 __src2 __src3 s7 __src4 s8 __src5 s9 key __src6 s10 s11
  have hs1 : s1.Canonical := canonical_ite (canonical_setRebased (canonical_upd h (by rfl)) _) (canonical_ite
      (canonical_upd h (by rfl)) h)
  have hs2 : s2.Canonical := canonical_ite (canonical_setRebased hs1 _) hs1
  have hs3 : s3.Canonical := canonical_ite (canonical_efcRestart hs2) hs2
  have hs4 : s4.Canonical := canonical_ite (canonical_setI hs3 ..) hs3
  have hs5 : s5.Canonical := canonical_ite (canonical_set (canonical_upd hs4 (by rfl)) ..) hs4
  have hs6 : s6.Canonical := canonical_ite (canonical_enterHold hs5 ..) hs5
  have hs7 : s7.Canonical := canonical_ite (canonical_upd hs6 (by rfl)) hs6
  have hs8 : s8.Canonical := canonical_ite (canonical_set (canonical_upd hs7 (by rfl)) ..) hs7
  have hs9 : s9.Canonical := canonical_ite (canonical_upd hs8 (by rfl)) hs8
  have hs10 : s10.Canonical := canonical_ite (canonical_ite (canonical_upd hs9 (by rfl)) (canonical_upd hs9 (by rfl))) hs9
  have hs11 : s11.Canonical := canonical_set (canonical_set hs10 ..) ..
  clear_value old oact __src s1 s2 s3 live s4 __src1 s5 s6 __src2 __src3 s7 __src4 s8 __src5 s9 key __src6 s10 s11
  exact canonical_ite (canonical_holdInit hs11) hs11

theorem canonical_setB {s : State} (h : s.Canonical) (f : Fld) (b : Bool) : (s.setB f b).Canonical := by
  unfold State.setB
  exact canonical_set h ..

theorem canonical_settleAlert {s : State} (h : s.Canonical) : (s.settleAlert).Canonical := by
  unfold State.settleAlert
  extract_lets a was s1
  have hs1 : s1.Canonical := canonical_setB h ..
  clear_value a was s1
  exact canonical_ite (canonical_emitOut hs1 _) hs1

theorem canonical_settleLog {s : State} (h : s.Canonical) : (s.settleLog).Canonical := by
  unfold State.settleLog
  exact canonical_settleAlert (canonical_setB h ..)

theorem canonical_orderLast {s : State} (h : s.Canonical) : (s.orderLast).Canonical := by
  unfold State.orderLast
  extract_lets f
  clear_value f
  split
  · extract_lets later
    exact canonical_ite (canonical_setFn h ..) h
  · exact h

theorem canonical_eventAt {s : State} (h : s.Canonical) (n typ tenant short frac payload : ℕ) :
    (s.eventAt n typ tenant short frac payload).Canonical := by
  unfold State.eventAt
  split
  · rename_i x s1 lost e
    have hs1 : s1.Canonical := canonical_fst (canonical_pushEv h ..) e
    exact canonical_ite (canonical_count hs1 _) hs1

theorem canonical_event {s : State} (h : s.Canonical) (n typ tenant payload : ℕ) : (s.event n typ tenant payload).Canonical
    := by
  unfold State.event
  exact canonical_eventAt h ..

theorem canonical_pevent {s : State} (h : s.Canonical) (typ tenant payload : ℕ) : (s.pevent typ tenant payload).Canonical
    := by
  unfold State.pevent
  exact canonical_orderLast (canonical_event h ..)

theorem canonical_rollRecord {s : State} (h : s.Canonical) (done cause : ℕ) : (s.rollRecord done cause).Canonical := by
  unfold State.rollRecord
  exact canonical_pevent h ..

theorem canonical_rollStart {s : State} (h : s.Canonical) (gen cause : ℕ) : (s.rollStart gen cause).Canonical := by
  unfold State.rollStart
  extract_lets s1 __src s2
  have hs1 : s1.Canonical := canonical_set (canonical_set h ..) ..
  have hs2 : s2.Canonical := canonical_upd hs1 (by rfl)
  clear_value s1 __src s2
  exact canonical_rollRecord (canonical_count hs2 _) ..

theorem canonical_settleBurnSrc {s : State} (h : s.Canonical) : (s.settleBurnSrc).Canonical := by
  unfold State.settleBurnSrc
  extract_lets l __src
  clear_value l __src
  exact canonical_upd h (by rfl)

theorem canonical_putTenants {s : State} (h : s.Canonical) (rows : List TenRow) : (s.putTenants rows).Canonical := by
  unfold State.putTenants
  extract_lets s1 s2 vf __src __src1
  have hs1 : s1.Canonical := canonical_foldl (fun u a hu => canonical_set (canonical_set (canonical_set hu ..) ..) ..) h
  have hs2 : s2.Canonical := canonical_foldl (fun u a hu => canonical_set (canonical_set (canonical_set hu ..) ..) ..) hs1
  clear_value s1 s2 vf __src __src1
  exact canonical_upd hs2 (by rfl)

theorem canonical_settleCapacity {s : State} (h : s.Canonical) : (s.settleCapacity).Canonical := by
  unfold State.settleCapacity
  extract_lets mixed n
  clear_value mixed n
  exact canonical_set h ..

theorem canonical_putHoldover {s : State} (h : s.Canonical) (cls : List (ℕ × ℕ × ℕ)) (clk : List ℕ) (f m : ℕ) :
    (s.putHoldover cls clk f m).Canonical := by
  unfold State.putHoldover
  extract_lets s1 s2
  have hs1 : s1.Canonical := canonical_foldl (fun u a hu => canonical_set (canonical_set (canonical_set hu ..) ..) ..) h
  have hs2 : s2.Canonical := canonical_foldl (fun u a hu => canonical_set hu ..) hs1
  clear_value s1 s2
  exact canonical_set (canonical_set hs2 ..) ..

theorem canonical_placeTick {s : State} (h : s.Canonical) : (s.placeTick).Canonical := by
  unfold State.placeTick
  split
  · exact canonical_upd h (by rfl)
  · exact h

theorem canonical_putEnt {s : State} (h : s.Canonical) (id : ℕ) (e : SchEnt) : (s.putEnt id e).Canonical := by
  unfold State.putEnt
  exact canonical_upd h (by rfl)

theorem canonical_putLocked {s : State} (h : s.Canonical) (es : List (ℕ × SchEnt)) : (s.putLocked es).Canonical := by
  unfold State.putLocked
  extract_lets kept __src s1
  have hs1 : s1.Canonical := canonical_upd h (by rfl)
  clear_value kept __src s1
  exact canonical_placeTick (canonical_foldl (fun u a hu => canonical_putEnt hu ..) hs1)

theorem canonical_putSection {s : State} (h : s.Canonical) (x : Section) : (s.putSection x).Canonical := by
  unfold State.putSection
  split
  · extract_lets s1 __src __src1
    have hs1 : s1.Canonical := canonical_foldl (fun u a hu => canonical_set hu ..) h
    clear_value s1 __src __src1
    exact canonical_settleBurnSrc (canonical_upd hs1 (by rfl))
  · extract_lets __src s1
    have hs1 : s1.Canonical := canonical_set (canonical_settleBurnSrc (canonical_upd h (by rfl))) ..
    clear_value __src s1
    exact canonical_set (canonical_set hs1 ..) ..
  · extract_lets keep mask __src
    clear_value keep mask __src
    exact canonical_upd h (by rfl)
  · exact canonical_putTenants h _
  · extract_lets __src s1
    have hs1 : s1.Canonical := canonical_settleCapacity (canonical_upd h (by rfl))
    clear_value __src s1
    exact canonical_foldl (fun u a hu => canonical_set hu ..) hs1
  · extract_lets s1 __src
    have hs1 : s1.Canonical := canonical_foldl (fun u a hu => canonical_set hu ..) h
    clear_value s1 __src
    exact canonical_upd hs1 (by rfl)
  · exact canonical_putHoldover h ..
  · exact canonical_putLocked h _
  · exact canonical_upd h (by rfl)
  · exact canonical_upd h (by rfl)
  · exact h

theorem canonical_setPc {s : State} (h : s.Canonical) (e v : ℕ) : (s.setPc e v).Canonical := by
  unfold State.setPc
  exact canonical_set h ..

theorem canonical_startEngine {s : State} (h : s.Canonical) (e : ℕ) (keepWakes : Bool) : (s.startEngine e
    keepWakes).Canonical := by
  unfold State.startEngine
  split
  · rename_i p hp
    extract_lets x x1 s1 s2
    have hs1 : s1.Canonical := canonical_foldl (fun u a hu => canonical_set hu ..) h
    have hs2 : s2.Canonical := canonical_set (canonical_set (canonical_setPc hs1 ..) ..) ..
    have hx1 : BankWf x1.live ∧ BankWf x1.idle := by
      cases keepWakes <;> exact ⟨live_engine_wf h e, idle_engine_wf h e⟩
    exact canonical_setEngine hs2 _ _ (prog_wf h hp) hx1.1 hx1.2
  · exact h

theorem canonical_startPrograms {s : State} (h : s.Canonical) (secs : List Section) : (s.startPrograms secs).Canonical := by
  unfold State.startPrograms
  refine canonical_foldl (fun u x hu => ?_) h
  split
  · refine canonical_startEngine (canonical_setEngine hu _ _ ?_ ?_ ?_) ..
    · exact dm_engine_wf hu _
    · exact bankWf_progOf _
    · exact bankWf_none
  · exact canonical_set hu ..
  · exact hu

theorem canonical_putPortDefaults {s : State} (h : s.Canonical) (p : PortRow) : (s.putPortDefaults p).Canonical := by
  unfold State.putPortDefaults
  extract_lets s1 s2
  have hs1 : s1.Canonical := canonical_foldl (fun u a hu => canonical_set hu ..) h
  have hs2 : s2.Canonical := canonical_setI (canonical_setI hs1 ..) ..
  clear_value s1 s2
  exact canonical_set hs2 ..

theorem canonical_putDefault {s : State} (h : s.Canonical) (d : ℕ × ℕ × ℕ) : (s.putDefault d).Canonical := by
  obtain ⟨f, hf⟩ : ∃ f, f = State.putDefault := ⟨_, rfl⟩
  obtain ⟨g, hg⟩ : ∃ g, g = findReg := ⟨_, rfl⟩
  rw [← hf]
  delta State.putDefault at hf
  rw [← hg] at hf
  clear hg
  subst hf
  beta_reduce
  extract_lets a
  split
  · split
    · exact ⟨store_wf_put h.1 .., h.2⟩
    · exact h
  · exact h

theorem canonical_putDefaults {s : State} (h : s.Canonical) : (s.putDefaults).Canonical := by
  have hp : ∀ {u : State} d, u.Canonical → (u.putDefault d).Canonical := fun d hu => canonical_putDefault hu d
  obtain ⟨f, hf⟩ : ∃ f, f = State.putDefault := ⟨_, rfl⟩
  unfold State.putDefaults
  rw [← hf] at hp ⊢
  refine canonical_foldl (fun u r hu => ?_) (canonical_foldl (fun u r hu => ?_) h)
  · exact canonical_foldl (fun v d hv => hp d hv) hu
  · exact canonical_putPortDefaults hu r

theorem canonical_goLive {s : State} (h : s.Canonical) (img : Image) (src : ℕ) : (s.goLive img src).Canonical := by
  unfold State.goLive
  extract_lets __src s1 s2 s3 s4 s5 s6 __src1
  have hs1 : s1.Canonical := canonical_upd h (by rfl)
  have hs2 : s2.Canonical := canonical_foldl (fun u a hu => canonical_putSection hu _) hs1
  have hs3 : s3.Canonical := canonical_startPrograms (canonical_putDefaults (canonical_settleCapacity hs2)) _
  have hs4 : s4.Canonical := canonical_foldl (fun u a hu => canonical_set (canonical_set (canonical_set (canonical_set hu
      ..) ..) ..) ..) hs3
  have hs5 : s5.Canonical := canonical_set (canonical_set hs4 ..) ..
  have hs6 : s6.Canonical := canonical_set (canonical_set (canonical_set hs5 ..) ..) ..
  clear_value __src s1 s2 s3 s4 s5 s6 __src1
  exact canonical_upd hs6 (by rfl)

theorem canonical_setSrc {s : State} (h : s.Canonical) (n : ℕ) (x : SrcSt) : (s.setSrc n x).Canonical := by
  unfold State.setSrc
  exact canonical_upd h (by rfl)

theorem canonical_srcEnable {s : State} (h : s.Canonical) (n : ℕ) : (s.srcEnable n).Canonical := by
  unfold State.srcEnable
  extract_lets s1
  have hs1 : s1.Canonical := canonical_setB (canonical_set h ..) ..
  clear_value s1
  exact canonical_setSrc hs1 ..

theorem canonical_srcDisable {s : State} (h : s.Canonical) (n : ℕ) : (s.srcDisable n).Canonical := by
  unfold State.srcDisable
  extract_lets __src s1 s2 __src1
  have hs1 : s1.Canonical := canonical_upd h (by rfl)
  have hs2 : s2.Canonical := canonical_set (canonical_set hs1 ..) ..
  clear_value __src s1 s2 __src1
  exact canonical_setSrc hs2 ..

theorem canonical_setAport {s : State} (h : s.Canonical) (a : ℕ) (x : AportSt) : (s.setAport a x).Canonical := by
  unfold State.setAport
  exact canonical_upd h (by rfl)

theorem canonical_aportEnable {s : State} (h : s.Canonical) (a : ℕ) : (s.aportEnable a).Canonical := by
  unfold State.aportEnable
  exact canonical_setAport h ..

theorem canonical_aportDisable {s : State} (h : s.Canonical) (a : ℕ) : (s.aportDisable a).Canonical := by
  unfold State.aportDisable
  exact canonical_setAport (canonical_set (canonical_set h ..) ..) ..

theorem canonical_setTod {s : State} (h : s.Canonical) (i : ℕ) (x : TodSt) : (s.setTod i x).Canonical := by
  unfold State.setTod
  exact canonical_upd h (by rfl)

theorem canonical_setTodOut {s : State} (h : s.Canonical) (i : ℕ) (x : TodOutSt) : (s.setTodOut i x).Canonical := by
  unfold State.setTodOut
  exact canonical_upd h (by rfl)

theorem canonical_tcnt {s : State} (h : s.Canonical) (ch k : ℕ) : (s.tcnt ch k).Canonical := by
  unfold State.tcnt
  exact canonical_count h _

theorem canonical_setTic {s : State} (h : s.Canonical) (ch : ℕ) (x : TicSt) : (s.setTic ch x).Canonical := by
  unfold State.setTic
  exact canonical_upd h (by rfl)

theorem canonical_add {s : State} (h : s.Canonical) (f : Fld) (n : ℕ) : (s.add f n).Canonical := by
  unfold State.add
  exact canonical_set h ..

theorem canonical_deliver {s : State} (h : s.Canonical) (m : Meas) : (s.deliver m).Canonical := by
  unfold State.deliver
  exact canonical_upd h (by rfl)

theorem canonical_gateClose {s : State} (h : s.Canonical) (ch : ℕ) (long : Bool) : (s.gateClose ch long).Canonical := by
  unfold State.gateClose
  extract_lets x s1 pn lim
  have hs1 : s1.Canonical := canonical_tcnt (canonical_setTic h ..) ..
  clear_value x s1 pn lim
  split
  · exact h
  · refine canonical_ite hs1 ?_
    split
    · extract_lets y0 y resid len valid s2 s3 s4 s5 s6 s7 src m
      have hs2 : s2.Canonical := canonical_set (canonical_set (canonical_setI hs1 ..) ..) ..
      have hs3 : s3.Canonical := canonical_setB (canonical_set hs2 ..) ..
      have hs4 : s4.Canonical := canonical_setB (canonical_setB hs3 ..) ..
      have hs5 : s5.Canonical := canonical_setB (canonical_setB hs4 ..) ..
      have hs6 : s6.Canonical := canonical_setB (canonical_setB hs5 ..) ..
      have hs7 : s7.Canonical := canonical_add hs6 ..
      clear_value y0 y resid len valid s2 s3 s4 s5 s6 s7 src m
      exact canonical_ite (canonical_deliver hs7 _) hs7

theorem canonical_ticDisabled {s : State} (h : s.Canonical) (ch : ℕ) : (s.ticDisabled ch).Canonical := by
  unfold State.ticDisabled
  exact canonical_gateClose h ..

theorem canonical_pathWritten {s : State} (h : s.Canonical) (ch : ℕ) : (s.pathWritten ch).Canonical := by
  unfold State.pathWritten
  exact canonical_set (canonical_setTic h ..) ..

theorem canonical_searchFrom {s : State} (h : s.Canonical) (after : Option (ℕ × ℕ)) : (s.searchFrom after).Canonical := by
  unfold State.searchFrom
  split
  · exact canonical_upd h (by rfl)
  · refine canonical_set ?_ ..
    extract_lets __src __src1
    have h__src : __src.Canonical := canonical_count (canonical_set h ..) _
    clear_value __src __src1
    exact canonical_upd h__src (by rfl)

theorem canonical_suspendDormant {s : State} (h : s.Canonical) : (s.suspendDormant).Canonical := by
  unfold State.suspendDormant
  refine canonical_ite ?_ h
  extract_lets __src __src1
  have h__src : __src.Canonical := canonical_set h ..
  clear_value __src __src1
  exact canonical_upd h__src (by rfl)

theorem canonical_searchStart {s : State} (h : s.Canonical) (cause : ℕ) : (s.searchStart cause).Canonical := by
  unfold State.searchStart
  refine canonical_ite h ?_
  extract_lets s1 __src
  have hs1 : s1.Canonical := canonical_set (canonical_set (canonical_set (canonical_set h ..) ..) ..) ..
  clear_value s1 __src
  exact canonical_searchFrom (canonical_suspendDormant (canonical_upd hs1 (by rfl))) _

theorem canonical_gnsStartUp {s : State} (h : s.Canonical) : (s.gnsStartUp).Canonical := by
  unfold State.gnsStartUp
  exact canonical_ite (canonical_searchStart h _) h

theorem canonical_gsiFaulty {s : State} (h : s.Canonical) (i : ℕ) : (s.gsiFaulty i).Canonical := by
  unfold State.gsiFaulty
  exact canonical_upd h (by rfl)

theorem canonical_setGnsCh {s : State} (h : s.Canonical) (c : ℕ) (x : GnsCh) : (s.setGnsCh c x).Canonical := by
  unfold State.setGnsCh
  exact canonical_upd h (by rfl)

theorem canonical_chRequest {s : State} (h : s.Canonical) (c new : ℕ) : (s.chRequest c new).Canonical := by
  unfold State.chRequest
  extract_lets x
  clear_value x
  exact canonical_ite h (canonical_setGnsCh h ..)

theorem canonical_loseInputs {s : State} (h : s.Canonical) (p : ℕ → Bool) : (s.loseInputs p).Canonical := by
  unfold State.loseInputs
  exact canonical_foldl (fun u a hu => canonical_ite (canonical_chRequest hu ..) hu) h

theorem canonical_setAnt {s : State} (h : s.Canonical) (a : ℕ) (x : AntSt) : (s.setAnt a x).Canonical := by
  unfold State.setAnt
  exact canonical_upd h (by rfl)

theorem canonical_antEnLive {s : State} (h : s.Canonical) (a : ℕ) : (s.antEnLive a).Canonical := by
  unfold State.antEnLive
  exact canonical_ite h (canonical_setAnt (canonical_set h ..) ..)

theorem canonical_posModeLive {s : State} (h : s.Canonical) (changed : Bool) : (s.posModeLive changed).Canonical := by
  unfold State.posModeLive
  extract_lets s1 __src
  have hs1 : s1.Canonical := canonical_ite (canonical_set h ..) h
  clear_value s1 __src
  exact canonical_ite (canonical_upd hs1 (by rfl)) hs1

theorem canonical_antDlyLive {s : State} (h : s.Canonical) (b : ℕ) : (s.antDlyLive b).Canonical := by
  unfold State.antDlyLive
  exact canonical_foldl (fun u a hu => canonical_ite (canonical_set hu ..) hu) h

theorem canonical_dormantChanged {s : State} (h : s.Canonical) : (s.dormantChanged).Canonical := by
  unfold State.dormantChanged
  extract_lets inForce s1 __src
  have hs1 : s1.Canonical := canonical_setB h ..
  clear_value inForce s1 __src
  exact canonical_ite (canonical_foldl (fun u a hu => canonical_ite (canonical_chRequest hu ..) hu) hs1) (canonical_upd hs1
      (by rfl))

theorem canonical_chLive {s : State} (h : s.Canonical) (c : ℕ) (was : Bool) : (s.chLive c was).Canonical := by
  unfold State.chLive
  extract_lets s1 en auto pair assign
  have hs1 : s1.Canonical := canonical_set (canonical_set h ..) ..
  have hassign : (assign s1).Canonical :=
    canonical_ite (canonical_setGnsCh (canonical_set (canonical_set hs1 ..) ..) ..)
      (canonical_setGnsCh (canonical_set (canonical_set hs1 ..) ..) ..)
  exact canonical_ite (canonical_chRequest hassign ..) (canonical_ite (canonical_chRequest hassign ..)
    (canonical_ite (canonical_chRequest hs1 ..) hs1))

theorem canonical_setRef {s : State} (h : s.Canonical) (r : ℕ) (x : RefSt) : (s.setRef r x).Canonical := by
  unfold State.setRef
  exact canonical_upd h (by rfl)

theorem canonical_traceAt {s : State} (h : s.Canonical) (ttype src short frac payload : ℕ) :
    (s.traceAt ttype src short frac payload).Canonical := by
  unfold State.traceAt
  split
  · rename_i x s1 lost e
    have hs1 : s1.Canonical := canonical_fst (canonical_pushTrace h ..) e
    extract_lets s2
    have hs2 : s2.Canonical := canonical_count hs1 _
    clear_value s2
    exact canonical_ite (canonical_count hs2 _) hs2

theorem canonical_trace {s : State} (h : s.Canonical) (ttype src payload : ℕ) : (s.trace ttype src payload).Canonical := by
  unfold State.trace
  exact canonical_traceAt h ..

theorem canonical_refRecord {s : State} (h : s.Canonical) (r old new cause : ℕ) : (s.refRecord r old new cause).Canonical
    := by
  unfold State.refRecord
  extract_lets cnt m p
  clear_value cnt m p
  exact canonical_trace (canonical_pevent (canonical_count h _) ..) ..

theorem canonical_setTimer {s : State} (h : s.Canonical) (r n : ℕ) : (s.setTimer r n).Canonical := by
  unfold State.setTimer
  exact canonical_set (canonical_setRef h ..) ..

theorem canonical_refShift {s : State} (h : s.Canonical) (r new timer : ℕ) : (s.refShift r new timer).Canonical := by
  unfold State.refShift
  extract_lets s1 __src
  have hs1 : s1.Canonical := canonical_setTimer (canonical_set h ..) ..
  clear_value s1 __src
  exact canonical_ite (canonical_setRef hs1 ..) hs1

theorem canonical_refMove {s : State} (h : s.Canonical) (r new timer cause : ℕ) : (s.refMove r new timer cause).Canonical
    := by
  unfold State.refMove
  exact canonical_refRecord (canonical_refShift h ..) ..

theorem canonical_refEnable {s : State} (h : s.Canonical) (r : ℕ) (was : Bool) : (s.refEnable r was).Canonical := by
  unfold State.refEnable
  extract_lets en x s1 left
  have hs1 : s1.Canonical := canonical_setRef h ..
  clear_value en x s1 left
  refine canonical_ite ?_ (canonical_ite (canonical_refMove (canonical_setRef h ..) ..) h)
  split
  · exact canonical_refMove hs1 ..
  · exact canonical_refMove hs1 ..

theorem canonical_formPhase {s : State} (h : s.Canonical) : (s.formPhase).Canonical := by
  unfold State.formPhase
  extract_lets st anchored w s1 gives den x y src s2
  have hs1 : s1.Canonical := canonical_foldl (fun u c hu => canonical_setB (canonical_setB (canonical_set hu ..) ..) ..) h
  have hs2 : s2.Canonical := canonical_setB (canonical_tsk hs1 _) ..
  clear_value s2
  exact canonical_ite (canonical_set hs2 ..) hs2

theorem canonical_kstateRecord {s : State} (h : s.Canonical) (old new act cause : ℕ) :
    (s.kstateRecord old new act cause).Canonical := by
  unfold State.kstateRecord
  extract_lets p
  clear_value p
  exact canonical_trace (canonical_pevent h ..) ..

theorem canonical_modeStrobe {s : State} (h : s.Canonical) : (s.modeStrobe).Canonical := by
  unfold State.modeStrobe
  extract_lets old oact new act s1
  have hs1 : s1.Canonical := canonical_formPhase (canonical_enterState h ..)
  clear_value old oact new act s1
  exact canonical_ite hs1 (canonical_kstateRecord hs1 ..)

theorem canonical_efcLive {s : State} (h : s.Canonical) (was : ℕ) : (s.efcLive was).Canonical := by
  unfold State.efcLive
  extract_lets mode
  clear_value mode
  exact canonical_ite h (canonical_ite (canonical_writeCode (canonical_efcRestart h) _) (canonical_holdInit
      (canonical_efcRestart h)))

theorem canonical_boundTraceRec {s : State} (h : s.Canonical) (cause : ℕ) : (s.boundTraceRec cause).Canonical := by
  unfold State.boundTraceRec
  exact canonical_trace h ..

theorem canonical_boundTrace {s : State} (h : s.Canonical) : (s.boundTrace).Canonical := by
  unfold State.boundTrace
  extract_lets e tag s1 s2 __src
  have hs1 : s1.Canonical := canonical_ite (canonical_boundTraceRec h _) h
  have hs2 : s2.Canonical := canonical_ite (canonical_boundTraceRec hs1 _) hs1
  clear_value e tag s1 s2 __src
  exact canonical_upd hs2 (by rfl)

theorem canonical_publish {s : State} (h : s.Canonical) (computed tag : ℕ) : (s.publish computed tag).Canonical := by
  unfold State.publish
  extract_lets v v1 v2 v3 s1 s2 s3
  have hs1 : s1.Canonical := canonical_set (canonical_set h ..) ..
  have hs2 : s2.Canonical := canonical_set (canonical_set hs1 ..) ..
  have hs3 : s3.Canonical := canonical_setB (canonical_setB hs2 ..) ..
  clear_value v v1 v2 v3 s1 s2 s3
  exact canonical_setB hs3 ..

theorem canonical_recomputeTeb {s : State} (h : s.Canonical) : (s.recomputeTeb).Canonical := by
  unfold State.recomputeTeb
  extract_lets s1
  have hs1 : s1.Canonical := canonical_foldl (fun u a hu => canonical_set hu ..) h
  clear_value s1
  split
  · extract_lets s2 s3 __src s4
    have hs2 : s2.Canonical := canonical_set (canonical_set hs1 ..) ..
    have hs3 : s3.Canonical := canonical_set (canonical_set hs2 ..) ..
    have hs4 : s4.Canonical := canonical_upd hs3 (by rfl)
    clear_value s2 s3 __src s4
    exact canonical_publish hs4 ..

theorem canonical_renewClaims {s : State} (h : s.Canonical) : (s.renewClaims).Canonical := by
  unfold State.renewClaims
  exact canonical_upd h (by rfl)

theorem canonical_syncLive {s : State} (h : s.Canonical) : (s.syncLive).Canonical := by
  unfold State.syncLive
  extract_lets arm disarm s1
  have hs1 : s1.Canonical := canonical_ite (canonical_set h ..) (canonical_ite (canonical_set h ..) h)
  clear_value arm disarm s1
  exact canonical_set (canonical_set hs1 ..) ..

theorem canonical_lockaOut {s : State} (h : s.Canonical) (b : ℕ) : (s.lockaOut b).Canonical := by
  unfold State.lockaOut
  exact canonical_emitOut h _

theorem canonical_setBurn {s : State} (h : s.Canonical) (b : ℕ) (x : BurnSt) : (s.setBurn b x).Canonical := by
  unfold State.setBurn
  exact canonical_upd h (by rfl)

theorem canonical_unalign {s : State} (h : s.Canonical) (b : ℕ) : (s.unalign b).Canonical := by
  unfold State.unalign
  exact canonical_foldl (fun u a hu => canonical_ite (canonical_set hu ..) hu) h

theorem canonical_burnTo {s : State} (h : s.Canonical) (b st : ℕ) : (s.burnTo b st).Canonical := by
  unfold State.burnTo
  extract_lets __src s1
  have hs1 : s1.Canonical := canonical_lockaOut (canonical_setBurn (canonical_set h ..) ..) _
  clear_value __src s1
  exact canonical_ite hs1 (canonical_unalign hs1 _)

theorem canonical_burnSearch {s : State} (h : s.Canonical) (b : ℕ) : (s.burnSearch b).Canonical := by
  unfold State.burnSearch
  extract_lets s1 __src
  have hs1 : s1.Canonical := canonical_count (canonical_burnTo h ..) _
  clear_value s1 __src
  exact canonical_set (canonical_setBurn hs1 ..) ..

theorem canonical_burnLive {s : State} (h : s.Canonical) (b : ℕ) (was changed : Bool) : (s.burnLive b was
    changed).Canonical := by
  unfold State.burnLive
  extract_lets en
  clear_value en
  exact canonical_ite (canonical_ite (canonical_burnTo h ..) h) (canonical_ite (canonical_burnSearch h _) (canonical_ite
      (canonical_burnSearch h _) h))

theorem canonical_setPin {s : State} (h : s.Canonical) (o : ℕ) (x : PinSt) : (s.setPin o x).Canonical := by
  unfold State.setPin
  exact canonical_upd h (by rfl)

theorem canonical_outModeLive {s : State} (h : s.Canonical) (o : ℕ) : (s.outModeLive o).Canonical := by
  unfold State.outModeLive
  refine canonical_ite h ?_
  extract_lets s1 s2
  have hs1 : s1.Canonical := canonical_setPin h ..
  have hs2 : s2.Canonical := canonical_set hs1 ..
  clear_value s1 s2
  exact canonical_setB hs2 ..

theorem canonical_draw {s : State} (h : s.Canonical) : (s.draw).Canonical := by
  unfold State.draw
  exact canonical_upd h (by rfl)

theorem canonical_freeNat {s : State} (h : s.Canonical) : (s.freeNat).2.Canonical := by
  unfold State.freeNat
  exact canonical_draw h

theorem canonical_vcoEdge {s : State} (h : s.Canonical) (b : ℕ) (t : ℚ) : (s.vcoEdge b t).2.Canonical := by
  unfold State.vcoEdge
  extract_lets per
  clear_value per
  split
  · exact h
  · split
    · rename_i x w s1 e
      have hs1 : s1.Canonical := canonical_snd (canonical_freeNat h) e
      exact hs1

theorem canonical_padOut {s : State} (h : s.Canonical) (o : ℕ) (x : Out) : (s.padOut o x).Canonical := by
  unfold State.padOut
  exact canonical_ite h (canonical_emitOut h _)

theorem canonical_outStartAt {s : State} (h : s.Canonical) (o first : ℕ) : (s.outStartAt o first).Canonical := by
  unfold State.outStartAt
  extract_lets s1 s2
  have hs1 : s1.Canonical := canonical_set h ..
  have hs2 : s2.Canonical := canonical_setB hs1 ..
  clear_value s1 s2
  refine canonical_ite ?_ (canonical_setPin hs2 ..)
  split
  · rename_i x e s3 e1
    have hs3 : s3.Canonical := canonical_snd (canonical_vcoEdge hs2 ..) e1
    extract_lets s4
    have hs4 : s4.Canonical := canonical_setPin hs3 ..
    clear_value s4
    exact canonical_padOut hs4 ..

theorem canonical_outStart {s : State} (h : s.Canonical) (o : ℕ) : (s.outStart o).Canonical := by
  unfold State.outStart
  refine canonical_ite h (canonical_ite (canonical_setPin h ..) (canonical_ite ?_ (canonical_set h ..)))
  extract_lets t
  have ht : t.Canonical := canonical_outStartAt h ..
  clear_value t
  exact canonical_ite (canonical_set ht ..) ht

theorem canonical_outStopReq {s : State} (h : s.Canonical) (o : ℕ) : (s.outStopReq o).Canonical := by
  unfold State.outStopReq
  split
  · exact canonical_set h ..
  · exact h
  · exact canonical_setPin h ..

theorem canonical_outLive {s : State} (h : s.Canonical) (o : ℕ) (moded : Bool) : (s.outLive o moded).Canonical := by
  unfold State.outLive
  extract_lets s1 s2
  have hs1 : s1.Canonical := canonical_set h ..
  have hs2 : s2.Canonical := canonical_ite (canonical_outModeLive hs1 _) hs1
  clear_value s1 s2
  exact canonical_ite (canonical_outStart hs2 _) (canonical_outStopReq hs2 _)

theorem canonical_clearOwned {s : State} (h : s.Canonical) (id : ℕ) : (s.clearOwned id).Canonical := by
  unfold State.clearOwned
  exact canonical_upd h (by rfl)

theorem canonical_freeEnt {s : State} (h : s.Canonical) (id : ℕ) : (s.freeEnt id).Canonical := by
  unfold State.freeEnt
  exact canonical_upd h (by rfl)

theorem canonical_tcount {s : State} (h : s.Canonical) (t k n : ℕ) : (s.tcount t k n).Canonical := by
  unfold State.tcount
  exact canonical_upd h (by rfl)

theorem canonical_lateRecord {s : State} (h : s.Canonical) (l : Late) : (s.lateRecord l).Canonical := by
  unfold State.lateRecord
  extract_lets e s1 s2 s3
  have hs1 : s1.Canonical := by
    unfold s1
    split
    · exact canonical_count (canonical_add h ..) _
    · exact canonical_countN (canonical_add h ..) ..
    · exact canonical_count (canonical_add h ..) _
  have hs2 : s2.Canonical := canonical_ite (canonical_count hs1 _) hs1
  have hs3 : s3.Canonical := canonical_tcount hs2 ..
  clear_value e s1 s2 s3
  exact canonical_eventAt hs3 ..

theorem canonical_flushLateN {x1 : State} (h : x1.Canonical) (x0 : ℕ) : (State.flushLateN x0 x1).Canonical := by
  induction x0 generalizing x1 with
  | zero => exact h
  | succ n ih =>
    unfold State.flushLateN
    split
    · exact h
    · exact canonical_ite h (ih (canonical_lateRecord (canonical_upd h (by rfl)) _))

theorem canonical_flushLate {s : State} (h : s.Canonical) : (s.flushLate).Canonical := by
  unfold State.flushLate
  exact canonical_flushLateN h _

theorem canonical_dropDisowned {s : State} (h : s.Canonical) (id : ℕ) (e : SchEnt) (missed : ℕ) :
    (s.dropDisowned id e missed).Canonical := by
  unfold State.dropDisowned
  extract_lets s1 __src
  have hs1 : s1.Canonical := canonical_clearOwned (canonical_freeEnt h _) _
  clear_value s1 __src
  exact canonical_flushLate (canonical_upd hs1 (by rfl))

theorem canonical_ownerChange {s : State} (h : s.Canonical) (g old : ℕ) : (s.ownerChange g old).Canonical := by
  unfold State.ownerChange
  extract_lets l
  clear_value l
  exact canonical_foldl (fun u a hu => canonical_ite (canonical_upd hu (by rfl)) (canonical_dropDisowned hu ..)) h

theorem canonical_setAes {s : State} (h : s.Canonical) (m : ℕ) (x : AesSt) : (s.setAes m x).Canonical := by
  unfold State.setAes
  exact canonical_upd h (by rfl)

theorem canonical_aesHold {s : State} (h : s.Canonical) (m : ℕ) : (s.aesHold m).Canonical := by
  unfold State.aesHold
  extract_lets mode s1 __src
  have hs1 : s1.Canonical := canonical_emitOut h _
  clear_value mode s1 __src
  exact canonical_ite (canonical_setAes hs1 ..) (canonical_set (canonical_setAes hs1 ..) ..)

theorem canonical_aesRestart {s : State} (h : s.Canonical) (m : ℕ) : (s.aesRestart m).Canonical := by
  unfold State.aesRestart
  exact canonical_ite (canonical_setAes h ..) (canonical_aesHold h _)

theorem canonical_aesLive {s : State} (h : s.Canonical) (m : ℕ) (changed : Bool) : (s.aesLive m changed).Canonical := by
  unfold State.aesLive
  extract_lets re s1
  have hs1 : s1.Canonical := canonical_set h ..
  clear_value re s1
  exact canonical_ite (canonical_aesRestart hs1 _) hs1

theorem canonical_portOn {s : State} (h : s.Canonical) (p : ℕ) : (s.portOn p).Canonical := by
  unfold State.portOn
  exact canonical_ite (canonical_set (canonical_set h ..) ..) h

theorem canonical_ethStat {s : State} (h : s.Canonical) (p k n : ℕ) : (s.ethStat p k n).Canonical := by
  unfold State.ethStat
  exact canonical_countN (canonical_add h ..) ..

theorem canonical_setPort {s : State} (h : s.Canonical) (p : ℕ) (x : PortSt) : (s.setPort p x).Canonical := by
  unfold State.setPort
  exact canonical_upd h (by rfl)

theorem canonical_missAll {s : State} (h : s.Canonical) (p k : ℕ) : (s.missAll p k).Canonical := by
  unfold State.missAll
  extract_lets n __src
  clear_value n __src
  exact canonical_ethStat (canonical_setPort h ..) ..

theorem canonical_cutLaunch {s : State} (h : s.Canonical) (p : ℕ) : (s.cutLaunch p).Canonical := by
  unfold State.cutLaunch
  extract_lets x
  clear_value x
  exact canonical_ite (canonical_ethStat (canonical_setPort h ..) ..) h

theorem canonical_txtsFill {s : State} (h : s.Canonical) (p : ℕ) : (s.txtsFill p).Canonical := by
  unfold State.txtsFill
  exact canonical_set h ..

theorem canonical_pushTxts {s : State} (h : s.Canonical) (p : ℕ) (e : TxTs) : (s.pushTxts p e).Canonical := by
  unfold State.pushTxts
  extract_lets x
  clear_value x
  split
  · exact canonical_ethStat (canonical_setPort h ..) ..
  · exact canonical_ite (canonical_txtsFill (canonical_setPort h ..) _) (canonical_ethStat (canonical_set
        (canonical_setPort h ..) ..) ..)

theorem canonical_txtsOf {s : State} (h : s.Canonical) (p : ℕ) (e : BeEnt) (stamp : Option ℕ) : (s.txtsOf p e
    stamp).Canonical := by
  unfold State.txtsOf
  split
  · split
    · exact canonical_pushTxts h ..
    · exact canonical_pushTxts h ..
  · exact h

theorem canonical_ethLink {s : State} (h : s.Canonical) (p st cause : ℕ) : (s.ethLink p st cause).Canonical := by
  unfold State.ethLink
  exact canonical_pevent h ..

theorem canonical_finish {s : State} (h : s.Canonical) (fn n status result : ℕ) : (s.finish fn n status result).Canonical
    := by
  unfold State.finish
  extract_lets f
  clear_value f
  exact canonical_setFn h ..

theorem canonical_loopAbort {s : State} (h : s.Canonical) (cause : ℕ) : (s.loopAbort cause).Canonical := by
  unfold State.loopAbort
  split
  · extract_lets __src s1 s2 s3
    have hs1 : s1.Canonical := canonical_upd h (by rfl)
    have hs2 : s2.Canonical := canonical_set (canonical_set (canonical_set hs1 ..) ..) ..
    have hs3 : s3.Canonical := canonical_foldl (fun u a hu => canonical_ite (canonical_set hu ..) hu) hs2
    clear_value __src s1 s2 s3
    exact canonical_count (canonical_count hs3 _) _
  · exact h

theorem canonical_leaveUp {s : State} (h : s.Canonical) (p st cause : ℕ) : (s.leaveUp p st cause).Canonical := by
  unfold State.leaveUp
  extract_lets was s1 s2 be s3 __src s4 s5 s6
  have hs1 : s1.Canonical := canonical_set h ..
  have hs2 : s2.Canonical := canonical_missAll (canonical_cutLaunch hs1 _) ..
  have hs3 : s3.Canonical := canonical_foldl (fun u a hu => canonical_txtsOf hu ..) hs2
  have hs4 : s4.Canonical := canonical_set (canonical_setPort hs3 ..) ..
  have hs5 : s5.Canonical := canonical_ethLink hs4 ..
  have hs6 : s6.Canonical := by
    refine canonical_foldl (fun u a hu => ?_) hs5
    split
    · exact canonical_finish hu ..
    · exact hu
  clear_value was s1 s2 be s3 __src s4 s5 s6
  exact canonical_ite (canonical_loopAbort hs6 _) hs6

theorem canonical_synceLock {s : State} (h : s.Canonical) (p : ℕ) (lock : Bool) : (s.synceLock p lock).Canonical := by
  unfold State.synceLock
  exact canonical_ite h (canonical_ite h (canonical_ite (canonical_srcEnable h _) (canonical_srcDisable h _)))

theorem canonical_portOff {s : State} (h : s.Canonical) (p cause : ℕ) : (s.portOff p cause).Canonical := by
  unfold State.portOff
  extract_lets s1 s2 s3 s4
  have hs1 : s1.Canonical := canonical_ite (canonical_leaveUp h ..) h
  have hs2 : s2.Canonical := canonical_set (canonical_set hs1 ..) ..
  have hs3 : s3.Canonical := canonical_set (canonical_set hs2 ..) ..
  have hs4 : s4.Canonical := canonical_set (canonical_set hs3 ..) ..
  clear_value s1 s2 s3 s4
  exact canonical_synceLock (canonical_set hs4 ..) ..

theorem canonical_ethLive {s : State} (h : s.Canonical) (p : ℕ) (was : Bool) : (s.ethLive p was).Canonical := by
  unfold State.ethLive
  extract_lets s1
  have hs1 : s1.Canonical := canonical_ite (canonical_set h ..) h
  clear_value s1
  exact canonical_ite (canonical_portOn hs1 _) (canonical_ite (canonical_portOff hs1 ..) hs1)

theorem canonical_tagHmk {s : State} (h : s.Canonical) : (s.tagHmk).Canonical := by
  unfold State.tagHmk
  extract_lets c f __src
  clear_value c __src
  exact canonical_upd h (by rfl)

theorem canonical_tatSwap {s : State} (h : s.Canonical) : (s.tatSwap).Canonical := by
  unfold State.tatSwap
  refine canonical_ite ?_ (canonical_set h ..)
  extract_lets s1
  have hs1 : s1.Canonical := canonical_tagHmk h
  clear_value s1
  exact canonical_set (canonical_add hs1 ..) ..

theorem canonical_drillEnd {s : State} (h : s.Canonical) (r : ℕ) (own : Bool) : (s.drillEnd r own).Canonical := by
  unfold State.drillEnd
  extract_lets held __src p s1 s2 s3
  have hs1 : s1.Canonical := canonical_upd h (by rfl)
  have hs2 : s2.Canonical := canonical_set (canonical_set (canonical_set hs1 ..) ..) ..
  have hs3 : s3.Canonical := canonical_add (canonical_set hs2 ..) ..
  clear_value held __src p s1 s2 s3
  exact canonical_pevent hs3 ..

theorem canonical_drillTrigger {s : State} (h : s.Canonical) : (s.drillTrigger).Canonical := by
  unfold State.drillTrigger
  exact canonical_ite (canonical_drillEnd h ..) h

theorem canonical_setLink {s : State} (h : s.Canonical) (l : ℕ) (x : LinkSt) : (s.setLink l x).Canonical := by
  unfold State.setLink
  exact canonical_upd h (by rfl)

theorem canonical_resyncRecord {s : State} (h : s.Canonical) (full : Bool) (what : ℕ) : (s.resyncRecord full
    what).Canonical := by
  unfold State.resyncRecord
  exact canonical_pevent h ..

theorem canonical_linkCut {s : State} (h : s.Canonical) : (s.linkCut).Canonical := by
  unfold State.linkCut
  refine canonical_ite h ?_
  extract_lets s1 __src s2
  have hs1 : s1.Canonical := by
    unfold s1
    split
    · exact canonical_setLink h ..
    · exact h
  have hs2 : s2.Canonical := by
    unfold s2
    split
    · exact canonical_resyncRecord (canonical_set (canonical_upd hs1 (by rfl)) ..) ..
    · exact hs1
  clear_value s1 __src s2
  exact canonical_ite (canonical_drillEnd hs2 ..) hs2

theorem canonical_tieStep {s : State} (h : s.Canonical) : (s.tieStep).Canonical := by
  unfold State.tieStep
  extract_lets eq __src s1
  have hs1 : s1.Canonical := canonical_upd h (by rfl)
  clear_value eq __src s1
  exact canonical_ite (canonical_pevent (canonical_set hs1 ..) ..) hs1

theorem canonical_claimStep {s : State} (h : s.Canonical) : (s.claimStep).Canonical := by
  unfold State.claimStep
  extract_lets p c base bias old eff p1 p2 drive was s1 s2 s3 s4
  have hs1 : s1.Canonical := canonical_upd h (by rfl)
  have hs2 : s2.Canonical := canonical_set (canonical_set (canonical_set hs1 ..) ..) ..
  have hs3 : s3.Canonical := canonical_setB hs2 ..
  have hs4 : s4.Canonical := canonical_ite hs3 (canonical_emitOut hs3 _)
  clear_value p c base bias old eff p1 p2 drive was s1 s2 s3 s4
  exact canonical_ite hs4 (canonical_emitOut hs4 _)

theorem canonical_setJobs {s : State} (h : s.Canonical) (p : ℕ) (l : List HJob) : (s.setJobs p l).Canonical := by
  unfold State.setJobs
  exact canonical_upd h (by rfl)

theorem canonical_releaseResvs {s : State} (h : s.Canonical) (p : ℕ) (f : Resv → Bool) : (s.releaseResvs p f).Canonical := by
  unfold State.releaseResvs
  extract_lets x gone
  clear_value x gone
  exact canonical_ite h (canonical_ethStat (canonical_setPort h ..) ..)

theorem canonical_hmkStat {s : State} (h : s.Canonical) (k : ℕ) : (s.hmkStat k).Canonical := by
  unfold State.hmkStat
  exact canonical_count (canonical_add h ..) _

theorem canonical_stopServing {s : State} (h : s.Canonical) : (s.stopServing).Canonical := by
  unfold State.stopServing
  extract_lets t
  clear_value t
  refine canonical_foldl (fun u a hu => ?_) h
  extract_lets n s1
  have hs1 : s1.Canonical := canonical_setJobs (canonical_releaseResvs hu ..) ..
  clear_value n s1
  exact canonical_foldl (fun u1 a1 hu1 => canonical_hmkStat hu1 _) hs1

theorem canonical_roleBound {s : State} (h : s.Canonical) (old new : ℕ) : (s.roleBound old new).Canonical := by
  unfold State.roleBound
  extract_lets __src s1
  have hs1 : s1.Canonical := by
    unfold s1
    split
    · exact canonical_ite (canonical_upd h (by rfl)) (canonical_ite (canonical_upd h (by rfl)) (canonical_upd h (by rfl)))
    · exact canonical_upd h (by rfl)
  clear_value __src s1
  exact canonical_publish hs1 ..

theorem canonical_roleChange {s : State} (h : s.Canonical) (new cause : ℕ) : (s.roleChange new cause).Canonical := by
  unfold State.roleChange
  extract_lets old s1 p s2 s3 s4 __src s5 s6 __src1
  have hs1 : s1.Canonical := canonical_set h ..
  have hs2 : s2.Canonical := canonical_count (canonical_trace (canonical_pevent hs1 ..) ..) _
  have hs3 : s3.Canonical := canonical_setB hs2 ..
  have hs4 : s4.Canonical := canonical_ite (canonical_stopServing hs3) hs3
  have hs5 : s5.Canonical := canonical_ite (canonical_upd hs4 (by rfl)) hs4
  have hs6 : s6.Canonical := canonical_roleBound hs5 ..
  clear_value old s1 p s2 s3 s4 __src s5 s6 __src1
  split
  · exact canonical_ite (canonical_set (canonical_upd hs6 (by rfl)) ..) hs6
  · exact hs6

theorem canonical_pairSettle {s : State} (h : s.Canonical) (cause : ℕ) : (s.pairSettle cause).Canonical := by
  unfold State.pairSettle
  extract_lets s1 s2 s3 ok __src
  have hs1 : s1.Canonical := canonical_drillTrigger (canonical_linkCut h)
  have hs2 : s2.Canonical := canonical_tieStep (canonical_claimStep (canonical_claimStep (canonical_claimStep hs1)))
  have hs3 : s3.Canonical := canonical_ite hs2 (canonical_roleChange hs2 ..)
  clear_value s1 s2 s3 ok __src
  exact canonical_ite hs3 (canonical_emitOut (canonical_upd hs3 (by rfl)) _)

theorem canonical_startTraining {s : State} (h : s.Canonical) (l : ℕ) : (s.startTraining l).Canonical := by
  unfold State.startTraining
  extract_lets s1 __src s2
  have hs1 : s1.Canonical := canonical_count (canonical_add h ..) _
  have hs2 : s2.Canonical := canonical_setLink hs1 ..
  clear_value s1 __src s2
  exact canonical_set hs2 ..

theorem canonical_loseShards {s : State} (h : s.Canonical) (l : ℕ) : (s.loseShards l).Canonical := by
  unfold State.loseShards
  extract_lets n __src
  clear_value n __src
  exact canonical_ite h (canonical_add (canonical_upd h (by rfl)) ..)

theorem canonical_setBit {s : State} (h : s.Canonical) (f : Fld) (i : ℕ) (b : Bool) : (s.setBit f i b).Canonical := by
  unfold State.setBit
  extract_lets v v'
  clear_value v v'
  exact canonical_set h ..

theorem canonical_linkTo {s : State} (h : s.Canonical) (l st cause : ℕ) : (s.linkTo l st cause).Canonical := by
  unfold State.linkTo
  extract_lets old s1 s2 s3
  have hs1 : s1.Canonical := canonical_ite (canonical_loseShards h _) h
  have hs2 : s2.Canonical := canonical_settleCapacity (canonical_set hs1 ..)
  have hs3 : s3.Canonical := canonical_setBit (canonical_setBit hs2 ..) ..
  clear_value old s1 s2 s3
  exact canonical_pevent hs3 ..

theorem canonical_linkTrain {s : State} (h : s.Canonical) (l cause : ℕ) : (s.linkTrain l cause).Canonical := by
  unfold State.linkTrain
  exact canonical_startTraining (canonical_linkTo h ..) _

theorem canonical_linkOn {s : State} (h : s.Canonical) (l : ℕ) : (s.linkOn l).Canonical := by
  unfold State.linkOn
  exact canonical_ite (canonical_linkTrain h ..) h

theorem canonical_setIso {s : State} (h : s.Canonical) (l : ℕ) (b : Bool) : (s.setIso l b).Canonical := by
  unfold State.setIso
  exact canonical_setBit (canonical_setB h ..) ..

theorem canonical_linkOff {s : State} (h : s.Canonical) (l cause : ℕ) : (s.linkOff l cause).Canonical := by
  unfold State.linkOff
  exact canonical_ite h (canonical_setIso (canonical_set (canonical_setLink (canonical_linkTo h ..) ..) ..) ..)

theorem canonical_gflLive {s : State} (h : s.Canonical) (l : ℕ) (was : Bool) : (s.gflLive l was).Canonical := by
  unfold State.gflLive
  exact canonical_ite (canonical_linkOn h _) (canonical_ite (canonical_linkOff h ..) h)

theorem canonical_liveReg {old s : State} (h : old.Canonical) (h2 : s.Canonical) (p : PReg) : (old.liveReg s p).Canonical
    := by
  unfold State.liveReg
  extract_lets i en __src en1 en2 again s1
  have hs1 : s1.Canonical := canonical_outLive h2 ..
  clear_value i en __src en1 en2 again s1
  split
  · exact canonical_ite (canonical_srcEnable h2 _) (canonical_ite (canonical_srcDisable h2 _) h2)
  · exact canonical_ite h2 (canonical_setSrc h2 ..)
  · exact canonical_ite (canonical_aportEnable h2 _) (canonical_ite (canonical_aportDisable h2 _) h2)
  · exact canonical_ite h2 (canonical_setTod h2 ..)
  · exact canonical_ite h2 (canonical_setTodOut h2 ..)
  · exact canonical_ite (canonical_ticDisabled h2 _) h2
  · exact canonical_pathWritten h2 _
  · exact canonical_ite (canonical_gnsStartUp (canonical_gsiFaulty h2 _)) (canonical_ite (canonical_loseInputs
        (canonical_set (canonical_set h2 ..) ..) _) h2)
  · exact canonical_antEnLive h2 _
  · exact canonical_posModeLive h2 _
  · exact canonical_antDlyLive h2 _
  · exact canonical_dormantChanged h2
  · exact canonical_chLive h2 ..
  · exact canonical_refEnable h2 ..
  · exact canonical_ite h2 (canonical_modeStrobe h2)
  · exact canonical_set (canonical_set h2 ..) ..
  · exact canonical_set h2 ..
  · exact canonical_efcLive h2 _
  · exact canonical_boundTrace (canonical_recomputeTeb (canonical_renewClaims h2))
  · exact canonical_boundTrace (canonical_recomputeTeb (canonical_renewClaims h2))
  · exact canonical_boundTrace (canonical_recomputeTeb h2)
  · exact canonical_syncLive h2
  · exact canonical_burnLive (canonical_set h2 ..) ..
  · exact canonical_outLive h2 ..
  · exact canonical_ite hs1 (canonical_ownerChange hs1 ..)
  · exact canonical_aesLive h2 ..
  · exact canonical_ethLive h2 ..
  · exact canonical_set (canonical_ite (canonical_tatSwap h2) h2) ..
  · exact canonical_set h2 ..
  · exact canonical_set (canonical_set h2 ..) ..
  · exact canonical_pairSettle (canonical_gflLive h2 ..) _
  · exact canonical_pairSettle h2 _
  · exact h2

theorem canonical_defaultsLive {old s : State} (h : old.Canonical) (h2 : s.Canonical) : (old.defaultsLive s).Canonical := by
  unfold State.defaultsLive
  exact canonical_foldl (fun u a hu => canonical_liveReg h hu _) h2

theorem canonical_imageLive {s : State} (h : s.Canonical) (img : Image) (src : ℕ) : (s.imageLive img src).Canonical := by
  unfold State.imageLive
  extract_lets old s1 wants up src2 s2 src3 s3 s4
  have hs1 : s1.Canonical := canonical_goLive h ..
  have hs2 : s2.Canonical := canonical_pow hs1 _
  have hs3 : s3.Canonical := canonical_ite (canonical_gns hs2 _) hs2
  have hs4 : s4.Canonical := canonical_defaultsLive h hs3
  clear_value s4
  exact canonical_settleAlert (canonical_set (canonical_set hs4 ..) ..)

theorem canonical_loadResult {s : State} (h : s.Canonical) (c code sect : ℕ) : (s.loadResult c code sect).Canonical := by
  unfold State.loadResult
  extract_lets s1
  have hs1 : s1.Canonical := canonical_set (canonical_set h ..) ..
  clear_value s1
  exact canonical_ite (canonical_count hs1 _) (canonical_count hs1 _)

theorem canonical_noImage {s : State} (h : s.Canonical) : (s.noImage).Canonical := by
  unfold State.noImage
  exact canonical_settleAlert (canonical_set (canonical_set h ..) ..)

theorem canonical_imagePhase {s : State} (h : s.Canonical) : (s.imagePhase).Canonical := by
  unfold State.imagePhase
  exact canonical_ite (canonical_noImage h) (canonical_set h ..)

theorem canonical_warmReset {s : State} (h : s.Canonical) : (s.warmReset).Canonical := by
  unfold State.warmReset
  extract_lets prov warm tsk kept x _ _ _ _ _ _ r r1 r2 r3 r4 r5 r6
  have hr : r.Canonical := (canonical_mk_iff ..).mpr ⟨store_wf_filter h.1 _, rfl⟩
  have hr1 : r1.Canonical := canonical_set (canonical_set hr ..) ..
  have hr2 : r2.Canonical := canonical_putStraps hr1 _
  have hr3 : r3.Canonical := canonical_set (canonical_set hr2 ..) ..
  have hr4 : r4.Canonical := canonical_ite (canonical_set hr3 ..) (canonical_enterState hr3 ..)
  have hr5 : r5.Canonical := canonical_settleLog hr4
  have hr6 : r6.Canonical := canonical_ite (canonical_rollStart hr5 ..) hr5
  clear_value r6
  split
  · exact canonical_imageLive (canonical_loadResult hr6 ..) ..
  · exact canonical_imagePhase hr6

theorem canonical_execWarmReset {s : State} (h : s.Canonical) : NextCanonical (execWarmReset s) := by
  unfold execWarmReset
  exact nextCanonical_next (canonical_ite h (canonical_warmReset h))

theorem canonical_execClaimResetRelease {s : State} (h : s.Canonical) : NextCanonical (execClaimResetRelease s) := by
  unfold execClaimResetRelease
  exact nextCanonical_next (canonical_ite (canonical_emitOut (canonical_upd h (by rfl)) _) h)

theorem canonical_resetFn {s : State} (h : s.Canonical) (n : ℕ) : (s.resetFn n).Canonical := by
  unfold State.resetFn
  extract_lets f __src s1 lo snap err
  have hs1 : s1.Canonical := canonical_setFn h ..
  clear_value f __src s1
  exact ⟨store_wf_filter hs1.1 _, hs1.2⟩

theorem canonical_deleteOwned {s : State} (h : s.Canonical) (t : ℕ) : (s.deleteOwned t).Canonical := by
  unfold State.deleteOwned
  refine canonical_ite h ?_
  split
  · extract_lets went gone disp s1 __src
    have hs1 : s1.Canonical := canonical_foldl (fun u a hu => canonical_dropDisowned hu ..) h
    clear_value went gone disp s1 __src
    exact canonical_upd hs1 (by rfl)

theorem canonical_dropEntries {s : State} (h : s.Canonical) (n : ℕ) : (s.dropEntries n).Canonical := by
  unfold State.dropEntries
  refine canonical_ite h ?_
  split
  · exact canonical_deleteOwned h _
  · exact h

theorem canonical_settleTen {s : State} (h : s.Canonical) (t : ℕ) : (s.settleTen t).Canonical := by
  unfold State.settleTen
  exact canonical_setB h ..

theorem canonical_tenantDefaults {s : State} (h : s.Canonical) (t : ℕ) : (s.tenantDefaults t).Canonical := by
  unfold State.tenantDefaults
  refine canonical_foldl (fun u a hu => canonical_foldl (fun u1 a1 hu1 => ?_) hu) h
  split
  · exact canonical_ite (canonical_putDefault hu1 _) hu1
  · exact hu1

theorem canonical_resetVf {s : State} (h : s.Canonical) (drop dflt : Bool) (n : ℕ) : (s.resetVf drop dflt n).Canonical := by
  unfold State.resetVf
  extract_lets s1 s2
  have hs1 : s1.Canonical := canonical_resetFn h _
  have hs2 : s2.Canonical := canonical_ite (canonical_dropEntries hs1 _) hs1
  clear_value s1 s2
  split
  · exact canonical_settleTen (canonical_ite (canonical_tenantDefaults hs2 _) hs2) _
  · exact hs2

theorem canonical_resetVfs {s : State} (h : s.Canonical) (drop dflt : Bool) : (s.resetVfs drop dflt).Canonical := by
  unfold State.resetVfs
  extract_lets __src s1
  have hs1 : s1.Canonical := canonical_upd h (by rfl)
  clear_value __src s1
  exact canonical_foldl (fun u a hu => canonical_resetVf hu ..) hs1

theorem canonical_settleFn {s : State} (h : s.Canonical) (n : ℕ) : (s.settleFn n).Canonical := by
  unfold State.settleFn
  refine canonical_ite (canonical_settleTen h _) ?_
  split
  · exact canonical_settleTen h _
  · exact h

theorem canonical_perstReset {s : State} (h : s.Canonical) : (s.perstReset).Canonical := by
  unfold State.perstReset
  extract_lets s1 __src s2
  have hs1 : s1.Canonical := canonical_resetVfs (canonical_settleFn (canonical_resetFn h _) _) ..
  have hs2 : s2.Canonical := canonical_upd hs1 (by rfl)
  clear_value s1 __src s2
  exact canonical_set (canonical_set hs2 ..) ..

theorem canonical_execPerstReset {s : State} (h : s.Canonical) : NextCanonical (execPerstReset s) := by
  unfold execPerstReset
  exact nextCanonical_next (canonical_ite h (canonical_perstReset h))

theorem canonical_execBrownout {s : State} (h : s.Canonical) (pgFail : Bool) : NextCanonical (execBrownout pgFail s) := by
  unfold execBrownout
  exact nextCanonical_next (canonical_ite h (canonical_set (canonical_putStraps (canonical_porst h ..) _) ..))

theorem canonical_setPg {s : State} (h : s.Canonical) (d : ℕ) (b : Bool) : (s.setPg d b).Canonical := by
  unfold State.setPg
  exact canonical_setB h ..

theorem canonical_noteLost {s : State} (h : s.Canonical) : (s.noteLost).Canonical := by
  unfold State.noteLost
  extract_lets any track v __src
  clear_value any track v __src
  exact canonical_upd h (by rfl)

theorem canonical_chMove {s : State} (h : s.Canonical) (c new : ℕ) : (s.chMove c new).Canonical := by
  unfold State.chMove
  extract_lets x s1 s2 s3
  have hs1 : s1.Canonical := canonical_set h ..
  have hs2 : s2.Canonical := canonical_ite (canonical_set (canonical_set hs1 ..) ..) hs1
  have hs3 : s3.Canonical := canonical_ite (canonical_count hs2 _) hs2
  clear_value x s1 s2 s3
  exact canonical_noteLost (canonical_setGnsCh hs3 ..)

theorem canonical_searchStop {s : State} (h : s.Canonical) : (s.searchStop).Canonical := by
  unfold State.searchStop
  extract_lets __src __src1
  have h__src : __src.Canonical := canonical_set (canonical_set h ..) ..
  clear_value __src __src1
  exact canonical_upd h__src (by rfl)

theorem canonical_gnsDown {s : State} (h : s.Canonical) : (s.gnsDown).Canonical := by
  unfold State.gnsDown
  extract_lets s1 s2
  have hs1 : s1.Canonical := canonical_foldl (fun u a hu => canonical_ite hu (canonical_chMove hu ..))
      (canonical_searchStop h)
  have hs2 : s2.Canonical := canonical_foldl (fun u a hu => canonical_set hu ..) hs1
  clear_value s1 s2
  exact canonical_set (canonical_set hs2 ..) ..

theorem canonical_ticClear {s : State} (h : s.Canonical) (c : ℕ) : (s.ticClear c).Canonical := by
  unfold State.ticClear
  extract_lets s1 s2
  have hs1 : s1.Canonical := canonical_setTic h ..
  have hs2 : s2.Canonical := canonical_set (canonical_set (canonical_set hs1 ..) ..) ..
  clear_value s1 s2
  exact canonical_set (canonical_set hs2 ..) ..

theorem canonical_outHold {s : State} (h : s.Canonical) (o : ℕ) : (s.outHold o).Canonical := by
  unfold State.outHold
  extract_lets l
  clear_value l
  exact canonical_padOut h ..

theorem canonical_outStopped {s : State} (h : s.Canonical) (o : ℕ) : (s.outStopped o).Canonical := by
  unfold State.outStopped
  exact canonical_outHold (canonical_setPin (canonical_set (canonical_set h ..) ..) ..) _

theorem canonical_burnDown {s : State} (h : s.Canonical) (b : ℕ) : (s.burnDown b).Canonical := by
  unfold State.burnDown
  exact canonical_burnTo (canonical_foldl (fun u a hu => canonical_ite (canonical_outStopped hu _) hu) h) ..

theorem canonical_pdDown {s : State} (h : s.Canonical) (d cause : ℕ) : (s.pdDown d cause).Canonical := by
  unfold State.pdDown
  exact canonical_ite (canonical_portOff h ..) (canonical_ite (canonical_gnsDown h) (canonical_ite (canonical_foldl (fun u
      a hu => canonical_ticClear hu _) h) (canonical_ite (canonical_burnDown h _) (canonical_ite (canonical_foldl (fun u a
          hu => canonical_ite hu (canonical_outStopped hu _)) h) (canonical_ite (canonical_foldl (fun u a hu =>
              canonical_setAes hu ..) h) (canonical_ite (canonical_upd h (by rfl)) (canonical_ite (canonical_set h ..)
                  (canonical_ite (canonical_foldl (fun u a hu => canonical_linkOff hu ..) h) h))))))))

theorem canonical_pgFail {s : State} (h : s.Canonical) (d : ℕ) : (s.pgFail d).Canonical := by
  unfold State.pgFail
  refine canonical_ite ?_ h
  extract_lets s1 s2 __src
  have hs1 : s1.Canonical := canonical_set (canonical_setPg h ..) ..
  have hs2 : s2.Canonical := canonical_settleAlert (canonical_pevent hs1 ..)
  clear_value s1 s2 __src
  exact canonical_pdDown (canonical_upd hs2 (by rfl)) ..

theorem canonical_execPdPgFail {s : State} (h : s.Canonical) (d : ℕ) : NextCanonical (execPdPgFail d s) := by
  unfold execPdPgFail
  exact nextCanonical_next (canonical_ite (canonical_pgFail h _) h)

theorem canonical_pdStart {s : State} (h : s.Canonical) (d : ℕ) : (s.pdStart d).Canonical := by
  unfold State.pdStart
  exact canonical_ite (canonical_ite (canonical_portOn h _) h) (canonical_ite (canonical_dormantChanged
      (canonical_gnsStartUp (canonical_foldl (fun u a hu => canonical_ite (canonical_chLive hu ..) hu) h))) (canonical_ite
          (canonical_foldl (fun u a hu => canonical_ticClear hu _) h) (canonical_ite (canonical_burnLive
              (canonical_lockaOut h _) ..) (canonical_ite (canonical_foldl (fun u a hu => canonical_ite (canonical_outStart
                  hu _) hu) h) (canonical_ite (canonical_foldl (fun u a hu => canonical_ite (canonical_aesRestart hu _) hu)
                      h) (canonical_ite (canonical_foldl (fun u a hu => canonical_ite (canonical_linkOn hu _) hu) h) h))))))

theorem canonical_powerGood {s : State} (h : s.Canonical) (d : ℕ) : (s.powerGood d).Canonical := by
  unfold State.powerGood
  exact canonical_ite (canonical_pdStart (canonical_setPg (canonical_upd h (by rfl)) ..) _) h

theorem canonical_execPdPowerGood {s : State} (h : s.Canonical) (d : ℕ) : NextCanonical (execPdPowerGood d s) := by
  unfold execPdPowerGood
  exact nextCanonical_next (canonical_powerGood h _)

theorem canonical_offDone {s : State} (h : s.Canonical) (d : ℕ) : (s.offDone d).Canonical := by
  unfold State.offDone
  exact canonical_ite (canonical_pdDown (canonical_setPg (canonical_upd h (by rfl)) ..) ..) h

theorem canonical_execPdOffDone {s : State} (h : s.Canonical) (d : ℕ) : NextCanonical (execPdOffDone d s) := by
  unfold execPdOffDone
  exact nextCanonical_next (canonical_offDone h _)

theorem canonical_vaultBoot {s : State} (h : s.Canonical) : (s.vaultBoot).Canonical := by
  unfold State.vaultBoot
  extract_lets _ k regs s1 s2
  have hs0 : State.Canonical { s with regs := regs, kvt := k } := ⟨store_wf_filter h.1 _, h.2⟩
  have hs1 : s1.Canonical := canonical_ite h (canonical_set (canonical_set hs0 ..) ..)
  have hs2 : s2.Canonical := canonical_ite hs1 (canonical_draw (canonical_set hs1 ..))
  exact canonical_settleLog hs2

theorem canonical_spllLock {s : State} (h : s.Canonical) (us : ℕ) : (s.spllLock us).Canonical := by
  unfold State.spllLock
  extract_lets __src __src1 s1 s2 s3 s4
  have hs1 : s1.Canonical := canonical_upd h (by rfl)
  have hs2 : s2.Canonical := canonical_set (canonical_set hs1 ..) ..
  have hs3 : s3.Canonical := canonical_set (canonical_set hs2 ..) ..
  have hs4 : s4.Canonical := canonical_vaultBoot hs3
  clear_value __src __src1 s1 s2 s3 s4
  exact canonical_ite (canonical_rollStart hs4 ..) hs4

theorem canonical_execSpllLock {s : State} (h : s.Canonical) (us : ℕ) : NextCanonical (execSpllLock us s) := by
  unfold execSpllLock
  exact nextCanonical_next (canonical_ite h (canonical_spllLock h _))

theorem canonical_srcAnomaly {s : State} (h : s.Canonical) (i : ℕ) : (s.srcAnomaly i).Canonical := by
  unfold State.srcAnomaly
  refine canonical_ite h ?_
  extract_lets l __src s1 s2 win s3
  have hs1 : s1.Canonical := canonical_upd h (by rfl)
  have hs2 : s2.Canonical := canonical_count hs1 _
  have hs3 : s3.Canonical := canonical_set hs2 ..
  clear_value l __src s1 s2 win s3
  exact canonical_ite (canonical_set hs3 ..) hs3

theorem canonical_diagStep {s : State} (h : s.Canonical) (b : ℕ) : (s.diagStep b).Canonical := by
  unfold State.diagStep
  extract_lets now s1 s2
  have hs1 : s1.Canonical := canonical_setBit h ..
  have hs2 : s2.Canonical := canonical_ite (canonical_srcAnomaly hs1 _) hs1
  clear_value now s1 s2
  exact canonical_ite h (canonical_pevent hs2 ..)

theorem canonical_settleDiag {s : State} (h : s.Canonical) (cause : ℕ) : (s.settleDiag cause).Canonical := by
  unfold State.settleDiag
  extract_lets s1
  have hs1 : s1.Canonical := canonical_ite (canonical_set (canonical_foldl (fun u a hu => canonical_diagStep hu _) h) ..) h
  clear_value s1
  exact canonical_pairSettle hs1 _

theorem canonical_execSpllLossOfLock {s : State} (h : s.Canonical) : NextCanonical (execSpllLossOfLock s) := by
  unfold execSpllLossOfLock
  refine nextCanonical_next (canonical_ite ?_ h)
  extract_lets s1 __src
  have hs1 : s1.Canonical := canonical_add (canonical_set (canonical_set h ..) ..) ..
  clear_value s1 __src
  exact canonical_settleDiag (canonical_count (canonical_upd hs1 (by rfl)) _) _

theorem canonical_vaultEnd {s : State} (h : s.Canonical) : (s.vaultEnd).Canonical := by
  unfold State.vaultEnd
  exact canonical_ite (canonical_imagePhase h) h

theorem canonical_imageRead {s : State} (h : s.Canonical) (readOk : Bool) (img : Image) (vaultOk : Bool) :
    (s.imageRead readOk img vaultOk).Canonical := by
  unfold State.imageRead
  extract_lets c r s1 rec_ __src __src1 s2 s3
  have hs1 : s1.Canonical := canonical_loadResult h ..
  have hs2 : s2.Canonical := canonical_upd hs1 (by rfl)
  have hs3 : s3.Canonical := canonical_set hs2 ..
  exact canonical_ite (canonical_imageLive hs1 ..) (canonical_ite hs3 (canonical_noImage hs3))

theorem canonical_execBootImageLoaded {s : State} (h : s.Canonical) (readOk : Bool) (img : Image) (vaultOk : Bool) :
    NextCanonical (execBootImageLoaded readOk img vaultOk s) := by
  unfold execBootImageLoaded
  refine nextCanonical_next ?_
  extract_lets s1
  have hs1 : s1.Canonical := canonical_vaultEnd h
  clear_value s1
  exact canonical_ite (canonical_imageRead hs1 ..) hs1

theorem canonical_dramTrained {s : State} (h : s.Canonical) (okA okB : Bool) : (s.dramTrained okA okB).Canonical := by
  unfold State.dramTrained
  extract_lets st one s1
  have hone : ∀ {u : State} (c : ℕ) (ok : Bool), u.Canonical → (one u c ok).Canonical := fun c ok hu =>
    canonical_ite hu (canonical_ite (canonical_set hu ..) (canonical_settleAlert (canonical_set hu ..)))
  have hs1 : s1.Canonical := hone 1 okB (hone 0 okA h)
  exact canonical_ite (canonical_set hs1 ..) hs1

theorem canonical_execDramTrained {s : State} (h : s.Canonical) (okA okB : Bool) : NextCanonical (execDramTrained okA okB
    s) := by
  unfold execDramTrained
  exact nextCanonical_next (canonical_ite (canonical_dramTrained h ..) h)

theorem canonical_execBootReady {s : State} (h : s.Canonical) : NextCanonical (execBootReady s) := by
  unfold execBootReady
  exact nextCanonical_next (canonical_ite (canonical_set (canonical_upd h (by rfl)) ..) h)

theorem canonical_clearSlot {s : State} (h : s.Canonical) (i : ℕ) : (s.clearSlot i).Canonical := by
  unfold State.clearSlot
  refine canonical_ite ?_ h
  extract_lets t s1 s2 s3 __src
  have hs1 : s1.Canonical := canonical_set h ..
  have hs2 : s2.Canonical := canonical_set (canonical_set hs1 ..) ..
  have hs3 : s3.Canonical := canonical_set (canonical_set (canonical_set hs2 ..) ..) ..
  clear_value t s1 s2 s3 __src
  exact canonical_upd hs3 (by rfl)

theorem canonical_clearSlots {s : State} (h : s.Canonical) (p : ℕ → Bool) : (s.clearSlots p).Canonical := by
  unfold State.clearSlots
  exact canonical_foldl (fun u a hu => canonical_ite (canonical_clearSlot hu _) hu) h

theorem canonical_zeroize {s : State} (h : s.Canonical) : (s.zeroize).Canonical := by
  unfold State.zeroize
  extract_lets s1 __src s2 s3 s4
  have hs1 : s1.Canonical := canonical_clearSlots h _
  have hs2 : s2.Canonical := canonical_upd hs1 (by rfl)
  have hs3 : s3.Canonical := canonical_set (canonical_set hs2 ..) ..
  have hs4 : s4.Canonical := canonical_set hs3 ..
  clear_value s1 __src s2 s3 s4
  exact canonical_draw hs4

theorem canonical_tamperCmds {s : State} (h : s.Canonical) (fn : ℕ) : (s.tamperCmds fn).Canonical := by
  unfold State.tamperCmds
  exact canonical_foldl (fun u a hu => canonical_ite (canonical_finish hu ..) hu) h

theorem canonical_episode {s : State} (h : s.Canonical) (sources : ℕ) (temp : ℤ) (mainOff : Bool) :
    (s.episode sources temp mainOff).Canonical := by
  unfold State.episode
  split
  · exact canonical_upd h (by rfl)
  · extract_lets e __src
    clear_value e __src
    exact canonical_count (canonical_upd h (by rfl)) _

theorem canonical_tamper {s : State} (h : s.Canonical) (sources : ℕ) (temp : ℤ) (mainOff : Bool) :
    (s.tamper sources temp mainOff).Canonical := by
  unfold State.tamper
  refine canonical_ite h ?_
  extract_lets s1 s2
  have hs1 : s1.Canonical := canonical_zeroize h
  have hs2 : s2.Canonical := canonical_foldl (fun u a hu => canonical_tamperCmds hu _) hs1
  clear_value s1 s2
  exact canonical_episode hs2 ..

theorem canonical_vbatRead {s : State} (h : s.Canonical) (n : ℕ) : (s.vbatRead n).Canonical := by
  unfold State.vbatRead
  exact canonical_upd h (by rfl)

theorem canonical_execExtestLoad {s : State} (h : s.Canonical) (vbatSec : ℕ) (temp : ℤ) :
    NextCanonical (execExtestLoad vbatSec temp s) := by
  unfold execExtestLoad
  refine nextCanonical_next ?_
  extract_lets t __src
  have ht : t.Canonical := canonical_porst (canonical_tamper (canonical_vbatRead h _) ..) ..
  clear_value t __src
  exact canonical_upd ht (by rfl)

theorem canonical_execTapInstruction {s : State} (h : s.Canonical) (code : ℕ) : NextCanonical (execTapInstruction code s)
    := by
  unfold execTapInstruction
  exact nextCanonical_next (canonical_ite h (canonical_upd h (by rfl)))

theorem canonical_execTamperFire {s : State} (h : s.Canonical) (sources : ℕ) (temp : ℤ) (vbatSec : ℕ) (mainOff : Bool) :
    NextCanonical (execTamperFire sources temp vbatSec mainOff s) := by
  unfold execTamperFire
  exact nextCanonical_next (canonical_tamper (canonical_vbatRead h _) ..)

theorem canonical_addSat {s : State} (h : s.Canonical) (f : Fld) (n : ℕ) : (s.addSat f n).Canonical := by
  unfold State.addSat
  exact canonical_set h ..

theorem canonical_tlogCommit {s : State} (h : s.Canonical) (mainPower : Bool) : (s.tlogCommit mainPower).Canonical := by
  unfold State.tlogCommit
  split
  · extract_lets i s1 s2 s3 __src s4
    have hs1 : s1.Canonical := canonical_ite (canonical_addSat h ..) h
    have hs2 : s2.Canonical := canonical_set hs1 ..
    have hs3 : s3.Canonical := canonical_add (canonical_add hs2 ..) ..
    have hs4 : s4.Canonical := canonical_settleLog (canonical_upd hs3 (by rfl))
    clear_value i s1 s2 s3 __src s4
    exact canonical_ite (canonical_trace (canonical_pevent hs4 ..) ..) hs4
  · exact h

theorem canonical_execTamperLogCommit {s : State} (h : s.Canonical) (mainPower : Bool) :
    NextCanonical (execTamperLogCommit mainPower s) := by
  unfold execTamperLogCommit
  exact nextCanonical_next (canonical_tlogCommit h _)

theorem canonical_updEffect {s : State} (h : s.Canonical) (m : UpdMsg) : (s.updEffect m).1.Canonical := by
  unfold State.updEffect
  split
  · exact h
  · exact canonical_draw h
  · exact canonical_clearSlots (canonical_upd h (by rfl)) _
  · exact canonical_upd h (by rfl)
  · exact canonical_upd h (by rfl)
  · exact canonical_upd h (by rfl)
  · exact canonical_set (canonical_set (canonical_set h ..) ..) ..
  · exact h
  · extract_lets __src s1
    have hs1 : s1.Canonical := canonical_upd h (by rfl)
    clear_value __src s1
    exact canonical_settleAlert (canonical_set (canonical_set (canonical_set (canonical_draw hs1) ..) ..) ..)
  · exact h

theorem canonical_kvtStat {s : State} (h : s.Canonical) (k : ℕ) : (s.kvtStat k).Canonical := by
  unfold State.kvtStat
  exact canonical_count (canonical_add h ..) _

theorem canonical_hostWrite {s : State} (h : s.Canonical) (fn addr n v : ℕ) : (s.hostWrite fn addr n v).Canonical := by
  unfold State.hostWrite
  exact canonical_emitOut h _

theorem canonical_updCommit {s : State} (h : s.Canonical) (hostOk : Bool) (temp : ℤ) : (s.updCommit hostOk temp).Canonical
    := by
  unfold State.updCommit
  split
  · extract_lets __src s1
    have hs1 : s1.Canonical := canonical_upd h (by rfl)
    clear_value __src s1
    split
    · rename_i x s2 blob zero e
      have hs2 : s2.Canonical := canonical_fst (canonical_updEffect hs1 _) e
      extract_lets s3 __src1 s4 ctr s5
      have hs3 : s3.Canonical := canonical_set hs2 ..
      have hs4 : s4.Canonical := canonical_kvtStat (canonical_upd hs3 (by rfl)) _
      have hs5 : s5.Canonical := by
        unfold s5
        split
        · exact canonical_ite (canonical_finish (canonical_hostWrite hs4 ..) ..) (canonical_finish hs4 ..)
        · exact canonical_finish hs4 ..
      clear_value s3 __src1 s4 ctr s5
      exact canonical_ite (canonical_tamper hs5 ..) hs5
  · exact h

theorem canonical_execVbatRecordCommit {s : State} (h : s.Canonical) (hostOk : Bool) (vbatSec : ℕ) (temp : ℤ) :
    NextCanonical (execVbatRecordCommit hostOk vbatSec temp s) := by
  unfold execVbatRecordCommit
  exact nextCanonical_next (canonical_updCommit (canonical_vbatRead h _) ..)

theorem canonical_keyExpiry {s : State} (h : s.Canonical) (slot : ℕ) : (s.keyExpiry slot).Canonical := by
  unfold State.keyExpiry
  split
  · refine canonical_ite ?_ h
    extract_lets t p s1 s2
    have hs1 : s1.Canonical := canonical_kvtStat (canonical_clearSlot h _) _
    have hs2 : s2.Canonical := canonical_pevent hs1 ..
    clear_value t p s1 s2
    exact canonical_ite hs2 (canonical_event hs2 ..)
  · exact h

theorem canonical_execKeyExpiry {s : State} (h : s.Canonical) (slot : ℕ) : NextCanonical (execKeyExpiry slot s) := by
  unfold execKeyExpiry
  exact nextCanonical_next (canonical_keyExpiry h _)

theorem canonical_addCauses {s : State} (h : s.Canonical) (n causes : ℕ) : (s.addCauses n causes).Canonical := by
  unfold State.addCauses
  refine canonical_ite ?_ h
  extract_lets mine ev __src s1 __src1 s2 __src2
  have hs1 : s1.Canonical := canonical_setFn h ..
  have hs2 : s2.Canonical := canonical_setFn hs1 ..
  clear_value __src s1 __src1 s2 __src2
  exact canonical_upd hs2 (by rfl)

theorem canonical_orderTrace {s : State} (h : s.Canonical) : (s.orderTrace).Canonical := by
  unfold State.orderTrace
  extract_lets l __src
  clear_value l __src
  split
  · extract_lets later l'
    clear_value l'
    exact canonical_ite (canonical_upd h (by rfl)) h
  · exact h

theorem canonical_quenchRecords {s : State} (h : s.Canonical) (kind master causes detail : ℕ) :
    (s.quenchRecords kind master causes detail).Canonical := by
  unfold State.quenchRecords
  extract_lets p t s1 s2
  have hs1 : s1.Canonical := canonical_pevent h ..
  have hs2 : s2.Canonical := canonical_ite (canonical_event hs1 ..) hs1
  clear_value p t s1 s2
  exact canonical_orderTrace (canonical_trace hs2 ..)

theorem canonical_quenchFn {s : State} (h : s.Canonical) (n causes detail : ℕ) : (s.quenchFn n causes detail).Canonical := by
  unfold State.quenchFn
  extract_lets f s1 t s2 s3
  have hs1 : s1.Canonical := canonical_setFn h ..
  have hs2 : s2.Canonical := canonical_set hs1 ..
  have hs3 : s3.Canonical := canonical_tcount hs2 ..
  clear_value f s1 t s2 s3
  exact canonical_ite h (canonical_ite (canonical_addCauses h ..) (canonical_quenchRecords hs3 ..))

theorem canonical_keyViolation {s : State} (h : s.Canonical) (fn n slot result : ℕ) : (s.keyViolation fn n slot
    result).Canonical := by
  unfold State.keyViolation
  exact canonical_quenchFn (canonical_finish h ..) ..

theorem canonical_fillSlot {s : State} (h : s.Canonical) (i : ℕ) (b : KeyBlob) : (s.fillSlot i b).Canonical := by
  unfold State.fillSlot
  extract_lets s1 s2 s3 __src
  have hs1 : s1.Canonical := canonical_add h ..
  have hs2 : s2.Canonical := canonical_set (canonical_set hs1 ..) ..
  have hs3 : s3.Canonical := canonical_set (canonical_set (canonical_set hs2 ..) ..) ..
  clear_value s1 s2 s3 __src
  exact canonical_upd hs3 (by rfl)

theorem canonical_kvtLoad {s : State} (h : s.Canonical) (fn : ℕ) (dmaOk : Bool) (b : KeyBlob) : (s.kvtLoad fn dmaOk
    b).Canonical := by
  unfold State.kvtLoad
  split
  · extract_lets slot st s1
    have hs1 : s1.Canonical := canonical_finish h ..
    clear_value slot st s1
    exact canonical_ite (canonical_keyViolation (canonical_kvtStat h _) ..) (canonical_ite (canonical_kvtStat
        (canonical_fillSlot hs1 ..) _) (canonical_kvtStat hs1 _))
  · exact h

theorem canonical_execKvtLoad {s : State} (h : s.Canonical) (fn : ℕ) (dmaOk : Bool) (b : KeyBlob) :
    NextCanonical (execKvtLoad fn dmaOk b s) := by
  unfold execKvtLoad
  exact nextCanonical_next (canonical_kvtLoad h ..)

theorem canonical_kvtEvict {s : State} (h : s.Canonical) (fn : ℕ) : (s.kvtEvict fn).Canonical := by
  unfold State.kvtEvict
  split
  · extract_lets slot st s1
    have hs1 : s1.Canonical := canonical_finish h ..
    clear_value slot st s1
    exact canonical_ite (canonical_keyViolation h ..) (canonical_ite (canonical_clearSlot hs1 _) hs1)
  · exact h

theorem canonical_execKvtEvict {s : State} (h : s.Canonical) (fn : ℕ) : NextCanonical (execKvtEvict fn s) := by
  unfold execKvtEvict
  exact nextCanonical_next (canonical_kvtEvict h _)

theorem canonical_kvtAttest {s : State} (h : s.Canonical) (fn : ℕ) (dmaOk : Bool) (challenge : ℕ) :
    (s.kvtAttest fn dmaOk challenge).Canonical := by
  unfold State.kvtAttest
  split
  · refine canonical_ite (canonical_finish h ..) (canonical_ite (canonical_finish h ..) ?_)
    extract_lets s1
    have hs1 : s1.Canonical := canonical_kvtStat (canonical_hostWrite h ..) _
    clear_value s1
    exact canonical_finish hs1 ..
  · exact h

theorem canonical_execKvtAttest {s : State} (h : s.Canonical) (fn : ℕ) (dmaOk : Bool) (challenge : ℕ) :
    NextCanonical (execKvtAttest fn dmaOk challenge s) := by
  unfold execKvtAttest
  exact nextCanonical_next (canonical_kvtAttest h ..)

theorem canonical_takeCmd {s : State} (h : s.Canonical) (fn n : ℕ) : (s.takeCmd fn n).Canonical := by
  unfold State.takeCmd
  extract_lets f t
  clear_value f
  exact canonical_setFn h ..

theorem canonical_kvtUpdate {s : State} (h : s.Canonical) (dmaOk : Bool) (m : UpdMsg) (row : UpdPay → Bool) :
    (s.kvtUpdate dmaOk m row).Canonical := by
  unfold State.kvtUpdate
  split
  · refine canonical_ite h ?_
    extract_lets st s1 __src
    have hs1 : s1.Canonical := canonical_takeCmd h ..
    clear_value st s1 __src
    exact canonical_ite (canonical_upd hs1 (by rfl)) (canonical_kvtStat (canonical_finish h ..) _)
  · exact h

theorem canonical_execKeyImport {s : State} (h : s.Canonical) (dmaOk : Bool) (m : UpdMsg) :
    NextCanonical (execKeyImport dmaOk m s) := by
  unfold execKeyImport
  exact nextCanonical_next (canonical_kvtUpdate h ..)

theorem canonical_execKeyGenerate {s : State} (h : s.Canonical) (dmaOk : Bool) (m : UpdMsg) :
    NextCanonical (execKeyGenerate dmaOk m s) := by
  unfold execKeyGenerate
  exact nextCanonical_next (canonical_kvtUpdate h ..)

theorem canonical_execTenantEpoch {s : State} (h : s.Canonical) (dmaOk : Bool) (m : UpdMsg) :
    NextCanonical (execTenantEpoch dmaOk m s) := by
  unfold execTenantEpoch
  exact nextCanonical_next (canonical_kvtUpdate h ..)

theorem canonical_execSetUpdateKey {s : State} (h : s.Canonical) (dmaOk : Bool) (m : UpdMsg) :
    NextCanonical (execSetUpdateKey dmaOk m s) := by
  unfold execSetUpdateKey
  exact nextCanonical_next (canonical_kvtUpdate h ..)

theorem canonical_execSetAttest {s : State} (h : s.Canonical) (dmaOk : Bool) (m : UpdMsg) :
    NextCanonical (execSetAttest dmaOk m s) := by
  unfold execSetAttest
  exact nextCanonical_next (canonical_kvtUpdate h ..)

theorem canonical_execSetImageKey {s : State} (h : s.Canonical) (dmaOk : Bool) (m : UpdMsg) :
    NextCanonical (execSetImageKey dmaOk m s) := by
  unfold execSetImageKey
  exact nextCanonical_next (canonical_kvtUpdate h ..)

theorem canonical_execTamperCfg {s : State} (h : s.Canonical) (dmaOk : Bool) (m : UpdMsg) :
    NextCanonical (execTamperCfg dmaOk m s) := by
  unfold execTamperCfg
  exact nextCanonical_next (canonical_kvtUpdate h ..)

theorem canonical_execDeprovision {s : State} (h : s.Canonical) (dmaOk : Bool) (m : UpdMsg) :
    NextCanonical (execDeprovision dmaOk m s) := by
  unfold execDeprovision
  exact nextCanonical_next (canonical_kvtUpdate h ..)

theorem canonical_execProvision {s : State} (h : s.Canonical) (dmaOk : Bool) (m : UpdMsg) :
    NextCanonical (execProvision dmaOk m s) := by
  unfold execProvision
  exact nextCanonical_next (canonical_kvtUpdate h ..)

theorem canonical_awake {s : State} (h : s.Canonical) (f : State → State) (hf : ∀ u : State, u.Canonical → (f u).Canonical) :
    (s.awake f).Canonical := by
  unfold State.awake
  exact canonical_ite h (hf _ h)

theorem canonical_latchErr {s : State} (h : s.Canonical) (fnCopy fn kind off : ℕ) (write : Bool) :
    (s.latchErr fnCopy fn kind off write).Canonical := by
  unfold State.latchErr
  extract_lets v s1
  have hs1 : s1.Canonical := canonical_ite h (canonical_set (canonical_set (canonical_set (canonical_setB (canonical_set h
      ..) ..) ..) ..) ..)
  clear_value v s1
  exact canonical_addSat hs1 ..

theorem canonical_flagErr {s : State} (h : s.Canonical) (fn kind off : ℕ) (write : Bool) : (s.flagErr fn kind off
    write).Canonical := by
  unfold State.flagErr
  extract_lets s1 s2 s3
  have hs1 : s1.Canonical := canonical_latchErr h ..
  have hs2 : s2.Canonical := canonical_ite hs1 (canonical_latchErr hs1 ..)
  have hs3 : s3.Canonical := canonical_count hs2 _
  clear_value s1 s2 s3
  exact canonical_trace hs3 ..

theorem canonical_postLost {s : State} (h : s.Canonical) (a : ℕ) : (s.postLost a).Canonical := by
  unfold State.postLost
  exact canonical_count (canonical_addSat (canonical_flagErr h ..) ..) _

theorem canonical_ackLog {s : State} (h : s.Canonical) (mask : ℕ) : (s.ackLog mask).Canonical := by
  unfold State.ackLog
  exact canonical_settleLog (canonical_foldl (fun u a hu => canonical_ite (canonical_set hu ..) hu) h)

theorem canonical_execTlogAck {s : State} (h : s.Canonical) (mask : ℕ) : NextCanonical (execTlogAck mask s) := by
  unfold execTlogAck
  exact nextCanonical_next (canonical_awake h _ (fun u hu => canonical_ite (canonical_postLost hu _) (canonical_ackLog hu _)))

theorem canonical_execNop {s : State} (h : s.Canonical) (fn : ℕ) : NextCanonical (execNop fn s) := by
  unfold execNop
  refine nextCanonical_next ?_
  split
  · exact canonical_finish h ..
  · exact h

theorem canonical_addBe {s : State} (h : s.Canonical) (p : ℕ) (e : BeEnt) : (s.addBe p e).Canonical := by
  unfold State.addBe
  exact canonical_setPort h ..

theorem canonical_execEthSend {s : State} (h : s.Canonical) (dmaOk : Bool) (bytes : ℕ) : NextCanonical (execEthSend dmaOk
    bytes s) := by
  unfold execEthSend
  refine nextCanonical_next ?_
  split
  · extract_lets p len f
    clear_value p len f
    exact canonical_ite (canonical_finish h ..) (canonical_ite (canonical_finish h ..) (canonical_addBe (canonical_takeCmd
        h ..) ..))
  · exact h

theorem canonical_makeCookies {s : State} (h : s.Canonical) (n keyId key t c2s s2c : ℕ) :
    (s.makeCookies n keyId key t c2s s2c).1.Canonical := by
  unfold State.makeCookies
  exact canonical_upd h (by rfl)

theorem canonical_hmkMint {s : State} (h : s.Canonical) (fn : ℕ) (inOk : Bool) (c2s s2c took : ℕ) :
    (s.hmkMint fn inOk c2s s2c took).Canonical := by
  unfold State.hmkMint
  split
  · extract_lets t n m
    clear_value t n m
    refine canonical_ite (canonical_finish h ..) (canonical_ite (canonical_finish h ..) (canonical_ite (canonical_finish h
        ..) ?_))
    split
    · exact canonical_finish h ..
    · refine canonical_ite (canonical_finish h ..) ?_
      split
      · rename_i x s1 cs e
        have hs1 : s1.Canonical := canonical_fst (canonical_makeCookies h ..) e
        extract_lets s2 s3
        have hs2 : s2.Canonical := canonical_foldl (fun u a hu => canonical_hostWrite hu ..) hs1
        have hs3 : s3.Canonical := canonical_countN hs2 ..
        clear_value s2 s3
        exact canonical_finish hs3 ..
  · exact h

theorem canonical_execHmkMint {s : State} (h : s.Canonical) (fn : ℕ) (inOk : Bool) (c2s s2c took : ℕ) :
    NextCanonical (execHmkMint fn inOk c2s s2c took s) := by
  unfold execHmkMint
  exact nextCanonical_next (canonical_hmkMint h ..)

theorem canonical_writeClient {s : State} (h : s.Canonical) (c : Client) (first : Bool) : (s.writeClient c first).Canonical
    := by
  unfold State.writeClient
  extract_lets k tab __src h1
  clear_value k tab __src h1
  exact canonical_upd h (by rfl)

theorem canonical_settleLoad {s : State} (h : s.Canonical) : (s.settleLoad).Canonical := by
  unfold State.settleLoad
  exact canonical_set h ..

theorem canonical_deleteClient {s : State} (h : s.Canonical) (c : Client) : (s.deleteClient c).Canonical := by
  unfold State.deleteClient
  extract_lets k s1 __src s2 s3
  have hs1 : s1.Canonical := canonical_writeClient h ..
  have hs2 : s2.Canonical := canonical_upd hs1 (by rfl)
  have hs3 : s3.Canonical := canonical_set hs2 ..
  clear_value k s1 __src s2 s3
  exact canonical_settleLoad (canonical_set hs3 ..)

theorem canonical_newClient {s : State} (h : s.Canonical) (t p kind addr vlan now burst : ℕ) :
    (s.newClient t p kind addr vlan now burst).1.Canonical := by
  unfold State.newClient
  extract_lets c s1 __src
  have hs1 : s1.Canonical := canonical_add (canonical_add h ..) ..
  clear_value c s1 __src
  exact canonical_writeClient (canonical_upd hs1 (by rfl)) ..

theorem canonical_clientOp {s : State} (h : s.Canonical) (fn : ℕ) (c : Cmd) (op : ℕ) (outOk : Bool) :
    (s.clientOp fn c op outOk).Canonical := by
  unfold State.clientOp
  split
  · split
    · split
      · exact canonical_ite (canonical_finish (canonical_hostWrite h ..) ..) (canonical_finish h ..)
      · exact canonical_finish (canonical_writeClient h ..) ..
      · exact canonical_finish (canonical_writeClient h ..) ..
      · exact canonical_finish (canonical_deleteClient h _) ..
    · refine canonical_ite (canonical_ite ?_ (canonical_finish h ..)) (canonical_finish h ..)
      split
      · rename_i x s1 c1 e
        have hs1 : s1.Canonical := canonical_fst (canonical_newClient h ..) e
        exact canonical_finish (canonical_writeClient hs1 ..) ..

theorem canonical_hmkClient {s : State} (h : s.Canonical) (fn op : ℕ) (outOk : Bool) : (s.hmkClient fn op outOk).Canonical
    := by
  unfold State.hmkClient
  split
  · extract_lets o
    clear_value o
    split
    · refine canonical_ite h (canonical_ite (canonical_finish h ..) (canonical_ite (canonical_finish h ..) ?_))
      split
      · exact canonical_finish h ..
      · exact canonical_clientOp h ..
  · exact h

theorem canonical_execClientRead {s : State} (h : s.Canonical) (fn : ℕ) (outOk : Bool) : NextCanonical (execClientRead fn
    outOk s) := by
  unfold execClientRead
  exact nextCanonical_next (canonical_hmkClient h ..)

theorem canonical_execClientBlock {s : State} (h : s.Canonical) (fn : ℕ) : NextCanonical (execClientBlock fn s) := by
  unfold execClientBlock
  exact nextCanonical_next (canonical_hmkClient h ..)

theorem canonical_execClientUnblock {s : State} (h : s.Canonical) (fn : ℕ) : NextCanonical (execClientUnblock fn s) := by
  unfold execClientUnblock
  exact nextCanonical_next (canonical_hmkClient h ..)

theorem canonical_execClientDelete {s : State} (h : s.Canonical) (fn : ℕ) : NextCanonical (execClientDelete fn s) := by
  unfold execClientDelete
  exact nextCanonical_next (canonical_hmkClient h ..)

theorem canonical_ringWrite {s : State} (h : s.Canonical) (n w : ℕ) (act : State → State) (hact : ∀ u : State, u.Canonical
    → (act u).Canonical) :
    (s.ringWrite n w act).Canonical := by
  unfold State.ringWrite
  exact canonical_ite h (canonical_ite (canonical_flagErr h ..) (hact _ h))

theorem canonical_doorbell {s : State} (h : s.Canonical) (n v : ℕ) : (s.doorbell n v).Canonical := by
  unfold State.doorbell
  extract_lets f tail avail off f1
  clear_value f tail avail off f1
  exact canonical_ite (canonical_flagErr h ..) (canonical_set (canonical_setFn h ..) ..)

theorem canonical_execCmdDoorbell {s : State} (h : s.Canonical) (fn tail : ℕ) : NextCanonical (execCmdDoorbell fn tail s)
    := by
  unfold execCmdDoorbell
  exact nextCanonical_next (canonical_ringWrite h _ _ _ (fun u hu => canonical_doorbell hu ..))

theorem canonical_enqueue {s : State} (h : s.Canonical) (n : ℕ) (d : Desc) (started : Bool) (done : Option (ℕ × ℕ)) (dupOf
    : Option ℕ) :
    (s.enqueue n d started done dupOf).Canonical := by
  unfold State.enqueue
  extract_lets f k c t
  clear_value f k c t
  exact canonical_set (canonical_setFn h ..) ..

theorem canonical_startDesc {s : State} (h : s.Canonical) (n : ℕ) (d : Desc) : (s.startDesc n d).Canonical := by
  unfold State.startDesc
  split
  · exact canonical_enqueue h ..
  · split
    · exact canonical_enqueue h ..
    · exact canonical_ite (canonical_enqueue h ..) (canonical_enqueue h ..)

theorem canonical_fetch {s : State} (h : s.Canonical) (n : ℕ) (d : Desc) : (s.fetch n d).Canonical := by
  unfold State.fetch
  extract_lets f t b
  clear_value f t b
  exact canonical_ite h (canonical_ite (canonical_enqueue h ..) (canonical_ite h (canonical_ite (canonical_enqueue h ..)
      (canonical_ite (canonical_startDesc h ..) (canonical_ite (canonical_enqueue (canonical_quenchFn h ..) ..)
          (canonical_startDesc (canonical_setFn h ..) ..))))))

theorem canonical_execCmdFetch {s : State} (h : s.Canonical) (fn : ℕ) (d : Desc) : NextCanonical (execCmdFetch fn d s) := by
  unfold execCmdFetch
  exact nextCanonical_next (canonical_fetch h ..)

theorem canonical_completeNext {s : State} (h : s.Canonical) (n : ℕ) : (s.completeNext n).Canonical := by
  unfold State.completeNext
  extract_lets f depth t
  clear_value f depth t
  split
  · split
    · extract_lets s1 s2 s3 s4 s5
      have hs1 : s1.Canonical := canonical_setFn h ..
      have hs2 : s2.Canonical := canonical_set hs1 ..
      have hs3 : s3.Canonical := canonical_emitOut hs2 _
      have hs4 : s4.Canonical := canonical_tcount (canonical_count hs3 _) ..
      have hs5 : s5.Canonical := canonical_ite (canonical_tcount (canonical_count hs4 _) ..) hs4
      clear_value s1 s2 s3 s4 s5
      exact canonical_ite (canonical_msix hs5 ..) hs5
    · exact h
  · exact h

theorem canonical_execCmdCompletionWrite {s : State} (h : s.Canonical) (fn : ℕ) : NextCanonical (execCmdCompletionWrite fn
    s) := by
  unfold execCmdCompletionWrite
  exact nextCanonical_next (canonical_completeNext h _)

theorem canonical_evTail {s : State} (h : s.Canonical) (n v : ℕ) : (s.evTail n v).Canonical := by
  unfold State.evTail
  extract_lets m head tail
  clear_value m head tail
  exact canonical_ite (canonical_flagErr h ..) (canonical_set h ..)

theorem canonical_execEvTailWrite {s : State} (h : s.Canonical) (fn tail : ℕ) : NextCanonical (execEvTailWrite fn tail s)
    := by
  unfold execEvTailWrite
  exact nextCanonical_next (canonical_ringWrite h _ _ _ (fun u hu => canonical_evTail hu ..))

theorem canonical_putRing {s : State} (h : s.Canonical) (n w v mask : ℕ) : (s.putRing n w v mask).Canonical := by
  unfold State.putRing
  exact ⟨store_wf_put h.1 _ _, h.2⟩

theorem canonical_resetCmdRing {s : State} (h : s.Canonical) (n : ℕ) : (s.resetCmdRing n).Canonical := by
  unfold State.resetCmdRing
  extract_lets f s1
  have hs1 : s1.Canonical := canonical_setFn h ..
  clear_value f s1
  exact canonical_set (canonical_set (canonical_set hs1 ..) ..) ..

theorem canonical_bootRecords {s : State} (h : s.Canonical) (n : ℕ) : (s.bootRecords n).Canonical := by
  unfold State.bootRecords
  exact canonical_ite (canonical_upd h (by rfl)) h

theorem canonical_resetEvRing {s : State} (h : s.Canonical) (n : ℕ) : (s.resetEvRing n).Canonical := by
  unfold State.resetEvRing
  extract_lets __src s1
  have hs1 : s1.Canonical := canonical_setFn h ..
  clear_value __src s1
  exact canonical_set (canonical_set hs1 ..) ..

theorem canonical_ringConfig {s : State} (h : s.Canonical) (n w v : ℕ) : (s.ringConfig n w v).Canonical := by
  unfold State.ringConfig
  extract_lets word cmdEn evEn base
  have hbase : ∀ en, (base en).Canonical := fun en => canonical_ite (canonical_flagErr h ..) (canonical_putRing h ..)
  clear_value base
  have hcmd : (s.putRing n w v 0x10F).Canonical := canonical_putRing h ..
  have hev : (s.putRing n w v 0xFFFF011F).Canonical := canonical_putRing h ..
  refine canonical_ite (hbase _) (canonical_ite (hbase _) (canonical_ite ?_ (canonical_ite ?_ h)))
  · exact canonical_ite (canonical_flagErr h ..) (canonical_ite (canonical_flagErr h ..)
      (canonical_ite (canonical_resetCmdRing hcmd _) hcmd))
  · exact canonical_ite (canonical_flagErr h ..) (canonical_ite (canonical_flagErr h ..)
      (canonical_ite (canonical_bootRecords (canonical_resetEvRing hev _) _) hev))

theorem canonical_execRingConfigWrite {s : State} (h : s.Canonical) (fn word v : ℕ) :
    NextCanonical (execRingConfigWrite fn word v s) := by
  unfold execRingConfigWrite
  exact nextCanonical_next (canonical_ringWrite h _ _ _ (fun u hu => canonical_ringConfig hu ..))

theorem canonical_signalEvent {s : State} (h : s.Canonical) (n : ℕ) : (s.signalEvent n).Canonical := by
  unfold State.signalEvent
  extract_lets f
  clear_value f
  exact canonical_ite (canonical_setFn h ..) (canonical_msix (canonical_setFn h ..) ..)

theorem canonical_writeEv {s : State} (h : s.Canonical) (n : ℕ) (r : EvRec) : (s.writeEv n r).Canonical := by
  unfold State.writeEv
  extract_lets f depth t s1 s2 s3 s4 s5
  have hs1 : s1.Canonical := canonical_emitOut h _
  have hs2 : s2.Canonical := canonical_setFn hs1 ..
  have hs3 : s3.Canonical := canonical_add (canonical_add hs2 ..) ..
  have hs4 : s4.Canonical := canonical_tcount (canonical_count hs3 _) ..
  have hs5 : s5.Canonical := canonical_ite (canonical_tcount (canonical_count hs4 _) ..) hs4
  clear_value f depth t s1 s2 s3 s4 s5
  exact canonical_signalEvent hs5 _

theorem canonical_takeEv {s : State} (h : s.Canonical) (n : ℕ) : (s.takeEv n).Canonical := by
  unfold State.takeEv
  extract_lets f on __src
  clear_value f on __src
  refine canonical_ite ?_ ?_
  · split
    · exact canonical_ite (canonical_writeEv (canonical_upd h (by rfl)) ..) h
    · exact h
  · split
    · exact h
    · refine canonical_ite (canonical_writeEv (canonical_setFn h ..) ..) (canonical_ite h ?_)
      extract_lets l
      clear_value l
      exact canonical_setFn h ..

theorem canonical_execEventWrite {s : State} (h : s.Canonical) (fn : ℕ) : NextCanonical (execEventWrite fn s) := by
  unfold execEventWrite
  exact nextCanonical_next (canonical_takeEv h _)

theorem canonical_ringOverflow {s : State} (h : s.Canonical) (n : ℕ) : (s.ringOverflow n).Canonical := by
  unfold State.ringOverflow
  extract_lets f
  clear_value f
  split
  · exact canonical_ite (canonical_writeEv (canonical_setFn h ..) ..) h
  · exact h

theorem canonical_execRingOverflowRecord {s : State} (h : s.Canonical) (fn : ℕ) : NextCanonical (execRingOverflowRecord fn
    s) := by
  unfold execRingOverflowRecord
  exact nextCanonical_next (canonical_ringOverflow h _)

theorem canonical_fifoOverflow {s : State} (h : s.Canonical) (n : ℕ) : (s.fifoOverflow n).Canonical := by
  unfold State.fifoOverflow
  extract_lets f
  clear_value f
  split
  · exact canonical_ite (canonical_setFn h ..) h
  · exact h

theorem canonical_execFifoOverflowRecord {s : State} (h : s.Canonical) (fn : ℕ) : NextCanonical (execFifoOverflowRecord fn
    s) := by
  unfold execFifoOverflowRecord
  exact nextCanonical_next (canonical_fifoOverflow h _)

theorem canonical_summaries {s : State} (h : s.Canonical) (n : ℕ) : (s.summaries n).Canonical := by
  unfold State.summaries
  extract_lets f
  clear_value f
  exact canonical_ite (canonical_setFn h ..) h

theorem canonical_execEventSummary {s : State} (h : s.Canonical) (fn : ℕ) : NextCanonical (execEventSummary fn s) := by
  unfold execEventSummary
  exact nextCanonical_next (canonical_summaries h _)

theorem canonical_advance {s : State} (h : s.Canonical) (k : ℕ) : (s.advance k).Canonical := by
  unfold State.advance
  exact canonical_ite (canonical_upd h (by rfl)) h

theorem canonical_runTo {s : State} (h : s.Canonical) (target : ℕ) : (s.runTo target).Canonical := by
  unfold State.runTo
  exact canonical_advance h _

theorem canonical_evHoldEnd {s : State} (h : s.Canonical) (n : ℕ) : (s.evHoldEnd n).Canonical := by
  unfold State.evHoldEnd
  extract_lets f s1 __src s2 __src1
  have hs1 : s1.Canonical := canonical_runTo h _
  have hs2 : s2.Canonical := canonical_setFn hs1 ..
  clear_value f s1 __src s2 __src1
  exact canonical_ite (canonical_ite (canonical_msix (canonical_setFn hs2 ..) ..) hs2) h

theorem canonical_execMsixEventHoldoffEnd {s : State} (h : s.Canonical) (fn : ℕ) : NextCanonical (execMsixEventHoldoffEnd
    fn s) := by
  unfold execMsixEventHoldoffEnd
  exact nextCanonical_next (canonical_evHoldEnd h _)

theorem canonical_ticSignal {s : State} (h : s.Canonical) (ch : ℕ) : (s.ticSignal ch).Canonical := by
  unfold State.ticSignal
  exact canonical_msix (canonical_setTic h ..) ..

theorem canonical_execMsixTicStreamTimeout {s : State} (h : s.Canonical) (ch : ℕ) : NextCanonical (execMsixTicStreamTimeout
    ch s) := by
  unfold execMsixTicStreamTimeout
  refine nextCanonical_next ?_
  split
  · exact canonical_ite (canonical_ticSignal (canonical_runTo h _) _) h
  · exact h

theorem canonical_featuresOk {s : State} (h : s.Canonical) : (s.featuresOk).Canonical := by
  unfold State.featuresOk
  extract_lets acc s1 __src s2
  have hs1 : s1.Canonical := canonical_set (canonical_set (canonical_set h ..) ..) ..
  have hs2 : s2.Canonical := canonical_upd hs1 (by rfl)
  clear_value acc s1 __src s2
  refine canonical_ite h ?_
  split
  · exact canonical_set (canonical_set (canonical_set h ..) ..) ..
  · exact canonical_settleDiag (canonical_settleCapacity hs2) _

theorem canonical_execFeaturesOk {s : State} (h : s.Canonical) : NextCanonical (execFeaturesOk s) := by
  unfold execFeaturesOk
  exact nextCanonical_next (canonical_awake h _ (fun u hu => canonical_featuresOk hu))

theorem canonical_tenCtl {s : State} (h : s.Canonical) (t : ℕ) (en : Bool) : (s.tenCtl t en).Canonical := by
  unfold State.tenCtl
  extract_lets n was s1 f s2
  have hs1 : s1.Canonical := canonical_setB h ..
  have hs2 : s2.Canonical := canonical_ite (canonical_deleteOwned (canonical_ite (canonical_setFn hs1 ..) hs1) _) hs1
  clear_value n was s1 f s2
  exact canonical_ite h (canonical_ite (canonical_flagErr h ..) (canonical_settleTen hs2 _))

theorem canonical_execTenCtlWrite {s : State} (h : s.Canonical) (t : ℕ) (en : Bool) : NextCanonical (execTenCtlWrite t en
    s) := by
  unfold execTenCtlWrite
  exact nextCanonical_next (canonical_awake h _ (fun u hu => canonical_tenCtl hu ..))

theorem canonical_busClear {s : State} (h : s.Canonical) (n : ℕ) : (s.busClear n).Canonical := by
  unfold State.busClear
  extract_lets f f1 s1 s2
  have hs1 : s1.Canonical := canonical_setFn h ..
  have hs2 : s2.Canonical := canonical_set (canonical_set hs1 ..) ..
  clear_value f f1 s1 s2
  exact canonical_ite h (canonical_settleFn (canonical_dropEntries hs2 _) _)

theorem canonical_execBusMasterClear {s : State} (h : s.Canonical) (fn : ℕ) : NextCanonical (execBusMasterClear fn s) := by
  unfold execBusMasterClear
  exact nextCanonical_next (canonical_awake h _ (fun u hu => canonical_busClear hu _))

theorem canonical_busSet {s : State} (h : s.Canonical) (n : ℕ) : (s.busSet n).Canonical := by
  unfold State.busSet
  refine canonical_ite h ?_
  extract_lets __src s1
  have hs1 : s1.Canonical := canonical_setFn h ..
  clear_value __src s1
  exact canonical_settleFn hs1 _

theorem canonical_execBusMasterSet {s : State} (h : s.Canonical) (fn : ℕ) : NextCanonical (execBusMasterSet fn s) := by
  unfold execBusMasterSet
  exact nextCanonical_next (canonical_awake h _ (fun u hu => canonical_busSet hu _))

theorem canonical_flr {s : State} (h : s.Canonical) (n : ℕ) : (s.flr n).Canonical := by
  unfold State.flr
  exact canonical_ite h (canonical_ite (canonical_resetVfs (canonical_settleFn (canonical_resetFn h _) _) ..)
      (canonical_resetVf h ..))

theorem canonical_execFlr {s : State} (h : s.Canonical) (fn : ℕ) : NextCanonical (execFlr fn s) := by
  unfold execFlr
  exact nextCanonical_next (canonical_awake h _ (fun u hu => canonical_flr hu _))

theorem canonical_execVfEnableClear {s : State} (h : s.Canonical) : NextCanonical (execVfEnableClear s) := by
  unfold execVfEnableClear
  exact nextCanonical_next (canonical_awake h _ (fun u hu => canonical_resetVfs hu ..))

theorem canonical_countStrobes {s : State} (h : s.Canonical) (byReg bySched : ℕ) : (s.countStrobes byReg bySched).Canonical
    := by
  unfold State.countStrobes
  exact canonical_foldl (fun u a hu => canonical_ite (canonical_count (canonical_setB (canonical_setB (canonical_add hu ..)
      ..) ..) _) hu) h

theorem canonical_reload {s : State} (h : s.Canonical) (p : PReg) : (s.reload p).Canonical := by
  unfold State.reload
  exact canonical_upd h (by rfl)

theorem canonical_reloadFld {s : State} (h : s.Canonical) (f : Fld) : (s.reloadFld f).Canonical := by
  unfold State.reloadFld
  exact canonical_ite (canonical_upd h (by rfl)) h

theorem canonical_judgeRefIn {s : State} (h : s.Canonical) (p : PReg) : (s.judgeRefIn p).1.Canonical := by
  unfold State.judgeRefIn
  extract_lets i changed
  clear_value i changed
  split
  · exact h
  · split
    · exact canonical_set (canonical_reload h _) ..
    · split
      · exact canonical_set (canonical_reloadFld (canonical_reloadFld h _) _) ..
      · exact canonical_set h ..

theorem canonical_judgeCh {s : State} (h : s.Canonical) (p : PReg) : (s.judgeCh p).1.Canonical := by
  unfold State.judgeCh
  split
  · exact h
  · exact canonical_set (canonical_set (canonical_reload h _) ..) ..
  · exact canonical_set (canonical_set (canonical_reload h _) ..) ..

theorem canonical_disarmStep {s : State} (h : s.Canonical) : (s.disarmStep).Canonical := by
  unfold State.disarmStep
  exact canonical_ite (canonical_set (canonical_set (canonical_upd h (by rfl)) ..) ..) h

theorem canonical_armStep {s : State} (h : s.Canonical) (mag tol dl : ℕ) : (s.armStep mag tol dl).1.Canonical := by
  unfold State.armStep
  extract_lets d __src
  clear_value d __src
  split
  · exact canonical_set h ..
  · split
    · exact canonical_set h ..
    · exact canonical_set (canonical_set (canonical_set (canonical_upd h (by rfl)) ..) ..) ..

theorem canonical_judgeArm {s : State} (h : s.Canonical) (p : PReg) : (s.judgeArm p).1.Canonical := by
  unfold State.judgeArm
  dsimp only
  split
  · exact canonical_disarmStep h
  split
  · split
    · exact canonical_armStep h ..
    · exact canonical_reload (canonical_armStep h ..) _
  · exact h

theorem canonical_corrRecord {s : State} (h : s.Canonical) (kind clock src : ℕ) (amount : ℤ) :
    (s.corrRecord kind clock src amount).Canonical := by
  unfold State.corrRecord
  extract_lets p
  clear_value p
  exact canonical_trace (canonical_pevent h ..) ..

theorem canonical_acceptAnneal {s : State} (h : s.Canonical) (amount : ℤ) (clock src : ℕ) :
    (s.acceptAnneal amount clock src).Canonical := by
  unfold State.acceptAnneal
  extract_lets rate __src s1 s2 s3
  have hs1 : s1.Canonical := canonical_upd h (by rfl)
  have hs2 : s2.Canonical := canonical_set (canonical_set hs1 ..) ..
  have hs3 : s3.Canonical := canonical_set (canonical_set hs2 ..) ..
  clear_value rate __src s1 s2 s3
  exact canonical_corrRecord (canonical_count hs3 _) ..

theorem canonical_annealCommand {s : State} (h : s.Canonical) (amount : ℤ) : (s.annealCommand amount).1.Canonical := by
  unfold State.annealCommand
  split
  · exact canonical_set h ..
  · exact canonical_acceptAnneal (canonical_set h ..) ..

theorem canonical_judgeAnneal {s : State} (h : s.Canonical) (p : PReg) : (s.judgeAnneal p).1.Canonical := by
  unfold State.judgeAnneal
  dsimp only
  split
  · split
    · exact canonical_annealCommand h _
    · exact canonical_reload (canonical_annealCommand h _) _
  · exact h

theorem canonical_xformRefuse {s : State} (h : s.Canonical) (t cause : ℕ) (v : ℤ) (first : Bool) :
    (s.xformRefuse t cause v first).Canonical := by
  unfold State.xformRefuse
  extract_lets s1
  have hs1 : s1.Canonical := canonical_ite (canonical_set (canonical_set (canonical_set h ..) ..) ..) h
  clear_value s1
  exact canonical_pevent hs1 ..

theorem canonical_refuse {s : State} (h : s.Canonical) (p : PReg) : (s.refuse p).Canonical := by
  unfold State.refuse
  extract_lets s1
  have hs1 : s1.Canonical := canonical_reload h _
  clear_value s1
  split
  · exact canonical_set hs1 ..
  · exact canonical_set hs1 ..
  · exact canonical_set hs1 ..
  · exact canonical_set hs1 ..
  · exact hs1

theorem canonical_judgeReg {s0 s : State} (h : s0.Canonical) (h2 : s.Canonical) (p : PReg) (first : Bool) :
    (s0.judgeReg s p first).1.Canonical := by
  unfold State.judgeReg
  split
  · exact h2
  · split
    · exact canonical_judgeRefIn h2 _
    · exact canonical_judgeCh h2 _
    · exact canonical_judgeArm h2 _
    · exact canonical_judgeAnneal h2 _
    · extract_lets c
      clear_value c
      split
      · exact h2
      · exact canonical_reload (canonical_xformRefuse h2 ..) _
    · split
      · exact canonical_reload h2 _
      · split
        · exact canonical_reloadFld h2 _
        · exact h2
    · split
      · exact canonical_reload h2 _
      · split
        · exact canonical_set (canonical_reload h2 _) ..
        · exact h2
    · exact h2
    · split
      · exact h2
      · exact canonical_refuse h2 _

theorem canonical_judgeAll {s0 x2 : State} (h : s0.Canonical) (h2 : x2.Canonical) (x1 x3 : List PReg) :
    (s0.judgeAll x1 x2 x3).1.Canonical := by
  induction x1 generalizing x2 x3 with
  | nil => exact h2
  | cons p l ih => exact ih (canonical_judgeReg h h2 ..) _

theorem canonical_flagRefused {s : State} (h : s.Canonical) (mask : ℕ) (bad : List PReg) : (s.flagRefused mask
    bad).Canonical := by
  unfold State.flagRefused
  extract_lets hit flag gfl s1 s2 s3 s4 s5
  have hflag : ∀ {u : State} (win : ℕ) (f : Fld) (b : Bool), u.Canonical → (flag u win f b).Canonical :=
    fun win f b hu => canonical_ite (canonical_setB hu ..) hu
  have hs5 : s5.Canonical := hflag _ _ _ (hflag _ _ _ (hflag _ _ _ (hflag _ _ _ (hflag _ _ _ (hflag _ _ _ h)))))
  exact canonical_foldl (fun u q hu => hflag _ _ _ hu) hs5

theorem canonical_pdRecord {s : State} (h : s.Canonical) (d st : ℕ) : (s.pdRecord d st).Canonical := by
  unfold State.pdRecord
  exact canonical_pevent h ..

theorem canonical_pdStrobe {old s : State} (h : old.Canonical) (h2 : s.Canonical) (d : ℕ) : (old.pdStrobe s d).Canonical := by
  unfold State.pdStrobe
  extract_lets was now __src bit dark s1 __src1 __src2 s2
  have hs1 : s1.Canonical := canonical_set h2 ..
  have hs2 : s2.Canonical := canonical_upd h2 (by rfl)
  clear_value was now __src bit dark s1 __src1 __src2 s2
  exact canonical_ite h2 (canonical_ite (canonical_set (canonical_reloadFld h2 _) ..) (canonical_ite (canonical_pdRecord
      (canonical_upd hs1 (by rfl)) ..) (canonical_ite hs2 (canonical_pdRecord hs2 ..))))

theorem canonical_pdStrobes {old s : State} (h : old.Canonical) (h2 : s.Canonical) : (old.pdStrobes s).Canonical := by
  unfold State.pdStrobes
  exact canonical_foldl (fun u a hu => canonical_pdStrobe h hu _) (canonical_set h2 ..)

theorem canonical_putLive {s : State} (h : s.Canonical) (k v m : ℕ) : (s.putLive k v m).Canonical := by
  unfold State.putLive
  extract_lets mix pend
  clear_value pend
  exact ⟨store_wf_put h.1 _ _, h.2⟩

theorem canonical_commitReg {s : State} (h : s.Canonical) (p : PReg) : (s.commitReg p).Canonical := by
  unfold State.commitReg
  refine canonical_reload (canonical_foldl (fun u a hu => ?_) h) _
  split
  · exact canonical_putLive hu ..
  · exact hu

theorem canonical_leapLive {s : State} (h : s.Canonical) : (s.leapLive).Canonical := by
  unfold State.leapLive
  split
  · extract_lets ends __src s1
    have hs1 : s1.Canonical := canonical_upd h (by rfl)
    clear_value ends __src s1
    exact canonical_setB (canonical_set (canonical_set hs1 ..) ..) ..
  · exact h

theorem canonical_refClear {s : State} (h : s.Canonical) (r : ℕ) : (s.refClear r).Canonical := by
  unfold State.refClear
  extract_lets __src s1 s2
  have hs1 : s1.Canonical := canonical_setRef h ..
  have hs2 : s2.Canonical := canonical_foldl (fun u a hu => canonical_set hu ..) (canonical_set hs1 ..)
  clear_value __src s1 s2
  exact canonical_refMove hs2 ..

theorem canonical_liveClear {s : State} (h : s.Canonical) : (s.liveClear).Canonical := by
  unfold State.liveClear
  exact canonical_ite (canonical_set (canonical_refClear h _) ..) h

theorem canonical_manualStrobe {s : State} (h : s.Canonical) : (s.manualStrobe).Canonical := by
  unfold State.manualStrobe
  exact canonical_ite (canonical_setI h ..) h

theorem canonical_releaseRecords {s : State} (h : s.Canonical) (kind master : ℕ) : (s.releaseRecords kind master).Canonical
    := by
  unfold State.releaseRecords
  extract_lets p t s1 s2
  have hs1 : s1.Canonical := canonical_pevent h ..
  have hs2 : s2.Canonical := canonical_ite (canonical_event hs1 ..) hs1
  clear_value p t s1 s2
  exact canonical_orderTrace (canonical_trace hs2 ..)

theorem canonical_releaseFn {s : State} (h : s.Canonical) (n : ℕ) : (s.releaseFn n).Canonical := by
  unfold State.releaseFn
  extract_lets f t tags s1
  have hs1 : s1.Canonical := canonical_setFn h ..
  clear_value f t tags s1
  exact canonical_ite h (canonical_releaseRecords (canonical_set hs1 ..) ..)

theorem canonical_releaseFns {s : State} (h : s.Canonical) : (s.releaseFns).Canonical := by
  unfold State.releaseFns
  refine canonical_foldl (fun u a hu => ?_) h
  extract_lets v s1 s2
  have hs1 : s1.Canonical := canonical_foldl (fun u1 a1 hu1 => canonical_ite (canonical_releaseFn hu1 _) hu1) hu
  have hs2 : s2.Canonical := canonical_set hs1 ..
  clear_value v s1 s2
  exact canonical_ite hu (canonical_upd hs2 (by rfl))

theorem canonical_queueScrub {s : State} (h : s.Canonical) (c a : ℕ) : (s.queueScrub c a).Canonical := by
  unfold State.queueScrub
  exact canonical_upd h (by rfl)

theorem canonical_dramCe {s : State} (h : s.Canonical) (c a : ℕ) : (s.dramCe c a).Canonical := by
  unfold State.dramCe
  exact canonical_queueScrub (canonical_srcAnomaly (canonical_count (canonical_add h ..) _) _) ..

theorem canonical_dramCheck {s : State} (h : s.Canonical) (c a : ℕ) : (s.dramCheck c a).Canonical := by
  unfold State.dramCheck
  exact canonical_queueScrub (canonical_count (canonical_add h ..) _) ..

theorem canonical_dramRead {s : State} (h : s.Canonical) (e : Option DramErr) : (s.dramRead e).1.Canonical := by
  unfold State.dramRead
  split
  · extract_lets c
    clear_value c
    split
    · exact canonical_dramCe h ..
    · split
      · exact canonical_dramCheck h ..
      · exact h
  · exact h

theorem canonical_dramUe {s : State} (h : s.Canonical) (region : ℕ) (u : DramErr) : (s.dramUe region u).Canonical := by
  unfold State.dramUe
  extract_lets ch s1 s2
  have hs1 : s1.Canonical := canonical_add h ..
  have hs2 : s2.Canonical := canonical_set (canonical_set (canonical_set hs1 ..) ..) ..
  clear_value ch s1 s2
  exact canonical_pevent (canonical_count hs2 _) ..

theorem canonical_releaseEngine {s : State} (h : s.Canonical) (e : ℕ) : (s.releaseEngine e).Canonical := by
  unfold State.releaseEngine
  refine canonical_ite ?_ h
  extract_lets s1
  have hs1 : s1.Canonical := canonical_releaseRecords (canonical_startEngine h ..) ..
  clear_value s1
  exact canonical_ite (canonical_setB hs1 ..) hs1

theorem canonical_engRelease {s : State} (h : s.Canonical) (ues : List (ℕ × DramErr)) (e : ℕ) : (s.engRelease ues
    e).Canonical := by
  unfold State.engRelease
  refine canonical_ite h ?_
  split
  · rename_i x s1 bad? e1
    have hs1 : s1.Canonical := canonical_fst (canonical_dramRead h _) e1
    split
    · exact canonical_dramUe hs1 ..
    · exact canonical_ite (canonical_releaseRecords (canonical_set hs1 ..) ..) (canonical_releaseEngine hs1 _)

theorem canonical_releaseLink {s : State} (h : s.Canonical) (l : ℕ) : (s.releaseLink l).Canonical := by
  unfold State.releaseLink
  exact canonical_ite (canonical_linkTo (canonical_releaseRecords h ..) ..) h

theorem canonical_liveReleases {s : State} (h : s.Canonical) (mask : ℕ) (ues : List (ℕ × DramErr)) :
    (s.liveReleases mask ues).Canonical := by
  unfold State.liveReleases
  extract_lets s1 es s2 s3 r
  have hs1 : s1.Canonical := canonical_ite (canonical_releaseFns h) h
  have hs2 : s2.Canonical := canonical_foldl (fun u a hu => canonical_set (canonical_engRelease hu ..) ..) hs1
  have hs3 : s3.Canonical := canonical_ite hs2 (canonical_settleDiag hs2 _)
  clear_value s1 es s2 s3 r
  exact canonical_ite (canonical_pairSettle (canonical_foldl (fun u a hu => canonical_releaseLink hu _) (canonical_set hs3
      ..)) _) hs3

theorem canonical_strobe {s : State} (h : s.Canonical) (byReg bySched : ℕ) (ues : List (ℕ × DramErr)) :
    (s.strobe byReg bySched ues).Canonical := by
  unfold State.strobe
  extract_lets mask s1 s2 regs regs1
  have hs1 : s1.Canonical := canonical_countStrobes h ..
  have hs2 : s2.Canonical := canonical_ite (canonical_tagHmk hs1) hs1
  clear_value mask s1 s2 regs regs1
  split
  · rename_i x s3 bad e
    have hs3 : s3.Canonical := canonical_fst (canonical_judgeAll hs2 hs2 ..) e
    split
    · rename_i x1 s4 bad1 e1
      have hs4 : s4.Canonical := canonical_fst (canonical_judgeAll hs3 hs3 ..) e1
      extract_lets s5 old s6 s7 s8 live s9 s10 s11 s12
      have hs5 : s5.Canonical := canonical_flagRefused hs4 ..
      have hold : old.Canonical := hs5
      have hs6 : s6.Canonical := canonical_ite (canonical_pdStrobes hold hs5) hs5
      have hs7 : s7.Canonical := canonical_foldl (fun u a hu => canonical_commitReg hu _) hs6
      have hs8 : s8.Canonical := canonical_ite (canonical_leapLive hs7) hs7
      have hs9 : s9.Canonical := canonical_foldl (fun u a hu => canonical_liveReg hold hu _) hs8
      have hs10 : s10.Canonical := canonical_ite (canonical_liveClear hs9) hs9
      have hs11 : s11.Canonical := canonical_ite (canonical_manualStrobe hs10) hs10
      have hs12 : s12.Canonical := canonical_liveReleases hs11 ..
      clear_value s5 old s6 s7 s8 live s9 s10 s11 s12
      exact canonical_ite (canonical_settleDiag hs12 _) hs12

theorem canonical_hostStrobe {s : State} (h : s.Canonical) (mask : ℕ) (ues : List (ℕ × DramErr)) :
    (s.hostStrobe mask ues).Canonical := by
  unfold State.hostStrobe
  refine canonical_ite (canonical_upd h (by rfl)) ?_
  extract_lets done s1
  have hs1 : s1.Canonical := canonical_foldl (fun u a hu => canonical_ite (canonical_set hu ..) hu) h
  clear_value done s1
  exact canonical_ite (canonical_strobe hs1 ..) (canonical_ite hs1 (canonical_strobe hs1 ..))

theorem canonical_strobeFor {s : State} (h : s.Canonical) (f : Fld) (ues : List (ℕ × DramErr)) : (s.strobeFor f
    ues).Canonical := by
  unfold State.strobeFor
  exact canonical_ite (canonical_hostStrobe h ..) h

theorem canonical_execTenantRelease {s : State} (h : s.Canonical) (n : ℕ) : NextCanonical (execTenantRelease n s) := by
  unfold execTenantRelease
  exact nextCanonical_next (canonical_ite (canonical_strobeFor h ..) h)

theorem canonical_gfeStart {s : State} (h : s.Canonical) (v : ℕ) : (s.gfeStart v).Canonical := by
  unfold State.gfeStart
  extract_lets n
  clear_value n
  exact canonical_emitOut h _

theorem canonical_post {s : State} (h : s.Canonical) (off : ℕ) (p : Posted) : (s.post off p).Canonical := by
  unfold State.post
  refine canonical_ite (canonical_postLost h _) (canonical_ite ?_ (canonical_upd h (by rfl)))
  extract_lets v __src __src1
  have h__src : __src.Canonical := canonical_gfeStart h _
  clear_value v __src __src1
  exact canonical_ite (canonical_upd h__src (by rfl)) (canonical_flagErr h ..)

theorem canonical_smpWrite {s : State} (h : s.Canonical) (j w v : ℕ) : (s.smpWrite j w v).Canonical := by
  unfold State.smpWrite
  refine canonical_ite h (canonical_ite (canonical_flagErr h ..) ?_)
  extract_lets was s1 __src
  have hs1 : s1.Canonical := canonical_ite (canonical_setB (canonical_set h ..) ..) (canonical_set h ..)
  clear_value was s1 __src
  exact canonical_ite (canonical_setSlot hs1 ..) hs1

theorem canonical_trcWrite {s : State} (h : s.Canonical) (w v : ℕ) : (s.trcWrite w v).Canonical := by
  unfold State.trcWrite
  extract_lets en log a s1 __src s2 __src1
  have hs1 : s1.Canonical := canonical_set (canonical_setB (canonical_setB h ..) ..) ..
  have hs2 : s2.Canonical := canonical_ite hs1 (canonical_upd hs1 (by rfl))
  clear_value en log a s1 __src s2 __src1
  split
  · exact canonical_ite (canonical_flagErr h ..) (canonical_ite (canonical_flagErr h ..) (canonical_ite (canonical_set
        (canonical_upd hs2 (by rfl)) ..) hs2))
  · exact canonical_set h ..
  · exact canonical_ite (canonical_flagErr h ..) (canonical_set h ..)
  · exact canonical_ite (canonical_flagErr h ..) (canonical_set h ..)
  · exact h

theorem canonical_putRw {s : State} (h : s.Canonical) (fn : ℕ) (id : RegId) (i w key off v m : ℕ) :
    (s.putRw fn id i w key off v m).Canonical := by
  unfold State.putRw
  split
  · exact canonical_tenCtl h ..
  · exact canonical_ite (canonical_flagErr h ..) (⟨store_wf_put h.1 _ _, h.2⟩)
  · exact canonical_ite (canonical_doorbell h ..) (canonical_ite (canonical_evTail h ..) (canonical_ringConfig h ..))
  · exact canonical_smpWrite h ..
  · exact canonical_trcWrite h ..
  · exact canonical_trcWrite h ..
  · extract_lets old
    clear_value old
    exact ⟨store_wf_put h.1 _ _, h.2⟩

theorem canonical_noteShadow {s : State} (h : s.Canonical) (key : ℕ) : (s.noteShadow key).Canonical := by
  unfold State.noteShadow
  extract_lets old now __src
  clear_value old now __src
  exact canonical_upd h (by rfl)

theorem canonical_putShadow {s : State} (h : s.Canonical) (al key v m : ℕ) : (s.putShadow al key v m).Canonical := by
  unfold State.putShadow
  extract_lets s1
  have hs1 : s1.Canonical := canonical_noteShadow h _
  clear_value s1
  exact canonical_upd hs1 (by rfl)

theorem canonical_leapCommit {s : State} (h : s.Canonical) : (s.leapCommit).Canonical := by
  unfold State.leapCommit
  split
  · extract_lets s1 tab __src
    have hs1 : s1.Canonical := canonical_setB (canonical_set (canonical_set h ..) ..) ..
    clear_value s1 tab __src
    exact canonical_ite (canonical_set (canonical_upd hs1 (by rfl)) ..) hs1

theorem canonical_dateGo {s : State} (h : s.Canonical) (mark : Bool) (ch : ℕ) : (s.dateGo mark ch).Canonical := by
  unfold State.dateGo
  extract_lets code s1 d s2 __src
  have hs1 : s1.Canonical := canonical_set h ..
  have hs2 : s2.Canonical := canonical_setB (canonical_set hs1 ..) ..
  clear_value code s1 d s2 __src
  exact canonical_ite (canonical_upd hs2 (by rfl)) hs1

theorem canonical_loopGo {s : State} (h : s.Canonical) : (s.loopGo).Canonical := by
  unfold State.loopGo
  extract_lets a b run r __src s1 s2
  have hs1 : s1.Canonical := canonical_upd h (by rfl)
  have hs2 : s2.Canonical := canonical_set (canonical_set hs1 ..) ..
  clear_value a b run r __src s1 s2
  exact canonical_ite (canonical_set h ..) (canonical_set (canonical_set hs2 ..) ..)

theorem canonical_tatGo {s : State} (h : s.Canonical) : (s.tatGo).Canonical := by
  unfold State.tatGo
  exact canonical_ite (canonical_set h ..) (canonical_set (canonical_set (canonical_set h ..) ..) ..)

theorem canonical_pushGo {s : State} (h : s.Canonical) : (s.pushGo).Canonical := by
  unfold State.pushGo
  exact canonical_ite (canonical_loadResult h ..) (canonical_set h ..)

theorem canonical_trigger1 {s : State} (h : s.Canonical) (fn : ℕ) (id : RegId) (w t : ℕ) : (s.trigger1 fn id w t).Canonical
    := by
  unfold State.trigger1
  extract_lets on s1 s2
  have hs1 : s1.Canonical := canonical_ite (canonical_searchStart h _) h
  have hs2 : s2.Canonical := canonical_ite (canonical_loopGo h) h
  clear_value s1 s2
  split
  · exact canonical_ite (canonical_leapCommit h) h
  · exact canonical_ite (canonical_dateGo h ..) h
  · exact canonical_ite (canonical_searchStop hs1) hs1
  · exact canonical_ite (canonical_set h ..) h
  · exact canonical_ite (canonical_loopAbort hs2 _) hs2
  · exact canonical_ite (canonical_tatGo h) h
  · exact canonical_ite (canonical_pushGo h) h
  · exact canonical_hostStrobe h ..
  · exact canonical_ite (canonical_featuresOk h) h
  · exact h

theorem canonical_writeWord {s : State} (h : s.Canonical) (fn : ℕ) (d : RegDesc) (i j w a al off v : ℕ) :
    (s.writeWord fn d i j w a al off v).Canonical := by
  unfold State.writeWord
  split
  · exact h
  · extract_lets key s1 s2
    have hs1 : s1.Canonical := canonical_ite h (canonical_putRw h ..)
    have hs2 : s2.Canonical := canonical_ite hs1 (canonical_putShadow hs1 ..)
    clear_value key s1 s2
    exact canonical_ite (canonical_flagErr h ..) (canonical_ite h (canonical_ite (canonical_flagErr h ..) (canonical_ite
        (canonical_post h ..) (canonical_ite hs2 (canonical_trigger1 hs2 ..)))))

theorem canonical_writePart {s : State} (h : s.Canonical) (fn off v : ℕ) : (s.writePart fn off v).Canonical := by
  unfold State.writePart
  split
  · exact canonical_flagErr h ..
  · exact canonical_ite (canonical_flagErr h ..) (canonical_ite h (canonical_writeWord h ..))
  · exact h

theorem canonical_trcBase64 {s : State} (h : s.Canonical) (al v : ℕ) : (s.trcBase64 al v).Canonical := by
  unfold State.trcBase64
  extract_lets old new
  clear_value old new
  exact canonical_ite (canonical_flagErr h ..) (canonical_set h ..)

theorem canonical_regWrite {s : State} (h : s.Canonical) (fn off n v : ℕ) (contig : Bool) :
    (s.regWrite fn off n v contig).Canonical := by
  unfold State.regWrite
  extract_lets bad p base
  clear_value bad p base
  exact canonical_ite h (canonical_ite (canonical_ite (canonical_quenchFn h ..) h) (canonical_ite (canonical_flagErr h ..)
      (canonical_ite (canonical_quenchFn h ..) (canonical_ite (canonical_flagErr h ..) (canonical_ite (canonical_flagErr h
          ..) (canonical_ite (canonical_flagErr h ..) (canonical_ite (canonical_flagErr h ..) (canonical_ite
              (canonical_writePart h ..) (canonical_ite (canonical_trcBase64 h ..) (canonical_writePart
                  (canonical_writePart h ..) ..))))))))))

theorem canonical_execRegWrite {s : State} (h : s.Canonical) (fn off n v : ℕ) (contig : Bool) :
    NextCanonical (execRegWrite fn off n v contig s) := by
  unfold execRegWrite
  exact nextCanonical_next (canonical_awake h _ (fun u hu => canonical_regWrite hu ..))

theorem canonical_rxAck {s : State} (h : s.Canonical) (mask : ℕ) : (s.rxAck mask).Canonical := by
  unfold State.rxAck
  exact canonical_foldl (fun u a hu => canonical_ite (canonical_set hu ..) hu) h

theorem canonical_txDone {s : State} (h : s.Canonical) (r tries : ℕ) : (s.txDone r tries).Canonical := by
  unfold State.txDone
  extract_lets s1
  have hs1 : s1.Canonical := canonical_set (canonical_set h ..) ..
  clear_value s1
  exact canonical_pevent hs1 ..

theorem canonical_setSeamTx {s : State} (h : s.Canonical) (report : Bool) (x : Option SeamTx) : (s.setSeamTx report
    x).Canonical := by
  unfold State.setSeamTx
  exact canonical_ite (canonical_upd h (by rfl)) (canonical_setB (canonical_upd h (by rfl)) ..)

theorem canonical_seamSend {s : State} (h : s.Canonical) : (s.seamSend).Canonical := by
  unfold State.seamSend
  extract_lets m
  clear_value m
  exact canonical_ite (canonical_txDone h ..) (canonical_setSeamTx h ..)

theorem canonical_accept1 {s : State} (h : s.Canonical) (p : Posted) : (s.accept1 p).Canonical := by
  unfold State.accept1
  split
  · extract_lets m held v s1
    have hs1 : s1.Canonical := ⟨store_wf_put h.1 _ _, h.2⟩
    clear_value m held v s1
    refine canonical_ite (canonical_flagErr h ..) ?_
    split
    · exact canonical_rxAck h _
    · exact canonical_ackLog h _
    · exact canonical_ite (canonical_seamSend hs1) hs1
    · exact ⟨store_wf_put h.1 _ _, h.2⟩
  · exact h

theorem canonical_acceptPosted {s : State} (h : s.Canonical) (win : ℕ) : (s.acceptPosted win).Canonical := by
  unfold State.acceptPosted
  split
  · exact canonical_accept1 (canonical_upd h (by rfl)) _
  · exact h

theorem canonical_execPostedWriteAccept {s : State} (h : s.Canonical) (win : ℕ) : NextCanonical (execPostedWriteAccept win
    s) := by
  unfold execPostedWriteAccept
  exact nextCanonical_next (canonical_acceptPosted h _)

theorem canonical_windowGap {s : State} (h : s.Canonical) (n cause : ℕ) : (s.windowGap n cause).2.Canonical := by
  unfold State.windowGap
  extract_lets r
  clear_value r
  exact canonical_draw (canonical_draw (canonical_draw h))

theorem canonical_trcPop {s : State} (h : s.Canonical) (ue : Option DramErr) : (s.trcPop ue).2.Canonical := by
  unfold State.trcPop
  extract_lets rd behind kept s1
  have hs1 : s1.Canonical := canonical_add h ..
  clear_value rd behind kept s1
  split
  · exact h
  · split
    · split
      · rename_i x w s2 e
        have hs2 : s2.Canonical := canonical_snd (canonical_windowGap h ..) e
        exact canonical_add hs2 ..
    · split
      · rename_i x s2 bad? e
        have hs2 : s2.Canonical := canonical_fst (canonical_dramRead hs1 _) e
        split
        · exact canonical_windowGap (canonical_dramUe hs2 ..) ..
        · split
          · exact hs2
          · exact hs2

theorem canonical_trcPopN {x1 : State} (h : x1.Canonical) (x0 x2 : ℕ) (x3 : List (ℕ × DramErr)) :
    (State.trcPopN x0 x1 x2 x3).2.Canonical := by
  have hp : ∀ {s : State}, s.Canonical → ∀ o, (s.trcPop o).2.Canonical := fun h o => canonical_trcPop h o
  obtain ⟨f, hf⟩ : ∃ f, f = State.trcPop := ⟨_, rfl⟩
  obtain ⟨g, hg⟩ : ∃ g, g = State.trcPopN._f := ⟨_, rfl⟩
  obtain ⟨t, ht⟩ : ∃ t, t = State.trcPopN := ⟨_, rfl⟩
  rw [← hf] at hp
  rw [← ht]
  delta State.trcPopN at ht
  rw [← hg] at ht
  delta State.trcPopN._f at hg
  rw [← hf] at hg
  clear hf
  subst hg
  subst ht
  induction x0 generalizing x1 x2 with
  | zero => exact h
  | succ n ih => exact ih (hp h (alGet x3 x2)) (x2 + 1)

theorem canonical_ticPop {s : State} (h : s.Canonical) (ch : ℕ) : (s.ticPop ch).2.Canonical := by
  unfold State.ticPop
  extract_lets x
  clear_value x
  split
  · exact h
  · split
    · exact h
    · exact canonical_set (canonical_setTic h ..) ..

theorem canonical_ticPopN {x1 : State} (h : x1.Canonical) (x0 x2 : ℕ) : (State.ticPopN x0 x1 x2).2.Canonical := by
  induction x0 generalizing x1 with
  | zero => exact h
  | succ n ih =>
    simp only [State.ticPopN]
    exact ih (canonical_ticPop h x2)

theorem canonical_txtsPop {s : State} (h : s.Canonical) (p : ℕ) : (s.txtsPop p).2.Canonical := by
  unfold State.txtsPop
  extract_lets x e s1 s2
  have hs1 : s1.Canonical := canonical_txtsFill (canonical_setPort h ..) _
  have hs2 : s2.Canonical := canonical_setB (canonical_set (canonical_set hs1 ..) ..) ..
  clear_value x e s1 s2
  exact canonical_set (canonical_set hs2 ..) ..

theorem canonical_clearRc {s : State} (h : s.Canonical) (fn : ℕ) (d : RegDesc) (w a : ℕ) : (s.clearRc fn d w a).Canonical
    := by
  unfold State.clearRc
  extract_lets k m s1
  have hs1 : s1.Canonical := ⟨store_wf_put h.1 _ _, h.2⟩
  clear_value k m s1
  exact canonical_ite (canonical_settleAlert hs1) hs1

theorem canonical_readWide {s : State} (h : s.Canonical) (fn : ℕ) (d : RegDesc) (i j a : ℕ) : (s.readWide fn d i j
    a).2.Canonical := by
  unfold State.readWide
  extract_lets v
  clear_value v
  split
  · exact h
  · split
    · exact canonical_txtsPop h _
    · split
      · exact canonical_set h ..
      · split
        · exact canonical_clearRc (canonical_clearRc h ..) ..
        · exact h

theorem canonical_snapshot {s : State} (h : s.Canonical) (n : ℕ) : (s.snapshot n).Canonical := by
  unfold State.snapshot
  extract_lets t q ns sec teb st tsec cs c s1 s2 s3 s4 s5 s6 s7 s8 s9 s10 s11 s12 s13 s14 __src
  have hs1 : s1.Canonical := canonical_set (canonical_set h ..) ..
  have hs2 : s2.Canonical := canonical_set (canonical_set hs1 ..) ..
  have hs3 : s3.Canonical := canonical_set (canonical_set hs2 ..) ..
  have hs4 : s4.Canonical := canonical_set hs3 ..
  have hs5 : s5.Canonical := canonical_set hs4 ..
  have hs6 : s6.Canonical := canonical_set (canonical_set hs5 ..) ..
  have hs7 : s7.Canonical := canonical_setB (canonical_set hs6 ..) ..
  have hs8 : s8.Canonical := canonical_setB hs7 ..
  have hs9 : s9.Canonical := canonical_set (canonical_set hs8 ..) ..
  have hs10 : s10.Canonical := canonical_set (canonical_set hs9 ..) ..
  have hs11 : s11.Canonical := canonical_set (canonical_set hs10 ..) ..
  have hs12 : s12.Canonical := canonical_set (canonical_set hs11 ..) ..
  have hs13 : s13.Canonical := canonical_setB (canonical_setB hs12 ..) ..
  have hs14 : s14.Canonical := canonical_setB hs13 ..
  clear_value t q ns sec teb st tsec cs c s1 s2 s3 s4 s5 s6 s7 s8 s9 s10 s11 s12 s13 s14 __src
  exact canonical_setFn hs14 ..

theorem canonical_readWord {s : State} (h : s.Canonical) (fn : ℕ) (p : Place) : (s.readWord fn p).2.Canonical := by
  unfold State.readWord
  split
  · split
    · exact h
    · split
      · exact canonical_clearRc h ..
      · extract_lets s1
        have hs1 : s1.Canonical := canonical_snapshot h _
        clear_value s1
        exact hs1
      · exact canonical_set h ..
      · exact h
  · exact h

theorem canonical_readPart {s : State} (h : s.Canonical) (fn off n : ℕ) : (s.readPart fn off n).2.2.Canonical := by
  have hbad : ∀ k, (s.flagErr fn k off false).Canonical := fun k => canonical_flagErr h ..
  have hw : ∀ d i j a, (s.readWide fn d i j a).2.Canonical := fun d i j a => canonical_readWide h ..
  have hr : (s.readWord fn (s.placeOf fn off)).2.Canonical := canonical_readWord h ..
  unfold State.readPart
  extract_lets p bad
  revert hr
  change (s.readWord fn p).2.Canonical → _
  clear_value p
  intro hr
  split
  · exact hbad _
  · rename_i d i j w a
    extract_lets side
    clear_value side
    split
    · exact hbad _
    split
    · split
      · exact hbad _
      · exact h
    split
    · specialize hw d i j a
      generalize s.readWide fn d i j a = q at hw ⊢
      exact hw
    split
    · exact hbad _
    · generalize s.readWord fn _ = q at hr ⊢
      exact hr
  · exact h

theorem canonical_readJudge {s : State} (h : s.Canonical) (fn off n : ℕ) (contig : Bool) (ues : List (ℕ × DramErr)) :
    (s.readJudge fn off n contig ues).2.2.Canonical := by
  have hq : (s.quenchFn fn 1 off).Canonical := canonical_quenchFn h ..
  have hbad : ∀ k, (s.flagErr fn k off false).Canonical := fun k => canonical_flagErr h ..
  have ht : ∀ k, (State.trcPopN k s 0 ues).2.Canonical := fun k => canonical_trcPopN h ..
  have hi : ∀ k ch, (State.ticPopN k s ch).2.Canonical := fun k ch => canonical_ticPopN h ..
  have hp : ∀ {u : State}, u.Canonical → ∀ off n, (u.readPart fn off n).2.2.Canonical := fun hu off n => canonical_readPart
      hu ..
  unfold State.readJudge
  split
  · split
    · exact hq
    · exact h
  split
  · split
    · exact h
    · exact h
  split
  · exact hq
  split
  · rename_i trace ch _
    split
    · exact hbad _
    split
    · exact hbad _
    · split
      · specialize ht (n / 32)
        generalize State.trcPopN (n / 32) s 0 ues = q at ht ⊢
        exact ht
      · specialize hi (n / 16) ch
        generalize State.ticPopN (n / 16) s ch = q at hi ⊢
        exact hi
  · split
    · exact hbad _
    split
    · exact hbad _
    split
    · exact hbad _
    split
    · exact hp h ..
    · extract_lets wide
      clear_value wide
      split
      · exact hp h ..
      · have h1 := hp h off 4
        generalize s.readPart fn off 4 = q at h1 ⊢
        obtain ⟨lo, r1, s1⟩ := q
        have h2 := hp h1 (off + 4) 4
        dsimp only at h2 ⊢
        generalize s1.readPart fn (off + 4) 4 = q at h2 ⊢
        exact h2

theorem canonical_readAs {s : State} (h : s.Canonical) (row : State.ReadRow) (fn off n : ℕ) (contig : Bool) (ues : List (ℕ
    × DramErr)) :
    (s.readAs row fn off n contig ues).Canonical := by
  have hj := canonical_readJudge h fn off n contig ues
  unfold State.readAs
  generalize s.readJudge fn off n contig ues = q at hj ⊢
  refine canonical_ite h ?_
  split
  exact canonical_ite (canonical_emitOut hj _) h

theorem canonical_execRcRead {s : State} (h : s.Canonical) (fn off n : ℕ) : NextCanonical (execRcRead fn off n s) := by
  unfold execRcRead
  exact nextCanonical_next (canonical_readAs h ..)

theorem canonical_execSnapshotLatch {s : State} (h : s.Canonical) (fn n : ℕ) : NextCanonical (execSnapshotLatch fn n s) := by
  unfold execSnapshotLatch
  exact nextCanonical_next (canonical_readAs h ..)

theorem canonical_execTicQwinRead {s : State} (h : s.Canonical) (ch off n : ℕ) : NextCanonical (execTicQwinRead ch off n s)
    := by
  unfold execTicQwinRead
  exact nextCanonical_next (canonical_readAs h ..)

theorem canonical_execTxtsPop {s : State} (h : s.Canonical) (p : ℕ) : NextCanonical (execTxtsPop p s) := by
  unfold execTxtsPop
  exact nextCanonical_next (canonical_readAs h ..)

theorem canonical_execEngDmRead {s : State} (h : s.Canonical) (e : ℕ) : NextCanonical (execEngDmRead e s) := by
  unfold execEngDmRead
  exact nextCanonical_next (canonical_readAs h ..)

theorem canonical_execTraceWinRead {s : State} (h : s.Canonical) (off n : ℕ) (ues : List (ℕ × DramErr)) :
    NextCanonical (execTraceWinRead off n ues s) := by
  unfold execTraceWinRead
  exact nextCanonical_next (canonical_readAs h ..)

theorem canonical_execCounterRead {s : State} (h : s.Canonical) (fn off : ℕ) : NextCanonical (execCounterRead fn off s) := by
  unfold execCounterRead
  exact nextCanonical_next (canonical_readAs h ..)

theorem canonical_execUpdStrobe {s : State} (h : s.Canonical) (mask : ℕ) (ues : List (ℕ × DramErr)) :
    NextCanonical (execUpdStrobe mask ues s) := by
  unfold execUpdStrobe
  exact nextCanonical_next (canonical_ite h (canonical_hostStrobe h ..))

theorem canonical_execOutputStop {s : State} (h : s.Canonical) (o : ℕ) : NextCanonical (execOutputStop o s) := by
  unfold execOutputStop
  exact nextCanonical_next (canonical_ite (canonical_outStopped h _) h)

theorem canonical_execStepArm {s : State} (h : s.Canonical) : NextCanonical (execStepArm s) := by
  unfold execStepArm
  exact nextCanonical_next (canonical_strobeFor h ..)

theorem canonical_execStepDisarm {s : State} (h : s.Canonical) : NextCanonical (execStepDisarm s) := by
  unfold execStepDisarm
  exact nextCanonical_next (canonical_strobeFor h ..)

theorem canonical_execAnnealCommand {s : State} (h : s.Canonical) : NextCanonical (execAnnealCommand s) := by
  unfold execAnnealCommand
  exact nextCanonical_next (canonical_strobeFor h ..)

theorem canonical_execBurnRelock {s : State} (h : s.Canonical) (b : ℕ) : NextCanonical (execBurnRelock b s) := by
  unfold execBurnRelock
  exact nextCanonical_next (canonical_ite (canonical_strobeFor h ..) h)

theorem canonical_execAesRealign {s : State} (h : s.Canonical) (m : ℕ) : NextCanonical (execAesRealign m s) := by
  unfold execAesRealign
  exact nextCanonical_next (canonical_ite (canonical_strobeFor h ..) h)

theorem canonical_execTatSwap {s : State} (h : s.Canonical) : NextCanonical (execTatSwap s) := by
  unfold execTatSwap
  exact nextCanonical_next (canonical_strobeFor h ..)

theorem canonical_execRefClear {s : State} (h : s.Canonical) : NextCanonical (execRefClear s) := by
  unfold execRefClear
  exact nextCanonical_next (canonical_strobeFor h ..)

theorem canonical_execEngineRelease {s : State} (h : s.Canonical) (e : ℕ) (ue : Option DramErr) :
    NextCanonical (execEngineRelease e ue s) := by
  unfold execEngineRelease
  exact nextCanonical_next (canonical_ite (canonical_strobeFor h ..) h)

theorem canonical_execLinkRelease {s : State} (h : s.Canonical) (l : ℕ) : NextCanonical (execLinkRelease l s) := by
  unfold execLinkRelease
  exact nextCanonical_next (canonical_ite (canonical_strobeFor h ..) h)

theorem canonical_execSyncArm {s : State} (h : s.Canonical) : NextCanonical (execSyncArm s) := by
  unfold execSyncArm
  exact nextCanonical_next (canonical_strobeFor h ..)

theorem canonical_execSyncDisarm {s : State} (h : s.Canonical) : NextCanonical (execSyncDisarm s) := by
  unfold execSyncDisarm
  exact nextCanonical_next (canonical_strobeFor h ..)

theorem canonical_execDateGo {s : State} (h : s.Canonical) (mark : Bool) (ch : ℕ) : NextCanonical (execDateGo mark ch s) := by
  unfold execDateGo
  exact nextCanonical_next (canonical_awake h _ (fun u hu => canonical_dateGo (canonical_set (canonical_setB hu ..) ..) ..))

theorem canonical_advanceEnt {s : State} (h : s.Canonical) (o : State.Occ) : (s.advanceEnt o).Canonical := by
  unfold State.advanceEnt
  exact canonical_ite (canonical_upd h (by rfl)) (canonical_ite (canonical_freeEnt h _) (canonical_putEnt h ..))

theorem canonical_keepOne {s : State} (h : s.Canonical) (wasProv : Bool) (t0 id : ℕ) (e : SchEnt) :
    (s.keepOne wasProv t0 id e).Canonical := by
  unfold State.keepOne
  refine canonical_ite h (canonical_ite (canonical_advanceEnt h _) ?_)
  extract_lets __src s1
  have hs1 : s1.Canonical := canonical_upd h (by rfl)
  clear_value __src s1
  exact canonical_ite (canonical_freeEnt hs1 _) (canonical_putEnt hs1 ..)

theorem canonical_keepDue {s : State} (h : s.Canonical) (wasProv : Bool) (t0 : ℕ) : (s.keepDue wasProv t0).Canonical := by
  unfold State.keepDue
  exact canonical_foldl (fun u a hu => canonical_keepOne hu ..) h

theorem canonical_forwardJump {s : State} (h : s.Canonical) (wasProv : Bool) (t0 : ℕ) : (s.forwardJump wasProv
    t0).Canonical := by
  unfold State.forwardJump
  extract_lets t1 s1 __src
  have hs1 : s1.Canonical := canonical_keepDue h ..
  clear_value t1 s1 __src
  split
  · split
    · extract_lets ls s2 s3
      have hs2 : s2.Canonical := canonical_upd hs1 (by rfl)
      have hs3 : s3.Canonical := canonical_ite hs2 (canonical_countN (canonical_add hs2 ..) ..)
      clear_value ls s2 s3
      exact canonical_placeTick (canonical_flushLate hs3)

theorem canonical_withdraw {s : State} (h : s.Canonical) (t0 t1 p : ℕ) : (s.withdraw t0 t1 p).Canonical := by
  unfold State.withdraw
  extract_lets crossed n s1
  have hs1 : s1.Canonical := canonical_foldl (fun u a hu => canonical_hmkStat hu _) h
  clear_value n s1
  exact canonical_releaseResvs hs1 ..

theorem canonical_synJump {s : State} (h : s.Canonical) (d : ℕ) : (s.synJump d).Canonical := by
  unfold State.synJump
  extract_lets s1 src s2
  have hs1 : s1.Canonical := canonical_foldl (fun u b hu => by
    extract_lets _ v v1
    have hv : v.Canonical := canonical_setBurn hu ..
    have hv1 : v1.Canonical := canonical_set hv ..
    exact canonical_ite (canonical_ite (canonical_unalign hv1 _) hv1) hv) h
  have hs2 : s2.Canonical := canonical_syn hs1 _
  exact canonical_foldl (fun u m hu => canonical_ite (canonical_setAes (canonical_set hu ..) ..) hu) hs2

theorem canonical_shiftTimers {s : State} (h : s.Canonical) (n : ℕ) : (s.shiftTimers n).Canonical := by
  unfold State.shiftTimers
  extract_lets o prs tx __src __src1 __src2 __src3 __src4 __src5 __src6 __src7 __src8 __src9 __src10 __src11
  clear_value __src __src1 __src2 __src3 __src4 __src5 __src6 __src7 __src8 __src9 __src10 __src11
  exact canonical_upd h (by rfl)

theorem canonical_crossWaits {s : State} (h : s.Canonical) (t0 t1 : ℕ) : (s.crossWaits t0 t1).Canonical := by
  refine ⟨h.1, ?_⟩
  have h2 := h.2
  simp only [State.crossWaits, List.all_map, List.all_eq_true] at h2 ⊢
  intro p hp
  have hc := (engCanonical_iff _).mp (h2 p hp)
  dsimp only [Function.comp]
  refine (engCanonical_iff _).mpr ?_
  split
  · split
    · exact hc
    · exact hc
  · exact hc

theorem canonical_afterJump {s : State} (h : s.Canonical) (wasProv : Bool) (core : ℕ) : (s.afterJump wasProv
    core).Canonical := by
  unfold State.afterJump
  refine canonical_ite h ?_
  extract_lets t0 s1 s2 s3
  have hs1 : s1.Canonical := canonical_forwardJump h ..
  have hs2 : s2.Canonical := canonical_foldl (fun u a hu => canonical_withdraw hu ..) hs1
  have hs3 : s3.Canonical := canonical_synJump hs2 _
  clear_value t0 s1 s2 s3
  exact canonical_shiftTimers (canonical_crossWaits hs3 ..) _

theorem canonical_dateEnd {s : State} (h : s.Canonical) (code : ℕ) : (s.dateEnd code).Canonical := by
  unfold State.dateEnd
  exact canonical_set (canonical_set (canonical_upd h (by rfl)) ..) ..

theorem canonical_clearAnneal {s : State} (h : s.Canonical) : (s.clearAnneal).Canonical := by
  unfold State.clearAnneal
  extract_lets __src s1
  have hs1 : s1.Canonical := canonical_upd h (by rfl)
  clear_value __src s1
  exact canonical_set (canonical_set (canonical_set hs1 ..) ..) ..

theorem canonical_cancelAnneal {s : State} (h : s.Canonical) : (s.cancelAnneal).1.Canonical := by
  unfold State.cancelAnneal
  split
  · extract_lets rec_
    clear_value rec_
    exact canonical_count (canonical_set (canonical_clearAnneal h) ..) _
  · exact h

theorem canonical_markGates {s : State} (h : s.Canonical) (f : Gate → Gate) : (s.markGates f).Canonical := by
  unfold State.markGates
  exact canonical_upd h (by rfl)

theorem canonical_shiftRefs {s : State} (h : s.Canonical) (d : ℤ) : (s.shiftRefs d).Canonical := by
  unfold State.shiftRefs
  extract_lets move refs n __src __src1
  clear_value refs n __src __src1
  exact canonical_upd h (by rfl)

theorem canonical_moveCore {s : State} (h : s.Canonical) (a : ℕ) : (s.moveCore a).Canonical := by
  unfold State.moveCore
  extract_lets d before __src __src1 s1
  have hs1 : s1.Canonical := canonical_upd h (by rfl)
  clear_value d before __src __src1 s1
  exact canonical_markGates (canonical_shiftRefs hs1 _) _

theorem canonical_provEndRecord {s : State} (h : s.Canonical) (p source : ℕ) : (s.provEndRecord p source).Canonical := by
  unfold State.provEndRecord
  exact canonical_pevent h ..

theorem canonical_leaveProv {s : State} (h : s.Canonical) (a source : ℕ) : (s.leaveProv a source).1.Canonical := by
  unfold State.leaveProv
  extract_lets p
  clear_value p
  split
  · rename_i x s1 c e
    have hs1 : s1.Canonical := canonical_fst (canonical_cancelAnneal h) e
    extract_lets s2 s3
    have hs2 : s2.Canonical := canonical_set (canonical_moveCore hs1 _) ..
    have hs3 : s3.Canonical := canonical_forwardJump hs2 ..
    clear_value s2 s3
    exact canonical_provEndRecord hs3 ..

theorem canonical_holdTag {s : State} (h : s.Canonical) (r : ℕ) : (s.holdTag r).Canonical := by
  unfold State.holdTag
  exact canonical_upd h (by rfl)

theorem canonical_boundAlarm {s : State} (h : s.Canonical) : (s.boundAlarm).Canonical := by
  unfold State.boundAlarm
  extract_lets above s1 s2
  have hs1 : s1.Canonical := canonical_count (canonical_setB h ..) _
  have hs2 : s2.Canonical := canonical_pevent hs1 ..
  clear_value above s1 s2
  exact canonical_boundTrace (canonical_ite (canonical_boundTraceRec hs2 _) h)

theorem canonical_boundaryTeb {s : State} (h : s.Canonical) : (s.boundaryTeb).Canonical := by
  unfold State.boundaryTeb
  extract_lets st __src s1 s2
  have hs1 : s1.Canonical := canonical_set (canonical_upd h (by rfl)) ..
  have hs2 : s2.Canonical := canonical_recomputeTeb hs1
  clear_value st __src s1 s2
  exact canonical_boundAlarm (canonical_ite (canonical_holdTag hs2 _) hs2)

theorem canonical_servo {s : State} (h : s.Canonical) : (s.servo).Canonical := by
  unfold State.servo
  refine canonical_ite h ?_
  extract_lets xs wn prop i f __src s1 s2
  have hs1 : s1.Canonical := canonical_upd h (by rfl)
  have hs2 : s2.Canonical := canonical_setB hs1 ..
  clear_value xs wn prop i f __src s1 s2
  exact canonical_setI hs2 ..

theorem canonical_driveFreq {s : State} (h : s.Canonical) : (s.driveFreq).Canonical := by
  unfold State.driveFreq
  extract_lets st act s1 f0 applied
  have hs1 : s1.Canonical := canonical_set h ..
  clear_value st act s1 f0 applied
  exact canonical_ite (canonical_servo h) (canonical_ite (canonical_setI hs1 ..) hs1)

theorem canonical_loadDate {s : State} (h : s.Canonical) (a teb source tag : ℕ) : (s.loadDate a teb source tag).Canonical
    := by
  unfold State.loadDate
  split
  · rename_i x s1 c e
    have hs1 : s1.Canonical := canonical_fst (canonical_leaveProv h ..) e
    extract_lets old oact __src s2 s3 new act s4 s5 s6
    have hs2 : s2.Canonical := canonical_holdTag (canonical_upd hs1 (by rfl)) _
    have hs3 : s3.Canonical := canonical_enterState hs2 ..
    have hs4 : s4.Canonical := canonical_formPhase hs3
    have hs5 : s5.Canonical := canonical_ite hs4 (canonical_kstateRecord hs4 ..)
    have hs6 : s6.Canonical := by
      unfold s6
      split
      · exact canonical_corrRecord hs5 ..
      · exact hs5
    clear_value old oact __src s2 s3 new act s4 s5 s6
    exact canonical_boundaryTeb (canonical_driveFreq hs6)

theorem canonical_dateLoad {s : State} (h : s.Canonical) : (s.dateLoad).Canonical := by
  unfold State.dateLoad
  split
  · extract_lets due a __src s1
    have hs1 : s1.Canonical := canonical_upd h (by rfl)
    clear_value due a __src s1
    exact canonical_ite (canonical_ite (canonical_dateEnd h _) (canonical_ite (canonical_dateEnd (canonical_loadDate hs1
        ..) _) (canonical_dateEnd hs1 _))) h
  · exact h

theorem canonical_execDateLoad {s : State} (h : s.Canonical) : NextCanonical (execDateLoad s) := by
  unfold execDateLoad
  exact nextCanonical_next (canonical_afterJump (canonical_dateLoad h) ..)

theorem canonical_execMarkTimeout {s : State} (h : s.Canonical) : NextCanonical (execMarkTimeout s) := by
  unfold execMarkTimeout
  refine nextCanonical_next ?_
  split
  · exact canonical_ite (canonical_dateEnd (canonical_runTo h _) _) h
  · exact h

theorem canonical_execLeapCommit {s : State} (h : s.Canonical) : NextCanonical (execLeapCommit s) := by
  unfold execLeapCommit
  exact nextCanonical_next (canonical_awake h _ (fun u hu => canonical_leapCommit hu))

theorem canonical_execLeapExpired {s : State} (h : s.Canonical) : NextCanonical (execLeapExpired s) := by
  unfold execLeapExpired
  exact nextCanonical_next (canonical_ite (canonical_set (canonical_upd h (by rfl)) ..) h)

theorem canonical_detach {s : State} (h : s.Canonical) (fn id : ℕ) : (s.detach fn id).Canonical := by
  unfold State.detach
  split
  · exact canonical_ite (canonical_dropDisowned h ..) (canonical_ite (canonical_set (canonical_upd h (by rfl)) ..) h)
  · exact h

theorem canonical_schComplete {s : State} (h : s.Canonical) (fn op : ℕ) : (s.schComplete fn op).Canonical := by
  unfold State.schComplete
  extract_lets o id e code s1 s2 s3 s4 s5
  have hs1 : s1.Canonical := canonical_set (canonical_set h ..) ..
  have hs2 : s2.Canonical := canonical_set (canonical_set hs1 ..) ..
  have hs3 : s3.Canonical := canonical_count hs2 _
  have hs4 : s4.Canonical := canonical_detach hs3 ..
  have hs5 : s5.Canonical := canonical_ite (canonical_set hs4 ..) hs4
  clear_value o id e code s1 s2 s3 s4 s5
  refine canonical_ite (canonical_ite (canonical_count hs2 _) ?_) h
  split
  · exact canonical_putEnt hs5 ..
  · exact canonical_freeEnt (canonical_detach hs3 ..) _
  · split
    · exact canonical_set hs3 ..
    · exact hs3

theorem canonical_execSchWrite {s : State} (h : s.Canonical) (fn : ℕ) : NextCanonical (execSchWrite fn s) := by
  unfold execSchWrite
  exact nextCanonical_next (canonical_schComplete h ..)

theorem canonical_execSchDelete {s : State} (h : s.Canonical) (fn : ℕ) : NextCanonical (execSchDelete fn s) := by
  unfold execSchDelete
  exact nextCanonical_next (canonical_schComplete h ..)

theorem canonical_execSchRead {s : State} (h : s.Canonical) (fn : ℕ) : NextCanonical (execSchRead fn s) := by
  unfold execSchRead
  exact nextCanonical_next (canonical_schComplete h ..)

theorem canonical_execSearchStart {s : State} (h : s.Canonical) : NextCanonical (execSearchStart s) := by
  unfold execSearchStart
  exact nextCanonical_next (canonical_awake h _ (fun u hu => canonical_searchStart hu _))

theorem canonical_execSearchAbort {s : State} (h : s.Canonical) : NextCanonical (execSearchAbort s) := by
  unfold execSearchAbort
  exact nextCanonical_next (canonical_awake h _ (fun u hu => canonical_searchStop hu))

theorem canonical_execGfeTransfer {s : State} (h : s.Canonical) (v : ℕ) : NextCanonical (execGfeTransfer v s) := by
  unfold execGfeTransfer
  exact nextCanonical_next (canonical_awake h _ (fun u hu => canonical_post hu ..))

theorem canonical_gfeDone {s : State} (h : s.Canonical) (rx : ℕ) : (s.gfeDone rx).Canonical := by
  unfold State.gfeDone
  split
  · extract_lets m v __src s1
    have hs1 : s1.Canonical := ⟨store_wf_put h.1 _ _, h.2⟩
    clear_value m v __src s1
    exact canonical_ite (canonical_set hs1 ..) hs1
  · exact h

theorem canonical_execGfeTransferDone {s : State} (h : s.Canonical) (rx : ℕ) : NextCanonical (execGfeTransferDone rx s) := by
  unfold execGfeTransferDone
  exact nextCanonical_next (canonical_gfeDone h _)

theorem canonical_execLoopGo {s : State} (h : s.Canonical) : NextCanonical (execLoopGo s) := by
  unfold execLoopGo
  exact nextCanonical_next (canonical_awake h _ (fun u hu => canonical_loopGo hu))

theorem canonical_execLoopAbort {s : State} (h : s.Canonical) : NextCanonical (execLoopAbort s) := by
  unfold execLoopAbort
  exact nextCanonical_next (canonical_awake h _ (fun u hu => canonical_loopAbort hu _))

theorem canonical_sent {s : State} (h : s.Canonical) (p len : ℕ) : (s.sent p len).Canonical := by
  unfold State.sent
  exact canonical_ethStat (canonical_ethStat h ..) ..

theorem canonical_loopLaunch {s : State} (h : s.Canonical) (r : LoopRun) (t p : ℕ) : (s.loopLaunch r t p).Canonical := by
  unfold State.loopLaunch
  extract_lets rate x l s1 s2 __src
  have hs1 : s1.Canonical := canonical_setPort h ..
  have hs2 : s2.Canonical := canonical_sent (canonical_emitOut hs1 _) ..
  clear_value rate x l s1 s2 __src
  split
  · exact canonical_upd hs2 (by rfl)
  · exact hs2

theorem canonical_loopFrames {s : State} (h : s.Canonical) : (s.loopFrames).Canonical := by
  unfold State.loopFrames
  split
  · refine canonical_ite ?_ h
    extract_lets t s1 s2 __src
    have hs1 : s1.Canonical := canonical_runTo h _
    have hs2 : s2.Canonical := canonical_loopLaunch (canonical_loopLaunch hs1 ..) ..
    clear_value t s1 s2 __src
    split
    · exact canonical_upd hs2 (by rfl)
    · exact hs2
  · exact h

theorem canonical_execLoopFrameLaunch {s : State} (h : s.Canonical) : NextCanonical (execLoopFrameLaunch s) := by
  unfold execLoopFrameLaunch
  exact nextCanonical_next (canonical_loopFrames h)

theorem canonical_loopEnd {s : State} (h : s.Canonical) : (s.loopEnd).Canonical := by
  unfold State.loopEnd
  split
  · refine canonical_ite ?_ h
    split
    · split
      · extract_lets __src s1 s2 s3 s4 s5 s6
        have hs1 : s1.Canonical := canonical_upd h (by rfl)
        have hs2 : s2.Canonical := canonical_set (canonical_set hs1 ..) ..
        have hs3 : s3.Canonical := canonical_setI (canonical_setI hs2 ..) ..
        have hs4 : s4.Canonical := canonical_set (canonical_set hs3 ..) ..
        have hs5 : s5.Canonical := canonical_set hs4 ..
        have hs6 : s6.Canonical := canonical_set (canonical_set hs5 ..) ..
        clear_value __src s1 s2 s3 s4 s5 s6
        exact canonical_count (canonical_count hs6 _) _
  · exact h

theorem canonical_execLoopRunEnd {s : State} (h : s.Canonical) : NextCanonical (execLoopRunEnd s) := by
  unfold execLoopRunEnd
  exact nextCanonical_next (canonical_loopEnd h)

theorem canonical_execLoopTimeout {s : State} (h : s.Canonical) : NextCanonical (execLoopTimeout s) := by
  unfold execLoopTimeout
  refine nextCanonical_next ?_
  split
  · exact canonical_ite (canonical_loopAbort (canonical_runTo h _) _) h
  · exact h

theorem canonical_execTatLoad {s : State} (h : s.Canonical) (base count : ℕ) : NextCanonical (execTatLoad base count s) := by
  unfold execTatLoad
  exact nextCanonical_next (canonical_awake h _ (fun u hu => canonical_tatGo (canonical_set (canonical_set hu ..) ..)))

theorem canonical_tatDone {s : State} (h : s.Canonical) (ents : List TatEnt) (ue : Option (ℕ × DramErr)) :
    (s.tatDone ents ue).Canonical := by
  unfold State.tatDone
  refine canonical_ite h ?_
  extract_lets n l
  clear_value n l
  split
  · rename_i x s1 bad? e
    have hs1 : s1.Canonical := canonical_fst (canonical_dramRead h _) e
    extract_lets ue1 bad s2 __src
    have hs2 : s2.Canonical := canonical_set hs1 ..
    clear_value ue1 bad s2 __src
    split
    · extract_lets s3
      have hs3 : s3.Canonical := by
        unfold s3
        split
        · exact canonical_ite (canonical_dramUe hs1 ..) hs1
        · exact hs1
      clear_value s3
      exact canonical_set (canonical_set (canonical_set hs3 ..) ..) ..
    · exact canonical_ite (canonical_upd hs2 (by rfl)) (canonical_upd hs2 (by rfl))

theorem canonical_execTatLoadDone {s : State} (h : s.Canonical) (ents : List TatEnt) (ue : Option (ℕ × DramErr)) :
    NextCanonical (execTatLoadDone ents ue s) := by
  unfold execTatLoadDone
  exact nextCanonical_next (canonical_tatDone h ..)

theorem canonical_execImagePush {s : State} (h : s.Canonical) (base len : ℕ) : NextCanonical (execImagePush base len s) := by
  unfold execImagePush
  exact nextCanonical_next (canonical_awake h _ (fun u hu => canonical_pushGo (canonical_set (canonical_set hu ..) ..)))

theorem canonical_stage {s : State} (h : s.Canonical) (img : Image) : (s.stage img).Canonical := by
  unfold State.stage
  extract_lets n __src s1
  have hs1 : s1.Canonical := canonical_upd h (by rfl)
  clear_value n __src s1
  refine canonical_foldl (fun u a hu => ?_) hs1
  extract_lets old __src1 s2
  have hs2 : s2.Canonical := canonical_upd hu (by rfl)
  clear_value old __src1 s2
  exact canonical_set (canonical_set hs2 ..) ..

theorem canonical_pushDone {s : State} (h : s.Canonical) (readOk : Bool) (img : Image) (vaultOk : Bool) :
    (s.pushDone readOk img vaultOk).Canonical := by
  unfold State.pushDone
  refine canonical_ite ?_ h
  extract_lets s1 r s2 __src
  have hs1 : s1.Canonical := canonical_set h ..
  have hs2 : s2.Canonical := canonical_loadResult hs1 ..
  clear_value s1 r s2 __src
  exact canonical_ite hs2 (canonical_ite (canonical_stage hs2 _) (canonical_ite (canonical_set (canonical_upd hs2 (by rfl))
      ..) (canonical_imageLive hs2 ..)))

theorem canonical_execImageCheckDone {s : State} (h : s.Canonical) (readOk : Bool) (img : Image) (vaultOk : Bool) :
    NextCanonical (execImageCheckDone readOk img vaultOk s) := by
  unfold execImageCheckDone
  exact nextCanonical_next (canonical_pushDone h ..)

theorem canonical_execSeamSend {s : State} (h : s.Canonical) (dst : ℕ) (bcast : Bool) (len : ℕ) :
    NextCanonical (execSeamSend dst bcast len s) := by
  unfold execSeamSend
  exact nextCanonical_next (canonical_awake h _ (fun u hu => canonical_ite (canonical_postLost hu _) (canonical_ite
      (canonical_flagErr hu ..) (canonical_seamSend (canonical_set (canonical_setB (canonical_set hu ..) ..) ..)))))

theorem canonical_execSeamRxAck {s : State} (h : s.Canonical) (mask : ℕ) : NextCanonical (execSeamRxAck mask s) := by
  unfold execSeamRxAck
  exact nextCanonical_next (canonical_awake h _ (fun u hu => canonical_ite (canonical_postLost hu _) (canonical_rxAck hu _)))

theorem canonical_execObsSmpCfgWrite {s : State} (h : s.Canonical) (j w v : ℕ) : NextCanonical (execObsSmpCfgWrite j w v s)
    := by
  unfold execObsSmpCfgWrite
  exact nextCanonical_next (canonical_awake h _ (fun u hu => canonical_smpWrite hu ..))

theorem canonical_execObsTrcCfgWrite {s : State} (h : s.Canonical) (w v : ℕ) : NextCanonical (execObsTrcCfgWrite w v s) := by
  unfold execObsTrcCfgWrite
  exact nextCanonical_next (canonical_awake h _ (fun u hu => canonical_trcWrite hu ..))

theorem canonical_strobeDue {s : State} (h : s.Canonical) : (s.strobeDue).Canonical := by
  unfold State.strobeDue
  exact canonical_ite h (canonical_hostStrobe (canonical_upd h (by rfl)) ..)

theorem canonical_execSchCongestedLate {s : State} (h : s.Canonical) (id : ℕ) : NextCanonical (execSchCongestedLate id s)
    := by
  unfold execSchCongestedLate
  refine nextCanonical_next (canonical_strobeDue ?_)
  split
  · extract_lets due at_ s1 missed p __src l s2 __src1
    have hat_ : at_.Canonical := canonical_runTo h _
    have hs1 : s1.Canonical := hat_
    have hs2 : s2.Canonical := canonical_ite (canonical_advanceEnt hs1 _) (canonical_ite (canonical_freeEnt hs1 _)
        (canonical_putEnt hs1 ..))
    clear_value due at_ s1 missed p __src l s2 __src1
    exact canonical_ite (canonical_flushLate (canonical_upd hs2 (by rfl))) h
  · exact h

theorem canonical_cellOut {s : State} (h : s.Canonical) (l : ℕ) (c : GCell) : (s.cellOut l c).Canonical := by
  unfold State.cellOut
  extract_lets x pl c1 s1
  have hs1 : s1.Canonical := canonical_setLink h ..
  clear_value x pl c1 s1
  exact canonical_count (canonical_emitOut hs1 _) _

theorem canonical_sendCell {s : State} (h : s.Canonical) (l typ payload : ℕ) : (s.sendCell l typ payload).Canonical := by
  unfold State.sendCell
  extract_lets x c
  clear_value x c
  exact canonical_ite (canonical_ite (canonical_add h ..) h) (canonical_ite (canonical_cellOut h ..) (canonical_setLink h ..))

theorem canonical_sendStream {s : State} (h : s.Canonical) (l kind flags len j body : ℕ) :
    (s.sendStream l kind flags len j body).Canonical := by
  unfold State.sendStream
  extract_lets h1 crc s1
  have hs1 : s1.Canonical := canonical_sendCell h ..
  clear_value h1 crc s1
  exact canonical_foldl (fun u a hu => canonical_sendCell hu ..) hs1

theorem canonical_sendIngot {s : State} (h : s.Canonical) : (s.sendIngot).Canonical := by
  unfold State.sendIngot
  split
  · extract_lets d n state j flags body s1 seq __src
    have hs1 : s1.Canonical := canonical_sendStream (canonical_draw h) ..
    clear_value d n state j flags body s1 seq __src
    exact canonical_count (canonical_upd hs1 (by rfl)) _
  · exact h

theorem canonical_ingotCopy {s : State} (h : s.Canonical) (ue : Option DramErr) : (s.ingotCopy ue).Canonical := by
  unfold State.ingotCopy
  refine canonical_ite ?_ h
  split
  · rename_i x s1 bad? e
    have hs1 : s1.Canonical := canonical_fst (canonical_dramRead h _) e
    split
    · refine canonical_settleDiag ?_ _
      extract_lets __src __src1
      have h__src : __src.Canonical := canonical_dramUe hs1 ..
      clear_value __src __src1
      exact canonical_upd h__src (by rfl)
    · exact canonical_sendIngot hs1

theorem canonical_judgeMinority {s : State} (h : s.Canonical) : (s.judgeMinority).Canonical := by
  unfold State.judgeMinority
  extract_lets d named against n a now s1
  have hs1 : s1.Canonical := canonical_set h ..
  clear_value d named against n a now s1
  exact canonical_ite hs1 (canonical_pairSettle (canonical_pevent (canonical_setB hs1 ..) ..) _)

theorem canonical_frameEnd {s : State} (h : s.Canonical) : (s.frameEnd).Canonical := by
  unfold State.frameEnd
  extract_lets x h1 s1 s2 mis s3 x1 x2 s4
  have hs1 : s1.Canonical := canonical_foldl (fun u a hu => canonical_ite (canonical_set hu ..) (canonical_set hu ..)) h
  have hs2 : s2.Canonical := canonical_set hs1 ..
  have hs3 : s3.Canonical := canonical_ite (canonical_count hs2 _) hs2
  have hs4 : s4.Canonical := canonical_upd hs3 (by rfl)
  clear_value x h1 s1 s2 mis s3 x1 x2 s4
  exact canonical_judgeMinority hs4

theorem canonical_ownReport {s : State} (h : s.Canonical) (t : ℕ) : (s.ownReport t).Canonical := by
  unfold State.ownReport
  extract_lets page m __src
  exact canonical_ite (canonical_upd h (by rfl)) (canonical_emitOut h _)

theorem canonical_seamFrame {s : State} (h : s.Canonical) (conflict : Bool) : (s.seamFrame conflict).Canonical := by
  unfold State.seamFrame
  refine canonical_ite h ?_
  extract_lets s1 t jump __src s2 s3 s4 s5
  have hs1 : s1.Canonical := canonical_ite (canonical_frameEnd h) h
  have hs2 : s2.Canonical := canonical_upd hs1 (by rfl)
  have hs3 : s3.Canonical := by
    unfold s3
    split
    · exact canonical_rollStart hs2 ..
    · exact hs2
  have hs4 : s4.Canonical := canonical_set hs3 ..
  have hs5 : s5.Canonical := canonical_ownReport hs4 _
  clear_value s1 t jump __src s2 s3 s4 s5
  exact canonical_ite (canonical_srcAnomaly (canonical_set hs5 ..) _) (canonical_set hs5 ..)

theorem canonical_launchCycle {s : State} (h : s.Canonical) (p : ℕ) : (s.launchCycle p).Canonical := by
  unfold State.launchCycle
  extract_lets x
  clear_value x
  exact canonical_setPort h ..

theorem canonical_gEdge {s : State} (h : s.Canonical) (o : ℕ) (active : Bool) (t : ℕ × ℕ) : (s.gEdge o active t).Canonical
    := by
  unfold State.gEdge
  exact canonical_padOut h ..

theorem canonical_goutEdge {s : State} (h : s.Canonical) (g kind : ℕ) (t : ℕ × ℕ) : (s.goutEdge g kind t).Canonical := by
  unfold State.goutEdge
  extract_lets o mode x e fin
  clear_value o mode x e fin
  exact canonical_ite h (canonical_ite (canonical_ite (canonical_gEdge (canonical_setPin h ..) ..) (canonical_ite
      (canonical_gEdge (canonical_setPin h ..) ..) h)) (canonical_ite (canonical_ite (canonical_gEdge (canonical_setPin h
          ..) ..) (canonical_ite (canonical_gEdge (canonical_setPin h ..) ..) (canonical_ite (canonical_count
              (canonical_add (canonical_setPin h ..) ..) _) (canonical_gEdge (canonical_setPin h ..) ..)))) h))

theorem canonical_gateEnd {s : State} (h : s.Canonical) (ch : ℕ) (long : Bool) : (s.gateEnd ch long).Canonical := by
  unfold State.gateEnd
  extract_lets x
  clear_value x
  exact canonical_gateClose (canonical_ite (canonical_setTic h ..) h) ..

theorem canonical_gateOpen {s : State} (h : s.Canonical) (ch : ℕ) (start : ℤ) : (s.gateOpen ch start).Canonical := by
  unfold State.gateOpen
  extract_lets es s1 g __src
  have hs1 : s1.Canonical := canonical_gateEnd h ..
  clear_value es s1 g __src
  exact canonical_ite (canonical_setTic hs1 ..) hs1

theorem canonical_calOpen {s : State} (h : s.Canonical) (ch : ℕ) (cdc : Bool) (retry : ℕ) : (s.calOpen ch cdc
    retry).Canonical := by
  unfold State.calOpen
  extract_lets x s1 s2
  have hs1 : s1.Canonical := canonical_setTic h ..
  have hs2 : s2.Canonical := canonical_set (canonical_set hs1 ..) ..
  clear_value x s1 s2
  exact canonical_ite (canonical_set h ..) (canonical_tcnt hs2 ..)

theorem canonical_cdcWindow {s : State} (h : s.Canonical) (ch : ℕ) : (s.cdcWindow ch).Canonical := by
  unfold State.cdcWindow
  exact canonical_ite (canonical_calOpen h ..) h

theorem canonical_pathWindow {s : State} (h : s.Canonical) (ch at_ : ℕ) : (s.pathWindow ch at_).Canonical := by
  unfold State.pathWindow
  refine canonical_ite h ?_
  extract_lets __src s1 s2 __src1
  have hs1 : s1.Canonical := canonical_ite h (canonical_setTic h ..)
  have hs2 : s2.Canonical := canonical_calOpen hs1 ..
  clear_value __src s1 s2 __src1
  exact canonical_ite (canonical_setTic hs2 ..) hs2

theorem canonical_takeDispatch {s : State} (h : s.Canonical) (due : ℤ) : (s.takeDispatch due).Canonical := by
  unfold State.takeDispatch
  exact canonical_upd h (by rfl)

theorem canonical_acted {s : State} (h : s.Canonical) (o : State.Occ) : (s.acted o).Canonical := by
  unfold State.acted
  exact canonical_tcount (canonical_count (canonical_clearOwned (canonical_advanceEnt (canonical_takeDispatch h _) _) _) _) ..

theorem canonical_shadowsAfter {s old : State} (h : s.Canonical) (h2 : old.Canonical) : (s.shadowsAfter old).Canonical := by
  unfold State.shadowsAfter
  exact canonical_ite (canonical_upd h (by rfl)) h

theorem canonical_shadowsBefore {s : State} (h : s.Canonical) : (s.shadowsBefore).Canonical := by
  unfold State.shadowsBefore
  exact canonical_ite (canonical_upd h (by rfl)) h

theorem canonical_schStrobe {s : State} (h : s.Canonical) (arg also : ℕ) (ues : List (ℕ × DramErr)) :
    (s.schStrobe arg also ues).Canonical := by
  unfold State.schStrobe
  extract_lets more upd groups s1 __src s2 s3 __src1
  have hs1 : s1.Canonical := canonical_foldl (fun u a hu => canonical_acted hu _) h
  have hs2 : s2.Canonical := canonical_upd hs1 (by rfl)
  have hs3 : s3.Canonical := canonical_shadowsAfter (canonical_strobe (canonical_shadowsBefore hs2) ..) hs2
  clear_value more upd groups s1 __src s2 s3 __src1
  exact canonical_upd hs3 (by rfl)

theorem canonical_genRecord {s : State} (h : s.Canonical) (r outcome : ℕ) : (s.genRecord r outcome).Canonical := by
  unfold State.genRecord
  extract_lets p
  clear_value p
  exact canonical_trace (canonical_pevent (canonical_set h ..) ..) ..

theorem canonical_genUe {s : State} (h : s.Canonical) (r : ℕ) (u : DramErr) : (s.genUe r u).Canonical := by
  unfold State.genUe
  extract_lets s1 __src s2
  have hs1 : s1.Canonical := canonical_dramUe h ..
  have hs2 : s2.Canonical := canonical_upd hs1 (by rfl)
  clear_value s1 __src s2
  exact canonical_genRecord (canonical_set (canonical_set hs2 ..) ..) ..

theorem canonical_holdSwap {s : State} (h : s.Canonical) (r : ℕ) : (s.holdSwap r).Canonical := by
  unfold State.holdSwap
  extract_lets x
  exact canonical_ite (canonical_setEngine h _ _ (dm_engine_wf h _) (live_engine_wf h _) (idle_engine_wf h _)) h

theorem canonical_advanceDigest {s : State} (h : s.Canonical) (x : Staged) : (s.advanceDigest x).Canonical := by
  unfold State.advanceDigest
  refine canonical_ite h ?_
  extract_lets __src s1
  have hs1 : s1.Canonical := canonical_upd h (by rfl)
  clear_value __src s1
  exact canonical_set hs1 ..

theorem canonical_genSwitch {s : State} (h : s.Canonical) (r : ℕ) (ue : Option DramErr) : (s.genSwitch r ue).Canonical := by
  unfold State.genSwitch
  extract_lets st
  clear_value st
  split
  · refine canonical_ite (canonical_genRecord h ..) (canonical_ite (canonical_genRecord h ..) ?_)
    split
    · rename_i x s1 bad? e
      have hs1 : s1.Canonical := canonical_fst (canonical_dramRead h _) e
      split
      · exact canonical_genUe hs1 ..
      · extract_lets __src s2 s3 s4
        have hs2 : s2.Canonical := canonical_upd hs1 (by rfl)
        have hs3 : s3.Canonical := canonical_set (canonical_set (canonical_set hs2 ..) ..) ..
        have hs4 : s4.Canonical := canonical_count (canonical_add (canonical_set hs3 ..) ..) _
        clear_value __src s2 s3 s4
        exact canonical_holdSwap (canonical_genRecord (canonical_advanceDigest hs4 _) ..) _
  · exact canonical_genRecord h ..

theorem canonical_setBoth {s : State} (h : s.Canonical) (f : Fld) (v : ℕ) : (s.setBoth f v).Canonical := by
  unfold State.setBoth
  extract_lets s1
  have hs1 : s1.Canonical := canonical_set h ..
  clear_value s1
  split
  · extract_lets old
    clear_value old
    exact canonical_upd hs1 (by rfl)
  · exact hs1

theorem canonical_rotateKey {s : State} (h : s.Canonical) (t k : ℕ) : (s.rotateKey t k).Canonical := by
  unfold State.rotateKey
  extract_lets s1 ok slot cur __src s2 s3 s4 s5 s6 s7 s8 id p s9
  have hs1 : s1.Canonical := canonical_tagHmk h
  have hs2 : s2.Canonical := canonical_upd hs1 (by rfl)
  have hs3 : s3.Canonical := canonical_set hs2 ..
  have hs4 : s4.Canonical := canonical_set hs3 ..
  have hs5 : s5.Canonical := canonical_set (canonical_set hs4 ..) ..
  have hs6 : s6.Canonical := canonical_set (canonical_set hs5 ..) ..
  have hs7 : s7.Canonical := canonical_add (canonical_setBoth hs6 ..) ..
  have hs8 : s8.Canonical := canonical_ite (canonical_count hs7 _) hs1
  have hs9 : s9.Canonical := canonical_pevent hs8 ..
  clear_value s1 ok slot cur __src s2 s3 s4 s5 s6 s7 s8 id p s9
  exact canonical_ite hs9 (canonical_event hs9 ..)

theorem canonical_keyRotate {s : State} (h : s.Canonical) (arg : ℕ) : (s.keyRotate arg).Canonical := by
  unfold State.keyRotate
  exact canonical_ite (canonical_rotateKey h ..) h

theorem canonical_swapDrill {s : State} (h : s.Canonical) : (s.swapDrill).Canonical := by
  unfold State.swapDrill
  refine canonical_ite h (canonical_ite ?_ (canonical_upd h (by rfl)))
  extract_lets peer __src
  clear_value peer __src
  exact canonical_ite (canonical_set (canonical_upd h (by rfl)) ..) (canonical_drillEnd h ..)

theorem canonical_gnsEpoch {s : State} (h : s.Canonical) (caps : List GnsCap) : (s.gnsEpoch caps).Canonical := by
  unfold State.gnsEpoch
  split
  · exact h
  extract_lets soon b n s0 s1 s2 s3 s4 __src
  have hs1 : s1.Canonical := canonical_foldl (fun u a hu => canonical_set hu ..) h
  have hs2 : s2.Canonical := canonical_foldl (fun u a hu => canonical_ite (canonical_setGnsCh hu ..) hu) hs1
  have hs3 : s3.Canonical := canonical_set (canonical_set (canonical_add (canonical_set hs2 ..) ..) ..) ..
  have hs4 : s4.Canonical := canonical_count (canonical_setB hs3 ..) _
  cases soon
  · exact canonical_gns hs4 _
  · exact canonical_count (canonical_add h ..) _

theorem canonical_wakeEngine {s : State} (h : s.Canonical) (e code : ℕ) : (s.wakeEngine e code).Canonical := by
  unfold State.wakeEngine
  refine canonical_ite h ?_
  extract_lets x
  exact canonical_ite (canonical_add h ..) (canonical_ite h (canonical_setEngine h _ _ (dm_engine_wf h _) (live_engine_wf h
      _) (idle_engine_wf h _)))

theorem canonical_planishWake {s : State} (h : s.Canonical) (arg : ℕ) : (s.planishWake arg).Canonical := by
  unfold State.planishWake
  exact canonical_wakeEngine h ..

theorem canonical_gflTime {s : State} (h : s.Canonical) (l epoch : ℕ) : (s.gflTime l epoch).Canonical := by
  unfold State.gflTime
  extract_lets per
  clear_value per
  exact canonical_ite (canonical_sendCell h ..) h

theorem canonical_burstStart {s : State} (h : s.Canonical) : (s.burstStart).Canonical := by
  unfold State.burstStart
  extract_lets __src s1
  have hs1 : s1.Canonical := canonical_upd h (by rfl)
  clear_value __src s1
  exact canonical_foldl (fun u a hu => canonical_ite (canonical_chRequest hu ..) hu) hs1

theorem canonical_burstEnd {s : State} (h : s.Canonical) : (s.burstEnd).Canonical := by
  unfold State.burstEnd
  extract_lets __src s1
  have hs1 : s1.Canonical := canonical_upd h (by rfl)
  clear_value __src s1
  exact canonical_foldl (fun u a hu => canonical_ite (canonical_chRequest hu ..) hu) hs1

theorem canonical_gnsBurst {s : State} (h : s.Canonical) : (s.gnsBurst).Canonical := by
  unfold State.gnsBurst
  refine canonical_ite h ?_
  extract_lets m __src s1 d
  have hs1 : s1.Canonical := canonical_ite (canonical_dormantChanged (canonical_upd h (by rfl))) h
  clear_value m __src s1 d
  exact canonical_ite (canonical_ite (canonical_burstStart hs1) (canonical_ite (canonical_burstEnd hs1) hs1))
      (canonical_foldl (fun u a hu => canonical_ite (canonical_chRequest hu ..) hu) hs1)

theorem canonical_lateAct {s : State} (h : s.Canonical) (e : SchEnt) (d : ℕ) (caps : List GnsCap) (ue : Option DramErr)
    (ues : List (ℕ × DramErr)) (conflict : Bool) :
    (s.lateAct e d caps ue ues conflict).Canonical := by
  unfold State.lateAct
  extract_lets ch t
  clear_value ch t
  split
  · exact canonical_ingotCopy h _
  · exact canonical_seamFrame h _
  · exact canonical_launchCycle h _
  · exact canonical_goutEdge h ..
  · exact canonical_ite (canonical_gateEnd h ..) (canonical_gateOpen h ..)
  · exact canonical_ite (canonical_cdcWindow h _) (canonical_pathWindow h ..)
  · exact canonical_schStrobe h ..
  · exact canonical_genSwitch h ..
  · exact canonical_keyRotate h _
  · exact canonical_swapDrill h
  · exact canonical_gnsEpoch h _
  · exact canonical_planishWake h _
  · exact canonical_gflTime h ..
  · exact canonical_gnsBurst h
  · exact h

theorem canonical_lateFire {s : State} (h : s.Canonical) (caps : List GnsCap) (ue : Option DramErr) (ues : List (ℕ ×
    DramErr)) (conflict : Bool) :
    (s.lateFire caps ue ues conflict).Canonical := by
  unfold State.lateFire
  split
  · exact canonical_flushLate h
  · extract_lets __src __src1 s1 s2 __src2 s3 __src3 same d s4
    have h__src : __src.Canonical := canonical_flushLate h
    have hs1 : s1.Canonical := canonical_upd h__src (by rfl)
    have hs2 : s2.Canonical := canonical_advance hs1 _
    have hs3 : s3.Canonical := canonical_upd hs2 (by rfl)
    have hs4 : s4.Canonical := canonical_advance (canonical_lateRecord hs3 _) _
    clear_value __src __src1 s1 s2 __src2 s3 __src3 same d s4
    exact canonical_ite (canonical_flushLate (canonical_lateRecord (canonical_ite (canonical_freeEnt hs3 _) hs3) _))
        (canonical_flushLate (canonical_lateAct (canonical_tcount (canonical_count hs4 _) ..) ..))

theorem canonical_execLateFireDispatch {s : State} (h : s.Canonical) (caps : List GnsCap) (ue : Option DramErr) (ues : List
    (ℕ × DramErr)) (conflict : Bool) :
    NextCanonical (execLateFireDispatch caps ue ues conflict s) := by
  unfold execLateFireDispatch
  exact nextCanonical_next (canonical_lateFire h ..)

theorem canonical_upset {s : State} (h : s.Canonical) (r : ℕ) (d : ℤ) : (s.upset r d).Canonical := by
  unfold State.upset
  exact canonical_upd h (by rfl)

theorem canonical_anomalyBy {s : State} (h : s.Canonical) (r c tick : ℕ) (m : Option (ℤ × ℕ)) : (s.anomalyBy r c tick
    m).Canonical := by
  unfold State.anomalyBy
  refine canonical_ite h ?_
  extract_lets x s1 s2 s3 __src
  have hs1 : s1.Canonical := canonical_setRef h ..
  have hs2 : s2.Canonical := canonical_count hs1 _
  have hs3 : s3.Canonical := canonical_set hs2 ..
  clear_value x s1 s2 s3 __src
  split
  · exact canonical_setRef (canonical_setTimer hs3 ..) ..
  · exact canonical_setTimer hs3 ..
  · exact hs3

theorem canonical_anomalyAt {s : State} (h : s.Canonical) (r c tick : ℕ) : (s.anomalyAt r c tick).Canonical := by
  unfold State.anomalyAt
  exact canonical_anomalyBy h ..

theorem canonical_anomaly {s : State} (h : s.Canonical) (r c : ℕ) : (s.anomaly r c).Canonical := by
  unfold State.anomaly
  exact canonical_anomalyAt h ..

theorem canonical_tryLeave {x1 : State} (h : x1.Canonical) (x0 : List ℕ) : (State.tryLeave x0 x1).1.Canonical := by
  induction x0 generalizing x1 with
  | nil => exact h
  | cons r l ih =>
    have ha : (State.anomaly { x1 with tsk := { x1.tsk with behind := r :: x1.tsk.behind } } r 0).Canonical :=
      canonical_anomaly (canonical_tsk h _) ..
    unfold State.tryLeave
    split
    · rename_i a _
      have hl : (x1.leaveProv a.toNat r).1.Canonical := canonical_leaveProv h ..
      split
      · generalize x1.leaveProv a.toNat r = q at hl ⊢
        exact hl
      split
      · exact ih h
      · exact ih ha
    · exact ih h

theorem canonical_boundaryProv {s : State} (h : s.Canonical) : (s.boundaryProv).1.Canonical := by
  unfold State.boundaryProv
  split
  · extract_lets l __src s1
    have hs1 : s1.Canonical := canonical_upd h (by rfl)
    clear_value l __src s1
    split
    · rename_i x s2 r c e
      have hs2 : s2.Canonical := canonical_fst (canonical_tryLeave hs1 _) e
      extract_lets __src1 s3 __src2
      have hs3 : s3.Canonical := canonical_ite (canonical_set (canonical_set (canonical_upd hs2 (by rfl)) ..) ..) hs2
      clear_value __src1 s3 __src2
      exact canonical_holdTag (canonical_upd hs3 (by rfl)) _
    · rename_i x s2 c e
      have hs2 : s2.Canonical := canonical_fst (canonical_tryLeave hs1 _) e
      exact hs2
  · exact h

theorem canonical_tempLost {s : State} (h : s.Canonical) : (s.tempLost).Canonical := by
  unfold State.tempLost
  exact canonical_set (canonical_upd h (by rfl)) ..

theorem canonical_evalState {s : State} (h : s.Canonical) (moved : Bool) (tebEntry : ℕ) : (s.evalState moved
    tebEntry).1.Canonical := by
  unfold State.evalState
  extract_lets old oact cause __src s1 s2 s3 new act s4
  have hs1 : s1.Canonical := canonical_upd h (by rfl)
  have hs2 : s2.Canonical := canonical_setB hs1 ..
  have hs3 : s3.Canonical := canonical_ite (canonical_tempLost hs2) hs2
  have hs4 : s4.Canonical := canonical_enterState hs3 ..
  clear_value old oact cause __src s1 s2 s3 new act s4
  exact hs4

theorem canonical_armedStep {s : State} (h : s.Canonical) (c : ℤ) (clock : ℕ) : (s.armedStep c clock).Canonical := by
  unfold State.armedStep
  extract_lets t0 s1 __src s2 s3 s4 s5
  have hs1 : s1.Canonical := canonical_forwardJump (canonical_moveCore h _) ..
  have hs2 : s2.Canonical := canonical_upd hs1 (by rfl)
  have hs3 : s3.Canonical := canonical_set (canonical_set hs2 ..) ..
  have hs4 : s4.Canonical := canonical_set (canonical_setI hs3 ..) ..
  have hs5 : s5.Canonical := canonical_set (canonical_formPhase hs4) ..
  clear_value t0 s1 __src s2 s3 s4 s5
  exact canonical_corrRecord (canonical_count hs5 _) ..

theorem canonical_refuseJump {s : State} (h : s.Canonical) (c : ℤ) (clock ref : ℕ) : (s.refuseJump c clock ref).Canonical
    := by
  unfold State.refuseJump
  extract_lets s1 s2
  have hs1 : s1.Canonical := canonical_setI (canonical_addSat h ..) ..
  have hs2 : s2.Canonical := canonical_count (canonical_set hs1 ..) _
  clear_value s1 s2
  exact canonical_anomaly (canonical_corrRecord hs2 ..) ..

theorem canonical_propose {s : State} (h : s.Canonical) : (s.propose).Canonical := by
  unfold State.propose
  refine canonical_ite ?_ h
  extract_lets c clock ref h1 __src s1 s2
  have hs1 : s1.Canonical := canonical_count (canonical_upd h (by rfl)) _
  have hs2 : s2.Canonical := canonical_ite (canonical_addSat hs1 ..) hs1
  clear_value c clock ref h1 __src s1 s2
  exact canonical_ite (canonical_armedStep hs1 ..) (canonical_ite (canonical_refuseJump hs2 ..) (canonical_acceptAnneal
      (canonical_set hs2 ..) ..))

theorem canonical_lolBoundary {s : State} (h : s.Canonical) (t0 : ℕ) : (s.lolBoundary t0).Canonical := by
  unfold State.lolBoundary
  extract_lets done __src
  clear_value done __src
  exact canonical_ite (canonical_upd h (by rfl)) (canonical_ite (canonical_upd h (by rfl)) (canonical_upd h (by rfl)))

theorem canonical_floorEnds {s : State} (h : s.Canonical) : (s.floorEnds).Canonical := by
  unfold State.floorEnds
  exact canonical_ite (canonical_upd h (by rfl)) h

theorem canonical_ensemble {s : State} (h : s.Canonical) : (s.ensemble).Canonical := by
  unfold State.ensemble
  refine canonical_foldl (fun u a hu => ?_) h
  extract_lets s1 d s2 s3
  have hs1 : s1.Canonical := canonical_setB hu ..
  have hs2 : s2.Canonical := canonical_setI (canonical_setI hs1 ..) ..
  have hs3 : s3.Canonical := canonical_set (canonical_setI hs2 ..) ..
  clear_value s1 d s2 s3
  exact canonical_ite (canonical_addSat hs1 ..) (canonical_draw (canonical_set hs3 ..))

theorem canonical_drive {s : State} (h : s.Canonical) : (s.drive).Canonical := by
  unfold State.drive
  extract_lets st s1 f __src s2 s3
  have hs1 : s1.Canonical := canonical_driveFreq h
  have hs2 : s2.Canonical := canonical_upd hs1 (by rfl)
  have hs3 : s3.Canonical := canonical_ite (canonical_set hs2 ..) hs2
  clear_value st s1 f __src s2 s3
  exact canonical_ite (canonical_count hs3 _) hs3

theorem canonical_kernelTick {s : State} (h : s.Canonical) : (s.kernelTick).Canonical := by
  unfold State.kernelTick
  extract_lets t0 __src s1
  have hs1 : s1.Canonical := canonical_upd h (by rfl)
  clear_value t0 __src s1
  split
  · rename_i x s2 moved teb cancel e
    have hs2 : s2.Canonical := canonical_fst (canonical_boundaryProv hs1) e
    split
    · rename_i x1 s3 k e1
      have hs3 : s3.Canonical := canonical_fst (canonical_evalState hs2 ..) e1
      extract_lets s4 s5 s6 s7
      have hs4 : s4.Canonical := canonical_formPhase hs3
      have hs5 : s5.Canonical := by
        unfold s5
        split
        · exact canonical_kstateRecord hs4 ..
        · exact hs4
      have hs6 : s6.Canonical := canonical_propose hs5
      have hs7 : s7.Canonical := by
        unfold s7
        split
        · exact canonical_corrRecord hs6 ..
        · exact hs6
      clear_value s4 s5 s6 s7
      exact canonical_boundaryTeb (canonical_lolBoundary (canonical_floorEnds (canonical_ensemble (canonical_drive hs7))) _)

theorem canonical_statusRecord {s : State} (h : s.Canonical) (old seq : ℕ) : (s.statusRecord old seq).Canonical := by
  unfold State.statusRecord
  extract_lets new
  clear_value new
  exact canonical_ite h (canonical_pevent h ..)

theorem canonical_discardIngot {s : State} (h : s.Canonical) (seq : ℕ) : (s.discardIngot seq).Canonical := by
  unfold State.discardIngot
  extract_lets old n s1 __src s2 __src1 s3
  have hs1 : s1.Canonical := canonical_count (canonical_add h ..) _
  have hs2 : s2.Canonical := canonical_set (canonical_pair hs1 _) ..
  have hs3 : s3.Canonical := canonical_ite (canonical_set (canonical_pair hs2 _) ..) hs2
  clear_value old n s1 __src s2 __src1 s3
  exact canonical_statusRecord hs3 ..

theorem canonical_pairBefore {s : State} (h : s.Canonical) : (s.pairBefore).Canonical := by
  unfold State.pairBefore
  refine canonical_ite h ?_
  extract_lets s1 __src s2 s3 __src1 s4 __src2
  have hs1 : s1.Canonical := canonical_set h ..
  have hs2 : s2.Canonical := canonical_upd hs1 (by rfl)
  have hs3 : s3.Canonical := canonical_ite (canonical_discardIngot hs2 _) hs2
  have hs4 : s4.Canonical := canonical_pairSettle (canonical_upd hs3 (by rfl)) _
  clear_value s1 __src s2 s3 __src1 s4 __src2
  split
  · exact canonical_upd hs4 (by rfl)
  · exact hs4

theorem canonical_absentLoss {s : State} (h : s.Canonical) (r : ℕ) : (s.absentLoss r).Canonical := by
  unfold State.absentLoss
  refine canonical_ite h ?_
  extract_lets x s1
  have hs1 : s1.Canonical := canonical_setRef h ..
  clear_value x s1
  exact canonical_ite (canonical_ite h (canonical_ite hs1 (canonical_anomaly hs1 ..))) (canonical_ite (canonical_setRef h
      ..) h)

theorem canonical_evalRef {s : State} (h : s.Canonical) (r : ℕ) : (s.evalRef r).Canonical := by
  unfold State.evalRef
  extract_lets __src s1 st n x hit s2 b s3 s4
  have hs1 : s1.Canonical := by
    unfold s1
    split
    · exact canonical_refRecord (canonical_setRef h ..) ..
    · exact h
  have hs2 : s2.Canonical := canonical_foldl (fun u a hu => canonical_set hu ..) hs1
  have hs3 : s3.Canonical := canonical_ite (canonical_set hs2 ..) hs2
  have hs4 : s4.Canonical := canonical_ite (canonical_setRef hs2 ..) hs2
  clear_value __src s1 st n x hit s2 b s3 s4
  refine canonical_ite hs1 ?_
  split
  · exact canonical_refMove (canonical_set hs3 ..) ..
  · exact canonical_ite hs4 (canonical_setTimer hs4 ..)

theorem canonical_srcRecord {s : State} (h : s.Canonical) (i old new cause : ℕ) : (s.srcRecord i old new cause).Canonical
    := by
  unfold State.srcRecord
  extract_lets p
  clear_value p
  exact canonical_trace (canonical_pevent (canonical_count h _) ..) ..

theorem canonical_evalSrc {s : State} (h : s.Canonical) (i : ℕ) : (s.evalSrc i).Canonical := by
  unfold State.evalSrc
  extract_lets __src s1 n l win cnt s2 s3 s4
  have hs1 : s1.Canonical := canonical_ite (canonical_srcRecord (canonical_upd h (by rfl)) ..) h
  have hs2 : s2.Canonical := canonical_set hs1 ..
  have hs3 : s3.Canonical := canonical_set (canonical_set hs2 ..) ..
  have hs4 : s4.Canonical := canonical_ite (canonical_set hs3 ..) hs3
  clear_value __src s1 n l win cnt s2 s3 s4
  exact canonical_ite (canonical_ite hs2 (canonical_set hs2 ..)) (canonical_ite (canonical_srcRecord hs4 ..) hs2)

theorem canonical_setRanks {x1 : State} (h : x1.Canonical) (f : ℕ → Fld) (x2 : List ℕ) (x3 : ℕ) :
    (State.setRanks f x1 x2 x3).Canonical := by
  induction x2 generalizing x1 x3 with
  | nil => exact h
  | cons r l ih => exact ih (canonical_set h ..) _

theorem canonical_evalClock {s : State} (h : s.Canonical) (c : ℕ) : (s.evalClock c).Canonical := by
  unfold State.evalClock
  extract_lets l ph fr s1 s2 s3
  have hs1 : s1.Canonical := canonical_setRanks h ..
  have hs2 : s2.Canonical := canonical_set (canonical_set hs1 ..) ..
  have hs3 : s3.Canonical := canonical_setB (canonical_setB hs2 ..) ..
  clear_value l ph fr s1 s2 s3
  exact canonical_set hs3 ..

theorem canonical_assayRank {s : State} (h : s.Canonical) : (s.assayRank).Canonical := by
  unfold State.assayRank
  extract_lets s1 s2 order s3 s4 s5 s6 top prev s7 p
  have hs1 : s1.Canonical := canonical_foldl (fun u a hu => canonical_set (canonical_set hu ..) ..) h
  have hs2 : s2.Canonical := canonical_foldl (fun u a hu => canonical_evalClock hu _) hs1
  have hs3 : s3.Canonical := canonical_foldl (fun u a hu => canonical_set (canonical_set hu ..) ..) hs2
  have hs4 : s4.Canonical := canonical_setRanks hs3 ..
  have hs5 : s5.Canonical := by
    unfold s5
    split
    · exact canonical_set hs4 ..
    · exact hs4
  have hs6 : s6.Canonical := canonical_setB hs5 ..
  have hs7 : s7.Canonical := canonical_set hs6 ..
  clear_value s1 s2 order s3 s4 s5 s6 top prev s7 p
  exact canonical_ite hs6 (canonical_trace (canonical_pevent (canonical_count hs7 _) ..) ..)

theorem canonical_assayEvaluate {s : State} (h : s.Canonical) : (s.assayEvaluate).Canonical := by
  unfold State.assayEvaluate
  extract_lets s1 s2 s3
  have hs1 : s1.Canonical := canonical_foldl (fun u a hu => canonical_absentLoss hu _) h
  have hs2 : s2.Canonical := canonical_foldl (fun u a hu => canonical_evalRef hu _) hs1
  have hs3 : s3.Canonical := canonical_foldl (fun u a hu => canonical_evalSrc hu _) hs2
  clear_value s1 s2 s3
  exact canonical_assayRank hs3

theorem canonical_replicaCheck {s : State} (h : s.Canonical) : (s.replicaCheck).Canonical := by
  unfold State.replicaCheck
  extract_lets n __src
  clear_value n __src
  exact canonical_foldl (fun u a hu => canonical_srcAnomaly (canonical_count hu _) _) (canonical_upd h (by rfl))

theorem canonical_predict {s : State} (h : s.Canonical) (r at_ : ℕ) : (s.predict r at_).2.Canonical := by
  unfold State.predict
  extract_lets l own k
  clear_value l own k
  split
  · exact canonical_draw h
  · split
    · extract_lets dt adv
      clear_value dt adv
      exact h
    · exact canonical_draw h

theorem canonical_accept {s : State} (h : s.Canonical) (m : Meas) (off e : ℤ) : (s.accept m off e).Canonical := by
  unfold State.accept
  extract_lets x s1 bd __src s2 __src1 s3 free
  have hs1 : s1.Canonical := canonical_setRef h ..
  have hs2 : s2.Canonical := canonical_setRef hs1 ..
  have hs3 : s3.Canonical := by
    unfold s3
    split
    · exact canonical_ite (canonical_upd hs2 (by rfl)) hs2
    · exact hs2
  clear_value x s1 bd __src s2 __src1 s3 free
  split
  · refine canonical_ite (canonical_foldl (fun u a hu => ?_) hs3) hs3
    extract_lets l __src2
    clear_value l __src2
    exact canonical_upd hu (by rfl)
  · exact hs3

theorem canonical_judgeOutlier {s : State} (h : s.Canonical) (m : Meas) (off e : ℤ) (b : ℕ) : (s.judgeOutlier m off e
    b).Canonical := by
  unfold State.judgeOutlier
  extract_lets r k x inside s1
  have hs1 : s1.Canonical := canonical_setRef h ..
  clear_value r k x inside s1
  split
  · exact canonical_ite (canonical_accept h ..) (canonical_setRef h ..)
  · refine canonical_ite (canonical_accept (canonical_anomalyBy hs1 ..) ..) (canonical_ite (canonical_anomalyBy hs1 ..) ?_)
    extract_lets s2 __src
    have hs2 : s2.Canonical := canonical_anomalyBy hs1 ..
    clear_value s2 __src
    exact canonical_setRef hs2 ..

theorem canonical_judgeOffset {s : State} (h : s.Canonical) (m : Meas) (off : ℤ) (pr : State.Pred) (b : ℕ) :
    (s.judgeOffset m off pr b).Canonical := by
  unfold State.judgeOffset
  extract_lets r e0 rebase __src s1 e s2
  have hs1 : s1.Canonical := canonical_setRef h ..
  have hs2 : s2.Canonical := canonical_setI hs1 ..
  clear_value r e0 rebase __src s1 e s2
  exact canonical_ite (canonical_anomalyBy hs2 ..) (canonical_judgeOutlier hs2 ..)

theorem canonical_judgeGate {s : State} (h : s.Canonical) (m : Meas) (y : ℤ) (len b : ℕ) : (s.judgeGate m y len
    b).Canonical := by
  unfold State.judgeGate
  extract_lets r yp u s1 x s2
  have hs1 : s1.Canonical := canonical_draw h
  have hs2 : s2.Canonical := canonical_setRef hs1 ..
  exact canonical_ite (canonical_anomalyBy hs1 ..) (canonical_setRef hs2 ..)

theorem canonical_judge {s : State} (h : s.Canonical) (m : Meas) : (s.judge m).Canonical := by
  unfold State.judge
  extract_lets r
  clear_value r
  refine canonical_ite h (canonical_ite (canonical_anomalyAt h ..) (canonical_ite h ?_))
  split
  · rename_i x pr s1 e
    have hs1 : s1.Canonical := canonical_snd (canonical_predict h ..) e
    extract_lets b skipStamp s2
    have hs2 : s2.Canonical := by
      unfold s2
      split
      · exact canonical_ite hs1 (canonical_judgeOffset hs1 ..)
      · exact hs1
    clear_value b skipStamp s2
    refine canonical_ite (canonical_anomalyBy hs1 ..) ?_
    split
    · exact canonical_ite (canonical_judgeGate hs2 ..) hs2
    · exact hs2

theorem canonical_drainInbox {s : State} (h : s.Canonical) : (s.drainInbox).Canonical := by
  unfold State.drainInbox
  split
  · exact canonical_foldl (fun u a hu => canonical_judge hu _) (canonical_upd h (by rfl))

theorem canonical_tickWork {s : State} (h : s.Canonical) : (s.tickWork).Canonical := by
  unfold State.tickWork
  exact canonical_kernelTick (canonical_pairBefore (canonical_assayEvaluate (canonical_replicaCheck (canonical_drainInbox
      h))))

theorem canonical_tickEntry {s : State} (h : s.Canonical) : (s.tickEntry).Canonical := by
  unfold State.tickEntry
  split
  · exact canonical_placeTick (canonical_ite (canonical_tcount (canonical_count (canonical_takeDispatch h _) _) ..)
        (canonical_acted h _))
  · exact h

theorem canonical_beginTick {s : State} (h : s.Canonical) (bound : ℕ) : (s.beginTick bound).Canonical := by
  unfold State.beginTick
  extract_lets t start s1
  have hs1 : s1.Canonical := canonical_ite (canonical_markGates h _) h
  clear_value t start s1
  exact canonical_upd hs1 (by rfl)

theorem canonical_tickWake {s : State} (h : s.Canonical) (e : ℕ) : (s.tickWake e).Canonical := by
  unfold State.tickWake
  refine canonical_ite ?_ h
  extract_lets x
  exact canonical_ite (canonical_add h ..) (canonical_setEngine h _ _ (dm_engine_wf h _) (live_engine_wf h _)
      (idle_engine_wf h _))

theorem canonical_engTick {s : State} (h : s.Canonical) (e : ℕ) : (s.engTick e).Canonical := by
  unfold State.engTick
  extract_lets x s1 s2
  have hs2 : s2.Canonical := canonical_set (canonical_set h ..) ..
  exact canonical_ite h (canonical_tickWake (canonical_setEngine_of hs2 h e e _ (by rfl)) _)

theorem canonical_compareDigests {s : State} (h : s.Canonical) (l : ℕ) : (s.compareDigests l).Canonical := by
  unfold State.compareDigests
  extract_lets x d s1
  have hs1 : s1.Canonical := canonical_setIso (canonical_setLink h ..) ..
  clear_value x d s1
  exact canonical_ite h (canonical_ite (canonical_linkTo hs1 ..) (canonical_ite (canonical_linkTo hs1 ..) hs1))

theorem canonical_crcRetrain {s : State} (h : s.Canonical) (l : ℕ) : (s.crcRetrain l).Canonical := by
  unfold State.crcRetrain
  exact canonical_ite h (canonical_linkTrain h ..)

theorem canonical_sendHello {s : State} (h : s.Canonical) (l : ℕ) : (s.sendHello l).Canonical := by
  unfold State.sendHello
  exact canonical_sendCell h ..

theorem canonical_linkTick {old s : State} (h : old.Canonical) (h2 : s.Canonical) (l : ℕ) : (old.linkTick s l).Canonical := by
  unfold State.linkTick
  extract_lets s1 s2
  have hs1 : s1.Canonical := canonical_compareDigests h2 _
  have hs2 : s2.Canonical := canonical_ite (canonical_crcRetrain hs1 _) hs1
  clear_value s1 s2
  exact canonical_ite (canonical_sendHello hs2 _) hs2

theorem canonical_drillTick {s : State} (h : s.Canonical) : (s.drillTick).Canonical := by
  unfold State.drillTick
  split
  · exact canonical_ite (canonical_upd h (by rfl)) (canonical_drillEnd h ..)
  · exact canonical_pairSettle (canonical_set (canonical_upd h (by rfl)) ..) _
  · exact h

theorem canonical_pairAfter {s : State} (h : s.Canonical) : (s.pairAfter).Canonical := by
  unfold State.pairAfter
  extract_lets __src s1 __src1 s2 s3 __src2 s4
  have hs1 : s1.Canonical := canonical_upd h (by rfl)
  have hs2 : s2.Canonical := canonical_ite hs1 (canonical_upd hs1 (by rfl))
  have hs3 : s3.Canonical := canonical_settleDiag hs2 _
  have hs4 : s4.Canonical := canonical_settleDiag (canonical_upd hs3 (by rfl)) _
  clear_value __src s1 __src1 s2 s3 __src2 s4
  exact canonical_ite hs1 (canonical_drillTick hs4)

theorem canonical_entryLost {s : State} (h : s.Canonical) : (s.entryLost).Canonical := by
  unfold State.entryLost
  refine canonical_ite h ?_
  extract_lets s1 __src
  have hs1 : s1.Canonical := canonical_pevent h ..
  clear_value s1 __src
  exact canonical_upd hs1 (by rfl)

theorem canonical_journalBuild {s : State} (h : s.Canonical) : (s.journalBuild).Canonical := by
  unfold State.journalBuild
  refine canonical_ite (canonical_set (canonical_upd h (by rfl)) ..) ?_
  extract_lets h1 fst oth trim s1 s2
  have hs1 : s1.Canonical := canonical_upd h (by rfl)
  have hs2 : s2.Canonical := canonical_set hs1 ..
  clear_value h1 fst oth trim s1 s2
  exact canonical_ite hs2 (canonical_countN (canonical_add hs2 ..) ..)

theorem canonical_standbyLoad {s : State} (h : s.Canonical) : (s.standbyLoad).Canonical := by
  unfold State.standbyLoad
  refine canonical_ite h ?_
  extract_lets __src s1
  have hs1 : s1.Canonical := canonical_upd h (by rfl)
  clear_value __src s1
  split
  · extract_lets off a
    clear_value off a
    exact canonical_ite (canonical_loadDate hs1 ..) hs1
  · exact hs1

theorem canonical_dormantTick {s : State} (h : s.Canonical) : (s.dormantTick).Canonical := by
  unfold State.dormantTick
  exact canonical_ite (canonical_dormantChanged h) h

theorem canonical_gateEdge {s : State} (h : s.Canonical) (ch : ℕ) (pt : Option ℤ) (gap : Bool) : (s.gateEdge ch pt
    gap).Canonical := by
  unfold State.gateEdge
  extract_lets x x1
  clear_value x x1
  exact canonical_setTic h ..

theorem canonical_ticDrop {s : State} (h : s.Canonical) (ch : ℕ) (r : TicRec) (front : Bool) : (s.ticDrop ch r
    front).Canonical := by
  unfold State.ticDrop
  extract_lets x x1
  clear_value x x1
  exact canonical_tcnt (canonical_set (canonical_setTic h ..) ..) ..

theorem canonical_ticStage {s : State} (h : s.Canonical) (ch : ℕ) (r : TicRec) : (s.ticStage ch r).Canonical := by
  unfold State.ticStage
  refine canonical_ite h ?_
  extract_lets x
  clear_value x
  exact canonical_ite (canonical_setTic h ..) (canonical_ticDrop h ..)

theorem canonical_markDate {s : State} (h : s.Canonical) (ch at_ : ℕ) : (s.markDate ch at_).Canonical := by
  unfold State.markDate
  split
  · exact canonical_ite (canonical_upd h (by rfl)) h
  · exact h

theorem canonical_stampMeas {s : State} (h : s.Canonical) (ch src : ℕ) (v : ℤ) : (s.stampMeas ch src v).Canonical := by
  unfold State.stampMeas
  extract_lets cs ps __src m p __src1
  clear_value cs ps __src m p __src1
  split
  · exact canonical_deliver h _
  · exact canonical_deliver h _
  · refine canonical_ite h ?_
    split
    · exact canonical_setRef h ..
    · exact canonical_deliver h _

theorem canonical_ticStamp {s : State} (h : s.Canonical) (ch src : ℕ) (falling : Bool) (v : ℤ) (dcount : ℕ) :
    (s.ticStamp ch src falling v dcount).Canonical := by
  unfold State.ticStamp
  extract_lets x s1 s2
  have hs1 : s1.Canonical := canonical_gateEdge (canonical_setTic h ..) ..
  have hs2 : s2.Canonical := canonical_ticStage hs1 ..
  clear_value x s1 s2
  exact canonical_markDate (canonical_stampMeas (canonical_tcnt hs2 ..) ..) ..

theorem canonical_setIrig {s : State} (h : s.Canonical) (n : ℕ) (x : IrigSt) : (s.setIrig n x).Canonical := by
  unfold State.setIrig
  exact canonical_upd h (by rfl)

theorem canonical_todRecord {s : State} (h : s.Canonical) (i rec_ edge pairing : ℕ) : (s.todRecord i rec_ edge
    pairing).Canonical := by
  unfold State.todRecord
  extract_lets r r1
  clear_value r r1
  exact canonical_set h ..

theorem canonical_todPaired {s : State} (h : s.Canonical) (i rec_ : ℕ) (v : ℤ) : (s.todPaired i rec_ v).Canonical := by
  unfold State.todPaired
  extract_lets s1 __src s2 fl named dated sec m
  have hs1 : s1.Canonical := canonical_todRecord h ..
  have hs2 : s2.Canonical := canonical_count (canonical_setTod hs1 ..) _
  clear_value s1 __src s2 fl named dated sec m
  exact canonical_deliver hs2 _

theorem canonical_todUnpaired {s : State} (h : s.Canonical) (i rec_ pairing : ℕ) : (s.todUnpaired i rec_ pairing).Canonical
    := by
  unfold State.todUnpaired
  exact canonical_anomaly (canonical_todRecord h ..) ..

theorem canonical_todNext {s : State} (h : s.Canonical) (i : ℕ) (v : ℤ) : (s.todNext i v).Canonical := by
  unfold State.todNext
  extract_lets l __src
  clear_value l __src
  refine canonical_foldl (fun u a hu => ?_) (canonical_setTod h ..)
  extract_lets d
  clear_value d
  exact canonical_ite (canonical_todPaired hu ..) (canonical_todUnpaired hu ..)

theorem canonical_stamped {s : State} (h : s.Canonical) (ch src : ℕ) (falling : Bool) (v : ℤ) (dcount : ℕ) :
    (s.stamped ch src falling v dcount).Canonical := by
  unfold State.stamped
  extract_lets s1 __src s2
  have hs1 : s1.Canonical := canonical_ticStamp h ..
  have hs2 : s2.Canonical := canonical_ite hs1 (canonical_setIrig hs1 ..)
  clear_value s1 __src s2
  exact canonical_foldl (fun u a hu => canonical_todNext hu ..) hs2

theorem canonical_crossStamps {s : State} (h : s.Canonical) : (s.crossStamps).Canonical := by
  unfold State.crossStamps
  exact canonical_foldl (fun u a hu => canonical_ite (canonical_stamped hu ..) hu) (canonical_upd h (by rfl))

theorem canonical_tick {s : State} (h : s.Canonical) (ups : List (ℕ × ℤ)) : (s.tick ups).Canonical := by
  unfold State.tick
  split
  · exact h
  · refine canonical_ite h ?_
    extract_lets bound old s1 s2 s3 s4 s5 s6 mid s7
    have hold : old.Canonical := canonical_foldl (fun u a hu => canonical_upset hu ..) (canonical_runTo h _)
    have hs1 : s1.Canonical := canonical_tickWork hold
    have hs2 : s2.Canonical := canonical_count (canonical_tickEntry (canonical_beginTick hs1 _)) _
    have hs3 : s3.Canonical := canonical_afterJump hs2 ..
    have hs4 : s4.Canonical := canonical_foldl (fun u a hu => canonical_engTick hu _) hs3
    have hs5 : s5.Canonical := canonical_foldl (fun u a hu => canonical_linkTick hold hu _) hs4
    have hs6 : s6.Canonical := canonical_pairAfter (canonical_entryLost (canonical_journalBuild hs5))
    have hmid : mid.Canonical := hs6
    have hs7 : s7.Canonical := canonical_afterJump (canonical_standbyLoad hs6) ..
    clear_value bound old s1 s2 s3 s4 s5 s6 mid s7
    exact canonical_vaultEnd (canonical_dormantTick (canonical_crossStamps hs7))

theorem canonical_execTick {s : State} (h : s.Canonical) (upsets : List (ℕ × ℤ)) : NextCanonical (execTick upsets s) := by
  unfold execTick
  exact nextCanonical_next (canonical_strobeDue (canonical_tick h _))

theorem canonical_timerEnd {s : State} (h : s.Canonical) (r st new timer : ℕ) (ok : State → Bool) (f : State → State) (hf :
    ∀ u : State, u.Canonical → (f u).Canonical) :
    (s.timerEnd r st new timer ok f).Canonical := by
  unfold State.timerEnd
  refine canonical_ite ?_ h
  extract_lets s1 s2 __src s3
  have hs1 : s1.Canonical := canonical_drainInbox h
  have hs2 : s2.Canonical := hf _ (canonical_runTo hs1 _)
  have hs3 : s3.Canonical := canonical_setRef hs2 ..
  clear_value s1 s2 __src s3
  exact canonical_ite (canonical_refShift hs3 ..) hs1

theorem canonical_execEntryTimerEnd {s : State} (h : s.Canonical) (r : ℕ) : NextCanonical (execEntryTimerEnd r s) := by
  unfold execEntryTimerEnd
  exact nextCanonical_next (canonical_timerEnd h _ _ _ _ _ _ (fun u hu => canonical_setRef hu ..))

theorem canonical_execProbationEnd {s : State} (h : s.Canonical) (r : ℕ) : NextCanonical (execProbationEnd r s) := by
  unfold execProbationEnd
  exact nextCanonical_next (canonical_timerEnd h _ _ _ _ _ _ (fun u hu => canonical_set hu ..))

theorem canonical_execHoldoffEnd {s : State} (h : s.Canonical) (r : ℕ) : NextCanonical (execHoldoffEnd r s) := by
  unfold execHoldoffEnd
  exact nextCanonical_next (canonical_timerEnd h _ _ _ _ _ _ (fun u hu => canonical_setRef hu ..))

theorem canonical_sourceFaultClear {s : State} (h : s.Canonical) (i : ℕ) : (s.sourceFaultClear i).Canonical := by
  unfold State.sourceFaultClear
  refine canonical_ite ?_ h
  extract_lets s1 s2 __src s3
  have hs1 : s1.Canonical := canonical_runTo h _
  have hs2 : s2.Canonical := canonical_set (canonical_set hs1 ..) ..
  have hs3 : s3.Canonical := canonical_upd hs2 (by rfl)
  clear_value s1 s2 __src s3
  exact canonical_ite (canonical_set hs3 ..) (canonical_ite (canonical_setB hs3 ..) hs3)

theorem canonical_execSourceFaultClear {s : State} (h : s.Canonical) (i : ℕ) : NextCanonical (execSourceFaultClear i s) := by
  unfold execSourceFaultClear
  exact nextCanonical_next (canonical_settleDiag (canonical_sourceFaultClear h _) _)

theorem canonical_execLossRepeat {s : State} (h : s.Canonical) (r : ℕ) : NextCanonical (execLossRepeat r s) := by
  unfold execLossRepeat
  refine nextCanonical_next ?_
  extract_lets x s1
  have hs1 : s1.Canonical := canonical_runTo h _
  clear_value x s1
  exact canonical_ite (canonical_anomaly (canonical_setRef hs1 ..) ..) h

theorem canonical_execHeldMeasurementTimeout {s : State} (h : s.Canonical) (r : ℕ) :
    NextCanonical (execHeldMeasurementTimeout r s) := by
  unfold execHeldMeasurementTimeout
  refine nextCanonical_next ?_
  split
  · refine canonical_ite ?_ h
    extract_lets s1 __src
    have hs1 : s1.Canonical := canonical_runTo h _
    clear_value s1 __src
    exact canonical_anomalyBy (canonical_setRef hs1 ..) ..
  · exact h

theorem canonical_execAsyMeasurement {s : State} (h : s.Canonical) : NextCanonical (execAsyMeasurement s) := by
  unfold execAsyMeasurement
  refine nextCanonical_next ?_
  split
  · exact h
  · exact canonical_ite (canonical_judge (canonical_upd h (by rfl)) _) h

theorem canonical_execAnnealEnd {s : State} (h : s.Canonical) : NextCanonical (execAnnealEnd s) := by
  unfold execAnnealEnd
  refine nextCanonical_next (canonical_ite ?_ h)
  extract_lets k src s1
  have hs1 : s1.Canonical := canonical_clearAnneal (canonical_advance h _)
  clear_value k src s1
  exact canonical_corrRecord hs1 ..

theorem canonical_execArmExpiry {s : State} (h : s.Canonical) : NextCanonical (execArmExpiry s) := by
  unfold execArmExpiry
  refine nextCanonical_next ?_
  split
  · refine canonical_ite ?_ h
    extract_lets __src s1
    have hs1 : s1.Canonical := canonical_set (canonical_set (canonical_upd h (by rfl)) ..) ..
    clear_value __src s1
    exact canonical_corrRecord hs1 ..
  · exact h

theorem canonical_execHoldModelUpdate {s : State} (h : s.Canonical) : NextCanonical (execHoldModelUpdate s) := by
  unfold execHoldModelUpdate
  exact nextCanonical_next (canonical_ite (canonical_runModel h) h)

theorem canonical_writeClamped {s : State} (h : s.Canonical) (code : ℤ) : (s.writeClamped code).1.Canonical := by
  unfold State.writeClamped
  extract_lets lo hi c rail s1
  have hs1 : s1.Canonical := canonical_setB (canonical_setB h ..) ..
  exact canonical_writeCode (canonical_ite (canonical_count hs1 _) hs1) _

theorem canonical_execEfcTransfer {s : State} (h : s.Canonical) : NextCanonical (execEfcTransfer s) := by
  unfold execEfcTransfer
  refine nextCanonical_next ?_
  extract_lets mode st g d cur __src s1 term s2
  have hs1 : s1.Canonical := canonical_upd h (by rfl)
  have hs2 : s2.Canonical := canonical_runModel hs1
  clear_value mode st g d cur __src s1 term s2
  refine canonical_ite (canonical_ite (canonical_writeClamped hs2 _) (canonical_ite ?_ hs1)) h
  split
  · rename_i x s3 c e
    have hs3 : s3.Canonical := canonical_fst (canonical_writeClamped hs1 _) e
    exact canonical_upd hs3 (by rfl)

theorem canonical_execTempRead {s : State} (h : s.Canonical) (t : Option ℤ) : NextCanonical (execTempRead t s) := by
  unfold execTempRead
  refine nextCanonical_next (canonical_ite h ?_)
  extract_lets ext s1
  have hs1 : s1.Canonical := canonical_ite (canonical_tempLost h) h
  clear_value ext s1
  split
  · extract_lets s2
    have hs2 : s2.Canonical := canonical_set (canonical_setI h ..) ..
    clear_value s2
    exact canonical_ite (canonical_set hs2 ..) hs2
  · exact canonical_ite (canonical_set hs1 ..) hs1

theorem canonical_execTcLearnWrite {s : State} (h : s.Canonical) (tc1 tc2 t0 : ℤ) (span hours : ℕ) :
    NextCanonical (execTcLearnWrite tc1 tc2 t0 span hours s) := by
  unfold execTcLearnWrite
  refine nextCanonical_next ?_
  extract_lets due s1 s2 s3 __src
  have hs1 : s1.Canonical := canonical_setBoth h ..
  have hs2 : s2.Canonical := canonical_setBoth hs1 ..
  have hs3 : s3.Canonical := canonical_setBoth hs2 ..
  clear_value due s1 s2 s3 __src
  exact canonical_ite (canonical_upd hs3 (by rfl)) h

theorem canonical_execModelOkSet {s : State} (h : s.Canonical) : NextCanonical (execModelOkSet s) := by
  unfold execModelOkSet
  exact nextCanonical_next (canonical_ite (canonical_set h ..) h)

theorem canonical_irigEdge {s : State} (h : s.Canonical) (n : ℕ) (falling : Bool) : (s.irigEdge n falling).Canonical := by
  unfold State.irigEdge
  refine canonical_ite h ?_
  extract_lets x
  clear_value x
  refine canonical_ite (canonical_setIrig h ..) ?_
  split
  · exact h
  · extract_lets c x1 el
    clear_value c x1 el
    split
    · exact canonical_ite (canonical_setIrig h ..) (canonical_setIrig h ..)
    · exact canonical_ite (canonical_setIrig h ..) (canonical_setIrig h ..)

theorem canonical_pinActivity {s : State} (h : s.Canonical) (src : ℕ) : (s.pinActivity src).Canonical := by
  unfold State.pinActivity
  split
  · split
    · exact canonical_ite h (canonical_setTic h ..)
    · exact h
  · exact h

theorem canonical_ticEdge {s : State} (h : s.Canonical) (ch : ℕ) (falling : Bool) (code : ℕ) :
    (s.ticEdge ch falling code).1.Canonical := by
  unfold State.ticEdge
  extract_lets x t s1 x1 ns v s2
  have hs1 : s1.Canonical := canonical_setTic h ..
  have hs2 : s2.Canonical := canonical_gateEdge (canonical_setTic h ..) ..
  clear_value x t s1 x1 ns v s2
  split
  · exact canonical_tcnt (canonical_gateEdge hs1 ..) ..
  · split
    · exact canonical_gateEdge (canonical_setTic h ..) ..
    · split
      · exact canonical_tcnt (canonical_ticStage hs2 ..) ..
      · exact canonical_setTic h ..

theorem canonical_channelEdge {s : State} (h : s.Canonical) (src : ℕ) (falling : Bool) (code : ℕ) :
    (s.channelEdge src falling code).Canonical := by
  unfold State.channelEdge
  split
  · refine canonical_ite ?_ h
    split
    · rename_i x s1 n e
      have hs1 : s1.Canonical := canonical_fst (canonical_ticEdge h ..) e
      exact canonical_ite (canonical_upd hs1 (by rfl)) (canonical_stamped hs1 ..)
    · rename_i x s1 e
      have hs1 : s1.Canonical := canonical_fst (canonical_ticEdge h ..) e
      exact hs1
  · exact h

theorem canonical_execRefEdge {s : State} (h : s.Canonical) (src : ℕ) (falling : Bool) (code : ℕ) :
    NextCanonical (execRefEdge src falling code s) := by
  unfold execRefEdge
  refine nextCanonical_next (canonical_ite ?_ h)
  extract_lets s1 x s2 s3 s4
  have hs1 : s1.Canonical := canonical_irigEdge (canonical_pinActivity h _) ..
  have hs2 : s2.Canonical := canonical_setSrc hs1 ..
  have hs3 : s3.Canonical := canonical_count (canonical_add hs2 ..) _
  have hs4 : s4.Canonical := canonical_ite (canonical_set hs3 ..) hs3
  clear_value s1 x s2 s3 s4
  exact canonical_ite hs1 (canonical_ite (canonical_setSrc hs1 ..) (canonical_channelEdge hs4 ..))

theorem canonical_ticEnqueue {s : State} (h : s.Canonical) (ch : ℕ) (r : TicRec) : (s.ticEnqueue ch r).Canonical := by
  unfold State.ticEnqueue
  extract_lets x q
  clear_value x q
  exact canonical_set (canonical_setTic h ..) ..

theorem canonical_ticOverflow {s : State} (h : s.Canonical) (ch : ℕ) : (s.ticOverflow ch).Canonical := by
  unfold State.ticOverflow
  extract_lets x s1
  have hs1 : s1.Canonical := canonical_set (canonical_setTic h ..) ..
  clear_value x s1
  split
  · exact canonical_ite (canonical_tcnt (canonical_ticEnqueue hs1 ..) ..) h
  · exact h

theorem canonical_ticWriter {s : State} (h : s.Canonical) (ch : ℕ) : (s.ticWriter ch).Canonical := by
  unfold State.ticWriter
  extract_lets s1 x
  have hs1 : s1.Canonical := canonical_ticOverflow h _
  clear_value s1 x
  split
  · exact hs1
  · refine canonical_ite hs1 ?_
    extract_lets s2
    have hs2 : s2.Canonical := canonical_setTic hs1 ..
    clear_value s2
    exact canonical_ite (canonical_ticDrop hs2 ..) (canonical_ticEnqueue hs2 ..)

theorem canonical_execTicRecordQueue {s : State} (h : s.Canonical) (ch : ℕ) : NextCanonical (execTicRecordQueue ch s) := by
  unfold execTicRecordQueue
  refine nextCanonical_next (canonical_ite ?_ h)
  extract_lets __src __src1
  have h__src : __src.Canonical := canonical_ticWriter h _
  clear_value __src __src1
  exact canonical_upd h__src (by rfl)

theorem canonical_execTicOverflowRecord {s : State} (h : s.Canonical) (ch : ℕ) : NextCanonical (execTicOverflowRecord ch s)
    := by
  unfold execTicOverflowRecord
  exact nextCanonical_next (canonical_ticOverflow h _)

theorem canonical_ticStream {s : State} (h : s.Canonical) (ch : ℕ) : (s.ticStream ch).Canonical := by
  unfold State.ticStream
  extract_lets x log2 head used base
  clear_value x log2 head used base
  split
  · refine canonical_ite ?_ h
    extract_lets s1 s2 s3
    have hs1 : s1.Canonical := canonical_emitOut h _
    have hs2 : s2.Canonical := canonical_set (canonical_setTic hs1 ..) ..
    have hs3 : s3.Canonical := canonical_tcnt (canonical_add hs2 ..) ..
    clear_value s1 s2 s3
    exact canonical_ite (canonical_ticSignal hs3 _) hs3
  · exact h

theorem canonical_execTicStreamWrite {s : State} (h : s.Canonical) (ch : ℕ) : NextCanonical (execTicStreamWrite ch s) := by
  unfold execTicStreamWrite
  exact nextCanonical_next (canonical_ticStream h _)

theorem canonical_execLosExpiry {s : State} (h : s.Canonical) (n : ℕ) : NextCanonical (execLosExpiry n s) := by
  unfold execLosExpiry
  refine nextCanonical_next ?_
  extract_lets x s1 s2 __src s3
  have hs1 : s1.Canonical := canonical_runTo h _
  have hs2 : s2.Canonical := canonical_set (canonical_setSrc hs1 ..) ..
  have hs3 : s3.Canonical := canonical_ite hs2 (canonical_setRef hs2 ..)
  clear_value x s1 s2 __src s3
  exact canonical_ite (canonical_anomaly (canonical_count hs3 _) ..) h

theorem canonical_execSynceLockChange {s : State} (h : s.Canonical) (p : ℕ) (lock : Bool) :
    NextCanonical (execSynceLockChange p lock s) := by
  unfold execSynceLockChange
  exact nextCanonical_next (canonical_ite (canonical_synceLock h ..) h)

theorem canonical_setUart {s : State} (h : s.Canonical) (u : ℕ) (x : UartSt) : (s.setUart u x).Canonical := by
  unfold State.setUart
  exact canonical_upd h (by rfl)

theorem canonical_execUartChar {s : State} (h : s.Canonical) (u c : ℕ) (framing parity : Bool) :
    NextCanonical (execUartChar u c framing parity s) := by
  unfold execUartChar
  refine nextCanonical_next (canonical_ite ?_ h)
  extract_lets x s1 s2 full s3
  have hs1 : s1.Canonical := canonical_ite (canonical_addSat h ..) h
  have hs2 : s2.Canonical := canonical_ite (canonical_addSat hs1 ..) hs1
  have hs3 : s3.Canonical := canonical_ite (canonical_count hs2 _) hs2
  clear_value x s1 s2 full s3
  exact canonical_ite (canonical_addSat hs3 ..) (canonical_setUart hs3 ..)

theorem canonical_cellTo {s : State} (h : s.Canonical) (e : ℕ) (c : Cell) : (s.cellTo e c).Canonical := by
  unfold State.cellTo
  refine canonical_ite h ?_
  extract_lets x
  exact canonical_ite (canonical_add h ..) (canonical_setEngine h _ _ (dm_engine_wf h _) (live_engine_wf h _)
      (idle_engine_wf h _))

theorem canonical_execCharsDeliver {s : State} (h : s.Canonical) (u : ℕ) : NextCanonical (execCharsDeliver u s) := by
  unfold execCharsDeliver
  refine nextCanonical_next ?_
  extract_lets l cns s1
  have hs1 : s1.Canonical := canonical_ite h (canonical_runTo h _)
  clear_value l cns s1
  exact canonical_ite (canonical_cellTo (canonical_setUart hs1 ..) ..) h

theorem canonical_anomalyMembers {s : State} (h : s.Canonical) (k c : ℕ) : (s.anomalyMembers k c).Canonical := by
  unfold State.anomalyMembers
  exact canonical_foldl (fun u a hu => canonical_anomaly hu ..) h

theorem canonical_statusAlarm {s : State} (h : s.Canonical) (a : ℕ) : (s.statusAlarm a).Canonical := by
  unfold State.statusAlarm
  exact canonical_foldl (fun u a1 hu => canonical_anomalyMembers hu ..) h

theorem canonical_execAportStale {s : State} (h : s.Canonical) (a : ℕ) : NextCanonical (execAportStale a s) := by
  unfold execAportStale
  refine nextCanonical_next (canonical_ite ?_ h)
  extract_lets s1 __src s2
  have hs1 : s1.Canonical := canonical_runTo h _
  have hs2 : s2.Canonical := canonical_setAport (canonical_set hs1 ..) ..
  clear_value s1 __src s2
  exact canonical_statusAlarm hs2 _

theorem canonical_takeCell {s : State} (h : s.Canonical) (e typ : ℕ) : ∀ c0 t, s.takeCell e typ = some (c0, t) →
    t.Canonical := by
  unfold State.takeCell
  intro c t ht
  dsimp only at ht
  split at ht
  · split at ht
    · cases ht
      exact canonical_setEngine_of h h e e _ (by rfl)
    · cases ht
  · cases ht

theorem canonical_aportMessage {s : State} (h : s.Canonical) (a : ℕ) (lock alarm : Bool) (temp tune : ℕ) :
    (s.aportMessage a lock alarm temp tune).Canonical := by
  unfold State.aportMessage
  refine canonical_ite h ?_
  extract_lets old t s1 s2 s3 s4 s5
  have hs1 : s1.Canonical := canonical_setB (canonical_setB h ..) ..
  have hs2 : s2.Canonical := canonical_set (canonical_set hs1 ..) ..
  have hs3 : s3.Canonical := canonical_set (canonical_set hs2 ..) ..
  have hs4 : s4.Canonical := canonical_setAport (canonical_set hs3 ..) ..
  have hs5 : s5.Canonical := canonical_ite (canonical_statusAlarm hs4 _) hs4
  clear_value old t s1 s2 s3 s4 s5
  split
  · exact canonical_ite (canonical_statusAlarm hs5 _) hs5
  · exact hs5

theorem canonical_execAportStCell {s : State} (h : s.Canonical) : NextCanonical (execAportStCell s) := by
  unfold execAportStCell
  refine nextCanonical_next ?_
  split
  · rename_i x c s1 e
    have hs1 : s1.Canonical := canonical_takeCell h _ _ _ _ e
    extract_lets b
    clear_value b
    exact canonical_aportMessage hs1 ..
  · exact h

theorem canonical_todCheck {s : State} (h : s.Canonical) (u : ℕ) : (s.todCheck u).Canonical := by
  unfold State.todCheck
  exact canonical_addSat h ..

theorem canonical_todPrevious {s : State} (h : s.Canonical) (i rec_ tFirst : ℕ) : (s.todPrevious i rec_ tFirst).Canonical
    := by
  unfold State.todPrevious
  extract_lets x before
  clear_value x before
  split
  · extract_lets d
    clear_value d
    exact canonical_ite (canonical_todPaired h ..) (canonical_todUnpaired h ..)
  · exact canonical_todUnpaired h ..

theorem canonical_todMessage {s : State} (h : s.Canonical) (i rec_ tFirst tLast : ℕ) :
    (s.todMessage i rec_ tFirst tLast).Canonical := by
  unfold State.todMessage
  exact canonical_ite (canonical_todCheck h _) (canonical_ite (canonical_setTod h ..) (canonical_todPrevious h ..))

theorem canonical_parseText {x1 : State} (h : x1.Canonical) (x0 x2 x3 : ℕ) : (State.parseText x0 x1 x2 x3).Canonical := by
  induction x0 generalizing x1 with
  | zero => exact h
  | succ k ih =>
    unfold State.parseText
    extract_lets l
    split
    · exact h
    · extract_lets m s1
      have hs1 : s1.Canonical := canonical_setTod h ..
      clear_value s1
      refine ih ?_
      split
      · exact hs1
      · exact canonical_todCheck hs1 _
      · exact canonical_ite (canonical_todCheck hs1 _) (canonical_todMessage hs1 ..)

theorem canonical_celmirParse {s : State} (h : s.Canonical) : (s.celmirParse).Canonical := by
  unfold State.celmirParse
  extract_lets x
  refine canonical_ite h ?_
  split
  · extract_lets i s1 l __src
    have hs1 : s1.Canonical := canonical_setEngine h _ _ (dm_engine_wf h _) (live_engine_wf h _) (idle_engine_wf h _)
    clear_value i s1 l __src
    exact canonical_ite (canonical_parseText (canonical_setTod hs1 ..) ..) hs1
  · exact h

theorem canonical_execTodMsgCell {s : State} (h : s.Canonical) : NextCanonical (execTodMsgCell s) := by
  unfold execTodMsgCell
  refine nextCanonical_next ?_
  split
  · rename_i x c s1 e
    have hs1 : s1.Canonical := canonical_takeCell h _ _ _ _ e
    extract_lets i
    clear_value i
    exact canonical_ite (canonical_todMessage hs1 ..) hs1
  · exact canonical_celmirParse h

theorem canonical_execCheckCell {s : State} (h : s.Canonical) : NextCanonical (execCheckCell s) := by
  unfold execCheckCell
  refine nextCanonical_next ?_
  split
  · rename_i x c s1 e
    have hs1 : s1.Canonical := canonical_takeCell h _ _ _ _ e
    exact canonical_todCheck hs1 _
  · exact h

theorem canonical_execTodLossTimeout {s : State} (h : s.Canonical) (i : ℕ) : NextCanonical (execTodLossTimeout i s) := by
  unfold execTodLossTimeout
  refine nextCanonical_next (canonical_ite ?_ h)
  extract_lets s1 __src
  have hs1 : s1.Canonical := canonical_runTo h _
  clear_value s1 __src
  exact canonical_anomaly (canonical_setTod hs1 ..) ..

theorem canonical_irigRecord {s : State} (h : s.Canonical) (i : ℕ) (year : Bool) (l : List ℕ) (at_ : ℕ) (edge : Option ℤ) :
    (s.irigRecord i year l at_ edge).Canonical := by
  unfold State.irigRecord
  split
  · extract_lets scale q now y t off r
    clear_value scale q now y t off r
    refine canonical_ite (canonical_todCheck h _) ?_
    split
    · exact canonical_todPaired h ..
    · exact canonical_todUnpaired h ..

theorem canonical_execIrigFrame {s : State} (h : s.Canonical) (n : ℕ) (ok : Bool) (sec min hour doy : ℕ) (year : Option ℕ)
    (edge : Option ℤ) :
    NextCanonical (execIrigFrame n ok sec min hour doy year edge s) := by
  unfold execIrigFrame
  refine nextCanonical_next ?_
  split
  · refine canonical_ite h ?_
    extract_lets __src s1
    have hs1 : s1.Canonical := canonical_setIrig h ..
    clear_value __src s1
    exact canonical_ite (canonical_foldl (fun u a hu => canonical_irigRecord hu ..) hs1) hs1
  · exact h

theorem canonical_todOutRecord {s : State} (h : s.Canonical) (i edge : ℕ) : (s.todOutRecord i edge).2.Canonical := by
  unfold State.todOutRecord
  extract_lets q sc t utc day leap
  clear_value q sc t utc day leap
  split
  · rename_i x w s1 e
    have hs1 : s1.Canonical := canonical_snd (canonical_freeNat h) e
    extract_lets flags
    clear_value flags
    exact hs1

theorem canonical_execTodOutReq {s : State} (h : s.Canonical) (i clk : ℕ) : NextCanonical (execTodOutReq i clk s) := by
  unfold execTodOutReq
  refine nextCanonical_next (canonical_ite ?_ h)
  split
  · extract_lets named
    clear_value named
    split
    · rename_i x w s1 e
      have hs1 : s1.Canonical := canonical_snd (canonical_todOutRecord h ..) e
      extract_lets __src s2
      have hs2 : s2.Canonical := canonical_setTodOut hs1 ..
      clear_value __src s2
      exact canonical_cellTo hs2 ..
  · exact h

theorem canonical_execTodOutCell {s : State} (h : s.Canonical) : NextCanonical (execTodOutCell s) := by
  unfold execTodOutCell
  refine nextCanonical_next ?_
  split
  · rename_i x c s1 e
    have hs1 : s1.Canonical := canonical_takeCell h _ _ _ _ e
    extract_lets i n x1
    clear_value i n x1
    split
    · extract_lets at_
      clear_value at_
      exact canonical_ite (canonical_add hs1 ..) (canonical_setTodOut hs1 ..)
    · exact canonical_add hs1 ..
  · exact h

theorem canonical_execTodoutSend {s : State} (h : s.Canonical) (i : ℕ) : NextCanonical (execTodoutSend i s) := by
  unfold execTodoutSend
  refine nextCanonical_next ?_
  split
  · refine canonical_ite ?_ h
    extract_lets s1 __src
    have hs1 : s1.Canonical := canonical_runTo h _
    clear_value s1 __src
    exact canonical_emitOut (canonical_setTodOut hs1 ..) _
  · exact h

theorem canonical_calClose {s : State} (h : s.Canonical) (ch : ℕ) : (s.calClose ch).Canonical := by
  unfold State.calClose
  extract_lets x s1 __src s2
  have hs1 : s1.Canonical := canonical_set (canonical_setTic h ..) ..
  have hs2 : s2.Canonical := canonical_setTic hs1 ..
  clear_value x s1 __src s2
  split
  · extract_lets v
    clear_value v
    exact canonical_tcnt (canonical_ticStage hs2 ..) ..
  · exact hs1

theorem canonical_calStale {s : State} (h : s.Canonical) (ch : ℕ) : (s.calStale ch).Canonical := by
  unfold State.calStale
  exact canonical_ite (canonical_anomaly h ..) h

theorem canonical_pathResult {s : State} (h : s.Canonical) (ch : ℕ) (sum : ℤ) (span : Bool) : (s.pathResult ch sum
    span).Canonical := by
  unfold State.pathResult
  extract_lets x s1 s2 __src s3 v s4 s5 s6 __src1
  have hs1 : s1.Canonical := canonical_calClose h _
  have hs2 : s2.Canonical := canonical_ite (canonical_set hs1 ..) hs1
  have hs3 : s3.Canonical := canonical_setTic hs2 ..
  have hs4 : s4.Canonical := canonical_add (canonical_setBoth hs3 ..) ..
  have hs5 : s5.Canonical := canonical_set (canonical_set hs4 ..) ..
  have hs6 : s6.Canonical := canonical_set hs5 ..
  clear_value x s1 s2 __src s3 v s4 s5 s6 __src1
  split
  · extract_lets base s7 s8
    have hs7 : s7.Canonical := canonical_setTic hs2 ..
    have hs8 : s8.Canonical := canonical_tcnt (canonical_set hs7 ..) ..
    clear_value base s7 s8
    exact canonical_ite (canonical_ite hs7 (canonical_ite (canonical_calStale hs8 _) hs8)) (canonical_ite hs3
        (canonical_setTic hs6 ..))
  · exact h

theorem canonical_execPathWindowEnd {s : State} (h : s.Canonical) (ch : ℕ) (sum : ℤ) (span : Bool) :
    NextCanonical (execPathWindowEnd ch sum span s) := by
  unfold execPathWindowEnd
  refine nextCanonical_next ?_
  split
  · exact canonical_ite h (canonical_pathResult (canonical_runTo h _) ..)
  · exact h

theorem canonical_execPathRetry {s : State} (h : s.Canonical) (ch : ℕ) : NextCanonical (execPathRetry ch s) := by
  unfold execPathRetry
  refine nextCanonical_next ?_
  split
  · extract_lets own s1 x
    have hs1 : s1.Canonical := canonical_runTo h _
    clear_value own s1 x
    exact canonical_ite (canonical_ite (canonical_set (canonical_setTic hs1 ..) ..) (canonical_ite (canonical_setTic hs1
        ..) (canonical_calOpen hs1 ..))) h
  · exact h

theorem canonical_cdcResult {s : State} (h : s.Canonical) (ch : ℕ) (x2 : List ℕ) (timeout : Bool) :
    (s.cdcResult ch x2 timeout).Canonical := by
  unfold State.cdcResult
  extract_lets n hits m r few bad s1 s2 s3 __src
  have hs1 : s1.Canonical := canonical_calClose h _
  have hs2 : s2.Canonical := canonical_tcnt (canonical_add (canonical_set hs1 ..) ..) ..
  have hs3 : s3.Canonical := canonical_add (canonical_set (canonical_set hs1 ..) ..) ..
  clear_value n hits m r few bad s1 s2 s3 __src
  exact canonical_ite (canonical_ite (canonical_calStale hs2 _) hs2) (canonical_setTic hs3 ..)

theorem canonical_execCdcWindowEnd {s : State} (h : s.Canonical) (ch : ℕ) (hist : List ℕ) :
    NextCanonical (execCdcWindowEnd ch hist s) := by
  unfold execCdcWindowEnd
  refine nextCanonical_next ?_
  split
  · extract_lets n hits
    exact canonical_ite (canonical_ite (canonical_cdcResult h ..) (canonical_cdcResult (canonical_runTo h _) ..)) h
  · exact h

theorem canonical_setStale {s : State} (h : s.Canonical) (ch : ℕ) (cdc : Bool) : (s.setStale ch cdc).Canonical := by
  unfold State.setStale
  extract_lets was s1
  have hs1 : s1.Canonical := canonical_set h ..
  clear_value was s1
  exact canonical_ite hs1 (canonical_calStale hs1 _)

theorem canonical_execCalAgeExpiry {s : State} (h : s.Canonical) (ch : ℕ) : NextCanonical (execCalAgeExpiry ch s) := by
  unfold execCalAgeExpiry
  refine nextCanonical_next (canonical_ite h ?_)
  split
  · exact canonical_ite (canonical_setStale (canonical_runTo h _) ..) (canonical_setStale (canonical_runTo h _) ..)
  · exact canonical_setStale (canonical_runTo h _) ..
  · exact canonical_setStale (canonical_runTo h _) ..
  · exact h

theorem canonical_execCalTempDrift {s : State} (h : s.Canonical) (ch : ℕ) (temp : ℤ) : NextCanonical (execCalTempDrift ch
    temp s) := by
  unfold execCalTempDrift
  refine nextCanonical_next ?_
  extract_lets __src s1 x past s2
  have hs1 : s1.Canonical := canonical_upd h (by rfl)
  have hs2 : s2.Canonical := canonical_ite (canonical_setStale hs1 ..) hs1
  clear_value __src s1 x s2
  exact canonical_ite (canonical_setStale hs2 ..) hs2

theorem canonical_execGateLongClose {s : State} (h : s.Canonical) (ch : ℕ) : NextCanonical (execGateLongClose ch s) := by
  unfold execGateLongClose
  refine nextCanonical_next ?_
  split
  · exact canonical_ite (canonical_gateEnd (canonical_runTo h _) ..) h
  · exact h

theorem canonical_gsiMeasured {s : State} (h : s.Canonical) (i : ℕ) (m : GsiMs) : (s.gsiMeasured i m).Canonical := by
  unfold State.gsiMeasured
  extract_lets n s1
  have hs1 : s1.Canonical := canonical_set h ..
  clear_value n s1
  exact canonical_ite hs1 (canonical_set hs1 ..)

theorem canonical_execGsiClockFault {s : State} (h : s.Canonical) (i : ℕ) (rate : Bool) (ms : GsiMs) :
    NextCanonical (execGsiClockFault i rate ms s) := by
  unfold execGsiClockFault
  refine nextCanonical_next (canonical_ite ?_ h)
  extract_lets s1 s2
  have hs1 : s1.Canonical := canonical_gsiMeasured h ..
  have hs2 : s2.Canonical := canonical_ite (canonical_ite hs1 (canonical_count (canonical_set hs1 ..) _)) (canonical_set
      hs1 ..)
  clear_value s1 s2
  exact canonical_ite hs1 (canonical_loseInputs (canonical_gsiFaulty hs2 _) _)

theorem canonical_execGsiClockRecover {s : State} (h : s.Canonical) (i : ℕ) (ms : GsiMs) :
    NextCanonical (execGsiClockRecover i ms s) := by
  unfold execGsiClockRecover
  refine nextCanonical_next (canonical_ite ?_ h)
  extract_lets s1
  have hs1 : s1.Canonical := canonical_gsiMeasured (canonical_runTo h _) ..
  clear_value s1
  exact canonical_ite hs1 (canonical_set (canonical_set hs1 ..) ..)

theorem canonical_markAntChg {s : State} (h : s.Canonical) (a : ℕ) : (s.markAntChg a).Canonical := by
  unfold State.markAntChg
  split
  · refine canonical_ite ?_ h
    extract_lets b
    clear_value b
    refine canonical_foldl (fun u a1 hu => canonical_ite ?_ hu) h
    extract_lets r
    clear_value r
    exact canonical_ite hu (canonical_set hu ..)
  · exact h

theorem canonical_recallHits {s : State} (h : s.Canonical) (a since : ℕ) : (s.recallHits a since).Canonical := by
  unfold State.recallHits
  refine canonical_foldl (fun u a1 hu => ?_) h
  extract_lets x
  clear_value x
  exact canonical_ite (canonical_setGnsCh hu ..) hu

theorem canonical_abortPass {s : State} (h : s.Canonical) (a : ℕ) : (s.abortPass a).Canonical := by
  unfold State.abortPass
  extract_lets s1 __src __src1
  have hs1 : s1.Canonical := canonical_ite (canonical_recallHits (canonical_count (canonical_add h ..) _) ..) h
  have h__src : __src.Canonical := canonical_set hs1 ..
  clear_value s1 __src __src1
  exact canonical_set (canonical_upd h__src (by rfl)) ..

theorem canonical_antChange {s : State} (h : s.Canonical) (a old new : ℕ) : (s.antChange a old new).Canonical := by
  unfold State.antChange
  extract_lets x s1 s2 s3 s4 fin s5 s6 s7 __src
  have hs1 : s1.Canonical := canonical_count (canonical_add (canonical_set h ..) ..) _
  have hs2 : s2.Canonical := canonical_markAntChg hs1 _
  have hs3 : s3.Canonical := canonical_setAnt hs2 ..
  have hs4 : s4.Canonical := canonical_anomaly (canonical_loseInputs hs3 _) ..
  have hs5 : s5.Canonical := canonical_setAnt hs2 ..
  have hs6 : s6.Canonical := canonical_ite (canonical_anomaly (canonical_set hs5 ..) ..) hs5
  have hs7 : s7.Canonical := canonical_suspendDormant (canonical_abortPass hs6 _)
  clear_value x s1 s2 s3 s4 fin s5 s6 s7 __src
  exact canonical_ite (canonical_ite (canonical_abortPass hs4 _) hs4) (canonical_ite (canonical_upd hs7 (by rfl)) hs2)

theorem canonical_antSample {s : State} (h : s.Canonical) (a current : ℕ) : (s.antSample a current).Canonical := by
  unfold State.antSample
  refine canonical_ite ?_ h
  extract_lets s1 cls old x run first s2
  have hs1 : s1.Canonical := canonical_set h ..
  have hs2 : s2.Canonical := canonical_setAnt hs1 ..
  clear_value s1 cls old x run first s2
  exact canonical_ite (canonical_setAnt hs1 ..) (canonical_ite (canonical_antChange hs2 ..) hs2)

theorem canonical_execAntSample {s : State} (h : s.Canonical) (a current : ℕ) : NextCanonical (execAntSample a current s)
    := by
  unfold execAntSample
  exact nextCanonical_next (canonical_antSample h ..)

theorem canonical_execGnsIntegration {s : State} (h : s.Canonical) (c : ℕ) (code carr bit half slip : Bool) (cn0 : ℕ) :
    NextCanonical (execGnsIntegration c code carr bit half slip cn0 s) := by
  unfold execGnsIntegration
  refine nextCanonical_next (canonical_ite ?_ h)
  extract_lets st s1 x low s2 both s3
  have hs1 : s1.Canonical := canonical_ite (canonical_runTo h _) h
  have hs2 : s2.Canonical := canonical_setB (canonical_set hs1 ..) ..
  have hs3 : s3.Canonical := canonical_setGnsCh hs2 ..
  clear_value st s1 x low s2 both s3
  split
  · exact canonical_chMove hs1 ..
  · exact canonical_ite (canonical_ite (canonical_chMove hs3 ..) hs3) hs1

theorem canonical_execPullLockHeld {s : State} (h : s.Canonical) (c : ℕ) : NextCanonical (execPullLockHeld c s) := by
  unfold execPullLockHeld
  refine nextCanonical_next ?_
  split
  · refine canonical_ite ?_ h
    extract_lets s1 __src
    have hs1 : s1.Canonical := canonical_runTo h _
    clear_value s1 __src
    exact canonical_chRequest (canonical_setGnsCh hs1 ..) ..
  · exact h

theorem canonical_execPullTimeout {s : State} (h : s.Canonical) (c : ℕ) : NextCanonical (execPullTimeout c s) := by
  unfold execPullTimeout
  exact nextCanonical_next (canonical_ite (canonical_chRequest (canonical_runTo h _) ..) h)

theorem canonical_execCn0LossTimeout {s : State} (h : s.Canonical) (c : ℕ) : NextCanonical (execCn0LossTimeout c s) := by
  unfold execCn0LossTimeout
  refine nextCanonical_next ?_
  split
  · exact canonical_ite (canonical_chRequest (canonical_runTo h _) ..) h
  · exact h

theorem canonical_execCoastTimeout {s : State} (h : s.Canonical) (c : ℕ) : NextCanonical (execCoastTimeout c s) := by
  unfold execCoastTimeout
  exact nextCanonical_next (canonical_ite (canonical_chRequest (canonical_runTo h _) ..) h)

theorem canonical_handDetection {s : State} (h : s.Canonical) (sig svid : ℕ) (fcn : ℤ) : (s.handDetection sig svid
    fcn).Canonical := by
  unfold State.handDetection
  extract_lets s1 holds waits
  have hs1 : s1.Canonical := canonical_count (canonical_addSat h ..) _
  clear_value s1
  split
  · exact canonical_ite (canonical_chRequest (canonical_setGnsCh hs1 ..) ..) hs1
  · split
    · extract_lets s2 __src
      have hs2 : s2.Canonical := canonical_set (canonical_set hs1 ..) ..
      clear_value s2 __src
      exact canonical_chRequest (canonical_setGnsCh hs2 ..) ..
    · exact canonical_count (canonical_addSat hs1 ..) _

theorem canonical_nextDwell {s : State} (h : s.Canonical) (p : SrchPos) : (s.nextDwell p).Canonical := by
  unfold State.nextDwell
  exact canonical_ite (canonical_upd h (by rfl)) (canonical_ite (canonical_upd h (by rfl)) (canonical_searchFrom h _))

theorem canonical_searchDwell {s : State} (h : s.Canonical) (ratio : ℕ) (fcn : ℤ) : (s.searchDwell ratio fcn).Canonical := by
  unfold State.searchDwell
  split
  · refine canonical_ite ?_ h
    extract_lets s1 hit s2 __src
    have hs1 : s1.Canonical := canonical_runTo h _
    have hs2 : s2.Canonical := canonical_ite (canonical_handDetection hs1 ..) hs1
    clear_value s1 hit s2 __src
    exact canonical_ite (canonical_nextDwell hs2 _) (canonical_ite (canonical_upd hs1 (by rfl)) (canonical_nextDwell hs1 _))
  · exact h

theorem canonical_execSearchDwell {s : State} (h : s.Canonical) (d : Dwell) : NextCanonical (execSearchDwell d s) := by
  unfold execSearchDwell
  exact nextCanonical_next (canonical_searchDwell h ..)

theorem canonical_execAidedDwell {s : State} (h : s.Canonical) (g : ℕ) (win : AidWin) (second : Bool) (dets : List (ℕ × ℕ ×
    ℤ)) :
    NextCanonical (execAidedDwell g win second dets s) := by
  unfold execAidedDwell
  refine nextCanonical_next ?_
  extract_lets searching
  clear_value searching
  exact canonical_ite (canonical_ite (canonical_count (canonical_addSat h ..) _) (canonical_foldl (fun u a hu =>
      canonical_handDetection hu ..) h)) h

theorem canonical_execSearchSettleEnd {s : State} (h : s.Canonical) : NextCanonical (execSearchSettleEnd s) := by
  unfold execSearchSettleEnd
  refine nextCanonical_next ?_
  split
  · exact canonical_searchStart (canonical_runTo h _) _
  · exact h

theorem canonical_execAllLostTimeout {s : State} (h : s.Canonical) : NextCanonical (execAllLostTimeout s) := by
  unfold execAllLostTimeout
  refine nextCanonical_next ?_
  split
  · extract_lets s1 __src
    have hs1 : s1.Canonical := canonical_runTo h _
    clear_value s1 __src
    exact canonical_searchStart (canonical_upd hs1 (by rfl)) _
  · exact h

theorem canonical_solRegs {s : State} (h : s.Canonical) (f : GnsFix) (used : List GnsSat) (surveying : Bool) :
    (s.solRegs f used surveying).Canonical := by
  unfold State.solRegs
  extract_lets claim s1 s2 s3 s4
  have hs1 : s1.Canonical := canonical_set (canonical_set (canonical_setI h ..) ..) ..
  have hs2 : s2.Canonical := canonical_setB (canonical_set (canonical_set hs1 ..) ..) ..
  have hs3 : s3.Canonical := canonical_add (canonical_set (canonical_setB hs2 ..) ..) ..
  have hs4 : s4.Canonical := canonical_setI (canonical_setI (canonical_setI hs3 ..) ..) ..
  clear_value claim s1 s2 s3 s4
  exact canonical_count hs4 _

theorem canonical_surveyDone {s : State} (h : s.Canonical) (f : GnsFix) : (s.surveyDone f).Canonical := by
  unfold State.surveyDone
  extract_lets s1 s2 s3 s4 __src __src1
  have hs1 : s1.Canonical := canonical_setBoth h ..
  have hs2 : s2.Canonical := canonical_setBoth hs1 ..
  have hs3 : s3.Canonical := canonical_setBoth hs2 ..
  have hs4 : s4.Canonical := canonical_setBoth (canonical_setBoth hs3 ..) ..
  have h__src : __src.Canonical := canonical_pevent hs4 ..
  clear_value s1 s2 s3 s4 __src __src1
  exact canonical_upd h__src (by rfl)

theorem canonical_surveyStep {s : State} (h : s.Canonical) (f : GnsFix) : (s.surveyStep f).Canonical := by
  unfold State.surveyStep
  extract_lets start __src s1
  have hs1 : s1.Canonical := canonical_upd h (by rfl)
  clear_value start __src s1
  exact canonical_ite (canonical_surveyDone hs1 _) hs1

theorem canonical_solDeliver {s : State} (h : s.Canonical) (f : GnsFix) (used : List GnsSat) (surveying : Bool) :
    (s.solDeliver f used surveying).Canonical := by
  unfold State.solDeliver
  extract_lets __src s1 m o
  have hs1 : s1.Canonical := canonical_setRef (canonical_set h ..) ..
  clear_value __src s1 m o
  exact canonical_deliver hs1 _

theorem canonical_solution {s : State} (h : s.Canonical) (f : GnsFix) : (s.solution f).Canonical := by
  unfold State.solution
  extract_lets surveying __src s1 checks v used formed s2 s3 s4 s5 s6
  have hs1 : s1.Canonical := canonical_upd h (by rfl)
  have hs2 : s2.Canonical := canonical_ite (canonical_set (canonical_set (canonical_set hs1 ..) ..) ..) hs1
  have hs3 : s3.Canonical := canonical_set (canonical_setB hs2 ..) ..
  have hs4 : s4.Canonical := canonical_ite (canonical_anomaly hs3 ..) hs3
  have hs5 : s5.Canonical := canonical_solRegs hs4 ..
  have hs6 : s6.Canonical := canonical_ite (canonical_surveyStep hs5 _) hs5
  clear_value surveying __src s1 checks v used formed s2 s3 s4 s5 s6
  exact canonical_ite (canonical_ite (canonical_solDeliver hs6 ..) hs6) (canonical_set hs4 ..)

theorem canonical_execSolutionCompute {s : State} (h : s.Canonical) (f : GnsFix) : NextCanonical (execSolutionCompute f s)
    := by
  unfold execSolutionCompute
  exact nextCanonical_next (canonical_ite (canonical_solution h _) h)

theorem canonical_occurrence {s : State} (h : s.Canonical) (id action : ℕ) (ok : SchEnt → Bool) (act : State → SchEnt →
    State) (hact : ∀ (u : State) a, u.Canonical → (act u a).Canonical) :
    (s.occurrence id action ok act).Canonical := by
  unfold State.occurrence
  split
  · extract_lets due
    clear_value due
    exact canonical_ite (canonical_ite (canonical_dropDisowned (canonical_runTo h _) ..) (canonical_ite h (hact _ _
        (canonical_acted (canonical_runTo h _) _)))) h
  · exact h

theorem canonical_scheduled {s : State} (h : s.Canonical) (id action : ℕ) (ok : SchEnt → Bool) (act : State → SchEnt →
    State) (hact : ∀ (u : State) a, u.Canonical → (act u a).Canonical) :
    (s.scheduled id action ok act).Canonical := by
  unfold State.scheduled
  exact canonical_strobeDue (canonical_occurrence h _ _ _ _ (fun u a hu => hact _ _ hu))

theorem canonical_execIngotCopy {s : State} (h : s.Canonical) (id : ℕ) (ue : Option DramErr) :
    NextCanonical (execIngotCopy id ue s) := by
  unfold execIngotCopy
  exact nextCanonical_next (canonical_scheduled h _ _ _ _ (fun u a hu => canonical_ingotCopy hu _))

theorem canonical_execSeamFrame {s : State} (h : s.Canonical) (id : ℕ) (conflict : Bool) :
    NextCanonical (execSeamFrame id conflict s) := by
  unfold execSeamFrame
  exact nextCanonical_next (canonical_scheduled h _ _ _ _ (fun u a hu => canonical_seamFrame hu _))

theorem canonical_execLaunchCycle {s : State} (h : s.Canonical) (id : ℕ) : NextCanonical (execLaunchCycle id s) := by
  unfold execLaunchCycle
  exact nextCanonical_next (canonical_scheduled h _ _ _ _ (fun u a hu => canonical_launchCycle hu _))

theorem canonical_execGoutEdge {s : State} (h : s.Canonical) (id : ℕ) : NextCanonical (execGoutEdge id s) := by
  unfold execGoutEdge
  exact nextCanonical_next (canonical_scheduled h _ _ _ _ (fun u a hu => canonical_goutEdge hu ..))

theorem canonical_execTicGateStart {s : State} (h : s.Canonical) (id : ℕ) : NextCanonical (execTicGateStart id s) := by
  unfold execTicGateStart
  exact nextCanonical_next (canonical_scheduled h _ _ _ _ (fun u a hu => canonical_gateOpen hu ..))

theorem canonical_execTicGateStop {s : State} (h : s.Canonical) (id : ℕ) : NextCanonical (execTicGateStop id s) := by
  unfold execTicGateStop
  exact nextCanonical_next (canonical_scheduled h _ _ _ _ (fun u a hu => canonical_gateEnd hu ..))

theorem canonical_execCalWindowPath {s : State} (h : s.Canonical) (id : ℕ) : NextCanonical (execCalWindowPath id s) := by
  unfold execCalWindowPath
  exact nextCanonical_next (canonical_scheduled h _ _ _ _ (fun u a hu => canonical_pathWindow hu ..))

theorem canonical_execCalWindowCdc {s : State} (h : s.Canonical) (id : ℕ) : NextCanonical (execCalWindowCdc id s) := by
  unfold execCalWindowCdc
  exact nextCanonical_next (canonical_scheduled h _ _ _ _ (fun u a hu => canonical_cdcWindow hu _))

theorem canonical_execStrobe {s : State} (h : s.Canonical) (id also : ℕ) (ues : List (ℕ × DramErr)) :
    NextCanonical (execStrobe id also ues s) := by
  unfold execStrobe
  exact nextCanonical_next (canonical_scheduled h _ _ _ _ (fun u a hu => canonical_schStrobe hu ..))

theorem canonical_execGenSwitch {s : State} (h : s.Canonical) (id : ℕ) (ue : Option DramErr) :
    NextCanonical (execGenSwitch id ue s) := by
  unfold execGenSwitch
  exact nextCanonical_next (canonical_scheduled h _ _ _ _ (fun u a hu => canonical_genSwitch hu ..))

theorem canonical_execKeyRotate {s : State} (h : s.Canonical) (id : ℕ) : NextCanonical (execKeyRotate id s) := by
  unfold execKeyRotate
  exact nextCanonical_next (canonical_scheduled h _ _ _ _ (fun u a hu => canonical_keyRotate hu _))

theorem canonical_execSwapDrill {s : State} (h : s.Canonical) (id : ℕ) : NextCanonical (execSwapDrill id s) := by
  unfold execSwapDrill
  exact nextCanonical_next (canonical_scheduled h _ _ _ _ (fun u a hu => canonical_swapDrill hu))

theorem canonical_execGnssEpoch {s : State} (h : s.Canonical) (id : ℕ) (caps : List GnsCap) :
    NextCanonical (execGnssEpoch id caps s) := by
  unfold execGnssEpoch
  exact nextCanonical_next (canonical_scheduled h _ _ _ _ (fun u a hu => canonical_gnsEpoch hu _))

theorem canonical_execPlanishWake {s : State} (h : s.Canonical) (id : ℕ) : NextCanonical (execPlanishWake id s) := by
  unfold execPlanishWake
  exact nextCanonical_next (canonical_scheduled h _ _ _ _ (fun u a hu => canonical_planishWake hu _))

theorem canonical_execGflTime {s : State} (h : s.Canonical) (id : ℕ) : NextCanonical (execGflTime id s) := by
  unfold execGflTime
  exact nextCanonical_next (canonical_scheduled h _ _ _ _ (fun u a hu => canonical_gflTime hu ..))

theorem canonical_execGnssBurst {s : State} (h : s.Canonical) (id : ℕ) : NextCanonical (execGnssBurst id s) := by
  unfold execGnssBurst
  exact nextCanonical_next (canonical_scheduled h _ _ _ _ (fun u a hu => canonical_gnsBurst hu))

theorem canonical_outBypassed {s : State} (h : s.Canonical) (o : ℕ) : (s.outBypassed o).Canonical := by
  unfold State.outBypassed
  extract_lets d
  clear_value d
  exact canonical_ite (canonical_outHold h _) (canonical_padOut h ..)

theorem canonical_burnBypass {s : State} (h : s.Canonical) (b fail : ℕ) : (s.burnBypass b fail).Canonical := by
  unfold State.burnBypass
  extract_lets s1 s2
  have hs1 : s1.Canonical := canonical_count (canonical_add (canonical_burnTo h ..) ..) _
  have hs2 : s2.Canonical := canonical_ite hs1 (canonical_set hs1 ..)
  clear_value s1 s2
  exact canonical_foldl (fun u a hu => canonical_ite (canonical_outBypassed (canonical_set hu ..) _) hu) hs2

theorem canonical_execBurnSearchDone {s : State} (h : s.Canonical) (b : ℕ) (pfd : Option ℕ) (band : ℕ) :
    NextCanonical (execBurnSearchDone b pfd band s) := by
  unfold execBurnSearchDone
  refine nextCanonical_next (canonical_ite ?_ h)
  split
  · exact canonical_burnBypass h ..
  · extract_lets __src s1
    have hs1 : s1.Canonical := canonical_setBurn (canonical_set h ..) ..
    clear_value __src s1
    exact canonical_ite (canonical_burnBypass hs1 ..) (canonical_burnTo (canonical_set hs1 ..) ..)

theorem canonical_execBurnLockDeclared {s : State} (h : s.Canonical) (b : ℕ) (err : ℤ) :
    NextCanonical (execBurnLockDeclared b err s) := by
  unfold execBurnLockDeclared
  exact nextCanonical_next (canonical_ite (canonical_burnTo (canonical_setI h ..) ..) h)

theorem canonical_execBurnAcqTimeout {s : State} (h : s.Canonical) (b : ℕ) : NextCanonical (execBurnAcqTimeout b s) := by
  unfold execBurnAcqTimeout
  exact nextCanonical_next (canonical_ite (canonical_burnBypass (canonical_runTo h _) ..) h)

theorem canonical_execBurnRefLost {s : State} (h : s.Canonical) (b : ℕ) : NextCanonical (execBurnRefLost b s) := by
  unfold execBurnRefLost
  exact nextCanonical_next (canonical_ite (canonical_burnBypass h ..) h)

theorem canonical_execBurnLockLost {s : State} (h : s.Canonical) (b : ℕ) (err : ℤ) : NextCanonical (execBurnLockLost b err
    s) := by
  unfold execBurnLockLost
  exact nextCanonical_next (canonical_ite (canonical_burnBypass (canonical_setI h ..) ..) h)

theorem canonical_execBurnSourceReturn {s : State} (h : s.Canonical) (b : ℕ) : NextCanonical (execBurnSourceReturn b s) := by
  unfold execBurnSourceReturn
  refine nextCanonical_next (canonical_ite ?_ h)
  extract_lets s1
  have hs1 : s1.Canonical := canonical_runTo h _
  clear_value s1
  exact canonical_ite (canonical_burnSearch hs1 _) hs1

theorem canonical_execBypassClockLost {s : State} (h : s.Canonical) : NextCanonical (execBypassClockLost s) := by
  unfold execBypassClockLost
  refine nextCanonical_next ?_
  extract_lets s1
  have hs1 : s1.Canonical := canonical_set h ..
  clear_value s1
  exact canonical_foldl (fun u a hu => canonical_ite (canonical_outBypassed hu _) hu) hs1

theorem canonical_execOutputReturn {s : State} (h : s.Canonical) (o : ℕ) : NextCanonical (execOutputReturn o s) := by
  unfold execOutputReturn
  refine nextCanonical_next ?_
  extract_lets b sec s1
  have hs1 : s1.Canonical := canonical_runTo h _
  clear_value b sec s1
  exact canonical_ite (canonical_ite (canonical_outStopped hs1 _) (canonical_outStartAt (canonical_ite (canonical_outHold
      hs1 _) hs1) ..)) h

theorem canonical_execSyncinEdge {s : State} (h : s.Canonical) : NextCanonical (execSyncinEdge s) := by
  unfold execSyncinEdge
  refine nextCanonical_next (canonical_ite ?_ (canonical_count (canonical_addSat h ..) _))
  extract_lets mask s1 __src s2
  have hs1 : s1.Canonical := canonical_count (canonical_set (canonical_add (canonical_set h ..) ..) ..) _
  have hs2 : s2.Canonical := canonical_upd hs1 (by rfl)
  clear_value mask s1 __src s2
  refine canonical_foldl (fun u a hu => canonical_ite ?_ hu) hs2
  extract_lets s3
  have hs3 : s3.Canonical := canonical_ite hu (canonical_outStartAt hu ..)
  clear_value s3
  exact canonical_set hs3 ..

theorem canonical_execPulseEnd {s : State} (h : s.Canonical) (g : ℕ) : NextCanonical (execPulseEnd g s) := by
  unfold execPulseEnd
  refine nextCanonical_next ?_
  split
  · refine canonical_ite ?_ h
    extract_lets s1 __src
    have hs1 : s1.Canonical := canonical_runTo h _
    clear_value s1 __src
    exact canonical_gEdge (canonical_setPin hs1 ..) ..
  · exact h

theorem canonical_tcSend {s : State} (h : s.Canonical) (g : ℕ) : (s.tcSend g).Canonical := by
  unfold State.tcSend
  extract_lets o i e x due t sec sod
  clear_value o i e x due t sec sod
  refine canonical_ite ?_ h
  split
  · extract_lets doy el
    clear_value doy el
    exact canonical_padOut (canonical_setPin h ..) ..

theorem canonical_execTimecodeElement {s : State} (h : s.Canonical) (g : ℕ) : NextCanonical (execTimecodeElement g s) := by
  unfold execTimecodeElement
  exact nextCanonical_next (canonical_ite (canonical_tcSend (canonical_runTo h _) _) h)

theorem canonical_execAesRxZPreamble {s : State} (h : s.Canonical) (m status : ℕ) (ppb : ℤ) :
    NextCanonical (execAesRxZPreamble m status ppb s) := by
  unfold execAesRxZPreamble
  refine nextCanonical_next (canonical_ite ?_ h)
  extract_lets s1 s2 __src x s3
  have hs1 : s1.Canonical := canonical_add (canonical_set (canonical_set h ..) ..) ..
  have hs2 : s2.Canonical := canonical_setI hs1 ..
  have hs3 : s3.Canonical := canonical_setAes hs2 ..
  clear_value s1 s2 __src x s3
  exact canonical_ite (canonical_setAes (canonical_set hs2 ..) ..) (canonical_ite (canonical_set hs3 ..) hs3)

theorem canonical_aesSend {s : State} (h : s.Canonical) (m q : ℕ) (follower : Bool) : (s.aesSend m q follower).Canonical := by
  unfold State.aesSend
  extract_lets x mute s1 b s2
  have hs1 : s1.Canonical := canonical_add (canonical_set (canonical_set h ..) ..) ..
  have hs2 : s2.Canonical := canonical_emitOut hs1 _
  clear_value x mute s1 b s2
  exact canonical_setAes hs2 ..

theorem canonical_execAesTxBlock {s : State} (h : s.Canonical) (m fill : ℕ) : NextCanonical (execAesTxBlock m fill s) := by
  unfold execAesTxBlock
  refine nextCanonical_next (canonical_ite ?_ h)
  extract_lets x q slip s1 s2
  have hs1 : s1.Canonical := canonical_set h ..
  have hs2 : s2.Canonical := canonical_ite (canonical_count (canonical_add hs1 ..) _) hs1
  clear_value x q slip s1 s2
  split
  · exact canonical_aesSend (canonical_runTo h _) ..
  · exact canonical_aesHold (canonical_runTo h _) _
  · exact canonical_aesHold h _
  · exact canonical_aesSend hs2 ..
  · exact h

theorem canonical_execAesResume {s : State} (h : s.Canonical) (m : ℕ) : NextCanonical (execAesResume m s) := by
  unfold execAesResume
  refine nextCanonical_next ?_
  extract_lets x mode x1 a s1
  have hs1 : s1.Canonical := canonical_set (canonical_runTo h _) ..
  clear_value x mode x1 a s1
  exact canonical_ite (canonical_ite (canonical_aesSend (canonical_setAes hs1 ..) ..) (canonical_ite (canonical_setAes
      (canonical_set (canonical_runTo h _) ..) ..) h)) h

theorem canonical_portFault {s : State} (h : s.Canonical) (p cause : ℕ) : (s.portFault p cause).Canonical := by
  unfold State.portFault
  extract_lets __src s1 s2
  have hs1 : s1.Canonical := canonical_setPort h ..
  have hs2 : s2.Canonical := canonical_ite (canonical_set hs1 ..) (canonical_ite (canonical_set hs1 ..) hs1)
  clear_value __src s1 s2
  exact canonical_ite (canonical_leaveUp hs2 ..) hs2

theorem canonical_execPcsLockChange {s : State} (h : s.Canonical) (p : ℕ) (lock : Bool) :
    NextCanonical (execPcsLockChange p lock s) := by
  unfold execPcsLockChange
  refine nextCanonical_next (canonical_ite ?_ h)
  extract_lets s1 __src
  have hs1 : s1.Canonical := canonical_synceLock (canonical_setB h ..) ..
  clear_value s1 __src
  exact canonical_ite (canonical_setPort hs1 ..) (canonical_portFault hs1 ..)

theorem canonical_execPortUpTimer {s : State} (h : s.Canonical) (p : ℕ) : NextCanonical (execPortUpTimer p s) := by
  unfold execPortUpTimer
  refine nextCanonical_next (canonical_ite ?_ h)
  extract_lets s1 s2
  have hs1 : s1.Canonical := canonical_runTo h _
  have hs2 : s2.Canonical := canonical_ethLink (canonical_set hs1 ..) ..
  clear_value s1 s2
  exact canonical_ite (canonical_leaveUp hs2 ..) (canonical_ite (canonical_leaveUp hs2 ..) hs2)

theorem canonical_execPortFault {s : State} (h : s.Canonical) (p cause : ℕ) : NextCanonical (execPortFault p cause s) := by
  unfold execPortFault
  exact nextCanonical_next (canonical_ite (canonical_portFault h ..) (canonical_ite (canonical_portFault
      (canonical_synceLock (canonical_set h ..) ..) ..) h))

theorem canonical_execPortFaultClear {s : State} (h : s.Canonical) (p : ℕ) : NextCanonical (execPortFaultClear p s) := by
  unfold execPortFaultClear
  refine nextCanonical_next (canonical_ite ?_ (canonical_ite ?_ h))
  · extract_lets s1 s2
    have hs1 : s1.Canonical := canonical_runTo h _
    have hs2 : s2.Canonical := canonical_set (canonical_set hs1 ..) ..
    clear_value s1 s2
    exact canonical_ethLink (canonical_set hs2 ..) ..
  · extract_lets s1
    have hs1 : s1.Canonical := canonical_runTo h _
    clear_value s1
    exact canonical_set (canonical_set hs1 ..) ..

theorem canonical_execGridLockChange {s : State} (h : s.Canonical) (p : ℕ) (lock : Bool) (phase : ℕ) :
    NextCanonical (execGridLockChange p lock phase s) := by
  unfold execGridLockChange
  refine nextCanonical_next (canonical_ite ?_ h)
  extract_lets s1 __src
  have hs1 : s1.Canonical := canonical_setB h ..
  clear_value s1 __src
  exact canonical_ite (canonical_setPort hs1 ..) hs1

theorem canonical_execPreemptVerify {s : State} (h : s.Canonical) (p : ℕ) : NextCanonical (execPreemptVerify p s) := by
  unfold execPreemptVerify
  exact nextCanonical_next (canonical_ite (canonical_set h ..) h)

theorem canonical_loopReceive {s : State} (h : s.Canonical) (p rts bytes : ℕ) : (s.loopReceive p rts bytes).Canonical := by
  unfold State.loopReceive
  split
  · extract_lets far __src
    clear_value far __src
    split
    · split
      · extract_lets d r
        clear_value d r
        exact canonical_upd h (by rfl)
      · exact canonical_loopAbort h _
    · exact canonical_loopAbort h _
  · exact h

theorem canonical_setPause {s : State} (h : s.Canonical) (p k quanta : ℕ) : (s.setPause p k quanta).Canonical := by
  unfold State.setPause
  extract_lets x now from_ until_ z
  clear_value x now from_ until_ z
  exact canonical_ite (canonical_setPort h ..) (canonical_setPort h ..)

theorem canonical_pauseFrame {s : State} (h : s.Canonical) (p op vec : ℕ) (quanta : ℕ → ℕ) :
    (s.pauseFrame p op vec quanta).Canonical := by
  unfold State.pauseFrame
  extract_lets s1
  have hs1 : s1.Canonical := canonical_ethStat h ..
  clear_value s1
  exact canonical_ite (canonical_ite (canonical_foldl (fun u a hu => canonical_ite (canonical_setPause hu ..) hu) hs1) hs1)
      (canonical_ite (canonical_setPause hs1 ..) hs1)

theorem canonical_acceptFrame {s : State} (h : s.Canonical) (p rts len bytes : ℕ) : (s.acceptFrame p rts len
    bytes).Canonical := by
  obtain ⟨f, hf⟩ : ∃ f, f = State.acceptFrame := ⟨_, rfl⟩
  rw [← hf]
  delta State.acceptFrame at hf
  subst hf
  beta_reduce
  split
  · exact canonical_pauseFrame h ..
  split
  · exact canonical_ethStat h ..
  split
  · exact canonical_ethStat h ..
  extract_lets s1 x
  have hs1 : s1.Canonical := canonical_ethStat (canonical_ethStat h ..) ..
  split
  · exact canonical_ethStat hs1 ..
  · exact canonical_setEngine_of hs1 hs1 p p _ (by rfl)

theorem canonical_frameReceive {s : State} (h : s.Canonical) (p tpcs len : ℕ) (fcsOk err : Bool) (bytes : ℕ) :
    (s.frameReceive p tpcs len fcsOk err bytes).Canonical := by
  unfold State.frameReceive
  extract_lets st rts
  clear_value st rts
  exact canonical_ite h (canonical_ite (canonical_ethStat h ..) (canonical_ite (canonical_ethStat h ..) (canonical_ite
      (canonical_ethStat h ..) (canonical_ite (canonical_ethStat h ..) (canonical_ite (canonical_loopReceive h ..)
          (canonical_acceptFrame h ..))))))

theorem canonical_execFrameReceive {s : State} (h : s.Canonical) (p tpcs len : ℕ) (fcsOk err : Bool) (bytes : ℕ) :
    NextCanonical (execFrameReceive p tpcs len fcsOk err bytes s) := by
  unfold execFrameReceive
  exact nextCanonical_next (canonical_frameReceive h ..)

theorem canonical_execPauseEnd {s : State} (h : s.Canonical) (p k : ℕ) : NextCanonical (execPauseEnd p k s) := by
  unfold execPauseEnd
  refine nextCanonical_next ?_
  split
  · refine canonical_ite ?_ h
    extract_lets s1 __src
    have hs1 : s1.Canonical := canonical_runTo h _
    clear_value s1 __src
    exact canonical_setPort hs1 ..
  · exact h

theorem canonical_execPauseWatchdog {s : State} (h : s.Canonical) (p k : ℕ) : NextCanonical (execPauseWatchdog p k s) := by
  unfold execPauseWatchdog
  refine nextCanonical_next ?_
  split
  · extract_lets due s1 __src
    have hs1 : s1.Canonical := canonical_runTo h _
    clear_value due s1 __src
    exact canonical_ite (canonical_ethStat (canonical_setPort hs1 ..) ..) h
  · exact h

theorem canonical_keyMiss {s : State} (h : s.Canonical) : (s.keyMiss).Canonical := by
  unfold State.keyMiss
  exact canonical_kvtStat h _

theorem canonical_ntpBody {s : State} (h : s.Canonical) (j : HJob) (vn poll xmit recv l : ℕ) (kod : Bool) (nts : Option
    NtsReq) (key : Option (ℕ × ℕ)) :
    (s.ntpBody j vn poll xmit recv l kod nts key).1.Canonical := by
  unfold State.ntpBody
  extract_lets t lq b h1 r
  clear_value t lq b h1 r
  split
  · split
    · rename_i x s1 cs e
      have hs1 : s1.Canonical := canonical_fst (canonical_makeCookies h ..) e
      extract_lets r1 nonce
      clear_value r1 nonce
      exact canonical_draw hs1
  · exact h

theorem canonical_jobBody {s : State} (h : s.Canonical) (j : HJob) (l : ℕ) (key : Option (ℕ × ℕ)) :
    (s.jobBody j l key).1.Canonical := by
  unfold State.jobBody
  extract_lets q
  clear_value q
  split
  · split
    · rename_i x s1 r e
      have hs1 : s1.Canonical := canonical_fst (canonical_ntpBody h ..) e
      exact hs1
  · exact h
  · exact h
  · exact h

theorem canonical_addResv {s : State} (h : s.Canonical) (p : ℕ) (r : Resv) : (s.addResv p r).Canonical := by
  unfold State.addResv
  exact canonical_setPort h ..

theorem canonical_sealJob {s : State} (h : s.Canonical) (j : HJob) (key : Option (ℕ × ℕ)) (excl : List ℕ) (lat : ℕ) :
    (s.sealJob j key excl lat).Canonical := by
  unfold State.sealJob
  extract_lets len lreq
  clear_value len lreq
  split
  · refine canonical_ite ?_ h
    split
    · rename_i x s1 b e
      have hs1 : s1.Canonical := canonical_fst (canonical_jobBody h ..) e
      exact canonical_addResv hs1 ..
  · exact canonical_hmkStat h _

theorem canonical_answerSent {s : State} (h : s.Canonical) (t : ℕ) (b : Body) : (s.answerSent t b).Canonical := by
  unfold State.answerSent
  exact canonical_ite (canonical_tcount (canonical_hmkStat h _) ..) h

theorem canonical_beAnswer {s : State} (h : s.Canonical) (p tenant len : ℕ) (b : Body) : (s.beAnswer p tenant len
    b).Canonical := by
  unfold State.beAnswer
  exact canonical_ite h (canonical_answerSent (canonical_addBe h ..) ..)

theorem canonical_jobBestEffort {s : State} (h : s.Canonical) (j : HJob) (key : Option (ℕ × ℕ)) :
    (s.jobBestEffort j key).Canonical := by
  unfold State.jobBestEffort
  refine canonical_ite h ?_
  extract_lets len
  clear_value len
  split
  · rename_i x s1 b e
    have hs1 : s1.Canonical := canonical_fst (canonical_jobBody h ..) e
    exact canonical_beAnswer hs1 ..

theorem canonical_launchRequest {s : State} (h : s.Canonical) (p : ℕ) (excl : List ℕ) (lat : ℕ) :
    (s.launchRequest p excl lat).Canonical := by
  unfold State.launchRequest
  split
  · extract_lets s1
    have hs1 : s1.Canonical := canonical_setJobs h ..
    clear_value s1
    refine canonical_ite (canonical_hmkStat hs1 _) ?_
    split
    · exact canonical_keyMiss hs1
    · refine canonical_ite (canonical_sealJob hs1 ..) ?_
      split
      · exact canonical_jobBestEffort hs1 ..
      · exact canonical_jobBestEffort (canonical_runTo hs1 _) ..
      · exact canonical_hmkStat hs1 _
  · exact h

theorem canonical_execLaunchRequest {s : State} (h : s.Canonical) (p : ℕ) (excl : List ℕ) (lat : ℕ) :
    NextCanonical (execLaunchRequest p excl lat s) := by
  unfold execLaunchRequest
  exact nextCanonical_next (canonical_launchRequest h ..)

theorem canonical_launchStart {s : State} (h : s.Canonical) (p : ℕ) (dev : ℤ) : (s.launchStart p dev).Canonical := by
  unfold State.launchStart
  split
  · refine canonical_ite h ?_
    extract_lets s1 x s2 x1 bad s3 s4 x2 s5
    have hs1 : s1.Canonical := canonical_runTo h _
    have hs2 : s2.Canonical := canonical_setPort hs1 ..
    have hs3 : s3.Canonical := canonical_setPort hs2 ..
    have hs4 : s4.Canonical := canonical_emitOut hs3 _
    have hs5 : s5.Canonical := canonical_sent (canonical_ethStat hs4 ..) ..
    clear_value s1 x s2 x1 bad s3 s4 x2 s5
    exact canonical_ite (canonical_ethStat hs2 ..) (canonical_ite (canonical_ethStat hs2 ..) (canonical_ite
        (canonical_ethStat (canonical_setPort hs4 ..) ..) (canonical_ite (canonical_answerSent hs5 ..) hs5)))
  · exact h

theorem canonical_execLaunchStart {s : State} (h : s.Canonical) (p : ℕ) (dev : ℤ) : NextCanonical (execLaunchStart p dev s)
    := by
  unfold execLaunchStart
  exact nextCanonical_next (canonical_ite (canonical_launchStart h ..) h)

theorem canonical_launchEmpty {s : State} (h : s.Canonical) (p : ℕ) : (s.launchEmpty p).Canonical := by
  unfold State.launchEmpty
  split
  · refine canonical_ite ?_ h
    extract_lets s1 x
    have hs1 : s1.Canonical := canonical_runTo h _
    clear_value s1 x
    exact canonical_ethStat (canonical_setPort hs1 ..) ..
  · exact h

theorem canonical_execLaunchEmpty {s : State} (h : s.Canonical) (p : ℕ) : NextCanonical (execLaunchEmpty p s) := by
  unfold execLaunchEmpty
  exact nextCanonical_next (canonical_ite (canonical_launchEmpty h _) h)

theorem canonical_beStart {s : State} (h : s.Canonical) (p tpcs : ℕ) : (s.beStart p tpcs).Canonical := by
  unfold State.beStart
  refine canonical_ite ?_ h
  split
  · extract_lets s1 x now bt stamp next fits room frag kind s2 s3 s4 s5
    have hs1 : s1.Canonical := canonical_runTo h _
    have hs2 : s2.Canonical := canonical_setPort hs1 ..
    have hs3 : s3.Canonical := canonical_sent (canonical_emitOut hs2 _) ..
    have hs4 : s4.Canonical := canonical_txtsOf hs3 ..
    have hs5 : s5.Canonical := canonical_setPort hs1 ..
    clear_value s1 x now bt stamp next fits room frag kind s2 s3 s4 s5
    refine canonical_ite hs1 (canonical_ite ?_ (canonical_ite (canonical_ethStat (canonical_emitOut hs5 _) ..)
        (canonical_ite hs1 (canonical_ethStat (canonical_setPort hs1 ..) ..))))
    split
    · exact canonical_finish hs4 ..
    · exact hs4
  · exact h

theorem canonical_execBeFrameStart {s : State} (h : s.Canonical) (p tpcs : ℕ) : NextCanonical (execBeFrameStart p tpcs s)
    := by
  unfold execBeFrameStart
  exact nextCanonical_next (canonical_beStart h ..)

theorem canonical_execTxtsOverflowEntry {s : State} (h : s.Canonical) (p : ℕ) : NextCanonical (execTxtsOverflowEntry p s)
    := by
  unfold execTxtsOverflowEntry
  refine nextCanonical_next ?_
  split
  · refine canonical_ite ?_ h
    extract_lets x e
    clear_value x e
    exact canonical_set (canonical_txtsFill (canonical_setPort h ..) _) ..
  · exact h

theorem canonical_setQueue {s : State} (h : s.Canonical) (p : ℕ) (l : List HReq) : (s.setQueue p l).Canonical := by
  unfold State.setQueue
  exact canonical_upd h (by rfl)

theorem canonical_askOwner {s : State} (h : s.Canonical) (l : ℕ) (q : State.Req) (code tlv : ℕ) (x : UniTlv) (seq : ℕ) :
    (s.askOwner l q code tlv x seq).Canonical := by
  unfold State.askOwner
  extract_lets tag w __src s1
  have hs1 : s1.Canonical := canonical_upd h (by rfl)
  clear_value tag w __src s1
  exact canonical_sendCell (canonical_add hs1 ..) ..

theorem canonical_sendShard {s : State} (h : s.Canonical) (l : ℕ) (q : State.Req) : (s.sendShard l q).Canonical := by
  unfold State.sendShard
  split
  · exact canonical_askOwner h ..
  · exact canonical_ite (canonical_askOwner h ..) (canonical_foldl (fun u a hu => canonical_askOwner hu ..) h)

theorem canonical_chargeEntry {s : State} (h : s.Canonical) (cfg : Option HCfg) (c : Client) (vlan now nowSec : ℕ) (ntp :
    Bool) :
    (s.chargeEntry cfg c vlan now nowSec ntp).1.Canonical := by
  unfold State.chargeEntry
  extract_lets c1 t
  clear_value c1 t
  split
  · exact canonical_hmkStat (canonical_writeClient h ..) _
  · split
    · exact canonical_writeClient h ..
    · split
      · exact canonical_tcount (canonical_hmkStat (canonical_writeClient h ..) _) ..
      · exact canonical_tcount (canonical_hmkStat (canonical_writeClient h ..) _) ..

theorem canonical_overflow {s : State} (h : s.Canonical) (c : Option HCfg) (t : ℕ) : (s.overflow c t).1.Canonical := by
  unfold State.overflow
  extract_lets r __src
  clear_value r __src
  split
  · extract_lets lv ok lv1
    clear_value lv ok lv1
    exact canonical_upd h (by rfl)

theorem canonical_chargeClient {s : State} (h : s.Canonical) (cfg : Option HCfg) (t p kind addr vlan now nowSec : ℕ) (ntp
    miss : Bool) (ue : Option DramErr) :
    (s.chargeClient cfg t p kind addr vlan now nowSec ntp miss ue).1.Canonical := by
  have hv : ∀ {u : State}, u.Canonical → (u.overflow cfg t).1.Canonical := fun hu => canonical_overflow hu cfg t
  obtain ⟨f, hf⟩ : ∃ f, f = State.chargeClient := ⟨_, rfl⟩
  obtain ⟨g, hg⟩ : ∃ g, g = State.overflow := ⟨_, rfl⟩
  rw [← hf]
  rw [← hg] at hv
  delta State.chargeClient at hf
  rw [← hg] at hf
  clear hg
  subst hf
  beta_reduce
  extract_lets s1 found
  have hs1 : s1.Canonical := canonical_ite (canonical_hmkStat h _) h
  clear_value s1 found
  split
  rename_i s2 found2 h2
  have hs2 : s2.Canonical := by
    split at h2
    · have hd := canonical_dramRead hs1 (if miss = true then ue else none)
      generalize s1.dramRead _ = q at hd h2
      obtain ⟨s3, ue3⟩ := q
      dsimp only at hd h2
      split at h2
      · cases h2
        exact canonical_hmkStat (canonical_hmk (canonical_deleteClient (canonical_dramUe hd ..) _) _) _
      · cases h2
        exact hd
    · cases h2
      exact hs1
  clear h2
  split
  · exact canonical_chargeEntry hs2 ..
  split
  · have hn := canonical_newClient hs2 t p kind addr vlan now (s2.cg cfg (F.HMK_TEN_CFG_BURST t))
    generalize s2.newClient t p kind addr vlan now _ = q at hn ⊢
    exact canonical_chargeEntry hn ..
  · extract_lets s3
    have ho : (g s3 cfg t).1.Canonical := hv (canonical_tcount (canonical_hmkStat hs2 _) ..)
    generalize g s3 cfg t = q at ho ⊢
    obtain ⟨s4, ok⟩ := q
    cases ok
    · exact canonical_tcount (canonical_hmkStat ho _) ..
    · exact ho

theorem canonical_addJob {s : State} (h : s.Canonical) (j : HJob) : (s.addJob j).Canonical := by
  unfold State.addJob
  exact canonical_ite (canonical_hmkStat h _) (canonical_setJobs h ..)

theorem canonical_jobOf {s : State} (h : s.Canonical) (q : State.Req) (w : JobWhat) : (s.jobOf q w).Canonical := by
  unfold State.jobOf
  exact canonical_addJob h _

theorem canonical_serveNtp {s : State} (h : s.Canonical) (q : State.Req) (kod : Bool) (vn poll xmit : ℕ) (nts : Option
    NtsReq) :
    (s.serveNtp q kod vn poll xmit nts).Canonical := by
  unfold State.serveNtp
  extract_lets w s1
  have hs1 : s1.Canonical := canonical_tcount (canonical_hmkStat h _) ..
  clear_value w s1
  split
  · exact canonical_jobOf h ..
  · exact canonical_ite (canonical_jobOf h ..) (canonical_beAnswer hs1 ..)

theorem canonical_serveDelay {s : State} (h : s.Canonical) (q : State.Req) (granted : Bool) (seq : ℕ) (corr : ℤ) (client :
    ℕ) :
    (s.serveDelay q granted seq corr client).Canonical := by
  unfold State.serveDelay
  exact canonical_ite (canonical_jobOf h ..) (canonical_hmkStat h _)

theorem canonical_denyGrant {s : State} (h : s.Canonical) (t : ℕ) (q : UniTlv) : (s.denyGrant t q).1.Canonical := by
  unfold State.denyGrant
  exact canonical_tcount (canonical_hmkStat h _) ..

theorem canonical_unicastTlv {s : State} (h : s.Canonical) (cfg : Option HCfg) (t p kind addr seq arrival : ℕ) (q : UniTlv) :
    (s.unicastTlv cfg t p kind addr seq arrival q).1.Canonical := by
  unfold State.unicastTlv
  split
  · extract_lets cur d g
    clear_value cur d g
    split
    · exact canonical_settleLoad (canonical_hmkStat (canonical_writeClient h ..) _)
    · split
      · exact canonical_hmkStat h _
      · split
        · exact canonical_settleLoad (canonical_tcount (canonical_hmkStat (canonical_writeClient h ..) _) ..)
        · exact canonical_denyGrant h ..
  · split
    · exact canonical_hmkStat h _
    · exact canonical_denyGrant h ..

theorem canonical_sendSignaling {s : State} (h : s.Canonical) (q : State.Req) (seq client : ℕ) (tlvs : List UniTlv) :
    (s.sendSignaling q seq client tlvs).Canonical := by
  unfold State.sendSignaling
  split
  · exact canonical_keyMiss h
  · extract_lets m n
    clear_value m n
    exact canonical_beAnswer h ..

theorem canonical_serveHere {s : State} (h : s.Canonical) (q : State.Req) : (s.serveHere q).Canonical := by
  unfold State.serveHere
  extract_lets f now sec
  split
  · have hc := canonical_chargeClient h q.r.cfg q.t f.port q.m.kind q.m.src q.m.vlan now sec true q.m.miss q.m.ue
    generalize s.chargeClient q.r.cfg q.t f.port q.m.kind q.m.src q.m.vlan now sec true q.m.miss q.m.ue = r at hc ⊢
    exact canonical_ite (canonical_serveNtp hc ..) hc
  · have hc := canonical_chargeClient h q.r.cfg q.t f.port q.m.kind q.m.src q.m.vlan now sec false q.m.miss q.m.ue
    generalize s.chargeClient q.r.cfg q.t f.port q.m.kind q.m.src q.m.vlan now sec false q.m.miss q.m.ue = r at hc ⊢
    obtain ⟨s1, v⟩ := r
    dsimp only at hc ⊢
    split
    · exact hc
    split
    · exact canonical_serveDelay hc ..
    · rename_i seq _ client tlvs _ _ _ _
      have hf := canonical_foldl_fst (g := fun (a : State × List UniTlv) (t : ℕ × UniTlv) =>
          ((a.1.unicastTlv q.r.cfg q.t f.port q.m.kind q.m.src seq sec t.2).1,
            a.2 ++ [(a.1.unicastTlv q.r.cfg q.t f.port q.m.kind q.m.src seq sec t.2).2.1]))
        (fun a t ha => canonical_unicastTlv ha ..) (State.asking tlvs) (a := (s1, [])) hc
      exact canonical_ite hf (canonical_sendSignaling hf ..)

theorem canonical_serveKey {s : State} (h : s.Canonical) (q : State.Req) : (s.serveKey q).Canonical := by
  unfold State.serveKey
  extract_lets map
  clear_value map
  split
  · exact canonical_sendShard h ..
  · exact canonical_serveHere (canonical_add h ..) _
  · exact canonical_serveHere h _

theorem canonical_hmkRequest {s : State} (h : s.Canonical) (p : ℕ) (m : ReqMsg) : (s.hmkRequest p m).Canonical := by
  unfold State.hmkRequest
  split
  · extract_lets s1
    have hs1 : s1.Canonical := canonical_hmkStat (canonical_setQueue h ..) _
    clear_value s1
    refine canonical_ite (canonical_hmkStat hs1 _) (canonical_ite (canonical_hmkStat hs1 _) ?_)
    split
    · exact canonical_hmkStat hs1 _
    · extract_lets s2 q
      have hs2 : s2.Canonical := canonical_tcount hs1 ..
      clear_value s2 q
      split
      · extract_lets s3
        have hs3 : s3.Canonical := canonical_hmkStat hs2 _
        clear_value s3
        exact canonical_ite (canonical_tcount hs3 ..) hs3
      · exact canonical_serveKey hs2 _
  · exact h

theorem canonical_execHmkRequest {s : State} (h : s.Canonical) (p : ℕ) (m : ReqMsg) : NextCanonical (execHmkRequest p m s)
    := by
  unfold execHmkRequest
  exact nextCanonical_next (canonical_hmkRequest h ..)

theorem canonical_staleReq {s : State} (h : s.Canonical) (p : ℕ) : (s.staleReq p).Canonical := by
  unfold State.staleReq
  split
  · exact canonical_ite h (canonical_hmkStat (canonical_setJobs (canonical_runTo h _) ..) _)
  · extract_lets s1 __src
    have hs1 : s1.Canonical := canonical_runTo h _
    clear_value s1 __src
    exact canonical_hmkStat (canonical_upd hs1 (by rfl)) _
  · exact canonical_hmkStat (canonical_setQueue (canonical_runTo h _) ..) _
  · exact h

theorem canonical_execStaleReq {s : State} (h : s.Canonical) (p : ℕ) : NextCanonical (execStaleReq p s) := by
  unfold execStaleReq
  exact nextCanonical_next (canonical_staleReq h _)

theorem canonical_setFlow {s : State} (h : s.Canonical) (f : Flow) : (s.setFlow f).Canonical := by
  unfold State.setFlow
  extract_lets same __src
  clear_value __src
  exact canonical_upd h (by rfl)

theorem canonical_scheduleMsg {s : State} (h : s.Canonical) (t p msg : ℕ) (client : Option (ℕ × ℕ)) :
    (s.scheduleMsg t p msg client).Canonical := by
  unfold State.scheduleMsg
  refine canonical_ite h ?_
  split
  · exact h
  · extract_lets per f m first n s1 s2 kind c
    have hs1 : s1.Canonical := canonical_runTo h _
    have hs2 : s2.Canonical := canonical_setFlow hs1 _
    clear_value per f m first n s1 s2 kind c
    exact canonical_addJob hs2 _

theorem canonical_execAnnounceSyncSend {s : State} (h : s.Canonical) (t p msg : ℕ) (client : Option (ℕ × ℕ)) :
    NextCanonical (execAnnounceSyncSend t p msg client s) := by
  unfold execAnnounceSyncSend
  exact nextCanonical_next (canonical_scheduleMsg h ..)

theorem canonical_reclaim {s : State} (h : s.Canonical) (t p kind addr : ℕ) : (s.reclaim t p kind addr).Canonical := by
  unfold State.reclaim
  split
  · extract_lets idle live
    clear_value idle live
    exact canonical_ite (canonical_deleteClient h _) h
  · exact h

theorem canonical_execClientReclaim {s : State} (h : s.Canonical) (t p kind addr : ℕ) :
    NextCanonical (execClientReclaim t p kind addr s) := by
  unfold execClientReclaim
  exact nextCanonical_next (canonical_reclaim h ..)

theorem canonical_patrol {s : State} (h : s.Canonical) (chB : Bool) (cls region syn : ℕ) (last : Bool) (entry : Option (ℕ ×
    ℕ × ℕ)) :
    (s.patrol chB cls region syn last entry).Canonical := by
  unfold State.patrol
  extract_lets c a __src s1 s2 s3
  have hs1 : s1.Canonical := canonical_upd h (by rfl)
  have hs2 : s2.Canonical := canonical_setB hs1 ..
  have hs3 : s3.Canonical := canonical_ite (canonical_count hs2 _) hs2
  clear_value c a __src s1 s2 s3
  refine canonical_ite h ?_
  split
  · rename_i x s4 bad? e
    have hs4 : s4.Canonical := canonical_fst (canonical_dramRead hs3 _) e
    split
    · exact hs4
    · extract_lets s5 __src1 __src2
      have hs5 : s5.Canonical := canonical_dramUe hs4 ..
      clear_value s5 __src1 __src2
      refine canonical_ite (canonical_settleDiag (canonical_upd hs5 (by rfl)) _) ?_
      split
      · split
        · exact canonical_hmkStat (canonical_deleteClient (canonical_upd hs5 (by rfl)) _) _
        · exact hs5
      · exact hs5

theorem canonical_execPatrolScrubRead {s : State} (h : s.Canonical) (chB : Bool) (cls region syn : ℕ) (last : Bool) (entry
    : Option (ℕ × ℕ × ℕ)) :
    NextCanonical (execPatrolScrubRead chB cls region syn last entry s) := by
  unfold execPatrolScrubRead
  exact nextCanonical_next (canonical_patrol h ..)

theorem canonical_execScrubWrite {s : State} (h : s.Canonical) (c : ℕ) : NextCanonical (execScrubWrite c s) := by
  unfold execScrubWrite
  refine nextCanonical_next ?_
  split
  · exact canonical_upd h (by rfl)
  · exact h

theorem canonical_switchBank {s : State} (h : s.Canonical) (e : ℕ) : (s.switchBank e).Canonical := by
  unfold State.switchBank
  extract_lets x
  split
  · rename_i x1 p e1
    extract_lets s1 s2
    have hs1 : s1.Canonical := canonical_setEngine h _ _ (dm_engine_wf h _) (e1 ▸ idle_engine_wf h _) bankWf_none
    have hs2 : s2.Canonical := canonical_set hs1 ..
    clear_value s1 s2
    exact canonical_ite hs2 (canonical_startEngine hs2 ..)
  · exact canonical_setEngine h _ _ (dm_engine_wf h _) (live_engine_wf h _) (idle_engine_wf h _)

theorem canonical_switchPrograms {s : State} (h : s.Canonical) (secs : List Section) : (s.switchPrograms secs).Canonical := by
  unfold State.switchPrograms
  refine canonical_foldl (fun u x hu => ?_) h
  split
  · refine canonical_switchBank (canonical_setEngine hu _ _ ?_ ?_ ?_) ..
    · exact dm_engine_wf hu _
    · exact live_engine_wf hu _
    · exact bankWf_progOf _
  · exact hu

theorem canonical_regionEffect {s : State} (h : s.Canonical) (r : ℕ) : (s.regionEffect r).Canonical := by
  unfold State.regionEffect
  split
  · refine canonical_ite ?_ h
    extract_lets __src s1 s2
    have hs1 : s1.Canonical := canonical_upd h (by rfl)
    have hs2 : s2.Canonical := canonical_ite (canonical_tagHmk hs1) hs1
    clear_value __src s1 s2
    exact canonical_switchPrograms (canonical_foldl (fun u a hu => canonical_putSection hu _) hs2) _
  · exact h

theorem canonical_execRegionEffect {s : State} (h : s.Canonical) (r : ℕ) : NextCanonical (execRegionEffect r s) := by
  unfold execRegionEffect
  exact nextCanonical_next (canonical_regionEffect h _)

theorem canonical_drainEnd {s : State} (h : s.Canonical) (r : ℕ) : (s.drainEnd r).Canonical := by
  unfold State.drainEnd
  exact canonical_ite (canonical_set h ..) h

theorem canonical_execRegionDrainEnd {s : State} (h : s.Canonical) (r : ℕ) : NextCanonical (execRegionDrainEnd r s) := by
  unfold execRegionDrainEnd
  exact nextCanonical_next (canonical_drainEnd h _)

theorem canonical_quenchEngine {s : State} (h : s.Canonical) (e mask soft : ℕ) : (s.quenchEngine e mask soft).Canonical := by
  unfold State.quenchEngine
  extract_lets x s1 s2 s3 s4 s5 s6
  have hs1 : s1.Canonical := canonical_set (canonical_set h ..) ..
  have hs2 : s2.Canonical := canonical_ite (canonical_set hs1 ..) hs1
  have hs3 : s3.Canonical := canonical_setEngine hs2 _ _ (dm_engine_wf h _) (live_engine_wf h _) (idle_engine_wf h _)
  have hs4 : s4.Canonical := canonical_ite hs3 (canonical_ethStat hs3 ..)
  have hs5 : s5.Canonical := canonical_count hs4 _
  have hs6 : s6.Canonical := canonical_ite (canonical_set hs5 ..) hs5
  clear_value s1 s2 s3 s4 s5 s6
  exact canonical_quenchRecords hs6 ..

theorem canonical_stopEngine {s : State} (h : s.Canonical) (e mask soft : ℕ) : (s.stopEngine e mask soft).Canonical := by
  unfold State.stopEngine
  extract_lets s1
  have hs1 : s1.Canonical := canonical_quenchEngine h ..
  clear_value s1
  exact canonical_ite (canonical_settleDiag hs1 _) hs1

theorem canonical_executed {s : State} (h : s.Canonical) (e c : ℕ) (stalled : Bool) : (s.executed e c stalled).Canonical := by
  unfold State.executed
  extract_lets s1
  have hs1 : s1.Canonical := canonical_countN h ..
  clear_value s1
  exact canonical_ite hs1 (canonical_count hs1 _)

theorem canonical_charge {s : State} (h : s.Canonical) (e c : ℕ) : (s.charge e c).Canonical := by
  unfold State.charge
  extract_lets x
  exact canonical_setEngine h _ _ (dm_engine_wf h _) (live_engine_wf h _) (idle_engine_wf h _)

theorem canonical_pRun {s : State} (h : s.Canonical) (opc : ℕ) (cost faults : State → ℕ → ℕ → ℕ) (act : State → ℕ → ℕ →
    State) (e : ℕ) (hact : ∀ (u : State) a b, u.Canonical → (act u a b).Canonical) :
    (State.pRun opc cost faults act e s).Canonical := by
  unfold State.pRun
  refine canonical_ite ?_ h
  split
  · exact canonical_stopEngine h ..
  · refine canonical_ite (canonical_stopEngine h ..) (canonical_ite ?_ h)
    extract_lets c bad m
    clear_value c bad m
    exact canonical_ite (canonical_executed (hact _ _ _ (canonical_charge h ..)) ..) (canonical_stopEngine h ..)

theorem canonical_pcNext {s : State} (h : s.Canonical) (e : ℕ) : (s.pcNext e).Canonical := by
  unfold State.pcNext
  exact canonical_setPc h ..

theorem canonical_setG {s : State} (h : s.Canonical) (e r v : ℕ) : (s.setG e r v).Canonical := by
  unfold State.setG
  exact canonical_ite h (canonical_set h ..)

theorem canonical_pAlu {x4 : State} (h : x4.Canonical) (opc c : ℕ) (f : ℕ → ℕ → ℕ) (x3 : ℕ) : (State.pAlu opc c f x3
    x4).Canonical := by
  unfold State.pAlu
  exact canonical_pRun h _ _ _ _ _ (fun u a b hu => canonical_pcNext (canonical_setG hu ..) _)

theorem canonical_execPlAdd {s : State} (h : s.Canonical) (e : ℕ) : NextCanonical (execPlAdd e s) := by
  unfold execPlAdd
  exact nextCanonical_next (canonical_pAlu h ..)

theorem canonical_execPlSub {s : State} (h : s.Canonical) (e : ℕ) : NextCanonical (execPlSub e s) := by
  unfold execPlSub
  exact nextCanonical_next (canonical_pAlu h ..)

theorem canonical_execPlAnd {s : State} (h : s.Canonical) (e : ℕ) : NextCanonical (execPlAnd e s) := by
  unfold execPlAnd
  exact nextCanonical_next (canonical_pAlu h ..)

theorem canonical_execPlOr {s : State} (h : s.Canonical) (e : ℕ) : NextCanonical (execPlOr e s) := by
  unfold execPlOr
  exact nextCanonical_next (canonical_pAlu h ..)

theorem canonical_execPlXor {s : State} (h : s.Canonical) (e : ℕ) : NextCanonical (execPlXor e s) := by
  unfold execPlXor
  exact nextCanonical_next (canonical_pAlu h ..)

theorem canonical_execPlShl {s : State} (h : s.Canonical) (e : ℕ) : NextCanonical (execPlShl e s) := by
  unfold execPlShl
  exact nextCanonical_next (canonical_pAlu h ..)

theorem canonical_execPlShr {s : State} (h : s.Canonical) (e : ℕ) : NextCanonical (execPlShr e s) := by
  unfold execPlShr
  exact nextCanonical_next (canonical_pAlu h ..)

theorem canonical_execPlSra {s : State} (h : s.Canonical) (e : ℕ) : NextCanonical (execPlSra e s) := by
  unfold execPlSra
  exact nextCanonical_next (canonical_pAlu h ..)

theorem canonical_execPlMul {s : State} (h : s.Canonical) (e : ℕ) : NextCanonical (execPlMul e s) := by
  unfold execPlMul
  exact nextCanonical_next (canonical_pAlu h ..)

theorem canonical_execPlSlt {s : State} (h : s.Canonical) (e : ℕ) : NextCanonical (execPlSlt e s) := by
  unfold execPlSlt
  exact nextCanonical_next (canonical_pAlu h ..)

theorem canonical_execPlSltu {s : State} (h : s.Canonical) (e : ℕ) : NextCanonical (execPlSltu e s) := by
  unfold execPlSltu
  exact nextCanonical_next (canonical_pAlu h ..)

theorem canonical_setPairG {s : State} (h : s.Canonical) (e r v : ℕ) : (s.setPairG e r v).Canonical := by
  unfold State.setPairG
  exact canonical_setG (canonical_setG h ..) ..

theorem canonical_pAluPair {x3 : State} (h : x3.Canonical) (opc : ℕ) (f : ℕ → ℕ → ℕ) (x2 : ℕ) :
    (State.pAluPair opc f x2 x3).Canonical := by
  unfold State.pAluPair
  exact canonical_pRun h _ _ _ _ _ (fun u a b hu => canonical_pcNext (canonical_setPairG hu ..) _)

theorem canonical_execPlAdd64 {s : State} (h : s.Canonical) (e : ℕ) : NextCanonical (execPlAdd64 e s) := by
  unfold execPlAdd64
  exact nextCanonical_next (canonical_pAluPair h ..)

theorem canonical_execPlSub64 {s : State} (h : s.Canonical) (e : ℕ) : NextCanonical (execPlSub64 e s) := by
  unfold execPlSub64
  exact nextCanonical_next (canonical_pAluPair h ..)

theorem canonical_execPlCmpt {s : State} (h : s.Canonical) (e : ℕ) : NextCanonical (execPlCmpt e s) := by
  unfold execPlCmpt
  exact nextCanonical_next (canonical_pRun h _ _ _ _ _ (fun u a b hu => canonical_pcNext (canonical_setG hu ..) _))

theorem canonical_pAluI {x3 : State} (h : x3.Canonical) (opc : ℕ) (f : ℕ → ℕ → ℕ) (x2 : ℕ) : (State.pAluI opc f x2
    x3).Canonical := by
  unfold State.pAluI
  exact canonical_pRun h _ _ _ _ _ (fun u a b hu => canonical_pcNext (canonical_setG hu ..) _)

theorem canonical_execPlAddi {s : State} (h : s.Canonical) (e : ℕ) : NextCanonical (execPlAddi e s) := by
  unfold execPlAddi
  exact nextCanonical_next (canonical_pAluI h ..)

theorem canonical_execPlAndi {s : State} (h : s.Canonical) (e : ℕ) : NextCanonical (execPlAndi e s) := by
  unfold execPlAndi
  exact nextCanonical_next (canonical_pAluI h ..)

theorem canonical_execPlOri {s : State} (h : s.Canonical) (e : ℕ) : NextCanonical (execPlOri e s) := by
  unfold execPlOri
  exact nextCanonical_next (canonical_pAluI h ..)

theorem canonical_execPlShli {s : State} (h : s.Canonical) (e : ℕ) : NextCanonical (execPlShli e s) := by
  unfold execPlShli
  exact nextCanonical_next (canonical_pAluI h ..)

theorem canonical_execPlShri {s : State} (h : s.Canonical) (e : ℕ) : NextCanonical (execPlShri e s) := by
  unfold execPlShri
  exact nextCanonical_next (canonical_pAluI h ..)

theorem canonical_execPlLui {s : State} (h : s.Canonical) (e : ℕ) : NextCanonical (execPlLui e s) := by
  unfold execPlLui
  exact nextCanonical_next (canonical_pAluI h ..)

theorem canonical_pLoad {x4 : State} (h : x4.Canonical) (opc n : ℕ) (ue : Bool) (x3 : ℕ) : (State.pLoad opc n ue x3
    x4).Canonical := by
  unfold State.pLoad
  exact canonical_pRun h _ _ _ _ _ (fun u a b hu => canonical_pcNext (canonical_setG hu ..) _)

theorem canonical_execPlLdw {s : State} (h : s.Canonical) (e : ℕ) (ue : Bool) : NextCanonical (execPlLdw e ue s) := by
  unfold execPlLdw
  exact nextCanonical_next (canonical_pLoad h ..)

theorem canonical_execPlLdb {s : State} (h : s.Canonical) (e : ℕ) (ue : Bool) : NextCanonical (execPlLdb e ue s) := by
  unfold execPlLdb
  exact nextCanonical_next (canonical_pLoad h ..)

theorem canonical_pStore {x3 : State} (h : x3.Canonical) (opc n x2 : ℕ) : (State.pStore opc n x2 x3).Canonical := by
  refine canonical_pRun h _ _ _ _ _ fun u e w hu => canonical_pcNext (canonical_setEngine hu _ _ ?_ ?_ ?_) _
  · exact mem_wf_write (dm_engine_wf hu e) ..
  · exact live_engine_wf hu e
  · exact idle_engine_wf hu e

theorem canonical_execPlStw {s : State} (h : s.Canonical) (e : ℕ) : NextCanonical (execPlStw e s) := by
  unfold execPlStw
  exact nextCanonical_next (canonical_pStore h ..)

theorem canonical_execPlStb {s : State} (h : s.Canonical) (e : ℕ) : NextCanonical (execPlStb e s) := by
  unfold execPlStb
  exact nextCanonical_next (canonical_pStore h ..)

theorem canonical_pcBranch {s : State} (h : s.Canonical) (e : ℕ) (off : ℤ) : (s.pcBranch e off).Canonical := by
  unfold State.pcBranch
  exact canonical_setPc h ..

theorem canonical_pBranch {x3 : State} (h : x3.Canonical) (opc : ℕ) (c : ℕ → ℕ → Bool) (x2 : ℕ) :
    (State.pBranch opc c x2 x3).Canonical := by
  unfold State.pBranch
  exact canonical_pRun h _ _ _ _ _ (fun u a b hu => canonical_ite (canonical_pcBranch hu ..) (canonical_pcNext hu _))

theorem canonical_execPlBeq {s : State} (h : s.Canonical) (e : ℕ) : NextCanonical (execPlBeq e s) := by
  unfold execPlBeq
  exact nextCanonical_next (canonical_pBranch h ..)

theorem canonical_execPlBne {s : State} (h : s.Canonical) (e : ℕ) : NextCanonical (execPlBne e s) := by
  unfold execPlBne
  exact nextCanonical_next (canonical_pBranch h ..)

theorem canonical_execPlBlt {s : State} (h : s.Canonical) (e : ℕ) : NextCanonical (execPlBlt e s) := by
  unfold execPlBlt
  exact nextCanonical_next (canonical_pBranch h ..)

theorem canonical_execPlBge {s : State} (h : s.Canonical) (e : ℕ) : NextCanonical (execPlBge e s) := by
  unfold execPlBge
  exact nextCanonical_next (canonical_pBranch h ..)

theorem canonical_execPlBltu {s : State} (h : s.Canonical) (e : ℕ) : NextCanonical (execPlBltu e s) := by
  unfold execPlBltu
  exact nextCanonical_next (canonical_pBranch h ..)

theorem canonical_execPlBgeu {s : State} (h : s.Canonical) (e : ℕ) : NextCanonical (execPlBgeu e s) := by
  unfold execPlBgeu
  exact nextCanonical_next (canonical_pBranch h ..)

theorem canonical_execPlJmp {s : State} (h : s.Canonical) (e : ℕ) : NextCanonical (execPlJmp e s) := by
  unfold execPlJmp
  exact nextCanonical_next (canonical_pRun h _ _ _ _ _ (fun u a b hu => canonical_setPc hu ..))

theorem canonical_execPlJal {s : State} (h : s.Canonical) (e : ℕ) : NextCanonical (execPlJal e s) := by
  unfold execPlJal
  exact nextCanonical_next (canonical_pRun h _ _ _ _ _ (fun u a b hu => canonical_setPc (canonical_setG hu ..) ..))

theorem canonical_execPlJr {s : State} (h : s.Canonical) (e : ℕ) : NextCanonical (execPlJr e s) := by
  unfold execPlJr
  exact nextCanonical_next (canonical_pRun h _ _ _ _ _ (fun u a b hu => canonical_setPc hu ..))

theorem canonical_execPlFault {s : State} (h : s.Canonical) (e : ℕ) : NextCanonical (execPlFault e s) := by
  unfold execPlFault
  exact nextCanonical_next (canonical_pRun h _ _ _ _ _ (fun u a b hu => hu))

theorem canonical_bldAct {s : State} (h : s.Canonical) (e w : ℕ) : (s.bldAct e w).Canonical := by
  have hput : ∀ (x : EngSt) (hi : Option (ℕ × ℕ)) (c : Prop) [Decidable c] (v : ℕ), x = s.engine e →
      (((s.setEngine e (if c then { x with bldHi := hi } else x)).setG e (pRd w) v).pcNext e).Canonical := by
    rintro x hi c _ v rfl
    refine canonical_pcNext (canonical_setG ?_ ..) _
    split
    · exact canonical_setEngine_of h h e e _ (by rfl)
    · exact canonical_setEngine_of h h e e _ (by rfl)
  unfold State.bldAct
  extract_lets a
  split
  · rename_i d i j k _
    extract_lets x word
    split
    · split
      · exact canonical_pcNext (canonical_setG (canonical_setEngine_of h h e e _ (by rfl)) ..) _
      · exact hput _ _ _ _ rfl
    · exact hput _ _ _ _ rfl
  · exact canonical_pcNext h _

theorem canonical_execPlBld {s : State} (h : s.Canonical) (e : ℕ) : NextCanonical (execPlBld e s) := by
  unfold execPlBld
  exact nextCanonical_next (canonical_pRun h _ _ _ _ _ (fun u a b hu => canonical_bldAct hu ..))

theorem canonical_bstAct {s : State} (h : s.Canonical) (e w : ℕ) : (s.bstAct e w).Canonical := by
  unfold State.bstAct
  extract_lets a was
  clear_value a was
  split
  · extract_lets s1 __src s2
    have hs1 : s1.Canonical := canonical_putLive h ..
    have hs2 : s2.Canonical := canonical_ite (canonical_upd hs1 (by rfl)) hs1
    clear_value s1 __src s2
    exact canonical_pcNext hs2 _
  · exact canonical_pcNext h _

theorem canonical_execPlBst {s : State} (h : s.Canonical) (e : ℕ) : NextCanonical (execPlBst e s) := by
  unfold execPlBst
  exact nextCanonical_next (canonical_pRun h _ _ _ _ _ (fun u a b hu => canonical_bstAct hu ..))

theorem canonical_execPlRds {s : State} (h : s.Canonical) (e : ℕ) : NextCanonical (execPlRds e s) := by
  unfold execPlRds
  exact nextCanonical_next (canonical_pRun h _ _ _ _ _ (fun u a b hu => canonical_pcNext (canonical_setG hu ..) _))

theorem canonical_pPkt {x3 : State} (h : x3.Canonical) (opc n x2 : ℕ) : (State.pPkt opc n x2 x3).Canonical := by
  refine canonical_pRun h _ _ _ _ _ fun u e w hu => ?_
  split
  · exact canonical_pcNext (canonical_setG (canonical_setEngine_of hu hu e e _ (by rfl)) ..) _
  · exact canonical_pcNext (canonical_setG (canonical_freeNat hu) ..) _

theorem canonical_execPlPktlw {s : State} (h : s.Canonical) (e : ℕ) : NextCanonical (execPlPktlw e s) := by
  unfold execPlPktlw
  exact nextCanonical_next (canonical_pPkt h ..)

theorem canonical_execPlPktlh {s : State} (h : s.Canonical) (e : ℕ) : NextCanonical (execPlPktlh e s) := by
  unfold execPlPktlh
  exact nextCanonical_next (canonical_pPkt h ..)

theorem canonical_execPlPktlb {s : State} (h : s.Canonical) (e : ℕ) : NextCanonical (execPlPktlb e s) := by
  unfold execPlPktlb
  exact nextCanonical_next (canonical_pPkt h ..)

theorem canonical_execPlPktinf {s : State} (h : s.Canonical) (e : ℕ) : NextCanonical (execPlPktinf e s) := by
  unfold execPlPktinf
  refine nextCanonical_next (canonical_pRun h _ _ _ _ _ (fun u a b hu => ?_))
  split
  · exact canonical_pcNext (canonical_setG hu ..) _
  · split
    · rename_i x w s1 e1
      have hs1 : s1.Canonical := canonical_snd (canonical_freeNat hu) e1
      exact canonical_pcNext (canonical_setG hs1 ..) _

theorem canonical_execPlPktts {s : State} (h : s.Canonical) (e : ℕ) : NextCanonical (execPlPktts e s) := by
  unfold execPlPktts
  refine nextCanonical_next (canonical_pRun h _ _ _ _ _ (fun u a b hu => ?_))
  split
  · exact canonical_pcNext (canonical_setPairG hu ..) _
  · split
    · rename_i x w s1 e1
      have hs1 : s1.Canonical := canonical_snd (canonical_freeNat hu) e1
      exact canonical_pcNext (canonical_setPairG hs1 ..) _

theorem canonical_hmkEnqueue {s : State} (h : s.Canonical) (f : RxFrame) (cls : ℕ) : (s.hmkEnqueue f cls).Canonical := by
  unfold State.hmkEnqueue
  extract_lets q
  clear_value q
  exact canonical_ite (canonical_hmkStat h _) (canonical_setQueue h ..)

theorem canonical_classify {s : State} (h : s.Canonical) (e cls : ℕ) (loc : Bool) : (s.classify e cls loc).Canonical := by
  unfold State.classify
  extract_lets x s1 s2
  have hs1 : s1.Canonical := canonical_setEngine h _ _ (dm_engine_wf h _) (live_engine_wf h _) (idle_engine_wf h _)
  have hs2 : s2.Canonical := canonical_set hs1 ..
  clear_value s1 s2
  split
  · exact canonical_ite (canonical_cellTo hs2 ..) (canonical_ite (canonical_hmkEnqueue hs2 ..) (canonical_ite
        (canonical_emitOut hs2 _) (canonical_ethStat hs2 ..)))
  · exact h

theorem canonical_execPlClass {s : State} (h : s.Canonical) (e : ℕ) : NextCanonical (execPlClass e s) := by
  unfold execPlClass
  exact nextCanonical_next (canonical_pRun h _ _ _ _ _ (fun u a b hu => canonical_pcNext (canonical_classify hu ..) _))

theorem canonical_execPlCelllw {s : State} (h : s.Canonical) (e : ℕ) : NextCanonical (execPlCelllw e s) := by
  unfold execPlCelllw
  refine nextCanonical_next (canonical_pRun h _ _ _ _ _ (fun u a b hu => canonical_ite (canonical_pcNext (canonical_setG hu
      ..) _) ?_))
  split
  · rename_i x w s1 e1
    have hs1 : s1.Canonical := canonical_snd (canonical_freeNat hu) e1
    exact canonical_pcNext (canonical_setG hs1 ..) _

theorem canonical_execPlCellsw {s : State} (h : s.Canonical) (e : ℕ) : NextCanonical (execPlCellsw e s) := by
  refine nextCanonical_next (canonical_pRun h _ _ _ _ _ fun u e w hu => ?_)
  exact canonical_ite (canonical_pcNext (canonical_setEngine_of hu hu e e _ (by rfl)) _) (canonical_pcNext hu _)

theorem canonical_putAct {s : State} (h : s.Canonical) (e w : ℕ) : (s.putAct e w).Canonical := by
  unfold State.putAct
  extract_lets x len
  exact canonical_ite (canonical_pcNext (canonical_setEngine_of h h e e _ (by rfl)) _) h

theorem canonical_execPlCellput {s : State} (h : s.Canonical) (e : ℕ) : NextCanonical (execPlCellput e s) := by
  unfold execPlCellput
  exact nextCanonical_next (canonical_pRun h _ _ _ _ _ (fun u a b hu => canonical_putAct hu ..))

theorem canonical_execPlRdt {s : State} (h : s.Canonical) (e : ℕ) : NextCanonical (execPlRdt e s) := by
  unfold execPlRdt
  exact nextCanonical_next (canonical_pRun h _ _ _ _ _ (fun u a b hu => canonical_pcNext (canonical_ite (canonical_setPairG
      hu ..) (canonical_setG hu ..)) _))

theorem canonical_beginWait {s : State} (h : s.Canonical) (e : ℕ) (w : Wait) (crossed : Bool) :
    (s.beginWait e w crossed).Canonical := by
  unfold State.beginWait
  exact canonical_set (canonical_setEngine_of h h e e _ (by rfl)) ..

theorem canonical_waittAct {s : State} (h : s.Canonical) (e w : ℕ) : (s.waittAct e w).Canonical := by
  unfold State.waittAct
  extract_lets epoch d
  clear_value d
  exact canonical_ite (canonical_pcNext (canonical_setG (canonical_setEngine_of h h e e _ (by rfl)) ..) _)
      (canonical_beginWait h ..)

theorem canonical_execPlWaitt {s : State} (h : s.Canonical) (e : ℕ) : NextCanonical (execPlWaitt e s) := by
  unfold execPlWaitt
  exact nextCanonical_next (canonical_pRun h _ _ _ _ _ (fun u a b hu => canonical_waittAct hu ..))

theorem canonical_waiteAct {s : State} (h : s.Canonical) (e w : ℕ) : (s.waiteAct e w).Canonical := by
  unfold State.waiteAct
  extract_lets s1 _ t
  have hs1 : s1.Canonical := canonical_classify h ..
  have ht : t.Canonical := canonical_ite (canonical_regionEffect (canonical_setEngine_of hs1 hs1 e e _ (by rfl)) _) hs1
  exact canonical_ite ht (canonical_beginWait ht ..)

theorem canonical_execPlWaite {s : State} (h : s.Canonical) (e : ℕ) : NextCanonical (execPlWaite e s) :=
  nextCanonical_next (canonical_pRun h _ _ _ _ _ fun _ _ _ hu => canonical_waiteAct hu ..)

theorem canonical_resume {s : State} (h : s.Canonical) (e rd v : ℕ) {x : EngSt}
    (hx : x.dm.wf = true ∧ BankWf x.live ∧ BankWf x.idle) : (s.resume e rd v x).Canonical := by
  unfold State.resume
  refine canonical_pcNext (canonical_setG (canonical_set (canonical_setEngine h _ _ ?_ ?_ ?_) ..) ..) _
  · exact hx.1
  · exact hx.2.1
  · exact hx.2.2

theorem canonical_resumeEpoch {s : State} (h : s.Canonical) (e rd : ℕ) : (s.resumeEpoch e rd).Canonical :=
  canonical_resume h _ _ _ (engine_wf h e)

theorem canonical_dropHeld {s : State} (h : s.Canonical) (e : ℕ) : (s.dropHeld e).Canonical := by
  unfold State.dropHeld
  extract_lets x
  split
  · exact canonical_ite h (canonical_ethStat h ..)
  · exact h

theorem canonical_resumeWake {s : State} (h : s.Canonical) (e rd : ℕ) (timed : Bool) : (s.resumeWake e rd timed).Canonical
    := by
  unfold State.resumeWake
  extract_lets s1
  have hs1 : s1.Canonical := canonical_dropHeld h _
  clear_value s1
  have hw := takeWake_wf (engine_wf hs1 e)
  split
  rename_i v x hx
  rw [hx] at hw
  refine canonical_count (canonical_resume hs1 _ _ _ ?_) _
  cases timed <;> exact hw

theorem canonical_waitReturn {s : State} (h : s.Canonical) (e : ℕ) : (s.waitReturn e).Canonical := by
  unfold State.waitReturn
  extract_lets x
  split
  · refine canonical_ite ?_ h
    split
    · exact canonical_ite (canonical_resumeEpoch h ..) (canonical_ite (canonical_resumeWake h ..) (canonical_ite
          (canonical_resumeEpoch (canonical_runTo h _) ..) h))
    · exact canonical_ite (canonical_resumeWake h ..) h
  · exact h

theorem canonical_execWaitReturn {s : State} (h : s.Canonical) (e : ℕ) : NextCanonical (execWaitReturn e s) := by
  unfold execWaitReturn
  exact nextCanonical_next (canonical_waitReturn h _)

theorem canonical_txLaunch {s : State} (h : s.Canonical) (e : ℕ) (excl : List ℕ) : (s.txLaunch e excl).Canonical := by
  unfold State.txLaunch
  split
  · rename_i x c s1 e1
    have hs1 : s1.Canonical := canonical_takeCell h _ _ _ _ e1
    extract_lets b len lreq tag
    clear_value b len lreq tag
    split
    · extract_lets frame s2
      have hs2 : s2.Canonical := canonical_addResv hs1 ..
      clear_value frame s2
      exact canonical_cellTo hs2 ..
    · exact canonical_cellTo hs1 ..
  · exact h

theorem canonical_execTxLaunchCell {s : State} (h : s.Canonical) (e : ℕ) (excl : List ℕ) :
    NextCanonical (execTxLaunchCell e excl s) := by
  unfold execTxLaunchCell
  exact nextCanonical_next (canonical_ite (canonical_txLaunch h ..) h)

theorem canonical_execUpstreamCell {s : State} (h : s.Canonical) (e : ℕ) : NextCanonical (execUpstreamCell e s) := by
  unfold execUpstreamCell
  refine nextCanonical_next (canonical_ite ?_ h)
  split
  · rename_i x c s1 e1
    have hs1 : s1.Canonical := canonical_takeCell h _ _ _ _ e1
    extract_lets r off at_ __src s2 __src1
    have hs2 : s2.Canonical := canonical_setRef hs1 ..
    clear_value r off at_ __src s2 __src1
    exact canonical_deliver hs2 _
  · exact h

theorem canonical_execLinkLaneLock {s : State} (h : s.Canonical) (l : ℕ) : NextCanonical (execLinkLaneLock l s) := by
  unfold execLinkLaneLock
  exact nextCanonical_next (canonical_ite (canonical_sendHello (canonical_setLink h ..) _) h)

theorem canonical_execLaneLoss {s : State} (h : s.Canonical) (l : ℕ) : NextCanonical (execLaneLoss l s) := by
  unfold execLaneLoss
  exact nextCanonical_next (canonical_ite (canonical_pairSettle (canonical_linkTrain h ..) _) h)

theorem canonical_sendNak {s : State} (h : s.Canonical) (l : ℕ) : (s.sendNak l).Canonical := by
  unfold State.sendNak
  extract_lets x s1
  have hs1 : s1.Canonical := canonical_emitOut h _
  clear_value x s1
  exact canonical_srcAnomaly (canonical_count (canonical_add hs1 ..) _) _

theorem canonical_drainCells {s : State} (h : s.Canonical) (l : ℕ) : (s.drainCells l).Canonical := by
  unfold State.drainCells
  extract_lets x n s1
  have hs1 : s1.Canonical := canonical_setLink h ..
  clear_value x n s1
  exact canonical_foldl (fun u a hu => canonical_cellOut hu ..) hs1

theorem canonical_acked {s : State} (h : s.Canonical) (l a : ℕ) : (s.acked l a).Canonical := by
  unfold State.acked
  extract_lets x
  clear_value x
  exact canonical_drainCells (canonical_setLink h ..) _

theorem canonical_resendFrom {s : State} (h : s.Canonical) (l e : ℕ) : (s.resendFrom l e).Canonical := by
  unfold State.resendFrom
  extract_lets s1
  have hs1 : s1.Canonical := canonical_acked h ..
  clear_value s1
  exact canonical_foldl (fun u a hu => canonical_count (canonical_emitOut hu _) _) hs1

theorem canonical_quenchPeer {s : State} (h : s.Canonical) (l typ : ℕ) : (s.quenchPeer l typ).Canonical := by
  unfold State.quenchPeer
  exact canonical_ite h (canonical_linkTo (canonical_quenchRecords h ..) ..)

theorem canonical_deliverCell {s : State} (h : s.Canonical) (l : ℕ) (c : GCell) (at_ : ℕ) : (s.deliverCell l c
    at_).Canonical := by
  unfold State.deliverCell
  extract_lets st bad __src
  clear_value st bad __src
  exact canonical_ite (canonical_ite h (canonical_ite (canonical_pevent (canonical_count (canonical_add h ..) _) ..)
      (canonical_count (canonical_setLink h ..) _))) (canonical_ite (canonical_add h ..) (canonical_ite
          (canonical_quenchPeer h ..) (canonical_ite (canonical_add h ..) (canonical_count (canonical_setLink h ..) _))))

theorem canonical_cellReceive {s : State} (h : s.Canonical) (l : ℕ) (c : GCell) (crcOk : Bool) (at_ : ℕ) :
    (s.cellReceive l c crcOk at_).Canonical := by
  unfold State.cellReceive
  refine canonical_ite h (canonical_ite (canonical_sendNak h _) ?_)
  extract_lets s1 s2 e __src
  have hs1 : s1.Canonical := canonical_ite (canonical_acked h ..) h
  have hs2 : s2.Canonical := canonical_ite (canonical_resendFrom hs1 ..) hs1
  clear_value s1 s2 e __src
  exact canonical_ite hs2 (canonical_ite (canonical_deliverCell (canonical_setLink hs2 ..) ..) (canonical_ite
      (canonical_add hs2 ..) (canonical_sendNak hs2 _)))

theorem canonical_startResync {s : State} (h : s.Canonical) (sending full : Bool) : (s.startResync sending full).Canonical
    := by
  unfold State.startResync
  extract_lets __src s1
  have hs1 : s1.Canonical := canonical_set (canonical_upd h (by rfl)) ..
  clear_value __src s1
  exact canonical_resyncRecord (canonical_setB (canonical_set hs1 ..) ..) ..

theorem canonical_resyncSeen {s : State} (h : s.Canonical) (l : ℕ) : (s.resyncSeen l).Canonical := by
  unfold State.resyncSeen
  extract_lets q got
  clear_value q got
  split
  · extract_lets len s1
    have hs1 : s1.Canonical := canonical_ite (canonical_startResync h ..) h
    clear_value len s1
    exact canonical_ite hs1 (canonical_set hs1 ..)
  · exact h

theorem canonical_execCellReceive {s : State} (h : s.Canonical) (l : ℕ) (c : GCell) (crcOk : Bool) (at_ : ℕ) :
    NextCanonical (execCellReceive l c crcOk at_ s) := by
  unfold execCellReceive
  refine nextCanonical_next ?_
  extract_lets s1 s2
  have hs1 : s1.Canonical := canonical_cellReceive h ..
  have hs2 : s2.Canonical := canonical_ite (canonical_resyncSeen hs1 _) hs1
  clear_value s1 s2
  exact canonical_pairSettle hs2 _

theorem canonical_execNakReceive {s : State} (h : s.Canonical) (l e : ℕ) : NextCanonical (execNakReceive l e s) := by
  unfold execNakReceive
  exact nextCanonical_next (canonical_ite (canonical_resendFrom h ..) h)

theorem canonical_takeFrom {s : State} (h : s.Canonical) (l : ℕ) (p : GCell → Bool) :
    ∀ c0 c1 t, s.takeFrom l p = some (c0, c1, t) → t.Canonical := by
  unfold State.takeFrom
  intro c k t ht
  split at ht
  · cases ht
    exact canonical_setLink h ..
  · cases ht

theorem canonical_posCheck {s : State} (h : s.Canonical) (l : ℕ) : (s.posCheck l).Canonical := by
  unfold State.posCheck
  split
  · extract_lets own now s1 s2
    have hs1 : s1.Canonical := canonical_setB h ..
    have hs2 : s2.Canonical := canonical_settleAlert (canonical_pevent hs1 ..)
    clear_value own now s1 s2
    exact canonical_ite h (canonical_ite (canonical_set hs2 ..) hs2)
  · exact h

theorem canonical_takeHello {s : State} (h : s.Canonical) (l pl : ℕ) : (s.takeHello l pl).Canonical := by
  unfold State.takeHello
  extract_lets b0 h1 __src s1 s2 s3 d __src1 s4
  have hs1 : s1.Canonical := canonical_setLink h ..
  have hs2 : s2.Canonical := canonical_set (canonical_set hs1 ..) ..
  have hs3 : s3.Canonical := canonical_settleCapacity hs2
  have hs4 : s4.Canonical := canonical_setLink (canonical_setIso hs3 ..) ..
  clear_value b0 h1 __src s1 s2 s3 d __src1 s4
  exact canonical_ite (canonical_ite (canonical_linkTo hs4 ..) (canonical_linkTo hs4 ..)) hs3

theorem canonical_execHelloReceive {s : State} (h : s.Canonical) (l : ℕ) : NextCanonical (execHelloReceive l s) := by
  unfold execHelloReceive
  refine nextCanonical_next ?_
  split
  · rename_i x c fst s1 e
    have hs1 : s1.Canonical := canonical_takeFrom h _ _ _ _ _ e
    extract_lets s2
    have hs2 : s2.Canonical := canonical_posCheck (canonical_takeHello hs1 ..) _
    clear_value s2
    exact canonical_pairSettle hs2 _
  · exact h

theorem canonical_timeReceive {s : State} (h : s.Canonical) (l : ℕ) (c : GCell) (t4 : ℕ) : (s.timeReceive l c t4).Canonical
    := by
  unfold State.timeReceive
  extract_lets pl s1 t3 t1 t2 __src s2 a b off s3 s4 s5 tb r __src1 s6 __src2
  have hs1 : s1.Canonical := canonical_set h ..
  have hs2 : s2.Canonical := canonical_setLink hs1 ..
  have hs3 : s3.Canonical := canonical_setI (canonical_setI hs2 ..) ..
  have hs4 : s4.Canonical := canonical_set (canonical_set hs3 ..) ..
  have hs5 : s5.Canonical := canonical_add hs4 ..
  have hs6 : s6.Canonical := canonical_setRef hs5 ..
  clear_value pl s1 t3 t1 t2 __src s2 a b off s3 s4 s5 tb r __src1 s6 __src2
  exact canonical_ite hs1 (canonical_ite hs2 (canonical_deliver hs6 _))

theorem canonical_execTimeCellReceive {s : State} (h : s.Canonical) (l : ℕ) : NextCanonical (execTimeCellReceive l s) := by
  unfold execTimeCellReceive
  refine nextCanonical_next ?_
  split
  · rename_i x c fst s1 e
    have hs1 : s1.Canonical := canonical_takeFrom h _ _ _ _ _ e
    extract_lets s2
    have hs2 : s2.Canonical := canonical_timeReceive hs1 ..
    clear_value s2
    exact canonical_ite (canonical_settleDiag hs2 _) hs2
  · exact h

theorem canonical_chargeNew {s : State} (h : s.Canonical) (l pk now code : ℕ) (id : ℕ × ℕ) (pl : ℕ) (miss : Bool) (ue :
    Option DramErr) :
    (s.chargeNew l pk now code id pl miss ue).1.Canonical := by
  unfold State.chargeNew
  extract_lets sec
  clear_value sec
  split
  · rename_i x s1 v e
    have hs1 : s1.Canonical := canonical_fst (canonical_chargeClient h ..) e
    exact canonical_upd hs1 (by rfl)

theorem canonical_chargeShard {s : State} (h : s.Canonical) (l pl : ℕ) (miss : Bool) (ue : Option DramErr) :
    (s.chargeShard l pl miss ue).1.Canonical := by
  unfold State.chargeShard
  extract_lets pk now code id
  clear_value pk now code id
  split
  · split
    · exact h
    · exact canonical_chargeNew h ..
  · exact canonical_chargeNew h ..

theorem canonical_ownerServe {s : State} (h : s.Canonical) (l pl : ℕ) (miss : Bool) (ue : Option DramErr) :
    (s.ownerServe l pl miss ue).Canonical := by
  unfold State.ownerServe
  extract_lets s1 t pk p kind addr now sec code q
  have hs1 : s1.Canonical := canonical_add h ..
  refine canonical_ite (canonical_hmkStat hs1 _) ?_
  have hc : (if s1.sharedKey l t p = true then s1.chargeShard l pl miss ue else (s1, 4)).1.Canonical := by
    split
    · exact canonical_chargeShard hs1 ..
    · exact hs1
  generalize (if s1.sharedKey l t p = true then s1.chargeShard l pl miss ue else (s1, 4)) = c at hc ⊢
  obtain ⟨s2, v⟩ := c
  dsimp only at hc ⊢
  have hu := canonical_unicastTlv hc none t p kind addr (State.cellBytes pl 33 1) sec
  refine canonical_sendCell ?_ ..
  split
  · exact hc
  split
  · exact hc
  · exact hu q

theorem canonical_execShardReqReceive {s : State} (h : s.Canonical) (l : ℕ) (miss : Bool) (ue : Option DramErr) :
    NextCanonical (execShardReqReceive l miss ue s) := by
  unfold execShardReqReceive
  refine nextCanonical_next ?_
  split
  · rename_i x c fst s1 e
    have hs1 : s1.Canonical := canonical_takeFrom h _ _ _ _ _ e
    exact canonical_ownerServe hs1 ..
  · exact h

theorem canonical_shardVerdict {s : State} (h : s.Canonical) (x : ShardPend) (v d : ℕ) : (s.shardVerdict x v d).Canonical
    := by
  unfold State.shardVerdict
  extract_lets q
  clear_value q
  split
  · exact canonical_ite (canonical_serveNtp h ..) h
  · refine canonical_ite (canonical_ite (canonical_serveDelay h ..) h) ?_
    split
    · exact canonical_ite (canonical_sendSignaling h ..) (canonical_ite (canonical_sendSignaling h ..) (canonical_ite
          (canonical_sendSignaling h ..) h))
    · exact h

theorem canonical_shardResp {s : State} (h : s.Canonical) (l pl : ℕ) : (s.shardResp l pl).Canonical := by
  unfold State.shardResp
  extract_lets tag __src s1
  have hs1 : s1.Canonical := canonical_upd h (by rfl)
  clear_value tag __src s1
  split
  · exact canonical_shardVerdict hs1 ..
  · exact h

theorem canonical_execShardRespReceive {s : State} (h : s.Canonical) (l : ℕ) : NextCanonical (execShardRespReceive l s) := by
  unfold execShardRespReceive
  refine nextCanonical_next ?_
  split
  · rename_i x c fst s1 e
    have hs1 : s1.Canonical := canonical_takeFrom h _ _ _ _ _ e
    exact canonical_shardResp hs1 ..
  · exact h

theorem canonical_takeBody {x3 : State} (h : x3.Canonical) (l kind x2 : ℕ) :
    ∀ c0 t, State.takeBody l kind x2 x3 = some (c0, t) → t.Canonical := by
  induction x2 generalizing x3 with
  | zero =>
    intro b t ht
    cases ht
    exact h
  | succ n ih =>
    intro b t ht
    unfold State.takeBody at ht
    split at ht
    · rename_i c k u hu
      obtain ⟨r, hr, hbt⟩ := Option.map_eq_some_iff.mp ht
      cases hbt
      exact ih (canonical_takeFrom h l _ _ _ _ hu) r.1 r.2 hr
    · cases ht

theorem canonical_takeStream {s : State} (h : s.Canonical) (l : ℕ) (resync : Bool) :
    ∀ c0 c1 t, s.takeStream l resync = some (c0, c1, t) → t.Canonical := by
  have hb : ∀ (k n : ℕ) {u : State}, u.Canonical → ∀ b t, State.takeBody l k n u = some (b, t) → t.Canonical :=
    fun k n _ hu => canonical_takeBody hu l k n
  obtain ⟨f, hf⟩ : ∃ f, f = State.takeStream := ⟨_, rfl⟩
  obtain ⟨g, hg⟩ : ∃ g, g = State.takeBody := ⟨_, rfl⟩
  rw [← hf]
  rw [← hg] at hb
  delta State.takeStream at hf
  rw [← hg] at hf
  clear hg
  subst hf
  beta_reduce
  intro c0 c1 t ht
  split at ht
  · rename_i c k u hu
    extract_lets n at ht
    split at ht
    · rename_i b v hv
      cases ht
      exact hb _ _ (canonical_takeFrom h l _ _ _ _ hu) _ _ hv
    · cases ht
  · cases ht

theorem canonical_applyEnt {s : State} (h : s.Canonical) (x : ℕ × ℕ) : (s.applyEnt x).Canonical := by
  unfold State.applyEnt
  extract_lets locked
  clear_value locked
  exact canonical_ite h (canonical_ite (canonical_freeEnt h _) (canonical_ite h (canonical_putEnt h ..)))

theorem canonical_applyJournal {s : State} (h : s.Canonical) (v : ℕ) : (s.applyJournal v).Canonical := by
  unfold State.applyJournal
  extract_lets k had rest __src s1
  have hs1 : s1.Canonical := canonical_upd h (by rfl)
  clear_value k had rest __src s1
  refine canonical_ite h ?_
  split
  · extract_lets s2
    have hs2 : s2.Canonical := canonical_upd h (by rfl)
    clear_value s2
    exact canonical_ite hs2 (canonical_add (canonical_add hs2 ..) ..)
  · exact canonical_ite (canonical_set (canonical_set hs1 ..) ..) hs1

theorem canonical_claimCheck {s : State} (h : s.Canonical) (c : ℕ) : (s.claimCheck c).Canonical := by
  unfold State.claimCheck
  extract_lets inn d was now __src s1
  have hs1 : s1.Canonical := canonical_setB (canonical_upd h (by rfl)) ..
  clear_value inn d was now __src s1
  exact canonical_ite hs1 (canonical_pevent hs1 ..)

theorem canonical_acceptIngot {s : State} (h : s.Canonical) (x1 body : ℕ) : (s.acceptIngot x1 body).Canonical := by
  obtain ⟨f, hf⟩ : ∃ f, f = State.acceptIngot := ⟨_, rfl⟩
  rw [← hf]
  delta State.acceptIngot at hf
  subst hf
  beta_reduce
  extract_lets len j n state flags old s1 done src s2 s3 s4 s5 s6 r s7
  have hs1 : s1.Canonical := canonical_count (canonical_set (canonical_add (canonical_set h ..) ..) ..) _
  have hs2 : s2.Canonical := canonical_pair hs1 _
  have hs3 : s3.Canonical := canonical_ite (canonical_set hs2 ..) hs2
  have hs4 : s4.Canonical := canonical_foldl (fun u a hu => canonical_applyEnt hu a) hs3
  have hs5 : s5.Canonical := canonical_foldl (fun u a hu => canonical_applyJournal hu a) hs4
  have hs6 : s6.Canonical := canonical_statusRecord (canonical_settleLoad hs5) ..
  have hs7 : s7.Canonical := canonical_ite hs6 (canonical_drillEnd hs6 ..)
  exact canonical_claimCheck hs7 _

theorem canonical_sendAck {s : State} (h : s.Canonical) (l seq : ℕ) (ok : Bool) (digest : ℕ) :
    (s.sendAck l seq ok digest).Canonical := by
  unfold State.sendAck
  extract_lets idle stale f
  clear_value idle stale f
  exact canonical_sendCell h ..

theorem canonical_ingotReceive {s : State} (h : s.Canonical) (l : ℕ) : (s.ingotReceive l).Canonical := by
  unfold State.ingotReceive
  refine canonical_ite h ?_
  split
  · rename_i x h1 body s1 e
    have hs1 : s1.Canonical := canonical_takeStream h _ _ _ _ _ e
    refine canonical_ite hs1 ?_
    extract_lets seq n ok s2
    have hs2 : s2.Canonical := canonical_ite (canonical_acceptIngot hs1 ..) (canonical_discardIngot hs1 _)
    clear_value seq n ok s2
    exact canonical_pairSettle (canonical_sendAck hs2 ..) _
  · exact h

theorem canonical_execIngotReceive {s : State} (h : s.Canonical) (l : ℕ) : NextCanonical (execIngotReceive l s) := by
  unfold execIngotReceive
  exact nextCanonical_next (canonical_ingotReceive h _)

theorem canonical_ingotAck {s : State} (h : s.Canonical) (l : ℕ) : (s.ingotAck l).Canonical := by
  unfold State.ingotAck
  split
  · rename_i x c fst s1 e
    have hs1 : s1.Canonical := canonical_takeFrom h _ _ _ _ _ e
    extract_lets f __src s2 s3
    have hs2 : s2.Canonical := canonical_upd hs1 (by rfl)
    have hs3 : s3.Canonical := canonical_ite hs2 (canonical_ite (canonical_startResync hs2 ..) (canonical_ite
        (canonical_startResync hs2 ..) hs2))
    clear_value f __src s2 s3
    exact canonical_pairSettle hs3 _
  · exact h

theorem canonical_execIngotAckReceive {s : State} (h : s.Canonical) (l : ℕ) : NextCanonical (execIngotAckReceive l s) := by
  unfold execIngotAckReceive
  exact nextCanonical_next (canonical_ingotAck h _)

theorem canonical_endResync {s : State} (h : s.Canonical) (full : Bool) : (s.endResync full).Canonical := by
  unfold State.endResync
  extract_lets __src s1
  have hs1 : s1.Canonical := canonical_set (canonical_upd h (by rfl)) ..
  clear_value __src s1
  exact canonical_resyncRecord (canonical_add (canonical_set hs1 ..) ..) ..

theorem canonical_sendResync {s : State} (h : s.Canonical) (l : ℕ) (full : Bool) : (s.sendResync l full).Canonical := by
  unfold State.sendResync
  extract_lets cap ents n tab body
  clear_value cap ents n tab body
  exact canonical_endResync (canonical_sendStream h ..) _

theorem canonical_applyResync {s : State} (h : s.Canonical) (full : Bool) (x2 body : ℕ) : (s.applyResync full x2
    body).Canonical := by
  obtain ⟨f, hf⟩ : ∃ f, f = State.applyResync := ⟨_, rfl⟩
  rw [← hf]
  delta State.applyResync at hf
  subst hf
  beta_reduce
  extract_lets j n s1 s2 s3 old s4
  have hs1 : s1.Canonical := canonical_ite (canonical_foldl (fun u a hu => canonical_applyEnt hu a) h) h
  have hs2 : s2.Canonical := canonical_foldl (fun u a hu => canonical_applyJournal hu _) hs1
  have hs3 : s3.Canonical := canonical_foldl (fun u a hu => canonical_ite hu (canonical_applyJournal hu a)) hs2
  have hs4 : s4.Canonical := canonical_statusRecord (canonical_set (canonical_settleLoad hs3) ..) ..
  exact canonical_endResync (canonical_ite (canonical_pair hs4 _) hs4) _

theorem canonical_resyncComplete {s : State} (h : s.Canonical) : (s.resyncComplete).Canonical := by
  unfold State.resyncComplete
  split
  · exact canonical_ite (canonical_sendResync h ..) h
  · split
    · rename_i x h1 body s1 e
      have hs1 : s1.Canonical := canonical_takeStream h _ _ _ _ _ e
      exact canonical_ite (canonical_pairSettle (canonical_applyResync hs1 ..) _) (canonical_resyncRecord (canonical_set
          (canonical_upd hs1 (by rfl)) ..) ..)
    · exact h
  · exact h

theorem canonical_execResyncComplete {s : State} (h : s.Canonical) : NextCanonical (execResyncComplete s) := by
  unfold execResyncComplete
  exact nextCanonical_next (canonical_resyncComplete h)

theorem canonical_putReport {s : State} (h : s.Canonical) (d v : ℕ) : (s.putReport d v).Canonical := by
  unfold State.putReport
  extract_lets b s1 s2
  have hs1 : s1.Canonical := canonical_set (canonical_set (canonical_set h ..) ..) ..
  have hs2 : s2.Canonical := canonical_set (canonical_set (canonical_set hs1 ..) ..) ..
  clear_value s1 s2
  exact canonical_ite (canonical_foldl (fun u a hu => canonical_set hu ..) hs2) (canonical_set (canonical_set hs2 ..) ..)

theorem canonical_seamReportIn {s : State} (h : s.Canonical) (v at_ : ℕ) : (s.seamReportIn v at_).Canonical := by
  unfold State.seamReportIn
  extract_lets d lim off slot bad gen own rolling strange s1 x x1 s2 s3 __src
  have hs1 : s1.Canonical := canonical_putReport h ..
  have hs2 : s2.Canonical := canonical_upd hs1 (by rfl)
  have hs3 : s3.Canonical := canonical_rollStart hs2 ..
  clear_value d lim off slot bad gen own rolling strange s1 x x1 s2 s3 __src
  exact canonical_ite h (canonical_ite (canonical_upd hs3 (by rfl)) hs2)

theorem canonical_execSeamReportReceive {s : State} (h : s.Canonical) (v : ℕ) (crcOk : Bool) (at_ : ℕ) :
    NextCanonical (execSeamReportReceive v crcOk at_ s) := by
  unfold execSeamReportReceive
  exact nextCanonical_next (canonical_ite (canonical_seamReportIn h ..) h)

theorem canonical_seamMsgIn {s : State} (h : s.Canonical) (m : SeamMsg) (at_ : ℕ) : (s.seamMsgIn m at_).Canonical := by
  unfold State.seamMsgIn
  refine canonical_ite (canonical_seamReportIn h ..) (canonical_ite h ?_)
  split
  · extract_lets s1 s2
    have hs1 : s1.Canonical := canonical_setB (canonical_set (canonical_set h ..) ..) ..
    have hs2 : s2.Canonical := canonical_set (canonical_set (canonical_set hs1 ..) ..) ..
    clear_value s1 s2
    exact canonical_pevent hs2 ..
  · exact canonical_addSat h ..

theorem canonical_execSeamMsgReceive {s : State} (h : s.Canonical) (m : SeamMsg) (crcOk : Bool) (at_ : ℕ) :
    NextCanonical (execSeamMsgReceive m crcOk at_ s) := by
  unfold execSeamMsgReceive
  exact nextCanonical_next (canonical_ite (canonical_seamMsgIn h ..) h)

theorem canonical_contend {s : State} (h : s.Canonical) (report clash : Bool) : (s.contend report clash).Canonical := by
  unfold State.contend
  split
  · refine canonical_ite h (canonical_ite ?_ ?_)
    · extract_lets __src m s1
      have hs1 : s1.Canonical := canonical_setSeamTx (canonical_emitOut h _) ..
      clear_value __src m s1
      exact canonical_ite hs1 (canonical_txDone hs1 ..)
    · extract_lets n s1 s2 k
      have hs1 : s1.Canonical := canonical_srcAnomaly (canonical_count h _) _
      have hs2 : s2.Canonical := canonical_count (canonical_add (canonical_setSeamTx hs1 ..) ..) _
      clear_value n s1 s2 k
      exact canonical_ite (canonical_ite hs2 (canonical_txDone hs2 ..)) (canonical_setSeamTx (canonical_draw hs1) ..)
  · exact h

theorem canonical_execSeamContentionSend {s : State} (h : s.Canonical) (report clash : Bool) :
    NextCanonical (execSeamContentionSend report clash s) := by
  unfold execSeamContentionSend
  exact nextCanonical_next (canonical_contend h ..)

theorem canonical_execSeamBackoffEnd {s : State} (h : s.Canonical) (report : Bool) : NextCanonical (execSeamBackoffEnd
    report s) := by
  unfold execSeamBackoffEnd
  refine nextCanonical_next ?_
  split
  · split
    · exact canonical_ite (canonical_setSeamTx (canonical_runTo h _) ..) h
    · exact h
  · exact h

theorem canonical_execMemberSilent {s : State} (h : s.Canonical) (d : ℕ) : NextCanonical (execMemberSilent d s) := by
  unfold execMemberSilent
  exact nextCanonical_next (canonical_ite (canonical_rollStart (canonical_upd h (by rfl)) ..) h)

theorem canonical_rollComplete {s : State} (h : s.Canonical) : (s.rollComplete).Canonical := by
  unfold State.rollComplete
  extract_lets __src s1
  have hs1 : s1.Canonical := canonical_upd h (by rfl)
  clear_value __src s1
  exact canonical_rollRecord (canonical_set (canonical_set hs1 ..) ..) ..

theorem canonical_execRollcallComplete {s : State} (h : s.Canonical) : NextCanonical (execRollcallComplete s) := by
  unfold execRollcallComplete
  exact nextCanonical_next (canonical_ite (canonical_rollComplete h) h)

theorem canonical_seamMode {s : State} (h : s.Canonical) (cont : Bool) : (s.seamMode cont).Canonical := by
  unfold State.seamMode
  extract_lets __src s1
  have hs1 : s1.Canonical := canonical_upd h (by rfl)
  clear_value __src s1
  exact canonical_pevent (canonical_setB hs1 ..) ..

theorem canonical_execContOnlyEnter {s : State} (h : s.Canonical) : NextCanonical (execContOnlyEnter s) := by
  unfold execContOnlyEnter
  exact nextCanonical_next (canonical_ite (canonical_seamMode h _) h)

theorem canonical_execSlottedReturn {s : State} (h : s.Canonical) : NextCanonical (execSlottedReturn s) := by
  unfold execSlottedReturn
  exact nextCanonical_next (canonical_ite (canonical_seamMode h _) h)

theorem canonical_execClaimInChange {s : State} (h : s.Canonical) (v : ℕ) : NextCanonical (execClaimInChange v s) := by
  unfold execClaimInChange
  refine nextCanonical_next ?_
  extract_lets v1 old s1 own s2
  have hs1 : s1.Canonical := canonical_set h ..
  have hs2 : s2.Canonical := by
    unfold s2
    split
    · exact canonical_ite (canonical_drillEnd hs1 ..) hs1
    · exact hs1
  clear_value v1 old s1 own s2
  exact canonical_pairSettle hs2 _

theorem canonical_execClaimRiseArrives {s : State} (h : s.Canonical) : NextCanonical (execClaimRiseArrives s) := by
  unfold execClaimRiseArrives
  refine nextCanonical_next ?_
  split
  · extract_lets s1 __src
    have hs1 : s1.Canonical := canonical_ite (canonical_runTo h _) h
    clear_value s1 __src
    exact canonical_pairSettle (canonical_upd hs1 (by rfl)) _
  · exact h

theorem canonical_execClaimTie {s : State} (h : s.Canonical) : NextCanonical (execClaimTie s) := by
  unfold execClaimTie
  refine nextCanonical_next ?_
  split
  · refine canonical_ite ?_ h
    extract_lets s1 s2
    have hs1 : s1.Canonical := canonical_ite (canonical_runTo h _) h
    have hs2 : s2.Canonical := canonical_pevent (canonical_set hs1 ..) ..
    clear_value s1 s2
    exact canonical_pairSettle (canonical_set hs2 ..) _
  · exact h

theorem canonical_execOutMonMismatch {s : State} (h : s.Canonical) (o : ℕ) : NextCanonical (execOutMonMismatch o s) := by
  unfold execOutMonMismatch
  exact nextCanonical_next (canonical_ite (canonical_settleDiag (canonical_set (canonical_upd h (by rfl)) ..) _) h)

theorem canonical_execDrillHoldEnd {s : State} (h : s.Canonical) : NextCanonical (execDrillHoldEnd s) := by
  unfold execDrillHoldEnd
  refine nextCanonical_next ?_
  extract_lets n __src
  clear_value n __src
  split
  · exact canonical_ite (canonical_upd h (by rfl)) h
  · exact h
  · exact canonical_ite (canonical_drillEnd h ..) h
  · exact h

theorem canonical_toPins {s : State} (h : s.Canonical) (r : TrcRec) : (s.toPins r).Canonical := by
  unfold State.toPins
  refine canonical_ite ?_ h
  extract_lets o
  clear_value o
  split
  · exact canonical_count (canonical_upd h (by rfl)) _
  · exact canonical_ite (canonical_upd h (by rfl)) (canonical_count (canonical_upd h (by rfl)) _)

theorem canonical_toRing {s : State} (h : s.Canonical) (r : TrcRec) : (s.toRing r).Canonical := by
  unfold State.toRing
  refine canonical_ite ?_ h
  extract_lets o
  clear_value o
  exact canonical_count (canonical_upd h (by rfl)) _

theorem canonical_execTraceDramWrite {s : State} (h : s.Canonical) : NextCanonical (execTraceDramWrite s) := by
  unfold execTraceDramWrite
  refine nextCanonical_next ?_
  split
  · exact canonical_toPins (canonical_toRing (canonical_upd h (by rfl)) _) _
  · exact h

theorem canonical_execTracePinSend {s : State} (h : s.Canonical) : NextCanonical (execTracePinSend s) := by
  unfold execTracePinSend
  refine nextCanonical_next ?_
  split
  · exact canonical_ite (canonical_count (canonical_emitOut (canonical_upd h (by rfl)) _) _) h
  · exact h

theorem canonical_execTraceGapEnter {s : State} (h : s.Canonical) (pins : Bool) : NextCanonical (execTraceGapEnter pins s)
    := by
  unfold execTraceGapEnter
  refine nextCanonical_next ?_
  extract_lets o
  clear_value o
  refine canonical_ite ?_ ?_
  · split
    · exact canonical_ite (canonical_upd h (by rfl)) h
    · exact h
  · split
    · exact canonical_ite (canonical_upd h (by rfl)) h
    · exact h

theorem canonical_execTraceLossReport {s : State} (h : s.Canonical) : NextCanonical (execTraceLossReport s) := by
  unfold execTraceLossReport
  refine nextCanonical_next (canonical_ite h ?_)
  extract_lets s1 n __src
  have hs1 : s1.Canonical := by
    unfold s1
    split
    · exact canonical_ite (canonical_runTo h _) h
    · exact h
  clear_value s1 n __src
  exact canonical_pevent (canonical_upd hs1 (by rfl)) ..

theorem canonical_execMsixSampleHoldoffEnd {s : State} (h : s.Canonical) : NextCanonical (execMsixSampleHoldoffEnd s) := by
  unfold execMsixSampleHoldoffEnd
  exact nextCanonical_next (canonical_ite (canonical_signalSample (canonical_runTo h _)) h)

theorem canonical_execRegRead {s : State} (h : s.Canonical) (fn off n : ℕ) (contig : Bool) :
    NextCanonical (execRegRead fn off n contig s) := by
  unfold execRegRead
  exact nextCanonical_next (canonical_readAs h ..)

theorem canonical_execSpllRelock {s : State} (h : s.Canonical) : NextCanonical (execSpllRelock s) := by
  unfold execSpllRelock
  refine nextCanonical_next (canonical_ite ?_ h)
  extract_lets s1 __src
  have hs1 : s1.Canonical := canonical_set (canonical_set h ..) ..
  clear_value s1 __src
  exact canonical_settleDiag (canonical_upd hs1 (by rfl)) _

theorem canonical_execTodPairWindowExpiry {s : State} (h : s.Canonical) (i : ℕ) : NextCanonical (execTodPairWindowExpiry i
    s) := by
  unfold execTodPairWindowExpiry
  refine nextCanonical_next ?_
  split
  · exact canonical_ite (canonical_todUnpaired (canonical_setTod (canonical_runTo h _) ..) ..) h
  · exact h

theorem canonical_execAesRxLockChange {s : State} (h : s.Canonical) (m : ℕ) (rate : Option ℕ) :
    NextCanonical (execAesRxLockChange m rate s) := by
  unfold execAesRxLockChange
  refine nextCanonical_next (canonical_ite ?_ h)
  split
  · exact canonical_set (canonical_set h ..) ..
  · exact canonical_set (canonical_set h ..) ..

theorem canonical_grantExpiry {s : State} (h : s.Canonical) (t p kind addr k : ℕ) : (s.grantExpiry t p kind addr
    k).Canonical := by
  unfold State.grantExpiry
  split
  · split
    · exact canonical_ite (canonical_settleLoad h) h
    · exact h
  · exact h

theorem canonical_execGrantExpiry {s : State} (h : s.Canonical) (t p kind addr k : ℕ) :
    NextCanonical (execGrantExpiry t p kind addr k s) := by
  unfold execGrantExpiry
  exact nextCanonical_next (canonical_grantExpiry h ..)

theorem canonical_execBypassClockReturn {s : State} (h : s.Canonical) : NextCanonical (execBypassClockReturn s) := by
  unfold execBypassClockReturn
  refine nextCanonical_next ?_
  extract_lets __src __src1 s1
  have h__src : __src.Canonical := canonical_set h ..
  have hs1 : s1.Canonical := canonical_upd h__src (by rfl)
  clear_value __src __src1 s1
  exact canonical_foldl (fun u a hu => canonical_ite (canonical_outBypassed hu _) hu) hs1

theorem canonical_takeFront {s : State} (h : s.Canonical) (rest : List Instr) : (s.takeFront rest).Canonical := by
  unfold State.takeFront
  exact canonical_upd h (by rfl)

/-! ## Every step keeps it -/

theorem canonical_exec {s : State} (h : s.Canonical) : ∀ i : Instr, NextCanonical (exec i s)
  | .porstAssert => canonical_execPorstAssert h
  | .porstRise _ => canonical_execPorstRise h _
  | .warmReset => canonical_execWarmReset h
  | .claimResetRelease => canonical_execClaimResetRelease h
  | .perstReset => canonical_execPerstReset h
  | .brownout _ => canonical_execBrownout h _
  | .pdPgFail _ => canonical_execPdPgFail h _
  | .pdPowerGood _ => canonical_execPdPowerGood h _
  | .pdOffDone _ => canonical_execPdOffDone h _
  | .spllLock _ => canonical_execSpllLock h _
  | .spllLossOfLock => canonical_execSpllLossOfLock h
  | .bootImageLoaded _ _ _ => canonical_execBootImageLoaded h _ _ _
  | .dramTrained _ _ => canonical_execDramTrained h _ _
  | .bootReady => canonical_execBootReady h
  | .extestLoad _ _ => canonical_execExtestLoad h _ _
  | .tapInstruction _ => canonical_execTapInstruction h _
  | .tamperFire _ _ _ _ => canonical_execTamperFire h _ _ _ _
  | .tamperLogCommit _ => canonical_execTamperLogCommit h _
  | .vbatRecordCommit _ _ _ => canonical_execVbatRecordCommit h _ _ _
  | .keyExpiry _ => canonical_execKeyExpiry h _
  | .kvtLoad _ _ _ => canonical_execKvtLoad h _ _ _
  | .kvtEvict _ => canonical_execKvtEvict h _
  | .kvtAttest _ _ _ => canonical_execKvtAttest h _ _ _
  | .keyImport _ _ => canonical_execKeyImport h _ _
  | .keyGenerate _ _ => canonical_execKeyGenerate h _ _
  | .tenantEpoch _ _ => canonical_execTenantEpoch h _ _
  | .setUpdateKey _ _ => canonical_execSetUpdateKey h _ _
  | .setAttest _ _ => canonical_execSetAttest h _ _
  | .setImageKey _ _ => canonical_execSetImageKey h _ _
  | .tamperCfg _ _ => canonical_execTamperCfg h _ _
  | .deprovision _ _ => canonical_execDeprovision h _ _
  | .provision _ _ => canonical_execProvision h _ _
  | .tlogAck _ => canonical_execTlogAck h _
  | .nop _ => canonical_execNop h _
  | .ethSend _ _ => canonical_execEthSend h _ _
  | .hmkMint _ _ _ _ _ => canonical_execHmkMint h _ _ _ _ _
  | .clientRead _ _ => canonical_execClientRead h _ _
  | .clientBlock _ => canonical_execClientBlock h _
  | .clientUnblock _ => canonical_execClientUnblock h _
  | .clientDelete _ => canonical_execClientDelete h _
  | .cmdDoorbell _ _ => canonical_execCmdDoorbell h _ _
  | .cmdFetch _ _ => canonical_execCmdFetch h _ _
  | .cmdCompletionWrite _ => canonical_execCmdCompletionWrite h _
  | .evTailWrite _ _ => canonical_execEvTailWrite h _ _
  | .ringConfigWrite _ _ _ => canonical_execRingConfigWrite h _ _ _
  | .eventWrite _ => canonical_execEventWrite h _
  | .ringOverflowRecord _ => canonical_execRingOverflowRecord h _
  | .fifoOverflowRecord _ => canonical_execFifoOverflowRecord h _
  | .eventSummary _ => canonical_execEventSummary h _
  | .msixEventHoldoffEnd _ => canonical_execMsixEventHoldoffEnd h _
  | .msixTicStreamTimeout _ => canonical_execMsixTicStreamTimeout h _
  | .featuresOk => canonical_execFeaturesOk h
  | .tenCtlWrite _ _ => canonical_execTenCtlWrite h _ _
  | .busMasterClear _ => canonical_execBusMasterClear h _
  | .busMasterSet _ => canonical_execBusMasterSet h _
  | .flr _ => canonical_execFlr h _
  | .vfEnableClear => canonical_execVfEnableClear h
  | .tenantRelease _ => canonical_execTenantRelease h _
  | .regWrite _ _ _ _ _ => canonical_execRegWrite h _ _ _ _ _
  | .postedWriteAccept _ => canonical_execPostedWriteAccept h _
  | .rcRead _ _ _ => canonical_execRcRead h _ _ _
  | .snapshotLatch _ _ => canonical_execSnapshotLatch h _ _
  | .ticQwinRead _ _ _ => canonical_execTicQwinRead h _ _ _
  | .txtsPop _ => canonical_execTxtsPop h _
  | .engDmRead _ => canonical_execEngDmRead h _
  | .traceWinRead _ _ _ => canonical_execTraceWinRead h _ _ _
  | .counterRead _ _ => canonical_execCounterRead h _ _
  | .updStrobe _ _ => canonical_execUpdStrobe h _ _
  | .outputStop _ => canonical_execOutputStop h _
  | .stepArm => canonical_execStepArm h
  | .stepDisarm => canonical_execStepDisarm h
  | .annealCommand => canonical_execAnnealCommand h
  | .burnRelock _ => canonical_execBurnRelock h _
  | .aesRealign _ => canonical_execAesRealign h _
  | .tatSwap => canonical_execTatSwap h
  | .refClear => canonical_execRefClear h
  | .engineRelease _ _ => canonical_execEngineRelease h _ _
  | .linkRelease _ => canonical_execLinkRelease h _
  | .syncArm => canonical_execSyncArm h
  | .syncDisarm => canonical_execSyncDisarm h
  | .dateGo _ _ => canonical_execDateGo h _ _
  | .dateLoad => canonical_execDateLoad h
  | .markTimeout => canonical_execMarkTimeout h
  | .leapCommit => canonical_execLeapCommit h
  | .leapExpired => canonical_execLeapExpired h
  | .schWrite _ => canonical_execSchWrite h _
  | .schDelete _ => canonical_execSchDelete h _
  | .schRead _ => canonical_execSchRead h _
  | .searchStart => canonical_execSearchStart h
  | .searchAbort => canonical_execSearchAbort h
  | .gfeTransfer _ => canonical_execGfeTransfer h _
  | .gfeTransferDone _ => canonical_execGfeTransferDone h _
  | .loopGo => canonical_execLoopGo h
  | .loopAbort => canonical_execLoopAbort h
  | .loopFrameLaunch => canonical_execLoopFrameLaunch h
  | .loopRunEnd => canonical_execLoopRunEnd h
  | .loopTimeout => canonical_execLoopTimeout h
  | .tatLoad _ _ => canonical_execTatLoad h _ _
  | .tatLoadDone _ _ => canonical_execTatLoadDone h _ _
  | .imagePush _ _ => canonical_execImagePush h _ _
  | .imageCheckDone _ _ _ => canonical_execImageCheckDone h _ _ _
  | .seamSend _ _ _ => canonical_execSeamSend h _ _ _
  | .seamRxAck _ => canonical_execSeamRxAck h _
  | .obsSmpCfgWrite _ _ _ => canonical_execObsSmpCfgWrite h _ _ _
  | .obsTrcCfgWrite _ _ => canonical_execObsTrcCfgWrite h _ _
  | .schCongestedLate _ => canonical_execSchCongestedLate h _
  | .lateFireDispatch _ _ _ _ => canonical_execLateFireDispatch h _ _ _ _
  | .tick _ => canonical_execTick h _
  | .entryTimerEnd _ => canonical_execEntryTimerEnd h _
  | .probationEnd _ => canonical_execProbationEnd h _
  | .holdoffEnd _ => canonical_execHoldoffEnd h _
  | .sourceFaultClear _ => canonical_execSourceFaultClear h _
  | .lossRepeat _ => canonical_execLossRepeat h _
  | .heldMeasurementTimeout _ => canonical_execHeldMeasurementTimeout h _
  | .asyMeasurement => canonical_execAsyMeasurement h
  | .annealEnd => canonical_execAnnealEnd h
  | .armExpiry => canonical_execArmExpiry h
  | .holdModelUpdate => canonical_execHoldModelUpdate h
  | .efcTransfer => canonical_execEfcTransfer h
  | .tempRead _ => canonical_execTempRead h _
  | .tcLearnWrite _ _ _ _ _ => canonical_execTcLearnWrite h _ _ _ _ _
  | .modelOkSet => canonical_execModelOkSet h
  | .refEdge _ _ _ => canonical_execRefEdge h _ _ _
  | .ticRecordQueue _ => canonical_execTicRecordQueue h _
  | .ticOverflowRecord _ => canonical_execTicOverflowRecord h _
  | .ticStreamWrite _ => canonical_execTicStreamWrite h _
  | .losExpiry _ => canonical_execLosExpiry h _
  | .synceLockChange _ _ => canonical_execSynceLockChange h _ _
  | .uartChar _ _ _ _ => canonical_execUartChar h _ _ _ _
  | .charsDeliver _ => canonical_execCharsDeliver h _
  | .aportStale _ => canonical_execAportStale h _
  | .aportStCell => canonical_execAportStCell h
  | .todMsgCell => canonical_execTodMsgCell h
  | .checkCell => canonical_execCheckCell h
  | .todLossTimeout _ => canonical_execTodLossTimeout h _
  | .irigFrame _ _ _ _ _ _ _ _ => canonical_execIrigFrame h _ _ _ _ _ _ _ _
  | .todOutReq _ _ => canonical_execTodOutReq h _ _
  | .todOutCell => canonical_execTodOutCell h
  | .todoutSend _ => canonical_execTodoutSend h _
  | .pathWindowEnd _ _ _ => canonical_execPathWindowEnd h _ _ _
  | .pathRetry _ => canonical_execPathRetry h _
  | .cdcWindowEnd _ _ => canonical_execCdcWindowEnd h _ _
  | .calAgeExpiry _ => canonical_execCalAgeExpiry h _
  | .calTempDrift _ _ => canonical_execCalTempDrift h _ _
  | .gateLongClose _ => canonical_execGateLongClose h _
  | .gsiClockFault _ _ _ => canonical_execGsiClockFault h _ _ _
  | .gsiClockRecover _ _ => canonical_execGsiClockRecover h _ _
  | .antSample _ _ => canonical_execAntSample h _ _
  | .gnsIntegration _ _ _ _ _ _ _ => canonical_execGnsIntegration h _ _ _ _ _ _ _
  | .pullLockHeld _ => canonical_execPullLockHeld h _
  | .pullTimeout _ => canonical_execPullTimeout h _
  | .cn0LossTimeout _ => canonical_execCn0LossTimeout h _
  | .coastTimeout _ => canonical_execCoastTimeout h _
  | .searchDwell _ => canonical_execSearchDwell h _
  | .aidedDwell _ _ _ _ => canonical_execAidedDwell h _ _ _ _
  | .searchSettleEnd => canonical_execSearchSettleEnd h
  | .allLostTimeout => canonical_execAllLostTimeout h
  | .solutionCompute _ => canonical_execSolutionCompute h _
  | .ingotCopy _ _ => canonical_execIngotCopy h _ _
  | .seamFrame _ _ => canonical_execSeamFrame h _ _
  | .launchCycle _ => canonical_execLaunchCycle h _
  | .goutEdge _ => canonical_execGoutEdge h _
  | .ticGateStart _ => canonical_execTicGateStart h _
  | .ticGateStop _ => canonical_execTicGateStop h _
  | .calWindowPath _ => canonical_execCalWindowPath h _
  | .calWindowCdc _ => canonical_execCalWindowCdc h _
  | .strobe _ _ _ => canonical_execStrobe h _ _ _
  | .genSwitch _ _ => canonical_execGenSwitch h _ _
  | .keyRotate _ => canonical_execKeyRotate h _
  | .swapDrill _ => canonical_execSwapDrill h _
  | .gnssEpoch _ _ => canonical_execGnssEpoch h _ _
  | .planishWake _ => canonical_execPlanishWake h _
  | .gflTime _ => canonical_execGflTime h _
  | .gnssBurst _ => canonical_execGnssBurst h _
  | .burnSearchDone _ _ _ => canonical_execBurnSearchDone h _ _ _
  | .burnLockDeclared _ _ => canonical_execBurnLockDeclared h _ _
  | .burnAcqTimeout _ => canonical_execBurnAcqTimeout h _
  | .burnRefLost _ => canonical_execBurnRefLost h _
  | .burnLockLost _ _ => canonical_execBurnLockLost h _ _
  | .burnSourceReturn _ => canonical_execBurnSourceReturn h _
  | .bypassClockLost => canonical_execBypassClockLost h
  | .outputReturn _ => canonical_execOutputReturn h _
  | .syncinEdge => canonical_execSyncinEdge h
  | .pulseEnd _ => canonical_execPulseEnd h _
  | .timecodeElement _ => canonical_execTimecodeElement h _
  | .aesRxZPreamble _ _ _ => canonical_execAesRxZPreamble h _ _ _
  | .aesTxBlock _ _ => canonical_execAesTxBlock h _ _
  | .aesResume _ => canonical_execAesResume h _
  | .pcsLockChange _ _ => canonical_execPcsLockChange h _ _
  | .portUpTimer _ => canonical_execPortUpTimer h _
  | .portFault _ _ => canonical_execPortFault h _ _
  | .portFaultClear _ => canonical_execPortFaultClear h _
  | .gridLockChange _ _ _ => canonical_execGridLockChange h _ _ _
  | .preemptVerify _ => canonical_execPreemptVerify h _
  | .frameReceive _ _ _ _ _ _ => canonical_execFrameReceive h _ _ _ _ _ _
  | .pauseEnd _ _ => canonical_execPauseEnd h _ _
  | .pauseWatchdog _ _ => canonical_execPauseWatchdog h _ _
  | .launchRequest _ _ _ => canonical_execLaunchRequest h _ _ _
  | .launchStart _ _ => canonical_execLaunchStart h _ _
  | .launchEmpty _ => canonical_execLaunchEmpty h _
  | .beFrameStart _ _ => canonical_execBeFrameStart h _ _
  | .txtsOverflowEntry _ => canonical_execTxtsOverflowEntry h _
  | .hmkRequest _ _ => canonical_execHmkRequest h _ _
  | .staleReq _ => canonical_execStaleReq h _
  | .announceSyncSend _ _ _ _ => canonical_execAnnounceSyncSend h _ _ _ _
  | .clientReclaim _ _ _ _ => canonical_execClientReclaim h _ _ _ _
  | .patrolScrubRead _ _ _ _ _ _ => canonical_execPatrolScrubRead h _ _ _ _ _ _
  | .scrubWrite _ => canonical_execScrubWrite h _
  | .regionEffect _ => canonical_execRegionEffect h _
  | .regionDrainEnd _ => canonical_execRegionDrainEnd h _
  | .plAdd _ => canonical_execPlAdd h _
  | .plSub _ => canonical_execPlSub h _
  | .plAnd _ => canonical_execPlAnd h _
  | .plOr _ => canonical_execPlOr h _
  | .plXor _ => canonical_execPlXor h _
  | .plShl _ => canonical_execPlShl h _
  | .plShr _ => canonical_execPlShr h _
  | .plSra _ => canonical_execPlSra h _
  | .plMul _ => canonical_execPlMul h _
  | .plSlt _ => canonical_execPlSlt h _
  | .plSltu _ => canonical_execPlSltu h _
  | .plAdd64 _ => canonical_execPlAdd64 h _
  | .plSub64 _ => canonical_execPlSub64 h _
  | .plCmpt _ => canonical_execPlCmpt h _
  | .plAddi _ => canonical_execPlAddi h _
  | .plAndi _ => canonical_execPlAndi h _
  | .plOri _ => canonical_execPlOri h _
  | .plShli _ => canonical_execPlShli h _
  | .plShri _ => canonical_execPlShri h _
  | .plLui _ => canonical_execPlLui h _
  | .plLdw _ _ => canonical_execPlLdw h _ _
  | .plLdb _ _ => canonical_execPlLdb h _ _
  | .plStw _ => canonical_execPlStw h _
  | .plStb _ => canonical_execPlStb h _
  | .plBeq _ => canonical_execPlBeq h _
  | .plBne _ => canonical_execPlBne h _
  | .plBlt _ => canonical_execPlBlt h _
  | .plBge _ => canonical_execPlBge h _
  | .plBltu _ => canonical_execPlBltu h _
  | .plBgeu _ => canonical_execPlBgeu h _
  | .plJmp _ => canonical_execPlJmp h _
  | .plJal _ => canonical_execPlJal h _
  | .plJr _ => canonical_execPlJr h _
  | .plFault _ => canonical_execPlFault h _
  | .plBld _ => canonical_execPlBld h _
  | .plBst _ => canonical_execPlBst h _
  | .plRds _ => canonical_execPlRds h _
  | .plPktlw _ => canonical_execPlPktlw h _
  | .plPktlh _ => canonical_execPlPktlh h _
  | .plPktlb _ => canonical_execPlPktlb h _
  | .plPktinf _ => canonical_execPlPktinf h _
  | .plPktts _ => canonical_execPlPktts h _
  | .plClass _ => canonical_execPlClass h _
  | .plCelllw _ => canonical_execPlCelllw h _
  | .plCellsw _ => canonical_execPlCellsw h _
  | .plCellput _ => canonical_execPlCellput h _
  | .plRdt _ => canonical_execPlRdt h _
  | .plWaitt _ => canonical_execPlWaitt h _
  | .plWaite _ => canonical_execPlWaite h _
  | .waitReturn _ => canonical_execWaitReturn h _
  | .txLaunchCell _ _ => canonical_execTxLaunchCell h _ _
  | .upstreamCell _ => canonical_execUpstreamCell h _
  | .linkLaneLock _ => canonical_execLinkLaneLock h _
  | .laneLoss _ => canonical_execLaneLoss h _
  | .cellReceive _ _ _ _ => canonical_execCellReceive h _ _ _ _
  | .nakReceive _ _ => canonical_execNakReceive h _ _
  | .helloReceive _ => canonical_execHelloReceive h _
  | .timeCellReceive _ => canonical_execTimeCellReceive h _
  | .shardReqReceive _ _ _ => canonical_execShardReqReceive h _ _ _
  | .shardRespReceive _ => canonical_execShardRespReceive h _
  | .ingotReceive _ => canonical_execIngotReceive h _
  | .ingotAckReceive _ => canonical_execIngotAckReceive h _
  | .resyncComplete => canonical_execResyncComplete h
  | .seamReportReceive _ _ _ => canonical_execSeamReportReceive h _ _ _
  | .seamMsgReceive _ _ _ => canonical_execSeamMsgReceive h _ _ _
  | .seamContentionSend _ _ => canonical_execSeamContentionSend h _ _
  | .seamBackoffEnd _ => canonical_execSeamBackoffEnd h _
  | .memberSilent _ => canonical_execMemberSilent h _
  | .rollcallComplete => canonical_execRollcallComplete h
  | .contOnlyEnter => canonical_execContOnlyEnter h
  | .slottedReturn => canonical_execSlottedReturn h
  | .claimInChange _ => canonical_execClaimInChange h _
  | .claimRiseArrives => canonical_execClaimRiseArrives h
  | .claimTie => canonical_execClaimTie h
  | .outMonMismatch _ => canonical_execOutMonMismatch h _
  | .drillHoldEnd => canonical_execDrillHoldEnd h
  | .traceDramWrite => canonical_execTraceDramWrite h
  | .tracePinSend => canonical_execTracePinSend h
  | .traceGapEnter _ => canonical_execTraceGapEnter h _
  | .traceLossReport => canonical_execTraceLossReport h
  | .msixSampleHoldoffEnd => canonical_execMsixSampleHoldoffEnd h
  | .regRead _ _ _ _ => canonical_execRegRead h _ _ _ _
  | .spllRelock => canonical_execSpllRelock h
  | .todPairWindowExpiry _ => canonical_execTodPairWindowExpiry h _
  | .aesRxLockChange _ _ => canonical_execAesRxLockChange h _ _
  | .grantExpiry _ _ _ _ _ => canonical_execGrantExpiry h _ _ _ _ _
  | .bypassClockReturn => canonical_execBypassClockReturn h

theorem canonical_advance_one {s : State} (h : s.Canonical) : NextCanonical (.next (s.advance 1)) :=
  nextCanonical_next (canonical_advance h 1)

/-- Settles O60: each command keeps the canonical form (`canonical_exec`), because each operation it is made of does. -/
theorem canonicalInvariant : Obligations.CanonicalInvariant := by
  unfold Obligations.CanonicalInvariant
  intro s t h hstep
  unfold step at hstep
  split at hstep
  · exact canonical_exec (canonical_takeFront h _) _ t hstep
  · exact canonical_advance_one h t hstep

end Sys2Proof.Proofs

end

section
open Sys2Proof Sys2Proof.Machine Sys2Proof.Claims

namespace Sys2Proof.Proofs

/-- No command stops the block: each arm of `exec` answers a next state. -/
theorem exec_next (s : State) (c : Instr) : ∃ t, exec c s = .next t := by
  cases c <;> exact ⟨_, rfl⟩

/-- Settles O58. -/
theorem stepRunsFront : Obligations.StepRunsFront := by
  unfold Obligations.StepRunsFront
  refine ⟨exec_next, fun _ _ _ => rfl, fun s h => ?_, fun _ _ _ => rfl⟩
  unfold step
  rw [h]

end Sys2Proof.Proofs
end

section
open Sys2Proof Sys2Proof.Machine Sys2Proof.Claims

namespace Sys2Proof.Proofs

/-- Settles O59: the register file of the reset state lists no word, so each reads as its reset value. -/
theorem resetState : Obligations.ResetState := by
  unfold Obligations.ResetState
  refine ⟨⟨rfl, rfl⟩, rfl, rfl, rfl, rfl, rfl, rfl, fun _ => rfl, ?_, ?_, ?_, ?_, ?_, ?_⟩
  · decide +kernel
  · decide +kernel
  · decide +kernel
  · decide +kernel
  · decide +kernel
  · decide +kernel

end Sys2Proof.Proofs
end

section
/-!
What counting and recording keep (R376, R443, R448, R451): what has left the part has left it (`Outlives`), and a record stands in
its staging FIFO.
-/

open Sys2Proof Sys2Proof.Machine Sys2Proof.Claims

namespace Sys2Proof.Proofs

/-- What has left the part in state s has left it in state t, and the records staged in s are staged in t. -/
def Outlives (s t : State) : Prop :=
  (∀ o ∈ s.out, o ∈ t.out) ∧ ∀ n, ∀ r ∈ (s.fn n).fifo, r ∈ (t.fn n).fifo

namespace Outlives
variable {s t u : State}

theorem refl (s : State) : Outlives s s := ⟨fun _ h => h, fun _ _ h => h⟩

theorem trans (h : Outlives s t) (k : Outlives t u) : Outlives s u :=
  ⟨fun o ho => k.1 o (h.1 o ho), fun n r hr => k.2 n r (h.2 n r hr)⟩

/-- An update of neither. -/
theorem of_eq (hout : t.out = s.out) (hfns : t.hif.fns = s.hif.fns) : Outlives s t :=
  ⟨fun _ h => hout ▸ h, fun n r h => by simpa only [State.fn, hfns] using h⟩

theorem emitOut (s : State) (o : Out) : Outlives s (s.emitOut o) := ⟨fun _ h => List.mem_cons_of_mem _ h, fun _ _ h => h⟩

theorem setFn {n : ℕ} {f : FnSt} (h : ∀ r ∈ (s.fn n).fifo, r ∈ f.fifo) : Outlives s (s.setFn n f) := by
  refine ⟨fun _ ho => ho, fun m r hr => ?_⟩
  rw [State.fn_setFn]
  split
  · next hm => exact h r (hm ▸ hr)
  · exact hr

theorem pushTrace (s : State) (ty src sh fr p : ℕ) : Outlives s (s.pushTrace ty src sh fr p).1 := by
  unfold State.pushTrace
  dsimp only
  split
  · exact of_eq rfl rfl
  · split <;> exact of_eq rfl rfl

theorem pushEv (s : State) (n : ℕ) (r : EvRec) : Outlives s (s.pushEv n r).1 := by
  have hroom : ∀ f : FnSt, (∀ x ∈ (s.fn n).fifo, x ∈ f.fifo) → ∀ g : FnSt, (∀ x ∈ f.fifo, x ∈ g.fifo) →
      Outlives s (s.setFn n g) := fun f hf g hg => setFn fun x hx => hg x (hf x hx)
  unfold State.pushEv
  extract_lets f0 f l
  have hf : ∀ x ∈ (s.fn n).fifo, x ∈ f.fifo := by
    intro x hx
    unfold f
    split
    · split
      · exact List.mem_append_left _ hx
      · exact hx
    · exact hx
  split
  · exact hroom f hf _ fun x hx => List.mem_append_left _ hx
  split
  · exact hroom f hf _ fun x hx => hx
  · exact hroom f hf _ fun x hx => hx

theorem signalSample (s : State) : Outlives s s.signalSample := by
  unfold State.signalSample
  dsimp only
  split
  · exact of_eq rfl rfl
  · exact emitOut _ _

theorem slotStep {more : State → ℕ → State} (hm : ∀ s k, Outlives s (more s k)) (i n : ℕ) (s : State) (j : ℕ) :
    Outlives s (State.slotStep more i n s j) := by
  have hslot : ∀ x, Outlives s (s.setSlot j x) := fun _ => of_eq rfl rfl
  unfold State.slotStep
  extract_lets x per crossed x' recent p s1
  have hs1 : Outlives s s1 := hslot _
  split
  swap
  · exact refl s
  split
  · exact hslot _
  split
  · exact (hslot _).trans (hm _ _)
  have hev := pushEv s1 0 (s1.evRec 0x38 0 s1.short s1.frac p)
  generalize s1.pushEv 0 (s1.evRec 0x38 0 s1.short s1.frac p) = q at hev ⊢
  obtain ⟨u, co⟩ := q
  have htr := pushTrace u 12 0 u.short u.frac p
  generalize hq : u.pushTrace 12 0 u.short u.frac p = q at htr
  obtain ⟨v, lost⟩ := q
  have hv : Outlives s (more (more v.signalSample 0x605) 0x600) :=
    ((hs1.trans (hev.trans htr)).trans (signalSample v)).trans ((hm _ _).trans (hm _ _))
  dsimp only
  rw [hq]
  cases lost <;> cases co
  · exact hv
  · exact hv.trans (hm _ _)
  · exact hv.trans (hm _ _)
  · exact hv.trans ((hm _ _).trans (hm _ _))

theorem countF : ∀ (k : ℕ) (s : State) (i n : ℕ), Outlives s (State.countF k s i n)
  | 0, _, _, _ => of_eq rfl rfl
  | k + 1, s, i, n => by
    have hslots : ∀ (l : List ℕ) (u : State),
        Outlives u (l.foldl (State.slotStep (fun s k' => State.countF k s k' 1) i n) u) := by
      intro l
      induction l with
      | nil => exact refl
      | cons a t ih => exact fun u => (slotStep (fun s k' => countF k s k' 1) i n u a).trans (ih _)
    have hbump : Outlives s (s.bump i n) := of_eq rfl rfl
    exact hbump.trans (hslots _ _)

theorem countN (s : State) (i n : ℕ) : Outlives s (s.countN i n) := countF 9 s i n

theorem count (s : State) (i : ℕ) : Outlives s (s.count i) := countF 9 s i 1

theorem traceAt (s : State) (ty src sh fr p : ℕ) : Outlives s (s.traceAt ty src sh fr p) := by
  unfold State.traceAt
  dsimp only
  split
  · exact ((pushTrace s ty src sh fr p).trans (count _ _)).trans (count _ _)
  · exact (pushTrace s ty src sh fr p).trans (count _ _)

theorem eventAt (s : State) (n ty te sh fr p : ℕ) : Outlives s (s.eventAt n ty te sh fr p) := by
  unfold State.eventAt
  dsimp only
  split
  · exact (pushEv s n _).trans (count _ _)
  · exact pushEv s n _

theorem mem_putBefore {α : Type} {later : α → Bool} {x y : α} : ∀ {l : List α}, y ∈ State.putBefore later x l ↔ y = x ∨ y ∈ l
  | [] => by simp [State.putBefore]
  | h :: t => by
    unfold State.putBefore
    split
    · simp
    · rw [List.mem_cons, mem_putBefore (l := t), List.mem_cons]
      tauto

theorem orderLast (s : State) : Outlives s s.orderLast := by
  unfold State.orderLast
  dsimp only
  split
  · next r hr =>
    split
    · refine setFn fun x hx => mem_putBefore.mpr ?_
      rw [← List.dropLast_append_getLast? r hr, List.mem_append, List.mem_singleton] at hx
      exact hx.symm
    · exact refl s
  · exact refl s

theorem pevent (s : State) (ty te p : ℕ) : Outlives s (s.pevent ty te p) := (eventAt s 0 ty te _ _ p).trans (orderLast _)

theorem orderTrace (s : State) : Outlives s s.orderTrace := by
  unfold State.orderTrace
  dsimp only
  split
  · split
    · exact of_eq rfl rfl
    · exact refl s
  · exact refl s

end Outlives

/-- A record enters the staging FIFO where it has room and no count of its type waits. -/
theorem mem_pushEv (s : State) {n : ℕ} (r : EvRec) (hroom : (s.fn n).fifo.length < 511) (hcoal : (s.fn n).coal = []) :
    r ∈ ((s.pushEv n r).1.fn n).fifo := by
  unfold State.pushEv
  extract_lets f0 f l
  have hf : f.fifo.length < 512 ∧ f.coal = [] := by
    unfold f
    split
    · split
      · refine ⟨?_, hcoal⟩
        simp only [f0, List.length_append, List.length_singleton]
        omega
      · exact ⟨hroom.trans (by omega), hcoal⟩
    · exact ⟨hroom.trans (by omega), hcoal⟩
  rw [if_pos hf.1, hf.2]
  simp [State.fn_setFn, State.takeCoal]

theorem mem_eventAt (s : State) {n : ℕ} (ty te sh fr p : ℕ) (hroom : (s.fn n).fifo.length < 511) (hcoal : (s.fn n).coal = []) :
    s.evRec ty te sh fr p ∈ ((s.eventAt n ty te sh fr p).fn n).fifo := by
  have h := mem_pushEv s (s.evRec ty te sh fr p) hroom hcoal
  unfold State.eventAt
  dsimp only
  split
  · exact (Outlives.count _ _).2 n _ h
  · exact h

theorem mem_event (s : State) {n : ℕ} (ty te p : ℕ) (hroom : (s.fn n).fifo.length < 511) (hcoal : (s.fn n).coal = []) :
    s.evRec ty te s.short s.frac p ∈ ((s.event n ty te p).fn n).fifo := mem_eventAt s ty te _ _ p hroom hcoal

theorem mem_pevent (s : State) (ty te p : ℕ) (hroom : (s.fn 0).fifo.length < 511) (hcoal : (s.fn 0).coal = []) :
    s.evRec ty te s.short s.frac p ∈ ((s.pevent ty te p).fn 0).fifo :=
  (Outlives.orderLast _).2 0 _ (mem_event s ty te p hroom hcoal)

/-- The provider's record of a command, staged in u, which has the time and the provider's own state of s. -/
theorem reports_pevent {s u t : State} {ty p : ℕ} (hprov : u.prov = s.prov) (htime : u.time = s.time) (hfn : u.fn 0 = s.fn 0)
    (ht : Outlives (u.pevent ty 0 p) t) : Reports s t 0 ty 0 p := by
  intro hroom hcoal
  have hrec : u.evRec ty 0 u.short u.frac p = s.evRec ty 0 s.short s.frac p := by
    simp only [State.evRec, State.short, State.ns, State.frac, hprov, htime]
  rw [← hrec]
  exact ht.2 0 _ (mem_pevent u ty 0 p (by rw [hfn]; omega) (by rw [hfn]; exact hcoal))

end Sys2Proof.Proofs
end

section
/-!
What a Planish instruction leaves alone (R342, O1 to O8). `Kept` says which register words and which engine differ; each of the
updates that an instruction is made of has one lemma about it, and `Kept.ran` turns it into the `Ran` of the claims.
-/

open Sys2Proof Sys2Proof.Machine Sys2Proof.Claims

namespace Sys2Proof.Proofs

/-! ## The engine's registers -/

theorem gKeys_of_ne {e r : ℕ} (h : r ≠ 0) : gKeys e r = [(F.ENG_G_VALUE e r).a] := if_neg h

theorem g_setG_self (s : State) (e r v : ℕ) : (s.setG e r v).g e r = if r = 0 then 0 else v % 2 ^ 32 := by
  unfold State.g State.setG
  split
  · rfl
  · exact State.get_set_self ..

theorem g_setG_ne (s : State) {e r q : ℕ} (v : ℕ) (h : q ≠ r) : (s.setG e r v).g e q = s.g e q := by
  unfold State.g State.setG
  split
  · rfl
  split
  · rfl
  · exact State.get_set_apart _ _ _ _ (Store.apart_of_lt (by simp [Store.span]; omega))

theorem g_setPc (s : State) (e v r : ℕ) : (s.setPc e v).g e r = s.g e r := by
  unfold State.g State.setPc
  split
  · rfl
  · exact State.get_set_apart _ _ _ _ (Store.apart_of_lt (by simp [Store.span]; omega))

theorem pc_setPc (s : State) (e v : ℕ) : (s.setPc e v).pc e = v % 2 ^ 11 := State.get_set_self ..

theorem pc_setG (s : State) (e r v : ℕ) : (s.setG e r v).pc e = s.pc e := by
  unfold State.pc State.setG
  split
  · rfl
  · exact State.get_set_apart _ _ _ _ (Store.apart_of_lt (by simp [Store.span]; omega))

theorem g_lt (s : State) (e r : ℕ) : s.g e r < 2 ^ 32 := by
  unfold State.g
  split
  · exact Nat.two_pow_pos 32
  · exact State.get_lt ..

/-- Nothing that a read of engine e's registers looks at has changed. -/
theorem g_of_regs {s u : State} (h : u.regs = s.regs) (e r : ℕ) : u.g e r = s.g e r := by
  simp only [State.g, State.get, h]

theorem pc_of_regs {s u : State} (h : u.regs = s.regs) (e : ℕ) : u.pc e = s.pc e := by simp only [State.pc, State.get, h]

/-! ## What an instruction leaves alone -/

/-- State u differs from s at most in the register words ks, in engine e, which is x, and in what counts and records. -/
def Kept (s u : State) (e : ℕ) (ks : List ℕ) (x : EngSt) : Prop :=
  SameRegs ks s u ∧ SameRest s u ∧ (∀ e', e' ≠ e → u.engine e' = s.engine e') ∧ u.engine e = x

/-- Engine e with c further cycles. -/
def charged (s : State) (e c : ℕ) : EngSt :=
  { s.engine e with
    cyc := (s.engine e).cyc + c
    frameCyc := if s.frameCounted e then (s.engine e).frameCyc + c else (s.engine e).frameCyc }

namespace Kept
variable {s u : State} {e : ℕ} {ks : List ℕ} {x : EngSt}

theorem refl (s : State) (e : ℕ) : Kept s s e [] (s.engine e) := ⟨fun _ _ => rfl, rfl, fun _ _ => rfl, rfl⟩

theorem mono (h : Kept s u e ks x) {ls : List ℕ} (hsub : ∀ k ∈ ks, k ∈ ls) : Kept s u e ls x :=
  ⟨fun k hk => h.1 k fun hm => hk (hsub k hm), h.2⟩

theorem setEngine (h : Kept s u e ks x) (y : EngSt) : Kept s (u.setEngine e y) e ks y := by
  obtain ⟨hregs, hrest, hother, -⟩ := h
  refine ⟨hregs, hrest, fun e' he => ?_, ?_⟩
  · rw [State.engine_setEngine, if_neg he, hother e' he]
  · rw [State.engine_setEngine, if_pos rfl]

theorem set (h : Kept s u e ks x) (f : Fld) (v : ℕ) (hf : Store.span f = 1) : Kept s (u.set f v) e (f.a :: ks) x := by
  obtain ⟨hregs, hrest, hengines⟩ := h
  refine ⟨fun k hk => ?_, hrest, hengines⟩
  rw [List.mem_cons, not_or] at hk
  rw [State.word_set u f v k hf hk.1, hregs k hk.2]

theorem setG (h : Kept s u e ks x) (r v : ℕ) : Kept s (u.setG e r v) e (gKeys e r ++ ks) x := by
  unfold State.setG gKeys
  split
  · exact h
  · exact h.set _ _ (by simp [Store.span])

theorem setPc (h : Kept s u e ks x) (v : ℕ) : Kept s (u.setPc e v) e ((F.ENG_PC_PC e).a :: ks) x :=
  h.set _ _ (by simp [Store.span])

theorem charge (s : State) (e c : ℕ) : Kept s (s.charge e c) e [] (charged s e c) := (refl s e).setEngine _

theorem executed (h : Kept s u e ks x) (c : ℕ) (b : Bool) : Kept s (u.executed e c b) e ks x := by
  obtain ⟨hregs, hrest, hother, hself⟩ := h
  have hengine : ∀ e', (u.executed e c b).engine e' = u.engine e' := fun e' => by simp only [State.engine, State.executed_eng]
  refine ⟨fun k hk => ?_, ?_, fun e' he => ?_, ?_⟩
  · rw [State.executed_regs, hregs k hk]
  · rw [SameRest, State.executed_calm]
    exact hrest
  · rw [hengine, hother e' he]
  · rw [hengine, hself]

/-- What the claims say of an instruction that goes on at pc. -/
theorem ran (h : Kept s u e ks x) {pc c : ℕ} {ls : List ℕ} {f : EngSt → EngSt} (hpc : u.pc e = pc % 2 ^ 11)
    (hsub : ∀ k ∈ ks, k ∈ (F.ENG_PC_PC e).a :: ls) (hx : x = f (charged s e c)) : Ran s u e pc c ls f := by
  obtain ⟨hregs, hrest, hother, hself⟩ := h.mono hsub
  exact ⟨hpc, hregs, hrest, hother, hself.trans hx⟩

end Kept

theorem charge_g (s : State) (e c r : ℕ) : (s.charge e c).g e r = s.g e r := g_of_regs rfl e r

theorem charge_pc (s : State) (e c : ℕ) : (s.charge e c).pc e = s.pc e := pc_of_regs rfl e

theorem charge_pAddr (s : State) (e c w : ℕ) : (s.charge e c).pAddr e w = s.pAddr e w := by
  simp only [State.pAddr, charge_g]

theorem charge_pairG (s : State) (e c r : ℕ) : (s.charge e c).pairG e r = s.pairG e r := by
  simp only [State.pairG, charge_g]

theorem charge_engine (s : State) (e c : ℕ) : (s.charge e c).engine e = charged s e c := (Kept.charge s e c).2.2.2

theorem executed_g (s : State) (e c : ℕ) (b : Bool) (r : ℕ) : (s.executed e c b).g e r = s.g e r :=
  g_of_regs (State.executed_regs ..) e r

theorem executed_pc (s : State) (e c : ℕ) (b : Bool) : (s.executed e c b).pc e = s.pc e :=
  pc_of_regs (State.executed_regs ..) e

theorem executed_engine (s : State) (e c : ℕ) (b : Bool) (e' : ℕ) : (s.executed e c b).engine e' = s.engine e' := by
  simp only [State.engine, State.executed_eng]

theorem g_pcNext (s : State) (e r : ℕ) : (s.pcNext e).g e r = s.g e r := g_setPc ..

theorem pc_pcNext (s : State) (e : ℕ) : (s.pcNext e).pc e = (s.pc e + 1) % 2 ^ 11 := pc_setPc ..

/-! ## Results -/

/-- A ready engine runs its instruction: the command answers what its effect makes of the charged state. -/
theorem does_pRun {s : State} {e op c w : ℕ} {cost faults : State → ℕ → ℕ → ℕ} {act : State → ℕ → ℕ → State}
    {i : Instr} {P : State → Prop} (h : Ready s e op c w) (hexec : exec i s = .next (State.pRun op cost faults act e s))
    (hcost : cost s e w = c) (hfaults : faults s e w = 0)
    (hP : ∀ b, P ((act (s.charge e c) e w).executed e c b)) : Does i s P := by
  obtain ⟨hpresent, hrun, hfetch, hop, hlegal, hbudget⟩ := h
  refine ⟨_, hexec, ?_⟩
  rw [State.pRun_ready hpresent hrun hfetch hop hlegal hfaults (hcost ▸ hbudget), hcost]
  exact hP _

/-- A value put into Gr, and the next instruction. -/
theorem puts_executed {s u : State} {e r v c : ℕ} {f : EngSt → EngSt} (hu : Kept s u e [] (f (charged s e c)))
    (hpc : u.pc e = s.pc e) (b : Bool) : Puts s (((u.setG e r v).pcNext e).executed e c b) e r v c f := by
  refine ⟨?_, (((hu.setG r v).setPc _).executed c b).ran ?_ ?_ rfl⟩
  · rw [executed_g, g_pcNext, g_setG_self]
  · rw [executed_pc, pc_setPc, pc_setG, hpc]
  · simp

/-- A value put into the pair Gr, Gr+1, and the next instruction. -/
theorem putsPair_executed (s : State) (e r v c : ℕ) (b : Bool) :
    PutsPair s ((((s.charge e c).setPairG e r v).pcNext e).executed e c b) e r v c := by
  refine ⟨?_, ?_, (((((Kept.charge s e c).setG r v).setG (r + 1) (v / 2 ^ 32)).setPc _).executed c b).ran ?_ ?_ rfl⟩
  · rw [executed_g, g_pcNext, State.setPairG, g_setG_ne _ _ (by omega), g_setG_self]
  · rw [executed_g, g_pcNext, State.setPairG, g_setG_self, if_neg (by omega)]
  · rw [executed_pc, pc_setPc, State.setPairG, pc_setG, pc_setG, charge_pc]
  · intro k hk
    simp only [List.mem_cons, List.mem_append, List.not_mem_nil, or_false] at hk ⊢
    tauto

/-- An instruction of format R with one result. -/
theorem aluDoes {i : ℕ → Instr} {op c : ℕ} {f g : ℕ → ℕ → ℕ} (hexec : ∀ e s, exec (i e) s = .next (State.pAlu op c f e s))
    (hfg : f = g) : AluDoes i op c g := by
  subst hfg
  intro s e w h
  refine does_pRun h (hexec e s) rfl rfl fun b => ?_
  rw [charge_g, charge_g]
  exact puts_executed (Kept.charge s e c) (charge_pc s e c) b

/-- An instruction of format I with one result. -/
theorem immDoes {i : ℕ → Instr} {op : ℕ} {f g : ℕ → ℕ → ℕ} (hexec : ∀ e s, exec (i e) s = .next (State.pAluI op f e s))
    (hfg : f = g) : ImmDoes i op g := by
  subst hfg
  intro s e w h
  refine does_pRun h (hexec e s) rfl rfl fun b => ?_
  rw [charge_g]
  exact puts_executed (Kept.charge s e 1) (charge_pc s e 1) b

/-- Settles O1: each ALU instruction runs `State.pAlu` with its operation. -/
theorem planishAluResult : Obligations.PlanishAluResult := by
  unfold Obligations.PlanishAluResult
  refine ⟨aluDoes (fun _ _ => rfl) rfl, aluDoes (fun _ _ => rfl) rfl, aluDoes (fun _ _ => rfl) rfl, aluDoes (fun _ _ => rfl) rfl,
    aluDoes (fun _ _ => rfl) rfl, aluDoes (fun _ _ => rfl) rfl, aluDoes (fun _ _ => rfl) rfl, aluDoes (fun _ _ => rfl) ?_,
    aluDoes (fun _ _ => rfl) rfl, aluDoes (fun _ _ => rfl) rfl, aluDoes (fun _ _ => rfl) rfl⟩
  funext a b
  simp [State.sra32, ofSigned]

/-- The sign of a difference as a 32-bit number. -/
theorem ofSigned_sign (d : ℤ) : ofSigned 32 d.sign = if d < 0 then 2 ^ 32 - 1 else if d = 0 then 0 else 1 := by
  rcases lt_trichotomy d 0 with h | h | h
  · rw [Int.sign_eq_neg_one_of_neg h, if_pos h]; rfl
  · subst h; rfl
  · rw [Int.sign_eq_one_of_pos h, if_neg (by omega), if_neg (by omega)]; rfl

/-- A pair takes its value modulo 2^64. -/
theorem putsPair_mod {s t : State} {e r v c : ℕ} (h : PutsPair s t e r (v % 2 ^ 64) c) : PutsPair s t e r v c := by
  obtain ⟨hlo, hhi, hran⟩ := h
  refine ⟨hlo.trans ?_, hhi.trans ?_, hran⟩
  · rw [Nat.mod_mod_of_dvd _ (by norm_num)]
  · omega

/-- Settles O2. -/
theorem planishPairResult : Obligations.PlanishPairResult := by
  unfold Obligations.PlanishPairResult
  refine ⟨fun s e w h => does_pRun h rfl rfl rfl fun b => ?_, fun s e w h => does_pRun h rfl rfl rfl fun b => ?_,
    fun s e w h => does_pRun h rfl rfl rfl fun b => ?_⟩
  · rw [charge_pairG, charge_pairG]
    exact putsPair_mod (putsPair_executed s e _ _ 2 b)
  · rw [charge_pairG, charge_pairG]
    exact putsPair_mod (putsPair_executed s e _ _ 2 b)
  · rw [charge_pairG, charge_pairG]
    dsimp only
    rw [← ofSigned_sign]
    exact puts_executed (Kept.charge s e 2) (charge_pc s e 2) b

/-- Settles O3: each immediate instruction runs `State.pAluI` with its operation. -/
theorem planishImmediateResult : Obligations.PlanishImmediateResult := by
  unfold Obligations.PlanishImmediateResult
  exact ⟨immDoes (fun _ _ => rfl) rfl, immDoes (fun _ _ => rfl) rfl, immDoes (fun _ _ => rfl) rfl, immDoes (fun _ _ => rfl) rfl,
    immDoes (fun _ _ => rfl) rfl, immDoes (fun _ _ => rfl) rfl⟩

end Sys2Proof.Proofs
end

section
/-!
The Planish instructions beyond the ALU (O4 to O8): loads and stores, branches and jumps, time and waits, frames and cells, and
registers of the blocks.
-/

open Sys2Proof Sys2Proof.Machine Sys2Proof.Claims

namespace Sys2Proof.Proofs

/-! ## Data memory (O4) -/

theorem dmFault_eq_zero {s : State} {n e w : ℕ} (h : s.pAddr e w < 16384) (ha : s.pAddr e w % n = 0) :
    State.dmFault n s e w = 0 := by
  unfold State.dmFault
  rw [if_neg (by omega)]

/-- A load without a fault. -/
theorem does_load {i : Instr} {op n : ℕ} {s : State} {e w : ℕ} (hexec : exec i s = .next (State.pLoad op n false e s))
    (h : Ready s e op 2 w) (hin : s.pAddr e w < 16384) (ha : s.pAddr e w % n = 0) :
    Does i s fun t => Puts s t e (pRd w) (Mem.read (s.engine e).dm (s.pAddr e w) n) 2 id := by
  have hfault := dmFault_eq_zero hin ha
  refine does_pRun h hexec rfl (by simp [hfault]) fun b => ?_
  rw [charge_engine, charge_pAddr]
  exact puts_executed (Kept.charge s e 2) (charge_pc s e 2) b

/-- A store without a fault: what stands in the memory, and what stays. -/
theorem does_store {i : Instr} {op n : ℕ} {s : State} {e w : ℕ} (hexec : exec i s = .next (State.pStore op n e s))
    (h : Ready s e op 1 w) (hin : s.pAddr e w < 16384) (ha : s.pAddr e w % n = 0) :
    Does i s fun t =>
      Mem.read (t.engine e).dm (s.pAddr e w) n = s.g e (pRd w) % 256 ^ n ∧
      (∀ a, (a < s.pAddr e w ∨ s.pAddr e w + n ≤ a) → Mem.byte (t.engine e).dm a = Mem.byte (s.engine e).dm a) ∧
      Ran s t e (s.pc e + 1) 1 [] (fun x => { x with dm := (t.engine e).dm }) := by
  refine does_pRun h hexec rfl (dmFault_eq_zero hin ha) fun b => ?_
  rw [charge_engine, charge_pAddr, charge_g]
  have hkept := ((((Kept.charge s e 1).setEngine { charged s e 1 with
    dm := Mem.write (s.engine e).dm (s.pAddr e w) n (s.g e (pRd w)) }).setPc (s.pc e + 1)).executed 1 b)
  have hself := hkept.2.2.2
  refine ⟨?_, fun a hout => ?_, hkept.ran ?_ (by simp) ?_⟩
  · exact (congrArg (fun x : EngSt => Mem.read x.dm _ n) hself).trans (Mem.read_write ..)
  · exact (congrArg (fun x : EngSt => Mem.byte x.dm a) hself).trans (Mem.byte_write_out _ _ _ _ _ hout)
  · rw [executed_pc, pc_setPc]
  · exact (congrArg (fun x : EngSt => { charged s e 1 with dm := x.dm }) hself).symm

/-- Settles O4. -/
theorem planishLoadStore : Obligations.PlanishLoadStore := by
  unfold Obligations.PlanishLoadStore
  refine ⟨fun s e w h hin ha => does_load rfl h hin ha, fun s e w h hin => does_load rfl h hin (Nat.mod_one _),
    fun s e w h hin ha => ?_, fun s e w h hin => ?_⟩
  · obtain ⟨t, ht, hread, hstay, hran⟩ := does_store (i := .plStw e) rfl h hin ha
    exact ⟨t, ht, hread.trans (Nat.mod_eq_of_lt (g_lt ..)), hstay, hran⟩
  · obtain ⟨t, ht, hread, hstay, hran⟩ := does_store (i := .plStb e) rfl h hin (Nat.mod_one _)
    exact ⟨t, ht, hread, fun a ha => hstay a (by omega), hran⟩

/-! ## Branches and jumps (O5) -/

/-- An instruction that only sets the program counter. -/
theorem ran_setPc {s : State} {e c pc : ℕ} (v : ℕ) (hv : v % 2 ^ 11 = pc % 2 ^ 11) (b : Bool) :
    Ran s (((s.charge e c).setPc e v).executed e c b) e pc c [] id :=
  (((Kept.charge s e c).setPc v).executed c b).ran (by rw [executed_pc, pc_setPc, hv]) (by simp) rfl

theorem branchDoes {i : ℕ → Instr} {op : ℕ} {c : ℕ → ℕ → Bool} {p : ℕ → ℕ → Prop}
    (hexec : ∀ e s, exec (i e) s = .next (State.pBranch op c e s)) (hp : ∀ a b, c a b = true ↔ p a b) : BranchDoes i op p := by
  intro s e w
  refine ⟨fun hc h => ?_, fun hc h => ?_⟩
  · have hc := (hp _ _).mpr hc
    refine does_pRun h (hexec e s) (by simp [hc]) rfl fun b => ?_
    rw [charge_g, charge_g, if_pos hc, State.pcBranch, charge_pc]
    exact ran_setPc _ rfl b
  · have hc : c (s.g e (pRd w)) (s.g e (pRa w)) = false :=
      Bool.eq_false_iff.mpr fun ht => hc ((hp _ _).mp ht)
    refine does_pRun h (hexec e s) (by simp [hc]) rfl fun b => ?_
    rw [charge_g, charge_g, if_neg (by simp [hc])]
    exact ran_setPc _ (by rw [charge_pc]) b

/-- Settles O5. -/
theorem planishControlFlow : Obligations.PlanishControlFlow := by
  unfold Obligations.PlanishControlFlow
  refine ⟨branchDoes (fun _ _ => rfl) (by simp), branchDoes (fun _ _ => rfl) (by simp), branchDoes (fun _ _ => rfl) (by simp),
    branchDoes (fun _ _ => rfl) (by simp), branchDoes (fun _ _ => rfl) (by simp), branchDoes (fun _ _ => rfl) (by simp),
    fun s e w h => does_pRun h rfl rfl rfl fun b => ran_setPc _ rfl b, fun s e w h => does_pRun h rfl rfl rfl fun b => ?_,
    fun s e w h => does_pRun h rfl rfl rfl fun b => ?_⟩
  · rw [charge_pc]
    refine ⟨?_, ((((Kept.charge s e 2).setG 15 ((s.pc e + 1) % 2 ^ 11)).setPc (pTarget w)).executed 2 b).ran ?_ (by simp) rfl⟩
    · rw [executed_g, g_setPc, g_setG_self, if_neg (by omega)]
      exact Nat.mod_eq_of_lt ((Nat.mod_lt _ (by norm_num)).trans (by norm_num))
    · rw [executed_pc, pc_setPc]
  · rw [charge_g]
    exact ran_setPc _ rfl b

end Sys2Proof.Proofs
end

section
/-!
Time and waits, frames and cells, and registers of the blocks (O6, O7, O8).
-/

open Sys2Proof Sys2Proof.Machine Sys2Proof.Claims

namespace Sys2Proof.Proofs

/-! ## Time and waits (O6) -/

theorem get_state_setPc (s : State) (e v : ℕ) : (s.setPc e v).get (F.ENG_ST_STATE e) = s.get (F.ENG_ST_STATE e) :=
  State.get_set_apart _ _ _ _ (Store.apart_of_lt (by simp [Store.span]))

theorem get_state_setG (s : State) (e r v : ℕ) : (s.setG e r v).get (F.ENG_ST_STATE e) = s.get (F.ENG_ST_STATE e) := by
  unfold State.setG
  split
  · rfl
  · exact State.get_set_apart _ _ _ _ (Store.apart_of_lt (by simp [Store.span]; omega))

theorem charge_short (s : State) (e c : ℕ) : (s.charge e c).short = s.short := rfl

theorem pc_set_state (s : State) (e v : ℕ) : (s.set (F.ENG_ST_STATE e) v).pc e = s.pc e :=
  State.get_set_apart _ _ _ _ (Store.apart_of_lt (by simp [Store.span]))

/-- A wait begins: the engine waits where it stands. -/
theorem begins_wait {s u : State} {e : ℕ} {x : EngSt} (hu : Kept s u e [] x) (hpc : u.pc e = s.pc e) (w : Wait) (crossed : Bool)
    (c : ℕ) (b : Bool) :
    let t := (u.beginWait e w crossed).executed e c b
    t.get (F.ENG_ST_STATE e) = 2 ∧ t.pc e = s.pc e ∧ SameRegs [(F.ENG_ST_STATE e).a] s t ∧ (t.engine e).wait = some w := by
  have hkept := ((hu.setEngine { u.engine e with wait := some w, crossed := crossed }).set (F.ENG_ST_STATE e) 2
    (by simp [Store.span])).executed c b
  refine ⟨?_, ?_, hkept.1, congrArg EngSt.wait hkept.2.2.2⟩
  · simp only [State.get, State.executed_regs]
    exact State.get_set_self _ (F.ENG_ST_STATE e) 2
  · rw [executed_pc, State.beginWait, pc_set_state]
    exact hpc

/-- A wait that ends for its epoch. -/
theorem waitReturn_epoch {s : State} {e rd ep : ℕ} {wk : Bool} (hpresent : s.engPresent e = true)
    (hstate : s.get (F.ENG_ST_STATE e) = 2) (hwait : (s.engine e).wait = some ⟨rd, some ep, wk⟩)
    (hdue : (s.engine e).crossed = true ∨ Machine.sdiff s.short ep ≤ 0) : s.waitReturn e = s.resumeEpoch e rd := by
  unfold State.waitReturn
  dsimp only
  rw [hwait]
  dsimp only
  rw [if_pos (by simp [hpresent, hstate]), if_pos (by simpa using hdue)]

/-- Settles O6. -/
theorem planishTimeAndWaits : Obligations.PlanishTimeAndWaits := by
  unfold Obligations.PlanishTimeAndWaits
  refine ⟨fun s e w h => does_pRun h rfl rfl rfl fun b => puts_executed (Kept.charge s e 1) (charge_pc s e 1) b,
    fun s e w h himm => does_pRun h rfl rfl rfl fun b => ?_, fun s e w h himm => does_pRun h rfl rfl rfl fun b => ?_,
    fun s e w h hfar => does_pRun h rfl rfl rfl fun b => ?_, fun s e w h hnear => does_pRun h rfl rfl rfl fun b => ?_,
    fun s e w h hheld hswap => does_pRun h rfl rfl rfl fun b => ?_, fun s e rd ep wk hpresent hstate hwait hrd hdue => ?_⟩
  · rw [if_pos himm]
    exact putsPair_executed s e _ _ 1 b
  · rw [if_neg (by omega)]
    exact puts_executed (Kept.charge s e 1) (charge_pc s e 1) b
  · unfold State.waittAct
    rw [charge_pairG, charge_engine, charge_short]
    dsimp only
    rw [if_pos hfar]
    exact puts_executed (f := fun x => { x with oob := false, late := false })
      ((Kept.charge s e 1).setEngine { charged s e 1 with oob := false, late := false }) (charge_pc s e 1) b
  · unfold State.waittAct
    rw [charge_pairG, charge_short]
    dsimp only
    rw [if_neg (Nat.not_le.mpr hnear)]
    exact begins_wait (Kept.charge s e 1) (charge_pc s e 1) _ _ 1 b
  · have hclass : (s.charge e 1).classify e 0 false = s.charge e 1 := by
      unfold State.classify
      rw [charge_engine]
      dsimp only [charged]
      rw [hheld]
    unfold State.waiteAct
    rw [hclass]
    dsimp only
    rw [charge_engine, charged]
    dsimp only
    rw [hswap, if_neg (by simp), if_neg (by simp)]
    exact begins_wait (Kept.charge s e 1) (charge_pc s e 1) _ _ 1 b
  · refine ⟨_, rfl, ?_⟩
    rw [waitReturn_epoch hpresent hstate hwait hdue, State.resumeEpoch, State.resume]
    set x : EngSt := { s.engine e with wait := none, late := (s.engine e).crossed, oob := false }
    have hkept := ((((Kept.refl s e).setEngine x).set (F.ENG_ST_STATE e) 1 (by simp [Store.span])).setG rd
      (if (s.engine e).crossed then 256 else 0)).setPc (s.pc e + 1)
    have hself := hkept.2.2.2
    have hpc : ∀ v, (((s.setEngine e x).set (F.ENG_ST_STATE e) 1).setG e rd v).pc e = s.pc e := fun v => by
      rw [pc_setG, pc_set_state]
      rfl
    rw [State.pcNext, hpc]
    refine ⟨?_, pc_setPc .., congrArg EngSt.wait hself, congrArg EngSt.oob hself, congrArg EngSt.late hself, ?_⟩
    · rw [get_state_setPc, get_state_setG]
      exact State.get_set_self ..
    · rw [g_setPc, g_setG_self]
      split
      · rfl
      · split <;> rfl

end Sys2Proof.Proofs
end

section
/-!
Frames, cells and registers of the blocks, as an engine reads and writes them (O7, O8).
-/

open Sys2Proof Sys2Proof.Machine Sys2Proof.Claims

namespace Sys2Proof.Proofs

/-! ## Frames and cells (O7) -/

theorem charge_held (s : State) (e c : ℕ) : ((s.charge e c).engine e).held = (s.engine e).held := by
  rw [charge_engine]
  rfl

/-- An engine with a held frame reads n of its bytes. -/
theorem does_pkt {i : Instr} {op n : ℕ} {s : State} {e w : ℕ} {f : RxFrame} (hexec : exec i s = .next (State.pPkt op n e s))
    (h : Ready s e op 1 w) (hpkt : State.hasPkt e = true) (hheld : (s.engine e).held = some f) :
    Does i s fun t =>
      Puts s t e (pRd w) (State.frameRead f (toSigned 32 (s.pAddr e w)) n).1 1
        (fun x => { x with oob := x.oob || (State.frameRead f (toSigned 32 (s.pAddr e w)) n).2 }) := by
  refine does_pRun h hexec rfl (by simp [State.pktFault, hpkt]) fun b => ?_
  rw [charge_held, hheld, charge_engine, charge_pAddr]
  exact puts_executed (f := fun x => { x with oob := x.oob || (State.frameRead f (toSigned 32 (s.pAddr e w)) n).2 })
    ((Kept.charge s e 1).setEngine { charged s e 1 with
      oob := (charged s e 1).oob || (State.frameRead f (toSigned 32 (s.pAddr e w)) n).2 }) (charge_pc s e 1) b

theorem engine_set (s : State) (f : Fld) (v e : ℕ) : (s.set f v).engine e = s.engine e := rfl

theorem engine_pcNext (s : State) (e e' : ℕ) : (s.pcNext e).engine e' = s.engine e' := rfl

theorem engine_emitOut (s : State) (o : Out) (e : ℕ) : (s.emitOut o).engine e = s.engine e := rfl

theorem outlives_executed (s : State) (e c : ℕ) (b : Bool) : Outlives s (s.executed e c b) := by
  unfold State.executed
  dsimp only
  split
  · exact Outlives.countN _ _ _
  · exact (Outlives.countN _ _ _).trans (Outlives.count _ _)

/-- CLASS 5 hands the frame to the host. -/
theorem classify_host {s : State} {e : ℕ} {f : RxFrame} (loc : Bool) (hheld : (s.engine e).held = some f) :
    s.classify e 5 loc = ((s.setEngine e { s.engine e with held := none, frameCyc := 0 }).set (F.ENG_CYC_FRAME_MAX e)
      (max (s.get (F.ENG_CYC_FRAME_MAX e)) (satN 8 (s.engine e).frameCyc))).emitOut
        (.hostFrame f.port f.len f.bytes f.short f.frac) := by
  unfold State.classify
  dsimp only
  rw [hheld]
  rfl

theorem pc_set_frameMax (s : State) (e v : ℕ) : (s.set (F.ENG_CYC_FRAME_MAX e) v).pc e = s.pc e :=
  State.get_set_apart _ _ _ _ (Store.apart_of_lt (by simp [Store.span]))

/-- The output cell with a word replaced, as bits. -/
theorem bitsOf_replaced_word (old x i j : ℕ) (hx : x < 2 ^ 32) :
    bitsOf (old - State.cellBytes old (4 * i) 4 * 2 ^ (32 * i) + x * 2 ^ (32 * i)) (32 * j) 32 =
      if j = i then x else bitsOf old (32 * j) 32 := by
  rw [State.cellBytes, show 8 * (4 * i) = 32 * i by ring, show 8 * 4 = 32 by rfl]
  split
  · next h =>
    subst h
    exact Store.bitsOf_replaced_self _ _ _ _ hx
  · next h => exact Store.bitsOf_replaced_ne _ _ _ _ _ _ hx (by omega)

theorem does_pktinf {s : State} {e w : ℕ} {f : RxFrame} (h : Ready s e 0x33 1 w) (hpkt : State.hasPkt e = true)
    (hheld : (s.engine e).held = some f) :
    Does (.plPktinf e) s fun t => Puts s t e (pRd w) (f.len % 2 ^ 16 + 2 ^ 16 * (f.port % 8)) 1 id := by
  refine does_pRun h rfl rfl (by simp [State.pktFault, hpkt]) fun b => ?_
  rw [charge_held, hheld]
  exact puts_executed (Kept.charge s e 1) (charge_pc s e 1) b

theorem does_pktts {s : State} {e w : ℕ} {f : RxFrame} (h : Ready s e 0x34 1 w) (hpkt : State.hasPkt e = true)
    (hheld : (s.engine e).held = some f) : Does (.plPktts e) s fun t => PutsPair s t e (pRd w) f.short 1 := by
  refine does_pRun h rfl rfl (by simp [State.pktFault, hpkt]) fun b => ?_
  rw [charge_held, hheld]
  exact putsPair_executed s e _ _ 1 b

theorem does_class {s : State} {e w : ℕ} {f : RxFrame} (h : Ready s e 0x35 1 w) (hpkt : State.hasPkt e = true)
    (hheld : (s.engine e).held = some f) (hcls : s.g e (pRa w) % 8 = 5) :
    Does (.plClass e) s fun t =>
      t.pc e = (s.pc e + 1) % 2 ^ 11 ∧ (t.engine e).held = none ∧
      Out.hostFrame f.port f.len f.bytes f.short f.frac ∈ t.out := by
  refine does_pRun h rfl rfl (by simp [State.pktFault, hpkt]) fun b => ?_
  have hcls : bitsOf ((s.charge e 1).g e (pRa w)) 0 3 = 5 := by
    rw [charge_g, bitsOf]
    simpa using hcls
  rw [hcls, classify_host _ (by rw [charge_held, hheld])]
  refine ⟨?_, ?_, ?_⟩
  · rw [executed_pc, pc_pcNext]
    exact congrArg (fun n => (n + 1) % 2 ^ 11) (pc_set_frameMax ..)
  · rw [executed_engine, engine_pcNext, engine_emitOut, engine_set, State.engine_setEngine, if_pos rfl]
  · have hsent : ∀ u : State, Out.hostFrame f.port f.len f.bytes f.short f.frac ∈
        ((u.emitOut (.hostFrame f.port f.len f.bytes f.short f.frac)).pcNext e).out := fun u => List.mem_cons_self ..
    exact (outlives_executed _ _ _ _).1 _ (hsent _)

theorem does_celllw {s : State} {e w : ℕ} (h : Ready s e 0x38 2 w) (himm : pImm w < 64) :
    Does (.plCelllw e) s fun t => Puts s t e (pRd w) (bitsOf (s.engine e).inCell.bytes (32 * pImm w) 32) 2 id := by
  refine does_pRun h rfl rfl rfl fun b => ?_
  rw [if_pos himm, charge_engine, State.cellBytes, show 8 * (4 * pImm w) = 32 * pImm w by ring]
  exact puts_executed (Kept.charge s e 2) (charge_pc s e 2) b

theorem does_cellsw {s : State} {e w : ℕ} (h : Ready s e 0x39 1 w) (himm : pImm w < 64) :
    Does (.plCellsw e) s fun t =>
      bitsOf (t.engine e).outCell (32 * pImm w) 32 = s.g e (pRd w) ∧
      (∀ i, i ≠ pImm w → bitsOf (t.engine e).outCell (32 * i) 32 = bitsOf (s.engine e).outCell (32 * i) 32) ∧
      Ran s t e (s.pc e + 1) 1 [] (fun x => { x with outCell := (t.engine e).outCell }) := by
  refine does_pRun h rfl rfl rfl fun b => ?_
  dsimp only
  rw [if_pos himm, charge_engine, charge_g]
  have hkept := ((((Kept.charge s e 1).setEngine { charged s e 1 with
    outCell := (s.engine e).outCell - State.cellBytes (s.engine e).outCell (4 * pImm w) 4 * 2 ^ (32 * pImm w) +
      s.g e (pRd w) * 2 ^ (32 * pImm w) }).setPc (s.pc e + 1)).executed 1 b)
  have hself := hkept.2.2.2
  refine ⟨?_, fun j hj => ?_, hkept.ran ?_ (by simp) ?_⟩
  · refine (congrArg (fun x : EngSt => bitsOf x.outCell (32 * pImm w) 32) hself).trans ?_
    rw [bitsOf_replaced_word _ _ _ _ (g_lt ..), if_pos rfl]
  · refine (congrArg (fun x : EngSt => bitsOf x.outCell (32 * j) 32) hself).trans ?_
    rw [bitsOf_replaced_word _ _ _ _ (g_lt ..), if_neg hj]
  · rw [executed_pc, pc_setPc]
  · exact (congrArg (fun x : EngSt => { charged s e 1 with outCell := x.outCell }) hself).symm

theorem does_cellput {s : State} {e w : ℕ} (h : Ready s e 0x3A 4 w)
    (hdef : State.cellDefined e (pImm w) (s.g e (pRa w)) = true) (hup : s.upstreamBad e (pImm w) = false)
    (hroom : (s.engine e).outQ.length < 16) :
    Does (.plCellput e) s fun t =>
      Ran s t e (s.pc e + 1) 4 [] (fun x => { x with
        outQ := x.outQ ++ [⟨pImm w, s.g e (pRa w), bitsOf x.outCell 0 (8 * s.g e (pRa w))⟩] }) := by
  refine does_pRun h rfl (by simp [State.putCost, hroom]) (by simp [State.putFault, hdef, hup]) fun b => ?_
  unfold State.putAct
  rw [charge_engine, charge_g]
  dsimp only [charged]
  rw [if_pos hroom]
  exact ((((Kept.charge s e 4).setEngine { charged s e 4 with
    outQ := (s.engine e).outQ ++ [⟨pImm w, s.g e (pRa w), bitsOf (s.engine e).outCell 0 (8 * s.g e (pRa w))⟩] }).setPc
      (s.pc e + 1)).executed 4 b).ran (by rw [executed_pc, pc_setPc]) (by simp) rfl

/-- Settles O7. -/
theorem planishFramesAndCells : Obligations.PlanishFramesAndCells := by
  unfold Obligations.PlanishFramesAndCells
  exact ⟨fun s e w f h hpkt hheld => does_pkt rfl h hpkt hheld, fun s e w f h hpkt hheld => does_pkt rfl h hpkt hheld,
    fun s e w f h hpkt hheld => does_pkt rfl h hpkt hheld, fun s e w f => does_pktinf, fun s e w f => does_pktts,
    fun s e w f => does_class, fun s e w => does_celllw, fun s e w => does_cellsw, fun s e w => does_cellput⟩

end Sys2Proof.Proofs
end

section
/-!
Registers of the blocks, as an engine reads and writes them (R345, O8).
-/

open Sys2Proof Sys2Proof.Machine Sys2Proof.Claims

namespace Sys2Proof.Proofs

/-- No engine may write its own program counter. -/
theorem bstPlace_pc {e : ℕ} (he : e < 18) : State.bstPlace e (F.ENG_PC_PC e).a = none := by
  have h : ∀ e < 18, State.bstPlace e (F.ENG_PC_PC e).a = none := by decide +kernel
  exact h e he

/-- The mask of a write lies within a word. -/
theorem bstMask_lt {e : ℕ} {id : RegId} {w m : ℕ} (h : bstMask e id w = some m) : m < 2 ^ 32 := by
  unfold bstMask at h
  dsimp only at h
  split at h
  all_goals repeat' split at h
  all_goals simp only [Option.some.injEq, reduceCtorEq] at h
  all_goals subst h
  all_goals norm_num

theorem bstPlace_lt {e a m : ℕ} (h : State.bstPlace e a = some m) : m < 2 ^ 32 := by
  unfold State.bstPlace at h
  split at h
  · split at h
    · exact bstMask_lt h
    · cases h
  · cases h

theorem bitOf_eq_testBit (v i : ℕ) : bitOf v i = v.testBit i := by
  rw [bitOf, Nat.testBit_eq_decide_div_mod_eq]

/-- A word mixed of two by a mask, bit by bit. -/
theorem bitOf_mixed (old v : ℕ) {m b : ℕ} (hm : m < 2 ^ 32) (hb : b < 32) :
    bitOf (BitVec.ofNat 32 (Nat.lor (Nat.land old (2 ^ 32 - 1 - m)) (Nat.land v m))).toNat b =
      if bitOf m b then bitOf v b else bitOf old b := by
  have hmask : (2 ^ 32 - 1 - m).testBit b = !m.testBit b := by
    rw [show 2 ^ 32 - 1 - m = 2 ^ 32 - (m + 1) by omega, Nat.testBit_two_pow_sub_succ hm, decide_eq_true hb, Bool.true_and]
  have hword : ((old &&& (2 ^ 32 - 1 - m)) ||| (v &&& m)).testBit b =
      if m.testBit b then v.testBit b else old.testBit b := by
    rw [Nat.testBit_or, Nat.testBit_and, Nat.testBit_and, hmask]
    cases m.testBit b <;> simp
  simp only [bitOf_eq_testBit, BitVec.toNat_ofNat, Nat.testBit_mod_two_pow, decide_eq_true hb, Bool.true_and]
  exact hword

/-- A narrow register is read as the provider sees it. -/
theorem bldAct_eq {s : State} {e w : ℕ} {d : RegDesc} {i j k : ℕ}
    (hplace : State.bldPlace e (s.pAddr e w) = some (d, i, j, k)) (hwide : d.wide = false) (hid : d.id ≠ .ETH_TXTS_POP)
    (hhi : (s.engine e).bldHi = none) :
    s.bldAct e w =
      ((s.setEngine e (s.engine e)).setG e (pRd w) (s.wordView false 0 d i j k (s.pAddr e w))).pcNext e := by
  unfold State.bldAct
  dsimp only
  rw [hplace]
  dsimp only
  rw [hhi, hwide]
  simp only [if_neg hid, Bool.false_and, Bool.false_eq_true, if_false]

/-- A read of the blocks' registers. -/
theorem does_bld {s : State} {e w : ℕ} {d : RegDesc} {i j k : ℕ} (h : Ready s e 0x2C 8 w)
    (hplace : State.bldPlace e (s.pAddr e w) = some (d, i, j, k)) (hwide : d.wide = false) (hid : d.id ≠ .ETH_TXTS_POP)
    (hhi : (s.engine e).bldHi = none) :
    Does (.plBld e) s fun t => Puts s t e (pRd w) ((s.charge e 8).wordView false 0 d i j k (s.pAddr e w)) 8 id := by
  refine does_pRun h rfl rfl (by simp [hplace]) fun b => ?_
  have hplace' : State.bldPlace e ((s.charge e 8).pAddr e w) = some (d, i, j, k) := by rw [charge_pAddr, hplace]
  have hhi' : ((s.charge e 8).engine e).bldHi = none := by rw [charge_engine]; exact hhi
  rw [bldAct_eq hplace' hwide hid hhi', charge_pAddr, charge_engine]
  have hkept : Kept s ((s.charge e 8).setEngine e (charged s e 8)) e [] (charged s e 8) := (Kept.charge s e 8).setEngine _
  exact puts_executed (f := id) hkept (charge_pc s e 8) b

/-- A register write is a live write and the next instruction, besides a survey that it may begin. -/
theorem bstAct_eq {s : State} {e w m : ℕ} (hplace : State.bstPlace e (s.pAddr e w) = some m) :
    ∃ u : State, s.bstAct e w = u.pcNext e ∧ u.regs = (s.putLive (s.pAddr e w) (s.g e (pRd w)) m).regs ∧
      u.pend = (s.putLive (s.pAddr e w) (s.g e (pRd w)) m).pend := by
  unfold State.bstAct
  dsimp only
  rw [hplace]
  refine ⟨_, rfl, ?_⟩
  split <;> exact ⟨rfl, rfl⟩

/-- A write to the blocks' registers: the word, and its shadow if one waits. -/
theorem does_bst {s : State} {e w m : ℕ} (h : Ready s e 0x2D 4 w) (hplace : State.bstPlace e (s.pAddr e w) = some m) :
    Does (.plBst e) s fun t =>
      (∀ b < 32, bitOf (t.regs.word (s.pAddr e w)).toNat b =
        if bitOf m b then bitOf (s.g e (pRd w)) b else bitOf (s.regs.word (s.pAddr e w)).toNat b) ∧
      (∀ p, alGet s.pend (s.pAddr e w) = some p → ∃ q, alGet t.pend (s.pAddr e w) = some q ∧
        ∀ b < 32, bitOf q.toNat b = if bitOf m b then bitOf (s.g e (pRd w)) b else bitOf p.toNat b) ∧
      t.pc e = (s.pc e + 1) % 2 ^ 11 ∧ SameRegs [s.pAddr e w, (F.ENG_PC_PC e).a] s t := by
  have hm := bstPlace_lt hplace
  have he : e < 18 := by
    have hpresent := h.1
    simp only [State.engPresent, Bool.and_eq_true, decide_eq_true_eq] at hpresent
    exact hpresent.1
  have hpc : s.pAddr e w ≠ (F.ENG_PC_PC e).a := fun hk => by
    rw [hk, bstPlace_pc he] at hplace
    cases hplace
  refine does_pRun h rfl rfl (by simp [hplace]) fun b => ?_
  obtain ⟨u, hu, hregs, hpend⟩ := bstAct_eq (s := s.charge e 4) (charge_pAddr s e 4 w ▸ hplace)
  rw [charge_pAddr, charge_g] at hregs hpend
  rw [hu]
  have hword : ∀ k, k ≠ (F.ENG_PC_PC e).a → ((u.pcNext e).executed e 4 b).regs.word k = u.regs.word k := fun k hk => by
    rw [State.executed_regs]
    exact State.word_set _ _ _ _ (by simp [Store.span]) hk
  have hlive : ∀ k, u.regs.word k = if k = s.pAddr e w then BitVec.ofNat 32
      (Nat.lor (Nat.land (s.regs.word (s.pAddr e w)).toNat (2 ^ 32 - 1 - m)) (Nat.land (s.g e (pRd w)) m))
      else s.regs.word k := fun k => by
    rw [hregs]
    exact Store.word_put ..
  refine ⟨fun i hi => ?_, fun p hp => ?_, ?_, fun k hk => ?_⟩
  · rw [hword _ hpc, hlive, if_pos rfl, bitOf_mixed _ _ hm hi]
  · refine ⟨BitVec.ofNat 32 (Nat.lor (Nat.land p.toNat (2 ^ 32 - 1 - m)) (Nat.land (s.g e (pRd w)) m)), ?_,
      fun i hi => bitOf_mixed _ _ hm hi⟩
    rw [State.executed_pend]
    have hshadow : (s.charge e 4).pend = s.pend := rfl
    simp only [State.pcNext, State.setPc, State.set, hpend, State.putLive, hshadow, hp, alGet_alSet_self]
  · have hstay : u.pc e = s.pc e := get_congr _ fun i hi => by
      obtain rfl : i = 0 := by simpa [Store.span] using hi
      rw [hlive, if_neg (by simpa using hpc.symm)]
    rw [executed_pc, pc_pcNext, hstay]
  · simp only [List.mem_cons, List.not_mem_nil, or_false, not_or] at hk
    rw [hword k hk.2, hlive, if_neg hk.1]

/-- Settles O8. -/
theorem planishRegisterAccess : Obligations.PlanishRegisterAccess := by
  unfold Obligations.PlanishRegisterAccess
  exact ⟨fun s e w d i j k => does_bld, fun s e w m => does_bst⟩

end Sys2Proof.Proofs
end

section
/-!
O17 fails: an FLR deletes the scheduler entries of the function's tenant (R238), and an entry that was dispatched while another
tenant owned its output is dropped with an SCH_LATE record (R241, R243), which stands in the FIFO that the reset had emptied.
-/

open Sys2Proof Sys2Proof.Machine Sys2Proof.Claims

namespace Sys2Proof.Proofs

/-- Tenant 1 holds a GOUT_EDGE entry that is due now, on an output that the provider owns. -/
def foreignEdgeEntry : State :=
  { State.reset with sch := { State.reset.sch with ents := [(0,
      { epoch := 0, frac := 0, policy := 0, abs := false, align := false, locked := false, action := 5, owner := 1, period := 0, arg := 0 })] } }

/-- What stands in function 1's FIFO after its FLR. -/
def fifoAfterFlr : Option (List EvRec) :=
  match exec (.flr 1) foreignEdgeEntry with
  | .next t => some (t.fn 1).fifo
  | _ => none

theorem fifoAfterFlr_ne_nil : fifoAfterFlr ≠ some [] := by decide +kernel

theorem foreignEdgeEntry_serves : foreignEdgeEntry.pow.held = false ∧ foreignEdgeEntry.fnExists 1 = true ∧
    foreignEdgeEntry.tenantOf 1 = some 1 ∧ foreignEdgeEntry.str.defaults = [] := by decide +kernel

/-- Refutes O17, by its clause about FLR: the FIFO of the function that was reset holds the SCH_LATE record of an entry that the reset
dropped. -/
theorem not_featuresAndEnables : ¬ Obligations.FeaturesAndEnables := by
  intro h
  obtain ⟨-, -, -, -, hflr, -⟩ := h
  obtain ⟨hheld, hex, hten, hdef⟩ := foreignEdgeEntry_serves
  obtain ⟨t, ht, -, -, hfifo, -⟩ := hflr foreignEdgeEntry 1 1 hheld hex (by decide) hten (by decide) (by decide) hdef
  exact fifoAfterFlr_ne_nil (by rw [fifoAfterFlr, ht]; exact congrArg some hfifo)

end Sys2Proof.Proofs
end

section
/-!
O47 fails by its clause about received characters, as O46 does: `Counts … 0` asks for the old value modulo 2^64, and a counter is
a number without a bound in the model. A character without an error, on a UART whose error counter holds 2^64, leaves it there.
-/

open Sys2Proof Sys2Proof.Machine Sys2Proof.Claims

namespace Sys2Proof.Proofs

/-- UART 0 is enabled, and UART_ERR(0) holds 2^64. -/
def overfullUartErrors : State :=
  let s := State.reset.set (F.REF_APORT_CFG_EN 0) 1
  { s with obs := { s.obs with cnt := [(0x070, 2 ^ 64)] } }

/-- UART_ERR(0) as a character without an error leaves it. -/
def uartErrorsAfter : Option Nat :=
  match exec (.uartChar 0 65 false false) overfullUartErrors with
  | .next t => some (t.counter 0x070)
  | _ => none

theorem uartErrorsAfter_eq : uartErrorsAfter = some (2 ^ 64) := by decide +kernel

theorem overfullUartErrors_state : overfullUartErrors.uartOn 0 = true ∧ (overfullUartErrors.uart 0).chars.length = 0 ∧
    overfullUartErrors.counter 0x070 = 2 ^ 64 := by decide +kernel

/-- Refutes O47, by its fifth clause: a character without an error counts 0 errors, and the counter that holds 2^64 keeps it. -/
theorem not_referenceInputs : ¬ Obligations.ReferenceInputs := by
  intro h
  obtain ⟨-, -, -, -, huart, -⟩ := h
  obtain ⟨hon, hchars, hwas⟩ := overfullUartErrors_state
  obtain ⟨t, ht, -, -, -, hcount, -⟩ := huart overfullUartErrors 0 65 false false (by decide) hon
  have hkept : t.counter 0x070 = 2 ^ 64 := by simpa [uartErrorsAfter, ht] using uartErrorsAfter_eq
  have hzero : t.counter 0x070 = (overfullUartErrors.counter 0x070 + 0) % 2 ^ 64 := by simpa [Counts, hchars] using hcount
  rw [hkept, hwas] at hzero
  exact absurd hzero (by decide)

end Sys2Proof.Proofs
end

section
/-!
O53 fails by its clause about a follower's blocks, as O46 does: `Counts … 0` asks for the old value modulo 2^64, and a counter is a
number without a bound in the model. A block without a slip, on a port whose slip counter holds 2^64, leaves it there.
-/

open Sys2Proof Sys2Proof.Machine Sys2Proof.Claims

namespace Sys2Proof.Proofs

/-- Media port 0 transmits as a FOLLOWER, and its counter of slips holds 2^64. -/
def overfullSlips : State :=
  let s := State.reset.set F.SYS_PD_ST_PG (2 ^ 21)
  { s with
    time := { s.time with running := true }
    hif := { s.hif with feats := 2 ^ 9 }
    syn := { s.syn with aes := [(0, { s.aes 0 with tx := 1, lead := false })] }
    obs := { s.obs with cnt := [(0x34B, 2 ^ 64)] } }

/-- The counter of slips as a block without one leaves it. -/
def slipsAfter : Option Nat :=
  match exec (.aesTxBlock 0 5) overfullSlips with
  | .next t => some (t.counter 0x34B)
  | _ => none

theorem slipsAfter_eq : slipsAfter = some (2 ^ 64) := by decide +kernel

theorem overfullSlips_state : overfullSlips.aesUp 0 = true ∧ overfullSlips.time.running = true ∧
    (overfullSlips.aes 0).lead = false ∧ (overfullSlips.aes 0).tx = 1 ∧ overfullSlips.counter 0x34B = 2 ^ 64 := by decide +kernel

/-- Refutes O53, by its third clause: a block with a FILL of 5 counts 0 slips, and the counter that holds 2^64 keeps it. -/
theorem not_mediaPorts : ¬ Obligations.MediaPorts := by
  intro h
  obtain ⟨-, -, hblock, -⟩ := h
  obtain ⟨hup, hrun, hlead, htx, hwas⟩ := overfullSlips_state
  obtain ⟨t, ht, -, -, hfollower⟩ := hblock overfullSlips 0 5 hup hrun
  obtain ⟨-, -, -, -, hcount, -⟩ := hfollower hlead htx
  have hkept : t.counter 0x34B = 2 ^ 64 := by simpa [slipsAfter, ht] using slipsAfter_eq
  have hzero : t.counter 0x34B = (overfullSlips.counter 0x34B + 0) % 2 ^ 64 := hcount
  rw [hkept, hwas] at hzero
  exact absurd hzero (by decide)

end Sys2Proof.Proofs
end

section
/-!
What a command leaves alone, step by step: fields beside one another (`Beside`), the words a field lies in (`Within`), and `SameRegs`
and `Only` kept by each update of the state.
-/

open Sys2Proof Sys2Proof.Machine Sys2Proof.Claims

namespace Sys2Proof.Proofs

/-! ## Fields -/

/-- Fields f and g share no bit: g lies in words below or above those of f, or in other bits of the same words. -/
abbrev Beside (f g : Fld) : Prop :=
  g.a + 4 * Store.span g ≤ f.a + 3 ∨ f.a + 4 * Store.span f ≤ g.a + 3 ∨
    (g.a = f.a ∧ Store.span g = Store.span f ∧ (g.lo + g.w ≤ f.lo ∨ f.lo + f.w ≤ g.lo))

theorem get_set_beside {f g : Fld} (h : Beside f g) (s : State) (v : ℕ) : (s.set f v).get g = s.get g := by
  rcases h with h | h | ⟨ha, hs, hd⟩
  · exact State.get_set_apart s f g v (Store.apart_of_lt (.inl h))
  · exact State.get_set_apart s f g v (Store.apart_of_lt (.inr h))
  · exact State.get_set_bits s f g v ha hs hd

theorem on_set_beside {f g : Fld} (h : Beside f g) (s : State) (v : ℕ) : (s.set f v).on g = s.on g := by
  rw [State.on, get_set_beside h, State.on]

theorem on_set_one (s : State) {f : Fld} (hw : f.w = 1) : (s.set f 1).on f = true := by
  rw [State.on, State.get_set_self, hw]
  rfl

theorem on_set_zero (s : State) (f : Fld) : (s.set f 0).on f = false := by
  rw [State.on, State.get_set_self, Nat.zero_mod]
  rfl

theorem on_setB (s : State) {f : Fld} (hw : f.w = 1) (b : Bool) : (s.setB f b).on f = b := by
  cases b
  · exact on_set_zero s f
  · exact on_set_one s hw

theorem get_mod (s : State) (f : Fld) : s.get f % 2 ^ f.w = s.get f := Nat.mod_eq_of_lt (State.get_lt s f)

/-- The words of field g are words of the fields fs. -/
def Within (g : Fld) (fs : List Fld) : Prop := ∀ i < Store.span g, g.a + 4 * i ∈ words fs

theorem mem_words {fs : List Fld} {k : ℕ} : k ∈ words fs ↔ ∃ f ∈ fs, ∃ i < Store.span f, f.a + 4 * i = k := by
  simp [words]

theorem Within.of_mem {g : Fld} {fs : List Fld} (h : g ∈ fs) : Within g fs := fun i hi => mem_words.mpr ⟨g, h, i, hi, rfl⟩

theorem Within.of_word {g f : Fld} {fs : List Fld} (h : f ∈ fs) (ha : g.a = f.a) (hs : Store.span g ≤ Store.span f) :
    Within g fs := fun i hi => mem_words.mpr ⟨f, h, i, hi.trans_le hs, by rw [ha]⟩

/-! ## The register file -/

theorem get_of_regs {t : State} {r : Store} (h : t.regs = r) (f : Fld) : t.get f = r.get f := by rw [State.get, h]

namespace SameRegs
variable {ks ks' : List ℕ} {s t u : State}

theorem refl (ks : List ℕ) (s : State) : SameRegs ks s s := fun _ _ => rfl

theorem mono (h : SameRegs ks s t) (hk : ∀ k ∈ ks, k ∈ ks') : SameRegs ks' s t := fun k hn => h k fun hm => hn (hk k hm)

theorem trans (h : SameRegs ks s t) (k : SameRegs ks t u) : SameRegs ks s u := fun x hx => (k x hx).trans (h x hx)

theorem of_regs (h : SameRegs ks s t) (hu : u.regs = t.regs) : SameRegs ks s u := fun x hx => by rw [hu, h x hx]

theorem of_eq (h : t.regs = s.regs) : SameRegs ks s t := of_regs (refl ks s) h

theorem set {fs : List Fld} (h : SameRegs (words fs) s t) {g : Fld} (v : ℕ) (hg : Within g fs) :
    SameRegs (words fs) s (t.set g v) := fun k hk =>
  (word_set_of_ne t g v k fun i hi he => hk (he ▸ hg i hi)).trans (h k hk)

theorem get (h : SameRegs ks s t) {g : Fld} (hg : ∀ i < Store.span g, g.a + 4 * i ∉ ks) : t.get g = s.get g :=
  get_congr g fun i hi => h _ (hg i hi)

end SameRegs

/-! ## The rest of the state -/

theorem regs_of_calm {s t : State} (h : t.calm = s.calm) : t.regs = s.regs := by
  have hr := congrArg State.regs h
  exact hr

namespace Only
variable {fs : List Fld} {f : State → State} {s t u : State}

theorem refl (fs : List Fld) (s : State) : Only fs id s s := ⟨SameRegs.refl _ s, rfl⟩

/-- What counts and records is not looked at. -/
theorem of_calm (h : Only fs f s t) (hu : u.calm = t.calm) : Only fs f s u :=
  ⟨SameRegs.of_regs h.1 (regs_of_calm hu), by rw [hu, h.2]⟩

theorem trans (h : Only fs f s t) (k : Only fs id t u) : Only fs f s u := ⟨SameRegs.trans h.1 k.1, k.2.trans h.2⟩

theorem set (h : Only fs f s t) {g : Fld} (v : ℕ) (hg : Within g fs) : Only fs f s (t.set g v) := ⟨SameRegs.set h.1 v hg, h.2⟩

theorem mono {fs' : List Fld} (h : Only fs f s t) (hk : ∀ g ∈ fs, g ∈ fs') : Only fs' f s t :=
  ⟨SameRegs.mono h.1 fun _ hm => by
    obtain ⟨g, hg, i, hi, rfl⟩ := mem_words.mp hm
    exact Within.of_mem (hk g hg) i hi, h.2⟩

end Only

/-! ## Updates that counters and records do not see -/

theorem setFn_calm (s : State) (n : ℕ) (f : FnSt) : (s.setFn n f).calm = s.calm := rfl

theorem emitOut_calm (s : State) (o : Out) : (s.emitOut o).calm = s.calm := rfl

theorem fn_emitOut (s : State) (o : Out) (m : ℕ) : (s.emitOut o).fn m = s.fn m := rfl

theorem msix_calm (s : State) (n v : ℕ) : (s.msix n v).calm = s.calm := rfl

theorem tcount_calm (s : State) (t k n : ℕ) : (s.tcount t k n).calm = s.calm := rfl

/-! ## What the model answers on a concrete state -/

/-- f of the next state that a command answers. -/
def resultOf {α : Type} (c : Instr) (s : State) (f : State → α) : Option α :=
  match exec c s with
  | .next t => some (f t)
  | _ => none

theorem resultOf_next {α : Type} {c : Instr} {s t : State} (h : exec c s = .next t) (f : State → α) :
    resultOf c s f = some (f t) := by
  rw [resultOf, h]

end Sys2Proof.Proofs
end

section
/-!
Scheduled occurrences (R230 to R232): core time is carried to the cycle in which one is due, its entry advances, and it acts
(`scheduled_of_acts`); what that leaves alone (`atDue_calm`).
-/

open Sys2Proof Sys2Proof.Machine Sys2Proof.Claims

namespace Sys2Proof.Proofs

/-! ## Time passes -/

theorem advance_eq (s : State) (k : ℕ) : s.advance k = { s with time := (s.advance k).time } := by
  unfold State.advance
  split <;> rfl

theorem runTo_eq (s : State) (n : ℕ) : s.runTo n = { s with time := (s.runTo n).time } := advance_eq s _

theorem advance_calm (s : State) (k : ℕ) : (s.advance k).calm = { s.calm with time := (s.advance k).time } :=
  congrArg State.calm (advance_eq s k)

theorem sch_advance (s : State) (k : ℕ) : (s.advance k).sch = s.sch := by rw [advance_eq]

theorem regs_advance (s : State) (k : ℕ) : (s.advance k).regs = s.regs := by rw [advance_eq]

theorem regs_runTo (s : State) (n : ℕ) : (s.runTo n).regs = s.regs := regs_advance s _

/-! ## An occurrence acts -/

/-- The cycle in which an occurrence is due, with its entry advanced and its turn of the dispatch taken. -/
def atDue (s : State) (o : State.Occ) : State := (s.runTo (s.dueOf o.ent).toNat).acted o

theorem occurrence_of_acts {s : State} {o : State.Occ} {id action : ℕ} {ok : SchEnt → Bool} (act : State → SchEnt → State)
    (h : Acts s o id action) (hok : ok o.ent = true) : s.occurrence id action ok act = act (atDue s o) o.ent := by
  obtain ⟨hnext, hid, hrun, hact, hdue, hover, hown, hfree, -⟩ := h
  unfold State.occurrence
  rw [hnext]
  dsimp only
  rw [if_pos (by simp [hid, hrun, hact, hok, hdue, hover]), if_neg (by simp [hown]), if_neg (by simp [hfree])]
  rfl

theorem strobeDue_of_none {s : State} (h : s.sch.updWait = 0) : s.strobeDue = s := by
  unfold State.strobeDue
  rw [if_pos (by simp [h])]

theorem scheduled_of_acts {s : State} {o : State.Occ} {id action : ℕ} {ok : SchEnt → Bool} {act : State → SchEnt → State}
    (h : Acts s o id action) (hok : ok o.ent = true) (hupd : (act (atDue s o) o.ent).sch.updWait = 0) :
    s.scheduled id action ok act = act (atDue s o) o.ent := by
  rw [State.scheduled, occurrence_of_acts act h hok, strobeDue_of_none hupd]

section
variable (s : State) (o : State.Occ)

theorem acted_calm : (s.acted o).calm = (((s.takeDispatch (s.dueOf o.ent)).advanceEnt o).clearOwned o.id).calm := by
  unfold State.acted
  rw [tcount_calm, State.count_calm]

theorem advanceEnt_eq : s.advanceEnt o = { s with sch := (s.advanceEnt o).sch } := by
  unfold State.advanceEnt
  split
  · rfl
  split <;> rfl

theorem atDue_sch : (atDue s o).sch = ((((s.runTo (s.dueOf o.ent).toNat).takeDispatch
    ((s.runTo (s.dueOf o.ent).toNat).dueOf o.ent)).advanceEnt o).clearOwned o.id).sch := by
  have h := congrArg State.sch (acted_calm (s.runTo (s.dueOf o.ent).toNat) o)
  exact h

/-- An occurrence that is due changes time and the scheduler's own state, besides what counts. -/
theorem atDue_calm : (atDue s o).calm =
    { s.calm with time := (s.runTo (s.dueOf o.ent).toNat).time, sch := (atDue s o).sch } := by
  rw [atDue_sch, atDue, acted_calm, advanceEnt_eq, runTo_eq]
  rfl

theorem atDue_ents : (atDue s o).sch.ents = entsAfter s o := by
  have hents : (s.runTo (s.dueOf o.ent).toNat).sch.ents = s.sch.ents := by rw [runTo_eq]
  rw [atDue_sch, State.clearOwned, entsAfter, State.advanceEnt]
  split
  · exact hents
  split
  · exact congrArg (fun l => alDel l o.id) hents
  · exact congrArg (fun l => alSet l o.id _) hents

theorem atDue_updWait : (atDue s o).sch.updWait = s.sch.updWait := by
  have hupd : (s.runTo (s.dueOf o.ent).toNat).sch.updWait = s.sch.updWait := by rw [runTo_eq]
  rw [atDue_sch, State.clearOwned, State.advanceEnt]
  split
  · exact hupd
  split <;> exact hupd

theorem atDue_time : (atDue s o).time = (s.runTo (s.dueOf o.ent).toNat).time := by
  have h := congrArg State.time (atDue_calm s o)
  exact h

theorem atDue_regs : (atDue s o).regs = s.regs := by
  have h := congrArg State.regs (atDue_calm s o)
  exact h

theorem atDue_acted : Acted s (atDue s o) o := ⟨atDue_time s o, atDue_ents s o⟩

end

end Sys2Proof.Proofs
end

section
/-!
Late occurrences (R232, R241, R243) and scheduled wakes (R230, R340): O11. A late entry's record counts it by its policy and leaves
the rest alone (`lateRecord_calm`).
-/

open Sys2Proof Sys2Proof.Machine Sys2Proof.Claims

namespace Sys2Proof.Proofs

/-! ## The late queue -/

/-- The register that counts a handled late entry, by its policy, and by how much. -/
def lateField (p : ℕ) : Fld :=
  if p = 0 then F.SCH_LATE_ST_FIRED_LATE else if p = 1 then F.SCH_LATE_ST_SKIPPED else F.SCH_LATE_ST_DROPPED

/-- A handled late entry is counted. -/
def lateCounted (s : State) (l : Late) : State := s.add (lateField l.ent.policy) (if l.ent.policy = 1 then l.missed else 1)

theorem lateRecord_calm (s : State) (l : Late) : (s.lateRecord l).calm = (lateCounted s l).calm := by
  unfold State.lateRecord
  extract_lets e u v w
  rw [State.eventAt_calm, show w.calm = v.calm from rfl]
  have huv : v.calm = u.calm := by
    unfold v
    split
    · exact State.count_calm ..
    · rfl
  rw [huv, lateCounted]
  unfold u
  split
  · next h => rw [State.count_calm, show l.ent.policy = 0 from h]; rfl
  · next h => rw [State.countN_calm, show l.ent.policy = 1 from h]; rfl
  · next h0 h1 => rw [State.count_calm, lateField, if_neg h0, if_neg h1, if_neg h1]

theorem lateCounted_calm (s : State) (l : Late) : (lateCounted s l).calm = { s.calm with regs := (lateCounted s l).regs } := rfl

theorem sch_lateRecord (s : State) (l : Late) : (s.lateRecord l).sch = s.sch := by
  have h := congrArg State.sch ((lateRecord_calm s l).trans (lateCounted_calm s l))
  exact h

theorem time_lateRecord (s : State) (l : Late) : (s.lateRecord l).time = s.time := by
  have h := congrArg State.time ((lateRecord_calm s l).trans (lateCounted_calm s l))
  exact h

theorem regs_lateRecord (s : State) (l : Late) : (s.lateRecord l).regs = (lateCounted s l).regs := regs_of_calm (lateRecord_calm s l)

/-- One late entry alone in the queue: it stays if it fires, and is recorded else. -/
theorem flushLate_of_single {s : State} {l : Late} (h : s.sch.late = [l]) :
    s.flushLate = if l.ent.policy = 0 then s else ({ s with sch := { s.sch with late := [] } } : State).lateRecord l := by
  unfold State.flushLate
  rw [h, List.length_singleton, State.flushLateN, h]
  rfl

theorem flushLate_of_nil {s : State} (h : s.sch.late = []) : s.flushLate = s := by
  unfold State.flushLate
  rw [h]
  rfl

/-! ## An occurrence that was not dispatched in time (R232) -/

/-- The entries once a late occurrence's entry is freed, or past what it missed. -/
def entsPast (ents : List (ℕ × SchEnt)) (o : State.Occ) (p missed : ℕ) : List (ℕ × SchEnt) :=
  if p = 2 ∨ o.ent.period = 0 then alDel ents o.id
  else alSet ents o.id { o.ent with epoch := (o.ent.epoch + missed * o.ent.period) % 2 ^ 64 }

/-- The occurrences of an entry that a cycle finds missed. -/
def missedBy (u : State) (due : ℤ) (o : State.Occ) : ℕ :=
  if o.ent.period = 0 then 1 else (((u.ns : ℤ) - due) / o.ent.period).toNat + 1

/-- The scheduler has its entries past an occurrence, which stands in the late queue. -/
def queuedLate (u : State) (ents : List (ℕ × SchEnt)) (l : Late) : State :=
  { u with sch := { u.sch with ents := ents, late := u.sch.late ++ [l], lateAt := max u.sch.lateAt (u.time.cyc + 1) } }

theorem exec_congestedLate {s : State} {o : State.Occ} (hnext : s.nextOcc = some o) (hrun : s.time.running = true)
    (hdue : s.dueOf o.ent < s.time.tickAt)
    (hlate : s.notOverdue (s.dueOf o.ent) = false ∨ (s.runTo (s.dueOf o.ent).toNat).congested (s.dueOf o.ent) = true)
    (hatt : o.detached = false) :
    let u := s.runTo (s.dueOf o.ent).toNat
    let p := u.latePolicy o.ent.policy
    let missed := missedBy u (s.dueOf o.ent) o
    exec (.schCongestedLate o.id) s = .next
      (queuedLate u (entsPast u.sch.ents o p missed) ⟨o.id, { o.ent with policy := p }, missed, 1, false⟩).flushLate.strobeDue := by
  show execSchCongestedLate o.id s = _
  unfold execSchCongestedLate
  rw [hnext]
  dsimp only
  rw [if_pos (by simpa [hrun, hdue] using hlate), hatt, entsPast]
  simp only [Bool.false_eq_true, if_false, Bool.or_eq_true, decide_eq_true_eq]
  rw [missedBy]
  split <;> rfl

theorem latePolicy_runTo (s : State) (n p : ℕ) : (s.runTo n).latePolicy p = s.latePolicy p := by
  rw [runTo_eq]
  rfl

/-- The record of the only late entry leaves the queue at once, unless the entry fires. -/
theorem flushLate_queuedLate {u : State} (ents : List (ℕ × SchEnt)) (l : Late) (hempty : u.sch.late = []) :
    (queuedLate u ents l).flushLate.sch.ents = ents ∧
    (queuedLate u ents l).flushLate.sch.late = (if l.ent.policy = 0 then [l] else []) ∧
    (queuedLate u ents l).flushLate.time = u.time ∧ (queuedLate u ents l).flushLate.sch.detached = u.sch.detached ∧
    (queuedLate u ents l).flushLate.sch.updWait = u.sch.updWait ∧
    (queuedLate u ents l).flushLate.regs = if l.ent.policy = 0 then u.regs else (lateCounted u l).regs := by
  have hsingle : (queuedLate u ents l).sch.late = [l] := by simp [queuedLate, hempty]
  rw [flushLate_of_single hsingle]
  split
  · exact ⟨rfl, hsingle, rfl, rfl, rfl, rfl⟩
  · rw [sch_lateRecord, time_lateRecord, regs_lateRecord]
    exact ⟨rfl, rfl, rfl, rfl, rfl, rfl⟩

theorem skipped_lateCounted {u : State} {l : Late} (h : l.ent.policy ≠ 0) :
    (lateCounted u l).get F.SCH_LATE_ST_SKIPPED =
      (u.get F.SCH_LATE_ST_SKIPPED + if l.ent.policy = 1 then l.missed else 0) % 2 ^ 32 := by
  unfold lateCounted lateField
  rw [if_neg h]
  split
  · exact State.get_set_self ..
  · exact (get_set_beside (by decide) _ _).trans (Nat.mod_eq_of_lt (State.get_lt u _)).symm

theorem dropped_lateCounted {u : State} {l : Late} (h : l.ent.policy ≠ 0) :
    (lateCounted u l).get F.SCH_LATE_ST_DROPPED =
      (u.get F.SCH_LATE_ST_DROPPED + if 2 ≤ l.ent.policy then 1 else 0) % 2 ^ 32 := by
  unfold lateCounted lateField
  rw [if_neg h]
  split
  · rw [if_neg (by omega)]
    exact (get_set_beside (by decide) _ _).trans (Nat.mod_eq_of_lt (State.get_lt u _)).symm
  · rw [if_pos (by omega)]
    exact State.get_set_self ..

theorem sameRegs_lateCounted (u : State) {l : Late} (h : l.ent.policy ≠ 0) :
    SameRegs (words [F.SCH_LATE_ST_SKIPPED, F.SCH_LATE_ST_DROPPED]) u (lateCounted u l) := by
  unfold lateCounted lateField
  rw [if_neg h]
  refine SameRegs.set (SameRegs.refl _ u) _ (Within.of_mem ?_)
  split <;> simp

/-- R232, R241, R243: a late occurrence. -/
theorem schedulerCongestion : SchedulerCongestion := by
  intro s o hnext hrun hdue hlate hatt hempty hupd
  rw [Does, exec_congestedLate hnext hrun hdue hlate hatt, latePolicy_runTo]
  refine ⟨_, rfl, ?_⟩
  have hsch : (s.runTo (s.dueOf o.ent).toNat).sch = s.sch := by rw [runTo_eq]
  have hregs := regs_runTo s (s.dueOf o.ent).toNat
  rw [show (if o.ent.period = 0 then 1 else (((s.runTo (s.dueOf o.ent).toNat).ns - s.dueOf o.ent) / o.ent.period).toNat + 1) =
    missedBy (s.runTo (s.dueOf o.ent).toNat) (s.dueOf o.ent) o from rfl]
  generalize missedBy (s.runTo (s.dueOf o.ent).toNat) (s.dueOf o.ent) o = missed
  generalize s.runTo (s.dueOf o.ent).toNat = u at hsch hregs ⊢
  generalize s.latePolicy o.ent.policy = p
  obtain ⟨hents, hq, htime, hdet, hwait, hr⟩ := flushLate_queuedLate (u := u) (entsPast u.sch.ents o p missed)
    ⟨o.id, { o.ent with policy := p }, missed, 1, false⟩ (by rw [hsch, hempty])
  rw [strobeDue_of_none (hwait.trans (by rw [hsch, hupd]))]
  generalize (queuedLate u _ _).flushLate = t at hents hq htime hdet hr ⊢
  rw [hents, hq, htime, hdet, hsch, entsPast]
  refine ⟨rfl, rfl, ?_, ?_, ?_, rfl, rfl⟩
  · rw [get_of_regs hr, show s.get F.SCH_LATE_ST_SKIPPED = u.get F.SCH_LATE_ST_SKIPPED from (get_of_regs hregs _).symm]
    split
    · next hp => rw [if_neg (by rw [show p = 0 from hp]; decide), Nat.add_zero, Nat.mod_eq_of_lt (State.get_lt u _)]; rfl
    · next hp => exact skipped_lateCounted hp
  · rw [get_of_regs hr, show s.get F.SCH_LATE_ST_DROPPED = u.get F.SCH_LATE_ST_DROPPED from (get_of_regs hregs _).symm]
    split
    · next hp => rw [if_neg (by rw [show p = 0 from hp]; decide), Nat.add_zero, Nat.mod_eq_of_lt (State.get_lt u _)]; rfl
    · next hp => exact dropped_lateCounted hp
  · refine SameRegs.trans (SameRegs.of_eq hregs) ?_
    split at hr
    · exact SameRegs.of_eq hr
    · next hp => exact SameRegs.of_regs (sameRegs_lateCounted u hp) hr

/-! ## Wakes (R230, R340) -/

theorem wakeEngine_of_room {u : State} {e : ℕ} (code : ℕ) (hp : u.engPresent e = true) (hq : u.engQuenched e = false) (he : e ≠ 17)
    (hw : (u.engine e).wakes.length < 16) :
    u.wakeEngine e code = u.setEngine e { u.engine e with wakes := (u.engine e).wakes ++ [code] } := by
  unfold State.wakeEngine
  rw [if_neg (by simp [hp])]
  dsimp only
  rw [if_neg (by simpa [he] using hw), if_neg (by simp [hq])]

/-- A wake of an engine that takes it, from a state that differs from s outside the engines and what it reads. -/
theorem planishWake_of_room {s u : State} {arg : ℕ} (hpart : u.part = s.part) (heng : u.eng = s.eng)
    (hst : u.engQuenched (bitsOf arg 0 5) = s.engQuenched (bitsOf arg 0 5)) (hp : s.engPresent (bitsOf arg 0 5) = true)
    (hq : s.engQuenched (bitsOf arg 0 5) = false) (he : bitsOf arg 0 5 ≠ 17) (hw : (s.engine (bitsOf arg 0 5)).wakes.length < 16) :
    u.planishWake arg = u.setEngine (bitsOf arg 0 5)
      { s.engine (bitsOf arg 0 5) with wakes := (s.engine (bitsOf arg 0 5)).wakes ++ [bitsOf arg 8 24] } := by
  have hx : u.engine (bitsOf arg 0 5) = s.engine (bitsOf arg 0 5) := by rw [State.engine, heng, State.engine]
  rw [State.planishWake, wakeEngine_of_room _ (by rw [State.engPresent, hpart]; exact hp) (hst.trans hq) he (by rw [hx]; exact hw), hx]

theorem does_planishWake {s : State} {o : State.Occ} {id : ℕ} (h : Acts s o id 13) (hp : s.engPresent (bitsOf o.ent.arg 0 5) = true)
    (hq : s.engQuenched (bitsOf o.ent.arg 0 5) = false) (he : bitsOf o.ent.arg 0 5 ≠ 17)
    (hw : (s.engine (bitsOf o.ent.arg 0 5)).wakes.length < 16) :
    Does (.planishWake id) s fun t =>
      Acted s t o ∧ t.engine (bitsOf o.ent.arg 0 5) =
        { s.engine (bitsOf o.ent.arg 0 5) with wakes := (s.engine (bitsOf o.ent.arg 0 5)).wakes ++ [bitsOf o.ent.arg 8 24] } ∧
      (∀ e', e' ≠ bitsOf o.ent.arg 0 5 → t.engine e' = s.engine e') ∧ SameRegs [] s t := by
  have hcalm := atDue_calm s o
  have hpart : (atDue s o).part = s.part := by have h := congrArg State.part hcalm; exact h
  have heng : (atDue s o).eng = s.eng := by have h := congrArg State.eng hcalm; exact h
  have hst : ∀ e, (atDue s o).engQuenched e = s.engQuenched e := fun e => by
    rw [State.engQuenched, get_of_regs (atDue_regs s o)]
    rfl
  have hwake := planishWake_of_room hpart heng (hst _) hp hq he hw
  refine ⟨_, congrArg Host.Outcome.next (scheduled_of_acts (act := fun s e => s.planishWake e.arg) h rfl ?_), ?_⟩
  · rw [hwake]
    exact (atDue_updWait s o).trans h.2.2.2.2.2.2.2.2
  · dsimp only
    rw [hwake]
    refine ⟨atDue_acted s o, ?_, fun e' he' => ?_, SameRegs.of_eq (atDue_regs s o)⟩
    · rw [State.engine_setEngine, if_pos rfl]
    · rw [State.engine_setEngine, if_neg he', State.engine, heng, State.engine]

/-- The cycle in which the only late entry is dispatched, which has left the queue. -/
def lateTurn (s : State) : State :=
  let u := ({ s with sch := { s.sch with late := [] } } : State).advance (s.sch.lateAt - s.time.cyc)
  { u with sch := { u.sch with lateAt := u.time.cyc + 1 } }

/-- The state in which the only late entry, which fires, acts: its record is written, and its cycle has come. -/
def lateActs (s : State) (l : Late) : State :=
  ((((lateTurn s).lateRecord l).advance 1).count 0x380).tcount l.ent.owner 14 1

theorem lateFire_of_single {s : State} {l : Late} (caps : List GnsCap) (ue : Option DramErr) (ues : List (ℕ × DramErr)) (conflict : Bool)
    (h : s.sch.late = [l]) (hp : l.ent.policy = 0) (ha : l.ent.action ≠ 5) :
    ∃ d, s.lateFire caps ue ues conflict = ((lateActs s l).lateAct l.ent d caps ue ues conflict).flushLate := by
  unfold State.lateFire
  rw [flushLate_of_single h, if_pos hp, h]
  dsimp only
  rw [if_neg (by simp [State.foreignEdge, ha])]
  exact ⟨_, rfl⟩

theorem lateActs_sch (s : State) (l : Late) : (lateActs s l).sch = (lateTurn s).sch := by
  have h := congrArg State.sch (State.count_calm (((lateTurn s).lateRecord l).advance 1) 0x380)
  exact Eq.trans h ((sch_advance _ _).trans (sch_lateRecord _ l))

theorem lateTurn_late (s : State) : (lateTurn s).sch.late = [] :=
  congrArg SchSt.late (sch_advance { s with sch := { s.sch with late := [] } } _)

theorem lateActs_calm {s : State} {l : Late} (hp : l.ent.policy = 0) : (lateActs s l).calm =
    { s.calm with regs := (s.add F.SCH_LATE_ST_FIRED_LATE 1).regs, time := (lateActs s l).time, sch := (lateActs s l).sch } := by
  have hcount : ∀ u : State, lateCounted u l = u.add F.SCH_LATE_ST_FIRED_LATE 1 := fun u => by rw [lateCounted, hp]; rfl
  have hshape : ∃ t c, (lateActs s l).calm =
      { s.calm with regs := (s.add F.SCH_LATE_ST_FIRED_LATE 1).regs, time := t, sch := c } := by
    unfold lateActs
    rw [tcount_calm, State.count_calm, advance_calm, lateRecord_calm, hcount, lateTurn, advance_eq]
    exact ⟨_, _, rfl⟩
  obtain ⟨t, c, h⟩ := hshape
  have ht := congrArg State.time h
  have hc := congrArg State.sch h
  rw [h, show (lateActs s l).time = t from ht, show (lateActs s l).sch = c from hc]

theorem engBase_outside_sch (e : ℕ) : engBase e + 4 ≤ 0x600130 ∨ 0x600134 ≤ engBase e := by
  unfold engBase
  split_ifs <;> omega

/-- R230, R340: a scheduled wake, at its instant and late. -/
theorem scheduledWake : ScheduledWake := by
  refine ⟨fun s o id h hp hq he hw => does_planishWake h hp hq he hw, fun s l caps ue ues conflict hl hp ha hpe hq he hw => ?_⟩
  obtain ⟨d, hfire⟩ := lateFire_of_single caps ue ues conflict hl hp (by rw [ha]; decide)
  have hcalm := lateActs_calm (s := s) hp
  have hlate : (lateActs s l).sch.late = [] := by rw [lateActs_sch, lateTurn_late]
  have hregs : (lateActs s l).regs = (s.add F.SCH_LATE_ST_FIRED_LATE 1).regs := by
    have h := congrArg State.regs hcalm; exact h
  have hpart : (lateActs s l).part = s.part := by have h := congrArg State.part hcalm; exact h
  have heng : (lateActs s l).eng = s.eng := by have h := congrArg State.eng hcalm; exact h
  have hst : (lateActs s l).engQuenched (bitsOf l.ent.arg 0 5) = s.engQuenched (bitsOf l.ent.arg 0 5) := by
    rw [State.engQuenched, get_of_regs hregs]
    have hbase := engBase_outside_sch (bitsOf l.ent.arg 0 5)
    exact congrArg (fun n => decide (n = 3)) (get_set_beside (by simp [Beside, Store.span]; omega) s _)
  have hwake := planishWake_of_room hpart heng hst hpe hq he hw
  have hact : (lateActs s l).lateAct l.ent d caps ue ues conflict = (lateActs s l).planishWake l.ent.arg := by
    simp only [State.lateAct, ha]
  refine ⟨_, congrArg Host.Outcome.next hfire, ?_⟩
  rw [hact, hwake]
  dsimp only
  rw [flushLate_of_nil (s := (lateActs s l).setEngine _ _) hlate]
  refine ⟨hlate, ?_, ?_, ?_⟩
  · exact (get_of_regs hregs _).trans (State.get_set_self ..)
  · rw [State.engine_setEngine, if_pos rfl]
  · exact SameRegs.of_regs (SameRegs.set (SameRegs.refl _ s) _ (Within.of_mem (by simp))) hregs

/-- Settles O11. -/
theorem schedulerLateAndWakes : Obligations.SchedulerLateAndWakes := ⟨schedulerCongestion, scheduledWake⟩

end Sys2Proof.Proofs
end

section
/-!
The host interface's own rules: a function's copy of a register (`Fld.on`), a write that reaches the ring registers, and an access
error (R357, R367).
-/

open Sys2Proof Sys2Proof.Machine Sys2Proof.Claims

namespace Sys2Proof.Proofs

/-! ## A function's copy of a field -/

theorem fld_on_zero (f : Fld) : f.on 0 = f := by simp [Fld.on, fnBase]

theorem Beside.shift {f g : Fld} (h : Beside f g) (b : ℕ) : Beside { f with a := f.a + b } { g with a := g.a + b } := by
  simp only [Beside, Store.span] at h ⊢
  omega

theorem Beside.on {f g : Fld} (h : Beside f g) (n : ℕ) : Beside (f.on n) (g.on n) := h.shift (fnBase n)

theorem fnBase_apart {m n : ℕ} (h : m ≠ n) : fnBase m + 2 ^ 25 ≤ fnBase n ∨ fnBase n + 2 ^ 25 ≤ fnBase m := by
  have key : ∀ d x y : ℕ, x ≠ y → x * d + d ≤ y * d ∨ y * d + d ≤ x * d := fun d x y hxy => by
    rcases Nat.lt_or_gt_of_ne hxy with hlt | hlt
    · exact .inl (by rw [← Nat.succ_mul]; exact Nat.mul_le_mul_right d hlt)
    · exact .inr (by rw [← Nat.succ_mul]; exact Nat.mul_le_mul_right d hlt)
  exact key (2 ^ 25) m n h

theorem Beside.shift_apart {f g : Fld} {b c d : ℕ} (hf : f.a + 4 * Store.span f ≤ d) (hg : g.a + 4 * Store.span g ≤ d)
    (h : b + d ≤ c ∨ c + d ≤ b) : Beside { f with a := f.a + b } { g with a := g.a + c } := by
  simp only [Beside, Store.span] at hf hg ⊢
  omega

/-- Fields of different functions share no word, where they lie within one function's space. -/
theorem beside_on_of_ne {f g : Fld} (hf : f.a + 4 * Store.span f ≤ 2 ^ 25) (hg : g.a + 4 * Store.span g ≤ 2 ^ 25) {m n : ℕ}
    (h : m ≠ n) : Beside (f.on m) (g.on n) := Beside.shift_apart hf hg (fnBase_apart h)

theorem Within.shift {g : Fld} {fs : List Fld} (h : Within g fs) (b : ℕ) :
    Within { g with a := g.a + b } (fs.map fun f => { f with a := f.a + b }) := by
  intro i hi
  obtain ⟨f, hf, j, hj, he⟩ := mem_words.mp (h i hi)
  refine mem_words.mpr ⟨_, List.mem_map_of_mem hf, j, hj, ?_⟩
  show f.a + b + 4 * j = g.a + b + 4 * i
  omega

theorem Within.on {g : Fld} {fs : List Fld} (h : Within g fs) (n : ℕ) : Within (g.on n) (fs.map (Fld.on · n)) := h.shift (fnBase n)

/-! ## Writes that reach the ring registers (R357, R367) -/

theorem ringWrite_of_reaches {s : State} {fn : ℕ} (h : Reaches s fn) (w : ℕ) (act : State → State) :
    s.ringWrite fn w act = act s := by
  obtain ⟨hheld, hex, hq, hin⟩ := h
  unfold State.ringWrite
  rw [if_neg (by simp [hheld, hex, hq]), if_neg (by simp [hin])]

/-! ## Access errors (R367) -/

/-- An access error latched in a register with the given fields. -/
def latchIn (kindF writeF funcF addrF validF countF : Fld) (s : State) (fn kind off : ℕ) (write : Bool) : State :=
  (if s.on validF then s else
    ((((s.set kindF kind).setB writeF write).set funcF fn).set addrF off).set validF 1).addSat countF 1

/-- The words of a copy of SYS_ACC_ERR. -/
abbrev errFlds (c : ℕ) : List Fld := [F.SYS_ACC_ERR_KIND.on c, F.SYS_ACC_ERR_ADDR.on c]

section
variable {k w a o v n : Fld} (s : State) (fn kind off : ℕ) (write : Bool)

theorem latchIn_only {fs : List Fld} (hk : Within k fs) (hw : Within w fs) (ha : Within a fs) (ho : Within o fs) (hv : Within v fs)
    (hn : Within n fs) : Only fs id s (latchIn k w a o v n s fn kind off write) := by
  unfold latchIn
  refine Only.set ?_ _ hn
  split
  · exact Only.refl _ s
  · exact Only.set (Only.set (Only.set (Only.set (Only.set (Only.refl _ s) _ hk) _ hw) _ ha) _ ho) _ hv

theorem latchIn_valid (hv : v.w = 1) (hnv : Beside n v) : (latchIn k w a o v n s fn kind off write).on v = true := by
  unfold latchIn
  rw [State.addSat, on_set_beside hnv]
  split
  · assumption
  · exact on_set_one _ hv

theorem latchIn_get_beside {g : Fld} (hk : Beside k g) (hw : Beside w g) (ha : Beside a g) (ho : Beside o g) (hv : Beside v g)
    (hn : Beside n g) : (latchIn k w a o v n s fn kind off write).get g = s.get g := by
  unfold latchIn
  rw [State.addSat, get_set_beside hn]
  split
  · rfl
  · rw [get_set_beside hv, get_set_beside ho, get_set_beside ha, State.setB, get_set_beside hw, get_set_beside hk]

theorem latchIn_fn (m : ℕ) : (latchIn k w a o v n s fn kind off write).fn m = s.fn m := by
  unfold latchIn
  rw [State.addSat, fn_set]
  split
  · rfl
  · rfl

theorem latchIn_count (hn : n.w = 16) (hkn : Beside k n) (hwn : Beside w n) (han : Beside a n) (hon : Beside o n) (hvn : Beside v n) :
    (latchIn k w a o v n s fn kind off write).get n = satN 16 (s.get n + 1) := by
  have hsat : ∀ x, satN 16 x % 2 ^ 16 = satN 16 x := fun x => Nat.mod_eq_of_lt (by unfold satN; split <;> omega)
  unfold latchIn
  rw [State.addSat, State.get_set_self, hn, hsat]
  split
  · rfl
  · rw [get_set_beside hvn, get_set_beside hon, get_set_beside han, State.setB, get_set_beside hwn, get_set_beside hkn]

end

section
variable (s : State) (c fn kind off : ℕ) (write : Bool)

theorem latchErr_eq : s.latchErr c fn kind off write = latchIn (F.SYS_ACC_ERR_KIND.on c) (F.SYS_ACC_ERR_WRITE.on c)
    (F.SYS_ACC_ERR_FUNC.on c) (F.SYS_ACC_ERR_ADDR.on c) (F.SYS_ACC_ERR_VALID.on c) (F.SYS_ACC_ERR_COUNT.on c) s fn kind off write :=
  rfl

theorem within_errFlds {g : Fld} (h : Within g [F.SYS_ACC_ERR_KIND, F.SYS_ACC_ERR_ADDR]) : Within (g.on c) (errFlds c) := h.on c

theorem within_errWord (g : Fld) (ha : g.a = F.SYS_ACC_ERR_KIND.a) (hs : Store.span g ≤ 1) :
    Within g [F.SYS_ACC_ERR_KIND, F.SYS_ACC_ERR_ADDR] :=
  Within.of_word (f := F.SYS_ACC_ERR_KIND) (by simp) ha hs

theorem latchErr_only : Only (errFlds c) id s (s.latchErr c fn kind off write) := by
  rw [latchErr_eq]
  exact latchIn_only s fn kind off write (within_errFlds c (within_errWord F.SYS_ACC_ERR_KIND rfl (by decide)))
    (within_errFlds c (within_errWord F.SYS_ACC_ERR_WRITE rfl (by decide)))
    (within_errFlds c (within_errWord F.SYS_ACC_ERR_FUNC rfl (by decide)))
    (within_errFlds c (Within.of_mem (g := F.SYS_ACC_ERR_ADDR) (by simp)))
    (within_errFlds c (within_errWord F.SYS_ACC_ERR_VALID rfl (by decide)))
    (within_errFlds c (within_errWord F.SYS_ACC_ERR_COUNT rfl (by decide)))

theorem latchErr_valid : (s.latchErr c fn kind off write).on (F.SYS_ACC_ERR_VALID.on c) = true := by
  rw [latchErr_eq]
  exact latchIn_valid s fn kind off write rfl (Beside.on (by decide) c)

theorem latchErr_count : (s.latchErr c fn kind off write).get (F.SYS_ACC_ERR_COUNT.on c) =
    satN 16 (s.get (F.SYS_ACC_ERR_COUNT.on c) + 1) := by
  rw [latchErr_eq]
  exact latchIn_count s fn kind off write rfl (Beside.on (by decide) c) (Beside.on (by decide) c) (Beside.on (by decide) c)
    (Beside.on (by decide) c) (Beside.on (by decide) c)

/-- A copy of SYS_ACC_ERR holds no bit of another function's registers. -/
theorem latchErr_get_ne {g : Fld} {m : ℕ} (hm : m ≠ c) (hg : g.a + 4 * Store.span g ≤ 2 ^ 25) :
    (s.latchErr c fn kind off write).get (g.on m) = s.get (g.on m) := by
  have hb : ∀ {f : Fld}, f.a + 4 * Store.span f ≤ 2 ^ 25 → Beside (f.on c) (g.on m) := fun hf => beside_on_of_ne hf hg hm.symm
  rw [latchErr_eq]
  exact latchIn_get_beside s fn kind off write (hb (by decide)) (hb (by decide)) (hb (by decide)) (hb (by decide)) (hb (by decide))
    (hb (by decide))

/-- The registers of a flagged access. -/
def errLatched : State :=
  if fn = 0 then s.latchErr 0 fn kind off write else (s.latchErr 0 fn kind off write).latchErr fn fn kind off write

theorem flagErr_calm : (s.flagErr fn kind off write).calm = (errLatched s fn kind off write).calm := by
  unfold State.flagErr
  dsimp only
  rw [State.trace_calm, State.count_calm, errLatched]

theorem errLatched_only : Only (errFlds 0 ++ errFlds fn) id s (errLatched s fn kind off write) := by
  have h0 := Only.mono (fs' := errFlds 0 ++ errFlds fn) (latchErr_only s 0 fn kind off write) fun g hg => List.mem_append_left _ hg
  unfold errLatched
  split
  · exact h0
  · exact Only.trans h0 (Only.mono (latchErr_only _ fn fn kind off write) fun g hg => List.mem_append_right _ hg)

theorem flagErr_regs : (s.flagErr fn kind off write).regs = (errLatched s fn kind off write).regs :=
  regs_of_calm (flagErr_calm ..)

theorem flagErr_valid : (s.flagErr fn kind off write).on F.SYS_ACC_ERR_VALID = true := by
  rw [State.on, get_of_regs (flagErr_regs ..)]
  show (errLatched s fn kind off write).on F.SYS_ACC_ERR_VALID = true
  have h0 := latchErr_valid s 0 fn kind off write
  rw [← fld_on_zero F.SYS_ACC_ERR_VALID]
  unfold errLatched
  split
  · exact h0
  · next hfn => rw [State.on, latchErr_get_ne _ fn fn kind off write (Ne.symm hfn) (by decide)]; exact h0

theorem latchErr_get {g : Fld} (hg : g.a + 4 * Store.span g ≤ 2 ^ 25) (hb : g.a + 4 * Store.span g ≤ F.SYS_ACC_ERR_KIND.a) (m : ℕ) :
    (s.latchErr c fn kind off write).get (g.on m) = s.get (g.on m) := by
  by_cases hm : m = c
  · subst hm
    have hb' : ∀ {f : Fld}, F.SYS_ACC_ERR_KIND.a ≤ f.a → Beside (f.on m) (g.on m) := fun hf => Beside.on (.inl (by omega)) m
    rw [latchErr_eq]
    exact latchIn_get_beside s fn kind off write (hb' (by decide)) (hb' (by decide)) (hb' (by decide)) (hb' (by decide))
      (hb' (by decide)) (hb' (by decide))
  · exact latchErr_get_ne s c fn kind off write hm hg

/-- A flagged access leaves the registers below SYS_ACC_ERR alone, each function's own too. -/
theorem flagErr_get {g : Fld} (hg : g.a + 4 * Store.span g ≤ 2 ^ 25) (hb : g.a + 4 * Store.span g ≤ F.SYS_ACC_ERR_KIND.a) (m : ℕ) :
    (s.flagErr fn kind off write).get (g.on m) = s.get (g.on m) := by
  rw [get_of_regs (flagErr_regs ..)]
  show (errLatched s fn kind off write).get (g.on m) = _
  unfold errLatched
  split
  · exact latchErr_get s 0 fn kind off write hg hb m
  · exact (latchErr_get _ fn fn kind off write hg hb m).trans (latchErr_get s 0 fn kind off write hg hb m)

theorem flagErr_only : Only (errFlds 0 ++ errFlds fn) id s (s.flagErr fn kind off write) :=
  Only.of_calm (errLatched_only s fn kind off write) (flagErr_calm ..)

theorem flagErr_fn (m : ℕ) : unstaged ((s.flagErr fn kind off write).fn m) = unstaged (s.fn m) := by
  have hlatch : ∀ (u : State) (c : ℕ), (u.latchErr c fn kind off write).fn m = u.fn m := fun u c => by
    rw [latchErr_eq]
    exact latchIn_fn u fn kind off write m
  unfold State.flagErr
  dsimp only
  rw [unstaged_fn_trace, unstaged_fn_count]
  split
  · rw [hlatch]
  · rw [hlatch, hlatch]

end

end Sys2Proof.Proofs
end

section
/-!
Command rings (R358, R371 to R375, R388): O13 and O14.
-/

open Sys2Proof Sys2Proof.Machine Sys2Proof.Claims

namespace Sys2Proof.Proofs

/-! ## CMD_TAIL (R371) -/

theorem doorbell_within {s : State} {fn tail : ℕ} (h : (s.fn fn).avail + (tail % 2 ^ 16 + 2 ^ 16 - (s.fn fn).avail % 2 ^ 16) % 2 ^ 16 -
      (s.fn fn).cpl ≤ 2 ^ s.get (F.HIF_RING_CMD_LOG2.on fn)) :
    let avail := (s.fn fn).avail + (tail % 2 ^ 16 + 2 ^ 16 - (s.fn fn).avail % 2 ^ 16) % 2 ^ 16
    s.doorbell fn tail = (s.setFn fn { s.fn fn with
      avail := avail, flushTo := if fn ≠ 0 ∧ (s.fn fn).bme ∧ s.fnEnabled fn = false then avail else (s.fn fn).flushTo }).set
        (F.HIF_RING_CMD_TAIL.on fn) (tail % 2 ^ 16) := by
  unfold State.doorbell State.cmdDepth
  dsimp only
  rw [if_neg (Nat.not_lt.mpr h)]
  simp only [Bool.and_eq_true, decide_eq_true_eq, Bool.not_eq_true', and_assoc]

theorem doorbell_beyond {s : State} {fn tail : ℕ} (h : 2 ^ s.get (F.HIF_RING_CMD_LOG2.on fn) <
      (s.fn fn).avail + (tail % 2 ^ 16 + 2 ^ 16 - (s.fn fn).avail % 2 ^ 16) % 2 ^ 16 - (s.fn fn).cpl) :
    s.doorbell fn tail = s.flagErr fn 13 (State.ringOff fn 3) true := by
  unfold State.doorbell State.cmdDepth
  dsimp only
  exact if_pos h

/-- R371, R358: the doorbell. -/
theorem commandDoorbell : CommandDoorbell := by
  intro s fn tail h
  have hexec : exec (.cmdDoorbell fn tail) s = .next (s.doorbell fn tail) :=
    congrArg Host.Outcome.next (ringWrite_of_reaches h 3 _)
  refine ⟨fun hle => ⟨_, hexec, ?_⟩, fun hlt => ⟨_, hexec, ?_⟩⟩
  · rw [doorbell_within hle]
    refine ⟨?_, ?_, Only.set (Only.of_calm (Only.refl _ s) (setFn_calm ..)) _ (Within.of_mem (by simp))⟩
    · rw [fn_set, State.fn_setFn, if_pos rfl]
    · rw [State.get_set_self]
      exact Nat.mod_mod _ _
  · rw [doorbell_beyond hlt]
    have hfn := flagErr_fn s fn 13 (State.ringOff fn 3) true fn
    refine ⟨?_, ?_, flagErr_valid .., Only.mono (flagErr_only s fn 13 (State.ringOff fn 3) true) ?_⟩
    · have h := congrArg FnSt.avail hfn
      exact h
    · have h := congrArg FnSt.flushTo hfn
      exact h
    · rw [errFlds, fld_on_zero, fld_on_zero]
      exact fun g hg => hg

/-! ## Fetching (R371 to R375, R388) -/

/-- A descriptor joins the commands at the next position, and CMD_HEAD follows. -/
theorem enqueue_none {s : State} {fn : ℕ} {d : Desc} {started : Bool} {done : Option (ℕ × ℕ)} :
    (s.enqueue fn d started done none).fn fn = queued (s.fn fn) d started done (s.fn fn).bucket (s.fn fn).bucketAt ∧
    (s.enqueue fn d started done none).get (F.HIF_RING_CMD_HEAD.on fn) = ((s.fn fn).fetched + 1) % 2 ^ 16 ∧
    Only [F.HIF_RING_CMD_HEAD.on fn] id s (s.enqueue fn d started done none) := by
  unfold State.enqueue
  dsimp only
  refine ⟨?_, ?_, Only.set (Only.of_calm (Only.refl _ s) (setFn_calm ..)) _ (Within.of_mem (by simp))⟩
  · rw [fn_set, State.fn_setFn, if_pos rfl]
    rfl
  · exact State.get_set_self ..

theorem fetch_of_fetches {s : State} {fn : ℕ} {d : Desc} (h : Fetches s fn) : s.fetch fn d =
    if (s.fn fn).fetched < (s.fn fn).qTail then s.enqueue fn d false (some (cQuenched, 0)) none
    else if (s.fn fn).quenched then s
    else if fn ≠ 0 && (decide ((s.fn fn).fetched < (s.fn fn).flushTo) || !s.fnEnabled fn) then
      s.enqueue fn d false (some (cFlushed, 0)) none
    else if fn = 0 then s.startDesc 0 d
    else if s.bucketNow fn (s.recTenant fn) < 1000000 ∨ s.get (F.TEN_CMD_RATE_RATE (s.recTenant fn)) = 0 then
      (s.quenchFn fn 2 0).enqueue fn d false (some (cQuenched, 0)) none
    else (s.setFn fn { s.fn fn with bucket := s.bucketNow fn (s.recTenant fn) - 1000000, bucketAt := s.ns }).startDesc fn d := by
  obtain ⟨hex, hen, hbme, hlt, hin⟩ := h
  unfold State.fetch
  rw [if_neg (by simp [hex, hen, hbme, hlt, hin])]

theorem fetch_of_provider {s : State} {d : Desc} (h : Fetches s 0) (hq : (s.fn 0).qTail ≤ (s.fn 0).fetched)
    (hu : (s.fn 0).quenched = false) : s.fetch 0 d = s.startDesc 0 d := by
  rw [fetch_of_fetches h, if_neg (Nat.not_lt.mpr hq), if_neg (by simp [hu]), if_neg (by simp), if_pos rfl]

/-- A descriptor that repeats no TAG of the window and is in order starts. -/
theorem startDesc_of_accepted {s : State} {fn : ℕ} {d : Desc} (htag : s.feat 13 = false ∨ (s.fn fn).tags = [])
    (href : State.refusal fn d = none) (hbad : s.badRange d = false) : s.startDesc fn d = s.enqueue fn d true none none := by
  have hnew : (if s.feat 13 then (s.fn fn).tags.find? (fun t => t.tag = d.tag) else none) = none := by
    rcases htag with h | h
    · rw [if_neg (by simp [h])]
    · rw [h, List.find?_nil, ite_self]
  unfold State.startDesc
  rw [hnew]
  dsimp only
  rw [href]
  dsimp only
  rw [if_neg (by simp [hbad])]

theorem startDesc_of_refused {s : State} {fn c : ℕ} {d : Desc} (htag : s.feat 13 = false) (href : State.refusal fn d = some c) :
    s.startDesc fn d = s.enqueue fn d false (some (c, 0)) none := by
  unfold State.startDesc
  rw [if_neg (by simp [htag])]
  dsimp only
  rw [href]

theorem refusal_of_unknown {d : Desc} (h : d.opcode ∉ [0, 0x701, 0x801, 0x802, 0x901, 0x902, 0x903, 0x904]) :
    State.refusal 0 d = some 1 := by
  unfold State.refusal
  dsimp only
  exact if_pos (by simpa using h)

/-- A metered descriptor of a tenant: its bucket pays, and it starts. -/
theorem fetch_of_tenant {s : State} {fn : ℕ} {d : Desc} (hfn : fn ≠ 0) (h : Fetches s fn) (hq : (s.fn fn).qTail ≤ (s.fn fn).fetched)
    (hu : (s.fn fn).quenched = false) (hfl : (s.fn fn).flushTo ≤ (s.fn fn).fetched) (hen : s.fnEnabled fn = true)
    (hb : 1000000 ≤ s.bucketNow fn (s.recTenant fn)) (hr : s.get (F.TEN_CMD_RATE_RATE (s.recTenant fn)) ≠ 0) : s.fetch fn d =
      (s.setFn fn { s.fn fn with bucket := s.bucketNow fn (s.recTenant fn) - 1000000, bucketAt := s.ns }).startDesc fn d := by
  rw [fetch_of_fetches h, if_neg (Nat.not_lt.mpr hq), if_neg (by simp [hu]), if_neg (by simpa [hfn, hen] using hfl), if_neg hfn,
    if_neg (by rw [not_or]; exact ⟨Nat.not_lt.mpr hb, hr⟩)]

theorem does_fetch_provider {s : State} {d : Desc} (h : Fetches s 0) (hq : (s.fn 0).qTail ≤ (s.fn 0).fetched)
    (hu : (s.fn 0).quenched = false) (hfeat : s.feat 13 = false) (href : State.refusal 0 d = none) (hbad : s.badRange d = false) :
    Does (.cmdFetch 0 d) s fun t =>
      t.fn 0 = queued (s.fn 0) d true none (s.fn 0).bucket (s.fn 0).bucketAt ∧
      t.get (F.HIF_RING_CMD_HEAD.on 0) = ((s.fn 0).fetched + 1) % 2 ^ 16 ∧ Only [F.HIF_RING_CMD_HEAD.on 0] id s t :=
  ⟨_, congrArg Host.Outcome.next ((fetch_of_provider h hq hu).trans (startDesc_of_accepted (.inl hfeat) href hbad)), enqueue_none⟩

/-- A descriptor that starts once its tenant's bucket has paid. -/
theorem enqueue_paid (s : State) (fn : ℕ) (d : Desc) (b at_ : ℕ) :
    let t := (s.setFn fn { s.fn fn with bucket := b, bucketAt := at_ }).enqueue fn d true none none
    t.fn fn = queued (s.fn fn) d true none b at_ ∧
      t.get (F.HIF_RING_CMD_HEAD.on fn) = ((s.fn fn).fetched + 1) % 2 ^ 16 ∧ Only [F.HIF_RING_CMD_HEAD.on fn] id s t := by
  obtain ⟨hf, hhead, honly⟩ := enqueue_none (s := s.setFn fn { s.fn fn with bucket := b, bucketAt := at_ }) (fn := fn) (d := d)
    (started := true) (done := none)
  rw [State.fn_setFn, if_pos rfl] at hf hhead
  exact ⟨hf, hhead, Only.trans (Only.of_calm (Only.refl _ s) (setFn_calm ..)) honly⟩

theorem does_fetch_tenant {s : State} {fn : ℕ} {d : Desc} (hfn : fn ≠ 0) (h : Fetches s fn)
    (hq : (s.fn fn).qTail ≤ (s.fn fn).fetched) (hu : (s.fn fn).quenched = false) (hfl : (s.fn fn).flushTo ≤ (s.fn fn).fetched)
    (hen : s.fnEnabled fn = true) (hb : 1000000 ≤ s.bucketNow fn (s.recTenant fn))
    (hr : s.get (F.TEN_CMD_RATE_RATE (s.recTenant fn)) ≠ 0) (htags : (s.fn fn).tags = []) (href : State.refusal fn d = none)
    (hbad : s.badRange d = false) :
    Does (.cmdFetch fn d) s fun t =>
      t.fn fn = queued (s.fn fn) d true none (s.bucketNow fn (s.recTenant fn) - 1000000) s.ns ∧
      t.get (F.HIF_RING_CMD_HEAD.on fn) = ((s.fn fn).fetched + 1) % 2 ^ 16 ∧ Only [F.HIF_RING_CMD_HEAD.on fn] id s t := by
  refine ⟨_, congrArg Host.Outcome.next ((fetch_of_tenant hfn h hq hu hfl hen hb hr).trans
    (startDesc_of_accepted (.inr ?_) href hbad)), enqueue_paid s fn d _ _⟩
  rw [State.fn_setFn, if_pos rfl]
  exact htags

theorem does_fetch_quenched {s : State} {fn : ℕ} {d : Desc} (h : Fetches s fn) (hlt : (s.fn fn).fetched < (s.fn fn).qTail) :
    Does (.cmdFetch fn d) s fun t =>
      t.fn fn = queued (s.fn fn) d false (some (4, 0)) (s.fn fn).bucket (s.fn fn).bucketAt ∧
      Only [F.HIF_RING_CMD_HEAD.on fn] id s t := by
  refine ⟨_, congrArg Host.Outcome.next ((fetch_of_fetches h).trans (if_pos hlt)), ?_⟩
  obtain ⟨hf, -, honly⟩ := enqueue_none (s := s) (fn := fn) (d := d) (started := false) (done := some (cQuenched, 0))
  exact ⟨hf, honly⟩

theorem does_fetch_unknown {s : State} {d : Desc} (h : Fetches s 0) (hq : (s.fn 0).qTail ≤ (s.fn 0).fetched)
    (hu : (s.fn 0).quenched = false) (hfeat : s.feat 13 = false)
    (hop : d.opcode ∉ [0, 0x701, 0x801, 0x802, 0x901, 0x902, 0x903, 0x904]) :
    Does (.cmdFetch 0 d) s fun t =>
      t.fn 0 = queued (s.fn 0) d false (some (1, 0)) (s.fn 0).bucket (s.fn 0).bucketAt ∧ Only [F.HIF_RING_CMD_HEAD.on 0] id s t := by
  refine ⟨_, congrArg Host.Outcome.next ((fetch_of_provider h hq hu).trans
    (startDesc_of_refused hfeat (refusal_of_unknown hop))), ?_⟩
  obtain ⟨hf, -, honly⟩ := enqueue_none (s := s) (fn := 0) (d := d) (started := false) (done := some (1, 0))
  exact ⟨hf, honly⟩

/-- R371 to R375, R388: fetching. -/
theorem commandFetch : CommandFetch :=
  ⟨fun _ _ => does_fetch_provider, fun _ _ _ => does_fetch_tenant, fun _ _ _ => does_fetch_quenched, fun _ _ => does_fetch_unknown⟩

/-- Settles O13. -/
theorem commandIntake : Obligations.CommandIntake := ⟨commandDoorbell, commandFetch⟩

end Sys2Proof.Proofs
end

section
/-!
Completions (R372, R373): O14. What the completion's counters and its vector leave alone stands first.
-/

open Sys2Proof Sys2Proof.Machine Sys2Proof.Claims

namespace Sys2Proof.Proofs

/-! ## A command finishes (R372) -/

theorem finish_cmds (s : State) (fn n status result : ℕ) : ((s.finish fn n status result).fn fn).cmds =
    (s.fn fn).cmds.map fun c => if c.n = n ∨ c.dupOf = some n then { c with done := some (status, result) } else c := by
  unfold State.finish
  dsimp only
  rw [State.fn_setFn, if_pos rfl]

theorem finish_fn_ne (s : State) {fn m : ℕ} (n status result : ℕ) (h : m ≠ fn) : (s.finish fn n status result).fn m = s.fn m := by
  unfold State.finish
  dsimp only
  rw [State.fn_setFn, if_neg h]

theorem does_nop {s : State} {fn : ℕ} {c : Cmd} (h : s.cmdOf fn 0 = some c) :
    Does (.nop fn) s fun t =>
      (∀ x ∈ (t.fn fn).cmds, x.n = c.n → x.done = some (0, 0)) ∧ (t.fn fn).cmds.length = (s.fn fn).cmds.length ∧
      (∀ x ∈ (s.fn fn).cmds, x.n ≠ c.n → x.dupOf ≠ some c.n → x ∈ (t.fn fn).cmds) ∧
      (∀ n, n ≠ fn → t.fn n = s.fn n) ∧ Only [] id s t := by
  have hexec : exec (.nop fn) s = .next (s.finish fn c.n cOk 0) := by
    show execNop fn s = _
    unfold execNop
    rw [h]
  refine ⟨_, hexec, ?_⟩
  dsimp only
  rw [finish_cmds]
  refine ⟨fun x hx hn => ?_, List.length_map _, fun x hx hn hd => ?_, fun n hn => finish_fn_ne s _ _ _ hn,
    Only.of_calm (Only.refl _ s) (setFn_calm ..)⟩
  · obtain ⟨y, -, rfl⟩ := List.mem_map.mp hx
    split at hn
    · rw [if_pos ‹_›]
    · next hy => exact absurd (.inl hn) hy
  · exact List.mem_map.mpr ⟨x, hx, if_neg (by simp [hn, hd])⟩

/-! ## A completion is written (R371, R373) -/

/-- What is counted and signalled once a completion has left. -/
def completionCounted (s : State) (fn te status : ℕ) (signalled : Bool) : State :=
  let s := (s.count 0x01A).tcount te 9 1
  let s := if status = cQuenched then (s.count 0x01B).tcount te 10 1 else s
  if signalled then s.msix fn 1 else s

section
variable (s : State) (fn te status : ℕ) (signalled : Bool)

theorem completionCounted_calm : (completionCounted s fn te status signalled).calm = s.calm := by
  unfold completionCounted
  extract_lets u v
  have hu : u.calm = s.calm := State.count_calm s 0x01A
  have hv : v.calm = u.calm := by
    unfold v
    split
    · exact State.count_calm u 0x01B
    · rfl
  split
  · exact hv.trans hu
  · exact hv.trans hu

theorem unstaged_completionCounted (m : ℕ) :
    unstaged ((completionCounted s fn te status signalled).fn m) = unstaged (s.fn m) := by
  unfold completionCounted
  extract_lets u v
  have hu : unstaged (u.fn m) = unstaged (s.fn m) := unstaged_fn_count s 0x01A m
  have hv : unstaged (v.fn m) = unstaged (u.fn m) := by
    unfold v
    split
    · exact unstaged_fn_count u 0x01B m
    · rfl
  split
  · exact hv.trans hu
  · exact hv.trans hu

theorem outlives_completionCounted : Outlives s (completionCounted s fn te status signalled) := by
  unfold completionCounted
  extract_lets u v
  have hu : Outlives s u := Outlives.trans (Outlives.count s 0x01A) (Outlives.of_eq rfl rfl)
  have hv : Outlives u v := by
    unfold v
    split
    · exact Outlives.trans (Outlives.count u 0x01B) (Outlives.of_eq rfl rfl)
    · exact Outlives.refl u
  split
  · exact (hu.trans hv).trans (Outlives.emitOut v _)
  · exact hu.trans hv

end

/-- The completion of the oldest command, as it leaves. -/
def completionOf (s : State) (fn : ℕ) (c : Cmd) (status result : ℕ) : Out :=
  .completion fn (s.get (F.HIF_RING_CPL_BASE.on fn) + 16 * (c.n % 2 ^ s.get (F.HIF_RING_CMD_LOG2.on fn))) c.d.tag status
    (c.n / 2 ^ s.get (F.HIF_RING_CMD_LOG2.on fn) % 2 = 0) c.dupOf.isSome (c.n % 2 ^ 32) result

/-- The state once the completion has left, before it is counted. -/
def completionLeft (s : State) (fn : ℕ) (c : Cmd) (rest : List Cmd) (status result : ℕ) : State :=
  ((s.setFn fn { s.fn fn with cmds := rest, cpl := c.n + 1 }).set (F.HIF_RING_CPL_COUNT.on fn) (c.n + 1)).emitOut
    (completionOf s fn c status result)

theorem beside_cplCount_cplBase : Beside F.HIF_RING_CPL_COUNT F.HIF_RING_CPL_BASE := by decide

theorem completeNext_of_done {s : State} {fn : ℕ} {c : Cmd} {rest : List Cmd} {status result : ℕ} (hc : (s.fn fn).cmds = c :: rest)
    (hd : c.done = some (status, result)) : s.completeNext fn =
      completionCounted (completionLeft s fn c rest status result) fn (s.recTenant fn) status (bitOf c.d.flags 0) := by
  unfold State.completeNext State.cmdDepth
  dsimp only
  rw [hc]
  dsimp only
  rw [hd]
  dsimp only
  rw [get_set_beside (beside_cplCount_cplBase.on fn)]
  rfl

theorem completionLeft_spec (s : State) (fn : ℕ) (c : Cmd) (rest : List Cmd) (status result : ℕ) :
    let u := completionLeft s fn c rest status result
    u.fn fn = { s.fn fn with cmds := rest, cpl := c.n + 1 } ∧ u.get (F.HIF_RING_CPL_COUNT.on fn) = (c.n + 1) % 2 ^ 16 ∧
      completionOf s fn c status result ∈ u.out ∧ Only [F.HIF_RING_CPL_COUNT.on fn] id s u := by
  refine ⟨?_, State.get_set_self .., List.mem_cons_self .., ?_⟩
  · rw [completionLeft, fn_emitOut, fn_set, State.fn_setFn, if_pos rfl]
  exact Only.of_calm (Only.set (Only.of_calm (Only.refl _ s) (setFn_calm s fn _)) (c.n + 1) (Within.of_mem (by simp)))
    (emitOut_calm _ (completionOf s fn c status result))

theorem does_completionWrite {s : State} {fn : ℕ} {c : Cmd} {rest : List Cmd} {status result : ℕ} (hc : (s.fn fn).cmds = c :: rest)
    (hd : c.done = some (status, result)) :
    Does (.cmdCompletionWrite fn) s fun t =>
      (t.fn fn).cmds = rest ∧ (t.fn fn).cpl = c.n + 1 ∧ t.get (F.HIF_RING_CPL_COUNT.on fn) = (c.n + 1) % 2 ^ 16 ∧
      Sends t (completionOf s fn c status result) ∧ Only [F.HIF_RING_CPL_COUNT.on fn] id s t := by
  refine ⟨_, congrArg Host.Outcome.next (completeNext_of_done hc hd), ?_⟩
  obtain ⟨hleft, hcount, hout, honly⟩ := completionLeft_spec s fn c rest status result
  generalize completionLeft s fn c rest status result = u at hleft hcount hout honly ⊢
  have hcalm := completionCounted_calm u fn (s.recTenant fn) status (bitOf c.d.flags 0)
  have hfn := unstaged_completionCounted u fn (s.recTenant fn) status (bitOf c.d.flags 0) fn
  have hsent := outlives_completionCounted u fn (s.recTenant fn) status (bitOf c.d.flags 0)
  rw [hleft] at hfn
  exact ⟨congrArg FnSt.cmds hfn, congrArg FnSt.cpl hfn, (get_of_regs (regs_of_calm hcalm) _).trans hcount, hsent.1 _ hout,
    Only.of_calm honly hcalm⟩

/-- Settles O14. -/
theorem commandCompletion : Obligations.CommandCompletion :=
  ⟨fun _ _ _ => does_nop, fun _ _ _ _ _ _ => does_completionWrite⟩

end Sys2Proof.Proofs
end

section
/-!
Ring configuration (R371, R376): O15. A configuration word is written in the bits of a mask (`putRing`), and enabling a ring returns
its indices to 0.
-/

open Sys2Proof Sys2Proof.Machine Sys2Proof.Claims

namespace Sys2Proof.Proofs

/-! ## A word written in the bits of a mask -/

theorem get_of_word (s : State) {f : Fld} (h : Store.span f = 1) : s.get f = bitsOf (s.regs.word f.a).toNat f.lo f.w := by
  rw [State.get, Store.get, h, Store.join, Store.join, Nat.mul_zero, Nat.add_zero]

theorem bitsOf_land (v m lo w : ℕ) : bitsOf (v &&& m) lo w = bitsOf v lo w &&& bitsOf m lo w := by
  rw [bitsOf, bitsOf, bitsOf, ← Nat.shiftRight_eq_div_pow, ← Nat.shiftRight_eq_div_pow, ← Nat.shiftRight_eq_div_pow,
    Nat.shiftRight_and_distrib, Nat.and_mod_two_pow]

/-- A mask that holds every bit of a field leaves the field. -/
theorem bitsOf_land_of_full {v m lo w : ℕ} (h : bitsOf m lo w = 2 ^ w - 1) : bitsOf (v &&& m) lo w = bitsOf v lo w := by
  rw [bitsOf_land, h, Nat.and_two_pow_sub_one_eq_mod, bitsOf, Nat.mod_mod]

theorem bitsOf_mod_word {v lo w : ℕ} (h : lo + w ≤ 32) : bitsOf (v % 2 ^ 32) lo w = bitsOf v lo w := by
  refine Nat.eq_of_testBit_eq fun i => ?_
  rw [bitsOf, bitsOf, Nat.testBit_mod_two_pow, Nat.testBit_mod_two_pow, Nat.testBit_div_two_pow, Nat.testBit_div_two_pow,
    Nat.testBit_mod_two_pow]
  by_cases hi : i < w
  · rw [decide_eq_true (show i + lo < 32 by omega), Bool.true_and]
  · rw [decide_eq_false hi, Bool.false_and, Bool.false_and]

/-- The state with a word written. -/
def putWord (s : State) (a : ℕ) (v : Word) : State := { s with regs := s.regs.put a v }

theorem putRing_eq (s : State) (n w v m : ℕ) : s.putRing n w v m = putWord s (0xB01000 + 4 * w + fnBase n) (BitVec.ofNat 32 (v &&& m)) :=
  rfl

theorem get_putWord (s : State) {a : ℕ} (v : Word) {f : Fld} (ha : f.a = a) (h1 : Store.span f = 1) :
    (putWord s a v).get f = bitsOf v.toNat f.lo f.w := by
  rw [get_of_word _ h1, ha, putWord, Store.word_put_self]

theorem only_putWord (s : State) {a : ℕ} (v : Word) {fs : List Fld} (h : a ∈ words fs) : Only fs id s (putWord s a v) :=
  ⟨fun _ hk => Store.word_put_ne _ _ fun he => hk (he ▸ h), rfl⟩

/-- A field of a ring word as it was written, where the mask holds all its bits. -/
theorem get_putRing {s : State} {n w v m : ℕ} {g : Fld} (ha : g.a = 0xB01000 + 4 * w) (hs : g.lo + g.w ≤ 32)
    (h1 : Store.span g = 1) (hm : bitsOf m g.lo g.w = 2 ^ g.w - 1) : (s.putRing n w v m).get (g.on n) = bitsOf v g.lo g.w := by
  have hput : ∀ (b : ℕ) (x : Word), (putWord s (g.a + b) x).get { g with a := g.a + b } = bitsOf x.toNat g.lo g.w :=
    fun b x => get_putWord s x rfl h1
  rw [putRing_eq, ← ha]
  refine (hput (fnBase n) _).trans ?_
  rw [BitVec.toNat_ofNat, bitsOf_mod_word hs, bitsOf_land_of_full hm]

theorem fn_putWord (s : State) (a : ℕ) (v : Word) (m : ℕ) : (putWord s a v).fn m = s.fn m := rfl

theorem only_putRing (s : State) {n w v m : ℕ} {g : Fld} {fs : List Fld} (ha : g.a = 0xB01000 + 4 * w) (hs : 0 < Store.span g)
    (h : Within g fs) : Only (fs.map (Fld.on · n)) id s (s.putRing n w v m) := by
  have hput : ∀ (b : ℕ) (x : Word) (gs : List Fld), Within { g with a := g.a + b } gs → Only gs id s (putWord s (g.a + b) x) :=
    fun b x gs hw => only_putWord s x (hw 0 hs)
  rw [putRing_eq, ← ha]
  exact hput (fnBase n) _ _ (h.on n)

/-- The one-bit field at bit i of a word that was written. -/
theorem on_putRing {s : State} {n w v m : ℕ} {g : Fld} (ha : g.a = 0xB01000 + 4 * w) (hs : g.lo + g.w ≤ 32)
    (h1 : Store.span g = 1) (hm : bitsOf m g.lo g.w = 2 ^ g.w - 1) (hw : g.w = 1) (hv : bitOf v g.lo = true) :
    (s.putRing n w v m).on (g.on n) = true := by
  rw [State.on, get_putRing ha hs h1 hm, hw, bitsOf]
  simpa [bitOf] using hv

/-! ## The configuration words (R371, R376) -/

theorem ringConfig_base {s : State} {n w : ℕ} (v : ℕ) (h : w ∈ [0, 1, 5, 6] ∧ s.on (F.HIF_RING_CMD_EN.on n) = false ∨
    w ∈ [8, 9] ∧ s.on (F.HIF_RING_EV_EN.on n) = false) : s.ringConfig n w v = s.putRing n w v 0xFFFFFFFF := by
  unfold State.ringConfig
  dsimp only
  rcases h with ⟨hw, hen⟩ | ⟨hw, hen⟩
  · rw [if_pos (by simpa using hw), if_neg (by simp [hen])]
  · have hw : w = 8 ∨ w = 9 := by simpa using hw
    rw [if_neg (by omega), if_pos hw, if_neg (by simp [hen])]

theorem ringConfig_cmd {s : State} {n v : ℕ} (hen : s.on (F.HIF_RING_CMD_EN.on n) = false) (hlo : 4 ≤ bitsOf v 0 4)
    (hhi : bitsOf v 0 4 ≤ 12) (hset : bitOf v 8 = true) : s.ringConfig n 2 v = (s.putRing n 2 v 0x10F).resetCmdRing n := by
  unfold State.ringConfig
  dsimp only
  rw [if_neg (by omega), if_neg (by omega), if_pos rfl, if_neg (by simp [hen]), if_neg (by omega), if_pos (by simp [hen, hset])]

theorem ringConfig_ev {s : State} {n v : ℕ} (hn : n ≠ 0) (hen : s.on (F.HIF_RING_EV_EN.on n) = false) (hlo : 4 ≤ bitsOf v 0 5)
    (hhi : bitsOf v 0 5 ≤ 16) (hset : bitOf v 8 = true) : s.ringConfig n 10 v = (s.putRing n 10 v 0xFFFF011F).resetEvRing n := by
  unfold State.ringConfig
  dsimp only
  rw [if_neg (by omega), if_neg (by omega), if_neg (by omega), if_pos rfl, if_neg (by simp [hen]), if_neg (by omega),
    if_pos (by simp [hen, hset])]
  unfold State.bootRecords
  rw [if_neg (by simp [hn])]

/-! ## Indices return to 0 -/

section
variable (u : State) (n : ℕ)

theorem resetCmdRing_fn : (u.resetCmdRing n).fn n = { State.orphan (u.fn n) with
    fetched := 0, cpl := 0, avail := 0, qTail := 0, flushTo := 0, tags := [] } := by
  unfold State.resetCmdRing
  dsimp only
  rw [fn_set, fn_set, fn_set, State.fn_setFn, if_pos rfl]

theorem resetCmdRing_only : Only [F.HIF_RING_CMD_TAIL.on n, F.HIF_RING_CMD_HEAD.on n] id u (u.resetCmdRing n) := by
  have hcount : Within F.HIF_RING_CPL_COUNT [F.HIF_RING_CMD_TAIL, F.HIF_RING_CMD_HEAD] :=
    Within.of_word (f := F.HIF_RING_CMD_HEAD) (by simp) rfl (by decide)
  unfold State.resetCmdRing
  dsimp only
  exact Only.set (Only.set (Only.set (Only.of_calm (Only.refl _ u) (setFn_calm ..)) _ (Within.of_mem (by simp))) _
    (Within.of_mem (by simp))) _ (hcount.on n)

theorem resetCmdRing_indices : (u.resetCmdRing n).get (F.HIF_RING_CMD_TAIL.on n) = 0 ∧
    (u.resetCmdRing n).get (F.HIF_RING_CMD_HEAD.on n) = 0 ∧ (u.resetCmdRing n).get (F.HIF_RING_CPL_COUNT.on n) = 0 := by
  unfold State.resetCmdRing
  dsimp only
  refine ⟨?_, ?_, ?_⟩
  · rw [get_set_beside (Beside.on (by decide) n), get_set_beside (Beside.on (by decide) n), State.get_set_self, Nat.zero_mod]
  · rw [get_set_beside (Beside.on (by decide) n), State.get_set_self, Nat.zero_mod]
  · rw [State.get_set_self, Nat.zero_mod]

theorem resetCmdRing_get {g : Fld} (ht : Beside F.HIF_RING_CMD_TAIL g) (hh : Beside F.HIF_RING_CMD_HEAD g)
    (hc : Beside F.HIF_RING_CPL_COUNT g) : (u.resetCmdRing n).get (g.on n) = u.get (g.on n) := by
  unfold State.resetCmdRing
  dsimp only
  rw [get_set_beside (hc.on n), get_set_beside (hh.on n), get_set_beside (ht.on n)]
  rfl

theorem resetEvRing_only : Only [F.HIF_RING_EV_TAIL.on n, F.HIF_RING_EV_HEAD.on n] id u (u.resetEvRing n) := by
  unfold State.resetEvRing
  dsimp only
  exact Only.set (Only.set (Only.of_calm (Only.refl _ u) (setFn_calm ..)) _ (Within.of_mem (by simp))) _ (Within.of_mem (by simp))

theorem resetEvRing_indices : (u.resetEvRing n).get (F.HIF_RING_EV_HEAD.on n) = 0 ∧
    (u.resetEvRing n).get (F.HIF_RING_EV_TAIL.on n) = 0 := by
  unfold State.resetEvRing
  dsimp only
  refine ⟨?_, ?_⟩
  · rw [get_set_beside (Beside.on (by decide) n), State.get_set_self, Nat.zero_mod]
  · rw [State.get_set_self, Nat.zero_mod]

theorem resetEvRing_get {g : Fld} (hh : Beside F.HIF_RING_EV_HEAD g) (ht : Beside F.HIF_RING_EV_TAIL g) :
    (u.resetEvRing n).get (g.on n) = u.get (g.on n) := by
  unfold State.resetEvRing
  dsimp only
  rw [get_set_beside (ht.on n), get_set_beside (hh.on n)]
  rfl

end

/-! ## The statement -/

theorem does_ringConfig_base {s : State} {fn w : ℕ} (v : ℕ) (h : Reaches s fn) (hw : w ∈ [0, 1, 5, 6] ∧
      s.on (F.HIF_RING_CMD_EN.on fn) = false ∨ w ∈ [8, 9] ∧ s.on (F.HIF_RING_EV_EN.on fn) = false) :
    Does (.ringConfigWrite fn w v) s fun t =>
      t.get ((⟨0xB01000 + 4 * w, 0, 32⟩ : Fld).on fn) = v % 2 ^ 32 ∧ Only [(⟨0xB01000 + 4 * w, 0, 32⟩ : Fld).on fn] id s t := by
  refine ⟨_, congrArg Host.Outcome.next ((ringWrite_of_reaches h w _).trans (ringConfig_base v hw)), ?_, ?_⟩
  · rw [get_putRing (g := ⟨0xB01000 + 4 * w, 0, 32⟩) rfl (by simp) (by simp [Store.span]) (show bitsOf 0xFFFFFFFF 0 32 = 2 ^ 32 - 1 from rfl)]
    rw [bitsOf, pow_zero, Nat.div_one]
  · exact only_putRing s (g := ⟨0xB01000 + 4 * w, 0, 32⟩) rfl (by simp [Store.span]) (Within.of_mem (List.mem_singleton_self _))

theorem does_ringConfig_cmd {s : State} {fn v : ℕ} (h : Reaches s fn) (hen : s.on (F.HIF_RING_CMD_EN.on fn) = false)
    (hlo : 4 ≤ bitsOf v 0 4) (hhi : bitsOf v 0 4 ≤ 12) (hset : bitOf v 8 = true) :
    Does (.ringConfigWrite fn 2 v) s fun t =>
      t.get (F.HIF_RING_CMD_LOG2.on fn) = bitsOf v 0 4 ∧ t.on (F.HIF_RING_CMD_EN.on fn) = true ∧
      t.get (F.HIF_RING_CMD_TAIL.on fn) = 0 ∧ t.get (F.HIF_RING_CMD_HEAD.on fn) = 0 ∧ t.get (F.HIF_RING_CPL_COUNT.on fn) = 0 ∧
      (t.fn fn).fetched = 0 ∧ (t.fn fn).avail = 0 ∧ (t.fn fn).cpl = 0 ∧ (t.fn fn).tags = [] ∧
      Only [F.HIF_RING_CMD_LOG2.on fn, F.HIF_RING_CMD_TAIL.on fn, F.HIF_RING_CMD_HEAD.on fn] id s t := by
  refine ⟨_, congrArg Host.Outcome.next ((ringWrite_of_reaches h 2 _).trans (ringConfig_cmd hen hlo hhi hset)), ?_⟩
  obtain ⟨htail, hhead, hcount⟩ := resetCmdRing_indices (s.putRing fn 2 v 0x10F) fn
  have hfn := resetCmdRing_fn (s.putRing fn 2 v 0x10F) fn
  refine ⟨?_, ?_, htail, hhead, hcount, congrArg FnSt.fetched hfn, congrArg FnSt.avail hfn, congrArg FnSt.cpl hfn,
    congrArg FnSt.tags hfn, ?_⟩
  · rw [resetCmdRing_get _ _ (by decide) (by decide) (by decide), get_putRing rfl (by decide) rfl rfl]
  · rw [State.on, resetCmdRing_get _ _ (by decide) (by decide) (by decide), ← State.on]
    exact on_putRing rfl (by decide) rfl rfl rfl hset
  · have hput := only_putRing s (n := fn) (w := 2) (v := v) (m := 0x10F) (g := F.HIF_RING_CMD_LOG2)
      (fs := [F.HIF_RING_CMD_LOG2, F.HIF_RING_CMD_TAIL, F.HIF_RING_CMD_HEAD]) rfl (by decide) (Within.of_mem (by simp))
    exact Only.trans hput (Only.mono (resetCmdRing_only _ fn) fun g hg => List.mem_cons_of_mem _ hg)

theorem does_ringConfig_ev {s : State} {fn v : ℕ} (hn : fn ≠ 0) (h : Reaches s fn) (hen : s.on (F.HIF_RING_EV_EN.on fn) = false)
    (hlo : 4 ≤ bitsOf v 0 5) (hhi : bitsOf v 0 5 ≤ 16) (hset : bitOf v 8 = true) :
    Does (.ringConfigWrite fn 10 v) s fun t =>
      t.get (F.HIF_RING_EV_LOG2.on fn) = bitsOf v 0 5 ∧ t.on (F.HIF_RING_EV_EN.on fn) = true ∧
      t.get (F.HIF_RING_EV_MOD.on fn) = bitsOf v 16 16 ∧ t.get (F.HIF_RING_EV_HEAD.on fn) = 0 ∧
      t.get (F.HIF_RING_EV_TAIL.on fn) = 0 ∧
      Only [F.HIF_RING_EV_LOG2.on fn, F.HIF_RING_EV_TAIL.on fn, F.HIF_RING_EV_HEAD.on fn] id s t := by
  refine ⟨_, congrArg Host.Outcome.next ((ringWrite_of_reaches h 10 _).trans (ringConfig_ev hn hen hlo hhi hset)), ?_⟩
  obtain ⟨hhead, htail⟩ := resetEvRing_indices (s.putRing fn 10 v 0xFFFF011F) fn
  refine ⟨?_, ?_, ?_, hhead, htail, ?_⟩
  · rw [resetEvRing_get _ _ (by decide) (by decide), get_putRing rfl (by decide) rfl rfl]
  · rw [State.on, resetEvRing_get _ _ (by decide) (by decide), ← State.on]
    exact on_putRing rfl (by decide) rfl rfl rfl hset
  · rw [resetEvRing_get _ _ (by decide) (by decide), get_putRing rfl (by decide) rfl rfl]
  · have hput := only_putRing s (n := fn) (w := 10) (v := v) (m := 0xFFFF011F) (g := F.HIF_RING_EV_LOG2)
      (fs := [F.HIF_RING_EV_LOG2, F.HIF_RING_EV_TAIL, F.HIF_RING_EV_HEAD]) rfl (by decide) (Within.of_mem (by simp))
    exact Only.trans hput (Only.mono (resetEvRing_only _ fn) fun g hg => List.mem_cons_of_mem _ hg)

theorem does_evTail {s : State} {fn v : ℕ} (h : Reaches s fn)
    (hle : (v % 2 ^ 17 + 2 ^ 17 - s.get (F.HIF_RING_EV_TAIL.on fn)) % 2 ^ 17 ≤
      (s.get (F.HIF_RING_EV_HEAD.on fn) + 2 ^ 17 - s.get (F.HIF_RING_EV_TAIL.on fn)) % 2 ^ 17) :
    Does (.evTailWrite fn v) s fun t =>
      t.get (F.HIF_RING_EV_TAIL.on fn) = v % 2 ^ 17 ∧ Only [F.HIF_RING_EV_TAIL.on fn] id s t := by
  have hexec : s.evTail fn v = s.set (F.HIF_RING_EV_TAIL.on fn) v := by
    unfold State.evTail
    dsimp only
    rw [if_neg (Nat.not_lt.mpr hle)]
  exact ⟨_, congrArg Host.Outcome.next ((ringWrite_of_reaches h 11 _).trans hexec), State.get_set_self ..,
    Only.set (Only.refl _ s) _ (Within.of_mem (by simp))⟩

theorem does_evTail_past {s : State} {fn v : ℕ} (h : Reaches s fn)
    (hlt : (s.get (F.HIF_RING_EV_HEAD.on fn) + 2 ^ 17 - s.get (F.HIF_RING_EV_TAIL.on fn)) % 2 ^ 17 <
      (v % 2 ^ 17 + 2 ^ 17 - s.get (F.HIF_RING_EV_TAIL.on fn)) % 2 ^ 17) :
    Does (.evTailWrite fn v) s fun t => t.get (F.HIF_RING_EV_TAIL.on fn) = s.get (F.HIF_RING_EV_TAIL.on fn) := by
  have hexec : s.evTail fn v = s.flagErr fn 13 (State.ringOff fn 11) true := by
    unfold State.evTail
    dsimp only
    rw [if_pos hlt]
  exact ⟨_, congrArg Host.Outcome.next ((ringWrite_of_reaches h 11 _).trans hexec), flagErr_get s fn 13 (State.ringOff fn 11) true
    (by decide) (by decide) fn⟩

/-- Settles O15. -/
theorem ringConfiguration : Obligations.RingConfiguration :=
  ⟨fun _ _ _ v => does_ringConfig_base v, fun _ _ _ => does_ringConfig_cmd, fun _ _ _ => does_ringConfig_ev,
    fun _ _ _ => does_evTail, fun _ _ _ => does_evTail_past⟩

end Sys2Proof.Proofs
end

section
/-!
Access violations (R360, R366, R367, R386): O18.
-/

open Sys2Proof Sys2Proof.Machine Sys2Proof.Claims

namespace Sys2Proof.Proofs

/-! ## A reserved offset of the provider's windows -/

theorem regWrite_reserved {s : State} {off : ℕ} (v : ℕ) (h : provPlace off = .reserved) :
    s.regWrite 0 off 4 v true = s.flagErr 0 9 off true := by
  have hex : s.fnExists 0 = true := by
    unfold State.fnExists
    split <;> rfl
  unfold State.regWrite
  dsimp only
  rw [if_neg (by simp [hex]), if_neg (by simp), if_neg (by simp [State.inert]), if_neg (by simp),
    if_pos (by simp [State.placeOf, h])]

section
variable {k w a o v n : Fld} {s : State} (fn kind off : ℕ) (write : Bool)

/-- The first error since the last read is held with its kind, direction, function and address. -/
theorem latchIn_fresh (h : s.on v = false) : latchIn k w a o v n s fn kind off write =
    (((((s.set k kind).setB w write).set a fn).set o off).set v 1).addSat n 1 := by
  unfold latchIn
  rw [if_neg (by simp [h])]

theorem latchIn_held (h : s.on v = true) : latchIn k w a o v n s fn kind off write = s.addSat n 1 := by
  unfold latchIn
  rw [if_pos h]

end

theorem get_flagErr_provider (s : State) (kind off : ℕ) (write : Bool) (f : Fld) :
    (s.flagErr 0 kind off write).get f = (latchIn F.SYS_ACC_ERR_KIND F.SYS_ACC_ERR_WRITE F.SYS_ACC_ERR_FUNC F.SYS_ACC_ERR_ADDR
      F.SYS_ACC_ERR_VALID F.SYS_ACC_ERR_COUNT s 0 kind off write).get f := by
  rw [get_of_regs (flagErr_regs ..)]
  show (errLatched s 0 kind off write).get f = _
  unfold errLatched
  rw [if_pos rfl, latchErr_eq]
  simp only [fld_on_zero]

theorem flagErr_only_provider (s : State) (kind off : ℕ) (write : Bool) :
    Only [F.SYS_ACC_ERR_KIND, F.SYS_ACC_ERR_ADDR] id s (s.flagErr 0 kind off write) := by
  refine Only.mono (flagErr_only s 0 kind off write) ?_
  simp only [errFlds, fld_on_zero]
  intro g hg
  simp only [List.mem_append, List.mem_cons, List.not_mem_nil, or_false, or_self] at hg ⊢
  exact hg

theorem does_reservedWrite {s : State} {off : ℕ} (v : ℕ) (hheld : s.pow.held = false) (hlt : off < 2 ^ 25)
    (h : provPlace off = .reserved) :
    Does (.regWrite 0 off 4 v true) s fun t =>
      t.on F.SYS_ACC_ERR_VALID = true ∧ t.get F.SYS_ACC_ERR_COUNT = satN 16 (s.get F.SYS_ACC_ERR_COUNT + 1) ∧
      (s.on F.SYS_ACC_ERR_VALID = false →
        t.get F.SYS_ACC_ERR_KIND = 9 ∧ t.on F.SYS_ACC_ERR_WRITE = true ∧ t.get F.SYS_ACC_ERR_FUNC = 0 ∧
        t.get F.SYS_ACC_ERR_ADDR = off) ∧
      (s.on F.SYS_ACC_ERR_VALID = true → t.get F.SYS_ACC_ERR_ADDR = s.get F.SYS_ACC_ERR_ADDR) ∧
      Only [F.SYS_ACC_ERR_KIND, F.SYS_ACC_ERR_ADDR] id s t := by
  have hexec : exec (.regWrite 0 off 4 v true) s = .next (s.flagErr 0 9 off true) := by
    show Host.Outcome.next (s.awake _) = _
    unfold State.awake
    rw [if_neg (by simp [hheld])]
    exact congrArg Host.Outcome.next (regWrite_reserved v h)
  refine ⟨_, hexec, flagErr_valid .., ?_, fun hv => ?_, fun hv => ?_, flagErr_only_provider ..⟩
  · rw [get_flagErr_provider]
    exact latchIn_count s 0 9 off true rfl (by decide) (by decide) (by decide) (by decide) (by decide)
  · rw [State.on, get_flagErr_provider, get_flagErr_provider, get_flagErr_provider, get_flagErr_provider, latchIn_fresh 0 9 off true hv,
      State.addSat, State.setB]
    refine ⟨?_, ?_, ?_, ?_⟩
    · rw [get_set_beside (by decide), get_set_beside (by decide), get_set_beside (by decide), get_set_beside (by decide),
        get_set_beside (by decide), State.get_set_self]
      rfl
    · rw [get_set_beside (by decide), get_set_beside (by decide), get_set_beside (by decide), get_set_beside (by decide),
        State.get_set_self]
      rfl
    · rw [get_set_beside (by decide), get_set_beside (by decide), get_set_beside (by decide), State.get_set_self, Nat.zero_mod]
    · rw [get_set_beside (by decide), get_set_beside (by decide), State.get_set_self]
      exact Nat.mod_eq_of_lt hlt
  · rw [get_flagErr_provider, latchIn_held 0 9 off true hv, State.addSat, get_set_beside (by decide)]

/-! ## A reserved offset of a tenant's window -/

theorem quenchFn_calm {s : State} {n : ℕ} (hn : n ≠ 0) (hq : (s.fn n).quenched = false) (causes detail : ℕ) :
    (s.quenchFn n causes detail).calm = (s.set (F.TEN_ST_QUENCHED (s.recTenant n)) 1).calm := by
  simp only [State.quenchFn, if_neg hn, hq, Bool.false_eq_true, if_false]
  rw [State.quenchRecords_calm, tcount_calm]
  rfl

theorem does_tenantReserved {s : State} {fn off n : ℕ} (v : ℕ) (contig : Bool) (h : Reaches s fn) (hfn : fn ≠ 0)
    (hres : State.tenReserved off n = true) :
    Does (.regWrite fn off n v contig) s fun t =>
      (t.fn fn).quenched = true ∧ (t.fn fn).qTail = (s.fn fn).avail ∧ t.get (F.TEN_ST_QUENCHED (s.recTenant fn)) = 1 ∧
      Only [F.TEN_ST_QUENCHED (s.recTenant fn)] id s t := by
  obtain ⟨hheld, hex, hq, hin⟩ := h
  have hexec : exec (.regWrite fn off n v contig) s = .next (s.quenchFn fn 1 off) := by
    show Host.Outcome.next (s.awake _) = _
    unfold State.awake State.regWrite
    dsimp only
    rw [if_neg (by simp [hheld]), if_neg (by simp [hex]), if_neg (by simp [hq]), if_neg (by simp [hin]), if_pos (by simp [hfn, hres])]
  have hcalm := quenchFn_calm hfn hq 1 off
  refine ⟨_, hexec, quenched_quenchFn hfn hq 1 off, congrArg FnSt.qTail (unstaged_fn_quenchFn hfn hq 1 off), ?_,
    Only.of_calm (Only.set (Only.refl _ s) 1 (Within.of_mem (List.mem_singleton_self _))) hcalm⟩
  exact (get_of_regs (regs_of_calm hcalm) _).trans (State.get_set_self ..)

/-- Settles O18. -/
theorem accessViolations : Obligations.AccessViolations :=
  ⟨fun _ _ v hheld _ hlt h => does_reservedWrite v hheld hlt h, fun _ _ _ _ v contig h hfn hres => does_tenantReserved v contig h hfn hres⟩

end Sys2Proof.Proofs
end

section
/-!
O22: what a patrol read of DRAM counts and queues (R394 to R396).
-/

open Sys2Proof Sys2Proof.Machine Sys2Proof.Claims

namespace Sys2Proof.Proofs

/-- The channel of a patrol read, and the address at which its patrol stands. -/
abbrev chanOf (chB : Bool) : ℕ := if chB then 1 else 0

abbrev patrolAt (s : State) (c : ℕ) : ℕ := (alGet s.dram.next c).getD 0

/-- The patrol of a channel has moved on past the word read. -/
def patrolled (s : State) (chB last : Bool) : State :=
  let c := chanOf chB
  let s := { s with dram := { s.dram with next := alSet s.dram.next c (if last then 0 else patrolAt s c + 8) } }
  let s := s.setB (F.HMK_DRAM_ST_SCRUBBING c) (!last)
  if last then s.count (0x4E3 + 4 * c) else s

variable {s : State} {chB last : Bool} {c a region syn : ℕ} {entry : Option (ℕ × ℕ × ℕ)}

theorem patrolled_regs : (patrolled s chB last).regs = (s.setB (F.HMK_DRAM_ST_SCRUBBING (chanOf chB)) (!last)).regs := by
  cases last <;> simp [patrolled] <;> rfl

theorem patrolled_next : (patrolled s chB last).dram.next =
    alSet s.dram.next (chanOf chB) (if last then 0 else patrolAt s (chanOf chB) + 8) := by
  cases last <;> simp [patrolled]

theorem patrolled_scrubs : (patrolled s chB last).dram.scrubs = s.dram.scrubs := by
  cases last <;> simp [patrolled]

theorem patrolled_hmk : (patrolled s chB last).hmk = s.hmk := by
  cases last <;> simp [patrolled]

theorem patrolled_scrubbing : (patrolled s chB last).on (F.HMK_DRAM_ST_SCRUBBING (chanOf chB)) = !last := by
  rw [State.on, get_of_regs patrolled_regs]
  exact on_setB s rfl _

theorem patrolled_get {g : Fld} (h : Beside (F.HMK_DRAM_ST_SCRUBBING (chanOf chB)) g) :
    (patrolled s chB last).get g = s.get g := by
  rw [get_of_regs patrolled_regs]
  exact get_set_beside h s _

/-! ## What a read does, by the class of its error -/

section
variable (hup : s.on (F.HMK_DRAM_ST_UP (chanOf chB)) = true)
include hup

theorem patrol_clean : s.patrol chB 0 region syn last entry = patrolled s chB last := by
  simp only [State.patrol, hup, Bool.not_true, Bool.false_eq_true, if_false]
  rfl

theorem patrol_data : s.patrol chB 1 region syn last entry =
    (patrolled s chB last).dramCe (chanOf chB) (patrolAt s (chanOf chB)) := by
  simp only [State.patrol, hup, Bool.not_true, Bool.false_eq_true, if_false]
  rfl

theorem patrol_check : s.patrol chB 2 region syn last entry =
    (patrolled s chB last).dramCheck (chanOf chB) (patrolAt s (chanOf chB)) := by
  simp only [State.patrol, hup, Bool.not_true, Bool.false_eq_true, if_false]
  rfl

theorem patrol_ue (h : region ∈ [1, 2, 4]) : s.patrol chB 3 region syn last entry =
    (patrolled s chB last).dramUe region ⟨3, chB, patrolAt s (chanOf chB), syn⟩ := by
  have h3 : region ≠ 3 := by rintro rfl; exact absurd h (by decide)
  have h0 : region ≠ 0 := by rintro rfl; exact absurd h (by decide)
  simp only [State.patrol, hup, Bool.not_true, Bool.false_eq_true, if_false, State.dramRead, h3, h0]
  rfl

end

/-! ## Errors -/

theorem srcAnomaly_get {i : ℕ} {g : Fld} (hc : Beside (F.ASY_SRC_ST_COUNT i) g) (ht : Beside (F.ASY_SRC_ST_TIMER i) g) (s : State) :
    (s.srcAnomaly i).get g = s.get g := by
  unfold State.srcAnomaly
  split
  · rfl
  · dsimp only
    split
    · rw [get_set_beside ht, get_set_beside hc, State.count_get]; rfl
    · rw [get_set_beside hc, State.count_get]; rfl

theorem srcAnomaly_dram (s : State) (i : ℕ) : (s.srcAnomaly i).dram = s.dram := by
  unfold State.srcAnomaly
  split
  · rfl
  · dsimp only
    split <;> simp

theorem srcAnomaly_hmk (s : State) (i : ℕ) : (s.srcAnomaly i).hmk = s.hmk := by
  unfold State.srcAnomaly
  split
  · rfl
  · dsimp only
    split <;> simp

theorem dramCe_get {g : Fld} (hc : Beside (F.ASY_SRC_ST_COUNT (1 + c)) g) (ht : Beside (F.ASY_SRC_ST_TIMER (1 + c)) g) :
    (s.dramCe c a).get g = (s.add (F.HMK_DRAM_ST_CE_DATA c) 1).get g := by
  change (State.srcAnomaly _ _).get g = _
  rw [srcAnomaly_get hc ht, State.count_get]

theorem dramCe_scrubs : (s.dramCe c a).dram = { s.dram with scrubs := s.dram.scrubs ++ [(c, a)] } := by
  simp [State.dramCe, State.queueScrub, srcAnomaly_dram, State.add]

theorem dramCe_hmk : (s.dramCe c a).hmk = s.hmk := by
  simp [State.dramCe, State.queueScrub, srcAnomaly_hmk, State.add]

theorem dramCheck_get (g : Fld) : (s.dramCheck c a).get g = (s.add (F.HMK_DRAM_ST_CHECK_ONLY c) 1).get g :=
  State.count_get ..

theorem dramCheck_scrubs : (s.dramCheck c a).dram = { s.dram with scrubs := s.dram.scrubs ++ [(c, a)] } := by
  simp [State.dramCheck, State.queueScrub, State.add]

theorem dramCheck_hmk : (s.dramCheck c a).hmk = s.hmk := by
  simp [State.dramCheck, State.queueScrub, State.add]

theorem dramUe_get {u : DramErr} :
    let t := s.dramUe region u
    t.get (F.HMK_DRAM_ST_UE (chanOf u.chB)) = (s.get (F.HMK_DRAM_ST_UE (chanOf u.chB)) + 1) % 2 ^ 32 ∧
      t.get (F.HMK_DRAM_LAST_ADDR (chanOf u.chB)) = u.addr % 2 ^ 64 ∧
      t.get (F.HMK_DRAM_LAST_REGION (chanOf u.chB)) = region % 2 ^ 4 ∧
      t.get (F.HMK_DRAM_LAST_SYNDROME (chanOf u.chB)) = u.syn % 2 ^ 8 := by
  have hx : ∀ f, (s.dramUe region u).get f = ((((s.add (F.HMK_DRAM_ST_UE (chanOf u.chB)) 1).set (F.HMK_DRAM_LAST_ADDR (chanOf u.chB))
      u.addr).set (F.HMK_DRAM_LAST_REGION (chanOf u.chB)) region).set (F.HMK_DRAM_LAST_SYNDROME (chanOf u.chB)) u.syn).get f :=
    fun f => (State.pevent_get ..).trans (State.count_get ..)
  simp only [hx]
  generalize u.chB = b
  refine ⟨?_, ?_, ?_, State.get_set_self ..⟩
  · rw [get_set_beside (by cases b <;> decide), get_set_beside (by cases b <;> decide), get_set_beside (by cases b <;> decide)]
    exact State.get_set_self ..
  · rw [get_set_beside (by cases b <;> decide), get_set_beside (by cases b <;> decide), State.get_set_self]
  · rw [get_set_beside (by cases b <;> decide), State.get_set_self]

/-! ## The clauses -/

theorem patrol_corrects {cls : ℕ} (hcls : cls ∈ [0, 1, 2]) (hup : s.on (F.HMK_DRAM_ST_UP (chanOf chB)) = true) :
    Does (.patrolScrubRead chB cls region syn last entry) s fun t =>
      t.dram.next = alSet s.dram.next (chanOf chB) (if last then 0 else patrolAt s (chanOf chB) + 8) ∧
      t.on (F.HMK_DRAM_ST_SCRUBBING (chanOf chB)) = !last ∧
      t.dram.scrubs = (if cls = 0 then s.dram.scrubs else s.dram.scrubs ++ [(chanOf chB, patrolAt s (chanOf chB))]) ∧
      t.get (F.HMK_DRAM_ST_CE_DATA (chanOf chB)) =
        (s.get (F.HMK_DRAM_ST_CE_DATA (chanOf chB)) + (if cls = 1 then 1 else 0)) % 2 ^ 32 ∧
      t.get (F.HMK_DRAM_ST_CHECK_ONLY (chanOf chB)) =
        (s.get (F.HMK_DRAM_ST_CHECK_ONLY (chanOf chB)) + (if cls = 2 then 1 else 0)) % 2 ^ 32 ∧
      t.hmk = s.hmk := by
  have hce : (patrolled s chB last).get (F.HMK_DRAM_ST_CE_DATA (chanOf chB)) = s.get (F.HMK_DRAM_ST_CE_DATA (chanOf chB)) :=
    patrolled_get (by cases chB <;> decide)
  have hck : (patrolled s chB last).get (F.HMK_DRAM_ST_CHECK_ONLY (chanOf chB)) = s.get (F.HMK_DRAM_ST_CHECK_ONLY (chanOf chB)) :=
    patrolled_get (by cases chB <;> decide)
  have hce' := (get_mod s (F.HMK_DRAM_ST_CE_DATA (chanOf chB))).symm
  have hck' := (get_mod s (F.HMK_DRAM_ST_CHECK_ONLY (chanOf chB))).symm
  rcases (by simpa using hcls : cls = 0 ∨ cls = 1 ∨ cls = 2) with rfl | rfl | rfl
  · refine ⟨_, congrArg Host.Outcome.next (patrol_clean hup), ?_⟩
    exact ⟨patrolled_next, patrolled_scrubbing, patrolled_scrubs, hce.trans hce', hck.trans hck', patrolled_hmk⟩
  · refine ⟨_, congrArg Host.Outcome.next (patrol_data hup), by rw [dramCe_scrubs]; exact patrolled_next, ?_, ?_, ?_, ?_,
      dramCe_hmk.trans patrolled_hmk⟩
    · rw [State.on, dramCe_get (by cases chB <;> decide) (by cases chB <;> decide), State.add,
        get_set_beside (by cases chB <;> decide)]
      exact patrolled_scrubbing
    · rw [dramCe_scrubs, patrolled_scrubs]; rfl
    · rw [dramCe_get (by cases chB <;> decide) (by cases chB <;> decide), State.add, State.get_set_self, hce]; rfl
    · rw [dramCe_get (by cases chB <;> decide) (by cases chB <;> decide), State.add, get_set_beside (by cases chB <;> decide), hck]
      exact hck'
  · refine ⟨_, congrArg Host.Outcome.next (patrol_check hup), by rw [dramCheck_scrubs]; exact patrolled_next, ?_, ?_, ?_, ?_,
      dramCheck_hmk.trans patrolled_hmk⟩
    · rw [State.on, dramCheck_get, State.add, get_set_beside (by cases chB <;> decide)]
      exact patrolled_scrubbing
    · rw [dramCheck_scrubs, patrolled_scrubs]; rfl
    · rw [dramCheck_get, State.add, get_set_beside (by cases chB <;> decide), hce]
      exact hce'
    · rw [dramCheck_get, State.add, State.get_set_self, hck]; rfl

theorem patrol_uncorrectable (hr : region ∈ [1, 2, 4]) (hup : s.on (F.HMK_DRAM_ST_UP (chanOf chB)) = true) :
    Does (.patrolScrubRead chB 3 region syn last entry) s fun t =>
      t.get (F.HMK_DRAM_ST_UE (chanOf chB)) = (s.get (F.HMK_DRAM_ST_UE (chanOf chB)) + 1) % 2 ^ 32 ∧
      t.get (F.HMK_DRAM_LAST_ADDR (chanOf chB)) = patrolAt s (chanOf chB) % 2 ^ 64 ∧
      t.get (F.HMK_DRAM_LAST_REGION (chanOf chB)) = region ∧
      t.get (F.HMK_DRAM_LAST_SYNDROME (chanOf chB)) = syn % 2 ^ 8 ∧ t.dram.scrubs = s.dram.scrubs ∧ t.hmk = s.hmk := by
  have hreg : region % 2 ^ 4 = region := by revert region; decide
  have hue : (patrolled s chB last).get (F.HMK_DRAM_ST_UE (chanOf chB)) = s.get (F.HMK_DRAM_ST_UE (chanOf chB)) :=
    patrolled_get (by cases chB <;> decide)
  refine ⟨_, congrArg Host.Outcome.next (patrol_ue hup hr), ?_⟩
  obtain ⟨h1, h2, h3, h4⟩ := dramUe_get (s := patrolled s chB last) (u := ⟨3, chB, patrolAt s (chanOf chB), syn⟩) (region := region)
  exact ⟨h1.trans (by rw [hue]), h2, h3.trans hreg, h4, by simpa [State.dramUe, State.add] using patrolled_scrubs,
    by simpa [State.dramUe, State.add] using patrolled_hmk⟩

theorem erase_first {c a : ℕ} {pre post : List (ℕ × ℕ)} (h : ∀ p ∈ pre, p.1 ≠ c) :
    (pre ++ (c, a) :: post).find? (fun x => decide (x.1 = c)) = some (c, a) ∧
      (pre ++ (c, a) :: post).erase (c, a) = pre ++ post := by
  constructor
  · rw [List.find?_append, List.find?_eq_none.mpr (by simpa using h)]
    simp
  · rw [List.erase_append_right _ fun hm => h _ hm rfl, List.erase_cons_head]

/-- Settles O22: each read comes to `patrolled` and one of the three error handlers, whose fields lie beside one another. -/
theorem dramPatrol : Obligations.DramPatrol := by
  refine ⟨?_, ?_, ?_⟩
  · intro s chB region syn last entry cls hcls c a hup
    exact patrol_corrects hcls hup
  · intro s chB syn last entry region hr c hup
    exact patrol_uncorrectable hr hup
  · intro s c a pre post hs hpre
    refine ⟨_, rfl, ?_⟩
    obtain ⟨hf, he⟩ := erase_first (a := a) (post := post) hpre
    rw [hs, hf, ← he, ← hs]

end Sys2Proof.Proofs
end

section
/-!
O24 fails by its second clause: the TIME cell of a pair link whose unit has the pair feature in force settles the pair's diagnosis as
well, and while that link is not UP the Ingot cells behind it are thrown away (`linkCut`). The clause has no hypothesis on the link's
state, and claims that everything behind the TIME cell stays.
-/

open Sys2Proof Sys2Proof.Machine Sys2Proof.Claims

namespace Sys2Proof.Proofs

/-- A cell of a type, with payload v. -/
def cellOf (typ v : ℕ) : GCell := ⟨typ, false, false, true, 0, 0, 0, 0, 1, v⟩

/-- A TIME payload whose second instant (T1) is not 0. -/
def echoedTime : ℕ := 2 ^ 152

/-- PAIR is in force, link 0 is the pair link and OFF, and an Ingot cell has arrived behind a TIME cell. -/
def cutPairLink : State :=
  let s := State.reset.set (F.GFL_CFG_PAIR_LINK 0) 1
  { s with
    gfl := ⟨[(0, { LinkSt.reset with inq := [(cellOf 2 echoedTime, 0), (cellOf 5 0, 0)] })]⟩
    hif := { s.hif with feats := 2 ^ 7 } }

theorem cellsAfterTime : resultOf (.timeCellReceive 0) cutPairLink (fun t => (t.link 0).inq.length) = some 0 := by decide +kernel

theorem cutPairLink_inq : (cutPairLink.link 0).inq = [(cellOf 2 echoedTime, 0), (cellOf 5 0, 0)] := rfl

/-- Refutes O24, by its second clause: the Ingot cell behind the TIME cell is gone. -/
theorem not_linkTime : ¬ Obligations.LinkTime := by
  intro h
  obtain ⟨-, hreceive⟩ := h
  obtain ⟨t, ht, hinq, -⟩ := hreceive cutPairLink 0 (cellOf 2 echoedTime) 0 [(cellOf 5 0, 0)] (by decide) cutPairLink_inq rfl rfl
    (by decide +kernel)
  have hnone : (t.link 0).inq.length = 0 := Option.some.inj ((resultOf_next ht _).symm.trans cellsAfterTime)
  rw [hinq] at hnone
  exact absurd hnone (by decide)

end Sys2Proof.Proofs
end

section
/-!
O26: the Seam's contention window and roll call (R415 to R417, R420).
-/

open Sys2Proof Sys2Proof.Machine Sys2Proof.Claims

namespace Sys2Proof.Proofs

variable {s : State}

/-! ## Contention -/

theorem srcAnomaly_counter {i j : ℕ} (hj : j ∉ selfCounted) (h : j ≠ 0x2E0 + i) : (s.srcAnomaly i).counter j = s.counter j := by
  unfold State.srcAnomaly
  split
  · rfl
  · dsimp only
    split <;> exact counter_count_ne _ hj h

/-- SEAM_TX_CTL as a SEND leaves it. -/
abbrev seamStaged (s : State) (dst : ℕ) (bcast : Bool) (len : ℕ) : State :=
  ((s.set F.SEAM_TX_CTL_DST dst).setB F.SEAM_TX_CTL_BCAST bcast).set F.SEAM_TX_CTL_LEN len

theorem exec_seamSend {dst len : ℕ} {bcast : Bool} (hh : s.pow.held = false) (hb : s.seamBusy = false) (hl : len ≤ 128) :
    exec (.seamSend dst bcast len) s = .next (seamStaged s dst bcast len).seamSend := by
  change Host.Outcome.next (s.awake _) = _
  simp only [State.awake, hh, hb, Nat.not_lt.mpr hl, Bool.false_eq_true, if_false]

theorem seamStaged_only (dst : ℕ) (bcast : Bool) (len : ℕ) :
    Only [F.SEAM_TX_CTL_DST, F.SEAM_TX_ST_PENDING] id s (seamStaged s dst bcast len) := by
  have hw : ∀ f : Fld, f.a = 0xC10010 → Store.span f ≤ 1 → Within f [F.SEAM_TX_CTL_DST, F.SEAM_TX_ST_PENDING] := fun f ha hs =>
    .of_word (f := F.SEAM_TX_CTL_DST) (by simp) ha hs
  refine Only.set (Only.set (Only.set (Only.refl _ s) _ ?_) _ ?_) _ ?_ <;> exact hw _ rfl (by decide)

theorem seamSend_queues {dst len : ℕ} {bcast : Bool} (hh : s.pow.held = false) (hb : s.seamBusy = false) (hl : len ≤ 128)
    (hn : s.seam.host = none) (hf : s.on (F.ASY_SRC_ST_FAULT 7) = false) :
    Does (.seamSend dst bcast len) s fun t =>
      t.on F.SEAM_TX_ST_PENDING = true ∧
      (∃ m, t.seam.host = some ⟨m, 0, none⟩ ∧ m.src = s.devid ∧ m.dst = dst % 8 ∧ m.bcast = bcast ∧ m.len = len ∧ m.kind = 0) ∧
      Only [F.SEAM_TX_CTL_DST, F.SEAM_TX_ST_PENDING] (fun x => { x with seam := t.seam }) s t := by
  refine ⟨_, exec_seamSend hh hb hl, ?_⟩
  have hfree : ((seamStaged s dst bcast len).seam.host.isSome || (seamStaged s dst bcast len).on (F.ASY_SRC_ST_FAULT 7)) = false := by
    rw [on_set_beside (by decide), State.setB, on_set_beside (by decide), on_set_beside (by decide), hf]
    simp [hn]
  simp only [State.seamSend, hfree, Bool.false_eq_true, if_false, State.setSeamTx, Option.isSome_some]
  refine ⟨on_setB _ rfl _, ⟨_, rfl, ?_, ?_, ?_, ?_, rfl⟩, ?_⟩
  · change State.get _ _ = State.get _ _
    rw [get_set_beside (by decide), State.setB, get_set_beside (by decide), get_set_beside (by decide)]
  · dsimp only
    rw [get_set_beside (by decide), State.setB, get_set_beside (by decide), State.get_set_self]
    rfl
  · rw [on_set_beside (by decide), on_setB _ rfl]
  · rw [State.get_set_self]
    exact Nat.mod_eq_of_lt (by change len < 2 ^ 8; omega)
  · obtain ⟨hr, hc⟩ := seamStaged_only (s := s) dst bcast len
    exact ⟨SameRegs.set hr _ (.of_mem (by simp)), rfl⟩

theorem seamSend_refused {dst len : ℕ} {bcast : Bool} {x : SeamTx} (hh : s.pow.held = false) (hb : s.seamBusy = false)
    (hl : len ≤ 128) (hx : s.seam.host = some x) :
    Does (.seamSend dst bcast len) s fun t =>
      t.get F.SEAM_TX_ST_RESULT = 3 ∧ t.seam = s.seam ∧ Reports s t 0 0x2D 0 (pay [(20, 1, 3), (21, 1, 0)]) := by
  refine ⟨_, exec_seamSend hh hb hl, ?_⟩
  have hbusy : ((seamStaged s dst bcast len).seam.host.isSome || (seamStaged s dst bcast len).on (F.ASY_SRC_ST_FAULT 7)) = true := by
    simp [hx]
  simp only [State.seamSend, hbusy, if_true, State.txDone]
  refine ⟨?_, by simp, reports_pevent ?_ ?_ ?_ (.refl _)⟩
  rotate_left
  · rw [State.prov, on_set_beside (by decide), on_set_beside (by decide), on_set_beside (by decide), State.setB,
      on_set_beside (by decide), on_set_beside (by decide)]
    rfl
  · rfl
  · rfl
  rw [State.pevent_get, get_set_beside (by decide), State.get_set_self]
  rfl

section
variable {x : SeamTx} (hon : s.seamOn = true) (hx : s.seam.host = some x) (hwait : x.wait = none)
  (hfits : s.windowFits x.msg s.ns = true) (hf : s.on (F.ASY_SRC_ST_FAULT 7) = false)
include hon hx hwait hfits hf

theorem contend_clear : s.contend false false = ((s.emitOut (.seamMsg x.msg)).setSeamTx false none).txDone 1 (x.tries + 1) := by
  simp [State.contend, State.seamTx, hon, hx, hwait, hfits, hf]

theorem contend_clash (ht : x.tries < 15) : ∃ w, s.contend false true =
    ((s.count 0x5D0).srcAnomaly 7).draw.setSeamTx false (some { x with tries := x.tries + 1, wait := some w }) := by
  have hlt : ¬ 16 ≤ x.tries + 1 := by omega
  simp only [State.contend, State.seamTx, hon, hx, hwait, hfits, hf, hlt, if_true, if_false, Bool.not_true, Bool.false_eq_true,
    Bool.not_false, Bool.and_false, Bool.or_self, Option.isSome]
  exact ⟨_, rfl⟩

theorem contend_sends : Does (.seamContentionSend false false) s fun t =>
      Sends t (.seamMsg x.msg) ∧ t.seam = { s.seam with host := none } ∧ t.on F.SEAM_TX_ST_PENDING = false ∧
      t.get F.SEAM_TX_ST_RESULT = 1 ∧ t.get F.SEAM_TX_ST_ATTEMPTS = (x.tries + 1) % 32 ∧
      SameRegs (words [F.SEAM_TX_ST_RESULT]) s t := by
  refine ⟨_, congrArg Host.Outcome.next (contend_clear hon hx hwait hfits hf), ?_⟩
  simp only [State.txDone, State.setSeamTx, Bool.false_eq_true, if_false, Option.isSome]
  refine ⟨(Outlives.pevent _ _ _ _).1 _ (List.mem_cons_self ..), by simp, ?_, ?_, ?_, ?_⟩
  · rw [State.pevent_on, on_set_beside (by decide), on_set_beside (by decide), on_setB _ rfl]
  · rw [State.pevent_get, get_set_beside (by decide), State.get_set_self]; rfl
  · rw [State.pevent_get, State.get_set_self]; rfl
  · refine SameRegs.of_regs (SameRegs.set (SameRegs.set (SameRegs.set (SameRegs.refl _ s) _ ?_) _ ?_) _ ?_) (State.pevent_regs ..)
    all_goals exact .of_word (f := F.SEAM_TX_ST_RESULT) (by simp) rfl (by decide)

theorem contend_backs_off (ht : x.tries < 15) : Does (.seamContentionSend false true) s fun t =>
      (∃ y w, t.seam.host = some y ∧ y.msg = x.msg ∧ y.tries = x.tries + 1 ∧ y.wait = some w) ∧ Counts s t 0x5D0 1 := by
  obtain ⟨w, hw⟩ := contend_clash hon hx hwait hfits hf ht
  refine ⟨_, congrArg Host.Outcome.next hw, ⟨_, w, rfl, rfl, rfl, rfl⟩, ?_⟩
  change ((s.count 0x5D0).srcAnomaly 7).counter 0x5D0 = _
  rw [srcAnomaly_counter (by decide) (by decide), counter_count_self s (by decide)]

end

theorem backoff_ends {x : SeamTx} {u : ℕ} (hx : s.seam.host = some x) (hwait : x.wait = some u) (hrun : s.time.running = true) :
    Does (.seamBackoffEnd false) s fun t =>
      t.seam.host = some { x with wait := none } ∧ t.time = (s.runTo u).time ∧ SameRegs (words [F.SEAM_TX_ST_PENDING]) s t := by
  have hstep : exec (.seamBackoffEnd false) s = .next ((s.runTo u).setSeamTx false (some { x with wait := none })) := by
    change Host.Outcome.next _ = _
    simp [State.seamTx, hx, hwait, hrun]
  exact ⟨_, hstep, rfl, rfl, SameRegs.set (SameRegs.of_eq (regs_runTo s u)) _ (.of_mem (by simp))⟩

theorem seamContention : SeamContention :=
  ⟨fun _ _ _ _ hh hb hl hn hf => seamSend_queues hh hb hl hn hf, fun _ _ _ _ _ hh hb hl hx => seamSend_refused hh hb hl hx,
    fun _ _ hon hx hw hfits hf => contend_sends hon hx hw hfits hf,
    fun _ _ hon hx hw hfits hf ht => contend_backs_off hon hx hw hfits hf ht, fun _ _ _ hx hw hr => backoff_ends hx hw hr⟩

/-! ## Roll call -/

theorem memberSilent_restarts {d : ℕ} (hon : s.seamOn = true) (hd : d < 8)
    (hm : bitOf (s.get F.SEAM_MEMBERS_MEMBERS) d = true) (hage : 8 ≤ s.get (F.SEAM_PEER_AGE d)) (hg : bitOf s.seam.gone d = false) :
    Does (.memberSilent d) s fun t =>
      t.get F.SEAM_STAT_GEN = s.nextGen ∧ t.on F.SEAM_STAT_ROLLCALL = true ∧ t.seam.rcFrames = 0 ∧ bitOf t.seam.gone d = true ∧
      SameRegs (words [F.SEAM_STAT_GEN]) s t := by
  have hstep : exec (.memberSilent d) s =
      .next (State.rollStart { s with seam := { s.seam with gone := s.seam.gone ||| 2 ^ d } } s.nextGen 2) := by
    change Host.Outcome.next _ = _
    simp [hon, hd, hm, hage, hg]
  refine ⟨_, hstep, ?_⟩
  simp only [State.rollStart, State.rollRecord, State.pevent_get, State.pevent_on, State.count_get, State.count_on]
  refine ⟨?_, on_set_one _ rfl, by simp, ?_, ?_⟩
  · change State.get (State.set _ _ _) _ = _
    rw [get_set_beside (by decide), State.get_set_self]
    exact Nat.mod_mod _ _
  · simp [bitOf_eq_testBit]
  · refine SameRegs.of_regs (SameRegs.set (SameRegs.set (SameRegs.refl _ s) s.nextGen (.of_mem (g := F.SEAM_STAT_GEN) (by simp))) 1
      (.of_word (g := F.SEAM_STAT_ROLLCALL) (f := F.SEAM_STAT_GEN) (by simp) rfl (by decide))) ?_
    rw [State.pevent_regs, State.count_regs]
    rfl

theorem rollcall_completes (hon : s.seamOn = true) (hr : s.on F.SEAM_STAT_ROLLCALL = true) (h64 : 64 ≤ s.seam.rcFrames) :
    Does .rollcallComplete s fun t =>
      t.get F.SEAM_MEMBERS_MEMBERS = s.seam.rcSet % 2 ^ 8 ∧ t.on F.SEAM_STAT_ROLLCALL = false ∧ t.seam = { s.seam with gone := 0 } ∧
      SameRegs (words [F.SEAM_STAT_GEN, F.SEAM_MEMBERS_MEMBERS]) s t := by
  have hstep : exec .rollcallComplete s = .next s.rollComplete := by
    change Host.Outcome.next _ = _
    simp [hon, hr, h64]
  refine ⟨_, hstep, ?_⟩
  simp only [State.rollComplete, State.rollRecord, State.pevent_get, State.pevent_on]
  refine ⟨?_, on_set_zero _ _, by simp, ?_⟩
  · rw [get_set_beside (by decide), State.get_set_self]
  · refine SameRegs.of_regs (SameRegs.set (SameRegs.set (SameRegs.refl _ s) s.seam.rcSet (.of_mem (g := F.SEAM_MEMBERS_MEMBERS) (by simp))) 0
      (.of_word (g := F.SEAM_STAT_ROLLCALL) (f := F.SEAM_STAT_GEN) (by simp) rfl (by decide))) ?_
    rw [State.pevent_regs]
    rfl

theorem seamMode_changes (cont : Bool) : (s.seamMode cont).on F.SEAM_STAT_CONT_ONLY = cont ∧ (s.seamMode cont).seam.misRun = 0 ∧
    (s.seamMode cont).seam.okRun = 0 ∧ SameRegs (words [F.SEAM_STAT_CONT_ONLY]) s (s.seamMode cont) := by
  simp only [State.seamMode, State.pevent_on]
  refine ⟨on_setB _ rfl _, by simp, by simp, ?_⟩
  exact SameRegs.of_regs (SameRegs.set (SameRegs.refl _ s) _ (.of_mem (g := F.SEAM_STAT_CONT_ONLY) (by simp))) (State.pevent_regs ..)

theorem seamRollCall : SeamRollCall := by
  refine ⟨fun s d hon hd hm hage hg => memberSilent_restarts hon hd hm hage hg, fun s hon hr h => rollcall_completes hon hr h, ?_, ?_⟩
  · intro s hon hc h8
    refine ⟨s.seamMode true, ?_, seamMode_changes true⟩
    change Host.Outcome.next _ = _
    simp [hon, hc, h8]
  · intro s hon hc h64
    refine ⟨s.seamMode false, ?_, seamMode_changes false⟩
    change Host.Outcome.next _ = _
    simp [hon, hc, h64]

/-- Settles O26: each command is one update of the seam's state and of the words of SEAM_STAT, SEAM_MEMBERS and SEAM_TX. -/
theorem seamRoll : Obligations.SeamRoll := ⟨seamContention, seamRollCall⟩

end Sys2Proof.Proofs
end

section
/-!
What a command leaves alone, field by field (`Mild`), where a word holds fields of both kinds; and the steps at whose end the
redundant pair settles (R424 to R429), in these terms.
-/

open Sys2Proof Sys2Proof.Machine Sys2Proof.Claims

namespace Sys2Proof.Proofs

/-- Every field beside the fields fs reads as before, the core has not moved, and what has left the part and the staged records have
stayed. -/
structure Mild (fs : List Fld) (s t : State) : Prop where
  get : ∀ g, (∀ f ∈ fs, Beside f g) → t.get g = s.get g
  kept : Outlives s t
  time : t.time = s.time

namespace Mild
variable {fs fs' : List Fld} {s t u : State}

theorem refl (fs : List Fld) (s : State) : Mild fs s s := ⟨fun _ _ => rfl, .refl s, rfl⟩

theorem trans (h : Mild fs s t) (k : Mild fs t u) : Mild fs s u :=
  ⟨fun g hg => (k.get g hg).trans (h.get g hg), h.kept.trans k.kept, k.time.trans h.time⟩

theorem mono (h : Mild fs s t) (hs : ∀ f ∈ fs, f ∈ fs') : Mild fs' s t :=
  ⟨fun g hg => h.get g fun f hf => hg f (hs f hf), h.kept, h.time⟩

theorem on (h : Mild fs s t) {g : Fld} (hg : ∀ f ∈ fs, Beside f g) : t.on g = s.on g := by
  rw [State.on, h.get g hg, State.on]

theorem set (h : Mild fs s t) {f : Fld} (hf : f ∈ fs) (v : ℕ) : Mild fs s (t.set f v) :=
  h.trans ⟨fun _ hg => get_set_beside (hg f hf) t v, .of_eq rfl rfl, rfl⟩

theorem setB (h : Mild fs s t) {f : Fld} (hf : f ∈ fs) (b : Bool) : Mild fs s (t.setB f b) := h.set hf _

/-- An update outside the registers, the time, what has left the part and the staged records. -/
theorem of_eq (h : Mild fs s t) (hregs : u.regs = t.regs) (hout : u.out = t.out) (hfns : u.hif.fns = t.hif.fns)
    (htime : u.time = t.time) : Mild fs s u := h.trans ⟨fun g _ => get_of_regs hregs g, .of_eq hout hfns, htime⟩

theorem emitOut (h : Mild fs s t) (o : Out) : Mild fs s (t.emitOut o) := h.trans ⟨fun _ _ => rfl, .emitOut t o, rfl⟩

theorem countN (h : Mild fs s t) (i n : ℕ) : Mild fs s (t.countN i n) :=
  h.trans ⟨fun _ _ => State.countN_get .., .countN t i n, State.countN_time ..⟩

theorem count (h : Mild fs s t) (i : ℕ) : Mild fs s (t.count i) := h.countN i 1

theorem trace (h : Mild fs s t) (ty src p : ℕ) : Mild fs s (t.trace ty src p) :=
  h.trans ⟨fun _ _ => State.trace_get .., .traceAt .., State.trace_time ..⟩

theorem event (h : Mild fs s t) (n ty te p : ℕ) : Mild fs s (t.event n ty te p) :=
  h.trans ⟨fun _ _ => State.event_get .., .eventAt .., State.event_time ..⟩

theorem pevent (h : Mild fs s t) (ty te p : ℕ) : Mild fs s (t.pevent ty te p) :=
  h.trans ⟨fun _ _ => State.pevent_get .., .pevent .., State.pevent_time ..⟩

theorem foldl {α : Type} {g : State → α → State} {l : List α} (h : Mild fs s t) (hg : ∀ u, ∀ a ∈ l, Mild fs u (g u a)) :
    Mild fs s (l.foldl g t) := by
  induction l generalizing t with
  | nil => exact h
  | cons a l ih =>
    exact ih (h.trans (hg t a (List.mem_cons_self ..))) fun u b hb => hg u b (List.mem_cons_of_mem _ hb)

end Mild

/-! ## The pair settles -/

variable (s : State)

/-- Where the end of a drill is shown. -/
def drillFlds : List Fld :=
  [F.PAIR_TRIG_DRILL, F.PAIR_DRILL_ST_RUNNING, F.PAIR_DRILL_ST_RESULT, F.PAIR_DRILL_ST_LAST, F.PAIR_DRILL_ST_COUNT]

theorem drillEnd_mild (r : ℕ) (own : Bool) : Mild drillFlds s (s.drillEnd r own) := by
  have hp : ∀ p, Mild drillFlds s { s with pair := p } := fun p => (Mild.refl _ s).of_eq rfl rfl rfl rfl
  exact ((((((hp _).set (by simp [drillFlds]) _).set (by simp [drillFlds]) _).set (by simp [drillFlds]) _).set
    (by simp [drillFlds]) _).set (by simp [drillFlds]) _).pevent _ _ _

/-- Where the loss of the pair link is shown. -/
def cutFlds : List Fld := F.PAIR_INGOT_ST_RESYNC :: drillFlds

/-- A resync that runs is dropped (R438). -/
theorem linkCut_mild : Mild cutFlds s s.linkCut := by
  unfold State.linkCut
  split
  · exact .refl _ s
  extract_lets s1 p1 s2
  have h1 : Mild cutFlds s s1 := by
    unfold s1
    split
    · exact (Mild.refl _ s).of_eq rfl rfl rfl rfl
    · exact .refl _ s
  have h2 : Mild cutFlds s s2 := by
    unfold s2
    split
    · exact ((h1.of_eq (u := { s1 with pair := { s1.pair with resync := none } }) rfl rfl rfl rfl).set
        (f := F.PAIR_INGOT_ST_RESYNC) (by simp [cutFlds]) 0).pevent ..
    · exact h1
  split
  · exact h2.trans ((drillEnd_mild s2 6 true).mono fun _ hf => List.mem_cons_of_mem _ hf)
  · exact h2

theorem drillTrigger_mild : Mild drillFlds s s.drillTrigger := by
  unfold State.drillTrigger
  split
  · exact drillEnd_mild s 6 true
  · exact .refl _ s

/-- Where the unit's own claim is shown. -/
def claimFlds : List Fld := [F.PAIR_STAT_CEILING, F.PAIR_STAT_BIAS, F.PAIR_STAT_CLAIM, F.PAIR_STAT_DRIVING]

theorem claimStep_mild : Mild claimFlds s s.claimStep := by
  have hp : ∀ p, Mild claimFlds s { s with pair := p } := fun p => (Mild.refl _ s).of_eq rfl rfl rfl rfl
  unfold State.claimStep
  extract_lets p c base bias old eff p1 p2 drive was s1 s2 s3 s4
  have h3 : Mild claimFlds s s3 := ((((hp _).set (by simp [claimFlds]) _).set (by simp [claimFlds]) _).set (by simp [claimFlds]) _).setB
    (by simp [claimFlds]) _
  have h4 : Mild claimFlds s s4 := by
    unfold s4
    split
    · exact h3
    · exact h3.emitOut _
  split
  · exact h4
  · exact h4.emitOut _

theorem tieStep_mild : Mild [F.PAIR_STAT_TIE] s s.tieStep := by
  unfold State.tieStep
  extract_lets eq p1 s1
  have h1 : Mild [F.PAIR_STAT_TIE] s s1 := (Mild.refl _ s).of_eq rfl rfl rfl rfl
  split
  · exact (h1.set (f := F.PAIR_STAT_TIE) (by simp) 0).pevent _ _ _
  · exact h1

/-- Where the TEB is shown. -/
def tebFlds : List Fld :=
  [F.TSK_TEB_TEB_LO, F.TSK_TEB_TEB_HI, F.TSK_TEB_SRC_TAG, F.TSK_TEB_FLOAT_BOUND, F.TSK_TEB_ST_FLOOR, F.TSK_TEB_ST_STEP_HOLD,
    F.TSK_TEB_ST_UNBOUNDED]

theorem publish_mild (v tag : ℕ) : Mild tebFlds s (s.publish v tag) :=
  (((((((Mild.refl _ s).set (by simp [tebFlds]) _).set (by simp [tebFlds]) _).set (by simp [tebFlds]) _).set (by simp [tebFlds]) _).setB
    (by simp [tebFlds]) _).setB (by simp [tebFlds]) _).setB (by simp [tebFlds]) _

/-- What counts the launches that a unit gives up with its service. -/
def stopFlds : List Fld := F.HMK_STATS_COUNT 24 :: (List.range 8).map (F.ETH_STATS_COUNT · 18)

theorem hmkStat_mild {fs : List Fld} {k : ℕ} (h : F.HMK_STATS_COUNT k ∈ fs) : Mild fs s (s.hmkStat k) :=
  ((Mild.refl fs s).set h _).count _

theorem ethStat_mild {fs : List Fld} {p k : ℕ} (h : F.ETH_STATS_COUNT p k ∈ fs) (n : ℕ) : Mild fs s (s.ethStat p k n) :=
  ((Mild.refl fs s).set h _).countN _ _

theorem releaseResvs_mild {fs : List Fld} {p : ℕ} (h : F.ETH_STATS_COUNT p 18 ∈ fs) (f : Resv → Bool) :
    Mild fs s (s.releaseResvs p f) := by
  unfold State.releaseResvs
  extract_lets x gone
  split
  · exact .refl _ s
  · exact ((Mild.refl fs s).of_eq (u := s.setPort p { x with resvs := x.resvs.filter fun r => !f r }) rfl rfl rfl rfl).trans
      (ethStat_mild _ h _)

theorem stopServing_mild : Mild stopFlds s s.stopServing := by
  have hstat : ∀ u, Mild stopFlds u (u.hmkStat 24) := fun u => hmkStat_mild u (by simp [stopFlds])
  refine (Mild.refl _ s).foldl fun u p hp => ?_
  have hrel := releaseResvs_mild u (fs := stopFlds) (p := p)
    (List.mem_cons_of_mem _ (List.mem_map.mpr ⟨p, hp, rfl⟩)) (fun r => r.src = 0 && decide (s.ps < r.l))
  exact (hrel.of_eq (u := (u.releaseResvs p fun r => r.src = 0 && decide (s.ps < r.l)).setJobs p []) rfl rfl rfl rfl).foldl
    fun v _ _ => hstat v

/-- Where a change of role is shown. -/
def roleFlds : List Fld := [F.PAIR_STAT_ROLE, F.HMK_STAT_STANDBY, F.PAIR_DRILL_ST_RUNNING] ++ tebFlds ++ stopFlds

theorem roleBound_mild (old new : ℕ) : Mild tebFlds s (s.roleBound old new) := by
  have ht : ∀ x, Mild tebFlds s { s with tsk := x } := fun x => (Mild.refl _ s).of_eq rfl rfl rfl rfl
  unfold State.roleBound
  dsimp only
  split
  · split
    · exact (ht _).trans (publish_mild _ _ _)
    · split <;> exact (ht _).trans (publish_mild _ _ _)
  · exact (ht _).trans (publish_mild _ _ _)

theorem roleChange_mild (new cause : ℕ) : Mild roleFlds s (s.roleChange new cause) := by
  have hstop : ∀ u, Mild roleFlds u u.stopServing := fun u => (stopServing_mild u).mono fun f hf => by simp [roleFlds, hf]
  have hbound : ∀ u a b, Mild roleFlds u (u.roleBound a b) := fun u a b =>
    (roleBound_mild u a b).mono fun f hf => by simp [roleFlds, hf]
  unfold State.roleChange
  extract_lets old s1 p s2 s3 s4 p4 s5 s6
  have h3 : Mild roleFlds s s3 := (((((Mild.refl _ s).set (by simp [roleFlds]) _).pevent _ _ _).trace _ _ _).count _).setB
    (by simp [roleFlds]) _
  have h4 : Mild roleFlds s s4 := by
    unfold s4
    split
    · exact h3.trans (hstop _)
    · exact h3
  have h5 : Mild roleFlds s s5 := by
    unfold s5
    split
    · exact h4.of_eq rfl rfl rfl rfl
    · exact h4
  have h6 : Mild roleFlds s s6 := h5.trans (hbound _ _ _)
  clear_value s6
  split
  · split
    · exact (h6.of_eq (u := { s6 with pair := { s6.pair with tookAt := some s6.time.tickNo } }) rfl rfl rfl rfl).set
        (by simp [roleFlds]) _
    · exact h6
  · exact h6

/-- Where the settling of the pair is shown. -/
def settleFlds : List Fld := cutFlds ++ claimFlds ++ [F.PAIR_STAT_TIE] ++ roleFlds

theorem pairSettle_mild (cause : ℕ) : Mild settleFlds s (s.pairSettle cause) := by
  have hcut : ∀ u : State, Mild settleFlds u u.linkCut := fun u => (linkCut_mild u).mono fun f hf => by simp [settleFlds, hf]
  have hdrill : ∀ u : State, Mild settleFlds u u.drillTrigger := fun u =>
    (drillTrigger_mild u).mono fun f hf => by simp [settleFlds, cutFlds, hf]
  have hclaim : ∀ u : State, Mild settleFlds u u.claimStep := fun u => (claimStep_mild u).mono fun f hf => by simp [settleFlds, hf]
  have htie : ∀ u : State, Mild settleFlds u u.tieStep := fun u => (tieStep_mild u).mono fun f hf => by simp_all [settleFlds]
  have hrole : ∀ (u : State) n, Mild settleFlds u (u.roleChange n cause) := fun u n =>
    (roleChange_mild u n cause).mono fun f hf => by simp [settleFlds, hf]
  unfold State.pairSettle
  extract_lets s1 s2 s3 ok
  have h2 : Mild settleFlds s s2 := (((((hcut s).trans (hdrill _)).trans (hclaim _)).trans (hclaim _)).trans (hclaim _)).trans (htie _)
  have h3 : Mild settleFlds s s3 := by
    unfold s3
    split
    · exact h2
    · exact h2.trans (hrole _ _)
  split
  · exact h3
  · exact (h3.of_eq (u := { s3 with pair := { s3.pair with okLow := ok } }) rfl rfl rfl rfl).emitOut _

end Sys2Proof.Proofs
end

section
/-!
O27: the claims of the redundant pair (R424, R425, R427, R430), through what the settling of the pair leaves alone.
-/

open Sys2Proof Sys2Proof.Machine Sys2Proof.Claims

namespace Sys2Proof.Proofs

variable {s : State}

/-- Read through the settling of the pair: a field of which it says nothing. -/
theorem pairSettle_get {g : Fld} (hg : ∀ f ∈ settleFlds, Beside f g) (cause : ℕ) : (s.pairSettle cause).get g = s.get g :=
  (pairSettle_mild s cause).get g hg

/-! ## The peer's claim -/

theorem claimInChange_peerClaim (v : ℕ) : Does (.claimInChange v) s fun t => t.get F.PAIR_STAT_PEER_CLAIM = v % 16 := by
  have hset : (s.set F.PAIR_STAT_PEER_CLAIM (v % 16)).get F.PAIR_STAT_PEER_CLAIM = v % 16 := by
    rw [State.get_set_self]
    exact Nat.mod_mod _ _
  refine ⟨_, rfl, (pairSettle_get (by decide) 0).trans ?_⟩
  split
  · split
    · exact ((drillEnd_mild _ 5 true).get _ (by decide)).trans hset
    · exact hset
  · exact hset

/-! ## The own claim, at rest -/

/-- PAIR is in force, no drill runs, the status is not STALE, and the base claim is what the configuration and the ceiling give. -/
structure AtRest (s : State) (b i : ℕ) : Prop where
  on : s.pairOn = true
  stale : s.on F.PAIR_INGOT_ST_STALE = false
  base : s.pair.base = b
  claim : min (s.get F.PAIR_CFG_PAIR_CLAIM) (s.ceilingOf true) = b
  bias : s.get F.PAIR_STAT_BIAS = i

/-- The fields that the own claim is computed from. -/
def claimInputs : List Fld := [F.PAIR_TRIG_TRIG, F.PAIR_TRIG_FAULT, F.PAIR_TRIG_DRILL, F.PAIR_INGOT_ST_STALE, F.PAIR_CFG_PAIR_CLAIM]

theorem ceilingOf_eq (h : s.on F.PAIR_INGOT_ST_STALE = false) : s.ceilingOf true =
    if s.get F.PAIR_TRIG_TRIG ≠ 0 || s.on F.PAIR_TRIG_FAULT || s.on F.PAIR_TRIG_DRILL then 0 else 15 := by
  simp [State.ceilingOf, h]

variable {b i : ℕ}

/-- Rest depends on few things. -/
theorem AtRest.of_get {t : State} {j : ℕ} (h : AtRest s b i) (hon : t.pairOn = s.pairOn) (hget : ∀ g ∈ claimInputs, t.get g = s.get g)
    (hbase : t.pair.base = b) (hbias : t.get F.PAIR_STAT_BIAS = j) : AtRest t b j := by
  have hstale : t.on F.PAIR_INGOT_ST_STALE = false := by rw [State.on, hget _ (by simp [claimInputs])]; exact h.stale
  refine ⟨hon.trans h.on, hstale, hbase, ?_, hbias⟩
  rw [← h.claim, ceilingOf_eq hstale, ceilingOf_eq h.stale, State.on, State.on, hget F.PAIR_TRIG_TRIG (by simp [claimInputs]),
    hget F.PAIR_TRIG_FAULT (by simp [claimInputs]), hget F.PAIR_TRIG_DRILL (by simp [claimInputs]),
    hget F.PAIR_CFG_PAIR_CLAIM (by simp [claimInputs])]
  rfl

/-- State u shows the claim of state s, recomputed at rest. -/
structure Claimed (s : State) (b i : ℕ) (u : State) : Prop where
  cmp : u.pair.cmp = min s.pair.cmp (b + i)
  claim : u.get F.PAIR_STAT_CLAIM = (b + i) % 2 ^ 4
  driving : u.on F.PAIR_STAT_DRIVING = decide (s.get F.PAIR_STAT_PEER_CLAIM < min s.pair.cmp (b + i))
  peer : u.get F.PAIR_STAT_PEER_CLAIM = s.get F.PAIR_STAT_PEER_CLAIM
  rest : AtRest u b i

theorem Claimed.emitOut {u : State} (h : Claimed s b i u) (o : Out) : Claimed s b i (u.emitOut o) :=
  ⟨h.cmp, h.claim, h.driving, h.peer, h.rest.on, h.rest.stale, h.rest.base, h.rest.claim, h.rest.bias⟩

theorem claimStep_of_rest (h : AtRest s b i) : Claimed s b i s.claimStep := by
  unfold State.claimStep
  extract_lets p c base bias old eff p1 p2 drive was s1 s2 s3 s4
  have hc : c = s.ceilingOf true := if_pos h.on
  have hbase : base = b := by simp only [base, h.on, if_true, hc, h.claim]
  have hbias : bias = i := by simp [bias, h.on, hbase, p, h.base, h.bias]
  have heff : eff = b + i := by simp only [eff, hbase, hbias]
  have hp2 : p2.cmp = min s.pair.cmp (b + i) ∧ p2.base = b := by
    unfold p2
    split <;> exact ⟨by rw [← heff], hbase⟩
  have h3 : Claimed s b i s3 := by
    refine ⟨hp2.1, ?_, ?_, ?_, h.of_get rfl ?_ hp2.2 ?_⟩
    · rw [← heff]
      unfold s3
      rw [State.setB, get_set_beside (by decide), State.get_set_self]
    · unfold s3
      rw [on_setB _ rfl, ← hp2.1]
      simp [drive, h.on]
    · unfold s3 s2
      rw [State.setB, get_set_beside (by decide), get_set_beside (by decide), get_set_beside (by decide), get_set_beside (by decide)]
      rfl
    · intro g hg
      have hb : ∀ g ∈ claimInputs, ∀ f ∈ claimFlds, Beside f g := by decide
      have hm : Mild claimFlds s s3 := by
        refine (((Mild.set (Mild.set (Mild.set (Mild.of_eq (Mild.refl _ s) (u := s1) rfl rfl rfl rfl) ?_ _) ?_ _) ?_ _).setB ?_ _))
        all_goals simp [claimFlds]
      exact hm.get g (hb g hg)
    · unfold s3 s2
      rw [State.setB, get_set_beside (by decide), get_set_beside (by decide), State.get_set_self, hbias, ← h.bias]
      exact get_mod s _
  have h4 : Claimed s b i s4 := by
    unfold s4
    split
    · exact h3
    · exact h3.emitOut _
  split
  · exact h4
  · exact h4.emitOut _

/-! ## The settling of the pair, at rest -/

theorem pevent_feats (s : State) (ty te p : ℕ) : (s.pevent ty te p).hif.feats = s.hif.feats :=
  congrArg (fun x => x.hif.feats) (State.pevent_calm s ty te p)

theorem linkCut_keeps (hd : s.pair.drill = none) (ht : s.pair.tookAt = none) :
    s.linkCut.pair.cmp = s.pair.cmp ∧ s.linkCut.pair.base = s.pair.base ∧ s.linkCut.pair.drill = none ∧
      s.linkCut.hif.feats = s.hif.feats ∧ Mild [F.PAIR_INGOT_ST_RESYNC] s s.linkCut := by
  unfold State.linkCut
  split
  · exact ⟨rfl, rfl, hd, rfl, .refl _ s⟩
  extract_lets s1 p1 s2
  have h1 : s1.pair = s.pair ∧ s1.hif = s.hif ∧ Mild [F.PAIR_INGOT_ST_RESYNC] s s1 := by
    unfold s1
    split
    · exact ⟨rfl, rfl, (Mild.refl _ s).of_eq rfl rfl rfl rfl⟩
    · exact ⟨rfl, rfl, .refl _ s⟩
  obtain ⟨hpair, hhif, h1⟩ := h1
  have h2 : s2.pair.cmp = s.pair.cmp ∧ s2.pair.base = s.pair.base ∧ s2.pair.drill = none ∧ s2.pair.tookAt = none ∧
      s2.hif.feats = s.hif.feats ∧ Mild [F.PAIR_INGOT_ST_RESYNC] s s2 := by
    unfold s2
    split
    · refine ⟨?_, ?_, ?_, ?_, ?_, ?_⟩
      iterate 4 simp [State.resyncRecord, p1, hpair, hd, ht]
      · exact (pevent_feats ..).trans (by rw [← hhif]; rfl)
      · exact ((h1.of_eq (u := { s1 with pair := { s1.pair with resync := none } }) rfl rfl rfl rfl).set
          (f := F.PAIR_INGOT_ST_RESYNC) (by simp) 0).pevent ..
    · exact ⟨by rw [hpair], by rw [hpair], by rw [hpair, hd], by rw [hpair, ht], by rw [hhif], h1⟩
  obtain ⟨hcmp, hbase, hdrill, htook, hfeats, h2⟩ := h2
  rw [if_neg (by simp [hdrill, htook])]
  exact ⟨hcmp, hbase, hdrill, hfeats, h2⟩

theorem tieStep_cmp : s.tieStep.pair.cmp = s.pair.cmp := by
  unfold State.tieStep
  extract_lets eq p1 s1
  split
  · exact (congrArg PairSt.cmp (State.pevent_pair ..)).trans rfl
  · rfl

theorem foldl_pair {α : Type} {g : State → α → State} {l : List α} (hg : ∀ u a, (g u a).pair = u.pair) (u : State) :
    (l.foldl g u).pair = u.pair := by
  induction l generalizing u with
  | nil => rfl
  | cons a l ih => exact (ih _).trans (hg u a)

theorem stopServing_pair : s.stopServing.pair = s.pair := by
  refine foldl_pair (fun u p => ?_) s
  refine (foldl_pair (fun v _ => by simp [State.hmkStat, State.add]) _).trans ?_
  simp only [State.setJobs_pair, State.releaseResvs]
  split
  · rfl
  · simp [State.ethStat, State.add]

theorem publish_pair (v tag : ℕ) : (s.publish v tag).pair = s.pair := rfl

theorem roleBound_pair (old new : ℕ) : (s.roleBound old new).pair = s.pair := by
  unfold State.roleBound
  split
  · split
    · rfl
    · split <;> rfl
  · rfl

theorem roleChange_pair (new cause : ℕ) :
    (s.roleChange new cause).pair.cmp = s.pair.cmp ∧ (s.roleChange new cause).pair.outMon = s.pair.outMon := by
  unfold State.roleChange
  extract_lets old s1 p s2 s3 s4 p4 s5 s6
  have h3 : s3.pair = s.pair := by simp [s3, s2, s1]
  have h4 : s4.pair = s.pair := by
    unfold s4
    split
    · exact stopServing_pair.trans h3
    · exact h3
  have h5 : s5.pair.cmp = s.pair.cmp ∧ s5.pair.outMon = s.pair.outMon := by
    unfold s5
    split <;> simp [p4, h4]
  have h6 : s6.pair.cmp = s.pair.cmp ∧ s6.pair.outMon = s.pair.outMon := by rwa [roleBound_pair]
  clear_value s6
  split
  · split <;> exact h6
  · exact h6

/-- At rest, the settling of the pair recomputes the claim and compares it. -/
theorem pairSettle_of_rest (h : AtRest s b i) (hd : s.pair.drill = none) (ht : s.pair.tookAt = none) (cause : ℕ) :
    (s.pairSettle cause).pair.cmp = min s.pair.cmp (b + i) ∧ (s.pairSettle cause).get F.PAIR_STAT_CLAIM = (b + i) % 2 ^ 4 ∧
      (s.pairSettle cause).on F.PAIR_STAT_DRIVING = decide (s.get F.PAIR_STAT_PEER_CLAIM < min s.pair.cmp (b + i)) ∧
      (s.pairSettle cause).get F.PAIR_STAT_BIAS = i := by
  obtain ⟨hcmp, hbase, hdrill, hfeats, hcut⟩ := linkCut_keeps hd ht
  have htrig : s.linkCut.drillTrigger = s.linkCut := by simp [State.drillTrigger, hdrill]
  have hin : ∀ g ∈ claimInputs, ∀ f ∈ [F.PAIR_INGOT_ST_RESYNC], Beside f g := by decide
  have hrest : AtRest s.linkCut b i := h.of_get (by simp [State.pairOn, State.feat, hfeats]) (fun g hg => hcut.get g (hin g hg))
    (hbase.trans h.base) ((hcut.get _ (by decide)).trans h.bias)
  have hpeer : s.linkCut.get F.PAIR_STAT_PEER_CLAIM = s.get F.PAIR_STAT_PEER_CLAIM := hcut.get _ (by decide)
  have c1 := claimStep_of_rest hrest
  have c2 := claimStep_of_rest c1.rest
  obtain ⟨hc, hclaim, hdrv, -, hlast⟩ := claimStep_of_rest c2.rest
  rw [c2.cmp, c1.cmp, hcmp, min_assoc, min_self, min_assoc, min_self] at hc hdrv
  rw [c2.peer, c1.peer, hpeer] at hdrv
  unfold State.pairSettle
  extract_lets s1 s2 s3 ok
  have hs2 : s2.pair.cmp = min s.pair.cmp (b + i) ∧ Mild [F.PAIR_STAT_TIE] s.linkCut.claimStep.claimStep.claimStep s2 := by
    unfold s2 s1
    rw [htrig]
    exact ⟨tieStep_cmp.trans hc, tieStep_mild _⟩
  obtain ⟨hs2, hm2⟩ := hs2
  have h3 : s3.pair.cmp = min s.pair.cmp (b + i) ∧ Mild (F.PAIR_STAT_TIE :: roleFlds) s.linkCut.claimStep.claimStep.claimStep s3 := by
    have hm2 := hm2.mono (fs' := F.PAIR_STAT_TIE :: roleFlds) fun f hf => by
      rw [List.mem_singleton.mp hf]
      exact List.mem_cons_self ..
    unfold s3
    split
    · exact ⟨hs2, hm2⟩
    · exact ⟨(roleChange_pair ..).1.trans hs2, hm2.trans ((roleChange_mild _ _ _).mono fun f hf => List.mem_cons_of_mem _ hf)⟩
  obtain ⟨hs3, hm3⟩ := h3
  have hall : ∀ u : State, u.pair.cmp = s3.pair.cmp → u.regs = s3.regs →
      u.pair.cmp = min s.pair.cmp (b + i) ∧ u.get F.PAIR_STAT_CLAIM = (b + i) % 2 ^ 4 ∧
        u.on F.PAIR_STAT_DRIVING = decide (s.get F.PAIR_STAT_PEER_CLAIM < min s.pair.cmp (b + i)) ∧ u.get F.PAIR_STAT_BIAS = i := by
    intro u hu hr
    have hg : ∀ f, u.get f = s3.get f := get_of_regs hr
    refine ⟨hu.trans hs3, ?_, ?_, ?_⟩
    · rw [hg, hm3.get _ (by decide), hclaim]
    · rw [State.on, hg, hm3.get _ (by decide), ← hdrv, State.on]
    · rw [hg, hm3.get _ (by decide), hlast.bias]
  split
  · exact hall _ rfl rfl
  · exact hall _ rfl rfl

/-! ## The clauses -/

theorem atRest_of_steady (h : PairSteady s) : AtRest s s.pair.base (s.get F.PAIR_STAT_BIAS) :=
  ⟨h.1, h.2.2.2.2.1, rfl, h.2.2.2.2.2.1.symm, rfl⟩

theorem claimRise_arrives {at_ v : ℕ} {rest : List (ℕ × ℕ)} (h : PairSteady s) (hr : s.pair.rises = (at_, v) :: rest)
    (hv : v = s.get F.PAIR_STAT_CLAIM) : Does .claimRiseArrives s fun t =>
      t.pair.cmp = v ∧ t.on F.PAIR_STAT_DRIVING = decide (s.get F.PAIR_STAT_PEER_CLAIM < v) ∧ t.get F.PAIR_STAT_CLAIM = v := by
  obtain ⟨b, hrest⟩ : ∃ b, AtRest s b (s.get F.PAIR_STAT_BIAS) := ⟨_, atRest_of_steady h⟩
  obtain ⟨-, -, hd, ht, -, -, hclaim⟩ := h
  generalize hs' : (if s.time.running then s.runTo at_ else s) = s'
  have hrun : s'.regs = s.regs ∧ s'.pair = s.pair ∧ s'.hif = s.hif := by
    rw [← hs']
    split
    · rw [runTo_eq]; exact ⟨rfl, rfl, rfl⟩
    · exact ⟨rfl, rfl, rfl⟩
  obtain ⟨hregs, hpair, hhif⟩ := hrun
  have hget : ∀ f, s'.get f = s.get f := get_of_regs hregs
  let u : State := { s' with pair := { s'.pair with cmp := min v (s'.get F.PAIR_STAT_CLAIM), rises := rest } }
  have hstep : exec .claimRiseArrives s = .next (u.pairSettle 0) := by
    change Host.Outcome.next _ = _
    rw [hr]
    dsimp only
    rw [hs']
  have hcmp : u.pair.cmp = v := by simp [u, hget, ← hv]
  have hat : AtRest u b (s.get F.PAIR_STAT_BIAS) := hrest.of_get (by rw [State.pairOn, State.feat]; simp [u, hhif]; rfl) (fun g _ => hget g)
    (by rw [← hrest.base, ← hpair]) (hget _)
  have hsum : b + s.get F.PAIR_STAT_BIAS = v := by rw [hv, hclaim, hrest.base]
  obtain ⟨h1, h2, h3, -⟩ := pairSettle_of_rest hat (by rw [← hd, ← hpair]) (by rw [← ht, ← hpair]) 0
  rw [hcmp, hsum, min_self] at h1 h3
  refine ⟨_, hstep, h1, h3.trans ?_, h2.trans ?_⟩
  · rw [show u.get F.PAIR_STAT_PEER_CLAIM = s.get F.PAIR_STAT_PEER_CLAIM from hget _]
  · rw [hsum, hv]
    exact get_mod s _

theorem pairLink_congr {t : State} (h : ∀ l < 4, t.on (F.GFL_CFG_PAIR_LINK l) = s.on (F.GFL_CFG_PAIR_LINK l)) :
    t.pairLink = s.pairLink := by
  simp only [State.pairLink, List.find?, h 0 (by decide), h 1 (by decide), h 2 (by decide), h 3 (by decide)]

theorem tieBias_congr {t : State} (h : ∀ g, Beside F.PAIR_STAT_TIE g → t.get g = s.get g) (hg : t.gfl = s.gfl) :
    t.tieBias = s.tieBias := by
  have hon : ∀ g, Beside F.PAIR_STAT_TIE g → t.on g = s.on g := fun g hb => by rw [State.on, h g hb, State.on]
  have hl : t.pairLink = s.pairLink := pairLink_congr fun l hl => hon _ (by interval_cases l <;> decide)
  have hlink : ∀ l, t.link l = s.link l := fun l => by simp [State.link, hg]
  simp only [State.tieBias, hl, hlink, hon F.PAIR_STAT_POS_CONFLICT (by decide), h F.SYS_STRAP_DEVID (by decide),
    h F.SYS_STRAP_PAIR_POS (by decide)]

theorem tieBias_lt : s.tieBias < 2 := by
  unfold State.tieBias
  split
  · split
    · split <;> omega
    · omega
  · exact State.get_lt s F.SYS_STRAP_PAIR_POS

theorem claimTie_sets {a : ℕ} {s' : State} (h : PairSteady s) (hsince : s.pair.tieSince = some a) (hbase : 1 ≤ s.pair.base)
    (htie : s.on F.PAIR_STAT_TIE = false) (hs' : (if s.time.running then s.runTo (a + 256) else s) = s') :
    Does .claimTie s fun t =>
      t.get F.PAIR_STAT_BIAS = s.tieBias ∧ t.time = s'.time ∧
      Reports s' t 0 0x31 0 (pay [(20, 1, s.get F.PAIR_STAT_CLAIM), (21, 1, 1)]) := by
  have hrun : s'.regs = s.regs ∧ s'.pair = s.pair ∧ s'.hif = s.hif ∧ s'.gfl = s.gfl := by
    rw [← hs']
    split
    · rw [runTo_eq]; exact ⟨rfl, rfl, rfl, rfl⟩
    · exact ⟨rfl, rfl, rfl, rfl⟩
  have hrest := atRest_of_steady h
  obtain ⟨hon, -, hd, ht, -⟩ := h
  obtain ⟨hregs, hpair, hhif, hgfl⟩ := hrun
  have hget : ∀ f, s'.get f = s.get f := get_of_regs hregs
  generalize hu' : (s'.set F.PAIR_STAT_TIE 1).pevent 0x31 0 (pay [(20, 1, s.get F.PAIR_STAT_CLAIM), (21, 1, 1)]) = u
  have hu : Mild [F.PAIR_STAT_TIE] s' u := hu' ▸ ((Mild.refl _ s').set (by simp) _).pevent _ _ _
  have hstep : exec .claimTie s = .next ((u.set F.PAIR_STAT_BIAS u.tieBias).pairSettle 4) := by
    change execClaimTie s = _
    have hgo : (s.pairOn && decide (1 ≤ s.pair.base) && !s.on F.PAIR_STAT_TIE) = true := by simp [hon, hbase, htie]
    simp only [execClaimTie, hsince, hgo, if_true, hs', hget, hu']
  have hkept : u.pair = s.pair ∧ u.gfl = s.gfl ∧ u.hif.feats = s.hif.feats := by
    rw [← hu', ← hpair, ← hgfl, ← hhif]
    exact ⟨by simp, by simp, pevent_feats ..⟩
  obtain ⟨hupair, hugfl, hufeats⟩ := hkept
  have hbias : u.tieBias = s.tieBias := tieBias_congr (fun g hb => (hu.get g (by simpa using hb)).trans (hget g)) hugfl
  have hset : Mild [F.PAIR_STAT_BIAS] u (u.set F.PAIR_STAT_BIAS u.tieBias) := (Mild.refl _ u).set (by simp) _
  have hin : ∀ g ∈ claimInputs, Beside F.PAIR_STAT_TIE g ∧ Beside F.PAIR_STAT_BIAS g := by decide
  have hat : AtRest (u.set F.PAIR_STAT_BIAS u.tieBias) s.pair.base u.tieBias := by
    refine hrest.of_get ?_ (fun g hg => ?_) (by rw [← hupair, State.set_pair]) ?_
    · rw [State.pairOn, State.feat, State.pairOn, State.feat, ← hufeats]
      rfl
    · obtain ⟨h1, h2⟩ := hin g hg
      rw [hset.get g (by simpa using h2), hu.get g (by simpa using h1), hget]
    · rw [State.get_set_self]
      exact Nat.mod_eq_of_lt tieBias_lt
  obtain ⟨-, -, -, hres⟩ := pairSettle_of_rest hat (hupair ▸ hd) (hupair ▸ ht) 4
  have hsettle := pairSettle_mild (u.set F.PAIR_STAT_BIAS u.tieBias) 4
  refine ⟨_, hstep, hres.trans hbias, hsettle.time.trans hu.time, ?_⟩
  exact reports_pevent (u := s'.set F.PAIR_STAT_TIE 1) (on_set_beside (by decide) _ _) rfl rfl
    (hu' ▸ hset.kept.trans hsettle.kept)

/-! ## The output monitor -/

/-- Where a diagnosis is shown. -/
def diagFlds : List Fld := [F.PAIR_TRIG_TRIG, F.PAIR_TRIG_FAULT, F.ASY_SRC_ST_COUNT 8, F.ASY_SRC_ST_TIMER 8] ++ settleFlds

theorem srcAnomaly_mild {fs : List Fld} {k : ℕ} (hc : F.ASY_SRC_ST_COUNT k ∈ fs) (ht : F.ASY_SRC_ST_TIMER k ∈ fs) (s : State) :
    Mild fs s (s.srcAnomaly k) := by
  unfold State.srcAnomaly
  split
  · exact .refl _ s
  extract_lets l a1 s1 s2 win s3
  have h3 : Mild fs s s3 := (((Mild.refl _ s).of_eq (u := s1) rfl rfl rfl rfl).count _).set hc _
  split
  · exact h3.set ht _
  · exact h3

theorem diagStep_mild (k : ℕ) : Mild diagFlds s (s.diagStep k) := by
  unfold State.diagStep
  extract_lets now s1 s2
  split
  · exact .refl _ s
  · have h1 : Mild diagFlds s s1 := (Mild.refl _ s).set (by simp [diagFlds]) _
    have h2 : Mild diagFlds s s2 := by
      unfold s2
      split
      · exact h1.trans (srcAnomaly_mild (by simp [diagFlds]) (by simp [diagFlds]) s1)
      · exact h1
    exact h2.pevent _ _ _

theorem settleDiag_mild (cause : ℕ) : Mild diagFlds s (s.settleDiag cause) := by
  have hsettle : ∀ u : State, Mild diagFlds u (u.pairSettle cause) := fun u =>
    (pairSettle_mild u cause).mono fun f hf => List.mem_append_right _ hf
  unfold State.settleDiag
  extract_lets s1
  refine Mild.trans ?_ (hsettle s1)
  unfold s1
  split
  · exact ((Mild.refl _ s).foldl fun u k _ => diagStep_mild k).set (by simp [diagFlds]) _
  · exact .refl _ s

theorem drillEnd_outMon (r : ℕ) (own : Bool) : (s.drillEnd r own).pair.outMon = s.pair.outMon :=
  (congrArg PairSt.outMon (State.pevent_pair ..)).trans rfl

theorem linkCut_outMon : s.linkCut.pair.outMon = s.pair.outMon := by
  unfold State.linkCut
  split
  · rfl
  extract_lets s1 p1 s2
  have h1 : s1.pair = s.pair := by
    unfold s1
    split <;> rfl
  have h2 : s2.pair.outMon = s.pair.outMon := by
    unfold s2
    split
    · exact (congrArg PairSt.outMon (State.pevent_pair ..)).trans (by rw [← h1]; rfl)
    · rw [h1]
  split
  · exact (drillEnd_outMon 6 true).trans h2
  · exact h2

theorem drillTrigger_outMon : s.drillTrigger.pair.outMon = s.pair.outMon := by
  unfold State.drillTrigger
  split
  · exact drillEnd_outMon 6 true
  · rfl

theorem claimStep_outMon : s.claimStep.pair.outMon = s.pair.outMon := by
  unfold State.claimStep
  extract_lets p c base bias old eff p1 p2 drive was s1 s2 s3 s4
  have h2 : p2.outMon = s.pair.outMon := by
    unfold p2
    split <;> rfl
  have h4 : s4.pair.outMon = s.pair.outMon := by
    unfold s4
    split <;> exact h2
  split <;> exact h4

theorem tieStep_outMon : s.tieStep.pair.outMon = s.pair.outMon := by
  unfold State.tieStep
  extract_lets eq p1 s1
  split
  · exact (congrArg PairSt.outMon (State.pevent_pair ..)).trans rfl
  · rfl

theorem pairSettle_outMon (cause : ℕ) : (s.pairSettle cause).pair.outMon = s.pair.outMon := by
  unfold State.pairSettle
  extract_lets s1 s2 s3 ok
  have h2 : s2.pair.outMon = s.pair.outMon := by
    unfold s2 s1
    rw [tieStep_outMon, claimStep_outMon, claimStep_outMon, claimStep_outMon, drillTrigger_outMon, linkCut_outMon]
  have h3 : s3.pair.outMon = s.pair.outMon := by
    unfold s3
    split
    · exact h2
    · exact (roleChange_pair ..).2.trans h2
  split <;> exact h3

theorem diagStep_pair (k : ℕ) : (s.diagStep k).pair = s.pair := by
  unfold State.diagStep
  extract_lets now s1 s2
  split
  · rfl
  · refine (State.pevent_pair ..).trans ?_
    unfold s2
    split
    · simp only [State.srcAnomaly]
      split
      · rfl
      · split <;> exact (State.count_pair ..).trans rfl
    · rfl

theorem settleDiag_outMon (cause : ℕ) : (s.settleDiag cause).pair.outMon = s.pair.outMon := by
  unfold State.settleDiag
  extract_lets s1
  refine (pairSettle_outMon cause).trans (congrArg PairSt.outMon ?_)
  unfold s1
  split
  · exact foldl_pair (fun u k => diagStep_pair k) s
  · rfl

theorem outMon_keeps_index {o : ℕ} (hd : s.on F.PAIR_STAT_DRIVING = true) (ho : o < 24) (hp : bitOf s.syn.paired o = true) :
    Does (.outMonMismatch o) s fun t => t.pair.outMon = true ∧ t.get F.PAIR_TRIG_OUT_IDX = o := by
  have hstep : exec (.outMonMismatch o) s =
      .next ((State.set { s with pair := { s.pair with outMon := true } } F.PAIR_TRIG_OUT_IDX o).settleDiag 1) := by
    change execOutMonMismatch o s = _
    simp only [execOutMonMismatch, hd, ho, hp, decide_true, Bool.and_self, if_true]
  refine ⟨_, hstep, settleDiag_outMon 1, ((settleDiag_mild 1).get _ (by decide)).trans ?_⟩
  rw [State.get_set_self]
  exact Nat.mod_eq_of_lt (by change o < 2 ^ 5; omega)

/-- Settles O27: at rest the settling of the pair recomputes the claim that stands (`pairSettle_of_rest`), and what it does
besides touches other fields (`pairSettle_mild`). -/
theorem pairClaims : Obligations.PairClaims :=
  ⟨fun _ v => claimInChange_peerClaim v, fun _ _ _ _ h hr hv => claimRise_arrives h hr hv,
    fun _ _ h hsince hbase htie => claimTie_sets h hsince hbase htie rfl, fun _ _ hd ho hp => outMon_keeps_index hd ho hp⟩

end Sys2Proof.Proofs
end

section
/-!
O38 fails by its clause about a port's first rise: a port whose local fault is shown when its millisecond of lock ends goes to UP and,
at once, from UP to FAULT. The clause has no hypothesis on the faults shown, and claims that the port is UP.
-/

open Sys2Proof Sys2Proof.Machine Sys2Proof.Claims

namespace Sys2Proof.Proofs

/-- Port 0 is DOWN with lock and grid, and a local fault is shown. -/
def faultedDownPort : State :=
  let s := State.reset.set (F.ETH_ST_STATE 0) 1
  let s := (s.set (F.ETH_ST_PCS_LOCK 0) 1).set (F.ETH_ST_GRID_OK 0) 1
  let s := s.set (F.ETH_ST_LOCAL_FAULT 0) 1
  { s with time := { s.time with running := true } }

theorem stateAfterUpTimer : resultOf (.portUpTimer 0) faultedDownPort (fun t => t.portState 0) = some 3 := by decide +kernel

theorem faultedDownPort_state : PortIn faultedDownPort 0 1 ∧ faultedDownPort.on (F.ETH_ST_PCS_LOCK 0) = true ∧
    faultedDownPort.on (F.ETH_ST_GRID_OK 0) = true ∧ faultedDownPort.time.running = true := by
  refine ⟨⟨?_, ?_⟩, ?_, ?_, ?_⟩ <;> decide +kernel

/-- Refutes O38, by its third clause: the port is in FAULT. -/
theorem not_portStates : ¬ Obligations.PortStates := by
  intro h
  obtain ⟨-, -, hup, -⟩ := h
  obtain ⟨hin, hlock, hgrid, hrun⟩ := faultedDownPort_state
  obtain ⟨t, ht, hstate, -⟩ := hup faultedDownPort 0 hin hlock hgrid hrun
  have hfault : t.portState 0 = 3 := Option.some.inj ((resultOf_next ht _).symm.trans stateAfterUpTimer)
  rw [hstate] at hfault
  exact absurd hfault (by decide)

end Sys2Proof.Proofs
end

section
/-!
O39 fails by its clause about a refused ETH_SEND: it claims that a port which is not UP refuses the frame, while a port in LOOP_CAL
(state 4) takes it, as a port that is UP does (`takesBe`).
-/

open Sys2Proof Sys2Proof.Machine Sys2Proof.Claims

namespace Sys2Proof.Proofs

/-- An ETH_SEND for port 0 which has started. -/
def ethSendCmd : Cmd := ⟨4, ⟨0x701, 0, 0, 77, 0, 0⟩, true, false, none, none⟩

/-- Port 0 is in LOOP_CAL, and an ETH_SEND of the provider waits. -/
def loopCalPort : State :=
  let s := State.reset.set (F.ETH_ST_STATE 0) 4
  s.setFn 0 { s.fn 0 with cmds := [ethSendCmd] }

theorem queuedOnLoopCalPort : resultOf (.ethSend true 0) loopCalPort (fun t => (t.port 0).be.length) = some 1 := by decide +kernel

theorem loopCalPort_state : loopCalPort.cmdOf 0 0x701 = some ethSendCmd ∧ loopCalPort.portState (ethSendCmd.arg 0 1 % 8) = 4 ∧
    (loopCalPort.port 0).be.length = 0 := by decide +kernel

/-- Refutes O39, by its ninth clause: the frame is queued. -/
theorem not_launches : ¬ Obligations.Launches := by
  intro h
  obtain ⟨-, -, -, -, -, -, -, -, hrefused, -⟩ := h
  obtain ⟨hcmd, hstate, hempty⟩ := loopCalPort_state
  obtain ⟨t, ht, -, heth, -⟩ := hrefused loopCalPort ethSendCmd true 0 hcmd (.inr (by rw [hstate]; decide))
  have hqueued : (t.port 0).be.length = 1 := Option.some.inj ((resultOf_next ht _).symm.trans queuedOnLoopCalPort)
  rw [State.port, heth, ← State.port, hempty] at hqueued
  exact absurd hqueued (by decide)

end Sys2Proof.Proofs
end

section
/-!
O54: the message of a time-of-day output (R347): asked of engine 10 at an edge, taken for its send instant or dropped as late, and sent.
-/

open Sys2Proof Sys2Proof.Machine Sys2Proof.Claims

namespace Sys2Proof.Proofs

variable {s : State}

/-! ## What the slots and the engines' cells are -/

theorem todOut_setTodOut (s : State) (i : ℕ) (x : TodOutSt) : (s.setTodOut i x).todOut i = x := by
  simp [State.todOut, State.setTodOut]

theorem todOut_congr {t : State} (h : t.refin = s.refin) (i : ℕ) : t.todOut i = s.todOut i := by rw [State.todOut, h, State.todOut]

theorem engine_congr {t : State} (h : t.eng = s.eng) (e : ℕ) : t.engine e = s.engine e := by rw [State.engine, h, State.engine]

theorem cellTo_of_room {e : ℕ} (h : Room s e) (c : Cell) :
    s.cellTo e c = s.setEngine e { s.engine e with cells := (s.engine e).cells ++ [c] } := by
  obtain ⟨hpresent, hquenched, hroom⟩ := h
  simp [State.cellTo, hpresent, hquenched, Nat.not_le.mpr hroom]

theorem takeCell_of_outCell {e typ : ℕ} {c : Cell} {rest : List Cell} (h : OutCell s e typ c rest) :
    s.takeCell e typ = some (c, s.setEngine e { s.engine e with outQ := rest }) := by
  obtain ⟨hq, htyp⟩ := h
  simp [State.takeCell, hq, htyp]

/-! ## The request at an edge -/

theorem todOutReq_asks {i clk edge : ℕ} (hi : i < 4) (hon : bitOf (s.get (F.REF_TODOUT_CFG_UART i)) 0 = true)
    (hedge : s.todEdge i clk = some edge) (hroom : Room s 10) :
    Does (.todOutReq i clk) s fun t =>
      let named := if s.on (F.REF_TODOUT_CFG_REFERS i) then edge + 1000000000 else edge
      let q := named * 65536
      let sc := s.get (F.REF_TODOUT_CFG_SCALE i)
      let tm : Int := if s.prov then q else if sc = 0 then (State.utcScale s.tsk.leap q).q else if sc = 1 then q else q - 19 * State.secQ
      let day := ((State.utcScale s.tsk.leap q).q / State.secQ / 86400 + 40587).toNat
      let leap := if State.leapAtEnd s.tsk.leap day false then 1 else if State.leapAtEnd s.tsk.leap day true then 2 else 0
      (t.todOut i) = { s.todOut i with req := some edge } ∧ SameRegs [] s t ∧
      ∃ qual, t.engine 10 = { s.engine 10 with cells := (s.engine 10).cells ++
        [⟨2, 22, pack 0 [(0, 1, i), (1, 1, s.get (F.REF_TODOUT_CFG_ASCII i)), (4, 18, pack 0
          [(0, 6, ofSigned 48 (roundRat ((tm : Rat) / State.secQ))), (6, 1, sc),
            (7, 1, (if s.prov then 0 else 1) + (if s.get F.TSK_STAT_STATE = 3 then 2 else 0)),
            (8, 2, ofSigned 16 (State.taiUtc s.tsk.leap (q / State.secQ))), (10, 1, leap), (11, 1, qual),
            (12, 4, s.get F.TSK_TEB_FLOAT_BOUND), (16, 2, s.get F.TSK_TEB_SRC_TAG)])]⟩] } := by
  refine ⟨_, rfl, ?_⟩
  simp only [hi, hon, hedge, decide_true, Bool.and_self, if_true]
  generalize (if s.on (F.REF_TODOUT_CFG_REFERS i) then edge + 1000000000 else edge) = named
  have hroom' : ∀ v : TodOutSt, Room ((s.todOutRecord i named).2.setTodOut i v) 10 := fun v => hroom
  rw [cellTo_of_room (hroom' _)]
  refine ⟨todOut_setTodOut _ i _, SameRegs.of_eq rfl, s.freeNat.1, ?_⟩
  rw [State.engine_setEngine, if_pos rfl]
  rfl

/-! ## The engine's message -/

theorem todOutCell_takes {c : Cell} {rest : List Cell} {edge : ℕ} (hc : OutCell s 10 4 c rest)
    (hreq : (s.todOut (State.cellBytes c.bytes 0 1 % 4)).req = some edge) :
    let i := State.cellBytes c.bytes 0 1 % 4
    let n := State.cellBytes c.bytes 1 1
    let at_ := if s.on (F.REF_TODOUT_CFG_REFERS i) then edge + 990000000 - n * State.charNs (s.get (F.REF_TODOUT_CFG_UART i))
      else edge + 10000000
    Does .todOutCell s fun t =>
      (t.engine 10).outQ = rest ∧
      (s.ns ≤ at_ → t.todOut i = { s.todOut i with msg := some (n, State.cellBytes c.bytes 4 n, at_) } ∧ SameRegs [] s t) ∧
      (at_ < s.ns → t.todOut i = s.todOut i ∧
        t.get (F.ENG_LOST_TOD_LATE 10) = (s.get (F.ENG_LOST_TOD_LATE 10) + 1) % 256 ∧
        SameRegs (words [F.ENG_LOST_TOD_LATE 10]) s t) := by
  intro i n at_
  have hsend : at_ = if s.on (F.REF_TODOUT_CFG_REFERS i) then edge + 990000000 - n * State.charNs (s.get (F.REF_TODOUT_CFG_UART i))
      else edge + 10000000 := rfl
  clear_value at_
  refine ⟨_, rfl, ?_⟩
  rw [takeCell_of_outCell hc]
  dsimp only
  generalize hu : s.setEngine 10 { s.engine 10 with outQ := rest } = u
  have hq : (u.engine 10).outQ = rest := by rw [← hu, State.engine_setEngine, if_pos rfl]
  have hregs : u.regs = s.regs := hu ▸ rfl
  have hslot : u.todOut i = s.todOut i := todOut_congr (hu ▸ rfl) i
  have hns : u.ns = s.ns := hu ▸ rfl
  have hget : ∀ f, u.get f = s.get f := get_of_regs hregs
  have hat : (if u.on (F.REF_TODOUT_CFG_REFERS i) = true then
      edge + 1000000000 - 10000000 - n * State.charNs (u.get (F.REF_TODOUT_CFG_UART i)) else edge + 10000000) = at_ := by
    rw [State.on, hget, hget]
    rw [show edge + 1000000000 - 10000000 = edge + 990000000 by omega, ← State.on, hsend]
  rw [show u.todOut (State.cellBytes c.bytes 0 1 % 4) = s.todOut i from hslot, hreq]
  dsimp only
  rw [hat, hns]
  by_cases hlate : at_ < s.ns
  · rw [if_pos hlate]
    refine ⟨?_, fun h => absurd hlate (by omega), fun _ => ⟨?_, ?_, ?_⟩⟩
    · rw [engine_congr (State.add_eng ..), hq]
    · rw [todOut_congr (State.add_refin ..), hslot]
    · rw [State.add, State.get_set_self, hget]
      norm_num
    · exact SameRegs.set (SameRegs.of_eq hregs) _ (.of_mem (by simp))
  · rw [if_neg hlate]
    exact ⟨hq, fun _ => ⟨todOut_setTodOut u i _, SameRegs.of_eq hregs⟩, fun h => absurd h hlate⟩

theorem todoutSend_sends {i n v at_ : ℕ} (hi : i < 4) (hon : bitOf (s.get (F.REF_TODOUT_CFG_UART i)) 0 = true)
    (hmsg : (s.todOut i).msg = some (n, v, at_)) :
    Does (.todoutSend i) s fun t =>
      t.time = (s.runTo at_).time ∧ t.todOut i = { s.todOut i with msg := none } ∧ Sends t (.todOut i n v) ∧ SameRegs [] s t := by
  refine ⟨((s.runTo at_).setTodOut i { (s.runTo at_).todOut i with msg := none }).emitOut (.todOut i n v), ?_, rfl, ?_,
    List.mem_cons_self .., SameRegs.of_eq (regs_runTo s at_)⟩
  · change Host.Outcome.next (match (s.todOut i).msg with | some (n, v, at_) => _ | none => _) = _
    rw [hmsg]
    simp only [hi, hon, decide_true, Bool.and_self, if_true]
  · have hslot : (s.runTo at_).todOut i = s.todOut i := todOut_congr (by rw [runTo_eq]) i
    rw [← hslot]
    exact todOut_setTodOut _ i _

/-- Settles O54. -/
theorem timeOfDayOutputs : Obligations.TimeOfDayOutputs :=
  ⟨fun _ _ _ _ => todOutReq_asks, fun _ _ _ _ hc => todOutCell_takes hc, fun _ _ _ _ _ => todoutSend_sends⟩

end Sys2Proof.Proofs
end

section
/-!
O56: a provider's write to a shadowed word (R361, R363), and the slow domain's acceptance of a posted write (R365).
-/

open Sys2Proof Sys2Proof.Machine Sys2Proof.Claims

namespace Sys2Proof.Proofs

/-! ## Shadowed words -/

/-- Without a 1 bit in a trigger field no word triggers anything; SYS_UPD_STROBE strobes no group. -/
theorem trigger1_zero (s : State) (fn : ℕ) {id : RegId} (w : ℕ) (hid : id ≠ .SYS_UPD_STROBE) : s.trigger1 fn id w 0 = s := by
  have hbit : ∀ k, bitOf 0 k = false := fun k => by simp [bitOf]
  unfold State.trigger1
  split <;> simp_all

theorem writeWord_shadowed (s : State) {d : RegDesc} (i j : ℕ) {w a : ℕ} (al off v : ℕ) {x : WordDesc} (hper : perFn a = false)
    (hx : d.words[w]? = some x) (hrws : x.rws ≠ 0) (hrw : x.rw = 0) (hrwv : x.rwv = 0) (hrwp : x.rwp = 0) (hw1 : x.w1 = 0)
    (hid : d.id ∉ [RegId.SCH_STG, .SCH_CMD, .ASY_SRC_CFG, .SYS_UPD_STROBE]) :
    s.writeWord 0 d i j w a al off v = s.putShadow al a (v % 2 ^ 32) x.rws := by
  simp only [List.mem_cons, List.not_mem_nil, or_false, not_or] at hid
  obtain ⟨hstg, hcmd, hsrc, hstrobe⟩ := hid
  unfold State.writeWord
  rw [hx]
  dsimp only
  rw [if_neg (by simp [hstg, hcmd]), if_neg (by simp [hsrc]), if_neg (by simp [hrwv]), if_neg (by simp [hrwp]), if_pos hrw, if_neg hrws,
    hw1, Nat.and_zero, trigger1_zero _ _ _ hstrobe, ite_self, fnKey, if_neg (by simp [hper])]

theorem shadowWrite : ShadowWrite := by
  intro s off v d i j w a x hheld halign hplace habsent hhidden hx hrws hrw hrwv hrwp hw1 hid hper new
  have hex : s.fnExists 0 = true := by
    unfold State.fnExists
    split <;> rfl
  have hwrite : s.regWrite 0 off 4 v true = s.putShadow (aliasOf off) a (v % 2 ^ 32) x.rws := by
    unfold State.regWrite
    dsimp only
    rw [if_neg (by simp [hex]), if_neg (by simp), if_neg (by simp [State.inert]), if_neg (by simp),
      if_neg (by simp [State.placeOf, hplace]),
      if_neg (by simp [State.aligned, halign, show Nat.log2 4 = 2 by decide]), if_neg (by decide), if_neg (by decide), if_pos rfl]
    unfold State.writePart
    rw [State.placeOf, if_pos rfl, hplace]
    dsimp only
    rw [if_neg (by simp [habsent]), if_neg (by simp [hhidden]), if_pos rfl]
    exact writeWord_shadowed s i j (aliasOf off) off v hper hx hrws hrw hrwv hrwp hw1 hid
  refine ⟨s.putShadow (aliasOf off) a (v % 2 ^ 32) x.rws, ?_, SameRegs.of_eq rfl, rfl⟩
  change Host.Outcome.next (s.awake _) = _
  rw [State.awake, if_neg (by simp [hheld]), hwrite]

/-! ## Posted writes -/

section
variable {p : Machine.Posted} {d : RegDesc} {i j w : ℕ} {x : WordDesc}

/-- The value that a posted write gives its word. -/
abbrev postedVal (s : State) (p : Machine.Posted) (x : WordDesc) : ℕ := aliasVal p.al (s.regs.word p.key).toNat p.v x.rwp

theorem accept1_refused {s : State} (hreg : findReg p.key = some (d, i, j, w)) (hx : d.words[w]? = some x)
    (hbad : State.postOk d.id (postedVal s p x) = false) : s.accept1 p = s.flagErr 0 8 p.key true := by
  unfold State.accept1
  rw [hreg]
  dsimp only
  rw [hx]
  dsimp only
  rw [if_pos (by rw [hbad]; rfl)]

theorem accept1_taken {s : State} (hreg : findReg p.key = some (d, i, j, w)) (hx : d.words[w]? = some x)
    (hok : State.postOk d.id (postedVal s p x) = true) (hid : d.id ∉ [RegId.SEAM_RX_ACK, .KVT_TLOG_ACK, .SEAM_TX_CTL]) :
    s.accept1 p = { s with regs := s.regs.put p.key (BitVec.ofNat 32 (postedVal s p x)) } := by
  simp only [List.mem_cons, List.not_mem_nil, or_false, not_or] at hid
  obtain ⟨hack, hlog, hseam⟩ := hid
  unfold State.accept1
  rw [hreg]
  dsimp only
  rw [hx]
  dsimp only
  rw [if_neg (by rw [hok]; simp)]
  split
  · next h => exact absurd h hack
  · next h => exact absurd h hlog
  · next h => exact absurd h hseam
  · rfl

end

/-- The slow domain of a window has taken the write it held. -/
abbrev windowFree (win : ℕ) (s : State) : State :=
  { s with hif := { s.hif with posted := s.hif.posted.filter (fun q => q.win ≠ win) } }

theorem exec_postedWriteAccept {s : State} {win : ℕ} {p : Machine.Posted}
    (hp : s.hif.posted.find? (fun q => decide (q.win = win) && !State.gfeGo q) = some p) :
    exec (.postedWriteAccept win) s = .next ((windowFree win s).accept1 p) := by
  change Host.Outcome.next (s.acceptPosted win) = _
  unfold State.acceptPosted
  rw [hp]

theorem postedWrites : PostedWrites := by
  intro s win p d i j w x hp hreg hx v taken
  have hexec := exec_postedWriteAccept hp
  refine ⟨fun hok hid => ?_, fun hbad => ?_⟩
  · rw [accept1_taken (s := windowFree win s) hreg hx hok hid] at hexec
    refine ⟨_, hexec, Store.word_put_self .., fun k hk => Store.word_put_ne _ _ fun h => hk ?_, rfl⟩
    rw [h]
    exact Within.of_mem (List.mem_singleton_self _) 0 (by simp [Store.span])
  · rw [accept1_refused (s := windowFree win s) hreg hx hbad] at hexec
    obtain ⟨hregs, hcalm⟩ := flagErr_only_provider (windowFree win s) 8 p.key true
    exact ⟨_, hexec, flagErr_valid .., hregs, hcalm⟩

/-- Settles O56. -/
theorem registerWrites : Obligations.RegisterWrites := ⟨shadowWrite, postedWrites⟩

end Sys2Proof.Proofs
end

section
/-!
Counters through the records that a command makes (R376, R448, R451), and through a scheduled occurrence.
-/

open Sys2Proof Sys2Proof.Machine Sys2Proof.Claims

namespace Sys2Proof.Proofs

variable {s t : State} {j : ℕ}

theorem counter_of_obs (h : t.obs = s.obs) (j : ℕ) : t.counter j = s.counter j := by rw [State.counter, h, State.counter]

theorem counter_countN_ne (s : State) {i : ℕ} (n : ℕ) (hj : j ∉ selfCounted) (h : j ≠ i) : (s.countN i n).counter j = s.counter j :=
  (counter_countF hj 9 s i n).trans (if_neg h)

theorem ne_of_selfCounted {i : ℕ} (hj : j ∉ selfCounted) (hi : i ∈ selfCounted) : j ≠ i := fun h => hj (h ▸ hi)

theorem counter_traceAt (s : State) (ty src sh fr p : ℕ) (hj : j ∉ selfCounted) : (s.traceAt ty src sh fr p).counter j = s.counter j := by
  have hrec : ((s.pushTrace ty src sh fr p).1.count 0x600).counter j = s.counter j :=
    (counter_count_ne _ hj (ne_of_selfCounted hj (by decide))).trans (counter_pushTrace ..)
  unfold State.traceAt
  dsimp only
  split
  · exact (counter_count_ne _ hj (ne_of_selfCounted hj (by decide))).trans hrec
  · exact hrec

theorem counter_trace (s : State) (ty src p : ℕ) (hj : j ∉ selfCounted) : (s.trace ty src p).counter j = s.counter j :=
  counter_traceAt s ty src _ _ p hj

theorem counter_eventAt (s : State) (n ty te sh fr p : ℕ) (hj : j ∉ selfCounted) :
    (s.eventAt n ty te sh fr p).counter j = s.counter j := by
  unfold State.eventAt
  dsimp only
  split
  · exact (counter_count_ne _ hj (ne_of_selfCounted hj (by decide))).trans (counter_pushEv ..)
  · exact counter_pushEv ..

theorem counter_event (s : State) (n ty te p : ℕ) (hj : j ∉ selfCounted) : (s.event n ty te p).counter j = s.counter j :=
  counter_eventAt s n ty te _ _ p hj

theorem obs_orderLast (s : State) : s.orderLast.obs = s.obs := by
  unfold State.orderLast
  dsimp only
  split
  · split <;> rfl
  · rfl

theorem counter_pevent (s : State) (ty te p : ℕ) (hj : j ∉ selfCounted) : (s.pevent ty te p).counter j = s.counter j :=
  (counter_of_obs (obs_orderLast _) j).trans (counter_event s 0 ty te p hj)

theorem counter_tcount (s : State) (te k n : ℕ) : (s.tcount te k n).counter j = s.counter j := rfl

theorem counter_atDue (s : State) (o : State.Occ) (hj : j ∉ selfCounted) (h : j ≠ 0x380) : (atDue s o).counter j = s.counter j := by
  have hadv : (s.runTo (s.dueOf o.ent).toNat).obs = s.obs := by rw [runTo_eq]
  rw [atDue, State.acted, counter_tcount, counter_count_ne _ hj h]
  refine (counter_of_obs ?_ j).trans (counter_of_obs hadv j)
  rw [State.clearOwned, advanceEnt_eq]
  rfl

theorem time_of_calm {s t : State} (h : t.calm = s.calm) : t.time = s.time := by
  have h := congrArg State.time h
  exact h

theorem sch_of_calm {s t : State} (h : t.calm = s.calm) : t.sch = s.sch := by
  have h := congrArg State.sch h
  exact h

end Sys2Proof.Proofs
end

section
/-!
O44: the tables of Hallmark (R277, R280, R287, R288, R292, R302). The client table is a list in which the entries of one key are
rewritten together (`writeClient`) and deleted together (`deleteClient`).
-/

open Sys2Proof Sys2Proof.Machine Sys2Proof.Claims

namespace Sys2Proof.Proofs

variable {s : State}

/-! ## The client table -/

/-- The entry c is the one of tenant te, port p, kind and address. -/
def Names (te p kind addr : ℕ) (c : Client) : Prop := c.tenant = te ∧ c.port = p ∧ c.kind = kind ∧ c.addr = addr

theorem names_of_findClient {te p kind addr : ℕ} {c : Client} (h : s.findClient te p kind addr = some c) :
    Names te p kind addr c ∧ c ∈ s.hmk.table := by
  refine ⟨?_, List.mem_of_find?_eq_some h⟩
  have hc := List.find?_some h
  simp only [Bool.and_eq_true, decide_eq_true_eq] at hc
  obtain ⟨⟨⟨ht, hp⟩, hk⟩, ha⟩ := hc
  exact ⟨ht, hp, hk, ha⟩

theorem clientKey_of_names {te p kind addr : ℕ} {c d : Client} (hc : Names te p kind addr c) (hd : Names te p kind addr d) :
    State.clientKey d = State.clientKey c := by
  obtain ⟨ht, hp, hk, ha⟩ := hc
  obtain ⟨ht', hp', hk', ha'⟩ := hd
  simp only [State.clientKey, ht, hp, hk, ha, ht', hp', hk', ha']

theorem writeClient_table (s : State) (c : Client) (first : Bool) : (s.writeClient c first).hmk.table =
    s.hmk.table.map (fun x => if State.clientKey x = State.clientKey c then c else x) := by
  unfold State.writeClient
  dsimp only
  split
  · rfl
  · split <;> rfl

theorem writeClient_eq (s : State) (c : Client) (first : Bool) :
    s.writeClient c first = { s with hmk := (s.writeClient c first).hmk } := by
  unfold State.writeClient
  rfl

/-- A written entry is the one that its key finds. -/
theorem findClient_writeClient {te p kind addr : ℕ} {c : Client} (first : Bool) (hc : Names te p kind addr c)
    (hmem : ∃ x ∈ s.hmk.table, State.clientKey x = State.clientKey c) :
    (s.writeClient c first).findClient te p kind addr = some c := by
  obtain ⟨x, hx, hkey⟩ := hmem
  have hpred : ∀ y : Client, ((fun z : Client => decide (z.tenant = te) && decide (z.port = p) && decide (z.kind = kind) &&
      decide (z.addr = addr)) ∘ (fun y => if State.clientKey y = State.clientKey c then c else y)) y =
      decide (State.clientKey y = State.clientKey c) := by
    intro y
    by_cases hy : State.clientKey y = State.clientKey c
    · obtain ⟨ht, hp, hk, ha⟩ := hc
      simp [hy, ht, hp, hk, ha]
    · have hno : ¬ Names te p kind addr y := fun h => hy (clientKey_of_names hc h)
      rw [Function.comp_apply, if_neg hy, decide_eq_false hy, ← Bool.not_eq_true]
      simpa [Names, and_assoc] using hno
  unfold State.findClient
  rw [writeClient_table, List.find?_map, show _ ∘ _ = _ from funext hpred]
  obtain ⟨y, hy⟩ := Option.isSome_iff_exists.mp (List.find?_isSome.mpr ⟨x, hx, by simpa using hkey⟩ :
    (s.hmk.table.find? fun y => decide (State.clientKey y = State.clientKey c)).isSome)
  have hky := List.find?_some hy
  rw [hy, Option.map_some, if_pos (by simpa using hky)]

theorem writeClient_firstKind (s : State) (c : Client) : State.clientKey c ∈ (s.writeClient c true).hmk.firstKind := by
  unfold State.writeClient
  dsimp only
  rw [if_pos rfl]
  dsimp only
  split
  · next h => exact List.contains_iff_mem.mp h
  · simp

/-! ## A deleted entry -/

section
variable (s) (c : Client)

theorem settleLoad_hmk : s.settleLoad.hmk = s.hmk := rfl

theorem deleteClient_hmk : (s.deleteClient c).hmk = { (s.writeClient c true).hmk with
    table := (s.writeClient c true).hmk.table.filter (fun x => State.clientKey x ≠ State.clientKey c) } := rfl

theorem deleteClient_find {te p kind addr : ℕ} (hc : Names te p kind addr c) :
    (s.deleteClient c).findClient te p kind addr = none := by
  unfold State.findClient
  rw [deleteClient_hmk, List.find?_eq_none]
  intro x hx hpred
  rw [List.mem_filter, decide_eq_true_eq] at hx
  simp only [Bool.and_eq_true, decide_eq_true_eq] at hpred
  obtain ⟨⟨⟨ht, hp⟩, hk⟩, ha⟩ := hpred
  exact hx.2 (clientKey_of_names hc ⟨ht, hp, hk, ha⟩)

theorem used_beside (te : ℕ) {f : Fld} (hf : f.a + 4 * Store.span f ≤ 0x830003) : Beside f (F.HMK_TEN_ST_USED te) :=
  .inr (.inl (by simp; omega))

theorem get_deleteClient_used : (s.deleteClient c).get F.HMK_CT_ST_USED = s.get F.HMK_CT_ST_USED - 1 := by
  have hother : ∀ v, ((s.writeClient c true).set (F.HMK_TEN_ST_USED c.tenant) v).get F.HMK_CT_ST_USED = s.get F.HMK_CT_ST_USED := by
    intro v
    rw [get_set_beside (.inl (by simp [Store.span]; omega)), writeClient_eq]
    rfl
  unfold State.deleteClient State.settleLoad
  dsimp only
  rw [get_set_beside (by decide), State.get_set_self]
  refine (congrArg (fun n => (n - 1) % 2 ^ F.HMK_CT_ST_USED.w) (hother _)).trans (Nat.mod_eq_of_lt ?_)
  exact (Nat.sub_le ..).trans_lt (State.get_lt s _)

theorem get_deleteClient_tenantUsed :
    (s.deleteClient c).get (F.HMK_TEN_ST_USED c.tenant) = s.get (F.HMK_TEN_ST_USED c.tenant) - 1 := by
  unfold State.deleteClient State.settleLoad
  dsimp only
  rw [get_set_beside (used_beside _ (by decide)), get_set_beside (used_beside _ (by decide)), State.get_set_self]
  have hsame : (s.writeClient c true).get (F.HMK_TEN_ST_USED c.tenant) = s.get (F.HMK_TEN_ST_USED c.tenant) := by
    rw [writeClient_eq]
    rfl
  refine (congrArg (fun n => (n - 1) % 2 ^ (F.HMK_TEN_ST_USED c.tenant).w) hsame).trans (Nat.mod_eq_of_lt ?_)
  exact (Nat.sub_le ..).trans_lt (State.get_lt s _)

end

theorem does_clientReclaim {te p kind addr : ℕ} {c : Client} (hc : s.findClient te p kind addr = some c)
    (hrun : s.engQuenched 16 = false) (hblk : c.blocked = false)
    (hidle : c.grants.any (fun g => State.grantLive g.2 s.sec) = false)
    (hold : (3 * 2 ^ s.get (F.HMK_TEN_CFG_MAXPOLL te) : Int) * 1000000000 ≤ Machine.sdiff c.lastSeen s.short) :
    Does (.clientReclaim te p kind addr) s fun t =>
      t.findClient te p kind addr = none ∧ t.get (F.HMK_TEN_ST_USED te) = (s.get (F.HMK_TEN_ST_USED te) - 1) ∧
      t.get F.HMK_CT_ST_USED = s.get F.HMK_CT_ST_USED - 1 ∧ State.clientKey c ∈ t.hmk.firstKind := by
  obtain ⟨hnames, -⟩ := names_of_findClient hc
  have hexec : exec (.clientReclaim te p kind addr) s = .next (s.deleteClient c) := by
    change Host.Outcome.next (s.reclaim te p kind addr) = _
    unfold State.reclaim
    rw [hc]
    dsimp only
    rw [if_pos]
    rw [hrun, hblk, hidle]
    simpa using hold
  refine ⟨_, hexec, deleteClient_find s c hnames, ?_, get_deleteClient_used s c, writeClient_firstKind s c⟩
  obtain ⟨rfl, -⟩ := hnames
  exact get_deleteClient_tenantUsed s c

theorem get_settleLoad (s : State) : s.settleLoad.get F.HMK_CT_ST_GRANT_LOAD = s.grantedRate (fun _ => true) / 128 % 2 ^ 25 := by
  rw [State.settleLoad, State.get_set_self, show F.HMK_CT_ST_GRANT_LOAD.w = 25 from rfl]

theorem settleLoad_only (s : State) : Only [F.HMK_CT_ST_GRANT_LOAD] id s s.settleLoad :=
  Only.set (Only.refl _ s) _ (.of_mem (by simp))

theorem does_grantExpiry {te p kind addr k : ℕ} {c : Client} {g : Grant} (hc : s.findClient te p kind addr = some c)
    (hg : alGet c.grants k = some g) (hdur : g.gdur ≠ 0) (hlive : State.grantLive g s.sec = false) :
    Does (.grantExpiry te p kind addr k) s fun t =>
      t.get F.HMK_CT_ST_GRANT_LOAD = s.grantedRate (fun _ => true) / 128 % 2 ^ 25 ∧ Only [F.HMK_CT_ST_GRANT_LOAD] id s t := by
  have hexec : exec (.grantExpiry te p kind addr k) s = .next s.settleLoad := by
    change Host.Outcome.next (s.grantExpiry te p kind addr k) = _
    unfold State.grantExpiry
    rw [hc]
    dsimp only
    rw [hg]
    dsimp only
    rw [if_pos (by simp [hdur, hlive])]
  exact ⟨_, hexec, And.intro (get_settleLoad s) (settleLoad_only s)⟩

/-! ## HMK_MINT -/

theorem foldl_emitOut (g : ℕ → Out) (l : List ℕ) (u : State) :
    l.foldl (fun u i => u.emitOut (g i)) u = { u with out := (l.map g).reverse ++ u.out } := by
  induction l generalizing u with
  | nil => rfl
  | cons i l ih =>
    rw [List.foldl_cons, ih, List.map_cons, List.reverse_cons, List.append_assoc]
    rfl

/-- m cookies of tenant c.arg 0 2 minted and sent (R287). -/
def minted (s : State) (fn : ℕ) (c : Cmd) (id key c2s s2c m : ℕ) : State :=
  { s with
    draws := s.draws + m
    out := ((List.range m).map fun i => Out.hostWrite fn (c.arg 12 8 + 104 * i) 104
      (((List.range m).map fun i => State.makeCookie (s.draws + i) id key (c.arg 0 2) c2s s2c).getD i 0)).reverse ++ s.out }

theorem minted_sends (s : State) (fn : ℕ) (c : Cmd) (id key c2s s2c : ℕ) {m i : ℕ} (hi : i < m) :
    Out.hostWrite fn (c.arg 12 8 + 104 * i) 104 (State.makeCookie (s.draws + i) id key (c.arg 0 2) c2s s2c) ∈
      (minted s fn c id key c2s s2c m).out := by
  refine List.mem_append_left _ (List.mem_reverse.mpr (List.mem_map.mpr ⟨i, List.mem_range.mpr hi, ?_⟩))
  rw [List.getD_eq_getElem?_getD, List.getElem?_map, List.getElem?_range hi, Option.map_some, Option.getD_some]

section
variable {fn : ℕ} {c : Cmd} (hcmd : s.cmdOf fn 0x0801 = some c)
include hcmd

theorem hmkMint_of_key {id key : ℕ} (c2s s2c took : ℕ) (hown : fn = 0 ∨ c.arg 0 2 = s.cmdTenant fn) (hn : c.arg 2 1 ≠ 0)
    (hmax : c.arg 2 1 ≤ 8) (hnts : s.get (F.HMK_TEN_CFG_NTS_EN (c.arg 0 2)) ≠ 0)
    (hkey : s.currentKey none (c.arg 0 2) 0 = some (id, key)) :
    s.hmkMint fn true c2s s2c took =
      (State.countN (minted s fn c id key c2s s2c (min (c.arg 2 1) took)) 0x4E8 (min (c.arg 2 1) took)).finish fn c.n
        (if min (c.arg 2 1) took = c.arg 2 1 then cOk else cDmaErr) (min (c.arg 2 1) took) := by
  unfold State.hmkMint minted
  rw [hcmd]
  dsimp only
  rw [if_neg (by rcases hown with h | h <;> simp [h]), if_neg (by simp; omega), if_neg hnts, hkey]
  dsimp only [State.makeCookies, State.hostWrite]
  rw [foldl_emitOut, if_neg (by decide)]

theorem does_hmkMint {id key : ℕ} (c2s s2c took : ℕ) (hown : fn = 0 ∨ c.arg 0 2 = s.cmdTenant fn) (hn : c.arg 2 1 ≠ 0)
    (hmax : c.arg 2 1 ≤ 8) (hnts : s.get (F.HMK_TEN_CFG_NTS_EN (c.arg 0 2)) ≠ 0)
    (hkey : s.currentKey none (c.arg 0 2) 0 = some (id, key)) :
    Does (.hmkMint fn true c2s s2c took) s fun t =>
      t.draws = s.draws + min (c.arg 2 1) took ∧ Finished t fn c.n (if c.arg 2 1 ≤ took then cOk else cDmaErr) ∧
      (∀ i, i < min (c.arg 2 1) took → Sends t
        (.hostWrite fn (c.arg 12 8 + 104 * i) 104 (State.makeCookie (s.draws + i) id key (c.arg 0 2) c2s s2c))) ∧
      SameRegs [] s t := by
  have hexec : exec (.hmkMint fn true c2s s2c took) s = .next _ :=
    congrArg Host.Outcome.next (hmkMint_of_key hcmd c2s s2c took hown hn hmax hnts hkey)
  refine ⟨_, hexec, ?_, ?_, fun i hi => ?_, ?_⟩
  · exact congrArg State.draws (State.countN_calm (minted s fn c id key c2s s2c _) 0x4E8 _)
  · rw [if_congr (min_eq_left_iff (a := c.arg 2 1) (b := took)).symm rfl rfl]
    exact finished_finish rfl
  · exact (Outlives.countN (minted s fn c id key c2s s2c _) 0x4E8 _).1 _ (minted_sends s fn c id key c2s s2c hi)
  · have hregs := congrArg State.regs (State.countN_calm (minted s fn c id key c2s s2c (min (c.arg 2 1) took)) 0x4E8
      (min (c.arg 2 1) took))
    exact SameRegs.of_eq hregs

theorem does_hmkMint_refused (ok : Bool) (c2s s2c took : ℕ) :
    let t0 := c.arg 0 2
    Does (.hmkMint fn ok c2s s2c took) s fun t =>
      (fn ≠ 0 → t0 ≠ s.cmdTenant fn → Finished t fn c.n cNotPermitted) ∧
      (fn = 0 ∨ t0 = s.cmdTenant fn →
        (c.arg 2 1 = 0 ∨ 8 < c.arg 2 1 → Finished t fn c.n cBadCount) ∧
        (c.arg 2 1 ≠ 0 → c.arg 2 1 ≤ 8 → s.get (F.HMK_TEN_CFG_NTS_EN t0) = 0 → Finished t fn c.n cNtsOff) ∧
        (c.arg 2 1 ≠ 0 → c.arg 2 1 ≤ 8 → s.get (F.HMK_TEN_CFG_NTS_EN t0) ≠ 0 → s.currentKey none t0 0 = none →
          Finished t fn c.n cNoKey)) := by
  intro t0
  refine ⟨s.hmkMint fn ok c2s s2c took, rfl, fun hfn hne => ?_, fun hown => ?_⟩ <;> unfold State.hmkMint <;> rw [hcmd] <;> dsimp only
  · rw [if_pos (by simpa using ⟨hfn, hne⟩)]
    exact finished_finish rfl
  rw [if_neg (by rcases hown with h | h <;> simp [h, show c.arg 0 2 = t0 from rfl])]
  refine ⟨fun hbad => ?_, fun h0 h8 hoff => ?_, fun h0 h8 hon hnone => ?_⟩
  · rw [if_pos (by simpa using hbad)]
    exact finished_finish rfl
  · rw [if_neg (by simp; omega), if_pos hoff]
    exact finished_finish rfl
  · rw [if_neg (by simp; omega), if_neg hon, show s.currentKey none (c.arg 0 2) 0 = none from hnone]
    exact finished_finish rfl

end

/-! ## HMK_CLIENT -/

section
variable {fn op : ℕ} {c : Cmd} (h : ClientCmd s fn op c)
include h

theorem hmkClient_of_clientCmd (hop : op < 4) (ok : Bool) : s.hmkClient fn op ok = s.clientOp fn c op ok := by
  obtain ⟨hcmd, harg, hown, hshard⟩ := h
  unfold State.hmkClient
  rw [hcmd]
  dsimp only
  rw [if_neg (by simp [harg]), if_neg (by omega), if_neg (by rcases hown with h | h <;> simp [h])]
  split
  · next l d hl => exact absurd hl (hshard l d)
  · rfl

/-- What an operation does to an entry that is there. -/
def onClient (s : State) (fn : ℕ) (c : Cmd) (op : ℕ) (ok : Bool) (e : Client) : State :=
  match op with
  | 0 => if ok then (s.hostWrite fn (c.arg 20 8) 64 (State.clientBytes e)).finish fn c.n cOk 0 else s.finish fn c.n cDmaErr 0
  | 1 => (s.writeClient { e with blocked := true } true).finish fn c.n cOk 0
  | 2 => (s.writeClient { e with blocked := false } true).finish fn c.n cOk 0
  | _ => (s.deleteClient e).finish fn c.n cOk 0

theorem hmkClient_found {e : Client} (he : clientOf s c = some e) (hop : op < 4) (ok : Bool) :
    s.hmkClient fn op ok = onClient s fn c op ok e := by
  rw [hmkClient_of_clientCmd h hop]
  unfold State.clientOp onClient
  dsimp only [State.clientArg]
  rw [show s.findClient (c.arg 1 2) (c.arg 3 1 % 8) (c.arg 3 1 / 8 % 4) (c.arg 4 16) = some e from he] <;> rfl

theorem hmkClient_missing (he : clientOf s c = none) (hop : op < 4) (h1 : op ≠ 1) (ok : Bool) :
    s.hmkClient fn op ok = s.finish fn c.n cNotFound 0 := by
  rw [hmkClient_of_clientCmd h hop]
  unfold State.clientOp
  dsimp only [State.clientArg]
  rw [show s.findClient (c.arg 1 2) (c.arg 3 1 % 8) (c.arg 3 1 / 8 % 4) (c.arg 4 16) = none from he]
  exact if_neg h1

end

/-- The entry that a BLOCK makes for the key of its command. -/
def madeClient (s : State) (c : Cmd) : State × Client :=
  s.newClient (c.arg 1 2) (c.arg 3 1 % 8) (c.arg 3 1 / 8 % 4) (c.arg 4 16) 0 s.short (s.get (F.HMK_TEN_CFG_BURST (c.arg 1 2)))

theorem hmkClient_missing_block {fn : ℕ} {c : Cmd} (h : ClientCmd s fn 1 c) (he : clientOf s c = none) (ok : Bool) :
    s.hmkClient fn 1 ok =
      if s.clientRoom (State.clientArg c).1 then
        ((madeClient s c).1.writeClient { (madeClient s c).2 with blocked := true } true).finish fn c.n cOk 0
      else s.finish fn c.n cTableFull 0 := by
  rw [hmkClient_of_clientCmd h (by decide)]
  unfold State.clientOp madeClient
  dsimp only [State.clientArg]
  rw [show s.findClient (c.arg 1 2) (c.arg 3 1 % 8) (c.arg 3 1 / 8 % 4) (c.arg 4 16) = none from he]
  exact if_pos rfl

/-- A finished command leaves the client table. -/
theorem clientOf_finish (s : State) (c : Cmd) (fn n st r : ℕ) : clientOf (s.finish fn n st r) c = clientOf s c := rfl

theorem clientOf_written {c : Cmd} {e : Client} (he : clientOf s c = some e) (b : Bool) :
    clientOf (s.writeClient { e with blocked := b } true) c = some { e with blocked := b } := by
  obtain ⟨hnames, hmem⟩ := names_of_findClient he
  exact findClient_writeClient true hnames ⟨e, hmem, rfl⟩

section
variable {fn : ℕ} {c : Cmd} {e : Client}

theorem does_clientRead (h : ClientCmd s fn 0 c) (he : clientOf s c = some e) :
    Does (.clientRead fn true) s fun t =>
      Sends t (.hostWrite fn (c.arg 20 8) 64 (State.clientBytes e)) ∧ Finished t fn c.n cOk ∧ t.hmk = s.hmk ∧ SameRegs [] s t :=
  ⟨_, congrArg Host.Outcome.next (hmkClient_found h he (by decide) true), List.mem_cons_self, finished_finish rfl, rfl,
    SameRegs.of_eq rfl⟩

theorem does_clientBlock (h : ClientCmd s fn 1 c) (he : clientOf s c = some e) :
    Does (.clientBlock fn) s fun t => clientOf t c = some { e with blocked := true } ∧ Finished t fn c.n cOk ∧ SameRegs [] s t :=
  ⟨_, congrArg Host.Outcome.next (hmkClient_found h he (by decide) true), clientOf_written he true, finished_finish rfl,
    SameRegs.of_eq rfl⟩

theorem does_clientUnblock (h : ClientCmd s fn 2 c) (he : clientOf s c = some e) :
    Does (.clientUnblock fn) s fun t => clientOf t c = some { e with blocked := false } ∧ Finished t fn c.n cOk ∧ SameRegs [] s t :=
  ⟨_, congrArg Host.Outcome.next (hmkClient_found h he (by decide) true), clientOf_written he false, finished_finish rfl,
    SameRegs.of_eq rfl⟩

theorem does_clientDelete (h : ClientCmd s fn 3 c) (he : clientOf s c = some e) :
    Does (.clientDelete fn) s fun t =>
      clientOf t c = none ∧ Finished t fn c.n cOk ∧ t.get F.HMK_CT_ST_USED = s.get F.HMK_CT_ST_USED - 1 :=
  ⟨_, congrArg Host.Outcome.next (hmkClient_found h he (by decide) true), deleteClient_find s e (names_of_findClient he).1,
    finished_finish rfl, get_deleteClient_used s e⟩

theorem does_client_missing (ok : Bool) (i : Instr) {op : ℕ}
    (hi : i = .clientRead fn ok ∧ op = 0 ∨ i = .clientUnblock fn ∧ op = 2 ∨ i = .clientDelete fn ∧ op = 3)
    (h : ClientCmd s fn op c) (he : clientOf s c = none) :
    Does i s fun t => Finished t fn c.n cNotFound ∧ t.hmk = s.hmk ∧ SameRegs [] s t := by
  have hexec : exec i s = .next (s.finish fn c.n cNotFound 0) := by
    obtain ⟨rfl, rfl⟩ | ⟨rfl, rfl⟩ | ⟨rfl, rfl⟩ := hi
    · exact congrArg Host.Outcome.next (hmkClient_missing h he (by decide) (by decide) ok)
    · exact congrArg Host.Outcome.next (hmkClient_missing h he (by decide) (by decide) true)
    · exact congrArg Host.Outcome.next (hmkClient_missing h he (by decide) (by decide) true)
  exact ⟨_, hexec, finished_finish rfl, rfl, SameRegs.of_eq rfl⟩

theorem newClient_table (s : State) (te p kind addr vlan now burst : ℕ) :
    (s.newClient te p kind addr vlan now burst).2 ∈ (s.newClient te p kind addr vlan now burst).1.hmk.table := by
  refine (writeClient_table _ (s.newClient te p kind addr vlan now burst).2 true).symm ▸ List.mem_map.mpr
    ⟨(s.newClient te p kind addr vlan now burst).2, ?_, if_pos rfl⟩
  exact List.mem_append_right _ (List.mem_singleton.mpr rfl)

theorem does_clientBlock_new (h : ClientCmd s fn 1 c) (he : clientOf s c = none) :
    Does (.clientBlock fn) s fun t =>
      if s.clientRoom (State.clientArg c).1 then
        Finished t fn c.n cOk ∧ ∃ e, clientOf t c = some e ∧ e.blocked = true ∧ e.grants = []
      else Finished t fn c.n cTableFull ∧ t.hmk = s.hmk := by
  refine ⟨_, congrArg Host.Outcome.next (hmkClient_missing_block h he true), ?_⟩
  split
  · next hroom =>
    refine ⟨finished_finish rfl, _, findClient_writeClient true ⟨rfl, rfl, rfl, rfl⟩ ⟨_, newClient_table .., rfl⟩, rfl, rfl⟩
  · next hroom =>
    exact ⟨finished_finish rfl, rfl⟩

end

/-! ## The table of entries (R277) -/

theorem does_tatLoad (base n : ℕ) (hheld : s.pow.held = false) :
    Does (.tatLoad base n) s fun t =>
      t.get F.HMK_TAT_LOAD_BASE = base % 2 ^ 64 ∧ t.get F.HMK_TAT_LOAD_COUNT = n % 2 ^ 13 ∧
      (if s.get F.HMK_TAT_ST_STATE = 1 ∨ s.get F.HMK_TAT_ST_STATE = 2 then
        t.get F.HMK_TAT_ST_CAUSE = 4 ∧ t.get F.HMK_TAT_ST_STATE = s.get F.HMK_TAT_ST_STATE
      else t.get F.HMK_TAT_ST_CAUSE = 0 ∧ t.get F.HMK_TAT_ST_STATE = 1 ∧ t.get F.HMK_TAT_ST_BAD_INDEX = 0) ∧
      Only [F.HMK_TAT_LOAD_BASE, F.HMK_TAT_LOAD_COUNT, F.HMK_TAT_ST_STATE] id s t := by
  set u := (s.set F.HMK_TAT_LOAD_BASE base).set F.HMK_TAT_LOAD_COUNT n with hu
  have hbase : u.get F.HMK_TAT_LOAD_BASE = base % 2 ^ 64 := by rw [hu, get_set_beside (by decide), State.get_set_self]
  have hcount : u.get F.HMK_TAT_LOAD_COUNT = n % 2 ^ 13 := by rw [hu, State.get_set_self]
  have hstate : u.get F.HMK_TAT_ST_STATE = s.get F.HMK_TAT_ST_STATE := by
    rw [hu, get_set_beside (by decide), get_set_beside (by decide)]
  have honly : Only [F.HMK_TAT_LOAD_BASE, F.HMK_TAT_LOAD_COUNT, F.HMK_TAT_ST_STATE] id s u :=
    Only.set (Only.set (Only.refl _ s) base (.of_mem (by simp))) n (.of_mem (by simp))
  have hw : ∀ g : Fld, g.a = F.HMK_TAT_ST_STATE.a → Store.span g ≤ 1 →
      Within g [F.HMK_TAT_LOAD_BASE, F.HMK_TAT_LOAD_COUNT, F.HMK_TAT_ST_STATE] := fun g ha hs =>
    .of_word (f := F.HMK_TAT_ST_STATE) (by simp) ha hs
  refine ⟨u.tatGo, ?_, ?_⟩
  · change Host.Outcome.next (s.awake _) = _
    rw [State.awake, if_neg (by simp [hheld])]
  clear_value u
  unfold State.tatGo
  rw [hstate]
  by_cases hbusy : s.get F.HMK_TAT_ST_STATE = 1 ∨ s.get F.HMK_TAT_ST_STATE = 2
  · rw [if_pos (by simpa using hbusy), if_pos hbusy]
    refine ⟨?_, ?_, ⟨?_, ?_⟩, Only.set honly 4 (hw _ rfl (by decide))⟩
    · rw [get_set_beside (by decide), hbase]
    · rw [get_set_beside (by decide), hcount]
    · exact State.get_set_self u F.HMK_TAT_ST_CAUSE 4
    · rw [get_set_beside (by decide), hstate]
  · rw [if_neg (by simpa using hbusy), if_neg hbusy]
    have h1 := Only.set honly 1 (hw F.HMK_TAT_ST_STATE rfl (by decide))
    have h2 := Only.set h1 0 (hw F.HMK_TAT_ST_CAUSE rfl (by decide))
    refine ⟨?_, ?_, ⟨?_, ?_, ?_⟩, Only.set h2 0 (hw F.HMK_TAT_ST_BAD_INDEX rfl (by decide))⟩
    · rw [get_set_beside (by decide), get_set_beside (by decide), get_set_beside (by decide), hbase]
    · rw [get_set_beside (by decide), get_set_beside (by decide), get_set_beside (by decide), hcount]
    · rw [get_set_beside (by decide)]
      exact State.get_set_self _ F.HMK_TAT_ST_CAUSE 0
    · rw [get_set_beside (by decide), get_set_beside (by decide)]
      exact State.get_set_self u F.HMK_TAT_ST_STATE 1
    · exact State.get_set_self _ F.HMK_TAT_ST_BAD_INDEX 0

/-- A bad entry is one of those scanned, and its cause one of 1 to 3. -/
theorem tatScan_lt {ue : Option (ℕ × DramErr)} {l : List TatEnt} {n i k : ℕ} {before : List TatEnt}
    (h : s.tatScan ue l n before = some (i, k)) : i < n + l.length ∧ k ≤ 3 := by
  induction l generalizing n before with
  | nil => exact absurd h (by simp [State.tatScan])
  | cons e l ih =>
    rw [State.tatScan] at h
    rw [List.length_cons]
    have hlast : ∀ c, some (n, c) = some (i, k) → c ≤ 3 → i < n + (l.length + 1) ∧ k ≤ 3 := by
      rintro c ⟨⟩ hc
      exact ⟨by omega, hc⟩
    split at h
    · exact hlast 3 h (by decide)
    split at h
    · exact hlast 2 h (by decide)
    split at h
    · exact hlast 1 h (by decide)
    · obtain ⟨hi, hk⟩ := ih h
      exact ⟨by omega, hk⟩

theorem does_tatLoadDone (ents : List TatEnt) (hst : s.get F.HMK_TAT_ST_STATE = 1) :
    let n := s.get F.HMK_TAT_LOAD_COUNT
    1 ≤ n → n ≤ 4096 →
    Does (.tatLoadDone ents none) s fun t =>
      (s.tatScan none (ents.take n) 0 [] = none →
        t.get F.HMK_TAT_ST_STATE = 2 ∧
        (if s.on F.HMK_TAT_ST_LIVE_BANK then t.hmk.bank0 else t.hmk.bank1) = (ents.take n).filter (fun e => e.valid) ∧
        t.liveTat = s.liveTat ∧ SameRegs (words [F.HMK_TAT_ST_STATE]) s t) ∧
      (∀ i k, s.tatScan none (ents.take n) 0 [] = some (i, k) →
        t.get F.HMK_TAT_ST_STATE = 3 ∧ t.get F.HMK_TAT_ST_CAUSE = k ∧ t.get F.HMK_TAT_ST_BAD_INDEX = i ∧ t.hmk = s.hmk) := by
  intro n h1 hmax
  have hexec : exec (.tatLoadDone ents none) s = .next (s.tatDone ents none) := rfl
  have hn : (decide (n = 0) || decide (4096 < n)) = false := by
    rw [Bool.or_eq_false_iff, decide_eq_false_iff_not, decide_eq_false_iff_not]
    omega
  refine ⟨_, hexec, fun hnone => ?_, fun i k hbad => ?_⟩ <;> unfold State.tatDone <;> rw [if_neg (by simp [hst])] <;>
    dsimp only [State.dramRead, Option.map_none, Option.bind_none] <;> rw [if_neg (by simp [hn, n])]
  · rw [hnone]
    dsimp only
    have hbank : (s.set F.HMK_TAT_ST_STATE 2).on F.HMK_TAT_ST_LIVE_BANK = s.on F.HMK_TAT_ST_LIVE_BANK :=
      on_set_beside (by decide) s 2
    have hset := SameRegs.set (SameRegs.refl _ s) 2 (Within.of_mem (List.mem_singleton_self F.HMK_TAT_ST_STATE))
    rw [hbank]
    unfold State.liveTat
    cases hlive : s.on F.HMK_TAT_ST_LIVE_BANK
    · rw [hlive] at hbank
      simp only [Bool.false_eq_true, if_false]
      refine ⟨State.get_set_self s F.HMK_TAT_ST_STATE 2, rfl, ?_, hset⟩
      exact if_neg (by rw [← Bool.not_eq_true] at hbank; exact hbank)
    · rw [hlive] at hbank
      simp only [if_true]
      exact ⟨State.get_set_self s F.HMK_TAT_ST_STATE 2, rfl, if_pos hbank, hset⟩
  · rw [hbad]
    dsimp only
    have hi : i < 2 ^ F.HMK_TAT_ST_BAD_INDEX.w ∧ k < 2 ^ F.HMK_TAT_ST_CAUSE.w := by
      have := tatScan_lt hbad
      have hlen := List.length_take_le n ents
      constructor <;> dsimp only [F.HMK_TAT_ST_BAD_INDEX, F.HMK_TAT_ST_CAUSE] <;> omega
    refine ⟨?_, ?_, ?_, rfl⟩
    · rw [get_set_beside (by decide), get_set_beside (by decide)]
      exact State.get_set_self s F.HMK_TAT_ST_STATE 3
    · rw [get_set_beside (by decide), State.get_set_self, Nat.mod_eq_of_lt hi.2]
    · rw [State.get_set_self, Nat.mod_eq_of_lt hi.1]

/-! ## Rotation of a key (R280) -/

/-- Registers, counters and the client state of Hallmark after the rotation of key k of tenant te; its records follow. -/
def rotated (s : State) (te k : ℕ) : State :=
  let slot := s.get (F.HMK_KEY_NEXT_SLOT te k)
  let cur := s.get (F.HMK_KEY_ST_CUR_SLOT te k)
  let s : State := { s with hmk := { s.hmk with prevSlot := alSet s.hmk.prevSlot (4 * te + k) cur } }
  let s := s.set (F.HMK_KEY_ST_PREV_ID te k) (s.get (F.HMK_KEY_ST_CUR_ID te k))
  let s := s.set (F.HMK_KEY_ST_PREV_VALID te k) (s.get (F.HMK_KEY_ST_CUR_VALID te k))
  let s := (s.set (F.HMK_KEY_ST_CUR_ID te k) (s.get (F.KVT_SLOT_KEY_ID slot))).set (F.HMK_KEY_ST_CUR_SLOT te k) slot
  let s := (s.set (F.HMK_KEY_ST_CUR_VALID te k) 1).set (F.HMK_KEY_ST_NEXT_VALID te k) 0
  (s.setBoth (F.HMK_KEY_NEXT_VALID te k) 0).add (F.HMK_KEY_ST_ROTATIONS te k) 1

/-- The records of a rotation: in the provider's ring, and in the tenant's. -/
def rotationRecords (s : State) (te k : ℕ) (ok : Bool) : State :=
  let id := if s.on (F.HMK_KEY_ST_CUR_VALID te k) then s.get (F.HMK_KEY_ST_CUR_ID te k) else 0
  let p := pay [(20, 1, k), (21, 1, if ok then 0 else 1), (24, 4, id)]
  let s := s.pevent 0x0D te p
  if s.fnOf te = 0 then s else s.event (s.fnOf te) 0x0D te p

theorem rotateKey_eq (s : State) (te k : ℕ) : s.rotateKey te k =
    rotationRecords (if s.on (F.HMK_KEY_ST_NEXT_VALID te k) then (rotated s.tagHmk te k).count 0x4E9 else s.tagHmk) te k
      (s.on (F.HMK_KEY_ST_NEXT_VALID te k)) := rfl

theorem rotationRecords_calm (s : State) (te k : ℕ) (ok : Bool) : (rotationRecords s te k ok).calm = s.calm := by
  unfold rotationRecords
  extract_lets id p u
  split
  · exact State.pevent_calm s 0x0D te p
  · exact (State.event_calm u (u.fnOf te) 0x0D te p).trans (State.pevent_calm s 0x0D te p)

theorem rotationRecords_counter (s : State) (te k : ℕ) (ok : Bool) {j : ℕ} (hj : j ∉ selfCounted) :
    (rotationRecords s te k ok).counter j = s.counter j := by
  unfold rotationRecords
  extract_lets id p u
  split
  · exact counter_pevent s 0x0D te p hj
  · exact (counter_event u (u.fnOf te) 0x0D te p hj).trans (counter_pevent s 0x0D te p hj)

theorem setBoth_get (s : State) (f g : Fld) (v : ℕ) : (s.setBoth f v).get g = (s.set f v).get g := by
  unfold State.setBoth
  dsimp only
  split <;> rfl

section
variable {te k : ℕ} (hte : te < 1024) (hk : k < 3)
include hte hk

theorem rotated_get (u : State) :
    (rotated u te k).get (F.HMK_KEY_ST_CUR_ID te k) = u.get (F.KVT_SLOT_KEY_ID (u.get (F.HMK_KEY_NEXT_SLOT te k))) ∧
    (rotated u te k).get (F.HMK_KEY_ST_CUR_SLOT te k) = u.get (F.HMK_KEY_NEXT_SLOT te k) ∧
    (rotated u te k).get (F.HMK_KEY_ST_CUR_VALID te k) = 1 ∧
    (rotated u te k).get (F.HMK_KEY_ST_PREV_ID te k) = u.get (F.HMK_KEY_ST_CUR_ID te k) ∧
    (rotated u te k).get (F.HMK_KEY_ST_PREV_VALID te k) = u.get (F.HMK_KEY_ST_CUR_VALID te k) ∧
    (rotated u te k).get (F.HMK_KEY_ST_NEXT_VALID te k) = 0 ∧
    (rotated u te k).get (F.HMK_KEY_ST_ROTATIONS te k) = (u.get (F.HMK_KEY_ST_ROTATIONS te k) + 1) % 2 ^ 16 := by
  have hslot : u.get (F.HMK_KEY_NEXT_SLOT te k) < 4096 := State.get_lt u _
  unfold rotated
  extract_lets slot cur h1 u1 u2 u3 u4 u5
  have h1 : ∀ g, u1.get g = u.get g := fun _ => rfl
  clear_value u1
  simp (disch := (simp [Beside, Store.span]; try omega)) only [State.add, setBoth_get, get_set_beside,
    State.get_set_self, u2, u3, u4, u5, h1, Nat.zero_mod]
  exact ⟨get_mod u _, Nat.mod_eq_of_lt hslot, rfl, get_mod u _, get_mod u _, trivial, trivial⟩

end

theorem setBoth_eq (s : State) (f : Fld) (v : ℕ) : s.setBoth f v = { s.set f v with pend := (s.setBoth f v).pend } := by
  unfold State.setBoth
  dsimp only
  split <;> rfl

/-- A rotation is no matter of time or of the scheduler. -/
theorem rotated_kept (u : State) (te k : ℕ) :
    (rotated u te k).time = u.time ∧ (rotated u te k).sch = u.sch ∧ (rotated u te k).obs = u.obs := by
  unfold rotated
  extract_lets slot cur h1 u1 u2 u3 u4 u5
  rw [setBoth_eq]
  exact ⟨rfl, rfl, rfl⟩

theorem rotateKey_calm (s : State) (te k : ℕ) : (s.rotateKey te k).calm =
    (if s.on (F.HMK_KEY_ST_NEXT_VALID te k) then rotated s.tagHmk te k else s.tagHmk).calm := by
  rw [rotateKey_eq, rotationRecords_calm]
  split
  · exact State.countN_calm (rotated s.tagHmk te k) 0x4E9 1
  · rfl

theorem rotateKey_kept (s : State) (te k : ℕ) : (s.rotateKey te k).time = s.time ∧ (s.rotateKey te k).sch = s.sch := by
  rw [time_of_calm (rotateKey_calm s te k), sch_of_calm (rotateKey_calm s te k)]
  obtain ⟨hrt, hrs, -⟩ := rotated_kept s.tagHmk te k
  split
  · exact ⟨hrt, hrs⟩
  · exact ⟨rfl, rfl⟩

theorem rotateKey_counter {s : State} {te k : ℕ} (hok : s.on (F.HMK_KEY_ST_NEXT_VALID te k) = true) :
    (s.rotateKey te k).counter 0x4E9 = (s.counter 0x4E9 + 1) % 2 ^ 64 := by
  rw [rotateKey_eq, if_pos hok, rotationRecords_counter _ _ _ _ (by decide), counter_count_self _ (by decide),
    counter_of_obs (rotated_kept s.tagHmk te k).2.2]
  rfl

theorem does_keyRotate {o : State.Occ} {id : ℕ} (h : Acts s o id 10) :
    let t0 := bitsOf o.ent.arg 0 10
    let k := bitsOf o.ent.arg 10 6
    k < 3 →
    Does (.keyRotate id) s fun t =>
      Acted s t o ∧
      (s.on (F.HMK_KEY_ST_NEXT_VALID t0 k) = true →
        t.get (F.HMK_KEY_ST_CUR_ID t0 k) = s.get (F.KVT_SLOT_KEY_ID (s.get (F.HMK_KEY_NEXT_SLOT t0 k))) ∧
        t.get (F.HMK_KEY_ST_CUR_SLOT t0 k) = s.get (F.HMK_KEY_NEXT_SLOT t0 k) ∧ t.on (F.HMK_KEY_ST_CUR_VALID t0 k) = true ∧
        t.get (F.HMK_KEY_ST_PREV_ID t0 k) = s.get (F.HMK_KEY_ST_CUR_ID t0 k) ∧
        t.get (F.HMK_KEY_ST_PREV_VALID t0 k) = s.get (F.HMK_KEY_ST_CUR_VALID t0 k) ∧ t.on (F.HMK_KEY_ST_NEXT_VALID t0 k) = false ∧
        t.get (F.HMK_KEY_ST_ROTATIONS t0 k) = (s.get (F.HMK_KEY_ST_ROTATIONS t0 k) + 1) % 2 ^ 16 ∧ Counts s t 0x4E9 1) ∧
      (s.on (F.HMK_KEY_ST_NEXT_VALID t0 k) = false → SameRegs [] s t) := by
  intro t0 k hk
  have ht0 : t0 < 1024 := Nat.mod_lt _ (by decide)
  have hkeep := rotateKey_kept (atDue s o) t0 k
  have hact : (atDue s o).keyRotate o.ent.arg = (atDue s o).rotateKey t0 k := if_pos hk
  have hexec : exec (.keyRotate id) s = .next ((atDue s o).keyRotate o.ent.arg) := congrArg Host.Outcome.next (
    scheduled_of_acts (ok := fun _ => true) (act := fun s e => s.keyRotate e.arg) h rfl (by
      rw [hact, hkeep.2, atDue_updWait]
      obtain ⟨-, -, -, -, -, -, -, -, hupd⟩ := h
      exact hupd))
  refine ⟨_, hexec.trans (congrArg _ hact), ?_⟩
  clear_value t0 k
  clear hexec hact
  have hget : ∀ f, (atDue s o).tagHmk.get f = s.get f := get_of_regs (atDue_regs s o)
  have hon : (atDue s o).on (F.HMK_KEY_ST_NEXT_VALID t0 k) = s.on (F.HMK_KEY_ST_NEXT_VALID t0 k) := by
    rw [State.on, get_of_regs (atDue_regs s o)]
    rfl
  have hregs := regs_of_calm (rotateKey_calm (atDue s o) t0 k)
  refine ⟨⟨hkeep.1.trans (atDue_time s o), (congrArg _ hkeep.2).trans (atDue_ents s o)⟩, fun hok => ?_, fun hno => ?_⟩
  · rw [hon, if_pos hok] at hregs
    obtain ⟨hid, hslot, hvalid, hpid, hpvalid, hnext, hrot⟩ := rotated_get ht0 hk (atDue s o).tagHmk
    simp only [hget] at hid hslot hpid hpvalid hrot
    refine ⟨?_, ?_, ?_, ?_, ?_, ?_, ?_, ?_⟩
    · exact (get_of_regs hregs _).trans hid
    · exact (get_of_regs hregs _).trans hslot
    · rw [State.on, get_of_regs hregs]
      exact decide_eq_true hvalid
    · exact (get_of_regs hregs _).trans hpid
    · exact (get_of_regs hregs _).trans hpvalid
    · rw [State.on, get_of_regs hregs]
      exact decide_eq_false (by rw [← State.get, hnext]; decide)
    · exact (get_of_regs hregs _).trans hrot
    · rw [Counts, rotateKey_counter (hon.trans hok), counter_atDue _ _ (by decide) (by decide)]
  · rw [hon, if_neg (by simp [hno])] at hregs
    exact SameRegs.of_eq (hregs.trans (atDue_regs s o))

/-- Settles O44. -/
theorem hallmarkTables : Obligations.HallmarkTables :=
  ⟨fun _ _ _ _ _ _ hc hrun hblk hidle hold => does_clientReclaim hc hrun hblk hidle hold,
    fun _ _ _ _ _ _ _ _ hc hg hdur hlive => does_grantExpiry hc hg hdur hlive,
    fun _ _ _ _ _ c2s s2c took hcmd hown hn hmax hnts hkey => does_hmkMint hcmd c2s s2c took hown hn hmax hnts hkey,
    fun _ _ _ ok c2s s2c took hcmd => does_hmkMint_refused hcmd ok c2s s2c took,
    fun _ _ _ _ h he => does_clientRead h he, fun _ _ _ _ h he => does_clientBlock h he,
    fun _ _ _ _ h he => does_clientUnblock h he, fun _ _ _ _ h he => does_clientDelete h he,
    fun _ _ _ _ ok i _ hi h he => does_client_missing ok i hi h he, fun _ _ _ h he => does_clientBlock_new h he,
    fun _ base n hheld => does_tatLoad base n hheld, fun _ ents hst => does_tatLoadDone ents hst,
    fun _ _ _ h => does_keyRotate h⟩

end Sys2Proof.Proofs
end

section
/-!
Outputs and Burnishers (R204 to R220): what the configuration of an output gives (`OutCfg`), what appears at a pad (`Pad`), and
what a step of one output leaves of the others (`Shows`).
-/

open Sys2Proof Sys2Proof.Machine Sys2Proof.Claims

namespace Sys2Proof.Proofs

variable {s t u : State}

theorem on_of_regs (h : t.regs = s.regs) (f : Fld) : t.on f = s.on f := by
  rw [State.on, State.get, h]
  rfl

/-! ## Signed fields -/

theorem toSigned_ofSigned {w : ℕ} {v : Int} (hw : 0 < w) (hlo : -(2 ^ (w - 1) : ℕ) ≤ v) (hhi : v < (2 ^ (w - 1) : ℕ)) :
    toSigned w (ofSigned w v % 2 ^ w) = v := by
  obtain ⟨n, rfl⟩ := Nat.exists_eq_add_one.mpr hw
  rw [Nat.add_sub_cancel] at hlo hhi
  have hpow : (2 : ℕ) ^ (n + 1) = 2 ^ n + 2 ^ n := by omega
  have hof : ((ofSigned (n + 1) v : ℕ) : Int) = if 0 ≤ v then v else v + (2 ^ (n + 1) : ℕ) := by
    have hpos : (0 : Int) < (2 ^ (n + 1) : ℕ) := by positivity
    rw [ofSigned, Int.toNat_of_nonneg (Int.emod_nonneg _ hpos.ne')]
    split
    · exact Int.emod_eq_of_lt ‹_› (by omega)
    · rw [← Int.add_emod_right, Int.emod_eq_of_lt] <;> omega
  unfold toSigned
  rw [Nat.mod_mod, Nat.add_sub_cancel, Nat.mod_eq_of_lt (show ofSigned (n + 1) v < 2 ^ (n + 1) by split at hof <;> omega)]
  split at hof <;> split <;> omega

theorem satI_bounds {w : ℕ} (v : Int) : -(2 ^ (w - 1) : ℕ) ≤ satI w v ∧ satI w v < (2 ^ (w - 1) : ℕ) := by
  have hpos : 0 < 2 ^ (w - 1) := by positivity
  unfold satI clampI
  split
  · omega
  · split <;> omega

/-- A signed field reads the number it was set to, within its width. -/
theorem getI_setI_satI (s : State) (f : Fld) (v : Int) (hw : 0 < f.w) : (s.setI f (satI f.w v)).getI f = satI f.w v := by
  rw [State.getI, State.setI, State.get_set_self]
  exact toSigned_ofSigned hw (satI_bounds v).1 (satI_bounds v).2

/-! ## What is configured -/

/-- A field of the configuration of the outputs. -/
def OutCfg (g : Fld) : Prop := 0x501000 ≤ g.a ∧ g.a + 4 * Store.span g ≤ 0x501480

/-- The configuration of the outputs reads alike in two states. -/
def CfgSame (s t : State) : Prop := ∀ g, OutCfg g → t.get g = s.get g

theorem CfgSame.of_regs (h : t.regs = s.regs) : CfgSame s t := fun g _ => get_of_regs h g

section
variable (h : CfgSame s t) {o : ℕ} (ho : o < 24)
include h ho

theorem outMode_congr : t.outMode o = s.outMode o := by
  unfold State.outMode
  split
  · rfl
  · exact h _ (by constructor <;> dsimp only [Store.span] <;> omega)

theorem outBurnOf_congr : t.outBurnOf o = s.outBurnOf o := by
  unfold State.outBurnOf
  split <;> exact h _ (by constructor <;> dsimp only [Store.span] <;> omega)

theorem feeds_congr (b : ℕ) : t.feeds b o = s.feeds b o := by
  rw [State.feeds, outMode_congr h ho, outBurnOf_congr h ho, State.feeds]

theorem padLevel_congr (active : Bool) : t.padLevel o active = s.padLevel o active := by
  unfold State.padLevel
  by_cases h16 : 16 ≤ o
  · rw [State.on, h _ (by constructor <;> dsimp only [Store.span] <;> omega)]
    rfl
  · simp [h16]

theorem lvcmos_congr : t.lvcmos o = s.lvcmos o := by
  unfold State.lvcmos
  split <;> rw [h _ (by constructor <;> dsimp only [Store.span] <;> omega)]

theorem holdOut_congr : holdOut t o = holdOut s o := by
  rw [holdOut, padLevel_congr h ho, lvcmos_congr h ho, holdOut]

theorem bypOut_congr (hlos : t.on F.SYN_BYP_ST_BYP_LOS = s.on F.SYN_BYP_ST_BYP_LOS) : bypOut t o = bypOut s o := by
  unfold bypOut
  rw [hlos, holdOut_congr h ho]
  by_cases h16 : o < 16
  · rw [if_pos h16, h _ (by constructor <;> dsimp only [Store.span] <;> omega), if_pos h16]
  · rw [if_neg h16, if_neg h16]

end

theorem outBurnOf_lt (s : State) (o : ℕ) : s.outBurnOf o < 4 := by
  unfold State.outBurnOf
  split
  · exact State.get_lt s (F.OUT_F_CFG_BURN o)
  · exact State.get_lt s (F.OUT_G_CFG_BURN (o - 16))

/-! ## Outputs and Burnishers by their numbers -/

theorem pin_setPin (s : State) (o p : ℕ) (x : PinSt) : (s.setPin o x).pin p = if p = o then x else s.pin p := by
  simp only [State.pin, State.setPin, alGet_alSet]
  split <;> rfl

theorem burn_setBurn (s : State) (b c : ℕ) (x : BurnSt) : (s.setBurn b x).burn c = if c = b then x else s.burn c := by
  simp only [State.burn, State.setBurn, alGet_alSet]
  split <;> rfl

theorem burn_congr (h : t.syn.burns = s.syn.burns) (b : ℕ) : t.burn b = s.burn b := by rw [State.burn, h, State.burn]

theorem pin_congr (h : t.syn.pins = s.syn.pins) (o : ℕ) : t.pin o = s.pin o := by rw [State.pin, h, State.pin]

/-! ## Pads -/

theorem padOut_eq (s : State) (o : ℕ) (x : Out) : s.padOut o x = { s with out := (s.padOut o x).out } := by
  unfold State.padOut
  split <;> rfl

theorem padOut_out (s : State) (o : ℕ) (x : Out) : ∀ y ∈ s.out, y ∈ (s.padOut o x).out := by
  intro y hy
  unfold State.padOut
  split
  · exact hy
  · exact List.mem_cons_of_mem _ hy

/-- What is put on a pad appears there, and stays. -/
theorem Pad.of_padOut {o : ℕ} {x : Out} (hp : u.syn.paired = s.syn.paired) (hd : u.on F.PAIR_STAT_DRIVING = s.on F.PAIR_STAT_DRIVING)
    (ht : ∀ y ∈ (u.padOut o x).out, y ∈ t.out) : Pad s t o x := by
  intro h
  refine ht x ?_
  unfold State.padOut
  rw [hp, hd, if_neg (by rcases h with h | h <;> simp [h])]
  exact List.mem_cons_self

theorem outHold_eq (s : State) (o : ℕ) : s.outHold o = s.padOut o (holdOut s o) := rfl

theorem outBypassed_eq (s : State) (o : ℕ) : s.outBypassed o = s.padOut o (bypOut s o) := by
  unfold State.outBypassed bypOut
  extract_lets d
  split <;> rfl

/-! ## Units in turn -/

/-- R l s t: from s to t only what belongs to the units l has changed. -/
structure Turns (R : List ℕ → State → State → Prop) : Prop where
  refl : ∀ l s, R l s s
  trans : ∀ {l s t u}, R l s t → R l t u → R l s u
  mono : ∀ {l l' s t}, (∀ o ∈ l, o ∈ l') → R l s t → R l' s t

namespace Turns
variable {R : List ℕ → State → State → Prop} (hR : Turns R) {f : State → ℕ → State} (hf : ∀ v o, R [o] v (f v o))
include hR hf

/-- Each unit of a list has its turn. -/
theorem foldl (l : List ℕ) (s : State) : R l s (l.foldl f s) := by
  induction l generalizing s with
  | nil => exact hR.refl _ s
  | cons o l ih =>
    exact hR.trans (hR.mono (fun p hp => by simp_all) (hf s o)) (hR.mono (fun p hp => List.mem_cons_of_mem _ hp) (ih (f s o)))

/-- The turn of unit o: the others have theirs before it and after it. -/
theorem foldl_at {l : List ℕ} (hnd : l.Nodup) {o : ℕ} (ho : o ∈ l) (s : State) :
    ∃ v, R (l.erase o) s v ∧ R (l.erase o) (f v o) (l.foldl f s) := by
  obtain ⟨l1, l2, rfl⟩ := List.append_of_mem ho
  have hno : o ∉ l1 := fun h => (List.disjoint_of_nodup_append hnd) h List.mem_cons_self
  rw [List.erase_append_right _ hno, List.erase_cons_head, List.foldl_append, List.foldl_cons]
  exact ⟨l1.foldl f s, hR.mono (fun p hp => List.mem_append_left _ hp) (hR.foldl hf l1 s),
    hR.mono (fun p hp => List.mem_append_right _ hp) (hR.foldl hf l2 _)⟩

end Turns

/-! ## A step of some outputs -/

/-- Only fields fs, the state of outputs os, the pads and the draws have changed, besides what counts. -/
structure Shows (fs : List Fld) (os : List ℕ) (s t : State) : Prop extends Mild fs s t where
  pin : ∀ p, p ∉ os → t.pin p = s.pin p
  burns : t.syn.burns = s.syn.burns
  paired : t.syn.paired = s.syn.paired
  obs : t.obs = s.obs

namespace Shows
variable {fs fs' : List Fld} {os os' : List ℕ}

theorem refl (fs : List Fld) (os : List ℕ) (s : State) : Shows fs os s s := ⟨.refl fs s, fun _ _ => rfl, rfl, rfl, rfl⟩

theorem trans (h : Shows fs os s t) (k : Shows fs os t u) : Shows fs os s u :=
  ⟨h.toMild.trans k.toMild, fun p hp => (k.pin p hp).trans (h.pin p hp), k.burns.trans h.burns, k.paired.trans h.paired,
    k.obs.trans h.obs⟩

theorem mono (h : Shows fs os s t) (hf : ∀ f ∈ fs, f ∈ fs') (ho : ∀ o ∈ os, o ∈ os') : Shows fs' os' s t :=
  ⟨h.toMild.mono hf, fun p hp => h.pin p fun hm => hp (ho p hm), h.burns, h.paired, h.obs⟩

theorem set (h : Shows fs os s t) {f : Fld} (hf : f ∈ fs) (v : ℕ) : Shows fs os s (t.set f v) :=
  ⟨h.toMild.set hf v, h.pin, h.burns, h.paired, h.obs⟩

theorem setB (h : Shows fs os s t) {f : Fld} (hf : f ∈ fs) (b : Bool) : Shows fs os s (t.setB f b) := h.set hf _

theorem setPin (h : Shows fs os s t) {o : ℕ} (ho : o ∈ os) (x : PinSt) : Shows fs os s (t.setPin o x) :=
  ⟨h.toMild.of_eq rfl rfl rfl rfl, fun p hp => by rw [pin_setPin, if_neg (ne_of_mem_of_not_mem ho hp).symm, h.pin p hp],
    h.burns, h.paired, h.obs⟩

theorem draw (h : Shows fs os s t) : Shows fs os s t.draw :=
  ⟨h.toMild.of_eq rfl rfl rfl rfl, h.pin, h.burns, h.paired, h.obs⟩

theorem padOut (h : Shows fs os s t) (o : ℕ) (x : Out) : Shows fs os s (t.padOut o x) := by
  unfold State.padOut
  split
  · exact h
  · exact ⟨h.toMild.emitOut x, h.pin, h.burns, h.paired, h.obs⟩

theorem shows_turns (fl : ℕ → List Fld) : Turns fun l s t => Shows (l.flatMap fl) l s t :=
  ⟨fun _ s => refl _ _ s, fun h k => h.trans k, fun hl h => h.mono
    (fun _ hx => (List.mem_flatMap.mp hx).elim fun p hp => List.mem_flatMap.mpr ⟨p, hl p hp.1, hp.2⟩) hl⟩

/-- A step of each output in turn. -/
theorem foldl {f : State → ℕ → State} {fl : ℕ → List Fld} (hf : ∀ v o, Shows (fl o) [o] v (f v o)) (l : List ℕ) (s : State) :
    Shows (l.flatMap fl) l s (l.foldl f s) :=
  (shows_turns fl).foldl (fun v o => by simpa using hf v o) l s

/-- The turn of output o in a step of each: the others have theirs before it and after it. -/
theorem foldl_at {f : State → ℕ → State} {fl : ℕ → List Fld} (hf : ∀ v o, Shows (fl o) [o] v (f v o)) {l : List ℕ}
    (hnd : l.Nodup) {o : ℕ} (ho : o ∈ l) (s : State) : ∃ v, Shows ((l.erase o).flatMap fl) (l.erase o) s v ∧
      Shows ((l.erase o).flatMap fl) (l.erase o) (f v o) (l.foldl f s) :=
  (shows_turns fl).foldl_at (fun v o => by simpa using hf v o) hnd ho s

end Shows

/-! ## What an output shows -/

/-- What is shown of output o when it starts, stops, or goes to BYPASS. -/
def stFlds (o : ℕ) : List Fld := [F.OUT_ST_STATE o, F.OUT_ST_ALIGNED o]

theorem beside_state_aligned (o : ℕ) : Beside (F.OUT_ST_STATE o) (F.OUT_ST_ALIGNED o) :=
  .inr (.inr ⟨rfl, by dsimp only [Store.span], .inr (by dsimp only; omega)⟩)

theorem beside_aligned_state (o : ℕ) : Beside (F.OUT_ST_ALIGNED o) (F.OUT_ST_STATE o) :=
  .inr (.inr ⟨rfl, by dsimp only [Store.span], .inl (by dsimp only; omega)⟩)

theorem within_aligned (o : ℕ) : Within (F.OUT_ST_ALIGNED o) [F.OUT_ST_STATE o] :=
  .of_word (f := F.OUT_ST_STATE o) (by simp) rfl (by simp [Store.span])

/-- A field that no output's state shares a bit with. -/
def OffSt (g : Fld) : Prop := g.a + 4 * Store.span g ≤ 0x501480 ∨ 0x501540 ≤ g.a

theorem OffSt.beside {g : Fld} (hg : OffSt g) {l : List ℕ} (hl : ∀ o ∈ l, o < 24) : ∀ f ∈ l.flatMap stFlds, Beside f g := by
  intro f hf
  obtain ⟨o, ho, hf⟩ := List.mem_flatMap.mp hf
  have ho24 := hl o ho
  have hw : f.a = 0x501480 + 8 * o ∧ Store.span f = 1 := by
    rcases List.mem_pair.mp hf with rfl | rfl <;> exact ⟨rfl, by dsimp only [Store.span]⟩
  rcases hg with hg | hg
  · exact .inl (by omega)
  · exact .inr (.inl (by omega))

theorem beside_stFlds {o : ℕ} {g : Fld} (hg : g ∈ stFlds o) {l : List ℕ} (ho : o ∉ l) : ∀ f ∈ l.flatMap stFlds, Beside f g := by
  intro f hf
  obtain ⟨p, hp, hf⟩ := List.mem_flatMap.mp hf
  have hne : p ≠ o := fun h => ho (h ▸ hp)
  have hw : ∀ {q : ℕ} {x : Fld}, x ∈ stFlds q → x.a = 0x501480 + 8 * q ∧ Store.span x = 1 := by
    intro q x hx
    rcases List.mem_pair.mp hx with rfl | rfl <;> exact ⟨rfl, by dsimp only [Store.span]⟩
  have hf := hw hf
  have hg := hw hg
  rcases lt_or_gt_of_ne hne with hlt | hlt
  · exact .inr (.inl (by omega))
  · exact .inl (by omega)

theorem Shows.cfg {l os : List ℕ} (hl : ∀ o ∈ l, o < 24) (h : Shows (l.flatMap stFlds) os s t) : CfgSame s t :=
  fun g hg => h.get g (OffSt.beside (.inl hg.2) hl)

theorem mem_outs {o : ℕ} : o ∈ State.outs ↔ o < 24 := List.mem_range

/-! ## One output among others -/

/-- The Burnishers are configured alike in two states. -/
def BurnSame (s t : State) : Prop :=
  t.syn.burns = s.syn.burns ∧ ∀ g : Fld, 0x500100 ≤ g.a → g.a + 4 * Store.span g ≤ 0x500180 → t.get g = s.get g

/-- Output o stands alike in two states, and what feeds it. -/
structure OutSame (o : ℕ) (s v : State) : Prop where
  st : v.outState o = s.outState o
  al : v.on (F.OUT_ST_ALIGNED o) = s.on (F.OUT_ST_ALIGNED o)
  cfg : CfgSame s v
  burn : BurnSame s v
  pin : v.pin o = s.pin o
  time : v.time = s.time
  paired : v.syn.paired = s.syn.paired
  driving : v.on F.PAIR_STAT_DRIVING = s.on F.PAIR_STAT_DRIVING

theorem OutSame.trans {o : ℕ} (h : OutSame o s t) (k : OutSame o t u) : OutSame o s u :=
  ⟨k.st.trans h.st, k.al.trans h.al, fun g hg => (k.cfg g hg).trans (h.cfg g hg),
    ⟨k.burn.1.trans h.burn.1, fun g h1 h2 => (k.burn.2 g h1 h2).trans (h.burn.2 g h1 h2)⟩, k.pin.trans h.pin, k.time.trans h.time,
    k.paired.trans h.paired, k.driving.trans h.driving⟩

/-- A step of the other outputs. -/
theorem OutSame.of_shows {o : ℕ} (h : Shows ((State.outs.erase o).flatMap stFlds) (State.outs.erase o) s t) : OutSame o s t := by
  have hnot : o ∉ State.outs.erase o := List.nodup_range.not_mem_erase
  have hl : ∀ p ∈ State.outs.erase o, p < 24 := fun p hp => mem_outs.mp (List.mem_of_mem_erase hp)
  have hoff : ∀ g, OffSt g → t.get g = s.get g := fun g hg => h.get g (hg.beside hl)
  refine ⟨h.get _ (beside_stFlds (o := o) (by simp [stFlds]) hnot), h.on (beside_stFlds (o := o) (by simp [stFlds]) hnot), h.cfg hl,
    ⟨h.burns, fun g _ hg => hoff g (.inl (by omega))⟩, h.pin o hnot, h.time, h.paired, ?_⟩
  rw [State.on, hoff _ (.inr (by decide)), State.on]

end Sys2Proof.Proofs
end

section
/-!
O52: the edges of the outputs (R211, R214 to R217, R220). A start reads the first edge of the output's Burnisher, which no output's
state touches; the outputs that a SYNCIN edge restarts are started one after the other (`Shows.foldl_at`).
-/

open Sys2Proof Sys2Proof.Machine Sys2Proof.Claims

namespace Sys2Proof.Proofs

variable {s t u : State}

/-! ## A stop -/

theorem outStopped_shows (s : State) (o : ℕ) : Shows (stFlds o) [o] s (s.outStopped o) :=
  ((((Shows.refl _ _ s).set (by simp [stFlds]) 0).set (by simp [stFlds]) 0).setPin (by simp) _).padOut o _

theorem outStopped_facts (s : State) {o : ℕ} (ho : o < 24) :
    (s.outStopped o).outState o = 0 ∧ (s.outStopped o).on (F.OUT_ST_ALIGNED o) = false ∧ Pad s (s.outStopped o) o (holdOut s o) ∧
      SameRegs (words [F.OUT_ST_STATE o]) s (s.outStopped o) ∧
      (s.outStopped o).pin o = { s.pin o with stopping := false, active := false, pulseEnd := none, tc := none } := by
  unfold State.outStopped
  set x : PinSt := { s.pin o with stopping := false, active := false, pulseEnd := none, tc := none }
  set u := (s.set (F.OUT_ST_STATE o) 0).set (F.OUT_ST_ALIGNED o) 0 with hu
  have hsame : CfgSame s (u.setPin o x) := fun g hg =>
    (((Shows.refl (stFlds o) [o] s).set (by simp [stFlds]) 0).set (by simp [stFlds]) 0).get g (by
      simpa using OffSt.beside (.inl hg.2) (l := [o]) (by simpa using ho))
  rw [outHold_eq, holdOut_congr hsame ho, padOut_eq]
  refine ⟨?_, ?_, Pad.of_padOut (u := u.setPin o x) rfl ?_ fun _ h => h, ?_, ?_⟩
  · change u.get _ = 0
    rw [hu, get_set_beside (beside_aligned_state o)]
    exact State.get_set_self s _ 0
  · exact on_set_zero _ _
  · rw [show (u.setPin o x).on F.PAIR_STAT_DRIVING = u.on F.PAIR_STAT_DRIVING from rfl, hu, on_set_beside, on_set_beside] <;>
      exact .inr (.inl (by dsimp only [Store.span]; omega))
  · refine SameRegs.of_regs (SameRegs.set (SameRegs.set (SameRegs.refl _ s) 0 ?_) 0 ?_) rfl
    · exact .of_mem (by simp)
    · exact within_aligned o
  · change (u.setPin o x).pin o = x
    rw [pin_setPin, if_pos rfl]

/-! ## A start -/

theorem vcoEdge_state (s : State) (b : ℕ) (first : Rat) : (s.vcoEdge b first).2 = s ∨ (s.vcoEdge b first).2 = s.draw := by
  unfold State.vcoEdge
  dsimp only
  split
  · exact .inl rfl
  · exact .inr rfl

theorem vcoEdge_first (s : State) (b : ℕ) (first : Rat) : FirstEdge s b first (s.vcoEdge b first).1 := by
  unfold State.vcoEdge FirstEdge
  dsimp only
  split
  · rfl
  · exact ⟨Config.freeNat s.draws % 65536, Nat.mod_lt _ (by decide), rfl⟩

theorem vcoPeriod_congr {b : ℕ} (hb : b < 4) (h : BurnSame s t) : t.vcoPeriod b = s.vcoPeriod b := by
  obtain ⟨hburn, hget⟩ := h
  unfold State.vcoPeriod
  rw [burn_congr hburn, hget, hget, hget] <;> dsimp only [Store.span] <;> omega

theorem firstEdge_congr {b : ℕ} (hb : b < 4) (h : BurnSame s t) (first e : Rat) : FirstEdge t b first e ↔ FirstEdge s b first e := by
  obtain ⟨hburn, hget⟩ := h
  unfold FirstEdge
  rw [vcoPeriod_congr hb ⟨hburn, hget⟩, burn_congr hburn, hget] <;> dsimp only [Store.span] <;> omega

theorem burnAligned_congr {b : ℕ} (hb : b < 4) (h : ∀ g, OffSt g → t.get g = s.get g) : t.burnAligned b = s.burnAligned b := by
  unfold State.burnAligned State.burnState State.on
  rw [h, h, h] <;> exact .inl (by dsimp only [Store.span]; omega)

/-- A clock starts (R214): ALIGNED as its Burnisher says. -/
theorem outStartAt_started (s : State) {o : ℕ} (ho : o < 24) (hm : s.outMode o = 0) (first : ℕ) :
    Started s (s.outStartAt o first) o first (s.burnAligned (s.outBurnOf o)) ∧
      Shows (stFlds o) [o] s (s.outStartAt o first) ∧ SameRegs (words [F.OUT_ST_STATE o]) s (s.outStartAt o first) := by
  have hl : ∀ p ∈ [o], p < 24 := by simpa using ho
  have hoff : ∀ {v : State}, Shows (stFlds o) [o] s v → ∀ g, OffSt g → v.get g = s.get g := fun hv g hg =>
    hv.get g (by simpa using OffSt.beside hg hl)
  have hcfg : ∀ {v : State}, Shows (stFlds o) [o] s v → CfgSame s v := fun hv g hg => hoff hv g (.inl hg.2)
  have hb := outBurnOf_lt s o
  have hw : ∀ {v : State}, SameRegs (words [F.OUT_ST_STATE o]) s v → SameRegs (words [F.OUT_ST_STATE o]) s
      (v.setB (F.OUT_ST_ALIGNED o) (s.burnAligned (s.outBurnOf o))) := fun h => SameRegs.set h _ (within_aligned o)
  unfold State.outStartAt
  extract_lets u1 u2
  have h1 : Shows (stFlds o) [o] s u1 := (Shows.refl _ _ s).set (by simp [stFlds]) 2
  have hmode : u1.outMode o = 0 := (outMode_congr (hcfg h1) ho).trans hm
  have hal : u2 = u1.setB (F.OUT_ST_ALIGNED o) (s.burnAligned (s.outBurnOf o)) := by
    rw [← burnAligned_congr hb (hoff h1), ← outBurnOf_congr (hcfg h1) ho]
    unfold u2
    simp [hmode]
  have h2 : Shows (stFlds o) [o] s u2 := h1.setB (by simp [stFlds]) _
  have hregs : SameRegs (words [F.OUT_ST_STATE o]) s u2 := hal ▸ hw (SameRegs.set (SameRegs.refl _ s) 2 (.of_mem (by simp)))
  have hst : u2.get (F.OUT_ST_STATE o) = 2 := by
    rw [hal, State.setB, get_set_beside (beside_aligned_state o)]
    exact State.get_set_self s _ 2
  have hon : u2.on (F.OUT_ST_ALIGNED o) = s.burnAligned (s.outBurnOf o) := by rw [hal, on_setB _ rfl]
  rw [if_pos ((outMode_congr (hcfg h2) ho).trans hm), outBurnOf_congr (hcfg h2) ho]
  clear_value u2
  have hfirst := (firstEdge_congr hb ⟨h2.burns, fun g _ hg => hoff h2 g (.inl (by omega))⟩ first _).mp
    (vcoEdge_first u2 (s.outBurnOf o) first)
  have hdrawn : Shows (stFlds o) [o] s (u2.vcoEdge (s.outBurnOf o) first).2 ∧ (u2.vcoEdge (s.outBurnOf o) first).2.regs = u2.regs := by
    rcases vcoEdge_state u2 (s.outBurnOf o) first with h | h <;> rw [h]
    · exact ⟨h2, rfl⟩
    · exact ⟨h2.draw, rfl⟩
  dsimp only
  generalize (u2.vcoEdge (s.outBurnOf o) first).1 = e at hfirst ⊢
  generalize (u2.vcoEdge (s.outBurnOf o) first).2 = v at hdrawn ⊢
  obtain ⟨hv, hvregs⟩ := hdrawn
  set x : PinSt := ⟨false, true, none, none, none, some e, some v.time.cyc⟩
  have hx : Shows (stFlds o) [o] s (v.setPin o x) := hv.setPin (by simp) x
  have hpin : ((v.setPin o x).padOut o (.start o (e + (Config.padSkew o : Rat) / 1000))).pin o = x := by
    rw [padOut_eq]
    exact (pin_setPin v o o x).trans (if_pos rfl)
  have hget : ∀ f, ((v.setPin o x).padOut o (.start o (e + (Config.padSkew o : Rat) / 1000))).get f = u2.get f := by
    rw [padOut_eq]
    exact fun f => get_of_regs hvregs f
  refine ⟨⟨(hget _).trans hst, ?_, ?_⟩, hx.padOut o _, ?_⟩
  · rw [State.on, hget]
    exact hon
  · rw [hpin]
    refine ⟨hfirst, ?_, Pad.of_padOut hx.paired ?_ fun _ h => h⟩
    · rw [padOut_eq]
      rfl
    · rw [State.on, hoff hx _ (.inr (by decide))]
      rfl
  · rw [padOut_eq]
    exact SameRegs.of_regs hregs hvregs

/-- A start is the same one for two states that differ in time and pads. -/
theorem started_congr {v : State} {o first : ℕ} {al : Bool} (ho : o < 24) (hregs : v.regs = s.regs) (hsyn : v.syn = s.syn)
    (h : Started v t o first al) : Started s t o first al := by
  have hget : ∀ g, v.get g = s.get g := get_of_regs hregs
  obtain ⟨hst, hal, hfirst, hpin, hpad⟩ := h
  rw [outBurnOf_congr (.of_regs hregs) ho] at hfirst
  refine ⟨hst, hal, (firstEdge_congr (outBurnOf_lt s o) ⟨by rw [hsyn], fun g _ _ => hget g⟩ _ _).mp hfirst, hpin, fun hp => hpad ?_⟩
  rwa [hsyn, State.on, hget]

theorem burnAligned_locked {b : ℕ} (h : s.burnState b = 3) :
    s.burnAligned b = (decide (s.get (F.SYN_BURN_CFG_SRC b) = 24) && !s.on (F.SYN_BURN_ST_MISALIGNED b)) := by
  rw [State.burnAligned, h]
  simp

/-! ## One output -/

theorem does_outputStop {o : ℕ} (ho : o < 24) (hstop : (s.pin o).stopping = true) :
    Does (.outputStop o) s fun t =>
      t.outState o = 0 ∧ t.on (F.OUT_ST_ALIGNED o) = false ∧ Pad s t o (holdOut s o) ∧ SameRegs (words [F.OUT_ST_STATE o]) s t ∧
      t.pin o = { s.pin o with stopping := false, active := false, pulseEnd := none, tc := none } := by
  have hexec : exec (.outputStop o) s = .next (s.outStopped o) := congrArg Host.Outcome.next (if_pos (by simp [ho, hstop]))
  exact ⟨_, hexec, outStopped_facts s ho⟩

/-- Time alone passes. -/
theorem runTo_shows (s : State) (n o : ℕ) : (s.runTo n).outState o = s.outState o ∧ (s.runTo n).pin o = s.pin o ∧
    (s.runTo n).outMode o = s.outMode o ∧ (s.runTo n).outBurnOf o = s.outBurnOf o := by
  rw [runTo_eq]
  exact ⟨rfl, rfl, rfl, rfl⟩

theorem pad_runTo {n o : ℕ} {x : Out} : Pad (s.runTo n) t o x ↔ Pad s t o x := by
  rw [runTo_eq]
  rfl

theorem does_outputReturn {o : ℕ} (ho : o < 24) (hm : s.outMode o = 0) (hst : s.outState o = 1 ∨ s.outState o = 3)
    (hlock : s.burnState (s.outBurnOf o) = 3) :
    Does (.outputReturn o) s fun t =>
      let b := s.outBurnOf o
      let sec := ceilDiv ((s.burn b).since + 10000000) 1000000000 * 1000000000
      t.time = (s.runTo (sec - 64)).time ∧ SameRegs (words [F.OUT_ST_STATE o]) s t ∧
      ((s.pin o).stopping = true → t.outState o = 0 ∧ Pad s t o (holdOut s o)) ∧
      ((s.pin o).stopping = false →
        Started s t o sec (s.get (F.SYN_BURN_CFG_SRC b) = 24 && !s.on (F.SYN_BURN_ST_MISALIGNED b)) ∧
        (s.outState o = 3 → Pad s t o (holdOut s o))) := by
  extract_lets b sec
  set u := s.runTo (sec - 64) with hu
  obtain ⟨hust, hupin, hum, hub⟩ := runTo_shows s (sec - 64) o
  have hexec : exec (.outputReturn o) s = .next (if (u.pin o).stopping then u.outStopped o
      else (if u.outState o = 3 then u.outHold o else u).outStartAt o sec) := by
    change execOutputReturn o s = _
    unfold execOutputReturn
    dsimp only
    rw [if_pos (by simpa [ho, hm, hlock] using hst)]
  clear_value sec
  refine ⟨_, hexec, ?_⟩
  rw [hupin, hust]
  cases hstop : (s.pin o).stopping
  · set v := if s.outState o = 3 then u.outHold o else u with hv
    have hvu : v = { u with out := v.out } := by
      rw [hv]
      split
      · exact padOut_eq u o _
      · rfl
    have hpad : s.outState o = 3 → Pad s v o (holdOut s o) := fun h3 => by
      rw [hv, if_pos h3, outHold_eq, show holdOut u o = holdOut s o from holdOut_congr (.of_regs (regs_runTo s _)) ho]
      exact pad_runTo.mp (Pad.of_padOut rfl rfl fun _ h => h)
    obtain ⟨hstart, hshow, hregs⟩ := outStartAt_started v ho (by rw [hvu]; exact hum.trans hm) sec
    simp only [Bool.false_eq_true, if_false]
    refine ⟨?_, ?_, fun h => absurd h (by simp), fun _ => ⟨?_, fun h3 hp => hshow.kept.1 _ (hpad h3 hp)⟩⟩
    · rw [hshow.time, hvu]
    · refine SameRegs.trans (SameRegs.of_eq ?_) hregs
      rw [hvu]
      exact regs_runTo s _
    · have hvregs : v.regs = s.regs := by
        rw [hvu]
        exact regs_runTo s _
      have hvsyn : v.syn = s.syn := by
        rw [hvu, hu, runTo_eq]
      refine burnAligned_locked hlock ▸ started_congr ho hvregs hvsyn ?_
      rwa [outBurnOf_congr (.of_regs hvregs) ho, burnAligned_congr (outBurnOf_lt s o) fun g _ => get_of_regs hvregs g] at hstart
  · obtain ⟨h0, -, hpad, hregs, -⟩ := outStopped_facts u ho
    simp only [if_true]
    refine ⟨?_, SameRegs.trans (SameRegs.of_eq (regs_runTo s _)) hregs, fun _ => ⟨h0, ?_⟩, fun h => absurd h (by simp)⟩
    · exact (outStopped_shows u o).time
    · rw [← show holdOut u o = holdOut s o from holdOut_congr (.of_regs (regs_runTo s _)) ho]
      exact pad_runTo.mp hpad

/-! ## SYNCIN -/

theorem does_syncinEdge_ignored (harm : s.on F.SYN_SYNC_ST_ARMED = false) :
    Does .syncinEdge s fun t =>
      t.get F.SYN_SYNC_ST_IGNORED = min 255 (s.get F.SYN_SYNC_ST_IGNORED + 1) ∧ Counts s t 0x34A 1 ∧
      Only [F.SYN_SYNC_ST_IGNORED] id s t := by
  set u := s.addSat F.SYN_SYNC_ST_IGNORED 1 with hu
  have hexec : exec .syncinEdge s = .next (u.count 0x34A) := congrArg Host.Outcome.next (if_neg (by simp [harm]))
  refine ⟨_, hexec, ?_, counter_count_self u (by decide), ?_⟩
  · rw [State.count, State.countN_get, hu, State.addSat, State.get_set_self, satN]
    dsimp only
    split <;> omega
  · exact Only.of_calm (Only.set (Only.refl _ s) _ (.of_mem (by simp))) (State.countN_calm u 0x34A 1)

/-- What a SYNCIN edge does to output o, `mask` naming the outputs that it restarts (R216, R217). -/
def syncOne (mask : ℕ) (s : State) (o : ℕ) : State :=
  if bitOf mask o && s.outState o = 2 && s.outMode o = 0 then
    let s := if (s.pin o).stopping || (s.pin o).startCyc = some s.time.cyc then s else s.outStartAt o (s.ns + 64)
    s.set (F.OUT_ST_ALIGNED o) 0
  else s

theorem outStartAt_shows (s : State) (o first : ℕ) : Shows (stFlds o) [o] s (s.outStartAt o first) := by
  unfold State.outStartAt
  extract_lets u1 u2
  have h2 : Shows (stFlds o) [o] s u2 := ((Shows.refl _ _ s).set (by simp [stFlds]) 2).setB (by simp [stFlds]) _
  split
  · dsimp only
    have hv : Shows (stFlds o) [o] s (u2.vcoEdge (u2.outBurnOf o) first).2 := by
      rcases vcoEdge_state u2 (u2.outBurnOf o) first with h | h <;> rw [h]
      · exact h2
      · exact h2.draw
    exact (hv.setPin (by simp) _).padOut o _
  · exact h2.setPin (by simp) _

theorem syncOne_shows (mask : ℕ) (s : State) (o : ℕ) : Shows (stFlds o) [o] s (syncOne mask s o) := by
  unfold syncOne
  split
  · dsimp only
    refine Shows.set ?_ (by simp [stFlds]) 0
    split
    · exact .refl _ _ s
    · exact outStartAt_shows s o _
  · exact .refl _ _ s

/-- What the edge is to have done to output o (R216, R217). -/
def Synced (mask : ℕ) (s t : State) (o : ℕ) : Prop :=
  if bitOf mask o = true ∧ s.outState o = 2 ∧ s.outMode o = 0
    then
      if (s.pin o).stopping = true ∨ (s.pin o).startCyc = some s.time.cyc
      then t.outState o = 2 ∧ t.on (F.OUT_ST_ALIGNED o) = false ∧ t.pin o = s.pin o
      else Started s t o (s.ns + 64) false
    else t.outState o = s.outState o ∧ t.on (F.OUT_ST_ALIGNED o) = s.on (F.OUT_ST_ALIGNED o) ∧ t.pin o = s.pin o

theorem syncOne_synced (mask : ℕ) (s : State) {o : ℕ} (ho : o < 24) : Synced mask s (syncOne mask s o) o := by
  unfold Synced syncOne
  by_cases hsel : bitOf mask o = true ∧ s.outState o = 2 ∧ s.outMode o = 0
  · have hgo : (bitOf mask o && decide (s.outState o = 2) && decide (s.outMode o = 0)) = true := by simpa [and_assoc] using hsel
    rw [if_pos hsel, if_pos hgo]
    dsimp only
    obtain ⟨-, hst, hm⟩ := hsel
    by_cases hkeep : (s.pin o).stopping = true ∨ (s.pin o).startCyc = some s.time.cyc
    · rw [if_pos hkeep, if_pos (by simpa using hkeep)]
      exact ⟨(get_set_beside (beside_aligned_state o) s 0).trans hst, on_set_zero s _, rfl⟩
    · rw [if_neg hkeep, if_neg (by simpa using hkeep)]
      obtain ⟨⟨h2, -, hfirst, hpin, hpad⟩, -, -⟩ := outStartAt_started s ho hm (s.ns + 64)
      exact ⟨(get_set_beside (beside_aligned_state o) _ 0).trans h2, on_set_zero _ _, hfirst, hpin, hpad⟩
  · rw [if_neg hsel, if_neg (by simpa [and_assoc] using hsel)]
    exact ⟨rfl, rfl, rfl⟩

/-- What stands alike before the edge and after it does not matter. -/
theorem synced_congr {mask o : ℕ} (ho : o < 24) {v w : State} (h : OutSame o s v) (hvw : Synced mask v w o) (k : OutSame o w t)
    (hout : ∀ x ∈ w.out, x ∈ t.out) : Synced mask s t o := by
  unfold Synced at hvw ⊢
  rw [h.st, h.al, outMode_congr h.cfg ho, h.pin, State.ns, h.time, ← State.ns] at hvw
  rw [k.st, k.al, k.pin]
  split at hvw
  · next hsel =>
    rw [if_pos hsel]
    split at hvw
    · next hkeep =>
      rw [if_pos hkeep]
      exact hvw
    · next hkeep =>
      rw [if_neg hkeep]
      obtain ⟨h2, hw, hfirst, hpin, hpad⟩ := hvw
      rw [outBurnOf_congr h.cfg ho, ← k.pin] at hfirst
      refine ⟨k.st.trans h2, k.al.trans hw, (firstEdge_congr (outBurnOf_lt s o) h.burn _ _).mp hfirst, ?_, fun hp => hout _ ?_⟩
      · rw [k.pin, k.time]
        exact hpin
      · rw [k.pin]
        refine hpad ?_
        rwa [h.paired, h.driving]
  · next hno =>
    rw [if_neg hno]
    exact hvw

theorem does_syncinEdge (harm : s.on F.SYN_SYNC_ST_ARMED = true) :
    Does .syncinEdge s fun t =>
      t.on F.SYN_SYNC_ST_ARMED = false ∧ t.get F.SYN_SYNC_ST_FIRED = (s.get F.SYN_SYNC_ST_FIRED + 1) % 256 ∧
      t.get F.SYN_SYNC_ST_LAST = s.short ∧ Counts s t 0x349 1 ∧ t.time = s.time ∧
      ∀ o < 24, Synced (s.get F.SYN_SYNC_CTL_MASK) s t o := by
  set mask := s.get F.SYN_SYNC_CTL_MASK with hmask
  set u := ((s.set F.SYN_SYNC_ST_ARMED 0).add F.SYN_SYNC_ST_FIRED 1).set F.SYN_SYNC_ST_LAST s.short with hu
  have hushort : ((s.set F.SYN_SYNC_ST_ARMED 0).add F.SYN_SYNC_ST_FIRED 1).short = s.short := rfl
  set w := u.count 0x349 with hw
  set v : State := { w with syn := { w.syn with sync := some (w.time.cyc, mask) } } with hv
  have hexec : exec .syncinEdge s = .next (State.outs.foldl (syncOne mask) v) := by
    change execSyncinEdge s = _
    unfold execSyncinEdge
    rw [if_pos harm]
    rfl
  have hwcalm : w.calm = u.calm := State.countN_calm u 0x349 1
  have hwsyn : w.syn = s.syn := by
    have h := congrArg State.syn hwcalm
    exact h
  have hburns : w.syn.burns = s.syn.burns := by rw [hwsyn]
  have hpins : w.syn.pins = s.syn.pins := by rw [hwsyn]
  have hpaired : w.syn.paired = s.syn.paired := by rw [hwsyn]
  have hwtime : w.time = s.time := by
    have h := congrArg State.time hwcalm
    exact h
  have hget : ∀ g, v.get g = u.get g := fun g => State.countN_get u 0x349 1 g
  have hcount : v.counter 0x349 = (s.counter 0x349 + 1) % 2 ^ 64 := counter_count_self u (by decide)
  have hsame : ∀ o < 24, OutSame o s v := by
    have hu : ∀ g : Fld, 0x500100 ≤ g.a → u.get g = s.get g := fun g hg => by
      rw [hu, State.add, get_set_beside, get_set_beside, get_set_beside] <;> exact .inr (.inl (by dsimp only [Store.span]; omega))
    intro o ho
    refine ⟨(hget _).trans (hu _ (by dsimp only; omega)), ?_, fun g hg => (hget g).trans (hu g (by have := hg.1; omega)),
      ⟨hburns, fun g h1 _ => (hget g).trans (hu g h1)⟩, pin_congr hpins o, hwtime, hpaired, ?_⟩
    · rw [State.on, hget, hu _ (by dsimp only; omega), State.on]
    · rw [State.on, hget, hu _ (by decide), State.on]
  have hl : ∀ p ∈ State.outs, p < 24 := fun p hp => mem_outs.mp hp
  have hfold := Shows.foldl (syncOne_shows mask) State.outs v
  have hsync : ∀ g, OffSt g → (State.outs.foldl (syncOne mask) v).get g = u.get g := fun g hg =>
    (hfold.get g (hg.beside hl)).trans (hget g)
  clear_value v
  refine ⟨_, hexec, ?_, ?_, ?_, ?_, hfold.time.trans (hsame 0 (by decide)).time, fun o ho => ?_⟩
  · rw [State.on, hsync _ (.inl (by decide)), hu, get_set_beside (by decide), State.add, get_set_beside (by decide)]
    exact on_set_zero s _
  · rw [hsync _ (.inl (by decide)), hu, get_set_beside (by decide), State.add, State.get_set_self, get_set_beside (by decide)]
    rfl
  · rw [hsync _ (.inl (by decide)), hu, State.get_set_self]
    exact Nat.mod_mod s.ns (2 ^ 64)
  · exact (counter_of_obs hfold.obs _).trans hcount
  · obtain ⟨x, hx, hxt⟩ := Shows.foldl_at (syncOne_shows mask) List.nodup_range (mem_outs.mpr ho) v
    exact synced_congr ho ((hsame o ho).trans (.of_shows hx)) (syncOne_synced mask x ho) (.of_shows hxt) hxt.kept.1

/-! ## Class G edges (R220) -/

/-- A TIMECODE output has an element to send: that of a new boundary, or the first of a frame. -/
def ElementDue (tc : Option Int) (i : Int) : Prop := match tc with | some j => j ≠ i | none => i % 100 = 0

/-- The element at the present boundary of a TIMECODE output's scale. -/
def element (s : State) (g : ℕ) : ℕ :=
  let i := s.tcIndex g s.q16
  let sc := s.tcScale g s.q16
  let sod := (sc.q / State.secQ % 86400).toNat
  let day := State.civilOf (sc.q / State.secQ / 86400)
  let doy := (State.daysOf day.1.toNat day.2.1 day.2.2 - State.daysOf day.1.toNat 1 1).toNat + 1
  State.irigElem (s.get (F.OUT_G_CFG_IRIG g)) (i % 100).toNat (if sc.leap60 then 60 else sod % 60) (sod / 60 % 60) (sod / 3600) doy
    (day.1.toNat % 100) sod

theorem tcSend_eq (s : State) (g : ℕ) [d : Decidable (ElementDue (s.pin (16 + g)).tc (s.tcIndex g s.q16))] : s.tcSend g =
    if ElementDue (s.pin (16 + g)).tc (s.tcIndex g s.q16) then
      (s.setPin (16 + g) { s.pin (16 + g) with tc := some (s.tcIndex g s.q16), lastEdge := some s.ns }).padOut (16 + g)
        (.timecode (16 + g) (element s g))
    else s := by
  unfold State.tcSend
  extract_lets o i e x due
  have hdue : due = true ↔ ElementDue (s.pin (16 + g)).tc (s.tcIndex g s.q16) := by
    unfold due ElementDue x o
    cases (s.pin (16 + g)).tc with
    | some j => exact decide_eq_true_iff (p := j ≠ i)
    | none =>
      have := Int.emod_nonneg i (b := 100) (by decide)
      change decide ((i % 100).toNat = 0) = true ↔ i % 100 = 0
      rw [decide_eq_true_iff]
      omega
  by_cases h : due = true
  · rw [if_pos h, if_pos (hdue.mp h)]
    rfl
  · rw [if_neg h, if_neg (fun k => h (hdue.mpr k))]

section
variable {g : ℕ} (hg : g < 8)
include hg

theorem does_pulseEnd {tm : ℕ × ℕ} (hend : (s.pin (16 + g)).pulseEnd = some tm) :
    Does (.pulseEnd g) s fun t =>
      t.time = (s.runTo tm.1).time ∧ t.pin (16 + g) = { s.pin (16 + g) with active := false, pulseEnd := none } ∧
      Pad s t (16 + g) (.edge (16 + g) (s.padLevel (16 + g) false) tm.1 tm.2) ∧ SameRegs [] s t := by
  set u := s.runTo tm.1 with hu
  have hpin : u.pin (16 + g) = s.pin (16 + g) := (runTo_shows s tm.1 (16 + g)).2.1
  set v := u.setPin (16 + g) { s.pin (16 + g) with active := false, pulseEnd := none } with hv
  have hexec : exec (.pulseEnd g) s = .next (v.gEdge (16 + g) false tm) := by
    change execPulseEnd g s = _
    unfold execPulseEnd
    rw [hend]
    dsimp only
    rw [if_pos hg, ← hu, hpin]
  have hregs : v.regs = s.regs := regs_runTo s tm.1
  refine ⟨_, hexec, ?_, ?_, ?_, ?_⟩
  · rw [State.gEdge, padOut_eq]
    rfl
  · rw [State.gEdge, padOut_eq]
    exact (pin_setPin u (16 + g) (16 + g) _).trans (if_pos rfl)
  · rw [← padLevel_congr (.of_regs hregs) (by omega)]
    refine Pad.of_padOut (u := v) ?_ (on_of_regs hregs _) fun _ h => h
    rw [hv, hu, runTo_eq]
    rfl
  · rw [State.gEdge, padOut_eq]
    exact SameRegs.of_eq hregs

theorem does_timecodeElement (hrun : s.time.running = true) (hm : s.outMode (16 + g) = 2) (hst : s.outState (16 + g) = 2) :
    Does (.timecodeElement g) s fun t =>
      let o := 16 + g
      let i := t.tcIndex g t.q16
      let sc := t.tcScale g t.q16
      let sod := (sc.q / State.secQ % 86400).toNat
      let day := State.civilOf (sc.q / State.secQ / 86400)
      let doy := (State.daysOf day.1.toNat day.2.1 day.2.2 - State.daysOf day.1.toNat 1 1).toNat + 1
      let due := match (s.pin o).tc with | some j => j ≠ i | none => i % 100 = 0
      t.time = (s.runTo (State.tcNext 8 s g s.ns)).time ∧ SameRegs [] s t ∧
      (due → t.pin o = { s.pin o with tc := some i, lastEdge := some t.ns } ∧
        Pad s t o (.timecode o (State.irigElem (s.get (F.OUT_G_CFG_IRIG g)) (i % 100).toNat (if sc.leap60 then 60 else sod % 60)
          (sod / 60 % 60) (sod / 3600) doy (day.1.toNat % 100) sod))) ∧
      (¬due → t.pin o = s.pin o) := by
  set u := s.runTo (State.tcNext 8 s g s.ns) with hu
  have hexec : exec (.timecodeElement g) s = .next (u.tcSend g) := congrArg Host.Outcome.next (if_pos (by simp [hg, hrun, hm, hst]))
  have hpin : u.pin (16 + g) = s.pin (16 + g) := (runTo_shows s _ (16 + g)).2.1
  have hregs : u.regs = s.regs := regs_runTo s _
  have hpaired : u.syn.paired = s.syn.paired := by rw [hu, runTo_eq]
  clear_value u
  classical
  refine ⟨_, hexec.trans (congrArg _ (tcSend_eq u g)), ?_⟩
  by_cases hdue : ElementDue (u.pin (16 + g)).tc (u.tcIndex g u.q16)
  · rw [if_pos hdue, padOut_eq]
    refine ⟨rfl, SameRegs.of_eq hregs, fun _ => ⟨?_, ?_⟩, fun h => absurd (hpin ▸ hdue) h⟩
    · rw [← hpin]
      exact (pin_setPin u (16 + g) (16 + g) _).trans (if_pos rfl)
    · have hirig : u.get (F.OUT_G_CFG_IRIG g) = s.get (F.OUT_G_CFG_IRIG g) := get_of_regs hregs _
      rw [← hirig]
      exact Pad.of_padOut (u := u.setPin (16 + g) _) hpaired (on_of_regs hregs _) fun _ h => h
  · rw [if_neg hdue]
    exact ⟨rfl, SameRegs.of_eq hregs, fun h => absurd (hpin ▸ h) hdue, fun _ => hpin⟩

end

section
variable (u : State) (g kind : ℕ) (tm : ℕ × ℕ)

/-- An edge is no matter of time or of the scheduler. -/
theorem goutEdge_kept : (u.goutEdge g kind tm).time = u.time ∧ (u.goutEdge g kind tm).sch = u.sch := by
  have hedge : ∀ (v : State) (o : ℕ) (a : Bool) (e : ℕ × ℕ), (v.gEdge o a e).time = v.time ∧ (v.gEdge o a e).sch = v.sch := by
    intro v o a e
    rw [State.gEdge, padOut_eq]
    exact ⟨rfl, rfl⟩
  have hcount : ∀ (v : State) (i : ℕ), (v.count i).time = v.time ∧ (v.count i).sch = v.sch := fun v i =>
    ⟨time_of_calm (State.countN_calm v i 1), sch_of_calm (State.countN_calm v i 1)⟩
  unfold State.goutEdge
  extract_lets o mode x e fin
  split
  · exact ⟨rfl, rfl⟩
  split
  · split
    · exact hedge _ _ _ _
    split
    · exact hedge _ _ _ _
    · exact ⟨rfl, rfl⟩
  split
  · split
    · exact hedge _ _ _ _
    split
    · exact hedge _ _ _ _
    split
    · exact hcount _ _
    · exact hedge _ _ _ _
  · exact ⟨rfl, rfl⟩

variable {u g kind tm} (hst : u.outState (16 + g) = 2)
include hst

theorem goutEdge_open (hm : u.outMode (16 + g) = 0) (hk : kind = 0) (hx : (u.pin (16 + g)).active = false) :
    u.goutEdge g kind tm = (u.setPin (16 + g) { u.pin (16 + g) with
      active := true, lastEdge := some (u.clockEdge (16 + g) tm false).1 }).gEdge (16 + g) true (u.clockEdge (16 + g) tm false) := by
  unfold State.goutEdge
  extract_lets o mode x e fin
  rw [if_neg (by simp [o, hst]), if_pos hm, if_pos (by simp [hk, x, o, hx])]

theorem goutEdge_close (hm : u.outMode (16 + g) = 0) (hk : kind = 1) (hx : (u.pin (16 + g)).active = true) :
    u.goutEdge g kind tm =
      (u.setPin (16 + g) { u.pin (16 + g) with active := false }).gEdge (16 + g) false (u.clockEdge (16 + g) tm true) := by
  unfold State.goutEdge
  extract_lets o mode x e fin
  rw [if_neg (by simp [o, hst]), if_pos hm, if_neg (by simp [hk]), if_pos (by simp [hk, x, o, hx])]

theorem goutEdge_idle (hm : u.outMode (16 + g) = 0)
    (hk : kind = 0 ∧ (u.pin (16 + g)).active = true ∨ kind = 1 ∧ (u.pin (16 + g)).active = false ∨ 2 ≤ kind) :
    u.goutEdge g kind tm = u := by
  unfold State.goutEdge
  extract_lets o mode x e fin
  rw [if_neg (by simp [o, hst]), if_pos hm, if_neg, if_neg]
  · rcases hk with ⟨rfl, -⟩ | ⟨rfl, hx⟩ | hk
    · simp
    · simp [x, o, hx]
    · simp
      omega
  · rcases hk with ⟨rfl, hx⟩ | ⟨rfl, -⟩ | hk
    · simp [x, o, hx]
    · simp
    · simp
      omega

theorem goutEdge_rise (hm : u.outMode (16 + g) = 1) (hk : kind = 0) : u.goutEdge g kind tm =
    (u.setPin (16 + g) { u.pin (16 + g) with active := true, pulseEnd := none, lastEdge := some tm.1 }).gEdge (16 + g) true tm := by
  unfold State.goutEdge
  extract_lets o mode x e fin
  rw [if_neg (by simp [o, hst]), if_neg (by simp [mode, o, hm]), if_pos hm, if_pos hk]

theorem goutEdge_fall (hm : u.outMode (16 + g) = 1) (hk : kind = 1) : u.goutEdge g kind tm =
    (u.setPin (16 + g) { u.pin (16 + g) with active := false, pulseEnd := none }).gEdge (16 + g) false tm := by
  unfold State.goutEdge
  extract_lets o mode x e fin
  rw [if_neg (by simp [o, hst]), if_neg (by simp [mode, o, hm]), if_pos hm, if_neg (by simp [hk]), if_pos hk]

theorem goutEdge_pulse (hm : u.outMode (16 + g) = 1) (hk : kind = 2) (hx : (u.pin (16 + g)).pulseEnd = none) : u.goutEdge g kind tm =
    (u.setPin (16 + g) { u.pin (16 + g) with
      active := true, pulseEnd := some (tm.1 + u.get (F.OUT_G_CFG_WIDTH g), tm.2), lastEdge := some tm.1 }).gEdge (16 + g) true tm := by
  unfold State.goutEdge
  extract_lets o mode x e fin
  rw [if_neg (by simp [o, hst]), if_neg (by simp [mode, o, hm]), if_pos hm, if_neg (by simp [hk]), if_neg (by simp [hk]),
    if_neg (by simp [x, o, hx])]

theorem goutEdge_extend (hm : u.outMode (16 + g) = 1) (hk : kind = 2) (hx : (u.pin (16 + g)).pulseEnd ≠ none) : u.goutEdge g kind tm =
    ((u.setPin (16 + g) { u.pin (16 + g) with pulseEnd := some (tm.1 + u.get (F.OUT_G_CFG_WIDTH g), tm.2) }).add
      (F.OUT_ST_OVERLAP (16 + g)) 1).count (0x34F + g) := by
  unfold State.goutEdge
  extract_lets o mode x e fin
  rw [if_neg (by simp [o, hst]), if_neg (by simp [mode, o, hm]), if_pos hm, if_neg (by simp [hk]), if_neg (by simp [hk]),
    if_pos (Option.isSome_iff_ne_none.mpr hx)]

end

theorem clockEdge_congr (hregs : u.regs = s.regs) (hsyn : u.syn = s.syn) {p : ℕ} (hp : p < 24) (tm : ℕ × ℕ) (half : Bool) :
    u.clockEdge p tm half = s.clockEdge p tm half := by
  have hdiv : u.outDiv p = s.outDiv p := by
    unfold State.outDiv
    split <;> exact get_of_regs hregs _
  have hper : u.outPeriod p = s.outPeriod p := by
    rw [State.outPeriod, hdiv, outBurnOf_congr (.of_regs hregs) hp, vcoPeriod_congr (outBurnOf_lt s p)
      ⟨by rw [hsyn], fun g _ _ => get_of_regs hregs g⟩, State.outPeriod]
  unfold State.clockEdge
  rw [pin_congr (by rw [hsyn] : u.syn.pins = s.syn.pins), hper]

/-- The edge, or the pulse, has appeared at pad p, whose state is x now. -/
theorem gEdge_facts {p : ℕ} (hp : p < 24) (hregs : u.regs = s.regs) (hsyn : u.syn = s.syn) (x : PinSt) (active : Bool) (e : ℕ × ℕ) :
    ((u.setPin p x).gEdge p active e).pin p = x ∧
      Pad s ((u.setPin p x).gEdge p active e) p (.edge p (s.padLevel p active) e.1 e.2) ∧
      SameRegs [] s ((u.setPin p x).gEdge p active e) := by
  have hlevel : (u.setPin p x).padLevel p active = s.padLevel p active := padLevel_congr (.of_regs hregs) hp active
  have hpaired : u.syn.paired = s.syn.paired := by rw [hsyn]
  rw [State.gEdge, hlevel, padOut_eq]
  exact ⟨(pin_setPin u p p x).trans (if_pos rfl), Pad.of_padOut (u := u.setPin p x) hpaired (on_of_regs hregs _)
    fun _ h => h, SameRegs.of_eq hregs⟩

theorem does_goutEdge {o : State.Occ} {id : ℕ} (h : Acts s o id 5) :
    let g := bitsOf o.ent.arg 0 3
    let kind := bitsOf o.ent.arg 4 2
    let p := 16 + g
    let x := s.pin p
    Does (.goutEdge id) s fun t =>
      let tm := s.edgeAt g (t.unshort o.ent.epoch).toNat o.ent.frac
      Acted s t o ∧
      (s.outState p ≠ 2 → t.pin p = x ∧ SameRegs [] s t) ∧
      (s.outState p = 2 → s.outMode p = 0 → kind = 0 → x.active = false →
        let ce := s.clockEdge p tm false
        t.pin p = { x with active := true, lastEdge := some ce.1 } ∧ Pad s t p (.edge p (s.padLevel p true) ce.1 ce.2) ∧
        SameRegs [] s t) ∧
      (s.outState p = 2 → s.outMode p = 0 → kind = 1 → x.active = true →
        let ce := s.clockEdge p tm true
        t.pin p = { x with active := false } ∧ Pad s t p (.edge p (s.padLevel p false) ce.1 ce.2) ∧ SameRegs [] s t) ∧
      (s.outState p = 2 → s.outMode p = 0 → kind = 0 ∧ x.active = true ∨ kind = 1 ∧ x.active = false ∨ 2 ≤ kind →
        t.pin p = x ∧ SameRegs [] s t) ∧
      (s.outState p = 2 → s.outMode p = 1 → kind = 0 →
        t.pin p = { x with active := true, pulseEnd := none, lastEdge := some tm.1 } ∧
        Pad s t p (.edge p (s.padLevel p true) tm.1 tm.2) ∧ SameRegs [] s t) ∧
      (s.outState p = 2 → s.outMode p = 1 → kind = 1 →
        t.pin p = { x with active := false, pulseEnd := none } ∧
        Pad s t p (.edge p (s.padLevel p false) tm.1 tm.2) ∧ SameRegs [] s t) ∧
      (s.outState p = 2 → s.outMode p = 1 → kind = 2 → x.pulseEnd = none →
        t.pin p = { x with
          active := true, pulseEnd := some (tm.1 + s.get (F.OUT_G_CFG_WIDTH g), tm.2), lastEdge := some tm.1 } ∧
        Pad s t p (.edge p (s.padLevel p true) tm.1 tm.2) ∧ SameRegs [] s t) ∧
      (s.outState p = 2 → s.outMode p = 1 → kind = 2 → x.pulseEnd ≠ none →
        t.pin p = { x with pulseEnd := some (tm.1 + s.get (F.OUT_G_CFG_WIDTH g), tm.2) } ∧
        t.get (F.OUT_ST_OVERLAP p) = (s.get (F.OUT_ST_OVERLAP p) + 1) % 256 ∧ Counts s t (0x34F + g) 1 ∧
        SameRegs (words [F.OUT_ST_OVERLAP p]) s t) := by
  intro g kind p x
  have hg : g < 8 := Nat.mod_lt _ (by decide)
  have hp : p < 24 := by omega
  set u := atDue s o with hu
  have hregs : u.regs = s.regs := atDue_regs s o
  have hsyn : u.syn = s.syn := by
    have h := congrArg State.syn (atDue_calm s o)
    exact h
  have hcount : u.counter (0x34F + g) = s.counter (0x34F + g) := counter_atDue s o (by simp [selfCounted]; omega) (by omega)
  have hupd : s.sch.updWait = 0 := h.2.2.2.2.2.2.2.2
  set e := u.edgeAt g (u.unshort o.ent.epoch).toNat o.ent.frac with he
  have hexec : exec (.goutEdge id) s = .next (u.goutEdge g kind e) := congrArg Host.Outcome.next (scheduled_of_acts
    (ok := fun _ => true) (act := fun s e => s.goutEdge (bitsOf e.arg 0 3) (bitsOf e.arg 4 2)
      (s.edgeAt (bitsOf e.arg 0 3) (s.unshort e.epoch).toNat e.frac)) h rfl (by
    rw [(goutEdge_kept ..).2, atDue_updWait, hupd]))
  have hacted : Acted s u o := atDue_acted s o
  have hpin : u.pin p = x := pin_congr (by rw [hsyn]) p
  have hst : u.outState p = s.outState p := get_of_regs hregs _
  have hm : u.outMode p = s.outMode p := outMode_congr (.of_regs hregs) hp
  have hwidth : u.get (F.OUT_G_CFG_WIDTH g) = s.get (F.OUT_G_CFG_WIDTH g) := get_of_regs hregs _
  have htm : s.edgeAt g ((u.goutEdge g kind e).unshort o.ent.epoch).toNat o.ent.frac = e := by
    have hshort : (u.goutEdge g kind e).unshort o.ent.epoch = u.unshort o.ent.epoch := by
      simp only [State.unshort, State.ns, State.short, (goutEdge_kept ..).1]
    rw [hshort, he]
    simp only [State.edgeAt, State.getI, get_of_regs hregs]
    rfl
  have hidle : u.goutEdge g kind e = u → (u.goutEdge g kind e).pin p = x ∧ SameRegs [] s (u.goutEdge g kind e) := fun h => by
    rw [h]
    exact ⟨hpin, SameRegs.of_eq hregs⟩
  refine ⟨_, hexec, ?_⟩
  dsimp only
  rw [htm]
  clear_value u e kind g
  refine ⟨⟨(goutEdge_kept ..).1.trans hacted.1, (congrArg _ (goutEdge_kept ..).2).trans hacted.2⟩, fun h0 => hidle ?_,
    fun h2 h0 hk hx => ?_, fun h2 h0 hk hx => ?_, fun h2 h0 hk => hidle ?_, fun h2 h1 hk => ?_, fun h2 h1 hk => ?_, fun h2 h1 hk hx => ?_,
    fun h2 h1 hk hx => ?_⟩
  · exact if_pos (by rw [hst]; exact h0)
  · rw [goutEdge_open (hst.trans h2) (hm.trans h0) hk (by rw [hpin]; exact hx), hpin, clockEdge_congr hregs hsyn hp]
    exact gEdge_facts hp hregs hsyn _ _ _
  · rw [goutEdge_close (hst.trans h2) (hm.trans h0) hk (by rw [hpin]; exact hx), hpin, clockEdge_congr hregs hsyn hp]
    exact gEdge_facts hp hregs hsyn _ _ _
  · exact goutEdge_idle (hst.trans h2) (hm.trans h0) (by rw [hpin]; exact hk)
  · rw [goutEdge_rise (hst.trans h2) (hm.trans h1) hk, hpin]
    exact gEdge_facts hp hregs hsyn _ _ _
  · rw [goutEdge_fall (hst.trans h2) (hm.trans h1) hk, hpin]
    exact gEdge_facts hp hregs hsyn _ _ _
  · rw [goutEdge_pulse (hst.trans h2) (hm.trans h1) hk (by rw [hpin]; exact hx), hpin, hwidth]
    exact gEdge_facts hp hregs hsyn _ _ _
  · rw [goutEdge_extend (hst.trans h2) (hm.trans h1) hk (by rw [hpin]; exact hx), hpin, hwidth]
    set v := u.setPin p { x with pulseEnd := some (e.1 + s.get (F.OUT_G_CFG_WIDTH g), e.2) } with hv
    have hcalm := State.countN_calm (v.add (F.OUT_ST_OVERLAP p) 1) (0x34F + g) 1
    have hsyn' : ((v.add (F.OUT_ST_OVERLAP p) 1).countN (0x34F + g) 1).syn = v.syn := by
      have h := congrArg State.syn hcalm
      exact h
    have hvget : v.get (F.OUT_ST_OVERLAP p) = s.get (F.OUT_ST_OVERLAP p) := get_of_regs hregs _
    refine ⟨?_, ?_, ?_, ?_⟩
    · exact (pin_congr (by rw [State.count, hsyn']) p).trans ((pin_setPin u p p _).trans (if_pos rfl))
    · rw [State.count, State.countN_get, State.add, State.get_set_self, hvget]
      rfl
    · exact (counter_count_self (v.add (F.OUT_ST_OVERLAP p) 1) (by simp [selfCounted]; omega)).trans
        (congrArg (fun n => (n + 1) % 2 ^ 64) hcount)
    · exact SameRegs.of_regs (SameRegs.set (t := v) (SameRegs.of_eq hregs) _ (.of_mem (List.mem_singleton_self _))) (regs_of_calm hcalm)

/-- Settles O52, a lemma for each clause. -/
theorem outputEdges : Obligations.OutputEdges :=
  ⟨fun _ _ ho hstop => does_outputStop ho hstop, fun _ _ ho hm hst hlock => does_outputReturn ho hm hst hlock,
    fun _ harm => does_syncinEdge harm, fun _ harm => does_syncinEdge_ignored harm, fun _ _ _ h => does_goutEdge h,
    fun _ _ _ hg hend => does_pulseEnd hg hend, fun _ _ hg hrun hm hst => does_timecodeElement hg hrun hm hst⟩

end Sys2Proof.Proofs
end

section
/-!
O51: the Burnishers (R204 to R212, R218). A state entered by `burnTo` clears ALIGNED of the outputs that the Burnisher feeds, and
BYPASS takes those in RUNNING with it: each output in turn (`Shows.foldl_at`).
-/

open Sys2Proof Sys2Proof.Machine Sys2Proof.Claims

namespace Sys2Proof.Proofs

variable {s t u : State} {b : ℕ}

/-! ## The outputs in turn -/

/-- The turn of output o, in a step of each output that touches no other. -/
theorem turn_of_output {f : State → ℕ → State} (hf : ∀ v o, Shows (stFlds o) [o] v (f v o)) {o : ℕ} (ho : o < 24) (s : State) :
    ∃ v, OutSame o s v ∧ (∀ g, OffSt g → v.get g = s.get g) ∧ OutSame o (f v o) (State.outs.foldl f s) ∧
      ∀ x ∈ (f v o).out, x ∈ (State.outs.foldl f s).out := by
  obtain ⟨v, hv, ht⟩ := Shows.foldl_at hf List.nodup_range (mem_outs.mpr ho) s
  exact ⟨v, .of_shows hv, fun g hg => hv.get g (hg.beside fun p hp => mem_outs.mp (List.mem_of_mem_erase hp)), .of_shows ht,
    ht.kept.1⟩

theorem outs_get {f : State → ℕ → State} (hf : ∀ v o, Shows (stFlds o) [o] v (f v o)) (s : State) {g : Fld} (hg : OffSt g) :
    (State.outs.foldl f s).get g = s.get g :=
  (Shows.foldl hf State.outs s).get g (hg.beside fun _ => mem_outs.mp)

/-- What `unalign` does to output o. -/
def unalignOne (b : ℕ) (s : State) (o : ℕ) : State := if s.feeds b o then s.set (F.OUT_ST_ALIGNED o) 0 else s

theorem unalignOne_shows (b : ℕ) (s : State) (o : ℕ) : Shows (stFlds o) [o] s (unalignOne b s o) := by
  unfold unalignOne
  split
  · exact (Shows.refl _ _ s).set (by simp [stFlds]) 0
  · exact .refl _ _ s

theorem unalign_eq (s : State) (b : ℕ) : s.unalign b = State.outs.foldl (unalignOne b) s := rfl

theorem unalign_output {o : ℕ} (ho : o < 24) (s : State) (b : ℕ) : (s.unalign b).outState o = s.outState o ∧
    (s.unalign b).on (F.OUT_ST_ALIGNED o) = (!s.feeds b o && s.on (F.OUT_ST_ALIGNED o)) := by
  obtain ⟨v, hv, -, ht, -⟩ := turn_of_output (unalignOne_shows b) ho s
  rw [unalign_eq, ht.st, ht.al, unalignOne]
  cases hfeeds : s.feeds b o <;> rw [feeds_congr hv.cfg ho, hfeeds]
  · exact ⟨hv.st, hv.al⟩
  · exact ⟨(get_set_beside (beside_aligned_state o) v 0).trans hv.st, on_set_zero v _⟩

/-- What an entry to BYPASS does to output o. -/
def bypassOne (b : ℕ) (s : State) (o : ℕ) : State :=
  if s.feeds b o && s.outState o = 2 then (s.set (F.OUT_ST_STATE o) 3).outBypassed o else s

theorem bypassOne_shows (b : ℕ) (s : State) (o : ℕ) : Shows (stFlds o) [o] s (bypassOne b s o) := by
  unfold bypassOne
  split
  · rw [outBypassed_eq]
    exact ((Shows.refl _ _ s).set (by simp [stFlds]) 3).padOut o _
  · exact .refl _ _ s

theorem bypass_output {o : ℕ} (ho : o < 24) (s : State) (b : ℕ) :
    let t := State.outs.foldl (bypassOne b) s
    t.outState o = (if s.feeds b o = true ∧ s.outState o = 2 then 3 else s.outState o) ∧
      t.on (F.OUT_ST_ALIGNED o) = s.on (F.OUT_ST_ALIGNED o) ∧
      (s.feeds b o = true → s.outState o = 2 → Pad s t o (bypOut t o)) := by
  intro t
  obtain ⟨v, hv, hoff, ht, hout⟩ := turn_of_output (bypassOne_shows b) ho s
  have hlos : t.on F.SYN_BYP_ST_BYP_LOS = s.on F.SYN_BYP_ST_BYP_LOS := by
    rw [State.on, outs_get (bypassOne_shows b) s (.inl (by decide)), State.on]
  have hshown : bypOut t o = bypOut s o :=
    bypOut_congr (fun g hg => outs_get (bypassOne_shows b) s (.inl hg.2)) ho hlos
  have hl : ∀ p ∈ [o], p < 24 := by simpa using ho
  have hset : Mild (stFlds o) v (v.set (F.OUT_ST_STATE o) 3) := (Mild.refl _ v).set (by simp [stFlds]) 3
  rw [ht.st, ht.al, hshown]
  by_cases hgo : s.feeds b o = true ∧ s.outState o = 2
  · have hone : bypassOne b v o = (v.set (F.OUT_ST_STATE o) 3).padOut o (bypOut s o) := by
      rw [← bypOut_congr (t := v.set (F.OUT_ST_STATE o) 3) _ ho _, ← outBypassed_eq]
      · exact if_pos (by rw [feeds_congr hv.cfg ho, hv.st]; simpa using hgo)
      · exact fun g hg => (hset.get g (by simpa using OffSt.beside (.inl hg.2) hl)).trans (hoff g (.inl hg.2))
      · rw [hset.on (by simpa using OffSt.beside (.inl (by decide)) hl), State.on, hoff _ (.inl (by decide)), State.on]
    rw [hone, if_pos hgo, padOut_eq]
    refine ⟨?_, ?_, fun _ _ => ?_⟩
    · exact State.get_set_self v (F.OUT_ST_STATE o) 3
    · exact (on_set_beside (beside_state_aligned o) v 3).trans hv.al
    · refine Pad.of_padOut (u := v.set (F.OUT_ST_STATE o) 3) hv.paired ?_ (hone ▸ hout)
      rw [hset.on (by simpa using OffSt.beside (.inr (by decide)) hl), State.on, hoff _ (.inr (by decide)), State.on]
  · rw [if_neg hgo]
    have hone : bypassOne b v o = v := if_neg (by rw [feeds_congr hv.cfg ho, hv.st]; simpa using hgo)
    rw [hone]
    exact ⟨hv.st, hv.al, fun h1 h2 => absurd ⟨h1, h2⟩ hgo⟩

/-! ## A Burnisher enters a state -/

/-- The Burnisher's own state and LOCKA as it enters state st, before its outputs. -/
def entered (s : State) (b st : ℕ) : State := ((s.set (F.SYN_BURN_ST_STATE b) st).setBurn b { s.burn b with since := s.ns }).lockaOut b

theorem burnTo_eq (s : State) (b : ℕ) {st : ℕ} (h3 : st ≠ 3) : s.burnTo b st = (entered s b st).unalign b := if_neg h3

theorem lockaPin_congr (hpg : t.get F.SYS_PD_ST_PG = s.get F.SYS_PD_ST_PG) (hst : t.burnState b = s.burnState b)
    (h3 : s.burnState b ≠ 3) : t.lockaPin b = s.lockaPin b := by
  rw [State.lockaPin, State.lockaPin, State.pdUp, hpg, hst, if_neg h3, if_neg h3]
  rfl

/-- Burnisher b has entered state st, its outputs in the states they had. -/
structure Entered (s t : State) (b st : ℕ) : Prop where
  st : t.burnState b = st
  burn : t.burn b = { s.burn b with since := s.ns }
  locka : Sends t (.locka b (t.lockaPin b))
  aligned : ∀ o < 24, t.on (F.OUT_ST_ALIGNED o) = (!s.feeds b o && s.on (F.OUT_ST_ALIGNED o))
  outs : ∀ o < 24, t.outState o = s.outState o
  off : ∀ g, OffSt g → Beside (F.SYN_BURN_ST_STATE b) g → t.get g = s.get g
  time : t.time = s.time
  paired : t.syn.paired = s.syn.paired
  obs : t.obs = s.obs

theorem beside_burnState {f : Fld} (hb : b < 4) (hf : 0x501000 ≤ f.a) : Beside (F.SYN_BURN_ST_STATE b) f :=
  .inr (.inl (by dsimp only [Store.span]; omega))

theorem offSt_burnState (hb : b < 4) : OffSt (F.SYN_BURN_ST_STATE b) := .inl (by dsimp only [Store.span]; omega)

theorem burnTo_entered (hb : b < 4) {st : ℕ} (h3 : st ≠ 3) (h8 : st < 8) : Entered s (s.burnTo b st) b st := by
  rw [burnTo_eq s b h3]
  set u := entered s b st with hu
  have hst : u.burnState b = st := (State.get_set_self s (F.SYN_BURN_ST_STATE b) st).trans (Nat.mod_eq_of_lt h8)
  have hoff : ∀ g, Beside (F.SYN_BURN_ST_STATE b) g → u.get g = s.get g := fun g hg => get_set_beside hg s st
  have hon : ∀ g, Beside (F.SYN_BURN_ST_STATE b) g → u.on g = s.on g := fun g hg => on_set_beside hg s st
  have hcfg : CfgSame s u := fun g hg => hoff g (beside_burnState hb hg.1)
  have hfold := Shows.foldl (unalignOne_shows b) State.outs u
  have hsame : ∀ g, OffSt g → (u.unalign b).get g = u.get g := fun g hg => outs_get (unalignOne_shows b) u hg
  have hstate : (u.unalign b).burnState b = u.burnState b := hsame _ (offSt_burnState hb)
  refine ⟨hstate.trans hst, ?_, ?_, fun o ho => ?_, fun o ho => ?_, fun g hg hbg => (hsame g hg).trans (hoff g hbg), hfold.time,
    hfold.paired, hfold.obs⟩
  · exact (burn_congr (s := u) hfold.burns b).trans ((burn_setBurn (s.set (F.SYN_BURN_ST_STATE b) st) b b _).trans (if_pos rfl))
  · rw [lockaPin_congr (s := u) (hsame _ (.inr (by decide))) hstate (hst ▸ h3)]
    exact hfold.kept.1 _ List.mem_cons_self
  · rw [(unalign_output ho u b).2, feeds_congr hcfg ho, hon _ (beside_burnState hb (by dsimp only; omega))]
  · rw [(unalign_output ho u b).1]
    exact hoff _ (beside_burnState hb (by dsimp only; omega))

/-! ## BYPASS -/

/-- Where an entry to BYPASS is shown of Burnisher b. -/
def burnFlds (b : ℕ) : List Fld := [F.SYN_BURN_ST_STATE b, F.SYN_BURN_ST_LOSSES b, F.SYN_BURN_ST_FAIL b]

/-- A field that neither the outputs' states nor an entry of Burnisher b to BYPASS touch. -/
def OffBurn (b : ℕ) (g : Fld) : Prop := OffSt g ∧ ∀ f ∈ burnFlds b, Beside f g

/-- A field outside the word of Burnisher b's phase error and PFD frequency. -/
def OffBurnWord (b : ℕ) (g : Fld) : Prop := Beside ⟨0x500244 + 8 * b, 0, 32⟩ g

/-- The losses and the cause of an entry to BYPASS, before the outputs. -/
def lossShown (s : State) (b fail : ℕ) : State :=
  if fail = 0 then (s.add (F.SYN_BURN_ST_LOSSES b) 1).count (0x341 + b)
  else ((s.add (F.SYN_BURN_ST_LOSSES b) 1).count (0x341 + b)).set (F.SYN_BURN_ST_FAIL b) fail

theorem burnBypass_eq (s : State) (b fail : ℕ) :
    s.burnBypass b fail = State.outs.foldl (bypassOne b) (lossShown (s.burnTo b 4) b fail) := rfl

theorem beside_losses_fail (b : ℕ) : Beside (F.SYN_BURN_ST_FAIL b) (F.SYN_BURN_ST_LOSSES b) :=
  .inr (.inr ⟨rfl, by dsimp only [Store.span], .inr (by dsimp only; omega)⟩)

theorem beside_fail_losses (b : ℕ) : Beside (F.SYN_BURN_ST_LOSSES b) (F.SYN_BURN_ST_FAIL b) :=
  .inr (.inr ⟨rfl, by dsimp only [Store.span], .inl (by dsimp only; omega)⟩)

section
variable (s : State) (b fail : ℕ)

theorem lossShown_mild : Mild [F.SYN_BURN_ST_LOSSES b, F.SYN_BURN_ST_FAIL b] s (lossShown s b fail) := by
  have h : Mild [F.SYN_BURN_ST_LOSSES b, F.SYN_BURN_ST_FAIL b] s ((s.add (F.SYN_BURN_ST_LOSSES b) 1).count (0x341 + b)) :=
    ((Mild.refl _ s).set (by simp) _).count _
  unfold lossShown
  split
  · exact h
  · exact h.set (by simp) fail

theorem lossShown_syn : (lossShown s b fail).syn = s.syn := by
  have hcalm := congrArg State.syn (State.countN_calm (s.add (F.SYN_BURN_ST_LOSSES b) 1) (0x341 + b) 1)
  unfold lossShown
  split <;> exact hcalm

theorem lossShown_losses :
    (lossShown s b fail).get (F.SYN_BURN_ST_LOSSES b) = (s.get (F.SYN_BURN_ST_LOSSES b) + 1) % 256 := by
  have h : ((s.add (F.SYN_BURN_ST_LOSSES b) 1).count (0x341 + b)).get (F.SYN_BURN_ST_LOSSES b) =
      (s.get (F.SYN_BURN_ST_LOSSES b) + 1) % 256 := by
    rw [State.count, State.countN_get, State.add, State.get_set_self]
    rfl
  unfold lossShown
  split
  · exact h
  · rw [get_set_beside (beside_losses_fail b), h]

theorem lossShown_fail (hfail : fail < 4) :
    (lossShown s b fail).get (F.SYN_BURN_ST_FAIL b) = if fail = 0 then s.get (F.SYN_BURN_ST_FAIL b) else fail := by
  unfold lossShown
  split
  · rw [State.count, State.countN_get, State.add, get_set_beside (beside_fail_losses b)]
  · exact (State.get_set_self _ (F.SYN_BURN_ST_FAIL b) fail).trans (Nat.mod_eq_of_lt hfail)

theorem lossShown_counter (hb : b < 4) : (lossShown s b fail).counter (0x341 + b) = (s.counter (0x341 + b) + 1) % 2 ^ 64 := by
  have h : ((s.add (F.SYN_BURN_ST_LOSSES b) 1).count (0x341 + b)).counter (0x341 + b) = (s.counter (0x341 + b) + 1) % 2 ^ 64 :=
    counter_count_self (s.add (F.SYN_BURN_ST_LOSSES b) 1) (by simp [selfCounted]; omega)
  unfold lossShown
  split <;> exact h

end

theorem burnBypass_facts (hb : b < 4) {fail : ℕ} (hfail : fail < 4) :
    Bypassed s (s.burnBypass b fail) b fail ∧ (s.burnBypass b fail).time = s.time ∧
      (s.burnBypass b fail).burn b = { s.burn b with since := s.ns } ∧
      ∀ g, OffBurn b g → (s.burnBypass b fail).get g = s.get g := by
  have hin := burnTo_entered (s := s) hb (st := 4) (by decide) (by decide)
  have hloss := lossShown_mild (s.burnTo b 4) b fail
  have hlsyn := lossShown_syn (s.burnTo b 4) b fail
  have hl1 := lossShown_losses (s.burnTo b 4) b fail
  have hl2 := lossShown_fail (s.burnTo b 4) b fail hfail
  have hl3 := lossShown_counter (s.burnTo b 4) b fail hb
  rw [burnBypass_eq]
  set u := s.burnTo b 4 with hu
  clear_value u
  set w := lossShown u b fail with hw
  clear_value w
  have hfold := Shows.foldl (bypassOne_shows b) State.outs w
  have hout : ∀ o < 24, _ := fun o ho => bypass_output ho w b
  have hsame : ∀ g, OffSt g → (State.outs.foldl (bypassOne b) w).get g = w.get g := fun g hg => outs_get (bypassOne_shows b) w hg
  set t := State.outs.foldl (bypassOne b) w with ht
  clear_value t
  have hwoff : ∀ g, (∀ f ∈ burnFlds b, Beside f g) → w.get g = u.get g := fun g hg =>
    hloss.get g fun f hf => hg f (List.mem_cons_of_mem _ hf)
  have hoff : ∀ g, OffBurn b g → t.get g = s.get g := fun g hg =>
    (hsame g hg.1).trans ((hwoff g hg.2).trans (hin.off g hg.1 (hg.2 _ List.mem_cons_self)))
  have hburn : t.burn b = { s.burn b with since := s.ns } :=
    (burn_congr hfold.burns b).trans ((burn_congr (by rw [hlsyn]) b).trans hin.burn)
  have htime : t.time = s.time := hfold.time.trans (hloss.time.trans hin.time)
  have hbs : ∀ f ∈ [F.SYN_BURN_ST_LOSSES b, F.SYN_BURN_ST_FAIL b], Beside f (F.SYN_BURN_ST_STATE b) := by
    intro f hf
    rcases List.mem_pair.mp hf with rfl | rfl <;> exact .inr (.inr ⟨rfl, by dsimp only [Store.span], .inl (by dsimp only; omega)⟩)
  have hst : t.burnState b = u.burnState b := (hsame _ (offSt_burnState hb)).trans (hloss.get _ hbs)
  have hoffout : ∀ g : Fld, 0x501000 ≤ g.a → ∀ f ∈ burnFlds b, Beside f g := by
    intro g hg f hf
    simp only [burnFlds, List.mem_cons, List.not_mem_nil, or_false] at hf
    rcases hf with rfl | rfl | rfl <;> exact .inr (.inl (by dsimp only [Store.span]; omega))
  have hcfg : CfgSame s w := fun g hg =>
    (hwoff g (hoffout g hg.1)).trans (hin.off g (.inl hg.2) (beside_burnState hb hg.1))
  have hwst : ∀ o < 24, w.outState o = s.outState o := fun o ho =>
    (hwoff _ (hoffout _ (by dsimp only; omega))).trans (hin.outs o ho)
  have hal : ∀ o < 24, t.on (F.OUT_ST_ALIGNED o) = (!s.feeds b o && s.on (F.OUT_ST_ALIGNED o)) := fun o ho => by
    rw [(hout o ho).2.1, State.on, hwoff _ (hoffout _ (by dsimp only; omega)), ← State.on, hin.aligned o ho]
  have hword : ∀ g : Fld, g.a = 0x500240 + 8 * b → Store.span g = 1 → 14 ≤ g.lo + 2 ∧ 3 ≤ g.lo →
      OffSt g ∧ Beside (F.SYN_BURN_ST_STATE b) g := fun g ha hs hlo =>
    ⟨.inl (by omega), .inr (.inr ⟨ha, hs.trans (by dsimp only [Store.span]), .inr (by dsimp only; omega)⟩)⟩
  have hlosses := hword (F.SYN_BURN_ST_LOSSES b) rfl (by dsimp only [Store.span]) (by dsimp only; omega)
  have hfails := hword (F.SYN_BURN_ST_FAIL b) rfl (by dsimp only [Store.span]) (by dsimp only; omega)
  refine ⟨⟨⟨hst.trans hin.st, ?_, ?_, fun o ho hf => ?_, fun o ho => ?_, fun o ho hf => ?_⟩, ?_, ?_, ?_, fun o ho hf h2 => ?_⟩, htime,
    hburn, hoff⟩
  · rw [hburn, State.ns, State.ns, htime]
  · have hpg : t.get F.SYS_PD_ST_PG = u.get F.SYS_PD_ST_PG := (hsame _ (.inr (by decide))).trans (hwoff _ (hoffout _ (by decide)))
    rw [lockaPin_congr hpg hst (by rw [hin.st]; decide)]
    exact hfold.kept.1 _ (hloss.kept.1 _ hin.locka)
  · rw [hal o ho, hf]
    rfl
  · rw [(hout o ho).1, feeds_congr hcfg ho, hwst o ho]
    simp
  · rw [hal o ho, hf]
    rfl
  · rw [hsame _ hlosses.1, hl1, hin.off _ hlosses.1 hlosses.2]
  · rw [hsame _ hfails.1, hl2, hin.off _ hfails.1 hfails.2]
  · exact (counter_of_obs hfold.obs _).trans (hl3.trans (congrArg (fun n => (n + 1) % 2 ^ 64) (counter_of_obs hin.obs _)))
  · have hpad := (hout o ho).2.2 ((feeds_congr hcfg ho b).trans hf) ((hwst o ho).trans h2)
    intro hp
    refine hpad ?_
    rwa [hlsyn, hin.paired, State.on, hwoff _ (hoffout _ (by decide)), hin.off _ (.inr (by decide)) (beside_burnState hb (by decide))]

/-- A change of time or of the Burnisher's phase error does not matter to what an entry to BYPASS is to have done. -/
theorem bypassed_congr {v : State} {fail : ℕ} (hb : b < 4) (hget : ∀ g, OffBurnWord b g → v.get g = s.get g)
    (hpaired : v.syn.paired = s.syn.paired) (hobs : v.obs = s.obs) (h : Bypassed v t b fail) : Bypassed s t b fail := by
  obtain ⟨⟨hst, hsince, hlocka, hal, hout, hal'⟩, hlosses, hfail, hcount, hpad⟩ := h
  have habove : ∀ g : Fld, 0x501000 ≤ g.a → v.get g = s.get g := fun g hg =>
    hget g (.inr (.inl (by dsimp only [Store.span]; omega)))
  have hcfg : CfgSame s v := fun g hg => habove g hg.1
  have hvst : ∀ o < 24, v.outState o = s.outState o := fun o ho => habove _ (by dsimp only; omega)
  refine ⟨⟨hst, hsince, hlocka, fun o ho hf => ?_, fun o ho => ?_, fun o ho hf => ?_⟩, ?_, ?_, ?_, fun o ho hf h2 hp => ?_⟩
  · exact hal o ho ((feeds_congr hcfg ho b).trans hf)
  · rw [hout o ho, feeds_congr hcfg ho, hvst o ho]
  · rw [hal' o ho ((feeds_congr hcfg ho b).trans hf), State.on, habove _ (by dsimp only; omega), State.on]
  · rw [hlosses, hget _ (.inl (by dsimp only [Store.span]; omega))]
  · rw [hfail, hget _ (.inl (by dsimp only [Store.span]; omega))]
  · exact hcount.trans (congrArg (fun n => (n + 1) % 2 ^ 64) (counter_of_obs hobs _))
  · refine hpad o ho ((feeds_congr hcfg ho b).trans hf) ((hvst o ho).trans h2) ?_
    rwa [hpaired, State.on, habove _ (by decide)]

theorem does_burnAcqTimeout (hb : b < 4) (hst : s.burnState b = 2) :
    Does (.burnAcqTimeout b) s fun t => Bypassed s t b 3 ∧ t.time = (s.runTo ((s.burn b).since + 100000000)).time := by
  have hexec : exec (.burnAcqTimeout b) s = .next ((s.runTo ((s.burn b).since + 100000000)).burnBypass b 3) :=
    congrArg Host.Outcome.next (if_pos (by simp [hb, hst]))
  obtain ⟨hbyp, htime, -, -⟩ := burnBypass_facts (s := s.runTo ((s.burn b).since + 100000000)) hb (fail := 3) (by decide)
  refine ⟨_, hexec, bypassed_congr hb (fun g _ => get_of_regs (regs_runTo s _) g) ?_ ?_ hbyp, htime⟩ <;> rw [runTo_eq]

theorem does_burnRefLost (hb : b < 4) (hst : s.burnState b = 2 ∨ s.burnState b = 3) :
    Does (.burnRefLost b) s fun t => Bypassed s t b 0 ∧ t.time = s.time := by
  have hexec : exec (.burnRefLost b) s = .next (s.burnBypass b 0) := congrArg Host.Outcome.next (if_pos (by simpa [hb] using hst))
  obtain ⟨hbyp, htime, -, -⟩ := burnBypass_facts (s := s) hb (fail := 0) (by decide)
  exact ⟨_, hexec, hbyp, htime⟩

/-! ## The phase error -/

/-- A field of the word of Burnisher b's phase error and PFD frequency. -/
theorem beside_of_offBurnWord {f g : Fld} (ha : f.a = 0x500244 + 8 * b) (hs : Store.span f = 1) (hbits : f.lo + f.w ≤ 32)
    (hg : OffBurnWord b g) : Beside f g := by
  have hspan : Store.span ⟨0x500244 + 8 * b, 0, 32⟩ = Store.span f := by
    rw [hs]
    dsimp only [Store.span]
  unfold OffBurnWord at hg
  rw [Beside, hspan, ← ha] at hg
  rcases hg with hg | hg | ⟨ha', hs', hd⟩
  · exact .inl hg
  · exact .inr (.inl hg)
  · exact .inr (.inr ⟨ha', hs', by dsimp only at hd; omega⟩)

theorem setI_offBurnWord (s : State) (b : ℕ) (v : Int) :
    ∀ g, OffBurnWord b g → (s.setI (F.SYN_BURN_ST_PH_ERR b) v).get g = s.get g := fun _ hg =>
  get_set_beside (beside_of_offBurnWord rfl (by dsimp only [Store.span]) (by dsimp only; omega) hg) s _

theorem offBurn_phWord (hb : b < 4) {g : Fld} (ha : g.a = 0x500244 + 8 * b) (hs : Store.span g = 1) : OffBurn b g := by
  refine ⟨.inl (by omega), fun f hf => ?_⟩
  simp only [burnFlds, List.mem_cons, List.not_mem_nil, or_false] at hf
  rcases hf with rfl | rfl | rfl <;> exact .inr (.inl (by dsimp only [Store.span]; omega))

theorem does_burnLockLost (hb : b < 4) (err : Int) (hst : s.burnState b = 3) :
    Does (.burnLockLost b err) s fun t =>
      ((s.get (F.SYN_BURN_ANA_UNLOCK_THR b) : Rat) < s.errShare b err →
        Bypassed s t b 0 ∧ t.getI (F.SYN_BURN_ST_PH_ERR b) = satI 16 err ∧ t.time = s.time) ∧
      (s.errShare b err ≤ (s.get (F.SYN_BURN_ANA_UNLOCK_THR b) : Rat) → t = s) := by
  have hexec : exec (.burnLockLost b err) s = .next (if (s.get (F.SYN_BURN_ANA_UNLOCK_THR b) : Rat) < s.errShare b err then
      (s.setI (F.SYN_BURN_ST_PH_ERR b) (satI 16 err)).burnBypass b 0 else s) := by
    change execBurnLockLost b err s = _
    simp [execBurnLockLost, hb, hst]
  refine ⟨_, hexec, fun hlost => ?_, fun hkeep => if_neg (not_lt.mpr hkeep)⟩
  rw [if_pos hlost]
  set u := s.setI (F.SYN_BURN_ST_PH_ERR b) (satI 16 err) with hu
  obtain ⟨hbyp, htime, -, hoff⟩ := burnBypass_facts (s := u) hb (fail := 0) (by decide)
  refine ⟨bypassed_congr hb (setI_offBurnWord s b _) rfl rfl hbyp, ?_, htime⟩
  rw [State.getI, hoff _ (offBurn_phWord hb rfl (by dsimp only [Store.span])), ← State.getI, hu]
  exact getI_setI_satI s (F.SYN_BURN_ST_PH_ERR b) err (by dsimp only; omega)

theorem beside_state_phErr (b : ℕ) : Beside (F.SYN_BURN_ST_STATE b) (F.SYN_BURN_ST_PH_ERR b) :=
  .inr (.inl (by dsimp only [Store.span]; omega))

theorem does_burnLockDeclared (hb : b < 4) (err : Int) (hst : s.burnState b = 2) :
    Does (.burnLockDeclared b err) s fun t =>
      (s.errShare b err < s.get (F.SYN_BURN_ANA_LOCK_THR b) →
        t.burnState b = 3 ∧ t.getI (F.SYN_BURN_ST_PH_ERR b) = satI 16 err ∧ Sends t (.locka b (t.lockaPin b)) ∧
        Only [F.SYN_BURN_ST_STATE b, F.SYN_BURN_ST_PH_ERR b] (fun x => x.setBurn b { s.burn b with since := s.ns }) s t) ∧
      (s.get (F.SYN_BURN_ANA_LOCK_THR b) ≤ s.errShare b err → t = s) := by
  have hexec : exec (.burnLockDeclared b err) s = .next (if s.errShare b err < s.get (F.SYN_BURN_ANA_LOCK_THR b) then
      (s.setI (F.SYN_BURN_ST_PH_ERR b) (satI 16 err)).burnTo b 3 else s) := by
    change execBurnLockDeclared b err s = _
    simp [execBurnLockDeclared, hb, hst]
  refine ⟨_, hexec, fun hlock => ?_, fun hno => if_neg (not_lt.mpr hno)⟩
  rw [if_pos hlock]
  set u := s.setI (F.SYN_BURN_ST_PH_ERR b) (satI 16 err) with hu
  refine ⟨State.get_set_self u (F.SYN_BURN_ST_STATE b) 3, ?_, List.mem_cons_self, ?_, rfl⟩
  · change toSigned 16 ((u.set (F.SYN_BURN_ST_STATE b) 3).get (F.SYN_BURN_ST_PH_ERR b)) = _
    rw [get_set_beside (beside_state_phErr b)]
    exact getI_setI_satI s (F.SYN_BURN_ST_PH_ERR b) err (by dsimp only; omega)
  · have hregs : SameRegs (words [F.SYN_BURN_ST_STATE b, F.SYN_BURN_ST_PH_ERR b]) s u :=
      SameRegs.set (SameRegs.refl _ s) _ (.of_mem (by simp))
    exact SameRegs.of_regs (SameRegs.set hregs 3 (.of_mem (by simp))) rfl

/-! ## The end of a search -/

theorem planErr_congr (hb : b < 4) (hcfg : CfgSame s t) (hburn : ∀ g : Fld, 0x500100 ≤ g.a → g.a + 4 * Store.span g ≤ 0x500180 →
    t.get g = s.get g) (f : Rat) : t.planErr b f = s.planErr b f := by
  have hdiv : ∀ o < 24, t.outDiv o = s.outDiv o := fun o ho => by
    unfold State.outDiv
    split <;> exact hcfg _ (by constructor <;> dsimp only [Store.span] <;> omega)
  have hlimit : ∀ o < 24, t.outLimit o = s.outLimit o := fun o ho => by
    unfold State.outLimit
    split
    · rw [hcfg _ (by constructor <;> dsimp only [Store.span] <;> omega)]
    · rfl
  have hfloor : ∀ o < 24, t.outFloor o = s.outFloor o := fun o ho => by rw [State.outFloor, lvcmos_congr hcfg ho, State.outFloor]
  unfold State.planErr
  rw [hburn, hburn, hburn, hburn]
  · dsimp only
    congr 1
    rw [Bool.eq_iff_iff, List.any_eq_true, List.any_eq_true]
    refine exists_congr fun o => and_congr_right fun ho => ?_
    have ho := mem_outs.mp ho
    rw [hdiv o ho, hlimit o ho, hfloor o ho, feeds_congr hcfg ho]
  all_goals dsimp only [Store.span]
  all_goals omega

/-- A Burnisher that has entered a state other than LOCKED and BYPASS. -/
theorem Entered.burnIn {st : ℕ} (h4 : st ≠ 4) (h : Entered s t b st) : BurnIn s t b st := by
  refine ⟨h.st, ?_, h.locka, fun o ho hf => ?_, fun o ho => ?_, fun o ho hf => ?_⟩
  · rw [h.burn, State.ns, State.ns, h.time]
  · rw [h.aligned o ho, hf]
    rfl
  · rw [h.outs o ho, if_neg (fun hn => h4 hn.1)]
  · rw [h.aligned o ho, hf]
    rfl

theorem BurnIn.congr {v : State} {st : ℕ} (hcfg : CfgSame s v) (hst : ∀ o < 24, v.outState o = s.outState o)
    (hal : ∀ o < 24, v.on (F.OUT_ST_ALIGNED o) = s.on (F.OUT_ST_ALIGNED o)) (h : BurnIn v t b st) : BurnIn s t b st := by
  obtain ⟨h1, hsince, hlocka, hoff, hout, hsame⟩ := h
  refine ⟨h1, hsince, hlocka, fun o ho hf => hoff o ho ((feeds_congr hcfg ho b).trans hf), fun o ho => ?_, fun o ho hf => ?_⟩
  · rw [hout o ho, feeds_congr hcfg ho, hst o ho]
  · rw [hsame o ho ((feeds_congr hcfg ho b).trans hf), hal o ho]

/-- The attempt's PFD frequency is known. -/
def measured (s : State) (b : ℕ) (f : Rat) : State :=
  (s.set (F.SYN_BURN_ST_PFD_KHZ b) (satN 16 (f / 1000).floor.toNat)).setBurn b { s.burn b with pfd := f }

theorem satN_lt (w v : ℕ) : satN w v < 2 ^ w := by
  have : 0 < 2 ^ w := by positivity
  unfold satN
  split <;> omega

theorem does_burnSearchDone (hb : b < 4) (pfd : Option ℕ) (band : ℕ) (hst : s.burnState b = 1) :
    Does (.burnSearchDone b pfd band) s fun t =>
      (s.pfdHz b pfd = none → Bypassed s t b 2) ∧
      (∀ f, s.pfdHz b pfd = some f →
        t.get (F.SYN_BURN_ST_PFD_KHZ b) = satN 16 (f / 1000).floor.toNat ∧ (t.burn b).pfd = f ∧
        (s.planErr b f = true → Bypassed s t b 1) ∧
        (s.planErr b f = false → BurnIn s t b 2 ∧ t.get (F.SYN_BURN_ST_BAND b) = band % 256)) := by
  refine ⟨_, congrArg Host.Outcome.next (if_pos (by simp [hb, hst])), fun hnone => ?_, fun f hf => ?_⟩
  · rw [hnone]
    exact (burnBypass_facts hb (by decide)).1
  rw [hf]
  dsimp only
  rw [← measured]
  have hword : ∀ g, OffBurnWord b g → (measured s b f).get g = s.get g := fun _ hg =>
    get_set_beside (beside_of_offBurnWord (f := F.SYN_BURN_ST_PFD_KHZ b) rfl (by dsimp only [Store.span]) (by dsimp only; omega) hg) s _
  have hplan : (measured s b f).planErr b f = s.planErr b f := planErr_congr hb
    (fun g hg => hword g (.inr (.inl (by have := hg.1; dsimp only [Store.span]; omega))))
    (fun g _ hg => hword g (.inl (by dsimp only; omega))) f
  have hkhz : (measured s b f).get (F.SYN_BURN_ST_PFD_KHZ b) = satN 16 (f / 1000).floor.toNat :=
    (State.get_set_self s (F.SYN_BURN_ST_PFD_KHZ b) _).trans (Nat.mod_eq_of_lt (satN_lt 16 _))
  have hpfd : ((measured s b f).burn b).pfd = f := by
    rw [measured, burn_setBurn, if_pos rfl]
  rw [hplan]
  cases hp : s.planErr b f
  · simp only [Bool.false_eq_true, if_false]
    set v := (measured s b f).set (F.SYN_BURN_ST_BAND b) band with hv
    have hin := burnTo_entered (s := v) hb (st := 2) (by decide) (by decide)
    have habove : ∀ g : Fld, 0x501000 ≤ g.a → v.get g = s.get g := fun g hg =>
      (get_set_beside (.inr (.inl (by dsimp only [Store.span]; omega))) _ _).trans
        (hword g (.inr (.inl (by dsimp only [Store.span]; omega))))
    refine ⟨?_, by rw [hin.burn]; exact hpfd, fun h => absurd h (by simp), fun _ => ⟨?_, ?_⟩⟩
    · rw [hin.off _ (.inl (by dsimp only [Store.span]; omega)) (.inr (.inl (by dsimp only [Store.span]; omega))), hv,
        get_set_beside (.inr (.inl (by dsimp only [Store.span]; omega)))]
      exact hkhz
    · exact BurnIn.congr (fun g hg => habove g hg.1) (fun o _ => habove _ (by dsimp only; omega))
        (fun o _ => by rw [State.on, habove _ (by dsimp only; omega), State.on]) (hin.burnIn (by decide))
    · rw [hin.off (F.SYN_BURN_ST_BAND b) (.inl (by dsimp only [Store.span]; omega))
        (.inr (.inr ⟨rfl, by dsimp only [Store.span], .inr (by dsimp only; omega)⟩)), hv, State.get_set_self]
      rfl
  · simp only [if_true]
    obtain ⟨hbyp, -, hburn, hoff⟩ := burnBypass_facts (s := measured s b f) hb (fail := 1) (by decide)
    refine ⟨(hoff _ (offBurn_phWord hb rfl (by dsimp only [Store.span]))).trans hkhz, by rw [hburn]; exact hpfd,
      fun _ => bypassed_congr hb hword rfl rfl hbyp, fun h => absurd h (by simp)⟩

/-! ## A source returns -/

theorem burnSearch_facts (hb : b < 4) :
    BurnIn s (s.burnSearch b) b 1 ∧ Counts s (s.burnSearch b) (0x345 + b) 1 ∧
      (s.burnSearch b).on (F.SYN_BURN_ST_MISALIGNED b) = false ∧ (s.burnSearch b).time = s.time ∧
      ((s.burnSearch b).burn b).origin = s.ns / 1000000000 * 1000000000 ∧ ((s.burnSearch b).burn b).shift = 0 := by
  have hin := burnTo_entered (s := s) hb (st := 1) (by decide) (by decide)
  unfold State.burnSearch
  dsimp only
  set u := s.burnTo b 1 with hu
  clear_value u
  set w := u.count (0x345 + b) with hw
  have hwget : ∀ g, w.get g = u.get g := fun g => State.countN_get u (0x345 + b) 1 g
  have hwburn : w.burn b = u.burn b := burn_congr (by
    have h := congrArg State.syn (State.countN_calm u (0x345 + b) 1)
    rw [show w.syn = u.syn from h]) b
  have hwtime : w.time = s.time := (time_of_calm (State.countN_calm u (0x345 + b) 1)).trans hin.time
  have hcount : w.counter (0x345 + b) = (s.counter (0x345 + b) + 1) % 2 ^ 64 :=
    (counter_count_self u (by simp [selfCounted]; omega)).trans (congrArg (fun n => (n + 1) % 2 ^ 64) (counter_of_obs hin.obs _))
  have hout : ∀ x ∈ u.out, x ∈ w.out := (Outlives.countN u (0x345 + b) 1).1
  clear_value w
  set x : BurnSt := { w.burn b with pfd := 0, origin := w.ns / 1000000000 * 1000000000, shift := 0 } with hx
  have hburn : ((w.setBurn b x).set (F.SYN_BURN_ST_MISALIGNED b) 0).burn b = x := (burn_setBurn w b b x).trans (if_pos rfl)
  have hget : ∀ g, Beside (F.SYN_BURN_ST_MISALIGNED b) g → ((w.setBurn b x).set (F.SYN_BURN_ST_MISALIGNED b) 0).get g = u.get g :=
    fun g hg => (get_set_beside hg _ 0).trans (hwget g)
  have habove : ∀ g : Fld, 0x501000 ≤ g.a → ((w.setBurn b x).set (F.SYN_BURN_ST_MISALIGNED b) 0).get g = u.get g := fun g hg =>
    hget g (.inr (.inl (by dsimp only [Store.span]; omega)))
  have hst := hget (F.SYN_BURN_ST_STATE b) (.inr (.inr ⟨rfl, by dsimp only [Store.span], .inl (by dsimp only; omega)⟩))
  have hpg := hget F.SYS_PD_ST_PG (.inr (.inl (by dsimp only [Store.span]; omega)))
  obtain ⟨h1, hsince, hlocka, hal, houts, hal'⟩ := hin.burnIn (by decide)
  refine ⟨⟨hst.trans h1, ?_, ?_, fun o ho hf => ?_, fun o ho => ?_, fun o ho hf => ?_⟩, hcount, on_set_zero _ _, hwtime, ?_, ?_⟩
  · rw [hburn, hx]
    refine (congrArg BurnSt.since hwburn).trans (hsince.trans ?_)
    rw [State.ns, State.ns, hin.time]
    exact congrArg (fun t : TimeSt => t.core / 2 ^ 56) hwtime.symm
  · rw [lockaPin_congr hpg hst (by rw [hin.st]; decide)]
    exact hout _ hlocka
  · rw [State.on, habove _ (by dsimp only; omega)]
    exact hal o ho hf
  · rw [State.outState, habove _ (by dsimp only; omega)]
    exact houts o ho
  · rw [State.on, habove _ (by dsimp only; omega)]
    exact hal' o ho hf
  · rw [hburn, hx, State.ns, State.ns, hwtime]
  · rw [hburn]

theorem does_burnSourceReturn (hb : b < 4) (hst : s.burnState b = 4) :
    Does (.burnSourceReturn b) s fun t =>
      t.time = (s.runTo (s.burnReturnAt b)).time ∧
      (s.burnPresent b = true →
        BurnIn s t b 1 ∧ Counts s t (0x345 + b) 1 ∧ t.on (F.SYN_BURN_ST_MISALIGNED b) = false ∧
        (t.burn b).origin = t.ns / 1000000000 * 1000000000 ∧ (t.burn b).shift = 0) ∧
      (s.burnPresent b = false → SameRegs [] s t ∧ t.syn = s.syn) := by
  set u := s.runTo (s.burnReturnAt b) with hu
  have hpres : u.burnPresent b = s.burnPresent b := by
    rw [hu, runTo_eq]
    rfl
  have hexec : exec (.burnSourceReturn b) s = .next (if u.burnPresent b then u.burnSearch b else u) :=
    congrArg Host.Outcome.next (if_pos (by simp [hb, hst]))
  have husyn : u.syn = s.syn := by rw [hu, runTo_eq]
  have huregs : u.regs = s.regs := regs_runTo s _
  have huobs : u.obs = s.obs := by rw [hu, runTo_eq]
  clear_value u
  refine ⟨_, hexec, ?_⟩
  rw [hpres]
  cases hp : s.burnPresent b
  · simp only [Bool.false_eq_true, if_false]
    exact ⟨trivial, fun h => absurd h (by simp), fun _ => ⟨SameRegs.of_eq huregs, husyn⟩⟩
  simp only [if_true]
  obtain ⟨hin, hcount, hmis, htime, horig, hshift⟩ := burnSearch_facts (s := u) hb
  refine ⟨htime, fun _ => ⟨?_, hcount.trans (congrArg (fun n => (n + 1) % 2 ^ 64) (counter_of_obs huobs _)), hmis, ?_, hshift⟩,
    fun h => absurd h (by simp)⟩
  · exact BurnIn.congr (.of_regs huregs) (fun o _ => get_of_regs huregs _) (fun o _ => on_of_regs huregs _) hin
  · rw [horig, State.ns, State.ns, htime]

/-! ## The bypass clock -/

/-- What the loss or the return of the bypass clock does to output o. -/
def showBypass (s : State) (o : ℕ) : State := if s.outState o = 3 then s.outBypassed o else s

theorem showBypass_eq (s : State) (o : ℕ) : showBypass s o = { s with out := (showBypass s o).out } := by
  unfold showBypass
  split
  · rw [outBypassed_eq]
    exact padOut_eq s o _
  · rfl

theorem showBypass_out (s : State) (o : ℕ) : ∀ y ∈ s.out, y ∈ (showBypass s o).out := by
  unfold showBypass
  split
  · rw [outBypassed_eq]
    exact padOut_out s o _
  · exact fun _ h => h

theorem showBypass_fold (l : List ℕ) (s : State) : l.foldl showBypass s = { s with out := (l.foldl showBypass s).out } ∧
    (∀ y ∈ s.out, y ∈ (l.foldl showBypass s).out) ∧
    ∀ o ∈ l, s.outState o = 3 → Pad s (l.foldl showBypass s) o (bypOut s o) := by
  induction l generalizing s with
  | nil => exact ⟨rfl, fun _ h => h, fun o ho => absurd ho (by simp)⟩
  | cons a l ih =>
    obtain ⟨heq, hkeep, hpad⟩ := ih (showBypass s a)
    have hone := showBypass_eq s a
    rw [List.foldl_cons]
    refine ⟨?_, fun y hy => hkeep y (showBypass_out s a y hy), fun o ho h3 => ?_⟩
    · rw [heq, hone]
    · rcases List.mem_cons.mp ho with rfl | ho
      · have hshown : showBypass s o = s.padOut o (bypOut s o) := (if_pos h3).trans (outBypassed_eq s o)
        exact Pad.of_padOut (u := s) rfl rfl fun y hy => hkeep y (hshown ▸ hy)
      · have h := hpad o ho
        rw [hone] at h ⊢
        exact h h3

theorem bypOut_lost {o : ℕ} (h : s.on F.SYN_BYP_ST_BYP_LOS = true) : bypOut s o = holdOut s o := if_pos (by rw [h, Bool.or_true])

theorem does_bypassClock (s : State) :
    (Does .bypassClockLost s fun t => t.on F.SYN_BYP_ST_BYP_LOS = true ∧ Only [F.SYN_BYP_ST_BYP_LOS] id s t ∧
      ∀ o < 24, s.outState o = 3 → Pad s t o (holdOut s o)) ∧
    (Does .bypassClockReturn s fun t => t.on F.SYN_BYP_ST_BYP_LOS = false ∧
      Only [F.SYN_BYP_ST_BYP_LOS] (fun x => { x with syn := { x.syn with bypAt := s.ns } }) s t ∧
      ∀ o < 24, s.outState o = 3 → Pad s t o (bypOut t o)) := by
  constructor
  · set u := s.set F.SYN_BYP_ST_BYP_LOS 1 with hu
    obtain ⟨heq, -, hpad⟩ := showBypass_fold State.outs u
    have hoff : ∀ g : Fld, 0x501000 ≤ g.a → u.get g = s.get g := fun g hg =>
      get_set_beside (.inr (.inl (by dsimp only [Store.span]; omega))) s 1
    have hexec : exec .bypassClockLost s = .next (State.outs.foldl showBypass u) := rfl
    refine ⟨_, hexec, ?_, ?_, fun o ho h3 hp => ?_⟩
    · rw [heq]
      exact on_set_one s rfl
    · exact Only.of_calm (Only.set (Only.refl _ s) 1 (.of_mem (by simp)) : Only _ id s u) (by rw [heq]; rfl)
    · have h := hpad o (mem_outs.mpr ho) ((hoff _ (by dsimp only; omega)).trans h3)
      rw [show bypOut u o = holdOut s o from (bypOut_lost (on_set_one s rfl)).trans (holdOut_congr (fun g hg => hoff g hg.1) ho)] at h
      exact h (by rwa [State.on, hoff _ (by decide)])
  · set u : State := { s.set F.SYN_BYP_ST_BYP_LOS 0 with syn := { s.syn with bypAt := s.ns } } with hu
    obtain ⟨heq, -, hpad⟩ := showBypass_fold State.outs u
    have hoff : ∀ g : Fld, 0x501000 ≤ g.a → u.get g = s.get g := fun g hg =>
      get_set_beside (.inr (.inl (by dsimp only [Store.span]; omega))) s 0
    have hexec : exec .bypassClockReturn s = .next (State.outs.foldl showBypass u) := rfl
    refine ⟨_, hexec, ?_, ⟨?_, ?_⟩, fun o ho h3 hp => ?_⟩
    · rw [heq]
      exact on_set_zero s _
    · exact SameRegs.of_regs (SameRegs.set (SameRegs.refl _ s) 0 (.of_mem (by simp)) : SameRegs _ s u) (by rw [heq])
    · rw [heq]
      rfl
    · have h := hpad o (mem_outs.mpr ho) ((hoff _ (by dsimp only; omega)).trans h3)
      rw [heq] at h ⊢
      exact h (by rwa [State.on, hoff _ (by decide)])

/-- Settles O51, a lemma for each clause. -/
theorem burnishers : Obligations.Burnishers :=
  ⟨fun _ _ pfd band hb hst => does_burnSearchDone hb pfd band hst, fun _ _ err hb hst => does_burnLockDeclared hb err hst,
    fun _ _ hb hst => does_burnAcqTimeout hb hst, fun _ _ hb hst => does_burnRefLost hb hst,
    fun _ _ err hb hst => does_burnLockLost hb err hst, fun _ _ hb hst => does_burnSourceReturn hb hst, does_bypassClock⟩

end Sys2Proof.Proofs
end

section
/-!
An anomaly of a reference (R138 to R141): what it writes, and that it is logged and counted once.
-/

open Sys2Proof Sys2Proof.Machine Sys2Proof.Claims

namespace Sys2Proof.Proofs

variable {s t : State}

theorem mem_words_of_subset {fs gs : List Fld} (h : ∀ f ∈ fs, f ∈ gs) {k : ℕ} (hk : k ∈ words fs) : k ∈ words gs := by
  obtain ⟨f, hf, i, hi, rfl⟩ := mem_words.mp hk
  exact mem_words.mpr ⟨f, h f hf, i, hi, rfl⟩

/-- What an anomaly of class c against reference r leaves. -/
structure AnomalyOf (s t : State) (r c : ℕ) : Prop where
  regs : SameRegs (words (refFlds r c)) s t
  raised : Raised s t r c
  counter : ∀ j, j ∉ selfCounted → j ≠ 0x1C0 + 8 * r + c → t.counter j = s.counter j
  calm : t.calm = { s.calm with regs := t.regs, asy := t.asy }
  inbox : t.asy.inbox = s.asy.inbox
  kept : Outlives s t
  ref : ∀ p, p ≠ r → t.ref p = s.ref p

theorem ref_setRef (s : State) (r p : ℕ) (x : RefSt) : (s.setRef r x).ref p = if p = r then x else s.ref p := by
  simp only [State.ref, State.setRef, alGet_alSet]
  split <;> rfl

theorem trimLog_head (c k tick : ℕ) (l : List (ℕ × ℕ)) : (c, tick) ∈ State.trimLog c (k + 1) ((c, tick) :: l) := by
  rw [State.trimLog, if_pos rfl]
  exact List.mem_cons_self

section
variable (s) (r c : ℕ)

/-- The anomaly logged and counted, before the timer of a CANDIDATE or of a DISQUALIFIED reference. -/
def logged (tick : ℕ) : State :=
  let x := s.ref r
  let s := s.setRef r { x with log := State.trimLog c 15 ((c, tick) :: x.log), dec := alDel x.dec c }
  let s := s.count (0x1C0 + 8 * r + c)
  s.set (F.ASY_REF_ST_COUNT r c) (min 15 (s.inWindow r c s.time.tickNo))

/-- The timer of a CANDIDATE or of a DISQUALIFIED reference starts anew. -/
def restarted : State :=
  match s.refState r with
  | 1 => (s.setTimer r s.entryTicks).setRef r { (s.setTimer r s.entryTicks).ref r with accepted := false }
  | 4 => s.setTimer r (s.holdoffTicks r)
  | _ => s

theorem anomalyAt_eq (tick : ℕ) (h : s.refState r ≠ 0) : s.anomalyAt r c tick = restarted (logged s r c tick) r := by
  rw [State.anomalyAt, State.anomalyBy, if_neg h]
  rfl

theorem restarted_facts : SameRegs (words [F.ASY_REF_ST_TIMER r]) s (restarted s r) ∧
    (restarted s r).calm = { s.calm with regs := (restarted s r).regs, asy := (restarted s r).asy } ∧
    (restarted s r).asy.inbox = s.asy.inbox ∧ ((restarted s r).ref r).log = (s.ref r).log ∧ (restarted s r).obs = s.obs ∧
    Outlives s (restarted s r) ∧ ∀ p, p ≠ r → (restarted s r).ref p = s.ref p := by
  have htimer : ∀ n, SameRegs (words [F.ASY_REF_ST_TIMER r]) s (s.setTimer r n) := fun n =>
    SameRegs.set (SameRegs.refl _ s) _ (.of_mem (List.mem_singleton_self _))
  have hlog : ∀ n, ((s.setTimer r n).ref r).log = (s.ref r).log := fun n => by
    change ((s.setRef r _).ref r).log = _
    rw [ref_setRef, if_pos rfl]
  have hother : ∀ n p, p ≠ r → (s.setTimer r n).ref p = s.ref p := fun n p hp => by
    change (s.setRef r _).ref p = _
    rw [ref_setRef, if_neg hp]
  unfold restarted
  split
  · refine ⟨SameRegs.of_regs (htimer _) rfl, rfl, rfl, ?_, rfl, .of_eq rfl rfl, fun p hp => ?_⟩
    · rw [ref_setRef, if_pos rfl]
      exact hlog _
    · rw [ref_setRef, if_neg hp]
      exact hother _ p hp
  · exact ⟨htimer _, rfl, rfl, hlog _, rfl, .of_eq rfl rfl, hother _⟩
  · exact ⟨SameRegs.refl _ s, rfl, rfl, rfl, rfl, .refl s, fun _ _ => rfl⟩

theorem logged_facts (tick : ℕ) (hc : 0x1C0 + 8 * r + c ∉ selfCounted) :
    SameRegs (words [F.ASY_REF_ST_COUNT r c]) s (logged s r c tick) ∧
    (logged s r c tick).calm = { s.calm with regs := (logged s r c tick).regs, asy := (logged s r c tick).asy } ∧
    (logged s r c tick).asy.inbox = s.asy.inbox ∧ (c, tick) ∈ ((logged s r c tick).ref r).log ∧
    (∀ j, j ∉ selfCounted → (logged s r c tick).counter j =
      if j = 0x1C0 + 8 * r + c then (s.counter j + 1) % 2 ^ 64 else s.counter j) ∧
    Outlives s (logged s r c tick) ∧ ∀ p, p ≠ r → (logged s r c tick).ref p = s.ref p := by
  unfold logged
  extract_lets x u v
  have hv : v.calm = u.calm := State.countN_calm u (0x1C0 + 8 * r + c) 1
  have hvasy : v.asy = u.asy := by
    have h := congrArg State.asy hv
    exact h
  have href : ∀ p, v.ref p = u.ref p := fun p => by rw [State.ref, hvasy, State.ref]
  have hregs : v.regs = u.regs := regs_of_calm hv
  have hinbox : v.asy.inbox = s.asy.inbox := by rw [hvasy]; rfl
  have hcount : ∀ j, j ∉ selfCounted → v.counter j = if j = 0x1C0 + 8 * r + c then (s.counter j + 1) % 2 ^ 64 else s.counter j := by
    intro j hj
    split
    · next h =>
      subst h
      exact counter_count_self u hc
    · next h => exact counter_count_ne u hj h
  have hout : Outlives u v := .countN u (0x1C0 + 8 * r + c) 1
  clear_value v
  refine ⟨?_, ?_, hinbox, ?_, hcount, ⟨fun o ho => hout.1 o ho, fun n y hy => hout.2 n y hy⟩, fun p hp => ?_⟩
  · exact SameRegs.set (SameRegs.of_eq (hregs.trans rfl)) _ (.of_mem (List.mem_singleton_self _))
  · set w := v.set (F.ASY_REF_ST_COUNT r c) (min 15 (v.inWindow r c v.time.tickNo))
    have hw : w.calm = { v.calm with regs := w.regs } := rfl
    have hwasy : w.asy = u.asy := hvasy
    rw [hw, hv, hwasy]
    rfl
  · change (c, tick) ∈ (v.ref r).log
    rw [href, ref_setRef, if_pos rfl]
    exact trimLog_head c 14 tick x.log
  · change v.ref p = s.ref p
    rw [href, ref_setRef, if_neg hp]

theorem anomaly_of (hc : 0x1C0 + 8 * r + c ∉ selfCounted) (h : s.refState r ≠ 0) : AnomalyOf s (s.anomaly r c) r c := by
  obtain ⟨hlregs, hlcalm, hlinbox, hllog, hlcount, hlout, hlref⟩ := logged_facts s r c s.time.tickNo hc
  rw [State.anomaly, anomalyAt_eq s r c _ h]
  obtain ⟨hregs, hcalm, hinbox, hlog, hobs, hout, href⟩ := restarted_facts (logged s r c s.time.tickNo) r
  set u := logged s r c s.time.tickNo with hu
  clear_value u
  have hcounter : ∀ j, (restarted u r).counter j = u.counter j := fun j => counter_of_obs hobs j
  refine ⟨?_, fun _ => ⟨hlog ▸ hllog, ?_⟩, fun j hj hne => ?_, ?_, hinbox.trans hlinbox, hlout.trans hout,
    fun p hp => (href p hp).trans (hlref p hp)⟩
  · exact SameRegs.trans (SameRegs.mono hlregs fun k hk => mem_words_of_subset (by simp [refFlds]) hk)
      (SameRegs.mono hregs fun k hk => mem_words_of_subset (by simp [refFlds]) hk)
  · rw [Counts, hcounter, hlcount _ hc, if_pos rfl]
  · rw [hcounter, hlcount j hj, if_neg hne]
  · rw [hcalm, hlcalm]

theorem anomaly_disabled (h : s.refState r = 0) : s.anomaly r c = s := by
  rw [State.anomaly, State.anomalyAt, State.anomalyBy, if_pos h]

/-- An anomaly of any reference, one that is DISABLED included. -/
theorem anomaly_any (hc : 0x1C0 + 8 * r + c ∉ selfCounted) : AnomalyOf s (s.anomaly r c) r c := by
  by_cases h : s.refState r = 0
  · rw [anomaly_disabled s r c h]
    exact ⟨SameRegs.refl _ s, fun hn => absurd h hn, fun _ _ _ => rfl, rfl, rfl, .refl s, fun _ _ => rfl⟩
  · exact anomaly_of s r c hc h

end

end Sys2Proof.Proofs
end

section
/-!
O48: time-of-day messages (R80 to R85, R136). A slot's message ends in a record, paired (`todPaired_facts`) or not
(`todUnpaired_facts`), and touches only that slot (`SlotsStep`); an IRIG frame gives each of its slots a turn (`Turns.foldl_at`).
-/

open Sys2Proof Sys2Proof.Machine Sys2Proof.Claims

namespace Sys2Proof.Proofs

variable {s t u : State} {i : ℕ}

/-! ## A slot -/

theorem tod_setTod (s : State) (i j : ℕ) (x : TodSt) : (s.setTod i x).tod j = if j = i then x else s.tod j := by
  simp only [State.tod, State.setTod, alGet_alSet]
  split <;> rfl

theorem tod_congr (h : t.refin = s.refin) (i : ℕ) : t.tod i = s.tod i := by rw [State.tod, h, State.tod]

theorem get_todRecord (s : State) (i rec_ edge pairing : ℕ) :
    (s.todRecord i rec_ edge pairing).get (F.REF_TOD_ST_RECORD i) = todWord rec_ edge pairing := by
  unfold State.todRecord
  extract_lets r r'
  rw [State.get_set_self]
  rfl

theorem todRecord_eq (s : State) (i rec_ edge pairing : ℕ) :
    s.todRecord i rec_ edge pairing = { s with regs := (s.todRecord i rec_ edge pairing).regs } := rfl

theorem todRecord_regs (s : State) (i rec_ edge pairing : ℕ) :
    SameRegs (words [F.REF_TOD_ST_RECORD i]) s (s.todRecord i rec_ edge pairing) :=
  SameRegs.set (SameRegs.refl _ s) _ (.of_mem (List.mem_singleton_self _))

theorem get_todCheck (s : State) (u : ℕ) :
    (s.todCheck u).get (F.REF_UART_STAT_CHECK u) = min 255 (s.get (F.REF_UART_STAT_CHECK u) + 1) := by
  rw [State.todCheck, State.addSat, State.get_set_self, satN]
  dsimp only
  split <;> omega

theorem todCheck_only (s : State) (u : ℕ) : SameRegs (words [F.REF_UART_STAT_CHECK u]) s (s.todCheck u) :=
  SameRegs.set (SameRegs.refl _ s) _ (.of_mem (List.mem_singleton_self _))

/-- Where a message of slot i is shown. -/
def slotFlds (i : ℕ) : List Fld :=
  [F.REF_TOD_ST_RECORD i, F.REF_UART_STAT_CHECK (4 + i), F.ASY_REF_ST_COUNT (24 + i) 4, F.ASY_REF_ST_TIMER (24 + i)]

/-- Messages of slots `is` have been taken: nothing of another slot or of another reference has changed, and no time has passed. -/
structure SlotsStep (is : List ℕ) (s t : State) : Prop where
  regs : SameRegs (words (is.flatMap slotFlds)) s t
  tod : ∀ j, j ∉ is → t.tod j = s.tod j
  ref : ∀ r, (∀ i ∈ is, r ≠ 24 + i) → t.ref r = s.ref r
  inbox : ∀ m ∈ s.asy.inbox, m ∈ t.asy.inbox
  counter : ∀ j, j ∉ selfCounted → (∀ i ∈ is, j ≠ 0x078 + i ∧ j ≠ 0x1C0 + 8 * (24 + i) + 4) → t.counter j = s.counter j
  time : t.time = s.time
  leap : t.tsk = s.tsk
  irigs : t.refin.irigs = s.refin.irigs
  text : ∀ j, (t.tod j).text = (s.tod j).text
  eng : t.eng = s.eng
  tic : t.tic = s.tic
  srcs : t.refin.srcs = s.refin.srcs

theorem SlotsStep.of_regs {is : List ℕ} (ht : t = { s with regs := t.regs }) (h : SameRegs (words (is.flatMap slotFlds)) s t) :
    SlotsStep is s t := by
  generalize t.regs = x at ht
  subst ht
  exact ⟨h, fun _ _ => rfl, fun _ _ => rfl, fun _ h => h, fun _ _ _ => rfl, rfl, rfl, rfl, fun _ => rfl, rfl, rfl, rfl⟩

theorem slotsStep_turns : Turns SlotsStep := by
  refine ⟨fun _ s => ⟨SameRegs.refl _ s, fun _ _ => rfl, fun _ _ => rfl, fun _ h => h, fun _ _ _ => rfl, rfl, rfl, rfl,
      fun _ => rfl, rfl, rfl, rfl⟩, fun h k => ⟨SameRegs.trans h.regs k.regs, fun j hj => (k.tod j hj).trans (h.tod j hj),
      fun r hr => (k.ref r hr).trans (h.ref r hr), fun m hm => k.inbox m (h.inbox m hm),
      fun j hj hn => (k.counter j hj hn).trans (h.counter j hj hn), k.time.trans h.time, k.leap.trans h.leap,
      k.irigs.trans h.irigs, fun j => (k.text j).trans (h.text j), k.eng.trans h.eng, k.tic.trans h.tic, k.srcs.trans h.srcs⟩,
    fun hl h => ⟨SameRegs.mono h.regs fun k hk => ?_, fun j hj => h.tod j fun hm => hj (hl j hm),
      fun r hr => h.ref r fun i hi => hr i (hl i hi), h.inbox, fun j hj hn => h.counter j hj fun i hi => hn i (hl i hi),
      h.time, h.leap, h.irigs, h.text, h.eng, h.tic, h.srcs⟩⟩
  exact mem_words_of_subset
    (fun f hf => (List.mem_flatMap.mp hf).elim fun p hp => List.mem_flatMap.mpr ⟨p, hl p hp.1, hp.2⟩) hk

/-- A field that lies wholly before or behind each of the fields fs reads as before. -/
theorem get_of_sameRegs_apart {fs : List Fld} (h : SameRegs (words fs) s t) {g : Fld}
    (hg : ∀ f ∈ fs, f.a + 4 * Store.span f ≤ g.a ∨ g.a + 4 * Store.span g ≤ f.a) : t.get g = s.get g :=
  SameRegs.get h fun i hi hm => by
    obtain ⟨f, hf, j, hj, he⟩ := mem_words.mp hm
    have := hg f hf
    omega

/-! ## A record -/

theorem raised_congr {v : State} {r c : ℕ} (hst : v.refState r = s.refState r) (htick : v.time.tickNo = s.time.tickNo)
    (hcount : v.counter (0x1C0 + 8 * r + c) = s.counter (0x1C0 + 8 * r + c)) (h : Raised v t r c) : Raised s t r c := by
  intro hr
  obtain ⟨hlog, hc⟩ := h (by rwa [hst])
  exact ⟨htick ▸ hlog, hc.trans (congrArg (fun n => (n + 1) % 2 ^ 64) hcount)⟩

section
variable (s) (i)

theorem notMem_selfCounted_of_slot {c : ℕ} (hc : c = 2 ∨ c = 4) : 0x1C0 + 8 * (24 + i) + c ∉ selfCounted := by
  rcases hc with rfl | rfl <;> simp [selfCounted] <;> omega

theorem refState_todRecord (hi : i < 4) (rec_ edge pairing r : ℕ) :
    (s.todRecord i rec_ edge pairing).refState r = s.refState r :=
  get_set_beside (.inr (.inl (by dsimp only [Store.span]; omega))) s _

/-- A record x is written, and nothing else. -/
theorem todRecord_spec (rec_ edge pairing : ℕ) : ∃ x, s.todRecord i rec_ edge pairing = { s with regs := x } ∧
    SameRegs (words [F.REF_TOD_ST_RECORD i]) s { s with regs := x } ∧
    ({ s with regs := x } : State).get (F.REF_TOD_ST_RECORD i) = todWord rec_ edge pairing ∧
    (i < 4 → ∀ r, ({ s with regs := x } : State).refState r = s.refState r) := by
  have heq := todRecord_eq s i rec_ edge pairing
  have hregs := todRecord_regs s i rec_ edge pairing
  have hget := get_todRecord s i rec_ edge pairing
  have hst := fun hi => refState_todRecord s i hi rec_ edge pairing
  generalize s.todRecord i rec_ edge pairing = u at heq hregs hget hst ⊢
  generalize u.regs = x at heq
  subst heq
  exact ⟨x, rfl, hregs, hget, hst⟩

/-- The facts about a record x that was not paired, from those about its anomaly. -/
theorem todUnpaired_of (r c : ℕ) {x : Store} {t : State} (hr : r = 24 + i) (hc : c = 4)
    (hx : SameRegs (words [F.REF_TOD_ST_RECORD i]) s { s with regs := x }) (hof : AnomalyOf { s with regs := x } t r c) :
    SlotsStep [i] s t ∧ SameRegs (words (F.REF_TOD_ST_RECORD i :: refFlds r c)) s t ∧ t.refin = s.refin ∧ t.eng = s.eng := by
  have hrefin : t.refin = s.refin := by
    have h := congrArg State.refin hof.calm
    exact h
  have heng : t.eng = s.eng := by
    have h := congrArg State.eng hof.calm
    exact h
  have htsk : t.tsk = s.tsk := by
    have h := congrArg State.tsk hof.calm
    exact h
  have htime : t.time = s.time := by
    have h := congrArg State.time hof.calm
    exact h
  have htic : t.tic = s.tic := by
    have h := congrArg State.tic hof.calm
    exact h
  have hregs : SameRegs (words (F.REF_TOD_ST_RECORD i :: refFlds r c)) s t :=
    SameRegs.trans (SameRegs.mono hx fun k hk => mem_words_of_subset (by simp) hk)
      (SameRegs.mono hof.regs fun k hk => mem_words_of_subset (by simp [refFlds]) hk)
  refine ⟨⟨SameRegs.mono hregs fun k hk => mem_words_of_subset ?_ hk, fun j _ => tod_congr hrefin j,
    fun p hp => hof.ref p (hr ▸ hp i (List.mem_singleton_self i)), fun m hm => hof.inbox ▸ hm,
    fun j hj hn => hof.counter j hj (hr ▸ hc ▸ (hn i (List.mem_singleton_self i)).2), htime, htsk, by rw [hrefin],
      fun j => congrArg TodSt.text (tod_congr hrefin j), heng, htic, by rw [hrefin]⟩,
    hregs, hrefin, heng⟩
  have hmem : ∀ f ∈ F.REF_TOD_ST_RECORD i :: refFlds (24 + i) 4, f ∈ [i].flatMap slotFlds := by simp [refFlds, slotFlds]
  rw [hr, hc]
  exact hmem

theorem todUnpaired_facts (rec_ pairing : ℕ) : SlotsStep [i] s (s.todUnpaired i rec_ pairing) ∧
    SameRegs (words (F.REF_TOD_ST_RECORD i :: refFlds (24 + i) 4)) s (s.todUnpaired i rec_ pairing) ∧
    (s.todUnpaired i rec_ pairing).refin = s.refin ∧ (s.todUnpaired i rec_ pairing).eng = s.eng := by
  obtain ⟨x, heq, hregs, -, -⟩ := todRecord_spec s i rec_ 0 pairing
  rw [State.todUnpaired, heq]
  exact todUnpaired_of s i _ _ rfl rfl hregs (anomaly_any _ (24 + i) 4 (notMem_selfCounted_of_slot i (.inr rfl)))

theorem todUnpaired_step (rec_ pairing : ℕ) : SlotsStep [i] s (s.todUnpaired i rec_ pairing) := (todUnpaired_facts s i rec_ pairing).1

theorem todUnpaired_unpaired (hi : i < 4) (rec_ pairing : ℕ) : Unpaired s (s.todUnpaired i rec_ pairing) i rec_ pairing := by
  obtain ⟨x, heq, -, hget, hst⟩ := todRecord_spec s i rec_ 0 pairing
  rw [State.todUnpaired, heq]
  have hof := anomaly_any { s with regs := x } (24 + i) 4 (notMem_selfCounted_of_slot i (.inr rfl))
  generalize ({ s with regs := x } : State).anomaly (24 + i) 4 = t at hof ⊢
  refine ⟨?_, raised_congr (hst hi _) rfl rfl hof.raised, hof.inbox⟩
  refine (get_of_sameRegs_apart hof.regs fun f hf => ?_).trans hget
  simp only [refFlds, List.mem_cons, List.not_mem_nil, or_false] at hf
  rcases hf with rfl | rfl <;> dsimp only [Store.span] <;> omega

theorem todCheck_eq (s : State) (u : ℕ) : s.todCheck u = { s with regs := (s.todCheck u).regs } := rfl

theorem todCheck_refin (s : State) (u : ℕ) : (s.todCheck u).refin = s.refin := by rw [todCheck_eq]

theorem todCheck_asy (s : State) (u : ℕ) : (s.todCheck u).asy = s.asy := by rw [todCheck_eq]

theorem todCheck_eng (s : State) (u : ℕ) : (s.todCheck u).eng = s.eng := by rw [todCheck_eq]

theorem todCheck_step : SlotsStep [i] s (s.todCheck (4 + i)) :=
  SlotsStep.of_regs (todCheck_eq s (4 + i))
    (SameRegs.mono (todCheck_only s (4 + i)) fun _ hk => mem_words_of_subset (by simp [slotFlds]) hk)

/-- What a paired message counts and shows with its record x, before its measurement goes to Assay. -/
def todShown (x : Store) : State := (({ s with regs := x } : State).setTod i { s.tod i with last := s.ns }).count (0x078 + i)

/-- The measurement of a paired message. -/
def todMeas (rec_ : ℕ) (v : Int) : Meas :=
  let fl := State.cellBytes rec_ 7 1
  { s.measOf (24 + i) (ofFloat (State.cellBytes rec_ 12 4)) with
    off := some (State.wrapOff State.secQ v)
    abs := if bitOf fl 0 && !bitOf fl 2 then some (v - State.todTai rec_ * State.secQ) else none
    tod := if bitOf fl 2 then none
      else some ((State.todTai rec_).toNat, ((v + State.secQ / 2) / State.secQ).toNat, toSigned 16 (State.cellBytes rec_ 8 2)) }

theorem todPaired_eq (rec_ : ℕ) (v : Int) {x : Store} (hx : s.todRecord i rec_ (State.stampShort v) 0 = { s with regs := x }) :
    s.todPaired i rec_ v = (todShown s i x).deliver (todMeas (todShown s i x) i rec_ v) := by
  rw [State.todPaired, hx]
  rfl

theorem todMeas_congr {t : State} (h : t.time = s.time) (rec_ : ℕ) (v : Int) : todMeas t i rec_ v = todMeas s i rec_ v := by
  have hm : t.measOf (24 + i) (ofFloat (State.cellBytes rec_ 12 4)) = s.measOf (24 + i) (ofFloat (State.cellBytes rec_ 12 4)) := by
    rw [State.measOf, State.measOf, State.ns, State.ns, h]
  rw [todMeas, todMeas, hm]

theorem todShown_calm (x : Store) : (todShown s i x).calm =
    (({ s with regs := x } : State).setTod i { s.tod i with last := s.ns }).calm :=
  State.count_calm _ _

theorem todShown_time (x : Store) : (todShown s i x).time = s.time := by
  have h := congrArg State.time (todShown_calm s i x)
  exact h

theorem todPaired_step (rec_ : ℕ) (v : Int) : SlotsStep [i] s (s.todPaired i rec_ v) := by
  obtain ⟨x, heq, hx, -, -⟩ := todRecord_spec s i rec_ (State.stampShort v) 0
  rw [todPaired_eq s i rec_ v heq]
  have hcalm := todShown_calm s i x
  have hcounter : ∀ j, j ∉ selfCounted → j ≠ 0x078 + i → (todShown s i x).counter j = s.counter j :=
    fun j hj hn => counter_count_ne _ hj hn
  generalize todShown s i x = u at hcalm hcounter ⊢
  generalize todMeas u i rec_ v = m
  have hregs : u.regs = x := by
    have h := congrArg State.regs hcalm
    exact h
  have hrefin : u.refin = (s.setTod i { s.tod i with last := s.ns }).refin := by
    have h := congrArg State.refin hcalm
    exact h
  have hasy : u.asy = s.asy := by
    have h := congrArg State.asy hcalm
    exact h
  have htsk : u.tsk = s.tsk := by
    have h := congrArg State.tsk hcalm
    exact h
  have htime : u.time = s.time := by
    have h := congrArg State.time hcalm
    exact h
  refine ⟨?_, fun j hj => ?_, fun r _ => ?_, fun m hm => ?_, fun j hj hn => hcounter j hj (hn i (List.mem_singleton_self i)).1, htime,
    htsk, ?_, fun j => ?_, ?_, ?_, ?_⟩
  · exact SameRegs.of_regs (SameRegs.mono hx fun k hk => mem_words_of_subset (by simp [slotFlds]) hk) hregs
  · refine (tod_congr (t := u) (s := s.setTod i { s.tod i with last := s.ns }) hrefin j).trans ?_
    rw [tod_setTod, if_neg fun he => hj (List.mem_singleton.mpr he)]
  · show u.ref r = s.ref r
    rw [State.ref, hasy, State.ref]
  · exact List.mem_append_left _ (hasy ▸ hm)
  · exact congrArg (fun x => x.irigs) hrefin
  · refine (congrArg TodSt.text (tod_congr (t := u) (s := s.setTod i { s.tod i with last := s.ns }) hrefin j)).trans ?_
    rw [tod_setTod]
    split
    · next h => rw [h]
    · rfl
  · have h := congrArg State.eng hcalm
    exact h
  · have h := congrArg State.tic hcalm
    exact h
  · exact congrArg (fun x => x.srcs) hrefin

theorem todPaired_paired (hi : i < 4) (rec_ : ℕ) (v : Int) : Paired s (s.todPaired i rec_ v) i rec_ v := by
  obtain ⟨x, heq, -, hget, -⟩ := todRecord_spec s i rec_ (State.stampShort v) 0
  rw [todPaired_eq s i rec_ v heq]
  have hcalm := todShown_calm s i x
  have hcount : (todShown s i x).counter (0x078 + i) = (s.counter (0x078 + i) + 1) % 2 ^ 64 :=
    counter_count_self _ (by simp [selfCounted]; omega)
  rw [todMeas_congr s i (todShown_time s i x)]
  generalize todShown s i x = u at hcalm hcount ⊢
  have hrefin : u.refin = (s.setTod i { s.tod i with last := s.ns }).refin := by
    have h := congrArg State.refin hcalm
    exact h
  have hregs : u.regs = x := by
    have h := congrArg State.regs hcalm
    exact h
  refine ⟨?_, ?_, hcount, List.mem_append_right _ (List.mem_singleton_self _)⟩
  · exact (get_of_regs hregs _).trans hget
  · refine (congrArg TodSt.last (tod_congr (t := u) (s := s.setTod i { s.tod i with last := s.ns }) hrefin i)).trans ?_
    rw [tod_setTod, if_pos rfl]

end

/-! ## A message -/

section
variable (s) (hi : i < 4) (rec_ tFirst tLast : ℕ)

theorem todMessage_check (h : 2 < State.cellBytes rec_ 6 1) : s.todMessage i rec_ tFirst tLast = s.todCheck (4 + i) := by
  rw [State.todMessage, if_pos h]

theorem todMessage_waits (h : State.cellBytes rec_ 6 1 ≤ 2) (hr : s.on (F.REF_TOD_CFG_REFERS i) = true) :
    s.todMessage i rec_ tFirst tLast = s.setTod i { s.tod i with msgs := (s.tod i).msgs ++ [(rec_, (s.unshort tLast).toNat)] } := by
  rw [State.todMessage, if_neg (Nat.not_lt.mpr h), if_pos hr]

theorem todMessage_previous (h : State.cellBytes rec_ 6 1 ≤ 2) (hr : s.on (F.REF_TOD_CFG_REFERS i) = false) :
    s.todMessage i rec_ tFirst tLast = s.todPrevious i rec_ (s.unshort tFirst).toNat := by
  rw [State.todMessage, if_neg (Nat.not_lt.mpr h), if_neg (by simp [hr])]

theorem todPrevious_none (h : s.chOf (s.get (F.REF_TOD_CFG_PPS_IN i)) = none) (n : ℕ) :
    s.todPrevious i rec_ n = s.todUnpaired i rec_ 1 := by
  unfold State.todPrevious
  rw [h]

theorem todPrevious_some {ch n : ℕ} {v : Int} (h : s.chOf (s.get (F.REF_TOD_CFG_PPS_IN i)) = some ch) (hon : s.ticOn ch = true)
    (hst : (s.ticCh ch).stamp = some v) (hv : v ≤ (n : Int) * 65536) :
    s.todPrevious i rec_ n = if 1000000 * 65536 ≤ (n : Int) * 65536 - v ∧ (n : Int) * 65536 - v ≤ 900000000 * 65536
      then s.todPaired i rec_ v else s.todUnpaired i rec_ 2 := by
  unfold State.todPrevious
  rw [h]
  dsimp only
  rw [if_pos hon]
  dsimp only
  rw [hst]
  dsimp only
  rw [if_pos hv]

theorem todPrevious_step (n : ℕ) : SlotsStep [i] s (s.todPrevious i rec_ n) := by
  unfold State.todPrevious
  extract_lets x before
  clear_value before
  cases before with
  | some v =>
    dsimp only
    split
    · exact todPaired_step s i rec_ v
    · exact todUnpaired_step s i rec_ 2
  | none => exact todUnpaired_step s i rec_ 1

theorem todMessage_text : ((s.todMessage i rec_ tFirst tLast).tod i).text = (s.tod i).text := by
  unfold State.todMessage
  split
  · exact (todCheck_step s i).text i
  split
  · rw [tod_setTod, if_pos rfl]
  · exact (todPrevious_step s rec_ _).text i

theorem todMessage_eng : (s.todMessage i rec_ tFirst tLast).eng = s.eng := by
  unfold State.todMessage
  split
  · exact (todCheck_step s i).eng
  split
  · rfl
  · exact (todPrevious_step s rec_ _).eng

end

/-- What a message of slot i, whose UART is u, leads to in t. -/
def MessageOf (s t : State) (i u rec_ tFirst tLast : ℕ) : Prop :=
  (2 < State.cellBytes rec_ 6 1 →
        t.get (F.REF_UART_STAT_CHECK u) = min 255 (s.get (F.REF_UART_STAT_CHECK u) + 1) ∧
        SameRegs (words [F.REF_UART_STAT_CHECK u]) s t ∧ t.refin = s.refin ∧ t.asy = s.asy) ∧
      (State.cellBytes rec_ 6 1 ≤ 2 → s.on (F.REF_TOD_CFG_REFERS i) = true → SameRegs [] s t ∧
        t.tod i = { s.tod i with
          msgs := (s.tod i).msgs ++ [(rec_, (s.unshort tLast).toNat)] }) ∧
      (State.cellBytes rec_ 6 1 ≤ 2 → s.on (F.REF_TOD_CFG_REFERS i) = false →
        let first : Int := ((s.unshort tFirst).toNat : Int) * 65536
        (s.chOf (s.get (F.REF_TOD_CFG_PPS_IN i)) = none → Unpaired s t i rec_ 1) ∧
        (∀ ch v, s.chOf (s.get (F.REF_TOD_CFG_PPS_IN i)) = some ch → s.ticOn ch = true → (s.ticCh ch).stamp = some v →
          v ≤ first →
          (first - v < 1000000 * 65536 ∨ 900000000 * 65536 < first - v → Unpaired s t i rec_ 2) ∧
          (1000000 * 65536 ≤ first - v → first - v ≤ 900000000 * 65536 → Paired s t i rec_ v)))

theorem messageOf_todMessage (s : State) (hi : i < 4) (rec_ tFirst tLast : ℕ) :
    MessageOf s (s.todMessage i rec_ tFirst tLast) i (4 + i) rec_ tFirst tLast := by
  refine ⟨fun hbad => ?_, fun hok hr => ?_, fun hok hr => ?_⟩
  · rw [todMessage_check s rec_ _ _ hbad]
    exact ⟨get_todCheck s _, todCheck_only s _, todCheck_refin s _, todCheck_asy s _⟩
  · rw [todMessage_waits s rec_ _ _ hok hr]
    refine ⟨fun _ _ => rfl, ?_⟩
    rw [tod_setTod, if_pos rfl]
  · rw [todMessage_previous s rec_ _ _ hok hr]
    intro first
    refine ⟨fun hnone => ?_, fun ch v hch hch' hst hv => ?_⟩
    · rw [todPrevious_none s rec_ hnone]
      exact todUnpaired_unpaired s i hi rec_ 1
    · rw [todPrevious_some s rec_ hch hch' hst hv]
      refine ⟨fun hd => ?_, fun hlo hup => ?_⟩
      · rw [if_neg (by rintro ⟨h1, h2⟩; exact hd.elim (fun h => absurd h1 (not_le.mpr h)) fun h => absurd h2 (not_le.mpr h))]
        exact todUnpaired_unpaired s i hi rec_ 2
      · rw [if_pos ⟨hlo, hup⟩]
        exact todPaired_paired s i hi rec_ v

/-- What a message leads to does not depend on the engines. -/
theorem messageOf_eng {x : List (ℕ × EngSt)} {u rec_ tFirst tLast : ℕ} (h : MessageOf { s with eng := x } t i u rec_ tFirst tLast) :
    MessageOf s t i u rec_ tFirst tLast := h

theorem exec_todMsgCell {c : Cell} {rest : List Cell} (hc : OutCell s 10 2 c rest) (i : ℕ)
    (hi : State.cellBytes c.bytes 0 1 % 4 = i) (hon : s.uartOn (4 + i) = true) (hsrc : s.get (F.REF_TOD_CFG_SRC i) = 0) :
    ∃ x, exec .todMsgCell s = .next (({ s with eng := x } : State).todMessage i (State.cellBytes c.bytes 20 18)
      (State.cellBytes c.bytes 4 8) (State.cellBytes c.bytes 12 8)) ∧ (({ s with eng := x } : State).engine 10).outQ = rest := by
  have htake := takeCell_of_outCell hc
  have hq : ((s.setEngine 10 { s.engine 10 with outQ := rest }).engine 10).outQ = rest := by
    rw [State.engine_setEngine, if_pos rfl]
  obtain ⟨x, hx⟩ : ∃ x, s.setEngine 10 { s.engine 10 with outQ := rest } = { s with eng := x } := ⟨_, rfl⟩
  rw [hx] at htake hq
  refine ⟨x, ?_, hq⟩
  change execTodMsgCell s = _
  rw [execTodMsgCell, htake]
  dsimp only
  rw [hi, if_pos]
  rw [Bool.and_eq_true]
  exact ⟨hon, decide_eq_true hsrc⟩

theorem todMsgCell_taken {c : Cell} {rest : List Cell} (hc : OutCell s 10 2 c rest) :
    let i := State.cellBytes c.bytes 0 1 % 4
    let rec_ := State.cellBytes c.bytes 20 18
    s.uartOn (4 + i) = true → s.get (F.REF_TOD_CFG_SRC i) = 0 →
    Does .todMsgCell s fun t =>
      (t.engine 10).outQ = rest ∧
      (2 < State.cellBytes rec_ 6 1 →
        t.get (F.REF_UART_STAT_CHECK (4 + i)) = min 255 (s.get (F.REF_UART_STAT_CHECK (4 + i)) + 1) ∧
        SameRegs (words [F.REF_UART_STAT_CHECK (4 + i)]) s t ∧ t.refin = s.refin ∧ t.asy = s.asy) ∧
      (State.cellBytes rec_ 6 1 ≤ 2 → s.on (F.REF_TOD_CFG_REFERS i) = true → SameRegs [] s t ∧
        t.tod i = { s.tod i with
          msgs := (s.tod i).msgs ++ [(rec_, (s.unshort (State.cellBytes c.bytes 12 8)).toNat)] }) ∧
      (State.cellBytes rec_ 6 1 ≤ 2 → s.on (F.REF_TOD_CFG_REFERS i) = false →
        let first : Int := ((s.unshort (State.cellBytes c.bytes 4 8)).toNat : Int) * 65536
        (s.chOf (s.get (F.REF_TOD_CFG_PPS_IN i)) = none → Unpaired s t i rec_ 1) ∧
        (∀ ch v, s.chOf (s.get (F.REF_TOD_CFG_PPS_IN i)) = some ch → s.ticOn ch = true → (s.ticCh ch).stamp = some v →
          v ≤ first →
          (first - v < 1000000 * 65536 ∨ 900000000 * 65536 < first - v → Unpaired s t i rec_ 2) ∧
          (1000000 * 65536 ≤ first - v → first - v ≤ 900000000 * 65536 → Paired s t i rec_ v))) := by
  intro i rec_ hon hsrc
  obtain ⟨x, hexec, hq⟩ := exec_todMsgCell hc i rfl hon hsrc
  refine ⟨_, hexec, ?_, messageOf_eng (messageOf_todMessage { s with eng := x } (Nat.mod_lt _ (by decide)) _ _ _)⟩
  rw [engine_congr (todMessage_eng _ _ _ _)]
  exact hq

/-! ## Celmir's parser -/

theorem alDel_alIns {α : Type} (k : ℕ) (x : α) (l : List (ℕ × α)) : alDel (alIns k x l) k = alDel l k := by
  induction l with
  | nil => simp [alIns, alDel]
  | cons p l ih =>
    obtain ⟨j, y⟩ := p
    rw [alIns]
    split
    · simp [alDel]
    · simp only [alDel, List.filter_cons] at ih ⊢
      rw [ih]

theorem alSet_alSet {α : Type} (l : List (ℕ × α)) (k : ℕ) (x y : α) : alSet (alSet l k x) k y = alSet l k y := by
  rw [alSet, alSet, alDel_alIns, alSet]
  congr 1
  simp [alDel]

theorem setTod_setTod (s : State) (i : ℕ) (x y : TodSt) : (s.setTod i x).setTod i y = s.setTod i y := by
  simp only [State.setTod, alSet_alSet]

theorem parseText_nil (k : ℕ) (last : ℕ) (h : (s.tod i).text = []) : State.parseText k s i last = s := by
  cases k with
  | zero => rfl
  | succ k =>
    unfold State.parseText
    rw [h]
    rfl

/-- What becomes of one whole message l that ends at `last`. -/
def parsed (s : State) (i : ℕ) (l : List (ℕ × Bool × ℕ)) (last : ℕ) : TodParse → State
  | .drop => s
  | .check => s.todCheck (4 + i)
  | .record b => if l.any (fun x => x.2.1) then s.todCheck (4 + i) else s.todMessage i b (l.headD (0, false, 0)).2.2 last

theorem parsed_text (l : List (ℕ × Bool × ℕ)) (last : ℕ) (r : TodParse) : ((parsed s i l last r).tod i).text = (s.tod i).text := by
  cases r with
  | drop => rfl
  | check => exact (todCheck_step s i).text i
  | record b =>
    rw [parsed]
    split
    · exact (todCheck_step s i).text i
    · exact todMessage_text s b _ last

theorem parsed_eng (s : State) (i : ℕ) (l : List (ℕ × Bool × ℕ)) (last : ℕ) (r : TodParse) :
    (parsed s i l last r).eng = s.eng := by
  cases r with
  | drop => rfl
  | check => exact todCheck_eng s _
  | record b =>
    rw [parsed]
    split
    · exact todCheck_eng s _
    · exact todMessage_eng s b _ last

theorem parseText_whole {l : List (ℕ × Bool × ℕ)} {r : TodParse} (last : ℕ) (x : TodSt) (hl : l ≠ [])
    (hscan : scanTod (l.map Prod.fst) = .msg l.length r) :
    State.parseText l.length (s.setTod i { x with text := l }) i last = parsed (s.setTod i { x with text := [] }) i l last r := by
  obtain ⟨k, hk⟩ : ∃ k, l.length = k + 1 := Nat.exists_eq_succ_of_ne_zero (mt List.eq_nil_of_length_eq_zero hl)
  have htod : (s.setTod i { x with text := l }).tod i = { x with text := l } := by rw [tod_setTod, if_pos rfl]
  conv_lhs => rw [hk]; unfold State.parseText
  rw [htod]
  dsimp only
  rw [hscan]
  dsimp only
  rw [List.take_length, List.drop_length, setTod_setTod]
  refine Eq.trans (parseText_nil k last ?_ : State.parseText k (parsed (s.setTod i { x with text := [] }) i l last r) i last = _) rfl
  rw [parsed_text, tod_setTod, if_pos rfl]

/-- What one whole message l of slot i, whose UART is u, leads to: it is passed over, checked or taken. -/
def ParsedOf (s t : State) (i u : ℕ) (l : List (ℕ × Bool × ℕ)) (r : TodParse) : Prop :=
  (r = .drop → SameRegs [] s t ∧ t.tod i = s.tod i ∧ t.asy = s.asy) ∧
  (r = .check ∨ (r ≠ .drop ∧ l.any (fun x => x.2.1) = true) →
    t.get (F.REF_UART_STAT_CHECK u) = min 255 (s.get (F.REF_UART_STAT_CHECK u) + 1) ∧
    SameRegs (words [F.REF_UART_STAT_CHECK u]) s t ∧ t.tod i = s.tod i ∧ t.asy = s.asy)

theorem parsedOf_parsed (s : State) (i : ℕ) {l : List (ℕ × Bool × ℕ)} (last : ℕ) (r : TodParse) :
    ParsedOf s (parsed s i l last r) i (4 + i) l r := by
  have hcheck : ∀ u, (s.todCheck u).get (F.REF_UART_STAT_CHECK u) = min 255 (s.get (F.REF_UART_STAT_CHECK u) + 1) ∧
      SameRegs (words [F.REF_UART_STAT_CHECK u]) s (s.todCheck u) ∧ (s.todCheck u).tod i = s.tod i ∧ (s.todCheck u).asy = s.asy :=
    fun u => ⟨get_todCheck s u, todCheck_only s u, tod_congr (todCheck_refin s u) i, todCheck_asy s u⟩
  refine ⟨fun hr => ?_, fun hr => ?_⟩
  · subst hr
    exact ⟨SameRegs.refl _ s, rfl, rfl⟩
  · rcases hr with rfl | ⟨hdrop, hany⟩
    · exact hcheck _
    · cases r with
      | drop => exact absurd rfl hdrop
      | check => exact hcheck _
      | record b =>
        rw [parsed, if_pos hany]
        exact hcheck _

/-- What a message is parsed to depends on neither the engines nor the text that went before it. -/
theorem parsedOf_base {x : List (ℕ × EngSt)} {u : ℕ} {l : List (ℕ × Bool × ℕ)} {r : TodParse} (htext : (s.tod i).text = [])
    (h : ParsedOf ((({ s with eng := x } : State)).setTod i { s.tod i with text := [] }) t i u l r) : ParsedOf s t i u l r := by
  have htod : ((({ s with eng := x } : State)).setTod i { s.tod i with text := [] }).tod i = s.tod i := by
    rw [tod_setTod, if_pos rfl, ← htext]
  obtain ⟨hdrop, hcheck⟩ := h
  rw [htod] at hdrop hcheck
  exact ⟨hdrop, hcheck⟩

theorem cellChars_head {c : Cell} (h : State.cellChars c ≠ []) :
    ((State.cellChars c).headD (0, false, 0)).2.2 = State.cellBytes c.bytes 4 8 := by
  unfold State.cellChars at h ⊢
  cases hn : List.range (State.cellBytes c.bytes 1 1) with
  | nil => simp [hn] at h
  | cons k l => rfl

theorem exec_celmirParse {c : Cell} {r : TodParse} (htakes : s.engTakes 10 = true) (hq : (s.engine 10).outQ = []) (hchars : IsChars s c)
    (i : ℕ) (hi : State.cellBytes c.bytes 0 1 % 4 = i) (htext : (s.tod i).text = []) (hon : s.uartOn (4 + i) = true)
    (hsrc : s.get (F.REF_TOD_CFG_SRC i) = 0) (hscan : scanTod ((State.cellChars c).map Prod.fst) = .msg (State.cellChars c).length r)
    (hl : State.cellChars c ≠ []) {x : List (ℕ × EngSt)}
    (hx : s.setEngine 10 { s.engine 10 with cells := (s.engine 10).cells.erase c } = { s with eng := x }) :
    exec .todMsgCell s = .next (parsed (({ s with eng := x } : State).setTod i { s.tod i with text := [] }) i (State.cellChars c)
      (State.cellBytes c.bytes 12 8) r) := by
  have htake : s.takeCell 10 2 = none := by
    unfold State.takeCell
    dsimp only
    rw [hq]
  change execTodMsgCell s = _
  rw [execTodMsgCell, htake]
  dsimp only
  rw [State.celmirParse]
  dsimp only
  rw [if_neg (by simp [htakes, hq]), show (s.engine 10).cells.find? _ = some c from hchars]
  dsimp only
  rw [hi, hx, if_pos]
  · rw [show (({ s with eng := x } : State).tod i).text ++ State.cellChars c = State.cellChars c by
      rw [show ({ s with eng := x } : State).tod i = s.tod i from rfl, htext, List.nil_append]]
    exact congrArg Host.Outcome.next (parseText_whole _ (s.tod i) hl hscan)
  · rw [Bool.and_eq_true]
    exact ⟨hon, decide_eq_true hsrc⟩

theorem todMsgCell_parsed {c : Cell} {r : TodParse} (htakes : s.engTakes 10 = true) (hq : (s.engine 10).outQ = [])
    (hchars : IsChars s c) :
    let i := State.cellBytes c.bytes 0 1 % 4
    let l := State.cellChars c
    (s.tod i).text = [] → s.uartOn (4 + i) = true → s.get (F.REF_TOD_CFG_SRC i) = 0 →
    scanTod (l.map Prod.fst) = .msg l.length r → l ≠ [] →
    Does .todMsgCell s fun t =>
      let s' := s.setEngine 10 { s.engine 10 with cells := (s.engine 10).cells.erase c }
      (t.engine 10).cells = (s.engine 10).cells.erase c ∧
      (r = .drop → SameRegs [] s t ∧ t.tod i = s.tod i ∧ t.asy = s.asy) ∧
      (r = .check ∨ (r ≠ .drop ∧ l.any (fun x => x.2.1) = true) →
        t.get (F.REF_UART_STAT_CHECK (4 + i)) = min 255 (s.get (F.REF_UART_STAT_CHECK (4 + i)) + 1) ∧
        SameRegs (words [F.REF_UART_STAT_CHECK (4 + i)]) s t ∧ t.tod i = s.tod i ∧ t.asy = s.asy) ∧
      (∀ b, r = .record b → l.any (fun x => x.2.1) = false →
        t = (s'.setTod i { s.tod i with text := [] }).todMessage i b (State.cellBytes c.bytes 4 8) (State.cellBytes c.bytes 12 8)) := by
  intro i l htext hon hsrc hscan hl
  have hcells : ((s.setEngine 10 { s.engine 10 with cells := (s.engine 10).cells.erase c }).engine 10).cells =
      (s.engine 10).cells.erase c := by
    rw [State.engine_setEngine, if_pos rfl]
  obtain ⟨x, hx⟩ : ∃ x, s.setEngine 10 { s.engine 10 with cells := (s.engine 10).cells.erase c } = { s with eng := x } := ⟨_, rfl⟩
  refine ⟨_, exec_celmirParse htakes hq hchars i rfl htext hon hsrc hscan hl hx, ?_⟩
  rw [hx] at hcells ⊢
  obtain ⟨hdrop, hcheck⟩ := parsedOf_base htext (parsedOf_parsed _ i (State.cellBytes c.bytes 12 8) r)
  refine ⟨?_, hdrop, hcheck, fun b hb hany => ?_⟩
  · rw [engine_congr (parsed_eng _ _ _ _ _)]
    exact hcells
  · subst hb
    rw [parsed, if_neg (Bool.eq_false_iff.mp hany), cellChars_head hl]

/-! ## Time limits -/

theorem tickNo_runTo (s : State) (n : ℕ) : (s.runTo n).time.tickNo = s.time.tickNo := by
  unfold State.runTo State.advance
  split <;> rfl

/-- Core time has been carried to n. -/
theorem runTo_spec (s : State) (n : ℕ) : ∃ τ, s.runTo n = { s with time := τ } ∧ τ.tickNo = s.time.tickNo :=
  ⟨_, runTo_eq s n, tickNo_runTo s n⟩

theorem todLossTimeout_loses (hi : i < 4) (hrun : s.time.running = true) (hon : s.uartOn (4 + i) = true) :
    Does (.todLossTimeout i) s fun t =>
      let s' := s.runTo ((s.tod i).last + 2500000000)
      t.time = s'.time ∧ t.tod i = { s.tod i with last := s'.ns } ∧ Raised s t (24 + i) 2 ∧
      SameRegs (words (refFlds (24 + i) 2)) s t := by
  obtain ⟨τ, hτ, htick⟩ := runTo_spec s ((s.tod i).last + 2500000000)
  have hexec : exec (.todLossTimeout i) s = .next ((({ s with time := τ } : State).setTod i
      { s.tod i with last := ({ s with time := τ } : State).ns }).anomaly (24 + i) 2) := by
    change execTodLossTimeout i s = _
    rw [execTodLossTimeout, if_pos (by simp [hi, hrun, hon]), hτ]
    rfl
  refine ⟨_, hexec, ?_⟩
  have hof := anomaly_any (({ s with time := τ } : State).setTod i { s.tod i with last := ({ s with time := τ } : State).ns })
    (24 + i) 2 (notMem_selfCounted_of_slot i (.inl rfl))
  have htod : (({ s with time := τ } : State).setTod i { s.tod i with last := ({ s with time := τ } : State).ns }).tod i =
      { s.tod i with last := ({ s with time := τ } : State).ns } := by rw [tod_setTod, if_pos rfl]
  rw [hτ]
  generalize (({ s with time := τ } : State).setTod i { s.tod i with last := ({ s with time := τ } : State).ns }).anomaly
    (24 + i) 2 = t at hof ⊢
  have htime : t.time = τ := by
    have h := congrArg State.time hof.calm
    exact h
  have hrefin := congrArg State.refin hof.calm
  exact ⟨htime, (tod_congr hrefin i).trans htod,
    raised_congr (v := ({ s with time := τ } : State).setTod i _) rfl htick rfl hof.raised, hof.regs⟩

theorem todPairWindowExpiry_expires {r at_ : ℕ} {rest : List (ℕ × ℕ)} (hi : i < 4) (hrun : s.time.running = true)
    (hmsgs : (s.tod i).msgs = (r, at_) :: rest) :
    Does (.todPairWindowExpiry i) s fun t =>
      t.time = (s.runTo (at_ + 900000000)).time ∧ t.tod i = { s.tod i with msgs := rest } ∧ Unpaired s t i r 1 ∧
      SameRegs (words (F.REF_TOD_ST_RECORD i :: refFlds (24 + i) 4)) s t := by
  obtain ⟨τ, hτ, htick⟩ := runTo_spec s (at_ + 900000000)
  have hexec : exec (.todPairWindowExpiry i) s =
      .next ((({ s with time := τ } : State).setTod i { s.tod i with msgs := rest }).todUnpaired i r 1) := by
    change execTodPairWindowExpiry i s = _
    rw [execTodPairWindowExpiry, hmsgs]
    dsimp only
    rw [if_pos hrun, hτ]
  refine ⟨_, hexec, ?_⟩
  obtain ⟨hstep, hregs, hrefin, -⟩ := todUnpaired_facts (({ s with time := τ } : State).setTod i { s.tod i with msgs := rest }) i r 1
  obtain ⟨hget, hraised, hinbox⟩ :=
    todUnpaired_unpaired (({ s with time := τ } : State).setTod i { s.tod i with msgs := rest }) i hi r 1
  have htod : (({ s with time := τ } : State).setTod i { s.tod i with msgs := rest }).tod i = { s.tod i with msgs := rest } := by
    rw [tod_setTod, if_pos rfl]
  have htime := hstep.time
  rw [hτ]
  generalize (({ s with time := τ } : State).setTod i { s.tod i with msgs := rest }).todUnpaired i r 1 = t at *
  exact ⟨htime, (tod_congr hrefin i).trans htod,
    ⟨hget, raised_congr (v := ({ s with time := τ } : State).setTod i _) rfl htick rfl hraised, hinbox⟩, hregs⟩

/-! ## IRIG-B frames -/

/-- The year of a frame whose on-time edge came at `at_`, read on the slot's scale. -/
def irigYear (leap : List LeapEnt) (scale at_ : ℕ) (year : Option ℕ) : ℕ :=
  let q : Int := (at_ : Int) * 65536
  let now := if scale = 0 then (State.utcScale leap q).q else if scale = 1 then q else q - 19 * State.secQ
  match year with
  | some y => 2000 + y
  | none => (State.civilOf (now / State.secQ / 86400)).1.toNat

/-- A frame that makes no record (R85). -/
def IrigBad (leap : List LeapEnt) (scale at_ : ℕ) (ok : Bool) (doy : ℕ) (year : Option ℕ) : Prop :=
  ok = false ∨ doy = 0 ∨ 366 < doy ∨ (doy = 366 ∧ State.isLeap (irigYear leap scale at_ year) = false)

/-- The record of a frame. -/
def irigRec (leap : List LeapEnt) (scale at_ : ℕ) (prov : Bool) (sec mn hour doy : ℕ) (year : Option ℕ) : ℕ :=
  pack 0 [(0, 6, ofSigned 48 ((State.daysOf (irigYear leap scale at_ year) 1 1 + (doy - 1 : Nat)) * 86400 +
      (hour * 3600 + mn * 60 + sec : Nat))),
    (6, 1, scale), (7, 1, if !year.isSome && prov then 5 else 1),
    (8, 2, ofSigned 16 (State.taiUtc leap ((at_ : Int) * 65536 / State.secQ))), (12, 4, 0xFFFFFFFF)]

theorem todBytes_irig (sec scale flags off : ℕ) :
    todBytes sec scale flags off 0 0 0xFFFFFFFF 0 =
      pack 0 [(0, 6, sec), (6, 1, scale), (7, 1, flags), (8, 2, off), (12, 4, 0xFFFFFFFF)] := by
  simp [todBytes, pack]

theorem irigTold_year {l : List ℕ} {ok : Bool} {sec mn hour doy : ℕ} {year : Option ℕ}
    (h : irigTold l ok sec mn hour doy year = true) :
    irigWhole l = ok ∧ (ok = true → ∃ yy, irigFields l = (sec, mn, hour, doy, yy) ∧ ∀ y, year = some y → y = yy) := by
  simp only [irigTold, Bool.and_eq_true, beq_iff_eq, Bool.or_eq_true, Bool.not_eq_true', decide_eq_true_eq] at h
  obtain ⟨hok, hfields⟩ := h
  refine ⟨hok.symm, fun ht => ?_⟩
  obtain ⟨hf, hy⟩ := hfields.resolve_left (by simp [ht])
  refine ⟨_, hf, fun y hy' => ?_⟩
  subst hy'
  simpa using hy

section
variable (s) (i)

/-- A record of a frame, or a CHECK, given to slot i. -/
def irigTaken (leap : List LeapEnt) (scale at_ : ℕ) (prov : Bool) (sec mn hour doy : ℕ) (year : Option ℕ)
    (edge : Option Int) : State :=
  match edge with
  | some v => s.todPaired i (irigRec leap scale at_ prov sec mn hour doy year) v
  | none => s.todUnpaired i (irigRec leap scale at_ prov sec mn hour doy year) 1

theorem irigRecord_told {l : List ℕ} {ok : Bool} {sec mn hour doy at_ : ℕ} {year : Option ℕ} {edge : Option Int}
    (h : irigTold l ok sec mn hour doy year = true) :
    let scale := s.get (F.REF_TOD_CFG_IRIG_SCALE i)
    (IrigBad s.tsk.leap scale at_ ok doy year → s.irigRecord i year.isSome l at_ edge = s.todCheck (4 + i)) ∧
    (¬ IrigBad s.tsk.leap scale at_ ok doy year → s.irigRecord i year.isSome l at_ edge =
      irigTaken s i s.tsk.leap scale at_ s.prov sec mn hour doy year edge) := by
  intro scale
  obtain ⟨hwhole, hf⟩ := irigTold_year h
  cases ok with
  | false =>
    refine ⟨fun _ => ?_, fun hn => absurd (.inl rfl) hn⟩
    unfold State.irigRecord
    rw [hwhole]
    rfl
  | true =>
    obtain ⟨yy, hfields, hyear⟩ := hf rfl
    unfold State.irigRecord
    rw [hfields, hwhole]
    have hy : (if year.isSome = true then 2000 + yy else (State.civilOf
        ((if scale = 0 then (State.utcScale s.tsk.leap ((at_ : Int) * 65536)).q
        else if scale = 1 then (at_ : Int) * 65536 else (at_ : Int) * 65536 - 19 * State.secQ) / State.secQ / 86400)).1.toNat) =
        irigYear s.tsk.leap scale at_ year := by
      cases year with
      | none => rfl
      | some y => rw [hyear y rfl]; rfl
    dsimp only
    rw [hy]
    have hiff : (!true || decide (doy = 0) || decide (366 < doy) ||
        (decide (doy = 366) && !State.isLeap (irigYear s.tsk.leap scale at_ year))) = true ↔
        IrigBad s.tsk.leap scale at_ true doy year := by
      simp [IrigBad, or_assoc]
    refine ⟨fun hb => if_pos (hiff.mpr hb), fun hb => (if_neg (mt hiff.mp hb)).trans ?_⟩
    rw [todBytes_irig]
    cases edge <;> rfl

theorem irigRecord_step (year : Bool) (l : List ℕ) (at_ : ℕ) (edge : Option Int) :
    SlotsStep [i] s (s.irigRecord i year l at_ edge) := by
  unfold State.irigRecord
  split
  extract_lets
  split
  · exact todCheck_step s i
  split
  · exact todPaired_step s i _ _
  · exact todUnpaired_step s i _ _

end

/-- The slots that take the frames of a decoder. -/
def irigSlots (s : State) (n : ℕ) : List ℕ :=
  [0, 1, 2, 3].filter (fun i => s.uartOn (4 + i) && s.get (F.REF_TOD_CFG_SRC i) = 1 && s.get (F.REF_TOD_CFG_PPS_IN i) = n)

theorem mem_irigSlots {n : ℕ} (hi : i < 4) (hon : s.uartOn (4 + i) = true) (hsrc : s.get (F.REF_TOD_CFG_SRC i) = 1)
    (hn : s.get (F.REF_TOD_CFG_PPS_IN i) = n) : i ∈ irigSlots s n := by
  have h4 : i ∈ [0, 1, 2, 3] := by
    simp only [List.mem_cons, List.not_mem_nil, or_false]
    omega
  exact List.mem_filter.mpr ⟨h4, by simp [hon, hsrc, hn]⟩

theorem nodup_irigSlots (n : ℕ) : (irigSlots s n).Nodup := List.Nodup.filter _ (by decide)

theorem lt_of_mem_irigSlots {n : ℕ} (h : i ∈ irigSlots s n) : i < 4 := by
  have h4 := (List.mem_filter.mp h).1
  simp only [List.mem_cons, List.not_mem_nil, or_false] at h4
  omega

/-- A field that is shown by no message of the slots `is`, all of them below 4. -/
theorem SlotsStep.get {is : List ℕ} (h : SlotsStep is s t) {g : Fld}
    (hg : ∀ j ∈ is, ∀ f ∈ slotFlds j, f.a + 4 * Store.span f ≤ g.a ∨ g.a + 4 * Store.span g ≤ f.a) : t.get g = s.get g :=
  get_of_sameRegs_apart h.regs fun f hf => (List.mem_flatMap.mp hf).elim fun j hj => hg j hj.1 f hj.2

section
variable {is : List ℕ} (h : SlotsStep is s t) (his : ∀ j ∈ is, j < 4)
include h his

theorem SlotsStep.scale (hi : i < 4) : t.get (F.REF_TOD_CFG_IRIG_SCALE i) = s.get (F.REF_TOD_CFG_IRIG_SCALE i) :=
  h.get fun j hj f hf => by
    have := his j hj
    simp only [slotFlds, List.mem_cons, List.not_mem_nil, or_false] at hf
    rcases hf with rfl | rfl | rfl | rfl <;> dsimp only [Store.span] <;> omega

theorem SlotsStep.prov : t.prov = s.prov := by
  rw [State.prov, State.on, h.get fun j hj f hf => ?_]
  · rfl
  · have := his j hj
    simp only [slotFlds, List.mem_cons, List.not_mem_nil, or_false] at hf
    rcases hf with rfl | rfl | rfl | rfl <;> dsimp only [Store.span] <;> omega

theorem SlotsStep.shown (hi : i < 4) (hni : i ∉ is) : t.get (F.REF_TOD_ST_RECORD i) = s.get (F.REF_TOD_ST_RECORD i) :=
  h.get fun j hj f hf => by
    have := his j hj
    have hne : j ≠ i := fun he => hni (he ▸ hj)
    simp only [slotFlds, List.mem_cons, List.not_mem_nil, or_false] at hf
    rcases hf with rfl | rfl | rfl | rfl <;> dsimp only [Store.span] <;> omega

theorem SlotsStep.check (hi : i < 4) (hni : i ∉ is) :
    t.get (F.REF_UART_STAT_CHECK (4 + i)) = s.get (F.REF_UART_STAT_CHECK (4 + i)) :=
  h.get fun j hj f hf => by
    have := his j hj
    have hne : j ≠ i := fun he => hni (he ▸ hj)
    simp only [slotFlds, List.mem_cons, List.not_mem_nil, or_false] at hf
    rcases hf with rfl | rfl | rfl | rfl <;> dsimp only [Store.span] <;> omega

theorem SlotsStep.refState (r : ℕ) : t.refState r = s.refState r :=
  h.get fun j hj f hf => by
    have := his j hj
    simp only [slotFlds, List.mem_cons, List.not_mem_nil, or_false] at hf
    rcases hf with rfl | rfl | rfl | rfl <;> dsimp only [Store.span] <;> omega

theorem SlotsStep.counts (hi : i < 4) (hni : i ∉ is) : t.counter (0x078 + i) = s.counter (0x078 + i) :=
  h.counter _ (by simp [selfCounted]; omega) fun j hj => by
    have := his j hj
    have hne : j ≠ i := fun he => hni (he ▸ hj)
    omega

theorem SlotsStep.mismatches (hni : i ∉ is) :
    t.counter (0x1C0 + 8 * (24 + i) + 4) = s.counter (0x1C0 + 8 * (24 + i) + 4) :=
  h.counter _ (notMem_selfCounted_of_slot i (.inr rfl)) fun j hj => by
    have := his j hj
    have hne : j ≠ i := fun he => hni (he ▸ hj)
    omega

end

section
variable {is : List ℕ} {v : State} (hs : SlotsStep is s v) (ht : SlotsStep is u t) (his : ∀ j ∈ is, j < 4) (hi : i < 4)
  (hni : i ∉ is)
include hs ht his hi hni

/-- Slot i has been paired between messages of other slots. -/
theorem paired_between {rec_ : ℕ} {x : Int} (h : Paired v u i rec_ x) : Paired s t i rec_ x := by
  obtain ⟨hget, hlast, hcount, hmeas⟩ := h
  refine ⟨(ht.shown his hi hni).trans hget, ?_, ?_, ht.inbox _ ?_⟩
  · rw [ht.tod i hni, hlast, State.ns, hs.time, State.ns]
  · rw [Counts, ht.counts his hi hni, hcount, hs.counts his hi hni]
  · change todMeas s i rec_ x ∈ _
    rw [← todMeas_congr s i hs.time]
    exact hmeas

/-- Slot i has had a message that was not paired, between messages of other slots. -/
theorem unpaired_between {rec_ pairing : ℕ} (h : Unpaired v u i rec_ pairing) :
    t.get (F.REF_TOD_ST_RECORD i) = todWord rec_ 0 pairing ∧ Raised s t (24 + i) 4 := by
  obtain ⟨hget, hraised, -⟩ := h
  refine ⟨(ht.shown his hi hni).trans hget, fun hr => ?_⟩
  obtain ⟨hlog, hcount⟩ := hraised (by rwa [hs.refState his])
  refine ⟨?_, ?_⟩
  · rw [ht.ref _ fun j hj he => hni (by rwa [show i = j by omega]), ← hs.time]
    exact hlog
  · rw [Counts, ht.mismatches his hni, hcount, hs.mismatches his hni]

/-- Slot i has had a CHECK between messages of other slots. -/
theorem checked_between (h : u = v.todCheck (4 + i)) :
    t.get (F.REF_UART_STAT_CHECK (4 + i)) = min 255 (s.get (F.REF_UART_STAT_CHECK (4 + i)) + 1) ∧ t.tod i = s.tod i := by
  subst h
  refine ⟨?_, ?_⟩
  · rw [ht.check his hi hni, get_todCheck, hs.check his hi hni]
  · rw [ht.tod i hni, tod_congr (todCheck_refin v _), hs.tod i hni]

end

theorem irigFrame_turn {n : ℕ} {l : List ℕ} {at_ : ℕ} {edge : Option Int} {ok : Bool} {sec mn hour doy : ℕ} {year : Option ℕ}
    (hn : n < 16)
    (hen : s.on (F.REF_IN_CFG_EN n) = true) (hkind : s.get (F.REF_IN_CFG_KIND n) = 3) (hdone : (s.irig n).done = some (l, at_, edge))
    (htold : irigTold l ok sec mn hour doy year = true) : exec (.irigFrame n ok sec mn hour doy year edge) s =
      .next ((irigSlots s n).foldl (fun s i => s.irigRecord i year.isSome l at_ edge) (s.setIrig n { s.irig n with done := none })) := by
  change execIrigFrame n ok sec mn hour doy year edge s = _
  rw [execIrigFrame, hdone]
  dsimp only
  rw [if_neg (by simp [htold])]
  refine congrArg Host.Outcome.next (if_pos ?_)
  rw [Bool.and_eq_true, Bool.and_eq_true]
  exact ⟨⟨decide_eq_true hn, hen⟩, decide_eq_true hkind⟩

/-- A state that differs from s in what its inputs hold alone. -/
theorem paired_refin {x : RefinSt} {rec_ : ℕ} {v : Int} (h : Paired { s with refin := x } t i rec_ v) : Paired s t i rec_ v := h

theorem raised_refin {x : RefinSt} {r c : ℕ} (h : Raised { s with refin := x } t r c) : Raised s t r c := h

theorem irig_setIrig (s : State) (n : ℕ) (x : IrigSt) : (s.setIrig n x).irig n = x := by
  simp [State.irig, State.setIrig]

theorem irig_congr (h : t.refin.irigs = s.refin.irigs) (n : ℕ) : t.irig n = s.irig n := by rw [State.irig, h, State.irig]

theorem irigFrame_taken {n : ℕ} {l : List ℕ} {at_ : ℕ} {edge : Option Int} {ok : Bool} {sec mn hour doy : ℕ} {year : Option ℕ}
    (hn : n < 16)
    (hen : s.on (F.REF_IN_CFG_EN n) = true) (hkind : s.get (F.REF_IN_CFG_KIND n) = 3) (hdone : (s.irig n).done = some (l, at_, edge))
    (htold : irigTold l ok sec mn hour doy year = true) (hi : i < 4) (hon : s.uartOn (4 + i) = true)
    (hsrc : s.get (F.REF_TOD_CFG_SRC i) = 1) (hpps : s.get (F.REF_TOD_CFG_PPS_IN i) = n) :
    let scale := s.get (F.REF_TOD_CFG_IRIG_SCALE i)
    Does (.irigFrame n ok sec mn hour doy year edge) s fun t =>
      (IrigBad s.tsk.leap scale at_ ok doy year →
        t.get (F.REF_UART_STAT_CHECK (4 + i)) = min 255 (s.get (F.REF_UART_STAT_CHECK (4 + i)) + 1) ∧ t.tod i = s.tod i) ∧
      (¬IrigBad s.tsk.leap scale at_ ok doy year → ∀ v, edge = some v →
        Paired s t i (irigRec s.tsk.leap scale at_ s.prov sec mn hour doy year) v) ∧
      (¬IrigBad s.tsk.leap scale at_ ok doy year → edge = none →
        t.get (F.REF_TOD_ST_RECORD i) = todWord (irigRec s.tsk.leap scale at_ s.prov sec mn hour doy year) 0 1 ∧
        Raised s t (24 + i) 4) ∧
      (t.irig n).done = none ∧ t.time = s.time := by
  intro scale
  refine ⟨_, irigFrame_turn hn hen hkind hdone htold, ?_⟩
  have hmem := mem_irigSlots hi hon hsrc hpps
  have hnd := nodup_irigSlots (s := s) n
  have hlt : ∀ j ∈ (irigSlots s n).erase i, j < 4 := fun j hj => lt_of_mem_irigSlots (List.mem_of_mem_erase hj)
  have hni : i ∉ (irigSlots s n).erase i := fun h => (hnd.mem_erase_iff.mp h).1 rfl
  obtain ⟨w, hw⟩ : ∃ w, s.setIrig n { s.irig n with done := none } = { s with refin := w } := ⟨_, rfl⟩
  obtain ⟨v, hs, ht⟩ := slotsStep_turns.foldl_at (f := fun s i => s.irigRecord i year.isSome l at_ edge)
    (fun v o => irigRecord_step v o year.isSome l at_ edge) hnd hmem (s.setIrig n { s.irig n with done := none })
  have hrec := irigRecord_told v i (at_ := at_) (edge := edge) htold
  have hirig := irig_setIrig s n { s.irig n with done := none }
  have htod : (s.setIrig n { s.irig n with done := none }).tod i = s.tod i := rfl
  have hstep := irigRecord_step v i year.isSome l at_ edge
  rw [hw] at hs ht hirig htod ⊢
  dsimp only at hrec
  rw [hs.scale hlt hi, hs.leap, hs.prov hlt] at hrec
  obtain ⟨hbad, hgood⟩ := hrec
  generalize (irigSlots s n).foldl (fun s i => s.irigRecord i year.isSome l at_ edge) { s with refin := w } = t at ht ⊢
  refine ⟨fun h => ?_, fun h x hx => ?_, fun h hx => ?_, ?_, ?_⟩
  · obtain ⟨hcheck, htod'⟩ := checked_between hs ht hlt hi hni (hbad h)
    exact ⟨hcheck, htod'.trans htod⟩
  · subst hx
    rw [hgood h] at ht
    exact paired_refin (paired_between hs ht hlt hi hni (todPaired_paired v i hi _ x))
  · subst hx
    rw [hgood h] at ht
    obtain ⟨hget, hraised⟩ := unpaired_between hs ht hlt hi hni (todUnpaired_unpaired v i hi _ 1)
    exact ⟨hget, raised_refin hraised⟩
  · rw [irig_congr (ht.irigs.trans (hstep.irigs.trans hs.irigs)), hirig]
  · exact ht.time.trans (hstep.time.trans hs.time)

/-- Settles O48: a message is recorded with its pairing, and an IRIG frame gives each of its slots a turn that touches no other slot. -/
theorem timeOfDayInputs : Obligations.TimeOfDayInputs :=
  ⟨fun _ _ _ hc => todMsgCell_taken hc, fun _ _ _ => todMsgCell_parsed, fun _ _ => todLossTimeout_loses,
    fun _ _ _ _ _ => todPairWindowExpiry_expires, fun _ _ _ _ _ _ _ _ _ _ _ _ => irigFrame_taken⟩

end Sys2Proof.Proofs
end

section
/-!
O45: the edges of a reference (R73 to R75, R86 to R90). What an edge does to its source is `edgeArrived`; what its channel then does
is one of three cases of `State.ticEdge`; the messages that a stamp pairs are a `SlotsStep`.
-/

open Sys2Proof Sys2Proof.Machine Sys2Proof.Claims

namespace Sys2Proof.Proofs

variable {s u : State} {src ch code : ℕ} {falling : Bool}

/-! ## An edge that the prescaler holds back -/

theorem refEdge_heldBack (code : ℕ) (hsrc : src < 24) (hrun : s.time.running = true) (hpresent : s.on (F.REF_SRC_STAT_PRESENT src) = true)
    (htaken : s.edgeTaken src falling = true) (hpre : (s.src src).sel + 1 < s.get (F.REF_IN_PRE_DIV src)) :
    exec (.refEdge src falling code) s =
      .next ((pinSeen s src falling).setSrc src { s.src src with sel := (s.src src).sel + 1 }) := by
  obtain ⟨hregs, -, -, hsrcs⟩ := pinSeen_keeps s src falling
  have hget : ∀ f, (pinSeen s src falling).get f = s.get f := fun f => by simp only [State.get, hregs]
  have htaken' : (pinSeen s src falling).edgeTaken src falling = true := by
    rw [← htaken]
    simp only [State.edgeTaken, hget]
  have hsource : (pinSeen s src falling).src src = s.src src := by simp only [State.src, hsrcs]
  have hpre' : ((pinSeen s src falling).src src).sel + 1 < (pinSeen s src falling).get (F.REF_IN_PRE_DIV src) := by rwa [hsource, hget]
  rw [← hsource]
  simp only [pinSeen] at htaken' hpre' ⊢
  show execRefEdge src falling code s = _
  unfold execRefEdge
  rw [if_pos (by simp [hsrc, hrun, hpresent])]
  dsimp only
  rw [htaken', if_neg (by simp), if_pos hpre']

/-! ## An edge at its channel -/

theorem pinSeen_ticCh_eq (s : State) (src : ℕ) (falling : Bool) (ch : ℕ) :
    (pinSeen s src falling).ticCh ch = (s.pinActivity src).ticCh ch := by
  obtain h | ⟨x, h⟩ := irigEdge_cases (s.pinActivity src) src falling
  · rw [pinSeen, h]
  · rw [pinSeen, h]
    rfl

theorem edgeArrived_ticCh_eq (s : State) (src : ℕ) (falling : Bool) (ch : ℕ) :
    (edgeArrived s src falling).ticCh ch = (s.pinActivity src).ticCh ch := by
  rw [← pinSeen_ticCh_eq s src falling ch]
  simp only [State.ticCh, edgeArrived, passPrescaler_tic]

theorem edgeArrived_unwindowed (hch : s.chOf src = some ch) (hwin : (s.ticCh ch).win = none) :
    (edgeArrived s src falling).ticCh ch = s.ticCh ch := by
  rw [edgeArrived_ticCh_eq, State.pinActivity, hch]
  dsimp only
  rw [hwin]

theorem edgeArrived_windowed {w : CalWin} (hch : s.chOf src = some ch) (hwin : (s.ticCh ch).win = some w) :
    (edgeArrived s src falling).ticCh ch = { s.ticCh ch with win := some { w with active := w.active || !w.cdc } } := by
  rw [edgeArrived_ticCh_eq, State.pinActivity, hch]
  dsimp only
  rw [hwin]
  dsimp only
  split
  · next h =>
    have hsame : some { w with active := w.active || !w.cdc } = (s.ticCh ch).win := by
      rw [hwin, h, Bool.not_true, Bool.or_false]
      cases w
      exact congrArg (fun c => some (CalWin.mk c _ _ _)) h.symm
    rw [hsame]
  · next h => rw [Bool.eq_false_iff.mpr h, Bool.not_false, Bool.or_true, ticCh_setTic]

theorem edgeArrived_asy (s : State) (src : ℕ) (falling : Bool) : (edgeArrived s src falling).asy = s.asy ∧
    (edgeArrived s src falling).tic.cross = s.tic.cross ∧ (edgeArrived s src falling).refin.tods = s.refin.tods := by
  have hpass : ∀ v : State, (passPrescaler v src).asy = v.asy ∧ (passPrescaler v src).tic.cross = v.tic.cross ∧
      (passPrescaler v src).refin.tods = v.refin.tods := fun v => by
    unfold passPrescaler
    dsimp only
    split <;> simp [State.setSrc]
  have hpin : (s.pinActivity src).asy = s.asy ∧ (s.pinActivity src).tic.cross = s.tic.cross ∧
      (s.pinActivity src).refin.tods = s.refin.tods := by
    obtain h | ⟨c, w, h⟩ := pinActivity_cases s src <;> rw [h] <;> exact ⟨rfl, rfl, rfl⟩
  have hseen : (pinSeen s src falling).asy = s.asy ∧ (pinSeen s src falling).tic.cross = s.tic.cross ∧
      (pinSeen s src falling).refin.tods = s.refin.tods := by
    obtain h | ⟨x, h⟩ := irigEdge_cases (s.pinActivity src) src falling <;> rw [pinSeen, h] <;> exact hpin
  obtain ⟨h1, h2, h3⟩ := hpass (pinSeen s src falling)
  obtain ⟨k1, k2, k3⟩ := hseen
  exact ⟨h1.trans k1, h2.trans k2, h3.trans k3⟩

theorem edgeArrived_notBlind (hsrc : src < 24) (h : NotBlind s ch code) : NotBlind (edgeArrived s src falling) ch code := by
  obtain ⟨w, hx⟩ := edgeArrived_ticCh s src falling ch
  intro t ht
  rw [edgeAt16_edgeArrived hsrc]
  exact h t (by rwa [hx] at ht)

/-- A channel x that has accepted an edge at `at_`. -/
def accepted (x : TicSt) (at_ : Int) : TicSt := { x with lastEdge := some at_, dcount := 0 }

section
variable (h : NotBlind s ch code)
include h

theorem not_blind_any : ¬ (s.ticCh ch).lastEdge.any
    (fun l => decide (roundRat (s.rawStamp ch (code % 4096) 2) < l + 16 * 65536)) = true := by
  cases hlast : (s.ticCh ch).lastEdge with
  | none => simp
  | some l => exact fun hlt => absurd (of_decide_eq_true hlt) (not_lt.mpr (h l hlast))

/-- An edge in a calibration window (R88). -/
theorem ticEdge_window (falling : Bool) {w : CalWin} (hwin : (s.ticCh ch).win = some w) :
    s.ticEdge ch falling code = ((s.setTic ch { s.ticCh ch with
      lastEdge := some (edgeAt16 s ch code)
      nostamp := some (match (s.ticCh ch).nostamp with | some (f, n, p) => (f, n + 1, p) | none => ((s.q16 : Int), 1, falling)) }).gateEdge
        ch none true, none) := by
  unfold State.ticEdge
  dsimp only
  rw [if_neg (not_blind_any h), hwin]
  rfl

/-- An edge whose code is out of span (R88). -/
theorem ticEdge_noStamp (falling : Bool) (hwin : (s.ticCh ch).win = none) (hcode : code < 1 ∨ 4094 < code) :
    s.ticEdge ch falling code =
      (let v := (s.setTic ch (accepted (s.ticCh ch) (edgeAt16 s ch code))).gateEdge ch none true
       (v.ticStage ch (v.ticRec ch (State.stampShort ((s.q16 : Int) - s.getI (F.TIC_PATH_PATH ch))) 0 falling 2 1
        ((s.ticCh ch).dcount + 1))).tcnt ch 1, none) := by
  unfold State.ticEdge accepted
  dsimp only
  rw [if_neg (not_blind_any h), hwin]
  dsimp only
  rw [if_pos hcode]
  rfl

/-- An edge that is timed (R86). -/
theorem ticEdge_timed (falling : Bool) (hwin : (s.ticCh ch).win = none) (hlo : 1 ≤ code) (hhi : code ≤ 4094) :
    s.ticEdge ch falling code =
      (s.setTic ch (accepted (s.ticCh ch) (edgeAt16 s ch code)), some ((s.ticCh ch).dcount + 1)) := by
  unfold State.ticEdge accepted
  dsimp only
  rw [if_neg (not_blind_any h), hwin]
  dsimp only
  rw [if_neg (by omega)]
  rfl

end

/-! ## An edge that is not timed -/

theorem gatePoint_gap (s : State) (ch : ℕ) (g : Gate) : s.gatePoint ch g (none, true) = { g with k := g.k + 1, gap := true } := by
  simp [State.gatePoint]

theorem gateAs_congr (x : TicSt) {y z : TicSt} (hg : y.gate = z.gate) (hp : y.gatePre = z.gatePre) (ha : y.cycAt = z.cycAt)
    (he : y.cycEdges = z.cycEdges) : gateAs x y = gateAs x z := by
  rw [gateAs, gateAs, hg, hp, ha, he]

/-- An edge without a stamp leaves its channel as y with its gate one edge on, and a gap in it. -/
theorem gateEdge_gap (s : State) (ch : ℕ) (y : TicSt) : ∃ z, (s.setTic ch y).gateEdge ch none true = (s.setTic ch y).setTic ch z ∧
    gateAs z y = y ∧ z.gate = y.gate.map (fun g => { g with k := g.k + 1, gap := true }) := by
  obtain ⟨z, hz, hrest, hgate⟩ := gateEdge_eq (s.setTic ch y) ch none true
  rw [ticCh_setTic] at hrest hgate
  simp only [gatePoint_gap] at hgate
  exact ⟨z, hz, hrest, hgate⟩

theorem q16_edgeArrived (s : State) (src : ℕ) (falling : Bool) : (edgeArrived s src falling).q16 = s.q16 := by
  rw [State.q16, edgeArrived_time, State.q16]

section
variable (h : EdgePasses s src falling ch) (hopen : NotBlind s ch code)
include h hopen

theorem refEdge_inWindow {w : CalWin} (hwin : (s.ticCh ch).win = some w) :
    let x := s.ticCh ch
    Does (.refEdge src falling code) s fun t =>
      EdgeSeen s t src ∧ SameRegs (words (edgeFlds src)) s t ∧
      gateAs (t.ticCh ch) x = { x with
        lastEdge := some (edgeAt16 s ch code), win := some { w with active := w.active || !w.cdc }
        nostamp := some (match x.nostamp with | some (f, n, p) => (f, n + 1, p) | none => ((s.q16 : Int), 1, falling)) } ∧
      (∀ g, x.gate = some g → (t.ticCh ch).gate = some { g with k := g.k + 1, gap := true }) := by
  intro x
  have hsrc : src < 24 := h.1
  obtain ⟨-, -, -, -, -, hch, -⟩ := id h
  have hx := edgeArrived_windowed (falling := falling) hch hwin
  have hedge := ticEdge_window (edgeArrived_notBlind (falling := falling) hsrc hopen) falling (by rw [hx])
  rw [hx, edgeAt16_edgeArrived hsrc, q16_edgeArrived] at hedge
  obtain ⟨z, hz, hrest, hgate⟩ := gateEdge_gap (edgeArrived s src falling) ch { s.ticCh ch with
    lastEdge := some (edgeAt16 s ch code), win := some { w with active := w.active || !w.cdc }
    nostamp := some (match (s.ticCh ch).nostamp with | some (f, n, p) => (f, n + 1, p) | none => ((s.q16 : Int), 1, falling)) }
  rw [hz] at hedge
  refine ⟨_, (exec_refEdge_of_passes code h).trans (congrArg _ (channelEdge_untimed h hedge)), ?_, ?_, ?_, fun g hg => ?_⟩
  · exact edgeSeen_of_same (edgeArrived_seen s falling hsrc) rfl rfl rfl
  · exact SameRegs.of_regs (edgeArrived_sameRegs s src falling) rfl
  · rw [ticCh_setTic]
    exact hrest
  · rw [ticCh_setTic, hgate]
    exact congrArg (Option.map fun g : Gate => { g with k := g.k + 1, gap := true }) hg

end

/-! ## An edge that leaves a record -/

theorem ticStage_of_stages {r : TicRec} {v : State} (hon : v.ticOn ch = true) (hv : Stages v ch) :
    v.ticStage ch r = v.setTic ch { v.ticCh ch with stage := (v.ticCh ch).stage ++ [r] } := by
  obtain ⟨hmode, hlen, hdrops⟩ := hv
  unfold State.ticStage
  rw [if_neg (by simp [hon, hmode])]
  dsimp only
  rw [if_pos]
  rcases hdrops with hd | hd <;> simp [hlen, hd]

theorem ticRec_congr {t : State} (hget : ∀ f : Fld, 0x160 ≤ f.a → t.get f = s.get f) (ch short frac : ℕ) (pol : Bool)
    (kind aux dcount : ℕ) : t.ticRec ch short frac pol kind aux dcount = s.ticRec ch short frac pol kind aux dcount := by
  simp only [State.ticRec, State.prov, State.on, hget _ (show 0x160 ≤ F.TSK_STAT_PROVISIONAL.a by decide),
    hget _ (show 0x160 ≤ (F.TIC_CH_STAT_CSTALE ch).a by simp; omega), hget _ (show 0x160 ≤ (F.TIC_CH_STAT_PSTALE ch).a by simp; omega),
    hget _ (show 0x160 ≤ (F.TIC_CH_STAT_CALGEN ch).a by simp; omega)]

theorem tcnt_eq (s : State) {k n : ℕ} (hn : 0x080 + 16 * ch + k = n) : s.tcnt ch k = s.count n := by rw [State.tcnt, hn]

theorem chCounter_notMem (hch : ch < 16) {k : ℕ} (hk : k < 16) : 0x080 + k + 16 * ch ∉ selfCounted := by
  simp [selfCounted]
  omega

theorem ticCh_count (s : State) (k d : ℕ) : (s.count k).ticCh d = s.ticCh d := by
  simp [State.ticCh]

/-- A record joins those that channel ch has staged. -/
theorem gateAs_staged (x : TicSt) {y z : TicSt} (r : TicRec) (h : gateAs z x = y) :
    gateAs { z with stage := z.stage ++ [r] } x = { y with stage := y.stage ++ [r] } := by
  subst h
  rfl

theorem stages_of {t : State} (h : Stages s ch) (hmode : t.get (F.TIC_CH_CFG_QMODE ch) = s.get (F.TIC_CH_CFG_QMODE ch))
    (hx : (t.ticCh ch).stage = (s.ticCh ch).stage ∧ (t.ticCh ch).drops = (s.ticCh ch).drops ∧
      (t.ticCh ch).older = (s.ticCh ch).older) : Stages t ch := by
  obtain ⟨hstage, hdrops, holder⟩ := hx
  rw [Stages, hmode, hstage, hdrops, holder]
  exact h

/-- The gate has no part in what a channel has staged. -/
theorem gateAs_queue {x y z : TicSt} {at_ : Int} (h : gateAs z y = accepted x at_) :
    z.stage = x.stage ∧ z.drops = x.drops ∧ z.older = x.older :=
  have hstage := congrArg TicSt.stage h
  have hdrops := congrArg TicSt.drops h
  have holder := congrArg TicSt.older h
  ⟨hstage, hdrops, holder⟩

theorem refEdge_outOfSpan (h : EdgePasses s src falling ch) (hopen : NotBlind s ch code) (hwin : (s.ticCh ch).win = none)
    (hcode : code < 1 ∨ 4094 < code) (hst : Stages s ch) :
    let x := s.ticCh ch
    let v : Int := (s.q16 : Int) - s.getI (F.TIC_PATH_PATH ch)
    Does (.refEdge src falling code) s fun t =>
      EdgeSeen s t src ∧ SameRegs (words (edgeFlds src)) s t ∧ Counts s t (0x081 + 16 * ch) 1 ∧
      gateAs (t.ticCh ch) x = { x with
        lastEdge := some (edgeAt16 s ch code), dcount := 0
        stage := x.stage ++ [s.ticRec ch (State.stampShort v) 0 falling 2 1 (x.dcount + 1)] } ∧
      (∀ g, x.gate = some g → (t.ticCh ch).gate = some { g with k := g.k + 1, gap := true }) := by
  intro x v
  have hsrc : src < 24 := h.1
  have hlt := channel_lt_sixteen h
  obtain ⟨-, -, -, -, -, hch, hon⟩ := id h
  have hx := edgeArrived_unwindowed (falling := falling) hch hwin
  have hget : ∀ f : Fld, 0x160 ≤ f.a → (edgeArrived s src falling).get f = s.get f := fun f =>
    get_above_status (edgeArrived_sameRegs s src falling) hsrc
  have hedge := ticEdge_noStamp (edgeArrived_notBlind (falling := falling) hsrc hopen) falling (by rw [hx, hwin]) hcode
  rw [hx, edgeAt16_edgeArrived hsrc, q16_edgeArrived, State.getI, hget _ (by simp; omega), ← State.getI] at hedge
  obtain ⟨z, hz, hrest, hgate⟩ := gateEdge_gap (edgeArrived s src falling) ch (accepted (s.ticCh ch) (edgeAt16 s ch code))
  have hstages : Stages (((edgeArrived s src falling).setTic ch (accepted (s.ticCh ch) (edgeAt16 s ch code))).setTic ch z) ch :=
    stages_of hst (hget _ (by simp; omega)) (by rw [ticCh_setTic]; exact gateAs_queue hrest)
  have hon' : (((edgeArrived s src falling).setTic ch (accepted (s.ticCh ch) (edgeAt16 s ch code))).setTic ch z).ticOn ch = true :=
    (edgeArrived_ticOn hsrc).trans hon
  have hrec : ∀ sh fr p k a d, (((edgeArrived s src falling).setTic ch (accepted (s.ticCh ch) (edgeAt16 s ch code))).setTic ch z).ticRec
      ch sh fr p k a d = s.ticRec ch sh fr p k a d := fun sh fr p k a d => ticRec_congr hget ch sh fr p k a d
  dsimp only at hedge
  rw [hz, ticStage_of_stages hon' hstages, ticCh_setTic, hrec, tcnt_eq (n := 0x081 + 16 * ch) _ (by omega)] at hedge
  refine ⟨_, (exec_refEdge_of_passes code h).trans (congrArg _ (channelEdge_untimed h hedge)), ?_, ?_, ?_, ?_, fun g hg => ?_⟩
  · refine edgeSeen_of_same (edgeArrived_seen s falling hsrc) (by rw [State.count_regs]; rfl) (by simp [State.src]) ?_
    exact counter_count_ne _ (edgeCounter_notMem hsrc) (by omega)
  · exact SameRegs.of_regs (edgeArrived_sameRegs s src falling) (by rw [State.count_regs]; rfl)
  · have hwas : (edgeArrived s src falling).counter (0x081 + 16 * ch) = s.counter (0x081 + 16 * ch) :=
      (edgeArrived_counter s src falling (chCounter_notMem hlt (k := 1) (by decide))).trans (if_neg (by omega))
    rw [Counts, ← hwas]
    exact counter_count_self _ (chCounter_notMem hlt (k := 1) (by decide))
  · rw [ticCh_count, ticCh_setTic]
    exact gateAs_staged (s.ticCh ch) _ hrest
  · rw [ticCh_count, ticCh_setTic]
    have hg' : (accepted (s.ticCh ch) (edgeAt16 s ch code)).gate = some g := hg
    rw [hg'] at hgate
    exact hgate

/-! ## A timed edge -/

theorem overBoundary_edgeArrived (hsrc : src < 24) (x : TicSt) :
    ((edgeArrived s src falling).setTic ch x).overBoundary = s.overBoundary := by
  have htime : ((edgeArrived s src falling).setTic ch x).time = s.time := edgeArrived_time s src falling
  have hadj : ((edgeArrived s src falling).setTic ch x).get F.TSK_FREQ_ADJ_FREQ_ADJ = s.get F.TSK_FREQ_ADJ_FREQ_ADJ :=
    get_above_status (edgeArrived_sameRegs s src falling) hsrc (by decide)
  have hcore : ((edgeArrived s src falling).setTic ch x).coreIn 2 = s.coreIn 2 := by
    simp only [State.coreIn, State.baseStep, State.getI, State.annealed, htime, hadj]
  rw [State.overBoundary, htime, hcore, State.overBoundary]

theorem refEdge_overBoundary (h : EdgePasses s src falling ch) (hopen : NotBlind s ch code) (hwin : (s.ticCh ch).win = none)
    (hlo : 1 ≤ code) (hhi : code ≤ 4094) (hover : s.overBoundary = true) :
    let x := s.ticCh ch
    Does (.refEdge src falling code) s fun t =>
      EdgeSeen s t src ∧ SameRegs (words (edgeFlds src)) s t ∧ t.asy = s.asy ∧
      t.tic.cross = s.tic.cross ++ [⟨ch, src, falling, code, s.time.cyc, x.dcount + 1⟩] ∧
      t.ticCh ch = { x with lastEdge := some (edgeAt16 s ch code), dcount := 0 } := by
  intro x
  have hsrc : src < 24 := h.1
  obtain ⟨-, -, -, -, -, hch, -⟩ := id h
  obtain ⟨hasy, hcross, -⟩ := edgeArrived_asy s src falling
  have hx := edgeArrived_unwindowed (falling := falling) hch hwin
  have hedge := ticEdge_timed (edgeArrived_notBlind (falling := falling) hsrc hopen) falling (by rw [hx, hwin]) hlo hhi
  rw [hx, edgeAt16_edgeArrived hsrc] at hedge
  refine ⟨_, (exec_refEdge_of_passes code h).trans (congrArg _ ((channelEdge_timed h hedge).trans
    (if_pos ((overBoundary_edgeArrived hsrc _).trans hover)))), ?_, ?_, hasy, ?_, ?_⟩
  · exact edgeSeen_of_same (edgeArrived_seen s falling hsrc) rfl rfl rfl
  · exact SameRegs.of_regs (edgeArrived_sameRegs s src falling) rfl
  · show (edgeArrived s src falling).tic.cross ++ [⟨ch, src, falling, code, (edgeArrived s src falling).time.cyc, _⟩] = _
    rw [hcross, edgeArrived_time]
  · exact ticCh_setTic (edgeArrived s src falling) ch _

/-! ## A stamp -/

theorem stampMeas_facts (s : State) (ch src : ℕ) (v : Int) :
    (s.stampMeas ch src v).regs = s.regs ∧ (s.stampMeas ch src v).obs = s.obs ∧
    (s.stampMeas ch src v).tic = s.tic ∧ (s.stampMeas ch src v).refin = s.refin ∧ (s.stampMeas ch src v).time = s.time := by
  unfold State.stampMeas
  dsimp only
  split
  · exact ⟨rfl, rfl, rfl, rfl, rfl⟩
  · exact ⟨rfl, rfl, rfl, rfl, rfl⟩
  split
  · exact ⟨rfl, rfl, rfl, rfl, rfl⟩
  split <;> exact ⟨rfl, rfl, rfl, rfl, rfl⟩

/-- The measurement of a stamp of a PPS source. -/
def ppsMeas (s : State) (ch src : ℕ) (v : Int) : Meas :=
  let cs := s.on (F.TIC_CH_STAT_CSTALE ch)
  let ps := s.on (F.TIC_CH_STAT_PSTALE ch)
  { s.measOf src (s.refClaim src cs ps) with
    cstale := cs, pstale := ps, parts := s.refParts src cs ps, off := some (State.wrapOff State.secQ v) }

theorem ppsMeas_congr {t : State} (hget : ∀ f : Fld, 0x160 ≤ f.a → t.get f = s.get f) (htime : t.time = s.time)
    (ch src : ℕ) (v : Int) : ppsMeas t ch src v = ppsMeas s ch src v := by
  have hcs : t.on (F.TIC_CH_STAT_CSTALE ch) = s.on (F.TIC_CH_STAT_CSTALE ch) := by
    rw [State.on, hget _ (by simp; omega), State.on]
  have hps : t.on (F.TIC_CH_STAT_PSTALE ch) = s.on (F.TIC_CH_STAT_PSTALE ch) := by
    rw [State.on, hget _ (by simp; omega), State.on]
  have hmeas : ∀ c, t.measOf src c = s.measOf src c := fun c => by rw [State.measOf, State.measOf, State.ns, State.ns, htime]
  have hclaim : ∀ c p, t.refClaim src c p = s.refClaim src c p := fun c p => by
    rw [State.refClaim, State.refClaim, hget _ (by simp; omega), hget F.TSK_TEB_CFG_CDC_STALE_ADD (by decide),
      hget F.TSK_TEB_CFG_PATH_STALE_ADD (by decide)]
  have hparts : ∀ c p, t.refParts src c p = s.refParts src c p := fun c p => by
    rw [State.refParts, State.refParts, hget _ (by simp; omega)]
  simp only [ppsMeas, hcs, hps, hmeas, hclaim, hparts]

theorem stampMeas_pps (s : State) (ch src : ℕ) (v : Int) (h : s.srcKind src = 1) :
    ppsMeas s ch src v ∈ (s.stampMeas ch src v).asy.inbox := by
  unfold State.stampMeas
  dsimp only
  rw [h]
  exact List.mem_append_right _ (List.mem_singleton_self _)

theorem markDate_facts (s : State) (ch n : ℕ) : (s.markDate ch n).regs = s.regs ∧ (s.markDate ch n).obs = s.obs ∧
    (s.markDate ch n).tic = s.tic ∧ (s.markDate ch n).refin = s.refin ∧ (s.markDate ch n).asy = s.asy ∧
    (s.markDate ch n).time = s.time := by
  unfold State.markDate
  split
  · split <;> exact ⟨rfl, rfl, rfl, rfl, rfl, rfl⟩
  · exact ⟨rfl, rfl, rfl, rfl, rfl, rfl⟩

/-- The channel has taken its stamp, and Assay the measurement. -/
theorem ticStamp_facts (s : State) (ch src : ℕ) (falling : Bool) (v : Int) (d : ℕ) (hon : s.ticOn ch = true) (hst : Stages s ch) :
    let x := s.ticCh ch
    let t := s.ticStamp ch src falling v d
    t.regs = s.regs ∧ t.refin = s.refin ∧ t.time = s.time ∧ (∀ j, j ∉ selfCounted → t.counter j =
      if j = 0x080 + 16 * ch then (s.counter j + 1) % 2 ^ 64 else s.counter j) ∧
    (∃ z, t.ticCh ch = { z with stage := x.stage ++ [s.ticRec ch (State.stampShort v) (State.stampFrac v) falling 0 0 d] } ∧
      gateAs z { x with stamp := some v, prevStamp := x.stamp } = { x with stamp := some v, prevStamp := x.stamp } ∧
      z.gate = x.gate.map (fun g => s.gatePoint ch g (some v, false))) ∧
    (s.srcKind src = 1 → ppsMeas s ch src v ∈ t.asy.inbox) := by
  intro x t
  obtain ⟨z, hz, hrest, hgate⟩ := gateEdge_eq (s.setTic ch { x with stamp := some v, prevStamp := x.stamp }) ch (some v) false
  rw [ticCh_setTic] at hrest hgate
  have hstage : z.stage = x.stage := by
    have h := congrArg TicSt.stage hrest
    exact h
  have hqueue : z.stage = x.stage ∧ z.drops = x.drops ∧ z.older = x.older := by
    have hdrops := congrArg TicSt.drops hrest
    have holder := congrArg TicSt.older hrest
    exact ⟨hstage, hdrops, holder⟩
  let w := (s.setTic ch { x with stamp := some v, prevStamp := x.stamp }).setTic ch z
  let r := s.ticRec ch (State.stampShort v) (State.stampFrac v) falling 0 0 d
  let q := (w.setTic ch { z with stage := x.stage ++ [r] }).count (0x080 + 16 * ch)
  have hwst : Stages w ch := stages_of hst rfl (by rw [ticCh_setTic]; exact hqueue)
  have ht : t = (q.stampMeas ch src v).markDate ch (v * 2 ^ 40).toNat := by
    show (((State.ticStage _ ch _).tcnt ch 0).stampMeas ch src v).markDate ch _ = _
    rw [hz, show w.ticRec ch (State.stampShort v) (State.stampFrac v) falling 0 0 d = r from rfl,
      show w.ticStage ch r = _ from ticStage_of_stages hon hwst, show w.ticCh ch = z from ticCh_setTic _ _ _, hstage,
      tcnt_eq (n := 0x080 + 16 * ch) _ (by omega)]
  obtain ⟨hregs, hobs, htic, hrefin, htime⟩ := stampMeas_facts q ch src v
  obtain ⟨kregs, kobs, ktic, krefin, kasy, ktime⟩ := markDate_facts (q.stampMeas ch src v) ch (v * 2 ^ 40).toNat
  have hqregs : q.regs = s.regs := State.count_regs _ _
  have hqtime : q.time = s.time := State.count_time _ _
  have hqget : ∀ f, q.get f = s.get f := fun f => get_of_regs hqregs f
  rw [ht]
  refine ⟨(kregs.trans hregs).trans hqregs, (krefin.trans hrefin).trans (State.count_refin _ _),
    (ktime.trans htime).trans hqtime, fun j hj => ?_, ⟨z, ?_, hrest, hgate⟩, fun hkind => ?_⟩
  · rw [counter_of_obs (kobs.trans hobs)]
    split
    · next h =>
      subst h
      exact counter_count_self (w.setTic ch { z with stage := x.stage ++ [r] }) hj
    · next h => exact counter_count_ne (w.setTic ch { z with stage := x.stage ++ [r] }) hj h
  · rw [State.ticCh, ktic, htic, ← State.ticCh, ticCh_count, ticCh_setTic]
  · rw [kasy, ← ppsMeas_congr (fun f _ => hqget f) hqtime ch src v]
    refine stampMeas_pps q ch src v ?_
    rw [← hkind, State.srcKind, hqget, State.srcKind]

/-! ## Messages that name the stamp -/

theorem todNext_step (s : State) (i : ℕ) (v : Int) : SlotsStep [i] s (s.todNext i v) := by
  have hstart : SlotsStep [i] s (s.setTod i { s.tod i with msgs := [] }) :=
    ⟨SameRegs.refl _ s, fun j hj => by rw [tod_setTod, if_neg fun he => hj (List.mem_singleton.mpr he)], fun _ _ => rfl, fun _ h => h,
      fun _ _ _ => rfl, rfl, rfl, rfl, fun j => by rw [tod_setTod]; split <;> simp_all, rfl, rfl, rfl⟩
  unfold State.todNext
  refine List.foldlRecOn (motive := fun u => SlotsStep [i] s u) _ _ hstart fun u hu p _ => ?_
  extract_lets d
  split
  · exact slotsStep_turns.trans hu (todPaired_step u i _ _)
  · exact slotsStep_turns.trans hu (todUnpaired_step u i _ _)

/-- The slots whose waiting messages name an edge of source src. -/
def namedSlots (s : State) (src : ℕ) : List ℕ :=
  [0, 1, 2, 3].filter (fun i => s.uartOn (4 + i) && s.get (F.REF_TOD_CFG_PPS_IN i) = src && s.on (F.REF_TOD_CFG_REFERS i))

theorem lt_of_mem_namedSlots {i : ℕ} (h : i ∈ namedSlots s src) : i < 4 := by
  have h4 := (List.mem_filter.mp h).1
  simp only [List.mem_cons, List.not_mem_nil, or_false] at h4
  omega

theorem namedSlots_eq_nil {t : State} (hget : ∀ f : Fld, 0x160 ≤ f.a → t.get f = s.get f)
    (h : ∀ i < 4, s.uartOn (4 + i) = true → s.get (F.REF_TOD_CFG_PPS_IN i) = src → s.on (F.REF_TOD_CFG_REFERS i) = false) :
    namedSlots t src = [] := by
  refine List.filter_eq_nil_iff.mpr fun i hi => ?_
  have hi4 : i < 4 := by
    simp only [List.mem_cons, List.not_mem_nil, or_false] at hi
    omega
  have huart : t.uartOn (4 + i) = s.uartOn (4 + i) := by
    rw [State.uartOn, State.uartCfg, if_neg (by omega), hget _ (by simp; omega), State.uartOn, State.uartCfg, if_neg (by omega)]
  rw [huart, hget _ (by simp; omega), State.on, hget _ (by simp; omega), ← State.on]
  intro hall
  simp only [Bool.and_eq_true, decide_eq_true_eq] at hall
  obtain ⟨⟨hon, hpps⟩, hrefers⟩ := hall
  rw [h i hi4 hon hpps] at hrefers
  exact absurd hrefers (by decide)

/-- A stamp is taken, and then the messages that name it have their turns. -/
theorem stamped_spec (s : State) (ch src : ℕ) (falling : Bool) (v : Int) (d : ℕ) : ∃ x : RefinSt,
    let q := { s.ticStamp ch src falling v d with refin := x }
    x.srcs = (s.ticStamp ch src falling v d).refin.srcs ∧ SlotsStep (namedSlots q src) q (s.stamped ch src falling v d) := by
  have hnext : ∀ q : State, SlotsStep (namedSlots q src) q ((namedSlots q src).foldl (fun s i => s.todNext i v) q) := fun q =>
    slotsStep_turns.foldl (fun u i => todNext_step u i v) _ q
  unfold State.stamped
  dsimp only
  split
  · exact ⟨(s.ticStamp ch src falling v d).refin, rfl, hnext (s.ticStamp ch src falling v d)⟩
  · refine ⟨((s.ticStamp ch src falling v d).setIrig src { (s.ticStamp ch src falling v d).irig src with
      lead := some v }).refin, rfl, ?_⟩
    exact hnext ((s.ticStamp ch src falling v d).setIrig src { (s.ticStamp ch src falling v d).irig src with lead := some v })

/-- The status word of a source and its counters are not shown by messages. -/
theorem edgeSeen_of_slots {q t : State} {is : List ℕ} (h : SlotsStep is q t) (his : ∀ i ∈ is, i < 4) (hsrc : src < 24)
    (hq : EdgeSeen s q src) : EdgeSeen s t src := by
  refine edgeSeen_of_same hq (h.regs _ fun hm => ?_) (by rw [State.src, h.srcs, State.src])
    (h.counter _ (edgeCounter_notMem hsrc) fun i hi => by omega)
  obtain ⟨f, hf, j, hj, he⟩ := mem_words.mp hm
  obtain ⟨i, hi, hfi⟩ := List.mem_flatMap.mp hf
  have := his i hi
  simp only [slotFlds, List.mem_cons, List.not_mem_nil, or_false] at hfi
  rcases hfi with rfl | rfl | rfl | rfl <;> dsimp only [Store.span] at hj he <;> omega

/-- A gate takes a stamp. -/
theorem gatePoint_stamp (s : State) (ch : ℕ) (g : Gate) (v : Int) : ∃ g', s.gatePoint ch g (some v, false) = g' ∧ g'.k = g.k + 1 ∧
    g'.n = g.n + 1 ∧ g'.sk = g.sk + g.k ∧ g'.st = g.st + (v - g.start) ∧ g'.gap = g.gap :=
  ⟨_, rfl, rfl, rfl, rfl, rfl, Bool.or_false _⟩

theorem stampOf_edgeArrived (hsrc : src < 24) (code : ℕ) (x : TicSt) (hwidth : x.width = (s.ticCh ch).width) :
    ((edgeArrived s src falling).setTic ch x).stampOf ch code 2 = s.stampOf ch code 2 := by
  have hget : ∀ f : Fld, 0x160 ≤ f.a → ((edgeArrived s src falling).setTic ch x).get f = s.get f := fun f =>
    get_above_status (edgeArrived_sameRegs s src falling) hsrc
  rw [State.stampOf, State.getI, hget _ (by simp; omega), rawStamp_congr (s := s)
    (t := (edgeArrived s src falling).setTic ch x) code 2 (edgeArrived_time s src falling)
    (by rw [ticCh_setTic, hwidth]) (hget _ (by decide)), State.stampOf, State.getI]

theorem refEdge_stamped (h : EdgePasses s src falling ch) (hopen : NotBlind s ch code) (hwin : (s.ticCh ch).win = none)
    (hlo : 1 ≤ code) (hhi : code ≤ 4094) (hover : s.overBoundary = false) (hst : Stages s ch) :
    let x := s.ticCh ch
    let v := s.stampOf ch code 2
    let cs := s.on (F.TIC_CH_STAT_CSTALE ch)
    let ps := s.on (F.TIC_CH_STAT_PSTALE ch)
    Does (.refEdge src falling code) s fun t =>
      EdgeSeen s t src ∧
      gateAs (t.ticCh ch) x = { x with
        lastEdge := some (edgeAt16 s ch code), dcount := 0, stamp := some v, prevStamp := x.stamp
        stage := x.stage ++ [s.ticRec ch (State.stampShort v) (State.stampFrac v) falling 0 0 (x.dcount + 1)] } ∧
      (x.gate = none → (t.ticCh ch).gate = none) ∧
      (∀ g, x.gate = some g → ∃ g', (t.ticCh ch).gate = some g' ∧ g'.k = g.k + 1 ∧ g'.n = g.n + 1 ∧ g'.sk = g.sk + g.k ∧
        g'.st = g.st + (v - g.start) ∧ g'.gap = g.gap) ∧
      (s.srcKind src = 1 → { s.measOf src (s.refClaim src cs ps) with
        cstale := cs, pstale := ps, parts := s.refParts src cs ps, off := some (State.wrapOff State.secQ v) } ∈ t.asy.inbox) ∧
      Counts s t (0x080 + 16 * ch) 1 ∧
      ((∀ i < 4, s.uartOn (4 + i) = true → s.get (F.REF_TOD_CFG_PPS_IN i) = src → s.on (F.REF_TOD_CFG_REFERS i) = false) →
        SameRegs (words (edgeFlds src)) s t) := by
  intro x v cs ps
  have hsrc : src < 24 := h.1
  have hlt := channel_lt_sixteen h
  obtain ⟨-, -, -, -, -, hch, hon⟩ := id h
  have hx := edgeArrived_unwindowed (falling := falling) hch hwin
  have hget : ∀ f : Fld, 0x160 ≤ f.a → (edgeArrived s src falling).get f = s.get f := fun f =>
    get_above_status (edgeArrived_sameRegs s src falling) hsrc
  have hedge := ticEdge_timed (edgeArrived_notBlind (falling := falling) hsrc hopen) falling (by rw [hx, hwin]) hlo hhi
  rw [hx, edgeAt16_edgeArrived hsrc] at hedge
  have hexec := (exec_refEdge_of_passes code h).trans (congrArg Host.Outcome.next ((channelEdge_timed h hedge).trans
    (if_neg (by rw [overBoundary_edgeArrived hsrc, hover]; decide))))
  rw [stampOf_edgeArrived hsrc code (accepted (s.ticCh ch) (edgeAt16 s ch code)) rfl] at hexec
  obtain ⟨y, hsrcs, hslots⟩ := stamped_spec ((edgeArrived s src falling).setTic ch (accepted (s.ticCh ch) (edgeAt16 s ch code))) ch src
    falling (s.stampOf ch code 2) ((s.ticCh ch).dcount + 1)
  have hfacts := ticStamp_facts ((edgeArrived s src falling).setTic ch (accepted (s.ticCh ch) (edgeAt16 s ch code))) ch src
    falling (s.stampOf ch code 2) ((s.ticCh ch).dcount + 1) ((edgeArrived_ticOn hsrc).trans hon)
    (stages_of hst (hget _ (by simp; omega)) (by rw [ticCh_setTic]; exact ⟨rfl, rfl, rfl⟩))
  dsimp only at hslots hfacts
  rw [ticCh_setTic] at hfacts
  obtain ⟨hregs, hrefin, htime, hcounter, ⟨z, hz, hrest, hgate⟩, hmeas⟩ := hfacts
  generalize hu : (edgeArrived s src falling).setTic ch (accepted (s.ticCh ch) (edgeAt16 s ch code)) = u at *
  have huregs : u.regs = (edgeArrived s src falling).regs := hu ▸ rfl
  have husrcs : u.refin.srcs = (edgeArrived s src falling).refin.srcs := hu ▸ rfl
  have hucount : ∀ j, u.counter j = (edgeArrived s src falling).counter j := fun j => hu ▸ rfl
  have hutime : u.time = s.time := hu ▸ edgeArrived_time s src falling
  have huget : ∀ f : Fld, 0x160 ≤ f.a → u.get f = s.get f := fun f hf => (get_of_regs huregs f).trans (hget f hf)
  have hukind : u.srcKind src = s.srcKind src := by
    rw [State.srcKind, State.srcKind]
    split
    · next h16 =>
      refine (get_of_regs huregs _).trans (get_of_sameRegs (edgeArrived_sameRegs s src falling) _ fun i hi => ?_)
      simp [Store.span] at hi ⊢
      omega
    · rfl
  have hseen : EdgeSeen s ({ u.ticStamp ch src falling (s.stampOf ch code 2) ((s.ticCh ch).dcount + 1) with refin := y } : State) src := by
    refine edgeSeen_of_same (edgeArrived_seen s falling hsrc) ?_ ?_ ?_
    · exact congrArg (fun r : Store => r.word (0x100 + 4 * src)) (hregs.trans huregs)
    · rw [State.src, State.src, show ({ u.ticStamp ch src falling (s.stampOf ch code 2) ((s.ticCh ch).dcount + 1) with
        refin := y } : State).refin.srcs = (edgeArrived s src falling).refin.srcs from
          hsrcs.trans ((congrArg (fun r => r.srcs) hrefin).trans husrcs)]
    · exact (hcounter _ (edgeCounter_notMem hsrc)).trans ((if_neg (by omega)).trans (hucount _))
  have hlots : ∀ i ∈ namedSlots ({ u.ticStamp ch src falling (s.stampOf ch code 2) ((s.ticCh ch).dcount + 1) with
      refin := y } : State) src, i < 4 := fun i => lt_of_mem_namedSlots
  have htic : (u.stamped ch src falling (s.stampOf ch code 2) ((s.ticCh ch).dcount + 1)).ticCh ch = { z with
      stage := x.stage ++ [s.ticRec ch (State.stampShort v) (State.stampFrac v) falling 0 0 (x.dcount + 1)] } := by
    rw [State.ticCh, hslots.tic]
    exact hz.trans (by rw [ticRec_congr huget]; rfl)
  refine ⟨_, hexec, edgeSeen_of_slots hslots hlots hsrc hseen, ?_, fun hg => ?_, fun g hg => ?_, fun hkind => ?_, ?_, fun hnone => ?_⟩
  · rw [htic]
    exact congrArg (fun w : TicSt => { w with
      stage := x.stage ++ [s.ticRec ch (State.stampShort v) (State.stampFrac v) falling 0 0 (x.dcount + 1)] }) hrest
  · rw [htic]
    exact hgate.trans (congrArg _ hg)
  · rw [htic]
    obtain ⟨g', hg', hfacts⟩ := gatePoint_stamp u ch g v
    refine ⟨g', hgate.trans ((congrArg _ hg).trans ?_), hfacts⟩
    exact congrArg some hg'
  · refine hslots.inbox _ ?_
    have hm := hmeas (hukind.trans hkind)
    rw [ppsMeas_congr huget hutime] at hm
    exact hm
  · refine (hslots.counter _ (chCounter_notMem hlt (k := 0) (by decide)) fun i hi => ?_).trans
      ((hcounter _ (chCounter_notMem hlt (k := 0) (by decide))).trans ((if_pos rfl).trans ?_))
    · have := hlots i hi
      omega
    · rw [hucount, edgeArrived_counter s src falling (chCounter_notMem hlt (k := 0) (by decide)), if_neg (by omega)]
  · have hnil : namedSlots ({ u.ticStamp ch src falling (s.stampOf ch code 2) ((s.ticCh ch).dcount + 1) with
        refin := y } : State) src = [] := namedSlots_eq_nil (fun f hf => (get_of_regs hregs f).trans (huget f hf)) hnone
    rw [hnil] at hslots
    refine SameRegs.trans (SameRegs.of_regs (edgeArrived_sameRegs s src falling) (hregs.trans huregs)) ?_
    exact SameRegs.mono hslots.regs fun k hk => by simp [words] at hk

/-- Settles O45: what an edge does to its source, and then the three cases of its channel. -/
theorem referenceEdges : Obligations.ReferenceEdges :=
  ⟨fun _ _ _ code hsrc hrun hpresent htaken hpre => ⟨_, refEdge_heldBack code hsrc hrun hpresent htaken hpre, rfl⟩,
    fun _ _ _ _ _ => refEdge_stamped, fun _ _ _ _ _ => refEdge_overBoundary, fun _ _ _ _ _ => refEdge_outOfSpan,
    fun _ _ _ _ _ _ h hopen hwin => refEdge_inWindow h hopen hwin⟩

end Sys2Proof.Proofs
end

section
/-!
O33: the vault's update messages (R312 to R314). A message is judged by one check and completes or begins a record write
(`kvtUpdate_passes`, `kvtUpdate_fails`); the record write commits its effect (`updCommit_of`).
-/

open Sys2Proof Sys2Proof.Machine Sys2Proof.Claims

namespace Sys2Proof.Proofs

variable {s : State}

/-! ## The vault's statistics -/

section
variable (s) (k : ℕ)

theorem kvtStat_calm : (s.kvtStat k).calm = (s.add (F.KVT_STATS_COUNT k) 1).calm := State.count_calm _ _

theorem kvtStat_kvt : (s.kvtStat k).kvt = s.kvt := by
  have h := congrArg State.kvt (kvtStat_calm s k)
  exact h

theorem kvtStat_regs : SameRegs (words [F.KVT_STATS_COUNT k]) s (s.kvtStat k) := by
  have h := congrArg State.regs (kvtStat_calm s k)
  exact SameRegs.of_regs (SameRegs.set (SameRegs.refl _ s) _ (.of_mem (List.mem_singleton_self _))) h

theorem kvtStat_get {g : Fld} (h : Beside (F.KVT_STATS_COUNT k) g) : (s.kvtStat k).get g = s.get g := by
  have hregs := congrArg State.regs (kvtStat_calm s k)
  exact (get_of_regs hregs g).trans (get_set_beside h s _)

theorem kvtStat_cmds (n : ℕ) : ((s.kvtStat k).fn n).cmds = (s.fn n).cmds := by
  have h := congrArg FnSt.cmds (unstaged_fn_count (s.add (F.KVT_STATS_COUNT k) 1) (0x500 + k) n)
  exact h

theorem kvtStat_outlives : Outlives s (s.kvtStat k) := 
  (Outlives.of_eq (t := s.add (F.KVT_STATS_COUNT k) 1) rfl rfl).trans (.count (s.add (F.KVT_STATS_COUNT k) 1) (0x500 + k))

end

/-! ## A message is judged -/

theorem exec_updCmd (s : State) (m : UpdMsg) : ∃ row : UpdPay → Bool, row m.pay = true ∧
    exec (updCmd m) s = .next (s.kvtUpdate true m row) := by
  unfold updCmd
  split <;> rename_i h
  · exact ⟨_, by rw [h], rfl⟩
  · exact ⟨_, by rw [h], rfl⟩
  · exact ⟨_, by rw [h], rfl⟩
  · exact ⟨_, by rw [h], rfl⟩
  · exact ⟨_, by rw [h], rfl⟩
  · exact ⟨_, by rw [h], rfl⟩
  · exact ⟨_, by rw [h], rfl⟩
  · exact ⟨_, by rw [h], rfl⟩
  · exact ⟨_, by rw [h], rfl⟩
  · exact ⟨_, by rw [h]; rfl, rfl⟩

section
variable {c : Cmd} {m : UpdMsg} (hw : UpdWaits s c)
include hw

theorem updCmd_passes (h : s.updCheck (c.arg 8 2) m = cOk) :
    Does (updCmd m) s fun t => t.kvt = { s.kvt with upd := some ⟨c.n, m, c.arg 16 8⟩ } ∧ t.regs = s.regs := by
  obtain ⟨row, hrow, hexec⟩ := exec_updCmd s m
  obtain ⟨hcmd, hupd, heng⟩ := hw
  refine ⟨_, hexec, ?_⟩
  have hst : (if false = true then cUnavailable else if (!true) = true then cDmaErr else s.updCheck (c.arg 8 2) m) =
      s.updCheck (c.arg 8 2) m := rfl
  have hstep : s.kvtUpdate true m row = { s.takeCmd 0 c.n with kvt := { s.kvt with upd := some ⟨c.n, m, c.arg 16 8⟩ } } := by
    unfold State.kvtUpdate
    rw [hcmd]
    dsimp only
    rw [if_neg (by simp [hupd, hrow]), heng, hst, if_pos h]
    rfl
  rw [hstep]
  exact ⟨rfl, rfl⟩

theorem updCmd_fails (h : s.updCheck (c.arg 8 2) m ≠ cOk) :
    Does (updCmd m) s fun t =>
      t.kvt = s.kvt ∧ Finished t 0 c.n (s.updCheck (c.arg 8 2) m) ∧ t.get F.KVT_UPD_CTR_UPD_CTR = s.get F.KVT_UPD_CTR_UPD_CTR ∧
      SameRegs (words [F.KVT_STATS_COUNT 3]) s t := by
  obtain ⟨row, hrow, hexec⟩ := exec_updCmd s m
  obtain ⟨hcmd, hupd, heng⟩ := hw
  refine ⟨_, hexec, ?_⟩
  have hst : (if false = true then cUnavailable else if (!true) = true then cDmaErr else s.updCheck (c.arg 8 2) m) =
      s.updCheck (c.arg 8 2) m := rfl
  have hstep : s.kvtUpdate true m row =
      (s.finish 0 c.n (s.updCheck (c.arg 8 2) m) (s.get F.KVT_UPD_CTR_UPD_CTR % 2 ^ 32)).kvtStat 3 := by
    unfold State.kvtUpdate
    rw [hcmd]
    dsimp only
    rw [if_neg (by simp [hupd, hrow]), heng, hst, if_neg h]
  rw [hstep]
  refine ⟨kvtStat_kvt _ 3, finished_finish (kvtStat_cmds _ 3 0), kvtStat_get _ 3 (by decide), ?_⟩
  exact kvtStat_regs (s.finish 0 c.n _ _) 3

end

/-! ## The record write commits -/

/-- The state w, in which a message has had its effect, with UPD_CTR and LAST_DIGEST written. -/
def committed (w : State) (u : PendUpd) : State :=
  ({ w.set F.KVT_UPD_CTR_UPD_CTR u.msg.counter with kvt := { w.kvt with lastDigest := u.msg.digest } } : State).kvtStat 2

section
variable (w : State) (u : PendUpd)

theorem committed_kvt : (committed w u).kvt = { w.kvt with lastDigest := u.msg.digest } := kvtStat_kvt _ 2

theorem committed_ctr : (committed w u).get F.KVT_UPD_CTR_UPD_CTR = u.msg.counter % 2 ^ 64 :=
  (kvtStat_get _ 2 (by decide)).trans (State.get_set_self w _ _)

theorem committed_get {g : Fld} (hctr : Beside F.KVT_UPD_CTR_UPD_CTR g) (hstat : Beside (F.KVT_STATS_COUNT 2) g) :
    (committed w u).get g = w.get g := (kvtStat_get _ 2 hstat).trans (get_set_beside hctr w _)

end

/-- What a message's effect is worked out on: the record write under way is over. -/
def taken (s : State) (sec : ℕ) : State := { s.vbatRead sec with kvt := { (s.vbatRead sec).kvt with upd := none } }

section
variable {u : PendUpd} {w : State} {ok : Bool} {sec : ℕ} {temp : Int} (hu : s.kvt.upd = some u)
include hu

theorem commit_effect (he : (taken s sec).updEffect u.msg = (w, none, false)) : exec (.vbatRecordCommit ok sec temp) s =
    .next ((committed w u).finish 0 u.cmd cOk (u.msg.counter % 2 ^ 32)) := by
  have hu' : (s.vbatRead sec).kvt.upd = some u := hu
  change execVbatRecordCommit ok sec temp s = _
  unfold execVbatRecordCommit State.updCommit
  rw [hu']
  dsimp only
  rw [show ({ s.vbatRead sec with kvt := { (s.vbatRead sec).kvt with upd := none } } : State).updEffect u.msg = _ from he]
  rfl

theorem commit_blob {b : ℕ} (he : (taken s sec).updEffect u.msg = (w, some b, false)) : exec (.vbatRecordCommit ok sec temp) s =
    .next (if ok then ((committed w u).hostWrite 0 u.out 128 b).finish 0 u.cmd cOk (u.msg.counter % 2 ^ 32)
      else (committed w u).finish 0 u.cmd cDmaErr (u.msg.counter % 2 ^ 32)) := by
  have hu' : (s.vbatRead sec).kvt.upd = some u := hu
  change execVbatRecordCommit ok sec temp s = _
  unfold execVbatRecordCommit State.updCommit
  rw [hu']
  dsimp only
  rw [show ({ s.vbatRead sec with kvt := { (s.vbatRead sec).kvt with upd := none } } : State).updEffect u.msg = _ from he]
  rfl

theorem commit_zeroize (he : (taken s sec).updEffect u.msg = (w, none, true)) : exec (.vbatRecordCommit ok sec temp) s =
    .next (((committed w u).finish 0 u.cmd cOk 0).tamper 512 temp false) := by
  have hu' : (s.vbatRead sec).kvt.upd = some u := hu
  change execVbatRecordCommit ok sec temp s = _
  unfold execVbatRecordCommit State.updCommit
  rw [hu']
  dsimp only
  rw [show ({ s.vbatRead sec with kvt := { (s.vbatRead sec).kvt with upd := none } } : State).updEffect u.msg = _ from he]
  rfl

/-- A message that makes a blob. -/
theorem does_blob {b : ℕ} (he : (taken s sec).updEffect u.msg = (w, some b, false)) : Does (.vbatRecordCommit ok sec temp) s fun t =>
      t.kvt = { w.kvt with lastDigest := u.msg.digest } ∧ t.get F.KVT_UPD_CTR_UPD_CTR = u.msg.counter % 2 ^ 64 ∧
        Finished t 0 u.cmd (if ok then cOk else cDmaErr) ∧ (ok = true → Sends t (.hostWrite 0 u.out 128 b)) := by
  refine ⟨_, commit_blob hu he, ?_⟩
  cases ok
  · exact ⟨committed_kvt w u, committed_ctr w u, finished_finish rfl, fun h => absurd h (by decide)⟩
  · exact ⟨committed_kvt w u, committed_ctr w u, finished_finish rfl, fun _ => List.mem_cons_self⟩

end

/-! ## Slots emptied -/

/-- A slot emptied leaves VALID of another slot, and a field outside the key cache, as they were. -/
theorem clearSlot_get (s : State) (i : ℕ) {g : Fld} (h1 : Beside (F.KVT_TEN_ST_USED (s.get (F.KVT_SLOT_TENANT i))) g)
    (h2 : Beside (F.KVT_SLOT_TENANT i) g) (h3 : Beside (F.KVT_SLOT_CLASS i) g) (h4 : Beside (F.KVT_SLOT_USAGE i) g)
    (h5 : Beside (F.KVT_SLOT_VALID i) g) (h6 : Beside (F.KVT_SLOT_KEY_ID i) g) : (s.clearSlot i).get g = s.get g := by
  unfold State.clearSlot
  split
  · show ((((((s.set _ _).set _ _).set _ _).set _ _).set _ _).set _ _).get g = _
    rw [get_set_beside h6, get_set_beside h5, get_set_beside h4, get_set_beside h3, get_set_beside h2, get_set_beside h1]
  · rfl

theorem tenant_lt (s : State) (i : ℕ) : s.get (F.KVT_SLOT_TENANT i) < 1024 := State.get_lt s _

theorem slotValid_clearSlot_ne (s : State) {i j : ℕ} (h : i ≠ j) (hi : i < 4096) :
    (s.clearSlot j).on (F.KVT_SLOT_VALID i) = s.on (F.KVT_SLOT_VALID i) := by
  have ht := tenant_lt s j
  rw [State.on, State.on, clearSlot_get] <;> simp [Beside, Store.span] <;> omega

theorem kvt_epochs_clearSlot (s : State) (i : ℕ) : (s.clearSlot i).kvt = { s.kvt with slots := (s.clearSlot i).kvt.slots } := by
  unfold State.clearSlot
  split <;> rfl

/-- Slots emptied: those picked of a list of slots are not VALID, and none becomes VALID. -/
theorem clearSlots_valid (p : ℕ → Bool) {i : ℕ} (hi : i < 4096) : ∀ (l : List ℕ) (s : State),
    ((i ∈ l ∧ p i = true) ∨ s.on (F.KVT_SLOT_VALID i) = false) →
    (l.foldl (fun s i => if p i then s.clearSlot i else s) s).on (F.KVT_SLOT_VALID i) = false
  | [], s, h => h.resolve_left (by simp)
  | j :: l, s, h => by
    rw [List.foldl_cons]
    refine clearSlots_valid p hi l _ ?_
    by_cases hj : i = j
    · subst hj
      rcases h with ⟨-, hp⟩ | hoff
      · exact .inr (by rw [if_pos hp]; exact slotValid_clearSlot s i)
      · refine .inr ?_
        split
        · exact slotValid_clearSlot s i
        · exact hoff
    · rcases h with ⟨hm, hp⟩ | hoff
      · exact .inl ⟨(List.mem_cons.mp hm).resolve_left hj, hp⟩
      · refine .inr ?_
        split
        · rw [slotValid_clearSlot_ne s hj hi]
          exact hoff
        · exact hoff

theorem clearSlots_kvt (s : State) (p : ℕ → Bool) : ∃ l, (s.clearSlots p).kvt = { s.kvt with slots := l } := by
  unfold State.clearSlots
  refine List.foldlRecOn (motive := fun u : State => ∃ l, u.kvt = { s.kvt with slots := l }) _ _ ⟨s.kvt.slots, rfl⟩ fun u hu i _ => ?_
  obtain ⟨l, hl⟩ := hu
  split
  · exact ⟨_, (kvt_epochs_clearSlot u i).trans (by rw [hl])⟩
  · exact ⟨l, hl⟩

theorem mem_map_fst_of_alGet {α : Type} {l : List (ℕ × α)} {k : ℕ} (h : (alGet l k).isSome = true) : k ∈ l.map Prod.fst := by
  induction l with
  | nil => simp [alGet] at h
  | cons p l ih =>
    obtain ⟨j, x⟩ := p
    rw [alGet] at h
    split at h
    · next hj => simp [hj]
    · exact List.mem_cons_of_mem _ (ih h)

/-! ## Zeroization (R303, R306, R317) -/

/-- The vault holds nothing that is zeroizable. -/
structure Zeroized (t : State) : Prop where
  provisioned : t.provisioned = false
  ctr : t.get F.KVT_UPD_CTR_UPD_CTR = 0
  root : t.kvt.root = 0
  attest : t.kvt.attest = 0
  updKey : t.kvt.updKey = 0
  imgKey : t.kvt.imgKey = 0
  epochs : t.kvt.epochs = []
  upd : t.kvt.upd = none

/-- Commands completed leave the vault and the registers alone. -/
theorem tamperCmds_keeps (s : State) (l : List ℕ) :
    (l.foldl State.tamperCmds s).kvt = s.kvt ∧ (l.foldl State.tamperCmds s).regs = s.regs := by
  refine List.foldlRecOn (motive := fun u : State => u.kvt = s.kvt ∧ u.regs = s.regs) _ _ ⟨rfl, rfl⟩ fun u hu n _ => ?_
  unfold State.tamperCmds
  refine List.foldlRecOn (motive := fun u : State => u.kvt = s.kvt ∧ u.regs = s.regs) _ _ hu fun v hv c _ => ?_
  split
  · exact hv
  · exact hv

theorem clearSlots_regs_valid {s : State} {i : ℕ} (hi : i < 4096) (hm : i ∈ s.kvt.slots.map Prod.fst) (p : ℕ → Bool)
    (hp : p i = true) :
    (s.clearSlots p).on (F.KVT_SLOT_VALID i) = false := clearSlots_valid p hi _ s (.inl ⟨hm, hp⟩)

/-- The vault's own state cleared, the registers still to be. -/
def wiped (s : State) : State :=
  { s.clearSlots (fun _ => true) with kvt := { (s.clearSlots (fun _ => true)).kvt with
      root := 0, attest := 0, updKey := 0, imgKey := 0, lastDigest := 0, epochs := [], upd := none } }

theorem zeroize_eq (s : State) : ∃ n, s.zeroize =
    ((((wiped s).set F.KVT_UPD_CTR_UPD_CTR 0).set F.KVT_STAT_PROVISIONED 0).set F.KVT_PROV_NONCE_NONCE n).draw := ⟨_, rfl⟩

theorem draw_regs (s : State) : s.draw.regs = s.regs := rfl

/-- What is left of the vault's own state once it is zeroized. -/
theorem zeroize_kvt (s : State) : ∃ l, s.zeroize.kvt = { s.kvt with
    slots := l, root := 0, attest := 0, updKey := 0, imgKey := 0, lastDigest := 0, epochs := [], upd := none } := by
  obtain ⟨l, hl⟩ := clearSlots_kvt s (fun _ => true)
  obtain ⟨n, hn⟩ := zeroize_eq s
  refine ⟨l, ?_⟩
  have hw : (wiped s).kvt = { (s.clearSlots fun _ => true).kvt with
    root := 0, attest := 0, updKey := 0, imgKey := 0, lastDigest := 0, epochs := [], upd := none } := rfl
  rw [hl] at hw
  rw [hn, ← hw]
  rfl

theorem zeroize_facts (s : State) : s.zeroize.get F.KVT_UPD_CTR_UPD_CTR = 0 ∧ s.zeroize.on F.KVT_STAT_PROVISIONED = false ∧
    ∀ i < 4096, i ∈ s.kvt.slots.map Prod.fst → s.zeroize.on (F.KVT_SLOT_VALID i) = false := by
  have hvalid : ∀ i < 4096, i ∈ s.kvt.slots.map Prod.fst → (wiped s).on (F.KVT_SLOT_VALID i) = false :=
    fun i hi hm => clearSlots_regs_valid hi hm (fun _ => true) rfl
  obtain ⟨n, hn⟩ := zeroize_eq s
  rw [hn]
  generalize wiped s = w at hvalid ⊢
  have hget : ∀ f, (((w.set F.KVT_UPD_CTR_UPD_CTR 0).set F.KVT_STAT_PROVISIONED 0).set F.KVT_PROV_NONCE_NONCE n).draw.get f =
      (((w.set F.KVT_UPD_CTR_UPD_CTR 0).set F.KVT_STAT_PROVISIONED 0).set F.KVT_PROV_NONCE_NONCE n).get f :=
    get_of_regs (draw_regs _)
  refine ⟨?_, ?_, fun i hi hm => ?_⟩
  · rw [hget, get_set_beside (by decide), get_set_beside (by decide), State.get_set_self, Nat.zero_mod]
  · rw [State.on, hget, ← State.on, on_set_beside (by decide), on_set_zero]
  · rw [State.on, hget, ← State.on, on_set_beside (by simp [Beside, Store.span]; try omega),
      on_set_beside (by simp [Beside, Store.span]; try omega), on_set_beside (by simp [Beside, Store.span]; try omega)]
    exact hvalid i hi hm

/-- An episode begins, or goes on, and is counted. -/
theorem episode_facts (s : State) (sources : ℕ) (temp : Int) (off : Bool) : (s.episode sources temp off).regs = s.regs ∧
    ∃ e, (s.episode sources temp off).kvt = { s.kvt with episode := some e } ∧ (s.kvt.episode = none → e.sources = sources) := by
  unfold State.episode
  split
  · next e h => exact ⟨rfl, _, rfl, fun hn => absurd (h.symm.trans hn) (by simp)⟩
  · exact ⟨State.count_regs _ _, _, State.count_kvt _ _, fun _ => rfl⟩

theorem tamper_facts (s : State) {sources : ℕ} (temp : Int) (off : Bool) (h : sources ≠ 0) : Zeroized (s.tamper sources temp off) ∧
    (∀ i < 4096, i ∈ s.kvt.slots.map Prod.fst → (s.tamper sources temp off).on (F.KVT_SLOT_VALID i) = false) ∧
    ∃ e, (s.tamper sources temp off).kvt.episode = some e ∧ (s.kvt.episode = none → e.sources = sources) := by
  obtain ⟨l, hl⟩ := zeroize_kvt s
  obtain ⟨hkvt, hregs⟩ := tamperCmds_keeps s.zeroize s.zeroize.ringFns
  obtain ⟨hctr, hprov, hvalid⟩ := zeroize_facts s
  unfold State.tamper
  rw [if_neg h]
  dsimp only
  generalize s.zeroize.ringFns.foldl State.tamperCmds s.zeroize = u at hkvt hregs ⊢
  obtain ⟨kregs, e, hke, hsrc⟩ := episode_facts u sources temp off
  generalize u.episode sources temp off = t at kregs hke ⊢
  have hget : ∀ f, t.get f = s.zeroize.get f := fun f => get_of_regs (kregs.trans hregs) f
  have hon : ∀ f, t.on f = s.zeroize.on f := fun f => by rw [State.on, hget, State.on]
  rw [hkvt, hl] at hke hsrc
  exact ⟨⟨(hon _).trans hprov, (hget _).trans hctr, by rw [hke], by rw [hke], by rw [hke], by rw [hke], by rw [hke], by rw [hke]⟩,
    fun i hi hm => (hon _).trans (hvalid i hi hm), e, by rw [hke], hsrc⟩

/-! ## The effect of each message -/

theorem settleAlert_kvt (s : State) : s.settleAlert.kvt = s.kvt := by
  unfold State.settleAlert
  dsimp only
  split <;> rfl

theorem settleAlert_get (s : State) {g : Fld} (h : Beside F.SYS_BOOT_ST_ALERT g) : s.settleAlert.get g = s.get g := by
  unfold State.settleAlert
  dsimp only
  split <;> exact get_set_beside h s _

section
variable {u : PendUpd} {ok : Bool} {sec : ℕ} {temp : Int} (hu : s.kvt.upd = some u)
include hu

theorem commit_tamperCfg {a b : ℕ} (hm : u.msg.pay = .tamperCfg a b) : Does (.vbatRecordCommit ok sec temp) s fun t =>
    t.get F.KVT_TAMPER_CFG_T_LOW = a % 2 ^ 8 ∧ t.get F.KVT_TAMPER_CFG_T_HIGH = bitsOf a 16 8 ∧
    t.get F.KVT_TAMPER_CFG_PIN_EN = b % 2 ^ 4 ∧ t.get F.KVT_UPD_CTR_UPD_CTR = u.msg.counter % 2 ^ 64 ∧
    t.kvt = { (s.vbatRead sec).kvt with upd := none, lastDigest := u.msg.digest } := by
  have he : (taken s sec).updEffect u.msg = ((((taken s sec).set F.KVT_TAMPER_CFG_T_LOW a).set F.KVT_TAMPER_CFG_T_HIGH
      (bitsOf a 16 8)).set F.KVT_TAMPER_CFG_PIN_EN b, none, false) := by
    rw [State.updEffect, hm]
  have hlow : ∀ w : State, (((w.set F.KVT_TAMPER_CFG_T_LOW a).set F.KVT_TAMPER_CFG_T_HIGH (bitsOf a 16 8)).set
      F.KVT_TAMPER_CFG_PIN_EN b).get F.KVT_TAMPER_CFG_T_LOW = a % 2 ^ 8 := fun w => by
    rw [get_set_beside (by decide), get_set_beside (by decide), State.get_set_self]
  have hhigh : ∀ w : State, (((w.set F.KVT_TAMPER_CFG_T_LOW a).set F.KVT_TAMPER_CFG_T_HIGH (bitsOf a 16 8)).set
      F.KVT_TAMPER_CFG_PIN_EN b).get F.KVT_TAMPER_CFG_T_HIGH = bitsOf a 16 8 := fun w => by
    rw [get_set_beside (by decide), State.get_set_self]
    exact Nat.mod_eq_of_lt (Store.bitsOf_lt a 16 8)
  refine ⟨_, commit_effect hu he, ?_, ?_, ?_, committed_ctr _ u, committed_kvt _ u⟩
  · exact (committed_get _ u (by decide) (by decide)).trans (hlow (taken s sec))
  · exact (committed_get _ u (by decide) (by decide)).trans (hhigh (taken s sec))
  · exact (committed_get _ u (by decide) (by decide)).trans (State.get_set_self _ _ _)

theorem commit_deprovision (hm : u.msg.pay = .deprovision) : Does (.vbatRecordCommit ok sec temp) s fun t =>
    t.provisioned = false ∧ t.kvt.root = 0 ∧ t.kvt.updKey = 0 ∧ t.kvt.attest = 0 ∧ t.kvt.imgKey = 0 ∧ t.kvt.epochs = [] ∧
    t.get F.KVT_UPD_CTR_UPD_CTR = 0 := by
  have he : (taken s sec).updEffect u.msg = (taken s sec, none, true) := by rw [State.updEffect, hm]
  obtain ⟨h, -⟩ := tamper_facts ((committed (taken s sec) u).finish 0 u.cmd cOk 0) (sources := 512) temp false (by decide)
  exact ⟨_, commit_zeroize hu he, h.provisioned, h.root, h.updKey, h.attest, h.imgKey, h.epochs, h.ctr⟩

theorem commit_tenantEpoch {t0 r e : ℕ} (hm : u.msg.pay = .tenantEpoch t0 r e) : Does (.vbatRecordCommit ok sec temp) s fun t =>
    t.kvt.epochs = alSet s.kvt.epochs t0 e ∧ t.get F.KVT_UPD_CTR_UPD_CTR = u.msg.counter % 2 ^ 64 ∧ Finished t 0 u.cmd cOk ∧
    (∀ i < 4096, (alGet s.kvt.slots i).isSome = true → s.get (F.KVT_SLOT_TENANT i) = t0 → t.on (F.KVT_SLOT_VALID i) = false) := by
  let v : State := { taken s sec with kvt := { (taken s sec).kvt with epochs := alSet s.kvt.epochs t0 e } }
  have he : (taken s sec).updEffect u.msg = (v.clearSlots (fun i => s.get (F.KVT_SLOT_TENANT i) = t0), none, false) := by
    rw [State.updEffect, hm]
    rfl
  obtain ⟨l, hl⟩ := clearSlots_kvt v (fun i => s.get (F.KVT_SLOT_TENANT i) = t0)
  have hvalid : ∀ i < 4096, (alGet s.kvt.slots i).isSome = true → s.get (F.KVT_SLOT_TENANT i) = t0 →
      (v.clearSlots (fun i => s.get (F.KVT_SLOT_TENANT i) = t0)).on (F.KVT_SLOT_VALID i) = false := fun i hi hsome ht =>
    clearSlots_regs_valid (s := v) hi (mem_map_fst_of_alGet hsome) _ (decide_eq_true ht)
  refine ⟨_, commit_effect hu he, ?_, committed_ctr _ u, finished_finish rfl, fun i hi hsome ht => ?_⟩
  · exact (congrArg KvtSt.epochs (committed_kvt _ u)).trans (congrArg KvtSt.epochs hl)
  · have hget := committed_get (v.clearSlots (fun i => s.get (F.KVT_SLOT_TENANT i) = t0)) u (g := F.KVT_SLOT_VALID i)
      (by simp [Beside, Store.span]; try omega) (by simp [Beside, Store.span]; try omega)
    have hv := hvalid i hi hsome ht
    rw [State.on, ← hget] at hv
    exact hv

theorem commit_provision {c : Bool} {x y k : ℕ} (hm : u.msg.pay = .provision c (some (x, y)) k) :
    Does (.vbatRecordCommit ok sec temp) s fun t =>
      t.kvt = { (s.vbatRead sec).kvt with
        upd := none, root := bitsOf (Config.random s.draws) 0 256, epochs := [], updKey := x, attest := y, imgKey := k
        lastDigest := u.msg.digest } ∧
      t.provisioned = true ∧ t.get F.KVT_UPD_CTR_UPD_CTR = u.msg.counter % 2 ^ 64 ∧ Finished t 0 u.cmd cOk := by
  let v : State := { taken s sec with kvt := { (taken s sec).kvt with
    root := bitsOf (Config.random s.draws) 0 256, epochs := [], updKey := x, attest := y, imgKey := k } }
  have he : (taken s sec).updEffect u.msg = ((((v.draw.set F.KVT_STAT_PROVISIONED 1).set F.KVT_PROV_NONCE_NONCE 0).set
      F.KVT_STAT_VBAT_LOST 0).settleAlert, none, false) := by
    rw [State.updEffect, hm]
    rfl
  have hprov : ∀ w : State, (((w.set F.KVT_STAT_PROVISIONED 1).set F.KVT_PROV_NONCE_NONCE 0).set F.KVT_STAT_VBAT_LOST 0).settleAlert.get
      F.KVT_STAT_PROVISIONED = 1 := fun w => by
    rw [settleAlert_get _ (by decide), get_set_beside (by decide), get_set_beside (by decide), State.get_set_self]
    rfl
  refine ⟨_, commit_effect hu he, ?_, ?_, committed_ctr _ u, finished_finish rfl⟩
  · refine (committed_kvt _ u).trans ?_
    rw [settleAlert_kvt]
    rfl
  · have hget := (committed_get _ u (g := F.KVT_STAT_PROVISIONED) (by decide) (by decide)).trans (hprov v.draw)
    exact decide_eq_true hget

end

/-- Settles O33: a message is judged once, and the record write commits its effect with UPD_CTR and LAST_DIGEST. -/
theorem vaultUpdates : Obligations.VaultUpdates := by
  refine ⟨fun s c m => updCmd_passes, fun s c m => updCmd_fails, fun s u k ok sec temp hu hm => ?_, fun s u a b ok sec temp hu hm =>
    commit_tamperCfg hu hm, fun s u p ok sec temp hu hm => ?_, fun s u ok sec temp => commit_deprovision,
    fun s u p k l ok sec temp hu hm => ?_, fun s u t0 r e ok sec temp hu hm => commit_tenantEpoch hu hm,
    fun s u k ok sec temp hu hm => ?_,
    fun s u k ok sec temp hu hm => ?_, fun s u c x y k ok sec temp hu hm =>
      commit_provision hu hm⟩
  · refine ⟨_, commit_effect hu (w := { taken s sec with kvt := { (taken s sec).kvt with imgKey := k } }) (by rw [State.updEffect, hm]),
      committed_kvt _ u, committed_ctr _ u, finished_finish rfl⟩
  · exact does_blob hu (w := (taken s sec).draw) (b := s.makeBlob p (bitsOf (Config.random s.draws) 0 256))
      (by rw [State.updEffect, hm]; rfl)
  · exact does_blob hu (w := taken s sec) (b := s.makeBlob p k) (by rw [State.updEffect, hm]; rfl)
  · exact ⟨_, commit_effect hu (w := { taken s sec with kvt := { (taken s sec).kvt with updKey := k } }) (by rw [State.updEffect, hm]),
      committed_kvt _ u, committed_ctr _ u, finished_finish rfl⟩
  · exact ⟨_, commit_effect hu (w := { taken s sec with kvt := { (taken s sec).kvt with attest := k } }) (by rw [State.updEffect, hm]),
      committed_kvt _ u, committed_ctr _ u, finished_finish rfl⟩

end Sys2Proof.Proofs
end

section
/-!
The room that counting leaves in the provider's staging FIFO (R376, R451): each sampling slot writes at most one record in an instant,
so that a count adds no more records than there are slots that have not sampled lately (`countF_steady`).
-/

open Sys2Proof Sys2Proof.Machine Sys2Proof.Claims

namespace Sys2Proof.Proofs

variable {s t u : State}

/-- Slot j has written a record less than 64 ns ago (R451). -/
def fresh (s : State) (j : ℕ) : Bool := match (s.slot j).last with
  | some t => decide (s.ns < t + 64)
  | none => false

/-- Records staged, and the OVERFLOW record that waits. -/
def queued (f : FnSt) : ℕ := f.fifo.length + (if f.fifoLoss.isSome then 1 else 0)

/-- Records queued for the provider's ring, and those that the slots may still write now. -/
def load (s : State) : ℕ := queued (s.fn 0) + (List.range 8).countP (fun j => !fresh s j)

/-- While the FIFO is far from full, no record is lost or coalesced, and the load does not grow. -/
structure Steady (s t : State) : Prop where
  time : t.time = s.time
  load : load s < 512 → (s.fn 0).coal = [] → load t ≤ load s ∧ (t.fn 0).coal = []

namespace Steady

theorem refl (s : State) : Steady s s := ⟨rfl, fun _ h => ⟨le_refl _, h⟩⟩

theorem trans (h : Steady s t) (k : Steady t u) : Steady s u := by
  refine ⟨k.time.trans h.time, fun hs hc => ?_⟩
  obtain ⟨ht, hct⟩ := h.load hs hc
  obtain ⟨hu, hcu⟩ := k.load (ht.trans_lt hs) hct
  exact ⟨hu.trans ht, hcu⟩

end Steady

theorem slot_setSlot (s : State) (j k : ℕ) (x : Slot) : (s.setSlot j x).slot k = if k = j then x else s.slot k := by
  simp only [State.slot, State.setSlot, alGet_alSet]
  split <;> rfl

theorem fresh_congr (htime : t.time = s.time) {j : ℕ} (h : (t.slot j).last = (s.slot j).last) : fresh t j = fresh s j := by
  rw [fresh, fresh, h, State.ns, htime, State.ns]

/-- An update of neither FIFO nor slots' last records. -/
theorem Steady.of_eq (htime : t.time = s.time) (hfn : t.fn 0 = s.fn 0) (h : ∀ j, (t.slot j).last = (s.slot j).last) : Steady s t := by
  have hload : Proofs.load t = Proofs.load s := by
    rw [Proofs.load, Proofs.load, hfn]
    simp only [fresh_congr htime (h _)]
  exact ⟨htime, fun _ hc => ⟨hload.le, by rw [hfn]; exact hc⟩⟩

theorem countP_lt_of_mem {p q : ℕ → Bool} {j : ℕ} (hp : p j = true) (hq : q j = false) (h : ∀ k, q k = true → p k = true) :
    ∀ {l : List ℕ}, j ∈ l → l.countP q < l.countP p
  | k :: l, hj => by
    have hle : l.countP q ≤ l.countP p := List.countP_mono_left fun x _ hx => h x hx
    rcases List.mem_cons.mp hj with rfl | hj
    · rw [List.countP_cons_of_neg (by simp [hq]), List.countP_cons_of_pos hp]
      omega
    · have ih := countP_lt_of_mem hp hq h hj
      rw [List.countP_cons, List.countP_cons]
      have := h k
      split <;> split <;> simp_all

/-- A record takes one place in the FIFO, with the OVERFLOW record that waits before it. -/
theorem load_pushEv (s : State) (r : EvRec) (hs : load s < 511) (hc : (s.fn 0).coal = []) :
    load (s.pushEv 0 r).1 ≤ load s + 1 ∧ ((s.pushEv 0 r).1.fn 0).coal = [] := by
  have hfresh : ∀ f : FnSt, (List.range 8).countP (fun j => !fresh (s.setFn 0 f) j) = (List.range 8).countP (fun j => !fresh s j) :=
    fun f => rfl
  have hroom : queued (s.fn 0) < 511 := by
    rw [load] at hs
    omega
  have hload : ∀ f : FnSt, queued f ≤ queued (s.fn 0) + 1 → load (s.setFn 0 f) ≤ load s + 1 := fun f hf => by
    rw [load, load, hfresh, State.fn_setFn, if_pos rfl]
    omega
  unfold State.pushEv
  extract_lets f0 f l
  have hf : queued f ≤ queued (s.fn 0) ∧ f.coal = [] := by
    unfold f
    split
    · next x hx =>
      have hsome : (s.fn 0).fifoLoss = some x := hx
      have hlt : f0.fifo.length < 512 := by
        show (s.fn 0).fifo.length < 512
        rw [queued] at hroom
        omega
      rw [if_pos hlt]
      exact ⟨by simp [queued, f0, hsome], hc⟩
    · exact ⟨le_refl _, hc⟩
  obtain ⟨hlen, hcoal⟩ := hf
  have hfifo : f.fifo.length < 512 := by
    have : f.fifo.length ≤ queued f := Nat.le_add_right _ _
    omega
  rw [if_pos hfifo, hcoal]
  refine ⟨hload _ ?_, ?_⟩
  · have hone : ∀ x : EvRec, queued { f with fifo := f.fifo ++ [x], coal := (State.takeCoal r.typ []).2 } = queued f + 1 := fun x => by
      simp only [queued, List.length_append, List.length_singleton]
      omega
    rw [hone]
    omega
  · simp [State.fn_setFn, State.takeCoal]

theorem Steady.signalSample (s : State) : Steady s s.signalSample := by
  unfold State.signalSample
  dsimp only
  split <;> exact .of_eq rfl rfl fun _ => rfl

theorem Steady.pushTrace (s : State) (ty src sh fr p : ℕ) : Steady s (s.pushTrace ty src sh fr p).1 := by
  unfold State.pushTrace
  dsimp only
  split
  · exact .of_eq rfl rfl fun _ => rfl
  split <;> exact .of_eq rfl rfl fun _ => rfl

/-- A slot that has not sampled lately writes its record, and has sampled then. -/
theorem load_sampled (s : State) {j : ℕ} (hj : j < 8) (x : Slot) (hx : x.last = some s.ns) (hold : fresh s j = false) :
    load (s.setSlot j x) < load s := by
  have hother : ∀ k, fresh (s.setSlot j x) k = if k = j then true else fresh s k := fun k => by
    rw [fresh, slot_setSlot]
    by_cases hk : k = j
    · rw [if_pos hk, if_pos hk, hx]
      exact decide_eq_true (by show s.ns < s.ns + 64; omega)
    · rw [if_neg hk, if_neg hk]
      rfl
  have hlt := countP_lt_of_mem (p := fun k => !fresh s k) (q := fun k => !fresh (s.setSlot j x) k) (j := j) (by rw [hold]; rfl)
    (by rw [hother, if_pos rfl]; rfl) (fun k hk => by
      rw [hother] at hk
      split at hk
      · exact absurd hk (by decide)
      · exact hk) (List.mem_range.mpr hj)
  have hfn : (s.setSlot j x).fn 0 = s.fn 0 := rfl
  rw [load, load, hfn]
  omega

theorem slotStep_steady {more : State → ℕ → State} (hm : ∀ s k, Steady s (more s k)) (i n : ℕ) (s : State) {j : ℕ}
    (hj : j < 8) : Steady s (State.slotStep more i n s j) := by
  have hslot : ∀ x : Slot, x.last = (s.slot j).last → Steady s (s.setSlot j x) := fun x hx => .of_eq rfl rfl fun k => by
    rw [slot_setSlot]
    split
    · next h => rw [hx, h]
    · rfl
  unfold State.slotStep
  extract_lets x per crossed x' recent p s1
  split
  swap
  · exact .refl s
  split
  · exact hslot _ rfl
  split
  · exact (hslot { x' with lost := (x.lost + 1) % 2 ^ 32 } rfl).trans (hm _ _)
  · next hrecent =>
    have hold : fresh s j = false := Bool.eq_false_iff.mpr hrecent
    have hless := load_sampled s hj { x' with last := some s.ns, samples := (x.samples + 1) % 2 ^ 32 } rfl hold
    change load s1 < load s at hless
    have hev : Steady s (s1.pushEv 0 (s1.evRec 0x38 0 s1.short s1.frac p)).1 := by
      refine ⟨?_, fun hs hc => ?_⟩
      · have h := congrArg State.time (State.pushEv_calm s1 0 (s1.evRec 0x38 0 s1.short s1.frac p))
        exact h
      · obtain ⟨hl, hcoal⟩ := load_pushEv s1 (s1.evRec 0x38 0 s1.short s1.frac p) (by omega) hc
        exact ⟨by omega, hcoal⟩
    generalize s1.pushEv 0 (s1.evRec 0x38 0 s1.short s1.frac p) = q at hev ⊢
    obtain ⟨u, co⟩ := q
    have htr := Steady.pushTrace u 12 0 u.short u.frac p
    generalize hq : u.pushTrace 12 0 u.short u.frac p = q at htr
    obtain ⟨v, lost⟩ := q
    have hv : Steady s (more (more v.signalSample 0x605) 0x600) :=
      ((hev.trans htr).trans (.signalSample v)).trans ((hm _ _).trans (hm _ _))
    dsimp only
    rw [hq]
    cases lost <;> cases co
    · exact hv
    · exact hv.trans (hm _ _)
    · exact hv.trans (hm _ _)
    · exact hv.trans ((hm _ _).trans (hm _ _))

theorem countF_steady : ∀ (k : ℕ) (s : State) (i n : ℕ), Steady s (State.countF k s i n)
  | 0, _, _, _ => .of_eq rfl rfl fun _ => rfl
  | k + 1, s, i, n => by
    have hbump : Steady s (s.bump i n) := .of_eq rfl rfl fun _ => rfl
    refine hbump.trans ?_
    unfold State.countF
    refine List.foldlRecOn (motive := fun u => Steady (s.bump i n) u) _ _ (.refl _) fun u hu j hj => hu.trans ?_
    exact slotStep_steady (fun s c => countF_steady k s c 1) i n u (List.mem_range.mp hj)

/-- A count leaves room for a record where there was room for 64. -/
theorem room_count (s : State) (i : ℕ) (hroom : (s.fn 0).fifo.length < 448) (hcoal : (s.fn 0).coal = []) :
    ((s.count i).fn 0).fifo.length < 511 ∧ ((s.count i).fn 0).coal = [] := by
  have hslots : (List.range 8).countP (fun j => !fresh s j) ≤ 8 := List.countP_le_length
  have hloss : (if (s.fn 0).fifoLoss.isSome then 1 else 0) ≤ 1 := by split <;> decide
  have hload : load s < 458 := by
    rw [load, queued]
    omega
  obtain ⟨hle, hc⟩ := (countF_steady 9 s i 1).load (hload.trans (by decide)) hcoal
  have hlen : ((s.count i).fn 0).fifo.length ≤ load (s.count i) := by
    rw [load, queued]
    omega
  exact ⟨(hlen.trans hle).trans_lt (hload.trans (by decide)), hc⟩

end Sys2Proof.Proofs
end

section
/-!
O34: the key cache, attestation, tamper and its log (R309, R311, R315 to R317, R319, R320).
-/

open Sys2Proof Sys2Proof.Machine Sys2Proof.Claims

namespace Sys2Proof.Proofs

variable {s : State} {fn i : ℕ} {c : Cmd} {b : KeyBlob}

/-! ## KVT_LOAD (R309) -/

theorem kvtLoad_judged {ok : Bool} (hc : s.cmdOf fn 0x0901 = some c) (hown : OwnSlot s fn (c.arg 8 2)) :
    s.kvtLoad fn ok b = if s.loadCheck fn (c.arg 8 2) ok b = cOk
      then ((s.finish fn c.n (s.loadCheck fn (c.arg 8 2) ok b) (c.arg 8 2)).fillSlot (c.arg 8 2) b).kvtStat 0
      else (s.finish fn c.n (s.loadCheck fn (c.arg 8 2) ok b) (c.arg 8 2)).kvtStat 1 := by
  unfold State.kvtLoad
  rw [hc]
  dsimp only
  rw [if_neg (by rw [show s.slotViolation fn (c.arg 8 2) = false from hown]; decide)]

/-- What a blob that passes holds. -/
theorem loadCheck_ok {slot : ℕ} (h : s.loadCheck fn slot true b = cOk) : slot < 4096 ∧ b.tenant < 1024 ∧ b.cls < 3 ∧ b.usage < 4 := by
  unfold State.loadCheck at h
  by_cases h1 : s.engQuenched 17 = true
  · exact absurd ((if_pos h1).symm.trans h) (by decide)
  by_cases h2 : (!s.provisioned) = true
  · exact absurd (((if_neg h1).trans (if_pos h2)).symm.trans h) (by decide)
  rw [if_neg h1, if_neg h2] at h
  split at h
  · exact absurd h (by decide)
  next hslot =>
  split at h
  · exact absurd h (by decide)
  split at h
  · exact absurd h (by decide)
  split at h
  · exact absurd h (by decide)
  next hformat =>
  clear h h1 h2
  simp only [Bool.or_eq_true, decide_eq_true_eq, not_or] at hformat
  omega

theorem tenant_word (s : State) (n : ℕ) (t : ℕ) :
    (s.add (F.KVT_TEN_ST_USED t) n).get (F.KVT_TEN_ST_USED t) = (s.get (F.KVT_TEN_ST_USED t) + n) % 2 ^ 13 :=
  State.get_set_self s _ _

/-- The register words of a slot that has been filled. -/
theorem fillSlot_regs (s : State) (hi : i < 4096) (ht : b.tenant < 1024) (hcls : b.cls < 3) (husage : b.usage < 4) :
    (s.fillSlot i b).on (F.KVT_SLOT_VALID i) = true ∧ (s.fillSlot i b).get (F.KVT_SLOT_TENANT i) = b.tenant ∧
    (s.fillSlot i b).get (F.KVT_SLOT_CLASS i) = b.cls ∧ (s.fillSlot i b).get (F.KVT_SLOT_USAGE i) = b.usage ∧
    (s.fillSlot i b).get (F.KVT_SLOT_KEY_ID i) = b.keyId % 2 ^ 32 ∧
    (s.fillSlot i b).get (F.KVT_TEN_ST_USED b.tenant) = (s.get (F.KVT_TEN_ST_USED b.tenant) + 1) % 2 ^ 13 := by
  have hget : ∀ f, (s.fillSlot i b).get f = ((((((s.add (F.KVT_TEN_ST_USED b.tenant) 1).set (F.KVT_SLOT_TENANT i) b.tenant).set
      (F.KVT_SLOT_CLASS i) b.cls).set (F.KVT_SLOT_USAGE i) b.usage).set (F.KVT_SLOT_VALID i) 1).set (F.KVT_SLOT_KEY_ID i) b.keyId).get f :=
    get_of_regs rfl
  rw [State.on]
  simp only [hget]
  simp (disch := (simp [Beside, Store.span]; try omega)) only [get_set_beside, State.get_set_self, tenant_word]
  refine ⟨rfl, ?_, ?_, ?_, trivial, trivial⟩
  · omega
  · omega
  · omega

theorem kvtLoad_fills (hc : s.cmdOf fn 0x0901 = some c) (hown : OwnSlot s fn (c.arg 8 2)) (hok : s.loadCheck fn (c.arg 8 2) true b = cOk) :
    let i := c.arg 8 2
    Does (.kvtLoad fn true b) s fun t =>
      t.kvt = { s.kvt with slots := alSet s.kvt.slots i ⟨b.key, b.notBefore, b.notAfter⟩ } ∧
      t.on (F.KVT_SLOT_VALID i) = true ∧ t.get (F.KVT_SLOT_TENANT i) = b.tenant ∧ t.get (F.KVT_SLOT_CLASS i) = b.cls ∧
      t.get (F.KVT_SLOT_USAGE i) = b.usage ∧ t.get (F.KVT_SLOT_KEY_ID i) = b.keyId % 2 ^ 32 ∧
      t.get (F.KVT_TEN_ST_USED b.tenant) = (s.get (F.KVT_TEN_ST_USED b.tenant) + 1) % 2 ^ 13 := by
  intro i
  have hi : c.arg 8 2 = i := rfl
  clear_value i
  obtain ⟨hslot, ht, hcls, husage⟩ := loadCheck_ok hok
  rw [hi] at hslot
  have hexec : exec (.kvtLoad fn true b) s = .next (((s.finish fn c.n cOk i).fillSlot i b).kvtStat 0) :=
    congrArg Host.Outcome.next ((kvtLoad_judged hc hown).trans ((if_pos hok).trans (by rw [hok, hi])))
  refine ⟨_, hexec, kvtStat_kvt _ 0, ?_⟩
  have hfin : ∀ f, (s.finish fn c.n cOk i).get f = s.get f := fun f => rfl
  have hregs := fillSlot_regs (b := b) (s.finish fn c.n cOk i) hslot ht hcls husage
  rw [hfin] at hregs
  rw [State.on, ← State.on] at hregs
  rw [State.on]
  iterate 6 rw [kvtStat_get _ 0 (by simp [Beside, Store.span]; try omega)]
  exact hregs

theorem kvtLoad_refused {ok : Bool} (hc : s.cmdOf fn 0x0901 = some c) (hown : OwnSlot s fn (c.arg 8 2))
    (hno : s.loadCheck fn (c.arg 8 2) ok b ≠ cOk) : Does (.kvtLoad fn ok b) s fun t =>
      t.kvt = s.kvt ∧ Finished t fn c.n (s.loadCheck fn (c.arg 8 2) ok b) ∧ SameRegs (words [F.KVT_STATS_COUNT 1]) s t := by
  have hexec : exec (.kvtLoad fn ok b) s = .next ((s.finish fn c.n (s.loadCheck fn (c.arg 8 2) ok b) (c.arg 8 2)).kvtStat 1) :=
    congrArg Host.Outcome.next ((kvtLoad_judged hc hown).trans (if_neg hno))
  generalize s.loadCheck fn (c.arg 8 2) ok b = st at hexec ⊢
  have hregs : SameRegs (words [F.KVT_STATS_COUNT 1]) (s.finish fn c.n st (c.arg 8 2)) ((s.finish fn c.n st (c.arg 8 2)).kvtStat 1) :=
    kvtStat_regs _ 1
  exact ⟨_, hexec, kvtStat_kvt (s.finish fn c.n st (c.arg 8 2)) 1, finished_finish (kvtStat_cmds _ 1 fn), hregs⟩

theorem kvtLoad_foreign {ok : Bool} (hc : s.cmdOf fn 0x0901 = some c) (hv : s.slotViolation fn (c.arg 8 2) = true)
    (hq : (s.fn fn).quenched = false) : Does (.kvtLoad fn ok b) s fun t =>
      (t.fn fn).quenched = true ∧ Finished t fn c.n cQuenched ∧ t.kvt = s.kvt := by
  have hfn : fn ≠ 0 := by
    simp only [State.slotViolation, Bool.and_eq_true] at hv
    exact (slotForeign_iff.mp hv.2).1
  have hexec : exec (.kvtLoad fn ok b) s = .next ((s.kvtStat 1).keyViolation fn c.n (c.arg 8 2) (c.arg 8 2)) := by
    refine congrArg Host.Outcome.next ?_
    unfold State.kvtLoad
    rw [hc]
    dsimp only
    rw [if_pos hv]
  have hq' : (((s.kvtStat 1).finish fn c.n cQuenched (c.arg 8 2)).fn fn).quenched = false := by
    rw [quenched_finish]
    have h := congrArg FnSt.quenched (unstaged_fn_count (s.add (F.KVT_STATS_COUNT 1) 1) (0x500 + 1) fn)
    exact h.trans hq
  refine ⟨_, hexec, quenched_quenchFn hfn hq' 4 (c.arg 8 2), finished_finish (cmds_quenchFn hfn hq' 4 (c.arg 8 2)), ?_⟩
  exact (kvt_quenchFn hfn hq' 4 (c.arg 8 2)).trans (kvtStat_kvt s 1)

/-! ## KVT_ATTEST (R315) -/

theorem kvtAttest_answers {ch : ℕ} (hc : s.cmdOf fn 0x0904 = some c) (heng : s.engQuenched 17 = false) :
    Does (.kvtAttest fn true ch) s fun t =>
      Sends t (.hostWrite fn (c.arg 8 8) 136 (s.attestation fn ch)) ∧ t.kvt = s.kvt ∧
      Finished t fn c.n (if s.provisioned then cOk else cUnprovisioned) ∧ SameRegs (words [F.KVT_STATS_COUNT 4]) s t := by
  have hprov : ((s.hostWrite fn (c.arg 8 8) 136 (s.attestation fn ch)).kvtStat 4).provisioned = s.provisioned := by
    rw [State.provisioned, State.on, kvtStat_get _ 4 (by decide)]
    rfl
  have hexec : exec (.kvtAttest fn true ch) s = .next (((s.hostWrite fn (c.arg 8 8) 136 (s.attestation fn ch)).kvtStat 4).finish fn c.n
      (if s.provisioned then cOk else cUnprovisioned) 0) := by
    refine congrArg Host.Outcome.next ?_
    unfold State.kvtAttest
    rw [hc]
    dsimp only
    rw [if_neg (by rw [heng]; decide), if_neg (by decide), hprov]
  refine ⟨_, hexec, ?_, kvtStat_kvt _ 4, finished_finish rfl, kvtStat_regs (s.hostWrite fn _ 136 _) 4⟩
  have h := kvtStat_outlives (s.hostWrite fn (c.arg 8 8) 136 (s.attestation fn ch)) 4
  exact h.1 _ List.mem_cons_self

/-! ## KEY_EXPIRY (R311) -/

theorem hif_add (s : State) (f : Fld) (n : ℕ) : (s.add f n).fn 0 = s.fn 0 := rfl

/-- A provider's record follows a count that it waits for. -/
theorem mem_pevent_counted (w : State) (k ty te p : ℕ) (hroom : (w.fn 0).fifo.length < 448) (hcoal : (w.fn 0).coal = []) :
    (w.kvtStat k).evRec ty te (w.kvtStat k).short (w.kvtStat k).frac p ∈ (((w.kvtStat k).pevent ty te p).fn 0).fifo := by
  obtain ⟨hlen, hc⟩ := room_count (w.add (F.KVT_STATS_COUNT k) 1) (0x500 + k) hroom hcoal
  exact mem_pevent (w.kvtStat k) ty te p hlen hc

theorem keyExpiry_empties {k : SlotKey} (hk : alGet s.kvt.slots i = some k) (hi : i < 4096) (hv : s.on (F.KVT_SLOT_VALID i) = true)
    (hb : s.atBoundary = true) (hnot : k.notAfter ≠ 0) (hsd : Machine.sdiff s.short k.notAfter ≤ 0) :
    Does (.keyExpiry i) s fun t =>
      t.kvt = { s.kvt with slots := alDel s.kvt.slots i } ∧ t.on (F.KVT_SLOT_VALID i) = false ∧
      Reports s t 0 0x0F (s.get (F.KVT_SLOT_TENANT i))
        (pay [(20, 2, i), (22, 1, s.get (F.KVT_SLOT_CLASS i)), (24, 4, s.get (F.KVT_SLOT_KEY_ID i))]) := by
  have htlt := tenant_lt s i
  set te := s.get (F.KVT_SLOT_TENANT i) with hte
  set p := pay [(20, 2, i), (22, 1, s.get (F.KVT_SLOT_CLASS i)), (24, 4, s.get (F.KVT_SLOT_KEY_ID i))] with hp
  have hexec : exec (.keyExpiry i) s = .next (
      let u := ((s.clearSlot i).kvtStat 6).pevent 0x0F te p
      if u.fnOf te = 0 then u else u.event (u.fnOf te) 0x0F te p) := by
    refine congrArg Host.Outcome.next ?_
    unfold State.keyExpiry
    rw [hk]
    dsimp only
    rw [if_pos (by simp [hb, hnot, hsd])]
  refine ⟨_, hexec, ?_⟩
  have hkvt : ((s.clearSlot i).kvtStat 6).kvt = { s.kvt with slots := alDel s.kvt.slots i } := (kvtStat_kvt _ 6).trans (kvt_clearSlot hv)
  have hvalid : ((s.clearSlot i).kvtStat 6).on (F.KVT_SLOT_VALID i) = false := by
    rw [State.on, kvtStat_get _ 6 (by simp [Beside, Store.span]; try omega), ← State.on, slotValid_clearSlot]
  have htime : ((s.clearSlot i).kvtStat 6).time = s.time := by
    have h := congrArg State.time (kvtStat_calm (s.clearSlot i) 6)
    refine h.trans ?_
    unfold State.clearSlot
    split <;> rfl
  have hprov : ((s.clearSlot i).kvtStat 6).prov = s.prov := by
    rw [State.prov, State.on, kvtStat_get _ 6 (by decide), clearSlot_get] <;> simp [Beside, Store.span, State.prov, State.on] <;> omega
  have hrec : (s.fn 0).fifo.length < 448 → (s.fn 0).coal = [] →
      s.evRec 0x0F te s.short s.frac p ∈ ((((s.clearSlot i).kvtStat 6).pevent 0x0F te p).fn 0).fifo := fun hroom hcoal => by
    have hfn : (s.clearSlot i).fn 0 = s.fn 0 := by rw [State.fn, hif_clearSlot, State.fn]
    have h := mem_pevent_counted (s.clearSlot i) 6 0x0F te p (by rw [hfn]; exact hroom) (by rw [hfn]; exact hcoal)
    simpa only [State.evRec, State.short, State.ns, State.frac, hprov, htime] using h
  generalize (s.clearSlot i).kvtStat 6 = w at hkvt hvalid hrec ⊢
  dsimp only
  split
  · exact ⟨(State.pevent_kvt _ _ _ _).trans hkvt, (State.pevent_on _ _ _ _ _).trans hvalid, hrec⟩
  · exact ⟨(State.event_kvt _ _ _ _ _).trans ((State.pevent_kvt _ _ _ _).trans hkvt),
      (State.event_on _ _ _ _ _ _).trans ((State.pevent_on _ _ _ _ _).trans hvalid),
      fun hroom hcoal => (Outlives.eventAt _ _ _ _ _ _ _).2 0 _ (hrec hroom hcoal)⟩

/-! ## TAMPER_FIRE (R316, R317) -/

theorem tamperFire_clears {sources sec : ℕ} {temp : Int} {off : Bool} (hf : s.firing sources temp off ≠ 0)
    (hslots : ∀ p ∈ s.kvt.slots, p.1 < 4096) : Does (.tamperFire sources temp sec off) s fun t =>
      t.provisioned = false ∧ t.kvt.root = 0 ∧ t.kvt.attest = 0 ∧ t.kvt.updKey = 0 ∧ t.kvt.imgKey = 0 ∧ t.kvt.epochs = [] ∧
      t.kvt.upd = none ∧ t.get F.KVT_UPD_CTR_UPD_CTR = 0 ∧ (∀ p ∈ s.kvt.slots, t.on (F.KVT_SLOT_VALID p.1) = false) ∧
      (∃ e, t.kvt.episode = some e ∧ (s.kvt.episode = none → e.sources = s.firing sources temp off)) := by
  obtain ⟨h, hvalid, hepisode⟩ := tamper_facts (s.vbatRead sec) temp off hf
  exact ⟨_, rfl, h.provisioned, h.root, h.attest, h.updKey, h.imgKey, h.epochs, h.upd, h.ctr,
    fun p hp => hvalid p.1 (hslots p hp) (List.mem_map_of_mem hp), hepisode⟩

/-! ## The tamper log (R319, R320) -/

theorem tlogEntry_new (e : Episode) : bitOf (State.tlogEntry e % 2 ^ 128) 122 = true := by
  have hflags : 5 + (if e.mainOff then 2 else 0) + (if e.prov then 8 else 0) < 16 ∧
      (5 + (if e.mainOff then 2 else 0) + (if e.prov then 8 else 0)) / 4 % 2 = 1 := by
    cases e.mainOff <;> cases e.prov <;> decide
  obtain ⟨hlt, hbit⟩ := hflags
  unfold State.tlogEntry
  generalize 5 + (if e.mainOff then 2 else 0) + (if e.prov then 8 else 0) = n at hlt hbit
  generalize ofSigned 8 e.temp = x
  refine decide_eq_true ?_
  simp only [pack]
  norm_num
  omega

section
variable (s)

theorem settleAlert_calm : s.settleAlert.calm = { s.calm with regs := s.settleAlert.regs } := by
  unfold State.settleAlert
  dsimp only
  split <;> rfl

theorem settleAlert_fn (n : ℕ) : s.settleAlert.fn n = s.fn n := by
  unfold State.settleAlert
  dsimp only
  split <;> rfl

theorem settleAlert_only : SameRegs (words [F.SYS_BOOT_ST_ALERT]) s s.settleAlert := by
  have h : ∀ b, SameRegs (words [F.SYS_BOOT_ST_ALERT]) s (s.setB F.SYS_BOOT_ST_ALERT b) := fun b =>
    SameRegs.set (SameRegs.refl _ s) _ (.of_mem (List.mem_singleton_self _))
  unfold State.settleAlert
  dsimp only
  split <;> exact h _

theorem settleLog_get {g : Fld} (hnew : Beside F.KVT_STAT_LOG_NEW g) (hal : Beside F.SYS_BOOT_ST_ALERT g) :
    s.settleLog.get g = s.get g := (settleAlert_get _ hal).trans (get_set_beside hnew s _)

theorem settleLog_new : s.settleLog.on F.KVT_STAT_LOG_NEW = (List.range 16).any (fun i => s.tlogNew i) := by
  rw [State.settleLog, State.on, settleAlert_get _ (by decide), ← State.on, on_setB s rfl]

theorem settleAlert_time : s.settleAlert.time = s.time := by
  have h := congrArg State.time (settleAlert_calm s)
  exact h

theorem settleLog_time : s.settleLog.time = s.time := by
  rw [State.settleLog, settleAlert_time, State.setB_time]

theorem settleLog_fn (n : ℕ) : s.settleLog.fn n = s.fn n := by
  rw [State.settleLog, settleAlert_fn, State.fn, State.setB_hif, State.fn]

theorem settleLog_kvt : s.settleLog.kvt = s.kvt := settleAlert_kvt _

end

theorem get_lt_sixteen (s : State) : s.get F.KVT_TLOG_ST_HEAD < 16 := State.get_lt s _

/-- The log with entry e at place i, before LOG_NEW follows. -/
def logWritten (s : State) (i : ℕ) (e : Episode) : State :=
  let s := if s.tlogNew i then s.addSat F.KVT_TLOG_ST_OVERWRITTEN 1 else s
  let s := s.set (F.KVT_TLOG_ENTRY i) (State.tlogEntry e)
  let s := (s.add F.KVT_TLOG_ST_HEAD 1).add F.KVT_TLOG_ST_TOTAL 1
  { s with kvt := { s.kvt with episode := none } }

/-- An overwritten entry is counted. -/
theorem overwritten_get (s : State) (i : ℕ) {g : Fld} (hg : Beside F.KVT_TLOG_ST_OVERWRITTEN g) :
    (if s.tlogNew i then s.addSat F.KVT_TLOG_ST_OVERWRITTEN 1 else s).get g = s.get g := by
  split
  · rw [State.addSat, get_set_beside hg]
  · rfl

theorem get_with_kvt (s : State) (k : KvtSt) (g : Fld) : ({ s with kvt := k } : State).get g = s.get g := rfl

theorem logWritten_get (s : State) (i : ℕ) (e : Episode) (hi : i < 16) :
    (logWritten s i e).get (F.KVT_TLOG_ENTRY i) = State.tlogEntry e % 2 ^ 128 ∧
    (logWritten s i e).get F.KVT_TLOG_ST_HEAD = (s.get F.KVT_TLOG_ST_HEAD + 1) % 2 ^ 4 ∧
    (logWritten s i e).get F.KVT_TLOG_ST_TOTAL = (s.get F.KVT_TLOG_ST_TOTAL + 1) % 2 ^ 16 ∧ (logWritten s i e).prov = s.prov := by
  have hget := fun g => overwritten_get s i (g := g)
  unfold logWritten
  dsimp only
  generalize (if s.tlogNew i then s.addSat F.KVT_TLOG_ST_OVERWRITTEN 1 else s) = u at hget ⊢
  have hbelow : ∀ g : Fld, g.a + 4 * Store.span g ≤ 0x900100 → (u.set (F.KVT_TLOG_ENTRY i) (State.tlogEntry e)).get g = u.get g :=
    fun g hg => get_set_beside (.inl (by dsimp only; omega)) u _
  have hsame : ∀ g, Beside F.KVT_TLOG_ST_TOTAL g → Beside F.KVT_TLOG_ST_HEAD g → (((u.set (F.KVT_TLOG_ENTRY i)
      (State.tlogEntry e)).add F.KVT_TLOG_ST_HEAD 1).add F.KVT_TLOG_ST_TOTAL 1).get g =
      (u.set (F.KVT_TLOG_ENTRY i) (State.tlogEntry e)).get g := fun g h1 h2 => by
    rw [State.add, get_set_beside h1, State.add, get_set_beside h2]
  have hself : (u.set (F.KVT_TLOG_ENTRY i) (State.tlogEntry e)).get (F.KVT_TLOG_ENTRY i) = State.tlogEntry e % 2 ^ 128 :=
    State.get_set_self u _ _
  generalize u.set (F.KVT_TLOG_ENTRY i) (State.tlogEntry e) = v at hbelow hsame hself
  refine ⟨?_, ?_, ?_, ?_⟩
  · refine (get_with_kvt _ _ _).trans ((hsame _ ?_ ?_).trans hself)
    · exact .inr (.inl (by dsimp only [Store.span]; omega))
    · exact .inr (.inl (by dsimp only [Store.span]; omega))
  · rw [get_with_kvt, State.add, get_set_beside (by decide), State.add, State.get_set_self, hbelow _ (by decide), hget _ (by decide)]
  · rw [get_with_kvt, State.add, State.get_set_self, State.add, get_set_beside (by decide), hbelow _ (by decide),
      hget _ (by decide)]
  · rw [State.prov, State.on, get_with_kvt, hsame _ (by decide) (by decide), hbelow _ (by decide), hget _ (by decide), State.prov,
      State.on]

theorem set_eq_with (s : State) (f : Fld) (v : ℕ) : ∃ x, s.set f v = { s with regs := x } := ⟨_, rfl⟩

theorem overwritten_eq (s : State) (i : ℕ) :
    ∃ x, (if s.tlogNew i then s.addSat F.KVT_TLOG_ST_OVERWRITTEN 1 else s) = { s with regs := x } := by
  split
  · exact set_eq_with s _ _
  · exact ⟨s.regs, rfl⟩

theorem logWritten_eq (s : State) (i : ℕ) (e : Episode) :
    ∃ x, logWritten s i e = { s with regs := x, kvt := { s.kvt with episode := none } } := by
  obtain ⟨x1, h1⟩ := overwritten_eq s i
  obtain ⟨x2, h2⟩ := set_eq_with { s with regs := x1 } (F.KVT_TLOG_ENTRY i) (State.tlogEntry e)
  obtain ⟨x3, h3⟩ := set_eq_with { s with regs := x2 } F.KVT_TLOG_ST_HEAD (({ s with regs := x2 } : State).get F.KVT_TLOG_ST_HEAD + 1)
  obtain ⟨x4, h4⟩ := set_eq_with { s with regs := x3 } F.KVT_TLOG_ST_TOTAL (({ s with regs := x3 } : State).get F.KVT_TLOG_ST_TOTAL + 1)
  refine ⟨x4, ?_⟩
  unfold logWritten
  dsimp only
  rw [h1, h2]
  unfold State.add
  rw [h3, h4]

/-- The record of the log's commit leaves where the main supply is there. -/
def logReported (main : Bool) (i : ℕ) (u : State) : State :=
  if main then (u.pevent 0x10 0 (u.tlogPay i)).trace 10 0 (u.tlogPay i) else u

theorem exec_tamperLogCommit {e : Episode} {main : Bool} {i : ℕ} (he : s.kvt.episode = some e)
    (hi : s.get F.KVT_TLOG_ST_HEAD = i) :
    exec (.tamperLogCommit main) s = .next (logReported main i (logWritten s i e).settleLog) := by
  change Host.Outcome.next (s.tlogCommit main) = _
  refine congrArg Host.Outcome.next ?_
  unfold State.tlogCommit logReported logWritten
  rw [he]
  dsimp only
  rw [hi]

/-- What the log's commit has settled of entry i, before its record leaves. -/
def LogSettled (s u : State) (e : Episode) (i : ℕ) : Prop :=
  u.get (F.KVT_TLOG_ENTRY i) = State.tlogEntry e % 2 ^ 128 ∧ u.get F.KVT_TLOG_ST_HEAD = (i + 1) % 16 ∧
    u.get F.KVT_TLOG_ST_TOTAL = (s.get F.KVT_TLOG_ST_TOTAL + 1) % 2 ^ 16 ∧ u.kvt = { s.kvt with episode := none } ∧
    u.on F.KVT_STAT_LOG_NEW = true

theorem logSettled_event {u : State} {e : Episode} {i : ℕ} (h : LogSettled s u e i) (p : ℕ) :
    LogSettled s ((u.pevent 0x10 0 p).trace 10 0 p) e i := by
  obtain ⟨hent, hnext, htotal, hkvt, hnew⟩ := h
  have hget : ∀ g, ((u.pevent 0x10 0 p).trace 10 0 p).get g = u.get g := fun g => by
    rw [State.trace_get, State.pevent_get]
  refine ⟨(hget _).trans hent, (hget _).trans hnext, (hget _).trans htotal, ?_, ?_⟩
  · rw [State.trace_kvt, State.pevent_kvt, hkvt]
  · rw [State.trace_on, State.pevent_on, hnew]

theorem logSettled_settleLog {e : Episode} {i : ℕ} (hi : i < 16) (hhead : s.get F.KVT_TLOG_ST_HEAD = i) :
    LogSettled s (logWritten s i e).settleLog e i := by
  obtain ⟨hent, hnext, htotal, -⟩ := logWritten_get s i e hi
  obtain ⟨x, hx⟩ := logWritten_eq s i e
  rw [hhead, show (2 : ℕ) ^ 4 = 16 from rfl] at hnext
  have hlog : ∀ g, Beside F.KVT_STAT_LOG_NEW g → Beside F.SYS_BOOT_ST_ALERT g → (logWritten s i e).settleLog.get g =
      (logWritten s i e).get g := fun g => settleLog_get _
  refine ⟨?_, ?_, ?_, ?_, ?_⟩
  · exact (hlog (F.KVT_TLOG_ENTRY i) (.inr (.inl (by dsimp only [Store.span]; omega)))
      (.inl (by dsimp only [Store.span]; omega))).trans hent
  · exact (hlog F.KVT_TLOG_ST_HEAD (by decide) (by decide)).trans hnext
  · exact (hlog F.KVT_TLOG_ST_TOTAL (by decide) (by decide)).trans htotal
  · rw [settleLog_kvt, hx]
  · rw [settleLog_new]
    refine List.any_eq_true.mpr ⟨i, List.mem_range.mpr hi, ?_⟩
    rw [State.tlogNew, hent]
    exact tlogEntry_new e

theorem settleLog_quiet {e : Episode} {i : ℕ} (hi : i < 16) :
    (logWritten s i e).settleLog.prov = s.prov ∧ (logWritten s i e).settleLog.time = s.time ∧
      (logWritten s i e).settleLog.fn 0 = s.fn 0 := by
  obtain ⟨-, -, -, hprov⟩ := logWritten_get s i e hi
  obtain ⟨x, hx⟩ := logWritten_eq s i e
  refine ⟨?_, ?_, ?_⟩
  · rw [← hprov, State.prov, State.on, settleLog_get _ (by decide) (by decide), State.prov, State.on]
  · rw [settleLog_time, hx]
  · rw [settleLog_fn, hx, State.fn, State.fn]

theorem reports_tlog {u : State} (hprov : u.prov = s.prov) (htime : u.time = s.time) (hfn : u.fn 0 = s.fn 0) (i : ℕ) :
    let t := (u.pevent 0x10 0 (u.tlogPay i)).trace 10 0 (u.tlogPay i)
    Reports s t 0 0x10 0 (t.tlogPay i) := by
  have hpay : ((u.pevent 0x10 0 (u.tlogPay i)).trace 10 0 (u.tlogPay i)).tlogPay i = u.tlogPay i := by
    rw [State.tlogPay, State.trace_get, State.pevent_get, State.tlogPay]
  intro t
  rw [show t.tlogPay i = u.tlogPay i from hpay]
  exact reports_pevent hprov htime hfn (Outlives.traceAt _ _ _ _ _ _)

theorem logReported_settles {u : State} {e : Episode} {main : Bool} {i : ℕ} (hset : LogSettled s u e i)
    (hprov : u.prov = s.prov) (htime : u.time = s.time) (hfn : u.fn 0 = s.fn 0) :
    LogSettled s (logReported main i u) e i ∧
      (main = true → Reports s (logReported main i u) 0 0x10 0 ((logReported main i u).tlogPay i)) := by
  cases main with
  | false => exact ⟨hset, fun h => absurd h (by decide)⟩
  | true => exact ⟨logSettled_event hset _, fun _ => reports_tlog hprov htime hfn i⟩

theorem tamperLogCommit_settles {e : Episode} {main : Bool} {i : ℕ} (he : s.kvt.episode = some e) (hi : i < 16)
    (hhead : s.get F.KVT_TLOG_ST_HEAD = i) :
    Does (.tamperLogCommit main) s fun t => LogSettled s t e i ∧ (main = true → Reports s t 0 0x10 0 (t.tlogPay i)) := by
  obtain ⟨hprov, htime, hfn⟩ := settleLog_quiet (s := s) (e := e) hi
  exact ⟨_, exec_tamperLogCommit he hhead, logReported_settles (logSettled_settleLog hi hhead) hprov htime hfn⟩

theorem tamperLogCommit_commits {e : Episode} {main : Bool} (he : s.kvt.episode = some e) :
    let i := s.get F.KVT_TLOG_ST_HEAD
    Does (.tamperLogCommit main) s fun t =>
      t.get (F.KVT_TLOG_ENTRY i) = State.tlogEntry e % 2 ^ 128 ∧ t.get F.KVT_TLOG_ST_HEAD = (i + 1) % 16 ∧
      t.get F.KVT_TLOG_ST_TOTAL = (s.get F.KVT_TLOG_ST_TOTAL + 1) % 2 ^ 16 ∧ t.kvt = { s.kvt with episode := none } ∧
      t.on F.KVT_STAT_LOG_NEW = true ∧ (main = true → Reports s t 0 0x10 0 (t.tlogPay i)) := by
  intro i
  obtain ⟨t, ht, ⟨hent, hnext, htotal, hkvt, hnew⟩, hrep⟩ :=
    tamperLogCommit_settles (main := main) he (i := i) (get_lt_sixteen s) rfl
  exact ⟨t, ht, hent, hnext, htotal, hkvt, hnew, hrep⟩

/-! ## The log acknowledged -/

/-- Entry i of the log acknowledged, where its bit of the mask is set. -/
def ackEntry (mask : ℕ) (s : State) (i : ℕ) : State :=
  if bitOf mask i && s.tlogNew i then s.set (F.KVT_TLOG_ENTRY i) (s.get (F.KVT_TLOG_ENTRY i) - 2 ^ 122) else s

/-- The first n entries of the log acknowledged. -/
def ackEntries (mask : ℕ) (s : State) (n : ℕ) : State := (List.range n).foldl (ackEntry mask) s

theorem bitOf_sub_two_pow {v : ℕ} (h : bitOf v 122 = true) : bitOf ((v - 2 ^ 122) % 2 ^ 128) 122 = false := by
  unfold bitOf at h ⊢
  have h := of_decide_eq_true h
  refine decide_eq_false ?_
  norm_num at h ⊢
  omega

theorem tlogEntry_beside {i j : ℕ} (h : i ≠ j) : Beside (F.KVT_TLOG_ENTRY i) (F.KVT_TLOG_ENTRY j) := by
  have hspan : ∀ k, Store.span (F.KVT_TLOG_ENTRY k) = 4 := fun _ => by
    simp [Store.span]
  have ha : ∀ k, (F.KVT_TLOG_ENTRY k).a = 0x900100 + 0x10 * k := fun _ => rfl
  rw [Beside, hspan, hspan, ha, ha]
  omega

theorem ackEntry_new (mask : ℕ) (s : State) (i j : ℕ) :
    (ackEntry mask s i).tlogNew j = (s.tlogNew j && !(decide (j = i) && bitOf mask i)) := by
  unfold ackEntry
  by_cases hack : (bitOf mask i && s.tlogNew i) = true
  · rw [if_pos hack]
    obtain ⟨hbit, hnew⟩ := Bool.and_eq_true_iff.mp hack
    by_cases hj : j = i
    · subst hj
      rw [State.tlogNew, State.get_set_self, bitOf_sub_two_pow hnew]
      simp [hbit]
    · rw [State.tlogNew, get_set_beside (tlogEntry_beside (Ne.symm hj)), ← State.tlogNew]
      simp [hj]
  · rw [if_neg hack]
    by_cases hj : j = i
    · subst hj
      revert hack
      cases bitOf mask j <;> simp
    · simp [hj]

theorem ackEntries_new (mask : ℕ) (s : State) (n j : ℕ) :
    (ackEntries mask s n).tlogNew j = (s.tlogNew j && !(decide (j < n) && bitOf mask j)) := by
  induction n with
  | zero => simp [ackEntries]
  | succ n ih =>
    rw [ackEntries, List.range_succ, List.foldl_append]
    change (ackEntry mask (ackEntries mask s n) n).tlogNew j = _
    rw [ackEntry_new, ih]
    by_cases hj : j = n
    · subst hj
      simp
    · simp [hj, show j < n + 1 ↔ j < n by omega]

theorem ackEntries_only (mask : ℕ) (s : State) (n : ℕ) :
    Only ((List.range n).map F.KVT_TLOG_ENTRY) id s (ackEntries mask s n) := by
  induction n with
  | zero => exact Only.refl _ s
  | succ n ih =>
    rw [ackEntries, List.range_succ, List.foldl_append]
    change Only _ id s (ackEntry mask (ackEntries mask s n) n)
    have ih' : Only ((List.range n ++ [n]).map F.KVT_TLOG_ENTRY) id s (ackEntries mask s n) :=
      Only.mono ih fun g hg => by simp only [List.map_append, List.mem_append, hg, true_or]
    unfold ackEntry
    split
    · exact Only.set ih' _ (.of_mem (List.mem_map_of_mem (by simp)))
    · exact ih'

theorem settleLog_only (s : State) : Only [F.KVT_STAT_LOG_NEW, F.SYS_BOOT_ST_ALERT] id s s.settleLog := by
  have hnew : SameRegs (words [F.KVT_STAT_LOG_NEW, F.SYS_BOOT_ST_ALERT]) s
      (s.setB F.KVT_STAT_LOG_NEW ((List.range 16).any fun i => s.tlogNew i)) :=
    SameRegs.set (SameRegs.refl _ s) _ (.of_mem (by simp))
  refine ⟨SameRegs.trans hnew (SameRegs.mono (settleAlert_only _) ?_), ?_⟩
  · exact fun k hk => mem_words_of_subset (fun g hg => List.mem_cons_of_mem _ hg) hk
  · rw [State.settleLog, settleAlert_calm]
    rfl

theorem tlogAck_acks {mask : ℕ} (hheld : s.pow.held = false) (hpost : s.postBusy 9 = false) :
    Does (.tlogAck mask) s fun t =>
      (∀ i, i < 16 → t.tlogNew i = (s.tlogNew i && !bitOf mask i)) ∧
      t.on F.KVT_STAT_LOG_NEW = (List.range 16).any (fun i => s.tlogNew i && !bitOf mask i) ∧
      Only ([F.KVT_STAT_LOG_NEW, F.SYS_BOOT_ST_ALERT] ++ (List.range 16).map F.KVT_TLOG_ENTRY) id s t := by
  have hexec : exec (.tlogAck mask) s = .next (ackEntries (mask % 2 ^ 16) s 16).settleLog := by
    refine congrArg Host.Outcome.next ?_
    rw [State.awake, if_neg (by simp [hheld]), if_neg (by simp [hpost])]
    rfl
  have hentries : ∀ i, i < 16 → (ackEntries (mask % 2 ^ 16) s 16).tlogNew i = (s.tlogNew i && !bitOf mask i) := fun i hi => by
    have hbit : bitOf (mask % 2 ^ 16) i = bitOf mask i := by
      rw [bitOf_eq_testBit, bitOf_eq_testBit, Nat.testBit_mod_two_pow]
      simp [hi]
    rw [ackEntries_new, hbit]
    simp [hi]
  have hkeep := ackEntries_only (mask % 2 ^ 16) s 16
  generalize ackEntries (mask % 2 ^ 16) s 16 = u at hexec hentries hkeep
  refine ⟨_, hexec, fun i hi => ?_, ?_, ?_⟩
  · rw [State.tlogNew, settleLog_get _ (.inr (.inl (by dsimp only [Store.span]; omega))) (.inl (by dsimp only [Store.span]; omega)),
      ← State.tlogNew, hentries i hi]
  · rw [settleLog_new]
    refine Bool.eq_iff_iff.mpr ?_
    simp only [List.any_eq_true, List.mem_range]
    exact exists_congr fun i => and_congr_right fun hi => by rw [hentries i hi]
  · exact Only.trans (Only.mono hkeep fun g hg => List.mem_append_right _ hg)
      (Only.mono (settleLog_only u) fun g hg => List.mem_append_left _ hg)

/-- Settles O34: the clauses in order, each by the equation of its command and what the vault's updates leave. -/
theorem keyCache : Obligations.KeyCache :=
  ⟨fun _ _ _ _ hc ho hk => kvtLoad_fills hc ho hk,
   fun _ _ _ _ _ hc ho hk => kvtLoad_refused hc ho hk,
   fun _ _ _ _ _ hc hv hq => kvtLoad_foreign hc hv hq,
   fun _ _ _ _ hc hq => kvtAttest_answers hc hq,
   fun _ _ _ hk hi hv hb hn hs => keyExpiry_empties hk hi hv hb hn hs,
   fun _ _ _ _ _ hf hs => tamperFire_clears hf hs,
   fun _ _ _ he => tamperLogCommit_commits he,
   fun _ _ hh hp => tlogAck_acks hh hp⟩

end Sys2Proof.Proofs
end

section
/-!
Sampling slots and the trace (R448 to R453): what a write to their configuration holds, and how a trace record passes from staging to
the ring and the pins while the counters count (`Fed`).
-/

open Sys2Proof Sys2Proof.Machine Sys2Proof.Claims

namespace Sys2Proof.Proofs

variable {s t u : State}

/-! ## A count, step by step -/

/-- A relation that every update of a count, and every chain of them, keeps. -/
structure Counting (R : State → State → Prop) : Prop where
  refl : ∀ s, R s s
  trans : ∀ {s t u}, R s t → R t u → R s u
  setSlot : ∀ s j x, R s (s.setSlot j x)
  bump : ∀ s i n, R s (s.bump i n)
  pushEv : ∀ s n r, R s (s.pushEv n r).1
  pushTrace : ∀ s ty src sh fr p, R s (s.pushTrace ty src sh fr p).1
  signalSample : ∀ s, R s s.signalSample

namespace Counting
variable {R : State → State → Prop} (hR : Counting R)
include hR

theorem slotStep {more : State → ℕ → State} (hm : ∀ s k, R s (more s k)) (i n : ℕ) (s : State) (j : ℕ) :
    R s (State.slotStep more i n s j) := by
  unfold State.slotStep
  extract_lets x per crossed x' recent p s1
  have hs1 : R s s1 := hR.setSlot _ _ _
  split
  swap
  · exact hR.refl s
  split
  · exact hR.setSlot _ _ _
  split
  · exact hR.trans (hR.setSlot _ _ _) (hm _ _)
  have hev := hR.pushEv s1 0 (s1.evRec 0x38 0 s1.short s1.frac p)
  generalize s1.pushEv 0 (s1.evRec 0x38 0 s1.short s1.frac p) = q at hev ⊢
  obtain ⟨u, co⟩ := q
  have htr := hR.pushTrace u 12 0 u.short u.frac p
  generalize hq : u.pushTrace 12 0 u.short u.frac p = q at htr
  obtain ⟨v, lost⟩ := q
  have hv : R s (more (more v.signalSample 0x605) 0x600) :=
    hR.trans (hR.trans (hR.trans hs1 (hR.trans hev htr)) (hR.signalSample v)) (hR.trans (hm _ _) (hm _ _))
  dsimp only
  rw [hq]
  cases lost <;> cases co
  · exact hv
  · exact hR.trans hv (hm _ _)
  · exact hR.trans hv (hm _ _)
  · exact hR.trans hv (hR.trans (hm _ _) (hm _ _))

theorem foldl {f : State → ℕ → State} (hf : ∀ u j, R u (f u j)) : ∀ (l : List ℕ) (u : State), R u (l.foldl f u)
  | [], u => hR.refl u
  | j :: l, u => hR.trans (hf u j) (foldl hf l _)

theorem countF : ∀ (k : ℕ) (s : State) (i n : ℕ), R s (State.countF k s i n)
  | 0, s, i, n => hR.bump s i n
  | k + 1, s, i, n => hR.trans (hR.bump s i n) (hR.foldl (fun u j => hR.slotStep (fun v m => countF k v m 1) i n u j) _ _)

theorem count (s : State) (i : ℕ) : R s (s.count i) := hR.countF 9 s i 1

end Counting

/-- Staging has at most gained records at its end, and ring, pins and the last loss report are as they were. -/
structure Fed (s t : State) : Prop where
  stage : ∃ more, t.obs.stage = s.obs.stage ++ more
  ring : t.obs.ring = s.obs.ring
  head : t.obs.head = s.obs.head
  pin : t.obs.pin = s.obs.pin
  pinLoss : t.obs.pinLoss = s.obs.pinLoss
  reportAt : t.obs.reportAt = s.obs.reportAt

namespace Fed

theorem refl (s : State) : Fed s s := ⟨⟨[], (List.append_nil _).symm⟩, rfl, rfl, rfl, rfl, rfl⟩

theorem trans (h : Fed s t) (k : Fed t u) : Fed s u := by
  obtain ⟨a, ha⟩ := h.stage
  obtain ⟨b, hb⟩ := k.stage
  exact ⟨⟨a ++ b, by rw [hb, ha, List.append_assoc]⟩, k.ring.trans h.ring, k.head.trans h.head, k.pin.trans h.pin,
    k.pinLoss.trans h.pinLoss, k.reportAt.trans h.reportAt⟩

theorem of_obs (h : t.obs = s.obs) : Fed s t := by
  exact ⟨⟨[], by rw [h, List.append_nil]⟩, by rw [h], by rw [h], by rw [h], by rw [h], by rw [h]⟩

theorem pushTrace (s : State) (ty src sh fr p : ℕ) : Fed s (s.pushTrace ty src sh fr p).1 := by
  have hsame : ∃ more, s.obs.stage = s.obs.stage ++ more := ⟨[], (List.append_nil _).symm⟩
  unfold State.pushTrace
  dsimp only
  split
  · exact ⟨hsame, rfl, rfl, rfl, rfl, rfl⟩
  split
  · exact ⟨⟨_, rfl⟩, rfl, rfl, rfl, rfl, rfl⟩
  · exact ⟨hsame, rfl, rfl, rfl, rfl, rfl⟩

theorem pushEv_obs (s : State) (n : ℕ) (r : EvRec) : (s.pushEv n r).1.obs = s.obs := by
  unfold State.pushEv
  extract_lets f0 f l
  split
  · rfl
  split <;> rfl

theorem signalSample (s : State) : Fed s s.signalSample := by
  unfold State.signalSample
  dsimp only
  split <;> exact ⟨⟨[], (List.append_nil _).symm⟩, rfl, rfl, rfl, rfl, rfl⟩

theorem counting : Counting Fed where
  refl := refl
  trans := trans
  setSlot _ _ _ := ⟨⟨[], (List.append_nil _).symm⟩, rfl, rfl, rfl, rfl, rfl⟩
  bump _ _ _ := ⟨⟨[], (List.append_nil _).symm⟩, rfl, rfl, rfl, rfl, rfl⟩
  pushEv s n r := of_obs (pushEv_obs s n r)
  pushTrace := pushTrace
  signalSample := signalSample

theorem count (s : State) (i : ℕ) : Fed s (s.count i) := counting.count s i

theorem pevent (s : State) (ty te p : ℕ) : Fed s (s.pevent ty te p) := by
  have hev : Fed s (s.event 0 ty te p) := by
    unfold State.event State.eventAt
    dsimp only
    have hpush := of_obs (pushEv_obs s 0 (s.evRec ty te s.short s.frac p))
    split
    · exact hpush.trans (count _ _)
    · exact hpush
  exact hev.trans (of_obs (obs_orderLast _))

end Fed

/-! ## Configuration -/

section Config
variable (hheld : s.pow.held = false)
include hheld

theorem awake_of (f : State → State) : s.awake f = f s := by rw [State.awake, if_neg (by simp [hheld])]

theorem obsSmpCfgWrite_count {j v : ℕ} (hj : j < 8) :
    Does (.obsSmpCfgWrite j 0 v) s fun t =>
      t.get (F.OBS_SMP_CFG_CNT j) = v % 2 ^ 11 ∧ t.on (F.OBS_SMP_CFG_EN j) = bitOf v 11 ∧
      (t.slot j).cnt = (if s.on (F.OBS_SMP_CFG_EN j) || bitOf v 11 then 0 else (s.slot j).cnt) ∧
      Only [F.OBS_SMP_CFG_CNT j] id s t := by
  have hbits : Beside (F.OBS_SMP_CFG_EN j) (F.OBS_SMP_CFG_CNT j) := .inr (.inr ⟨rfl, by simp [Store.span], .inl (le_refl _)⟩)
  have hexec : exec (.obsSmpCfgWrite j 0 v) s = .next (s.smpWrite j 0 v) := congrArg Host.Outcome.next (awake_of hheld _)
  have hcnt : ((s.set (F.OBS_SMP_CFG_CNT j) v).setB (F.OBS_SMP_CFG_EN j) (bitOf v 11)).get (F.OBS_SMP_CFG_CNT j) = v % 2 ^ 11 := by
    rw [State.setB, get_set_beside hbits, State.get_set_self]
  have hen : ((s.set (F.OBS_SMP_CFG_CNT j) v).setB (F.OBS_SMP_CFG_EN j) (bitOf v 11)).on (F.OBS_SMP_CFG_EN j) = bitOf v 11 :=
    on_setB _ rfl _
  have honly : Only [F.OBS_SMP_CFG_CNT j] id s ((s.set (F.OBS_SMP_CFG_CNT j) v).setB (F.OBS_SMP_CFG_EN j) (bitOf v 11)) :=
    Only.set (Only.set (Only.refl _ s) v (.of_mem (List.mem_singleton_self _))) _
      (.of_word (List.mem_singleton_self _) rfl (by simp [Store.span]))
  have hobs : ((s.set (F.OBS_SMP_CFG_CNT j) v).setB (F.OBS_SMP_CFG_EN j) (bitOf v 11)).slot j = s.slot j := rfl
  refine ⟨_, hexec, ?_⟩
  have hplace : ¬(decide (8 ≤ j) || decide (2 ≤ 0)) = true := by simp [hj]
  have hzero : ¬(decide (0 = 1) && decide (v % 2 ^ 32 = 0)) = true := by simp
  rw [State.smpWrite, if_neg hplace, if_neg hzero]
  dsimp only
  rw [if_pos rfl, hen]
  generalize (s.set (F.OBS_SMP_CFG_CNT j) v).setB (F.OBS_SMP_CFG_EN j) (bitOf v 11) = u at hcnt hen honly hobs ⊢
  split
  · refine ⟨hcnt, hen, ?_, Only.of_calm honly rfl⟩
    rw [slot_setSlot, if_pos rfl]
  · exact ⟨hcnt, hen, by rw [hobs], honly⟩

theorem obsSmpCfgWrite_every {j v : ℕ} (hj : j < 8) (hv : v % 2 ^ 32 ≠ 0) :
    Does (.obsSmpCfgWrite j 1 v) s fun t =>
      t.get (F.OBS_SMP_CFG_N j) = v % 2 ^ 32 ∧
      (t.slot j).cnt = (if s.on (F.OBS_SMP_CFG_EN j) then 0 else (s.slot j).cnt) ∧ Only [F.OBS_SMP_CFG_N j] id s t := by
  have hspan : Store.span (F.OBS_SMP_CFG_EN j) = 1 := by simp [Store.span]
  have happ : Beside (F.OBS_SMP_CFG_N j) (F.OBS_SMP_CFG_EN j) := .inl (by rw [hspan]; exact Nat.le_add_right_of_le (by dsimp only; omega))
  have hexec : exec (.obsSmpCfgWrite j 1 v) s = .next (s.smpWrite j 1 v) := congrArg Host.Outcome.next (awake_of hheld _)
  have hn : (s.set (F.OBS_SMP_CFG_N j) v).get (F.OBS_SMP_CFG_N j) = v % 2 ^ 32 := State.get_set_self s _ v
  have hen : (s.set (F.OBS_SMP_CFG_N j) v).on (F.OBS_SMP_CFG_EN j) = s.on (F.OBS_SMP_CFG_EN j) := on_set_beside happ s v
  have honly : Only [F.OBS_SMP_CFG_N j] id s (s.set (F.OBS_SMP_CFG_N j) v) :=
    Only.set (Only.refl _ s) v (.of_mem (List.mem_singleton_self _))
  have hobs : (s.set (F.OBS_SMP_CFG_N j) v).slot j = s.slot j := rfl
  refine ⟨_, hexec, ?_⟩
  have hplace : ¬(decide (8 ≤ j) || decide (2 ≤ 1)) = true := by simp [hj]
  have hzero : ¬(decide (1 = 1) && decide (v % 2 ^ 32 = 0)) = true := by rw [decide_eq_false hv]; decide
  rw [State.smpWrite, if_neg hplace, if_neg hzero]
  dsimp only
  rw [if_neg Nat.one_ne_zero, hen, Bool.or_self]
  generalize s.set (F.OBS_SMP_CFG_N j) v = u at hn honly hobs ⊢
  split
  · refine ⟨hn, ?_, Only.of_calm honly rfl⟩
    rw [slot_setSlot, if_pos rfl]
  · exact ⟨hn, by rw [hobs], honly⟩

/-- Word 0 of the trace configuration, as its fields hold it. -/
def trcFlags (s : State) (v : ℕ) : State :=
  ((s.setB F.OBS_TRC_CFG_DRAM_EN (bitOf v 0)).setB F.OBS_TRC_CFG_PIN_EN (bitOf v 1)).set F.OBS_TRC_CFG_LOG2 (bitsOf v 2 5)

omit hheld in
theorem trcFlags_fields (s : State) (v : ℕ) :
    (trcFlags s v).on F.OBS_TRC_CFG_DRAM_EN = bitOf v 0 ∧ (trcFlags s v).on F.OBS_TRC_CFG_PIN_EN = bitOf v 1 ∧
    (trcFlags s v).get F.OBS_TRC_CFG_LOG2 = bitsOf v 2 5 ∧
    Only [F.OBS_TRC_CFG_DRAM_EN, F.OBS_TRC_RDPTR_RDPTR] id s (trcFlags s v) := by
  have hword : ∀ g : Fld, g.a = F.OBS_TRC_CFG_DRAM_EN.a → Store.span g ≤ 1 →
      Within g [F.OBS_TRC_CFG_DRAM_EN, F.OBS_TRC_RDPTR_RDPTR] := fun g ha hs =>
    Within.of_word (List.mem_cons_self ..) ha hs
  unfold trcFlags
  refine ⟨?_, ?_, ?_, ?_⟩
  · rw [on_set_beside (by decide), State.setB, on_set_beside (by decide), on_setB _ rfl]
  · rw [on_set_beside (by decide), on_setB _ rfl]
  · rw [State.get_set_self]
    exact Nat.mod_eq_of_lt (Nat.mod_lt _ (by norm_num))
  · exact Only.set (Only.set (Only.set (Only.refl _ s) _ (hword F.OBS_TRC_CFG_DRAM_EN rfl (by decide))) _
      (hword F.OBS_TRC_CFG_PIN_EN rfl (by decide))) _ (hword F.OBS_TRC_CFG_LOG2 rfl (by decide))

theorem obsTrcCfgWrite_flags {v : ℕ} (hlo : 16 ≤ bitsOf v 2 5) (hhi : bitsOf v 2 5 ≤ 30)
    (hlog : s.on F.OBS_TRC_CFG_DRAM_EN = true → bitsOf v 2 5 = s.get F.OBS_TRC_CFG_LOG2) :
    Does (.obsTrcCfgWrite 0 v) s fun t =>
      t.on F.OBS_TRC_CFG_DRAM_EN = bitOf v 0 ∧ t.on F.OBS_TRC_CFG_PIN_EN = bitOf v 1 ∧ t.get F.OBS_TRC_CFG_LOG2 = bitsOf v 2 5 ∧
      (bitOf v 1 = false → t.obs.pin = []) ∧
      (bitOf v 0 = true → s.on F.OBS_TRC_CFG_DRAM_EN = false →
        t.obs.ring = [] ∧ t.obs.head = 0 ∧ t.get F.OBS_TRC_RDPTR_RDPTR = 0) ∧
      Only [F.OBS_TRC_CFG_DRAM_EN, F.OBS_TRC_RDPTR_RDPTR] id s t := by
  have hexec : exec (.obsTrcCfgWrite 0 v) s = .next (s.trcWrite 0 v) := congrArg Host.Outcome.next (awake_of hheld _)
  refine ⟨_, hexec, ?_⟩
  rw [State.trcWrite]
  dsimp only
  rw [if_neg (by simp; omega), if_neg (by simpa using hlog)]
  obtain ⟨hen, hpins, hlog2, honly⟩ := trcFlags_fields s v
  rw [trcFlags] at hen hpins hlog2 honly
  generalize ((s.setB F.OBS_TRC_CFG_DRAM_EN (bitOf v 0)).setB F.OBS_TRC_CFG_PIN_EN (bitOf v 1)).set F.OBS_TRC_CFG_LOG2 (bitsOf v 2 5) = u
    at hen hpins hlog2 honly ⊢
  have hpin : ∃ o, (if bitOf v 1 then u else { u with obs := { u.obs with pin := [], pinLoss := none } }) = { u with obs := o } ∧
      (bitOf v 1 = false → o.pin = []) := by
    cases bitOf v 1
    · exact ⟨_, rfl, fun _ => rfl⟩
    · exact ⟨u.obs, rfl, fun h => absurd h (by decide)⟩
  obtain ⟨o, ho, hempty⟩ := hpin
  rw [ho]
  split
  · refine ⟨?_, ?_, ?_, hempty, fun _ _ => ⟨rfl, rfl, State.get_set_self _ _ 0⟩, ?_⟩
    · exact (on_set_beside (by decide) _ _).trans hen
    · exact (on_set_beside (by decide) _ _).trans hpins
    · exact (get_set_beside (by decide) _ _).trans hlog2
    · exact Only.set (Only.of_calm honly rfl) 0 (.of_mem (by simp))
  · next hoff => exact ⟨hen, hpins, hlog2, hempty, fun h0 h1 => absurd (by simp [h0, h1]) hoff, Only.of_calm honly rfl⟩

theorem obsTrcCfgWrite_types {v : ℕ} :
    Does (.obsTrcCfgWrite 1 v) s fun t => t.get F.OBS_TRC_CFG_TYPES = v % 2 ^ 32 ∧ Only [F.OBS_TRC_CFG_TYPES] id s t :=
  ⟨_, congrArg Host.Outcome.next (awake_of hheld _), State.get_set_self s _ v,
    Only.set (Only.refl _ s) v (.of_mem (List.mem_singleton_self _))⟩

theorem obsTrcCfgWrite_base {v : ℕ} (hoff : s.on F.OBS_TRC_CFG_DRAM_EN = false) :
    (Does (.obsTrcCfgWrite 2 v) s fun t =>
      t.get F.OBS_TRC_BASE_BASE % 2 ^ 32 = v % 2 ^ 32 ∧ t.get F.OBS_TRC_BASE_BASE / 2 ^ 32 = s.get F.OBS_TRC_BASE_BASE / 2 ^ 32 ∧
      Only [F.OBS_TRC_BASE_BASE] id s t) ∧
    (Does (.obsTrcCfgWrite 3 v) s fun t =>
      t.get F.OBS_TRC_BASE_BASE / 2 ^ 32 = v % 2 ^ 32 ∧ t.get F.OBS_TRC_BASE_BASE % 2 ^ 32 = s.get F.OBS_TRC_BASE_BASE % 2 ^ 32 ∧
      Only [F.OBS_TRC_BASE_BASE] id s t) := by
  have hbase : s.get F.OBS_TRC_BASE_BASE < 2 ^ 64 := State.get_lt s _
  have honly : ∀ x, Only [F.OBS_TRC_BASE_BASE] id s (s.set F.OBS_TRC_BASE_BASE x) := fun x =>
    Only.set (Only.refl _ s) x (.of_mem (List.mem_singleton_self _))
  have hget : ∀ x, (s.set F.OBS_TRC_BASE_BASE x).get F.OBS_TRC_BASE_BASE = x % 2 ^ 64 := fun x => State.get_set_self s _ x
  have hlow : exec (.obsTrcCfgWrite 2 v) s =
      .next (s.set F.OBS_TRC_BASE_BASE (s.get F.OBS_TRC_BASE_BASE / 2 ^ 32 * 2 ^ 32 + v % 2 ^ 32)) := by
    refine congrArg Host.Outcome.next ((awake_of hheld _).trans ?_)
    rw [State.trcWrite]
    dsimp only
    rw [if_neg (by simp [hoff])]
  have hhigh : exec (.obsTrcCfgWrite 3 v) s =
      .next (s.set F.OBS_TRC_BASE_BASE (s.get F.OBS_TRC_BASE_BASE % 2 ^ 32 + v % 2 ^ 32 * 2 ^ 32)) := by
    refine congrArg Host.Outcome.next ((awake_of hheld _).trans ?_)
    rw [State.trcWrite]
    dsimp only
    rw [if_neg (by simp [hoff])]
  refine ⟨⟨_, hlow, ?_, ?_, honly _⟩, ⟨_, hhigh, ?_, ?_, honly _⟩⟩
  all_goals
    rw [hget]
    omega

end Config

/-! ## Movement -/

theorem trcPasses_of {s t : State} (h : ∀ f, t.get f = s.get f) (r : TrcRec) : t.trcPasses r = s.trcPasses r := by
  rw [State.trcPasses, h, State.trcPasses]

/-- A record that passes TYPES goes to the ring, where it is enabled, and only the counters and what they record look at it. -/
theorem toRing_spec (s : State) {r : TrcRec} (hpass : s.trcPasses r = true) :
    (∃ more, (s.toRing r).obs.stage = s.obs.stage ++ more) ∧
    (s.on F.OBS_TRC_CFG_DRAM_EN = true →
      (s.toRing r).obs.ring = ((s.obs.head, r) :: s.obs.ring).take s.ringRoom ∧ (s.toRing r).obs.head = s.obs.head + 1) ∧
    (s.toRing r).obs.pin = s.obs.pin ∧ (s.toRing r).obs.pinLoss = s.obs.pinLoss ∧ (s.toRing r).calm = s.calm := by
  unfold State.toRing
  split
  · have hfed := Fed.count { s with obs := { s.obs with
      ring := ((s.obs.head, r) :: s.obs.ring).take s.ringRoom, head := s.obs.head + 1 } } 0x601
    exact ⟨hfed.stage, fun _ => ⟨hfed.ring, hfed.head⟩, hfed.pin, hfed.pinLoss, State.count_calm _ _⟩
  · next hoff => exact ⟨⟨[], (List.append_nil _).symm⟩, fun hen => absurd (by simp [hen, hpass]) hoff, rfl, rfl, rfl⟩

/-- A record goes to the pins, where they are enabled and have room, and the ring is left. -/
theorem toPins_spec (s : State) {r : TrcRec} (hpass : s.trcPasses r = true) :
    (∃ more, (s.toPins r).obs.stage = s.obs.stage ++ more) ∧
    (s.toPins r).obs.ring = s.obs.ring ∧ (s.toPins r).obs.head = s.obs.head ∧
    (s.on F.OBS_TRC_CFG_PIN_EN = true → s.obs.pinLoss = none → s.obs.pin.length < 4096 → (s.toPins r).obs.pin = s.obs.pin ++ [r]) ∧
    (s.toPins r).calm = s.calm := by
  have hsame : ∃ more, s.obs.stage = s.obs.stage ++ more := ⟨[], (List.append_nil _).symm⟩
  unfold State.toPins
  dsimp only
  split
  swap
  · next hoff => exact ⟨hsame, rfl, rfl, fun hen => absurd (by simp [hen, hpass]) hoff, rfl⟩
  split
  · next q n hloss =>
    have hfed := Fed.count { s with obs := { s.obs with pinLoss := some (q, n + 1), pinLost := (s.obs.pinLost + 1) % 2 ^ 32 } } 0x604
    exact ⟨hfed.stage, hfed.ring, hfed.head, fun _ hnone => absurd (hloss.symm.trans hnone) (by simp), State.count_calm _ _⟩
  split
  · exact ⟨hsame, rfl, rfl, fun _ _ _ => rfl, rfl⟩
  · next hfull =>
    have hfed := Fed.count { s with obs := { s.obs with pinLoss := some (r.tseq, 1), pinLost := (s.obs.pinLost + 1) % 2 ^ 32 } } 0x604
    exact ⟨hfed.stage, hfed.ring, hfed.head, fun _ _ hlen => absurd hlen hfull, State.count_calm _ _⟩

theorem traceDramWrite_moves {r : TrcRec} {l : List TrcRec} (hst : s.obs.stage = r :: l) (hpass : s.trcPasses r = true) :
    Does .traceDramWrite s fun t =>
      (∃ more, t.obs.stage = l ++ more) ∧
      (s.on F.OBS_TRC_CFG_DRAM_EN = true →
        t.obs.ring = ((s.obs.head, r) :: s.obs.ring).take s.ringRoom ∧ t.obs.head = s.obs.head + 1) ∧
      (s.on F.OBS_TRC_CFG_PIN_EN = true → s.obs.pinLoss = none → s.obs.pin.length < 4096 → t.obs.pin = s.obs.pin ++ [r]) ∧
      Only [] id s t := by
  have hexec : exec .traceDramWrite s = .next (({ s with obs := { s.obs with stage := l } }.toRing r).toPins r) := by
    change execTraceDramWrite s = _
    unfold execTraceDramWrite
    rw [hst]
  obtain ⟨⟨a, ha⟩, hring, hpin, hloss, hcalm⟩ := toRing_spec { s with obs := { s.obs with stage := l } } (r := r) hpass
  generalize ({ s with obs := { s.obs with stage := l } } : State).toRing r = u at hexec ha hring hpin hloss hcalm
  have hregs : u.regs = s.regs := regs_of_calm hcalm
  have hget : ∀ f, u.get f = s.get f := fun f => get_of_regs hregs f
  obtain ⟨⟨b, hb⟩, hring', hhead', hpin', hcalm'⟩ := toPins_spec u (r := r) ((trcPasses_of hget r).trans hpass)
  refine ⟨_, hexec, ⟨a ++ b, ?_⟩, fun hen => ?_, fun hen hnone hlen => ?_, ?_⟩
  · rw [hb, ha, List.append_assoc]
  · obtain ⟨h1, h2⟩ := hring hen
    exact ⟨hring'.trans h1, hhead'.trans h2⟩
  · rw [hpin' (by rw [State.on, hget, ← State.on, hen]) (hloss.trans hnone) (by rw [hpin]; exact hlen), hpin]
  · exact Only.of_calm (Only.refl _ s) (hcalm'.trans hcalm)

theorem tracePinSend_sends {r : TrcRec} {l : List TrcRec} (hpin : s.obs.pin = r :: l) (hen : s.on F.OBS_TRC_CFG_PIN_EN = true) :
    Does .tracePinSend s fun t => t.obs.pin = l ∧ Sends t (.tracePin (State.pinFrame r)) ∧ Only [] id s t := by
  have hexec : exec .tracePinSend s =
      .next (({ s with obs := { s.obs with pin := l } }.emitOut (.tracePin (State.pinFrame r))).count 0x602) := by
    change execTracePinSend s = _
    unfold execTracePinSend
    rw [hpin]
    dsimp only
    rw [if_pos hen]
  refine ⟨_, hexec, (Fed.count _ _).pin, (Outlives.count _ _).1 _ (List.mem_cons_self ..), ?_⟩
  exact Only.of_calm (Only.refl _ s) (State.count_calm _ _)

theorem traceGapEnter_pins {q n : ℕ} (hloss : s.obs.pinLoss = some (q, n)) (hroom : s.obs.pin.length ≤ 4080) :
    Does (.traceGapEnter true) s fun t =>
      t = { s with obs := { s.obs with pin := s.obs.pin ++ [s.gapRec q n 1], pinLoss := none } } := by
  refine ⟨_, rfl, ?_⟩
  dsimp only
  rw [if_pos rfl, hloss]
  dsimp only
  rw [if_pos hroom]

theorem traceGapEnter_staging {q n : ℕ} (hloss : s.obs.stageLoss = some (q, n)) (hroom : s.obs.stage.length ≤ 1008) :
    Does (.traceGapEnter false) s fun t =>
      t = { s with obs := { s.obs with stage := s.obs.stage ++ [s.gapRec q n 0], stageLoss := none } } := by
  refine ⟨_, rfl, ?_⟩
  dsimp only
  rw [if_neg (by decide), hloss]
  dsimp only
  rw [if_pos hroom]

theorem traceLossReport_reports (hlost : s.obs.unreported ≠ 0) (hfirst : s.obs.reportAt = none) :
    Does .traceLossReport s fun t =>
      t.obs.reportAt = some s.ns ∧ Reports s t 0 0x39 0 (pay [(20, 4, satN 32 s.obs.unreported)]) ∧ Only [] id s t := by
  have hexec : exec .traceLossReport s =
      .next ({ s with obs := { s.obs with unreported := 0, reportAt := some s.ns } }.pevent 0x39 0
        (pay [(20, 4, satN 32 s.obs.unreported)])) := by
    change execTraceLossReport s = _
    unfold execTraceLossReport
    rw [if_neg hlost, hfirst]
  refine ⟨_, hexec, (Fed.pevent _ _ _ _).reportAt, ?_, ?_⟩
  · exact reports_pevent (u := { s with obs := { s.obs with unreported := 0, reportAt := some s.ns } }) rfl rfl rfl (Outlives.refl _)
  · exact Only.of_calm (Only.refl _ s) (State.pevent_calm _ _ _ _)

/-- Settles O12: the configuration's clauses by what each word holds, the movement's by what passes while the counters count. -/
theorem observation : Obligations.Observation :=
  ⟨⟨fun _ _ _ hh hj => obsSmpCfgWrite_count hh hj,
    fun _ _ _ hh hj hv => obsSmpCfgWrite_every hh hj hv,
    fun _ _ hh hlo hhi hlog => obsTrcCfgWrite_flags hh hlo hhi hlog,
    fun _ _ hh => obsTrcCfgWrite_types hh,
    fun _ _ hh hoff => obsTrcCfgWrite_base hh hoff⟩,
   ⟨fun _ _ _ hst hp => traceDramWrite_moves hst hp,
    fun _ _ _ hp he => tracePinSend_sends hp he,
    fun _ _ _ hl hr => traceGapEnter_pins hl hr,
    fun _ _ _ hl hr => traceGapEnter_staging hl hr,
    fun _ hu hr => traceLossReport_reports hu hr⟩⟩

end Sys2Proof.Proofs
end

section
/-!
Reads of the provider's registers (R17, R65, R360 to R362, R445, R452): the access that R366 judges, cut to reads of one word, and
what each read with an effect leaves.
-/

open Sys2Proof Sys2Proof.Machine Sys2Proof.Claims

namespace Sys2Proof.Proofs

variable {s : State}

/-! ## Places -/

theorem provPlace_engDm : ∀ e < 17, ∃ d ∈ regsOf ((F.ENG_DM_DATA_DATA e).a / 0x100000),
    provPlace (F.ENG_DM_DATA_DATA e).a = .reg d e 0 0 (F.ENG_DM_DATA_DATA e).a ∧
    d.id = .ENG_DM_DATA ∧ d.words[0]? = some (.ro 0) ∧ d.wide = false ∧ aliasOf (F.ENG_DM_DATA_DATA e).a = 0 ∧
    (F.ENG_DM_DATA_DATA e).a % 4 = 0 := by
  decide +kernel

/-- The row of the table that holds the device counters (R443). -/
def counterRow : RegDesc := ⟨.OBS_CNT, 0xD04000, 0, 2048, 0x8, 1, 0x0, true, [.ro 0x0, .ro 0x0]⟩

theorem findIn_append (a : ℕ) (r : List RegDesc) :
    ∀ {l : List RegDesc}, (∀ d ∈ l, d.locate a = none) → findIn a (l ++ r) = findIn a r
  | [], _ => rfl
  | d :: l, h => by
    have htail := findIn_append a r (l := l) fun x hx => h x (List.mem_cons_of_mem _ hx)
    rw [List.cons_append, findIn, h d (List.mem_cons_self ..)]
    exact htail

theorem findReg_counter {k : ℕ} (hk : k < 2048) : findReg (F.OBS_CNT_COUNT k).a = some (counterRow, k, 0, 0) := by
  have hwin : (F.OBS_CNT_COUNT k).a / 0x100000 = 13 := by dsimp only; omega
  rw [findReg, hwin]
  have hlow : ∀ d ∈ regs13.take 9, d.locate (F.OBS_CNT_COUNT k).a = none := by
    intro d hd
    unfold RegDesc.locate
    fin_cases hd <;> simp <;> omega
  have hrow : counterRow.locate (F.OBS_CNT_COUNT k).a = some (k, 0, 0) := by
    have hplace : (F.OBS_CNT_COUNT k).a - 0xD04000 = 8 * k := by dsimp only; omega
    unfold RegDesc.locate counterRow
    dsimp only
    rw [hplace]
    simp
    omega
  have hsplit : regsOf 13 = regs13.take 9 ++ counterRow :: regs13.drop 10 := rfl
  rw [hsplit, findIn_append _ _ hlow, findIn, hrow]

theorem provPlace_counter {k : ℕ} (hk : k < 2048) :
    provPlace (F.OBS_CNT_COUNT k).a = .reg counterRow k 0 0 (F.OBS_CNT_COUNT k).a := by
  have ha : (F.OBS_CNT_COUNT k).a / 0x100000 * 0x100000 + (F.OBS_CNT_COUNT k).a % 0x40000 = (F.OBS_CNT_COUNT k).a := by
    dsimp only; omega
  have hw : (F.OBS_CNT_COUNT k).a / 4 * 4 = (F.OBS_CNT_COUNT k).a := by dsimp only; omega
  unfold provPlace
  dsimp only at ha hw ⊢
  rw [ha, if_neg (by omega), if_neg (by omega), if_neg (by omega), findReg_counter hk]
  simp [counterRow, hw]

/-- The row of the table that holds the nanoseconds of the snapshot (R65). -/
theorem provPlace_snapNs : ∃ d ∈ regsOf 4, provPlace 0x400400 = .reg d 0 0 0 0x400400 ∧ d.id = .TSK_SNAP_NS ∧ d.wide = false := by
  decide +kernel

theorem fnExists_zero (s : State) : s.fnExists 0 = true := by
  unfold State.fnExists
  split <;> rfl

/-! ## Reads of one word -/

section Word
variable {off i j w a : ℕ} {d : RegDesc} (hplace : provPlace off = .reg d i j w a)
  (hside : sideOf d w ≠ 0 → aliasOf off = 0 ∧ absentReg s.part d i = false ∧ d.wide = false)
include hplace hside

theorem readPart_word : s.readPart 0 off 4 =
    ((s.readWord 0 (.reg d i j w a)).1, State.rowOf (sideOf d w), (s.readWord 0 (.reg d i j w a)).2) := by
  have hpl : s.placeOf 0 off = .reg d i j w a := by rw [State.placeOf, if_pos rfl, hplace]
  unfold State.readPart
  rw [hpl]
  dsimp only
  by_cases h : sideOf d w = 0
  · simp only [h, ite_self]
    simp
  · obtain ⟨hal, hpresent, hnarrow⟩ := hside h
    simp [h, hal, hpresent, hnarrow]

omit hside in
theorem readJudge_word (halign : off % 4 = 0) : s.readJudge 0 off 4 true [] = s.readPart 0 off 4 := by
  have hinert : s.inert 0 = false := rfl
  have haligned : State.aligned off 4 true = true := by simp [State.aligned, halign, show Nat.log2 4 = 2 from rfl]
  have hpl : s.placeOf 0 off = .reg d i j w a := by rw [State.placeOf, if_pos rfl, hplace]
  unfold State.readJudge
  rw [hinert, hpl]
  simp only [haligned]
  simp

theorem readAs_word (row : State.ReadRow) (hheld : s.pow.held = false) (halign : off % 4 = 0) (hrow : State.rowOf (sideOf d w) = row) :
    s.readAs row 0 off 4 true [] = (s.readWord 0 (.reg d i j w a)).2.emitOut
      (.readData 0 off 32 (s.readWord 0 (.reg d i j w a)).1) := by
  unfold State.readAs
  rw [hheld, fnExists_zero, readJudge_word hplace halign, readPart_word hplace hside, hrow]
  simp

end Word

theorem regRead_answers {off i j w a : ℕ} {d : RegDesc} (hheld : s.pow.held = false) (halign : off % 4 = 0)
    (hplace : provPlace off = .reg d i j w a) (hside : sideOf d w = 0) :
    Does (.regRead 0 off 4 true) s fun t => t = s.emitOut (.readData 0 off 32 (s.wordAt 0 d i j w a)) := by
  have hword : s.readWord 0 (.reg d i j w a) = (s.wordAt 0 d i j w a, s) := by
    unfold State.readWord
    dsimp only
    split
    · next habsent => rw [State.wordAt, State.wordView, if_pos habsent]
    · rw [hside]
      rfl
  have hread := readAs_word hplace (fun h => absurd hside h) .plain hheld halign (by rw [hside]; rfl)
  rw [hword] at hread
  exact ⟨_, congrArg Host.Outcome.next hread, rfl⟩

theorem rcRead_clears {off i j w a : ℕ} {d : RegDesc} {x : WordDesc} (hheld : s.pow.held = false) (halign : off % 4 = 0)
    (hal : aliasOf off = 0) (hplace : provPlace off = .reg d i j w a) (hside : sideOf d w = 1) (hwide : d.wide = false)
    (hx : d.words[w]? = some x) (hpresent : absentReg s.part d i = false) (hshown : State.hiddenEng d i = false)
    (hid : d.id ≠ .SYS_PD_FAULT) (hper : perFn a = false) :
    Does (.rcRead 0 off 4) s fun t =>
      Sends t (.readData 0 off 32 (s.wordAt 0 d i j w a)) ∧
      (t.regs.word a).toNat = Nat.land (s.regs.word a).toNat (2 ^ 32 - 1 - x.rc) ∧ Only [⟨a, 0, 32⟩] id s t := by
  have hword : s.readWord 0 (.reg d i j w a) = (s.wordAt 0 d i j w a, s.clearRc 0 d w a) := by
    unfold State.readWord
    simp only [hpresent, hshown, hside]
    rfl
  have hread := readAs_word (s := s) hplace (fun _ => ⟨hal, hpresent, hwide⟩) .rc hheld halign (by rw [hside]; rfl)
  rw [hword] at hread
  have hclear : s.clearRc 0 d w a = 
      { s with regs := s.regs.put a (BitVec.ofNat 32 (Nat.land (s.regs.word a).toNat (2 ^ 32 - 1 - x.rc))) } := by
    have hkey : fnKey 0 a = a := by rw [fnKey, hper, if_neg (by simp)]
    unfold State.clearRc
    rw [hkey, hx]
    dsimp only
    rw [if_neg hid]
  rw [hclear] at hread
  refine ⟨_, congrArg Host.Outcome.next hread, List.mem_cons_self .., ?_, fun k hk => ?_, rfl⟩
  · refine (congrArg BitVec.toNat (Store.word_put_self _ _ _)).trans ((BitVec.toNat_ofNat ..).trans (Nat.mod_eq_of_lt ?_))
    exact Nat.and_le_left.trans_lt (BitVec.isLt _)
  · have hne : k ≠ a := fun h => hk (h ▸ mem_words.mpr ⟨_, List.mem_singleton_self _, 0, by simp [Store.span], rfl⟩)
    exact Store.word_put_ne _ _ hne

theorem engDmRead_answers {e : ℕ} (hheld : s.pow.held = false) (he : e < 17) (hpresent : s.engPresent e = true) :
    Does (.engDmRead e) s fun t =>
      Sends t (.readData 0 (F.ENG_DM_DATA_DATA e).a 32 (Mem.read (s.engine e).dm (4 * s.get (F.ENG_DM_ADDR_WORD e)) 4)) ∧
      t.get (F.ENG_DM_ADDR_WORD e) = (s.get (F.ENG_DM_ADDR_WORD e) + 1) % 2 ^ 12 ∧ Only [F.ENG_DM_ADDR_WORD e] id s t := by
  obtain ⟨d, -, hplace, hid, hx, hwide, hal, halign⟩ := provPlace_engDm e he
  have hside : sideOf d 0 = 4 := by simp [sideOf, hid]
  have hhere : absentReg s.part d e = false := by
    unfold absentReg
    rw [hid]
    unfold State.engPresent at hpresent
    revert hpresent
    cases s.part.small <;> simp
    omega
  have hshown : State.hiddenEng d e = false := by
    unfold State.hiddenEng
    simp
    omega
  have hval : s.wordAt 0 d e 0 0 (F.ENG_DM_DATA_DATA e).a = Mem.read (s.engine e).dm (4 * s.get (F.ENG_DM_ADDR_WORD e)) 4 := by
    unfold State.wordAt State.wordView
    simp only [hhere, hshown, hid, hx]
    simp [State.shown, WordDesc.ro]
  have hword : s.readWord 0 (.reg d e 0 0 (F.ENG_DM_DATA_DATA e).a) =
      (Mem.read (s.engine e).dm (4 * s.get (F.ENG_DM_ADDR_WORD e)) 4, s.set (F.ENG_DM_ADDR_WORD e) (s.get (F.ENG_DM_ADDR_WORD e) + 1)) := by
    unfold State.readWord
    simp only [hhere, hshown, hside, State.placeVal, hval]
    rfl
  have hread := readAs_word (s := s) hplace (fun _ => ⟨hal, hhere, hwide⟩) .dm hheld halign (by rw [hside]; rfl)
  rw [hword] at hread
  refine ⟨_, congrArg Host.Outcome.next hread, List.mem_cons_self .., State.get_set_self s _ _, ?_⟩
  exact Only.of_calm (Only.set (Only.refl _ s) _ (.of_mem (List.mem_singleton_self _))) (emitOut_calm _ _)

/-! ## Reads of a 64-bit register -/

theorem counterRead_answers {k : ℕ} (hheld : s.pow.held = false) (hk : k < 2048) :
    Does (.counterRead 0 (F.OBS_CNT_COUNT k).a) s fun t =>
      Sends t (.readData 0 (F.OBS_CNT_COUNT k).a 64 (s.counter k % 2 ^ 64)) ∧ t.get (F.OBS_LAST_T_SHORT.on 0) = s.short ∧
      Only [F.OBS_LAST_T_SHORT.on 0] id s t := by
  have hplace := provPlace_counter hk
  have hpl : s.placeOf 0 (F.OBS_CNT_COUNT k).a = .reg counterRow k 0 0 (F.OBS_CNT_COUNT k).a := by
    rw [State.placeOf, if_pos rfl, hplace]
  have halign : (F.OBS_CNT_COUNT k).a % 8 = 0 := by dsimp only; omega
  have hal : aliasOf (F.OBS_CNT_COUNT k).a = 0 := by unfold aliasOf; dsimp only; omega
  have hhere : absentReg s.part counterRow k = false := by simp [absentReg, counterRow]
  have hshown : State.hiddenEng counterRow k = false := by simp [State.hiddenEng, counterRow]
  generalize (F.OBS_CNT_COUNT k).a = a at hpl halign hal ⊢
  have hhalf : ∀ w b, w < 2 → s.wordAt 0 counterRow k 0 w b = State.half (s.counter k) w := fun w b hw => by
    unfold State.wordAt State.wordView
    simp only [hhere, hshown]
    interval_cases w <;> simp [counterRow, State.shown, WordDesc.ro]
  have hwide : s.readWide 0 counterRow k 0 a = (s.counter k % 2 ^ 64, s.set (F.OBS_LAST_T_SHORT.on 0) s.short) := by
    have hval : s.wordAt 0 counterRow k 0 0 a + 2 ^ 32 * s.wordAt 0 counterRow k 0 1 (a + 4) = s.counter k % 2 ^ 64 := by
      rw [hhalf 0 _ (by norm_num), hhalf 1 _ (by norm_num), State.half, State.half]
      norm_num
      omega
    unfold State.readWide
    rw [hhere, hval]
    simp [counterRow]
  have hpart : s.readPart 0 a 8 = (s.counter k % 2 ^ 64, .counter, s.set (F.OBS_LAST_T_SHORT.on 0) s.short) := by
    unfold State.readPart
    rw [hpl]
    dsimp only
    rw [hhere, hwide]
    simp [sideOf, counterRow, WordDesc.ro]
  have hread : s.readAs .counter 0 a 8 true [] = (s.set (F.OBS_LAST_T_SHORT.on 0) s.short).emitOut
      (.readData 0 a 64 (s.counter k % 2 ^ 64)) := by
    have hinert : s.inert 0 = false := rfl
    have haligned : State.aligned a 8 true = true := by simp [State.aligned, halign, show Nat.log2 8 = 3 from rfl]
    unfold State.readAs State.readJudge
    rw [hheld, fnExists_zero, hinert, hpl, hpart, haligned]
    simp [counterRow]
  refine ⟨_, congrArg Host.Outcome.next hread, List.mem_cons_self .., ?_, ?_⟩
  · rw [State.emitOut_get, State.get_set_self]
    exact Nat.mod_eq_of_lt (Nat.mod_lt _ (by norm_num))
  · exact Only.of_calm (Only.set (Only.refl _ s) _ (.of_mem (List.mem_singleton_self _))) (emitOut_calm _ _)

/-! ## The trace window -/

/-- The kernel would compute the place in the ring if the recursion were unfolded at `trcPop`: one read stands for it. -/
theorem trcPopN_one_of {f : ℕ → State → ℕ → List (ℕ × DramErr) → ℕ × State}
    {pop : State → Option DramErr → ℕ × State} (hf : f = State.trcPopN) (hpop : pop = State.trcPop) (s : State) :
    f 1 s 0 [] = pop s none := by
  delta State.trcPopN State.trcPopN._f at hf
  rw [← hpop] at hf
  subst hf
  have hone : ∀ p : ℕ × State, (p.1 + 2 ^ 256 * 0, p.2) = p := fun p => by rw [Nat.mul_zero, Nat.add_zero]
  exact hone (pop s none)

theorem trcPopN_one (s : State) : State.trcPopN 1 s 0 [] = s.trcPop none := trcPopN_one_of rfl rfl s

theorem traceWindow_place {a : ℕ} (hlo : 0xD10000 ≤ a) (hhi : a < 0xD11000) : provPlace a = .window true 0 := by
  have hbase : a / 0x100000 * 0x100000 + a % 0x40000 = a := by omega
  unfold provPlace
  dsimp only
  rw [hbase, if_neg (by omega), if_neg (by omega), if_pos ⟨hlo, hhi⟩]

theorem traceWindow_alias {a : ℕ} (hlo : 0xD10000 ≤ a) (hhi : a < 0xD11000) : aliasOf a = 0 := by
  rw [aliasOf]
  omega

theorem windowErr_record {a : ℕ} (halign : a % 32 = 0) : State.windowErr true a 32 true = none := by
  unfold State.windowErr
  simp [halign]

theorem trcPop_kept {behind : ℕ} {p : ℕ × TrcRec}
    (hbehind : behind = (s.obs.head + 2 ^ 32 - s.get F.OBS_TRC_RDPTR_RDPTR) % 2 ^ 32) (hone : 1 ≤ behind)
    (hkept : behind ≤ s.obs.ring.length) (hrec : s.obs.ring[behind - 1]? = some p) :
    s.trcPop none = (State.packTrc p.2, s.add F.OBS_TRC_RDPTR_RDPTR 1) := by
  have hrd : s.get F.OBS_TRC_RDPTR_RDPTR % 2 ^ 32 = s.get F.OBS_TRC_RDPTR_RDPTR := get_mod s _
  have hobs : (s.add F.OBS_TRC_RDPTR_RDPTR 1).obs = s.obs := rfl
  unfold State.trcPop
  dsimp only
  rw [hrd, ← hbehind, if_neg (by omega), if_neg (by omega)]
  unfold State.dramRead
  dsimp only
  rw [hobs, hrec]

/-- The parts that the kernel would compute are replaced by variables first. -/
theorem readJudge_traceWindow {a v : ℕ} {t : State} (hplace : s.placeOf 0 a = .window true 0) (hal : aliasOf a = 0)
    (halign : a % 32 = 0) (hpop : s.trcPop none = (v, t)) : s.readJudge 0 a 32 true [] = (v, .trace, t) := by
  have herr := windowErr_record halign
  have hinert : s.inert 0 = false := rfl
  have hpops := (trcPopN_one s).trans hpop
  unfold State.readJudge
  generalize State.trcPopN = pops at hpops ⊢
  generalize State.ticPopN = ticPops
  generalize State.windowErr = err at herr ⊢
  have hself : ∀ b : Bool, ¬(decide (0 ≠ 0) && b) = true := by decide
  rw [if_neg (hself _), hinert, if_neg (by decide), if_neg (hself _), hal, hplace]
  refine (if_neg (not_not.mpr rfl)).trans ?_
  rw [herr]
  refine (if_pos rfl).trans ?_
  rw [show 32 / 32 = 1 from rfl, hpops]

theorem traceWinRead_answers {off behind : ℕ} {p : ℕ × TrcRec} (hheld : s.pow.held = false) (halign : off % 32 = 0)
    (hbehind : behind = (s.obs.head + 2 ^ 32 - s.get F.OBS_TRC_RDPTR_RDPTR) % 2 ^ 32) (hone : 1 ≤ behind)
    (hkept : behind ≤ s.obs.ring.length) (hrec : s.obs.ring[behind - 1]? = some p) :
    Does (.traceWinRead off 32 []) s fun t =>
      Sends t (.readData 0 (0xD10000 + off % 0x1000) 256 (State.packTrc p.2)) ∧
      t.get F.OBS_TRC_RDPTR_RDPTR = (s.get F.OBS_TRC_RDPTR_RDPTR + 1) % 2 ^ 32 ∧ Only [F.OBS_TRC_RDPTR_RDPTR] id s t := by
  have hpop := trcPop_kept hbehind hone hkept hrec
  have hread : s.readAs .trace 0 (0xD10000 + off % 0x1000) 32 true [] =
      (s.add F.OBS_TRC_RDPTR_RDPTR 1).emitOut (.readData 0 (0xD10000 + off % 0x1000) 256 (State.packTrc p.2)) := by
    have hlo : 0xD10000 ≤ 0xD10000 + off % 0x1000 := Nat.le_add_right _ _
    have hhi : 0xD10000 + off % 0x1000 < 0xD11000 := by omega
    have hrecord : (0xD10000 + off % 0x1000) % 32 = 0 := by omega
    generalize 0xD10000 + off % 0x1000 = a at hlo hhi hrecord ⊢
    have hpl : s.placeOf 0 a = .window true 0 := by rw [State.placeOf, if_pos rfl, traceWindow_place hlo hhi]
    unfold State.readAs
    rw [hheld, fnExists_zero, readJudge_traceWindow hpl (traceWindow_alias hlo hhi) hrecord hpop]
    simp
  refine ⟨_, congrArg Host.Outcome.next hread, List.mem_cons_self .., ?_, ?_⟩
  · exact State.get_set_self s _ _
  · exact Only.of_calm (Only.set (Only.refl _ s) _ (.of_mem (List.mem_singleton_self _))) (emitOut_calm _ _)

/-! ## The snapshot -/

/-- Fields of a list have been set, and nothing else. -/
structure Sets (fs : List Fld) (s t : State) : Prop where
  get : ∀ g, (∀ f ∈ fs, Beside f g) → t.get g = s.get g
  time : t.time = s.time
  fns : t.hif = s.hif

namespace Sets
variable {fs : List Fld} {t : State}

theorem refl (s : State) : Sets [] s s := ⟨fun _ _ => rfl, rfl, rfl⟩

theorem set (h : Sets fs s t) (f : Fld) (v : ℕ) : Sets (f :: fs) s (t.set f v) :=
  ⟨fun g hg => (get_set_beside (hg f (List.mem_cons_self ..)) t v).trans (h.get g fun f' hf' => hg f' (List.mem_cons_of_mem _ hf')),
    h.time, h.fns⟩

theorem setB (h : Sets fs s t) (f : Fld) (b : Bool) : Sets (f :: fs) s (t.setB f b) := h.set f _

theorem frac (h : Sets fs s t) : t.frac = s.frac := by rw [State.frac, h.time, State.frac]

end Sets

/-- A function's own state is no field. -/
theorem get_setFn (s : State) (n : ℕ) (f : FnSt) (g : Fld) : (s.setFn n f).get g = s.get g := by
  rw [State.get, State.setFn, State.get]

theorem snapshot_latches (s : State) :
    (s.snapshot 0).get (F.TSK_SNAP_NS_NS.on 0) = s.ns % 1000000000 % 2 ^ 30 ∧
    (s.snapshot 0).get (F.TSK_SNAP_SEC_LO_SEC_LO.on 0) = s.ns / 1000000000 % 2 ^ 32 ∧
    (s.snapshot 0).get (F.TSK_SNAP_SEC_HI_SEC_HI.on 0) = s.ns / 1000000000 / 2 ^ 32 % 2 ^ 16 ∧
    (s.snapshot 0).get (F.TSK_SNAP_SEC_HI_FRAC.on 0) = s.frac % 2 ^ 16 ∧
    (s.snapshot 0).get (F.TSK_SNAP_TEB_HI_SRC_TAG.on 0) = s.get F.TSK_TEB_SRC_TAG % 2 ^ 16 ∧
    (s.snapshot 0).on (F.TSK_SNAP_CAL_TIME_PROVISIONAL.on 0) = s.prov ∧
    ((s.snapshot 0).fn 0).snapped = true ∧ (s.snapshot 0).time = s.time := by
  unfold State.snapshot
  extract_lets t q ns sec teb st tsec cs c s1 s2 s3 s4 s5 s6 s7 s8 s9 s10 s11 s12 s13 s14
  have h1 : Sets _ s s1 := ((Sets.refl s).set _ _).set _ _
  have h2 : Sets _ s s2 := (h1.set _ _).set _ _
  have h3 : Sets _ s s3 := (h2.set _ _).set _ _
  have h4 : Sets _ s s4 := h3.set _ _
  have l4 : Sets _ s2 s4 := (((Sets.refl s2).set _ _).set _ _).set _ _
  have l5 : Sets _ s4 s5 := (Sets.refl s4).set _ _
  have l6 : Sets _ s4 s6 := (l5.set _ _).set _ _
  have l7 : Sets _ s4 s7 := (l6.set _ _).setB _ _
  have l8 : Sets _ s4 s8 := l7.setB _ _
  have l9 : Sets _ s4 s9 := (l8.set _ _).set _ _
  have l10 : Sets _ s4 s10 := (l9.set _ _).set _ _
  have l11 : Sets _ s4 s11 := (l10.set _ _).set _ _
  have l12 : Sets _ s4 s12 := (l11.set _ _).set _ _
  have l13 : Sets _ s4 s13 := (l12.setB _ _).setB _ _
  have l14 : Sets _ s4 s14 := l13.setB _ _
  have hns : s1.get (F.TSK_SNAP_NS_NS.on 0) = s.ns % 1000000000 % 2 ^ 30 :=
    (get_set_beside (by decide) _ _).trans (State.get_set_self _ _ _)
  have hlo : s1.get (F.TSK_SNAP_SEC_LO_SEC_LO.on 0) = s.ns / 1000000000 % 2 ^ 32 := State.get_set_self _ _ _
  have hhi : s2.get (F.TSK_SNAP_SEC_HI_SEC_HI.on 0) = s.ns / 1000000000 / 2 ^ 32 % 2 ^ 16 :=
    (get_set_beside (by decide) _ _).trans (State.get_set_self _ _ _)
  have hfrac : s2.get (F.TSK_SNAP_SEC_HI_FRAC.on 0) = s.frac % 2 ^ 16 :=
    (State.get_set_self _ _ _).trans (congrArg (· % 2 ^ 16) h1.frac)
  have htag : s4.get (F.TSK_SNAP_TEB_HI_SRC_TAG.on 0) = s.get F.TSK_TEB_SRC_TAG % 2 ^ 16 :=
    (State.get_set_self _ _ _).trans (congrArg (· % 2 ^ 16) (h3.get _ (by decide)))
  have hprov : s13.on (F.TSK_SNAP_CAL_TIME_PROVISIONAL.on 0) = s12.prov := on_setB _ rfl _
  have hprov' : s12.prov = s.prov := by
    rw [State.prov, State.on, l12.get _ (by decide), h4.get _ (by decide), State.prov, State.on]
  have hmid : Sets _ s1 s2 := ((Sets.refl s1).set _ _).set _ _
  have hlast : Sets _ s13 s14 := (Sets.refl s13).setB _ _
  clear_value s14
  refine ⟨?_, ?_, ?_, ?_, ?_, ?_, ?_, ?_⟩
  · rw [get_setFn, l14.get _ (by decide), l4.get _ (by decide), hmid.get _ (by decide), hns]
  · rw [get_setFn, l14.get _ (by decide), l4.get _ (by decide), hmid.get _ (by decide), hlo]
  · rw [get_setFn, l14.get _ (by decide), l4.get _ (by decide), hhi]
  · rw [get_setFn, l14.get _ (by decide), l4.get _ (by decide), hfrac]
  · rw [get_setFn, l14.get _ (by decide), htag]
  · rw [State.on, get_setFn, hlast.get _ (by decide), ← State.on, hprov, hprov']
  · rw [State.fn_setFn, if_pos rfl]
  · exact (State.setFn_time _ _ _).trans (l14.time.trans h4.time)

theorem snapshotLatch_latches (hheld : s.pow.held = false) :
    Does (.snapshotLatch 0 4) s fun t =>
      t.get (F.TSK_SNAP_NS_NS.on 0) = s.ns % 1000000000 ∧
      t.get (F.TSK_SNAP_SEC_LO_SEC_LO.on 0) = s.ns / 1000000000 % 2 ^ 32 ∧
      t.get (F.TSK_SNAP_SEC_HI_SEC_HI.on 0) = s.ns / 1000000000 / 2 ^ 32 % 2 ^ 16 ∧ t.get (F.TSK_SNAP_SEC_HI_FRAC.on 0) = s.frac ∧
      t.get (F.TSK_SNAP_TEB_HI_SRC_TAG.on 0) = s.get F.TSK_TEB_SRC_TAG ∧
      t.on (F.TSK_SNAP_CAL_TIME_PROVISIONAL.on 0) = s.prov ∧ (t.fn 0).snapped = true ∧ t.time = s.time := by
  obtain ⟨d, -, hplace, hid, hwide⟩ := provPlace_snapNs
  have hside : sideOf d 0 = 2 := by simp [sideOf, hid]
  have hhere : absentReg s.part d 0 = false := by simp [absentReg, hid]
  have hshown : State.hiddenEng d 0 = false := by simp [State.hiddenEng]
  have hread := readAs_word (s := s) hplace (fun _ => ⟨by decide, hhere, hwide⟩) .snap hheld rfl (by rw [hside]; rfl)
  have hword : (s.readWord 0 (.reg d 0 0 0 0x400400)).2 = s.snapshot 0 := by
    unfold State.readWord
    generalize State.snapshot = snap
    simp only [hhere, hshown, hside]
    rfl
  rw [hword] at hread
  refine ⟨_, congrArg Host.Outcome.next hread, ?_⟩
  obtain ⟨hns, hlo, hhi, hfrac, htag, hprov, hsnap, htime⟩ := snapshot_latches s
  generalize s.snapshot 0 = u at hns hlo hhi hfrac htag hprov hsnap htime ⊢
  generalize Out.readData 0 0x400400 32 _ = o
  have hget : ∀ f, (u.emitOut o).get f = u.get f := State.emitOut_get u o
  have hns' : s.ns % 1000000000 % 2 ^ 30 = s.ns % 1000000000 :=
    Nat.mod_eq_of_lt ((Nat.mod_lt _ (by norm_num)).trans (by norm_num))
  have hfrac' : s.frac % 2 ^ 16 = s.frac := Nat.mod_eq_of_lt (Nat.mod_lt _ (by norm_num))
  refine ⟨?_, (hget _).trans hlo, (hget _).trans hhi, ?_, ?_, ?_, ?_, (State.emitOut_time u o).trans htime⟩
  · rw [hget, hns, hns']
  · rw [hget, hfrac, hfrac']
  · rw [hget, htag]
    exact get_mod s F.TSK_TEB_SRC_TAG
  · rw [State.emitOut_on, hprov]
  · rw [fn_emitOut, hsnap]

/-- Settles O19: the clauses in order, each by what its read answers and leaves. -/
theorem registerReads : Obligations.RegisterReads :=
  ⟨fun _ _ _ _ _ _ _ hh hal hp hs => regRead_answers hh hal hp hs,
   fun _ _ _ _ _ _ _ _ hh ha hal hp hs hw hx hab hhid hid hper => rcRead_clears hh ha hal hp hs hw hx hab hhid hid hper,
   fun _ _ hh he hp => engDmRead_answers hh he hp,
   fun _ _ hh hk => counterRead_answers hh hk,
   fun _ _ _ _ hh ha hb h1 hk hr => traceWinRead_answers hh ha hb h1 hk hr,
   fun _ hh => snapshotLatch_latches hh⟩

end Sys2Proof.Proofs
end

section
/-!
Assay at a boundary and between (R133, R138 to R146): the end of a reference's timer, the first measurement of a reference without a
prediction, a held measurement, a repeated LOSS, and a windowed source that leaves FAULT.
-/

open Sys2Proof Sys2Proof.Machine Sys2Proof.Claims

namespace Sys2Proof.Proofs

variable {s : State} {r : ℕ}

/-! ## Timers -/

theorem drainInbox_nil (h : s.asy.inbox = []) : s.drainInbox = s := by
  unfold State.drainInbox
  have hnil : ∀ p : Meas → Bool, List.partition p [] = ([], []) := fun _ => rfl
  rw [h]
  simp only [hnil, List.foldl_nil]
  rw [← h]

/-- What a change of state leaves of a reference that does not become a CANDIDATE. -/
theorem refShift_moved (s : State) (r : ℕ) {new : ℕ} (timer : ℕ) (hnew : new < 8) (hcand : new ≠ 1) :
    (s.refShift r new timer).refState r = new ∧ (s.refShift r new timer).ref r = { s.ref r with timer := timer } ∧
    (s.refShift r new timer).get (F.ASY_REF_ST_TIMER r) = satN 30 timer ∧ (s.refShift r new timer).time = s.time ∧
    SameRegs (words [F.ASY_REF_ST_STATE r, F.ASY_REF_ST_TIMER r]) s (s.refShift r new timer) := by
  have hspan : ∀ k, Store.span (F.ASY_REF_ST_STATE k) = 1 := fun _ => by simp [Store.span]
  have happ : Beside (F.ASY_REF_ST_TIMER r) (F.ASY_REF_ST_STATE r) :=
    .inl (by rw [hspan]; exact Nat.le_add_right_of_le (by dsimp only; omega))
  unfold State.refShift
  dsimp only
  rw [if_neg hcand]
  refine ⟨?_, ?_, ?_, rfl, ?_⟩
  · rw [State.refState, State.setTimer, get_set_beside happ]
    exact (State.get_set_self _ _ _).trans (Nat.mod_eq_of_lt hnew)
  · change (State.setRef _ r _).ref r = _
    rw [ref_setRef, if_pos rfl]
    rfl
  · rw [State.setTimer, State.get_set_self]
    exact Nat.mod_eq_of_lt (satN_lt _ _)
  · have hfirst : SameRegs (words [F.ASY_REF_ST_STATE r, F.ASY_REF_ST_TIMER r]) s (s.set (F.ASY_REF_ST_STATE r) new) :=
      SameRegs.set (SameRegs.refl _ s) new (.of_mem (by simp))
    exact SameRegs.set (SameRegs.of_regs hfirst rfl) (satN 30 timer) (.of_mem (by simp))

theorem refShift_backoff (s : State) (r : ℕ) {new : ℕ} (timer : ℕ) (hcand : new ≠ 1) :
    (s.refShift r new timer).get (F.ASY_REF_ST_BACKOFF r) = s.get (F.ASY_REF_ST_BACKOFF r) := by
  have hstate : Beside (F.ASY_REF_ST_STATE r) (F.ASY_REF_ST_BACKOFF r) :=
    .inr (.inr ⟨rfl, by simp [Store.span], .inr (by norm_num)⟩)
  have htimer : Beside (F.ASY_REF_ST_TIMER r) (F.ASY_REF_ST_BACKOFF r) := by
    have hspan : Store.span (F.ASY_REF_ST_BACKOFF r) = 1 := by simp [Store.span]
    exact .inl (by rw [hspan]; exact Nat.le_add_right_of_le (by dsimp only; omega))
  unfold State.refShift
  dsimp only
  rw [if_neg hcand, State.setTimer, get_set_beside htimer]
  exact get_set_beside hstate s new

/-- The reference that a timer's end moves, at the boundary; f is what the transition adds. -/
def timedOut (s : State) (r st new : ℕ) (f : State → State) : State :=
  (f (s.runTo s.time.tickAt)).setRef r { (f (s.runTo s.time.tickAt)).ref r with fresh := true, due := some (st, new) }

theorem timerEnd_eq {st new timer : ℕ} {ok : State → Bool} {f : State → State} (h : TimerEnds s r st)
    (hlast : st = 4 ∨ s.lasting r s.time.tickNo = none) (hok : ok s = true) :
    s.timerEnd r st new timer ok f = (timedOut s r st new f).refShift r new timer := by
  obtain ⟨hrun, -, hst, htimer, hfresh, hquiet, hloss, hinbox⟩ := h
  have hruns : s.timerRuns r st = true := by
    unfold State.timerRuns
    rcases hlast with rfl | hl <;> simp [*]
  unfold State.timerEnd timedOut
  dsimp only
  rw [if_pos (by simp [hrun, hst, htimer]), drainInbox_nil hinbox, if_pos (by simp [hruns, hok])]

/-- A reference's timer ends where it may. -/
theorem timerEnd_moves {st new timer : ℕ} {ok : State → Bool} {f : State → State} (h : TimerEnds s r st)
    (hlast : st = 4 ∨ s.lasting r s.time.tickNo = none) (hok : ok s = true) (hnew : new < 8) (hcand : new ≠ 1)
    (hf : ∀ u, SameRegs (words [F.ASY_REF_ST_STATE r, F.ASY_REF_ST_TIMER r]) u (f u) ∧ (f u).time = u.time) :
    RefMoved s (s.timerEnd r st new timer ok f) r new timer := by
  rw [timerEnd_eq h hlast hok]
  obtain ⟨-, -, hst, -⟩ := h
  obtain ⟨hregs, htime⟩ := hf (s.runTo s.time.tickAt)
  have hwtime : (timedOut s r st new f).time = (s.runTo s.time.tickAt).time := htime
  have hwref : ((timedOut s r st new f).ref r).fresh = true ∧ ((timedOut s r st new f).ref r).due = some (st, new) := by
    rw [timedOut, ref_setRef, if_pos rfl]
    exact ⟨rfl, rfl⟩
  have hwregs : SameRegs (words [F.ASY_REF_ST_STATE r, F.ASY_REF_ST_TIMER r]) s (timedOut s r st new f) :=
    SameRegs.of_regs (SameRegs.trans (SameRegs.of_eq (regs_runTo s _)) hregs) rfl
  generalize timedOut s r st new f = w at hwtime hwref hwregs ⊢
  obtain ⟨hstate, href, htim, ht, hsame⟩ := refShift_moved w r timer hnew hcand
  refine ⟨hstate, ?_, htim, ?_, ?_, ht.trans hwtime, SameRegs.trans hwregs hsame⟩
  · rw [href]
  · rw [href, hwref.1]
  · rw [href, hwref.2, hst]

theorem entryTimerEnd_moves (h : TimerEnds s r 1) (hl : s.lasting r s.time.tickNo = none) (ha : (s.ref r).accepted = true)
    (hp : s.absentAt r s.time.tickAt = false) :
    Does (.entryTimerEnd r) s fun t => RefMoved s t r 2 (s.get F.ASY_DISC_CFG_WIN * 1000) :=
  ⟨_, rfl, timerEnd_moves h (.inr hl) (by rw [ha, hp]; rfl) (by norm_num) (by norm_num) fun u => ⟨SameRegs.of_eq rfl, rfl⟩⟩

theorem holdoffEnd_moves (h : TimerEnds s r 4) :
    Does (.holdoffEnd r) s fun t => RefMoved s t r 2 (s.get F.ASY_DISC_CFG_WIN * 1000) :=
  ⟨_, rfl, timerEnd_moves h (.inl rfl) rfl (by norm_num) (by norm_num) fun u => ⟨SameRegs.of_eq rfl, rfl⟩⟩

/-- The back-off of a reference that has served its probation is cleared. -/
def cleared (r : ℕ) (u : State) : State := u.set (F.ASY_REF_ST_BACKOFF r) 0

theorem cleared_only (r : ℕ) (u : State) :
    SameRegs (words [F.ASY_REF_ST_STATE r, F.ASY_REF_ST_TIMER r]) u (cleared r u) ∧ (cleared r u).time = u.time := by
  have hword : Within (F.ASY_REF_ST_BACKOFF r) [F.ASY_REF_ST_STATE r, F.ASY_REF_ST_TIMER r] :=
    .of_word (List.mem_cons_self ..) rfl (by simp [Store.span])
  exact ⟨SameRegs.set (SameRegs.refl _ u) 0 hword, State.set_time u _ 0⟩

theorem cleared_backoff (r : ℕ) (u : State) : (cleared r u).get (F.ASY_REF_ST_BACKOFF r) = 0 := State.get_set_self u _ 0

theorem timedOut_backoff (s : State) (r st new : ℕ) : (timedOut s r st new (cleared r)).get (F.ASY_REF_ST_BACKOFF r) = 0 := by
  rw [timedOut, State.setRef_get, cleared_backoff]

theorem probationEnd_moves (h : TimerEnds s r 2) (hl : s.lasting r s.time.tickNo = none) :
    Does (.probationEnd r) s fun t => RefMoved s t r 3 0 ∧ t.get (F.ASY_REF_ST_BACKOFF r) = 0 := by
  have hexec : exec (.probationEnd r) s = .next (s.timerEnd r 2 3 0 (fun _ => true) (cleared r)) := rfl
  refine ⟨_, hexec, timerEnd_moves h (.inr hl) rfl (by norm_num) (by norm_num) (cleared_only r), ?_⟩
  rw [timerEnd_eq h (.inr hl) rfl, refShift_backoff _ r 0 (by norm_num), timedOut_backoff]

/-! ## Anomalies -/

/-- Counter of class c of reference r. -/
theorem notSelfCounted {c : ℕ} (hr : r < 36) (hc : c < 8) : 0x1C0 + 8 * r + c ∉ selfCounted := by
  simp [selfCounted]
  omega

theorem restarted_ref (s : State) (r : ℕ) :
    ∃ tm ac, (restarted s r).ref r = { s.ref r with timer := tm, accepted := ac } := by
  have htimer : ∀ n, (s.setTimer r n).ref r = { s.ref r with timer := n } := fun n => by
    change (s.setRef r _).ref r = _
    rw [ref_setRef, if_pos rfl]
  unfold restarted
  split
  · exact ⟨_, false, by rw [ref_setRef, if_pos rfl, htimer]⟩
  · exact ⟨_, (s.ref r).accepted, htimer _⟩
  · exact ⟨(s.ref r).timer, (s.ref r).accepted, rfl⟩

/-- An anomaly, with the measurement that gave it: what is held and when the next LOSS is due stay. -/
theorem anomalyBy_facts {c : ℕ} (tick : ℕ) (m : Option (ℤ × ℕ)) (hr : r < 36) (hc : c < 8) (hst : s.refState r ≠ 0) :
    ((s.anomalyBy r c tick m).ref r).held = (s.ref r).held ∧ ((s.anomalyBy r c tick m).ref r).nextLoss = (s.ref r).nextLoss ∧
    (c, tick) ∈ ((s.anomalyBy r c tick m).ref r).log ∧ (s.anomalyBy r c tick m).time = s.time ∧
    Counts s (s.anomalyBy r c tick m) (0x1C0 + 8 * r + c) 1 := by
  have hself := notSelfCounted hr hc
  unfold State.anomalyBy
  rw [if_neg hst]
  extract_lets x u v w
  change ((restarted w r).ref r).held = _ ∧ ((restarted w r).ref r).nextLoss = _ ∧ _ ∈ ((restarted w r).ref r).log ∧
    (restarted w r).time = _ ∧ Counts s (restarted w r) _ 1
  have hvasy : v.asy = u.asy := State.count_asy u _
  have hw : ∃ d, w.ref r = { x with log := State.trimLog c 15 ((c, tick) :: x.log), dec := d } := by
    change ∃ d, v.ref r = _
    rw [State.ref, hvasy, ← State.ref, ref_setRef, if_pos rfl]
    exact ⟨_, rfl⟩
  have htime : w.time = s.time := State.count_time u _
  have hcount : Counts s w (0x1C0 + 8 * r + c) 1 := counter_count_self u hself
  clear_value w
  obtain ⟨d, hw⟩ := hw
  obtain ⟨tm, ac, href⟩ := restarted_ref w r
  obtain ⟨-, hcalm, -, -, hobs, -, -⟩ := restarted_facts w r
  have ht : (restarted w r).time = w.time := by
    have h := congrArg State.time hcalm
    exact h
  rw [href, hw]
  refine ⟨rfl, rfl, ?_, ht.trans htime, ?_⟩
  · exact trimLog_head c 14 tick x.log
  · rw [Counts, counter_of_obs hobs]
    exact hcount

theorem heldMeasurementTimeout_outlier {e : ℤ} {tick at_ : ℕ} {off : ℤ} {b : ℕ}
    (hheld : (s.ref r).held = some (e, tick, at_, off, b))
    (hrun : s.time.running = true) (hr : r < 36) (hst : s.refState r ≠ 0) :
    Does (.heldMeasurementTimeout r) s fun t =>
      (t.ref r).held = none ∧ (3, tick) ∈ (t.ref r).log ∧ t.time = (s.runTo (at_ + 2000000000)).time ∧
      Counts s t (0x1C0 + 8 * r + 3) 1 := by
  obtain ⟨τ, hτ, -⟩ := runTo_spec s (at_ + 2000000000)
  have hexec : exec (.heldMeasurementTimeout r) s = .next
      (((s.runTo (at_ + 2000000000)).setRef r { (s.runTo (at_ + 2000000000)).ref r with held := none }).anomalyBy r 3 tick
        (some (e, b))) := by
    refine congrArg Host.Outcome.next ?_
    rw [hheld]
    dsimp only
    rw [if_pos hrun]
  rw [hτ] at hexec ⊢
  refine ⟨_, hexec, ?_⟩
  have hst' : (({ s with time := τ } : State).setRef r { ({ s with time := τ } : State).ref r with held := none }).refState r ≠ 0 := hst
  obtain ⟨hh, -, hlog, htime, hcount⟩ := anomalyBy_facts tick (some (e, b)) hr (show 3 < 8 by norm_num) hst'
  refine ⟨hh.trans ?_, hlog, htime, hcount⟩
  rw [ref_setRef, if_pos rfl]

theorem lossRepeat_counts (hrun : s.time.running = true) (hr : r < 36) (hst : s.refState r ≠ 0) (habs : (s.ref r).absent = true)
    (hdue : (s.ref r).nextLoss ≤ s.time.tickNo) (hat : s.absentAt r s.time.tickAt = true) :
    Does (.lossRepeat r) s fun t =>
      (t.ref r).nextLoss = s.time.tickNo + s.lossPeriod ∧ (2, s.time.tickNo) ∈ (t.ref r).log ∧
      t.time = (s.runTo s.time.tickAt).time ∧ Counts s t (0x1C0 + 8 * r + 2) 1 := by
  obtain ⟨τ, hτ, htick⟩ := runTo_spec s s.time.tickAt
  have hexec : exec (.lossRepeat r) s = .next
      (((s.runTo s.time.tickAt).setRef r { s.ref r with nextLoss := (s.runTo s.time.tickAt).time.tickNo +
        (s.runTo s.time.tickAt).lossPeriod }).anomalyBy r 2 (s.runTo s.time.tickAt).time.tickNo none) := by
    refine congrArg Host.Outcome.next ?_
    dsimp only
    rw [if_pos (by simp [hrun, hst, habs, hdue, hat])]
    rfl
  rw [hτ] at hexec ⊢
  dsimp only at hexec ⊢
  rw [htick] at hexec
  refine ⟨_, hexec, ?_⟩
  have hst' : (({ s with time := τ } : State).setRef r { s.ref r with nextLoss := s.time.tickNo +
      ({ s with time := τ } : State).lossPeriod }).refState r ≠ 0 := hst
  obtain ⟨-, hnext, hlog, htime, hcount⟩ := anomalyBy_facts s.time.tickNo none hr (show 2 < 8 by norm_num) hst'
  refine ⟨hnext.trans ?_, hlog, htime, hcount⟩
  rw [ref_setRef, if_pos rfl]
  rfl

/-! ## The first measurement of a reference without a prediction -/

section First
variable {m : Meas} {o : ℤ}

theorem bAdd_unb (a : ℕ) : bAdd a unb = unb := by
  unfold bAdd bNorm
  split
  · rfl
  · rw [if_pos (by omega)]

theorem foldl_asy {α : Type} {g : State → α → State} (hg : ∀ u a, (g u a).asy = u.asy) :
    ∀ (l : List α) (u : State), (l.foldl g u).asy = u.asy
  | [], _ => rfl
  | a :: l, u => (foldl_asy hg l (g u a)).trans (hg u a)

/-- What an accepted measurement leaves of its reference. -/
theorem accept_facts (s : State) (m : Meas) (off e : ℤ) :
    (s.accept m off e).asy.inbox = s.asy.inbox ∧ ((s.accept m off e).ref m.ref).last = some (off, m.at_, m.tick) ∧
    ((s.accept m off e).ref m.ref).accepted = true ∧ ((s.accept m off e).ref m.ref).claim = m.claim ∧
    ((s.accept m off e).ref m.ref).parts = m.parts ∧ ((s.accept m off e).ref m.ref).log = (s.ref m.ref).log := by
  unfold State.accept
  extract_lets x s1 bd y s2 tk s3 free
  have h1 : s1.ref m.ref = _ := (ref_setRef ..).trans (if_pos rfl)
  have h2 : s2.ref m.ref = _ := (ref_setRef ..).trans (if_pos rfl)
  have h3 : s3.asy = s2.asy := by
    unfold s3
    split
    · split <;> rfl
    · rfl
  have hend : ∀ t : State, t.asy = s3.asy → t.asy.inbox = s.asy.inbox ∧ (t.ref m.ref).last = some (off, m.at_, m.tick) ∧
      (t.ref m.ref).accepted = true ∧ (t.ref m.ref).claim = m.claim ∧ (t.ref m.ref).parts = m.parts ∧
      (t.ref m.ref).log = (s.ref m.ref).log := by
    intro t ht
    have href : t.ref m.ref = s2.ref m.ref := by rw [State.ref, ht, h3, ← State.ref]
    rw [href, h2]
    unfold y
    rw [h1, ht, h3]
    exact ⟨rfl, rfl, rfl, rfl, rfl, rfl⟩
  split
  · split
    · refine hend _ (foldl_asy ?_ _ s3)
      exact fun _ _ => rfl
    · exact hend s3 rfl
  · exact hend s3 rfl

/-- Nothing bears on the first measurement of a reference whose prediction is unbounded: it is accepted. -/
theorem judge_first (hst : s.refState m.ref ≠ 0) (hun : s.unjudged m.ref = false) (href : m.ref < 31) (hoff : m.off = some o)
    (hgate : m.gate = none) (hstat : s.statusGated m.ref = false) (hstep : s.tsk.stepTick ≠ some m.tick)
    (htr : s.trustedFor m.ref = []) (hlast : (s.ref m.ref).last = none) (hheld : (s.ref m.ref).held = none) :
    ∃ (u : State) (e : ℤ), s.judge m = u.accept m o e ∧ u.asy.inbox = s.asy.inbox ∧
      (u.ref m.ref).log = (s.ref m.ref).log := by
  have hpred : ∃ p, s.predict m.ref m.at_ = (⟨p, unb, false, true⟩, s.draw) := by
    unfold State.predict
    rw [htr, hlast]
    exact ⟨_, rfl⟩
  obtain ⟨p, hpred⟩ := hpred
  have hpeer : s.peerDisagrees m = false := by
    unfold State.peerDisagrees
    rw [hoff]
    simp
    omega
  have hjudge : s.judge m = s.draw.judgeOffset m o ⟨p, unb, false, true⟩ unb := by
    unfold State.judge
    dsimp only
    rw [if_neg (by simp [hst, hun]), if_neg (by simp [hpeer]), if_neg (by simp [hstat]), hpred]
    dsimp only
    rw [bAdd_unb, if_neg (by simp), hoff, hgate]
    dsimp only
    rw [if_neg (by simp [State.draw, hstep])]
  rw [hjudge]
  unfold State.judgeOffset
  extract_lets r e0 rebase y s1 e s2
  have hs2 : s2.asy = s1.asy := State.setI_asy s1 _ _
  have href2 : s2.ref m.ref = { s.ref m.ref with rebased := true } := by
    rw [State.ref, hs2, ← State.ref]
    exact (ref_setRef s.draw m.ref m.ref _).trans (if_pos rfl)
  have hinbox : s2.asy.inbox = s.asy.inbox := by rw [hs2]; rfl
  clear_value s2
  refine ⟨s2, e, ?_, hinbox, by rw [href2]⟩
  rw [if_neg (by simp)]
  unfold State.judgeOutlier
  dsimp only
  rw [href2]
  dsimp only
  rw [hheld]
  dsimp only
  rw [if_pos (by simp)]

theorem asyMeasurement_first {l : List Meas} (hin : s.asy.inbox = m :: l) (htick : m.tick ≤ s.time.tickNo)
    (hst : s.refState m.ref ≠ 0) (hun : s.unjudged m.ref = false) (href : m.ref < 31) (hoff : m.off = some o)
    (hgate : m.gate = none) (hstat : s.statusGated m.ref = false) (hstep : s.tsk.stepTick ≠ some m.tick)
    (htr : s.trustedFor m.ref = []) (hlast : (s.ref m.ref).last = none) (hheld : (s.ref m.ref).held = none) :
    Does .asyMeasurement s fun t =>
      t.asy.inbox = l ∧ (t.ref m.ref).last = some (o, m.at_, m.tick) ∧ (t.ref m.ref).accepted = true ∧
      (t.ref m.ref).claim = m.claim ∧ (t.ref m.ref).parts = m.parts ∧ (t.ref m.ref).log = (s.ref m.ref).log := by
  have hexec : exec .asyMeasurement s = .next ({ s with asy := { s.asy with inbox := l } }.judge m) := by
    change execAsyMeasurement s = _
    unfold execAsyMeasurement
    rw [hin]
    dsimp only
    rw [if_pos htick]
  obtain ⟨u, e, hjudge, hinbox, hlog⟩ := judge_first (s := { s with asy := { s.asy with inbox := l } }) (m := m) hst hun href hoff hgate
    hstat hstep htr hlast hheld
  rw [hjudge] at hexec
  obtain ⟨h1, h2, h3, h4, h5, h6⟩ := accept_facts u m o e
  exact ⟨_, hexec, h1.trans hinbox, h2, h3, h4, h5, h6.trans hlog⟩

end First

/-! ## Windowed sources -/

theorem linkCut_asy (s : State) : s.linkCut.asy = s.asy := by
  have hdrill : ∀ (u : State) r own, (u.drillEnd r own).asy = u.asy := fun u r own => State.pevent_asy ..
  unfold State.linkCut
  split
  · rfl
  extract_lets s1 p1 s2
  have h1 : s1.asy = s.asy := by
    unfold s1
    split <;> rfl
  have h2 : s2.asy = s.asy := by
    unfold s2
    split
    · exact (State.pevent_asy ..).trans h1
    · exact h1
  split
  · exact (hdrill ..).trans h2
  · exact h2

theorem stopServing_asy (s : State) : s.stopServing.asy = s.asy := by
  have hstat : ∀ (u : State) k, (u.hmkStat k).asy = u.asy := fun u k => State.count_asy ..
  have hrel : ∀ (u : State) p f, (u.releaseResvs p f).asy = u.asy := fun u p f => by
    unfold State.releaseResvs
    extract_lets x gone
    split
    · rfl
    · exact State.countN_asy ..
  unfold State.stopServing
  have hjobs : ∀ (u : State) p, (u.setJobs p []).asy = u.asy := fun _ _ => rfl
  refine foldl_asy (fun u p => ?_) _ s
  dsimp only
  refine (foldl_asy (fun v _ => ?_) _ _).trans ?_
  · exact hstat v 24
  · exact (hjobs _ p).trans (hrel u p _)

theorem roleBound_asy (s : State) (old new : ℕ) : (s.roleBound old new).asy = s.asy := by
  unfold State.roleBound
  dsimp only
  split
  · split
    · rfl
    · split <;> rfl
  · rfl

theorem roleChange_asy (s : State) (new cause : ℕ) : (s.roleChange new cause).asy = s.asy := by
  unfold State.roleChange
  extract_lets old s1 p s2 s3 s4 p4 s5 s6
  have h2 : s2.asy = s.asy := (State.count_asy ..).trans ((State.trace_asy ..).trans (State.pevent_asy ..))
  have h4 : s4.asy = s.asy := by
    unfold s4
    split
    · exact (stopServing_asy s3).trans h2
    · exact h2
  have h5 : s5.asy = s.asy := by
    unfold s5
    split <;> exact h4
  have h6 : s6.asy = s.asy := (roleBound_asy s5 old new).trans h5
  clear_value s6
  split
  · split <;> exact h6
  · exact h6

/-- Assay is as it was. -/
def SameAsy (s t : State) : Prop := t.asy = s.asy

namespace SameAsy
variable {t : State}

theorem set (h : SameAsy s t) (f : Fld) (v : ℕ) : SameAsy s (t.set f v) := (State.set_asy t f v).trans h

theorem setB (h : SameAsy s t) (f : Fld) (b : Bool) : SameAsy s (t.setB f b) := (State.setB_asy t f b).trans h

theorem emitOut (h : SameAsy s t) (o : Out) : SameAsy s (t.emitOut o) := (State.emitOut_asy t o).trans h

end SameAsy

theorem claimStep_asy (s : State) : s.claimStep.asy = s.asy := by
  change SameAsy s s.claimStep
  have hp : ∀ p, SameAsy s { s with pair := p } := fun _ => rfl
  unfold State.claimStep
  extract_lets p c base bias old eff p1 p2 drive was s1 s2 s3 s4
  have h3 : SameAsy s s3 := ((((hp _).set _ _).set _ _).set _ _).setB _ _
  have h4 : SameAsy s s4 := by
    unfold s4
    split
    · exact h3
    · exact h3.emitOut _
  split
  · exact h4
  · exact h4.emitOut _

theorem pairSettle_asy (s : State) (cause : ℕ) : (s.pairSettle cause).asy = s.asy := by
  have hdrill : ∀ u : State, u.drillTrigger.asy = u.asy := fun u => by
    unfold State.drillTrigger
    split
    · exact State.pevent_asy ..
    · rfl
  have htie : ∀ u : State, u.tieStep.asy = u.asy := fun u => by
    unfold State.tieStep
    extract_lets eq p1 s1
    split
    · exact State.pevent_asy ..
    · rfl
  unfold State.pairSettle
  extract_lets s1 s2 s3 ok
  have h2 : s2.asy = s.asy := by
    unfold s2 s1
    rw [htie, claimStep_asy, claimStep_asy, claimStep_asy, hdrill, linkCut_asy]
  have h3 : s3.asy = s.asy := by
    unfold s3
    split
    · exact h2
    · exact (roleChange_asy ..).trans h2
  clear_value s3
  split
  · exact h3
  · exact (State.emitOut_asy ..).trans h3

theorem srcAnomaly_srcDue (s : State) (i : ℕ) : (s.srcAnomaly i).asy.srcDue = s.asy.srcDue := by
  unfold State.srcAnomaly
  split
  · rfl
  extract_lets l a1 s1 s2 win s3
  have h2 : s2.asy = s1.asy := State.count_asy s1 _
  have h3 : s3.asy.srcDue = s.asy.srcDue := by
    unfold s3
    rw [State.set_asy, h2]
  clear_value s3
  split
  · exact (congrArg AsySt.srcDue (State.set_asy ..)).trans h3
  · exact h3

theorem diagStep_srcDue (s : State) (b : ℕ) : (s.diagStep b).asy.srcDue = s.asy.srcDue := by
  unfold State.diagStep
  extract_lets now s1 s2
  split
  · rfl
  · refine (congrArg AsySt.srcDue (State.pevent_asy ..)).trans ?_
    unfold s2
    split
    · exact srcAnomaly_srcDue s1 8
    · rfl

/-- The settling of the pair leaves the sources whose record waits. -/
theorem settleDiag_srcDue (s : State) (cause : ℕ) : (s.settleDiag cause).asy.srcDue = s.asy.srcDue := by
  have hfold : ∀ (l : List ℕ) (u : State), (l.foldl State.diagStep u).asy.srcDue = u.asy.srcDue := by
    intro l
    induction l with
    | nil => exact fun _ => rfl
    | cons b l ih => exact fun u => (ih _).trans (diagStep_srcDue u b)
  unfold State.settleDiag
  extract_lets s1
  refine (congrArg AsySt.srcDue (pairSettle_asy s1 cause)).trans ?_
  unfold s1
  split
  · exact hfold _ s
  · rfl

/-- Where a diagnosis is shown while source 8 is not in FAULT. -/
def diagOffFlds : List Fld := [F.PAIR_TRIG_TRIG, F.PAIR_TRIG_FAULT, F.ASY_SRC_ST_COUNT 8] ++ settleFlds

theorem diagStep_mild_off {u : State} (k : ℕ) (hoff : u.on (F.ASY_SRC_ST_FAULT 8) = false) : Mild diagOffFlds u (u.diagStep k) := by
  unfold State.diagStep
  extract_lets now s1 s2
  split
  · exact .refl _ u
  have h1 : Mild diagOffFlds u s1 := (Mild.refl _ u).set (by simp [diagOffFlds]) _
  have hoff1 : s1.on (F.ASY_SRC_ST_FAULT 8) = false := (h1.on (by decide)).trans hoff
  have h2 : Mild diagOffFlds u s2 := by
    unfold s2
    split
    · refine h1.trans ?_
      clear_value s1
      unfold State.srcAnomaly
      rw [if_neg (by norm_num)]
      extract_lets l a1 v1 v2 win v3
      have h3 : Mild diagOffFlds s1 v3 :=
        (((Mild.refl _ s1).of_eq (u := v1) rfl rfl rfl rfl).count _).set (by simp [diagOffFlds]) _
      rw [if_neg (by rw [h3.on (by decide), hoff1]; simp)]
      exact h3
    · exact h1
  exact h2.pevent _ _ _

theorem settleDiag_mild_off {u : State} (cause : ℕ) (hoff : u.on (F.ASY_SRC_ST_FAULT 8) = false) :
    Mild diagOffFlds u (u.settleDiag cause) := by
  have hfold : ∀ (l : List ℕ) (v : State), v.on (F.ASY_SRC_ST_FAULT 8) = false → Mild diagOffFlds v (l.foldl State.diagStep v) := by
    intro l
    induction l with
    | nil => exact fun v _ => .refl _ v
    | cons b l ih =>
      exact fun v hv => (diagStep_mild_off b hv).trans (ih _ (((diagStep_mild_off b hv).on (by decide)).trans hv))
  have hsettle : ∀ v : State, Mild diagOffFlds v (v.pairSettle cause) := fun v =>
    (pairSettle_mild v cause).mono fun f hf => List.mem_append_right _ hf
  unfold State.settleDiag
  extract_lets s1
  refine Mild.trans ?_ (hsettle s1)
  unfold s1
  split
  · exact (hfold _ u hoff).set (by simp [diagOffFlds]) _
  · exact .refl _ u

/-- A windowed source that has left FAULT at a boundary, before source 0's and the DRAM channels' own words follow. -/
def leftFault (s : State) (i : ℕ) : State :=
  let s := s.runTo s.time.tickAt
  let s := (s.set (F.ASY_SRC_ST_FAULT i) 0).set (F.ASY_SRC_ST_TIMER i) 0
  { s with asy := { s.asy with srcDue := i :: s.asy.srcDue } }

/-- What follows a source that has left FAULT: its DRAM channel (R395), or the kernel's fault (R174). -/
def faultFollowed (s : State) (i : ℕ) : State :=
  if i = 1 || i = 2 then s.set (F.HMK_DRAM_ST_DEGRADED (i - 1)) 0
  else if i = 0 then s.setB F.TSK_STAT_KFAULT (s.engQuenched 8)
  else s

theorem fault_beside : ∀ i < 9, ∀ f ∈ diagFlds, Beside f (F.ASY_SRC_ST_FAULT i) := by
  decide +kernel

theorem timer_beside : ∀ i < 8, ∀ f ∈ diagFlds, Beside f (F.ASY_SRC_ST_TIMER i) := by
  decide +kernel

theorem degraded_beside : ∀ i ∈ [1, 2], ∀ f ∈ diagFlds, Beside f (F.HMK_DRAM_ST_DEGRADED (i - 1)) := by
  decide +kernel

theorem leftFault_get (s : State) (i : ℕ) :
    (leftFault s i).on (F.ASY_SRC_ST_FAULT i) = false ∧ (leftFault s i).get (F.ASY_SRC_ST_TIMER i) = 0 := by
  have hbits : Beside (F.ASY_SRC_ST_TIMER i) (F.ASY_SRC_ST_FAULT i) := .inr (.inr ⟨rfl, by simp [Store.span], .inl (by norm_num)⟩)
  have hon : ∀ u : State, ((u.set (F.ASY_SRC_ST_FAULT i) 0).set (F.ASY_SRC_ST_TIMER i) 0).on (F.ASY_SRC_ST_FAULT i) = false := fun u => by
    rw [on_set_beside hbits, on_set_zero]
  have hget : ∀ u : State, (u.set (F.ASY_SRC_ST_TIMER i) 0).get (F.ASY_SRC_ST_TIMER i) = 0 := fun u => State.get_set_self u _ 0
  exact ⟨hon _, hget _⟩

theorem leftFault_rest (s : State) (i : ℕ) :
    (leftFault s i).time = (s.runTo s.time.tickAt).time ∧ (leftFault s i).asy.srcDue = i :: s.asy.srcDue := by
  obtain ⟨τ, hτ, -⟩ := runTo_spec s s.time.tickAt
  unfold leftFault
  dsimp only
  rw [State.set_time, State.set_time, State.set_asy, State.set_asy, hτ]
  exact ⟨rfl, rfl⟩

/-- What follows a source's end of FAULT shows in other words. -/
theorem faultFollowed_facts (u : State) (i : ℕ) (hi : i < 9) :
    (faultFollowed u i).on (F.ASY_SRC_ST_FAULT i) = u.on (F.ASY_SRC_ST_FAULT i) ∧
    (faultFollowed u i).get (F.ASY_SRC_ST_TIMER i) = u.get (F.ASY_SRC_ST_TIMER i) ∧ (faultFollowed u i).time = u.time ∧
    (faultFollowed u i).asy = u.asy ∧ (i = 1 ∨ i = 2 → (faultFollowed u i).get (F.HMK_DRAM_ST_DEGRADED (i - 1)) = 0) := by
  have hdram : ∀ k < 2, ∀ j < 9, Beside (F.HMK_DRAM_ST_DEGRADED k) (F.ASY_SRC_ST_FAULT j) ∧
      Beside (F.HMK_DRAM_ST_DEGRADED k) (F.ASY_SRC_ST_TIMER j) := by decide
  have hkern : Beside F.TSK_STAT_KFAULT (F.ASY_SRC_ST_FAULT 0) ∧ Beside F.TSK_STAT_KFAULT (F.ASY_SRC_ST_TIMER 0) := by decide
  unfold faultFollowed
  split
  · next h12 =>
    have h12 : i = 1 ∨ i = 2 := by simpa using h12
    have hk : i - 1 < 2 := by omega
    obtain ⟨hf, ht⟩ := hdram _ hk i hi
    exact ⟨on_set_beside hf _ _, get_set_beside ht _ _, State.set_time .., State.set_asy .., fun _ => State.get_set_self u _ 0⟩
  · next h12 =>
    have hno : ¬(i = 1 ∨ i = 2) := by simpa using h12
    split
    · next h0 =>
      subst h0
      exact ⟨on_set_beside hkern.1 _ _, get_set_beside hkern.2 _ _, State.setB_time .., State.setB_asy .., fun h => absurd h hno⟩
    · exact ⟨rfl, rfl, rfl, rfl, fun h => absurd h hno⟩

theorem sourceFaultClear_clears {i : ℕ} (hrun : s.time.running = true) (hi : i < 9) (hfault : s.on (F.ASY_SRC_ST_FAULT i) = true)
    (htimer : s.get (F.ASY_SRC_ST_TIMER i) ≤ 1) (hquiet : ∀ n ∈ (alGet s.asy.srcs i).getD [], n ≠ s.time.tickNo) :
    Does (.sourceFaultClear i) s fun t =>
      t.on (F.ASY_SRC_ST_FAULT i) = false ∧ t.get (F.ASY_SRC_ST_TIMER i) = 0 ∧ t.time = (s.runTo s.time.tickAt).time ∧
      t.asy.srcDue = i :: s.asy.srcDue ∧ (i = 1 ∨ i = 2 → t.get (F.HMK_DRAM_ST_DEGRADED (i - 1)) = 0) := by
  have hall : ((alGet s.asy.srcs i).getD []).all (fun t => t ≠ s.time.tickNo) = true := by
    simpa [List.all_eq_true] using hquiet
  have heq : s.sourceFaultClear i = faultFollowed (leftFault s i) i := by
    unfold State.sourceFaultClear
    rw [if_pos (by rw [hall]; simp [hrun, hi, hfault, htimer])]
    rfl
  have hexec : exec (.sourceFaultClear i) s = .next ((s.sourceFaultClear i).settleDiag 1) := rfl
  rw [heq] at hexec
  obtain ⟨hoff, hzero⟩ := leftFault_get s i
  obtain ⟨htime, hdue⟩ := leftFault_rest s i
  obtain ⟨hf, ht, htm, hasy, hdeg⟩ := faultFollowed_facts (leftFault s i) i hi
  have hoff' := hf.trans hoff
  have hmild := settleDiag_mild (s := faultFollowed (leftFault s i) i) 1
  refine ⟨_, hexec, (hmild.on (fault_beside i hi)).trans hoff', ?_, hmild.time.trans (htm.trans htime),
    (settleDiag_srcDue _ 1).trans ((congrArg AsySt.srcDue hasy).trans hdue), fun h12 => ?_⟩
  · refine Eq.trans ?_ (ht.trans hzero)
    by_cases h8 : i = 8
    · subst h8
      exact (settleDiag_mild_off 1 hoff').get _ (by decide +kernel)
    · exact hmild.get _ (timer_beside i (by omega))
  · exact (hmild.get _ (degraded_beside i (by simpa using h12))).trans (hdeg h12)

/-- Settles O21: the timers' clauses by what a reference's move leaves, the events' by what an anomaly, an accepted measurement
and the pair's settling leave. -/
theorem assayTimersAndEvents : Obligations.AssayTimersAndEvents :=
  ⟨⟨fun _ _ h hl ha hp => entryTimerEnd_moves h hl ha hp, fun _ _ h hl => probationEnd_moves h hl, fun _ _ h => holdoffEnd_moves h⟩,
   ⟨fun _ _ _ _ hin ht hst hun hr hoff hg _ hstat hstep htr hlast hheld =>
      asyMeasurement_first hin ht hst hun hr hoff hg hstat hstep htr hlast hheld,
    fun _ _ _ _ _ _ _ hh hrun hr hst => heldMeasurementTimeout_outlier hh hrun hr hst,
    fun _ _ hrun hr hst habs hd hat => lossRepeat_counts hrun hr hst habs hd hat,
    fun _ _ hrun hi hf ht hq => sourceFaultClear_clears hrun hi hf ht hq⟩⟩

end Sys2Proof.Proofs
end

section
/-!
Loads of the Structure Image (R324 to R331): what a push, the end of its checks, the switch of a region, its effect and the end of its
drain leave.
-/

open Sys2Proof Sys2Proof.Machine Sys2Proof.Claims

namespace Sys2Proof.Proofs

variable {s : State}

/-! ## Pushes -/

theorem pushBusy_only (s : State) (base len : ℕ) :
    let u := ((s.set F.STR_PUSH_BASE base).set F.STR_PUSH_LENGTH len).set F.STR_STAT_BUSY 1
    u.get F.STR_PUSH_BASE = base % 2 ^ 64 ∧ u.get F.STR_PUSH_LENGTH = len % 2 ^ 24 ∧ u.on F.STR_STAT_BUSY = true ∧
      Only [F.STR_PUSH_BASE, F.STR_PUSH_LENGTH, F.STR_STAT_BUSY] id s u := by
  intro u
  refine ⟨?_, ?_, on_set_one _ rfl, ?_⟩
  · exact (get_set_beside (by decide) _ 1).trans ((get_set_beside (by decide) _ len).trans (State.get_set_self s _ base))
  · exact (get_set_beside (by decide) _ 1).trans (State.get_set_self _ _ len)
  · exact Only.set (Only.set (Only.set (Only.refl _ s) base (.of_mem (by simp))) len (.of_mem (by simp))) 1 (.of_mem (by simp))

theorem imagePush_busy {base len : ℕ} (hheld : s.pow.held = false) (hidle : s.on F.STR_STAT_BUSY = false) :
    Does (.imagePush base len) s fun t =>
      t.get F.STR_PUSH_BASE = base % 2 ^ 64 ∧ t.get F.STR_PUSH_LENGTH = len % 2 ^ 24 ∧ t.on F.STR_STAT_BUSY = true ∧
      Only [F.STR_PUSH_BASE, F.STR_PUSH_LENGTH, F.STR_STAT_BUSY] id s t := by
  have hexec : exec (.imagePush base len) s =
      .next (((s.set F.STR_PUSH_BASE base).set F.STR_PUSH_LENGTH len).set F.STR_STAT_BUSY 1) := by
    refine congrArg Host.Outcome.next ((awake_of hheld _).trans ?_)
    rw [State.pushGo, on_set_beside (by decide), on_set_beside (by decide), hidle, if_neg (by decide)]
  exact ⟨_, hexec, pushBusy_only s base len⟩

/-- A load's result is no register but CODE and SECT, and nothing of the image. -/
theorem loadResult_facts (s : State) (code sect : ℕ) :
    (s.loadResult 2 code sect).get (F.STR_LOAD_ST_CODE 2) = code % 2 ^ 4 ∧ (s.loadResult 2 code sect).str = s.str ∧
    (∀ g, Beside (F.STR_LOAD_ST_CODE 2) g → Beside (F.STR_LOAD_ST_SECT 2) g → (s.loadResult 2 code sect).get g = s.get g) := by
  unfold State.loadResult
  extract_lets u
  have hcode : u.get (F.STR_LOAD_ST_CODE 2) = code % 2 ^ 4 := (get_set_beside (by decide) _ _).trans (State.get_set_self s _ code)
  have hstr : u.str = s.str := by
    unfold u
    rw [State.set_str, State.set_str]
  have hget : ∀ g, Beside (F.STR_LOAD_ST_CODE 2) g → Beside (F.STR_LOAD_ST_SECT 2) g → u.get g = s.get g := fun g h1 h2 =>
    (get_set_beside h2 _ _).trans (get_set_beside h1 s code)
  clear_value u
  split
  · exact ⟨(State.count_get ..).trans hcode, (State.count_str ..).trans hstr, fun g h1 h2 => (State.count_get ..).trans (hget g h1 h2)⟩
  · exact ⟨(State.count_get ..).trans hcode, (State.count_str ..).trans hstr, fun g h1 h2 => (State.count_get ..).trans (hget g h1 h2)⟩

theorem imagePush_refused {base len : ℕ} (hheld : s.pow.held = false) (hbusy : s.on F.STR_STAT_BUSY = true) :
    Does (.imagePush base len) s fun t =>
      t.get (F.STR_LOAD_ST_CODE 2) = lBusy ∧ t.on F.STR_STAT_BUSY = true ∧ t.str = s.str := by
  have hon : ((s.set F.STR_PUSH_BASE base).set F.STR_PUSH_LENGTH len).on F.STR_STAT_BUSY = true := by
    rw [on_set_beside (by decide), on_set_beside (by decide), hbusy]
  have hstr : ((s.set F.STR_PUSH_BASE base).set F.STR_PUSH_LENGTH len).str = s.str := by rw [State.set_str, State.set_str]
  have hexec : exec (.imagePush base len) s =
      .next (((s.set F.STR_PUSH_BASE base).set F.STR_PUSH_LENGTH len).loadResult 2 lBusy 0xFFFF) := by
    refine congrArg Host.Outcome.next ((awake_of hheld _).trans ?_)
    rw [State.pushGo, hon, if_pos rfl]
  generalize (s.set F.STR_PUSH_BASE base).set F.STR_PUSH_LENGTH len = u at hon hstr hexec
  obtain ⟨hcode, hsame, hget⟩ := loadResult_facts u lBusy 0xFFFF
  refine ⟨_, hexec, hcode, ?_, hsame.trans hstr⟩
  rw [State.on, hget _ (by decide) (by decide), ← State.on, hon]

theorem imageCheckDone_waits {img : Image} {v : Bool} (hbusy : s.on F.STR_STAT_BUSY = true) (hlive : s.get F.STR_STAT_STATE = 1)
    (hfull : img.partial_ = false) (hok : ((s.set F.STR_STAT_BUSY 0).checkImage img (some (s.get F.STR_PUSH_LENGTH)) v).1 = lOk) :
    Does (.imageCheckDone true img v) s fun t =>
      t.on F.STR_STAT_BUSY = false ∧ t.get (F.STR_LOAD_ST_CODE 2) = lOk ∧ t.str.pendImg = some img ∧
      t.on F.STR_STAT_PENDING = true ∧ t.get F.STR_DIGEST_DIGEST = s.get F.STR_DIGEST_DIGEST := by
  have hidle : (s.set F.STR_STAT_BUSY 0).on F.STR_STAT_BUSY = false := on_set_zero s _
  have hget : ∀ g, Beside F.STR_STAT_BUSY g → (s.set F.STR_STAT_BUSY 0).get g = s.get g := fun g hg => get_set_beside hg s 0
  have hexec : exec (.imageCheckDone true img v) s = .next (
      ({ (s.set F.STR_STAT_BUSY 0).loadResult 2 lOk
          ((s.set F.STR_STAT_BUSY 0).checkImage img (some (s.get F.STR_PUSH_LENGTH)) v).2 with
        str := { ((s.set F.STR_STAT_BUSY 0).loadResult 2 lOk
          ((s.set F.STR_STAT_BUSY 0).checkImage img (some (s.get F.STR_PUSH_LENGTH)) v).2).str with pendImg := some img } } : State).set
        F.STR_STAT_PENDING 1) := by
    refine congrArg Host.Outcome.next ?_
    unfold State.pushDone
    rw [if_pos hbusy]
    generalize s.set F.STR_STAT_BUSY 0 = u at hok hidle hget ⊢
    dsimp only
    rw [if_pos rfl, hget _ (by decide), hok, if_neg (by simp), hfull, if_neg (by decide), (loadResult_facts ..).2.2 _ (by decide)
      (by decide), hget _ (by decide), hlive, if_pos rfl]
  generalize s.set F.STR_STAT_BUSY 0 = u at hexec hidle hget
  generalize (u.checkImage img (some (s.get F.STR_PUSH_LENGTH)) v).2 = k at hexec
  obtain ⟨hcode, -, hload⟩ := loadResult_facts u lOk k
  generalize u.loadResult 2 lOk k = w at hexec hcode hload
  refine ⟨_, hexec, ?_, ?_, rfl, on_set_one _ rfl, ?_⟩
  · rw [on_set_beside (by decide)]
    exact (congrArg (fun x => decide (x = 1)) (hload F.STR_STAT_BUSY (by decide) (by decide))).trans hidle
  · exact (get_set_beside (by decide) _ 1).trans hcode
  · exact (get_set_beside (by decide) _ 1).trans ((hload _ (by decide) (by decide)).trans (hget _ (by decide)))

/-! ## The switch of a region -/

theorem foldl_keeps {α β : Type} {φ : State → β} {g : State → α → State} (hg : ∀ u a, φ (g u a) = φ u) :
    ∀ (l : List α) (u : State), φ (l.foldl g u) = φ u
  | [], _ => rfl
  | a :: l, u => (foldl_keeps hg l (g u a)).trans (hg u a)

/-- Counting leaves whether a function is a bus master. -/
def SameBme (s t : State) : Prop := ∀ n, (t.fn n).bme = (s.fn n).bme

theorem SameBme.of_fns {s t : State} (h : t.hif.fns = s.hif.fns) : SameBme s t := fun n => by rw [State.fn, h, State.fn]

theorem SameBme.setFn (s : State) (n : ℕ) {f : FnSt} (hf : f.bme = (s.fn n).bme) : SameBme s (s.setFn n f) := by
  intro m
  rw [State.fn_setFn]
  split
  next h => rw [h, hf]
  next => rfl

theorem SameBme.pushEv (s : State) (n : ℕ) (r : EvRec) : SameBme s (s.pushEv n r).1 := by
  unfold State.pushEv
  extract_lets f f'
  have hf : f'.bme = f.bme := by
    unfold f'
    split
    · split <;> rfl
    · rfl
  clear_value f'
  split
  · exact SameBme.setFn s n hf
  split
  · exact SameBme.setFn s n hf
  · exact SameBme.setFn s n hf

theorem SameBme.pushTrace (s : State) (ty src sh fr p : ℕ) : SameBme s (s.pushTrace ty src sh fr p).1 := by
  unfold State.pushTrace
  extract_lets q cap
  split
  · exact .of_fns rfl
  · split <;> exact .of_fns rfl

theorem SameBme.signalSample (s : State) : SameBme s s.signalSample := by
  unfold State.signalSample
  extract_lets m
  split <;> exact .of_fns rfl

theorem SameBme.counting : Counting SameBme where
  refl _ _ := rfl
  trans h k n := (k n).trans (h n)
  setSlot _ _ _ := .of_fns rfl
  bump _ _ _ := .of_fns rfl
  pushEv := SameBme.pushEv
  pushTrace := SameBme.pushTrace
  signalSample := SameBme.signalSample

theorem SameBme.atDue (s : State) (o : State.Occ) : SameBme s (atDue s o) := by
  unfold Proofs.atDue State.acted
  have hpre : SameBme s ((((s.runTo (s.dueOf o.ent).toNat).takeDispatch ((s.runTo (s.dueOf o.ent).toNat).dueOf o.ent)).advanceEnt
      o).clearOwned o.id) := by
    refine .of_fns ?_
    rw [State.clearOwned, advanceEnt_eq, runTo_eq]
    rfl
  exact SameBme.counting.trans hpre (SameBme.counting.trans (SameBme.counting.count _ _) (.of_fns rfl))

/-- What a staged section meets in use depends on registers, the image, the output map and the enabled functions. -/
theorem inUse_congr {t : State} (hregs : t.regs = s.regs) (hstr : t.str = s.str) (hsyn : t.syn = s.syn)
    (hvf : t.hif.vfOf = s.hif.vfOf) (hbme : SameBme s t) (y : Section) : t.inUse y = s.inUse y := by
  have hget : ∀ f, t.get f = s.get f := fun f => get_of_regs hregs f
  have hon : ∀ f, t.on f = s.on f := fun f => on_of_regs hregs f
  have hten : ∀ n, t.tenEnabled n = s.tenEnabled n := by
    intro n
    simp only [State.tenEnabled, State.fnOf, State.fnEnabled, State.tenantOf, hvf, hbme _, hon]
    rfl
  unfold State.inUse
  cases y.pay with
  | xbar src burn ap => simp only [hget, hon]
  | synPlan hz byp khz burn => simp only [hstr, State.burnState, hget]; rfl
  | outMap burn pr => simp only [State.mapInUse, hsyn, State.outState, hget]; rfl
  | tenants rows => simp only [hstr, hten]
  | _ => rfl

/-- The fields of a region that its switch writes. -/
def regionFlds (r : ℕ) : List Fld :=
  [F.STR_REGION_STATE r, F.STR_REGION_GEN r, F.STR_REGION_STAGED_GEN r, F.STR_REGION_TAG r, F.STR_REGION_SWITCHES r,
    F.STR_REGION_LAST r]

theorem region_beside {r : ℕ} (hr : r < 24) {f g : Fld} (hf : f ∈ F.STR_DIGEST_DIGEST :: regionFlds r) (hg : g ∈ regionFlds r)
    (hne : f ≠ g) : Beside f g := by
  have hall : ∀ r < 24, ∀ f ∈ F.STR_DIGEST_DIGEST :: regionFlds r, ∀ g ∈ regionFlds r, f ≠ g → Beside f g := by decide +kernel
  exact hall r hr f hf g hg hne

/-- A region with its staged generation current and its own words at the switch's values. -/
def switched (s : State) (r : ℕ) (x : Staged) : State :=
  ((((({ s with str := { s.str with staged := alDel s.str.staged r, switching := alSet s.str.switching r x } } : State).set
    (F.STR_REGION_STATE r) 2).set (F.STR_REGION_GEN r) x.gen).set (F.STR_REGION_STAGED_GEN r) 0).set (F.STR_REGION_TAG r)
    x.gen).add (F.STR_REGION_SWITCHES r) 1

theorem genSwitch_eq {r : ℕ} {x : Staged} (hst : alGet s.str.staged r = some x)
    (hsw : s.str.switching.any (fun y => y.1 = r) = false) (hstate : s.get (F.STR_REGION_STATE r) ≠ 2)
    (huse : ∀ y ∈ x.secs, s.inUse y = false) :
    s.genSwitch r none = ((((switched s r x).count 0x512).advanceDigest x).genRecord r 1).holdSwap r := by
  have hbusy : (s.str.switching.any (fun y => y.1 = r) || decide (s.get (F.STR_REGION_STATE r) = 2)) = false := by
    rw [hsw, decide_eq_false hstate, Bool.or_false]
  have hin : x.secs.any (fun y => s.inUse y) = false := by
    rw [List.any_eq_false]
    exact fun y hy => by rw [huse y hy]; decide
  unfold State.genSwitch
  extract_lets st
  rw [hst]
  dsimp only
  rw [if_neg (by rw [hbusy]; decide), if_neg (by rw [hin]; decide)]
  rfl

theorem switched_get (s : State) {r : ℕ} (hr : r < 24) (x : Staged) :
    (switched s r x).get (F.STR_REGION_STATE r) = 2 ∧ (switched s r x).get (F.STR_REGION_GEN r) = x.gen % 2 ^ 32 ∧
    (switched s r x).get (F.STR_REGION_STAGED_GEN r) = 0 ∧
    (switched s r x).get (F.STR_REGION_SWITCHES r) = (s.get (F.STR_REGION_SWITCHES r) + 1) % 2 ^ 32 := by
  have hb : ∀ {f g}, f ∈ regionFlds r → g ∈ regionFlds r → f ≠ g → ∀ (u : State) v, (u.set f v).get g = u.get g :=
    fun hf hg hne u v => get_set_beside (region_beside hr (List.mem_cons_of_mem _ hf) hg hne) u v
  unfold switched State.add
  have hpre : ({ s with str := { s.str with staged := alDel s.str.staged r, switching := alSet s.str.switching r x } } : State).get
      (F.STR_REGION_SWITCHES r) = s.get (F.STR_REGION_SWITCHES r) := rfl
  generalize ({ s with str := { s.str with staged := alDel s.str.staged r, switching := alSet s.str.switching r x } } : State) = u
    at hpre ⊢
  refine ⟨?_, ?_, ?_, ?_⟩
  · rw [hb, hb, hb, hb, State.get_set_self] <;> simp [regionFlds]
  · rw [hb, hb, hb, State.get_set_self] <;> simp [regionFlds]
  · rw [hb, hb, State.get_set_self] <;> simp [regionFlds]
  · rw [State.get_set_self, hb, hb, hb, hb, hpre] <;> simp [regionFlds]

theorem switched_facts (s : State) (r : ℕ) (x : Staged) :
    (switched s r x).str = { s.str with staged := alDel s.str.staged r, switching := alSet s.str.switching r x } ∧
    (switched s r x).time = s.time ∧ (switched s r x).sch = s.sch := by
  unfold switched State.add
  refine ⟨?_, ?_, ?_⟩
  · rw [State.set_str, State.set_str, State.set_str, State.set_str, State.set_str]
  · rw [State.set_time, State.set_time, State.set_time, State.set_time, State.set_time]
  · rw [State.set_sch, State.set_sch, State.set_sch, State.set_sch, State.set_sch]

/-- A step of a switch after its words: `LAST` and DIGEST apart the registers, and the image's regions, time and scheduler hold. -/
structure Recorded (fs : List Fld) (s t : State) : Prop where
  regs : ∀ g, (∀ f ∈ fs, Beside f g) → t.get g = s.get g
  staged : t.str.staged = s.str.staged
  switching : t.str.switching = s.str.switching
  time : t.time = s.time
  sch : t.sch = s.sch

theorem Recorded.of_calm {fs : List Fld} {t : State} (h : t.calm = s.calm) : Recorded fs s t :=
  ⟨fun g _ => get_of_regs (regs_of_calm h) g, congrArg (fun u => u.str.staged) h, congrArg (fun u => u.str.switching) h,
    time_of_calm h, sch_of_calm h⟩

theorem Recorded.trans {fs : List Fld} {t u : State} (h : Recorded fs s t) (k : Recorded fs t u) : Recorded fs s u :=
  ⟨fun g hg => (k.regs g hg).trans (h.regs g hg), k.staged.trans h.staged, k.switching.trans h.switching, k.time.trans h.time,
    k.sch.trans h.sch⟩

theorem Recorded.set {fs : List Fld} (s : State) {f : Fld} (hf : f ∈ fs) (v : ℕ) : Recorded fs s (s.set f v) :=
  ⟨fun _ hg => get_set_beside (hg f hf) s v, by rw [State.set_str], by rw [State.set_str], State.set_time .., State.set_sch ..⟩

theorem advanceDigest_recorded {fs : List Fld} (hd : F.STR_DIGEST_DIGEST ∈ fs) (x : Staged) : Recorded fs s (s.advanceDigest x) := by
  unfold State.advanceDigest
  split
  · exact .of_calm rfl
  · extract_lets src u
    exact Recorded.trans (t := u) ⟨fun _ _ => rfl, rfl, rfl, rfl, rfl⟩ (.set u hd _)

theorem genRecord_recorded {fs : List Fld} {r : ℕ} (hl : F.STR_REGION_LAST r ∈ fs) (k : ℕ) : Recorded fs s (s.genRecord r k) := by
  unfold State.genRecord
  extract_lets p
  exact (Recorded.set s hl k).trans (.of_calm (by rw [State.trace_calm, State.pevent_calm]))

theorem genRecord_last (r k : ℕ) : (s.genRecord r k).get (F.STR_REGION_LAST r) = k % 2 ^ 3 := by
  unfold State.genRecord
  extract_lets p
  rw [State.trace_get, State.pevent_get, State.get_set_self]

theorem holdSwap_eq (r : ℕ) : s.holdSwap r = { s with eng := (s.holdSwap r).eng } := by
  unfold State.holdSwap
  extract_lets x
  split <;> rfl

theorem genSwitch_facts {r : ℕ} {x : Staged} (hr : r < 24) (hst : alGet s.str.staged r = some x)
    (hsw : s.str.switching.any (fun y => y.1 = r) = false) (hstate : s.get (F.STR_REGION_STATE r) ≠ 2)
    (huse : ∀ y ∈ x.secs, s.inUse y = false) :
    (s.genSwitch r none).time = s.time ∧ (s.genSwitch r none).sch = s.sch ∧
    (s.genSwitch r none).get (F.STR_REGION_STATE r) = 2 ∧ (s.genSwitch r none).get (F.STR_REGION_GEN r) = x.gen % 2 ^ 32 ∧
    (s.genSwitch r none).get (F.STR_REGION_STAGED_GEN r) = 0 ∧
    (s.genSwitch r none).get (F.STR_REGION_SWITCHES r) = (s.get (F.STR_REGION_SWITCHES r) + 1) % 2 ^ 32 ∧
    (s.genSwitch r none).str.staged = alDel s.str.staged r ∧ (s.genSwitch r none).str.switching = alSet s.str.switching r x ∧
    (s.genSwitch r none).get (F.STR_REGION_LAST r) = 1 := by
  rw [genSwitch_eq hst hsw hstate huse]
  obtain ⟨hstate', hgen, hsg, hswi⟩ := switched_get s hr x
  obtain ⟨hstr, htime, hsch⟩ := switched_facts s r x
  generalize switched s r x = u at hstate' hgen hsg hswi hstr htime hsch ⊢
  have hrec : Recorded [F.STR_DIGEST_DIGEST, F.STR_REGION_LAST r] u (((u.count 0x512).advanceDigest x).genRecord r 1) :=
    .trans (.trans (.of_calm (State.count_calm u 0x512)) (advanceDigest_recorded (by simp) x)) (genRecord_recorded (by simp) 1)
  have hlast := genRecord_last (s := (u.count 0x512).advanceDigest x) r 1
  generalize ((u.count 0x512).advanceDigest x).genRecord r 1 = w at hrec hlast ⊢
  have hkeep : ∀ g ∈ regionFlds r, g ≠ F.STR_REGION_LAST r → w.get g = u.get g := by
    refine fun g hg hne => hrec.regs g fun f hf => ?_
    rcases List.mem_pair.mp hf with rfl | rfl
    · exact region_beside hr (List.mem_cons_self ..) hg (by rintro rfl; revert hg; simp [regionFlds])
    · exact region_beside hr (by simp [regionFlds]) hg hne.symm
  rw [holdSwap_eq]
  refine ⟨hrec.time.trans htime, hrec.sch.trans hsch, ?_, ?_, ?_, ?_, ?_, ?_, hlast⟩
  · exact (hkeep _ (by simp [regionFlds]) (by simp)).trans hstate'
  · exact (hkeep _ (by simp [regionFlds]) (by simp)).trans hgen
  · exact (hkeep _ (by simp [regionFlds]) (by simp)).trans hsg
  · exact (hkeep _ (by simp [regionFlds]) (by simp)).trans hswi
  · exact hrec.staged.trans (by rw [hstr])
  · exact hrec.switching.trans (by rw [hstr])

theorem atDue_str (s : State) (o : State.Occ) : (atDue s o).str = s.str := by
  have h := congrArg State.str (atDue_calm s o)
  exact h

theorem inUse_atDue (s : State) (o : State.Occ) (y : Section) : (atDue s o).inUse y = s.inUse y := by
  have hsyn := congrArg State.syn (atDue_calm s o)
  have hvf := congrArg (fun u => u.hif.vfOf) (atDue_calm s o)
  exact inUse_congr (atDue_regs s o) (atDue_str s o) hsyn hvf (SameBme.atDue s o) y

theorem updWait_of_acts {o : State.Occ} {id action : ℕ} (h : Acts s o id action) : s.sch.updWait = 0 := by
  obtain ⟨-, -, -, -, -, -, -, -, hupd⟩ := h
  exact hupd

theorem genSwitch_acts {o : State.Occ} {id : ℕ} {x : Staged} (h : Acts s o id 9) (hr : o.ent.arg < 24)
    (hst : alGet s.str.staged o.ent.arg = some x) (hsw : s.str.switching.any (fun y => y.1 = o.ent.arg) = false)
    (hstate : s.get (F.STR_REGION_STATE o.ent.arg) ≠ 2) (huse : ∀ y ∈ x.secs, s.inUse y = false) :
    Does (.genSwitch id none) s fun t =>
      Acted s t o ∧ t.get (F.STR_REGION_STATE o.ent.arg) = 2 ∧ t.get (F.STR_REGION_GEN o.ent.arg) = x.gen % 2 ^ 32 ∧
      t.get (F.STR_REGION_STAGED_GEN o.ent.arg) = 0 ∧
      t.get (F.STR_REGION_SWITCHES o.ent.arg) = (s.get (F.STR_REGION_SWITCHES o.ent.arg) + 1) % 2 ^ 32 ∧
      t.str.staged = alDel s.str.staged o.ent.arg ∧ t.str.switching = alSet s.str.switching o.ent.arg x ∧
      t.get (F.STR_REGION_LAST o.ent.arg) = 1 := by
  have hstr := atDue_str s o
  have huse' : ∀ y ∈ x.secs, (atDue s o).inUse y = false := fun y hy => (inUse_atDue s o y).trans (huse y hy)
  have hget : ∀ f, (atDue s o).get f = s.get f := fun f => get_of_regs (atDue_regs s o) f
  obtain ⟨htime, hsch, hfacts⟩ := genSwitch_facts hr (by rw [hstr, hst]) (by rw [hstr, hsw]) (by rw [hget]; exact hstate) huse'
  obtain ⟨htime', hents⟩ := atDue_acted s o
  rw [hget, hstr] at hfacts
  have hupd : ((atDue s o).genSwitch o.ent.arg none).sch.updWait = 0 := by
    rw [hsch, atDue_updWait]
    exact updWait_of_acts h
  have hexec : exec (.genSwitch id none) s = .next ((atDue s o).genSwitch o.ent.arg none) :=
    congrArg Host.Outcome.next (scheduled_of_acts (ok := fun _ => true) (act := fun s e => s.genSwitch e.arg none) h rfl hupd)
  exact ⟨_, hexec, ⟨htime.trans htime', by rw [hsch, hents]⟩, hfacts⟩

theorem genSwitch_unstaged {o : State.Occ} {id : ℕ} {ue : Option DramErr} (h : Acts s o id 9)
    (hst : alGet s.str.staged o.ent.arg = none) :
    Does (.genSwitch id ue) s fun t =>
      Acted s t o ∧ t.get (F.STR_REGION_LAST o.ent.arg) = 2 ∧ t.str = s.str ∧ SameRegs (words [F.STR_REGION_LAST o.ent.arg]) s t := by
  have hstr := atDue_str s o
  have hgen : (atDue s o).genSwitch o.ent.arg ue = (atDue s o).genRecord o.ent.arg 2 := by
    unfold State.genSwitch
    extract_lets st
    rw [hstr, hst]
  have hregs := atDue_regs s o
  obtain ⟨htime, hents⟩ := atDue_acted s o
  have hupdD := atDue_updWait s o
  have hsched := scheduled_of_acts (ok := fun _ => true) (act := fun s e => s.genSwitch e.arg ue) h rfl
  rw [hgen] at hsched
  generalize atDue s o = u at hstr hregs htime hents hupdD hsched
  have hrec : Recorded [F.STR_REGION_LAST o.ent.arg] u (u.genRecord o.ent.arg 2) := genRecord_recorded (by simp) 2
  have hcalm : (u.genRecord o.ent.arg 2).calm = (u.set (F.STR_REGION_LAST o.ent.arg) 2).calm := by
    unfold State.genRecord
    rw [State.trace_calm, State.pevent_calm]
  have hupd : (u.genRecord o.ent.arg 2).sch.updWait = 0 := by
    rw [hrec.sch, hupdD]
    exact updWait_of_acts h
  refine ⟨_, congrArg Host.Outcome.next (hsched hupd), ⟨hrec.time.trans htime, by rw [hrec.sch, hents]⟩, genRecord_last _ 2, ?_, ?_⟩
  · have hstr' : (u.genRecord o.ent.arg 2).calm.str = (u.set (F.STR_REGION_LAST o.ent.arg) 2).calm.str := congrArg State.str hcalm
    exact hstr'.trans ((State.set_str u (F.STR_REGION_LAST o.ent.arg) 2).trans hstr)
  · exact SameRegs.of_regs (SameRegs.set (SameRegs.of_eq hregs) 2 (.of_mem (List.mem_singleton.mpr rfl))) (regs_of_calm hcalm)

/-! ## The effect of a switch and the end of its drain -/

/-- What a switch has still to make live is as before. -/
theorem putSection_switching (u : State) (y : Section) : (u.putSection y).str.switching = u.str.switching := by
  have hset : ∀ (v : State) f n, (v.set f n).str.switching = v.str.switching := fun v f n => by rw [State.set_str]
  unfold State.putSection
  split
  next src burn ap _ =>
    extract_lets v
    have hv : v.str.switching = u.str.switching := foldl_keeps (φ := fun s => s.str.switching) (fun _ _ => hset ..) _ u
    exact hv
  next hz byp khz _ _ =>
    extract_lets src v
    exact (hset ..).trans ((hset ..).trans (hset ..))
  next => rfl
  next rows _ =>
    unfold State.putTenants
    extract_lets v w vf
    have hv : v.str.switching = u.str.switching :=
      foldl_keeps (φ := fun s => s.str.switching) (fun _ _ => (hset ..).trans ((hset ..).trans (hset ..))) _ u
    have hw : w.str.switching = v.str.switching :=
      foldl_keeps (φ := fun s => s.str.switching) (fun _ _ => (hset ..).trans ((hset ..).trans (hset ..))) _ v
    exact hw.trans hv
  next c q _ =>
    extract_lets _ v
    have hv : v.str.switching = u.str.switching := hset ..
    exact (foldl_keeps (φ := fun s => s.str.switching) (fun _ _ => hset ..) _ v).trans hv
  next rows _ =>
    extract_lets v
    have hv : v.str.switching = u.str.switching := foldl_keeps (φ := fun s => s.str.switching) (fun _ _ => hset ..) _ u
    exact hv
  next cls clk f m _ =>
    unfold State.putHoldover
    extract_lets v w
    have hv : v.str.switching = u.str.switching :=
      foldl_keeps (φ := fun s => s.str.switching) (fun _ _ => (hset ..).trans ((hset ..).trans (hset ..))) _ u
    have hw : w.str.switching = v.str.switching := foldl_keeps (φ := fun s => s.str.switching) (fun _ _ => hset ..) _ v
    exact (hset ..).trans ((hset ..).trans (hw.trans hv))
  next es _ =>
    unfold State.putLocked State.placeTick
    extract_lets _ _ v
    have hv : (es.foldl (fun s x => s.putEnt x.1 (s.liveEnt x.2)) v).str.switching = v.str.switching :=
      foldl_keeps (φ := fun s => s.str.switching) (g := fun s x => s.putEnt x.1 (s.liveEnt x.2)) (fun _ _ => rfl) es v
    split <;> exact hv
  next => rfl
  next => rfl
  next => rfl

theorem startEngine_str (u : State) (e : ℕ) (keep : Bool) : (u.startEngine e keep).str = u.str := by
  unfold State.startEngine
  split
  next p _ =>
    extract_lets x x' v w
    have hv : v.str = u.str := foldl_keeps (φ := State.str) (fun _ _ => State.set_str ..) _ u
    have hw : w.str = v.str := (State.set_str ..).trans ((State.set_str ..).trans (State.set_str ..))
    exact hw.trans hv
  next => rfl

theorem switchBank_str (u : State) (e : ℕ) : (u.switchBank e).str = u.str := by
  unfold State.switchBank
  extract_lets x
  split
  next p _ =>
    extract_lets v w
    have hw : w.str = u.str := State.set_str ..
    split
    · exact hw
    · exact (startEngine_str w e true).trans hw
  next => rfl

theorem switchPrograms_str (u : State) (l : List Section) : (u.switchPrograms l).str = u.str := by
  unfold State.switchPrograms
  refine foldl_keeps (φ := State.str) (fun v y => ?_) l u
  split
  next p _ => exact switchBank_str _ p.engine
  next => rfl

theorem startEngine_engine {u : State} {e : ℕ} {p : Prog} {keep : Bool} (hl : (u.engine e).live = some p) :
    ((u.startEngine e keep).engine e).live = some p ∧ ((u.startEngine e keep).engine e).idle = (u.engine e).idle := by
  unfold State.startEngine
  rw [State.prog, hl]
  dsimp only
  rw [State.engine_setEngine, if_pos rfl]
  split <;> exact ⟨hl, rfl⟩

/-- A program in the idle bank becomes the live one. -/
theorem switchBank_engine {u : State} {e : ℕ} {p : Prog} (hi : (u.engine e).idle = some p) :
    ((u.switchBank e).engine e).live = some p ∧ ((u.switchBank e).engine e).idle = none := by
  unfold State.switchBank
  extract_lets x
  rw [hi]
  dsimp only
  have hw : ∀ v, (((u.setEngine e { x with live := some p, idle := none, swap := false }).set (F.ENG_ST_BANK e) v).engine e) =
      { x with live := some p, idle := none, swap := false } := by
    intro v
    rw [State.engine, State.set_eng, ← State.engine, State.engine_setEngine, if_pos rfl]
  generalize 1 - _ = v
  have hv := hw v
  generalize State.set _ (F.ENG_ST_BANK e) v = w at hv
  split
  · rw [hv]
    exact ⟨rfl, rfl⟩
  · obtain ⟨hlive, hidle⟩ := startEngine_engine (u := w) (e := e) (p := p) (keep := true) (by rw [hv])
    exact ⟨hlive, hidle.trans (by rw [hv])⟩

theorem regionEffect_eq {r : ℕ} {x : Staged} (hsw : alGet s.str.switching r = some x) (hdue : s.effectDue r = true) :
    ∃ u : State, u.str = { s.str with switching := alDel s.str.switching r } ∧
      s.regionEffect r = (x.secs.foldl State.putSection u).switchPrograms x.secs := by
  unfold State.regionEffect
  rw [hsw]
  dsimp only
  rw [if_pos hdue]
  refine ⟨_, ?_, rfl⟩
  split <;> rfl

theorem drainEnd_spec {r : ℕ} (hst : s.get (F.STR_REGION_STATE r) = 2) (hsw : alGet s.str.switching r = none) :
    Does (.regionDrainEnd r) s fun t =>
      t.get (F.STR_REGION_STATE r) = (if (alGet s.str.staged r).isSome then 1 else 0) ∧ Only [F.STR_REGION_STATE r] id s t := by
  have hexec : exec (.regionDrainEnd r) s =
      .next (s.set (F.STR_REGION_STATE r) (if (alGet s.str.staged r).isSome then 1 else 0)) := by
    refine congrArg Host.Outcome.next ?_
    unfold State.drainEnd
    rw [hsw, hst]
    exact if_pos (by simp)
  refine ⟨_, hexec, ?_, Only.set (Only.refl _ s) _ (.of_mem (List.mem_singleton.mpr rfl))⟩
  rw [State.get_set_self]
  split <;> rfl

theorem regionEffect_section {u : State} (y : Section) :
    let t := ([y].foldl State.putSection u).switchPrograms [y]
    (∀ f, y.pay = .updGroups f → t.hif.grp = f) ∧ (∀ rows, y.pay = .portProfile rows → t.str.ports = rows) ∧
    (∀ rows, y.pay = .tenants rows → t.str.tenants = rows) ∧
    (∀ hz byp khz burn, y.pay = .synPlan hz byp khz burn →
      t.str.oscin = hz ∧ t.str.synBurn = burn ∧ t.get F.SYN_SPLL_ST_OSC_KHZ = hz / 1000 % 2 ^ F.SYN_SPLL_ST_OSC_KHZ.w) ∧
    (∀ p, y.pay = .prog p → (t.engine p.engine).live = some (State.progOf p) ∧ (t.engine p.engine).idle = none) := by
  intro t
  have ht : t.str = (u.putSection y).str := switchPrograms_str (u.putSection y) [y]
  have hprog : (∀ p, y.pay ≠ .prog p) → t = u.putSection y := by
    intro hp
    unfold t
    rw [List.foldl_cons, List.foldl_nil, State.switchPrograms, List.foldl_cons, List.foldl_nil]
    split
    next p h => exact absurd h (hp p)
    next => rfl
  refine ⟨fun f hf => ?_, fun rows hr => ?_, fun rows hr => ?_, fun hz byp khz burn hp => ?_, fun p hp => ?_⟩
  · rw [hprog (by simp [hf]), State.putSection, hf]
  · rw [ht, State.putSection, hr]
  · rw [ht, State.putSection, hr]
    rfl
  · rw [hprog (by simp [hp]), State.putSection, hp]
    dsimp only
    have hsb : ∀ v : State, v.settleBurnSrc.str = v.str := fun _ => rfl
    refine ⟨?_, ?_, ?_⟩
    · rw [State.set_str, State.set_str, State.set_str, hsb]
    · rw [State.set_str, State.set_str, State.set_str, hsb]
    · rw [get_set_beside (by decide), State.get_set_self]
  · unfold t
    rw [List.foldl_cons, List.foldl_nil, State.switchPrograms, List.foldl_cons, List.foldl_nil, hp]
    dsimp only
    refine switchBank_engine ?_
    rw [State.engine_setEngine, if_pos rfl]

theorem regionEffect_spec {r : ℕ} {x : Staged} (hsw : alGet s.str.switching r = some x) (hdue : s.effectDue r = true) :
    Does (.regionEffect r) s fun t =>
      t.str.switching = alDel s.str.switching r ∧
      (∀ y, x.secs = [y] →
        (∀ f, y.pay = .updGroups f → t.hif.grp = f) ∧ (∀ rows, y.pay = .portProfile rows → t.str.ports = rows) ∧
        (∀ rows, y.pay = .tenants rows → t.str.tenants = rows) ∧
        (∀ hz byp khz burn, y.pay = .synPlan hz byp khz burn →
          t.str.oscin = hz ∧ t.str.synBurn = burn ∧ t.get F.SYN_SPLL_ST_OSC_KHZ = hz / 1000 % 2 ^ F.SYN_SPLL_ST_OSC_KHZ.w) ∧
        (∀ p, y.pay = .prog p → (t.engine p.engine).live = some (State.progOf p) ∧ (t.engine p.engine).idle = none)) := by
  obtain ⟨u, hstr, heq⟩ := regionEffect_eq hsw hdue
  refine ⟨_, congrArg Host.Outcome.next heq, ?_, ?_⟩
  · rw [switchPrograms_str, foldl_keeps (φ := fun s => s.str.switching) putSection_switching x.secs u, hstr]
  · intro y hy
    rw [hy]
    exact regionEffect_section y

/-- Settles O32: a switch, its effect and the end of its drain each as the equation of the state they leave; the regions' words lie
beside one another. -/
theorem imageLoads : Obligations.ImageLoads :=
  ⟨fun _ _ _ hh hb => imagePush_busy hh hb, fun _ _ _ hh hb => imagePush_refused hh hb,
    fun _ _ _ hb hl hf hok => imageCheckDone_waits hb hl hf hok,
    fun _ _ _ _ h hr hst hsw hstate huse => genSwitch_acts h hr hst hsw hstate huse, fun _ _ _ _ h _ hst => genSwitch_unstaged h hst,
    fun _ _ _ hsw hdue => regionEffect_spec hsw hdue, fun _ _ hst hsw => drainEnd_spec hst hsw⟩

end Sys2Proof.Proofs
end

section
/-!
Reception and loop calibration (R258 to R264, R269, R270): what a received frame is counted as, the ends of a pause, and the start,
the frames and the ends of a loop run. A port's registers lie below 0x710000 and the loop's own words beside them.
-/

open Sys2Proof Sys2Proof.Machine Sys2Proof.Claims

namespace Sys2Proof.Proofs

variable {s : State}

/-! ## Statistics of a port -/

theorem ethStat_calm (s : State) (p k n : ℕ) : (s.ethStat p k n).calm = (s.add (F.ETH_STATS_COUNT p k) n).calm :=
  State.countN_calm ..

theorem ethStat_regs (s : State) (p k n : ℕ) : (s.ethStat p k n).regs = (s.add (F.ETH_STATS_COUNT p k) n).regs :=
  regs_of_calm (ethStat_calm s p k n)

theorem ethStat_eng (s : State) (p k n : ℕ) : (s.ethStat p k n).eng = s.eng := by
  rw [State.ethStat, State.countN_eng, State.add, State.set_eng]

theorem ethStat_eth (s : State) (p k n : ℕ) : (s.ethStat p k n).eth = s.eth := by
  rw [State.ethStat, State.countN_eth, State.add, State.set_eth]

theorem ethStat_time (s : State) (p k n : ℕ) : (s.ethStat p k n).time = s.time := by
  rw [State.ethStat, State.countN_time, State.add, State.set_time]

theorem ethStat_stat (s : State) (p k n : ℕ) : Stat s (s.ethStat p k n) p k n := by
  rw [Stat, State.ethStat, State.countN_get, State.add, State.get_set_self]

theorem ethStat_get (s : State) {p k : ℕ} (n : ℕ) {g : Fld} (h : Beside (F.ETH_STATS_COUNT p k) g) :
    (s.ethStat p k n).get g = s.get g := by
  rw [State.ethStat, State.countN_get, State.add, get_set_beside h]

theorem ethStat_sameRegs (s : State) (p k n : ℕ) : SameRegs (words [F.ETH_STATS_COUNT p k]) s (s.ethStat p k n) :=
  SameRegs.of_regs (SameRegs.set (SameRegs.refl _ s) _ (.of_mem (List.mem_singleton.mpr rfl))) (ethStat_regs s p k n)

theorem beside_stats (p : ℕ) {j k : ℕ} (h : j ≠ k) : Beside (F.ETH_STATS_COUNT p j) (F.ETH_STATS_COUNT p k) := by
  have hspan : ∀ k, Store.span (F.ETH_STATS_COUNT p k) = 2 := fun _ => by simp [Store.span]
  rcases Nat.lt_or_gt_of_ne h with h | h
  · exact .inr (.inl (by rw [hspan]; dsimp only; omega))
  · exact .inl (by rw [hspan]; dsimp only; omega)

theorem beside_stats_engState {p k : ℕ} (hp : p < 8) (hk : k < 2) : Beside (F.ETH_STATS_COUNT p k) (F.ENG_ST_STATE p) := by
  have hall : ∀ p < 8, ∀ k < 2, Beside (F.ETH_STATS_COUNT p k) (F.ENG_ST_STATE p) := by decide +kernel
  exact hall p hp k hk

/-! ## Reception -/

/-- A rejected frame is counted once and nothing else of it is left. -/
theorem rejected (s : State) (p k : ℕ) :
    Stat s (s.ethStat p k 1) p k 1 ∧ (s.ethStat p k 1).eng = s.eng ∧ SameRegs (words [F.ETH_STATS_COUNT p k]) s (s.ethStat p k 1) :=
  ⟨ethStat_stat s p k 1, ethStat_eng s p k 1, ethStat_sameRegs s p k 1⟩

/-- A frame that is counted as received waits for its port's engine, unless that is quenched. -/
def delivered (u : State) (p rts len bytes : ℕ) : State :=
  if u.engQuenched p then u.ethStat p 10 1
  else u.setEngine p { u.engine p with frames := (u.engine p).frames ++ [⟨p, len, bytes, rts / 65536 % 2 ^ 64, rts % 65536⟩] }


/-- The stages of reception after length and FCS, for any reading of pauses and of addresses: with the model's own in their place the
kernel would run both. -/
theorem acceptFrame_of {po : ℕ → Option ℕ} {da : State → ℕ → ℕ → Bool}
    (hpo : State.pauseOp = po) (hdp : State.daPasses = da)
    {p bytes : ℕ} (hop : po bytes = none) (rts len : ℕ) :
    s.acceptFrame p rts len bytes =
      if da s p bytes = false then s.ethStat p 6 1
      else if 262144 < s.bufferUsed p + len then s.ethStat p 7 1
      else delivered ((s.ethStat p 0 1).ethStat p 1 len) p rts len bytes := by
  generalize hf : State.acceptFrame = f
  delta State.acceptFrame at hf
  rw [hpo, hdp] at hf
  rw [← hf]
  beta_reduce
  rw [hop]
  cases da s p bytes <;> rfl

theorem acceptFrame_passed {p rts len bytes : ℕ} (hp : p < 8) (hop : State.pauseOp bytes = none) (hda : s.daPasses p bytes = true)
    (hroom : s.bufferUsed p + len ≤ 262144) :
    let t := s.acceptFrame p rts len bytes
    Stat s t p 0 1 ∧ Stat s t p 1 len ∧ (s.engQuenched p = true → Stat s t p 10 1 ∧ t.eng = s.eng) ∧
      (s.engQuenched p = false → t.engine p = { s.engine p with
        frames := (s.engine p).frames ++ [⟨p, len, bytes, rts / 65536 % 2 ^ 64, rts % 65536⟩] }) := by
  intro t
  have heng : ((s.ethStat p 0 1).ethStat p 1 len).eng = s.eng := (ethStat_eng ..).trans (ethStat_eng ..)
  have h0 : Stat s ((s.ethStat p 0 1).ethStat p 1 len) p 0 1 :=
    (ethStat_get _ len (beside_stats p (by decide))).trans (ethStat_stat s p 0 1)
  have h1 : Stat s ((s.ethStat p 0 1).ethStat p 1 len) p 1 len := by
    have h := ethStat_stat (s.ethStat p 0 1) p 1 len
    rw [Stat, ethStat_get s 1 (beside_stats p (by decide))] at h
    exact h
  have h10 : ((s.ethStat p 0 1).ethStat p 1 len).get (F.ETH_STATS_COUNT p 10) = s.get (F.ETH_STATS_COUNT p 10) :=
    (ethStat_get _ len (beside_stats p (by decide))).trans (ethStat_get s 1 (beside_stats p (by decide)))
  have hq : ((s.ethStat p 0 1).ethStat p 1 len).engQuenched p = s.engQuenched p := by
    rw [State.engQuenched, ethStat_get _ len (beside_stats_engState hp (by decide)),
      ethStat_get s 1 (beside_stats_engState hp (by decide)), State.engQuenched]
  have ht : t = delivered ((s.ethStat p 0 1).ethStat p 1 len) p rts len bytes := by
    refine (acceptFrame_of rfl rfl hop rts len).trans ?_
    rw [if_neg (by rw [hda]; decide), if_neg (Nat.not_lt.mpr hroom)]
  generalize (s.ethStat p 0 1).ethStat p 1 len = u at heng h0 h1 h10 hq ht
  clear_value t
  rw [delivered, hq] at ht
  cases hqs : s.engQuenched p with
  | true =>
    rw [hqs, if_pos rfl] at ht
    subst ht
    refine ⟨(ethStat_get u 1 (beside_stats p (by decide))).trans h0, (ethStat_get u 1 (beside_stats p (by decide))).trans h1,
      fun _ => ⟨?_, (ethStat_eng ..).trans heng⟩, fun h => absurd h (by decide)⟩
    have h := ethStat_stat u p 10 1
    rw [Stat, h10] at h
    exact h
  | false =>
    rw [hqs, if_neg (by decide)] at ht
    subst ht
    refine ⟨h0, h1, fun h => absurd h (by decide), fun _ => ?_⟩
    rw [State.engine_setEngine, if_pos rfl, State.engine, heng, ← State.engine]

theorem does_frameReceive {p tpcs len : ℕ} {fcs err : Bool} {bytes : ℕ} (h : PortIn s p 2) :
    let bad (k : ℕ) (t : State) : Prop := Stat s t p k 1 ∧ t.eng = s.eng ∧ SameRegs (words [F.ETH_STATS_COUNT p k]) s t
    let rts := ((tpcs : Int) - psToQ16 (s.getI (F.ETH_TS_LAT_RX_LAT p))).toNat
    let max := s.get (F.ETH_CFG_MAX_LEN p)
    Does (.frameReceive p tpcs len fcs err bytes) s fun t =>
      (err = true ∨ (len < 64 ∧ fcs = false) → bad 4 t) ∧
      (err = false → len < 64 → fcs = true → bad 3 t) ∧
      (err = false → 64 ≤ len → max < len → bad 5 t) ∧
      (err = false → 64 ≤ len → len ≤ max → fcs = false → bad 2 t) ∧
      (err = false → 64 ≤ len → len ≤ max → fcs = true → State.pauseOp bytes = none →
        (s.daPasses p bytes = false → bad 6 t) ∧
        (s.daPasses p bytes = true → 262144 < s.bufferUsed p + len → bad 7 t) ∧
        (s.daPasses p bytes = true → s.bufferUsed p + len ≤ 262144 →
          Stat s t p 0 1 ∧ Stat s t p 1 len ∧ (s.engQuenched p = true → Stat s t p 10 1 ∧ t.eng = s.eng) ∧
          (s.engQuenched p = false → t.engine p = { s.engine p with
            frames := (s.engine p).frames ++ [⟨p, len, bytes, rts / 65536 % 2 ^ 64, rts % 65536⟩] }))) := by
  intro bad rts max
  obtain ⟨hport, hst⟩ := h
  have hp : p < 8 := by
    rw [State.portPresent, Bool.and_eq_true, decide_eq_true_iff] at hport
    exact hport.1
  have heq : s.frameReceive p tpcs len fcs err bytes =
      if err || (len < 64 && !fcs) then s.ethStat p 4 1
      else if len < 64 then s.ethStat p 3 1
      else if max < len then s.ethStat p 5 1
      else if !fcs then s.ethStat p 2 1
      else s.acceptFrame p rts len bytes := by
    unfold State.frameReceive
    extract_lets st
    have hst' : st = 2 := hst
    rw [if_neg (by simp [hport, hst']), if_neg (c := st = 4) (by rw [hst']; decide)]
  refine ⟨_, congrArg Host.Outcome.next heq, ?_, ?_, ?_, ?_, ?_⟩
  · intro hbad
    rw [if_pos (by rcases hbad with h | ⟨h, k⟩ <;> simp [*])]
    exact rejected s p 4
  · intro he hl hf
    rw [if_neg (by simp [he, hf]), if_pos hl]
    exact rejected s p 3
  · intro he hl hm
    rw [if_neg (by simp [he]; omega), if_neg (by omega), if_pos hm]
    exact rejected s p 5
  · intro he hl hm hf
    rw [if_neg (by simp [he]; omega), if_neg (by omega), if_neg (by omega), if_pos (by simp [hf])]
    exact rejected s p 2
  · intro he hl hm hf hop
    rw [if_neg (by simp [he]; omega), if_neg (by omega), if_neg (by omega), if_neg (by simp [hf])]
    refine ⟨fun hda => ?_, fun hda hfull => ?_, fun hda hroom => acceptFrame_passed hp hop hda hroom⟩
    · have hrej : s.acceptFrame p rts len bytes = s.ethStat p 6 1 := by
        exact (acceptFrame_of rfl rfl hop rts len).trans (if_pos hda)
      rw [hrej]
      exact rejected s p 6
    · have hrej : s.acceptFrame p rts len bytes = s.ethStat p 7 1 := by
        refine (acceptFrame_of rfl rfl hop rts len).trans ?_
        rw [if_neg (by rw [hda]; decide), if_pos hfull]
      rw [hrej]
      exact rejected s p 7

/-! ## The ends of a pause -/

theorem port_setPort (s : State) (p : ℕ) (x : PortSt) : (s.setPort p x).port p = x := by
  rw [State.port, State.setPort, alGet_alSet, if_pos rfl]
  rfl

theorem port_of_eth {t : State} (h : t.eth = s.eth) (p : ℕ) : t.port p = s.port p := by rw [State.port, h, State.port]

theorem port_runTo (s : State) (n p : ℕ) : (s.runTo n).port p = s.port p := port_of_eth (by rw [runTo_eq]) p

theorem does_pauseEnd {p k : ℕ} {z : Pause} (hz : alGet (s.port p).pauses k = some z) (hrun : s.time.running = true) :
    Does (.pauseEnd p k) s fun t =>
      t.port p = { s.port p with pauses := alDel (s.port p).pauses k } ∧ t.time = (s.runTo (ceilDiv z.until_ 1000)).time ∧
      SameRegs [] s t := by
  have hexec : exec (.pauseEnd p k) s = .next ((s.runTo (ceilDiv z.until_ 1000)).setPort p
      { (s.runTo (ceilDiv z.until_ 1000)).port p with pauses := alDel ((s.runTo (ceilDiv z.until_ 1000)).port p).pauses k }) := by
    refine congrArg Host.Outcome.next ?_
    rw [hz]
    exact if_pos hrun
  have hregs := regs_runTo s (ceilDiv z.until_ 1000)
  have hport := port_runTo s (ceilDiv z.until_ 1000) p
  generalize s.runTo (ceilDiv z.until_ 1000) = u at hexec hregs hport
  exact ⟨_, hexec, by rw [port_setPort, hport], rfl, SameRegs.of_eq hregs⟩

theorem does_pauseWatchdog {p k : ℕ} {z : Pause} (hz : alGet (s.port p).pauses k = some z) (hrun : s.time.running = true)
    (hdue : 1000 * (z.since + 1000 * s.get (F.ETH_PAUSE_WD_WD p)) ≤ z.until_) :
    Does (.pauseWatchdog p k) s fun t =>
      t.port p = { s.port p with pauses := alDel (s.port p).pauses k } ∧ Stat s t p 21 1 ∧
      t.time = (s.runTo (z.since + 1000 * s.get (F.ETH_PAUSE_WD_WD p))).time ∧ SameRegs (words [F.ETH_STATS_COUNT p 21]) s t := by
  have hexec : exec (.pauseWatchdog p k) s = .next (((s.runTo (z.since + 1000 * s.get (F.ETH_PAUSE_WD_WD p))).setPort p
      { (s.runTo (z.since + 1000 * s.get (F.ETH_PAUSE_WD_WD p))).port p with
        pauses := alDel ((s.runTo (z.since + 1000 * s.get (F.ETH_PAUSE_WD_WD p))).port p).pauses k }).ethStat p 21 1) := by
    refine congrArg Host.Outcome.next ?_
    rw [hz]
    exact if_pos (by rw [hrun, decide_eq_true hdue]; decide)
  have hregs := regs_runTo s (z.since + 1000 * s.get (F.ETH_PAUSE_WD_WD p))
  have hport := port_runTo s (z.since + 1000 * s.get (F.ETH_PAUSE_WD_WD p)) p
  generalize s.runTo (z.since + 1000 * s.get (F.ETH_PAUSE_WD_WD p)) = u at hexec hregs hport ⊢
  rw [hport] at hexec
  have hregs' : (u.setPort p { s.port p with pauses := alDel (s.port p).pauses k }).regs = s.regs := hregs
  have hport' := port_setPort u p { s.port p with pauses := alDel (s.port p).pauses k }
  have htime : (u.setPort p { s.port p with pauses := alDel (s.port p).pauses k }).time = u.time := rfl
  generalize u.setPort p { s.port p with pauses := alDel (s.port p).pauses k } = v at hexec hregs' hport' htime
  refine ⟨_, hexec, (port_of_eth (ethStat_eth ..) p).trans hport', ?_, (ethStat_time ..).trans htime, ?_⟩
  · have h := ethStat_stat v p 21 1
    rw [Stat, get_of_regs hregs'] at h
    exact h
  · exact SameRegs.trans (SameRegs.of_eq hregs') (ethStat_sameRegs v p 21 1)

/-! ## Loop runs -/

theorem beside_symm {f g : Fld} (h : Beside f g) : Beside g f := by
  rcases h with h | h | ⟨ha, hs, hd⟩
  · exact .inr (.inl h)
  · exact .inl h
  · exact .inr (.inr ⟨ha.symm, hs.symm, hd.symm⟩)

/-- The words of a loop run's result. -/
def loopFlds : List Fld :=
  [F.ETH_LOOP_ST_STATE, F.ETH_LOOP_ST_CAUSE, F.ETH_LOOP_ST_NOK, F.ETH_LOOP_ST_R_AB, F.ETH_LOOP_ST_R_BA, F.ETH_LOOP_ST_RMS_AB,
    F.ETH_LOOP_ST_RMS_BA, F.ETH_LOOP_ST_T_DONE]

theorem loop_beside {f g : Fld} (hf : f ∈ loopFlds) (hg : g ∈ loopFlds) (hne : f ≠ g) : Beside f g := by
  have hall : ∀ f ∈ loopFlds, ∀ g ∈ loopFlds, f ≠ g → Beside f g := by decide +kernel
  exact hall f hf g hg hne

theorem portState_beside {p : ℕ} (hp : p < 8) {g : Fld} (hg : g ∈ loopFlds) : Beside (F.ETH_ST_STATE p) g := by
  have hall : ∀ p < 8, ∀ g ∈ loopFlds, Beside (F.ETH_ST_STATE p) g := by decide +kernel
  exact hall p hp g hg

theorem portStates_beside {p q : ℕ} (hp : p < 8) (hq : q < 8) (hne : p ≠ q) : Beside (F.ETH_ST_STATE p) (F.ETH_ST_STATE q) := by
  have hall : ∀ p < 8, ∀ q < 8, p ≠ q → Beside (F.ETH_ST_STATE p) (F.ETH_ST_STATE q) := by decide +kernel
  exact hall p hp q hq hne

theorem portState_set (s : State) {p q : ℕ} (hp : p < 8) (hq : q < 8) (v : ℕ) :
    (s.set (F.ETH_ST_STATE p) v).portState q = if q = p then v % 2 ^ 3 else s.portState q := by
  unfold State.portState
  split
  next h => rw [h, State.get_set_self]
  next h => exact get_set_beside (portStates_beside hp hq (Ne.symm h)) s v

/-- Both ports of a loop run show a state. -/
theorem ports_set (s : State) {a b v : ℕ} (ha : a < 8) (hb : b < 8) (hv : v < 8) :
    ((s.set (F.ETH_ST_STATE a) v).set (F.ETH_ST_STATE b) v).portState a = v ∧
    ((s.set (F.ETH_ST_STATE a) v).set (F.ETH_ST_STATE b) v).portState b = v := by
  have hmod : v % 2 ^ 3 = v := Nat.mod_eq_of_lt hv
  rw [portState_set _ hb ha, portState_set _ hb hb, portState_set _ ha ha, hmod, if_pos rfl, if_pos rfl]
  exact ⟨ite_self v, rfl⟩

theorem ports_set_loop (s : State) {a b v : ℕ} (ha : a < 8) (hb : b < 8) {g : Fld} (hg : g ∈ loopFlds) :
    ((s.set (F.ETH_ST_STATE a) v).set (F.ETH_ST_STATE b) v).get g = s.get g :=
  (get_set_beside (portState_beside hb hg) _ v).trans (get_set_beside (portState_beside ha hg) s v)

/-- The conditions of a loop run's start (R269). -/
def mayLoop (s : State) : Bool :=
  s.feat 17 && decide (s.get F.ETH_LOOP_CFG_PORT_A ≠ s.get F.ETH_LOOP_CFG_PORT_B) &&
    decide (s.portState (s.get F.ETH_LOOP_CFG_PORT_A) = 2) && decide (s.portState (s.get F.ETH_LOOP_CFG_PORT_B) = 2) && s.eth.loop.isNone

/-- A run of a GO: its ports, number, frames and start. -/
def newRun (s : State) : LoopRun :=
  ⟨s.get F.ETH_LOOP_CFG_PORT_A, s.get F.ETH_LOOP_CFG_PORT_B, s.eth.runs % 2 ^ 32, s.get F.ETH_LOOP_CFG_N, s.ns, 0, [], [], []⟩

theorem loopGo_eq (s : State) : s.loopGo = if mayLoop s then
    (((({ s with eth := { s.eth with loop := some (newRun s), runs := s.eth.runs + 1 } } : State).set F.ETH_LOOP_ST_STATE 1).set
      F.ETH_LOOP_ST_CAUSE 0).set (F.ETH_ST_STATE (s.get F.ETH_LOOP_CFG_PORT_A)) 4).set (F.ETH_ST_STATE (s.get F.ETH_LOOP_CFG_PORT_B)) 4
    else s.set F.ETH_LOOP_ST_CAUSE 4 := by
  unfold State.loopGo
  extract_lets a b run r
  have hcond : (!s.feat 17 || decide (a = b) || decide (s.portState a ≠ 2) || decide (s.portState b ≠ 2) || s.eth.loop.isSome) =
      !mayLoop s := by
    cases h : s.eth.loop <;> simp [mayLoop, h, a, b]
  rw [hcond]
  cases hm : mayLoop s
  · rw [if_pos (by decide), if_neg (by decide)]
  · rw [if_neg (by decide), if_pos rfl]
    rfl

theorem does_loopGo (hheld : s.pow.held = false) :
    let a := s.get F.ETH_LOOP_CFG_PORT_A
    let b := s.get F.ETH_LOOP_CFG_PORT_B
    Does .loopGo s fun t =>
      (mayLoop s = true → t.eth.loop = some ⟨a, b, s.eth.runs % 2 ^ 32, s.get F.ETH_LOOP_CFG_N, s.ns, 0, [], [], []⟩ ∧
        t.portState a = 4 ∧ t.portState b = 4 ∧ t.get F.ETH_LOOP_ST_STATE = 1 ∧ t.get F.ETH_LOOP_ST_CAUSE = 0) ∧
      (mayLoop s = false → t.get F.ETH_LOOP_ST_CAUSE = 4 ∧ Only [F.ETH_LOOP_ST_CAUSE] id s t) := by
  intro a b
  have hexec : exec .loopGo s = .next s.loopGo := congrArg Host.Outcome.next (awake_of hheld _)
  have ha : a < 8 := State.get_lt s _
  have hb : b < 8 := State.get_lt s _
  refine ⟨_, hexec, fun hm => ?_, fun hm => ?_⟩
  · rw [loopGo_eq, if_pos hm]
    have hloop : ({ s with eth := { s.eth with loop := some (newRun s), runs := s.eth.runs + 1 } } : State).eth.loop =
      some (newRun s) := rfl
    generalize ({ s with eth := { s.eth with loop := some (newRun s), runs := s.eth.runs + 1 } } : State) = u at hloop ⊢
    obtain ⟨hpa, hpb⟩ := ports_set ((u.set F.ETH_LOOP_ST_STATE 1).set F.ETH_LOOP_ST_CAUSE 0) ha hb (show 4 < 8 by decide)
    refine ⟨?_, hpa, hpb, ?_, ?_⟩
    · rw [State.set_eth, State.set_eth, State.set_eth, State.set_eth, hloop]
      rfl
    · rw [ports_set_loop _ ha hb (by simp [loopFlds]), get_set_beside (loop_beside (by simp [loopFlds]) (by simp [loopFlds]) (by simp)),
        State.get_set_self]
      rfl
    · rw [ports_set_loop _ ha hb (by simp [loopFlds]), State.get_set_self]
      rfl
  · rw [loopGo_eq, if_neg (by rw [hm]; decide)]
    exact ⟨State.get_set_self s _ 4, Only.set (Only.refl _ s) 4 (.of_mem (List.mem_singleton.mpr rfl))⟩

/-- A port in LOOP_CAL goes back to UP. -/
def returned (s : State) (p : ℕ) : State := if s.portState p = 4 then s.set (F.ETH_ST_STATE p) 2 else s

theorem returned_facts (s : State) {p : ℕ} (hp : p < 8) :
    (∀ g ∈ loopFlds, (returned s p).get g = s.get g) ∧ (returned s p).eth = s.eth ∧ (returned s p).time = s.time ∧
    ∀ q < 8, (returned s p).portState q = if q = p ∧ s.portState p = 4 then 2 else s.portState q := by
  unfold returned
  split
  next h =>
    refine ⟨fun g hg => get_set_beside (portState_beside hp hg) s 2, State.set_eth .., State.set_time .., fun q hq => ?_⟩
    rw [portState_set s hp hq]
    by_cases hqp : q = p
    · rw [if_pos hqp, if_pos ⟨hqp, h⟩]
      rfl
    · rw [if_neg hqp, if_neg fun hc => hqp hc.1]
  next h => exact ⟨fun _ _ => rfl, rfl, rfl, fun q _ => (if_neg fun hc => h hc.2).symm⟩

/-- Ports in LOOP_CAL both go back to UP, the same one twice no further. -/
theorem returned_both {a b : ℕ} (ha : a < 8) (hb : b < 8) (hpa : s.portState a = 4) (hpb : s.portState b = 4) :
    (returned (returned s a) b).portState a = 2 ∧ (returned (returned s a) b).portState b = 2 := by
  have h1 := (returned_facts s ha).2.2.2
  have h2 := (returned_facts (returned s a) hb).2.2.2
  rw [h2 a ha, h2 b hb, h1 a ha, h1 b hb, hpa, hpb]
  by_cases hab : b = a
  · simp [hab]
  · simp [hab, Ne.symm hab]

/-- The run is over, with a cause and an instant; both ports are still held. -/
def halted (s : State) (c : ℕ) : State :=
  ((({ s with eth := { s.eth with loop := none } } : State).set F.ETH_LOOP_ST_STATE 3).set F.ETH_LOOP_ST_CAUSE c).set
    F.ETH_LOOP_ST_T_DONE s.short

theorem halted_facts (s : State) (c : ℕ) :
    (halted s c).eth = { s.eth with loop := none } ∧ (halted s c).time = s.time ∧ (halted s c).get F.ETH_LOOP_ST_STATE = 3 ∧
    (halted s c).get F.ETH_LOOP_ST_CAUSE = c % 2 ^ 3 ∧ (halted s c).get F.ETH_LOOP_ST_T_DONE = s.short ∧
    ∀ p < 8, (halted s c).portState p = s.portState p := by
  have hb : ∀ {f g}, f ∈ loopFlds → g ∈ loopFlds → f ≠ g → ∀ (u : State) v, (u.set f v).get g = u.get g :=
    fun hf hg hne u v => get_set_beside (loop_beside hf hg hne) u v
  have hport : ∀ f ∈ loopFlds, ∀ p < 8, ∀ (u : State) v, (u.set f v).portState p = u.portState p := fun f hf p hp u v =>
    get_set_beside (beside_symm (portState_beside hp hf)) u v
  unfold halted
  have hregs : ({ s with eth := { s.eth with loop := none } } : State).regs = s.regs := rfl
  have htime : ({ s with eth := { s.eth with loop := none } } : State).time = s.time := rfl
  have heth : ({ s with eth := { s.eth with loop := none } } : State).eth = { s.eth with loop := none } := rfl
  generalize ({ s with eth := { s.eth with loop := none } } : State) = u at hregs htime heth ⊢
  refine ⟨?_, ?_, ?_, ?_, ?_, fun p hp => ?_⟩
  · rw [State.set_eth, State.set_eth, State.set_eth, heth]
  · rw [State.set_time, State.set_time, State.set_time, htime]
  · rw [hb, hb, State.get_set_self] <;> simp [loopFlds]
  · rw [hb, State.get_set_self] <;> simp [loopFlds]
  · rw [State.get_set_self]
    exact Nat.mod_eq_of_lt (Nat.mod_lt _ (by positivity))
  · rw [hport _ (by simp [loopFlds]) p hp, hport _ (by simp [loopFlds]) p hp, hport _ (by simp [loopFlds]) p hp]
    exact get_of_regs hregs _

theorem loopAbort_eq {r : LoopRun} (hr : s.eth.loop = some r) (c : ℕ) :
    s.loopAbort c = ((returned (returned (halted s c) r.a) r.b).count (0x3C0 + 32 * r.a + 23)).count (0x3C0 + 32 * r.b + 23) := by
  unfold State.loopAbort
  rw [hr]
  rfl

/-- A run that stops names its cause and gives both ports back. -/
theorem loopAbort_facts {r : LoopRun} (hr : s.eth.loop = some r) (ha : r.a < 8) (hb : r.b < 8) (c : ℕ) :
    (s.loopAbort c).eth = { s.eth with loop := none } ∧ (s.loopAbort c).time = s.time ∧
    (s.loopAbort c).get F.ETH_LOOP_ST_STATE = 3 ∧ (s.loopAbort c).get F.ETH_LOOP_ST_CAUSE = c % 2 ^ 3 ∧
    (s.loopAbort c).get F.ETH_LOOP_ST_T_DONE = s.short ∧
    (s.portState r.a = 4 → s.portState r.b = 4 → (s.loopAbort c).portState r.a = 2 ∧ (s.loopAbort c).portState r.b = 2) := by
  obtain ⟨heth, htime, hst, hcause, hdone, hports⟩ := halted_facts s c
  rw [loopAbort_eq hr]
  generalize halted s c = u at heth htime hst hcause hdone hports ⊢
  obtain ⟨hg1, he1, ht1, -⟩ := returned_facts u ha
  obtain ⟨hg2, he2, ht2, -⟩ := returned_facts (returned u r.a) hb
  have hcalm : ((((returned (returned u r.a) r.b).count (0x3C0 + 32 * r.a + 23)).count (0x3C0 + 32 * r.b + 23)).calm) =
      (returned (returned u r.a) r.b).calm := (State.count_calm ..).trans (State.count_calm ..)
  have hget := fun f => get_of_regs (regs_of_calm hcalm) f
  have hboth := returned_both (s := u) ha hb
  have hethc := congrArg State.eth hcalm
  have htimec := time_of_calm hcalm
  generalize returned (returned u r.a) r.b = v at hg2 he2 ht2 hcalm hget hboth hethc htimec ⊢
  have hall : ∀ g ∈ loopFlds, v.get g = u.get g := fun g hg => (hg2 g hg).trans (hg1 g hg)
  refine ⟨hethc.trans (he2.trans (he1.trans heth)), htimec.trans (ht2.trans (ht1.trans htime)), ?_, ?_, ?_, fun hpa hpb => ?_⟩
  · rw [hget, ← State.get, hall _ (by simp [loopFlds]), hst]
  · rw [hget, ← State.get, hall _ (by simp [loopFlds]), hcause]
  · rw [hget, ← State.get, hall _ (by simp [loopFlds]), hdone]
  · obtain ⟨h2a, h2b⟩ := hboth ((hports _ ha).trans hpa) ((hports _ hb).trans hpb)
    exact ⟨(hget _).trans h2a, (hget _).trans h2b⟩

theorem does_loopAbort {r : LoopRun} (hheld : s.pow.held = false) (hr : s.eth.loop = some r) (ha : r.a < 8) (hb : r.b < 8)
    (hpa : s.portState r.a = 4) (hpb : s.portState r.b = 4) :
    Does .loopAbort s fun t =>
      t.eth = { s.eth with loop := none } ∧ t.portState r.a = 2 ∧ t.portState r.b = 2 ∧ t.get F.ETH_LOOP_ST_STATE = 3 ∧
      t.get F.ETH_LOOP_ST_CAUSE = 5 ∧ t.get F.ETH_LOOP_ST_T_DONE = s.short := by
  obtain ⟨heth, -, hst, hcause, hdone, hports⟩ := loopAbort_facts hr ha hb 5
  obtain ⟨h2a, h2b⟩ := hports hpa hpb
  have hexec : exec .loopAbort s = .next (s.loopAbort 5) := congrArg Host.Outcome.next (awake_of hheld fun s => s.loopAbort 5)
  exact ⟨_, hexec, heth, h2a, h2b, hst, hcause, hdone⟩

theorem does_loopTimeout {r : LoopRun} (hr : s.eth.loop = some r) (hmiss : r.ab.length < r.n ∨ r.ba.length < r.n)
    (hrun : s.time.running = true) (ha : r.a < 8) (hb : r.b < 8) :
    Does .loopTimeout s fun t =>
      t.eth = { s.eth with loop := none } ∧ t.get F.ETH_LOOP_ST_STATE = 3 ∧ t.get F.ETH_LOOP_ST_CAUSE = 3 ∧
      t.time = (s.runTo (r.goAt + 2000 * r.n + 1000000)).time := by
  have hexec : exec .loopTimeout s = .next ((s.runTo (r.goAt + 2000 * r.n + 1000000)).loopAbort 3) := by
    refine congrArg Host.Outcome.next ?_
    rw [hr]
    exact if_pos (by rw [hrun]; simpa using hmiss)
  have heth0 : (s.runTo (r.goAt + 2000 * r.n + 1000000)).eth = s.eth := by rw [runTo_eq]
  generalize s.runTo (r.goAt + 2000 * r.n + 1000000) = u at hexec heth0
  obtain ⟨heth, htime, hst, hcause, -, -⟩ := loopAbort_facts (by rw [heth0, hr]) ha hb 3
  exact ⟨_, hexec, heth.trans (by rw [heth0]), hst, hcause, htime⟩

theorem ofSigned_mod (w : ℕ) (v : ℤ) : ofSigned w v % 2 ^ w = ofSigned w v := by
  have hpos : (0 : ℤ) < (2 ^ w : ℕ) := by positivity
  refine Nat.mod_eq_of_lt ?_
  rw [ofSigned, Int.toNat_lt (Int.emod_nonneg _ hpos.ne')]
  exact Int.emod_lt_of_pos _ hpos

/-- The words of a finished run, for the means and RMS values of both directions. -/
def shown (s : State) (n : ℕ) (x y : ℤ × ℕ) : State :=
  ((((((s.set F.ETH_LOOP_ST_STATE 2).set F.ETH_LOOP_ST_NOK n).setI F.ETH_LOOP_ST_R_AB x.1).setI F.ETH_LOOP_ST_R_BA y.1).set
    F.ETH_LOOP_ST_RMS_AB x.2).set F.ETH_LOOP_ST_RMS_BA y.2).set F.ETH_LOOP_ST_T_DONE s.short

theorem shown_facts (s : State) (n : ℕ) (x y : ℤ × ℕ) :
    (shown s n x y).eth = s.eth ∧ (shown s n x y).get F.ETH_LOOP_ST_STATE = 2 ∧ (shown s n x y).get F.ETH_LOOP_ST_NOK = n % 2 ^ 16 ∧
    (shown s n x y).get F.ETH_LOOP_ST_R_AB = ofSigned 32 x.1 ∧ (shown s n x y).get F.ETH_LOOP_ST_R_BA = ofSigned 32 y.1 ∧
    (shown s n x y).get F.ETH_LOOP_ST_RMS_AB = x.2 % 2 ^ 32 ∧ (shown s n x y).get F.ETH_LOOP_ST_RMS_BA = y.2 % 2 ^ 32 ∧
    (shown s n x y).get F.ETH_LOOP_ST_T_DONE = s.short := by
  have hb : ∀ {f g}, f ∈ loopFlds → g ∈ loopFlds → f ≠ g → ∀ (u : State) v, (u.set f v).get g = u.get g :=
    fun hf hg hne u v => get_set_beside (loop_beside hf hg hne) u v
  have hshort : s.short % 2 ^ 64 = s.short := Nat.mod_mod _ _
  unfold shown State.setI
  generalize s.short = v at hshort ⊢
  refine ⟨?_, ?_, ?_, ?_, ?_, ?_, ?_, ?_⟩
  · rw [State.set_eth, State.set_eth, State.set_eth, State.set_eth, State.set_eth, State.set_eth, State.set_eth]
  · rw [hb, hb, hb, hb, hb, hb, State.get_set_self] <;> simp [loopFlds]
  · rw [hb, hb, hb, hb, hb, State.get_set_self] <;> simp [loopFlds]
  · rw [hb, hb, hb, hb, State.get_set_self, ofSigned_mod] <;> simp [loopFlds]
  · rw [hb, hb, hb, State.get_set_self, ofSigned_mod] <;> simp [loopFlds]
  · rw [hb, hb, State.get_set_self] <;> simp [loopFlds]
  · rw [hb, State.get_set_self] <;> simp [loopFlds]
  · rw [State.get_set_self, hshort]

/-- A run's end, for its means and RMS values x and y. -/
def ended (s : State) (r : LoopRun) (x y : ℤ × ℕ) : State :=
  ((((shown { s with eth := { s.eth with loop := none } } r.n x y).set (F.ETH_ST_STATE r.a) 2).set (F.ETH_ST_STATE r.b) 2).count
    (0x3C0 + 32 * r.a + 23)).count (0x3C0 + 32 * r.b + 23)

theorem loopEnd_eq {r : LoopRun} (hr : s.eth.loop = some r) (ha : r.ab.length = r.n) (hb : r.ba.length = r.n) :
    s.loopEnd = ended s r (State.loopResult r.ab (s.getI F.ETH_LOOP_FIB_FIB_AB))
      (State.loopResult r.ba (s.getI F.ETH_LOOP_FIB_FIB_BA)) := by
  unfold State.loopEnd
  rw [hr]
  dsimp only
  rw [if_pos (by simp [ha, hb])]
  generalize State.loopResult r.ab (s.getI F.ETH_LOOP_FIB_FIB_AB) = x
  generalize State.loopResult r.ba (s.getI F.ETH_LOOP_FIB_FIB_BA) = y
  rfl

theorem ended_facts (s : State) {r : LoopRun} (x y : ℤ × ℕ) (ha : r.a < 8) (hb : r.b < 8) :
    (ended s r x y).eth = { s.eth with loop := none } ∧ (ended s r x y).portState r.a = 2 ∧ (ended s r x y).portState r.b = 2 ∧
    (ended s r x y).get F.ETH_LOOP_ST_STATE = 2 ∧ (ended s r x y).get F.ETH_LOOP_ST_NOK = r.n % 2 ^ 16 ∧
    (ended s r x y).get F.ETH_LOOP_ST_R_AB = ofSigned 32 x.1 ∧ (ended s r x y).get F.ETH_LOOP_ST_R_BA = ofSigned 32 y.1 ∧
    (ended s r x y).get F.ETH_LOOP_ST_RMS_AB = x.2 % 2 ^ 32 ∧ (ended s r x y).get F.ETH_LOOP_ST_RMS_BA = y.2 % 2 ^ 32 ∧
    (ended s r x y).get F.ETH_LOOP_ST_T_DONE = s.short := by
  have hshort : ({ s with eth := { s.eth with loop := none } } : State).short = s.short := by
    rw [State.short, State.ns, State.short, State.ns]
  unfold ended
  obtain ⟨heth, hst, hn, hrab, hrba, hmab, hmba, hdone⟩ := shown_facts { s with eth := { s.eth with loop := none } } r.n x y
  rw [hshort] at hdone
  generalize shown { s with eth := { s.eth with loop := none } } r.n x y = u at heth hst hn hrab hrba hmab hmba hdone ⊢
  have hcalm : (((((u.set (F.ETH_ST_STATE r.a) 2).set (F.ETH_ST_STATE r.b) 2).count (0x3C0 + 32 * r.a + 23)).count
      (0x3C0 + 32 * r.b + 23)).calm) = ((u.set (F.ETH_ST_STATE r.a) 2).set (F.ETH_ST_STATE r.b) 2).calm :=
    (State.count_calm ..).trans (State.count_calm ..)
  have hget := fun f => get_of_regs (regs_of_calm hcalm) f
  have hethc := congrArg State.eth hcalm
  obtain ⟨h2a, h2b⟩ := ports_set u ha hb (show 2 < 8 by decide)
  have hl := fun g hg => ports_set_loop u (v := 2) ha hb (g := g) hg
  have hwe : ((u.set (F.ETH_ST_STATE r.a) 2).set (F.ETH_ST_STATE r.b) 2).eth = u.eth := (State.set_eth ..).trans (State.set_eth ..)
  generalize (u.set (F.ETH_ST_STATE r.a) 2).set (F.ETH_ST_STATE r.b) 2 = w at hget hethc h2a h2b hl hwe ⊢
  have hall : ∀ g ∈ loopFlds, ((w.count (0x3C0 + 32 * r.a + 23)).count (0x3C0 + 32 * r.b + 23)).get g = u.get g := fun g hg =>
    (hget g).trans (hl g hg)
  refine ⟨hethc.trans (hwe.trans heth), (hget _).trans h2a, (hget _).trans h2b, ?_, ?_, ?_, ?_, ?_, ?_, ?_⟩
  · exact (hall _ (by simp [loopFlds])).trans hst
  · exact (hall _ (by simp [loopFlds])).trans hn
  · exact (hall _ (by simp [loopFlds])).trans hrab
  · exact (hall _ (by simp [loopFlds])).trans hrba
  · exact (hall _ (by simp [loopFlds])).trans hmab
  · exact (hall _ (by simp [loopFlds])).trans hmba
  · exact (hall _ (by simp [loopFlds])).trans hdone

theorem does_loopRunEnd {r : LoopRun} (hr : s.eth.loop = some r) (hab : r.ab.length = r.n) (hba : r.ba.length = r.n) (ha : r.a < 8)
    (hb : r.b < 8) :
    let x := State.loopResult r.ab (s.getI F.ETH_LOOP_FIB_FIB_AB)
    let y := State.loopResult r.ba (s.getI F.ETH_LOOP_FIB_FIB_BA)
    Does .loopRunEnd s fun t =>
      t.eth = { s.eth with loop := none } ∧ t.portState r.a = 2 ∧ t.portState r.b = 2 ∧ t.get F.ETH_LOOP_ST_STATE = 2 ∧
      t.get F.ETH_LOOP_ST_NOK = r.n % 2 ^ 16 ∧ t.get F.ETH_LOOP_ST_R_AB = ofSigned 32 x.1 ∧
      t.get F.ETH_LOOP_ST_R_BA = ofSigned 32 y.1 ∧ t.get F.ETH_LOOP_ST_RMS_AB = x.2 % 2 ^ 32 ∧
      t.get F.ETH_LOOP_ST_RMS_BA = y.2 % 2 ^ 32 ∧ t.get F.ETH_LOOP_ST_T_DONE = s.short :=
  ⟨_, congrArg Host.Outcome.next (loopEnd_eq hr hab hba), ended_facts s _ _ ha hb⟩

theorem ethStat_out (s : State) (p k n : ℕ) : ∀ x ∈ s.out, x ∈ (s.ethStat p k n).out := by
  have hadd : (s.add (F.ETH_STATS_COUNT p k) n).out = s.out := State.set_out ..
  intro x hx
  exact (Outlives.countN (s.add (F.ETH_STATS_COUNT p k) n) (0x3C0 + 32 * p + k) n).1 x (hadd ▸ hx)

theorem devid_stats {p : ℕ} (hp : p < 8) (k : ℕ) (hk : k < 32) : Beside (F.ETH_STATS_COUNT p k) F.SYS_STRAP_DEVID := by
  have hall : ∀ p < 8, ∀ k < 32, Beside (F.ETH_STATS_COUNT p k) F.SYS_STRAP_DEVID := by decide +kernel
  exact hall p hp k hk

/-- What the launch of a loop frame of port p at an instant keeps, with the frame and its instant l in ps. -/
structure LoopSent (s t : State) (r : LoopRun) (at_ p : ℕ) : Prop where
  time : t.time = s.time
  devid : t.get F.SYS_STRAP_DEVID = s.get F.SYS_STRAP_DEVID
  out : ∀ x ∈ s.out, x ∈ t.out
  frame : ∃ l, 1000 * at_ ≤ l ∧ Sends t (.frame p 4 64 l false (.loop (s.get F.SYS_STRAP_DEVID) r.run r.sent))
  loop : ∀ q, s.eth.loop = some q → ∃ q', t.eth.loop = some q' ∧ q'.sent = q.sent ∧ q'.ab = q.ab ∧ q'.ba = q.ba

theorem le_gridUp (g r x : ℕ) : x ≤ gridUp g r x := Nat.le_add_right x _

theorem loopLaunch_sent (s : State) (r : LoopRun) (at_ : ℕ) {p : ℕ} (hp : p < 8) : LoopSent s (s.loopLaunch r at_ p) r at_ p := by
  unfold State.loopLaunch
  extract_lets rate x l u v
  have hl : 1000 * at_ ≤ l := (le_max_left _ _).trans (le_gridUp ..)
  clear_value l
  have htime : v.time = s.time := (ethStat_time ..).trans (ethStat_time ..)
  have heth : v.eth = u.eth := (ethStat_eth ..).trans (ethStat_eth ..)
  have hloop : u.eth.loop = s.eth.loop := rfl
  have hdev : v.get F.SYS_STRAP_DEVID = s.get F.SYS_STRAP_DEVID :=
    (ethStat_get _ 64 (devid_stats hp 12 (by decide))).trans (ethStat_get _ 1 (devid_stats hp 11 (by decide)))
  have hout : ∀ x ∈ (u.emitOut (.frame p 4 64 l false (.loop (u.get F.SYS_STRAP_DEVID) r.run r.sent))).out, x ∈ v.out := fun x hx =>
    ethStat_out _ p 12 64 x (ethStat_out _ p 11 1 x hx)
  have hframe : Sends v (.frame p 4 64 l false (.loop (s.get F.SYS_STRAP_DEVID) r.run r.sent)) := hout _ (List.mem_cons_self ..)
  have hkeep : ∀ x ∈ s.out, x ∈ v.out := fun x hx => hout x (List.mem_cons_of_mem _ hx)
  clear_value v
  split
  next q hq =>
    refine ⟨htime, hdev, hkeep, ⟨l, hl, hframe⟩, fun q0 hq0 => ⟨_, rfl, ?_⟩⟩
    rw [heth, hloop, hq0] at hq
    cases hq
    exact ⟨rfl, rfl, rfl⟩
  next hnone =>
    refine ⟨htime, hdev, hkeep, ⟨l, hl, hframe⟩, fun q0 hq0 => ?_⟩
    rw [heth, hloop, hq0] at hnone
    cases hnone

/-- The run has one more frame behind it. -/
def sentOne (s : State) : State :=
  match s.eth.loop with
  | some q => { s with eth := { s.eth with loop := some { q with sent := q.sent + 1 } } }
  | none => s

theorem does_loopFrameLaunch {r : LoopRun} (hr : s.eth.loop = some r) (hleft : r.sent < r.n) (hrun : s.time.running = true)
    (ha : r.a < 8) (hb : r.b < 8) :
    Does .loopFrameLaunch s fun t =>
      t.time = (s.runTo (r.goAt + 10000 + 1000 * r.sent)).time ∧
      (∃ q, t.eth.loop = some q ∧ q.sent = r.sent + 1 ∧ q.ab = r.ab ∧ q.ba = r.ba) ∧
      ∀ p ∈ [r.a, r.b], ∃ l, 1000 * (r.goAt + 10000 + 1000 * r.sent) ≤ l ∧
        Sends t (.frame p 4 64 l false (.loop (s.get F.SYS_STRAP_DEVID) r.run r.sent)) := by
  have hexec : exec .loopFrameLaunch s = .next (sentOne (((s.runTo (r.goAt + 10000 + 1000 * r.sent)).loopLaunch r
      (r.goAt + 10000 + 1000 * r.sent) r.a).loopLaunch r (r.goAt + 10000 + 1000 * r.sent) r.b)) := by
    refine congrArg Host.Outcome.next ?_
    unfold State.loopFrames
    rw [hr]
    exact if_pos (by rw [hrun]; simpa using hleft)
  generalize r.goAt + 10000 + 1000 * r.sent = at_ at hexec ⊢
  have hdev : (s.runTo at_).get F.SYS_STRAP_DEVID = s.get F.SYS_STRAP_DEVID := get_of_regs (regs_runTo s at_) _
  have hloop : (s.runTo at_).eth.loop = some r := by rw [runTo_eq, hr]
  generalize s.runTo at_ = u at hexec hdev hloop ⊢
  have hA := loopLaunch_sent u r at_ ha
  generalize u.loopLaunch r at_ r.a = v at hexec hA
  have hB := loopLaunch_sent v r at_ hb
  generalize v.loopLaunch r at_ r.b = w at hexec hB
  obtain ⟨q, hq, hqs, hqa, hqb⟩ := hA.loop r hloop
  obtain ⟨q', hq', hqs', hqa', hqb'⟩ := hB.loop q hq
  have hone : sentOne w = { w with eth := { w.eth with loop := some { q' with sent := q'.sent + 1 } } } := by
    unfold sentOne
    rw [hq']
  rw [hone] at hexec
  obtain ⟨la, hla, hfa⟩ := hA.frame
  obtain ⟨lb, hlb, hfb⟩ := hB.frame
  rw [hdev] at hfa
  rw [hA.devid, hdev] at hfb
  refine ⟨_, hexec, hB.time.trans hA.time, ⟨_, rfl, by rw [hqs', hqs], hqa'.trans hqa, hqb'.trans hqb⟩, fun p hp => ?_⟩
  rcases List.mem_pair.mp hp with rfl | rfl
  · exact ⟨la, hla, hB.out _ hfa⟩
  · exact ⟨lb, hlb, hfb⟩

/-- Settles O40: the stages of reception in their order, the ends of a pause, and the runs of the loop, with the frames of both ports. -/
theorem receptionAndLoop : Obligations.ReceptionAndLoop :=
  ⟨fun _ _ _ _ _ _ _ h => does_frameReceive h, fun _ _ _ _ hz hrun => does_pauseEnd hz hrun,
    fun _ _ _ _ _ hz hrun hdue => does_pauseWatchdog hz hrun hdue, fun _ hheld => does_loopGo hheld,
    fun _ _ hheld hr ha hb hpa hpb => does_loopAbort hheld hr ha hb hpa hpb,
    fun _ _ hr hleft hrun _ ha hb => does_loopFrameLaunch hr hleft hrun ha hb,
    fun _ _ hr hab hba ha hb => does_loopRunEnd hr hab hba ha hb, fun _ _ hr hmiss hrun ha hb => does_loopTimeout hr hmiss hrun ha hb⟩

end Sys2Proof.Proofs
end
